-- ==== Sys2Proof/Word.lean ====
section
/-! DEFINITION. The word types of the module: bytes, 32-bit and 64-bit words, and the 128-bit word of the
fabric and of the wide registers (R7, R23). -/

namespace Sys2Proof

/-- One byte of memory or of a frame (R23). -/
abbrev Byte := BitVec 8

/-- One 32-bit register word (R7). -/
abbrev W32 := BitVec 32

/-- One 64-bit value: an FRC reading or a rate. -/
abbrev W64 := BitVec 64

/-- One 128-bit register or fabric word (R7, R23). -/
abbrev W128 := BitVec 128

/-- A table of values by number, kept as a list in one canonical form: numbers strictly rising, and no entry
that equals the value an unlisted number has. -/
abbrev NMap (α : Type) := List (Nat × α)

end Sys2Proof
end

