-- ==== Sys2Proof/Syntax.lean ====
section
/-! DEFINITION. The commands the block takes from outside, one constructor for each row of spec/opcode_table.json, with
the operands each carries: what the agent or the outside world supplies at that instant. -/

namespace Sys2Proof

/-- Who makes a fabric access: a master (R29) and, where a virtual function originates the traffic, its number (R21). -/
structure Agent where
  mid : Fin 20
  vf : Option (Fin 64)
  deriving DecidableEq, Repr

/-- The reset sources of R441 that assert for warm reach or wider. -/
inductive ResetSource
  | powerOn | uvz | brownOut | resetN | watchdog (w : Fin 5) | cmpMismatch (p : Fin 4) | le0Mismatch
  | swReq (reach : Nat) | ndmReset | thermal | optionRetry | update
  deriving DecidableEq, Repr

/-- The kind of a fabric access (R26, R28, R317). -/
inductive AccessKind | read | write | fetch | amo
  deriving DecidableEq, Repr

/-- A dictionary requester's transport, as R401 resolves its world. -/
structure Peer where
  link : Nat
  sni : Nat
  deriving DecidableEq, Repr

/-- The size of each bit area of a logic engine, by its code (R149): I, Q, M, TQ, CQ, S. -/
def bitAreaSize (area : Nat) : Nat :=
  match area with
  | 0 => 8192
  | 1 => 8192
  | 2 => 32768
  | 3 => 1024
  | 4 => 512
  | 5 => 32
  | _ => 0

/-- The MACsec tag a frame carried on E0 or E1 (R204). -/
structure SecTag where
  sci : Nat
  an : Nat
  pn : Nat
  deriving DecidableEq, Repr
/-- A frame as a CAN controller receives it (R256): the FRC at its start of frame, its format (0 classical, 1 FD, 2 XL), identifier,
flags, payload, and VCID of an XL frame. -/
structure CanFrame where
  stamp : W64
  fmt : Fin 3
  ide : Bool
  id : BitVec 29
  rtr : Bool
  brs : Bool
  vcid : Byte
  data : List Byte
  deriving DecidableEq, Repr

/-- What the bus showed of a LIN response (R264). -/
inductive LinResult | good | missing | faulty
  deriving DecidableEq, Repr

/-- The atomic operations of the A extension (R375). -/
inductive AmoOp | swap | add | xor | and | or | min | max | minu | maxu
  deriving DecidableEq, Repr

/-- The status of a PCIe completion (R371, R374). -/
inductive CplStatus | success | ur | ca | crs
  deriving DecidableEq, Repr


/-- Where a UDP requester is (R392): its MAC and IP address, whether that is IPv6, its port, and the VID and PCP of its frame. -/
structure UdpEnd where
  ip6 : Bool
  mac : BitVec 48
  addr : BitVec 128
  port : BitVec 16
  tag : Option (BitVec 16)
  deriving DecidableEq, Repr

/-- The transport of a dictionary packet (R391). -/
inductive DdpVia
  | udp (e : UdpEnd)
  | can (l : Fin 16)
  | hat (ch : Fin 2)
  deriving DecidableEq, Repr

/-- A full dictionary packet (R389), with its 8-byte tag where AUTH = 1. -/
structure DdpPacket where
  auth : Bool
  resp : Bool
  cmd : Byte
  dst : BitVec 18
  src : BitVec 18
  session : Byte
  tid : Byte
  object : BitVec 20
  element : Byte
  status : Byte
  type : Byte
  segno : BitVec 16
  data : List Byte
  tag : List Byte
  deriving DecidableEq, Repr

/-- An arriving packet as its transport brings it (R392–R394): an Ethernet frame at port I4 without its FCS, the payload and AF
field of a CAN frame, or the payload of an open-segment frame. -/
inductive DdpArrival
  | frame (bytes : List Byte)
  | can (l : Fin 16) (af : BitVec 32) (bytes : List Byte)
  | hat (ch : Fin 2) (bytes : List Byte)
  deriving DecidableEq, Repr

/-- The types of a tachograph card (R480). -/
inductive CardType | driver | workshop | company | control
  deriving DecidableEq, Repr

/-- What happens at a card slot (R480): a card authenticates, fails to, or is withdrawn. -/
inductive CardEvent
  | inserted (type : CardType) (number : BitVec 128)
  | failed
  | withdrawn
  deriving DecidableEq, Repr

/-- A message of an activation group (R519), without its OP. -/
structure ActMessage where
  member : Fin 16
  status : Byte
  flags : Byte
  package : BitVec 64
  t : BitVec 128
  g : BitVec 32
  staged : BitVec 32
  active : BitVec 32
  deriving DecidableEq, Repr

/-- What a fabric request does (R26, R28, R317): it reads, fetches, writes bytes, or combines memory with an argument. -/
inductive FabricOp
  | read
  | fetch
  | write (data : List Byte)
  | amo (op : AmoOp) (arg : W64)
  deriving DecidableEq, Repr

/-- What rings a doorbell (R207): an occurrence of class 5, or an agent's write of a pair's producer index. -/
inductive Kick
  | occurrence (d : Fin 148)
  | producer (a : Agent) (q : Fin 256) (rx : Bool) (v : W32)
  deriving DecidableEq, Repr

/-- The commands of the block: one constructor for each row of the table of operations and events, in its order. -/
inductive Instr
  /-- REGISTER_WRITE: A write to a register that has no row of its own updates its fields after the owner, reserved-encoding and block checks. (R10) `v` is the whole value written to the register at `addr`. -/
  | registerWrite (a : Agent) (addr : BitVec 40) (v : W128)
  /-- WORD128_LOW_READ: A 32-bit read of the lowest word of a 128-bit register latches the upper three words for that master or VF. (R11) `addr` is the register's. -/
  | word128LowRead (a : Agent) (addr : BitVec 40)
  /-- WORD128_LOWER_WRITE: A 32-bit write of one of the three lower words of a 128-bit register is staged per master and VF. (R12) `addr` is the register's, `k` the word. -/
  | word128LowerWrite (a : Agent) (addr : BitVec 40) (k : Fin 3) (v : W32)
  /-- WORD128_HIGH_WRITE: A write of the highest word of a 128-bit register makes all four words take effect together. (R12) `addr` is the register's. -/
  | word128HighWrite (a : Agent) (addr : BitVec 40) (v : W32)
  /-- FABRIC_ACCESS: A fabric request is checked by the firewall, decoded and served, or answered with an error response. (R28) `ecc`: the memory meets an uncorrectable error. -/
  | fabricAccess (a : Agent) (o : FabricOp) (addr : BitVec 40) (size : Fin 65) (ecc : Bool)
  /-- FABRIC_FENCE: A master's fence completes once every earlier request of that master has received its response. (R22) -/
  | fabricFence (a : Agent)
  /-- FRC_START: The FRC starts counting from zero when the timebase PLL first locks after a cold reset. (R39) -/
  | frcStart
  /-- CRYSTAL_LOST: The clock monitor declares the crystal lost, re-feeds the PLLs from the reference oscillator, forces quality 0 and raises EV0130. (R38) -/
  | crystalLost
  /-- TD_INC_WRITE: A write of TDn_INC re-anchors the domain and loads a new increment without a jump, or is refused with RANGE. (R43) -/
  | tdIncWrite (a : Agent) (n : Fin 8) (v : W128)
  /-- TD_OFS_WRITE: A write of TDn_OFS re-anchors the domain with the written offset. (R43) -/
  | tdOfsWrite (a : Agent) (n : Fin 8) (v : W128)
  /-- TD_STEP_WRITE: A write of TDn_STEP adds a signed step to the domain at its apply tick and raises EV0128 for TD0. (R46) -/
  | tdStepWrite (a : Agent) (n : Fin 8) (v : W128)
  /-- TD_CTL_WRITE: A write of TDn_CTL sets QUAL and SRC, or leaves QUAL at 0 with NOT_NOW while QFORCED is set. (R47) -/
  | tdCtlWrite (a : Agent) (n : Fin 8) (v : W32)
  /-- TIME_SNAP_TAKE: A write of TIME_SNAP.TAKE latches the FRC and all eight domains at one tick. (R50) -/
  | timeSnapTake (a : Agent) (v : W32)
  /-- TIME_CONV: A write of TIME_CONV_IN converts an FRC value into a domain's TV128 for that master or VF. (R51) -/
  | timeConv (a : Agent) (v : W128)
  /-- TIME_MARK_LATCH: A Hatbox time mark arriving at I3 latches its UTC and FRC stamp, sets T1MNEW and raises EV0131. (R49) -/
  | timeMarkLatch (utc : W128)
  /-- TIME_MARK_TIMEOUT: No Hatbox time mark for 2 s while TD1_CTL.SRC = 1 raises EV0132. (R49) -/
  | timeMarkTimeout
  /-- PB_ENABLE: A write of PBn_CTL.EN = 1 checks source, tooth pattern and PX claims and puts the tracker into WAIT, or refuses the enable. (R55) `v` is the word written to PBn_CTL. -/
  | pbEnable (a : Agent) (n : Fin 16) (v : W32)
  /-- PB_DISABLE: A write of PBn_CTL.EN = 0 puts the tracker into OFF and releases its PX inputs. (R57) `v` is the word written to PBn_CTL. -/
  | pbDisable (a : Agent) (n : Fin 16) (v : W32)
  /-- RESYNC: Writing PBn_CTL.RESYNC forces a tracker in SYNCCHK or SYNC into UNSYNC without counting a loss of sync. (R57) `v` is the word written to PBn_CTL. -/
  | pbResync (a : Agent) (n : Fin 16) (v : W32)
  /-- PB_SET_WRITE: A write of PBn_SET sets the tracker's cycle count and advances its generation. (R65) -/
  | pbSetWrite (a : Agent) (n : Fin 16) (v : W128)
  /-- PB_EDGE: An accepted edge on a tracker's input is classified as tooth, gap or missed teeth, updates position, estimate and state. (R59) The edge that waits longest at tracker `n`. -/
  | pbEdge (n : Fin 16)
  /-- MIRROR_RECORD: A per-metre Hatbox mirror record counts as an edge of a mirror base and sets its cycle count to the metre count. (R64) Every enabled mirror base takes it. -/
  | mirrorRecord (metres : Nat)
  /-- PB_STALL_TIMEOUT: No edge for PBn_STALL µs puts a tracker in UNSYNC, SYNCCHK or SYNC into STALLED and raises EV0112 + n. (R63) -/
  | pbStallTimeout (n : Fin 16)
  /-- HOLD_RELEASE: The line extrapolated from the newest edge reaches the held position and the reported position follows it again. (R61) -/
  | holdRelease (n : Fin 16)
  /-- SEQ_WRITE: The WRITE port command checks and stores an event-table entry, replacing or skipping its current occurrence. (R79) The entry number and the words stand in port `w`. -/
  | seqWrite (a : Agent) (w : Fin 5)
  /-- SEQ_READ: The READ port command copies an entry into SEQ_Pw_D0 and SEQ_Pw_D1. (R82) -/
  | seqRead (a : Agent) (w : Fin 5)
  /-- SEQ_CANCEL: The CANCEL port command frees an entry, letting a committed occurrence still fire. (R82) -/
  | seqCancel (a : Agent) (w : Fin 5)
  /-- SEQ_ARM: The run-ahead scanner arms a waiting occurrence whose fire tick lies within the base's look-ahead. (R85) `ecc`: the read of the entry meets an uncorrectable error. -/
  | seqArm (i : Fin 8192) (ecc : Bool)
  /-- SEQ_HANDOFF: At its commit point the sequencer hands an occurrence with its fire tick to its target, which accepts or refuses it. (R84) -/
  | seqHandoff (i : Fin 8192)
  /-- LATE_HANDOFF: A late occurrence with LATE = 1 is handed off at the first free clock with a new fire tick and a kind 3 lead-error record. (R89) -/
  | lateHandoff (i : Fin 8192)
  /-- SEQ_RETIME_PASS: A re-timing pass gives held occurrences new fire ticks from their bases' new estimates, squashing or marking late where needed. (R94) -/
  | seqRetimePass
  /-- SEQ_FIRE: A committed occurrence reaches its fire tick, enters the verify list and records a kind 1 error if its base was corrected meanwhile. (R97) -/
  | seqFire (i : Fin 8192)
  /-- VERIFY_TIMEOUT: A fired occurrence leaves the verify list after 65.536 ms without a record, or the oldest is released unverified when the list is full. (R98) -/
  | verifyTimeout
  /-- SEQ_LERR_READ: A read of the lowest word of SEQ_LERR removes and latches the oldest lead-error record. (R101) -/
  | seqLerrRead (a : Agent)
  /-- SEQ_CLRCNT: Writing SEQ_CTL.CLRCNT clears all SEQ_Bn counters and SEQ_WFCNT. (R101) `v` is the word written to SEQ_CTL. -/
  | seqClrcnt (a : Agent) (v : W32)
  /-- SQO_FIRE: At the fire tick of a class 1 occurrence the sequencer output drives low, high, toggled or high impedance. (R77) -/
  | sqoFire (n : Fin 32)
  /-- DOORBELL_KICK: A class 5 occurrence or producer-index write rings a switch or CAN/LIN DMA doorbell with its value. (R207) -/
  | doorbellKick (k : Kick)
  /-- LS_OFF: The cuff switches a channel off at the action's fire tick, stopping PWM. (R108) The channel's next due action, an off. -/
  | lsOff (n : Fin 48)
  /-- LS_ON: The cuff switches a channel on at 100 % at the action's fire tick, stopping PWM. (R108) The channel's next due action, an on. -/
  | lsOn (n : Fin 48)
  /-- PWM_PERIOD_START: An OP 2 starts a PWM period with the buffered and compensated duty, re-aligning phase and clearing FLYWHEEL. (R110) `vbkMv`: the mean bank voltage over the previous period. -/
  | pwmPeriodStart (n : Fin 48) (vbkMv : Nat)
  /-- LOAD_DUTY: An OP 3 buffers a new duty that takes effect at the next period start. (R108) -/
  | loadDuty (n : Fin 48)
  /-- UNLOCK: Writing CMD.UNLOCK takes a locked-off channel to NORMAL off when its accumulator is at or below REARM, else NOT_NOW. (R123) `v` is the word written to LSC_CHn_CMD. -/
  | lsUnlock (a : Agent) (n : Fin 48) (v : W32)
  /-- CLR: Writing CMD.CLR takes a latched channel to NORMAL off and clears its retry count. (R116) `v` is the word written to LSC_CHn_CMD. -/
  | lsClr (a : Agent) (n : Fin 48) (v : W32)
  /-- PWM_SELF_TIMED_PERIOD: The cuff starts a self-timed PWM period in free-running or flywheel operation, entering FLYWHEEL after 1.5 T without OP 2. (R110) -/
  | pwmSelfTimedPeriod (n : Fin 48) (vbkMv : Nat)
  /-- PWM_ON_TIME_END: The on-time of a PWM period ends and the gate switches off. (R109) -/
  | pwmOnTimeEnd (n : Fin 48)
  /-- LIMIT_ENTER: A channel's current reaches its limit; it enters LIMIT and starts its short-circuit timer. (R114) `ma`: the current measured. -/
  | limitEnter (n : Fin 48) (ma : Nat)
  /-- LIMIT_EXIT: A limiting channel's current falls below 90 % of the limit and it returns to NORMAL. (R114) `ma`: the current measured. -/
  | limitExit (n : Fin 48) (ma : Nat)
  /-- SHORT_CIRCUIT_TIMEOUT: A channel still in LIMIT at TSC switches off with cause OVERCURRENT into RETRY or LATCHED. (R114) -/
  | shortCircuitTimeout (n : Fin 48)
  /-- THERMAL_SHUTDOWN: A junction sensor at 175 °C switches the channel off with cause THERMAL or THERMAL_NEIGHBOUR. (R115) `tj`: the junction sensor in 1/8 °C. -/
  | thermalShutdown (n : Fin 48) (tj : Nat)
  /-- RETRY_EXPIRY: The retry delay ends and a channel still commanded on switches on again. (R116) -/
  | retryExpiry (n : Fin 48)
  /-- RETRY_COUNT_RESET: After 1 s continuously in NORMAL with CMDON = 1 the channel's retry count returns to zero. (R116) -/
  | retryCountReset (n : Fin 48)
  /-- INRUSH_WINDOW_END: A channel's inrush window expires and its limit returns to the normal limit. (R113) -/
  | inrushWindowEnd (n : Fin 48)
  /-- DEMAGNETISATION_END: A clamp demagnetisation ends; the channel enters LOCKOFF if its accumulator passed BUDGET, and SPOVER is checked. (R122) `energyUj`: the clamp energy of this demagnetisation. -/
  | demagnetisationEnd (n : Fin 48) (energyUj : Nat)
  /-- CLAMP_LEAK_TICK: Every 128 µs each clamp-energy accumulator is reduced by its class leak. (R119) -/
  | clampLeakTick (slice : Fin 3)
  /-- DIST_CLEAR: A bank's disturbance flag clears 1.0 ms after its last condition ended, unfreezing compensation and inrush timers. (R125) -/
  | distClear (k : Fin 12)
  /-- BUDGET_TICK: Every 128 µs the cuff filters bank and lug currents and compares them with their budgets. (R127) The summed current and the supply of each bank, the voltage of each lug. -/
  | budgetTick (bankMa : List Nat) (bankMv : List Nat) (lugMv : List Nat)
  /-- SHED_STEP: Every 20 ms while over budget the cuff sheds the highest-priority on channel of the bank or lug. (R127) Banks 0-11, lugs 12-15. -/
  | shedStep (g : Fin 16)
  /-- SOSEL_WRITE: A write of LSC_SOSELm selects the channel whose sense a SENSE_OUT ball carries, after world checks. (R130) -/
  | soselWrite (a : Agent) (m : Fin 4) (v : W32)
  /-- SLICE_SILENCE: A slice declares the zone die silent after 50 µs without link frames or at a system or warm reset, orphaning its channels. (R132) -/
  | sliceSilence (slice : Fin 3)
  /-- HEARTBEAT: A W2 write of LSC_HEART restarts the heartbeat timer. (R132) -/
  | lsHeartbeat (a : Agent)
  /-- HEARTBEAT_MISS: The heartbeat timer expires; the slices declare silence and set HBMISS. (R132) -/
  | heartbeatMiss
  /-- ORPHAN_FALLBACK: A channel still orphaned ODLY × 10 ms after orphaning goes to its OFF, ON or KEEP fallback. (R133) -/
  | orphanFallback (n : Fin 48)
  /-- CUFF_LINK_UP: A cuff link comes up and the LSC block starts reading back the held states. (R135) -/
  | cuffLinkUp (slice : Fin 3)
  /-- HOLD_READBACK_DONE: The held states of a slice have been read back and HOLDVALID is set for it. (R135) -/
  | holdReadbackDone (slice : Fin 3)
  /-- ADOPT: A write of LSC_ADOPT checks channel, world, state and token and adopts the held channel. (R135) `v` is the word written to LSC_ADOPT. -/
  | lsAdopt (a : Agent) (v : W32)
  /-- SAFEOFF: Writing LSC_CTL.SAFEOFF commands every channel off whether adopted or not. (R136) `v` is the word written to LSC_CTL. -/
  | lsSafeoff (a : Agent) (v : W32)
  /-- CUFF_RESET: A W0 write of the key to LSC_CUFFRST switches every channel off, waits for demagnetisation and resets the slices. (R137) `v` is the word written to LSC_CUFFRST. -/
  | cuffReset (a : Agent) (v : W32)
  /-- SLICE_FAULT: A slice's oscillator or self-check fails; it shuts its channels off with CAUSE 9 and raises EV0063. (R138) -/
  | sliceFault (slice : Fin 3)
  /-- LSC_CLRCNT: Writing LSC_CTL.CLRCNT clears every LSC_CHn_CNT. (R139) `v` is the word written to LSC_CTL. -/
  | lscClrcnt (a : Agent) (v : W32)
  /-- LE_CYCLE_START: At a class 4 start fire tick the engine latches its inputs, applies changes and input forces and runs the program, or skips the start. (R144) The engine's next due start. -/
  | leCycleStart (e : Fin 2)
  /-- LE_OUTPUT_COMMIT: At a class 4 commit fire tick the engine forms the commit image with output forces and sinks take it 2,000 ns later. (R145) The engine's next due commit. -/
  | leOutputCommit (e : Fin 2)
  /-- NOP: Logic-engine instruction with no effect. (R155) -/
  | leNop (e : Fin 2)
  /-- LD: Loads a bit operand into RLO. (R155) -/
  | leLd (e : Fin 2) (area : Fin 8) (addr : Fin 32768)
  /-- LDN: Loads the inverse of a bit operand into RLO. (R155) -/
  | leLdn (e : Fin 2) (area : Fin 8) (addr : Fin 32768)
  /-- AND: ANDs a bit operand into RLO. (R155) -/
  | leAnd (e : Fin 2) (area : Fin 8) (addr : Fin 32768)
  /-- ANDN: ANDs the inverse of a bit operand into RLO. (R155) -/
  | leAndn (e : Fin 2) (area : Fin 8) (addr : Fin 32768)
  /-- OR: ORs a bit operand into RLO. (R155) -/
  | leOr (e : Fin 2) (area : Fin 8) (addr : Fin 32768)
  /-- ORN: ORs the inverse of a bit operand into RLO. (R155) -/
  | leOrn (e : Fin 2) (area : Fin 8) (addr : Fin 32768)
  /-- XOR: XORs a bit operand into RLO. (R155) -/
  | leXor (e : Fin 2) (area : Fin 8) (addr : Fin 32768)
  /-- XORN: XORs the inverse of a bit operand into RLO. (R155) -/
  | leXorn (e : Fin 2) (area : Fin 8) (addr : Fin 32768)
  /-- ST: Stores RLO into a bit operand. (R155) -/
  | leSt (e : Fin 2) (area : Fin 8) (addr : Fin 32768)
  /-- STN: Stores the inverse of RLO into a bit operand. (R155) -/
  | leStn (e : Fin 2) (area : Fin 8) (addr : Fin 32768)
  /-- SET: Sets a bit operand when RLO is 1. (R155) -/
  | leSet (e : Fin 2) (area : Fin 8) (addr : Fin 32768)
  /-- RST: Clears a bit operand when RLO is 1. (R155) -/
  | leRst (e : Fin 2) (area : Fin 8) (addr : Fin 32768)
  /-- NOT: Inverts RLO. (R155) -/
  | leNot (e : Fin 2)
  /-- SETR: Sets RLO to 1. (R155) -/
  | leSetr (e : Fin 2)
  /-- CLRR: Sets RLO to 0. (R155) -/
  | leClrr (e : Fin 2)
  /-- PSH: Pushes RLO on the branch stack, or stops the engine with BSTACK_OVER. (R156) -/
  | lePsh (e : Fin 2)
  /-- POPA: Pops the branch stack ANDed into RLO, or stops with BSTACK_UNDER. (R156) -/
  | lePopa (e : Fin 2)
  /-- POPO: Pops the branch stack ORed into RLO, or stops with BSTACK_UNDER. (R156) -/
  | lePopo (e : Fin 2)
  /-- POPX: Pops the branch stack XORed into RLO, or stops with BSTACK_UNDER. (R156) -/
  | lePopx (e : Fin 2)
  /-- REDG: Detects a rising edge of RLO through an edge detector instance. (R161) -/
  | leRedg (e : Fin 2) (ix : Fin 4096)
  /-- FEDG: Detects a falling edge of RLO through an edge detector instance. (R161) -/
  | leFedg (e : Fin 2) (ix : Fin 4096)
  /-- TON: Runs an on-delay timer on RLO in timer time. (R159) -/
  | leTon (e : Fin 2) (ix : Fin 4096)
  /-- TOF: Runs an off-delay timer on RLO in timer time. (R159) -/
  | leTof (e : Fin 2) (ix : Fin 4096)
  /-- TP: Runs a pulse timer on RLO in timer time. (R159) -/
  | leTp (e : Fin 2) (ix : Fin 4096)
  /-- TPS: Sets a timer preset from WA. (R155) -/
  | leTps (e : Fin 2) (ix : Fin 4096)
  /-- TEL: Loads a timer's elapsed time into WA. (R155) -/
  | leTel (e : Fin 2) (ix : Fin 4096)
  /-- CTU: Counts up on a rising RLO and leaves RLO = count ≥ preset. (R160) -/
  | leCtu (e : Fin 2) (ix : Fin 4096)
  /-- CTD: Counts down on a rising RLO and leaves RLO = count ≤ 0. (R160) -/
  | leCtd (e : Fin 2) (ix : Fin 4096)
  /-- CRS: Resets a counter's count when RLO is 1. (R155) -/
  | leCrs (e : Fin 2) (ix : Fin 4096)
  /-- CLD: Loads a counter's preset into its count when RLO is 1. (R155) -/
  | leCld (e : Fin 2) (ix : Fin 4096)
  /-- CVL: Loads a counter's count into WA. (R155) -/
  | leCvl (e : Fin 2) (ix : Fin 4096)
  /-- CPS: Sets a counter preset from WA. (R155) -/
  | leCps (e : Fin 2) (ix : Fin 4096)
  /-- LDW: Loads a word operand into WA. (R155) -/
  | leLdw (e : Fin 2) (l : Fin 8) (src : Fin 4) (u any : Bool) (addr : Fin 4096)
  /-- STW: Stores WA into W memory, except bytes under an input force. (R155) -/
  | leStw (e : Fin 2) (l : Fin 8) (src : Fin 4) (u any : Bool) (addr : Fin 4096)
  /-- ADD: Adds a word operand to WA per lane, wrapping. (R155) -/
  | leAdd (e : Fin 2) (l : Fin 8) (src : Fin 4) (u any : Bool) (addr : Fin 4096)
  /-- SUB: Subtracts a word operand from WA per lane, wrapping. (R155) -/
  | leSub (e : Fin 2) (l : Fin 8) (src : Fin 4) (u any : Bool) (addr : Fin 4096)
  /-- ADDS: Adds per lane with saturation. (R155) -/
  | leAdds (e : Fin 2) (l : Fin 8) (src : Fin 4) (u any : Bool) (addr : Fin 4096)
  /-- SUBS: Subtracts per lane with saturation. (R155) -/
  | leSubs (e : Fin 2) (l : Fin 8) (src : Fin 4) (u any : Bool) (addr : Fin 4096)
  /-- MUL: Multiplies WA by a word operand per lane, keeping the low half. (R155) -/
  | leMul (e : Fin 2) (l : Fin 8) (src : Fin 4) (u any : Bool) (addr : Fin 4096)
  /-- ANDW: Bitwise ANDs a word operand into WA. (R155) -/
  | leAndw (e : Fin 2) (l : Fin 8) (src : Fin 4) (u any : Bool) (addr : Fin 4096)
  /-- ORW: Bitwise ORs a word operand into WA. (R155) -/
  | leOrw (e : Fin 2) (l : Fin 8) (src : Fin 4) (u any : Bool) (addr : Fin 4096)
  /-- XORW: Bitwise XORs a word operand into WA. (R155) -/
  | leXorw (e : Fin 2) (l : Fin 8) (src : Fin 4) (u any : Bool) (addr : Fin 4096)
  /-- SHL: Shifts each lane of WA left. (R155) -/
  | leShl (e : Fin 2) (l : Fin 8) (src : Fin 4) (u any : Bool) (addr : Fin 4096)
  /-- SHR: Shifts each lane of WA right, logically or arithmetically. (R155) -/
  | leShr (e : Fin 2) (l : Fin 8) (src : Fin 4) (u any : Bool) (addr : Fin 4096)
  /-- MIN: Takes the lane minimum into WA. (R155) -/
  | leMin (e : Fin 2) (l : Fin 8) (src : Fin 4) (u any : Bool) (addr : Fin 4096)
  /-- MAX: Takes the lane maximum into WA. (R155) -/
  | leMax (e : Fin 2) (l : Fin 8) (src : Fin 4) (u any : Bool) (addr : Fin 4096)
  /-- CEQ: Sets RLO from a lane-wise equality compare. (R157) -/
  | leCeq (e : Fin 2) (l : Fin 8) (src : Fin 4) (u any : Bool) (addr : Fin 4096)
  /-- CNE: Sets RLO from a lane-wise inequality compare. (R157) -/
  | leCne (e : Fin 2) (l : Fin 8) (src : Fin 4) (u any : Bool) (addr : Fin 4096)
  /-- CLT: Sets RLO from a lane-wise less-than compare. (R157) -/
  | leClt (e : Fin 2) (l : Fin 8) (src : Fin 4) (u any : Bool) (addr : Fin 4096)
  /-- CLE: Sets RLO from a lane-wise less-or-equal compare. (R157) -/
  | leCle (e : Fin 2) (l : Fin 8) (src : Fin 4) (u any : Bool) (addr : Fin 4096)
  /-- CGT: Sets RLO from a lane-wise greater-than compare. (R157) -/
  | leCgt (e : Fin 2) (l : Fin 8) (src : Fin 4) (u any : Bool) (addr : Fin 4096)
  /-- CGE: Sets RLO from a lane-wise greater-or-equal compare. (R157) -/
  | leCge (e : Fin 2) (l : Fin 8) (src : Fin 4) (u any : Bool) (addr : Fin 4096)
  /-- SEL: Loads a word operand into WA when RLO is 1. (R155) -/
  | leSel (e : Fin 2) (l : Fin 8) (src : Fin 4) (u any : Bool) (addr : Fin 4096)
  /-- LDX: Loads the index register from WA. (R155) -/
  | leLdx (e : Fin 2)
  /-- LDS: Loads a system word into WA. (R155) -/
  | leLds (e : Fin 2) (addr : Fin 16)
  /-- JMP: Jumps to a target. (R155) -/
  | leJmp (e : Fin 2) (target : Fin 65536)
  /-- JC: Jumps when RLO is 1. (R155) -/
  | leJc (e : Fin 2) (target : Fin 65536)
  /-- JNC: Jumps when RLO is 0. (R155) -/
  | leJnc (e : Fin 2) (target : Fin 65536)
  /-- CALL: Pushes the return address and jumps, or stops with CALL_OVER. (R156) -/
  | leCall (e : Fin 2) (target : Fin 65536)
  /-- RET: Returns from the call stack, or stops with RET_UNDER. (R156) -/
  | leRet (e : Fin 2)
  /-- END: Ends the cycle and copies the outputs into the pending image, or stops with END_STACK. (R145) -/
  | leEnd (e : Fin 2)
  /-- LE_MODE_RUN: A write of MODE = RUN enters RUN from STOP or HOLD, optionally with INIT. (R162) `v` is the word written to LEn_CTL. -/
  | leModeRun (a : Agent) (e : Fin 2) (v : W32)
  /-- LE_MODE_STOP: A write of MODE = STOP stops the engine at the next start or at once from HOLD. (R162) `v` is the word written to LEn_CTL. -/
  | leModeStop (a : Agent) (e : Fin 2) (v : W32)
  /-- LE_MODE_HOLD: A write of MODE = HOLD holds the engine at the next start, or is refused without DBGEN. (R164) `v` is the word written to LEn_CTL. -/
  | leModeHold (a : Agent) (e : Fin 2) (v : W32)
  /-- STEP: Writing CTL.STEP in HOLD executes one instruction. (R164) `v` is the word written to LEn_CTL. -/
  | leStep (a : Agent) (e : Fin 2) (v : W32)
  /-- SCYC: Writing CTL.SCYC in HOLD takes a snapshot and runs one cycle to END. (R164) `v` is the word written to LEn_CTL. -/
  | leScyc (a : Agent) (e : Fin 2) (v : W32)
  /-- CLRFLT: Writing CTL.CLRFLT in STOP clears FLTSTOP and LEn_FAULT. (R175) `v` is the word written to LEn_CTL. -/
  | leClrflt (a : Agent) (e : Fin 2) (v : W32)
  /-- LE_CLRCNT: Writing CTL.CLRCNT clears LEn_CNT and the largest execution time. (R175) `v` is the word written to LEn_CTL. -/
  | leClrcnt (a : Agent) (e : Fin 2) (v : W32)
  /-- LE_STOPACT_COMMIT: 2,000 ns after entry to STOP with STOPACT = 1 the engine delivers a zeroed commit image with forces. (R163) -/
  | leStopactCommit (e : Fin 2)
  /-- LE_FORCE_DELIVERY: Outside RUN, 2,000 ns after a force change the last commit image with current forces is delivered. (R165) -/
  | leForceDelivery (e : Fin 2)
  /-- LE0_MISMATCH: The LE0 comparator detects a mismatch; LE0 stops with MISMATCH, delivers nothing and raises the mismatch event. (R148) -/
  | le0Mismatch
  /-- LE_ONLINE_CHANGE: A write of the highest word of CHG_DATA queues a single-value change or applies it at once in STOP. (R166) `v` is the completed LEn_CHG_DATA. -/
  | leOnlineChange (a : Agent) (e : Fin 2) (v : W128)
  /-- LE_MEM_READ: A read of the lowest word of MDATA reads the selected space and advances INDEX. (R176) -/
  | leMemRead (a : Agent) (e : Fin 2)
  /-- LE_MEM_WRITE: A completed MDATA write stores into the selected space if writable and advances INDEX. (R176) -/
  | leMemWrite (a : Agent) (e : Fin 2) (v : W128)
  /-- XCHG_GO: Writing LEn_XCHG with GO starts the check of the staging banks. (R171) `v` is the word written to LEn_XCHG. -/
  | xchgGo (a : Agent) (e : Fin 2) (v : W32)
  /-- XCHG_CHECK_DONE: The staging check ends, arming the exchange or refusing it with the first failing status; in STOP it swaps at once. (R171) -/
  | xchgCheckDone (e : Fin 2)
  /-- XCHG_CANCEL: Writing LEn_XCHG.CANCEL disarms a pending exchange before its held cycle. (R171) `v` is the word written to LEn_XCHG. -/
  | xchgCancel (a : Agent) (e : Fin 2) (v : W32)
  /-- LE_ECC: An uncorrectable error in an engine memory stops the engine with cause ECC. (R177) -/
  | leEcc (e : Fin 2)
  /-- ESW_DECISION_POINT: At a frame's 64th byte the switch classifies, looks up, learns, admits and starts cut-through copies. (R185) `frame`: its bytes from the destination address to the last before the FCS, those after the 64th taking effect from the tail on; `stamp`: the FRC at its first bit; `sec`: its MACsec tag; bit e of `plca`: port e holds a PLCA transmit opportunity. Port 21 takes the oldest publication instead. -/
  | eswDecisionPoint (p : Fin 24) (frame : List Byte) (stamp : W64) (sec : Option SecTag) (plca : W32)
  /-- ESW_FRAME_TAIL: At a frame's tail it is judged good or bad; queued copies become eligible or are discarded and cut-through copies are stomped. (R195) What the tail of the frame that arrives on port `p` shows. -/
  | eswFrameTail (p : Fin 24) (fcsOk symOk icvOk eccOk : Bool)
  /-- ESW_TX_SELECT: A free egress port takes the head frame of the highest eligible open class. (R198) -/
  | eswTxSelect (p : Fin 24)
  /-- ESW_TX_END: A copy's transmission ends; its reference is finished, descriptors are written back and cells freed at zero count. (R190) `stamp`: the FRC at the copy's first bit. -/
  | eswTxEnd (p : Fin 24) (stamp : W64)
  /-- ESW_LINK_DOWN: A port loses its link; the frame in transmission is aborted and its queues are emptied as DROPLINK. (R193) -/
  | eswLinkDown (p : Fin 20)
  /-- ESW_LINK_UP: A port's link comes up and EV0192 + p is raised. (R211) -/
  | eswLinkUp (p : Fin 20) (rate : Fin 5) (sqi : Fin 8)
  /-- ESW_TBL_READ: The READ table command reads an entry into ESW_TBL_DATA. (R187) `v` is the word written to ESW_TBL_CMD; `ecc`: the entry read is uncorrectable. -/
  | eswTblRead (a : Agent) (v : W32) (ecc : Bool)
  /-- ESW_TBL_WRITE: The WRITE table command writes an entry from ESW_TBL_DATA. (R187) `v` is the word written to ESW_TBL_CMD. -/
  | eswTblWrite (a : Agent) (v : W32)
  /-- LOOKUP: The LOOKUP table command finds a MAC entry by FID and address. (R188) `v` is the word written to ESW_TBL_CMD. -/
  | eswLookup (a : Agent) (v : W32)
  /-- INSERT: The INSERT table command adds a MAC entry, or is refused with BUSY on a full bucket. (R188) `v` is the word written to ESW_TBL_CMD. -/
  | eswInsert (a : Agent) (v : W32)
  /-- DELETE: The DELETE table command removes a matching MAC entry. (R188) `v` is the word written to ESW_TBL_CMD. -/
  | eswDelete (a : Agent) (v : W32)
  /-- FLUSH: The FLUSH table command removes dynamic MAC entries matching port and FID. (R188) `v` is the word written to ESW_TBL_CMD. -/
  | eswFlush (a : Agent) (v : W32)
  /-- FLUSHDYN: Writing ESW_CTL.FLUSHDYN removes every dynamic MAC entry. (R210) `v` is the word written to ESW_CTL. -/
  | eswFlushdyn (a : Agent) (v : W32)
  /-- ESW_AGE_TICK: Every ESW_AGE seconds dynamic entries with HIT = 0 are removed and HIT is cleared in the others. (R186) -/
  | eswAgeTick
  /-- ESW_GATE_STEP: At a class 3 kind 3 fire tick the port's eight gates take the occurrence's gate state. (R199) The port's next due gate step. -/
  | eswGateStep (p : Fin 20)
  /-- ESW_HQ_TRIGGER: A class 3 kind 2 fire tick releases the waiting TRIG descriptor of a host queue into admission, or counts TRIGMISS. (R207) The pair's next due trigger. -/
  | eswHqTrigger (q : Fin 256)
  /-- ESW_TSFIFO_READ: A read of the lowest word of ESW_Pp_TSFIFO removes the oldest egress stamp. (R203) -/
  | eswTsfifoRead (a : Agent) (p : Fin 20)
  /-- ESW_RECOVERY_RESET: A sequence recovery function seeing no frame for RESET ms resets its history and raises EV0270. (R201) -/
  | eswRecoveryReset (r : Fin 128)
  /-- ESW_PORT_ENABLE: A write of ESW_Pp_CFG.EN = 1 enables the port with its initial gates, or is refused for a Hatband-claimed PHY. (R182) `v` is the word written to ESW_Pp_CFG. -/
  | eswPortEnable (a : Agent) (p : Fin 24) (v : W32)
  /-- ESW_PORT_CLRCNT: Writing ESW_Pp_CFG.CLRCNT clears the port counters. (R210) `v` is the word written to ESW_Pp_CFG. -/
  | eswPortClrcnt (a : Agent) (p : Fin 24) (v : W32)
  /-- HBD_ENABLE: A write of HBD_CTL.EN = 1 checks claims, TD0 source and timing constants and enters LISTEN. (R220) `v` is the word written to HBD_CTL. -/
  | hbdEnable (a : Agent) (v : W32)
  /-- HBD_DISABLE: A write of HBD_CTL.EN = 0 returns the controller to CONFIG after any transmission in progress. (R227) `v` is the word written to HBD_CTL. -/
  | hbdDisable (a : Agent) (v : W32)
  /-- HBD_HALT: Writing HBD_CTL.HALT moves the controller to HALT. (R227) `v` is the word written to HBD_CTL. -/
  | hbdHalt (a : Agent) (v : W32)
  /-- HBD_CLRCNT: Writing HBD_CTL.CLRCNT clears the channel counters. (R243) `v` is the word written to HBD_CTL. -/
  | hbdClrcnt (a : Agent) (v : W32)
  /-- HBD_CYCLE_START: A Hatband cycle starts on TD0; mode changes, integration, cold-start progress and buffer freshness are evaluated. (R217) -/
  | hbdCycleStart
  /-- HBD_SLOT_TRANSMIT: At an own slot's action point the controller sends its frame, NULL or sync frame on the enabled channels. (R219) -/
  | hbdSlotTransmit (slot : Fin 257)
  /-- HBD_BUFFER_COPY: 2 µs before the action point the controller copies the transmit buffer. (R239) `ecc`: 1 where the table entry of the slot is uncorrectable, 2 where its buffer is. -/
  | hbdBufferCopy (slot : Fin 257) (ecc : Fin 3)
  /-- HBD_FRAME_RECEIVE: A received Hatband frame is validated, stored, measured and counted, including own frames. (R223) `start`: the FRC at its start; `frame`: its bytes from FLAGS to CRC as received. -/
  | hbdFrameReceive (ch : Fin 2) (start : W64) (frame : List Byte)
  /-- HBD_STATIC_END: At the end of the static segment the controller computes the correction and rate and offers them, checking missed acknowledgements. (R233) -/
  | hbdStaticEnd
  /-- HBD_CORRACK: A write of HBD_CORRACK acknowledges a correction with the applied step, or is refused with SEQUENCE. (R235) -/
  | hbdCorrack (a : Agent) (v : W128)
  /-- GUARDIAN_MARK: The guardian receives a cycle-start mark and accepts, locks, rejects or re-references it. (R226) `raw`: ns on the guardian's own oscillator since the last accepted mark. -/
  | guardianMark (raw : Nat)
  /-- GUARDIAN_CUT: A guardian window closes during a transmission, truncating the frame and raising EV0392. (R225) -/
  | guardianCut (ch : Fin 2)
  /-- GUARDIAN_FAULT: The guardian's oscillator or self-check fails; both transmitters close and the controller goes to HALT. (R226) -/
  | guardianFault
  /-- HBD_LISTEN_EXPIRY: A cold-start node's listen timer expires; it offers a step, sends a cold-start frame and enters COLDSTART. (R230) -/
  | hbdListenExpiry
  /-- HBD_MINISLOT: At an idle minislot boundary the turn counter advances and the owning node may send one open-segment frame. (R237) The boundary at which minislot `m` begins, with the channel idle. -/
  | hbdMinislot (ch : Fin 2) (m : Fin 256)
  /-- HBD_BUF_COMMIT: Writing HBD_BCTL.COMMIT makes a buffer's staging copy current. (R239) `v` is the word written to HBD_BCTL. -/
  | hbdBufCommit (a : Agent) (v : W32)
  /-- HBD_BUF_TXREQ: Writing HBD_BCTL.TXREQ requests an open-segment transmission of the buffer. (R237) `v` is the word written to HBD_BCTL. -/
  | hbdBufTxreq (a : Agent) (v : W32)
  /-- HBD_BUF_CLR: Writing HBD_BCTL.CLR clears the selected buffer. (R243) `v` is the word written to HBD_BCTL. -/
  | hbdBufClr (a : Agent) (v : W32)
  /-- HBD_MREQ: A write of HBD_MREQ with GO requests a mode change, or is refused. (R242) `v` is the word written to HBD_MREQ. -/
  | hbdMreq (a : Agent) (v : W32)
  /-- HBD_STDATA_WRITE: A write of a slot-table entry is checked against the timing conditions and stored or refused. (R220) -/
  | hbdStdataWrite (a : Agent) (v : W128)
  /-- HBD_MODE_WRITE: A write of a mode descriptor is checked and stored, or refused with BUSY for the current or requested mode. (R241) -/
  | hbdModeWrite (a : Agent) (m : Fin 8) (v : W128)
  /-- CAN_RX_FRAME: A received CAN frame is stamped, filtered into the lowest matching receive object and offered to gateway routes. (R256) A frame received without error. -/
  | canRxFrame (n : Fin 12) (f : CanFrame)
  /-- CAN_ARBITRATION_START: The controller enters arbitration with its winning pending object, copying its current copy and latching a REF stamp. (R254) The bus is free for a start of frame. -/
  | canArbitrationStart (n : Fin 12)
  /-- CAN_TX_COMPLETE: A transmission completes; the object becomes idle with TXDONE and OK, or sends its queued next frame. (R254) -/
  | canTxComplete (n : Fin 12)
  /-- CAN_TX_FAIL: A frame loses arbitration or meets an error and becomes pending again, or idle with TIMEOUT under ONESHOT. (R254) `lec`: the bus error, 0 for lost arbitration; `tec`, `rec`: the error counters after it. -/
  | canTxFail (n : Fin 12) (lec : Fin 7) (tec rec : Fin 256)
  /-- TXREQ: Writing CANn_OCMD.TXREQ makes a transmit object pending, merges or queues, or only commits on a TRIG object. (R253) `v` is the word written to CANn_OCMD, in a VF page to its CAN window. -/
  | canTxreq (a : Agent) (n : Fin 12) (v : W32)
  /-- CAN_TX_TRIGGER: A class 3 kind 0 fire tick makes a transmit object pending. (R253) The object's next due trigger. -/
  | canTxTrigger (n : Fin 12) (o : Fin 128)
  /-- CANCEL: Writing CANn_OCMD.CANCEL withdraws a pending transmission not yet in arbitration, else BUSY. (R255) `v` is the word written to CANn_OCMD, in a VF page to its CAN window. -/
  | canCancel (a : Agent) (n : Fin 12) (v : W32)
  /-- COMMIT: Writing CANn_OCMD.COMMIT makes a transmit object's staging copy current. (R252) `v` is the word written to CANn_OCMD, in a VF page to its CAN window. -/
  | canCommit (a : Agent) (n : Fin 12) (v : W32)
  /-- CLRNEW: Writing CANn_OCMD.CLRNEW clears a receive object's NEW flag. (R265) `v` is the word written to CANn_OCMD, in a VF page to its CAN window. -/
  | canClrnew (a : Agent) (n : Fin 12) (v : W32)
  /-- CAN_DESC_WRITE: A write of an object descriptor is checked for encoding, length and payload area and stored or refused. (R251) `v` is the value written to CANn_ODESC0 or CANn_ODESC1. -/
  | canDescWrite (a : Agent) (n : Fin 12) (word : Fin 2) (v : W128)
  /-- CAN_BUS_OFF: The controller enters bus-off, keeping its pending transmissions. (R250) -/
  | canBusOff (n : Fin 12)
  /-- CAN_RECOVER: Writing CTL.RECOVER starts bus-off recovery. (R250) `v` is the word written to CANn_CTL. -/
  | canRecover (a : Agent) (n : Fin 12) (v : W32)
  /-- CAN_BUSOFF_RECOVERED: After 128 occurrences of 11 recessive bits the controller leaves bus-off. (R250) -/
  | canBusoffRecovered (n : Fin 12)
  /-- CAN_STALE: A receive object with TIMEOUT gets no frame for TIMEOUT ms and is marked STALE. (R256) -/
  | canStale (n : Fin 12) (o : Fin 128)
  /-- CAN_CLRCNT: Writing CANn_CTL.CLRCNT clears CNT and GWCNT. (R265) `v` is the word written to CANn_CTL. -/
  | canClrcnt (a : Agent) (n : Fin 12) (v : W32)
  /-- GW_MAXLAT_EXPIRY: MAXLAT µs after its first message an outbound route sends its open NTSCF frame. (R261) -/
  | gwMaxlatExpiry (n : Fin 12) (r : Fin 8)
  /-- GW_INBOUND_FRAME: An NTSCF frame on an inbound route's stream places its ACF CAN messages into the route's FIFO. (R262) `frame`: its bytes from the destination address on. -/
  | gwInboundFrame (n : Fin 12) (frame : List Byte)
  /-- LIN_SLOT: In FREE mode a schedule slot expires and the commander starts the next entry's header. (R264) -/
  | linSlot (n : Fin 8)
  /-- LIN_TRIGGER: A class 3 kind 1 fire tick starts the header of a schedule entry in TRIGGERED mode. (R264) The entry's next due trigger. -/
  | linTrigger (n : Fin 8) (e : Fin 256)
  /-- LIN_RESPONSE: A LIN response is received or found missing or faulty, setting buffer status and counters. (R264) -/
  | linResponse (n : Fin 8) (r : LinResult) (data : W64)
  /-- LIN_SLEEP: Writing LINn_CTL.SLEEP sends the go-to-sleep command. (R266) `v` is the word written to LINn_CTL. -/
  | linSleep (a : Agent) (n : Fin 8) (v : W32)
  /-- LIN_BUF_COMMIT: Writing LINn_BUFb.COMMIT makes a published buffer's staging copy current. (R263) `v` is the value written to LINn_BUFb. -/
  | linBufCommit (a : Agent) (n : Fin 8) (b : Fin 64) (v : W128)
  /-- LIN_CLRCNT: Writing LINn_CTL.CLRCNT clears the commander's counters. (R266) `v` is the word written to LINn_CTL. -/
  | linClrcnt (a : Agent) (n : Fin 8) (v : W32)
  /-- DIN_FILTER_EXPIRY: A run of differing samples reaches FILT × 100 µs and the filtered state changes, stamped and flagged. (R271) Input `i`: 0–47 DIN, 48–55 LSW, 56–71 WAKE lines; `first`: the FRC of the first sample of the run. -/
  | dinFilterExpiry (i : Fin 72) (first : W64)
  /-- DIN_FAULT_CHANGE: A run of out-of-bounds or in-bounds samples completes and the input becomes faulted or unfaulted. (R272) Input `i`: 0–47 DIN, 48–55 LSW; `first`: the FRC of the first sample of the run. -/
  | dinFaultChange (i : Fin 56) (first : W64)
  /-- DIN_CFG_WRITE: A write of an input's configuration restarts any filter or fault run under the new settings. (R271) Input `i` as for DIN_FILTER_EXPIRY; `v` is the word written to its CFG register. -/
  | dinCfgWrite (a : Agent) (i : Fin 72) (v : W32)
  /-- LSW_POLL: In sleep an LSW's wetting current is pulsed and a change is confirmed by two consecutive polls. (R273) `level`: the level XOR INV at the poll. -/
  | lswPoll (n : Fin 8) (level : Bool)
  /-- AIN_TRIG: A write of AIN_TRIG triggers a conversion sequence 100 ticks later, queued or discarded if busy. (R277) `v` is the word written to AIN_TRIG. -/
  | ainTrig (a : Agent) (v : W32)
  /-- CONVERTER_TRIGGER: A class 2 fire tick starts, queues or discards a conversion sequence. (R277) The converter's next due trigger. -/
  | converterTrigger (k : Fin 2)
  /-- AIN_STEP_DONE: A conversion step finishes; its stamped result is written with limit checks and the next step opens. (R278) `code`: the result; `bad`: the AIN input is faulted. -/
  | ainStepDone (k : Fin 2) (code : Fin 4096) (bad : Bool)
  /-- AIN_SEQ_END: A conversion sequence ends, raising its event and starting any queued trigger. (R278) -/
  | ainSeqEnd (k : Fin 2)
  /-- PX_EDGE: An accepted PX edge is stamped and goes to its tracker and FIFO. (R279) `rise`: the raw level after the edge; `stamp`: the FRC at its threshold crossing. -/
  | pxEdge (n : Fin 16) (rise : Bool) (stamp : W64)
  /-- PX_FIFO_READ: A read of the lowest word of NMW_PXn_FIFO removes the oldest edge. (R279) -/
  | pxFifoRead (a : Agent) (n : Fin 16)
  /-- SEG_ISO_WRITE: A write of NMW_SEGISO isolates or wakes segments, within the writer's claims. (R281) -/
  | segIsoWrite (a : Agent) (v : W128)
  /-- WAKE_SOURCE: A WAKE line or LSW wake source fires, waking the module and segments or starting a wake hold. (R282) A WAKE line (0–15) or LSW (16–23). -/
  | wakeSource (code : Fin 24)
  /-- BUS_WAKE: A bus wake is detected on a sleeping segment and wakes the module and that segment, or is counted as SUPP. (R282) The segment's wake detection fires. -/
  | busWake (seg : Fin 42)
  /-- SLEEP_TIMER_WAKE: The sleep timer expires in sleep and wakes the module. (R282) -/
  | sleepTimerWake
  /-- SLEEP_VOTE: A world writes its NMW_VOTE bit, possibly releasing the last hold into READY or returning to AWAKE. (R283) `v` is the word written to NMW_VOTE. -/
  | sleepVote (a : Agent) (v : W32)
  /-- READY_TIMEOUT: No keep-awake message for TREADY ms moves the sleep state to PREPARE. (R283) -/
  | readyTimeout
  /-- KEEP_AWAKE_MESSAGE: A matching keep-awake frame restarts the READY timer or returns PREPARE to READY, and is logged. (R284) A frame with a good CRC or FCS: `id` its CAN identifier, EtherType or Hatband slot ID; `sender` the Hatband SENDER. -/
  | keepAwakeMessage (seg : Fin 42) (id sender : Nat) (payload : List Byte)
  /-- GUARD_WINDOW_OPEN: At C − 2.0 ms the module sends go-to-sleep on LIN and starts the Ethernet sleep handshake. (R285) -/
  | guardWindowOpen
  /-- SLEEP_COMMIT: At the commit point the module enters ENTRY, segments sleep, slices record sleep tokens and the image is flushed. (R303) `backlog`: the mirror's backlog in KiB. -/
  | sleepCommit (backlog : Nat)
  /-- SLEEP_ENTERED: The PMU reports sleep entered; a wake latched in the guard window starts the wake cycle at once. (R303) -/
  | sleepEntered
  /-- WAKE_HOLD_EXPIRY: A wake hold ends unvalidated, counting a false wake and possibly inhibiting the source. (R286) -/
  | wakeHoldExpiry
  /-- WAKE_VALIDATE: Writing NMW_SLP_CTL.VALID validates the running wake hold. (R286) `v` is the word written to NMW_SLP_CTL. -/
  | wakeValidate (a : Agent) (v : W32)
  /-- KACLR: Writing NMW_SLP_CTL.KACLR empties the keep-awake log. (R287) `v` is the word written to NMW_SLP_CTL. -/
  | kaclr (a : Agent) (v : W32)
  /-- OV_ENTER: VBAT above 36.0 V for 10 µs sets PMU_STAT.OV and raises EV0450. (R299) `vbat`: VBAT in 10 mV once the filter time has passed. -/
  | ovEnter (vbat : BitVec 16)
  /-- UVZ_ENTER: VBAT below 5.8 V for 20 µs holds the zone die in system reset and turns the rails off. (R297) `vbat`: VBAT in 10 mV once the filter time has passed. -/
  | uvzEnter (vbat : BitVec 16)
  /-- UVZ_EXIT: VBAT rises above 6.0 V and the rail sequence restarts the zone die. (R297) `vbat`: VBAT in 10 mV; `bad` as for RESET_RELEASE. -/
  | uvzExit (vbat : BitVec 16) (bad : BitVec 5)
  /-- UVH_ENTER: VBAT below 4.5 V for 10 µs turns every gate off and stops the timebase. (R298) `vbat`: VBAT in 10 mV once the filter time has passed. -/
  | uvhEnter (vbat : BitVec 16)
  /-- UVH_EXIT: VBAT rises above 4.7 V; held-on channels switch on again and the FRC is carried. (R298) `vbat`: VBAT in 10 mV; `ns`: what the sleep counter measured of the gap. -/
  | uvhExit (vbat : BitVec 16) (ns : Nat)
  /-- POWER_ON_RESET: VBAT below 4.0 V for more than 1 ms asserts a cold reset, resetting the cuff and the FRC. (R441) `vbat`: VBAT in 10 mV after more than 1 ms. -/
  | powerOnReset (vbat : BitVec 16)
  /-- RAIL_BROWNOUT: A rail outside its window for 10 µs causes a brown-out reset of system reach. (R296) `rail`: its index in the order of R296. -/
  | railBrownout (rail : Fin 9)
  /-- IMAGE_REBUILD: After a system reset the save agent finishes rebuilding the retention image from the blocks. (R302) -/
  | imageRebuild
  /-- RESUME: A wake from SLEEP brings the rails up, checks and restores the image, compares sleep tokens and releases the cores. (R304) `ns`: what the sleep counter measured; `good`: the image read back passes its CRC-32 and carries the sealed generation; `bad` as for RESET_RELEASE, for a fall-back. -/
  | resume (ns : Nat) (good : Bool) (bad : BitVec 5)
  /-- DEEP_ENTRY: The DTMR or PARKLOW condition passes the module from SLEEP into DEEP, switching channels off. (R306) `below`: for how many ns without a break VBAT has stayed below PARKLOW. -/
  | deepEntry (below : Nat)
  /-- DEEP_WAKE: A wake from DEEP starts the module at system reach with the FRC carried. (R306) `ns`: what the sleep counter measured; `bad` as for RESET_RELEASE. -/
  | deepWake (ns : Nat) (bad : BitVec 5)
  /-- VBAK_CHANGEOVER: VHBX changes over between VBAT and VBAK as VBAT crosses 4.5 V. (R307) `backup`: from VBAT to VBAK. -/
  | vbakChangeover (backup : Bool)
  /-- VBAK_LOW: VBAK falls below 2.2 V, setting VBAKLOW and raising EV0459. (R308) `mv`: VBAK in mV. -/
  | vbakLow (mv : BitVec 16)
  /-- TWARN_ENTER: The zone die exceeds TWARN; EV0454 is raised and the core clock may drop to 0.8 GHz. (R309) `temp`: the zone die in °C, signed. -/
  | twarnEnter (temp : BitVec 10)
  /-- TWARN_EXIT: The zone die falls below TWARN − 5 °C and the core clock returns to 1.6 GHz. (R309) `temp`: the zone die in °C, signed. -/
  | twarnExit (temp : BitVec 10)
  /-- THERMAL_RESET: The zone die reaches 125 °C, or the supply die 150 °C, holding the zone die at system reach. (R309) `temp`: the zone die, or with `supply` the supply die, in °C, signed. -/
  | thermalReset (supply : Bool) (temp : BitVec 10)
  /-- BASEPLATE_OVERTEMP: The baseplate exceeds 105 °C and EV0457 is raised. (R309) `temp`: the baseplate in °C, signed. -/
  | baseplateOvertemp (temp : BitVec 10)
  /-- POWER_REPORT_TICK: Every 1 ms PMU_PWR reports mean dissipation and PWROVER is checked against PMU_PWRLIM. (R310) The means of the last 100 ms in mW; VBAT in 10 mV, VBAK in mV, and the temperatures as PMU_TEMP 31:2 shows them. -/
  | powerReportTick (zone stage supply : W32) (vbat vbak : BitVec 16) (temps : BitVec 30)
  /-- CLRMIN: Writing PMU_CTL.CLRMIN sets VMIN to VBAT. (R311) `v` is the word written to PMU_CTL. -/
  | clrmin (a : Agent) (v : W32)
  /-- PMU_CLRCNT: Writing PMU_CTL.CLRCNT clears PMU_CNT. (R311) `v` is the word written to PMU_CTL. -/
  | pmuClrcnt (a : Agent) (v : W32)
  /-- IMPRECISE_STORE_FAULT: An error response to an already retired store raises an imprecise access fault and EV0532 + c. (R318) Core `k`'s retired store to `addr` met an error response with that status. -/
  | impreciseStoreFault (k : Fin 8) (addr : BitVec 40) (status : Byte)
  /-- DIRTY_LINE_ECC: An uncorrectable error in a dirty cache line makes accesses fault and raises EV0524 + c. (R319) -/
  | dirtyLineEcc (k : Fin 8)
  /-- PAIR_MISMATCH: A mitten comparator lane differs; the output buffer is discarded, the gate closed, the twins halted and the record written. (R327) `lane`: the lowest differing lane; `nlanes`: how many differ; `pc`: the leading core's oldest unretired PC. -/
  | pairMismatch (p : Fin 4) (lane nlanes : Fin 4096) (pc : BitVec 36)
  /-- CMP_INJECT: A W2 write of CMP_Pp_INJ with GO injects a one-clock difference into one lane. (R331) `v` is the word written to CMP_Pp_INJ. -/
  | cmpInject (a : Agent) (p : Fin 4) (v : W32)
  /-- CMP_INJECT_RESULT: An injected difference is reported and counted, or its absence is handled as a mismatch with INJFAIL. (R331) `caught`: the injected difference was reported in its lane; `pc` as for PAIR_MISMATCH. -/
  | cmpInjectResult (p : Fin 4) (caught : Bool) (pc : BitVec 36)
  /-- CMP_MMCLR: Writing CMP_Pp_MMCLR empties the mismatch record. (R337) `v` is the word written to CMP_Pp_MMCLR. -/
  | cmpMmclr (a : Agent) (p : Fin 4) (v : W32)
  /-- CMP_CLRCNT: Writing CMP_CTL.CLRCNT clears every CMP_Cc_ECC. (R337) `v` is the word written to CMP_CTL. -/
  | cmpClrcnt (a : Agent) (v : W32)
  /-- EVR_RAISE: A write of EVR_RAISE raises a software event of a claimed group. (R336) `v` is the word written to EVR_RAISE. -/
  | evrRaise (a : Agent) (v : W32)
  /-- EVR_ACK: A write of EVR_ACK by the owning world clears an event's PEND. (R334) `v` is the word written to EVR_ACK. -/
  | evrAck (a : Agent) (v : W32)
  /-- SFE_DEFINE: The DEFINE command gives a function its world and pool ranges. (R346) `v` is the word written to SFE_CMD. -/
  | sfeDefine (a : Agent) (v : W32)
  /-- SFE_START: The START command makes a defined VF ACTIVE. (R346) `v` is the word written to SFE_CMD. -/
  | sfeStart (a : Agent) (v : W32)
  /-- QUIESCE: The QUIESCE command closes a VF's data path and lets its in-flight work drain. (R352) `v` is the word written to SFE_CMD. -/
  | quiesce (a : Agent) (v : W32)
  /-- SFE_QUIESCED: Every unit reports idle for a quiescing VF; it becomes QUIESCED and EV0576 is raised. (R352) -/
  | sfeQuiesced (f : Fin 64)
  /-- SFE_QUIESCE_TIMEOUT: QTO expires during a quiesce; EV0578 is raised and the status becomes TIMEOUT. (R353) -/
  | sfeQuiesceTimeout (f : Fin 64)
  /-- SFE_RESUME: The RESUME command makes a quiesced VF ACTIVE and sends its pending vectors. (R346) `v` is the word written to SFE_CMD. -/
  | sfeResume (a : Agent) (v : W32)
  /-- FORCE: The FORCE command ends a quiescing VF's crypto and dictionary operations after QTO. (R353) `v` is the word written to SFE_CMD. -/
  | force (a : Agent) (v : W32)
  /-- SFE_RESET: The RESET command applies a partition reset to a VF. (R357) `v` is the word written to SFE_CMD. -/
  | sfeReset (a : Agent) (v : W32)
  /-- UNDEFINE: The UNDEFINE command frees a defined VF and its ranges. (R346) `v` is the word written to SFE_CMD. -/
  | undefine (a : Agent) (v : W32)
  /-- SAVE: The SAVE command starts writing a quiesced VF's state record. (R356) `v` is the word written to SFE_CMD. -/
  | save (a : Agent) (v : W32)
  /-- SAVE_DONE: The state record has been written and EV0576 is raised. (R356) -/
  | saveDone
  /-- RESTORE: The RESTORE command starts loading a state record into a VF. (R356) `v` is the word written to SFE_CMD. -/
  | restore (a : Agent) (v : W32)
  /-- RESTORE_DONE: The record has been checked and loaded, or refused, and EV0576 is raised. (R356) -/
  | restoreDone
  /-- DIRTYSYNC: The DIRTYSYNC command empties a VF's dirty-page filter and advances its epoch. (R354) `v` is the word written to SFE_CMD. -/
  | dirtysync (a : Agent) (v : W32)
  /-- SFE_INVAL: The INVAL command invalidates a function's cached translations. (R350) `v` is the word written to SFE_CMD. -/
  | sfeInval (a : Agent) (v : W32)
  /-- VF_DMA_ACCESS: A unit's memory access for a VF is translated, dirty-logged and issued under the VF's tag. (R349) A unit reads `size` bytes, or writes `data`, for VF `f` at a guest physical address. -/
  | vfDmaAccess (mid : Fin 20) (f : Fin 64) (addr : BitVec 50) (size : Fin 4097) (data : Option (List Byte))
  /-- VF_VECTOR_RAISE: A VF vector is raised and sent as an MSI, or kept pending until enabled. (R351) -/
  | vfVectorRaise (f : Fin 64) (v : Fin 64)
  /-- SFE_STATE_ECC: An uncorrectable error in SFE state sends the function into QUIESCING and raises EV0584. (R359) -/
  | sfeStateEcc (f : Fin 64)
  /-- BRG_OUTBOUND_REQUEST: A fabric access to an outbound window is translated, swapped, split and sent posted or non-posted. (R370) A read of `size` bytes, or a write of `data`; `ecc`: its place in the bridge's buffers is uncorrectable. -/
  | brgOutboundRequest (a : Agent) (addr : BitVec 40) (size : Fin 65) (data : Option (List Byte)) (ecc : Bool)
  /-- BRG_COMPLETION: A far completion answers a non-posted request or flush read and releases its place. (R370) `id`: the outstanding request; `data`: the bytes a read brings. -/
  | brgCompletion (id : Nat) (st : CplStatus) (data : List Byte)
  /-- BRG_FLUSH_TRIGGER: 16 unconfirmed posted writes or 2 µs since the last one make the bridge issue a flush read on the window. (R371) -/
  | brgFlushTrigger (w : Fin 32)
  /-- BRG_ERROR_MESSAGE: A received error message starts a Header Log read of the far function. (R371) -/
  | brgErrorMessage (farId : BitVec 16)
  /-- BRG_HEADER_LOG_DONE: A Header Log read completes and fails the named posted write, or logs an unattributed failure. (R371) The oldest Header Log read ends: `addr` its address; `ca`: Completer Abort, otherwise Unsupported Request. -/
  | brgHeaderLogDone (addr : W64) (ca : Bool)
  /-- BRG_FLUSH_COMPLETE: A flush read completes and its covered posted writes are confirmed or failed. (R371) -/
  | brgFlushComplete (w : Fin 32) (st : CplStatus)
  /-- BRG_COMPLETION_TIMEOUT: A flush read's completion does not arrive within CTO and its covered writes fail with CTO. (R371) -/
  | brgCompletionTimeout (w : Fin 32)
  /-- BRG_LINK_DOWN: The PCIe link goes down; outstanding non-posted requests get errors and unconfirmed writes fail as LINKDOWN. (R364) -/
  | brgLinkDown
  /-- BRG_LINK_UP: The PCIe link comes up and EV0640 is raised. (R379) -/
  | brgLinkUp (width : Fin 3) (speed : Fin 4)
  /-- BRG_FENCE: A read of BRG_FENCE flushes the initiator's windows and returns once its posted writes are settled. (R373) -/
  | brgFence (a : Agent)
  /-- BRG_ELOGPOP: A write of BRG_ELOGPOP removes the oldest error-log entry. (R372) -/
  | brgElogpop (a : Agent) (v : W32)
  /-- BRG_INBOUND_REQUEST: An inbound PCIe request is mapped through its window and issued on the fabric, or rejected. (R366) A read of `size` bytes, or a write of `data`, by the far function `farId`; `ecc`: its place in the bridge's buffers is uncorrectable. -/
  | brgInboundRequest (farId : BitVec 16) (addr : W64) (size : Fin 513) (data : Option (List Byte)) (ecc : Bool)
  /-- BRG_AMO: An AMO to a lock window performs a locked read, write and Unlock on the far bus. (R375) `wide`: 8 bytes, otherwise 4. -/
  | brgAmo (a : Agent) (op : AmoOp) (addr : BitVec 40) (wide : Bool) (arg : W64)
  /-- BRG_LR: An LR to a lock window takes the far-bus lock and a reservation for its holder. (R375) `wide`: 8 bytes, otherwise 4. -/
  | brgLr (a : Agent) (addr : BitVec 40) (wide : Bool)
  /-- BRG_SC: An SC writes and unlocks for the holder's reservation, or fails returning 1. (R375) `wide`: 8 bytes, otherwise 4. -/
  | brgSc (a : Agent) (addr : BitVec 40) (wide : Bool) (arg : W64)
  /-- BRG_LOCK_EXPIRY: The far-bus lock lease expires; Unlock is sent and the reservation cleared. (R376) -/
  | brgLockExpiry
  /-- BRG_POLL_READ: Every PERIOD µs an enabled poll entry reads its far address. (R377) -/
  | brgPollRead (i : Fin 16)
  /-- BRG_POLL_COMPLETE: A poll read completes; a masked change updates LAST and raises EV0656 + i, or a failure counts ERR. (R377) -/
  | brgPollComplete (i : Fin 16) (ok : Bool) (v : W32)
  /-- BRG_CFG_REQUEST: A write of BRG_CFGDATA issues a configuration request in the root role. (R363) `v` is the word written to BRG_CFGDATA. -/
  | brgCfgRequest (a : Agent) (v : W32)
  /-- HOTRST: Writing BRG_CTL.HOTRST sends a hot reset in the root role. (R378) `v` is the word written to BRG_CTL. -/
  | brgHotrst (a : Agent) (v : W32)
  /-- BRG_WINDOW_ENABLE: A write of a window's EN = 1 checks its range and encodings and enables it or refuses. (R367) `v` is the word written to the window's CTL. -/
  | brgWindowEnable (a : Agent) (inbound : Bool) (w : Fin 32) (v : W32)
  /-- BRG_CLRCNT: Writing BRG_CTL.CLRCNT clears BRG_CNT and the poll ERR counts. (R378) `v` is the word written to BRG_CTL. -/
  | brgClrcnt (a : Agent) (v : W32)
  /-- DDP_PACKET: An arriving DDP packet is checked for form, address, authentication and rights before its command runs. (R387) A packet arrives over a transport. -/
  | ddpPacket (x : DdpArrival)
  /-- READ: The READ command returns one element's value. (R396) A READ request; the command code of the packet is READ. -/
  | ddpRead (via : DdpVia) (p : DdpPacket)
  /-- WRITE: The WRITE command writes one element's value atomically. (R396) A WRITE request. -/
  | ddpWrite (via : DdpVia) (p : DdpPacket)
  /-- DESC: The DESC command returns an element's descriptor or its default, minimum or maximum. (R384) A DESC request. -/
  | ddpDesc (via : DdpVia) (p : DdpPacket)
  /-- DWRITE: The DWRITE command opens a segmented write transfer and returns CREDIT. (R397) A DWRITE request. -/
  | ddpDwrite (via : DdpVia) (p : DdpPacket)
  /-- DREAD: The DREAD command opens a segmented read transfer and returns length and CREDIT. (R397) A DREAD request. -/
  | ddpDread (via : DdpVia) (p : DdpPacket)
  /-- DDP_SEGMENT: A continuation segment of a transfer is received in order, discarded as duplicate or answered with SEQUENCE. (R398) A continuation segment; `ecc`: the engine's memory of it is uncorrectable. -/
  | ddpSegment (via : DdpVia) (tid : Byte) (segno : BitVec 16) (last : Bool) (data : List Byte) (ecc : Bool)
  /-- DACK: A DACK acknowledges segments and lets the sender continue or resume. (R398) A DACK. -/
  | ddpDack (via : DdpVia) (p : DdpPacket)
  /-- DEND: The DEND command checks the transfer's CRC, applies a staged write and releases the context. (R397) A DEND, or the response to the engine's DEND. -/
  | ddpDend (via : DdpVia) (p : DdpPacket)
  /-- ABORT: A received ABORT ends a transfer at once. (R398) An ABORT. -/
  | ddpAbort (via : DdpVia) (p : DdpPacket)
  /-- OPEN: The OPEN command creates an authenticated session with a derived key. (R402) An OPEN request. -/
  | ddpOpen (via : DdpVia) (p : DdpPacket)
  /-- CLOSE: The CLOSE command ends a session. (R402) A CLOSE request. -/
  | ddpClose (via : DdpVia) (p : DdpPacket)
  /-- DDP_TRANSFER_TIMEOUT: A transfer sees no packet for STO ms and is aborted with TIMEOUT. (R398) STO ms without a packet of transfer x. -/
  | ddpTransferTimeout (x : Fin 16)
  /-- DDP_SESSION_EXPIRY: A session lease expires, ending the session and aborting its transfers. (R402) The lease of a session ends. -/
  | ddpSessionExpiry (n : Fin 64)
  /-- DDP_FWQ_ANSWER: A write of DDP_FWQw_CI answers every firmware request record before it. (R405) A write of DDP_FWQ(w+1)_CI. -/
  | ddpFwqAnswer (a : Agent) (w : Fin 4) (v : W32)
  /-- DDP_FW_TIMEOUT: A firmware request unanswered within FWTO ms is answered with TIMEOUT. (R405) FWTO ms without an answer of world w+1. -/
  | ddpFwTimeout (w : Fin 4)
  /-- SES_GO: A write of SES_GO starts a local dictionary request. (R406) A write of SES_GO of local session n of the agent's function. -/
  | sesGo (a : Agent) (n : Fin 64) (v : W32)
  /-- DDP_ARP: An ARP request or IPv6 neighbour solicitation for the module's address is answered. (R392) An ARP request or a neighbour solicitation at port I4, without FCS. -/
  | ddpArp (frame : List Byte)
  /-- DDP_CLRCNT: Writing DDP_CTL.CLRCNT clears DDP_CNT0 and DDP_CNT1. (R410) A write of DDP_CTL with CLRCNT = 1. -/
  | ddpClrcnt (a : Agent) (v : W32)
  /-- KEY_GENERATION: First-start generation of the crown secret and identity key completes and is committed. (R415) -/
  | keyGeneration
  /-- TRNG_HEALTH_FAIL: A TRNG health test fails, setting TRNGFAIL and refusing random-drawing operations. (R417) -/
  | trngHealthFail
  /-- GCM_ENC: Session operation that encrypts with AES-GCM and writes a tag. (R429) A write of CSES_GO of local session `ses`, whose CSES_OP names this operation. -/
  | gcmEnc (a : Agent) (ses : Fin 128)
  /-- GCM_DEC: Session operation that decrypts with AES-GCM and checks the tag. (R429) A write of CSES_GO. -/
  | gcmDec (a : Agent) (ses : Fin 128)
  /-- CMAC_GEN: Session operation that computes an AES-CMAC tag. (R429) A write of CSES_GO. -/
  | cmacGen (a : Agent) (ses : Fin 128)
  /-- CMAC_VER: Session operation that verifies an AES-CMAC tag. (R429) A write of CSES_GO. -/
  | cmacVer (a : Agent) (ses : Fin 128)
  /-- SHA512: Session operation that computes a SHA-512 digest. (R429) A write of CSES_GO. -/
  | sha512 (a : Agent) (ses : Fin 128)
  /-- RSA_SIGN: Session operation that makes an RSASSA-PSS signature. (R429) A write of CSES_GO. -/
  | rsaSign (a : Agent) (ses : Fin 128)
  /-- RSA_VER: Session operation that verifies an RSASSA-PSS signature. (R429) A write of CSES_GO. -/
  | rsaVer (a : Agent) (ses : Fin 128)
  /-- DERIVE: Session operation that derives a key into a new slot of the tree. (R420) A write of CSES_GO. -/
  | derive (a : Agent) (ses : Fin 128)
  /-- UNWRAP: Session operation that imports KWP-wrapped key material into a new slot. (R421) A write of CSES_GO. -/
  | unwrap (a : Agent) (ses : Fin 128)
  /-- LOADPUB: Session operation that loads an RSA public modulus into a new slot. (R419) A write of CSES_GO. -/
  | loadpub (a : Agent) (ses : Fin 128)
  /-- RANDOM: Session operation that writes DRBG output. (R429) A write of CSES_GO. -/
  | random (a : Agent) (ses : Fin 128)
  /-- ATTEST: Session operation that writes a signed attestation report. (R431) A write of CSES_GO. -/
  | attest (a : Agent) (ses : Fin 128)
  /-- MEXTEND: Session operation that extends a measurement register. (R430) A write of CSES_GO. -/
  | mextend (a : Agent) (ses : Fin 128)
  /-- KEY_HOLD: Session operation that takes a lease on a key slot. (R425) A write of CSES_GO with OP = HOLD and REL = 0. -/
  | keyHold (a : Agent) (ses : Fin 128)
  /-- KEY_REL: The HOLD operation with REL = 1 releases a slot hold. (R425) A write of CSES_GO with OP = HOLD and REL = 1. -/
  | keyRel (a : Agent) (ses : Fin 128)
  /-- KEY_INVAL: Invalidation of a slot through a session or KEY_INVAL revokes it and orphans its descendants in one clock. (R426) A write of CSES_GO of session `ses` whose CSES_OP names INVAL and its slot, or of KEY_INVAL with `slot`. -/
  | keyInval (a : Agent) (ses : Option (Fin 128)) (slot : Fin 1024)
  /-- KEY_OP_START: An engine takes an accepted operation from its queue, rechecks the key and loads it. (R424) `e`: 0 and 1 AES, 2 hash, 3 RSA, 4 DRBG. -/
  | keyOpStart (e : Fin 5)
  /-- KEY_OP_COMPLETE: A started operation completes, flagging DURING if its key was invalidated meanwhile. (R427) `e`: 0 and 1 AES, 2 hash, 3 RSA, 4 DRBG. -/
  | keyOpComplete (e : Fin 5)
  /-- KEY_ZEROISE: A revoked or orphaned slot is zeroised when no operation runs on it and becomes DEAD. (R428) -/
  | keyZeroise (slot : Fin 1024)
  /-- KEY_HOLD_EXPIRY: A key-slot hold expires and EV0744 is raised. (R425) -/
  | keyHoldExpiry (slot : Fin 1024)
  /-- ADVANCE: The ADVANCE life-cycle command moves BLANK to PROVISIONED or PROVISIONED to FIELD. (R432) `v` is the word written to KEY_LC. -/
  | advance (a : Agent) (v : W32)
  /-- TOKEN: The TOKEN life-cycle command checks a signed token and changes state or opens debug worlds. (R433) `v` is the word written to KEY_LC. -/
  | token (a : Agent) (v : W32)
  /-- DECOMMISSION: The DECOMMISSION command moves RETURNED to DECOMMISSIONED. (R432) `v` is the word written to KEY_LC. -/
  | decommission (a : Agent) (v : W32)
  /-- RETURNED_ZEROISE: After entry to RETURNED every slot, the public-key store and KEY_AUTHHASH are zeroised. (R434) -/
  | returnedZeroise
  /-- KEY_AUTHHASH_WRITE: W1 writes KEY_AUTHHASH once in PROVISIONED, refused once non-zero. (R433) Word `k` of KEY_AUTHHASH. -/
  | keyAuthhashWrite (a : Agent) (k : Fin 4) (v : W128)
  /-- KEY_ARRAY_ECC: An uncorrectable error in the key array zeroises the affected slot as DEAD. (R437) -/
  | keyArrayEcc (slot : Fin 1024)
  /-- KEY_CLRCNT: Writing KEY_CTL.CLRCNT clears KEY_CNT. (R436) `v` is the word written to KEY_CTL. -/
  | keyClrcnt (a : Agent) (v : W32)
  /-- RESET_ASSERT: A reset source asserts, opening or widening an episode and setting its cause bit. (R442) The reach of a software request is 2 or 3. -/
  | resetAssert (src : ResetSource)
  /-- RESET_RELEASE: The last asserted source releases and the release sequence of the latched reach starts. (R445) `bad`: the comparators whose test fails in the release sequence: pairs 0-3, LE0 4. -/
  | resetRelease (src : ResetSource) (bad : BitVec 5)
  /-- OPTION_LOAD: An option-load attempt completes, putting every option into effect or failing and asserting a retry or the safe defaults. (R451) `mv0` to `mv3`: the four measurements of the strap in mV; `ecc`: an uncorrectable eMRAM error. -/
  | optionLoad (mv0 mv1 mv2 mv3 : Nat) (ecc : Bool)
  /-- BOOT_ROM_CHECK: The boot ROM checks the stage-1 banks and jumps to a valid one or waits with no valid bank. (R455) -/
  | bootRomCheck
  /-- DRAM_TRAINED: LPDDR5 training completes during the system release sequence. (R445) -/
  | dramTrained
  /-- PARTITION_RESET: A partition reset of a pair, engine or VF runs and completes, recording RST_PLAST. (R444) `target` as RST_PLAST codes it; `bad`: the comparator test of a pair fails. -/
  | partitionReset (target : Fin 128) (bad : Bool)
  /-- WATCHDOG_KICK: A write of RST_WDTw_KICK from its world restarts the watchdog. (R466) -/
  | watchdogKick (a : Agent) (w : Fin 5)
  /-- WATCHDOG_HALF: Half a watchdog timeout passes without a kick and EV0486 + w is raised. (R466) -/
  | watchdogHalf (w : Fin 5)
  /-- WATCHDOG_EXPIRY: A watchdog expires and asserts its reset source with its configured reach. (R466) -/
  | watchdogExpiry (w : Fin 5)
  /-- RST_SWREQ: A write of RST_SWREQ with the key requests a reset of the given reach and target, or is refused. (R467) `v` is the word written to RST_SWREQ. -/
  | rstSwreq (a : Agent) (v : W32)
  /-- PROT_SEAL: A W0 write of RST_SEAL.SEAL seals the protection set-up and hands over to the worlds. (R464) `v` is the word written to RST_SEAL. -/
  | protSeal (a : Agent) (v : W32)
  /-- RST_FLOOR_WRITE: A write of RST_FLOOR raises the SECVER fuse floor within 1 ms, or is refused. (R460) -/
  | rstFloorWrite (a : Agent) (v : W32)
  /-- RST_BKHASH_WRITE: W0 fuses a boot-key hash slot once. (R460) `v`: the slot's bytes, the first lowest. -/
  | rstBkhashWrite (a : Agent) (k : Fin 4) (v : BitVec 512)
  /-- RST_BKREV_WRITE: A write of RST_BKREV permanently revokes a boot-key slot, refused if none would remain. (R460) -/
  | rstBkrevWrite (a : Agent) (v : W32)
  /-- OPTSRC_FUSE: W0 fuses OPTSRC once in BLANK. (R450) `v` is the word written to RST_OPT. -/
  | optsrcFuse (a : Agent) (v : W32)
  /-- DEBUG_HALT: The debug module halts an open-world hart or mitten. (R468) -/
  | debugHalt (k : Fin 8)
  /-- DEBUG_RESUME: The debug module resumes a halted hart. (R468) -/
  | debugResume (k : Fin 8)
  /-- DEBUG_STEP: The debug module single-steps a halted hart. (R468) -/
  | debugStep (k : Fin 8)
  /-- DEBUG_ABSTRACT_COMMAND: The debug module executes an abstract command or program buffer on a halted hart. (R468) The hart reads `size` bytes at `addr`, or writes `data`. -/
  | debugAbstractCommand (k : Fin 8) (addr : BitVec 40) (size : Fin 17) (data : Option W128)
  /-- NDMRESET: ndmreset asserts a system-reach reset while debug is open for W0 or W1. (R468) -/
  | ndmreset
  /-- HARTRESET: hartreset asserts a partition reset of the hart's pair while debug is open for its world. (R468) -/
  | hartreset (k : Fin 8) (on : Bool)
  /-- HBX_PULSE: An accepted motion-sensor pulse advances the Hatbox tracker by 4,096/PPR ticks. (R481) `width`: the pulse's length in ns. -/
  | hbxPulse (width : Nat)
  /-- METRE_REGISTRATION: The tracker passes the next metre; the odometer, day and toll distances advance and a mirror record is sent. (R482) -/
  | metreRegistration
  /-- HBX_STANDBY_ENTRY: Seam down 2 s and no pulse for 10 s put the Hatbox into STANDBY after sealing. (R478) -/
  | hbxStandbyEntry
  /-- HBX_ACTIVE_WAKE: A pulse, link, card, magnetometer or RTC event wakes the Hatbox to ACTIVE, recording latched events. (R478) -/
  | hbxActiveWake
  /-- HBX_SENSOR_PROBE: Every 30 s in STANDBY the Hatbox powers the motion sensor for 5 ms to look for pulses. (R478) `pulse`: a pulse is seen in the 5 ms. -/
  | hbxSensorProbe (pulse : Bool)
  /-- HBX_OFF: VHBX leaves regulation and the Hatbox stops. (R479) -/
  | hbxOff
  /-- HBX_POWER_RETURN: The Hatbox starts from OFF with TIMEVALID = 0 and writes a POWER record. (R479) -/
  | hbxPowerReturn
  /-- HBX_PPS: A GNSS PPS edge with a valid fix lets the Hatbox slew, step or reject its RTC. (R486) `err`: the RTC's measured error against the edge in ns. -/
  | hbxPps (err : Int)
  /-- HBX_NMEA: An RMC or GGA sentence updates the Hatbox's GNSS fix state. (R485) `rmc`: status A; `gga`: satellites of a fix (0 no fix); the sentence's position. -/
  | hbxNmea (rmc : Option Bool) (gga : Option Nat) (lat lon : BitVec 32)
  /-- HBX_TIME_MARK: 200 µs after each second the Hatbox sends a time mark over the Seam. (R487) -/
  | hbxTimeMark
  /-- SEAL_RECORD: After 60 s, 255 unsealed records, before STANDBY or after a download, the Hatbox writes a signed SEAL record. (R490) -/
  | sealRecord
  /-- HBX_STATUS_TICK: Every 60 s in ACTIVE a STATUS record is written. (R489) -/
  | hbxStatusTick
  /-- HBX_MIDNIGHT: At UTC midnight a DAY record is written. (R489) -/
  | hbxMidnight
  /-- HBX_CARD: A card is inserted or withdrawn and authenticated, writing a CARD or tamper record. (R480) -/
  | hbxCard (slot : Fin 2) (ev : CardEvent)
  /-- HBX_TAMPER: A tamper condition begins or ends, writing a TAMPER record and possibly entering BROKEN. (R499) A condition that the Hatbox's sensors find; `vals`: the measured values. -/
  | hbxTamper (code : Fin 16) (isBegin : Bool) (vals : List Nat)
  /-- HBX_GNSS_WINDOW: A GNSS window closes at 500 m and pulse distance is compared for DIST_GNSS. (R500) `dg`: the GNSS track distance of the window in mm. -/
  | hbxGnssWindow (dg : Nat)
  /-- HBX_SPEED_SECOND: Each whole second the pulse speed is compared with WHEEL_SPEED for DIST_WHEEL. (R500) -/
  | hbxSpeedSecond
  /-- HBX_LOCKSTEP_MISMATCH: A Hatbox lockstep mismatch resets the Hatbox alone, which then writes a FAULT record. (R476) -/
  | hbxLockstepMismatch
  /-- HBX_RECORD_PUSH: The Hatbox pushes a written record over the Seam in SEQ order when the Seam is up. (R492) -/
  | hbxRecordPush
  /-- SEAM_RECORD_RECEIVE: The SEAM block checks an arriving record for gaps, type and length and writes it to its ring. (R492) `ecc`: an uncorrectable error in the SEAM buffers. -/
  | seamRecordReceive (ecc : Bool)
  /-- PING: Seam command returning the Hatbox life-cycle state. (R494) `v` is the word written to SEAM_Pw_CMD. -/
  | ping (a : Agent) (w : Fin 5) (v : W32)
  /-- GET_SWID: Seam command returning the software identification. (R494) `v` is the word written to SEAM_Pw_CMD. -/
  | getSwid (a : Agent) (w : Fin 5) (v : W32)
  /-- GET_STATUS: Seam command returning the STATUS body. (R494) `v` is the word written to SEAM_Pw_CMD. -/
  | getStatus (a : Agent) (w : Fin 5) (v : W32)
  /-- RESEND: Seam command re-pushing a range of recent records. (R494) `v` is the word written to SEAM_Pw_CMD. -/
  | resend (a : Agent) (w : Fin 5) (v : W32)
  /-- ACTIVITY: Seam command setting a driver activity with a card in the slot. (R494) `v` is the word written to SEAM_Pw_CMD. -/
  | activity (a : Agent) (w : Fin 5) (v : W32)
  /-- MANUAL_ENTRY: Seam command storing manual activity entries after card insertion. (R494) `v` is the word written to SEAM_Pw_CMD. -/
  | manualEntry (a : Agent) (w : Fin 5) (v : W32)
  /-- WHEEL_SPEED: Seam command giving a speed used only for plausibility. (R494) `v` is the word written to SEAM_Pw_CMD. -/
  | wheelSpeed (a : Agent) (w : Fin 5) (v : W32)
  /-- TIMEREF: Seam command giving TD0 for the RTC rate check. (R494) `v` is the word written to SEAM_Pw_CMD. -/
  | timeref (a : Agent) (w : Fin 5) (v : W32)
  /-- TOLL_CONTEXT: Seam command storing toll context as an INPUT record. (R494) `v` is the word written to SEAM_Pw_CMD. -/
  | tollContext (a : Agent) (w : Fin 5) (v : W32)
  /-- DOWNLOAD: Seam command re-pushing a record range under company, control or workshop card authority. (R494) `v` is the word written to SEAM_Pw_CMD. -/
  | download (a : Agent) (w : Fin 5) (v : W32)
  /-- CALIBRATE: Seam command setting KCAL, PPR, TOLLDIST and VIN under a workshop card. (R494) `v` is the word written to SEAM_Pw_CMD. -/
  | calibrate (a : Agent) (w : Fin 5) (v : W32)
  /-- TIME_ADJUST: Seam command setting the RTC under a workshop card. (R486) `v` is the word written to SEAM_Pw_CMD. -/
  | timeAdjust (a : Agent) (w : Fin 5) (v : W32)
  /-- FW_BEGIN: Seam command starting a Hatbox firmware load after signature and signer checks. (R497) `v` is the word written to SEAM_Pw_CMD. -/
  | fwBegin (a : Agent) (w : Fin 5) (v : W32)
  /-- FW_SEGMENT: Seam command writing a firmware segment into the inactive bank in order. (R497) `v` is the word written to SEAM_Pw_CMD. -/
  | fwSegment (a : Agent) (w : Fin 5) (v : W32)
  /-- FW_COMMIT: Seam command checking the new bank and restarting the Hatbox on it. (R497) `v` is the word written to SEAM_Pw_CMD. -/
  | fwCommit (a : Agent) (w : Fin 5) (v : W32)
  /-- SEAL: Seam command sealing the Hatbox life cycle and fusing the metrology key hash. (R496) `v` is the word written to SEAM_Pw_CMD. -/
  | seal (a : Agent) (w : Fin 5) (v : W32)
  /-- SEAM_RESPONSE: A Hatbox response with a waiting TAG completes the port's command, or is counted as STRAY. (R495) -/
  | seamResponse
  /-- SEAM_COMMAND_TIMEOUT: No response within the command's limit; the port returns TIMEOUT and EV0773 is raised. (R495) -/
  | seamCommandTimeout
  /-- SEAM_LINK_CHANGE: The Seam link changes state and EV0778 is raised. (R503) -/
  | seamLinkChange (up : Bool)
  /-- SEAM_CLRCNT: Writing SEAM_CTL.CLRCNT clears SEAM_CNT. (R502) `v` is the word written to SEAM_CTL. -/
  | seamClrcnt (a : Agent) (v : W32)
  /-- UPD_MANIFEST: At the manifest's DEND the agent checks it and enters STAGING, or refuses it. (R512) `bytes`: the manifest as written to 0x0_C800:0. -/
  | updManifest (bytes : List Byte)
  /-- UPD_SEGMENT: A segment's last byte arrives; it is hashed, stored and marked in the bitmap, or discarded. (R513) `bytes`: segment `i` as written to 0x0_C801:0. -/
  | updSegment (i : Fin 1536) (bytes : List Byte)
  /-- UPD_RELAY: The agent relays its manifest and verified segments to each enabled neighbour. (R514) `bitmap`: the neighbour's segment bitmap as the agent has read it; `st`: the status that the neighbour's DEND returns for the next write; `ecc`: the segment to send is uncorrectable in its bank. -/
  | updRelay (k : Fin 8) (bitmap : BitVec 1536) (st : Byte) (ecc : Bool)
  /-- UPD_RELAY_RETRY: 1 s after a failed relay transfer the agent retries from the neighbour's bitmap, stopping after 8 failures. (R515) -/
  | updRelayRetry (k : Fin 8)
  /-- ACTIVATE: UPD_CMD ACTIVATE starts an activation at T and sends PREPARE to every member. (R519) `v` is the word written to UPD_CMD. -/
  | updActivate (a : Agent) (v : W32)
  /-- CONFIRM: UPD_CMD CONFIRM ends TRIAL and returns the journal to IDLE. (R524) `v` is the word written to UPD_CMD. -/
  | updConfirm (a : Agent) (v : W32)
  /-- DISCARD: UPD_CMD DISCARD returns STAGING or STAGED to IDLE and clears the bitmap. (R513) `v` is the word written to UPD_CMD. -/
  | updDiscard (a : Agent) (v : W32)
  /-- ROLLBACK: UPD_CMD ROLLBACK, or a rollback cause in TRIAL, undoes the installations and asserts a warm reset. (R525) `v` is the word written to UPD_CMD. -/
  | updRollback (a : Agent) (v : W32)
  /-- UPD_CMD_CANCEL: UPD_CMD CANCEL at the coordinator cancels the activation like a NOTREADY. (R521) `v` is the word written to UPD_CMD. -/
  | updCmdCancel (a : Agent) (v : W32)
  /-- ACT_PREPARE: A member receiving PREPARE answers READY and becomes PREPARED, or answers NOTREADY. (R520) `from_`: the coordinator's SNI. -/
  | actPrepare (from_ : BitVec 18) (m : ActMessage)
  /-- ACT_READY: The coordinator records a member's READY. (R521) -/
  | actReady (m : ActMessage)
  /-- ACT_NOTREADY: A NOTREADY before T − G makes the coordinator cancel the activation. (R521) -/
  | actNotready (m : ActMessage)
  /-- ACT_CANCEL: A member receiving CANCEL before its commit acknowledges and returns to STAGED, else answers NOT_NOW. (R521) -/
  | actCancel (m : ActMessage)
  /-- ACT_CANCELACK: The coordinator records a member's cancel acknowledgement. (R521) -/
  | actCancelack (m : ActMessage)
  /-- ACT_DONE: The coordinator records a member's DONE and flags a split on a differing version. (R523) -/
  | actDone (m : ActMessage)
  /-- UPD_GUARD_CHECK: At T − G the coordinator checks every READY and peer rule and cancels if any fails. (R521) -/
  | updGuardCheck
  /-- UPD_CANCEL_REPEAT: Every G/8 the coordinator repeats CANCEL to members that have not acknowledged. (R521) -/
  | updCancelRepeat
  /-- UPD_COMMIT: At T − G/2 a PREPARED member commits and installs its components. (R522) -/
  | updCommit
  /-- UPD_ACTIVATION_INSTANT: At Ta after the first LE commit at or after T the agent asserts a warm reset with cause UPDATE. (R523) -/
  | updActivationInstant
  /-- UPD_CONFIRM_TIMEOUT: TCONF expires in TRIAL and the agent rolls back. (R525) -/
  | updConfirmTimeout
  /-- UPD_CLRCNT: Writing UPD_CTL.CLRCNT clears UPD_CNT. (R527) `v` is the word written to UPD_CTL. -/
  | updClrcnt (a : Agent) (v : W32)
  /-- CREDIT_WAIT_LIMIT: A transaction waits in class k beyond CLM_CWLIMk; a record is written, EV0840 + k raised and a lease possibly revoked. (R536) A transaction of `a` has waited `us` microseconds in class `k` at a waiting point of unit `unit`; `lease`: kind and index of the lease over the awaited resource. -/
  | creditWaitLimit (k : Fin 5) (unit : Byte) (a : Agent) (us : Nat) (lease : Option (Fin 4 × Fin 1024))
  /-- CLM_CONF_READ: A read of the lowest word of CLM_CONF removes the oldest conflict record. (R541) -/
  | clmConfRead (a : Agent)
  /-- CLM_LOCK_ACQUIRE: A read of CLM_LOCKi acquires or renews the lock, or returns BUSY with the holder. (R543) -/
  | clmLockAcquire (a : Agent) (i : Fin 64)
  /-- CLM_LOCK_RELEASE: A write of CLM_LOCKi by the holder releases the lock; others are ignored with EV0838. (R543) -/
  | clmLockRelease (a : Agent) (i : Fin 64)
  /-- CLM_LOCK_EXPIRY: A CLM lock lease expires, freeing the lock and raising EV0835. (R543) -/
  | clmLockExpiry (i : Fin 64)
  /-- CLM_REVOKE: A W2 write of CLM_REVOKE, or an automatic cause, starts revocation by closing the holder's isolation gate. (R544) `v` is the word written to CLM_REVOKE. -/
  | clmRevoke (a : Agent) (v : W32)
  /-- REVOCATION_DONE: The holder's traffic has drained; the resource is freed, EV0836 raised and the next queued revocation starts. (R544) -/
  | revocationDone
  /-- CLM_DRAIN_LIMIT: A revocation drain passes CLM_DRAINLIM; remaining responses are discarded and EV0837 raised. (R544) -/
  | clmDrainLimit
  /-- CLM_ISOCLR: A W2 write of CLM_ISOCLR reopens an isolation gate. (R545) `v` is the word written to CLM_ISOCLR. -/
  | clmIsoclr (a : Agent) (v : W32)
  /-- CLM_CLRCNT: Writing CLM_CTL.CLRCNT clears CLM_CNT. (R547) `v` is the word written to CLM_CTL. -/
  | clmClrcnt (a : Agent) (v : W32)
  /-- THERMAL_RECOVERY: A channel switched off for temperature sees its junction sensor read below 160 °C, so it may leave its thermal off state and take a pending retry. (R115) `tj`: the junction sensor in 1/8 °C. -/
  | thermalRecovery (n : Fin 48) (tj : Nat)
  /-- HATBAND_PHY_FAULT: The PHY of Hatband channel A or B becomes ready or fails, changing HBD_STAT.LINKA or LINKB and raising EV0398 or EV0399. (R244) -/
  | hatbandPhyFault (ch : Fin 2) (ready : Bool)
  /-- LIN_WAKEUP_PULSE: A commander sees a LIN wake-up pulse while its segment is awake, sets LINn_STAT.WAKE and raises EV0376 + n. (R267) -/
  | linWakeupPulse (n : Fin 8)
  /-- HOST_FRAME_FETCHED: The switch DMA finishes fetching a host transmit frame whole into the cell buffer, and the frame then enters admission. (R193) `memErr`: the fetch meets an uncorrectable error. -/
  | hostFrameFetched (q : Fin 256) (memErr : Bool)
  /-- HBX_IDKEY_GENERATED: The Hatbox finishes generating its identity key pair at its first start in UNSEALED, which takes up to 90 s. (R491) -/
  | hbxIdkeyGenerated
  deriving DecidableEq, Repr

end Sys2Proof
end

