-- ==== Sys2Proof/Decode.lean ====
section
/-! DEFINITION. Words that spell a command. The module is commanded through its registers, its fabric, its links and its
pins; its table of commands gives no row any bits, so no word spells a command. -/

namespace Sys2Proof

/-- The command that a word of `nbits` bits spells by the table's bits: none, whatever the word. -/
def decodeTableWord (_nbits _w : Nat) : Option Instr := none

end Sys2Proof
end

