-- ==== Sys2Proof/Machine/Map.lean ====
section
/-! DEFINITION. Reading and writing the tables of the state (`NMap`): one value for every number, the default
wherever nothing is listed. -/

namespace Sys2Proof.Machine

/-- The value of number `a`: the first listed entry, or the default `d`. -/
def look {α : Type} (d : α) (m : NMap α) (a : Nat) : α :=
  match m with
  | [] => d
  | (k, v) :: t => if a = k then v else look d t a

/-- Remove number `a`. -/
def del {α : Type} (m : NMap α) (a : Nat) : NMap α :=
  match m with
  | [] => []
  | (k, v) :: t => if a = k then del t a else (k, v) :: del t a

/-- List `x` at number `a`, in order. -/
def ins {α : Type} (m : NMap α) (a : Nat) (x : α) : NMap α :=
  match m with
  | [] => [(a, x)]
  | (k, v) :: t =>
    if a < k then (a, x) :: (k, v) :: t
    else if a = k then (a, x) :: t
    else (k, v) :: ins t a x

/-- Write `x` at number `a`; writing the default removes the entry, so that equal tables are equal lists. -/
def put {α : Type} [DecidableEq α] (d : α) (m : NMap α) (a : Nat) (x : α) : NMap α :=
  if x = d then del m a else ins m a x

/-- Change the value at number `a` by `f`. -/
def upd {α : Type} [DecidableEq α] (d : α) (m : NMap α) (a : Nat) (f : α → α) : NMap α :=
  put d m a (f (look d m a))

/-- Every listed number is above `a`. -/
def allAbove {α : Type} (a : Nat) : NMap α → Bool
  | [] => true
  | (k, _) :: t => decide (a < k) && allAbove a t

/-- The canonical form: numbers strictly rising, no entry equal to the default. -/
def canonical {α : Type} [DecidableEq α] (d : α) : NMap α → Bool
  | [] => true
  | (k, v) :: t => decide (v ≠ d) && allAbove k t && canonical d t

/-- Apply `f` to numbers `0` … `n - 1` in turn. -/
def forAll {σ : Type} (n : Nat) (f : Nat → σ → σ) (s : σ) : σ :=
  (List.range n).foldl (fun t i => f i t) s

/-- Apply `f` to each member of a list in turn. -/
def forEach {α σ : Type} (l : List α) (f : α → σ → σ) (s : σ) : σ :=
  l.foldl (fun t a => f a t) s

end Sys2Proof.Machine
end

