-- ==== Sys2Proof/Machine/State.lean ====
section
/-! DEFINITION. The state of the module as plain data: every register by its address, and every piece of state the
spec gives the module beside its registers, block by block; the memory; and the commands that wait. The default of each
field is its value after reset. -/

namespace Sys2Proof.Machine

/-! ### The fabric (R11, R12, R21–R28) -/

/-- A fabric response as the issuing master receives it (R24, R26, R28). -/
structure Resp where
  err : Bool := false
  data : Nat := 0
  deriving DecidableEq, Repr

/-- The three lower words of a 128-bit register that an agent has staged (R12). -/
structure Staged where
  w0 : Option W32 := none
  w1 : Option W32 := none
  w2 : Option W32 := none
  deriving DecidableEq, Repr

/-- The fabric's own state: the last response of each agent, the read latches of R11 and the staged words of R12 by
agent and register, and the masters whose fence waits for earlier responses (R22). -/
structure Fabric where
  resp : NMap Resp := []
  latches : NMap (Option W128) := []
  staged : NMap Staged := []
  fences : List Nat := []
  deriving DecidableEq, Repr

/-! ### Time domains and position bases (R40–R73) -/

/-- An accepted edge on its way to a tracker: its FRC stamp, the level of the direction input at that instant, and the
metre count a mirror record carries (R62, R64). -/
structure EdgeIn where
  stamp : Nat
  dirHigh : Bool := false
  metres : Option Nat := none
  deriving DecidableEq, Repr

/-- The part of a position tracker that no register shows (R55–R67): the position at the last edge (also the frozen or
held position), the intervals in the estimate with the pitches each spans (newest first), the position a hold keeps, teeth
missed since the last reference tooth, the FRC ticks of the last generation advance and of the last `PBn_SET` write, and the
edges waiting. -/
structure Tracker where
  pe : Nat := 0
  ring : List (Nat × Nat) := []
  heldPos : Option Nat := none
  missedSinceRef : Nat := 0
  genAt : Option Nat := none
  setAt : Option Nat := none
  edges : List EdgeIn := []
  deriving DecidableEq, Repr

/-- Time (R38–R51): the FRC of the last tick, whether it has started and whether the timebase is stopped, the FRC of the last Hatbox mark, each agent's
conversion input and result, and the trackers. -/
structure TimeBlk where
  frc : Nat := 0
  started : Bool := false
  stopped : Bool := false
  lastMark : Option Nat := none
  convIn : NMap Nat := []
  convOut : NMap Nat := []
  trackers : NMap Tracker := []
  deriving DecidableEq, Repr

/-! ### Event sequencer (R74–R104) -/

/-- The state of an event-table entry (R75). -/
inductive EntrySt | free | waiting | armed | committed | done | fault
  deriving DecidableEq, Repr

/-- An event-table entry (R75) with its current occurrence: the fire tick of an armed or committed occurrence, whether
it is held from hand-off for a re-timing pass (R93) or late (R89), the content that takes over after a committed
occurrence (R81), and whether the entry becomes free after it (R82). -/
structure SeqEntry where
  pos : Nat := 0
  owner : Nat := 0
  cls : Nat := 0
  base : Nat := 0
  late : Bool := false
  dir : Bool := false
  target : Nat := 0
  arg : Nat := 0
  period : Nat := 0
  rcnt : Nat := 0
  tag : Nat := 0
  gen : Nat := 0
  st : EntrySt := .free
  fire : Nat := 0
  held : Bool := false
  lateOcc : Bool := false
  nextWords : Option (W128 × W128) := none
  freeAfter : Bool := false
  deriving DecidableEq, Repr

/-- An action that the sequencer has handed to its target (R84), or that another block has given the same target: it is
carried out at its fire tick. `cls`, `target` and `arg` are as R76 and R77 give them; `seqEntry` names the entry it came from,
`le` the logic engine. -/
structure Action where
  fire : Nat
  cls : Nat
  target : Nat
  arg : Nat
  seqEntry : Option Nat := none
  le : Option Nat := none
  deriving DecidableEq, Repr

/-- A fired occurrence in the verify list (R98). -/
structure VerifyItem where
  entry : Nat
  base : Nat
  cls : Nat
  pos : Nat
  fire : Nat
  prevEdge : Nat
  prevPos : Nat
  deriving DecidableEq, Repr

/-- The sequencer (R74–R104): the event table, the handed-over actions, the verify list (oldest first), the lead-error
ring (oldest first), the bases whose occurrences wait for a re-timing pass, the bases that advanced again during it, and the
level that each sequencer output last drove and drives now (R77). -/
structure SeqBlk where
  entries : NMap SeqEntry := []
  acts : List Action := []
  verify : List VerifyItem := []
  lerr : List W128 := []
  retime : List Nat := []
  sqoLast : NMap Bool := []
  sqoDrive : NMap (Option Bool) := []
  deriving DecidableEq, Repr

/-! ### Load switch channels and the cuff (R105–R142) -/

/-- What the cuff holds for a channel beside its registers (R108–R133): whether it runs PWM, the fire tick of the OP 2 from
which the next one measures *T*, the start of the running period and the end of its on-time (FRC ticks), whether the next
period start is the first after off; the end of the inrush window or, while it is paused, what remains of it; the start of the
short-circuit timer, the instant of the next retry, the instant since which the channel is in NORMAL and commanded on, the
ends of its last LIMIT and of its last switch-off for overcurrent or temperature and of its last protection switch-off, and its
orphaning (all in the model's ns); whether it stays off for temperature (R115); and the µJ of lifetime energy below one joule. -/
structure LsChan where
  pwm : Bool := false
  prevOp2 : Option Nat := none
  lastStart : Nat := 0
  onEnd : Option Nat := none
  afterOff : Bool := true
  irEnd : Option Nat := none
  irRemain : Option Nat := none
  scStart : Option Nat := none
  retryAt : Option Nat := none
  normalSince : Option Nat := none
  limEnd : Option Nat := none
  distOff : Option Nat := none
  protOff : Option Nat := none
  orphanAt : Nat := 0
  hot : Bool := false
  lifeUj : Nat := 0
  deriving DecidableEq, Repr

/-- The cuff (R127–R138): its channels, the orphan policy taken over at the last PROT_SEAL (delay, heartbeat timeout and fallback
codes, R133), the heartbeat deadline, slices shut down for a fault, events that wait for a link, each agent's adoption result,
banks whose supply is below 5.50 V and the end of that, the last summed bank currents in mA, and the filtered bank and lug
currents in µA. -/
structure LscBlk where
  chans : NMap LsChan := []
  policy : Option (Nat × Nat × Nat) := none
  heartbeat : Option Nat := none
  sliceFault : NMap Bool := []
  silenceDue : Bool := false
  fallbackDue : Bool := false
  adoptRes : NMap Nat := []
  vbkLow : NMap Bool := []
  vbkLowEnd : NMap (Option Nat) := []
  bankMa : NMap Nat := []
  bankFilt : NMap Nat := []
  lugFilt : NMap Nat := []
  deriving DecidableEq, Repr

/-! ### Logic engines (R143–R180) -/

/-- A timer (R159): its start stamp in timer time, preset in ns, RUNNING, output, and the input memory of TP. -/
structure LeTimer where
  stamp : Nat := 0
  preset : Nat := 0
  running : Bool := false
  q : Bool := false
  input : Bool := false
  deriving DecidableEq, Repr

/-- A counter (R160): count, preset, the input memories of both directions, and the CQ bit. -/
structure LeCounter where
  count : Int := 0
  preset : Int := 0
  up : Bool := false
  down : Bool := false
  q : Bool := false
  deriving DecidableEq, Repr

/-- An edge detector (R161). -/
structure LeEdge where
  prev : Bool := false
  fresh : Bool := true
  deriving DecidableEq, Repr

/-- One bank of program, image map, constant pool and link table, in the 128-bit units of the memory port (R170, R176). -/
structure LeBank where
  prog : NMap W128 := []
  map : NMap W128 := []
  k : NMap W128 := []
  link : NMap W128 := []
  deriving DecidableEq, Repr

/-- An online change (R166): area, address, byte mask and value. -/
structure LeChange where
  area : Nat
  addr : Nat
  mask : Nat
  data : W128
  deriving DecidableEq, Repr

/-- What the program works on (R149, R155): program counter, accumulators, index register, stacks (top first), the image,
the instances, the system bits and words, the bytes of W under an input force of this cycle (R168), and the instructions
executed in this cycle. -/
structure LeCpu where
  pc : Nat := 0
  rlo : Bool := false
  wa : W128 := 0
  x : Nat := 0
  bstack : List Bool := []
  cstack : List Nat := []
  i : NMap Bool := []
  q : NMap Bool := []
  m : NMap Bool := []
  w : NMap W128 := []
  timers : NMap LeTimer := []
  counters : NMap LeCounter := []
  edges : NMap LeEdge := []
  sysBits : Nat := 0
  sysWords : NMap W128 := []
  forced : NMap Nat := []
  executed : Nat := 0
  deriving DecidableEq, Repr

/-- A staging check that runs (R171): LAST, and the cycle number of ATCYC where it is set. -/
structure LeCheck where
  last : Nat
  atCycle : Option Nat
  mid : Nat
  vf : Option Nat
  deriving DecidableEq, Repr

/-- Bytes a commit gives a Hatband buffer or CAN object at tick `due` (R145, R153). -/
structure LeBytes where
  due : Nat
  kind : Nat
  index : Nat
  data : List Nat
  deriving DecidableEq, Repr

/-- A logic engine beside its registers: the processor; its two banks; the pending image (R145), the last commit image and
the image it was formed from; the value last delivered for each bit or lane of an output entry (R153); the force table (two
units an entry, R167); the online changes that wait; the staging check, and the cycle number from which an armed exchange
waits; whether staging was written since the last exchange and the LAST of the last GO (R158); the tick of the last start not
skipped and of the entry to HOLD (as a TD0 projection); whether END executed since the last commit, the overruns in
succession, whether the last commit was one; FIRST, INIT and XDONE for the next cycle; whether SCYC runs a cycle; the old link
table for the commit of a held cycle (R172); the bytes on their way to byte sinks; the ticks of the STOPACT commit and of the
force deliveries; and partition reset. -/
structure LeEngine where
  cpu : LeCpu := {}
  active : LeBank := {}
  staging : LeBank := {}
  pendQ : NMap Bool := []
  pendW : NMap W128 := []
  baseQ : NMap Bool := []
  baseW : NMap W128 := []
  commitQ : NMap Bool := []
  commitW : NMap W128 := []
  delivered : NMap (Option Nat) := []
  forces : NMap W128 := []
  changes : List LeChange := []
  check : Option LeCheck := none
  armedAt : Nat := 0
  newStaging : Bool := false
  last : Nat := 0
  lastStart : Option Nat := none
  heldAt : Option Nat := none
  ended : Bool := false
  overruns : Nat := 0
  prevOverrun : Bool := false
  firstNext : Bool := false
  initNext : Bool := false
  xdoneNext : Bool := false
  single : Bool := false
  heldLink : Option (NMap W128) := none
  bytesOut : List LeBytes := []
  stopActAt : Option Nat := none
  forceAt : List Nat := []
  inReset : Bool := false
  lastCommit : Option Nat := none
  deriving DecidableEq, Repr

/-- The two engines. -/
structure LeBlk where
  engines : NMap LeEngine := []
  deriving DecidableEq, Repr

/-! ### Ethernet switch (R181–R213) -/

/-- A frame in the switch (R185–R197): ingress port; its bytes from the destination address to the last before the FCS;
ingress stamp; class; VID where the frame has a tag on ingress, and the VID it is forwarded with; the egress set at its
decision point; the ports whose copies are not finished; those cut through, and those stomped; cells it holds; whether its
tail has been received good; the host receive queue for a copy to port 20; the host transmit pair and descriptor it came
from, and whether that asks for a stamp; the egress stamp; its recovery function with sequence number, whether it waits for
another copy of that number (R201), its stream filter, and its
MACsec tag. -/
structure EswFrame where
  id : Nat
  ingress : Nat
  bytes : List Byte
  stamp : Nat
  cls : Nat
  tagged : Bool := false
  vid : Nat := 0
  egress : List Nat := []
  copies : List Nat := []
  cut : List Nat := []
  stomped : List Nat := []
  cells : Nat := 0
  good : Bool := false
  hostQueue : Nat := 0
  txDesc : Option (Nat × Nat) := none
  txStampReq : Bool := false
  outStamp : Nat := 0
  recovery : Option (Nat × Nat) := none
  waits : Bool := false
  filter : Option Nat := none
  sec : Option SecTag := none
  deriving DecidableEq, Repr

/-- What a sequence recovery function knows (R201): the highest sequence number passed (none after a reset), the history bits
below it, and the tick of the last frame. -/
structure RecHistory where
  top : Option Nat := none
  seen : Nat := 0
  lastAt : Option Nat := none
  deriving DecidableEq, Repr

/-- A flow meter's buckets, in bits times 10^6, and the tick of the last update (R202); none before its first frame. -/
structure MeterFill where
  c : Nat
  e : Nat
  at_ : Nat
  deriving DecidableEq, Repr

/-- A host transmit frame the switch has fetched (R206, R207): its bytes, descriptor words and index. -/
structure HostFrame where
  bytes : List Byte
  desc : Nat
  index : Nat
  deriving DecidableEq, Repr

/-- What the switch's DMA has still to do for the running command: write a transmit descriptor back, deliver a frame to a
host receive ring, or write a mirror record. -/
inductive EswJob
  | done (q index status stamp : Nat)
  | deliver (f : EswFrame)
  | mirror (f : EswFrame) (reason cause : Nat)
  deriving DecidableEq, Repr

/-- The switch (R181–R213): the frames it holds and the number of the next; the queues by port × 8 + class (head first); the
frame each port transmits; the frame each ingress port receives; the tables by table × 16384 + index; the history of recovery
functions; meter buckets; CBS credits (microbits) with the tick they are for; time-stamp FIFOs; the next descriptor each
transmit ring fetches, the descriptors whose write-back is awaited or done, and the triggered frame that waits at its head;
publications built and not yet admitted; frames mirrored by sampling since the last sample; the mirror sequence number and the
tick of the last record; and DMA work. -/
structure EswBlk where
  frames : List EswFrame := []
  nextId : Nat := 0
  queues : NMap (List Nat) := []
  sending : NMap (Option Nat) := []
  receiving : NMap (Option Nat) := []
  tables : NMap W128 := []
  recs : NMap RecHistory := []
  meters : NMap (Option MeterFill) := []
  credit : NMap Int := []
  creditAt : NMap Nat := []
  stamps : NMap (List W128) := []
  txFetch : NMap Nat := []
  txOpen : NMap (List (Nat × Bool)) := []
  trigWait : NMap (Option HostFrame) := []
  pubs : List (List Byte) := []
  samples : NMap Nat := []
  mirSeq : Nat := 0
  mirAt : Option Nat := none
  jobs : List EswJob := []
  deriving DecidableEq, Repr

/-! ### Hatband (R214–R247) -/

/-- A Hatband buffer (R239): its staging and current copy, whether it has been committed, the channels on which a transmission is
requested, and of the last stored frame FRESH, length, sender, channels, cycle counter, stamp, the cycle it was stored in;
the status of the last write; and the length of a dictionary packet that waits in it (R394). -/
structure HbdBuf where
  staging : NMap Byte := []
  current : NMap Byte := []
  committed : Bool := false
  request : Nat := 0
  fresh : Bool := false
  len : Nat := 0
  sender : Nat := 0
  channels : Nat := 0
  cycle : Nat := 0
  stamp : Nat := 0
  storedIn : Nat := 0
  status : Nat := 0
  ddpLen : Option Nat := none
  deriving DecidableEq, Repr

/-- An own frame of this cycle (R224): its slot ID, the channels on which it was sent and has not come back yet, and whether any
channel brought it back valid. -/
structure HbdOwn where
  slot : Nat
  out : Nat
  valid : Bool := false
  deriving DecidableEq, Repr

/-- A valid sync frame of another node in this cycle (R228, R231). -/
structure HbdSync where
  node : Nat
  startup : Bool
  deriving DecidableEq, Repr

/-- The Hatband controller beside its registers (R214–R247): the slot tables by mode × 512 + entry; the buffers; the number and
FRC start of the running cycle with the TD0 increment in force there (R218), and whether its static segment has ended; the last
restart of the listen timer, whether this node leads a cold start, and cycles spent in COLDSTART or INTEGRATE; the measured values
of this cycle and the last by node (R232, R233), and the step acknowledged between them; whether the offered step of R229 or R230
awaits its acknowledgement, the cycle whose correction does, and whether the last correction was within OFSLIM; sync frames, frames
by CURMODE, requested modes and confirmations seen in this cycle; the mode this node confirms and the cycles of its own request;
own frames, the run of cycles with a lost one and of cold-start frames received back; the guardian's count of accepted marks (none
without a reference), of rejected marks in a row and of cycle starts since the last accepted mark, and its intervals for the trim
(R226); copies taken for transmission by slot; the turn and the last minislot of each channel; and the frame each channel carried last, with the tick at
which an own transmission ends. -/
structure HbdBlk where
  slots : NMap Nat := []
  bufs : NMap HbdBuf := []
  cycle : Option Nat := none
  startTick : Nat := 0
  startInc : Nat := 0
  staticDone : Bool := false
  listenFrom : Nat := 0
  leader : Bool := false
  spent : Nat := 0
  meas : NMap (List Int) := []
  lastMeas : NMap (List Int) := []
  stepAcked : Int := 0
  waitStep : Bool := false
  ackFor : Option Nat := none
  small : Bool := false
  counted : Bool := false
  syncs : List HbdSync := []
  modes : NMap Nat := []
  reqs : List Nat := []
  confs : NMap (Option Nat) := []
  confMode : Option Nat := none
  reqCycles : Option Nat := none
  own : List HbdOwn := []
  ownLostRun : Nat := 0
  ownBack : Nat := 0
  marks : Option Nat := none
  rejects : Nat := 0
  sinceMark : Nat := 0
  trim : List Nat := []
  copies : NMap (Option (List Byte)) := []
  turn : NMap (Option Nat) := []
  mini : NMap (Option Nat) := []
  wire : NMap (List Byte) := []
  sendEnd : NMap (Option Nat) := []
  deriving DecidableEq, Repr

/-! ### CAN and LIN (R248–R269) -/

/-- The transmit state of a CAN object (R253): idle, pending, or in arbitration or on the bus. -/
inductive CanTx | idle | pending | active
  deriving DecidableEq, Repr

/-- A CAN message object (R251, R252, R256): its descriptor words; the staging copy and the current copy or stored payload; the
transmit state and whether one further transmission is queued; and what CANn_OSTAT and CANn_OSTAMP show, with the format flags
of the stored frame and the tick of the last store. -/
structure CanObj where
  w0 : W128 := 0
  w1 : W128 := 0
  staging : NMap Byte := []
  current : NMap Byte := []
  tx : CanTx := .idle
  queued : Bool := false
  fresh : Bool := false
  stale : Bool := false
  txDone : Bool := false
  len : Nat := 0
  lost : Nat := 0
  status : Nat := 0
  stamp : Nat := 0
  flags : Nat := 0
  lastStore : Nat := 0
  deriving DecidableEq, Repr

/-- A message of an inbound gateway route (R262). -/
structure CanMsg where
  id : Nat
  ide : Bool
  fd : Bool
  brs : Bool
  data : List Byte
  deriving DecidableEq, Repr

/-- A gateway route (R261, R262): outbound, the ACF messages of its open NTSCF frame with the tick of the first and the next
sequence number; inbound, its FIFO. -/
structure GwRoute where
  held : List (List Byte) := []
  since : Nat := 0
  seq : Nat := 0
  fifo : List CanMsg := []
  deriving DecidableEq, Repr

/-- The controllers and commanders beside their registers: objects by controller × 128 + object; the object in arbitration and
its shift buffer; whether a bus-off recovery runs; ORES by controller and requester; routes by controller × 16 + route; NTSCF
frames whose DMA the running command has still to do (controller, route, messages). Of the LIN commanders: published current
copies and whether they were committed since their last frame, by commander × 64 + buffer; the end of the running slot; the
schedule range in force; whether the first slot is due; the entry on the bus; and the triggered entry that waits for it. -/
structure CanBlk where
  objs : NMap CanObj := []
  active : NMap (Option Nat) := []
  shift : NMap (List Byte) := []
  recovering : NMap Bool := []
  ores : NMap Nat := []
  routes : NMap GwRoute := []
  jobs : List (Nat × Nat × List (List Byte)) := []
  linCur : NMap Nat := []
  linUpd : NMap Bool := []
  linSlot : NMap (Option Nat) := []
  linRange : NMap (Nat × Nat) := []
  linFirst : NMap Bool := []
  linOn : NMap (Option Nat) := []
  linWait : NMap (Option Nat) := []
  deriving DecidableEq, Repr

/-! ### Inputs, wake and sleep (R270–R292) -/

/-- A converter (R276–R278): its running sequence, the step under way and the tick at which that step's sample-and-hold opened,
whether the last step has finished, and a queued trigger. -/
structure AinConv where
  seq : Option Nat := none
  step : Nat := 0
  opened : Nat := 0
  ended : Bool := false
  queued : Option Nat := none
  deriving DecidableEq, Repr

/-- Inputs and sleep beside their registers: by input (DIN 0–47, LSW 48–55, WAKE 56–71) the FRC of the last configuration write;
wake sources whose filtered state has changed to 1 and that have not fired yet; polls in a row that read a new LSW level; the
raw levels and FIFOs of the PX inputs; the converters and the channels whose last result lay outside its limits; the restart of
the READY timer, the entry to PREPARE and whether the guard window is open; the end of the running wake hold, its source and
whether it has been validated; and a wake latched in the guard window. -/
structure NmwBlk where
  cfgAt : NMap Nat := []
  fired : List Nat := []
  polls : NMap Nat := []
  pxLevel : NMap Bool := []
  pxFifo : NMap (List W128) := []
  convs : NMap AinConv := []
  outside : NMap Bool := []
  readyAt : Nat := 0
  prepAt : Nat := 0
  guard : Bool := false
  hold : Option Nat := none
  holdSrc : Option Nat := none
  validated : Bool := false
  latched : Option Nat := none
  deriving DecidableEq, Repr

/-! ### Supply and power states (R293–R314) -/

/-- The power states of R301 that outlast a command; HELD shows in the reset sources. -/
inductive Power | run | sleep | deep
  deriving DecidableEq, Repr

/-- The supply die beside its registers: the power state; the wake cycle that runs, by source and LATE; whether the sleep-entry
flush is under way and whether the image is sealed; the model's time at sleep entry and at which the timebase stopped; each
channel's sleep token (R303); whether UVZ and UVH hold; and whether the image has to be
rebuilt after a reset (R302). -/
structure PmuBlk where
  power : Power := .run
  wake : Option (Nat × Bool) := none
  flushing : Bool := false
  sealed : Bool := false
  sleptAt : Nat := 0
  stoppedAt : Option Nat := none
  tokens : NMap Nat := []
  uvz : Bool := false
  uvh : Bool := false
  rebuild : Bool := true
  deriving DecidableEq, Repr

/-! ### Cores and comparators (R315–R341) -/

/-- A runtime injection that has been accepted and not yet answered (R331). -/
structure Injection where
  lane : Nat
  deriving DecidableEq, Repr

/-- Cores, comparators and interrupt files: harts running and halted by the debug module, pending injections, harts whose
pair the debugger steps, the pending identities of the interrupt files (core, file, guest, identity), and the core clock
in MHz (R309, R325). -/
structure CoreBlk where
  running : NMap Bool := []
  debugHalted : NMap Bool := []
  injections : NMap (Option Injection) := []
  steps : NMap Nat := []
  abstracts : NMap Nat := []
  imsic : NMap Bool := []
  clockMHz : Nat := 1600
  deriving DecidableEq, Repr

/-! ### Service functions (R342–R361) -/

/-- Service functions beside their registers: the ranges in force, taken at DEFINE, first index and count by 8 × function + pool
(R343); the pages in each function's dirty filter, oldest first (R354); the tick at which each function's quiesce was accepted, and
whether its time has run out; and the operation and function of the SAVE or RESTORE that runs. -/
structure SfeBlk where
  ranges : NMap (Nat × Nat) := []
  filters : NMap (List Nat) := []
  quiescedAt : NMap (Option Nat) := []
  late : NMap Bool := []
  job : Option (Nat × Nat) := none
  deriving DecidableEq, Repr

/-! ### PCIe bridge (R362–R381) -/

/-- What an outbound request does on the far bus. -/
inductive BrgKind
  | read
  | write (posted : Bool)
  | amo (op : AmoOp) (arg : Nat)
  | lr
  | sc (arg : Nat)
  | cfg
  deriving DecidableEq, Repr

/-- An outbound request (R365–R376): its number, what it does, window, local address and size, far address and far bytes, its
initiator; the pieces still to complete and the bytes received; whether its flush read has completed and the Header Log reads it
still waits for; whether a failure was attributed to it; and the crossing rule's flag and count. -/
structure BrgReq where
  id : Nat
  kind : BrgKind
  win : Nat
  laddr : Nat
  size : Nat
  far : Nat
  bytes : List Byte
  key : Nat
  mid : Nat
  vfBits : Nat
  world : Nat
  left : Nat
  got : List Byte := []
  flushed : Bool := false
  waits : List Nat := []
  failed : Bool := false
  crossed : Bool := false
  retries : Nat := 0
  deriving DecidableEq, Repr

/-- A flush read in flight: its window, the newest request it covers, and the tick of its issue. -/
structure BrgFlush where
  win : Nat
  upto : Nat
  since : Nat
  deriving DecidableEq, Repr

/-- The far-bus lock (R375, R376): holder, window, reserved address and the end of its lease. -/
structure BrgLock where
  key : Nat
  mid : Nat
  vfBits : Nat
  win : Nat
  resv : Option Nat
  expiry : Nat
  deriving DecidableEq, Repr

/-- A poll entry (R377): when the next read is due, whether one is outstanding, and whether LAST has been set. -/
structure BrgPoll where
  next : Option Nat := none
  out : Bool := false
  seen : Bool := false
  deriving DecidableEq, Repr

/-- The bridge beside its registers: the number of the next request; requests that wait, outstanding non-posted requests and
unconfirmed posted writes, oldest first; the tick of each window's last posted write; flush reads and Header Log reads in flight;
the error log, oldest first; by initiator the failures since its last fence with the first FSTAT, and the posted writes a waiting
fence read still awaits; the far-bus lock; the polls; the last write, and the last completion, that the bridge put on the link;
and the hot resets sent. -/
structure BrgBlk where
  next : Nat := 0
  queue : List BrgReq := []
  out : List BrgReq := []
  posted : List BrgReq := []
  lastPosted : NMap Nat := []
  flushes : List BrgFlush := []
  hlogs : List Nat := []
  elog : List (W128 × W128) := []
  fails : NMap (Nat × Nat) := []
  fences : NMap (List Nat) := []
  lock : Option BrgLock := none
  polls : NMap BrgPoll := []
  sent : Option (Nat × List Byte) := none
  answered : Option (Nat × List Byte) := none
  hotResets : Nat := 0
  deriving DecidableEq, Repr

/-! ### Dunymer dictionary (R382–R413) -/

/-- An open session (R402, R403): the requester's transport and SNI, world, key slot and session key; the counter of its last
request, the response to that, and the end of its lease. -/
structure DdpSession where
  via : DdpVia
  peer : Nat
  world : Nat
  slot : Nat
  key : BitVec 256
  rc : Nat := 0
  last : List Byte := []
  expiry : Nat
  deriving DecidableEq, Repr

/-- A transfer context (R397–R399): the requester, the request's header, the session with its counter, the requester's world;
whether it writes; the length; the last segment received or sent in order, and acknowledged; the data gathered, or the snapshot;
the tick of its last packet; and whether the engine has sent DEND. -/
structure DdpXfer where
  via : DdpVia
  head : DdpPacket
  session : Option (Nat × Nat) := none
  world : Nat
  write : Bool
  total : Nat
  seg : Nat := 0
  acked : Nat := 0
  data : List Byte := []
  lastAt : Nat
  ended : Bool := false
  deriving DecidableEq, Repr

/-- Who waits for a firmware answer (R405): a remote requester, a local session, or the requester of a transfer. -/
inductive DdpWaiter
  | remote (via : DdpVia) (head : DdpPacket) (session : Option (Nat × Nat))
  | loc (s : Nat) (tag : Nat × Nat × Option Nat)
  | xfer (x : Nat)
  deriving DecidableEq, Repr

/-- A request posted to a firmware queue: the world, the record, the end of its time, and who waits. -/
structure DdpFwReq where
  world : Nat
  index : Nat
  deadline : Nat
  waiter : DdpWaiter
  deriving DecidableEq, Repr

/-- The dictionary engine beside its registers: sessions; transfers; firmware requests; packets that wait for a CAN or Hatband
transmission, and frames built for port I4; both MRAM copies of the persistent objects with their CRC-32 (R407), by the address of the
register that shows them (1 for the module name of 0x0_0005); the module name; and whether the engine serves. -/
structure DdpBlk where
  sessions : NMap (Option DdpSession) := []
  xfers : NMap (Option DdpXfer) := []
  fwReqs : List DdpFwReq := []
  out : List (DdpVia × List Byte) := []
  frames : List (List Byte) := []
  copyA : NMap (Option (Nat × Nat)) := []
  copyB : NMap (Option (Nat × Nat)) := []
  name : Nat := 0
  loaded : Bool := true
  deriving DecidableEq, Repr

/-! ### Keys, worlds and life cycle (R414–R439) -/

/-- What a key slot is (word 1 of its record, R418). -/
inductive SlotState | free | ready | revoked | orphan | dead
  deriving DecidableEq, Repr

/-- A key slot (R418): its attributes (word 0); state, level, parent and ancestors (level 0 first) of word 1, with CAUSE and USES;
its secret material; and its entry of the public-key store. -/
structure KeySlot where
  w0 : W128 := 0
  state : SlotState := .free
  level : Nat := 0
  parent : Nat := 0
  anc : List Nat := []
  revokedCause : Bool := false
  uses : Nat := 0
  mat : List Byte := []
  pub : Option Nat := none
  deriving DecidableEq, Repr

/-- An accepted session operation (R424, R429): its session, operation and slots; length and buffers; the holding function; the
requester; the parameter block read at acceptance; whether it asks for an interrupt; the engine it runs on, with the key it loaded;
and whether its key was invalidated while it ran. -/
structure KeyJob where
  ses : Nat
  op : Nat
  a : Nat
  b : Nat
  len : Nat
  inp : Nat
  out : Nat
  fn : Nat
  mid : Nat
  world : Nat
  params : List Byte
  irq : Bool
  engine : Option Nat := none
  mat : List Byte := []
  during : Bool := false
  deriving DecidableEq, Repr

/-- A hold on a slot (R425): the session that holds it, its function, master and world, and its end. -/
structure KeyHold where
  ses : Nat
  fn : Nat
  mid : Nat
  world : Nat
  expiry : Nat
  deriving DecidableEq, Repr

/-- The key store beside its registers: slots; the public-key store; the fuses and flags of the life cycle (its code), whether the
crown and the identity key exist and first-start generation runs; the modulus of the identity key; bound keys by dictionary
session, each with the slots it descends from; operations in the order of acceptance; holds by slot; the worlds a token has opened;
whether the zeroisation of RETURNED is still to be done; and whether a TRNG health test has failed since the last wide reset. -/
structure KeyBlk where
  slots : NMap KeySlot := []
  pubs : NMap (List Byte) := []
  lcs : Nat := 1
  crown : Bool := false
  idkey : Bool := false
  gen : Bool := true
  modulus : List Byte := []
  bound : NMap (Option (List Nat)) := []
  jobs : List KeyJob := []
  holds : NMap (Option KeyHold) := []
  tokWorlds : Nat := 0
  zeroise : Bool := false
  trngBad : Bool := false
  deriving DecidableEq, Repr

/-! ### Reset, options and boot (R440–R474) -/

/-- Where a start stands (R445, R457, R464): the timebase PLL locks; the options load; the zone die initialises and enters the
boot ROM, after a wide reset, or after a warm one or a resume; stage-1 runs; no bank is valid; the worlds run. -/
inductive StartStep | pll | options | init | reinit | stage1 | noBank | worlds
  deriving DecidableEq, Repr

/-- Reset and boot beside their registers: the reach latched by an open episode and the sources asserted; the reach of a release
sequence that runs, and where the start stands; whether the handover of R464 has taken place; whether LPDDR5 is trained; by
target (as RST_PLAST codes it) the sources of a partition reset in progress, and the pairs that hartreset holds; the comparators
whose last test failed (pairs 0–3, LE0 4); each agent's last `RST_SWREQ` status; the watchdogs' starts, and whether their half
time has passed; the fuses of OPTSRC and the boot-key slots; the SECVER of the running stage-1; the boot source in force; the hash recorded at the last sealed
boot and the one of the image that runs; whether the start is a resume's; and the events raised at the next handover (R472). -/
structure RstBlk where
  episode : Option Nat := none
  sources : List ResetSource := []
  releasing : Option Nat := some 4
  relStep : StartStep := .pll
  handed : Bool := false
  dramTrained : Bool := false
  parts : NMap (List Nat) := []
  hartHeld : List Nat := []
  testBad : Nat := 0
  swres : NMap Nat := []
  wdtStart : NMap (Option Nat) := []
  wdtHalf : NMap Bool := []
  optSrc : Option Nat := none
  bkFused : NMap Bool := []
  bootSrc : Nat := 0
  runSecver : Nat := 0
  sealedHash : Nat := 0
  runHash : Nat := 0
  resumeBoot : Bool := false
  deferred : List Nat := []
  deriving DecidableEq, Repr

/-! ### Hatbox and Seam (R475–R505) -/

/-- The Hatbox's power states (R478). -/
inductive HbxPower | active | standby | backup | off
  deriving DecidableEq, Repr

/-- A record (R488): its SEQ, TYPE, the values of its body, and its bytes. -/
structure HbxRec where
  seq : Nat
  type : Nat
  vals : List Nat
  bytes : List Byte
  deriving DecidableEq, Repr

/-- A card in a slot (R480): its type, number, and the Hatbox's time of its insertion. -/
structure HbxCard where
  type : CardType
  number : Nat
  at_ : Nat
  deriving DecidableEq, Repr

/-- A firmware image (R497, R498): its version, bytes' SHA-512, and the SHA-512 of its signer's modulus. -/
structure HbxImage where
  version : Nat := 0
  hash : Nat := 0
  signer : Nat := 0
  deriving DecidableEq, Repr

/-- A firmware load (R497): the image announced, its length, and the segments received. -/
structure HbxLoad where
  image : HbxImage
  length : Nat
  next : Nat := 0
  data : List Byte := []
  deriving DecidableEq, Repr

/-- A response on its way over the Seam (R493). -/
structure HbxResp where
  code : Nat
  status : Nat
  tag : Nat
  data : List Byte
  deriving DecidableEq, Repr

/-- The Hatbox (R475–R501), which times itself in the model's ns. Power state, the entry to BACKUP, the last Seam link change, pulse
and sensor probe; RTC: UTC in units of 2^-16 ns at an instant, TIMEVALID, the last discipline, the slew still to do, a step due at the next PPS, the last UTC
day ended; tracker: position and the last pulse interval, metres registered, calibration (shaft turns per km, pulses per turn, toll
distance, VIN, whether one has been made); odometer, day and toll distances and the GNSS distance since the last TOLL; GNSS: the
parts of a valid fix, latitude, longitude, the last PPS and whether it came in time; ticks in the window and in the second; wheel speed
with its instant, seconds of disagreement, whether the vehicle moved in the last second; the TIMEREF reference; active tampers and
those latched in BACKUP; life cycle, metrology key hash, identity key; records held, the next SEQ, the last CHAIN, the SEQ pushed and
sealed, the first unsealed record's instant, whether a SEAL is due; records to push again; the last STATUS; cards and activities by
slot; running image, load; the last mark and mirror record sent; and responses on their way. -/
structure HbxBlk where
  power : HbxPower := .off
  backupAt : Nat := 0
  linkAt : Nat := 0
  pulseAt : Option Nat := none
  probeAt : Nat := 0
  rtc : Nat := 0
  rtcAt : Nat := 0
  timeValid : Bool := false
  discAt : Option Nat := none
  slew : Int := 0
  stepDue : Option Int := none
  dayDone : Nat := 0
  pos : Nat := 0
  interval : Nat := 0
  metre : Nat := 0
  kcal : Nat := 0
  ppr : Nat := 1
  tollDist : Nat := 0
  vin : Nat := 0
  calibrated : Bool := false
  odo : Nat := 0
  day : Nat := 0
  toll : Nat := 0
  tollGnss : Nat := 0
  rmcA : Bool := false
  ggaOk : Bool := false
  lat : Nat := 0
  lon : Nat := 0
  ppsAt : Option Nat := none
  ppsOk : Bool := false
  winTicks : Nat := 0
  secTicks : Nat := 0
  wheel : Option (Nat × Nat) := none
  wheelRun : Nat := 0
  moving : Bool := false
  timeref : Option (Nat × Nat) := none
  tampers : Nat := 0
  latched : List Nat := []
  lcs : Nat := 1
  metroKey : Nat := 0
  idkey : Option (List Byte) := none
  recs : List HbxRec := []
  seq : Nat := 1
  chain : List Byte := List.replicate 32 0
  pushed : Nat := 0
  sealedTo : Nat := 0
  unsealedAt : Option Nat := none
  sealDue : Bool := false
  resend : List Nat := []
  statusAt : Nat := 0
  cards : NMap (Option HbxCard) := []
  activity : NMap Nat := []
  image : HbxImage := {}
  load : Option HbxLoad := none
  mark : Option W128 := none
  mirror : Option Nat := none
  out : List HbxResp := []
  deriving DecidableEq, Repr

/-- A command of a SEAM port (R495): world, code, argument bytes and TAG. -/
structure SeamCmd where
  world : Nat
  code : Nat
  args : List Byte
  tag : Nat
  deriving DecidableEq, Repr

/-- The SEAM block beside its registers: commands that wait, the one that awaits its response with the tick at which its time began,
the next TAG; records that arrive; frames for port I3; and whether a record has been received since LASTSEQ was reset. -/
structure SeamBlk where
  queue : List SeamCmd := []
  flight : Option SeamCmd := none
  since : Nat := 0
  tag : Nat := 0
  arriving : List HbxRec := []
  frames : List (List Byte) := []
  heard : Bool := false
  deriving DecidableEq, Repr

/-! ### Field update (R506–R530) -/

/-- The relay to one neighbour (R514, R515): the manifest is there, or was refused; the segments sent since the last fresh read;
failed attempts in a row; the tick of the next attempt; and whether the relay has stopped. -/
structure UpdRelay where
  manifest : Bool := false
  refused : Bool := false
  fails : Nat := 0
  retryAt : Option Nat := none
  stopped : Bool := false
  deriving DecidableEq, Repr

/-- The update agent beside its registers. The journal: the accepted manifest and the segment bitmap; by component (TYPE × 8 +
INSTANCE) the bank that is active and the version, with those before the installations; the active package version and the one
before; the stage-1 header and the option block it keeps; T and G; the components still to install and those installed; whether
a CANCEL is recorded; the activation instant of the TRIAL, and whether the reset of the activation itself is still to come; and
whether EV0808 and DONE are due. The group: coordinator and own index; as coordinator the staged versions reported, whether it
cancels, and the instant of the next repeat. The relays; and what the agent last wrote to other modules: SNI, object, offset, data. -/
structure UpdBlk where
  manifest : List Byte := []
  bitmap : Nat := 0
  banks : NMap Nat := []
  versions : NMap Nat := []
  oldVersions : NMap Nat := []
  package : Nat := 0
  oldPackage : Nat := 0
  header : List Byte := []
  options : List Byte := []
  jt : W128 := 0
  jg : Nat := 0
  toInstall : List Nat := []
  installed : List Nat := []
  cancelled : Bool := false
  trialAt : Nat := 0
  ownReset : Bool := false
  announce : Bool := false
  offTime : Bool := false
  coordinator : Nat := 0
  index : Nat := 0
  reported : NMap (Option Nat) := []
  guarded : Bool := false
  cancelling : Bool := false
  cancelNext : Nat := 0
  relays : NMap UpdRelay := []
  sent : List (Nat × Nat × Nat × List Byte) := []
  deriving DecidableEq, Repr

/-! ### Claims, leases and revocation (R531–R550) -/

/-- A lease by its kind and index (R542). -/
structure LeaseRef where
  kind : Nat
  index : Nat
  deriving DecidableEq, Repr

/-- Who holds a lease, as the isolation gate takes it (R544): a master, a VF, or a remote dictionary session. -/
inductive LeaseHolder
  | mid (m : Nat)
  | vf (f : Nat)
  | ses (s : Nat)
  deriving DecidableEq, Repr

/-- A CLM lock's holder and expiry (R543). -/
structure LockHold where
  key : Nat
  mid : Nat
  vf : Option Nat
  world : Nat
  expiry : Nat
  deriving DecidableEq, Repr

/-- Claims and leases beside their registers: the conflict log (oldest first); the CLM locks; the revocation that runs, its holder,
the tick of its start and whether its drain has passed the limit; the leases a written revocation still has to take; the queued
and the pending automatic revocations; the sessions that refuse packets; and the holders whose partition reset has completed
while a lease of theirs was still to be taken. -/
structure ClmBlk where
  conflicts : List W128 := []
  locks : NMap (Option LockHold) := []
  running : Option (LeaseRef × LeaseHolder) := none
  runStart : Nat := 0
  drainOver : Bool := false
  todo : List LeaseRef := []
  queue : List LeaseRef := []
  pendingRev : List LeaseRef := []
  sesShut : List Nat := []
  reopen : List LeaseHolder := []
  deriving DecidableEq, Repr

/-! ### The whole module -/

/-- Everything the module holds outside its byte-addressed memories. `variantH` tells the -H variant from the -N (R1);
`regs` holds every register by address, at its reset value where nothing is listed; `now` is the model's own count of
nanoseconds, by which the units that run without the FRC time themselves; `freeCtr` is the model's own count of the open
values drawn so far. -/
structure Chip where
  variantH : Bool := true
  stepping : Nat := 0x10
  regs : NMap W128 := []
  now : Nat := 0
  freeCtr : Nat := 0
  fab : Fabric := {}
  time : TimeBlk := {}
  seq : SeqBlk := {}
  lsc : LscBlk := {}
  le : LeBlk := {}
  esw : EswBlk := {}
  hbd : HbdBlk := {}
  can : CanBlk := {}
  nmw : NmwBlk := {}
  pmu : PmuBlk := {}
  brg : BrgBlk := {}
  core : CoreBlk := {}
  hbx : HbxBlk := {}
  seam : SeamBlk := {}
  ddp : DdpBlk := {}
  key : KeyBlk := {}
  sfe : SfeBlk := {}
  rst : RstBlk := {}
  update : UpdBlk := {}
  clm : ClmBlk := {}
  deriving DecidableEq, Repr

/-- The machine: the module, its memories byte by byte, and the commands that wait, first in first out. -/
structure State where
  chip : Chip := {}
  mem : List Host.Cell := []
  pending : List Instr := []
  deriving DecidableEq, Repr

/-- Why the machine stops. No command of this module stops it: the spec gives every command an effect, and answers a
refused access on the fabric or in a status field. -/
inductive Fault
  /-- Raised by no command; the type needs a member. Safe. -/
  | unreachable
  deriving DecidableEq, Repr

/-- Why a command has no meaning here. -/
inductive Refusal
  /-- A command not modelled yet, by its mnemonic; raised by its arm of `exec` alone. Safe. -/
  | notModelled (mnemonic : String)
  deriving DecidableEq, Repr

/-- The machine right after reset: every field at its default above. -/
def State.reset : State := {}

end Sys2Proof.Machine
end

