-- ==== Sys2Proof/Machine/Operands.lean ====
section
/-! DEFINITION. Registers and their fields as operands: a register's place and reset value, a field's bits, the
access codes (R8), reading and writing one field, and the small number helpers the blocks share. -/

namespace Sys2Proof.Machine

/-- One register: its physical address (R7) and the value it has where nothing has been written. -/
structure Reg where
  addr : Nat
  rst : Nat
  deriving DecidableEq, Repr

/-- One field of one register: bits `hi` down to `lo`. -/
structure RFld where
  reg : Reg
  hi : Nat
  lo : Nat
  deriving DecidableEq, Repr

/-- The access codes of R8. -/
inductive Acc | rw | ro | wo | w1c | w1s | rwb | rsv
  deriving DecidableEq, Repr

/-- A field of a register row: bits, access code, and the encodings that are not reserved (none listed: all are legal). -/
structure FieldRow where
  hi : Nat
  lo : Nat
  acc : Acc
  legal : List (Nat × Nat)
  deriving DecidableEq, Repr

/-- Who may write a register: fixed worlds, anyone, the claimant of an entry of the claim table
(kind, instances per entry, first entry), the world of the VF page, or a rule of the block's own. -/
inductive Owner
  | worlds (ws : List Nat)
  | all
  | claim (kind per first : Nat)
  | vf
  | special
  deriving DecidableEq, Repr

/-- A row of a block's register map: first address, the strides and counts of its indices, width in bits, reset value
and its exceptions by index, owner, the narrowest reset reach that clears it (5: none does), whether sleep clears it,
and its fields. -/
structure RegRow where
  addr : Nat
  dims : List (Nat × Nat)
  width : Nat
  rst : Nat
  exc : List (Nat × Nat)
  owner : Owner
  clears : Nat
  sleepClears : Bool
  fields : List FieldRow
  deriving DecidableEq, Repr

/-! ### Values and fields -/

/-- Bits `hi` to `lo` of a value, as a number. -/
def bits (v : Nat) (hi lo : Nat) : Nat := (v >>> lo) % 2 ^ (hi - lo + 1)

/-- The mask of bits `hi` to `lo`. -/
def fieldMask (hi lo : Nat) : W128 := BitVec.ofNat 128 ((2 ^ (hi - lo + 1) - 1) <<< lo)

/-- A value with its bits `hi` to `lo` replaced by the low bits of `x`. -/
def setBits (v : W128) (hi lo : Nat) (x : Nat) : W128 :=
  (v &&& ~~~(fieldMask hi lo)) ||| (BitVec.ofNat 128 (x <<< lo) &&& fieldMask hi lo)

/-- One bit of a number. -/
def bit (v i : Nat) : Bool := v.testBit i

/-- 1 or 0. -/
def b2n (b : Bool) : Nat := if b then 1 else 0

/-- A number with bit `i` set or cleared. -/
def setBit (v i : Nat) (b : Bool) : Nat :=
  if b then v ||| (1 <<< i) else if v.testBit i then v - (1 <<< i) else v

/-- The signed value of the low `w` bits of `v`. -/
def signed (w v : Nat) : Int :=
  if v % 2 ^ w < 2 ^ (w - 1) then (v % 2 ^ w : Nat) else ((v % 2 ^ w : Nat) : Int) - 2 ^ w

/-- The low `w` bits of a signed number. -/
def unsigned (w : Nat) (x : Int) : Nat := (x % 2 ^ w).toNat

/-- A register's value. -/
def Chip.rd (c : Chip) (r : Reg) : W128 := look (BitVec.ofNat 128 r.rst) c.regs r.addr

/-- Write a whole register. -/
def Chip.wr (c : Chip) (r : Reg) (v : W128) : Chip :=
  { c with regs := put (BitVec.ofNat 128 r.rst) c.regs r.addr v }

/-- Write a whole register with a number. -/
def Chip.wrN (c : Chip) (r : Reg) (v : Nat) : Chip := c.wr r (BitVec.ofNat 128 v)

/-- A register's value as a number. -/
def Chip.rdN (c : Chip) (r : Reg) : Nat := (c.rd r).toNat

/-- A field's value. -/
def Chip.get (c : Chip) (f : RFld) : Nat := bits (c.rd f.reg).toNat f.hi f.lo

/-- A field as a flag. -/
def Chip.flag (c : Chip) (f : RFld) : Bool := c.get f != 0

/-- Write one field. -/
def Chip.set (c : Chip) (f : RFld) (x : Nat) : Chip := c.wr f.reg (setBits (c.rd f.reg) f.hi f.lo x)

/-- Write one flag. -/
def Chip.setB (c : Chip) (f : RFld) (b : Bool) : Chip := c.set f (b2n b)

/-- The field a written value carries in these bits. -/
def RFld.of (f : RFld) (v : Nat) : Nat := bits v f.hi f.lo

/-! ### Agents -/

/-- The number by which an agent's latches, staged words and answers are kept: its master and its VF. -/
def agentKey (a : Agent) : Nat :=
  a.mid.val * 128 + (match a.vf with | none => 0 | some v => 64 + v.val)

/-- An agent's VFV and VFN bits as conflict records carry them: VFV in bit 7, VFN below (R541). -/
def agentVf (a : Agent) : Nat := match a.vf with | none => 0 | some v => 128 + v.val

end Sys2Proof.Machine
end

