-- ==== Sys2Proof/Machine/Flags.lean ====
section
/-! DEFINITION. Flags, counters and status codes: saturating counters, sticky bits, and the status codes of R386. -/

namespace Sys2Proof.Machine

/-! ### Status codes (R386) -/

def stOK : Nat := 0x00
def stNO_OBJECT : Nat := 0x01
def stNO_ELEMENT : Nat := 0x02
def stDENIED_WORLD : Nat := 0x03
def stDENIED_STATE : Nat := 0x04
def stTYPE_MISMATCH : Nat := 0x05
def stRANGE : Nat := 0x06
def stBUSY : Nat := 0x07
def stSEQUENCE : Nat := 0x08
def stINTEGRITY : Nat := 0x09
def stRES_CLAIMED : Nat := 0x0A
def stTIMEOUT : Nat := 0x0B
def stKEY_REVOKED : Nat := 0x0C
def stNOT_NOW : Nat := 0x0D
def stORPHANED : Nat := 0x0E
def stNOT_ADOPTED : Nat := 0x0F

/-! ### Counters -/

/-- The largest value a field holds. -/
def RFld.top (f : RFld) : Nat := 2 ^ (f.hi - f.lo + 1) - 1

/-- Add `n` to a counter field, which stays at its largest value. -/
def Chip.satAdd (c : Chip) (f : RFld) (n : Nat) : Chip := c.set f (min (c.get f + n) f.top)

/-- Count one in a saturating counter field. -/
def Chip.satInc (c : Chip) (f : RFld) : Chip := c.satAdd f 1

/-- Count one in a counter field that wraps. -/
def Chip.wrapInc (c : Chip) (f : RFld) : Chip := c.set f (c.get f + 1)

/-- Set a sticky flag. -/
def Chip.stick (c : Chip) (f : RFld) : Chip := c.setB f true

end Sys2Proof.Machine
end

