-- ==== Sys2Proof/Machine/RegsBridge.lean ====
section
/-! DEFINITION. The registers of BRG as their register maps in spec/13_bridge.md list them (R378): one name for each register and each field, and one row for each in the map. -/

namespace Sys2Proof.Machine

/-- BRG_CTL (R378). -/
def BRG_CTL : Reg := ⟨0x30200000, 0x0⟩
def BRG_CTL_HOTRST : RFld := ⟨BRG_CTL, 2, 2⟩
def BRG_CTL_CLRCNT : RFld := ⟨BRG_CTL, 1, 1⟩
def BRG_CTL_EN : RFld := ⟨BRG_CTL, 0, 0⟩
/-- BRG_STAT (R378). -/
def BRG_STAT : Reg := ⟨0x30200004, 0x0⟩
def BRG_STAT_ROLE : RFld := ⟨BRG_STAT, 31, 30⟩
def BRG_STAT_LINK : RFld := ⟨BRG_STAT, 29, 29⟩
def BRG_STAT_WIDTH : RFld := ⟨BRG_STAT, 28, 27⟩
def BRG_STAT_SPEED : RFld := ⟨BRG_STAT, 26, 25⟩
def BRG_STAT_LOCKED : RFld := ⟨BRG_STAT, 24, 24⟩
def BRG_STAT_LASTERR : RFld := ⟨BRG_STAT, 23, 16⟩
def BRG_STAT_ELOGN : RFld := ⟨BRG_STAT, 15, 8⟩
def BRG_STAT_ELOGOVF : RFld := ⟨BRG_STAT, 1, 1⟩
def BRG_STAT_LINKCHG : RFld := ⟨BRG_STAT, 0, 0⟩
/-- BRG_LIM (R378). -/
def BRG_LIM : Reg := ⟨0x30200008, 0x19002710⟩
def BRG_LIM_LOCKL : RFld := ⟨BRG_LIM, 31, 22⟩
def BRG_LIM_CTO : RFld := ⟨BRG_LIM, 15, 0⟩
/-- BRG_CNT (R378). -/
def BRG_CNT : Reg := ⟨0x3020000C, 0x0⟩
def BRG_CNT_XFAIL : RFld := ⟨BRG_CNT, 31, 24⟩
def BRG_CNT_DROPPED : RFld := ⟨BRG_CNT, 23, 16⟩
def BRG_CNT_INTX : RFld := ⟨BRG_CNT, 15, 0⟩
/-- BRG_OUTST (R378). -/
def BRG_OUTST : Reg := ⟨0x30200010, 0x0⟩
def BRG_OUTST_NP : RFld := ⟨BRG_OUTST, 22, 16⟩
def BRG_OUTST_POSTED : RFld := ⟨BRG_OUTST, 7, 0⟩
/-- BRG_FENCE (R378). -/
def BRG_FENCE : Reg := ⟨0x30200020, 0x0⟩
def BRG_FENCE_STATUS : RFld := ⟨BRG_FENCE, 31, 24⟩
def BRG_FENCE_FSTAT : RFld := ⟨BRG_FENCE, 23, 16⟩
def BRG_FENCE_FAILS : RFld := ⟨BRG_FENCE, 15, 0⟩
/-- BRG_ELOG0 (R378). -/
def BRG_ELOG0 : Reg := ⟨0x30200030, 0x0⟩
def BRG_ELOG0_VALID : RFld := ⟨BRG_ELOG0, 127, 127⟩
def BRG_ELOG0_LADDR : RFld := ⟨BRG_ELOG0, 103, 64⟩
def BRG_ELOG0_FSTAT : RFld := ⟨BRG_ELOG0, 63, 56⟩
def BRG_ELOG0_WIN : RFld := ⟨BRG_ELOG0, 55, 51⟩
def BRG_ELOG0_WLD : RFld := ⟨BRG_ELOG0, 50, 48⟩
def BRG_ELOG0_VF : RFld := ⟨BRG_ELOG0, 47, 41⟩
def BRG_ELOG0_MID : RFld := ⟨BRG_ELOG0, 40, 35⟩
/-- BRG_ELOG1 (R378). -/
def BRG_ELOG1 : Reg := ⟨0x30200040, 0x0⟩
def BRG_ELOG1_TV : RFld := ⟨BRG_ELOG1, 127, 0⟩
/-- BRG_ELOGPOP (R378). -/
def BRG_ELOGPOP : Reg := ⟨0x30200050, 0x0⟩
def BRG_ELOGPOP_ANY : RFld := ⟨BRG_ELOGPOP, 31, 0⟩
/-- BRG_CFGADDR (R378). -/
def BRG_CFGADDR : Reg := ⟨0x30200060, 0x0⟩
def BRG_CFGADDR_BUS : RFld := ⟨BRG_CFGADDR, 31, 24⟩
def BRG_CFGADDR_DEV : RFld := ⟨BRG_CFGADDR, 23, 19⟩
def BRG_CFGADDR_FN : RFld := ⟨BRG_CFGADDR, 18, 16⟩
def BRG_CFGADDR_REG : RFld := ⟨BRG_CFGADDR, 11, 2⟩
def BRG_CFGADDR_TYPE1 : RFld := ⟨BRG_CFGADDR, 1, 1⟩
def BRG_CFGADDR_WRITE : RFld := ⟨BRG_CFGADDR, 0, 0⟩
/-- BRG_CFGDATA (R378). -/
def BRG_CFGDATA : Reg := ⟨0x30200064, 0x0⟩
def BRG_CFGDATA_DATA : RFld := ⟨BRG_CFGDATA, 31, 0⟩
/-- BRG_POLL_CTL (R378). -/
def BRG_POLL_CTL (i : Nat) : Reg := ⟨0x30200100 + 0x20 * i, 0x0⟩
def BRG_POLL_CTL_EN (i : Nat) : RFld := ⟨(BRG_POLL_CTL i), 31, 31⟩
def BRG_POLL_CTL_SIZE (i : Nat) : RFld := ⟨(BRG_POLL_CTL i), 27, 26⟩
def BRG_POLL_CTL_PERIOD (i : Nat) : RFld := ⟨(BRG_POLL_CTL i), 15, 0⟩
/-- BRG_POLL_MASK (R378). -/
def BRG_POLL_MASK (i : Nat) : Reg := ⟨0x30200104 + 0x20 * i, 0x0⟩
def BRG_POLL_MASK_M (i : Nat) : RFld := ⟨(BRG_POLL_MASK i), 31, 0⟩
/-- BRG_POLL_LAST (R378). -/
def BRG_POLL_LAST (i : Nat) : Reg := ⟨0x30200108 + 0x20 * i, 0x0⟩
def BRG_POLL_LAST_V (i : Nat) : RFld := ⟨(BRG_POLL_LAST i), 31, 0⟩
/-- BRG_POLL_ERR (R378). -/
def BRG_POLL_ERR (i : Nat) : Reg := ⟨0x3020010C + 0x20 * i, 0x0⟩
def BRG_POLL_ERR_N (i : Nat) : RFld := ⟨(BRG_POLL_ERR i), 15, 0⟩
/-- BRG_POLL_ADDR (R378). -/
def BRG_POLL_ADDR (i : Nat) : Reg := ⟨0x30200110 + 0x20 * i, 0x0⟩
def BRG_POLL_ADDR_FAR (i : Nat) : RFld := ⟨(BRG_POLL_ADDR i), 63, 0⟩
def BRG_POLL_ADDR_STAMP (i : Nat) : RFld := ⟨(BRG_POLL_ADDR i), 127, 64⟩
/-- BRG_OW_CTL (R378). -/
def BRG_OW_CTL (i : Nat) : Reg := ⟨0x30201000 + 0x40 * i, 0x8300000⟩
def BRG_OW_CTL_EN (i : Nat) : RFld := ⟨(BRG_OW_CTL i), 31, 31⟩
def BRG_OW_CTL_SWAP (i : Nat) : RFld := ⟨(BRG_OW_CTL i), 30, 29⟩
def BRG_OW_CTL_GRAN (i : Nat) : RFld := ⟨(BRG_OW_CTL i), 28, 27⟩
def BRG_OW_CTL_STRICT (i : Nat) : RFld := ⟨(BRG_OW_CTL i), 26, 26⟩
def BRG_OW_CTL_POSTED (i : Nat) : RFld := ⟨(BRG_OW_CTL i), 25, 25⟩
def BRG_OW_CTL_LOCK (i : Nat) : RFld := ⟨(BRG_OW_CTL i), 24, 24⟩
def BRG_OW_CTL_XRETRY (i : Nat) : RFld := ⟨(BRG_OW_CTL i), 23, 23⟩
def BRG_OW_CTL_WMAX (i : Nat) : RFld := ⟨(BRG_OW_CTL i), 22, 20⟩
def BRG_OW_CTL_FARID (i : Nat) : RFld := ⟨(BRG_OW_CTL i), 15, 0⟩
/-- BRG_OW_LOC (R378). -/
def BRG_OW_LOC (i : Nat) : Reg := ⟨0x30201010 + 0x40 * i, 0x0⟩
def BRG_OW_LOC_BASE (i : Nat) : RFld := ⟨(BRG_OW_LOC i), 39, 0⟩
def BRG_OW_LOC_LIM (i : Nat) : RFld := ⟨(BRG_OW_LOC i), 103, 64⟩
/-- BRG_OW_FAR (R378). -/
def BRG_OW_FAR (i : Nat) : Reg := ⟨0x30201020 + 0x40 * i, 0x0⟩
def BRG_OW_FAR_BASE (i : Nat) : RFld := ⟨(BRG_OW_FAR i), 63, 0⟩
def BRG_OW_FAR_AEROFS (i : Nat) : RFld := ⟨(BRG_OW_FAR i), 75, 64⟩
/-- BRG_IW_CTL (R378). -/
def BRG_IW_CTL (i : Nat) : Reg := ⟨0x30202000 + 0x40 * i, 0x8000000⟩
def BRG_IW_CTL_EN (i : Nat) : RFld := ⟨(BRG_IW_CTL i), 31, 31⟩
def BRG_IW_CTL_SWAP (i : Nat) : RFld := ⟨(BRG_IW_CTL i), 30, 29⟩
def BRG_IW_CTL_GRAN (i : Nat) : RFld := ⟨(BRG_IW_CTL i), 28, 27⟩
def BRG_IW_CTL_WORLD (i : Nat) : RFld := ⟨(BRG_IW_CTL i), 26, 24⟩
/-- BRG_IW_FARB (R378). -/
def BRG_IW_FARB (i : Nat) : Reg := ⟨0x30202010 + 0x40 * i, 0x0⟩
def BRG_IW_FARB_A (i : Nat) : RFld := ⟨(BRG_IW_FARB i), 63, 0⟩
/-- BRG_IW_FARL (R378). -/
def BRG_IW_FARL (i : Nat) : Reg := ⟨0x30202020 + 0x40 * i, 0x0⟩
def BRG_IW_FARL_A (i : Nat) : RFld := ⟨(BRG_IW_FARL i), 63, 0⟩
/-- BRG_IW_LOCB (R378). -/
def BRG_IW_LOCB (i : Nat) : Reg := ⟨0x30202030 + 0x40 * i, 0x0⟩
def BRG_IW_LOCB_A (i : Nat) : RFld := ⟨(BRG_IW_LOCB i), 39, 0⟩

/-- The register map of the BRG block. -/
def rowsBRG : List RegRow :=
  [ ⟨0x30200000, [], 32, 0x0, [], (.worlds [1]), 2, false, [⟨2, 2, .wo, []⟩, ⟨1, 1, .wo, []⟩, ⟨0, 0, .rw, []⟩]⟩,
    ⟨0x30200004, [], 32, 0x0, [], .all, 3, false, [⟨31, 30, .ro, []⟩, ⟨29, 29, .ro, []⟩, ⟨28, 27, .ro, []⟩, ⟨26, 25, .ro, []⟩, ⟨24, 24, .ro, []⟩, ⟨23, 16, .ro, []⟩, ⟨15, 8, .ro, []⟩, ⟨1, 1, .w1c, []⟩, ⟨0, 0, .w1c, []⟩]⟩,
    ⟨0x30200008, [], 32, 0x19002710, [], (.worlds [1]), 3, false, [⟨31, 22, .rw, [(1, 1000)]⟩, ⟨15, 0, .rw, [(50, 50000)]⟩]⟩,
    ⟨0x3020000C, [], 32, 0x0, [], .all, 3, false, [⟨31, 24, .ro, []⟩, ⟨23, 16, .ro, []⟩, ⟨15, 0, .ro, []⟩]⟩,
    ⟨0x30200010, [], 32, 0x0, [], .all, 2, false, [⟨22, 16, .ro, []⟩, ⟨7, 0, .ro, []⟩]⟩,
    ⟨0x30200020, [], 32, 0x0, [], .all, 2, false, [⟨31, 24, .ro, []⟩, ⟨23, 16, .ro, []⟩, ⟨15, 0, .ro, []⟩]⟩,
    ⟨0x30200030, [], 128, 0x0, [], (.worlds [1, 2]), 3, false, [⟨127, 127, .ro, []⟩, ⟨103, 64, .ro, []⟩, ⟨63, 56, .ro, []⟩, ⟨55, 51, .ro, []⟩, ⟨50, 48, .ro, []⟩, ⟨47, 41, .ro, []⟩, ⟨40, 35, .ro, []⟩]⟩,
    ⟨0x30200040, [], 128, 0x0, [], (.worlds [1, 2]), 3, false, [⟨127, 0, .ro, []⟩]⟩,
    ⟨0x30200050, [], 32, 0x0, [], (.worlds [1]), 3, false, [⟨31, 0, .wo, []⟩]⟩,
    ⟨0x30200060, [], 32, 0x0, [], (.worlds [1]), 3, false, [⟨31, 24, .rw, []⟩, ⟨23, 19, .rw, []⟩, ⟨18, 16, .rw, []⟩, ⟨11, 2, .rw, []⟩, ⟨1, 1, .rw, []⟩, ⟨0, 0, .rw, []⟩]⟩,
    ⟨0x30200064, [], 32, 0x0, [], (.worlds [1]), 3, false, [⟨31, 0, .rw, []⟩]⟩,
    ⟨0x30200100, [(32, 16)], 32, 0x0, [], (.claim 14 1 0), 3, false, [⟨31, 31, .rw, []⟩, ⟨27, 26, .rw, [(0, 2)]⟩, ⟨15, 0, .rw, [(1, 65535)]⟩]⟩ ] ++
  [ ⟨0x30200104, [(32, 16)], 32, 0x0, [], (.claim 14 1 0), 3, false, [⟨31, 0, .rw, []⟩]⟩,
    ⟨0x30200108, [(32, 16)], 32, 0x0, [], (.claim 14 1 0), 3, false, [⟨31, 0, .ro, []⟩]⟩,
    ⟨0x3020010C, [(32, 16)], 32, 0x0, [], (.claim 14 1 0), 3, false, [⟨15, 0, .ro, []⟩]⟩,
    ⟨0x30200110, [(32, 16)], 128, 0x0, [], (.claim 14 1 0), 3, false, [⟨63, 0, .rw, []⟩, ⟨127, 64, .ro, []⟩]⟩,
    ⟨0x30201000, [(64, 32)], 32, 0x8300000, [], (.claim 13 1 0), 3, false, [⟨31, 31, .rw, []⟩, ⟨30, 29, .rw, [(0, 2)]⟩, ⟨28, 27, .rw, [(0, 2)]⟩, ⟨26, 26, .rw, []⟩, ⟨25, 25, .rw, []⟩, ⟨24, 24, .rw, []⟩, ⟨23, 23, .rw, []⟩, ⟨22, 20, .rw, [(0, 6)]⟩, ⟨15, 0, .rw, []⟩]⟩,
    ⟨0x30201010, [(64, 32)], 128, 0x0, [], (.claim 13 1 0), 3, false, [⟨39, 0, .rw, []⟩, ⟨103, 64, .rw, []⟩]⟩,
    ⟨0x30201020, [(64, 32)], 128, 0x0, [], (.claim 13 1 0), 3, false, [⟨63, 0, .rw, []⟩, ⟨75, 64, .rw, []⟩]⟩,
    ⟨0x30202000, [(64, 16)], 32, 0x8000000, [], (.worlds [1]), 3, false, [⟨31, 31, .rw, []⟩, ⟨30, 29, .rw, [(0, 2)]⟩, ⟨28, 27, .rw, [(0, 2)]⟩, ⟨26, 24, .rw, [(1, 4)]⟩]⟩,
    ⟨0x30202010, [(64, 16)], 128, 0x0, [], (.worlds [1]), 3, false, [⟨63, 0, .rw, []⟩]⟩,
    ⟨0x30202020, [(64, 16)], 128, 0x0, [], (.worlds [1]), 3, false, [⟨63, 0, .rw, []⟩]⟩,
    ⟨0x30202030, [(64, 16)], 128, 0x0, [], (.worlds [1]), 3, false, [⟨39, 0, .rw, []⟩]⟩ ]

end Sys2Proof.Machine
end

