-- ==== Sys2Proof/Machine/RegsCanAndLin.lean ====
section
/-! DEFINITION. The registers of CAN, LIN as their register maps in spec/08_can_and_lin.md list them (R265, R266): one name for each register and each field, and one row for each in the map. -/

namespace Sys2Proof.Machine

/-- CAN_CTL (R265). -/
def CAN_CTL (i : Nat) : Reg := ⟨0x30100000 + 0x10000 * i, 0x8000000⟩
def CAN_CTL_EN (i : Nat) : RFld := ⟨(CAN_CTL i), 31, 31⟩
def CAN_CTL_FDEN (i : Nat) : RFld := ⟨(CAN_CTL i), 30, 30⟩
def CAN_CTL_XLEN (i : Nat) : RFld := ⟨(CAN_CTL i), 29, 29⟩
def CAN_CTL_ISO11992 (i : Nat) : RFld := ⟨(CAN_CTL i), 28, 28⟩
def CAN_CTL_AUTOREC (i : Nat) : RFld := ⟨(CAN_CTL i), 27, 27⟩
def CAN_CTL_LISTEN (i : Nat) : RFld := ⟨(CAN_CTL i), 26, 26⟩
def CAN_CTL_LOOP (i : Nat) : RFld := ⟨(CAN_CTL i), 25, 25⟩
def CAN_CTL_PWM (i : Nat) : RFld := ⟨(CAN_CTL i), 24, 24⟩
def CAN_CTL_CLRCNT (i : Nat) : RFld := ⟨(CAN_CTL i), 23, 23⟩
def CAN_CTL_RECOVER (i : Nat) : RFld := ⟨(CAN_CTL i), 22, 22⟩
/-- CAN_STAT (R265). -/
def CAN_STAT (i : Nat) : Reg := ⟨0x30100004 + 0x10000 * i, 0xC0000000⟩
def CAN_STAT_BUSST (i : Nat) : RFld := ⟨(CAN_STAT i), 31, 30⟩
def CAN_STAT_SYNC (i : Nat) : RFld := ⟨(CAN_STAT i), 29, 29⟩
def CAN_STAT_TXACT (i : Nat) : RFld := ⟨(CAN_STAT i), 28, 28⟩
def CAN_STAT_RXACT (i : Nat) : RFld := ⟨(CAN_STAT i), 27, 27⟩
def CAN_STAT_LASTERR (i : Nat) : RFld := ⟨(CAN_STAT i), 23, 16⟩
def CAN_STAT_LEC (i : Nat) : RFld := ⟨(CAN_STAT i), 10, 8⟩
def CAN_STAT_BOFF (i : Nat) : RFld := ⟨(CAN_STAT i), 2, 2⟩
def CAN_STAT_EPASS (i : Nat) : RFld := ⟨(CAN_STAT i), 1, 1⟩
def CAN_STAT_LOST (i : Nat) : RFld := ⟨(CAN_STAT i), 0, 0⟩
/-- CAN_NBT (R265). -/
def CAN_NBT (i : Nat) : Reg := ⟨0x30100008 + 0x10000 * i, 0x0⟩
def CAN_NBT_BRP (i : Nat) : RFld := ⟨(CAN_NBT i), 31, 24⟩
def CAN_NBT_TSEG1 (i : Nat) : RFld := ⟨(CAN_NBT i), 23, 16⟩
def CAN_NBT_TSEG2 (i : Nat) : RFld := ⟨(CAN_NBT i), 14, 8⟩
def CAN_NBT_SJW (i : Nat) : RFld := ⟨(CAN_NBT i), 6, 0⟩
/-- CAN_DBT (R265). -/
def CAN_DBT (i : Nat) : Reg := ⟨0x3010000C + 0x10000 * i, 0x0⟩
def CAN_DBT_BRP (i : Nat) : RFld := ⟨(CAN_DBT i), 31, 24⟩
def CAN_DBT_TSEG1 (i : Nat) : RFld := ⟨(CAN_DBT i), 23, 16⟩
def CAN_DBT_TSEG2 (i : Nat) : RFld := ⟨(CAN_DBT i), 14, 8⟩
def CAN_DBT_SJW (i : Nat) : RFld := ⟨(CAN_DBT i), 6, 0⟩
/-- CAN_XBT (R265). -/
def CAN_XBT (i : Nat) : Reg := ⟨0x30100010 + 0x10000 * i, 0x0⟩
def CAN_XBT_BRP (i : Nat) : RFld := ⟨(CAN_XBT i), 31, 24⟩
def CAN_XBT_TSEG1 (i : Nat) : RFld := ⟨(CAN_XBT i), 23, 16⟩
def CAN_XBT_TSEG2 (i : Nat) : RFld := ⟨(CAN_XBT i), 14, 8⟩
def CAN_XBT_SJW (i : Nat) : RFld := ⟨(CAN_XBT i), 6, 0⟩
/-- CAN_ERR (R265). -/
def CAN_ERR (i : Nat) : Reg := ⟨0x30100014 + 0x10000 * i, 0x0⟩
def CAN_ERR_REC (i : Nat) : RFld := ⟨(CAN_ERR i), 15, 8⟩
def CAN_ERR_TEC (i : Nat) : RFld := ⟨(CAN_ERR i), 7, 0⟩
/-- CAN_J1939 (R265). -/
def CAN_J1939 (i : Nat) : Reg := ⟨0x30100018 + 0x10000 * i, 0xFE⟩
def CAN_J1939_ADDR (i : Nat) : RFld := ⟨(CAN_J1939 i), 7, 0⟩
/-- CAN_CNT (R265). -/
def CAN_CNT (i : Nat) : Reg := ⟨0x3010001C + 0x10000 * i, 0x0⟩
def CAN_CNT_NOMATCH (i : Nat) : RFld := ⟨(CAN_CNT i), 31, 16⟩
def CAN_CNT_MERGED (i : Nat) : RFld := ⟨(CAN_CNT i), 15, 0⟩
/-- CAN_OSEL (R265). -/
def CAN_OSEL (i : Nat) : Reg := ⟨0x30100020 + 0x10000 * i, 0x0⟩
def CAN_OSEL_OBJ (i : Nat) : RFld := ⟨(CAN_OSEL i), 6, 0⟩
/-- CAN_OCMD (R265). -/
def CAN_OCMD (i : Nat) : Reg := ⟨0x30100024 + 0x10000 * i, 0x0⟩
def CAN_OCMD_CLRNEW (i : Nat) : RFld := ⟨(CAN_OCMD i), 3, 3⟩
def CAN_OCMD_COMMIT (i : Nat) : RFld := ⟨(CAN_OCMD i), 2, 2⟩
def CAN_OCMD_CANCEL (i : Nat) : RFld := ⟨(CAN_OCMD i), 1, 1⟩
def CAN_OCMD_TXREQ (i : Nat) : RFld := ⟨(CAN_OCMD i), 0, 0⟩
/-- CAN_ORES (R265). -/
def CAN_ORES (i : Nat) : Reg := ⟨0x30100028 + 0x10000 * i, 0x0⟩
def CAN_ORES_STATUS (i : Nat) : RFld := ⟨(CAN_ORES i), 7, 0⟩
/-- CAN_ODESC (R265). -/
def CAN_ODESC (i j : Nat) : Reg := ⟨0x30100030 + 0x10000 * i + 0x10 * j, 0x0⟩
def CAN_ODESC_V (i j : Nat) : RFld := ⟨(CAN_ODESC i j), 127, 0⟩
/-- CAN_OSTAT (R265). -/
def CAN_OSTAT (i : Nat) : Reg := ⟨0x30100050 + 0x10000 * i, 0x0⟩
def CAN_OSTAT_NEW (i : Nat) : RFld := ⟨(CAN_OSTAT i), 31, 31⟩
def CAN_OSTAT_STALE (i : Nat) : RFld := ⟨(CAN_OSTAT i), 30, 30⟩
def CAN_OSTAT_PENDING (i : Nat) : RFld := ⟨(CAN_OSTAT i), 29, 29⟩
def CAN_OSTAT_TXDONE (i : Nat) : RFld := ⟨(CAN_OSTAT i), 28, 28⟩
def CAN_OSTAT_LEN (i : Nat) : RFld := ⟨(CAN_OSTAT i), 27, 16⟩
def CAN_OSTAT_LOST (i : Nat) : RFld := ⟨(CAN_OSTAT i), 15, 8⟩
def CAN_OSTAT_STATUS (i : Nat) : RFld := ⟨(CAN_OSTAT i), 7, 0⟩
/-- CAN_OSTAMP (R265). -/
def CAN_OSTAMP (i : Nat) : Reg := ⟨0x30100060 + 0x10000 * i, 0x0⟩
def CAN_OSTAMP_STAMP (i : Nat) : RFld := ⟨(CAN_OSTAMP i), 63, 0⟩
/-- CAN_GWR (R265). -/
def CAN_GWR (i j k : Nat) : Reg := ⟨0x30102000 + 0x10000 * i + 0x40 * j + 0x10 * k, 0x0⟩
def CAN_GWR_V (i j k : Nat) : RFld := ⟨(CAN_GWR i j k), 127, 0⟩
/-- CAN_GWCFG (R265). -/
def CAN_GWCFG (i : Nat) : Reg := ⟨0x30102400 + 0x10000 * i, 0x0⟩
def CAN_GWCFG_EN (i : Nat) : RFld := ⟨(CAN_GWCFG i), 31, 31⟩
def CAN_GWCFG_BUSID (i : Nat) : RFld := ⟨(CAN_GWCFG i), 20, 16⟩
def CAN_GWCFG_HQ (i : Nat) : RFld := ⟨(CAN_GWCFG i), 7, 0⟩
/-- CAN_GWCNT (R265). -/
def CAN_GWCNT (i : Nat) : Reg := ⟨0x30102404 + 0x10000 * i, 0x0⟩
def CAN_GWCNT_DROP (i : Nat) : RFld := ⟨(CAN_GWCNT i), 31, 16⟩
def CAN_GWCNT_SENT (i : Nat) : RFld := ⟨(CAN_GWCNT i), 15, 0⟩

/-- The register map of the CAN block. -/
def rowsCAN : List RegRow :=
  [ ⟨0x30100000, [(65536, 12)], 32, 0x8000000, [], (.claim 7 1 0), 3, false, [⟨31, 31, .rw, []⟩, ⟨30, 30, .rw, []⟩, ⟨29, 29, .rw, []⟩, ⟨28, 28, .rw, []⟩, ⟨27, 27, .rw, []⟩, ⟨26, 26, .rw, []⟩, ⟨25, 25, .rw, []⟩, ⟨24, 24, .rw, []⟩, ⟨23, 23, .wo, []⟩, ⟨22, 22, .wo, []⟩]⟩,
    ⟨0x30100004, [(65536, 12)], 32, 0xC0000000, [], .all, 2, false, [⟨31, 30, .ro, []⟩, ⟨29, 29, .ro, []⟩, ⟨28, 28, .ro, []⟩, ⟨27, 27, .ro, []⟩, ⟨23, 16, .ro, []⟩, ⟨10, 8, .ro, []⟩, ⟨2, 2, .w1c, []⟩, ⟨1, 1, .w1c, []⟩, ⟨0, 0, .w1c, []⟩]⟩,
    ⟨0x30100008, [(65536, 12)], 32, 0x0, [], (.claim 7 1 0), 3, false, [⟨31, 24, .rw, []⟩, ⟨23, 16, .rw, []⟩, ⟨14, 8, .rw, []⟩, ⟨6, 0, .rw, []⟩]⟩,
    ⟨0x3010000C, [(65536, 12)], 32, 0x0, [], (.claim 7 1 0), 3, false, [⟨31, 24, .rw, []⟩, ⟨23, 16, .rw, []⟩, ⟨14, 8, .rw, []⟩, ⟨6, 0, .rw, []⟩]⟩,
    ⟨0x30100010, [(65536, 12)], 32, 0x0, [], (.claim 7 1 0), 3, false, [⟨31, 24, .rw, []⟩, ⟨23, 16, .rw, []⟩, ⟨14, 8, .rw, []⟩, ⟨6, 0, .rw, []⟩]⟩,
    ⟨0x30100014, [(65536, 12)], 32, 0x0, [], .all, 2, false, [⟨15, 8, .ro, []⟩, ⟨7, 0, .ro, []⟩]⟩,
    ⟨0x30100018, [(65536, 12)], 32, 0xFE, [], (.claim 7 1 0), 3, false, [⟨7, 0, .rw, []⟩]⟩,
    ⟨0x3010001C, [(65536, 12)], 32, 0x0, [], .all, 3, false, [⟨31, 16, .ro, []⟩, ⟨15, 0, .ro, []⟩]⟩,
    ⟨0x30100020, [(65536, 12)], 32, 0x0, [], .special, 2, false, [⟨6, 0, .rw, []⟩]⟩,
    ⟨0x30100024, [(65536, 12)], 32, 0x0, [], .special, 2, false, [⟨3, 3, .wo, []⟩, ⟨2, 2, .wo, []⟩, ⟨1, 1, .wo, []⟩, ⟨0, 0, .wo, []⟩]⟩,
    ⟨0x30100028, [(65536, 12)], 32, 0x0, [], .all, 2, false, [⟨7, 0, .ro, []⟩]⟩,
    ⟨0x30100030, [(65536, 12), (16, 2)], 128, 0x0, [], .special, 2, false, [⟨127, 0, .rw, []⟩]⟩ ] ++
  [ ⟨0x30100050, [(65536, 12)], 32, 0x0, [], .special, 2, false, [⟨31, 31, .ro, []⟩, ⟨30, 30, .ro, []⟩, ⟨29, 29, .ro, []⟩, ⟨28, 28, .ro, []⟩, ⟨27, 16, .ro, []⟩, ⟨15, 8, .ro, []⟩, ⟨7, 0, .ro, []⟩]⟩,
    ⟨0x30100060, [(65536, 12)], 128, 0x0, [], .special, 2, false, [⟨63, 0, .ro, []⟩]⟩,
    ⟨0x30102000, [(65536, 12), (64, 16), (16, 4)], 128, 0x0, [], (.claim 7 1 0), 3, false, [⟨127, 0, .rw, []⟩]⟩,
    ⟨0x30102400, [(65536, 12)], 32, 0x0, [], (.claim 7 1 0), 3, false, [⟨31, 31, .rw, []⟩, ⟨20, 16, .rw, []⟩, ⟨7, 0, .rw, []⟩]⟩,
    ⟨0x30102404, [(65536, 12)], 32, 0x0, [], .all, 3, false, [⟨31, 16, .ro, []⟩, ⟨15, 0, .ro, []⟩]⟩ ]

/-- LIN_CTL (R266). -/
def LIN_CTL (i : Nat) : Reg := ⟨0x30281000 + 0x1000 * i, 0x0⟩
def LIN_CTL_EN (i : Nat) : RFld := ⟨(LIN_CTL i), 31, 31⟩
def LIN_CTL_MODE (i : Nat) : RFld := ⟨(LIN_CTL i), 30, 30⟩
def LIN_CTL_SLEEP (i : Nat) : RFld := ⟨(LIN_CTL i), 29, 29⟩
def LIN_CTL_CLRCNT (i : Nat) : RFld := ⟨(LIN_CTL i), 28, 28⟩
def LIN_CTL_RATE (i : Nat) : RFld := ⟨(LIN_CTL i), 15, 0⟩
/-- LIN_STAT (R266). -/
def LIN_STAT (i : Nat) : Reg := ⟨0x30281004 + 0x1000 * i, 0x0⟩
def LIN_STAT_BUSY (i : Nat) : RFld := ⟨(LIN_STAT i), 31, 31⟩
def LIN_STAT_ASLEEP (i : Nat) : RFld := ⟨(LIN_STAT i), 30, 30⟩
def LIN_STAT_LASTERR (i : Nat) : RFld := ⟨(LIN_STAT i), 23, 16⟩
def LIN_STAT_ENTRY (i : Nat) : RFld := ⟨(LIN_STAT i), 15, 8⟩
def LIN_STAT_WAKE (i : Nat) : RFld := ⟨(LIN_STAT i), 2, 2⟩
def LIN_STAT_ERR (i : Nat) : RFld := ⟨(LIN_STAT i), 1, 1⟩
def LIN_STAT_NORESP (i : Nat) : RFld := ⟨(LIN_STAT i), 0, 0⟩
/-- LIN_SCH (R266). -/
def LIN_SCH (i : Nat) : Reg := ⟨0x30281008 + 0x1000 * i, 0x0⟩
def LIN_SCH_SCHEND (i : Nat) : RFld := ⟨(LIN_SCH i), 15, 8⟩
def LIN_SCH_SCHSTART (i : Nat) : RFld := ⟨(LIN_SCH i), 7, 0⟩
/-- LIN_CNT (R266). -/
def LIN_CNT (i : Nat) : Reg := ⟨0x3028100C + 0x1000 * i, 0x0⟩
def LIN_CNT_NORESP (i : Nat) : RFld := ⟨(LIN_CNT i), 31, 16⟩
def LIN_CNT_ERR (i : Nat) : RFld := ⟨(LIN_CNT i), 15, 8⟩
def LIN_CNT_LATE (i : Nat) : RFld := ⟨(LIN_CNT i), 7, 0⟩
/-- LIN_ENT (R266). -/
def LIN_ENT (i j : Nat) : Reg := ⟨0x30281400 + 0x1000 * i + 0x4 * j, 0x0⟩
def LIN_ENT_VALID (i j : Nat) : RFld := ⟨(LIN_ENT i j), 31, 31⟩
def LIN_ENT_PUB (i j : Nat) : RFld := ⟨(LIN_ENT i j), 30, 30⟩
def LIN_ENT_TYPE (i j : Nat) : RFld := ⟨(LIN_ENT i j), 29, 28⟩
def LIN_ENT_ENH (i j : Nat) : RFld := ⟨(LIN_ENT i j), 27, 27⟩
def LIN_ENT_LEN (i j : Nat) : RFld := ⟨(LIN_ENT i j), 26, 24⟩
def LIN_ENT_BUF (i j : Nat) : RFld := ⟨(LIN_ENT i j), 23, 18⟩
def LIN_ENT_SLOT (i j : Nat) : RFld := ⟨(LIN_ENT i j), 15, 6⟩
def LIN_ENT_FID (i j : Nat) : RFld := ⟨(LIN_ENT i j), 5, 0⟩
/-- LIN_BUF (R266). -/
def LIN_BUF (i j : Nat) : Reg := ⟨0x30281800 + 0x1000 * i + 0x10 * j, 0x0⟩
def LIN_BUF_COMMIT (i j : Nat) : RFld := ⟨(LIN_BUF i j), 73, 73⟩
def LIN_BUF_NEW (i j : Nat) : RFld := ⟨(LIN_BUF i j), 72, 72⟩
def LIN_BUF_STATUS (i j : Nat) : RFld := ⟨(LIN_BUF i j), 71, 64⟩
def LIN_BUF_DATA (i j : Nat) : RFld := ⟨(LIN_BUF i j), 63, 0⟩

/-- The register map of the LIN block. -/
def rowsLIN : List RegRow :=
  [ ⟨0x30281000, [(4096, 8)], 32, 0x0, [], (.claim 8 1 0), 3, false, [⟨31, 31, .rw, []⟩, ⟨30, 30, .rw, []⟩, ⟨29, 29, .wo, []⟩, ⟨28, 28, .wo, []⟩, ⟨15, 0, .rw, [(1000, 20000)]⟩]⟩,
    ⟨0x30281004, [(4096, 8)], 32, 0x0, [], .all, 2, false, [⟨31, 31, .ro, []⟩, ⟨30, 30, .ro, []⟩, ⟨23, 16, .ro, []⟩, ⟨15, 8, .ro, []⟩, ⟨2, 2, .w1c, []⟩, ⟨1, 1, .w1c, []⟩, ⟨0, 0, .w1c, []⟩]⟩,
    ⟨0x30281008, [(4096, 8)], 32, 0x0, [], (.claim 8 1 0), 3, false, [⟨15, 8, .rw, []⟩, ⟨7, 0, .rw, []⟩]⟩,
    ⟨0x3028100C, [(4096, 8)], 32, 0x0, [], .all, 3, false, [⟨31, 16, .ro, []⟩, ⟨15, 8, .ro, []⟩, ⟨7, 0, .ro, []⟩]⟩,
    ⟨0x30281400, [(4096, 8), (4, 256)], 32, 0x0, [], (.claim 8 1 0), 3, false, [⟨31, 31, .rw, []⟩, ⟨30, 30, .rw, []⟩, ⟨29, 28, .rw, []⟩, ⟨27, 27, .rw, []⟩, ⟨26, 24, .rw, []⟩, ⟨23, 18, .rw, []⟩, ⟨15, 6, .rw, []⟩, ⟨5, 0, .rw, []⟩]⟩,
    ⟨0x30281800, [(4096, 8), (16, 64)], 128, 0x0, [], (.claim 8 1 0), 3, false, [⟨73, 73, .wo, []⟩, ⟨72, 72, .ro, []⟩, ⟨71, 64, .ro, []⟩, ⟨63, 0, .rw, []⟩]⟩ ]

end Sys2Proof.Machine
end

