-- ==== Sys2Proof/Machine/RegsCoresAndPairs.lean ====
section
/-! DEFINITION. The registers of EVR, CMP as their register maps in spec/11_cores_and_pairs.md list them (R337, R338): one name for each register and each field, and one row for each in the map. -/

namespace Sys2Proof.Machine

/-- EVR_STAT (R338). -/
def EVR_STAT : Reg := ⟨0x30250000, 0x0⟩
def EVR_STAT_LASTERR : RFld := ⟨EVR_STAT, 31, 24⟩
def EVR_STAT_LOST : RFld := ⟨EVR_STAT, 15, 0⟩
/-- EVR_RAISE (R338). -/
def EVR_RAISE : Reg := ⟨0x30250010, 0x0⟩
def EVR_RAISE_EV : RFld := ⟨EVR_RAISE, 9, 0⟩
/-- EVR_ACK (R338). -/
def EVR_ACK : Reg := ⟨0x30250014, 0x0⟩
def EVR_ACK_EV : RFld := ⟨EVR_ACK, 9, 0⟩
/-- EVR_PEND (R338). -/
def EVR_PEND (i : Nat) : Reg := ⟨0x30250100 + 0x4 * i, 0x0⟩
def EVR_PEND_PEND (i : Nat) : RFld := ⟨(EVR_PEND i), 31, 0⟩
/-- EVR_RT (R338). -/
def EVR_RT (i : Nat) : Reg := ⟨0x30258000 + 0x20 * i, 0x0⟩
def EVR_RT_EN (i : Nat) : RFld := ⟨(EVR_RT i), 31, 31⟩
def EVR_RT_TGT (i : Nat) : RFld := ⟨(EVR_RT i), 30, 29⟩
def EVR_RT_CORE (i : Nat) : RFld := ⟨(EVR_RT i), 28, 26⟩
def EVR_RT_FILE (i : Nat) : RFld := ⟨(EVR_RT i), 25, 24⟩
def EVR_RT_GUEST (i : Nat) : RFld := ⟨(EVR_RT i), 23, 21⟩
def EVR_RT_VFN (i : Nat) : RFld := ⟨(EVR_RT i), 20, 15⟩
def EVR_RT_IID (i : Nat) : RFld := ⟨(EVR_RT i), 10, 0⟩
/-- EVR_ST (R338). -/
def EVR_ST (i : Nat) : Reg := ⟨0x30258004 + 0x20 * i, 0x0⟩
def EVR_ST_PEND (i : Nat) : RFld := ⟨(EVR_ST i), 31, 31⟩
def EVR_ST_LOST (i : Nat) : RFld := ⟨(EVR_ST i), 23, 16⟩
def EVR_ST_COAL (i : Nat) : RFld := ⟨(EVR_ST i), 15, 0⟩
/-- EVR_STAMP (R338). -/
def EVR_STAMP (i : Nat) : Reg := ⟨0x30258010 + 0x20 * i, 0x0⟩
def EVR_STAMP_FRC (i : Nat) : RFld := ⟨(EVR_STAMP i), 63, 0⟩

/-- The register map of the EVR block. -/
def rowsEVR : List RegRow :=
  [ ⟨0x30250000, [], 32, 0x0, [], .all, 3, false, [⟨31, 24, .ro, []⟩, ⟨15, 0, .ro, []⟩]⟩,
    ⟨0x30250010, [], 32, 0x0, [], .special, 3, false, [⟨9, 0, .wo, []⟩]⟩,
    ⟨0x30250014, [], 32, 0x0, [], .special, 3, false, [⟨9, 0, .wo, []⟩]⟩,
    ⟨0x30250100, [(4, 32)], 32, 0x0, [], .all, 3, false, [⟨31, 0, .ro, []⟩]⟩,
    ⟨0x30258000, [(32, 1024)], 32, 0x0, [], .special, 3, false, [⟨31, 31, .rw, []⟩, ⟨30, 29, .rw, []⟩, ⟨28, 26, .rw, []⟩, ⟨25, 24, .rw, []⟩, ⟨23, 21, .rw, []⟩, ⟨20, 15, .rw, []⟩, ⟨10, 0, .rw, []⟩]⟩,
    ⟨0x30258004, [(32, 1024)], 32, 0x0, [], .all, 3, false, [⟨31, 31, .ro, []⟩, ⟨23, 16, .ro, []⟩, ⟨15, 0, .ro, []⟩]⟩,
    ⟨0x30258010, [(32, 1024)], 128, 0x0, [], .all, 3, false, [⟨63, 0, .ro, []⟩]⟩ ]

/-- CMP_CTL (R337). -/
def CMP_CTL : Reg := ⟨0x301E0000, 0x0⟩
def CMP_CTL_CLRCNT : RFld := ⟨CMP_CTL, 0, 0⟩
/-- CMP_SCWAY (R337). -/
def CMP_SCWAY (i : Nat) : Reg := ⟨0x301E0010 + 0x4 * i, 0xFFFF⟩
def CMP_SCWAY_WAYS (i : Nat) : RFld := ⟨(CMP_SCWAY i), 15, 0⟩
/-- CMP_P_STAT (R337). -/
def CMP_P_STAT (i : Nat) : Reg := ⟨0x301E0100 + 0x40 * i, 0x0⟩
def CMP_P_STAT_BADLANE (i : Nat) : RFld := ⟨(CMP_P_STAT i), 23, 12⟩
def CMP_P_STAT_HELD (i : Nat) : RFld := ⟨(CMP_P_STAT i), 6, 6⟩
def CMP_P_STAT_MMREACH (i : Nat) : RFld := ⟨(CMP_P_STAT i), 5, 5⟩
def CMP_P_STAT_HALTED (i : Nat) : RFld := ⟨(CMP_P_STAT i), 4, 4⟩
def CMP_P_STAT_BARRED (i : Nat) : RFld := ⟨(CMP_P_STAT i), 3, 3⟩
def CMP_P_STAT_TESTOK (i : Nat) : RFld := ⟨(CMP_P_STAT i), 2, 2⟩
def CMP_P_STAT_TESTRUN (i : Nat) : RFld := ⟨(CMP_P_STAT i), 1, 1⟩
def CMP_P_STAT_MODE (i : Nat) : RFld := ⟨(CMP_P_STAT i), 0, 0⟩
/-- CMP_P_CNT (R337). -/
def CMP_P_CNT (i : Nat) : Reg := ⟨0x301E0104 + 0x40 * i, 0x0⟩
def CMP_P_CNT_MM (i : Nat) : RFld := ⟨(CMP_P_CNT i), 31, 16⟩
def CMP_P_CNT_INJOK (i : Nat) : RFld := ⟨(CMP_P_CNT i), 15, 0⟩
/-- CMP_P_INJ (R337). -/
def CMP_P_INJ (i : Nat) : Reg := ⟨0x301E0108 + 0x40 * i, 0x0⟩
def CMP_P_INJ_GO (i : Nat) : RFld := ⟨(CMP_P_INJ i), 31, 31⟩
def CMP_P_INJ_LANE (i : Nat) : RFld := ⟨(CMP_P_INJ i), 11, 0⟩
/-- CMP_P_INJRES (R337). -/
def CMP_P_INJRES (i : Nat) : Reg := ⟨0x301E010C + 0x40 * i, 0x80000000⟩
def CMP_P_INJRES_DONE (i : Nat) : RFld := ⟨(CMP_P_INJRES i), 31, 31⟩
def CMP_P_INJRES_CAUGHT (i : Nat) : RFld := ⟨(CMP_P_INJRES i), 30, 30⟩
def CMP_P_INJRES_STATUS (i : Nat) : RFld := ⟨(CMP_P_INJRES i), 23, 16⟩
def CMP_P_INJRES_LANE (i : Nat) : RFld := ⟨(CMP_P_INJRES i), 11, 0⟩
/-- CMP_P_MM (R337). -/
def CMP_P_MM (i : Nat) : Reg := ⟨0x301E0110 + 0x40 * i, 0x0⟩
def CMP_P_MM_VALID (i : Nat) : RFld := ⟨(CMP_P_MM i), 127, 127⟩
def CMP_P_MM_INJFAIL (i : Nat) : RFld := ⟨(CMP_P_MM i), 126, 126⟩
def CMP_P_MM_LANE (i : Nat) : RFld := ⟨(CMP_P_MM i), 123, 112⟩
def CMP_P_MM_NLANES (i : Nat) : RFld := ⟨(CMP_P_MM i), 111, 100⟩
def CMP_P_MM_PC (i : Nat) : RFld := ⟨(CMP_P_MM i), 99, 64⟩
def CMP_P_MM_FRC (i : Nat) : RFld := ⟨(CMP_P_MM i), 63, 0⟩
/-- CMP_P_MMCLR (R337). -/
def CMP_P_MMCLR (i : Nat) : Reg := ⟨0x301E0120 + 0x40 * i, 0x0⟩
def CMP_P_MMCLR_CLR (i : Nat) : RFld := ⟨(CMP_P_MMCLR i), 0, 0⟩
/-- CMP_C_ECC (R337). -/
def CMP_C_ECC (i : Nat) : Reg := ⟨0x301E0800 + 0x20 * i, 0x0⟩
def CMP_C_ECC_CORR (i : Nat) : RFld := ⟨(CMP_C_ECC i), 31, 16⟩
def CMP_C_ECC_UNCORR (i : Nat) : RFld := ⟨(CMP_C_ECC i), 15, 0⟩
/-- CMP_C_BERR (R337). -/
def CMP_C_BERR (i : Nat) : Reg := ⟨0x301E0810 + 0x20 * i, 0x0⟩
def CMP_C_BERR_ADDR (i : Nat) : RFld := ⟨(CMP_C_BERR i), 39, 0⟩
def CMP_C_BERR_STATUS (i : Nat) : RFld := ⟨(CMP_C_BERR i), 47, 40⟩
def CMP_C_BERR_FRC (i : Nat) : RFld := ⟨(CMP_C_BERR i), 127, 64⟩

/-- The register map of the CMP block. -/
def rowsCMP : List RegRow :=
  [ ⟨0x301E0000, [], 32, 0x0, [], (.worlds [2]), 3, false, [⟨0, 0, .wo, []⟩]⟩,
    ⟨0x301E0010, [(4, 5)], 32, 0xFFFF, [], (.worlds [0]), 4, false, [⟨15, 0, .rwb, [(1, 65535)]⟩]⟩,
    ⟨0x301E0100, [(64, 4)], 32, 0x0, [], (.worlds [2]), 3, false, [⟨23, 12, .ro, []⟩, ⟨6, 6, .ro, []⟩, ⟨5, 5, .ro, []⟩, ⟨4, 4, .ro, []⟩, ⟨3, 3, .ro, []⟩, ⟨2, 2, .ro, []⟩, ⟨1, 1, .ro, []⟩, ⟨0, 0, .ro, []⟩]⟩,
    ⟨0x301E0104, [(64, 4)], 32, 0x0, [], (.worlds [2]), 4, false, [⟨31, 16, .ro, []⟩, ⟨15, 0, .ro, []⟩]⟩,
    ⟨0x301E0108, [(64, 4)], 32, 0x0, [], (.worlds [2]), 3, false, [⟨31, 31, .wo, []⟩, ⟨11, 0, .wo, []⟩]⟩,
    ⟨0x301E010C, [(64, 4)], 32, 0x80000000, [], (.worlds [2]), 3, false, [⟨31, 31, .ro, []⟩, ⟨30, 30, .ro, []⟩, ⟨23, 16, .ro, []⟩, ⟨11, 0, .ro, []⟩]⟩,
    ⟨0x301E0110, [(64, 4)], 128, 0x0, [], (.worlds [2]), 4, false, [⟨127, 127, .ro, []⟩, ⟨126, 126, .ro, []⟩, ⟨123, 112, .ro, []⟩, ⟨111, 100, .ro, []⟩, ⟨99, 64, .ro, []⟩, ⟨63, 0, .ro, []⟩]⟩,
    ⟨0x301E0120, [(64, 4)], 32, 0x0, [], (.worlds [2]), 3, false, [⟨0, 0, .wo, []⟩]⟩,
    ⟨0x301E0800, [(32, 8)], 32, 0x0, [], .all, 4, false, [⟨31, 16, .ro, []⟩, ⟨15, 0, .ro, []⟩]⟩,
    ⟨0x301E0810, [(32, 8)], 128, 0x0, [], .all, 4, false, [⟨39, 0, .ro, []⟩, ⟨47, 40, .ro, []⟩, ⟨127, 64, .ro, []⟩]⟩ ]

end Sys2Proof.Machine
end

