-- ==== Sys2Proof/Machine/RegsDunymerDictionary.lean ====
section
/-! DEFINITION. The registers of DDP as their register maps in spec/14_dunymer_dictionary.md list them (R401, R406, R410): one name for each register and each field, and one row for each in the map. -/

namespace Sys2Proof.Machine

/-- DDP_CTL (R410). -/
def DDP_CTL : Reg := ⟨0x30210000, 0x1⟩
def DDP_CTL_CLRCNT : RFld := ⟨DDP_CTL, 4, 4⟩
def DDP_CTL_HBEN : RFld := ⟨DDP_CTL, 3, 3⟩
def DDP_CTL_CANEN : RFld := ⟨DDP_CTL, 2, 2⟩
def DDP_CTL_UDPEN : RFld := ⟨DDP_CTL, 1, 1⟩
def DDP_CTL_EN : RFld := ⟨DDP_CTL, 0, 0⟩
/-- DDP_STAT (R410). -/
def DDP_STAT : Reg := ⟨0x30210004, 0x0⟩
def DDP_STAT_LASTERR : RFld := ⟨DDP_STAT, 31, 24⟩
def DDP_STAT_SESSIONS : RFld := ⟨DDP_STAT, 23, 17⟩
def DDP_STAT_XFERS : RFld := ⟨DDP_STAT, 16, 12⟩
def DDP_STAT_RESTRICT : RFld := ⟨DDP_STAT, 2, 2⟩
def DDP_STAT_PERSFAIL : RFld := ⟨DDP_STAT, 1, 1⟩
def DDP_STAT_AUTHFAIL : RFld := ⟨DDP_STAT, 0, 0⟩
/-- DDP_SNI (R410). -/
def DDP_SNI : Reg := ⟨0x30210008, 0x0⟩
def DDP_SNI_SNI : RFld := ⟨DDP_SNI, 17, 0⟩
/-- DDP_LIM (R410). -/
def DDP_LIM : Reg := ⟨0x3021000C, 0x1F43230⟩
def DDP_LIM_STO : RFld := ⟨DDP_LIM, 31, 16⟩
def DDP_LIM_FWTO : RFld := ⟨DDP_LIM, 15, 8⟩
def DDP_LIM_CREDIT : RFld := ⟨DDP_LIM, 7, 4⟩
/-- DDP_SLEASE (R410). -/
def DDP_SLEASE : Reg := ⟨0x30210010, 0x1E⟩
def DDP_SLEASE_S : RFld := ⟨DDP_SLEASE, 11, 0⟩
/-- DDP_HB (R410). -/
def DDP_HB : Reg := ⟨0x30210014, 0x0⟩
def DDP_HB_BUF : RFld := ⟨DDP_HB, 8, 0⟩
/-- DDP_CNT0 (R410). -/
def DDP_CNT0 : Reg := ⟨0x30210018, 0x0⟩
def DDP_CNT0_OK : RFld := ⟨DDP_CNT0, 31, 16⟩
def DDP_CNT0_REFUSED : RFld := ⟨DDP_CNT0, 15, 0⟩
/-- DDP_CNT1 (R410). -/
def DDP_CNT1 : Reg := ⟨0x3021001C, 0x0⟩
def DDP_CNT1_MALFORMED : RFld := ⟨DDP_CNT1, 31, 16⟩
def DDP_CNT1_ABORTS : RFld := ⟨DDP_CNT1, 15, 8⟩
def DDP_CNT1_TAGFAIL : RFld := ⟨DDP_CNT1, 7, 0⟩
/-- DDP_MAC (R410). -/
def DDP_MAC : Reg := ⟨0x30210020, 0x0⟩
def DDP_MAC_ADDR : RFld := ⟨DDP_MAC, 47, 0⟩
/-- DDP_IP4 (R410). -/
def DDP_IP4 : Reg := ⟨0x30210030, 0x0⟩
def DDP_IP4_ADDR : RFld := ⟨DDP_IP4, 31, 0⟩
/-- DDP_IP6 (R410). -/
def DDP_IP6 : Reg := ⟨0x30210040, 0x0⟩
def DDP_IP6_ADDR : RFld := ⟨DDP_IP6, 127, 0⟩
/-- DDP_RQ (R401). -/
def DDP_RQ (i : Nat) : Reg := ⟨0x30210100 + 0x10 * i, 0x0⟩
def DDP_RQ_VALID (i : Nat) : RFld := ⟨(DDP_RQ i), 127, 127⟩
def DDP_RQ_AUTH (i : Nat) : RFld := ⟨(DDP_RQ i), 126, 126⟩
def DDP_RQ_ANYSNI (i : Nat) : RFld := ⟨(DDP_RQ i), 125, 125⟩
def DDP_RQ_WORLDS (i : Nat) : RFld := ⟨(DDP_RQ i), 124, 120⟩
def DDP_RQ_WDEF (i : Nat) : RFld := ⟨(DDP_RQ i), 119, 117⟩
def DDP_RQ_KSLOT (i : Nat) : RFld := ⟨(DDP_RQ i), 115, 106⟩
def DDP_RQ_KIND (i : Nat) : RFld := ⟨(DDP_RQ i), 95, 92⟩
def DDP_RQ_LINK (i : Nat) : RFld := ⟨(DDP_RQ i), 91, 88⟩
def DDP_RQ_PEER (i : Nat) : RFld := ⟨(DDP_RQ i), 17, 0⟩
/-- DDP_CL (R410). -/
def DDP_CL (i : Nat) : Reg := ⟨0x30210600 + 0x10 * i, 0x0⟩
def DDP_CL_EN (i : Nat) : RFld := ⟨(DDP_CL i), 127, 127⟩
def DDP_CL_XL (i : Nat) : RFld := ⟨(DDP_CL i), 126, 126⟩
def DDP_CL_CTRL (i : Nat) : RFld := ⟨(DDP_CL i), 123, 120⟩
def DDP_CL_RXO (i : Nat) : RFld := ⟨(DDP_CL i), 118, 112⟩
def DDP_CL_TXO (i : Nat) : RFld := ⟨(DDP_CL i), 110, 104⟩
def DDP_CL_TXID (i : Nat) : RFld := ⟨(DDP_CL i), 28, 0⟩
/-- DDP_FWQ_BASE (R410). -/
def DDP_FWQ_BASE (i : Nat) : Reg := ⟨0x30210840 + 0x40 * i, 0x0⟩
def DDP_FWQ_BASE_RING (i : Nat) : RFld := ⟨(DDP_FWQ_BASE i), 39, 0⟩
/-- DDP_FWQ_BUF (R410). -/
def DDP_FWQ_BUF (i : Nat) : Reg := ⟨0x30210850 + 0x40 * i, 0x0⟩
def DDP_FWQ_BUF_BUF (i : Nat) : RFld := ⟨(DDP_FWQ_BUF i), 39, 0⟩
/-- DDP_FWQ_CFG (R410). -/
def DDP_FWQ_CFG (i : Nat) : Reg := ⟨0x30210860 + 0x40 * i, 0x4⟩
def DDP_FWQ_CFG_EN (i : Nat) : RFld := ⟨(DDP_FWQ_CFG i), 31, 31⟩
def DDP_FWQ_CFG_LOG2N (i : Nat) : RFld := ⟨(DDP_FWQ_CFG i), 3, 0⟩
/-- DDP_FWQ_PI (R410). -/
def DDP_FWQ_PI (i : Nat) : Reg := ⟨0x30210864 + 0x40 * i, 0x0⟩
def DDP_FWQ_PI_N (i : Nat) : RFld := ⟨(DDP_FWQ_PI i), 31, 0⟩
/-- DDP_FWQ_CI (R410). -/
def DDP_FWQ_CI (i : Nat) : Reg := ⟨0x30210868 + 0x40 * i, 0x0⟩
def DDP_FWQ_CI_N (i : Nat) : RFld := ⟨(DDP_FWQ_CI i), 31, 0⟩
/-- DDP_FWQ_CNT (R410). -/
def DDP_FWQ_CNT (i : Nat) : Reg := ⟨0x3021086C + 0x40 * i, 0x0⟩
def DDP_FWQ_CNT_TIMEOUTS (i : Nat) : RFld := ⟨(DDP_FWQ_CNT i), 31, 0⟩
/-- SES_HDR (R406). -/
def SES_HDR (i : Nat) : Reg := ⟨0x30214000 + 0x40 * i, 0x0⟩
def SES_HDR_H (i : Nat) : RFld := ⟨(SES_HDR i), 127, 0⟩
/-- SES_HDR2 (R406). -/
def SES_HDR2 (i : Nat) : Reg := ⟨0x30214010 + 0x40 * i, 0x0⟩
def SES_HDR2_H (i : Nat) : RFld := ⟨(SES_HDR2 i), 31, 0⟩
/-- SES_GO (R406). -/
def SES_GO (i : Nat) : Reg := ⟨0x30214014 + 0x40 * i, 0x0⟩
def SES_GO_ANY (i : Nat) : RFld := ⟨(SES_GO i), 31, 0⟩
/-- SES_RES (R406). -/
def SES_RES (i : Nat) : Reg := ⟨0x30214018 + 0x40 * i, 0x0⟩
def SES_RES_BUSY (i : Nat) : RFld := ⟨(SES_RES i), 31, 31⟩
def SES_RES_STATUS (i : Nat) : RFld := ⟨(SES_RES i), 23, 16⟩
/-- SES_BUF (R406). -/
def SES_BUF (i : Nat) : Reg := ⟨0x30214020 + 0x40 * i, 0x0⟩
def SES_BUF_ADDR (i : Nat) : RFld := ⟨(SES_BUF i), 39, 0⟩
def SES_BUF_LEN (i : Nat) : RFld := ⟨(SES_BUF i), 127, 96⟩
def SES_BUF_RESLEN (i : Nat) : RFld := ⟨(SES_BUF i), 95, 64⟩

/-- The register map of the DDP block. -/
def rowsDDP : List RegRow :=
  [ ⟨0x30210000, [], 32, 0x1, [], (.worlds [1]), 5, false, [⟨4, 4, .wo, []⟩, ⟨3, 3, .rw, []⟩, ⟨2, 2, .rw, []⟩, ⟨1, 1, .rw, []⟩, ⟨0, 0, .rw, []⟩]⟩,
    ⟨0x30210004, [], 32, 0x0, [], .all, 3, false, [⟨31, 24, .ro, []⟩, ⟨23, 17, .ro, []⟩, ⟨16, 12, .ro, []⟩, ⟨2, 2, .ro, []⟩, ⟨1, 1, .w1c, []⟩, ⟨0, 0, .w1c, []⟩]⟩,
    ⟨0x30210008, [], 32, 0x0, [], .all, 5, false, [⟨17, 0, .ro, []⟩]⟩,
    ⟨0x3021000C, [], 32, 0x1F43230, [], (.worlds [1]), 5, false, [⟨31, 16, .rw, [(10, 65535)]⟩, ⟨15, 8, .rw, [(1, 255)]⟩, ⟨7, 4, .rw, []⟩]⟩,
    ⟨0x30210010, [], 32, 0x1E, [], (.worlds [1]), 5, false, [⟨11, 0, .rw, [(1, 3600)]⟩]⟩,
    ⟨0x30210014, [], 32, 0x0, [], (.worlds [1]), 5, false, [⟨8, 0, .rw, []⟩]⟩,
    ⟨0x30210018, [], 32, 0x0, [], .all, 3, false, [⟨31, 16, .ro, []⟩, ⟨15, 0, .ro, []⟩]⟩,
    ⟨0x3021001C, [], 32, 0x0, [], .all, 3, false, [⟨31, 16, .ro, []⟩, ⟨15, 8, .ro, []⟩, ⟨7, 0, .ro, []⟩]⟩,
    ⟨0x30210020, [], 128, 0x0, [], (.worlds [1]), 5, false, [⟨47, 0, .rw, []⟩]⟩,
    ⟨0x30210030, [], 32, 0x0, [], (.worlds [1]), 5, false, [⟨31, 0, .rw, []⟩]⟩,
    ⟨0x30210040, [], 128, 0x0, [], (.worlds [1]), 5, false, [⟨127, 0, .rw, []⟩]⟩,
    ⟨0x30210100, [(16, 64)], 128, 0x0, [], (.worlds [1]), 5, false, [⟨127, 127, .rw, []⟩, ⟨126, 126, .rw, []⟩, ⟨125, 125, .rw, []⟩, ⟨124, 120, .rw, []⟩, ⟨119, 117, .rw, [(0, 4)]⟩, ⟨115, 106, .rw, []⟩, ⟨95, 92, .rw, [(0, 3)]⟩, ⟨91, 88, .rw, []⟩, ⟨17, 0, .rw, []⟩]⟩ ] ++
  [ ⟨0x30210600, [(16, 16)], 128, 0x0, [], (.worlds [1]), 5, false, [⟨127, 127, .rw, []⟩, ⟨126, 126, .rw, []⟩, ⟨123, 120, .rw, [(0, 11)]⟩, ⟨118, 112, .rw, []⟩, ⟨110, 104, .rw, []⟩, ⟨28, 0, .rw, []⟩]⟩,
    ⟨0x30210840, [(64, 4)], 128, 0x0, [], .special, 3, false, [⟨39, 0, .rw, []⟩]⟩,
    ⟨0x30210850, [(64, 4)], 128, 0x0, [], .special, 3, false, [⟨39, 0, .rw, []⟩]⟩,
    ⟨0x30210860, [(64, 4)], 32, 0x4, [], .special, 3, false, [⟨31, 31, .rw, []⟩, ⟨3, 0, .rw, [(4, 10)]⟩]⟩,
    ⟨0x30210864, [(64, 4)], 32, 0x0, [], .special, 3, false, [⟨31, 0, .ro, []⟩]⟩,
    ⟨0x30210868, [(64, 4)], 32, 0x0, [], .special, 3, false, [⟨31, 0, .rw, []⟩]⟩,
    ⟨0x3021086C, [(64, 4)], 32, 0x0, [], .special, 3, false, [⟨31, 0, .ro, []⟩]⟩,
    ⟨0x30214000, [(64, 64)], 128, 0x0, [], .special, 3, false, [⟨127, 0, .rw, []⟩]⟩,
    ⟨0x30214010, [(64, 64)], 32, 0x0, [], .special, 3, false, [⟨31, 0, .rw, []⟩]⟩,
    ⟨0x30214014, [(64, 64)], 32, 0x0, [], .special, 3, false, [⟨31, 0, .wo, []⟩]⟩,
    ⟨0x30214018, [(64, 64)], 32, 0x0, [], .special, 3, false, [⟨31, 31, .ro, []⟩, ⟨23, 16, .ro, []⟩]⟩,
    ⟨0x30214020, [(64, 64)], 128, 0x0, [], .special, 3, false, [⟨39, 0, .rw, []⟩, ⟨127, 96, .rw, []⟩, ⟨95, 64, .ro, []⟩]⟩ ]

end Sys2Proof.Machine
end

