-- ==== Sys2Proof/Machine/RegsEthernetSwitch.lean ====
section
/-! DEFINITION. The registers of ESW as their register maps in spec/06_ethernet_switch.md list them (R210): one name for each register and each field, and one row for each in the map. -/

namespace Sys2Proof.Machine

/-- ESW_CTL (R210). -/
def ESW_CTL : Reg := ⟨0x30080000, 0x8000C⟩
def ESW_CTL_LOWWAT : RFld := ⟨ESW_CTL, 23, 8⟩
def ESW_CTL_CTGLOB : RFld := ⟨ESW_CTL, 3, 3⟩
def ESW_CTL_LEARN : RFld := ⟨ESW_CTL, 2, 2⟩
def ESW_CTL_FLUSHDYN : RFld := ⟨ESW_CTL, 1, 1⟩
def ESW_CTL_EN : RFld := ⟨ESW_CTL, 0, 0⟩
/-- ESW_STAT (R210). -/
def ESW_STAT : Reg := ⟨0x30080004, 0xC0000000⟩
def ESW_STAT_FREE : RFld := ⟨ESW_STAT, 31, 16⟩
def ESW_STAT_TBLBUSY : RFld := ⟨ESW_STAT, 4, 4⟩
def ESW_STAT_LOW : RFld := ⟨ESW_STAT, 3, 3⟩
def ESW_STAT_PUSHED : RFld := ⟨ESW_STAT, 2, 2⟩
def ESW_STAT_TAILDROP : RFld := ⟨ESW_STAT, 1, 1⟩
def ESW_STAT_RUN : RFld := ⟨ESW_STAT, 0, 0⟩
/-- ESW_ADM (R210). -/
def ESW_ADM (i : Nat) : Reg := ⟨0x30080010 + 0x4 * i, (if i = 0 then 0x700 else if i = 1 then 0x600 else if i = 2 then 0x500 else if i = 3 then 0x400 else if i = 4 then 0x300 else if i = 5 then 0x200 else if i = 6 then 0x100 else if i = 7 then 0x0 else 0x0)⟩
def ESW_ADM_MIN (i : Nat) : RFld := ⟨(ESW_ADM i), 15, 0⟩
/-- ESW_AGE (R210). -/
def ESW_AGE : Reg := ⟨0x30080040, 0x12C⟩
def ESW_AGE_S : RFld := ⟨ESW_AGE, 15, 0⟩
/-- ESW_CNT (R210). -/
def ESW_CNT : Reg := ⟨0x30080044, 0x0⟩
def ESW_CNT_TAILDROP : RFld := ⟨ESW_CNT, 31, 16⟩
def ESW_CNT_LEARNFAIL : RFld := ⟨ESW_CNT, 15, 0⟩
/-- ESW_TBL_CMD (R210). -/
def ESW_TBL_CMD : Reg := ⟨0x30080050, 0x0⟩
def ESW_TBL_CMD_BUSY : RFld := ⟨ESW_TBL_CMD, 31, 31⟩
def ESW_TBL_CMD_OP : RFld := ⟨ESW_TBL_CMD, 30, 28⟩
def ESW_TBL_CMD_TABLE : RFld := ⟨ESW_TBL_CMD, 27, 24⟩
def ESW_TBL_CMD_STATUS : RFld := ⟨ESW_TBL_CMD, 23, 16⟩
def ESW_TBL_CMD_INDEX : RFld := ⟨ESW_TBL_CMD, 13, 0⟩
/-- ESW_TBL_KEY (R210). -/
def ESW_TBL_KEY : Reg := ⟨0x30080060, 0x0⟩
def ESW_TBL_KEY_K : RFld := ⟨ESW_TBL_KEY, 127, 0⟩
/-- ESW_TBL_DATA (R210). -/
def ESW_TBL_DATA : Reg := ⟨0x30080070, 0x0⟩
def ESW_TBL_DATA_D : RFld := ⟨ESW_TBL_DATA, 127, 0⟩
/-- ESW_P_CFG (R210). -/
def ESW_P_CFG (i : Nat) : Reg := ⟨0x30090000 + 0x400 * i, 0x64000001⟩
def ESW_P_CFG_EN (i : Nat) : RFld := ⟨(ESW_P_CFG i), 31, 31⟩
def ESW_P_CFG_CT (i : Nat) : RFld := ⟨(ESW_P_CFG i), 30, 30⟩
def ESW_P_CFG_LEARN (i : Nat) : RFld := ⟨(ESW_P_CFG i), 29, 29⟩
def ESW_P_CFG_ACCEPT (i : Nat) : RFld := ⟨(ESW_P_CFG i), 28, 27⟩
def ESW_P_CFG_INGFLT (i : Nat) : RFld := ⟨(ESW_P_CFG i), 26, 26⟩
def ESW_P_CFG_TSEN (i : Nat) : RFld := ⟨(ESW_P_CFG i), 25, 25⟩
def ESW_P_CFG_CLRCNT (i : Nat) : RFld := ⟨(ESW_P_CFG i), 24, 24⟩
def ESW_P_CFG_DEFCLS (i : Nat) : RFld := ⟨(ESW_P_CFG i), 23, 21⟩
def ESW_P_CFG_PVID (i : Nat) : RFld := ⟨(ESW_P_CFG i), 11, 0⟩
/-- ESW_P_STAT (R210). -/
def ESW_P_STAT (i : Nat) : Reg := ⟨0x30090004 + 0x400 * i, 0x0⟩
def ESW_P_STAT_LINK (i : Nat) : RFld := ⟨(ESW_P_STAT i), 31, 31⟩
def ESW_P_STAT_RATE (i : Nat) : RFld := ⟨(ESW_P_STAT i), 30, 28⟩
def ESW_P_STAT_SQI (i : Nat) : RFld := ⟨(ESW_P_STAT i), 27, 25⟩
def ESW_P_STAT_CLAIMHB (i : Nat) : RFld := ⟨(ESW_P_STAT i), 24, 24⟩
def ESW_P_STAT_LASTERR (i : Nat) : RFld := ⟨(ESW_P_STAT i), 23, 16⟩
def ESW_P_STAT_TXOVR (i : Nat) : RFld := ⟨(ESW_P_STAT i), 4, 4⟩
def ESW_P_STAT_STOMP (i : Nat) : RFld := ⟨(ESW_P_STAT i), 3, 3⟩
def ESW_P_STAT_BADRX (i : Nat) : RFld := ⟨(ESW_P_STAT i), 2, 2⟩
def ESW_P_STAT_DROP (i : Nat) : RFld := ⟨(ESW_P_STAT i), 1, 1⟩
def ESW_P_STAT_LINKCHG (i : Nat) : RFld := ⟨(ESW_P_STAT i), 0, 0⟩
/-- ESW_P_MAXFRM (R210). -/
def ESW_P_MAXFRM (i : Nat) : Reg := ⟨0x30090008 + 0x400 * i, 0x5F2⟩
def ESW_P_MAXFRM_N (i : Nat) : RFld := ⟨(ESW_P_MAXFRM i), 13, 0⟩
/-- ESW_P_PCPMAP (R210). -/
def ESW_P_PCPMAP (i : Nat) : Reg := ⟨0x3009000C + 0x400 * i, 0xFAC681⟩
def ESW_P_PCPMAP_MAP (i : Nat) : RFld := ⟨(ESW_P_PCPMAP i), 31, 0⟩
/-- ESW_P_GATE (R210). -/
def ESW_P_GATE (i : Nat) : Reg := ⟨0x30090010 + 0x400 * i, 0xFFFF⟩
def ESW_P_GATE_INIT (i : Nat) : RFld := ⟨(ESW_P_GATE i), 15, 8⟩
def ESW_P_GATE_NOW (i : Nat) : RFld := ⟨(ESW_P_GATE i), 7, 0⟩
/-- ESW_P_QCFG (R210). -/
def ESW_P_QCFG (i j : Nat) : Reg := ⟨0x30090020 + 0x400 * i + 0x8 * j, 0x20000000⟩
def ESW_P_QCFG_QMAX (i j : Nat) : RFld := ⟨(ESW_P_QCFG i j), 31, 16⟩
def ESW_P_QCFG_QMAXSDU (i j : Nat) : RFld := ⟨(ESW_P_QCFG i j), 13, 0⟩
/-- ESW_P_QSTAT (R210). -/
def ESW_P_QSTAT (i j : Nat) : Reg := ⟨0x30090024 + 0x400 * i + 0x8 * j, 0x0⟩
def ESW_P_QSTAT_CELLS (i j : Nat) : RFld := ⟨(ESW_P_QSTAT i j), 31, 16⟩
def ESW_P_QSTAT_FRAMES (i j : Nat) : RFld := ⟨(ESW_P_QSTAT i j), 15, 0⟩
/-- ESW_P_CBS (R210). -/
def ESW_P_CBS (i j : Nat) : Reg := ⟨0x30090060 + 0x400 * i + 0x4 * j, 0x0⟩
def ESW_P_CBS_EN (i j : Nat) : RFld := ⟨(ESW_P_CBS i j), 31, 31⟩
def ESW_P_CBS_IDLE (i j : Nat) : RFld := ⟨(ESW_P_CBS i j), 23, 0⟩
/-- ESW_P_CNT (R210). -/
def ESW_P_CNT (i j : Nat) : Reg := ⟨0x30090080 + 0x400 * i + 0x4 * j, 0x0⟩
def ESW_P_CNT_N (i j : Nat) : RFld := ⟨(ESW_P_CNT i j), 31, 0⟩
/-- ESW_P_MIRCFG (R210). -/
def ESW_P_MIRCFG (i : Nat) : Reg := ⟨0x300900C0 + 0x400 * i, 0x0⟩
def ESW_P_MIRCFG_IMIR (i : Nat) : RFld := ⟨(ESW_P_MIRCFG i), 31, 31⟩
def ESW_P_MIRCFG_EMIR (i : Nat) : RFld := ⟨(ESW_P_MIRCFG i), 30, 30⟩
def ESW_P_MIRCFG_ISMP (i : Nat) : RFld := ⟨(ESW_P_MIRCFG i), 29, 29⟩
def ESW_P_MIRCFG_ESMP (i : Nat) : RFld := ⟨(ESW_P_MIRCFG i), 28, 28⟩
def ESW_P_MIRCFG_NSAMP (i : Nat) : RFld := ⟨(ESW_P_MIRCFG i), 15, 0⟩
/-- ESW_P_TSFIFO (R210). -/
def ESW_P_TSFIFO (i : Nat) : Reg := ⟨0x300900D0 + 0x400 * i, 0x0⟩
def ESW_P_TSFIFO_REC (i : Nat) : RFld := ⟨(ESW_P_TSFIFO i), 127, 0⟩
/-- ESW_P_MSEC (R210). -/
def ESW_P_MSEC (i : Nat) : Reg := ⟨0x30090100 + 0x400 * i, 0x0⟩
def ESW_P_MSEC_REPLAY (i : Nat) : RFld := ⟨(ESW_P_MSEC i), 3, 3⟩
def ESW_P_MSEC_VALIDATE (i : Nat) : RFld := ⟨(ESW_P_MSEC i), 2, 1⟩
def ESW_P_MSEC_EN (i : Nat) : RFld := ⟨(ESW_P_MSEC i), 0, 0⟩
/-- ESW_P_MSWIN (R210). -/
def ESW_P_MSWIN (i : Nat) : Reg := ⟨0x30090104 + 0x400 * i, 0x0⟩
def ESW_P_MSWIN_WIN (i : Nat) : RFld := ⟨(ESW_P_MSWIN i), 31, 0⟩
/-- ESW_P_SCI (R210). -/
def ESW_P_SCI (i j : Nat) : Reg := ⟨0x30090110 + 0x400 * i + 0x10 * j, 0x0⟩
def ESW_P_SCI_SCI (i j : Nat) : RFld := ⟨(ESW_P_SCI i j), 63, 0⟩
/-- ESW_HQ_TXBASE (R210). -/
def ESW_HQ_TXBASE (i : Nat) : Reg := ⟨0x300D0000 + 0x40 * i, 0x0⟩
def ESW_HQ_TXBASE_A (i : Nat) : RFld := ⟨(ESW_HQ_TXBASE i), 39, 0⟩
/-- ESW_HQ_RXBASE (R210). -/
def ESW_HQ_RXBASE (i : Nat) : Reg := ⟨0x300D0010 + 0x40 * i, 0x0⟩
def ESW_HQ_RXBASE_A (i : Nat) : RFld := ⟨(ESW_HQ_RXBASE i), 39, 0⟩
/-- ESW_HQ_CFG (R210). -/
def ESW_HQ_CFG (i : Nat) : Reg := ⟨0x300D0020 + 0x40 * i, 0x0⟩
def ESW_HQ_CFG_EN (i : Nat) : RFld := ⟨(ESW_HQ_CFG i), 31, 31⟩
def ESW_HQ_CFG_SIZE (i : Nat) : RFld := ⟨(ESW_HQ_CFG i), 19, 16⟩
def ESW_HQ_CFG_RXLEN (i : Nat) : RFld := ⟨(ESW_HQ_CFG i), 13, 0⟩
/-- ESW_HQ_TXPI (R210). -/
def ESW_HQ_TXPI (i : Nat) : Reg := ⟨0x300D0024 + 0x40 * i, 0x0⟩
def ESW_HQ_TXPI_I (i : Nat) : RFld := ⟨(ESW_HQ_TXPI i), 11, 0⟩
/-- ESW_HQ_TXCI (R210). -/
def ESW_HQ_TXCI (i : Nat) : Reg := ⟨0x300D0028 + 0x40 * i, 0x0⟩
def ESW_HQ_TXCI_I (i : Nat) : RFld := ⟨(ESW_HQ_TXCI i), 11, 0⟩
/-- ESW_HQ_RXPI (R210). -/
def ESW_HQ_RXPI (i : Nat) : Reg := ⟨0x300D002C + 0x40 * i, 0x0⟩
def ESW_HQ_RXPI_I (i : Nat) : RFld := ⟨(ESW_HQ_RXPI i), 11, 0⟩
/-- ESW_HQ_RXCI (R210). -/
def ESW_HQ_RXCI (i : Nat) : Reg := ⟨0x300D0030 + 0x40 * i, 0x0⟩
def ESW_HQ_RXCI_I (i : Nat) : RFld := ⟨(ESW_HQ_RXCI i), 11, 0⟩
/-- ESW_HQ_CNT (R210). -/
def ESW_HQ_CNT (i : Nat) : Reg := ⟨0x300D0034 + 0x40 * i, 0x0⟩
def ESW_HQ_CNT_RXFULL (i : Nat) : RFld := ⟨(ESW_HQ_CNT i), 31, 16⟩
def ESW_HQ_CNT_TRIGMISS (i : Nat) : RFld := ⟨(ESW_HQ_CNT i), 15, 0⟩
/-- ESW_MIR_CTL (R210). -/
def ESW_MIR_CTL : Reg := ⟨0x300E0000, 0x6000000⟩
def ESW_MIR_CTL_EN : RFld := ⟨ESW_MIR_CTL, 31, 31⟩
def ESW_MIR_CTL_DROPCAP : RFld := ⟨ESW_MIR_CTL, 30, 30⟩
def ESW_MIR_CTL_LOG2N : RFld := ⟨ESW_MIR_CTL, 28, 24⟩
def ESW_MIR_CTL_TD : RFld := ⟨ESW_MIR_CTL, 19, 16⟩
/-- ESW_MIR_BASE (R210). -/
def ESW_MIR_BASE : Reg := ⟨0x300E0010, 0x0⟩
def ESW_MIR_BASE_A : RFld := ⟨ESW_MIR_BASE, 39, 0⟩
/-- ESW_MIR_PI (R210). -/
def ESW_MIR_PI : Reg := ⟨0x300E0020, 0x0⟩
def ESW_MIR_PI_I : RFld := ⟨ESW_MIR_PI, 15, 0⟩
/-- ESW_MIR_CI (R210). -/
def ESW_MIR_CI : Reg := ⟨0x300E0024, 0x0⟩
def ESW_MIR_CI_I : RFld := ⟨ESW_MIR_CI, 15, 0⟩
/-- ESW_MIR_DROP (R210). -/
def ESW_MIR_DROP : Reg := ⟨0x300E0028, 0x0⟩
def ESW_MIR_DROP_N : RFld := ⟨ESW_MIR_DROP, 31, 0⟩
/-- ESW_I2MAC (R210). -/
def ESW_I2MAC : Reg := ⟨0x300E0030, 0x0⟩
def ESW_I2MAC_MAC : RFld := ⟨ESW_I2MAC, 47, 0⟩
/-- ESW_PUB0 (R210). -/
def ESW_PUB0 (i : Nat) : Reg := ⟨0x300E0100 + 0x20 * i, 0x0⟩
def ESW_PUB0_EN (i : Nat) : RFld := ⟨(ESW_PUB0 i), 127, 127⟩
def ESW_PUB0_ENGINE (i : Nat) : RFld := ⟨(ESW_PUB0 i), 126, 126⟩
def ESW_PUB0_AREA (i : Nat) : RFld := ⟨(ESW_PUB0 i), 125, 125⟩
def ESW_PUB0_START (i : Nat) : RFld := ⟨(ESW_PUB0 i), 124, 109⟩
def ESW_PUB0_LEN (i : Nat) : RFld := ⟨(ESW_PUB0 i), 108, 98⟩
def ESW_PUB0_VID (i : Nat) : RFld := ⟨(ESW_PUB0 i), 59, 48⟩
def ESW_PUB0_DA (i : Nat) : RFld := ⟨(ESW_PUB0 i), 47, 0⟩
/-- ESW_PUB1 (R210). -/
def ESW_PUB1 (i : Nat) : Reg := ⟨0x300E0110 + 0x20 * i, 0x0⟩
def ESW_PUB1_MISSED (i : Nat) : RFld := ⟨(ESW_PUB1 i), 127, 96⟩
def ESW_PUB1_PCP (i : Nat) : RFld := ⟨(ESW_PUB1 i), 2, 0⟩
/-- ESW_PHY_CTL (R210). -/
def ESW_PHY_CTL (i : Nat) : Reg := ⟨0x300F0000 + 0x100 * i, 0x0⟩
def ESW_PHY_CTL_TOTMR (i : Nat) : RFld := ⟨(ESW_PHY_CTL i), 31, 24⟩
def ESW_PHY_CTL_NODECNT (i : Nat) : RFld := ⟨(ESW_PHY_CTL i), 23, 16⟩
def ESW_PHY_CTL_NODEID (i : Nat) : RFld := ⟨(ESW_PHY_CTL i), 15, 8⟩
def ESW_PHY_CTL_PLCAEN (i : Nat) : RFld := ⟨(ESW_PHY_CTL i), 4, 4⟩
def ESW_PHY_CTL_LOOPBACK (i : Nat) : RFld := ⟨(ESW_PHY_CTL i), 3, 3⟩
def ESW_PHY_CTL_LOWPWR (i : Nat) : RFld := ⟨(ESW_PHY_CTL i), 2, 2⟩
def ESW_PHY_CTL_ANEN (i : Nat) : RFld := ⟨(ESW_PHY_CTL i), 1, 1⟩
def ESW_PHY_CTL_LEADER (i : Nat) : RFld := ⟨(ESW_PHY_CTL i), 0, 0⟩
/-- ESW_PHY_STAT (R210). -/
def ESW_PHY_STAT (i : Nat) : Reg := ⟨0x300F0004 + 0x100 * i, 0x0⟩
def ESW_PHY_STAT_CABLE (i : Nat) : RFld := ⟨(ESW_PHY_STAT i), 5, 4⟩
def ESW_PHY_STAT_SQI (i : Nat) : RFld := ⟨(ESW_PHY_STAT i), 3, 1⟩
def ESW_PHY_STAT_LINK (i : Nat) : RFld := ⟨(ESW_PHY_STAT i), 0, 0⟩
/-- ESW_PHY_PLCA (R210). -/
def ESW_PHY_PLCA (i : Nat) : Reg := ⟨0x300F0008 + 0x100 * i, 0x0⟩
def ESW_PHY_PLCA_BURST (i : Nat) : RFld := ⟨(ESW_PHY_PLCA i), 7, 0⟩

/-- The register map of the ESW block. -/
def rowsESW : List RegRow :=
  [ ⟨0x30080000, [], 32, 0x8000C, [], (.worlds [1]), 2, false, [⟨23, 8, .rw, []⟩, ⟨3, 3, .rw, []⟩, ⟨2, 2, .rw, []⟩, ⟨1, 1, .wo, []⟩, ⟨0, 0, .rw, []⟩]⟩,
    ⟨0x30080004, [], 32, 0xC0000000, [], .all, 2, false, [⟨31, 16, .ro, []⟩, ⟨4, 4, .ro, []⟩, ⟨3, 3, .w1c, []⟩, ⟨2, 2, .w1c, []⟩, ⟨1, 1, .w1c, []⟩, ⟨0, 0, .ro, []⟩]⟩,
    ⟨0x30080010, [(4, 8)], 32, 0x0, [(0, 0x700), (1, 0x600), (2, 0x500), (3, 0x400), (4, 0x300), (5, 0x200), (6, 0x100), (7, 0x0)], (.worlds [1]), 2, false, [⟨15, 0, .rw, [(0, 49152)]⟩]⟩,
    ⟨0x30080040, [], 32, 0x12C, [], (.worlds [1]), 2, false, [⟨15, 0, .rw, []⟩]⟩,
    ⟨0x30080044, [], 32, 0x0, [], .all, 2, false, [⟨31, 16, .ro, []⟩, ⟨15, 0, .ro, []⟩]⟩,
    ⟨0x30080050, [], 32, 0x0, [], (.worlds [1]), 2, false, [⟨31, 31, .ro, []⟩, ⟨30, 28, .wo, [(0, 6)]⟩, ⟨27, 24, .rw, [(0, 7)]⟩, ⟨23, 16, .ro, []⟩, ⟨13, 0, .rw, []⟩]⟩,
    ⟨0x30080060, [], 128, 0x0, [], (.worlds [1]), 2, false, [⟨127, 0, .rw, []⟩]⟩,
    ⟨0x30080070, [], 128, 0x0, [], (.worlds [1]), 2, false, [⟨127, 0, .rw, []⟩]⟩,
    ⟨0x30090000, [(1024, 24)], 32, 0x64000001, [], (.claim 2 1 0), 2, false, [⟨31, 31, .rw, []⟩, ⟨30, 30, .rw, []⟩, ⟨29, 29, .rw, []⟩, ⟨28, 27, .rw, [(0, 2)]⟩, ⟨26, 26, .rw, []⟩, ⟨25, 25, .rw, []⟩, ⟨24, 24, .wo, []⟩, ⟨23, 21, .rw, []⟩, ⟨11, 0, .rw, [(1, 4094)]⟩]⟩,
    ⟨0x30090004, [(1024, 24)], 32, 0x0, [], (.claim 2 1 0), 2, false, [⟨31, 31, .ro, []⟩, ⟨30, 28, .ro, []⟩, ⟨27, 25, .ro, []⟩, ⟨24, 24, .ro, []⟩, ⟨23, 16, .ro, []⟩, ⟨4, 4, .w1c, []⟩, ⟨3, 3, .w1c, []⟩, ⟨2, 2, .w1c, []⟩, ⟨1, 1, .w1c, []⟩, ⟨0, 0, .w1c, []⟩]⟩,
    ⟨0x30090008, [(1024, 24)], 32, 0x5F2, [], (.claim 2 1 0), 2, false, [⟨13, 0, .rw, [(64, 9216)]⟩]⟩,
    ⟨0x3009000C, [(1024, 24)], 32, 0xFAC681, [], (.claim 2 1 0), 2, false, [⟨31, 0, .rw, []⟩]⟩ ] ++
  [ ⟨0x30090010, [(1024, 24)], 32, 0xFFFF, [], (.claim 2 1 0), 2, false, [⟨15, 8, .rw, []⟩, ⟨7, 0, .ro, []⟩]⟩,
    ⟨0x30090020, [(1024, 24), (8, 8)], 32, 0x20000000, [], (.claim 2 1 0), 2, false, [⟨31, 16, .rw, []⟩, ⟨13, 0, .rw, []⟩]⟩,
    ⟨0x30090024, [(1024, 24), (8, 8)], 32, 0x0, [], (.claim 2 1 0), 2, false, [⟨31, 16, .ro, []⟩, ⟨15, 0, .ro, []⟩]⟩,
    ⟨0x30090060, [(1024, 24), (4, 8)], 32, 0x0, [], (.claim 2 1 0), 2, false, [⟨31, 31, .rw, []⟩, ⟨23, 0, .rw, []⟩]⟩,
    ⟨0x30090080, [(1024, 24), (4, 10)], 32, 0x0, [], (.claim 2 1 0), 2, false, [⟨31, 0, .ro, []⟩]⟩,
    ⟨0x300900C0, [(1024, 24)], 32, 0x0, [], (.claim 2 1 0), 2, false, [⟨31, 31, .rw, []⟩, ⟨30, 30, .rw, []⟩, ⟨29, 29, .rw, []⟩, ⟨28, 28, .rw, []⟩, ⟨15, 0, .rw, []⟩]⟩,
    ⟨0x300900D0, [(1024, 24)], 128, 0x0, [], (.claim 2 1 0), 2, false, [⟨127, 0, .ro, []⟩]⟩,
    ⟨0x30090100, [(1024, 2)], 32, 0x0, [], (.claim 2 1 0), 2, false, [⟨3, 3, .rw, []⟩, ⟨2, 1, .rw, [(0, 2)]⟩, ⟨0, 0, .rw, []⟩]⟩,
    ⟨0x30090104, [(1024, 2)], 32, 0x0, [], (.claim 2 1 0), 2, false, [⟨31, 0, .rw, []⟩]⟩,
    ⟨0x30090110, [(1024, 2), (16, 5)], 128, 0x0, [], (.claim 2 1 0), 2, false, [⟨63, 0, .rw, []⟩]⟩,
    ⟨0x300D0000, [(64, 256)], 128, 0x0, [], .special, 2, false, [⟨39, 0, .rw, []⟩]⟩,
    ⟨0x300D0010, [(64, 256)], 128, 0x0, [], .special, 2, false, [⟨39, 0, .rw, []⟩]⟩ ] ++
  [ ⟨0x300D0020, [(64, 256)], 32, 0x0, [], .special, 2, false, [⟨31, 31, .rw, []⟩, ⟨19, 16, .rw, [(0, 0), (4, 12)]⟩, ⟨13, 0, .rw, []⟩]⟩,
    ⟨0x300D0024, [(64, 256)], 32, 0x0, [], .special, 2, false, [⟨11, 0, .rw, []⟩]⟩,
    ⟨0x300D0028, [(64, 256)], 32, 0x0, [], .special, 2, false, [⟨11, 0, .ro, []⟩]⟩,
    ⟨0x300D002C, [(64, 256)], 32, 0x0, [], .special, 2, false, [⟨11, 0, .rw, []⟩]⟩,
    ⟨0x300D0030, [(64, 256)], 32, 0x0, [], .special, 2, false, [⟨11, 0, .ro, []⟩]⟩,
    ⟨0x300D0034, [(64, 256)], 32, 0x0, [], .special, 2, false, [⟨31, 16, .ro, []⟩, ⟨15, 0, .ro, []⟩]⟩,
    ⟨0x300E0000, [], 32, 0x6000000, [], (.worlds [1]), 2, false, [⟨31, 31, .rw, []⟩, ⟨30, 30, .rw, []⟩, ⟨28, 24, .rw, [(6, 16)]⟩, ⟨19, 16, .rw, [(0, 7)]⟩]⟩,
    ⟨0x300E0010, [], 128, 0x0, [], (.worlds [1]), 2, false, [⟨39, 0, .rw, []⟩]⟩,
    ⟨0x300E0020, [], 32, 0x0, [], (.worlds [1]), 2, false, [⟨15, 0, .ro, []⟩]⟩,
    ⟨0x300E0024, [], 32, 0x0, [], (.worlds [1]), 2, false, [⟨15, 0, .rw, []⟩]⟩,
    ⟨0x300E0028, [], 32, 0x0, [], (.worlds [1]), 2, false, [⟨31, 0, .ro, []⟩]⟩,
    ⟨0x300E0030, [], 128, 0x0, [], (.worlds [1]), 2, false, [⟨47, 0, .rw, []⟩]⟩ ] ++
  [ ⟨0x300E0100, [(32, 16)], 128, 0x0, [], .special, 2, false, [⟨127, 127, .rw, []⟩, ⟨126, 126, .rw, []⟩, ⟨125, 125, .rw, []⟩, ⟨124, 109, .rw, []⟩, ⟨108, 98, .rw, []⟩, ⟨59, 48, .rw, []⟩, ⟨47, 0, .rw, []⟩]⟩,
    ⟨0x300E0110, [(32, 16)], 128, 0x0, [], .special, 2, false, [⟨127, 96, .ro, []⟩, ⟨2, 0, .rw, []⟩]⟩,
    ⟨0x300F0000, [(256, 20)], 32, 0x0, [], (.claim 2 1 0), 2, false, [⟨31, 24, .rw, []⟩, ⟨23, 16, .rw, []⟩, ⟨15, 8, .rw, []⟩, ⟨4, 4, .rw, []⟩, ⟨3, 3, .rw, []⟩, ⟨2, 2, .rw, []⟩, ⟨1, 1, .rw, []⟩, ⟨0, 0, .rw, []⟩]⟩,
    ⟨0x300F0004, [(256, 20)], 32, 0x0, [], (.claim 2 1 0), 2, false, [⟨5, 4, .ro, []⟩, ⟨3, 1, .ro, []⟩, ⟨0, 0, .ro, []⟩]⟩,
    ⟨0x300F0008, [(256, 20)], 32, 0x0, [], (.claim 2 1 0), 2, false, [⟨7, 0, .rw, []⟩]⟩ ]

end Sys2Proof.Machine
end

