-- ==== Sys2Proof/Machine/RegsEventSequencer.lean ====
section
/-! DEFINITION. The registers of SEQ as their register maps in spec/03_event_sequencer.md list them (R101): one name for each register and each field, and one row for each in the map. -/

namespace Sys2Proof.Machine

/-- SEQ_CTL (R101). -/
def SEQ_CTL : Reg := ⟨0x30030000, 0x0⟩
def SEQ_CTL_CLRCNT : RFld := ⟨SEQ_CTL, 1, 1⟩
def SEQ_CTL_EN : RFld := ⟨SEQ_CTL, 0, 0⟩
/-- SEQ_STAT (R101). -/
def SEQ_STAT : Reg := ⟨0x30030004, 0x0⟩
def SEQ_STAT_WINFULL : RFld := ⟨SEQ_STAT, 20, 20⟩
def SEQ_STAT_PASS : RFld := ⟨SEQ_STAT, 19, 19⟩
def SEQ_STAT_RUNNING : RFld := ⟨SEQ_STAT, 18, 18⟩
def SEQ_STAT_COMMITTED : RFld := ⟨SEQ_STAT, 17, 9⟩
def SEQ_STAT_ARMED : RFld := ⟨SEQ_STAT, 8, 0⟩
/-- SEQ_LAST_REF (R101). -/
def SEQ_LAST_REF : Reg := ⟨0x30030008, 0x0⟩
def SEQ_LAST_REF_STATUS : RFld := ⟨SEQ_LAST_REF, 23, 16⟩
def SEQ_LAST_REF_ENTRY : RFld := ⟨SEQ_LAST_REF, 12, 0⟩
/-- SEQ_WFCNT (R101). -/
def SEQ_WFCNT : Reg := ⟨0x3003000C, 0x0⟩
def SEQ_WFCNT_N : RFld := ⟨SEQ_WFCNT, 31, 0⟩
/-- SEQ_GEN (R101). -/
def SEQ_GEN : Reg := ⟨0x30030040, 0x0⟩
def SEQ_GEN_SQUASHED : RFld := ⟨SEQ_GEN, 31, 24⟩
def SEQ_GEN_RETIMED : RFld := ⟨SEQ_GEN, 23, 16⟩
def SEQ_GEN_BASES : RFld := ⟨SEQ_GEN, 15, 0⟩
/-- SEQ_RANGE (R101). -/
def SEQ_RANGE (i : Nat) : Reg := ⟨0x30030050 + 0x4 * i, 0x0⟩
def SEQ_RANGE_NIB (i : Nat) : RFld := ⟨(SEQ_RANGE i), 31, 0⟩
/-- SEQ_LERR (R101). -/
def SEQ_LERR : Reg := ⟨0x30030100, 0x0⟩
def SEQ_LERR_REC : RFld := ⟨SEQ_LERR, 127, 0⟩
/-- SEQ_LERR_STAT (R101). -/
def SEQ_LERR_STAT : Reg := ⟨0x30030110, 0x0⟩
def SEQ_LERR_STAT_DROPPED : RFld := ⟨SEQ_LERR_STAT, 31, 16⟩
def SEQ_LERR_STAT_UNVER : RFld := ⟨SEQ_LERR_STAT, 15, 10⟩
def SEQ_LERR_STAT_OVF : RFld := ⟨SEQ_LERR_STAT, 8, 8⟩
def SEQ_LERR_STAT_HELD : RFld := ⟨SEQ_LERR_STAT, 7, 0⟩
/-- SEQ_P_IDX (R101). -/
def SEQ_P_IDX (i : Nat) : Reg := ⟨0x30031000 + 0x100 * i, 0x0⟩
def SEQ_P_IDX_N (i : Nat) : RFld := ⟨(SEQ_P_IDX i), 12, 0⟩
/-- SEQ_P_CMD (R101). -/
def SEQ_P_CMD (i : Nat) : Reg := ⟨0x30031004 + 0x100 * i, 0x0⟩
def SEQ_P_CMD_OP (i : Nat) : RFld := ⟨(SEQ_P_CMD i), 2, 0⟩
/-- SEQ_P_RES (R101). -/
def SEQ_P_RES (i : Nat) : Reg := ⟨0x30031008 + 0x100 * i, 0x0⟩
def SEQ_P_RES_SKIPPED (i : Nat) : RFld := ⟨(SEQ_P_RES i), 31, 16⟩
def SEQ_P_RES_AFTERCOMMIT (i : Nat) : RFld := ⟨(SEQ_P_RES i), 9, 9⟩
def SEQ_P_RES_BUSY (i : Nat) : RFld := ⟨(SEQ_P_RES i), 8, 8⟩
def SEQ_P_RES_STATUS (i : Nat) : RFld := ⟨(SEQ_P_RES i), 7, 0⟩
/-- SEQ_P_D0 (R101). -/
def SEQ_P_D0 (i : Nat) : Reg := ⟨0x30031010 + 0x100 * i, 0x0⟩
def SEQ_P_D0_D (i : Nat) : RFld := ⟨(SEQ_P_D0 i), 127, 0⟩
/-- SEQ_P_D1 (R101). -/
def SEQ_P_D1 (i : Nat) : Reg := ⟨0x30031020 + 0x100 * i, 0x0⟩
def SEQ_P_D1_D (i : Nat) : RFld := ⟨(SEQ_P_D1 i), 127, 0⟩
/-- SEQ_B_FIRED (R101). -/
def SEQ_B_FIRED (i : Nat) : Reg := ⟨0x30032000 + 0x20 * i, 0x0⟩
def SEQ_B_FIRED_N (i : Nat) : RFld := ⟨(SEQ_B_FIRED i), 31, 0⟩
/-- SEQ_B_SQUASH (R101). -/
def SEQ_B_SQUASH (i : Nat) : Reg := ⟨0x30032004 + 0x20 * i, 0x0⟩
def SEQ_B_SQUASH_N (i : Nat) : RFld := ⟨(SEQ_B_SQUASH i), 31, 0⟩
/-- SEQ_B_LATE (R101). -/
def SEQ_B_LATE (i : Nat) : Reg := ⟨0x30032008 + 0x20 * i, 0x0⟩
def SEQ_B_LATE_N (i : Nat) : RFld := ⟨(SEQ_B_LATE i), 31, 0⟩
/-- SEQ_B_LEADN (R101). -/
def SEQ_B_LEADN (i : Nat) : Reg := ⟨0x3003200C + 0x20 * i, 0x0⟩
def SEQ_B_LEADN_N (i : Nat) : RFld := ⟨(SEQ_B_LEADN i), 31, 0⟩
/-- SEQ_B_REFUSED (R101). -/
def SEQ_B_REFUSED (i : Nat) : Reg := ⟨0x30032010 + 0x20 * i, 0x0⟩
def SEQ_B_REFUSED_N (i : Nat) : RFld := ⟨(SEQ_B_REFUSED i), 31, 0⟩
/-- SEQ_B_MAXLEAD (R101). -/
def SEQ_B_MAXLEAD (i : Nat) : Reg := ⟨0x30032014 + 0x20 * i, 0x0⟩
def SEQ_B_MAXLEAD_N (i : Nat) : RFld := ⟨(SEQ_B_MAXLEAD i), 31, 0⟩
/-- SEQ_B_LA (R101). -/
def SEQ_B_LA (i : Nat) : Reg := ⟨0x30032018 + 0x20 * i, 0x3E8⟩
def SEQ_B_LA_US (i : Nat) : RFld := ⟨(SEQ_B_LA i), 15, 0⟩

/-- The register map of the SEQ block. -/
def rowsSEQ : List RegRow :=
  [ ⟨0x30030000, [], 32, 0x0, [], (.worlds [2]), 3, true, [⟨1, 1, .wo, []⟩, ⟨0, 0, .rw, []⟩]⟩,
    ⟨0x30030004, [], 32, 0x0, [], .all, 3, false, [⟨20, 20, .w1c, []⟩, ⟨19, 19, .ro, []⟩, ⟨18, 18, .ro, []⟩, ⟨17, 9, .ro, []⟩, ⟨8, 0, .ro, []⟩]⟩,
    ⟨0x30030008, [], 32, 0x0, [], .all, 3, false, [⟨23, 16, .ro, []⟩, ⟨12, 0, .ro, []⟩]⟩,
    ⟨0x3003000C, [], 32, 0x0, [], .all, 3, false, [⟨31, 0, .ro, []⟩]⟩,
    ⟨0x30030040, [], 32, 0x0, [], (.worlds [2]), 3, false, [⟨31, 24, .ro, []⟩, ⟨23, 16, .ro, []⟩, ⟨15, 0, .ro, []⟩]⟩,
    ⟨0x30030050, [(4, 4)], 32, 0x0, [], .all, 3, false, [⟨31, 0, .ro, []⟩]⟩,
    ⟨0x30030100, [], 128, 0x0, [], (.worlds [2]), 3, false, [⟨127, 0, .ro, []⟩]⟩,
    ⟨0x30030110, [], 32, 0x0, [], (.worlds [2]), 3, false, [⟨31, 16, .ro, []⟩, ⟨15, 10, .ro, []⟩, ⟨8, 8, .w1c, []⟩, ⟨7, 0, .ro, []⟩]⟩,
    ⟨0x30031000, [(256, 5)], 32, 0x0, [], .special, 3, false, [⟨12, 0, .rw, []⟩]⟩,
    ⟨0x30031004, [(256, 5)], 32, 0x0, [], .special, 3, false, [⟨2, 0, .wo, [(1, 3)]⟩]⟩,
    ⟨0x30031008, [(256, 5)], 32, 0x0, [], .special, 3, false, [⟨31, 16, .ro, []⟩, ⟨9, 9, .ro, []⟩, ⟨8, 8, .ro, []⟩, ⟨7, 0, .ro, []⟩]⟩,
    ⟨0x30031010, [(256, 5)], 128, 0x0, [], .special, 3, false, [⟨127, 0, .rw, []⟩]⟩ ] ++
  [ ⟨0x30031020, [(256, 5)], 128, 0x0, [], .special, 3, false, [⟨127, 0, .rw, []⟩]⟩,
    ⟨0x30032000, [(32, 16)], 32, 0x0, [], (.claim 6 1 0), 3, false, [⟨31, 0, .ro, []⟩]⟩,
    ⟨0x30032004, [(32, 16)], 32, 0x0, [], (.claim 6 1 0), 3, false, [⟨31, 0, .ro, []⟩]⟩,
    ⟨0x30032008, [(32, 16)], 32, 0x0, [], (.claim 6 1 0), 3, false, [⟨31, 0, .ro, []⟩]⟩,
    ⟨0x3003200C, [(32, 16)], 32, 0x0, [], (.claim 6 1 0), 3, false, [⟨31, 0, .ro, []⟩]⟩,
    ⟨0x30032010, [(32, 16)], 32, 0x0, [], (.claim 6 1 0), 3, false, [⟨31, 0, .ro, []⟩]⟩,
    ⟨0x30032014, [(32, 16)], 32, 0x0, [], (.claim 6 1 0), 3, false, [⟨31, 0, .ro, []⟩]⟩,
    ⟨0x30032018, [(32, 16)], 32, 0x3E8, [], (.claim 6 1 0), 3, false, [⟨15, 0, .rw, [(20, 65535)]⟩]⟩ ]

end Sys2Proof.Machine
end

