-- ==== Sys2Proof/Machine/RegsFieldUpdate.lean ====
section
/-! DEFINITION. The registers of UPD as their register maps in spec/18_field_update.md list them (R527): one name for each register and each field, and one row for each in the map. -/

namespace Sys2Proof.Machine

/-- UPD_CTL (R527). -/
def UPD_CTL : Reg := ⟨0x30240000, 0x1⟩
def UPD_CTL_CLRCNT : RFld := ⟨UPD_CTL, 2, 2⟩
def UPD_CTL_RELAYEN : RFld := ⟨UPD_CTL, 1, 1⟩
def UPD_CTL_EN : RFld := ⟨UPD_CTL, 0, 0⟩
/-- UPD_STAT (R527). -/
def UPD_STAT : Reg := ⟨0x30240004, 0x0⟩
def UPD_STAT_LASTERR : RFld := ⟨UPD_STAT, 31, 24⟩
def UPD_STAT_JSTATE : RFld := ⟨UPD_STAT, 23, 21⟩
def UPD_STAT_COORD : RFld := ⟨UPD_STAT, 14, 14⟩
def UPD_STAT_SPLIT : RFld := ⟨UPD_STAT, 13, 13⟩
def UPD_STAT_OFFTIME : RFld := ⟨UPD_STAT, 12, 12⟩
def UPD_STAT_ROLLEDBACK : RFld := ⟨UPD_STAT, 11, 11⟩
def UPD_STAT_SEGOK : RFld := ⟨UPD_STAT, 10, 0⟩
/-- UPD_CMD (R527). -/
def UPD_CMD : Reg := ⟨0x30240008, 0x0⟩
def UPD_CMD_OP : RFld := ⟨UPD_CMD, 2, 0⟩
/-- UPD_CMDRES (R527). -/
def UPD_CMDRES : Reg := ⟨0x3024000C, 0x0⟩
def UPD_CMDRES_STATUS : RFld := ⟨UPD_CMDRES, 7, 0⟩
/-- UPD_CFG (R527). -/
def UPD_CFG : Reg := ⟨0x30240010, 0x12C0002⟩
def UPD_CFG_TCONF : RFld := ⟨UPD_CFG, 31, 16⟩
def UPD_CFG_DOWNOK : RFld := ⟨UPD_CFG, 8, 8⟩
def UPD_CFG_PERMIT : RFld := ⟨UPD_CFG, 7, 0⟩
/-- UPD_VSTATE (R527). -/
def UPD_VSTATE : Reg := ⟨0x30240014, 0x0⟩
def UPD_VSTATE_CODE : RFld := ⟨UPD_VSTATE, 2, 0⟩
/-- UPD_CNT (R527). -/
def UPD_CNT : Reg := ⟨0x30240018, 0x0⟩
def UPD_CNT_REFUSED : RFld := ⟨UPD_CNT, 31, 16⟩
def UPD_CNT_ROLLBACKS : RFld := ⟨UPD_CNT, 15, 8⟩
def UPD_CNT_CANCELS : RFld := ⟨UPD_CNT, 7, 0⟩
/-- UPD_PKG (R527). -/
def UPD_PKG : Reg := ⟨0x30240020, 0x0⟩
def UPD_PKG_NSEG : RFld := ⟨UPD_PKG, 106, 96⟩
def UPD_PKG_VERSION : RFld := ⟨UPD_PKG, 95, 64⟩
def UPD_PKG_ID : RFld := ⟨UPD_PKG, 63, 0⟩
/-- UPD_ACTT (R527). -/
def UPD_ACTT : Reg := ⟨0x30240030, 0x0⟩
def UPD_ACTT_T : RFld := ⟨UPD_ACTT, 127, 0⟩
/-- UPD_ACTG (R527). -/
def UPD_ACTG : Reg := ⟨0x30240040, 0x0⟩
def UPD_ACTG_G : RFld := ⟨UPD_ACTG, 15, 0⟩
/-- UPD_GSTAT (R527). -/
def UPD_GSTAT : Reg := ⟨0x30240050, 0x0⟩
def UPD_GSTAT_MEMBERS : RFld := ⟨UPD_GSTAT, 63, 0⟩
/-- UPD_GRP (R527). -/
def UPD_GRP (i : Nat) : Reg := ⟨0x30240100 + 0x4 * i, 0x0⟩
def UPD_GRP_VALID (i : Nat) : RFld := ⟨(UPD_GRP i), 31, 31⟩
def UPD_GRP_SNI (i : Nat) : RFld := ⟨(UPD_GRP i), 17, 0⟩
/-- UPD_CHAIN (R527). -/
def UPD_CHAIN (i : Nat) : Reg := ⟨0x30240200 + 0x10 * i, 0x0⟩
def UPD_CHAIN_EN (i : Nat) : RFld := ⟨(UPD_CHAIN i), 127, 127⟩
def UPD_CHAIN_KIND (i : Nat) : RFld := ⟨(UPD_CHAIN i), 125, 124⟩
def UPD_CHAIN_LINK (i : Nat) : RFld := ⟨(UPD_CHAIN i), 123, 120⟩
def UPD_CHAIN_KSLOT (i : Nat) : RFld := ⟨(UPD_CHAIN i), 113, 104⟩
def UPD_CHAIN_SNI (i : Nat) : RFld := ⟨(UPD_CHAIN i), 81, 64⟩
def UPD_CHAIN_IP (i : Nat) : RFld := ⟨(UPD_CHAIN i), 31, 0⟩
/-- UPD_CHST (R527). -/
def UPD_CHST (i : Nat) : Reg := ⟨0x30240300 + 0x4 * i, 0x0⟩
def UPD_CHST_STATUS (i : Nat) : RFld := ⟨(UPD_CHST i), 31, 24⟩
def UPD_CHST_FAILED (i : Nat) : RFld := ⟨(UPD_CHST i), 19, 16⟩
def UPD_CHST_ACKED (i : Nat) : RFld := ⟨(UPD_CHST i), 10, 0⟩

/-- The register map of the UPD block. -/
def rowsUPD : List RegRow :=
  [ ⟨0x30240000, [], 32, 0x1, [], (.worlds [1]), 3, false, [⟨2, 2, .wo, []⟩, ⟨1, 1, .rw, []⟩, ⟨0, 0, .rw, []⟩]⟩,
    ⟨0x30240004, [], 32, 0x0, [], .all, 5, false, [⟨31, 24, .ro, []⟩, ⟨23, 21, .ro, []⟩, ⟨14, 14, .ro, []⟩, ⟨13, 13, .w1c, []⟩, ⟨12, 12, .w1c, []⟩, ⟨11, 11, .w1c, []⟩, ⟨10, 0, .ro, []⟩]⟩,
    ⟨0x30240008, [], 32, 0x0, [], (.worlds [1]), 3, false, [⟨2, 0, .wo, [(1, 5)]⟩]⟩,
    ⟨0x3024000C, [], 32, 0x0, [], .all, 3, false, [⟨7, 0, .ro, []⟩]⟩,
    ⟨0x30240010, [], 32, 0x12C0002, [], (.worlds [0]), 3, false, [⟨31, 16, .rwb, [(1, 3600)]⟩, ⟨8, 8, .rwb, []⟩, ⟨7, 0, .rwb, []⟩]⟩,
    ⟨0x30240014, [], 32, 0x0, [], (.worlds [2]), 3, true, [⟨2, 0, .rw, [(0, 4)]⟩]⟩,
    ⟨0x30240018, [], 32, 0x0, [], .all, 5, false, [⟨31, 16, .ro, []⟩, ⟨15, 8, .ro, []⟩, ⟨7, 0, .ro, []⟩]⟩,
    ⟨0x30240020, [], 128, 0x0, [], .all, 5, false, [⟨106, 96, .ro, []⟩, ⟨95, 64, .ro, []⟩, ⟨63, 0, .ro, []⟩]⟩,
    ⟨0x30240030, [], 128, 0x0, [], (.worlds [1]), 3, false, [⟨127, 0, .rw, []⟩]⟩,
    ⟨0x30240040, [], 32, 0x0, [], (.worlds [1]), 3, false, [⟨15, 0, .rw, [(50, 60000)]⟩]⟩,
    ⟨0x30240050, [], 128, 0x0, [], .all, 3, false, [⟨63, 0, .ro, []⟩]⟩,
    ⟨0x30240100, [(4, 16)], 32, 0x0, [], (.worlds [1]), 3, false, [⟨31, 31, .rw, []⟩, ⟨17, 0, .rw, []⟩]⟩ ] ++
  [ ⟨0x30240200, [(16, 8)], 128, 0x0, [], (.worlds [1]), 3, false, [⟨127, 127, .rw, []⟩, ⟨125, 124, .rw, [(0, 2)]⟩, ⟨123, 120, .rw, []⟩, ⟨113, 104, .rw, []⟩, ⟨81, 64, .rw, []⟩, ⟨31, 0, .rw, []⟩]⟩,
    ⟨0x30240300, [(4, 8)], 32, 0x0, [], .all, 3, false, [⟨31, 24, .ro, []⟩, ⟨19, 16, .ro, []⟩, ⟨10, 0, .ro, []⟩]⟩ ]

end Sys2Proof.Machine
end

