-- ==== Sys2Proof/Machine/RegsHatband.lean ====
section
/-! DEFINITION. The registers of HBD as their register maps in spec/07_hatband.md list them (R243): one name for each register and each field, and one row for each in the map. -/

namespace Sys2Proof.Machine

/-- HBD_CTL (R243). -/
def HBD_CTL : Reg := ⟨0x301C0000, 0x0⟩
def HBD_CTL_CLRCNT : RFld := ⟨HBD_CTL, 2, 2⟩
def HBD_CTL_HALT : RFld := ⟨HBD_CTL, 1, 1⟩
def HBD_CTL_EN : RFld := ⟨HBD_CTL, 0, 0⟩
/-- HBD_STAT (R243). -/
def HBD_STAT : Reg := ⟨0x301C0004, 0x0⟩
def HBD_STAT_STATE : RFld := ⟨HBD_STAT, 31, 28⟩
def HBD_STAT_CYCLE : RFld := ⟨HBD_STAT, 27, 22⟩
def HBD_STAT_CURMODE : RFld := ⟨HBD_STAT, 21, 19⟩
def HBD_STAT_GLOCK : RFld := ⟨HBD_STAT, 18, 18⟩
def HBD_STAT_GFAULT : RFld := ⟨HBD_STAT, 17, 17⟩
def HBD_STAT_LINKB : RFld := ⟨HBD_STAT, 16, 16⟩
def HBD_STAT_LINKA : RFld := ⟨HBD_STAT, 15, 15⟩
def HBD_STAT_MISS : RFld := ⟨HBD_STAT, 14, 13⟩
def HBD_STAT_NSYNC : RFld := ⟨HBD_STAT, 11, 8⟩
def HBD_STAT_MODECHG : RFld := ⟨HBD_STAT, 7, 7⟩
def HBD_STAT_GCUT : RFld := ⟨HBD_STAT, 6, 6⟩
def HBD_STAT_OWNLOST : RFld := ⟨HBD_STAT, 5, 5⟩
def HBD_STAT_CORRMISS : RFld := ⟨HBD_STAT, 4, 4⟩
def HBD_STAT_CORRRDY : RFld := ⟨HBD_STAT, 3, 3⟩
def HBD_STAT_COLL : RFld := ⟨HBD_STAT, 2, 2⟩
/-- HBD_CFG (R243). -/
def HBD_CFG : Reg := ⟨0x301C0008, 0x424D0⟩
def HBD_CFG_NODE : RFld := ⟨HBD_CFG, 31, 26⟩
def HBD_CFG_CSEN : RFld := ⟨HBD_CFG, 25, 25⟩
def HBD_CFG_CSIDX : RFld := ⟨HBD_CFG, 24, 23⟩
def HBD_CFG_SYNCEN : RFld := ⟨HBD_CFG, 22, 22⟩
def HBD_CFG_MINSYNC : RFld := ⟨HBD_CFG, 21, 18⟩
def HBD_CFG_CSMIN : RFld := ⟨HBD_CFG, 15, 13⟩
def HBD_CFG_OWNLIM : RFld := ⟨HBD_CFG, 12, 9⟩
def HBD_CFG_CHEN : RFld := ⟨HBD_CFG, 7, 6⟩
def HBD_CFG_MTO : RFld := ⟨HBD_CFG, 5, 0⟩
/-- HBD_TIM0 (R243). -/
def HBD_TIM0 : Reg := ⟨0x301C000C, 0x0⟩
def HBD_TIM0_CYCLEN : RFld := ⟨HBD_TIM0, 31, 16⟩
def HBD_TIM0_SLOTLEN : RFld := ⟨HBD_TIM0, 11, 0⟩
/-- HBD_TIM1 (R243). -/
def HBD_TIM1 : Reg := ⟨0x301C0010, 0x0⟩
def HBD_TIM1_GDELTA : RFld := ⟨HBD_TIM1, 31, 16⟩
def HBD_TIM1_APO : RFld := ⟨HBD_TIM1, 15, 0⟩
/-- HBD_TIM2 (R243). -/
def HBD_TIM2 : Reg := ⟨0x301C0014, 0x0⟩
def HBD_TIM2_DLY : RFld := ⟨HBD_TIM2, 31, 16⟩
def HBD_TIM2_PREC : RFld := ⟨HBD_TIM2, 15, 0⟩
/-- HBD_TIM3 (R243). -/
def HBD_TIM3 : Reg := ⟨0x301C0018, 0x0⟩
def HBD_TIM3_LTO : RFld := ⟨HBD_TIM3, 31, 16⟩
def HBD_TIM3_MSLEN : RFld := ⟨HBD_TIM3, 7, 0⟩
/-- HBD_TIM4 (R243). -/
def HBD_TIM4 : Reg := ⟨0x301C001C, 0x0⟩
def HBD_TIM4_OFSLIM : RFld := ⟨HBD_TIM4, 31, 16⟩
def HBD_TIM4_CIOFS : RFld := ⟨HBD_TIM4, 15, 0⟩
/-- HBD_CORR (R243). -/
def HBD_CORR : Reg := ⟨0x301C0030, 0x0⟩
def HBD_CORR_VALID : RFld := ⟨HBD_CORR, 127, 127⟩
def HBD_CORR_N : RFld := ⟨HBD_CORR, 95, 88⟩
def HBD_CORR_CYCLE : RFld := ⟨HBD_CORR, 85, 80⟩
def HBD_CORR_C : RFld := ⟨HBD_CORR, 79, 0⟩
/-- HBD_RATE (R243). -/
def HBD_RATE : Reg := ⟨0x301C0040, 0x0⟩
def HBD_RATE_PPB : RFld := ⟨HBD_RATE, 31, 0⟩
/-- HBD_CORRACK (R243). -/
def HBD_CORRACK : Reg := ⟨0x301C0050, 0x0⟩
def HBD_CORRACK_CYCLE : RFld := ⟨HBD_CORRACK, 85, 80⟩
def HBD_CORRACK_STEP : RFld := ⟨HBD_CORRACK, 79, 0⟩
/-- HBD_MREQ (R243). -/
def HBD_MREQ : Reg := ⟨0x301C0060, 0x0⟩
def HBD_MREQ_GO : RFld := ⟨HBD_MREQ, 31, 31⟩
def HBD_MREQ_MODE : RFld := ⟨HBD_MREQ, 2, 0⟩
/-- HBD_MSTAT (R243). -/
def HBD_MSTAT : Reg := ⟨0x301C0064, 0x0⟩
def HBD_MSTAT_STATUS : RFld := ⟨HBD_MSTAT, 15, 8⟩
def HBD_MSTAT_PENDING : RFld := ⟨HBD_MSTAT, 4, 4⟩
def HBD_MSTAT_MODE : RFld := ⟨HBD_MSTAT, 2, 0⟩
/-- HBD_MODEOK (R243). -/
def HBD_MODEOK : Reg := ⟨0x301C0068, 0x1⟩
def HBD_MODEOK_MODES : RFld := ⟨HBD_MODEOK, 7, 0⟩
/-- HBD_CH (R243). -/
def HBD_CH (i j : Nat) : Reg := ⟨0x301C0100 + 0x10 * i + 0x4 * j, 0x0⟩
def HBD_CH_N (i j : Nat) : RFld := ⟨(HBD_CH i j), 31, 0⟩
/-- HBD_MODE (R243). -/
def HBD_MODE (i : Nat) : Reg := ⟨0x301C0200 + 0x10 * i, 0x0⟩
def HBD_MODE_VALID (i : Nat) : RFld := ⟨(HBD_MODE i), 127, 127⟩
def HBD_MODE_NMS (i : Nat) : RFld := ⟨(HBD_MODE i), 87, 80⟩
def HBD_MODE_NSLOT (i : Nat) : RFld := ⟨(HBD_MODE i), 72, 64⟩
def HBD_MODE_REQNODES (i : Nat) : RFld := ⟨(HBD_MODE i), 63, 0⟩
/-- HBD_STSEL (R243). -/
def HBD_STSEL : Reg := ⟨0x301C0300, 0x0⟩
def HBD_STSEL_MODE : RFld := ⟨HBD_STSEL, 18, 16⟩
def HBD_STSEL_ENTRY : RFld := ⟨HBD_STSEL, 8, 0⟩
/-- HBD_STDATA (R243). -/
def HBD_STDATA : Reg := ⟨0x301C0310, 0x0⟩
def HBD_STDATA_E : RFld := ⟨HBD_STDATA, 63, 0⟩
/-- HBD_BSEL (R243). -/
def HBD_BSEL : Reg := ⟨0x301C1000, 0x0⟩
def HBD_BSEL_BUF : RFld := ⟨HBD_BSEL, 8, 0⟩
/-- HBD_BCTL (R243). -/
def HBD_BCTL : Reg := ⟨0x301C1004, 0x0⟩
def HBD_BCTL_CLR : RFld := ⟨HBD_BCTL, 2, 2⟩
def HBD_BCTL_TXREQ : RFld := ⟨HBD_BCTL, 1, 1⟩
def HBD_BCTL_COMMIT : RFld := ⟨HBD_BCTL, 0, 0⟩
/-- HBD_BSTAT (R243). -/
def HBD_BSTAT : Reg := ⟨0x301C1008, 0x0⟩
def HBD_BSTAT_FRESH : RFld := ⟨HBD_BSTAT, 31, 31⟩
def HBD_BSTAT_TXVALID : RFld := ⟨HBD_BSTAT, 30, 30⟩
def HBD_BSTAT_CYCLE : RFld := ⟨HBD_BSTAT, 29, 24⟩
def HBD_BSTAT_CH : RFld := ⟨HBD_BSTAT, 23, 22⟩
def HBD_BSTAT_SENDER : RFld := ⟨HBD_BSTAT, 21, 16⟩
def HBD_BSTAT_LEN : RFld := ⟨HBD_BSTAT, 15, 8⟩
def HBD_BSTAT_STATUS : RFld := ⟨HBD_BSTAT, 7, 0⟩
/-- HBD_BSTAMP (R243). -/
def HBD_BSTAMP : Reg := ⟨0x301C1010, 0x0⟩
def HBD_BSTAMP_FRC : RFld := ⟨HBD_BSTAMP, 63, 0⟩

/-- The register map of the HBD block. -/
def rowsHBD : List RegRow :=
  [ ⟨0x301C0000, [], 32, 0x0, [], (.worlds [2]), 2, true, [⟨2, 2, .wo, []⟩, ⟨1, 1, .wo, []⟩, ⟨0, 0, .rw, []⟩]⟩,
    ⟨0x301C0004, [], 32, 0x0, [], .all, 2, false, [⟨31, 28, .ro, []⟩, ⟨27, 22, .ro, []⟩, ⟨21, 19, .ro, []⟩, ⟨18, 18, .ro, []⟩, ⟨17, 17, .ro, []⟩, ⟨16, 16, .ro, []⟩, ⟨15, 15, .ro, []⟩, ⟨14, 13, .ro, []⟩, ⟨11, 8, .ro, []⟩, ⟨7, 7, .w1c, []⟩, ⟨6, 6, .w1c, []⟩, ⟨5, 5, .w1c, []⟩, ⟨4, 4, .w1c, []⟩, ⟨3, 3, .ro, []⟩, ⟨2, 2, .w1c, []⟩]⟩,
    ⟨0x301C0008, [], 32, 0x424D0, [], (.worlds [2]), 3, false, [⟨31, 26, .rw, []⟩, ⟨25, 25, .rw, []⟩, ⟨24, 23, .rw, []⟩, ⟨22, 22, .rw, []⟩, ⟨21, 18, .rw, [(1, 15)]⟩, ⟨15, 13, .rw, [(1, 4)]⟩, ⟨12, 9, .rw, [(1, 15)]⟩, ⟨7, 6, .rw, []⟩, ⟨5, 0, .rw, [(1, 63)]⟩]⟩,
    ⟨0x301C000C, [], 32, 0x0, [], (.worlds [2]), 3, false, [⟨31, 16, .rw, [(250, 64000)]⟩, ⟨11, 0, .rw, [(200, 4095)]⟩]⟩,
    ⟨0x301C0010, [], 32, 0x0, [], (.worlds [2]), 3, false, [⟨31, 16, .rw, []⟩, ⟨15, 0, .rw, []⟩]⟩,
    ⟨0x301C0014, [], 32, 0x0, [], (.worlds [2]), 3, false, [⟨31, 16, .rw, []⟩, ⟨15, 0, .rw, [(50, 65535)]⟩]⟩,
    ⟨0x301C0018, [], 32, 0x0, [], (.worlds [2]), 3, false, [⟨31, 16, .rw, [(1, 65535)]⟩, ⟨7, 0, .rw, [(10, 255)]⟩]⟩,
    ⟨0x301C001C, [], 32, 0x0, [], (.worlds [2]), 3, false, [⟨31, 16, .rw, [(100, 65535)]⟩, ⟨15, 0, .rw, []⟩]⟩,
    ⟨0x301C0030, [], 128, 0x0, [], (.worlds [2]), 2, false, [⟨127, 127, .ro, []⟩, ⟨95, 88, .ro, []⟩, ⟨85, 80, .ro, []⟩, ⟨79, 0, .ro, []⟩]⟩,
    ⟨0x301C0040, [], 32, 0x0, [], (.worlds [2]), 2, false, [⟨31, 0, .ro, []⟩]⟩,
    ⟨0x301C0050, [], 128, 0x0, [], (.worlds [2]), 2, false, [⟨85, 80, .wo, []⟩, ⟨79, 0, .wo, []⟩]⟩,
    ⟨0x301C0060, [], 32, 0x0, [], (.worlds [2]), 2, false, [⟨31, 31, .wo, []⟩, ⟨2, 0, .rw, []⟩]⟩ ] ++
  [ ⟨0x301C0064, [], 32, 0x0, [], .all, 2, false, [⟨15, 8, .ro, []⟩, ⟨4, 4, .ro, []⟩, ⟨2, 0, .ro, []⟩]⟩,
    ⟨0x301C0068, [], 32, 0x1, [], (.worlds [2]), 3, false, [⟨7, 0, .rw, []⟩]⟩,
    ⟨0x301C0100, [(16, 2), (4, 4)], 32, 0x0, [], .all, 3, false, [⟨31, 0, .ro, []⟩]⟩,
    ⟨0x301C0200, [(16, 8)], 128, 0x0, [], (.worlds [2]), 3, false, [⟨127, 127, .rw, []⟩, ⟨87, 80, .rw, []⟩, ⟨72, 64, .rw, [(0, 256)]⟩, ⟨63, 0, .rw, []⟩]⟩,
    ⟨0x301C0300, [], 32, 0x0, [], (.worlds [2]), 3, false, [⟨18, 16, .rw, []⟩, ⟨8, 0, .rw, []⟩]⟩,
    ⟨0x301C0310, [], 128, 0x0, [], (.worlds [2]), 3, false, [⟨63, 0, .rw, []⟩]⟩,
    ⟨0x301C1000, [], 32, 0x0, [], .special, 2, false, [⟨8, 0, .rw, []⟩]⟩,
    ⟨0x301C1004, [], 32, 0x0, [], .special, 2, false, [⟨2, 2, .wo, []⟩, ⟨1, 1, .wo, []⟩, ⟨0, 0, .wo, []⟩]⟩,
    ⟨0x301C1008, [], 32, 0x0, [], .special, 2, false, [⟨31, 31, .ro, []⟩, ⟨30, 30, .ro, []⟩, ⟨29, 24, .ro, []⟩, ⟨23, 22, .ro, []⟩, ⟨21, 16, .ro, []⟩, ⟨15, 8, .ro, []⟩, ⟨7, 0, .ro, []⟩]⟩,
    ⟨0x301C1010, [], 128, 0x0, [], .special, 2, false, [⟨63, 0, .ro, []⟩]⟩ ]

end Sys2Proof.Machine
end

