-- ==== Sys2Proof/Machine/RegsHatbox.lean ====
section
/-! DEFINITION. The registers of SEAM as their register maps in spec/17_hatbox.md list them (R502): one name for each register and each field, and one row for each in the map. -/

namespace Sys2Proof.Machine

/-- SEAM_CTL (R502). -/
def SEAM_CTL : Reg := ⟨0x30230000, 0x0⟩
def SEAM_CTL_EN : RFld := ⟨SEAM_CTL, 31, 31⟩
def SEAM_CTL_CLRCNT : RFld := ⟨SEAM_CTL, 30, 30⟩
def SEAM_CTL_FWD : RFld := ⟨SEAM_CTL, 2, 0⟩
/-- SEAM_STAT (R502). -/
def SEAM_STAT : Reg := ⟨0x30230004, 0x1⟩
def SEAM_STAT_LASTERR : RFld := ⟨SEAM_STAT, 31, 24⟩
def SEAM_STAT_GAP : RFld := ⟨SEAM_STAT, 5, 5⟩
def SEAM_STAT_DROP : RFld := ⟨SEAM_STAT, 4, 4⟩
def SEAM_STAT_RINGHI : RFld := ⟨SEAM_STAT, 3, 3⟩
def SEAM_STAT_LINKCHG : RFld := ⟨SEAM_STAT, 2, 2⟩
def SEAM_STAT_LINK : RFld := ⟨SEAM_STAT, 1, 1⟩
def SEAM_STAT_PRESENT : RFld := ⟨SEAM_STAT, 0, 0⟩
/-- SEAM_TMDLY (R502). -/
def SEAM_TMDLY : Reg := ⟨0x30230008, 0x0⟩
def SEAM_TMDLY_NS : RFld := ⟨SEAM_TMDLY, 15, 0⟩
/-- SEAM_CNT (R502). -/
def SEAM_CNT : Reg := ⟨0x3023000C, 0x0⟩
def SEAM_CNT_DROPPED : RFld := ⟨SEAM_CNT, 31, 16⟩
def SEAM_CNT_GAPS : RFld := ⟨SEAM_CNT, 15, 8⟩
def SEAM_CNT_STRAY : RFld := ⟨SEAM_CNT, 7, 0⟩
/-- SEAM_RING (R502). -/
def SEAM_RING : Reg := ⟨0x30230010, 0x40000000000000000⟩
def SEAM_RING_LOG2N : RFld := ⟨SEAM_RING, 67, 64⟩
def SEAM_RING_BASE : RFld := ⟨SEAM_RING, 39, 0⟩
/-- SEAM_RPI (R502). -/
def SEAM_RPI : Reg := ⟨0x30230020, 0x0⟩
def SEAM_RPI_PI : RFld := ⟨SEAM_RPI, 11, 0⟩
/-- SEAM_RCI (R502). -/
def SEAM_RCI : Reg := ⟨0x30230024, 0x0⟩
def SEAM_RCI_CI : RFld := ⟨SEAM_RCI, 11, 0⟩
/-- SEAM_FWDDA (R502). -/
def SEAM_FWDDA : Reg := ⟨0x30230030, 0x0⟩
def SEAM_FWDDA_PCP : RFld := ⟨SEAM_FWDDA, 62, 60⟩
def SEAM_FWDDA_VID : RFld := ⟨SEAM_FWDDA, 59, 48⟩
def SEAM_FWDDA_DA : RFld := ⟨SEAM_FWDDA, 47, 0⟩
/-- SEAM_CMDW (R502). -/
def SEAM_CMDW : Reg := ⟨0x30230040, 0x0⟩
def SEAM_CMDW_MAY : RFld := ⟨SEAM_CMDW, 79, 0⟩
/-- SEAM_LASTSEQ (R502). -/
def SEAM_LASTSEQ : Reg := ⟨0x30230050, 0x0⟩
def SEAM_LASTSEQ_SEQ : RFld := ⟨SEAM_LASTSEQ, 63, 0⟩
/-- SEAM_SWID (R502). -/
def SEAM_SWID (i : Nat) : Reg := ⟨0x30230100 + 0x10 * i, 0x0⟩
def SEAM_SWID_ID (i : Nat) : RFld := ⟨(SEAM_SWID i), 127, 0⟩
/-- SEAM_HSTAT (R502). -/
def SEAM_HSTAT : Reg := ⟨0x30230200, 0x0⟩
def SEAM_HSTAT_ODO : RFld := ⟨SEAM_HSTAT, 127, 64⟩
def SEAM_HSTAT_QUAL : RFld := ⟨SEAM_HSTAT, 27, 24⟩
def SEAM_HSTAT_LCS : RFld := ⟨SEAM_HSTAT, 23, 16⟩
def SEAM_HSTAT_TAMPER : RFld := ⟨SEAM_HSTAT, 15, 0⟩
/-- SEAM_P_CMD (R502). -/
def SEAM_P_CMD (i : Nat) : Reg := ⟨0x30231040 + 0x40 * i, 0x0⟩
def SEAM_P_CMD_GO (i : Nat) : RFld := ⟨(SEAM_P_CMD i), 31, 31⟩
def SEAM_P_CMD_CODE (i : Nat) : RFld := ⟨(SEAM_P_CMD i), 27, 24⟩
def SEAM_P_CMD_LEN (i : Nat) : RFld := ⟨(SEAM_P_CMD i), 10, 0⟩
/-- SEAM_P_RES (R502). -/
def SEAM_P_RES (i : Nat) : Reg := ⟨0x30231044 + 0x40 * i, 0x0⟩
def SEAM_P_RES_BUSY (i : Nat) : RFld := ⟨(SEAM_P_RES i), 31, 31⟩
def SEAM_P_RES_STATUS (i : Nat) : RFld := ⟨(SEAM_P_RES i), 23, 16⟩
def SEAM_P_RES_RLEN (i : Nat) : RFld := ⟨(SEAM_P_RES i), 10, 0⟩
/-- SEAM_P_ADDR (R502). -/
def SEAM_P_ADDR (i : Nat) : Reg := ⟨0x30231050 + 0x40 * i, 0x0⟩
def SEAM_P_ADDR_RESP (i : Nat) : RFld := ⟨(SEAM_P_ADDR i), 103, 64⟩
def SEAM_P_ADDR_ARG (i : Nat) : RFld := ⟨(SEAM_P_ADDR i), 39, 0⟩

/-- The register map of the SEAM block. -/
def rowsSEAM : List RegRow :=
  [ ⟨0x30230000, [], 32, 0x0, [], (.worlds [1]), 3, false, [⟨31, 31, .rw, []⟩, ⟨30, 30, .wo, []⟩, ⟨2, 0, .rw, []⟩]⟩,
    ⟨0x30230004, [], 32, 0x1, [], .all, 3, false, [⟨31, 24, .ro, []⟩, ⟨5, 5, .w1c, []⟩, ⟨4, 4, .w1c, []⟩, ⟨3, 3, .ro, []⟩, ⟨2, 2, .w1c, []⟩, ⟨1, 1, .ro, []⟩, ⟨0, 0, .ro, []⟩]⟩,
    ⟨0x30230008, [], 32, 0x0, [], .all, 5, false, [⟨15, 0, .ro, []⟩]⟩,
    ⟨0x3023000C, [], 32, 0x0, [], .all, 3, false, [⟨31, 16, .ro, []⟩, ⟨15, 8, .ro, []⟩, ⟨7, 0, .ro, []⟩]⟩,
    ⟨0x30230010, [], 128, 0x40000000000000000, [], (.worlds [1]), 3, false, [⟨67, 64, .rw, [(4, 12)]⟩, ⟨39, 0, .rw, []⟩]⟩,
    ⟨0x30230020, [], 32, 0x0, [], (.worlds [1]), 3, false, [⟨11, 0, .ro, []⟩]⟩,
    ⟨0x30230024, [], 32, 0x0, [], (.worlds [1]), 3, false, [⟨11, 0, .rw, []⟩]⟩,
    ⟨0x30230030, [], 128, 0x0, [], (.worlds [1]), 3, false, [⟨62, 60, .rw, []⟩, ⟨59, 48, .rw, []⟩, ⟨47, 0, .rw, []⟩]⟩,
    ⟨0x30230040, [], 128, 0x0, [], (.worlds [0]), 3, false, [⟨79, 0, .rwb, []⟩]⟩,
    ⟨0x30230050, [], 128, 0x0, [], .all, 3, false, [⟨63, 0, .ro, []⟩]⟩,
    ⟨0x30230100, [(16, 5)], 128, 0x0, [], .all, 3, false, [⟨127, 0, .ro, []⟩]⟩,
    ⟨0x30230200, [], 128, 0x0, [], .all, 3, false, [⟨127, 64, .ro, []⟩, ⟨27, 24, .ro, []⟩, ⟨23, 16, .ro, []⟩, ⟨15, 0, .ro, []⟩]⟩ ] ++
  [ ⟨0x30231040, [(64, 4)], 32, 0x0, [], .special, 2, false, [⟨31, 31, .wo, []⟩, ⟨27, 24, .wo, []⟩, ⟨10, 0, .wo, []⟩]⟩,
    ⟨0x30231044, [(64, 4)], 32, 0x0, [], .special, 2, true, [⟨31, 31, .ro, []⟩, ⟨23, 16, .ro, []⟩, ⟨10, 0, .ro, []⟩]⟩,
    ⟨0x30231050, [(64, 4)], 128, 0x0, [], .special, 2, false, [⟨103, 64, .rw, []⟩, ⟨39, 0, .rw, []⟩]⟩ ]

end Sys2Proof.Machine
end

