-- ==== Sys2Proof/Machine/RegsInputsWakeAndSleep.lean ====
section
/-! DEFINITION. The registers of NMW, AIN as their register maps in spec/09_inputs_wake_and_sleep.md list them (R288, R289): one name for each register and each field, and one row for each in the map. -/

namespace Sys2Proof.Machine

/-- NMW_SLP_CTL (R288). -/
def NMW_SLP_CTL : Reg := ⟨0x301D0000, 0x0⟩
def NMW_SLP_CTL_KACLR : RFld := ⟨NMW_SLP_CTL, 2, 2⟩
def NMW_SLP_CTL_VALID : RFld := ⟨NMW_SLP_CTL, 1, 1⟩
def NMW_SLP_CTL_EN : RFld := ⟨NMW_SLP_CTL, 0, 0⟩
/-- NMW_SLP_STAT (R288). -/
def NMW_SLP_STAT : Reg := ⟨0x301D0004, 0x0⟩
def NMW_SLP_STAT_LASTERR : RFld := ⟨NMW_SLP_STAT, 31, 24⟩
def NMW_SLP_STAT_HOLDWK : RFld := ⟨NMW_SLP_STAT, 8, 8⟩
def NMW_SLP_STAT_HOLDLSW : RFld := ⟨NMW_SLP_STAT, 7, 7⟩
def NMW_SLP_STAT_HOLDVOTE : RFld := ⟨NMW_SLP_STAT, 6, 6⟩
def NMW_SLP_STAT_ABORTED : RFld := ⟨NMW_SLP_STAT, 5, 5⟩
def NMW_SLP_STAT_LATE : RFld := ⟨NMW_SLP_STAT, 4, 4⟩
def NMW_SLP_STAT_STATE : RFld := ⟨NMW_SLP_STAT, 2, 0⟩
/-- NMW_SLP_TIM (R288). -/
def NMW_SLP_TIM : Reg := ⟨0x301D0008, 0x7D00032⟩
def NMW_SLP_TIM_TREADY : RFld := ⟨NMW_SLP_TIM, 31, 16⟩
def NMW_SLP_TIM_TPREP : RFld := ⟨NMW_SLP_TIM, 15, 0⟩
/-- NMW_VALWIN (R288). -/
def NMW_VALWIN : Reg := ⟨0x301D000C, 0x301F4⟩
def NMW_VALWIN_FWLIM : RFld := ⟨NMW_VALWIN, 19, 16⟩
def NMW_VALWIN_VALWIN : RFld := ⟨NMW_VALWIN, 15, 0⟩
/-- NMW_SLPTMR (R288). -/
def NMW_SLPTMR : Reg := ⟨0x301D0010, 0x0⟩
def NMW_SLPTMR_S : RFld := ⟨NMW_SLPTMR, 23, 0⟩
/-- NMW_VOTE (R288). -/
def NMW_VOTE : Reg := ⟨0x301D0014, 0x0⟩
def NMW_VOTE_VOTES : RFld := ⟨NMW_VOTE, 4, 1⟩
/-- NMW_WAKESRC (R288). -/
def NMW_WAKESRC : Reg := ⟨0x301D0020, 0x0⟩
def NMW_WAKESRC_VALIDATED : RFld := ⟨NMW_WAKESRC, 74, 74⟩
def NMW_WAKESRC_ABORT : RFld := ⟨NMW_WAKESRC, 73, 73⟩
def NMW_WAKESRC_LATE : RFld := ⟨NMW_WAKESRC, 72, 72⟩
def NMW_WAKESRC_CODE : RFld := ⟨NMW_WAKESRC, 70, 64⟩
def NMW_WAKESRC_FRC : RFld := ⟨NMW_WAKESRC, 63, 0⟩
/-- NMW_SEGISO (R288). -/
def NMW_SEGISO : Reg := ⟨0x301D0030, 0x0⟩
def NMW_SEGISO_ISO : RFld := ⟨NMW_SEGISO, 41, 0⟩
/-- NMW_SEGBWK (R288). -/
def NMW_SEGBWK : Reg := ⟨0x301D0040, 0x0⟩
def NMW_SEGBWK_BWK : RFld := ⟨NMW_SEGBWK, 41, 0⟩
/-- NMW_SEGSTAT (R288). -/
def NMW_SEGSTAT : Reg := ⟨0x301D0050, 0x3FFFFFFFFFF⟩
def NMW_SEGSTAT_AWAKE : RFld := ⟨NMW_SEGSTAT, 41, 0⟩
/-- NMW_INH (R288). -/
def NMW_INH : Reg := ⟨0x301D0060, 0x0⟩
def NMW_INH_SEGS : RFld := ⟨NMW_INH, 57, 16⟩
def NMW_INH_WAKES : RFld := ⟨NMW_INH, 15, 0⟩
/-- NMW_DINSTAT (R288). -/
def NMW_DINSTAT : Reg := ⟨0x301D0080, 0x0⟩
def NMW_DINSTAT_ST : RFld := ⟨NMW_DINSTAT, 47, 0⟩
/-- NMW_DINCHG (R288). -/
def NMW_DINCHG : Reg := ⟨0x301D0090, 0x0⟩
def NMW_DINCHG_CHG : RFld := ⟨NMW_DINCHG, 47, 0⟩
/-- NMW_DINFLT (R288). -/
def NMW_DINFLT : Reg := ⟨0x301D00A0, 0x0⟩
def NMW_DINFLT_FLT : RFld := ⟨NMW_DINFLT, 47, 0⟩
/-- NMW_LSWSTAT (R288). -/
def NMW_LSWSTAT : Reg := ⟨0x301D00B0, 0x0⟩
def NMW_LSWSTAT_FLT : RFld := ⟨NMW_LSWSTAT, 23, 16⟩
def NMW_LSWSTAT_CHG : RFld := ⟨NMW_LSWSTAT, 15, 8⟩
def NMW_LSWSTAT_ST : RFld := ⟨NMW_LSWSTAT, 7, 0⟩
/-- NMW_WAKESTAT (R288). -/
def NMW_WAKESTAT : Reg := ⟨0x301D00B4, 0x0⟩
def NMW_WAKESTAT_ST : RFld := ⟨NMW_WAKESTAT, 15, 0⟩
/-- NMW_KASTAT (R288). -/
def NMW_KASTAT : Reg := ⟨0x301D00C0, 0x0⟩
def NMW_KASTAT_USED : RFld := ⟨NMW_KASTAT, 22, 16⟩
def NMW_KASTAT_LOGLOST : RFld := ⟨NMW_KASTAT, 15, 0⟩
/-- NMW_DIN_STAMP (R288). -/
def NMW_DIN_STAMP (i : Nat) : Reg := ⟨0x301D0100 + 0x10 * i, 0x0⟩
def NMW_DIN_STAMP_FRC (i : Nat) : RFld := ⟨(NMW_DIN_STAMP i), 63, 0⟩
/-- NMW_DIN_CFG (R288). -/
def NMW_DIN_CFG (i : Nat) : Reg := ⟨0x301D1000 + 0x4 * i, 0x20000000⟩
def NMW_DIN_CFG_IRQ (i : Nat) : RFld := ⟨(NMW_DIN_CFG i), 31, 31⟩
def NMW_DIN_CFG_INV (i : Nat) : RFld := ⟨(NMW_DIN_CFG i), 30, 30⟩
def NMW_DIN_CFG_THR (i : Nat) : RFld := ⟨(NMW_DIN_CFG i), 29, 29⟩
def NMW_DIN_CFG_DIR (i : Nat) : RFld := ⟨(NMW_DIN_CFG i), 28, 28⟩
def NMW_DIN_CFG_WET (i : Nat) : RFld := ⟨(NMW_DIN_CFG i), 20, 16⟩
def NMW_DIN_CFG_FILT (i : Nat) : RFld := ⟨(NMW_DIN_CFG i), 7, 0⟩
/-- NMW_LSW_CFG (R288). -/
def NMW_LSW_CFG (i : Nat) : Reg := ⟨0x301D1100 + 0x4 * i, 0x20001400⟩
def NMW_LSW_CFG_IRQ (i : Nat) : RFld := ⟨(NMW_LSW_CFG i), 31, 31⟩
def NMW_LSW_CFG_INV (i : Nat) : RFld := ⟨(NMW_LSW_CFG i), 30, 30⟩
def NMW_LSW_CFG_THR (i : Nat) : RFld := ⟨(NMW_LSW_CFG i), 29, 29⟩
def NMW_LSW_CFG_DIR (i : Nat) : RFld := ⟨(NMW_LSW_CFG i), 28, 28⟩
def NMW_LSW_CFG_HOLD (i : Nat) : RFld := ⟨(NMW_LSW_CFG i), 27, 27⟩
def NMW_LSW_CFG_WEN (i : Nat) : RFld := ⟨(NMW_LSW_CFG i), 26, 26⟩
def NMW_LSW_CFG_WET (i : Nat) : RFld := ⟨(NMW_LSW_CFG i), 20, 16⟩
def NMW_LSW_CFG_POLL (i : Nat) : RFld := ⟨(NMW_LSW_CFG i), 14, 8⟩
def NMW_LSW_CFG_FILT (i : Nat) : RFld := ⟨(NMW_LSW_CFG i), 7, 0⟩
/-- NMW_LSW_SEG (R288). -/
def NMW_LSW_SEG (i : Nat) : Reg := ⟨0x301D1200 + 0x10 * i, 0x0⟩
def NMW_LSW_SEG_SEGS (i : Nat) : RFld := ⟨(NMW_LSW_SEG i), 41, 0⟩
/-- NMW_WAKE_CFG (R288). -/
def NMW_WAKE_CFG (i : Nat) : Reg := ⟨0x301D1300 + 0x4 * i, 0x0⟩
def NMW_WAKE_CFG_EN (i : Nat) : RFld := ⟨(NMW_WAKE_CFG i), 31, 31⟩
def NMW_WAKE_CFG_INV (i : Nat) : RFld := ⟨(NMW_WAKE_CFG i), 30, 30⟩
def NMW_WAKE_CFG_THR (i : Nat) : RFld := ⟨(NMW_WAKE_CFG i), 29, 29⟩
def NMW_WAKE_CFG_FILT (i : Nat) : RFld := ⟨(NMW_WAKE_CFG i), 7, 0⟩
/-- NMW_PX_CFG (R288). -/
def NMW_PX_CFG (i : Nat) : Reg := ⟨0x301D1400 + 0x4 * i, 0x0⟩
def NMW_PX_CFG_FIFOEN (i : Nat) : RFld := ⟨(NMW_PX_CFG i), 31, 31⟩
def NMW_PX_CFG_INV (i : Nat) : RFld := ⟨(NMW_PX_CFG i), 30, 30⟩
def NMW_PX_CFG_LVL (i : Nat) : RFld := ⟨(NMW_PX_CFG i), 29, 28⟩
def NMW_PX_CFG_GLITCH (i : Nat) : RFld := ⟨(NMW_PX_CFG i), 7, 0⟩
/-- NMW_PX_FIFO (R288). -/
def NMW_PX_FIFO (i : Nat) : Reg := ⟨0x301D1500 + 0x10 * i, 0x0⟩
def NMW_PX_FIFO_VALID (i : Nat) : RFld := ⟨(NMW_PX_FIFO i), 127, 127⟩
def NMW_PX_FIFO_LEVEL (i : Nat) : RFld := ⟨(NMW_PX_FIFO i), 64, 64⟩
def NMW_PX_FIFO_FRC (i : Nat) : RFld := ⟨(NMW_PX_FIFO i), 63, 0⟩
/-- NMW_SRC_CNT (R288). -/
def NMW_SRC_CNT (i : Nat) : Reg := ⟨0x301D2000 + 0x4 * i, 0x0⟩
def NMW_SRC_CNT_WAKES (i : Nat) : RFld := ⟨(NMW_SRC_CNT i), 31, 16⟩
def NMW_SRC_CNT_FALSE (i : Nat) : RFld := ⟨(NMW_SRC_CNT i), 15, 8⟩
def NMW_SRC_CNT_SUPP (i : Nat) : RFld := ⟨(NMW_SRC_CNT i), 7, 4⟩
def NMW_SRC_CNT_CONSEC (i : Nat) : RFld := ⟨(NMW_SRC_CNT i), 3, 0⟩
/-- NMW_KAF (R288). -/
def NMW_KAF (i : Nat) : Reg := ⟨0x301D3000 + 0x10 * i, 0x0⟩
def NMW_KAF_VALID (i : Nat) : RFld := ⟨(NMW_KAF i), 127, 127⟩
def NMW_KAF_SASRC (i : Nat) : RFld := ⟨(NMW_KAF i), 125, 124⟩
def NMW_KAF_SEG (i : Nat) : RFld := ⟨(NMW_KAF i), 117, 112⟩
def NMW_KAF_SAOFS (i : Nat) : RFld := ⟨(NMW_KAF i), 111, 104⟩
def NMW_KAF_KAOFS (i : Nat) : RFld := ⟨(NMW_KAF i), 103, 96⟩
def NMW_KAF_KABIT (i : Nat) : RFld := ⟨(NMW_KAF i), 95, 93⟩
def NMW_KAF_MASK (i : Nat) : RFld := ⟨(NMW_KAF i), 92, 64⟩
def NMW_KAF_ID (i : Nat) : RFld := ⟨(NMW_KAF i), 28, 0⟩
/-- NMW_KALOG (R288). -/
def NMW_KALOG (i j : Nat) : Reg := ⟨0x301D4000 + 0x40 * i + 0x10 * j, 0x0⟩
def NMW_KALOG_V (i j : Nat) : RFld := ⟨(NMW_KALOG i j), 127, 0⟩

/-- The register map of the NMW block. -/
def rowsNMW : List RegRow :=
  [ ⟨0x301D0000, [], 32, 0x0, [], (.worlds [1]), 3, false, [⟨2, 2, .wo, []⟩, ⟨1, 1, .wo, []⟩, ⟨0, 0, .rw, []⟩]⟩,
    ⟨0x301D0004, [], 32, 0x0, [], .all, 2, false, [⟨31, 24, .ro, []⟩, ⟨8, 8, .ro, []⟩, ⟨7, 7, .ro, []⟩, ⟨6, 6, .ro, []⟩, ⟨5, 5, .w1c, []⟩, ⟨4, 4, .w1c, []⟩, ⟨2, 0, .ro, []⟩]⟩,
    ⟨0x301D0008, [], 32, 0x7D00032, [], (.worlds [1]), 3, false, [⟨31, 16, .rw, [(10, 65535)]⟩, ⟨15, 0, .rw, [(5, 1000)]⟩]⟩,
    ⟨0x301D000C, [], 32, 0x301F4, [], (.worlds [1]), 3, false, [⟨19, 16, .rw, []⟩, ⟨15, 0, .rw, [(10, 65535)]⟩]⟩,
    ⟨0x301D0010, [], 32, 0x0, [], (.worlds [1]), 3, false, [⟨23, 0, .rw, []⟩]⟩,
    ⟨0x301D0014, [], 32, 0x0, [], .special, 3, false, [⟨4, 1, .rw, []⟩]⟩,
    ⟨0x301D0020, [], 128, 0x0, [], .all, 3, false, [⟨74, 74, .ro, []⟩, ⟨73, 73, .ro, []⟩, ⟨72, 72, .ro, []⟩, ⟨70, 64, .ro, []⟩, ⟨63, 0, .ro, []⟩]⟩,
    ⟨0x301D0030, [], 128, 0x0, [], .special, 3, false, [⟨41, 0, .rw, []⟩]⟩,
    ⟨0x301D0040, [], 128, 0x0, [], .special, 3, false, [⟨41, 0, .rw, []⟩]⟩,
    ⟨0x301D0050, [], 128, 0x3FFFFFFFFFF, [], .all, 2, false, [⟨41, 0, .ro, []⟩]⟩,
    ⟨0x301D0060, [], 128, 0x0, [], (.worlds [1]), 3, false, [⟨57, 16, .w1c, []⟩, ⟨15, 0, .w1c, []⟩]⟩,
    ⟨0x301D0080, [], 128, 0x0, [], .all, 2, false, [⟨47, 0, .ro, []⟩]⟩ ] ++
  [ ⟨0x301D0090, [], 128, 0x0, [], .special, 2, false, [⟨47, 0, .w1c, []⟩]⟩,
    ⟨0x301D00A0, [], 128, 0x0, [], .all, 2, false, [⟨47, 0, .ro, []⟩]⟩,
    ⟨0x301D00B0, [], 32, 0x0, [], .all, 2, false, [⟨23, 16, .ro, []⟩, ⟨15, 8, .w1c, []⟩, ⟨7, 0, .ro, []⟩]⟩,
    ⟨0x301D00B4, [], 32, 0x0, [], .all, 2, false, [⟨15, 0, .ro, []⟩]⟩,
    ⟨0x301D00C0, [], 32, 0x0, [], .all, 3, false, [⟨22, 16, .ro, []⟩, ⟨15, 0, .ro, []⟩]⟩,
    ⟨0x301D0100, [(16, 48)], 128, 0x0, [], .all, 2, false, [⟨63, 0, .ro, []⟩]⟩,
    ⟨0x301D1000, [(4, 48)], 32, 0x20000000, [], (.claim 9 1 0), 3, false, [⟨31, 31, .rw, []⟩, ⟨30, 30, .rw, []⟩, ⟨29, 29, .rw, []⟩, ⟨28, 28, .rw, []⟩, ⟨20, 16, .rw, [(0, 20)]⟩, ⟨7, 0, .rw, []⟩]⟩,
    ⟨0x301D1100, [(4, 8)], 32, 0x20001400, [], (.claim 10 1 0), 3, false, [⟨31, 31, .rw, []⟩, ⟨30, 30, .rw, []⟩, ⟨29, 29, .rw, []⟩, ⟨28, 28, .rw, []⟩, ⟨27, 27, .rw, []⟩, ⟨26, 26, .rw, []⟩, ⟨20, 16, .rw, [(0, 20)]⟩, ⟨14, 8, .rw, [(5, 100)]⟩, ⟨7, 0, .rw, []⟩]⟩,
    ⟨0x301D1200, [(16, 8)], 128, 0x0, [], (.claim 10 1 0), 3, false, [⟨41, 0, .rw, []⟩]⟩,
    ⟨0x301D1300, [(4, 16)], 32, 0x0, [], (.claim 11 1 0), 3, false, [⟨31, 31, .rw, []⟩, ⟨30, 30, .rw, []⟩, ⟨29, 29, .rw, []⟩, ⟨7, 0, .rw, []⟩]⟩,
    ⟨0x301D1400, [(4, 16)], 32, 0x0, [], (.claim 1 1 0), 3, false, [⟨31, 31, .rw, []⟩, ⟨30, 30, .rw, []⟩, ⟨29, 28, .rw, [(0, 2)]⟩, ⟨7, 0, .rw, []⟩]⟩,
    ⟨0x301D1500, [(16, 16)], 128, 0x0, [], (.claim 1 1 0), 2, false, [⟨127, 127, .ro, []⟩, ⟨64, 64, .ro, []⟩, ⟨63, 0, .ro, []⟩]⟩ ] ++
  [ ⟨0x301D2000, [(4, 74)], 32, 0x0, [], .all, 3, false, [⟨31, 16, .ro, []⟩, ⟨15, 8, .ro, []⟩, ⟨7, 4, .ro, []⟩, ⟨3, 0, .ro, []⟩]⟩,
    ⟨0x301D3000, [(16, 16)], 128, 0x0, [], (.worlds [1]), 3, false, [⟨127, 127, .rw, []⟩, ⟨125, 124, .rw, [(0, 2)]⟩, ⟨117, 112, .rw, []⟩, ⟨111, 104, .rw, []⟩, ⟨103, 96, .rw, []⟩, ⟨95, 93, .rw, []⟩, ⟨92, 64, .rw, []⟩, ⟨28, 0, .rw, []⟩]⟩,
    ⟨0x301D4000, [(64, 64), (16, 3)], 128, 0x0, [], .all, 3, false, [⟨127, 0, .ro, []⟩]⟩ ]

/-- AIN_CTL (R289). -/
def AIN_CTL : Reg := ⟨0x30270000, 0x0⟩
def AIN_CTL_EN : RFld := ⟨AIN_CTL, 1, 0⟩
/-- AIN_STAT (R289). -/
def AIN_STAT : Reg := ⟨0x30270004, 0x0⟩
def AIN_STAT_LASTERR : RFld := ⟨AIN_STAT, 31, 24⟩
def AIN_STAT_QLATE1 : RFld := ⟨AIN_STAT, 19, 19⟩
def AIN_STAT_QLATE0 : RFld := ⟨AIN_STAT, 18, 18⟩
def AIN_STAT_QUEUED1 : RFld := ⟨AIN_STAT, 17, 17⟩
def AIN_STAT_QUEUED0 : RFld := ⟨AIN_STAT, 16, 16⟩
def AIN_STAT_SEQ1 : RFld := ⟨AIN_STAT, 13, 8⟩
def AIN_STAT_BUSY1 : RFld := ⟨AIN_STAT, 7, 7⟩
def AIN_STAT_BUSY0 : RFld := ⟨AIN_STAT, 6, 6⟩
def AIN_STAT_SEQ0 : RFld := ⟨AIN_STAT, 5, 0⟩
/-- AIN_TRIG (R289). -/
def AIN_TRIG : Reg := ⟨0x30270008, 0x0⟩
def AIN_TRIG_CONV : RFld := ⟨AIN_TRIG, 8, 8⟩
def AIN_TRIG_SEQ : RFld := ⟨AIN_TRIG, 5, 0⟩
/-- AIN_CNT (R289). -/
def AIN_CNT : Reg := ⟨0x3027000C, 0x0⟩
def AIN_CNT_OVR1 : RFld := ⟨AIN_CNT, 31, 16⟩
def AIN_CNT_OVR0 : RFld := ⟨AIN_CNT, 15, 0⟩
/-- AIN_SEQ (R289). -/
def AIN_SEQ (i : Nat) : Reg := ⟨0x30270100 + 0x4 * i, 0x0⟩
def AIN_SEQ_VALID (i : Nat) : RFld := ⟨(AIN_SEQ i), 31, 31⟩
def AIN_SEQ_IRQ (i : Nat) : RFld := ⟨(AIN_SEQ i), 30, 30⟩
def AIN_SEQ_STEPS (i : Nat) : RFld := ⟨(AIN_SEQ i), 12, 8⟩
def AIN_SEQ_FIRST (i : Nat) : RFld := ⟨(AIN_SEQ i), 7, 0⟩
/-- AIN_STEP (R289). -/
def AIN_STEP (i : Nat) : Reg := ⟨0x30270400 + 0x4 * i, 0x0⟩
def AIN_STEP_SMP (i : Nat) : RFld := ⟨(AIN_STEP i), 15, 8⟩
def AIN_STEP_CH (i : Nat) : RFld := ⟨(AIN_STEP i), 6, 0⟩
/-- AIN_CH (R289). -/
def AIN_CH (i : Nat) : Reg := ⟨0x30270800 + 0x4 * i, 0x0⟩
def AIN_CH_LIMEN (i : Nat) : RFld := ⟨(AIN_CH i), 26, 26⟩
def AIN_CH_RNG (i : Nat) : RFld := ⟨(AIN_CH i), 25, 24⟩
def AIN_CH_HI (i : Nat) : RFld := ⟨(AIN_CH i), 23, 12⟩
def AIN_CH_LO (i : Nat) : RFld := ⟨(AIN_CH i), 11, 0⟩
/-- AIN_RES (R289). -/
def AIN_RES (i : Nat) : Reg := ⟨0x30271000 + 0x10 * i, 0x0⟩
def AIN_RES_VALID (i : Nat) : RFld := ⟨(AIN_RES i), 79, 79⟩
def AIN_RES_FAULT (i : Nat) : RFld := ⟨(AIN_RES i), 78, 78⟩
def AIN_RES_OUT (i : Nat) : RFld := ⟨(AIN_RES i), 77, 77⟩
def AIN_RES_CONV (i : Nat) : RFld := ⟨(AIN_RES i), 76, 76⟩
def AIN_RES_CODE (i : Nat) : RFld := ⟨(AIN_RES i), 75, 64⟩
def AIN_RES_FRC (i : Nat) : RFld := ⟨(AIN_RES i), 63, 0⟩

/-- The register map of the AIN block. -/
def rowsAIN : List RegRow :=
  [ ⟨0x30270000, [], 32, 0x0, [], .special, 3, false, [⟨1, 0, .rw, []⟩]⟩,
    ⟨0x30270004, [], 32, 0x0, [], .all, 2, false, [⟨31, 24, .ro, []⟩, ⟨19, 19, .w1c, []⟩, ⟨18, 18, .w1c, []⟩, ⟨17, 17, .ro, []⟩, ⟨16, 16, .ro, []⟩, ⟨13, 8, .ro, []⟩, ⟨7, 7, .ro, []⟩, ⟨6, 6, .ro, []⟩, ⟨5, 0, .ro, []⟩]⟩,
    ⟨0x30270008, [], 32, 0x0, [], .special, 3, false, [⟨8, 8, .wo, []⟩, ⟨5, 0, .wo, []⟩]⟩,
    ⟨0x3027000C, [], 32, 0x0, [], .all, 3, false, [⟨31, 16, .ro, []⟩, ⟨15, 0, .ro, []⟩]⟩,
    ⟨0x30270100, [(4, 64)], 32, 0x0, [], (.worlds [2]), 3, false, [⟨31, 31, .rw, []⟩, ⟨30, 30, .rw, []⟩, ⟨12, 8, .rw, []⟩, ⟨7, 0, .rw, []⟩]⟩,
    ⟨0x30270400, [(4, 256)], 32, 0x0, [], (.worlds [2]), 3, false, [⟨15, 8, .rw, [(4, 255)]⟩, ⟨6, 0, .rw, [(0, 83)]⟩]⟩,
    ⟨0x30270800, [(4, 32)], 32, 0x0, [], (.worlds [2]), 3, false, [⟨26, 26, .rw, []⟩, ⟨25, 24, .rw, [(0, 2)]⟩, ⟨23, 12, .rw, []⟩, ⟨11, 0, .rw, []⟩]⟩,
    ⟨0x30271000, [(16, 84)], 128, 0x0, [], .all, 2, false, [⟨79, 79, .ro, []⟩, ⟨78, 78, .ro, []⟩, ⟨77, 77, .ro, []⟩, ⟨76, 76, .ro, []⟩, ⟨75, 64, .ro, []⟩, ⟨63, 0, .ro, []⟩]⟩ ]

end Sys2Proof.Machine
end

