-- ==== Sys2Proof/Machine/RegsKeysAndLifeCycle.lean ====
section
/-! DEFINITION. The registers of KEY as their register maps in spec/15_keys_and_life_cycle.md list them (R436): one name for each register and each field, and one row for each in the map. -/

namespace Sys2Proof.Machine

/-- KEY_CTL (R436). -/
def KEY_CTL : Reg := ⟨0x30220000, 0x0⟩
def KEY_CTL_CLRCNT : RFld := ⟨KEY_CTL, 0, 0⟩
/-- KEY_STAT (R436). -/
def KEY_STAT : Reg := ⟨0x30220004, 0x10001⟩
def KEY_STAT_LASTERR : RFld := ⟨KEY_STAT, 31, 24⟩
def KEY_STAT_DBGOPEN : RFld := ⟨KEY_STAT, 23, 19⟩
def KEY_STAT_LCS : RFld := ⟨KEY_STAT, 18, 16⟩
def KEY_STAT_TRNGFAIL : RFld := ⟨KEY_STAT, 9, 9⟩
def KEY_STAT_NVERR : RFld := ⟨KEY_STAT, 8, 8⟩
def KEY_STAT_IDKEY : RFld := ⟨KEY_STAT, 2, 2⟩
def KEY_STAT_CROWN : RFld := ⟨KEY_STAT, 1, 1⟩
def KEY_STAT_GEN : RFld := ⟨KEY_STAT, 0, 0⟩
/-- KEY_LC (R436). -/
def KEY_LC : Reg := ⟨0x30220008, 0x0⟩
def KEY_LC_GO : RFld := ⟨KEY_LC, 31, 31⟩
def KEY_LC_OP : RFld := ⟨KEY_LC, 3, 0⟩
/-- KEY_LCRES (R436). -/
def KEY_LCRES : Reg := ⟨0x3022000C, 0x0⟩
def KEY_LCRES_BUSY : RFld := ⟨KEY_LCRES, 31, 31⟩
def KEY_LCRES_STATUS : RFld := ⟨KEY_LCRES, 7, 0⟩
/-- KEY_LCNONCE (R436). -/
def KEY_LCNONCE (i : Nat) : Reg := ⟨0x30220010 + 0x10 * i, 0x0⟩
def KEY_LCNONCE_N (i : Nat) : RFld := ⟨(KEY_LCNONCE i), 127, 0⟩
/-- KEY_TOKADDR (R436). -/
def KEY_TOKADDR : Reg := ⟨0x30220030, 0x0⟩
def KEY_TOKADDR_ADDR : RFld := ⟨KEY_TOKADDR, 39, 0⟩
/-- KEY_ROOTATTR (R436). -/
def KEY_ROOTATTR : Reg := ⟨0x30220040, 0x100001⟩
def KEY_ROOTATTR_IDWORLDS : RFld := ⟨KEY_ROOTATTR, 31, 27⟩
def KEY_ROOTATTR_WORLDS : RFld := ⟨KEY_ROOTATTR, 24, 20⟩
def KEY_ROOTATTR_MASTERS : RFld := ⟨KEY_ROOTATTR, 19, 0⟩
/-- KEY_DBGPOL (R436). -/
def KEY_DBGPOL : Reg := ⟨0x30220044, 0x0⟩
def KEY_DBGPOL_WORLDS : RFld := ⟨KEY_DBGPOL, 4, 0⟩
/-- KEY_INVAL (R436). -/
def KEY_INVAL : Reg := ⟨0x30220048, 0x0⟩
def KEY_INVAL_SLOT : RFld := ⟨KEY_INVAL, 9, 0⟩
/-- KEY_LIM (R436). -/
def KEY_LIM : Reg := ⟨0x3022004C, 0x64⟩
def KEY_LIM_HOLDL : RFld := ⟨KEY_LIM, 15, 0⟩
/-- KEY_AUTHHASH (R436). -/
def KEY_AUTHHASH (i : Nat) : Reg := ⟨0x30220050 + 0x10 * i, 0x0⟩
def KEY_AUTHHASH_H (i : Nat) : RFld := ⟨(KEY_AUTHHASH i), 127, 0⟩
/-- KEY_CNT (R436). -/
def KEY_CNT : Reg := ⟨0x30220090, 0x0⟩
def KEY_CNT_REFUSED : RFld := ⟨KEY_CNT, 31, 16⟩
def KEY_CNT_DURING : RFld := ⟨KEY_CNT, 15, 0⟩
/-- KEY_MEAS (R436). -/
def KEY_MEAS (i j : Nat) : Reg := ⟨0x30220100 + 0x40 * i + 0x10 * j, 0x0⟩
def KEY_MEAS_M (i j : Nat) : RFld := ⟨(KEY_MEAS i j), 127, 0⟩
/-- KEY_MCNT (R436). -/
def KEY_MCNT : Reg := ⟨0x30220300, 0x0⟩
def KEY_MCNT_N : RFld := ⟨KEY_MCNT, 127, 0⟩
/-- KEY_SLOT (R436). -/
def KEY_SLOT (i j : Nat) : Reg := ⟨0x30221000 + 0x20 * i + 0x10 * j, 0x0⟩
def KEY_SLOT_R (i j : Nat) : RFld := ⟨(KEY_SLOT i j), 127, 0⟩
/-- CSES_OP (R436). -/
def CSES_OP (i : Nat) : Reg := ⟨0x3022A000 + 0x20 * i, 0x0⟩
def CSES_OP_OP (i : Nat) : RFld := ⟨(CSES_OP i), 31, 28⟩
def CSES_OP_SLOTB (i : Nat) : RFld := ⟨(CSES_OP i), 25, 16⟩
def CSES_OP_IRQ (i : Nat) : RFld := ⟨(CSES_OP i), 13, 13⟩
def CSES_OP_REL (i : Nat) : RFld := ⟨(CSES_OP i), 12, 12⟩
def CSES_OP_SLOTA (i : Nat) : RFld := ⟨(CSES_OP i), 9, 0⟩
/-- CSES_GO (R436). -/
def CSES_GO (i : Nat) : Reg := ⟨0x3022A004 + 0x20 * i, 0x0⟩
def CSES_GO_ANY (i : Nat) : RFld := ⟨(CSES_GO i), 31, 0⟩
/-- CSES_RES (R436). -/
def CSES_RES (i : Nat) : Reg := ⟨0x3022A008 + 0x20 * i, 0x0⟩
def CSES_RES_BUSY (i : Nat) : RFld := ⟨(CSES_RES i), 31, 31⟩
def CSES_RES_DURING (i : Nat) : RFld := ⟨(CSES_RES i), 30, 30⟩
def CSES_RES_WHY (i : Nat) : RFld := ⟨(CSES_RES i), 27, 24⟩
def CSES_RES_STATUS (i : Nat) : RFld := ⟨(CSES_RES i), 23, 16⟩
/-- CSES_LEN (R436). -/
def CSES_LEN (i : Nat) : Reg := ⟨0x3022A00C + 0x20 * i, 0x0⟩
def CSES_LEN_LEN (i : Nat) : RFld := ⟨(CSES_LEN i), 23, 0⟩
/-- CSES_ADDR (R436). -/
def CSES_ADDR (i : Nat) : Reg := ⟨0x3022A010 + 0x20 * i, 0x0⟩
def CSES_ADDR_OUT (i : Nat) : RFld := ⟨(CSES_ADDR i), 103, 64⟩
def CSES_ADDR_IN (i : Nat) : RFld := ⟨(CSES_ADDR i), 39, 0⟩

/-- The register map of the KEY block. -/
def rowsKEY : List RegRow :=
  [ ⟨0x30220000, [], 32, 0x0, [], (.worlds [1]), 3, false, [⟨0, 0, .wo, []⟩]⟩,
    ⟨0x30220004, [], 32, 0x10001, [], .all, 3, false, [⟨31, 24, .ro, []⟩, ⟨23, 19, .ro, []⟩, ⟨18, 16, .ro, []⟩, ⟨9, 9, .w1c, []⟩, ⟨8, 8, .w1c, []⟩, ⟨2, 2, .ro, []⟩, ⟨1, 1, .ro, []⟩, ⟨0, 0, .ro, []⟩]⟩,
    ⟨0x30220008, [], 32, 0x0, [], .special, 3, false, [⟨31, 31, .wo, []⟩, ⟨3, 0, .wo, []⟩]⟩,
    ⟨0x3022000C, [], 32, 0x0, [], .all, 3, false, [⟨31, 31, .ro, []⟩, ⟨7, 0, .ro, []⟩]⟩,
    ⟨0x30220010, [(16, 2)], 128, 0x0, [], .all, 5, false, [⟨127, 0, .ro, []⟩]⟩,
    ⟨0x30220030, [], 128, 0x0, [], (.worlds [1, 4]), 3, false, [⟨39, 0, .rw, []⟩]⟩,
    ⟨0x30220040, [], 32, 0x100001, [], (.worlds [0]), 3, false, [⟨31, 27, .rwb, []⟩, ⟨24, 20, .rwb, []⟩, ⟨19, 0, .rwb, []⟩]⟩,
    ⟨0x30220044, [], 32, 0x0, [], (.worlds [0]), 3, false, [⟨4, 0, .rwb, []⟩]⟩,
    ⟨0x30220048, [], 32, 0x0, [], (.worlds [1]), 3, false, [⟨9, 0, .wo, []⟩]⟩,
    ⟨0x3022004C, [], 32, 0x64, [], (.worlds [1]), 3, false, [⟨15, 0, .rw, [(1, 65535)]⟩]⟩,
    ⟨0x30220050, [(16, 4)], 128, 0x0, [], .special, 5, false, [⟨127, 0, .rw, []⟩]⟩,
    ⟨0x30220090, [], 32, 0x0, [], .all, 3, false, [⟨31, 16, .ro, []⟩, ⟨15, 0, .ro, []⟩]⟩ ] ++
  [ ⟨0x30220100, [(64, 8), (16, 4)], 128, 0x0, [], .all, 2, false, [⟨127, 0, .ro, []⟩]⟩,
    ⟨0x30220300, [], 128, 0x0, [], .all, 2, false, [⟨127, 0, .ro, []⟩]⟩,
    ⟨0x30221000, [(32, 1024), (16, 2)], 128, 0x0, [], .special, 5, false, [⟨127, 0, .ro, []⟩]⟩,
    ⟨0x3022A000, [(32, 128)], 32, 0x0, [], .special, 2, false, [⟨31, 28, .rw, [(0, 15)]⟩, ⟨25, 16, .rw, []⟩, ⟨13, 13, .rw, []⟩, ⟨12, 12, .rw, []⟩, ⟨9, 0, .rw, []⟩]⟩,
    ⟨0x3022A004, [(32, 128)], 32, 0x0, [], .special, 2, false, [⟨31, 0, .wo, []⟩]⟩,
    ⟨0x3022A008, [(32, 128)], 32, 0x0, [], .special, 2, false, [⟨31, 31, .ro, []⟩, ⟨30, 30, .ro, []⟩, ⟨27, 24, .ro, []⟩, ⟨23, 16, .ro, []⟩]⟩,
    ⟨0x3022A00C, [(32, 128)], 32, 0x0, [], .special, 2, false, [⟨23, 0, .rw, []⟩]⟩,
    ⟨0x3022A010, [(32, 128)], 128, 0x0, [], .special, 2, false, [⟨103, 64, .rw, []⟩, ⟨39, 0, .rw, []⟩]⟩ ]

end Sys2Proof.Machine
end

