-- ==== Sys2Proof/Machine/RegsLoadSwitchChannels.lean ====
section
/-! DEFINITION. The registers of LSC as their register maps in spec/04_load_switch_channels.md list them (R139): one name for each register and each field, and one row for each in the map. -/

namespace Sys2Proof.Machine

/-- LSC_CTL (R139). -/
def LSC_CTL : Reg := ⟨0x30040000, 0x0⟩
def LSC_CTL_CLRCNT : RFld := ⟨LSC_CTL, 1, 1⟩
def LSC_CTL_SAFEOFF : RFld := ⟨LSC_CTL, 0, 0⟩
/-- LSC_STAT (R139). -/
def LSC_STAT : Reg := ⟨0x30040004, 0x300000⟩
def LSC_STAT_LASTERR : RFld := ⟨LSC_STAT, 31, 24⟩
def LSC_STAT_NADOPT : RFld := ⟨LSC_STAT, 23, 16⟩
def LSC_STAT_HOLDVALID : RFld := ⟨LSC_STAT, 10, 8⟩
def LSC_STAT_LINKUP : RFld := ⟨LSC_STAT, 6, 4⟩
def LSC_STAT_HBMISS : RFld := ⟨LSC_STAT, 1, 1⟩
def LSC_STAT_SILENT : RFld := ⟨LSC_STAT, 0, 0⟩
/-- LSC_HEART (R139). -/
def LSC_HEART : Reg := ⟨0x30040008, 0x0⟩
def LSC_HEART_ANY : RFld := ⟨LSC_HEART, 31, 0⟩
/-- LSC_ADOPT (R139). -/
def LSC_ADOPT : Reg := ⟨0x3004000C, 0x0⟩
def LSC_ADOPT_TOKEN : RFld := ⟨LSC_ADOPT, 23, 16⟩
def LSC_ADOPT_CH : RFld := ⟨LSC_ADOPT, 5, 0⟩
/-- LSC_ADOPTRES (R139). -/
def LSC_ADOPTRES : Reg := ⟨0x30040010, 0x0⟩
def LSC_ADOPTRES_STATUS : RFld := ⟨LSC_ADOPTRES, 15, 8⟩
def LSC_ADOPTRES_CH : RFld := ⟨LSC_ADOPTRES, 5, 0⟩
/-- LSC_ORPH (R139). -/
def LSC_ORPH : Reg := ⟨0x30040020, 0x0⟩
def LSC_ORPH_ODLY : RFld := ⟨LSC_ORPH, 31, 16⟩
def LSC_ORPH_HBT : RFld := ⟨LSC_ORPH, 9, 0⟩
/-- LSC_FALLBACK (R139). -/
def LSC_FALLBACK (i : Nat) : Reg := ⟨0x30040024 + 0x4 * i, 0xAAAAAAAA⟩
def LSC_FALLBACK_CODES (i : Nat) : RFld := ⟨(LSC_FALLBACK i), 31, 0⟩
/-- LSC_CUFFRST (R139). -/
def LSC_CUFFRST : Reg := ⟨0x30040030, 0x0⟩
def LSC_CUFFRST_KEY : RFld := ⟨LSC_CUFFRST, 15, 0⟩
/-- LSC_SOSEL (R139). -/
def LSC_SOSEL (i : Nat) : Reg := ⟨0x30040040 + 0x4 * i, 0x0⟩
def LSC_SOSEL_EN (i : Nat) : RFld := ⟨(LSC_SOSEL i), 7, 7⟩
def LSC_SOSEL_CH (i : Nat) : RFld := ⟨(LSC_SOSEL i), 5, 0⟩
/-- LSC_CH_CFG (R139). -/
def LSC_CH_CFG (i : Nat) : Reg := ⟨0x30041000 + 0x40 * i, 0x0⟩
def LSC_CH_CFG_SHEDPRI (i : Nat) : RFld := ⟨(LSC_CH_CFG i), 31, 28⟩
def LSC_CH_CFG_COMP (i : Nat) : RFld := ⟨(LSC_CH_CFG i), 23, 23⟩
def LSC_CH_CFG_MODE (i : Nat) : RFld := ⟨(LSC_CH_CFG i), 22, 21⟩
/-- LSC_CH_PROT (R139). -/
def LSC_CH_PROT (i : Nat) : Reg := ⟨0x30041004 + 0x40 * i, 0xFF00200A⟩
def LSC_CH_PROT_ILIM (i : Nat) : RFld := ⟨(LSC_CH_PROT i), 31, 28⟩
def LSC_CH_PROT_IRLIM (i : Nat) : RFld := ⟨(LSC_CH_PROT i), 27, 24⟩
def LSC_CH_PROT_IRWIN (i : Nat) : RFld := ⟨(LSC_CH_PROT i), 23, 14⟩
def LSC_CH_PROT_TSC (i : Nat) : RFld := ⟨(LSC_CH_PROT i), 13, 11⟩
def LSC_CH_PROT_RETRY (i : Nat) : RFld := ⟨(LSC_CH_PROT i), 10, 8⟩
def LSC_CH_PROT_RDLY (i : Nat) : RFld := ⟨(LSC_CH_PROT i), 7, 0⟩
/-- LSC_CH_CLAMP (R139). -/
def LSC_CH_CLAMP (i : Nat) : Reg := ⟨0x30041008 + 0x40 * i, (if i = 0 then 0x9C4271 else if i = 1 then 0x9C4271 else if i = 2 then 0x9C4271 else if i = 3 then 0x9C4271 else if i = 4 then 0x9C4271 else if i = 5 then 0x9C4271 else if i = 6 then 0x9C4271 else if i = 7 then 0x9C4271 else if i = 8 then 0x258096 else if i = 9 then 0x258096 else if i = 10 then 0x258096 else if i = 11 then 0x258096 else if i = 12 then 0x258096 else if i = 13 then 0x258096 else if i = 14 then 0x258096 else if i = 15 then 0x258096 else if i = 16 then 0x258096 else if i = 17 then 0x258096 else if i = 18 then 0x258096 else if i = 19 then 0x258096 else if i = 20 then 0x258096 else if i = 21 then 0x258096 else if i = 22 then 0x258096 else if i = 23 then 0x258096 else 0xC8032)⟩
def LSC_CH_CLAMP_BUDGET (i : Nat) : RFld := ⟨(LSC_CH_CLAMP i), 23, 12⟩
def LSC_CH_CLAMP_REARM (i : Nat) : RFld := ⟨(LSC_CH_CLAMP i), 11, 0⟩
/-- LSC_CH_PWMPER (R139). -/
def LSC_CH_PWMPER (i : Nat) : Reg := ⟨0x3004100C + 0x40 * i, 0xF42400⟩
def LSC_CH_PWMPER_T (i : Nat) : RFld := ⟨(LSC_CH_PWMPER i), 29, 0⟩
/-- LSC_CH_CMD (R139). -/
def LSC_CH_CMD (i : Nat) : Reg := ⟨0x30041010 + 0x40 * i, 0x0⟩
def LSC_CH_CMD_DUTY (i : Nat) : RFld := ⟨(LSC_CH_CMD i), 31, 16⟩
def LSC_CH_CMD_UNLOCK (i : Nat) : RFld := ⟨(LSC_CH_CMD i), 7, 7⟩
def LSC_CH_CMD_CLR (i : Nat) : RFld := ⟨(LSC_CH_CMD i), 6, 6⟩
def LSC_CH_CMD_OP (i : Nat) : RFld := ⟨(LSC_CH_CMD i), 3, 0⟩
/-- LSC_CH_STAT (R139). -/
def LSC_CH_STAT (i : Nat) : Reg := ⟨0x30041014 + 0x40 * i, 0x8000⟩
def LSC_CH_STAT_LASTERR (i : Nat) : RFld := ⟨(LSC_CH_STAT i), 31, 24⟩
def LSC_CH_STAT_CAUSE (i : Nat) : RFld := ⟨(LSC_CH_STAT i), 23, 20⟩
def LSC_CH_STAT_PSTATE (i : Nat) : RFld := ⟨(LSC_CH_STAT i), 19, 17⟩
def LSC_CH_STAT_ADOPTED (i : Nat) : RFld := ⟨(LSC_CH_STAT i), 16, 16⟩
def LSC_CH_STAT_ORPHAN (i : Nat) : RFld := ⟨(LSC_CH_STAT i), 15, 15⟩
def LSC_CH_STAT_OUT (i : Nat) : RFld := ⟨(LSC_CH_STAT i), 14, 14⟩
def LSC_CH_STAT_CMDON (i : Nat) : RFld := ⟨(LSC_CH_STAT i), 13, 13⟩
def LSC_CH_STAT_INRUSH (i : Nat) : RFld := ⟨(LSC_CH_STAT i), 12, 12⟩
def LSC_CH_STAT_IRPAUSE (i : Nat) : RFld := ⟨(LSC_CH_STAT i), 11, 11⟩
def LSC_CH_STAT_COMPFRZ (i : Nat) : RFld := ⟨(LSC_CH_STAT i), 10, 10⟩
def LSC_CH_STAT_FLYWHEEL (i : Nat) : RFld := ⟨(LSC_CH_STAT i), 9, 9⟩
def LSC_CH_STAT_SPOVER (i : Nat) : RFld := ⟨(LSC_CH_STAT i), 8, 8⟩
def LSC_CH_STAT_RETRIES (i : Nat) : RFld := ⟨(LSC_CH_STAT i), 7, 5⟩
/-- LSC_CH_MEAS (R139). -/
def LSC_CH_MEAS (i : Nat) : Reg := ⟨0x30041018 + 0x40 * i, 0x0⟩
def LSC_CH_MEAS_ISENSE (i : Nat) : RFld := ⟨(LSC_CH_MEAS i), 27, 16⟩
def LSC_CH_MEAS_TJ (i : Nat) : RFld := ⟨(LSC_CH_MEAS i), 15, 0⟩
/-- LSC_CH_EACC (R139). -/
def LSC_CH_EACC (i : Nat) : Reg := ⟨0x3004101C + 0x40 * i, (if i = 0 then 0x1E848 else if i = 1 then 0x1E848 else if i = 2 then 0x1E848 else if i = 3 then 0x1E848 else if i = 4 then 0x1E848 else if i = 5 then 0x1E848 else if i = 6 then 0x1E848 else if i = 7 then 0x1E848 else if i = 8 then 0x7530 else if i = 9 then 0x7530 else if i = 10 then 0x7530 else if i = 11 then 0x7530 else if i = 12 then 0x7530 else if i = 13 then 0x7530 else if i = 14 then 0x7530 else if i = 15 then 0x7530 else if i = 16 then 0x7530 else if i = 17 then 0x7530 else if i = 18 then 0x7530 else if i = 19 then 0x7530 else if i = 20 then 0x7530 else if i = 21 then 0x7530 else if i = 22 then 0x7530 else if i = 23 then 0x7530 else 0x2710)⟩
def LSC_CH_EACC_UJ (i : Nat) : RFld := ⟨(LSC_CH_EACC i), 31, 0⟩
/-- LSC_CH_HOLD (R139). -/
def LSC_CH_HOLD (i : Nat) : Reg := ⟨0x30041020 + 0x40 * i, 0x400000000000000000000000000⟩
def LSC_CH_HOLD_HSEQ (i : Nat) : RFld := ⟨(LSC_CH_HOLD i), 127, 120⟩
def LSC_CH_HOLD_PSTATE (i : Nat) : RFld := ⟨(LSC_CH_HOLD i), 119, 117⟩
def LSC_CH_HOLD_CAUSE (i : Nat) : RFld := ⟨(LSC_CH_HOLD i), 116, 113⟩
def LSC_CH_HOLD_MODE (i : Nat) : RFld := ⟨(LSC_CH_HOLD i), 112, 111⟩
def LSC_CH_HOLD_OUT (i : Nat) : RFld := ⟨(LSC_CH_HOLD i), 110, 110⟩
def LSC_CH_HOLD_CMDON (i : Nat) : RFld := ⟨(LSC_CH_HOLD i), 109, 109⟩
def LSC_CH_HOLD_COMP (i : Nat) : RFld := ⟨(LSC_CH_HOLD i), 108, 108⟩
def LSC_CH_HOLD_FBAPPLIED (i : Nat) : RFld := ⟨(LSC_CH_HOLD i), 107, 107⟩
def LSC_CH_HOLD_ORPHAN (i : Nat) : RFld := ⟨(LSC_CH_HOLD i), 106, 106⟩
def LSC_CH_HOLD_PERIOD (i : Nat) : RFld := ⟨(LSC_CH_HOLD i), 95, 64⟩
def LSC_CH_HOLD_DUTY (i : Nat) : RFld := ⟨(LSC_CH_HOLD i), 63, 48⟩
def LSC_CH_HOLD_DEFF (i : Nat) : RFld := ⟨(LSC_CH_HOLD i), 47, 32⟩
def LSC_CH_HOLD_ORPHT (i : Nat) : RFld := ⟨(LSC_CH_HOLD i), 31, 0⟩
/-- LSC_CH_ELIFE (R139). -/
def LSC_CH_ELIFE (i : Nat) : Reg := ⟨0x30041030 + 0x40 * i, 0x0⟩
def LSC_CH_ELIFE_J (i : Nat) : RFld := ⟨(LSC_CH_ELIFE i), 31, 0⟩
/-- LSC_CH_CNT (R139). -/
def LSC_CH_CNT (i : Nat) : Reg := ⟨0x30041034 + 0x40 * i, 0x0⟩
def LSC_CH_CNT_PROTOFF (i : Nat) : RFld := ⟨(LSC_CH_CNT i), 31, 16⟩
def LSC_CH_CNT_REFUSED (i : Nat) : RFld := ⟨(LSC_CH_CNT i), 15, 0⟩
/-- LSC_BK_CFG (R139). -/
def LSC_BK_CFG (i : Nat) : Reg := ⟨0x30042000 + 0x10 * i, (if i = 0 then 0xA8C0320 else if i = 1 then 0xA8C0320 else if i = 2 then 0xA8C0140 else if i = 3 then 0xA8C0140 else if i = 4 then 0xA8C0140 else if i = 5 then 0xA8C0140 else 0xA8C0064)⟩
def LSC_BK_CFG_VNOM (i : Nat) : RFld := ⟨(LSC_BK_CFG i), 31, 16⟩
def LSC_BK_CFG_BUDGET (i : Nat) : RFld := ⟨(LSC_BK_CFG i), 15, 0⟩
/-- LSC_BK_STAT (R139). -/
def LSC_BK_STAT (i : Nat) : Reg := ⟨0x30042004 + 0x10 * i, 0x0⟩
def LSC_BK_STAT_VBK (i : Nat) : RFld := ⟨(LSC_BK_STAT i), 31, 16⟩
def LSC_BK_STAT_IFILT (i : Nat) : RFld := ⟨(LSC_BK_STAT i), 15, 4⟩
def LSC_BK_STAT_DIST (i : Nat) : RFld := ⟨(LSC_BK_STAT i), 2, 2⟩
def LSC_BK_STAT_OVER (i : Nat) : RFld := ⟨(LSC_BK_STAT i), 1, 1⟩
def LSC_BK_STAT_SHEDDING (i : Nat) : RFld := ⟨(LSC_BK_STAT i), 0, 0⟩
/-- LSC_LUG_CFG (R139). -/
def LSC_LUG_CFG (i : Nat) : Reg := ⟨0x30042100 + 0x10 * i, 0x1C2⟩
def LSC_LUG_CFG_BUDGET (i : Nat) : RFld := ⟨(LSC_LUG_CFG i), 15, 0⟩
/-- LSC_LUG_STAT (R139). -/
def LSC_LUG_STAT (i : Nat) : Reg := ⟨0x30042104 + 0x10 * i, 0x0⟩
def LSC_LUG_STAT_VLUG (i : Nat) : RFld := ⟨(LSC_LUG_STAT i), 31, 16⟩
def LSC_LUG_STAT_IFILT (i : Nat) : RFld := ⟨(LSC_LUG_STAT i), 15, 4⟩
def LSC_LUG_STAT_OVER (i : Nat) : RFld := ⟨(LSC_LUG_STAT i), 1, 1⟩
def LSC_LUG_STAT_SHEDDING (i : Nat) : RFld := ⟨(LSC_LUG_STAT i), 0, 0⟩

/-- The register map of the LSC block. -/
def rowsLSC : List RegRow :=
  [ ⟨0x30040000, [], 32, 0x0, [], (.worlds [2]), 4, false, [⟨1, 1, .wo, []⟩, ⟨0, 0, .wo, []⟩]⟩,
    ⟨0x30040004, [], 32, 0x300000, [], .all, 4, false, [⟨31, 24, .ro, []⟩, ⟨23, 16, .ro, []⟩, ⟨10, 8, .ro, []⟩, ⟨6, 4, .ro, []⟩, ⟨1, 1, .w1c, []⟩, ⟨0, 0, .w1c, []⟩]⟩,
    ⟨0x30040008, [], 32, 0x0, [], (.worlds [2]), 4, false, [⟨31, 0, .wo, []⟩]⟩,
    ⟨0x3004000C, [], 32, 0x0, [], .special, 4, false, [⟨23, 16, .wo, []⟩, ⟨5, 0, .wo, []⟩]⟩,
    ⟨0x30040010, [], 32, 0x0, [], .all, 4, false, [⟨15, 8, .ro, []⟩, ⟨5, 0, .ro, []⟩]⟩,
    ⟨0x30040020, [], 32, 0x0, [], (.worlds [0]), 3, false, [⟨31, 16, .rwb, [(0, 60000)]⟩, ⟨9, 0, .rwb, [(0, 1000)]⟩]⟩,
    ⟨0x30040024, [(4, 3)], 32, 0xAAAAAAAA, [], (.worlds [0]), 3, false, [⟨31, 0, .rwb, []⟩]⟩,
    ⟨0x30040030, [], 32, 0x0, [], (.worlds [0]), 4, false, [⟨15, 0, .wo, []⟩]⟩,
    ⟨0x30040040, [(4, 4)], 32, 0x0, [], .special, 4, false, [⟨7, 7, .rw, []⟩, ⟨5, 0, .rw, [(0, 47)]⟩]⟩,
    ⟨0x30041000, [(64, 48)], 32, 0x0, [], (.claim 4 1 0), 4, false, [⟨31, 28, .rw, []⟩, ⟨23, 23, .rw, []⟩, ⟨22, 21, .rw, [(0, 2)]⟩]⟩,
    ⟨0x30041004, [(64, 48)], 32, 0xFF00200A, [], (.claim 4 1 0), 4, false, [⟨31, 28, .rw, []⟩, ⟨27, 24, .rw, []⟩, ⟨23, 14, .rw, []⟩, ⟨13, 11, .rw, []⟩, ⟨10, 8, .rw, []⟩, ⟨7, 0, .rw, []⟩]⟩,
    ⟨0x30041008, [(64, 48)], 32, 0xC8032, [(0, 0x9C4271), (1, 0x9C4271), (2, 0x9C4271), (3, 0x9C4271), (4, 0x9C4271), (5, 0x9C4271), (6, 0x9C4271), (7, 0x9C4271), (8, 0x258096), (9, 0x258096), (10, 0x258096), (11, 0x258096), (12, 0x258096), (13, 0x258096), (14, 0x258096), (15, 0x258096), (16, 0x258096), (17, 0x258096), (18, 0x258096), (19, 0x258096), (20, 0x258096), (21, 0x258096), (22, 0x258096), (23, 0x258096)], (.claim 4 1 0), 4, false, [⟨23, 12, .rw, []⟩, ⟨11, 0, .rw, []⟩]⟩ ] ++
  [ ⟨0x3004100C, [(64, 48)], 32, 0xF42400, [], (.claim 4 1 0), 4, false, [⟨29, 0, .rw, []⟩]⟩,
    ⟨0x30041010, [(64, 48)], 32, 0x0, [], (.claim 4 1 0), 4, false, [⟨31, 16, .wo, []⟩, ⟨7, 7, .wo, []⟩, ⟨6, 6, .wo, []⟩, ⟨3, 0, .wo, [(0, 4)]⟩]⟩,
    ⟨0x30041014, [(64, 48)], 32, 0x8000, [], (.claim 4 1 0), 4, false, [⟨31, 24, .ro, []⟩, ⟨23, 20, .ro, []⟩, ⟨19, 17, .ro, []⟩, ⟨16, 16, .ro, []⟩, ⟨15, 15, .ro, []⟩, ⟨14, 14, .ro, []⟩, ⟨13, 13, .ro, []⟩, ⟨12, 12, .ro, []⟩, ⟨11, 11, .ro, []⟩, ⟨10, 10, .ro, []⟩, ⟨9, 9, .ro, []⟩, ⟨8, 8, .w1c, []⟩, ⟨7, 5, .ro, []⟩]⟩,
    ⟨0x30041018, [(64, 48)], 32, 0x0, [], (.claim 4 1 0), 4, false, [⟨27, 16, .ro, []⟩, ⟨15, 0, .ro, []⟩]⟩,
    ⟨0x3004101C, [(64, 48)], 32, 0x2710, [(0, 0x1E848), (1, 0x1E848), (2, 0x1E848), (3, 0x1E848), (4, 0x1E848), (5, 0x1E848), (6, 0x1E848), (7, 0x1E848), (8, 0x7530), (9, 0x7530), (10, 0x7530), (11, 0x7530), (12, 0x7530), (13, 0x7530), (14, 0x7530), (15, 0x7530), (16, 0x7530), (17, 0x7530), (18, 0x7530), (19, 0x7530), (20, 0x7530), (21, 0x7530), (22, 0x7530), (23, 0x7530)], (.claim 4 1 0), 4, false, [⟨31, 0, .ro, []⟩]⟩,
    ⟨0x30041020, [(64, 48)], 128, 0x400000000000000000000000000, [], (.claim 4 1 0), 4, false, [⟨127, 120, .ro, []⟩, ⟨119, 117, .ro, []⟩, ⟨116, 113, .ro, []⟩, ⟨112, 111, .ro, []⟩, ⟨110, 110, .ro, []⟩, ⟨109, 109, .ro, []⟩, ⟨108, 108, .ro, []⟩, ⟨107, 107, .ro, []⟩, ⟨106, 106, .ro, []⟩, ⟨95, 64, .ro, []⟩, ⟨63, 48, .ro, []⟩, ⟨47, 32, .ro, []⟩, ⟨31, 0, .ro, []⟩]⟩,
    ⟨0x30041030, [(64, 48)], 32, 0x0, [], (.claim 4 1 0), 4, false, [⟨31, 0, .ro, []⟩]⟩,
    ⟨0x30041034, [(64, 48)], 32, 0x0, [], (.claim 4 1 0), 4, false, [⟨31, 16, .ro, []⟩, ⟨15, 0, .ro, []⟩]⟩,
    ⟨0x30042000, [(16, 12)], 32, 0xA8C0064, [(0, 0xA8C0320), (1, 0xA8C0320), (2, 0xA8C0140), (3, 0xA8C0140), (4, 0xA8C0140), (5, 0xA8C0140)], (.worlds [2]), 4, false, [⟨31, 16, .rw, []⟩, ⟨15, 0, .rw, []⟩]⟩,
    ⟨0x30042004, [(16, 12)], 32, 0x0, [], (.worlds [2]), 4, false, [⟨31, 16, .ro, []⟩, ⟨15, 4, .ro, []⟩, ⟨2, 2, .ro, []⟩, ⟨1, 1, .ro, []⟩, ⟨0, 0, .ro, []⟩]⟩,
    ⟨0x30042100, [(16, 4)], 32, 0x1C2, [], (.worlds [2]), 4, false, [⟨15, 0, .rw, []⟩]⟩,
    ⟨0x30042104, [(16, 4)], 32, 0x0, [], (.worlds [2]), 4, false, [⟨31, 16, .ro, []⟩, ⟨15, 4, .ro, []⟩, ⟨1, 1, .ro, []⟩, ⟨0, 0, .ro, []⟩]⟩ ]

end Sys2Proof.Machine
end

