-- ==== Sys2Proof/Machine/RegsLogicEngine.lean ====
section
/-! DEFINITION. The registers of LE as their register maps in spec/05_logic_engine.md list them (R175): one name for each register and each field, and one row for each in the map. -/

namespace Sys2Proof.Machine

/-- LE_CTL (R175). -/
def LE_CTL (i : Nat) : Reg := ⟨0x30050000 + 0x10000 * i, 0x0⟩
def LE_CTL_CLRCNT (i : Nat) : RFld := ⟨(LE_CTL i), 6, 6⟩
def LE_CTL_CLRFLT (i : Nat) : RFld := ⟨(LE_CTL i), 5, 5⟩
def LE_CTL_SCYC (i : Nat) : RFld := ⟨(LE_CTL i), 4, 4⟩
def LE_CTL_STEP (i : Nat) : RFld := ⟨(LE_CTL i), 3, 3⟩
def LE_CTL_INIT (i : Nat) : RFld := ⟨(LE_CTL i), 2, 2⟩
def LE_CTL_MODE (i : Nat) : RFld := ⟨(LE_CTL i), 1, 0⟩
/-- LE_STAT (R175). -/
def LE_STAT (i : Nat) : Reg := ⟨0x30050004 + 0x10000 * i, 0x0⟩
def LE_STAT_LASTERR (i : Nat) : RFld := ⟨(LE_STAT i), 31, 24⟩
def LE_STAT_BSP (i : Nat) : RFld := ⟨(LE_STAT i), 23, 19⟩
def LE_STAT_CSP (i : Nat) : RFld := ⟨(LE_STAT i), 18, 15⟩
def LE_STAT_CMPBAD (i : Nat) : RFld := ⟨(LE_STAT i), 14, 14⟩
def LE_STAT_XARMED (i : Nat) : RFld := ⟨(LE_STAT i), 13, 13⟩
def LE_STAT_INQ (i : Nat) : RFld := ⟨(LE_STAT i), 12, 12⟩
def LE_STAT_FLTSTOP (i : Nat) : RFld := ⟨(LE_STAT i), 11, 11⟩
def LE_STAT_BRKHIT (i : Nat) : RFld := ⟨(LE_STAT i), 10, 10⟩
def LE_STAT_OVR (i : Nat) : RFld := ⟨(LE_STAT i), 9, 9⟩
def LE_STAT_SKIP (i : Nat) : RFld := ⟨(LE_STAT i), 8, 8⟩
def LE_STAT_CYCRUN (i : Nat) : RFld := ⟨(LE_STAT i), 3, 3⟩
def LE_STAT_MODE (i : Nat) : RFld := ⟨(LE_STAT i), 1, 0⟩
/-- LE_PROT (R175). -/
def LE_PROT (i : Nat) : Reg := ⟨0x30050008 + 0x10000 * i, 0x0⟩
def LE_PROT_FORCEW4 (i : Nat) : RFld := ⟨(LE_PROT i), 2, 2⟩
def LE_PROT_DBGEN (i : Nat) : RFld := ⟨(LE_PROT i), 1, 1⟩
/-- LE_CFG (R175). -/
def LE_CFG (i : Nat) : Reg := ⟨0x3005000C + 0x10000 * i, 0x0⟩
def LE_CFG_OVRLIM (i : Nat) : RFld := ⟨(LE_CFG i), 15, 12⟩
def LE_CFG_STOPACT (i : Nat) : RFld := ⟨(LE_CFG i), 8, 8⟩
/-- LE_FAULT (R175). -/
def LE_FAULT (i : Nat) : Reg := ⟨0x30050010 + 0x10000 * i, 0x0⟩
def LE_FAULT_CAUSE (i : Nat) : RFld := ⟨(LE_FAULT i), 31, 24⟩
def LE_FAULT_PC (i : Nat) : RFld := ⟨(LE_FAULT i), 15, 0⟩
/-- LE_CYCLE (R175). -/
def LE_CYCLE (i : Nat) : Reg := ⟨0x30050020 + 0x10000 * i, 0x0⟩
def LE_CYCLE_MAXT (i : Nat) : RFld := ⟨(LE_CYCLE i), 127, 96⟩
def LE_CYCLE_LASTT (i : Nat) : RFld := ⟨(LE_CYCLE i), 95, 64⟩
def LE_CYCLE_N (i : Nat) : RFld := ⟨(LE_CYCLE i), 63, 0⟩
/-- LE_CNT (R175). -/
def LE_CNT (i : Nat) : Reg := ⟨0x30050030 + 0x10000 * i, 0x0⟩
def LE_CNT_OVERRUN (i : Nat) : RFld := ⟨(LE_CNT i), 31, 22⟩
def LE_CNT_SKIP (i : Nat) : RFld := ⟨(LE_CNT i), 21, 12⟩
def LE_CNT_LINKREF (i : Nat) : RFld := ⟨(LE_CNT i), 11, 0⟩
/-- LE_PC (R175). -/
def LE_PC (i : Nat) : Reg := ⟨0x30050034 + 0x10000 * i, 0x0⟩
def LE_PC_PC (i : Nat) : RFld := ⟨(LE_PC i), 15, 0⟩
/-- LE_INQ (R175). -/
def LE_INQ (i : Nat) : Reg := ⟨0x30050038 + 0x10000 * i, 0x0⟩
def LE_INQ_ANY (i : Nat) : RFld := ⟨(LE_INQ i), 31, 31⟩
def LE_INQ_ENTRY (i : Nat) : RFld := ⟨(LE_INQ i), 8, 0⟩
/-- LE_HOLDACC (R175). -/
def LE_HOLDACC (i : Nat) : Reg := ⟨0x30050040 + 0x10000 * i, 0x0⟩
def LE_HOLDACC_NS (i : Nat) : RFld := ⟨(LE_HOLDACC i), 63, 0⟩
/-- LE_MADDR (R175). -/
def LE_MADDR (i : Nat) : Reg := ⟨0x30050050 + 0x10000 * i, 0x0⟩
def LE_MADDR_SPACE (i : Nat) : RFld := ⟨(LE_MADDR i), 31, 28⟩
def LE_MADDR_INDEX (i : Nat) : RFld := ⟨(LE_MADDR i), 19, 0⟩
/-- LE_MRES (R175). -/
def LE_MRES (i : Nat) : Reg := ⟨0x30050054 + 0x10000 * i, 0x0⟩
def LE_MRES_STATUS (i : Nat) : RFld := ⟨(LE_MRES i), 7, 0⟩
/-- LE_MDATA (R175). -/
def LE_MDATA (i : Nat) : Reg := ⟨0x30050060 + 0x10000 * i, 0x0⟩
def LE_MDATA_DATA (i : Nat) : RFld := ⟨(LE_MDATA i), 127, 0⟩
/-- LE_CHG_ADDR (R175). -/
def LE_CHG_ADDR (i : Nat) : Reg := ⟨0x30050070 + 0x10000 * i, 0x0⟩
def LE_CHG_ADDR_AREA (i : Nat) : RFld := ⟨(LE_CHG_ADDR i), 31, 28⟩
def LE_CHG_ADDR_ADDR (i : Nat) : RFld := ⟨(LE_CHG_ADDR i), 14, 0⟩
/-- LE_CHG_MASK (R175). -/
def LE_CHG_MASK (i : Nat) : Reg := ⟨0x30050074 + 0x10000 * i, 0x0⟩
def LE_CHG_MASK_MASK (i : Nat) : RFld := ⟨(LE_CHG_MASK i), 15, 0⟩
/-- LE_CHG_RES (R175). -/
def LE_CHG_RES (i : Nat) : Reg := ⟨0x30050078 + 0x10000 * i, 0x0⟩
def LE_CHG_RES_DISCARDED (i : Nat) : RFld := ⟨(LE_CHG_RES i), 31, 16⟩
def LE_CHG_RES_PENDING (i : Nat) : RFld := ⟨(LE_CHG_RES i), 14, 8⟩
def LE_CHG_RES_STATUS (i : Nat) : RFld := ⟨(LE_CHG_RES i), 7, 0⟩
/-- LE_CHG_DATA (R175). -/
def LE_CHG_DATA (i : Nat) : Reg := ⟨0x30050080 + 0x10000 * i, 0x0⟩
def LE_CHG_DATA_DATA (i : Nat) : RFld := ⟨(LE_CHG_DATA i), 127, 0⟩
/-- LE_XCHG (R175). -/
def LE_XCHG (i : Nat) : Reg := ⟨0x30050090 + 0x10000 * i, 0x0⟩
def LE_XCHG_GO (i : Nat) : RFld := ⟨(LE_XCHG i), 31, 31⟩
def LE_XCHG_CANCEL (i : Nat) : RFld := ⟨(LE_XCHG i), 30, 30⟩
def LE_XCHG_ATCYC (i : Nat) : RFld := ⟨(LE_XCHG i), 29, 29⟩
def LE_XCHG_LAST (i : Nat) : RFld := ⟨(LE_XCHG i), 15, 0⟩
/-- LE_XCHG_CRC (R175). -/
def LE_XCHG_CRC (i : Nat) : Reg := ⟨0x30050094 + 0x10000 * i, 0x0⟩
def LE_XCHG_CRC_CRC (i : Nat) : RFld := ⟨(LE_XCHG_CRC i), 31, 0⟩
/-- LE_XSTAT (R175). -/
def LE_XSTAT (i : Nat) : Reg := ⟨0x30050098 + 0x10000 * i, 0x0⟩
def LE_XSTAT_BADIDX (i : Nat) : RFld := ⟨(LE_XSTAT i), 31, 16⟩
def LE_XSTAT_BADSPC (i : Nat) : RFld := ⟨(LE_XSTAT i), 15, 12⟩
def LE_XSTAT_DONE (i : Nat) : RFld := ⟨(LE_XSTAT i), 9, 9⟩
def LE_XSTAT_ARMED (i : Nat) : RFld := ⟨(LE_XSTAT i), 8, 8⟩
def LE_XSTAT_STATUS (i : Nat) : RFld := ⟨(LE_XSTAT i), 7, 0⟩
/-- LE_XCHG_CYC (R175). -/
def LE_XCHG_CYC (i : Nat) : Reg := ⟨0x300500A0 + 0x10000 * i, 0x0⟩
def LE_XCHG_CYC_N (i : Nat) : RFld := ⟨(LE_XCHG_CYC i), 63, 0⟩
/-- LE_XRES (R175). -/
def LE_XRES (i : Nat) : Reg := ⟨0x300500B0 + 0x10000 * i, 0x0⟩
def LE_XRES_CYCLE (i : Nat) : RFld := ⟨(LE_XRES i), 127, 64⟩
def LE_XRES_FDROP (i : Nat) : RFld := ⟨(LE_XRES i), 63, 48⟩
def LE_XRES_UNMATCHED (i : Nat) : RFld := ⟨(LE_XRES i), 47, 32⟩
def LE_XRES_MATCHED (i : Nat) : RFld := ⟨(LE_XRES i), 31, 16⟩
/-- LE_BRK (R175). -/
def LE_BRK (i j : Nat) : Reg := ⟨0x300500C0 + 0x10000 * i + 0x4 * j, 0x0⟩
def LE_BRK_EN (i j : Nat) : RFld := ⟨(LE_BRK i j), 31, 31⟩
def LE_BRK_ADDR (i j : Nat) : RFld := ⟨(LE_BRK i j), 15, 0⟩

/-- The register map of the LE block. -/
def rowsLE : List RegRow :=
  [ ⟨0x30050000, [(65536, 2)], 32, 0x0, [], .special, 2, true, [⟨6, 6, .wo, []⟩, ⟨5, 5, .wo, []⟩, ⟨4, 4, .wo, []⟩, ⟨3, 3, .wo, []⟩, ⟨2, 2, .wo, []⟩, ⟨1, 0, .rw, [(0, 2)]⟩]⟩,
    ⟨0x30050004, [(65536, 2)], 32, 0x0, [], .all, 2, false, [⟨31, 24, .ro, []⟩, ⟨23, 19, .ro, []⟩, ⟨18, 15, .ro, []⟩, ⟨14, 14, .ro, []⟩, ⟨13, 13, .ro, []⟩, ⟨12, 12, .ro, []⟩, ⟨11, 11, .ro, []⟩, ⟨10, 10, .w1c, []⟩, ⟨9, 9, .w1c, []⟩, ⟨8, 8, .w1c, []⟩, ⟨3, 3, .ro, []⟩, ⟨1, 0, .ro, []⟩]⟩,
    ⟨0x30050008, [(65536, 2)], 32, 0x0, [], (.worlds [0]), 3, false, [⟨2, 2, .rwb, []⟩, ⟨1, 1, .rwb, []⟩]⟩,
    ⟨0x3005000C, [(65536, 2)], 32, 0x0, [], .special, 2, false, [⟨15, 12, .rw, []⟩, ⟨8, 8, .rw, []⟩]⟩,
    ⟨0x30050010, [(65536, 2)], 32, 0x0, [], .all, 2, false, [⟨31, 24, .ro, []⟩, ⟨15, 0, .ro, []⟩]⟩,
    ⟨0x30050020, [(65536, 2)], 128, 0x0, [], .all, 2, false, [⟨127, 96, .ro, []⟩, ⟨95, 64, .ro, []⟩, ⟨63, 0, .ro, []⟩]⟩,
    ⟨0x30050030, [(65536, 2)], 32, 0x0, [], .all, 2, false, [⟨31, 22, .ro, []⟩, ⟨21, 12, .ro, []⟩, ⟨11, 0, .ro, []⟩]⟩,
    ⟨0x30050034, [(65536, 2)], 32, 0x0, [], .special, 2, false, [⟨15, 0, .ro, []⟩]⟩,
    ⟨0x30050038, [(65536, 2)], 32, 0x0, [], .all, 2, false, [⟨31, 31, .ro, []⟩, ⟨8, 0, .ro, []⟩]⟩,
    ⟨0x30050040, [(65536, 2)], 128, 0x0, [], .all, 3, false, [⟨63, 0, .ro, []⟩]⟩,
    ⟨0x30050050, [(65536, 2)], 32, 0x0, [], .special, 2, false, [⟨31, 28, .rw, []⟩, ⟨19, 0, .rw, []⟩]⟩,
    ⟨0x30050054, [(65536, 2)], 32, 0x0, [], .special, 2, false, [⟨7, 0, .ro, []⟩]⟩ ] ++
  [ ⟨0x30050060, [(65536, 2)], 128, 0x0, [], .special, 2, false, [⟨127, 0, .rw, []⟩]⟩,
    ⟨0x30050070, [(65536, 2)], 32, 0x0, [], .special, 2, false, [⟨31, 28, .rw, []⟩, ⟨14, 0, .rw, []⟩]⟩,
    ⟨0x30050074, [(65536, 2)], 32, 0x0, [], .special, 2, false, [⟨15, 0, .rw, []⟩]⟩,
    ⟨0x30050078, [(65536, 2)], 32, 0x0, [], .all, 2, false, [⟨31, 16, .ro, []⟩, ⟨14, 8, .ro, []⟩, ⟨7, 0, .ro, []⟩]⟩,
    ⟨0x30050080, [(65536, 2)], 128, 0x0, [], .special, 2, false, [⟨127, 0, .wo, []⟩]⟩,
    ⟨0x30050090, [(65536, 2)], 32, 0x0, [], .special, 2, false, [⟨31, 31, .wo, []⟩, ⟨30, 30, .wo, []⟩, ⟨29, 29, .wo, []⟩, ⟨15, 0, .wo, []⟩]⟩,
    ⟨0x30050094, [(65536, 2)], 32, 0x0, [], .special, 2, false, [⟨31, 0, .rw, []⟩]⟩,
    ⟨0x30050098, [(65536, 2)], 32, 0x0, [], .all, 2, false, [⟨31, 16, .ro, []⟩, ⟨15, 12, .ro, []⟩, ⟨9, 9, .w1c, []⟩, ⟨8, 8, .ro, []⟩, ⟨7, 0, .ro, []⟩]⟩,
    ⟨0x300500A0, [(65536, 2)], 128, 0x0, [], .special, 2, false, [⟨63, 0, .rw, []⟩]⟩,
    ⟨0x300500B0, [(65536, 2)], 128, 0x0, [], .all, 2, false, [⟨127, 64, .ro, []⟩, ⟨63, 48, .ro, []⟩, ⟨47, 32, .ro, []⟩, ⟨31, 16, .ro, []⟩]⟩,
    ⟨0x300500C0, [(65536, 2), (4, 8)], 32, 0x0, [], .special, 2, false, [⟨31, 31, .rw, []⟩, ⟨15, 0, .rw, []⟩]⟩ ]

end Sys2Proof.Machine
end

