-- ==== Sys2Proof/Machine/RegsProgressAndContainment.lean ====
section
/-! DEFINITION. The registers of CLM, PIN as their register maps in spec/19_progress_and_containment.md list them (R538, R539, R547): one name for each register and each field, and one row for each in the map. -/

namespace Sys2Proof.Machine

/-- CLM_CTL (R547). -/
def CLM_CTL : Reg := ⟨0x30260000, 0x0⟩
def CLM_CTL_CLRCNT : RFld := ⟨CLM_CTL, 0, 0⟩
/-- CLM_STAT (R547). -/
def CLM_STAT : Reg := ⟨0x30260004, 0x0⟩
def CLM_STAT_LASTERR : RFld := ⟨CLM_STAT, 31, 24⟩
def CLM_STAT_CONFN : RFld := ⟨CLM_STAT, 7, 4⟩
def CLM_STAT_CONFOVF : RFld := ⟨CLM_STAT, 3, 3⟩
def CLM_STAT_DRAINOVR : RFld := ⟨CLM_STAT, 2, 2⟩
def CLM_STAT_ISOACT : RFld := ⟨CLM_STAT, 1, 1⟩
def CLM_STAT_REVRUN : RFld := ⟨CLM_STAT, 0, 0⟩
/-- CLM_CNT (R547). -/
def CLM_CNT : Reg := ⟨0x30260008, 0x0⟩
def CLM_CNT_CONFLICTS : RFld := ⟨CLM_CNT, 31, 24⟩
def CLM_CNT_REVOKES : RFld := ⟨CLM_CNT, 23, 16⟩
def CLM_CNT_CWREC : RFld := ⟨CLM_CNT, 15, 8⟩
def CLM_CNT_DRAINS : RFld := ⟨CLM_CNT, 7, 0⟩
/-- CLM_CONF (R547). -/
def CLM_CONF : Reg := ⟨0x30260010, 0x0⟩
def CLM_CONF_REC : RFld := ⟨CLM_CONF, 127, 0⟩
/-- CLM_REVOKE (R547). -/
def CLM_REVOKE : Reg := ⟨0x30260020, 0x0⟩
def CLM_REVOKE_TARGET : RFld := ⟨CLM_REVOKE, 31, 30⟩
def CLM_REVOKE_LKIND : RFld := ⟨CLM_REVOKE, 29, 28⟩
def CLM_REVOKE_ID : RFld := ⟨CLM_REVOKE, 15, 10⟩
def CLM_REVOKE_LIDX : RFld := ⟨CLM_REVOKE, 9, 0⟩
/-- CLM_REVRES (R547). -/
def CLM_REVRES : Reg := ⟨0x30260024, 0x0⟩
def CLM_REVRES_BUSY : RFld := ⟨CLM_REVRES, 31, 31⟩
def CLM_REVRES_STATUS : RFld := ⟨CLM_REVRES, 23, 16⟩
def CLM_REVRES_PENDOVF : RFld := ⟨CLM_REVRES, 8, 8⟩
def CLM_REVRES_QUEUED : RFld := ⟨CLM_REVRES, 3, 0⟩
/-- CLM_DRAINLIM (R547). -/
def CLM_DRAINLIM : Reg := ⟨0x30260028, 0x64⟩
def CLM_DRAINLIM_US : RFld := ⟨CLM_DRAINLIM, 13, 0⟩
/-- CLM_ISOCLR (R547). -/
def CLM_ISOCLR : Reg := ⟨0x3026002C, 0x0⟩
def CLM_ISOCLR_VF : RFld := ⟨CLM_ISOCLR, 31, 31⟩
def CLM_ISOCLR_ID : RFld := ⟨CLM_ISOCLR, 5, 0⟩
/-- CLM_ISO (R547). -/
def CLM_ISO : Reg := ⟨0x30260030, 0x0⟩
def CLM_ISO_VFS : RFld := ⟨CLM_ISO, 127, 64⟩
def CLM_ISO_MIDS : RFld := ⟨CLM_ISO, 19, 0⟩
/-- CLM_CWLIM (R547). -/
def CLM_CWLIM (i : Nat) : Reg := ⟨0x30260040 + 0x4 * i, (if i = 0 then 0x1 else if i = 1 then 0x64 else if i = 2 then 0x64 else if i = 3 then 0x3E8 else if i = 4 then 0x3E8 else 0x0)⟩
def CLM_CWLIM_US (i : Nat) : RFld := ⟨(CLM_CWLIM i), 15, 0⟩
/-- CLM_CWACT (R547). -/
def CLM_CWACT : Reg := ⟨0x30260054, 0x0⟩
def CLM_CWACT_ACT : RFld := ⟨CLM_CWACT, 4, 1⟩
/-- CLM_CWREC (R547). -/
def CLM_CWREC : Reg := ⟨0x30260060, 0x0⟩
def CLM_CWREC_AGE : RFld := ⟨CLM_CWREC, 127, 101⟩
def CLM_CWREC_LIDX : RFld := ⟨CLM_CWREC, 100, 91⟩
def CLM_CWREC_LKIND : RFld := ⟨CLM_CWREC, 90, 89⟩
def CLM_CWREC_LEASE : RFld := ⟨CLM_CWREC, 88, 88⟩
def CLM_CWREC_UNIT : RFld := ⟨CLM_CWREC, 87, 80⟩
def CLM_CWREC_VFN : RFld := ⟨CLM_CWREC, 79, 74⟩
def CLM_CWREC_VFV : RFld := ⟨CLM_CWREC, 73, 73⟩
def CLM_CWREC_MID : RFld := ⟨CLM_CWREC, 72, 67⟩
def CLM_CWREC_CLASS : RFld := ⟨CLM_CWREC, 66, 64⟩
def CLM_CWREC_FRC : RFld := ⟨CLM_CWREC, 63, 0⟩
/-- CLM_CLAIM (R538). -/
def CLM_CLAIM (i j : Nat) : Reg := ⟨0x30261000 + 0x40 * i + 0x4 * j, 0x0⟩
def CLM_CLAIM_NIB (i j : Nat) : RFld := ⟨(CLM_CLAIM i j), 31, 0⟩
/-- CLM_LOCK (R547). -/
def CLM_LOCK (i : Nat) : Reg := ⟨0x30262000 + 0x10 * i, 0x0⟩
def CLM_LOCK_ANY (i : Nat) : RFld := ⟨(CLM_LOCK i), 31, 0⟩
/-- CLM_LOCK_CFG (R547). -/
def CLM_LOCK_CFG (i : Nat) : Reg := ⟨0x30262004 + 0x10 * i, 0x2710⟩
def CLM_LOCK_CFG_US (i : Nat) : RFld := ⟨(CLM_LOCK_CFG i), 15, 0⟩
/-- CLM_LOCK_OWN (R547). -/
def CLM_LOCK_OWN (i : Nat) : Reg := ⟨0x30262008 + 0x10 * i, 0x0⟩
def CLM_LOCK_OWN_HELD (i : Nat) : RFld := ⟨(CLM_LOCK_OWN i), 31, 31⟩
def CLM_LOCK_OWN_WORLD (i : Nat) : RFld := ⟨(CLM_LOCK_OWN i), 30, 28⟩
def CLM_LOCK_OWN_MID (i : Nat) : RFld := ⟨(CLM_LOCK_OWN i), 14, 9⟩
def CLM_LOCK_OWN_VFV (i : Nat) : RFld := ⟨(CLM_LOCK_OWN i), 8, 8⟩
def CLM_LOCK_OWN_VFN (i : Nat) : RFld := ⟨(CLM_LOCK_OWN i), 7, 2⟩

/-- The register map of the CLM block. -/
def rowsCLM : List RegRow :=
  [ ⟨0x30260000, [], 32, 0x0, [], (.worlds [2]), 3, false, [⟨0, 0, .wo, []⟩]⟩,
    ⟨0x30260004, [], 32, 0x0, [], .all, 3, false, [⟨31, 24, .ro, []⟩, ⟨7, 4, .ro, []⟩, ⟨3, 3, .w1c, []⟩, ⟨2, 2, .w1c, []⟩, ⟨1, 1, .ro, []⟩, ⟨0, 0, .ro, []⟩]⟩,
    ⟨0x30260008, [], 32, 0x0, [], .all, 3, false, [⟨31, 24, .ro, []⟩, ⟨23, 16, .ro, []⟩, ⟨15, 8, .ro, []⟩, ⟨7, 0, .ro, []⟩]⟩,
    ⟨0x30260010, [], 128, 0x0, [], .all, 3, false, [⟨127, 0, .ro, []⟩]⟩,
    ⟨0x30260020, [], 32, 0x0, [], (.worlds [2]), 3, false, [⟨31, 30, .wo, [(0, 2)]⟩, ⟨29, 28, .wo, []⟩, ⟨15, 10, .wo, []⟩, ⟨9, 0, .wo, []⟩]⟩,
    ⟨0x30260024, [], 32, 0x0, [], .all, 2, false, [⟨31, 31, .ro, []⟩, ⟨23, 16, .ro, []⟩, ⟨8, 8, .ro, []⟩, ⟨3, 0, .ro, []⟩]⟩,
    ⟨0x30260028, [], 32, 0x64, [], (.worlds [2]), 3, false, [⟨13, 0, .rw, [(1, 10000)]⟩]⟩,
    ⟨0x3026002C, [], 32, 0x0, [], (.worlds [2]), 3, false, [⟨31, 31, .wo, []⟩, ⟨5, 0, .wo, []⟩]⟩,
    ⟨0x30260030, [], 128, 0x0, [], .all, 2, false, [⟨127, 64, .ro, []⟩, ⟨19, 0, .ro, []⟩]⟩,
    ⟨0x30260040, [(4, 5)], 32, 0x0, [(0, 0x1), (1, 0x64), (2, 0x64), (3, 0x3E8), (4, 0x3E8)], (.worlds [2]), 3, false, [⟨15, 0, .rw, []⟩]⟩,
    ⟨0x30260054, [], 32, 0x0, [], (.worlds [2]), 3, false, [⟨4, 1, .rw, []⟩]⟩,
    ⟨0x30260060, [], 128, 0x0, [], .all, 3, false, [⟨127, 101, .ro, []⟩, ⟨100, 91, .ro, []⟩, ⟨90, 89, .ro, []⟩, ⟨88, 88, .ro, []⟩, ⟨87, 80, .ro, []⟩, ⟨79, 74, .ro, []⟩, ⟨73, 73, .ro, []⟩, ⟨72, 67, .ro, []⟩, ⟨66, 64, .ro, []⟩, ⟨63, 0, .ro, []⟩]⟩ ] ++
  [ ⟨0x30261000, [(64, 18), (4, 6)], 32, 0x0, [], (.worlds [0]), 3, false, [⟨31, 0, .rwb, []⟩]⟩,
    ⟨0x30262000, [(16, 64)], 32, 0x0, [], .special, 2, false, [⟨31, 0, .wo, []⟩]⟩,
    ⟨0x30262004, [(16, 64)], 32, 0x2710, [], (.worlds [2]), 3, false, [⟨15, 0, .rw, [(1, 65535)]⟩]⟩,
    ⟨0x30262008, [(16, 64)], 32, 0x0, [], .all, 2, false, [⟨31, 31, .ro, []⟩, ⟨30, 28, .ro, []⟩, ⟨14, 9, .ro, []⟩, ⟨8, 8, .ro, []⟩, ⟨7, 2, .ro, []⟩]⟩ ]

/-- PIN_BALL (R539). -/
def PIN_BALL (i : Nat) : Reg := ⟨0x30300000 + 0x4 * i, 0x0⟩
def PIN_BALL_CLAIMED (i : Nat) : RFld := ⟨(PIN_BALL i), 15, 15⟩
def PIN_BALL_WORLD (i : Nat) : RFld := ⟨(PIN_BALL i), 14, 12⟩
def PIN_BALL_FUNC (i : Nat) : RFld := ⟨(PIN_BALL i), 7, 0⟩

/-- The register map of the PIN block. -/
def rowsPIN : List RegRow :=
  [ ⟨0x30300000, [(4, 484)], 32, 0x0, [], (.worlds [0]), 3, false, [⟨15, 15, .rwb, []⟩, ⟨14, 12, .rwb, [(0, 4)]⟩, ⟨7, 0, .rwb, []⟩]⟩ ]

end Sys2Proof.Machine
end

