-- ==== Sys2Proof/Machine/RegsResetOptionsAndBoot.lean ====
section
/-! DEFINITION. The registers of RST as their register maps in spec/16_reset_options_and_boot.md list them (R471): one name for each register and each field, and one row for each in the map. -/

namespace Sys2Proof.Machine

/-- RST_CAUSE (R471). -/
def RST_CAUSE : Reg := ⟨0x30000000, 0x1⟩
def RST_CAUSE_UPDATE : RFld := ⟨RST_CAUSE, 15, 15⟩
def RST_CAUSE_OPTFAIL : RFld := ⟨RST_CAUSE, 14, 14⟩
def RST_CAUSE_OPTRETRY : RFld := ⟨RST_CAUSE, 13, 13⟩
def RST_CAUSE_THERMAL : RFld := ⟨RST_CAUSE, 12, 12⟩
def RST_CAUSE_DEBUG : RFld := ⟨RST_CAUSE, 11, 11⟩
def RST_CAUSE_SWREQ : RFld := ⟨RST_CAUSE, 10, 10⟩
def RST_CAUSE_CMPMM : RFld := ⟨RST_CAUSE, 9, 9⟩
def RST_CAUSE_WDT : RFld := ⟨RST_CAUSE, 8, 4⟩
def RST_CAUSE_RESETN : RFld := ⟨RST_CAUSE, 3, 3⟩
def RST_CAUSE_BOR : RFld := ⟨RST_CAUSE, 2, 2⟩
def RST_CAUSE_UVZ : RFld := ⟨RST_CAUSE, 1, 1⟩
def RST_CAUSE_POR : RFld := ⟨RST_CAUSE, 0, 0⟩
/-- RST_STAT (R471). -/
def RST_STAT : Reg := ⟨0x30000004, 0x404⟩
def RST_STAT_LASTERR : RFld := ⟨RST_STAT, 31, 24⟩
def RST_STAT_EPISODES : RFld := ⟨RST_STAT, 23, 16⟩
def RST_STAT_LASTREACH : RFld := ⟨RST_STAT, 10, 8⟩
def RST_STAT_SEALED : RFld := ⟨RST_STAT, 3, 3⟩
def RST_STAT_W0ACTIVE : RFld := ⟨RST_STAT, 2, 2⟩
/-- RST_SWREQ (R471). -/
def RST_SWREQ : Reg := ⟨0x30000008, 0x0⟩
def RST_SWREQ_KEY : RFld := ⟨RST_SWREQ, 31, 24⟩
def RST_SWREQ_REACH : RFld := ⟨RST_SWREQ, 17, 16⟩
def RST_SWREQ_TARGET : RFld := ⟨RST_SWREQ, 6, 0⟩
/-- RST_SWRES (R471). -/
def RST_SWRES : Reg := ⟨0x3000000C, 0x0⟩
def RST_SWRES_STATUS : RFld := ⟨RST_SWRES, 7, 0⟩
/-- RST_PLAST (R471). -/
def RST_PLAST : Reg := ⟨0x30000010, 0x0⟩
def RST_PLAST_COUNT : RFld := ⟨RST_PLAST, 95, 80⟩
def RST_PLAST_SOURCE : RFld := ⟨RST_PLAST, 75, 72⟩
def RST_PLAST_TARGET : RFld := ⟨RST_PLAST, 70, 64⟩
def RST_PLAST_FRC : RFld := ⟨RST_PLAST, 63, 0⟩
/-- RST_OPT (R471). -/
def RST_OPT : Reg := ⟨0x30000020, 0x0⟩
def RST_OPT_OPTSRC : RFld := ⟨RST_OPT, 31, 30⟩
def RST_OPT_STRAP : RFld := ⟨RST_OPT, 29, 26⟩
def RST_OPT_PROFILE : RFld := ⟨RST_OPT, 25, 22⟩
def RST_OPT_ATTEMPTS : RFld := ⟨RST_OPT, 21, 20⟩
def RST_OPT_COPY : RFld := ⟨RST_OPT, 19, 19⟩
def RST_OPT_STRAPBAD : RFld := ⟨RST_OPT, 18, 18⟩
/-- RST_PROFILE (R471). -/
def RST_PROFILE (i : Nat) : Reg := ⟨0x30000030 + 0x10 * i, 0x0⟩
def RST_PROFILE_BYTES (i : Nat) : RFld := ⟨(RST_PROFILE i), 127, 0⟩
/-- RST_BOOT (R471). -/
def RST_BOOT : Reg := ⟨0x30000070, 0x0⟩
def RST_BOOT_BANK : RFld := ⟨RST_BOOT, 31, 30⟩
def RST_BOOT_STA : RFld := ⟨RST_BOOT, 23, 16⟩
def RST_BOOT_STB : RFld := ⟨RST_BOOT, 15, 8⟩
/-- RST_VER (R471). -/
def RST_VER : Reg := ⟨0x30000080, 0x0⟩
def RST_VER_FLOOR : RFld := ⟨RST_VER, 71, 64⟩
def RST_VER_VERB : RFld := ⟨RST_VER, 63, 32⟩
def RST_VER_VERA : RFld := ⟨RST_VER, 31, 0⟩
/-- RST_FLOOR (R471). -/
def RST_FLOOR : Reg := ⟨0x30000090, 0x0⟩
def RST_FLOOR_FLOOR : RFld := ⟨RST_FLOOR, 7, 0⟩
/-- RST_BKREV (R471). -/
def RST_BKREV : Reg := ⟨0x30000094, 0x0⟩
def RST_BKREV_REV : RFld := ⟨RST_BKREV, 3, 0⟩
/-- RST_REACH (R471). -/
def RST_REACH : Reg := ⟨0x300000A0, 0x0⟩
def RST_REACH_MMLE0 : RFld := ⟨RST_REACH, 5, 5⟩
def RST_REACH_MMPAIR : RFld := ⟨RST_REACH, 4, 1⟩
def RST_REACH_RSTN : RFld := ⟨RST_REACH, 0, 0⟩
/-- RST_WDT_CFG (R471). -/
def RST_WDT_CFG (i : Nat) : Reg := ⟨0x300000B0 + 0x10 * i, (if i = 0 then 0xB00000FA else 0x300003E8)⟩
def RST_WDT_CFG_EN (i : Nat) : RFld := ⟨(RST_WDT_CFG i), 31, 31⟩
def RST_WDT_CFG_REACH (i : Nat) : RFld := ⟨(RST_WDT_CFG i), 29, 28⟩
def RST_WDT_CFG_PAIR (i : Nat) : RFld := ⟨(RST_WDT_CFG i), 25, 24⟩
def RST_WDT_CFG_TIMEOUT (i : Nat) : RFld := ⟨(RST_WDT_CFG i), 15, 0⟩
/-- RST_WDT_KICK (R471). -/
def RST_WDT_KICK (i : Nat) : Reg := ⟨0x300000B4 + 0x10 * i, 0x0⟩
def RST_WDT_KICK_ANY (i : Nat) : RFld := ⟨(RST_WDT_KICK i), 31, 0⟩
/-- RST_WDT_LEFT (R471). -/
def RST_WDT_LEFT (i : Nat) : Reg := ⟨0x300000B8 + 0x10 * i, 0x0⟩
def RST_WDT_LEFT_MS (i : Nat) : RFld := ⟨(RST_WDT_LEFT i), 15, 0⟩
/-- RST_SEAL (R471). -/
def RST_SEAL : Reg := ⟨0x30000100, 0x0⟩
def RST_SEAL_SEAL : RFld := ⟨RST_SEAL, 0, 0⟩
/-- RST_ENTRY (R471). -/
def RST_ENTRY (i : Nat) : Reg := ⟨0x30000110 + 0x10 * i, 0x0⟩
def RST_ENTRY_ADDR (i : Nat) : RFld := ⟨(RST_ENTRY i), 39, 0⟩
/-- RST_HARTEN (R471). -/
def RST_HARTEN : Reg := ⟨0x30000190, 0x0⟩
def RST_HARTEN_HARTS : RFld := ⟨RST_HARTEN, 7, 0⟩
/-- RST_MW (R471). -/
def RST_MW (i : Nat) : Reg := ⟨0x30000200 + 0x4 * i, (if i = 0 then 0x80 else if i = 8 then 0x2 else 0x0)⟩
def RST_MW_GATE (i : Nat) : RFld := ⟨(RST_MW i), 7, 7⟩
def RST_MW_WORLD (i : Nat) : RFld := ⟨(RST_MW i), 2, 0⟩
/-- RST_FW0 (R471). -/
def RST_FW0 (i : Nat) : Reg := ⟨0x30001000 + 0x20 * i, 0x0⟩
def RST_FW0_EN (i : Nat) : RFld := ⟨(RST_FW0 i), 127, 127⟩
def RST_FW0_LIMIT (i : Nat) : RFld := ⟨(RST_FW0 i), 103, 64⟩
def RST_FW0_BASE (i : Nat) : RFld := ⟨(RST_FW0 i), 39, 0⟩
/-- RST_FW1 (R471). -/
def RST_FW1 (i : Nat) : Reg := ⟨0x30001010 + 0x20 * i, 0x0⟩
def RST_FW1_MIDS (i : Nat) : RFld := ⟨(RST_FW1 i), 127, 108⟩
def RST_FW1_RD (i : Nat) : RFld := ⟨(RST_FW1 i), 104, 100⟩
def RST_FW1_WR (i : Nat) : RFld := ⟨(RST_FW1 i), 99, 95⟩
def RST_FW1_VFMODE (i : Nat) : RFld := ⟨(RST_FW1 i), 94, 93⟩
def RST_FW1_VFN (i : Nat) : RFld := ⟨(RST_FW1 i), 92, 87⟩
/-- RST_BKHASH (R471). -/
def RST_BKHASH (i : Nat) : Reg := ⟨0x30002000 + 0x10 * i, 0x0⟩
def RST_BKHASH_HASH (i : Nat) : RFld := ⟨(RST_BKHASH i), 127, 0⟩

/-- The register map of the RST block. -/
def rowsRST : List RegRow :=
  [ ⟨0x30000000, [], 32, 0x1, [], (.worlds [1, 2]), 4, false, [⟨15, 15, .w1c, []⟩, ⟨14, 14, .ro, []⟩, ⟨13, 13, .w1c, []⟩, ⟨12, 12, .w1c, []⟩, ⟨11, 11, .w1c, []⟩, ⟨10, 10, .w1c, []⟩, ⟨9, 9, .w1c, []⟩, ⟨8, 4, .w1c, []⟩, ⟨3, 3, .w1c, []⟩, ⟨2, 2, .w1c, []⟩, ⟨1, 1, .w1c, []⟩, ⟨0, 0, .w1c, []⟩]⟩,
    ⟨0x30000004, [], 32, 0x404, [], .all, 4, false, [⟨31, 24, .ro, []⟩, ⟨23, 16, .ro, []⟩, ⟨10, 8, .ro, []⟩, ⟨3, 3, .ro, []⟩, ⟨2, 2, .ro, []⟩]⟩,
    ⟨0x30000008, [], 32, 0x0, [], .special, 2, false, [⟨31, 24, .wo, []⟩, ⟨17, 16, .wo, []⟩, ⟨6, 0, .wo, []⟩]⟩,
    ⟨0x3000000C, [], 32, 0x0, [], .all, 2, false, [⟨7, 0, .ro, []⟩]⟩,
    ⟨0x30000010, [], 128, 0x0, [], .all, 4, false, [⟨95, 80, .ro, []⟩, ⟨75, 72, .ro, []⟩, ⟨70, 64, .ro, []⟩, ⟨63, 0, .ro, []⟩]⟩,
    ⟨0x30000020, [], 32, 0x0, [], .special, 4, false, [⟨31, 30, .ro, []⟩, ⟨29, 26, .ro, []⟩, ⟨25, 22, .ro, []⟩, ⟨21, 20, .ro, []⟩, ⟨19, 19, .ro, []⟩, ⟨18, 18, .ro, []⟩]⟩,
    ⟨0x30000030, [(16, 4)], 128, 0x0, [], .all, 4, false, [⟨127, 0, .ro, []⟩]⟩,
    ⟨0x30000070, [], 32, 0x0, [], .all, 4, false, [⟨31, 30, .ro, []⟩, ⟨23, 16, .ro, []⟩, ⟨15, 8, .ro, []⟩]⟩,
    ⟨0x30000080, [], 128, 0x0, [], .all, 5, false, [⟨71, 64, .ro, []⟩, ⟨63, 32, .ro, []⟩, ⟨31, 0, .ro, []⟩]⟩,
    ⟨0x30000090, [], 32, 0x0, [], (.worlds [0]), 5, false, [⟨7, 0, .rwb, []⟩]⟩,
    ⟨0x30000094, [], 32, 0x0, [], (.worlds [0]), 5, false, [⟨3, 0, .rwb, []⟩]⟩,
    ⟨0x300000A0, [], 32, 0x0, [], (.worlds [0]), 3, false, [⟨5, 5, .rwb, []⟩, ⟨4, 1, .rwb, []⟩, ⟨0, 0, .rwb, []⟩]⟩ ] ++
  [ ⟨0x300000B0, [(16, 5)], 32, 0x300003E8, [(0, 0xB00000FA)], (.worlds [0]), 3, false, [⟨31, 31, .rwb, []⟩, ⟨29, 28, .rwb, [(1, 3)]⟩, ⟨25, 24, .rwb, []⟩, ⟨15, 0, .rwb, [(1, 65535)]⟩]⟩,
    ⟨0x300000B4, [(16, 5)], 32, 0x0, [], .special, 2, false, [⟨31, 0, .wo, []⟩]⟩,
    ⟨0x300000B8, [(16, 5)], 32, 0x0, [], .all, 2, false, [⟨15, 0, .ro, []⟩]⟩,
    ⟨0x30000100, [], 32, 0x0, [], (.worlds [0]), 3, false, [⟨0, 0, .wo, []⟩]⟩,
    ⟨0x30000110, [(16, 8)], 128, 0x0, [], (.worlds [0]), 3, false, [⟨39, 0, .rwb, []⟩]⟩,
    ⟨0x30000190, [], 32, 0x0, [], (.worlds [0]), 3, false, [⟨7, 0, .rwb, []⟩]⟩,
    ⟨0x30000200, [(4, 20)], 32, 0x0, [(0, 0x80), (8, 0x2)], (.worlds [0]), 3, false, [⟨7, 7, .rwb, []⟩, ⟨2, 0, .rwb, [(0, 4)]⟩]⟩,
    ⟨0x30001000, [(32, 64)], 128, 0x0, [], (.worlds [0]), 3, false, [⟨127, 127, .rwb, []⟩, ⟨103, 64, .rwb, []⟩, ⟨39, 0, .rwb, []⟩]⟩,
    ⟨0x30001010, [(32, 64)], 128, 0x0, [], (.worlds [0]), 3, false, [⟨127, 108, .rwb, []⟩, ⟨104, 100, .rwb, []⟩, ⟨99, 95, .rwb, []⟩, ⟨94, 93, .rwb, []⟩, ⟨92, 87, .rwb, []⟩]⟩,
    ⟨0x30002000, [(16, 16)], 128, 0x0, [], (.worlds [0]), 5, false, [⟨127, 0, .rw, []⟩]⟩ ]

end Sys2Proof.Machine
end

