-- ==== Sys2Proof/Machine/RegsServiceFunctions.lean ====
section
/-! DEFINITION. The registers of SFE, VF as their register maps in spec/12_service_functions.md list them (R347, R358): one name for each register and each field, and one row for each in the map. -/

namespace Sys2Proof.Machine

/-- SFE_CTL (R358). -/
def SFE_CTL : Reg := ⟨0x301F0000, 0x64⟩
def SFE_CTL_QTO : RFld := ⟨SFE_CTL, 15, 0⟩
/-- SFE_STAT (R358). -/
def SFE_STAT : Reg := ⟨0x301F0004, 0x0⟩
def SFE_STAT_LASTERR : RFld := ⟨SFE_STAT, 31, 24⟩
def SFE_STAT_NACTIVE : RFld := ⟨SFE_STAT, 22, 16⟩
/-- SFE_CMD (R358). -/
def SFE_CMD : Reg := ⟨0x301F0008, 0x0⟩
def SFE_CMD_BUSY : RFld := ⟨SFE_CMD, 31, 31⟩
def SFE_CMD_OP : RFld := ⟨SFE_CMD, 30, 27⟩
def SFE_CMD_STATUS : RFld := ⟨SFE_CMD, 23, 16⟩
def SFE_CMD_FN : RFld := ⟨SFE_CMD, 6, 0⟩
/-- SFE_XADDR (R358). -/
def SFE_XADDR : Reg := ⟨0x301F0010, 0x0⟩
def SFE_XADDR_LEN : RFld := ⟨SFE_XADDR, 79, 64⟩
def SFE_XADDR_ADDR : RFld := ⟨SFE_XADDR, 39, 0⟩
/-- SFE_POOLFREE (R358). -/
def SFE_POOLFREE : Reg := ⟨0x301F0020, 0x4004000080020006000100⟩
def SFE_POOLFREE_P5 : RFld := ⟨SFE_POOLFREE, 95, 80⟩
def SFE_POOLFREE_P4 : RFld := ⟨SFE_POOLFREE, 79, 64⟩
def SFE_POOLFREE_P3 : RFld := ⟨SFE_POOLFREE, 63, 48⟩
def SFE_POOLFREE_P2 : RFld := ⟨SFE_POOLFREE, 47, 32⟩
def SFE_POOLFREE_P1 : RFld := ⟨SFE_POOLFREE, 31, 16⟩
def SFE_POOLFREE_P0 : RFld := ⟨SFE_POOLFREE, 15, 0⟩
/-- SFE_FAULT (R358). -/
def SFE_FAULT : Reg := ⟨0x301F0030, 0x0⟩
def SFE_FAULT_FRC : RFld := ⟨SFE_FAULT, 127, 64⟩
def SFE_FAULT_UNIT : RFld := ⟨SFE_FAULT, 59, 57⟩
def SFE_FAULT_FN : RFld := ⟨SFE_FAULT, 56, 50⟩
def SFE_FAULT_GADDR : RFld := ⟨SFE_FAULT, 49, 0⟩
/-- SFE_FN_CFG (R358). -/
def SFE_FN_CFG (i : Nat) : Reg := ⟨0x301F0100 + 0x80 * i, (if i = 64 then 0x21000000 else 0x0)⟩
def SFE_FN_CFG_STATE (i : Nat) : RFld := ⟨(SFE_FN_CFG i), 31, 28⟩
def SFE_FN_CFG_WORLD (i : Nat) : RFld := ⟨(SFE_FN_CFG i), 26, 24⟩
/-- SFE_FN_HOLD (R358). -/
def SFE_FN_HOLD (i : Nat) : Reg := ⟨0x301F0104 + 0x80 * i, 0x0⟩
def SFE_FN_HOLD_UNITS (i : Nat) : RFld := ⟨(SFE_FN_HOLD i), 5, 0⟩
/-- SFE_FN_IRQ (R358). -/
def SFE_FN_IRQ (i : Nat) : Reg := ⟨0x301F0108 + 0x80 * i, 0x0⟩
def SFE_FN_IRQ_CORE (i : Nat) : RFld := ⟨(SFE_FN_IRQ i), 28, 26⟩
def SFE_FN_IRQ_FILE (i : Nat) : RFld := ⟨(SFE_FN_IRQ i), 25, 24⟩
def SFE_FN_IRQ_GUEST (i : Nat) : RFld := ⟨(SFE_FN_IRQ i), 23, 21⟩
/-- SFE_FN_CNT (R358). -/
def SFE_FN_CNT (i : Nat) : Reg := ⟨0x301F010C + 0x80 * i, 0x0⟩
def SFE_FN_CNT_FAULTS (i : Nat) : RFld := ⟨(SFE_FN_CNT i), 31, 16⟩
def SFE_FN_CNT_LOST (i : Nat) : RFld := ⟨(SFE_FN_CNT i), 15, 8⟩
def SFE_FN_CNT_DBLATE (i : Nat) : RFld := ⟨(SFE_FN_CNT i), 7, 0⟩
/-- SFE_FN_RNG (R358). -/
def SFE_FN_RNG (i j : Nat) : Reg := ⟨0x301F0110 + 0x80 * i + 0x4 * j, 0x0⟩
def SFE_FN_RNG_COUNT (i j : Nat) : RFld := ⟨(SFE_FN_RNG i j), 31, 16⟩
def SFE_FN_RNG_FIRST (i j : Nat) : RFld := ⟨(SFE_FN_RNG i j), 15, 0⟩
/-- SFE_FN_GATP (R358). -/
def SFE_FN_GATP (i : Nat) : Reg := ⟨0x301F0130 + 0x80 * i, 0x0⟩
def SFE_FN_GATP_GATP (i : Nat) : RFld := ⟨(SFE_FN_GATP i), 63, 0⟩
/-- SFE_FN_DRING (R358). -/
def SFE_FN_DRING (i : Nat) : Reg := ⟨0x301F0140 + 0x80 * i, 0x0⟩
def SFE_FN_DRING_EN (i : Nat) : RFld := ⟨(SFE_FN_DRING i), 127, 127⟩
def SFE_FN_DRING_LOG2N (i : Nat) : RFld := ⟨(SFE_FN_DRING i), 68, 64⟩
def SFE_FN_DRING_BASE (i : Nat) : RFld := ⟨(SFE_FN_DRING i), 39, 0⟩
/-- SFE_FN_DPI (R358). -/
def SFE_FN_DPI (i : Nat) : Reg := ⟨0x301F0150 + 0x80 * i, 0x0⟩
def SFE_FN_DPI_PI (i : Nat) : RFld := ⟨(SFE_FN_DPI i), 19, 0⟩
/-- SFE_FN_DCI (R358). -/
def SFE_FN_DCI (i : Nat) : Reg := ⟨0x301F0154 + 0x80 * i, 0x0⟩
def SFE_FN_DCI_CI (i : Nat) : RFld := ⟨(SFE_FN_DCI i), 19, 0⟩
/-- SFE_FN_DSTAT (R358). -/
def SFE_FN_DSTAT (i : Nat) : Reg := ⟨0x301F0158 + 0x80 * i, 0x0⟩
def SFE_FN_DSTAT_OVF (i : Nat) : RFld := ⟨(SFE_FN_DSTAT i), 31, 31⟩
def SFE_FN_DSTAT_LOST (i : Nat) : RFld := ⟨(SFE_FN_DSTAT i), 30, 16⟩
def SFE_FN_DSTAT_EPOCH (i : Nat) : RFld := ⟨(SFE_FN_DSTAT i), 15, 0⟩

/-- The register map of the SFE block. -/
def rowsSFE : List RegRow :=
  [ ⟨0x301F0000, [], 32, 0x64, [], (.worlds [1]), 3, false, [⟨15, 0, .rw, [(1, 65535)]⟩]⟩,
    ⟨0x301F0004, [], 32, 0x0, [], .all, 3, false, [⟨31, 24, .ro, []⟩, ⟨22, 16, .ro, []⟩]⟩,
    ⟨0x301F0008, [], 32, 0x0, [], (.worlds [1]), 3, false, [⟨31, 31, .ro, []⟩, ⟨30, 27, .wo, []⟩, ⟨23, 16, .ro, []⟩, ⟨6, 0, .rw, [(0, 64)]⟩]⟩,
    ⟨0x301F0010, [], 128, 0x0, [], (.worlds [1]), 3, false, [⟨79, 64, .ro, []⟩, ⟨39, 0, .rw, []⟩]⟩,
    ⟨0x301F0020, [], 128, 0x4004000080020006000100, [], .all, 3, false, [⟨95, 80, .ro, []⟩, ⟨79, 64, .ro, []⟩, ⟨63, 48, .ro, []⟩, ⟨47, 32, .ro, []⟩, ⟨31, 16, .ro, []⟩, ⟨15, 0, .ro, []⟩]⟩,
    ⟨0x301F0030, [], 128, 0x0, [], (.worlds [1]), 3, false, [⟨127, 64, .ro, []⟩, ⟨59, 57, .ro, []⟩, ⟨56, 50, .ro, []⟩, ⟨49, 0, .ro, []⟩]⟩,
    ⟨0x301F0100, [(128, 65)], 32, 0x0, [(64, 0x21000000)], (.worlds [1]), 3, false, [⟨31, 28, .ro, []⟩, ⟨26, 24, .rw, []⟩]⟩,
    ⟨0x301F0104, [(128, 65)], 32, 0x0, [], (.worlds [1]), 2, false, [⟨5, 0, .ro, []⟩]⟩,
    ⟨0x301F0108, [(128, 65)], 32, 0x0, [], (.worlds [1]), 3, false, [⟨28, 26, .rw, []⟩, ⟨25, 24, .rw, [(0, 2)]⟩, ⟨23, 21, .rw, []⟩]⟩,
    ⟨0x301F010C, [(128, 65)], 32, 0x0, [], (.worlds [1]), 3, false, [⟨31, 16, .ro, []⟩, ⟨15, 8, .ro, []⟩, ⟨7, 0, .ro, []⟩]⟩,
    ⟨0x301F0110, [(128, 65), (4, 6)], 32, 0x0, [], (.worlds [1]), 3, false, [⟨31, 16, .rw, []⟩, ⟨15, 0, .rw, []⟩]⟩,
    ⟨0x301F0130, [(128, 65)], 128, 0x0, [], (.worlds [1]), 3, false, [⟨63, 0, .rw, []⟩]⟩ ] ++
  [ ⟨0x301F0140, [(128, 65)], 128, 0x0, [], (.worlds [1]), 2, false, [⟨127, 127, .rw, []⟩, ⟨68, 64, .rw, []⟩, ⟨39, 0, .rw, []⟩]⟩,
    ⟨0x301F0150, [(128, 65)], 32, 0x0, [], (.worlds [1]), 2, false, [⟨19, 0, .ro, []⟩]⟩,
    ⟨0x301F0154, [(128, 65)], 32, 0x0, [], (.worlds [1]), 2, false, [⟨19, 0, .rw, []⟩]⟩,
    ⟨0x301F0158, [(128, 65)], 32, 0x0, [], (.worlds [1]), 2, false, [⟨31, 31, .w1c, []⟩, ⟨30, 16, .ro, []⟩, ⟨15, 0, .ro, []⟩]⟩ ]

/-- VF_ID (R347). -/
def VF_ID (i : Nat) : Reg := ⟨0x40000000 + 0x10000 * i, 0x0⟩
def VF_ID_STATE (i : Nat) : RFld := ⟨(VF_ID i), 31, 28⟩
def VF_ID_WORLD (i : Nat) : RFld := ⟨(VF_ID i), 26, 24⟩
def VF_ID_VF (i : Nat) : RFld := ⟨(VF_ID i), 5, 0⟩
/-- VF_STAT (R347). -/
def VF_STAT (i : Nat) : Reg := ⟨0x40000004 + 0x10000 * i, 0x0⟩
def VF_STAT_LASTERR (i : Nat) : RFld := ⟨(VF_STAT i), 31, 24⟩
def VF_STAT_DBLATE (i : Nat) : RFld := ⟨(VF_STAT i), 2, 2⟩
def VF_STAT_FAULT (i : Nat) : RFld := ⟨(VF_STAT i), 1, 1⟩
def VF_STAT_ACTIVE (i : Nat) : RFld := ⟨(VF_STAT i), 0, 0⟩
/-- VF_QPV (R347). -/
def VF_QPV (i j : Nat) : Reg := ⟨0x40000138 + 0x10000 * i + 0x40 * j, 0x0⟩
def VF_QPV_RXIE (i j : Nat) : RFld := ⟨(VF_QPV i j), 15, 15⟩
def VF_QPV_RXVEC (i j : Nat) : RFld := ⟨(VF_QPV i j), 13, 8⟩
def VF_QPV_TXIE (i j : Nat) : RFld := ⟨(VF_QPV i j), 7, 7⟩
def VF_QPV_TXVEC (i j : Nat) : RFld := ⟨(VF_QPV i j), 5, 0⟩
/-- VF_CSEL (R347). -/
def VF_CSEL (i : Nat) : Reg := ⟨0x40001000 + 0x10000 * i, 0x0⟩
def VF_CSEL_SEL (i : Nat) : RFld := ⟨(VF_CSEL i), 10, 0⟩
/-- VF_HSEL (R347). -/
def VF_HSEL (i : Nat) : Reg := ⟨0x40003000 + 0x10000 * i, 0x0⟩
def VF_HSEL_SEL (i : Nat) : RFld := ⟨(VF_HSEL i), 8, 0⟩
/-- VF_VEC (R347). -/
def VF_VEC (i j : Nat) : Reg := ⟨0x40008000 + 0x10000 * i + 0x4 * j, 0x80000000⟩
def VF_VEC_MASK (i j : Nat) : RFld := ⟨(VF_VEC i j), 31, 31⟩
def VF_VEC_PEND (i j : Nat) : RFld := ⟨(VF_VEC i j), 30, 30⟩
def VF_VEC_IID (i j : Nat) : RFld := ⟨(VF_VEC i j), 10, 0⟩

/-- The register map of the VF block. -/
def rowsVF : List RegRow :=
  [ ⟨0x40000000, [(65536, 64)], 32, 0x0, [], .vf, 2, false, [⟨31, 28, .ro, []⟩, ⟨26, 24, .ro, []⟩, ⟨5, 0, .ro, []⟩]⟩,
    ⟨0x40000004, [(65536, 64)], 32, 0x0, [], .vf, 2, false, [⟨31, 24, .ro, []⟩, ⟨2, 2, .w1c, []⟩, ⟨1, 1, .w1c, []⟩, ⟨0, 0, .ro, []⟩]⟩,
    ⟨0x40000138, [(65536, 64), (64, 8)], 32, 0x0, [], .vf, 2, false, [⟨15, 15, .rw, []⟩, ⟨13, 8, .rw, []⟩, ⟨7, 7, .rw, []⟩, ⟨5, 0, .rw, []⟩]⟩,
    ⟨0x40001000, [(65536, 64)], 32, 0x0, [], .vf, 2, false, [⟨10, 0, .rw, []⟩]⟩,
    ⟨0x40003000, [(65536, 64)], 32, 0x0, [], .vf, 2, false, [⟨8, 0, .rw, []⟩]⟩,
    ⟨0x40008000, [(65536, 64), (4, 64)], 32, 0x80000000, [], .vf, 2, false, [⟨31, 31, .rw, []⟩, ⟨30, 30, .ro, []⟩, ⟨10, 0, .rw, []⟩]⟩ ]

end Sys2Proof.Machine
end

