-- ==== Sys2Proof/Machine/RegsSupplyAndPowerStates.lean ====
section
/-! DEFINITION. The registers of PMU as their register maps in spec/10_supply_and_power_states.md list them (R311): one name for each register and each field, and one row for each in the map. -/

namespace Sys2Proof.Machine

/-- PMU_CTL (R311). -/
def PMU_CTL : Reg := ⟨0x30010000, 0x4⟩
def PMU_CTL_DEEPNEXT : RFld := ⟨PMU_CTL, 3, 3⟩
def PMU_CTL_AUTOTHR : RFld := ⟨PMU_CTL, 2, 2⟩
def PMU_CTL_CLRMIN : RFld := ⟨PMU_CTL, 1, 1⟩
def PMU_CTL_CLRCNT : RFld := ⟨PMU_CTL, 0, 0⟩
/-- PMU_STAT (R311). -/
def PMU_STAT : Reg := ⟨0x30010004, 0x0⟩
def PMU_STAT_LASTERR : RFld := ⟨PMU_STAT, 31, 24⟩
def PMU_STAT_LASTSLEEP : RFld := ⟨PMU_STAT, 23, 21⟩
def PMU_STAT_THROT : RFld := ⟨PMU_STAT, 9, 9⟩
def PMU_STAT_TWARN : RFld := ⟨PMU_STAT, 8, 8⟩
def PMU_STAT_PWROVER : RFld := ⟨PMU_STAT, 7, 7⟩
def PMU_STAT_VBAKLOW : RFld := ⟨PMU_STAT, 6, 6⟩
def PMU_STAT_OV : RFld := ⟨PMU_STAT, 5, 5⟩
def PMU_STAT_UVH : RFld := ⟨PMU_STAT, 4, 4⟩
def PMU_STAT_UVZ : RFld := ⟨PMU_STAT, 3, 3⟩
def PMU_STAT_RESUMED : RFld := ⟨PMU_STAT, 2, 2⟩
/-- PMU_VBAT (R311). -/
def PMU_VBAT : Reg := ⟨0x30010008, 0x0⟩
def PMU_VBAT_VBAT : RFld := ⟨PMU_VBAT, 31, 16⟩
def PMU_VBAT_VMIN : RFld := ⟨PMU_VBAT, 15, 0⟩
/-- PMU_RAIL (R311). -/
def PMU_RAIL : Reg := ⟨0x3001000C, 0x0⟩
def PMU_RAIL_LASTFAIL : RFld := ⟨PMU_RAIL, 23, 16⟩
def PMU_RAIL_WINDOW : RFld := ⟨PMU_RAIL, 8, 0⟩
/-- PMU_DEEP (R311). -/
def PMU_DEEP : Reg := ⟨0x30010010, 0x0⟩
def PMU_DEEP_DTMR : RFld := ⟨PMU_DEEP, 31, 16⟩
def PMU_DEEP_PARKLOW : RFld := ⟨PMU_DEEP, 15, 0⟩
/-- PMU_THR (R311). -/
def PMU_THR : Reg := ⟨0x30010014, 0x6E⟩
def PMU_THR_TWARN : RFld := ⟨PMU_THR, 7, 0⟩
/-- PMU_TEMP (R311). -/
def PMU_TEMP : Reg := ⟨0x30010018, 0x0⟩
def PMU_TEMP_ZONE : RFld := ⟨PMU_TEMP, 31, 22⟩
def PMU_TEMP_SUPPLY : RFld := ⟨PMU_TEMP, 21, 12⟩
def PMU_TEMP_BASE : RFld := ⟨PMU_TEMP, 11, 2⟩
/-- PMU_VBAK (R311). -/
def PMU_VBAK : Reg := ⟨0x3001001C, 0x0⟩
def PMU_VBAK_CHGEN : RFld := ⟨PMU_VBAK, 31, 31⟩
def PMU_VBAK_VBAK : RFld := ⟨PMU_VBAK, 15, 0⟩
/-- PMU_PWR (R311). -/
def PMU_PWR : Reg := ⟨0x30010020, 0x0⟩
def PMU_PWR_TOTAL : RFld := ⟨PMU_PWR, 127, 96⟩
def PMU_PWR_SUPPLY : RFld := ⟨PMU_PWR, 95, 64⟩
def PMU_PWR_STAGE : RFld := ⟨PMU_PWR, 63, 32⟩
def PMU_PWR_ZONE : RFld := ⟨PMU_PWR, 31, 0⟩
/-- PMU_PWRLIM (R311). -/
def PMU_PWRLIM : Reg := ⟨0x30010030, 0x226⟩
def PMU_PWRLIM_LIM : RFld := ⟨PMU_PWRLIM, 15, 0⟩
/-- PMU_CNT (R311). -/
def PMU_CNT : Reg := ⟨0x30010034, 0x0⟩
def PMU_CNT_UVZ : RFld := ⟨PMU_CNT, 31, 24⟩
def PMU_CNT_UVH : RFld := ⟨PMU_CNT, 23, 16⟩
def PMU_CNT_OV : RFld := ⟨PMU_CNT, 15, 8⟩
def PMU_CNT_RESFAIL : RFld := ⟨PMU_CNT, 7, 0⟩
/-- PMU_IMG (R311). -/
def PMU_IMG : Reg := ⟨0x30010038, 0x0⟩
def PMU_IMG_VALID : RFld := ⟨PMU_IMG, 31, 31⟩
def PMU_IMG_GEN : RFld := ⟨PMU_IMG, 30, 16⟩
def PMU_IMG_BACKLOG : RFld := ⟨PMU_IMG, 15, 0⟩

/-- The register map of the PMU block. -/
def rowsPMU : List RegRow :=
  [ ⟨0x30010000, [], 32, 0x4, [], (.worlds [1]), 4, false, [⟨3, 3, .rw, []⟩, ⟨2, 2, .rw, []⟩, ⟨1, 1, .wo, []⟩, ⟨0, 0, .wo, []⟩]⟩,
    ⟨0x30010004, [], 32, 0x0, [], .all, 4, false, [⟨31, 24, .ro, []⟩, ⟨23, 21, .ro, []⟩, ⟨9, 9, .ro, []⟩, ⟨8, 8, .w1c, []⟩, ⟨7, 7, .w1c, []⟩, ⟨6, 6, .ro, []⟩, ⟨5, 5, .w1c, []⟩, ⟨4, 4, .w1c, []⟩, ⟨3, 3, .w1c, []⟩, ⟨2, 2, .ro, []⟩]⟩,
    ⟨0x30010008, [], 32, 0x0, [], .all, 4, false, [⟨31, 16, .ro, []⟩, ⟨15, 0, .ro, []⟩]⟩,
    ⟨0x3001000C, [], 32, 0x0, [], .all, 4, false, [⟨23, 16, .ro, []⟩, ⟨8, 0, .ro, []⟩]⟩,
    ⟨0x30010010, [], 32, 0x0, [], (.worlds [1]), 4, false, [⟨31, 16, .rw, []⟩, ⟨15, 0, .rw, []⟩]⟩,
    ⟨0x30010014, [], 32, 0x6E, [], (.worlds [2]), 4, false, [⟨7, 0, .rw, [(60, 120)]⟩]⟩,
    ⟨0x30010018, [], 32, 0x0, [], .all, 4, false, [⟨31, 22, .ro, []⟩, ⟨21, 12, .ro, []⟩, ⟨11, 2, .ro, []⟩]⟩,
    ⟨0x3001001C, [], 32, 0x0, [], (.worlds [0]), 4, false, [⟨31, 31, .rwb, []⟩, ⟨15, 0, .ro, []⟩]⟩,
    ⟨0x30010020, [], 128, 0x0, [], .all, 4, false, [⟨127, 96, .ro, []⟩, ⟨95, 64, .ro, []⟩, ⟨63, 32, .ro, []⟩, ⟨31, 0, .ro, []⟩]⟩,
    ⟨0x30010030, [], 32, 0x226, [], (.worlds [1]), 4, false, [⟨15, 0, .rw, []⟩]⟩,
    ⟨0x30010034, [], 32, 0x0, [], .all, 4, false, [⟨31, 24, .ro, []⟩, ⟨23, 16, .ro, []⟩, ⟨15, 8, .ro, []⟩, ⟨7, 0, .ro, []⟩]⟩,
    ⟨0x30010038, [], 32, 0x0, [], (.worlds [1]), 4, false, [⟨31, 31, .ro, []⟩, ⟨30, 16, .ro, []⟩, ⟨15, 0, .ro, []⟩]⟩ ]

end Sys2Proof.Machine
end

