-- ==== Sys2Proof/Machine/RegsTimeAndPositionBases.lean ====
section
/-! DEFINITION. The registers of TIME as their register maps in spec/02_time_and_position_bases.md list them (R69): one name for each register and each field, and one row for each in the map. -/

namespace Sys2Proof.Machine

/-- TIME_FRC (R69). -/
def TIME_FRC : Reg := ⟨0x30020000, 0x0⟩
def TIME_FRC_FRC : RFld := ⟨TIME_FRC, 63, 0⟩
/-- TIME_STAT (R69). -/
def TIME_STAT : Reg := ⟨0x30020010, 0x0⟩
def TIME_STAT_T1MNEW : RFld := ⟨TIME_STAT, 3, 3⟩
def TIME_STAT_SLEEPCARRY : RFld := ⟨TIME_STAT, 2, 2⟩
def TIME_STAT_XTALLOST : RFld := ⟨TIME_STAT, 1, 1⟩
def TIME_STAT_TBLOCK : RFld := ⟨TIME_STAT, 0, 0⟩
/-- TIME_SNAP (R69). -/
def TIME_SNAP : Reg := ⟨0x30020014, 0x0⟩
def TIME_SNAP_TAKE : RFld := ⟨TIME_SNAP, 0, 0⟩
/-- TIME_SNAP_FRC (R69). -/
def TIME_SNAP_FRC : Reg := ⟨0x30020020, 0x0⟩
def TIME_SNAP_FRC_FRC : RFld := ⟨TIME_SNAP_FRC, 63, 0⟩
/-- TIME_CONV_IN (R69). -/
def TIME_CONV_IN : Reg := ⟨0x30020030, 0x0⟩
def TIME_CONV_IN_DOMAIN : RFld := ⟨TIME_CONV_IN, 67, 64⟩
def TIME_CONV_IN_FRC : RFld := ⟨TIME_CONV_IN, 63, 0⟩
/-- TIME_CONV_OUT (R69). -/
def TIME_CONV_OUT : Reg := ⟨0x30020040, 0x0⟩
def TIME_CONV_OUT_TV : RFld := ⟨TIME_CONV_OUT, 127, 0⟩
/-- TIME_T1M_UTC (R69). -/
def TIME_T1M_UTC : Reg := ⟨0x30020050, 0x0⟩
def TIME_T1M_UTC_TV : RFld := ⟨TIME_T1M_UTC, 127, 0⟩
/-- TIME_T1M_FRC (R69). -/
def TIME_T1M_FRC : Reg := ⟨0x30020060, 0x0⟩
def TIME_T1M_FRC_FRC : RFld := ⟨TIME_T1M_FRC, 63, 0⟩
/-- TIME_SNAP_TD (R69). -/
def TIME_SNAP_TD (i : Nat) : Reg := ⟨0x30020100 + 0x10 * i, 0x0⟩
def TIME_SNAP_TD_TV (i : Nat) : RFld := ⟨(TIME_SNAP_TD i), 127, 0⟩
/-- TD_NOW (R69). -/
def TD_NOW (i : Nat) : Reg := ⟨0x30021000 + 0x100 * i, 0x0⟩
def TD_NOW_TV (i : Nat) : RFld := ⟨(TD_NOW i), 127, 0⟩
/-- TD_INC (R69). -/
def TD_INC (i : Nat) : Reg := ⟨0x30021010 + 0x100 * i, 0x1000000000000⟩
def TD_INC_INC (i : Nat) : RFld := ⟨(TD_INC i), 63, 0⟩
/-- TD_OFS (R69). -/
def TD_OFS (i : Nat) : Reg := ⟨0x30021020 + 0x100 * i, 0x0⟩
def TD_OFS_SEC (i : Nat) : RFld := ⟨(TD_OFS i), 127, 80⟩
def TD_OFS_NS (i : Nat) : RFld := ⟨(TD_OFS i), 79, 48⟩
def TD_OFS_FRAC (i : Nat) : RFld := ⟨(TD_OFS i), 47, 32⟩
/-- TD_STEP (R69). -/
def TD_STEP (i : Nat) : Reg := ⟨0x30021030 + 0x100 * i, 0x0⟩
def TD_STEP_STEP (i : Nat) : RFld := ⟨(TD_STEP i), 79, 0⟩
/-- TD_ANCHOR (R69). -/
def TD_ANCHOR (i : Nat) : Reg := ⟨0x30021040 + 0x100 * i, 0x0⟩
def TD_ANCHOR_FRC (i : Nat) : RFld := ⟨(TD_ANCHOR i), 63, 0⟩
/-- TD_CTL (R69). -/
def TD_CTL (i : Nat) : Reg := ⟨0x30021050 + 0x100 * i, 0x0⟩
def TD_CTL_SRC (i : Nat) : RFld := ⟨(TD_CTL i), 5, 4⟩
def TD_CTL_QUAL (i : Nat) : RFld := ⟨(TD_CTL i), 1, 0⟩
/-- TD_STAT (R69). -/
def TD_STAT (i : Nat) : Reg := ⟨0x30021054 + 0x100 * i, 0x0⟩
def TD_STAT_LASTERR (i : Nat) : RFld := ⟨(TD_STAT i), 31, 24⟩
def TD_STAT_STEPS (i : Nat) : RFld := ⟨(TD_STAT i), 15, 8⟩
def TD_STAT_QFORCED (i : Nat) : RFld := ⟨(TD_STAT i), 2, 2⟩
def TD_STAT_REFUSED (i : Nat) : RFld := ⟨(TD_STAT i), 1, 1⟩
def TD_STAT_APPLIED (i : Nat) : RFld := ⟨(TD_STAT i), 0, 0⟩
/-- PB_POS (R69). -/
def PB_POS (i : Nat) : Reg := ⟨0x30022000 + 0x100 * i, 0x0⟩
def PB_POS_STATE (i : Nat) : RFld := ⟨(PB_POS i), 75, 72⟩
def PB_POS_GEN (i : Nat) : RFld := ⟨(PB_POS i), 71, 64⟩
def PB_POS_POS (i : Nat) : RFld := ⟨(PB_POS i), 63, 0⟩
/-- PB_EDGE (R69). -/
def PB_EDGE (i : Nat) : Reg := ⟨0x30022010 + 0x100 * i, 0x0⟩
def PB_EDGE_TOOTH (i : Nat) : RFld := ⟨(PB_EDGE i), 75, 64⟩
def PB_EDGE_FRC (i : Nat) : RFld := ⟨(PB_EDGE i), 63, 0⟩
/-- PB_PER (R69). -/
def PB_PER (i : Nat) : Reg := ⟨0x30022020 + 0x100 * i, 0xFFFFFFFFFFFF⟩
def PB_PER_P (i : Nat) : RFld := ⟨(PB_PER i), 47, 0⟩
/-- PB_SET (R69). -/
def PB_SET (i : Nat) : Reg := ⟨0x30022030 + 0x100 * i, 0x0⟩
def PB_SET_CYCLE (i : Nat) : RFld := ⟨(PB_SET i), 63, 32⟩
/-- PB_CFG (R69). -/
def PB_CFG (i : Nat) : Reg := ⟨0x30022040 + 0x100 * i, 0x0⟩
def PB_CFG_SRC (i : Nat) : RFld := ⟨(PB_CFG i), 31, 28⟩
def PB_CFG_PXSEL (i : Nat) : RFld := ⟨(PB_CFG i), 27, 24⟩
def PB_CFG_EDGE (i : Nat) : RFld := ⟨(PB_CFG i), 23, 22⟩
def PB_CFG_DIRSRC (i : Nat) : RFld := ⟨(PB_CFG i), 21, 20⟩
def PB_CFG_DIRPX (i : Nat) : RFld := ⟨(PB_CFG i), 19, 16⟩
def PB_CFG_GAP (i : Nat) : RFld := ⟨(PB_CFG i), 15, 14⟩
def PB_CFG_EXT (i : Nat) : RFld := ⟨(PB_CFG i), 13, 12⟩
def PB_CFG_TEETH (i : Nat) : RFld := ⟨(PB_CFG i), 11, 0⟩
/-- PB_EST (R69). -/
def PB_EST (i : Nat) : Reg := ⟨0x30022044 + 0x100 * i, 0x18182000⟩
def PB_EST_GAPR (i : Nat) : RFld := ⟨(PB_EST i), 31, 24⟩
def PB_EST_MISSR (i : Nat) : RFld := ⟨(PB_EST i), 23, 16⟩
def PB_EST_MAXMISS (i : Nat) : RFld := ⟨(PB_EST i), 15, 12⟩
def PB_EST_WGT (i : Nat) : RFld := ⟨(PB_EST i), 9, 8⟩
def PB_EST_MLEN (i : Nat) : RFld := ⟨(PB_EST i), 3, 0⟩
/-- PB_TOL (R69). -/
def PB_TOL (i : Nat) : Reg := ⟨0x30022048 + 0x100 * i, 0x3E8⟩
def PB_TOL_TOL (i : Nat) : RFld := ⟨(PB_TOL i), 31, 0⟩
/-- PB_HZN (R69). -/
def PB_HZN (i : Nat) : Reg := ⟨0x3002204C + 0x100 * i, 0x3E8⟩
def PB_HZN_HZN (i : Nat) : RFld := ⟨(PB_HZN i), 23, 0⟩
/-- PB_STALL (R69). -/
def PB_STALL (i : Nat) : Reg := ⟨0x30022050 + 0x100 * i, 0x186A0⟩
def PB_STALL_US (i : Nat) : RFld := ⟨(PB_STALL i), 31, 0⟩
/-- PB_CTL (R69). -/
def PB_CTL (i : Nat) : Reg := ⟨0x30022054 + 0x100 * i, 0x0⟩
def PB_CTL_REV (i : Nat) : RFld := ⟨(PB_CTL i), 3, 3⟩
def PB_CTL_RESYNC (i : Nat) : RFld := ⟨(PB_CTL i), 2, 2⟩
def PB_CTL_EN (i : Nat) : RFld := ⟨(PB_CTL i), 0, 0⟩
/-- PB_STAT (R69). -/
def PB_STAT (i : Nat) : Reg := ⟨0x30022058 + 0x100 * i, 0x0⟩
def PB_STAT_LASTERR (i : Nat) : RFld := ⟨(PB_STAT i), 31, 24⟩
def PB_STAT_GEN (i : Nat) : RFld := ⟨(PB_STAT i), 23, 16⟩
def PB_STAT_DIR (i : Nat) : RFld := ⟨(PB_STAT i), 7, 7⟩
def PB_STAT_HELD (i : Nat) : RFld := ⟨(PB_STAT i), 6, 6⟩
def PB_STAT_CLAMP (i : Nat) : RFld := ⟨(PB_STAT i), 5, 5⟩
def PB_STAT_STATE (i : Nat) : RFld := ⟨(PB_STAT i), 3, 0⟩
/-- PB_CNT (R69). -/
def PB_CNT (i : Nat) : Reg := ⟨0x3002205C + 0x100 * i, 0x0⟩
def PB_CNT_SYNCLOSS (i : Nat) : RFld := ⟨(PB_CNT i), 31, 16⟩
def PB_CNT_MISSED (i : Nat) : RFld := ⟨(PB_CNT i), 15, 0⟩

/-- The register map of the TIME block. -/
def rowsTIME : List RegRow :=
  [ ⟨0x30020000, [], 128, 0x0, [], .all, 4, false, [⟨63, 0, .ro, []⟩]⟩,
    ⟨0x30020010, [], 32, 0x0, [], .all, 4, false, [⟨3, 3, .w1c, []⟩, ⟨2, 2, .w1c, []⟩, ⟨1, 1, .ro, []⟩, ⟨0, 0, .ro, []⟩]⟩,
    ⟨0x30020014, [], 32, 0x0, [], .all, 2, false, [⟨0, 0, .wo, []⟩]⟩,
    ⟨0x30020020, [], 128, 0x0, [], .all, 4, false, [⟨63, 0, .ro, []⟩]⟩,
    ⟨0x30020030, [], 128, 0x0, [], .all, 4, false, [⟨67, 64, .rw, [(0, 7)]⟩, ⟨63, 0, .rw, []⟩]⟩,
    ⟨0x30020040, [], 128, 0x0, [], .all, 4, false, [⟨127, 0, .ro, []⟩]⟩,
    ⟨0x30020050, [], 128, 0x0, [], .all, 3, false, [⟨127, 0, .ro, []⟩]⟩,
    ⟨0x30020060, [], 128, 0x0, [], .all, 3, false, [⟨63, 0, .ro, []⟩]⟩,
    ⟨0x30020100, [(16, 8)], 128, 0x0, [], .all, 4, false, [⟨127, 0, .ro, []⟩]⟩,
    ⟨0x30021000, [(256, 8)], 128, 0x0, [], .all, 4, false, [⟨127, 0, .ro, []⟩]⟩,
    ⟨0x30021010, [(256, 8)], 128, 0x1000000000000, [], (.claim 5 1 0), 4, false, [⟨63, 0, .rw, []⟩]⟩,
    ⟨0x30021020, [(256, 8)], 128, 0x0, [], (.claim 5 1 0), 4, false, [⟨127, 80, .rw, []⟩, ⟨79, 48, .rw, []⟩, ⟨47, 32, .rw, []⟩]⟩ ] ++
  [ ⟨0x30021030, [(256, 8)], 128, 0x0, [], (.claim 5 1 0), 4, false, [⟨79, 0, .wo, []⟩]⟩,
    ⟨0x30021040, [(256, 8)], 128, 0x0, [], .all, 4, false, [⟨63, 0, .ro, []⟩]⟩,
    ⟨0x30021050, [(256, 8)], 32, 0x0, [], (.claim 5 1 0), 4, false, [⟨5, 4, .ro, []⟩, ⟨1, 0, .rw, []⟩]⟩,
    ⟨0x30021054, [(256, 8)], 32, 0x0, [], (.claim 5 1 0), 4, false, [⟨31, 24, .ro, []⟩, ⟨15, 8, .ro, []⟩, ⟨2, 2, .ro, []⟩, ⟨1, 1, .w1c, []⟩, ⟨0, 0, .w1c, []⟩]⟩,
    ⟨0x30022000, [(256, 16)], 128, 0x0, [], (.claim 6 1 0), 3, false, [⟨75, 72, .ro, []⟩, ⟨71, 64, .ro, []⟩, ⟨63, 0, .ro, []⟩]⟩,
    ⟨0x30022010, [(256, 16)], 128, 0x0, [], (.claim 6 1 0), 3, false, [⟨75, 64, .ro, []⟩, ⟨63, 0, .ro, []⟩]⟩,
    ⟨0x30022020, [(256, 16)], 128, 0xFFFFFFFFFFFF, [], (.claim 6 1 0), 3, false, [⟨47, 0, .ro, []⟩]⟩,
    ⟨0x30022030, [(256, 16)], 128, 0x0, [], (.claim 6 1 0), 3, false, [⟨63, 32, .wo, []⟩]⟩,
    ⟨0x30022040, [(256, 16)], 32, 0x0, [], (.claim 6 1 0), 3, false, [⟨31, 28, .rw, [(0, 2)]⟩, ⟨27, 24, .rw, []⟩, ⟨23, 22, .rw, []⟩, ⟨21, 20, .rw, [(0, 2)]⟩, ⟨19, 16, .rw, []⟩, ⟨15, 14, .rw, []⟩, ⟨13, 12, .rw, []⟩, ⟨11, 0, .rw, []⟩]⟩,
    ⟨0x30022044, [(256, 16)], 32, 0x18182000, [], (.claim 6 1 0), 3, false, [⟨31, 24, .rw, []⟩, ⟨23, 16, .rw, []⟩, ⟨15, 12, .rw, []⟩, ⟨9, 8, .rw, [(0, 2)]⟩, ⟨3, 0, .rw, []⟩]⟩,
    ⟨0x30022048, [(256, 16)], 32, 0x3E8, [], (.claim 6 1 0), 3, false, [⟨31, 0, .rw, []⟩]⟩,
    ⟨0x3002204C, [(256, 16)], 32, 0x3E8, [], (.claim 6 1 0), 3, false, [⟨23, 0, .rw, []⟩]⟩ ] ++
  [ ⟨0x30022050, [(256, 16)], 32, 0x186A0, [], (.claim 6 1 0), 3, false, [⟨31, 0, .rw, []⟩]⟩,
    ⟨0x30022054, [(256, 16)], 32, 0x0, [], (.claim 6 1 0), 3, false, [⟨3, 3, .rw, []⟩, ⟨2, 2, .wo, []⟩, ⟨0, 0, .rw, []⟩]⟩,
    ⟨0x30022058, [(256, 16)], 32, 0x0, [], (.claim 6 1 0), 3, false, [⟨31, 24, .ro, []⟩, ⟨23, 16, .ro, []⟩, ⟨7, 7, .ro, []⟩, ⟨6, 6, .ro, []⟩, ⟨5, 5, .ro, []⟩, ⟨3, 0, .ro, []⟩]⟩,
    ⟨0x3002205C, [(256, 16)], 32, 0x0, [], (.claim 6 1 0), 3, false, [⟨31, 16, .ro, []⟩, ⟨15, 0, .ro, []⟩]⟩ ]

end Sys2Proof.Machine
end

