-- ==== Sys2Proof/Machine/RegMap.lean ====
section
/-! DEFINITION. The whole register map of the module: every listed register of every block (R7, R27). -/

namespace Sys2Proof.Machine

/-- Every row of every block, in address order of the blocks' chapters. -/
def regRows : List RegRow :=
  rowsTIME ++ rowsSEQ ++ rowsLSC ++ rowsLE ++ rowsESW ++ rowsHBD ++ rowsCAN ++ rowsLIN ++ rowsNMW ++ rowsAIN ++ rowsPMU ++ rowsEVR ++ rowsCMP ++ rowsSFE ++ rowsVF ++ rowsBRG ++ rowsDDP ++ rowsKEY ++ rowsRST ++ rowsSEAM ++ rowsUPD ++ rowsCLM ++ rowsPIN

end Sys2Proof.Machine
end

