-- ==== Sys2Proof/Machine/Ops.lean ====
section
/-! DEFINITION. The operations every block shares: the time line, worlds and gates, the claim table with its conflict log,
raising an event and sending its message, VF vectors, and the lift of an operation on the module to a step's outcome. -/

namespace Sys2Proof.Machine

/-! ### Outcomes -/

/-- The outcome of a command whose effect is `f` on the module and nothing on the memories. -/
def State.on (s : State) (f : Chip → Chip) : Host.Outcome State Fault Refusal :=
  .next { s with chip := f s.chip }

/-- Do `f` where `p` holds, otherwise nothing. -/
def Chip.when (c : Chip) (p : Bool) (f : Chip → Chip) : Chip := if p then f c else c

/-! ### Time -/

/-- The FRC value (R40). -/
def Chip.frc (c : Chip) : Nat := c.time.frc

/-- Whether an FRC tick lies at or before now. -/
def Chip.due (c : Chip) (t : Nat) : Bool := decide (t ≤ c.time.frc)

/-- Whether a deadline is set and lies at or before now. -/
def Chip.dueAt (c : Chip) (t : Option Nat) : Bool :=
  match t with
  | none => false
  | some t => decide (t ≤ c.time.frc)

/-- Whether an instant of the units that run without the FRC lies at or before now. -/
def Chip.dueNow (c : Chip) (t : Option Nat) : Bool :=
  match t with
  | none => false
  | some t => decide (t ≤ c.now)

/-- Draw the number of the next open value. -/
def Chip.drawn (c : Chip) : Chip := { c with freeCtr := c.freeCtr + 1 }

/-! ### Worlds and gates (R28–R31, R323, R463, R544) -/

/-- Whether pair `p` runs as a mitten (R322). -/
def Chip.mitten (c : Chip) (p : Nat) : Bool := c.flag (CMP_P_STAT_MODE p)

/-- Whether core `k` is the trailing core of a mitten (R323). -/
def Chip.trailing (c : Chip) (k : Nat) : Bool := k % 2 == 1 && c.mitten (k / 2)

/-- The world that tags master `m` (R30, R31, R323, R463). -/
def Chip.worldOf (c : Chip) (m : Nat) : Nat :=
  if m = 8 then 2
  else if c.rst.handed then
    if m < 8 && c.trailing m then c.get (RST_MW_WORLD (m - 1)) else c.get (RST_MW_WORLD m)
  else 0

/-- Whether CX0 is out of its reset in W0: from the boot ROM to the handover (R30, R445). -/
def Chip.booting (c : Chip) : Bool :=
  match c.rst.relStep with
  | .pll => false
  | .options => false
  | _ => true

/-- Whether the zone die runs: no episode is open, and it is not asleep (R301, R442). -/
def Chip.zoneUp (c : Chip) : Bool := c.rst.episode.isNone && c.pmu.power == .run

/-- The outcome of an event of the zone die: nothing of it happens while the die is held in reset or off (R442). -/
def State.onZone (s : State) (f : Chip → Chip) : Host.Outcome State Fault Refusal :=
  s.on fun c => c.when c.zoneUp f

/-- Whether the initiator gate of master `m` is open (R30, R323, R327, R463): of none while the zone die is held or off. -/
def Chip.gateOpen (c : Chip) (m : Nat) : Bool :=
  if !c.zoneUp then false
  else if c.rst.handed then
    c.flag (RST_MW_GATE m) && !(m < 8 && (c.trailing m || c.flag (CMP_P_STAT_HALTED (m / 2))))
  else m == 0 && c.booting

/-- Whether master `m` is behind a closed isolation gate (R544). -/
def Chip.midIsolated (c : Chip) (m : Nat) : Bool := bit (c.get CLM_ISO_MIDS) m

/-- Whether VF `v` is behind a closed isolation gate (R544). -/
def Chip.vfIsolated (c : Chip) (v : Nat) : Bool := bit (c.get CLM_ISO_VFS) v

/-- A requester with its world resolved. -/
structure Who where
  mid : Nat
  vf : Option Nat
  world : Nat
  key : Nat
  deriving DecidableEq, Repr

/-- The world of an agent: the VF's where one originates the traffic (R348), otherwise the master's. -/
def Chip.agentWorld (c : Chip) (a : Agent) : Nat :=
  match a.vf with
  | none => c.worldOf a.mid.val
  | some v => c.get (SFE_FN_CFG_WORLD v.val)

/-- An agent with its world. -/
def Chip.who (c : Chip) (a : Agent) : Who :=
  { mid := a.mid.val, vf := a.vf.map (·.val), world := c.agentWorld a, key := agentKey a }

/-- VFV in bit 7 and VFN below, as the records carry them (R541). -/
def Who.vfBits (w : Who) : Nat := match w.vf with | none => 0 | some v => 128 + v

/-- Whether agent `a` may issue a request now: its gate is open. -/
def Chip.issues (c : Chip) (a : Agent) : Bool := c.gateOpen a.mid.val

/-- The response an agent's request receives. -/
def Chip.respond (c : Chip) (key : Nat) (err : Bool) (data : Nat) : Chip :=
  { c with fab := { c.fab with resp := put {} c.fab.resp key { err := err, data := data } } }

/-- The number under which an agent's latch or staged words of a register are kept (R11, R12). -/
def latchKey (key addr : Nat) : Nat := addr * 16384 + key

/-- Latch a 128-bit register's value for an agent (R11). -/
def Chip.latch (c : Chip) (key addr : Nat) (v : W128) : Chip :=
  { c with fab := { c.fab with latches := put none c.fab.latches (latchKey key addr) (some v) } }

/-! ### The claim table (R45, R538) -/

/-- The nibble of entry `e` of kind `k`. -/
def Chip.claimNibble (c : Chip) (k e : Nat) : Nat :=
  if (k = 5 || k = 6) && e = 0 then 0b1010
  else bits (c.rd (CLM_CLAIM k (e / 8))).toNat (4 * (e % 8) + 3) (4 * (e % 8))

/-- The world that claims entry `e` of kind `k`. -/
def Chip.claimant (c : Chip) (k e : Nat) : Option Nat :=
  let n := c.claimNibble k e
  if n ≥ 8 && n < 13 then some (n - 8) else none

/-- Whether world `w` claims entry `e` of kind `k`. -/
def Chip.claims (c : Chip) (w k e : Nat) : Bool := c.claimant k e == some w

/-- Whether ball `b` is claimed by world `w` with function `f` selected (R539). -/
def Chip.ballHeld (c : Chip) (w b f : Nat) : Bool :=
  c.flag (PIN_BALL_CLAIMED b) && c.get (PIN_BALL_WORLD b) == w && c.get (PIN_BALL_FUNC b) == f

/-- Whether world `w` holds sequencer output `n`: its ball, in rows L to P from column 15, with FUNC 1 (R80, R565, R566). -/
def Chip.sqoHeld (c : Chip) (w n : Nat) : Bool := c.ballHeld w (22 * (10 + n / 8) + 14 + n % 8) 1

/-- The entry of kind 15 whose world owns the routing of event `n` (R34, R35, R538); `none` in the software range. -/
def eventBlock (n : Nat) : Option Nat :=
  if n < 64 then some 0 else if n < 128 then some 1 else if n < 160 then some 2 else if n < 192 then some 3
  else if n < 320 then some 4 else if n < 368 then some 5 else if n < 384 then some 6 else if n < 416 then some 7
  else if n < 448 then some 8 else if n < 480 then some 9 else if n < 512 then some 10 else if n < 576 then some 11
  else if n < 640 then some 12 else if n < 704 then some 13 else if n < 736 then some 14 else if n < 768 then some 15
  else if n < 800 then some 16 else if n < 832 then some 17 else if n < 896 then some 18 else none

/-- The world that owns the routing entry of event `n` (R333, R538). -/
def Chip.eventOwner (c : Chip) (n : Nat) : Option Nat :=
  match eventBlock n with
  | some b => c.claimant 15 b
  | none => c.claimant 16 ((n - 896) / 16)

/-! ### Events (R14, R35, R334, R335, R351) -/

/-- Whether core `k` is in reset, so that a message to it is lost (R335). -/
def Chip.coreDown (c : Chip) (k : Nat) : Bool := !(look false c.core.running k)

/-- The number of an identity of an interrupt file (R332). -/
def imsicKey (core file guest iid : Nat) : Nat := ((core * 4 + file) * 8 + guest) * 2048 + iid

/-- A message reaches an interrupt file. -/
def Chip.msi (c : Chip) (core file guest iid : Nat) : Chip :=
  { c with core := { c.core with imsic := put false c.core.imsic (imsicKey core file guest iid) true } }

/-- Set or clear PEND of event `n` in both registers that show it (R338). -/
def Chip.setPend (c : Chip) (n : Nat) (b : Bool) : Chip :=
  let c := c.setB (EVR_ST_PEND n) b
  c.set (EVR_PEND_PEND (n / 32)) (setBit (c.get (EVR_PEND_PEND (n / 32))) (n % 32) b)

/-- Raise vector `v` of VF `n` (R351); the result says whether a message was lost to a core in reset. -/
def Chip.vfVector (c : Chip) (n v : Nat) : Chip × Bool :=
  let active := c.get (SFE_FN_CFG_STATE n) == 2
  if active && !c.flag (VF_VEC_MASK n v) && c.get (VF_VEC_IID n v) != 0 then
    let core := c.get (SFE_FN_IRQ_CORE n)
    if c.coreDown core then
      ((c.satInc (SFE_FN_CNT_LOST n)).setB (VF_VEC_PEND n v) true, true)
    else
      ((c.msi core (c.get (SFE_FN_IRQ_FILE n)) (c.get (SFE_FN_IRQ_GUEST n)) (c.get (VF_VEC_IID n v))).setB
        (VF_VEC_PEND n v) false, false)
  else (c.setB (VF_VEC_PEND n v) true, false)

/-- Raise event `n`: stamp it, mark it pending, and send its message, or only count it (R334). A message lost to a core in
reset raises EV0541 (R335) and a lost vector message EV0582 (R351); `fuel` bounds that chain, which ends because an event
that is already pending sends nothing. -/
def raiseFuel : Nat → Nat → Chip → Chip
  | 0, _, c => c
  | fuel + 1, n, c =>
    let c := c.set (EVR_STAMP_FRC n) c.time.frc
    if c.flag (EVR_ST_PEND n) then c.satInc (EVR_ST_COAL n)
    else
      let c := c.setPend n true
      if c.flag (EVR_RT_EN n) then
        if c.get (EVR_RT_TGT n) = 1 then
          if c.coreDown (c.get (EVR_RT_CORE n)) then
            raiseFuel fuel 541 ((c.satInc (EVR_ST_LOST n)).satInc EVR_STAT_LOST)
          else
            c.msi (c.get (EVR_RT_CORE n)) (c.get (EVR_RT_FILE n)) (c.get (EVR_RT_GUEST n)) (c.get (EVR_RT_IID n))
        else if c.get (EVR_RT_TGT n) = 2 then
          let r := c.vfVector (c.get (EVR_RT_VFN n)) (c.get (EVR_RT_IID n) % 64)
          if r.2 then raiseFuel fuel 582 r.1 else r.1
        else c
      else c

/-- Raise event `n`. -/
def Chip.raise (c : Chip) (n : Nat) : Chip := raiseFuel 5 n c

/-- Raise vector `v` of VF `n` and, where its message is lost, EV0582 (R351). -/
def Chip.raiseVector (c : Chip) (n v : Nat) : Chip :=
  let r := c.vfVector n v
  if r.2 then r.1.raise 582 else r.1

/-- Record a status in a LASTERR field and raise the block's refusal event. -/
def Chip.refuse (c : Chip) (f : RFld) (st ev : Nat) : Chip := (c.set f st).raise ev

/-- A register command of an agent: nothing is issued through a closed gate (R30), an isolated master gets an error response
and EV0833, an isolated VF is turned away (R544); otherwise `f` takes effect for the requester. -/
def Chip.issue (c : Chip) (a : Agent) (f : Who → Chip → Chip) : Chip :=
  if !c.issues a then c
  else match a.vf with
    | none => if c.midIsolated a.mid.val then (c.respond (agentKey a) true 0).raise 833 else f (c.who a) c
    | some v => if c.vfIsolated v.val then c else f (c.who a) c

/-- The outcome of an agent's register command. -/
def State.by (s : State) (a : Agent) (f : Who → Chip → Chip) : Host.Outcome State Fault Refusal :=
  s.on fun c => c.issue a f

/-! ### Conflicts (R540, R541) -/

/-- The number of conflict records that CLM_STAT.CONFN shows. -/
def Chip.showConfN (c : Chip) : Chip := c.set CLM_STAT_CONFN (min c.clm.conflicts.length 15)

/-- Write a conflict record and raise EV0834, as R540 and R541 lay down. -/
def Chip.conflict (c : Chip) (kind index holder : Nat) (w : Who) : Chip :=
  let c := (c.satInc CLM_CNT_CONFLICTS).raise 834
  if c.clm.conflicts.length < 16 then
    let r := (kind <<< 120) + (index <<< 104) + (w.mid <<< 98) + (w.vfBits <<< 90) + (w.world <<< 87) + (holder <<< 79)
      + c.time.frc % 2 ^ 64
    ({ c with clm := { c.clm with conflicts := c.clm.conflicts ++ [BitVec.ofNat 128 r] } } : Chip).showConfN
  else (c.stick CLM_STAT_CONFOVF).raise 839

/-! ### Function pools (R343) -/

/-- The range of pool `k` that function `f` holds: first index and count. -/
def Chip.rangeOf (c : Chip) (f k : Nat) : Nat × Nat := look (0, 0) c.sfe.ranges (8 * f + k)

/-- Whether index `i` of pool `k` lies in the range of function `f`. -/
def Chip.inRange (c : Chip) (f k i : Nat) : Bool :=
  decide ((c.rangeOf f k).1 ≤ i) && decide (i < (c.rangeOf f k).1 + (c.rangeOf f k).2)

/-- The index of pool `k` that function `f` names by its local number `i` (R347). -/
def Chip.localIndex (c : Chip) (f k i : Nat) : Option Nat :=
  if i < (c.rangeOf f k).2 then some ((c.rangeOf f k).1 + i) else none

/-- The function that holds index `i` of pool `k`. -/
def Chip.holderFn (c : Chip) (k i : Nat) : Option Nat := (List.range 65).find? (fun f => c.inRange f k i)

/-- The world that owns index `i` of pool `k` (R342). -/
def Chip.poolWorld (c : Chip) (k i : Nat) : Option Nat :=
  (c.holderFn k i).map (fun f => if f = 64 then 1 else c.get (SFE_FN_CFG_WORLD f))

end Sys2Proof.Machine
end

