-- ==== Sys2Proof/Machine/Fabric.lean ====
section
/-! DEFINITION. Memory and the fabric as its masters use it: bytes (R23), the address map (R25–R27), the firewall (R28, R462),
gates and isolation (R30, R544), and the translation and page log of VF traffic (R348–R350, R354, R355). -/

namespace Sys2Proof.Machine

/-! ### Bytes -/

/-- One byte of memory; an address nothing has written reads 0. -/
def memByte (m : List Host.Cell) (a : Nat) : Byte := look 0 m a

/-- Write one byte. -/
def memPut (m : List Host.Cell) (a : Nat) (b : Byte) : List Host.Cell := put 0 m a b

/-- The canonical form of a memory. -/
abbrev Memory.wf (m : List Host.Cell) : Bool := canonical (0 : Byte) m

/-- `n` bytes from address `a`. -/
def memRead (m : List Host.Cell) (a n : Nat) : List Byte := (List.range n).map fun i => memByte m (a + i)

/-- Write bytes from address `a` up. -/
def memWrite : List Host.Cell → Nat → List Byte → List Host.Cell
  | m, _, [] => m
  | m, a, b :: t => memWrite (memPut m a b) (a + 1) t

/-- Bytes as a number, lowest first (R23). -/
def leNat (bs : List Byte) : Nat := bs.foldr (fun b n => b.toNat + 256 * n) 0

/-- The `n` low bytes of a number, lowest first. -/
def leBytesOf (n v : Nat) : List Byte := (List.range n).map fun i => BitVec.ofNat 8 (v >>> (8 * i))

/-- Bytes as a number, highest first (network order). -/
def beNat (bs : List Byte) : Nat := bs.foldl (fun n b => 256 * n + b.toNat) 0

/-- The `n` low bytes of a number, highest first. -/
def beBytesOf (n v : Nat) : List Byte := (leBytesOf n v).reverse

/-- One step of CRC-32 (IEEE 802.3, reflected) on a byte. -/
def crcByte (crc b : Nat) : Nat :=
  forAll 8 (fun _ x => if x % 2 = 1 then (x / 2) ^^^ 0xEDB88320 else x / 2) (crc ^^^ b)

/-- The CRC-32 of bytes. -/
def crc32 (bs : List Byte) : Nat := (bs.foldl (fun x b => crcByte x b.toNat) 0xFFFFFFFF) ^^^ 0xFFFFFFFF

/-! ### The address map (R25–R27) -/

/-- A region of the address map. -/
inductive Region | bootRom | emram | ssram | peripheral | vfPage | mram | bridge | dram | hole
  deriving DecidableEq, Repr

/-- The region an address lies in. -/
def regionOf (a : Nat) : Region :=
  if a < 0x20000 then .bootRom
  else if 0x10000000 ≤ a && a < 0x11000000 then .emram
  else if 0x20000000 ≤ a && a < 0x20200000 then .ssram
  else if 0x30000000 ≤ a && a < 0x30310000 then
    if a / 65536 = 0x3007 || (0x3029 ≤ a / 65536 && a / 65536 ≤ 0x302F) then .hole else .peripheral
  else if 0x40000000 ≤ a && a < 0x40400000 then .vfPage
  else if 0x100000000 ≤ a && a < 0x110000000 then .mram
  else if 0x200000000 ≤ a && a < 0x800000000 then .bridge
  else if 0x800000000 ≤ a && a < 0xA00000000 then .dram
  else if 0xA00000000 ≤ a && a < 0xC00000000 then .bridge
  else .hole

/-- Whether a region is memory that holds bytes. -/
def Region.isMemory : Region → Bool
  | .bootRom => true
  | .emram => true
  | .ssram => true
  | .mram => true
  | .dram => true
  | _ => false

/-- Whether the bytes from `a` lie wholly in LPDDR5. -/
def inDram (a n : Nat) : Bool := decide (0x800000000 ≤ a) && decide (a + n ≤ 0xA00000000)

/-! ### The firewall (R28, R462) -/

/-- The tag of a request (R21). -/
structure Tag where
  mid : Nat
  world : Nat
  vf : Option Nat
  deriving DecidableEq, Repr

/-- The first and last byte address of region `r`. -/
def Chip.fwSpan (c : Chip) (r : Nat) : Nat × Nat :=
  let v := (c.rd (RST_FW0 r)).toNat
  (bits v 39 12 * 4096, bits v 103 76 * 4096 + 4095)

/-- Whether region `r` matches an access of `n` bytes from `a` (R28). -/
def Chip.fwMatches (c : Chip) (r a n : Nat) : Bool :=
  let s := c.fwSpan r
  c.flag (RST_FW0_EN r) && decide (a ≤ s.2) && decide (s.1 < a + n)

/-- Whether region `r` admits an access (R462). -/
def Chip.fwAdmits (c : Chip) (r : Nat) (t : Tag) (a n : Nat) (k : AccessKind) : Bool :=
  let s := c.fwSpan r
  let v := (c.rd (RST_FW1 r)).toNat
  let rd := bit v (100 + t.world)
  let wr := bit v (95 + t.world)
  let may := match k with
    | .read => rd
    | .fetch => rd
    | .write => wr
    | .amo => rd && wr
  let vfOk := match bits v 94 93, t.vf with
    | 0, _ => true
    | 1, none => true
    | 2, some f => f == bits v 92 87
    | 3, some _ => true
    | _, _ => false
  c.flag (RST_FW0_EN r) && decide (s.1 ≤ a) && decide (a + n ≤ s.2 + 1) && bit v (108 + t.mid) && may && vfOk

/-- Whether an access touches the retention image, which no master reaches (R302). -/
def inRetention (a n : Nat) : Bool := decide (0x10C00000 < a + n) && decide (a < 0x11000000)

/-- Whether the firewall permits an access (R28). -/
def Chip.fwPermits (c : Chip) (t : Tag) (a n : Nat) (k : AccessKind) : Bool :=
  !inRetention a n && ((List.range 64).any (fun r => c.fwAdmits r t a n k) ||
    (t.world == 0 && !c.flag RST_STAT_SEALED && !(List.range 64).any (fun r => c.fwMatches r a n)))

/-! ### Translation of VF traffic (R349) -/

/-- Walk a G-stage table for page `gpn` from the table at `base`: `level` counts down to 0; the result is the page number. -/
def walk (m : List Host.Cell) (write : Bool) (gpn : Nat) : Nat → Nat → Nat → Option Nat
  | 0, _, _ => none
  | fuel + 1, level, base =>
    let idx := (gpn >>> (9 * level)) % 512
    let pte := leNat (memRead m (base + 8 * idx) 8)
    let ppn := bits pte 53 10
    if !bit pte 0 || (bit pte 2 && !bit pte 1) then none
    else if bit pte 1 || bit pte 3 then
      let span := 2 ^ (9 * level)
      if ppn % span ≠ 0 then none
      else if bit pte 4 && bit pte 1 && bit pte 6 && (!write || (bit pte 2 && bit pte 7)) then some (ppn + gpn % span)
      else none
    else match level with
      | 0 => none
      | l + 1 => walk m write gpn fuel l (ppn * 4096)

/-- Translate page `gpn` by a GATP value: Bare, Sv39x4 or Sv48x4. The root table is four pages long. -/
def translatePage (m : List Host.Cell) (gatp : Nat) (write : Bool) (gpn : Nat) : Option Nat :=
  let root := bits gatp 43 0 * 4096
  let go (levels : Nat) : Option Nat :=
    if 2 ^ (9 * levels + 2) ≤ gpn then none
    else
      let top := levels - 1
      let pte := leNat (memRead m (root + 8 * (gpn >>> (9 * top))) 8)
      let ppn := bits pte 53 10
      if !bit pte 0 || (bit pte 2 && !bit pte 1) then none
      else if bit pte 1 || bit pte 3 then
        let span := 2 ^ (9 * top)
        if ppn % span ≠ 0 then none
        else if bit pte 4 && bit pte 1 && bit pte 6 && (!write || (bit pte 2 && bit pte 7)) then some (ppn + gpn % span) else none
      else walk m write gpn top (top - 1) (ppn * 4096)
  match bits gatp 63 60 with
  | 0 => some gpn
  | 8 => go 3
  | 9 => go 4
  | _ => none

/-- The unit number a master has in SFE_FAULT and in the page log (R354). -/
def unitOf (mid : Nat) : Nat :=
  match mid with
  | 14 => 1
  | 16 => 3
  | 18 => 4
  | _ => 0

/-- Record a translation fault (R349). -/
def Chip.translationFault (c : Chip) (t : Tag) (f ga : Nat) : Chip :=
  let c := c.wrN SFE_FAULT (((c.frc % 2 ^ 64) <<< 64) + (unitOf t.mid <<< 57) + (f <<< 50) + ga % 2 ^ 50)
  let c := c.satInc (SFE_FN_CNT_FAULTS f)
  (c.stick (VF_STAT_FAULT f)).raise 579

/-! ### The dirty page log (R354, R355) -/

/-- Log guest page `gpn` of function `f`, written by a unit; the ring entry is written by the service functions. -/
def State.logPage (s : State) (f unit gpn : Nat) : State :=
  let c := s.chip
  let held := look [] c.sfe.filters f
  if !c.flag (SFE_FN_DRING_EN f) || held.contains gpn then s
  else
    let kept := (held ++ [gpn])
    let c : Chip := { c with sfe := { c.sfe with filters := put [] c.sfe.filters f (if 512 < kept.length then kept.drop 1 else kept) } }
    let size := 2 ^ c.get (SFE_FN_DRING_LOG2N f)
    let pi := c.get (SFE_FN_DPI_PI f)
    let used := (pi + size - c.get (SFE_FN_DCI_CI f) % size) % size
    if used + 1 = size then
      { s with chip := ((c.satInc (SFE_FN_DSTAT_LOST f)).stick (SFE_FN_DSTAT_OVF f)).raise 581 }
    else
      let entry := (c.get (SFE_FN_DSTAT_EPOCH f) <<< 48) + (unit <<< 44) + gpn % 2 ^ 38
      let c := c.set (SFE_FN_DPI_PI f) ((pi + 1) % size)
      let c := c.when (used + 1 == size * 3 / 4) fun c => c.raise 580
      { s with chip := c, mem := memWrite s.mem (c.get (SFE_FN_DRING_BASE f) + 8 * pi) (leBytesOf 8 entry) }

/-! ### Requests of the module's own masters -/

/-- The address a request reaches within one page: translated for a VF, with the page logged on a write; none where it
faults (R348, R349, R354). -/
def State.translate (s : State) (t : Tag) (a : Nat) (write : Bool) : Option Nat × State :=
  match t.vf with
  | none => (some a, s)
  | some f =>
    match translatePage s.mem (s.chip.get (SFE_FN_GATP_GATP f)) write (a / 4096) with
    | none => (none, { s with chip := s.chip.translationFault t f a })
    | some p => (some (p * 4096 + a % 4096), if write then s.logPage f (unitOf t.mid) (a / 4096) else s)

/-- Whether a master or VF is behind a closed isolation gate; the request is answered with an error (R544). -/
def Chip.tagIsolated (c : Chip) (t : Tag) : Bool :=
  match t.vf with
  | none => c.midIsolated t.mid
  | some f => c.vfIsolated f

/-- The checks of one request within a page, at its physical address: gate, isolation, firewall and decode, with their
events; the result is whether it is served from memory (R26, R28, R30, R544). -/
def Chip.passes (c : Chip) (t : Tag) (a n : Nat) (k : AccessKind) : Bool × Chip :=
  if !c.gateOpen t.mid then (false, c)
  else if c.tagIsolated t then (false, c.raise 833)
  else if !c.fwPermits t a n k then (false, c.raise 496)
  else match regionOf a with
    | .hole => (false, c.raise 497)
    | r => (r.isMemory && !(k == .write && r == .bootRom), c)

/-- Cut `n` bytes from `a` at page boundaries. -/
def pieces : Nat → Nat → Nat → List (Nat × Nat)
  | 0, _, _ => []
  | fuel + 1, a, n =>
    let room := 4096 - a % 4096
    if n = 0 then [] else if n ≤ room then [(a, n)] else (a, room) :: pieces fuel (a + room) (n - room)

/-- Read one piece. -/
def State.readPiece (s : State) (t : Tag) (a n : Nat) : Option (List Byte) × State :=
  match s.translate t a false with
  | (none, s) => (none, s)
  | (some p, s) =>
    let r := s.chip.passes t p n .read
    (if r.1 then some (memRead s.mem p n) else none, { s with chip := r.2 })

/-- Read pieces in turn; an error ends the read. -/
def State.readPieces : List (Nat × Nat) → State → Tag → Option (List Byte) × State
  | [], s, _ => (some [], s)
  | (a, n) :: l, s, t =>
    match s.readPiece t a n with
    | (none, s) => (none, s)
    | (some b, s) =>
      match State.readPieces l s t with
      | (none, s) => (none, s)
      | (some bs, s) => (some (b ++ bs), s)

/-- A master reads `n` bytes of memory; none is an error response. -/
def State.busRead (s : State) (t : Tag) (a n : Nat) : Option (List Byte) × State :=
  State.readPieces (pieces (n / 4096 + 2) a n) s t

/-- Write one piece. -/
def State.writePiece (s : State) (t : Tag) (a : Nat) (bs : List Byte) : Bool × State :=
  match s.translate t a true with
  | (none, s) => (false, s)
  | (some p, s) =>
    let r := s.chip.passes t p bs.length .write
    if r.1 then (true, { s with chip := r.2, mem := memWrite s.mem p bs }) else (false, { s with chip := r.2 })

/-- Write pieces in turn; an error ends the write. -/
def State.writePieces : List (Nat × Nat) → State → Tag → List Byte → Bool × State
  | [], s, _, _ => (true, s)
  | (a, n) :: l, s, t, bs =>
    match s.writePiece t a (bs.take n) with
    | (false, s) => (false, s)
    | (true, s) => State.writePieces l s t (bs.drop n)

/-- A master writes bytes to memory; the result is whether every response was good. -/
def State.busWrite (s : State) (t : Tag) (a : Nat) (bs : List Byte) : Bool × State :=
  State.writePieces (pieces (bs.length / 4096 + 2) a bs.length) s t bs

/-- The tag of a unit's traffic on its own account. -/
def Chip.unitTag (c : Chip) (mid : Nat) : Tag := { mid := mid, world := c.worldOf mid, vf := none }

/-- The tag of a unit's traffic for function `f`: PF0 (64) in W1, a VF in its own world (R348, R463). -/
def Chip.fnTag (c : Chip) (mid f : Nat) : Tag :=
  if f = 64 then { mid := mid, world := 1, vf := none }
  else { mid := mid, world := c.get (SFE_FN_CFG_WORLD f), vf := some f }

/-- The outcome of a command that acts on the module and its memories. -/
def State.onMem (s : State) (f : State → State) : Host.Outcome State Fault Refusal := .next (f s)

/-- The outcome of an event of the zone die that acts on the memories too. -/
def State.onZoneMem (s : State) (f : State → State) : Host.Outcome State Fault Refusal :=
  s.onMem fun s => if s.chip.zoneUp then f s else s

/-- A register command of an agent that acts on the memories too. -/
def State.byMem (s : State) (a : Agent) (f : Who → State → State) : Host.Outcome State Fault Refusal :=
  .next (if !s.chip.issues a then s
  else match a.vf with
    | none => if s.chip.midIsolated a.mid.val then { s with chip := (s.chip.respond (agentKey a) true 0).raise 833 }
      else f (s.chip.who a) s
    | some v => if s.chip.vfIsolated v.val then s else f (s.chip.who a) s)

end Sys2Proof.Machine
end

