-- ==== Sys2Proof/Machine/ClaimCore.lean ====
section
/-! DEFINITION. Leases and the start of their revocation, as other blocks cause it: R542, R544, R545. -/

namespace Sys2Proof.Machine

/-- Replace the claim block's own state. -/
def Chip.updClm (c : Chip) (f : ClmBlk → ClmBlk) : Chip := { c with clm := f c.clm }

/-! ### Leases and holders (R542) -/

/-- The holder that an owner tag of a master and a VF names. -/
def holderOf (mid : Nat) (vf : Option Nat) : LeaseHolder := match vf with | some f => .vf f | none => .mid mid

/-- The local dictionary session `s` that has a request in progress: who asked. -/
def Chip.localAsker (c : Chip) (s : Nat) : Option (Nat × Option Nat) :=
  c.ddp.fwReqs.findSome? fun r => match r.waiter with
    | .loc n t => if n = s then some (t.1, t.2.2) else none
    | _ => none

/-- Who holds a lease; none where it is not held. -/
def Chip.leaseHolder (c : Chip) (l : LeaseRef) : Option LeaseHolder :=
  match l.kind with
  | 0 => (look none c.clm.locks l.index).map fun h => holderOf h.mid h.vf
  | 1 => if l.index = 0 then c.brg.lock.map fun k => holderOf k.mid (if 64 ≤ k.vfBits then some (k.vfBits - 64) else none) else none
  | 2 => (look none c.key.holds l.index).map fun h => if h.fn < 64 then .vf h.fn else .mid h.mid
  | 3 =>
    match look none c.ddp.sessions l.index with
    | some _ => some (.ses l.index)
    | none => (c.localAsker l.index).map fun a => holderOf a.1 a.2
  | _ => none

/-- Every lease of the module. -/
def allLeases : List LeaseRef :=
  ((List.range 64).map fun i => { kind := 0, index := i }) ++ [{ kind := 1, index := 0 }] ++
    ((List.range 1024).map fun i => { kind := 2, index := i }) ++ (List.range 64).map fun i => { kind := 3, index := i }

/-- The leases that a holder holds. -/
def Chip.leasesOf (c : Chip) (h : LeaseHolder) : List LeaseRef := allLeases.filter fun l => c.leaseHolder l == some h

/-! ### Isolation gates (R544, R545) -/

/-- Show whether a gate is closed. -/
def Chip.showIso (c : Chip) : Chip :=
  c.setB CLM_STAT_ISOACT (c.get CLM_ISO_MIDS != 0 || c.get CLM_ISO_VFS != 0 || !c.clm.sesShut.isEmpty)

/-- Whether a holder's gate is closed. -/
def Chip.gateShut (c : Chip) (h : LeaseHolder) : Bool :=
  match h with
  | .mid m => bit (c.get CLM_ISO_MIDS) m
  | .vf f => bit (c.get CLM_ISO_VFS) f
  | .ses s => c.clm.sesShut.contains s

/-- Close or open a holder's gate. -/
def Chip.gateSet (c : Chip) (h : LeaseHolder) (shut : Bool) : Chip :=
  (match h with
  | .mid m => c.set CLM_ISO_MIDS (setBit (c.get CLM_ISO_MIDS) m shut)
  | .vf f => c.set CLM_ISO_VFS (setBit (c.get CLM_ISO_VFS) f shut)
  | .ses s => c.updClm fun b => { b with
      sesShut := if shut then (if b.sesShut.contains s then b.sesShut else b.sesShut ++ [s]) else b.sesShut.filter (· != s) }).showIso

/-- A closed gate reopens with EV0845. -/
def Chip.gateReopen (c : Chip) (h : LeaseHolder) : Chip := c.when (c.gateShut h) fun c => (c.gateSet h false).raise 845

/-! ### Revocation (R544) -/

/-- Show the revocations that run, are queued or pending. -/
def Chip.showRev (c : Chip) : Chip :=
  let b := c.clm
  let c := c.setB CLM_STAT_REVRUN b.running.isSome
  let c := (c.set CLM_REVRES_QUEUED b.queue.length).setB CLM_REVRES_PENDOVF (!b.pendingRev.isEmpty)
  c.setB CLM_REVRES_BUSY (b.running.isSome || !b.queue.isEmpty || !b.pendingRev.isEmpty)

/-- The pending lease that comes first, by kind and then by index. -/
def firstPending (l : List LeaseRef) : Option LeaseRef :=
  l.foldl (fun a x => match a with
    | none => some x
    | some y => if x.kind < y.kind || (x.kind = y.kind && x.index < y.index) then some x else some y) none

/-- A freed place of the queue goes to the first pending lease. -/
def Chip.revRefill (c : Chip) : Chip :=
  match firstPending c.clm.pendingRev with
  | some l => c.when (decide (c.clm.queue.length < 8)) fun c => c.updClm fun b => { b with
      queue := b.queue ++ [l], pendingRev := b.pendingRev.erase l }
  | none => c

/-- A revocation starts: the holder's isolation gate closes. -/
def Chip.revStart (c : Chip) (l : LeaseRef) (h : LeaseHolder) : Chip :=
  (c.updClm fun b => { b with running := some (l, h), runStart := c.frc, drainOver := false }).gateSet h true

/-- Start the next revocation: one a written revocation still has to take, then the queue; a lease that is no longer held is
passed over. -/
def revNextFuel : Nat → Chip → Chip
  | 0, c => c
  | n + 1, c =>
    if c.clm.running.isSome then c
    else match c.clm.todo, c.clm.queue with
      | l :: t, _ =>
        let c := c.updClm fun b => { b with todo := t }
        match c.leaseHolder l with
        | some h => c.revStart l h
        | none => revNextFuel n c
      | [], l :: t =>
        let c := (c.updClm fun b => { b with queue := t }).revRefill
        match c.leaseHolder l with
        | some h => c.revStart l h
        | none => revNextFuel n c
      | [], [] => c

/-- Start the next revocation, and show the queue. -/
def Chip.revNext (c : Chip) : Chip :=
  (revNextFuel (c.clm.todo.length + c.clm.queue.length + c.clm.pendingRev.length + 1) c).showRev

/-- An automatic cause names a lease: it is queued, or marked pending where the queue is full (R544). -/
def Chip.revQueue (c : Chip) (l : LeaseRef) : Chip :=
  let b := c.clm
  if (c.leaseHolder l).isNone || b.queue.contains l || b.pendingRev.contains l || b.todo.contains l ||
      (match b.running with | some (x, _) => x == l | none => false) then c
  else if b.queue.length < 8 then c.updClm fun b => { b with queue := b.queue ++ [l] }
  else (c.updClm fun b => { b with pendingRev := b.pendingRev ++ [l] }).raise 846

/-- An automatic cause against holders: every lease of theirs is revoked. -/
def Chip.autoRevoke (c : Chip) (hs : List LeaseHolder) : Chip :=
  (forEach (hs.flatMap c.leasesOf) (fun l c => c.revQueue l) c).revNext

/-- The partition reset of holders has completed: their gates open, or once their last lease has been taken. -/
def Chip.gatesAfterReset (c : Chip) (hs : List LeaseHolder) : Chip :=
  forEach hs (fun h c =>
    let busy := (match c.clm.running with | some (_, x) => x == h | none => false) ||
      (c.clm.queue ++ c.clm.pendingRev ++ c.clm.todo).any fun l => c.leaseHolder l == some h
    if busy then c.updClm fun b => { b with reopen := if b.reopen.contains h then b.reopen else b.reopen ++ [h] }
    else c.gateReopen h) c

/-- Whether a lease is the one whose revocation runs: it is then taken by the revocation and not by an expiry (R544). -/
def Chip.revoking (c : Chip) (l : LeaseRef) : Bool := match c.clm.running with | some (x, _) => x == l | none => false

/-! ### Partition resets (R444, R471) -/

/-- A partition reset completes: RST_PLAST shows its target and source, and EV0491 is raised. -/
def Chip.partDone (c : Chip) (target source : Nat) : Chip :=
  ((((c.set RST_PLAST_FRC (c.frc % 2 ^ 64)).set RST_PLAST_TARGET target).set RST_PLAST_SOURCE source).satInc RST_PLAST_COUNT).raise 491

end Sys2Proof.Machine
end

