-- ==== Sys2Proof/Machine/TimeBase.lean ====
section
/-! DEFINITION. The arithmetic of time and position that the time domains, the bases and the sequencer share: domain values
(R42), projections and the reached rule (R53, R54), position estimates (R58, R60), generations (R66, R93, R96), and lead-error
records with the verify list (R97–R99). -/

namespace Sys2Proof.Machine

/-! ### Time domains (R42, R52, R53) -/

/-- A difference taken as a signed 64-bit value. -/
def s64 (x : Int) : Int := signed 64 (x % 2 ^ 64).toNat

/-- One TV128 second in units of 2^-16 ns. -/
def secUnits : Nat := 1000000000 * 65536

/-- A TV128's value in units of 2^-16 ns. -/
def tvUnits (v : Nat) : Nat := bits v 127 80 * secUnits + bits v 79 48 * 65536 + bits v 47 32

/-- A TV128 without domain and quality from a value in units of 2^-16 ns. -/
def tvWord (u : Nat) : Nat :=
  ((u / secUnits % 2 ^ 48) <<< 80) + ((u / 65536 % 1000000000) <<< 48) + ((u % 65536) <<< 32)

/-- A domain's value at FRC tick `t`, normalised, in units of 2^-16 ns: offset + (FRC − anchor) × increment, the product
rounded toward minus infinity (R42). -/
def tdAtWith (ofs : Nat) (anchor inc t : Nat) : Nat :=
  (((ofs : Int) + (s64 ((t : Int) - (anchor : Int)) * (inc : Int)) / 2 ^ 32) % ((2 ^ 48 * secUnits : Nat) : Int)).toNat

/-- Domain `n` at FRC tick `t`. -/
def Chip.tdAt (c : Chip) (n t : Nat) : Nat :=
  tdAtWith (tvUnits (c.rdN (TD_OFS n))) (c.get (TD_ANCHOR_FRC n)) (c.get (TD_INC_INC n)) t

/-- The TV128 that a read of domain `n` returns, with the domain number and the quality filled in (R47). -/
def Chip.tdRead (c : Chip) (n t : Nat) : Nat :=
  tvWord (c.tdAt n t) + (n <<< 28) + (c.get (TD_CTL_QUAL n) <<< 24)

/-- The projection of a value in units of 2^-16 ns (R53). -/
def projection (u : Nat) : Nat := u / 65536 % 2 ^ 64

/-- The projection of TD0 at tick `t`: PB0's position. -/
def Chip.pb0At (c : Chip) (t : Nat) : Nat := projection (c.tdAt 0 t)

/-! ### Trackers (R56–R62) -/

/-- A tracker's hidden state. -/
def Chip.tracker (c : Chip) (n : Nat) : Tracker := look {} c.time.trackers n

/-- Change a tracker's hidden state. -/
def Chip.updTracker (c : Chip) (n : Nat) (f : Tracker → Tracker) : Chip :=
  { c with time := { c.time with trackers := upd {} c.time.trackers n f } }

/-- *N*, the tooth positions per cycle (R56). -/
def Chip.pbN (c : Chip) (n : Nat) : Nat := c.get (PB_CFG_TEETH n) + 1

/-- GAP (R56); a mirror base has none (R64). -/
def Chip.pbGap (c : Chip) (n : Nat) : Nat := c.get (PB_CFG_GAP n)

/-- Whether the tracker holds an estimate of *P*. -/
def Chip.pbHasP (c : Chip) (n : Nat) : Bool := c.get (PB_PER_P n) != 0xFFFFFFFFFFFF

/-- The FRC tick of the last edge. -/
def Chip.pbTe (c : Chip) (n : Nat) : Nat := c.get (PB_EDGE_FRC n)

/-- Whether the tracker runs in reverse. -/
def Chip.pbRev (c : Chip) (n : Nat) : Bool := c.flag (PB_STAT_DIR n)

/-- The way a line with tooth period `p` (32.16 ns) goes in `dt` ticks, in units of 2^-32 cycle: dt / (N × P). -/
def lineAdvance (nTeeth p : Nat) (dt : Int) : Int :=
  if p = 0 || nTeeth = 0 then 0 else dt * 2 ^ 48 / ((nTeeth * p : Nat) : Int)

/-- The position on the line through (te, pe) at tick `t`, in direction `rev`, without clamp or hold. -/
def linePos (pe te nTeeth p : Nat) (rev : Bool) (t : Int) : Nat :=
  let d := lineAdvance nTeeth p (t - (te : Int))
  (((pe : Int) + (if rev then -d else d)) % 2 ^ 64).toNat

/-- Whether a tracker extrapolates now: not in OFF, WAIT or STALLED, and with an estimate (R57, R60). -/
def Chip.pbRuns (c : Chip) (n : Nat) : Bool :=
  let st := c.get (PB_STAT_STATE n)
  (st == 2 || st == 3 || st == 4) && c.pbHasP n

/-- Base `n`'s estimated position at tick `t`, without clamp and hold (R83). -/
def Chip.estAt (c : Chip) (n t : Nat) : Nat :=
  if n = 0 then c.pb0At t
  else if c.pbRuns n then
    linePos (c.tracker n).pe (c.pbTe n) (c.pbN n) (c.get (PB_PER_P n)) (c.pbRev n) (t : Int)
  else (c.tracker n).pe

/-- Whether target `pos` is reached at position `p` in the direction of an occurrence (R54). -/
def reached (dir : Bool) (pos p : Nat) : Bool :=
  if dir then decide (s64 ((p : Int) - (pos : Int)) ≤ 0) else decide (s64 ((pos : Int) - (p : Int)) ≤ 0)

/-! ### Lead errors (R97–R99) -/

/-- A lead error, saturated to ±(2^31 − 1). -/
def leadErr (corrected pos : Nat) : Int :=
  max (-(2 ^ 31 - 1)) (min (2 ^ 31 - 1) (s64 ((corrected : Int) - (pos : Int))))

/-- Write a lead-error record (R99). -/
def Chip.leadRecord (c : Chip) (kind base cls entry : Nat) (err : Int) (fire : Nat) : Chip :=
  let r := (kind <<< 124) + (c.get (PB_STAT_GEN base) <<< 116) + (base <<< 112) + (cls <<< 109) + (entry <<< 96)
    + (unsigned 32 err <<< 64) + fire % 2 ^ 64
  let full := decide (128 ≤ c.seq.lerr.length)
  let c : Chip := { c with seq := { c.seq with
    lerr := (if full then c.seq.lerr.drop 1 else c.seq.lerr) ++ [BitVec.ofNat 128 r] } }
  let c := c.set SEQ_LERR_STAT_HELD c.seq.lerr.length
  let c := c.satInc (SEQ_B_LEADN_N base)
  let c := c.set (SEQ_B_MAXLEAD_N base) (max (c.get (SEQ_B_MAXLEAD_N base)) err.natAbs)
  let c := c.raise 68
  c.when full fun c => ((c.stick SEQ_LERR_STAT_OVF).satInc SEQ_LERR_STAT_DROPPED).raise 69

/-- The corrected position of a verified occurrence: TD0 under the new parameters, or the interpolation between the two
edges on either side of the fire tick (R97 kind 2). -/
def Chip.verifiedPos (c : Chip) (v : VerifyItem) : Nat :=
  if v.base = 0 then c.pb0At v.fire
  else
    let te := c.pbTe v.base
    let d := s64 (((c.tracker v.base).pe : Int) - (v.prevPos : Int))
    if te ≤ v.prevEdge then v.prevPos
    else (((v.prevPos : Int) + d * ((v.fire : Int) - (v.prevEdge : Int)) / ((te - v.prevEdge : Nat) : Int)) % 2 ^ 64).toNat

/-- The generation check of a base's edge or TD0 write: its fired occurrences leave the verify list, with a kind 2 record
where the generation advanced (R98). -/
def Chip.verifyBase (c : Chip) (base : Nat) (advanced : Bool) : Chip :=
  let mine := c.seq.verify.filter (fun v => v.base == base)
  let c : Chip := { c with seq := { c.seq with verify := c.seq.verify.filter (fun v => v.base != base) } }
  if advanced then
    forEach mine (fun v c => c.leadRecord 2 v.base v.cls v.entry (leadErr (c.verifiedPos v) v.pos) v.fire) c
  else c

/-! ### Generations (R66, R67, R93, R96) -/

/-- Change every listed event-table entry. -/
def Chip.mapEntries (c : Chip) (f : Nat → SeqEntry → SeqEntry) : Chip :=
  { c with seq := { c.seq with
    entries := c.seq.entries.foldl (fun m e => put {} m e.1 (f e.1 e.2)) c.seq.entries } }

/-- Show the numbers of armed and committed occurrences (SEQ_STAT). -/
def Chip.showWindow (c : Chip) : Chip :=
  let cm := (c.seq.entries.filter (fun e => e.2.st == .committed)).length
  let ar := (c.seq.entries.filter (fun e => e.2.st == .armed)).length
  (c.set SEQ_STAT_COMMITTED cm).set SEQ_STAT_ARMED (ar + cm)

/-- Base `n`'s generation advances, at most once in an FRC tick (R67); its armed occurrences that are not committed are held
for a re-timing pass (R93). -/
def Chip.genAdvance (c : Chip) (n : Nat) : Chip :=
  if (c.tracker n).genAt = some c.time.frc then c
  else
    let c := c.wrapInc (PB_STAT_GEN n)
    let c := c.updTracker n fun t => { t with genAt := some c.time.frc }
    let c := c.mapEntries fun _ e => if e.st == .armed && e.base == n then { e with held := true } else e
    { c with seq := { c.seq with retime := if c.seq.retime.contains n then c.seq.retime else c.seq.retime ++ [n] } }

/-- Armed occurrences of base `n` that are not committed return to WAITING (R96). -/
def Chip.returnToWaiting (c : Chip) (n : Nat) : Chip :=
  (c.mapEntries fun _ e =>
    if e.st == .armed && e.base == n then { e with st := .waiting, fire := 0, held := false, lateOcc := false }
    else e).showWindow

end Sys2Proof.Machine
end

