-- ==== Sys2Proof/Machine/Bridge.lean ====
section
/-! DEFINITION. The PCIe bridge towards the far bus: R362–R378. -/

namespace Sys2Proof.Machine

/-- Replace the bridge's own state. -/
def Chip.updBrg (c : Chip) (f : BrgBlk → BrgBlk) : Chip := { c with brg := f c.brg }

/-- Whether the module is the root port, and whether it has a role at all (R362). -/
def Chip.brgRoot (c : Chip) : Bool := c.get BRG_STAT_ROLE == 1
def Chip.brgOff (c : Chip) : Bool := c.get BRG_STAT_ROLE == 0

/-! ### Byte lanes (R368) -/

/-- Where the byte at near address `a` of an access of `s` bytes at `b` goes. -/
def swapAddr (swap gran b s a : Nat) : Nat :=
  match swap with
  | 1 => b + (s - 1) - (a - b)
  | 2 => a ^^^ (2 ^ (gran + 1) - 1)
  | _ => a

/-- The lowest address an access reaches after the swap. -/
def swapBase (swap gran b s : Nat) : Nat :=
  (List.range s).foldl (fun m i => min m (swapAddr swap gran b s (b + i))) (swapAddr swap gran b s b)

/-- The bytes of an access in the order of the other side's addresses. -/
def swapBytes (swap gran b : Nat) (bs : List Byte) : List Byte :=
  let s := bs.length
  let base := swapBase swap gran b s
  (List.range s).map fun j =>
    match (List.range s).find? fun i => swapAddr swap gran b s (b + i) == base + j with
    | some i => bs.getD i 0
    | none => 0

/-! ### The error log, fences and settling (R371–R373) -/

/-- Show the log's oldest entry. -/
def Chip.showElog (c : Chip) : Chip :=
  let e := c.brg.elog.headD (0, 0)
  ((c.wr BRG_ELOG0 e.1).wr BRG_ELOG1 e.2).set BRG_STAT_ELOGN c.brg.elog.length

/-- Write an error-log entry, or lose it (R372). -/
def Chip.elogAdd (c : Chip) (laddr fstat win world vfb mid : Nat) : Chip :=
  if 32 ≤ c.brg.elog.length then ((c.stick BRG_STAT_ELOGOVF).satInc BRG_CNT_DROPPED).raise 642
  else
    let e := (1 <<< 127) + (laddr <<< 64) + (fstat <<< 56) + (win <<< 51) + (world <<< 48) + (vfb <<< 41) + (mid <<< 35)
    let t := c.tdRead 0 c.frc
    ((c.updBrg fun b => { b with elog := b.elog ++ [(BitVec.ofNat 128 e, BitVec.ofNat 128 t)] }).showElog).raise 641

/-- A posted write fails: it leaves the unconfirmed, is logged, and counts for its initiator's fence. -/
def Chip.postedFails (c : Chip) (p : BrgReq) (fstat : Nat) : Chip :=
  let c := c.updBrg fun b =>
    let f := look (0, 0) b.fails p.key
    { b with posted := b.posted.filter (·.id != p.id)
             fails := put (0, 0) b.fails p.key (min (f.1 + 1) 65535, if f.1 = 0 then fstat else f.2) }
  c.elogAdd p.laddr fstat p.win p.world p.vfBits p.mid

/-- The answer of a fence read (R373); the read resets the count. -/
def Chip.fenceAnswer (c : Chip) (key : Nat) : Chip :=
  let f := look (0, 0) c.brg.fails key
  let v := ((if f.1 = 0 then stOK else stINTEGRITY) <<< 24) + (f.2 <<< 16) + f.1
  (c.updBrg fun b => { b with fails := put (0, 0) b.fails key (0, 0), fences := put [] b.fences key [] }).respond key false v

/-- Answer the fence reads whose writes have all been settled. -/
def Chip.fencesSettle (c : Chip) : Chip :=
  forEach c.brg.fences (fun e c =>
    let left := e.2.filter fun id => c.brg.posted.any (·.id == id)
    if left.isEmpty then c.fenceAnswer e.1 else c.updBrg fun b => { b with fences := put [] b.fences e.1 left }) c

/-- A non-posted request ends with an error response and EV0643. -/
def Chip.reqFails (c : Chip) (r : BrgReq) : Chip :=
  let c := c.updBrg fun b => { b with out := b.out.filter (·.id != r.id), queue := b.queue.filter (·.id != r.id) }
  (c.respond r.key true 0).raise 643

/-- A request outside the list gets an error response and EV0643 (R364, R365). -/
def Chip.brgError (c : Chip) (key : Nat) : Chip := (c.respond key true 0).raise 643

/-! ### Sending (R370, R375, R376) -/

/-- Release the far-bus lock: Unlock is sent. -/
def Chip.brgUnlock (c : Chip) : Chip := (c.updBrg fun b => { b with lock := none }).setB BRG_STAT_LOCKED false

/-- Take the far-bus lock for a request, with a reservation for LR. -/
def Chip.brgTake (c : Chip) (r : BrgReq) (resv : Option Nat) : Chip :=
  let keep := match c.brg.lock with | some l => some l.expiry | none => none
  let e := keep.getD (c.frc + c.get BRG_LIM_LOCKL * 1000)
  (c.updBrg fun b => { b with
    lock := some { key := r.key, mid := r.mid, vfBits := r.vfBits, win := r.win, resv := resv, expiry := e } }).setB BRG_STAT_LOCKED true

/-- Whether a request can be sent now: the lock is free or its initiator's, and a place is free. -/
def Chip.canSend (c : Chip) (r : BrgReq) : Bool :=
  (match c.brg.lock with | some l => l.key == r.key | none => true) &&
  (match r.kind with
    | .write true => decide (c.brg.posted.length < 128)
    | .sc _ => true
    | _ => decide (c.brg.out.length < 60))

/-- Send a request. -/
def Chip.brgSend (c : Chip) (r : BrgReq) : Chip :=
  match r.kind with
  | .write true =>
    (c.updBrg fun b => { b with
      posted := b.posted ++ [r], lastPosted := put 0 b.lastPosted r.win c.frc, sent := some (r.far, r.bytes) }).respond r.key false 0
  | .write false => c.updBrg fun b => { b with out := b.out ++ [r], sent := some (r.far, r.bytes) }
  | .amo _ _ => (c.brgTake r none).updBrg fun b => { b with out := b.out ++ [r] }
  | .lr => (c.brgTake r (some r.laddr)).updBrg fun b => { b with out := b.out ++ [r] }
  | .sc _ =>
    let hit := match c.brg.lock with | some l => l.key == r.key && l.resv == some r.laddr && decide (c.frc < l.expiry) | none => false
    let c := c.when hit fun c => c.updBrg fun b => { b with sent := some (r.far, r.bytes) }
    (c.when c.brg.lock.isSome Chip.brgUnlock).respond r.key false (b2n (!hit))
  | _ => c.updBrg fun b => { b with out := b.out ++ [r] }

/-- Send every waiting request that can be sent, in order for each initiator and window. -/
def Chip.brgPump (c : Chip) : Chip :=
  (c.brg.queue.foldl (fun (x : List (Nat × Nat) × Chip) r =>
    if !x.1.contains (r.key, r.win) && x.2.canSend r then
      (x.1, (x.2.updBrg fun b => { b with queue := b.queue.filter (·.id != r.id) }).brgSend r)
    else (x.1 ++ [(r.key, r.win)], x.2)) ([], c)).2

/-- Writes whose flush read has completed and that no Header Log read may still name are settled: a posted write is confirmed,
a non-posted one is answered (R370, R371). -/
def Chip.brgSettle (c : Chip) : Chip :=
  let ready (r : BrgReq) : Bool := r.flushed && r.waits.isEmpty
  let c := c.updBrg fun b => { b with posted := b.posted.filter fun r => !ready r }
  let c := forEach (c.brg.out.filter ready) (fun r c =>
    if r.failed then c.reqFails r
    else (c.updBrg fun b => { b with out := b.out.filter (·.id != r.id) }).respond r.key false 0) c
  c.fencesSettle.brgPump

/-! ### Outbound requests (R364, R365, R369, R370) -/

/-- The enabled outbound window that holds an access. -/
def Chip.outWindow (c : Chip) (a n : Nat) : Option Nat :=
  (List.range 32).find? fun w => c.flag (BRG_OW_CTL_EN w) && decide (c.get (BRG_OW_LOC_BASE w) ≤ a) &&
    decide (a + n ≤ c.get (BRG_OW_LOC_LIM w) + 1)

/-- An access to an aperture that the firewall has admitted. -/
def Chip.brgOutbound (c : Chip) (w : Who) (k : BrgKind) (a n : Nat) (data : List Byte) : Chip :=
  if c.brgOff || !c.flag BRG_STAT_LINK then c.brgError w.key
  else match c.outWindow a n with
    | none => c.brgError w.key
    | some i =>
      let locked := match k with
        | .amo _ _ => true
        | .lr => true
        | .sc _ => true
        | _ => false
      let unit := 2 ^ c.get (BRG_OW_CTL_WMAX i)
      if locked && !(c.flag (BRG_OW_CTL_LOCK i) && c.brgRoot) then c.respond w.key true 0
      else if unit < n && c.flag (BRG_OW_CTL_STRICT i) then (c.respond w.key true 0).raise 644
      else
        let sw := c.get (BRG_OW_CTL_SWAP i)
        let g := c.get (BRG_OW_CTL_GRAN i)
        let far := c.get (BRG_OW_FAR_BASE i) + swapBase sw g a n - c.get (BRG_OW_LOC_BASE i)
        let k := match k with
          | .write _ => .write (c.flag (BRG_OW_CTL_POSTED i) && w.world != 2)
          | k => k
        let pieces := match k with | .read => (n + unit - 1) / unit | _ => 1
        let r : BrgReq := { id := c.brg.next, kind := k, win := i, laddr := a, size := n, far := far
                            bytes := swapBytes sw g a data, key := w.key, mid := w.mid
                            vfBits := (match w.vf with | none => 0 | some v => 64 + v), world := w.world, left := pieces }
        (c.updBrg fun b => { b with next := b.next + 1, queue := b.queue ++ [r] }).brgPump

/-- The failure of an access, or its answer, as a fresh outcome of the initiator: the previous answer is withdrawn while it waits. -/
def Chip.brgWaits (c : Chip) (key : Nat) : Chip := { c with fab := { c.fab with resp := put {} c.fab.resp key {} } }

/-- The result of an atomic operation on `b` bytes (R375). -/
def amoResult (op : AmoOp) (b old arg : Nat) : Nat :=
  let m := 2 ^ (8 * b)
  let s (x : Nat) : Int := signed (8 * b) x
  match op with
  | .swap => arg % m
  | .add => (old + arg) % m
  | .xor => (old ^^^ arg) % m
  | .and => (old &&& arg) % m
  | .or => (old ||| arg) % m
  | .min => if s old ≤ s arg then old else arg % m
  | .max => if s arg ≤ s old then old else arg % m
  | .minu => min old (arg % m)
  | .maxu => max old (arg % m)

/-- Bytes as a number, lowest first. -/
def bytesNat (bs : List Byte) : Nat := bs.foldr (fun b n => b.toNat + 256 * n) 0

/-- The low `n` bytes of a number, lowest first. -/
def natBytes (n v : Nat) : List Byte := (List.range n).map fun i => BitVec.ofNat 8 (v >>> (8 * i))

/-! ### Completions (R370, R374, R375) -/

/-- A read's data are whole: it is answered; an AMO writes its result and unlocks; a configuration read shows its data. -/
def Chip.readEnds (c : Chip) (r : BrgReq) : Chip :=
  let sw := c.get (BRG_OW_CTL_SWAP r.win)
  let g := c.get (BRG_OW_CTL_GRAN r.win)
  let near := swapBytes sw g r.laddr r.got
  let c := c.updBrg fun b => { b with out := b.out.filter (·.id != r.id) }
  match r.kind with
  | .cfg =>
    let c := c.when (!c.flag BRG_CFGADDR_WRITE) fun c => c.wrN BRG_CFGDATA (bytesNat (r.got.take 4))
    (c.set BRG_STAT_LASTERR stOK).brgPump
  | .amo op arg =>
    let old := bytesNat near
    let res := natBytes r.size (amoResult op r.size old arg)
    let c := c.updBrg fun b => { b with sent := some (r.far, swapBytes sw g r.laddr res) }
    (c.brgUnlock.respond r.key false old).brgPump
  | _ => (c.respond r.key false (bytesNat near)).brgPump

/-- A completion other than Successful: the crossing rule sends the request again, up to 16 times (R374); otherwise it fails. -/
def Chip.cplFails (c : Chip) (r : BrgReq) : Chip :=
  let upd (f : BrgReq → BrgReq) (c : Chip) : Chip :=
    c.updBrg fun b => { b with out := b.out.map fun x => if x.id = r.id then f x else x }
  if c.flag (BRG_OW_CTL_XRETRY r.win) && r.crossed && r.kind != .cfg then
    if r.retries < 15 then upd (fun x => { x with crossed := false, retries := x.retries + 1, got := [] }) c
    else
      let c := c.updBrg fun b => { b with out := b.out.filter (·.id != r.id) }
      (((c.respond r.key true stTIMEOUT).satInc BRG_CNT_XFAIL).raise 645).brgPump
  else if r.kind = .cfg then
    ((c.updBrg fun b => { b with out := b.out.filter (·.id != r.id) }).set BRG_STAT_LASTERR stINTEGRITY).brgPump
  else
    let c := match r.kind with
      | .lr => c.brgUnlock
      | .amo _ _ => c.brgUnlock
      | _ => c
    (c.reqFails r).brgPump

/-- BRG_COMPLETION: a completion for outstanding request `id`: of a read, or of the flush read behind a non-posted write. -/
def Chip.brgCompletion (c : Chip) (id : Nat) (st : CplStatus) (data : List Byte) : Chip :=
  match c.brg.out.find? (fun r => r.id == id && !r.flushed) with
  | none => c
  | some r =>
    let upd (f : BrgReq → BrgReq) (c : Chip) : Chip :=
      c.updBrg fun b => { b with out := b.out.map fun x => if x.id = id then f x else x }
    if st ≠ .success then c.cplFails r
    else match r.kind with
      | .write _ => (upd (fun x => { x with flushed := true, waits := c.brg.hlogs }) c).brgSettle
      | _ =>
        let got := r.got ++ data
        if 1 < r.left then upd (fun x => { x with left := x.left - 1, got := got }) c
        else c.readEnds { r with got := got }

def execBrgCompletion (id : Nat) (st : CplStatus) (data : List Byte) (s : State) : Host.Outcome State Fault Refusal :=
  s.onZone fun c => c.brgCompletion id st data

/-! ### Flush reads, error messages and Header Log reads (R371) -/

/-- Issue a flush read on window `w`. -/
def Chip.brgFlush (c : Chip) (w : Nat) : Chip :=
  let ids := (c.brg.posted.filter (·.win == w)).map (·.id)
  if ids.isEmpty then c
  else c.updBrg fun b => { b with flushes := b.flushes ++ [{ win := w, upto := ids.foldl max 0, since := c.frc }] }

/-- The unconfirmed writes of window `w` that no flush read in flight covers. -/
def Chip.uncovered (c : Chip) (w : Nat) : List BrgReq :=
  c.brg.posted.filter fun p => p.win == w && !p.flushed && !c.brg.flushes.any fun f => f.win == w && decide (p.id ≤ f.upto)

/-- BRG_FLUSH_TRIGGER: 16 unconfirmed posted writes, or 2 µs since the window's last one. -/
def Chip.brgFlushTrigger (c : Chip) (w : Nat) : Chip :=
  let u := c.uncovered w
  c.when (decide (16 ≤ u.length) || (!u.isEmpty && c.due (look 0 c.brg.lastPosted w + 2000))) fun c => c.brgFlush w

def execBrgFlushTrigger (w : Fin 32) (s : State) : Host.Outcome State Fault Refusal := s.onZone fun c => c.brgFlushTrigger w.val

/-- BRG_ERROR_MESSAGE: in the root role a received error message starts a Header Log read. -/
def execBrgErrorMessage (_farId : BitVec 16) (s : State) : Host.Outcome State Fault Refusal :=
  s.onZone fun c => c.when c.brgRoot fun c => c.updBrg fun b => { b with next := b.next + 1, hlogs := b.hlogs ++ [b.next] }

/-- Whether a far address lies in a write's byte range. -/
def BrgReq.covers (r : BrgReq) (a : Nat) : Bool := decide (r.far ≤ a) && decide (a < r.far + r.size)

/-- Mark outstanding request `n` as failed: its completion answers an error. -/
def Chip.failOutstanding (c : Chip) (n : Nat) : Chip :=
  c.updBrg fun b => { b with out := b.out.map fun (x : BrgReq) => if x.id = n then { x with failed := true } else x }

/-- BRG_HEADER_LOG_DONE: the oldest Header Log read ends; it names the oldest unconfirmed write at its address, or none. -/
def Chip.brgHeaderLog (c : Chip) (addr : Nat) (ca : Bool) : Chip :=
  match c.brg.hlogs with
  | [] => c
  | h :: rest =>
    let drop (r : BrgReq) : BrgReq := { r with waits := r.waits.filter (· != h) }
    let c := c.updBrg fun b => { b with hlogs := rest }
    let fstat := if ca then 2 else 1
    let isWrite (r : BrgReq) : Bool := match r.kind with | .write _ => true | _ => false
    let c := match c.brg.posted.find? (·.covers addr), c.brg.out.find? (fun r => isWrite r && r.covers addr) with
      | some p, none => c.postedFails p fstat
      | none, some r => c.failOutstanding r.id
      | some p, some r =>
        if p.id < r.id then c.postedFails p fstat
        else c.failOutstanding r.id
      | none, none => c.elogAdd 0 5 31 0 0x7F 0x3F
    (c.updBrg fun b => { b with posted := b.posted.map drop, out := b.out.map drop }).brgSettle

def execBrgHeaderLogDone (addr : W64) (ca : Bool) (s : State) : Host.Outcome State Fault Refusal :=
  s.onZone fun c => c.brgHeaderLog addr.toNat ca

/-- The oldest flush read on window `w` ends: its writes are covered, or all fail with `fstat`. -/
def Chip.flushEnds (c : Chip) (w : Nat) (fstat : Option Nat) : Chip :=
  match c.brg.flushes.find? (·.win == w) with
  | none => c
  | some f =>
    let c := c.updBrg fun b => { b with flushes := b.flushes.erase f }
    let mine (p : BrgReq) : Bool := p.win == w && decide (p.id ≤ f.upto) && !p.flushed
    let c := match fstat with
      | none => c.updBrg fun b => { b with
          posted := b.posted.map fun p => if mine p then { p with flushed := true, waits := b.hlogs } else p }
      | some x => forEach (c.brg.posted.filter mine) (fun p c => c.postedFails p x) c
    c.brgSettle

/-- BRG_FLUSH_COMPLETE: a flush read's completion arrives; one with CRS is sent again by the port and ends nothing. -/
def execBrgFlushComplete (w : Fin 32) (st : CplStatus) (s : State) : Host.Outcome State Fault Refusal :=
  s.onZone fun c => match st with
    | .success => c.flushEnds w.val none
    | .ur => c.flushEnds w.val (some 1)
    | .ca => c.flushEnds w.val (some 2)
    | .crs => c

/-- BRG_COMPLETION_TIMEOUT: a flush read's completion has not arrived within CTO. -/
def Chip.brgTimeout (c : Chip) (w : Nat) : Chip :=
  match c.brg.flushes.find? (·.win == w) with
  | none => c
  | some f => c.when (c.due (f.since + c.get BRG_LIM_CTO * 1000)) fun c => c.flushEnds w (some 3)

def execBrgCompletionTimeout (w : Fin 32) (s : State) : Host.Outcome State Fault Refusal := s.onZone fun c => c.brgTimeout w.val

/-! ### Link (R362, R364, R379) -/

/-- Every outstanding request gets an error response, and every unconfirmed write fails as LINKDOWN. -/
def Chip.brgDrop (c : Chip) : Chip :=
  let c := forEach (c.brg.out ++ c.brg.queue) (fun r c => c.reqFails r) c
  let c := forEach c.brg.posted (fun p c => c.postedFails p 4) c
  let c := c.updBrg fun b => { b with flushes := [], hlogs := [], polls := b.polls.foldl (fun m e => put {} m e.1 { e.2 with out := false }) [] }
  (c.when c.brg.lock.isSome Chip.brgUnlock).fencesSettle

/-- BRG_LINK_DOWN. -/
def Chip.brgLinkDown (c : Chip) : Chip :=
  c.when (c.flag BRG_STAT_LINK) fun c =>
    (((c.setB BRG_STAT_LINK false).stick BRG_STAT_LINKCHG).brgDrop).raise 640

def execBrgLinkDown (s : State) : Host.Outcome State Fault Refusal := s.onZone Chip.brgLinkDown

/-- BRG_LINK_UP: link training succeeds. -/
def Chip.brgLinkUp (c : Chip) (width speed : Nat) : Chip :=
  c.when (!c.brgOff && c.flag BRG_CTL_EN && !c.flag BRG_STAT_LINK) fun c =>
    ((((c.setB BRG_STAT_LINK true).set BRG_STAT_WIDTH width).set BRG_STAT_SPEED speed).stick BRG_STAT_LINKCHG).raise 640

def execBrgLinkUp (width : Fin 3) (speed : Fin 4) (s : State) : Host.Outcome State Fault Refusal :=
  s.onZone fun c => c.brgLinkUp width.val speed.val

/-! ### Fence, log and locks (R372, R373, R375, R376) -/

/-- BRG_FENCE: flush reads on every window with unconfirmed writes of the initiator; the read returns when they are settled. -/
def Chip.brgFence (c : Chip) (w : Who) : Chip :=
  let mine := c.brg.posted.filter (·.key == w.key)
  if mine.isEmpty then c.fenceAnswer w.key
  else
    let c := forAll 32 (fun i c => c.when (mine.any (·.win == i)) fun c => c.brgFlush i) c
    (c.brgWaits w.key).updBrg fun b => { b with fences := put [] b.fences w.key (mine.map (·.id)) }

def execBrgFence (a : Agent) (s : State) : Host.Outcome State Fault Refusal := s.by a fun w c => c.brgFence w

/-- BRG_ELOGPOP: W1 removes the oldest entry. -/
def Chip.brgElogpop (c : Chip) (w : Who) : Chip :=
  c.when (w.world == 1) fun c => (c.updBrg fun b => { b with elog := b.elog.drop 1 }).showElog

def execBrgElogpop (a : Agent) (_v : W32) (s : State) : Host.Outcome State Fault Refusal := s.by a fun w c => c.brgElogpop w

/-- The far-bus lock ends by expiry or revocation: Unlock is sent, the reservation cleared, EV0646 raised. -/
def Chip.brgLockEnds (c : Chip) : Chip := c.when c.brg.lock.isSome fun c => ((c.brgUnlock).raise 646).brgPump

/-- BRG_LOCK_EXPIRY: the lease of the far-bus lock has run out. -/
def Chip.brgLockExpiry (c : Chip) : Chip :=
  match c.brg.lock with
  | some l => c.when (c.due l.expiry && !c.revoking { kind := 1, index := 0 }) Chip.brgLockEnds
  | none => c

def execBrgLockExpiry (s : State) : Host.Outcome State Fault Refusal := s.onZone Chip.brgLockExpiry

/-! ### Poll list (R377) -/

/-- A poll entry's own state. -/
def Chip.poll (c : Chip) (i : Nat) : BrgPoll := look {} c.brg.polls i

/-- Change a poll entry. -/
def Chip.updPoll (c : Chip) (i : Nat) (f : BrgPoll → BrgPoll) : Chip := c.updBrg fun b => { b with polls := upd {} b.polls i f }

/-- BRG_POLL_READ: a read is due; it is skipped while the previous one is outstanding, and suspended while the link is down or a
far-bus lock is held. -/
def Chip.brgPollRead (c : Chip) (i : Nat) : Chip :=
  c.when (c.flag (BRG_POLL_CTL_EN i) && c.flag BRG_STAT_LINK && c.brg.lock.isNone && c.dueAt (c.poll i).next) fun c =>
    c.updPoll i fun p => { p with next := some (c.frc + c.get (BRG_POLL_CTL_PERIOD i) * 1000), out := true }

def execBrgPollRead (i : Fin 16) (s : State) : Host.Outcome State Fault Refusal := s.onZone fun c => c.brgPollRead i.val

/-- BRG_POLL_COMPLETE: the read ends. -/
def Chip.brgPollComplete (c : Chip) (i : Nat) (ok : Bool) (v : Nat) : Chip :=
  c.when (c.poll i).out fun c =>
    let p := c.poll i
    let c := c.updPoll i fun p => { p with out := false }
    if !ok then (c.satInc (BRG_POLL_ERR_N i)).raise 650
    else
      let v := v % 2 ^ (8 * 2 ^ c.get (BRG_POLL_CTL_SIZE i))
      if !p.seen then (c.updPoll i fun p => { p with seen := true }).set (BRG_POLL_LAST_V i) v
      else if ((v ^^^ c.get (BRG_POLL_LAST_V i)) &&& c.get (BRG_POLL_MASK_M i)) = 0 then c
      else (((c.set (BRG_POLL_LAST_V i) v).set (BRG_POLL_ADDR_STAMP i) c.frc)).raise (656 + i)

def execBrgPollComplete (i : Fin 16) (ok : Bool) (v : W32) (s : State) : Host.Outcome State Fault Refusal :=
  s.onZone fun c => c.brgPollComplete i.val ok v.toNat

/-! ### Registers (R363, R367, R378) -/

/-- A refused write of a bridge register. -/
def Chip.brgRefuse (c : Chip) (st : Nat) : Chip := c.refuse BRG_STAT_LASTERR st 648

/-- A write of a poll entry's CTL by its claimant; EN starts polling. -/
def Chip.brgPollCtlWrite (c : Chip) (w : Who) (i v : Nat) : Chip :=
  c.when (c.claims w.world 14 i && !c.brgOff && bits v 27 26 != 3 && !(v % 65536 == 0 && bit v 31)) fun c =>
    let was := c.flag (BRG_POLL_CTL_EN i)
    let c := c.wrN (BRG_POLL_CTL i) ((bits v 31 31 <<< 31) + (bits v 27 26 <<< 26) + v % 65536)
    if bit v 31 && !was then c.updPoll i fun _ => { next := some (c.frc + v % 65536 * 1000) }
    else c.when (!bit v 31) fun c => c.updPoll i fun _ => {}

/-- BRG_CFG_REQUEST: in the root role W1 issues a configuration request. -/
def Chip.brgCfgRequest (c : Chip) (w : Who) (v : Nat) : Chip :=
  c.when (w.world == 1) fun c =>
    if !c.brgRoot || !c.flag BRG_STAT_LINK then c.brgRefuse stNOT_NOW
    else
      let a := c.rdN BRG_CFGADDR
      let r : BrgReq := { id := c.brg.next, kind := .cfg, win := 0, laddr := 0, size := 4, far := a, bytes := natBytes 4 v
                          key := w.key, mid := w.mid, vfBits := 0, world := w.world, left := 1 }
      let c := c.when (bit a 0) fun c => c.wrN BRG_CFGDATA v
      (c.updBrg fun b => { b with next := b.next + 1, queue := b.queue ++ [r] }).brgPump

def execBrgCfgRequest (a : Agent) (v : W32) (s : State) : Host.Outcome State Fault Refusal := s.by a fun w c => c.brgCfgRequest w v.toNat

/-- A write of BRG_CTL by W1. -/
def Chip.brgCtlWrite (c : Chip) (w : Who) (v : Nat) : Chip :=
  c.when (w.world == 1 && !c.brgOff) fun c =>
    let c := c.setB BRG_CTL_EN (bit v 0)
    let c := c.when (bit v 1) fun c => forAll 16 (fun i c => c.wrN (BRG_POLL_ERR i) 0) (c.wrN BRG_CNT 0)
    c.when (bit v 2 && c.brgRoot) fun c => c.updBrg fun b => { b with hotResets := b.hotResets + 1 }

def execBrgHotrst (a : Agent) (v : W32) (s : State) : Host.Outcome State Fault Refusal := s.by a fun w c => c.brgCtlWrite w v.toNat

def execBrgClrcnt (a : Agent) (v : W32) (s : State) : Host.Outcome State Fault Refusal := s.by a fun w c => c.brgCtlWrite w v.toNat

/-- Whether two ranges share an address. -/
def rangesMeet (a b x y : Nat) : Bool := decide (a ≤ y) && decide (x ≤ b)

/-- Which aperture an address range lies in wholly. -/
def inAperture (a b : Nat) : Bool :=
  (decide (0x200000000 ≤ a) && decide (b < 0x800000000)) || (decide (0xA00000000 ≤ a) && decide (b < 0xC00000000))

/-- The first and last local address of an inbound window. -/
def Chip.iwLocal (c : Chip) (j : Nat) : Nat × Nat :=
  (c.get (BRG_IW_LOCB_A j), c.get (BRG_IW_LOCB_A j) + (c.get (BRG_IW_FARL_A j) - c.get (BRG_IW_FARB_A j)))

/-- Whether an outbound window passes the checks of R367 with control word `v`. -/
def Chip.owOk (c : Chip) (w v : Nat) : Bool :=
  let a := c.get (BRG_OW_LOC_BASE w)
  let b := c.get (BRG_OW_LOC_LIM w)
  a % 65536 == 0 && b % 65536 == 65535 && decide (a ≤ b) && inAperture a b && bits v 30 29 != 3 && bits v 28 27 != 3 &&
    bits v 22 20 != 7 && !(bit v 24 && !c.brgRoot) &&
    (List.range 32).all fun i => i == w || !c.flag (BRG_OW_CTL_EN i) ||
      !rangesMeet a b (c.get (BRG_OW_LOC_BASE i)) (c.get (BRG_OW_LOC_LIM i))

/-- Whether an inbound window passes the checks of R367 with control word `v`; `sameRegion` says that its local range lies within
one region of the address map. -/
def Chip.iwOk (c : Chip) (w v : Nat) (sameRegion : Bool) : Bool :=
  let a := c.get (BRG_IW_FARB_A w)
  let b := c.get (BRG_IW_FARL_A w)
  let l := c.iwLocal w
  l.1 % 65536 == 0 && (l.2 + 1) % 65536 == 0 && decide (a ≤ b) && sameRegion && bits v 30 29 != 3 && bits v 28 27 != 3 &&
    decide (1 ≤ bits v 26 24 ∧ bits v 26 24 ≤ 4) &&
    (List.range 16).all fun i => i == w || !c.flag (BRG_IW_CTL_EN i) ||
      !rangesMeet a b (c.get (BRG_IW_FARB_A i)) (c.get (BRG_IW_FARL_A i))

/-- A write of an outbound window's CTL by its claimant (R365, R367, R540). -/
def Chip.brgOwCtlWrite (c : Chip) (w : Who) (i v : Nat) : Chip :=
  if c.brgOff then c
  else if !c.claims w.world 13 i then
    c.when (bit v 31) fun c => (c.conflict 13 i 0xFF w).brgRefuse stRES_CLAIMED
  else
    let x := (bits v 31 20 <<< 20) + v % 65536
    if c.flag (BRG_OW_CTL_EN i) then if bit v 31 then c.brgRefuse stBUSY else c.wrN (BRG_OW_CTL i) x
    else if bit v 31 && !c.owOk i v then c.brgRefuse stRANGE
    else if bits v 30 29 = 3 || bits v 28 27 = 3 || bits v 22 20 = 7 then c
    else c.wrN (BRG_OW_CTL i) x

/-- A write of another register of an outbound window. -/
def Chip.brgOwWrite (c : Chip) (w : Who) (i : Nat) (r : Reg) (v : Nat) : Chip :=
  c.when (c.claims w.world 13 i && !c.brgOff) fun c => if c.flag (BRG_OW_CTL_EN i) then c.brgRefuse stBUSY else c.wrN r v

/-- A write of another register of an inbound window. -/
def Chip.brgIwWrite (c : Chip) (w : Who) (i : Nat) (r : Reg) (v : Nat) : Chip :=
  c.when (w.world == 1 && !c.brgOff) fun c => if c.flag (BRG_IW_CTL_EN i) then c.brgRefuse stBUSY else c.wrN r v

/-! ### Reset (R381) -/

/-- The bridge at a reset: outstanding transactions are discarded; at warm reach the posted writes fail as LINKDOWN and the log,
the windows and the poll list are kept. -/
def Chip.brgReset (c : Chip) (wide : Bool) : Chip :=
  if wide then c.updBrg fun _ => {}
  else
    let c := forEach c.brg.posted (fun p c => c.postedFails p 4) c
    let c := c.updBrg fun b => { elog := b.elog, fails := b.fails
                                 polls := b.polls.foldl (fun m e => put {} m e.1 { e.2 with out := false }) [] }
    ((((c.setB BRG_STAT_LINK false).setB BRG_STAT_LOCKED false).set BRG_STAT_WIDTH 0).set BRG_STAT_SPEED 0).showElog

/-- A partition reset of an initiator: its responses are discarded and its fence count cleared; its lock is revoked as a lease. -/
def Chip.brgPartition (c : Chip) (mine : Nat → Bool) : Chip :=
  c.updBrg fun b => { b with
    out := b.out.filter fun r => !mine r.key, queue := b.queue.filter fun r => !mine r.key
    fails := b.fails.filter fun e => !mine e.1, fences := b.fences.filter fun e => !mine e.1 }

end Sys2Proof.Machine
end

