-- ==== Sys2Proof/Machine/BridgeFabric.lean ====
section
/-! DEFINITION. Requests of fabric masters to the bridge's apertures, behind the firewall: R28, R365, R375. -/

namespace Sys2Proof.Machine

/-- The fabric tag of a requester. -/
def Who.tag (w : Who) : Tag := { mid := w.mid, world := w.world, vf := w.vf }

/-- An error response to a request that the firewall denies. -/
def Chip.denied (c : Chip) (w : Who) : Chip := (c.respond w.key true 0).raise 496

/-- A request to an aperture: checked by the firewall, then taken by the bridge, which answers it now or later. -/
def Chip.toBridge (c : Chip) (w : Who) (kind : AccessKind) (k : BrgKind) (a n : Nat) (data : List Byte) : Chip :=
  if !c.fwPermits w.tag a n kind then c.denied w
  else c.when (regionOf a == .bridge && regionOf (a + n - 1) == .bridge) fun c => (c.brgWaits w.key).brgOutbound w k a n data

/-- BRG_OUTBOUND_REQUEST: a read or write of an aperture. -/
def Chip.brgRequest (c : Chip) (w : Who) (a n : Nat) (data : Option (List Byte)) : Chip :=
  match data with
  | none => c.toBridge w .read .read a n []
  | some bs => c.toBridge w .write (.write false) a bs.length bs

/-- A request whose place in the bridge's buffers has an uncorrectable error gets an error response and EV0649 (R379). -/
def Chip.brgRequestEcc (c : Chip) (w : Who) (a n : Nat) (kind : AccessKind) : Chip :=
  if !c.fwPermits w.tag a n kind then c.denied w
  else c.when (regionOf a == .bridge && regionOf (a + n - 1) == .bridge) fun c => (c.respond w.key true 0).raise 649

def execBrgOutboundRequest (a : Agent) (addr : BitVec 40) (size : Fin 65) (data : Option (List Byte)) (ecc : Bool) (s : State) :
    Host.Outcome State Fault Refusal :=
  s.by a fun w c =>
    if ecc then c.brgRequestEcc w addr.toNat size.val (if data.isSome then .write else .read)
    else c.brgRequest w addr.toNat size.val data

/-- The bytes of an atomic access. -/
def wideBytes (wide : Bool) : Nat := if wide then 8 else 4

def execBrgAmo (a : Agent) (op : AmoOp) (addr : BitVec 40) (wide : Bool) (arg : W64) (s : State) : Host.Outcome State Fault Refusal :=
  s.by a fun w c => c.toBridge w .amo (.amo op arg.toNat) addr.toNat (wideBytes wide) []

def execBrgLr (a : Agent) (addr : BitVec 40) (wide : Bool) (s : State) : Host.Outcome State Fault Refusal :=
  s.by a fun w c => c.toBridge w .read .lr addr.toNat (wideBytes wide) []

def execBrgSc (a : Agent) (addr : BitVec 40) (wide : Bool) (arg : W64) (s : State) : Host.Outcome State Fault Refusal :=
  s.by a fun w c => c.toBridge w .write (.sc arg.toNat) addr.toNat (wideBytes wide) (natBytes (wideBytes wide) arg.toNat)

/-- Whether a range of addresses lies within one region of the address map. -/
def sameRegion (a b : Nat) : Bool := regionOf a != .hole && regionOf a == regionOf b

/-- A write of an inbound window's CTL by W1 (R366, R367). -/
def Chip.brgIwCtlWrite (c : Chip) (w : Who) (j v : Nat) : Chip :=
  if c.brgOff || w.world ≠ 1 then c
  else
    let x := bits v 31 24 <<< 24
    let l := c.iwLocal j
    if c.flag (BRG_IW_CTL_EN j) then if bit v 31 then c.brgRefuse stBUSY else c.wrN (BRG_IW_CTL j) x
    else if bit v 31 && !c.iwOk j v (sameRegion l.1 l.2) then c.brgRefuse stRANGE
    else if bits v 30 29 = 3 || bits v 28 27 = 3 || bits v 26 24 < 1 || 4 < bits v 26 24 then c
    else c.wrN (BRG_IW_CTL j) x

def execBrgWindowEnable (a : Agent) (inbound : Bool) (w : Fin 32) (v : W32) (s : State) : Host.Outcome State Fault Refusal :=
  s.by a fun x c =>
    if inbound then c.when (decide (w.val < 16)) fun c => c.brgIwCtlWrite x w.val (setBit v.toNat 31 true)
    else c.brgOwCtlWrite x w.val (setBit v.toNat 31 true)

/-- The requests that have been crossed by an inbound request of far function `id` (R374). -/
def Chip.brgCross (c : Chip) (id : Nat) : Chip :=
  c.updBrg fun b => { b with out := b.out.map fun (r : BrgReq) =>
    if r.kind != .cfg && c.flag (BRG_OW_CTL_XRETRY r.win) && c.get (BRG_OW_CTL_FARID r.win) == id then { r with crossed := true } else r }

/-- Whether the far-bus lock holds back inbound requests of far function `id` (R376). -/
def Chip.brgHeld (c : Chip) (id : Nat) : Bool :=
  match c.brg.lock with
  | some l => c.get (BRG_OW_CTL_FARID l.win) == id
  | none => false

/-- The enabled inbound window that holds an access. -/
def Chip.inWindow (c : Chip) (a n : Nat) : Option Nat :=
  (List.range 16).find? fun j => c.flag (BRG_IW_CTL_EN j) && decide (c.get (BRG_IW_FARB_A j) ≤ a) && decide (a + n ≤ c.get (BRG_IW_FARL_A j) + 1)

end Sys2Proof.Machine
end

