-- ==== Sys2Proof/Config.lean ====
section
/-! DEFINITION. What an implementation fixes and the spec leaves open: constants without a body, so that nothing can be
proved of their values. Each stands for one open value; a numbered draw gives a fresh one each time. -/

namespace Sys2Proof.Config

/-- The period a tracker shows when an interval exceeds its 32.16 format (R58 states no result there), by draw. -/
opaque periodOverflow : Nat → BitVec 48

/-- A value the spec leaves open at a place that the assumption log names, by draw. -/
opaque openValue : Nat → BitVec 128

/-- The elapsed time of a logic-engine timer that does not run (R159 defines it while RUNNING only), by stamp, preset and
output. -/
opaque elapsedStopped : Nat → Nat → Bool → BitVec 64

/-- Bit `j` of the initial value of a range of M longer than its 128-bit constant (R170 gives none). -/
opaque initBit : BitVec 128 → Nat → Bool

/-- A logic-engine instance as the memory port shows it (R176 gives no layout), by kind and by its parts. -/
opaque instanceUnit : Nat → List Nat → BitVec 128

/-- Part `i` of an instance of a kind as a port write sets it (R176 gives no layout). -/
opaque instancePart : Nat → Nat → BitVec 128 → BitVec 64

/-- What an IP header of the dictionary engine carries where R392 gives no value, by draw: identification, TTL, type of service,
flow label. -/
opaque ipOpen : Nat → BitVec 64

/-- The body of a VF's state record (R356 lists its contents without a layout), from its parts. -/
opaque recordBody : List (List Nat) → List (BitVec 8)

/-- The parts that the body of a state record holds. -/
opaque recordParts : List (BitVec 8) → List (List Nat)

/-- The length of the state record at the head of some bytes. -/
opaque recordLength : List (BitVec 8) → Nat

/-- The body of a Hatbox record (R489 lists its contents without a layout), from its type and its values. -/
opaque hbxBody : Nat → List Nat → List (BitVec 8)

/-- Argument `i` of a Seam command (R494 gives no layout), by its code and its argument bytes. -/
opaque seamArg : Nat → List (BitVec 8) → Nat → Nat

/-- The firmware bytes that a FW_SEGMENT command carries. -/
opaque seamData : List (BitVec 8) → List (BitVec 8)

/-- Whether a Hatbox image completes its restart (R497), by its SHA-512. -/
opaque imageBoots : Nat → Bool

/-- The source address of a frame that the SEAM block forwards (R493 names its destination only). -/
opaque seamSource : BitVec 48

/-! ### Cryptography

The spec names these algorithms by their standards and gives no result of them: SHA-512, HMAC-SHA-512, AES-256-CMAC,
AES-GCM, AES-KWP, RSASSA-PSS and the random bit generator. -/

/-- SHA-512 of bytes. -/
opaque sha512 : List (BitVec 8) → BitVec 512

/-- HMAC-SHA-512 under a key. -/
opaque hmacSha512 : List (BitVec 8) → List (BitVec 8) → BitVec 512

/-- AES-256-CMAC under a key. -/
opaque cmac : List (BitVec 8) → List (BitVec 8) → BitVec 128

/-- Byte `i` of the AES-GCM key stream of a key and an IV. -/
opaque gcmStream : List (BitVec 8) → List (BitVec 8) → Nat → BitVec 8

/-- The AES-GCM tag of a key, an IV, associated data and ciphertext. -/
opaque gcmTag : List (BitVec 8) → List (BitVec 8) → List (BitVec 8) → List (BitVec 8) → BitVec 128

/-- AES Key Wrap with Padding opened under a key; none where its integrity check fails. -/
opaque kwpOpen : List (BitVec 8) → List (BitVec 8) → Option (BitVec 352)

/-- An RSASSA-PSS signature with a private key over a digest, with the salt of a draw. -/
opaque rsaSign : List (BitVec 8) → BitVec 512 → Nat → BitVec 4096

/-- Whether an RSASSA-PSS signature over a digest verifies under a modulus. -/
opaque rsaVerify : List (BitVec 8) → BitVec 512 → List (BitVec 8) → Bool

/-- Byte `i` of the random bit generator's output at a draw. -/
opaque random : Nat → Nat → BitVec 8

/-- The modulus that belongs to a private key. -/
opaque rsaModulus : List (BitVec 8) → BitVec 4096

/-- The serial number fused at manufacture (R409). -/
opaque serial : BitVec 128

end Sys2Proof.Config
end

