-- ==== Sys2Proof/Machine/SeamCore.lean ====
section
/-! DEFINITION. The frames that the SEAM block puts into the switch at port I3 (R493). -/

namespace Sys2Proof.Machine

/-- Replace the SEAM block's own state. -/
def Chip.updSeam (c : Chip) (f : SeamBlk → SeamBlk) : Chip := { c with seam := f c.seam }

/-- Forward Seam traffic of a kind into I3 where its bit of SEAM_CTL.FWD is set: EtherType 0x88B6 to SEAM_FWDDA. -/
def Chip.seamForward (c : Chip) (b kind : Nat) (payload : List Byte) : Chip :=
  c.when (bit (c.get SEAM_CTL_FWD) b) fun c =>
    let vid := c.get SEAM_FWDDA_VID
    let tag := if vid = 0 then [] else beBytesOf 2 0x8100 ++ beBytesOf 2 (c.get SEAM_FWDDA_PCP * 8192 + vid)
    let bs := beBytesOf 6 (c.get SEAM_FWDDA_DA) ++ beBytesOf 6 Config.seamSource.toNat ++ tag ++ beBytesOf 2 0x88B6 ++
      [BitVec.ofNat 8 kind, 0, 0, 0] ++ payload
    c.updSeam fun x => { x with frames := x.frames ++ [bs ++ List.replicate (60 - bs.length) 0] }

/-- Count a stray frame or response. -/
def Chip.seamStray (c : Chip) : Chip := c.satInc SEAM_CNT_STRAY

end Sys2Proof.Machine
end

