-- ==== Sys2Proof/Machine/Bases.lean ====
section
/-! DEFINITION. Position trackers PB1–PB15: R55–R70. -/

namespace Sys2Proof.Machine

/-- The position of tooth `k` of cycle `cyc` (R56). -/
def toothPos (n : Nat) (cyc : Int) (k : Nat) : Nat := ((cyc * 2 ^ 32 + ((k * 2 ^ 32 / n : Nat) : Int)) % 2 ^ 64).toNat

/-- A tooth `j` pitches on from tooth `k` of cycle `cyc` in the direction of travel: cycle and index (R56, R62). -/
def toothStep (n : Nat) (rev : Bool) (cyc : Int) (k j : Nat) : Int × Nat :=
  let x : Int := if rev then (k : Int) - (j : Int) else (k : Int) + (j : Int)
  (cyc + x / (n : Int), (x % (n : Int)).toNat)

/-- The cycle of a position, as a signed count. -/
def cycleOf (p : Nat) : Int := signed 32 (p / 2 ^ 32)

/-- The tooth of the last edge: the last tooth before the gap in the direction of travel is passed next over the gap. -/
def Chip.atGap (c : Chip) (n : Nat) : Bool :=
  decide (0 < c.pbGap n) &&
    (if c.pbRev n then c.get (PB_EDGE_TOOTH n) == 0 else c.get (PB_EDGE_TOOTH n) + c.pbGap n + 1 == c.pbN n)

/-- The position that the clamp of R60 limits to: the next expected edge plus EXT pitches. -/
def Chip.clampPos (c : Chip) (n : Nat) : Nat :=
  let synced := c.get (PB_STAT_STATE n) == 3 || c.get (PB_STAT_STATE n) == 4
  let j := (if synced && c.atGap n then c.pbGap n + 1 else 1) + c.get (PB_CFG_EXT n)
  let r := toothStep (c.pbN n) (c.pbRev n) (cycleOf (c.tracker n).pe) (c.get (PB_EDGE_TOOTH n)) j
  toothPos (c.pbN n) r.1 r.2

/-- Whether position `a` lies beyond `b` in the direction of travel. -/
def beyond (rev : Bool) (a b : Nat) : Bool :=
  if rev then decide (s64 ((a : Int) - (b : Int)) < 0) else decide (0 < s64 ((a : Int) - (b : Int)))

/-- Whether the clamp is active at tick `t` (R60). -/
def Chip.clamped (c : Chip) (n t : Nat) : Bool := c.pbRuns n && beyond (c.pbRev n) (c.estAt n t) (c.clampPos n)

/-- The position that base `n` reports at tick `t`: the line, limited by the clamp (R60), and held where a hold is active
(R61). -/
def Chip.reportedAt (c : Chip) (n t : Nat) : Nat :=
  if n = 0 then c.pb0At t
  else
    let p := if c.clamped n t then c.clampPos n else c.estAt n t
    match (c.tracker n).heldPos with
    | some h => if beyond (c.pbRev n) p h then p else h
    | none => p

/-- A refusal of base `n`: LASTERR and EV0112 + n (R55, R70). -/
def Chip.pbRefuse (c : Chip) (n st : Nat) : Chip := c.refuse (PB_STAT_LASTERR n) st (112 + n)

/-- Clear the estimate (R58). -/
def Chip.pbClearEstimate (c : Chip) (n : Nat) : Chip :=
  (c.set (PB_PER_P n) 0xFFFFFFFFFFFF).updTracker n fun t => { t with ring := [] }

/-- Change the state: EV0096 + n on every change (R57); the generation on changes among UNSYNC, SYNCCHK and SYNC and on entry
to STALLED (R66); armed occurrences back to WAITING when SYNC is left (R96). -/
def Chip.pbState (c : Chip) (n st : Nat) : Chip :=
  let old := c.get (PB_STAT_STATE n)
  if st = old then c
  else
    let c := (c.set (PB_STAT_STATE n) st).raise (96 + n)
    let tracking := fun x : Nat => x == 2 || x == 3 || x == 4
    let c := c.when ((tracking old && tracking st) || st == 5) fun c => c.genAdvance n
    c.when (old == 4) fun c => c.returnToWaiting n

/-- Whether base `n` holds PX input `p` (R55). -/
def Chip.pbHoldsPx (c : Chip) (n p : Nat) : Bool :=
  c.flag (PB_CTL_EN n) && c.get (PB_CFG_SRC n) == 1 &&
    (c.get (PB_CFG_PXSEL n) == p || (c.get (PB_CFG_DIRSRC n) == 1 && c.get (PB_CFG_DIRPX n) == p))

/-- The PX inputs that base `n` would hold, edge input first (R55). -/
def Chip.pbNeeds (c : Chip) (n : Nat) : List Nat :=
  if c.get (PB_CFG_SRC n) == 1 then
    c.get (PB_CFG_PXSEL n) :: (if c.get (PB_CFG_DIRSRC n) == 1 then [c.get (PB_CFG_DIRPX n)] else [])
  else []

/-- Why base `n` cannot hold PX input `p`: 0xFF for the claim, otherwise the unit of the holder (R541). -/
def Chip.pxConflict (c : Chip) (w n p : Nat) : Option Nat :=
  if !c.claims w 1 p then some 0xFF
  else if (List.range 16).any (fun m => m != n && c.pbHoldsPx m p) then some 10 else none

/-- Steps 1 and 2 of an enable's checks (R55, R56, R64): the status of the first that fails. -/
def Chip.pbCfgCheck (c : Chip) (n : Nat) : Nat :=
  let src := c.get (PB_CFG_SRC n)
  if src = 0 || decide (2 < src) then stRANGE
  else if src = 1 && c.get (PB_CFG_EDGE n) == 0 then stRANGE
  else if decide (0 < c.pbGap n) && decide (c.pbN n < c.pbGap n + 2) then stRANGE
  else if src = 2 && (c.pbN n != 1 || c.pbGap n != 0) then stRANGE
  else stOK

/-- Enable base `n` for world `w` (R55, R57, R69): WAIT, counters and estimate cleared. -/
def Chip.pbEnableOp (c : Chip) (w : Who) (n : Nat) : Chip :=
  if c.pbCfgCheck n ≠ stOK then c.pbRefuse n (c.pbCfgCheck n)
  else match (c.pbNeeds n).findSome? (fun p => (c.pxConflict w.world n p).map (fun h => (p, h))) with
    | some (p, h) => (c.conflict 1 p h w).pbRefuse n stRES_CLAIMED
    | none =>
      let c := (c.setB (PB_CTL_EN n) true).wrN (PB_CNT n) 0
      let c := (c.pbClearEstimate n).updTracker n fun t =>
        { t with heldPos := none, missedSinceRef := 0, edges := [] }
      (c.setB (PB_STAT_HELD n) false).pbState n 1

/-- Disable base `n`: OFF, the position frozen at its last value (R57). -/
def Chip.pbDisableOp (c : Chip) (n : Nat) : Chip :=
  let p := c.reportedAt n c.time.frc
  let c := (c.setB (PB_CTL_EN n) false).updTracker n fun t => { t with pe := p, heldPos := none, edges := [] }
  ((c.setB (PB_STAT_HELD n) false).pbClearEstimate n).pbState n 0

/-- RESYNC: UNSYNC from SYNCCHK or SYNC, not counted as a loss (R57, R59). -/
def Chip.pbResyncOp (c : Chip) (n : Nat) : Chip :=
  c.when (c.get (PB_STAT_STATE n) == 3 || c.get (PB_STAT_STATE n) == 4) fun c => c.pbState n 2

/-- A write of PBn_CTL by the requester: REV, the enable or disable, and RESYNC. PB0's is ignored (R65); another world's is
refused (R70). -/
def Chip.pbCtlWrite (c : Chip) (w : Who) (n v : Nat) : Chip :=
  if n = 0 then c
  else if !c.claims w.world 6 n then c.pbRefuse n stDENIED_WORLD
  else
    let c := c.set (PB_CTL_REV n) ((PB_CTL_REV n).of v)
    let on := c.flag (PB_CTL_EN n)
    let c := if bit v 0 && !on then c.pbEnableOp w n else if !bit v 0 && on then c.pbDisableOp n else c
    c.when (bit v 2) fun c => c.pbResyncOp n

/-- PB_ENABLE: a write of PBn_CTL with EN = 1. -/
def execPbEnable (a : Agent) (n : Fin 16) (v : W32) (s : State) : Host.Outcome State Fault Refusal :=
  s.by a fun w c => c.pbCtlWrite w n.val (setBit v.toNat 0 true)

/-- PB_DISABLE: a write of PBn_CTL with EN = 0. -/
def execPbDisable (a : Agent) (n : Fin 16) (v : W32) (s : State) : Host.Outcome State Fault Refusal :=
  s.by a fun w c => c.pbCtlWrite w n.val (setBit v.toNat 0 false)

/-- RESYNC: a write of PBn_CTL with RESYNC = 1. -/
def execPbResync (a : Agent) (n : Fin 16) (v : W32) (s : State) : Host.Outcome State Fault Refusal :=
  s.by a fun w c => c.pbCtlWrite w n.val (setBit v.toNat 2 true)

/-- PB_SET_WRITE: set the cycle count, leave the fraction, advance the generation (R65–R67). -/
def Chip.pbSetWrite (c : Chip) (w : Who) (n v : Nat) : Chip :=
  if n = 0 then c
  else if !c.claims w.world 6 n then c.pbRefuse n stDENIED_WORLD
  else
    let shift : Int := (((bits v 63 32 : Nat) : Int) - ((c.reportedAt n c.time.frc / 2 ^ 32 : Nat) : Int)) * 2 ^ 32
    let move := fun p : Nat => (((p : Int) + shift) % 2 ^ 64).toNat
    (c.updTracker n fun t =>
      { t with pe := move t.pe, heldPos := t.heldPos.map move, setAt := some c.time.frc }).genAdvance n

def execPbSetWrite (a : Agent) (n : Fin 16) (v : W128) (s : State) : Host.Outcome State Fault Refusal :=
  s.by a fun w c => c.pbSetWrite w n.val v.toNat

/-! ### Edges (R57–R64) -/

/-- The weight of the interval `i` places back of `m` (R58). -/
def estWeight (kind m i : Nat) : Nat := if kind = 1 then m - i else if kind = 2 then 2 ^ (15 - i) else 1

/-- The weighted mean of the normalised intervals, in ns with 16 fractional bits, truncated (R58). -/
def estimate (kind m : Nat) (ring : List (Nat × Nat)) : Nat :=
  let r := ring.zipIdx.foldl (fun (a : Nat × Nat) e =>
    let w := estWeight kind m e.2
    (a.1 + w * e.1.1 * 2 ^ 48 / e.1.2, a.2 + w)) (0, 0)
  r.1 / r.2 / 2 ^ 32

/-- Enter interval `dt` spanning `s` pitches into the estimate (R58). -/
def Chip.pbEnter (c : Chip) (n dt s : Nat) : Chip :=
  let m := c.get (PB_EST_MLEN n) + 1
  let ring := ((dt, s) :: (c.tracker n).ring).take m
  let p := estimate (c.get (PB_EST_WGT n)) m ring
  let c := c.updTracker n fun t => { t with ring := ring }
  if p < 0xFFFFFFFFFFFF then c.set (PB_PER_P n) p
  else c.drawn.set (PB_PER_P n) (Config.periodOverflow c.freeCtr).toNat

/-- Place the last edge on a tooth at tick `t`. -/
def Chip.pbPlace (c : Chip) (n t : Nat) (cyc : Int) (k : Nat) : Chip :=
  ((c.set (PB_EDGE_FRC n) t).set (PB_EDGE_TOOTH n) k).updTracker n fun x =>
    { x with pe := toothPos (c.pbN n) cyc k }

/-- The first edge after WAIT or STALLED (R57). -/
def Chip.pbFirstEdge (c : Chip) (n t : Nat) (rev : Bool) : Chip :=
  let f := (c.tracker n).pe
  let nn := c.pbN n
  let cyc := cycleOf f
  let frac := f % 2 ^ 32
  let wait := c.get (PB_STAT_STATE n) == 1
  let kx : Int :=
    if wait && c.pbGap n == 0 then (if rev then 0 else if frac = 0 then 0 else (nn : Int))
    else if rev then ((((frac + 1) * nn - 1) / 2 ^ 32 : Nat) : Int)
    else (((frac * nn + 2 ^ 32 - 1) / 2 ^ 32 : Nat) : Int)
  let c := (c.setB (PB_STAT_DIR n) rev).pbClearEstimate n
  let c := c.pbPlace n t (cyc + kx / (nn : Int)) (kx % (nn : Int)).toNat
  let c := c.updTracker n fun x => { x with missedSinceRef := 0, heldPos := none }
  ((c.setB (PB_STAT_HELD n) false).pbState n (if c.pbGap n == 0 then 4 else 2)).genAdvance n

/-- How an interval is classified (R59): the new state, the pitches it spans, the pitches the tooth index moves, the missed
teeth counted, whether it goes to the reference tooth of a found gap, and whether sync is lost. -/
structure EdgeClass where
  st : Nat
  s : Nat
  step : Nat
  missed : Nat := 0
  toRef : Bool := false
  lost : Bool := false
  deriving DecidableEq, Repr

/-- Classify interval `dt` against the estimate held before it (R59). -/
def Chip.pbClassify (c : Chip) (n dt : Nat) : EdgeClass :=
  let st := c.get (PB_STAT_STATE n)
  let gap := c.pbGap n
  let p := c.get (PB_PER_P n)
  let keep := if st = 2 && gap = 0 then 4 else st
  let scaled := dt * 2 ^ 20
  if !c.pbHasP n || c.get (PB_CFG_SRC n) == 2 then { st := keep, s := 1, step := 1 }
  else if (st == 3 || st == 4) && c.atGap n then
    if c.get (PB_EST_GAPR n) * p ≤ scaled then { st := 4, s := gap + 1, step := gap + 1 }
    else { st := 2, s := 1, step := 1, lost := true }
  else if c.get (PB_EST_MISSR n) * p ≤ scaled then
    if st = 2 && decide (0 < gap) then { st := 3, s := gap + 1, step := gap + 1, toRef := true }
    else
      let m := if p = 0 then 0 else (2 * dt * 2 ^ 16 + p) / (2 * p) - 1
      let k := c.get (PB_EDGE_TOOTH n)
      let passes := decide (0 < m) && st != 2 &&
        (if c.pbRev n then decide (k + gap ≤ m) else decide (c.pbN n ≤ k + m + 1))
      let exceeded := decide (c.get (PB_EST_MAXMISS n) < (c.tracker n).missedSinceRef + m) && st != 2
      if passes then { st := 2, s := m + 1, step := m + 1, lost := true }
      else if exceeded then { st := 2, s := m + 1, step := m + 1, missed := m, lost := true }
      else { st := keep, s := m + 1, step := m + 1, missed := m }
  else { st := keep, s := 1, step := 1 }

/-- The tooth on which a classified edge is placed (R57, R59). -/
def Chip.pbTooth (c : Chip) (n : Nat) (k : EdgeClass) : Int × Nat :=
  let r := toothStep (c.pbN n) (c.pbRev n) (cycleOf (c.tracker n).pe) (c.get (PB_EDGE_TOOTH n)) k.step
  if k.toRef then
    let counted : Int := r.1 * 2 ^ 32 + ((r.2 * 2 ^ 32 / c.pbN n : Nat) : Int)
    let ref := if c.pbRev n then c.pbN n - c.pbGap n - 1 else 0
    let d := counted - ((ref * 2 ^ 32 / c.pbN n : Nat) : Int)
    (if c.pbRev n then -((2 ^ 31 - d) / 2 ^ 32) else (d + 2 ^ 31) / 2 ^ 32, ref)
  else r

/-- An ordinary edge of a running tracker in its direction (R58–R61, R64, R66, R67). The first estimate has no old one to be compared
with, and advances no generation (DEDUCED, log entry 12). -/
def Chip.pbNextEdge (c : Chip) (n : Nat) (e : EdgeIn) : Chip :=
  let t := e.stamp
  let dt := t - c.pbTe n
  let k := c.pbClassify n dt
  let before := c.reportedAt n t
  let h := t + c.get (PB_HZN_HZN n) * 1000
  let had := c.pbHasP n
  let oldProj := c.estAt n h
  let sameClock := (c.tracker n).setAt == some c.time.frc
  let tooth := c.pbTooth n k
  let wraps := k.toRef || tooth.1 != cycleOf (c.tracker n).pe
  let past := if c.pbRev n then c.pbN n - 1 - tooth.2 else tooth.2
  let c := c.pbEnter n dt k.s
  let c := c.pbPlace n t tooth.1 tooth.2
  let c := c.updTracker n fun x =>
    { x with
      pe := if sameClock then before else match e.metres with
        | some m => (m % 2 ^ 32) * 2 ^ 32
        | none => x.pe
      missedSinceRef := if wraps then min k.missed past else x.missedSinceRef + k.missed }
  let c := c.when (decide (0 < k.missed)) fun c => (c.satAdd (PB_CNT_MISSED n) k.missed).raise (112 + n)
  let c := c.when k.lost fun c => c.satInc (PB_CNT_SYNCLOSS n)
  let c := c.pbState n k.st
  let behind := beyond (c.pbRev n) before (c.tracker n).pe
  let c := (c.setB (PB_STAT_HELD n) behind).updTracker n fun x =>
    { x with heldPos := if behind then some before else none }
  c.when (had && decide ((c.get (PB_TOL_TOL n) : Int) < ((s64 ((c.estAt n h : Int) - (oldProj : Int))).natAbs : Int)))
    fun c => c.genAdvance n

/-- The first edge in a new direction: placed on the tooth of the edge before, the estimate cleared (R62, R66, R96). -/
def Chip.pbTurn (c : Chip) (n t : Nat) (rev : Bool) : Chip :=
  let c := (c.setB (PB_STAT_DIR n) rev).pbClearEstimate n
  let c := (c.set (PB_EDGE_FRC n) t).updTracker n fun x => { x with heldPos := none, missedSinceRef := 0 }
  ((c.setB (PB_STAT_HELD n) false).genAdvance n).returnToWaiting n

/-- The direction that an edge shows (R62); a mirror base is always forward (R64). -/
def Chip.edgeDir (c : Chip) (n : Nat) (e : EdgeIn) : Bool :=
  if c.get (PB_CFG_SRC n) == 2 then false
  else match c.get (PB_CFG_DIRSRC n) with
    | 1 => e.dirHigh
    | 2 => c.flag (PB_CTL_REV n)
    | _ => false

/-- An accepted edge at tracker `n` (R57–R62), then the check of its fired occurrences (R98). -/
def Chip.pbTakeEdge (c : Chip) (n : Nat) (e : EdgeIn) : Chip :=
  let st := c.get (PB_STAT_STATE n)
  if st = 0 then c
  else
    let g := c.get (PB_STAT_GEN n)
    let rev := c.edgeDir n e
    let c := if st = 1 || st = 5 then
        let c := c.pbFirstEdge n e.stamp rev
        match e.metres with
        | some m => c.updTracker n fun x => { x with pe := (m % 2 ^ 32) * 2 ^ 32 }
        | none => c
      else if rev != c.pbRev n then c.pbTurn n e.stamp rev
      else c.pbNextEdge n e
    c.verifyBase n (c.get (PB_STAT_GEN n) != g)

/-- PB_EDGE: the edge that waits longest at tracker `n` is taken; with none waiting nothing happens. -/
def Chip.pbEdge (c : Chip) (n : Nat) : Chip :=
  match (c.tracker n).edges with
  | [] => c
  | e :: es => (c.updTracker n fun t => { t with edges := es }).pbTakeEdge n e

def execPbEdge (n : Fin 16) (s : State) : Host.Outcome State Fault Refusal := s.onZone fun c => c.pbEdge n.val

/-- MIRROR_RECORD: each enabled mirror base takes a per-metre record as an edge (R64). -/
def Chip.mirrorRecord (c : Chip) (metres : Nat) : Chip :=
  c.when c.variantH fun c =>
    forAll 16 (fun n c => c.when (c.flag (PB_CTL_EN n) && c.get (PB_CFG_SRC n) == 2) fun c =>
      c.pbTakeEdge n { stamp := c.time.frc, metres := some metres }) (c.seamForward 2 3 (leBytesOf 8 metres))

def execMirrorRecord (metres : Nat) (s : State) : Host.Outcome State Fault Refusal :=
  s.onZone fun c => c.mirrorRecord metres

/-- PB_STALL_TIMEOUT: no edge for PBn_STALL µs (R63). -/
def Chip.pbStallTimeout (c : Chip) (n : Nat) : Chip :=
  let st := c.get (PB_STAT_STATE n)
  c.when ((st == 2 || st == 3 || st == 4) && c.get (PB_STALL_US n) != 0 &&
      c.due (c.pbTe n + c.get (PB_STALL_US n) * 1000)) fun c =>
    let p := c.reportedAt n c.time.frc
    let c := (c.pbClearEstimate n).updTracker n fun t => { t with pe := p, heldPos := none }
    ((c.setB (PB_STAT_HELD n) false).pbState n 5).raise (112 + n)

def execPbStallTimeout (n : Fin 16) (s : State) : Host.Outcome State Fault Refusal :=
  s.onZone fun c => c.pbStallTimeout n.val

/-- HOLD_RELEASE: the line extrapolated from the newest edge has reached the held position (R61). -/
def Chip.holdRelease (c : Chip) (n : Nat) : Chip :=
  match (c.tracker n).heldPos with
  | none => c
  | some h => c.when (!beyond (c.pbRev n) h (c.estAt n c.time.frc)) fun c =>
      (c.setB (PB_STAT_HELD n) false).updTracker n fun t => { t with heldPos := none }

def execHoldRelease (n : Fin 16) (s : State) : Host.Outcome State Fault Refusal :=
  s.onZone fun c => c.holdRelease n.val

end Sys2Proof.Machine
end

