-- ==== Sys2Proof/Machine/NmwCore.lean ====
section
/-! DEFINITION. Segments, wake holds and the sleep state, as the inputs and the network controllers share them: R280–R287. -/

namespace Sys2Proof.Machine

/-- Replace the block's own state. -/
def Chip.updNmw (c : Chip) (f : NmwBlk → NmwBlk) : Chip := { c with nmw := f c.nmw }

/-! ### Segments (R280, R281) -/

/-- Whether segment `s` is awake. -/
def Chip.segAwake (c : Chip) (s : Nat) : Bool := bit (c.get NMW_SEGSTAT_AWAKE) s

/-- Whether segment `s` is isolated by its ISO bit. -/
def Chip.segIso (c : Chip) (s : Nat) : Bool := bit (c.get NMW_SEGISO_ISO) s

/-- Show segment `s` awake or asleep; a change raises EV0430. -/
def Chip.segShow (c : Chip) (s : Nat) (awake : Bool) : Chip :=
  if c.segAwake s = awake then c
  else (c.set NMW_SEGSTAT_AWAKE (setBit (c.get NMW_SEGSTAT_AWAKE) s awake)).raise 430

/-- The counter index of a wake source's code: 0–24, and 32 + s for the bus wake of segment `s` (R282). -/
def busWakeCode (s : Nat) : Nat := 32 + s

/-- Count a suppressed wake or a discarded trigger of segment `s`. -/
def Chip.segSupp (c : Chip) (s : Nat) : Chip := c.satInc (NMW_SRC_CNT_SUPP (busWakeCode s))

/-! ### Sleep state (R283) -/

def slAWAKE : Nat := 0
def slREADY : Nat := 1
def slPREPARE : Nat := 2
def slENTRY : Nat := 3

/-- The sleep state. -/
def Chip.slState (c : Chip) : Nat := c.get NMW_SLP_STAT_STATE

/-- Enter a sleep state; each change raises EV0426, and the timers of READY and PREPARE start at entry. -/
def Chip.slEnter (c : Chip) (st : Nat) : Chip :=
  if c.slState = st then c
  else
    let c := c.updNmw fun b => { b with
      readyAt := if st = slREADY then c.frc else b.readyAt
      prepAt := if st = slPREPARE then c.frc else b.prepAt
      guard := if st = slENTRY then b.guard else false }
    (c.set NMW_SLP_STAT_STATE st).raise 426

/-- Whether LSW `n` holds the module awake. -/
def Chip.lswHolds (c : Chip) (n : Nat) : Bool := c.flag (NMW_LSW_CFG_HOLD n) && bit (c.get NMW_LSWSTAT_ST) n

/-- Show the holds, and move the sleep state as they return or are all released (R283). -/
def Chip.slHolds (c : Chip) : Chip :=
  let lsw := (List.range 8).any c.lswHolds
  let vote := c.get NMW_VOTE_VOTES != 0
  let wk := c.nmw.hold.isSome
  let c := ((c.setB NMW_SLP_STAT_HOLDLSW lsw).setB NMW_SLP_STAT_HOLDVOTE vote).setB NMW_SLP_STAT_HOLDWK wk
  let held := lsw || vote || wk || !c.flag NMW_SLP_CTL_EN
  let st := c.slState
  if held then c.when (st == slREADY || (st == slPREPARE && !c.nmw.guard)) fun c => c.slEnter slAWAKE
  else c.when (st == slAWAKE) fun c => c.slEnter slREADY

/-! ### Wake holds (R286) -/

/-- Start a wake hold of VALWIN ms for a source. -/
def Chip.holdStart (c : Chip) (src : Option Nat) : Chip :=
  (c.updNmw fun b => { b with
    hold := some (c.frc + c.get NMW_VALWIN_VALWIN * 1000000), holdSrc := src, validated := false }).slHolds

/-- A wake of source `code`: its record and counter, and its hold. -/
def Chip.wakeRecord (c : Chip) (code : Nat) (late abort : Bool) : Chip :=
  let c := c.wrN NMW_WAKESRC ((b2n abort <<< 73) + (b2n late <<< 72) + (code <<< 64) + c.frc % 2 ^ 64)
  (c.satInc (NMW_SRC_CNT_WAKES code)).holdStart (some code)

/-- Validate the running wake hold. -/
def Chip.holdValidate (c : Chip) : Chip :=
  match c.nmw.hold with
  | none => c
  | some _ =>
    let c := (c.updNmw fun b => { b with validated := true }).setB NMW_WAKESRC_VALIDATED true
    match c.nmw.holdSrc with
    | some code => c.set (NMW_SRC_CNT_CONSEC code) 0
    | none => c

/-- A valid frame arrived on segment `s`: it validates a bus wake of its own segment, and a wake of any other source (R286). -/
def Chip.segFrame (c : Chip) (s : Nat) : Chip :=
  c.when (c.segAwake s && c.nmw.hold.isSome && !c.nmw.validated) fun c =>
    match c.nmw.holdSrc with
    | some code => if 32 ≤ code && code ≠ busWakeCode s then c else c.holdValidate
    | none => c.holdValidate

/-- A wake source fires while the module is not in SLEEP or DEEP: it starts a hold, aborts the sleep, or is latched in the guard
window (R282, R285). -/
def Chip.wakeAwake (c : Chip) (code : Nat) : Chip :=
  let st := c.slState
  if st = slENTRY || c.nmw.guard then
    c.when c.nmw.latched.isNone fun c => (c.updNmw fun b => { b with latched := some code }).stick NMW_SLP_STAT_LATE
  else if st = slPREPARE then
    ((((c.stick NMW_SLP_STAT_ABORTED).slEnter slAWAKE).wakeRecord code false true)).raise 425
  else (c.wakeRecord code false false).slEnter slAWAKE

/-- A wake source fires: in SLEEP and DEEP it starts the wake cycle. -/
def Chip.wakeFire (c : Chip) (code : Nat) : Chip :=
  if c.pmu.power = .run then c.wakeAwake code
  else if c.pmu.wake.isSome then c
  else { c with pmu := { c.pmu with wake := some (code, false) } }

/-! ### Front ends as other blocks read them (R152, R271, R278) -/

/-- The filtered state of DIN `n`. -/
def Chip.dinBit (c : Chip) (n : Nat) : Bool := bit (c.get NMW_DINSTAT_ST) n

/-- Whether DIN `n` is faulted. -/
def Chip.dinBad (c : Chip) (n : Nat) : Bool := bit (c.get NMW_DINFLT_FLT) n

/-- The filtered state of LSW `n`. -/
def Chip.lswBit (c : Chip) (n : Nat) : Bool := bit (c.get NMW_LSWSTAT_ST) n

/-- Whether LSW `n` is faulted. -/
def Chip.lswBad (c : Chip) (n : Nat) : Bool := bit (c.get NMW_LSWSTAT_FLT) n

/-- The last result of AIN `n`. -/
def Chip.ainCode (c : Chip) (n : Nat) : Nat := c.get (AIN_RES_CODE n)

/-- Whether AIN `n` reported a fault with its last result. -/
def Chip.ainBad (c : Chip) (n : Nat) : Bool := c.flag (AIN_RES_FAULT n)

end Sys2Proof.Machine
end

