-- ==== Sys2Proof/Machine/CanCore.lean ====
section
/-! DEFINITION. CAN message objects, requests, filters and the gateway's messages: R249–R262. -/

namespace Sys2Proof.Machine

/-- Replace the controllers' own state. -/
def Chip.updCan (c : Chip) (f : CanBlk → CanBlk) : Chip := { c with can := f c.can }

/-- Object `i` = controller × 128 + object. -/
def Chip.canObj (c : Chip) (i : Nat) : CanObj := look {} c.can.objs i

/-- Change an object. -/
def Chip.updObj (c : Chip) (i : Nat) (f : CanObj → CanObj) : Chip := c.updCan fun b => { b with objs := upd {} b.objs i f }

/-- Raise event `k` of controller `n` (R267). -/
def Chip.canEvent (c : Chip) (n k : Nat) : Chip := c.raise (320 + 4 * n + k)

/-! ### Descriptors (R251) -/

/-- Bits of word 0. -/
def CanObj.f (o : CanObj) (hi lo : Nat) : Nat := bits o.w0.toNat hi lo

def CanObj.valid (o : CanObj) : Bool := o.f 127 127 == 1
def CanObj.isTx (o : CanObj) : Bool := o.f 126 126 == 1
def CanObj.fmt (o : CanObj) : Nat := o.f 125 124
def CanObj.ide (o : CanObj) : Bool := o.f 123 123 == 1
def CanObj.trig (o : CanObj) : Bool := o.f 121 121 == 1
def CanObj.oneshot (o : CanObj) : Bool := o.f 120 120 == 1
def CanObj.isRef (o : CanObj) : Bool := o.f 119 119 == 1
def CanObj.j1939 (o : CanObj) : Bool := o.f 118 118 == 1
def CanObj.gw (o : CanObj) : Bool := o.f 117 117 == 1
def CanObj.irq (o : CanObj) : Bool := o.f 116 116 == 1
def CanObj.timeout (o : CanObj) : Nat := o.f 111 96
def CanObj.pbase (o : CanObj) : Nat := o.f 89 80
def CanObj.size (o : CanObj) : Nat := o.f 79 64
def CanObj.mask (o : CanObj) : Nat := o.f 60 32
def CanObj.ident (o : CanObj) : Nat := o.f 28 0

/-- The units of payload memory an object occupies. -/
def CanObj.units (o : CanObj) : Nat := (o.size + 63) / 64 * (if o.isTx then 2 else 1)

/-- Whether an object is configured for transmit (R253, R92). -/
def CanObj.transmits (o : CanObj) : Bool := o.valid && o.isTx

/-- Whether two objects' areas overlap. -/
def CanObj.overlaps (a b : CanObj) : Bool := decide (a.pbase < b.pbase + b.units) && decide (b.pbase < a.pbase + a.units)

/-- Whether LEN suits FMT. -/
def CanObj.lenOk (o : CanObj) : Bool :=
  match o.fmt with
  | 0 => decide (o.size ≤ 8)
  | 1 => decide (o.size ≤ 64)
  | 2 => decide (1 ≤ o.size ∧ o.size ≤ 2048)
  | _ => false

/-- Whether format `f` is enabled in CTL. -/
def Chip.canFmtOn (c : Chip) (n f : Nat) : Bool :=
  match f with
  | 0 => true
  | 1 => c.flag (CAN_CTL_FDEN n)
  | 2 => c.flag (CAN_CTL_XLEN n)
  | _ => false

/-- Whether descriptor `o` may become valid as object `k` of controller `n` (R251, R257). -/
def Chip.canDescOk (c : Chip) (n k : Nat) (o : CanObj) : Bool :=
  o.fmt != 3 && o.lenOk && decide (o.pbase + o.units ≤ 1024) && c.canFmtOn n o.fmt &&
    !(o.isRef && (o.fmt == 2 || !o.isTx || decide (o.size < 8))) && !(o.j1939 && !o.ide) &&
    (List.range 128).all fun j => j == k || !(c.canObj (128 * n + j)).valid || !(c.canObj (128 * n + j)).overlaps o

/-! ### Requests (R252, R253) -/

/-- The bytes of a copy. -/
def copyBytes (m : NMap Byte) (n : Nat) : List Byte := (List.range n).map fun i => look 0 m i

/-- Bytes written into a copy from byte `i` on. -/
def intoCopy (m : NMap Byte) (i : Nat) (bs : List Byte) : NMap Byte := bs.zipIdx.foldl (fun m x => put 0 m (i + x.2) x.1) m

/-- Whether the function of an object has its data path open (R345, R352). -/
def Chip.canOpen (c : Chip) (i : Nat) : Bool :=
  match c.holderFn 1 i with
  | none => true
  | some f => f == 64 || c.get (SFE_FN_CFG_STATE f) == 2

/-- A request for transmission of object `i`; none is taken for a function whose data path is closed. -/
def Chip.canRequest (c : Chip) (i : Nat) : Chip :=
  if !c.canOpen i then c
  else match (c.canObj i).tx with
  | .idle => c.updObj i fun o => { o with tx := .pending }
  | .pending => c.satInc (CAN_CNT_MERGED (i / 128))
  | .active => c.updObj i fun o => { o with queued := true }

/-- Make the staging copy current. -/
def Chip.canCommit (c : Chip) (i : Nat) : Chip := c.updObj i fun o => { o with current := o.staging }

/-- TXREQ: a request, or on an object with TRIG only a commit. -/
def Chip.canTxreq (c : Chip) (i : Nat) : Chip := if (c.canObj i).trig then c.canCommit i else c.canRequest i

/-- A KIND 0x45 link entry writes its bytes, commits them and requests transmission (R153). -/
def Chip.canSendBytes (c : Chip) (i : Nat) (bs : List Nat) : Chip :=
  if !(c.canObj i).transmits then c
  else
    let c := c.updObj i fun o => { o with staging := intoCopy o.staging 0 (bs.map (BitVec.ofNat 8)) }
    let c := c.canCommit i
    if (c.canObj i).trig then c else c.canRequest i

/-- The payload size of an object. -/
def Chip.canSize (c : Chip) (i : Nat) : Nat := (c.canObj i).size

/-- A stored byte of a receive object. -/
def Chip.canRxByte (c : Chip) (i j : Nat) : Nat := (look 0 (c.canObj i).current j).toNat

/-- Whether a receive object is marked stale (R152). -/
def Chip.canRxBad (c : Chip) (i : Nat) : Bool := (c.canObj i).stale

/-! ### Filters (R256–R258) -/

/-- The key a J1939 filter compares, or none where the frame is addressed elsewhere (R257). -/
def j1939Key (addr id : Nat) : Option Nat :=
  let id := id % 2 ^ 26
  if 240 ≤ bits id 23 16 then some id
  else if bits id 15 8 = addr || bits id 15 8 = 0xFF then some (id - bits id 15 8 * 256)
  else none

/-- Whether a frame meets the filter of a receive object. -/
def Chip.canMatches (c : Chip) (n : Nat) (o : CanObj) (f : CanFrame) : Bool :=
  o.valid && !o.isTx && o.fmt == f.fmt.val && decide (f.data.length ≤ o.size) &&
    if f.fmt.val = 2 then
      ((f.id.toNat ^^^ o.ident) &&& o.mask) == 0 && ((f.vcid.toNat ^^^ bits o.w1.toNat 87 80) &&& bits o.w1.toNat 79 72) == 0
    else if o.j1939 then
      f.ide && match j1939Key (c.get (CAN_J1939_ADDR n)) f.id.toNat with
        | some k => ((k ^^^ o.ident) &&& o.mask) == 0
        | none => false
    else f.ide == o.ide && ((f.id.toNat ^^^ o.ident) &&& o.mask) == 0

/-- Whether controller `n` takes part in traffic with a frame of this format: enabled, its segment awake (R281), not in bus-off, and on a trailer link only
classical frames with 29-bit identifiers (R250, R258). -/
def Chip.canTakes (c : Chip) (n fmt : Nat) (ide : Bool) : Bool :=
  c.flag (CAN_CTL_EN n) && c.segAwake n && decide (c.get (CAN_STAT_BUSST n) < 2) && c.canFmtOn n fmt &&
    !(c.flag (CAN_CTL_ISO11992 n) && !(fmt == 0 && ide))

/-! ### Gateway messages (R260–R262); the layouts of IEEE 1722 are PRESUMED -/

/-- Word `w` of route `r`. -/
def Chip.gwWord (c : Chip) (n r w : Nat) : Nat := c.rdN (CAN_GWR n r w)

/-- Route `r` of controller `n`. -/
def Chip.gwRoute (c : Chip) (n r : Nat) : GwRoute := look {} c.can.routes (16 * n + r)

/-- Change a route. -/
def Chip.updRoute (c : Chip) (n r : Nat) (f : GwRoute → GwRoute) : Chip :=
  c.updCan fun b => { b with routes := upd {} b.routes (16 * n + r) f }

/-- Whether route `r` is enabled with its gateway. -/
def Chip.gwOn (c : Chip) (n r : Nat) : Bool := c.flag (CAN_GWCFG_EN n) && bit (c.gwWord n r 0) 127

/-- An ACF CAN message. -/
def acfMessage (busid time : Nat) (f : CanFrame) : List Byte :=
  let pad := (4 - f.data.length % 4) % 4
  let quads := 4 + (f.data.length + pad) / 4
  let b2 := (pad <<< 6) + (1 <<< 5) + (b2n f.rtr <<< 4) + (b2n f.ide <<< 3) + (b2n f.brs <<< 2) + (b2n (f.fmt.val == 1) <<< 1)
  beBytesOf 2 ((1 <<< 9) + quads) ++ [BitVec.ofNat 8 b2, BitVec.ofNat 8 busid] ++ beBytesOf 8 time ++ beBytesOf 4 f.id.toNat ++
    f.data ++ List.replicate pad 0

/-- The ACF CAN messages of a payload whose bus number is `busid`. -/
def acfMessages (busid : Nat) : Nat → List Byte → List CanMsg
  | 0, _ => []
  | fuel + 1, bs =>
    let len := 4 * (beNat (bs.take 2) % 512)
    if len < 4 then []
    else
      let m := bs.take len
      let rest := acfMessages busid fuel (bs.drop len)
      let fl := (m.getD 2 0).toNat
      if beNat (m.take 2) / 512 = 1 && (m.getD 3 0).toNat % 32 = busid && 16 ≤ m.length then
        { id := beNat ((m.drop 12).take 4) % 2 ^ 29, ide := bit fl 3, fd := bit fl 1, brs := bit fl 2,
          data := (m.drop 16).take (m.length - 16 - fl / 64) } :: rest
      else rest

/-- The header of an NTSCF frame and its Ethernet header, ahead of `len` bytes of messages; `sa` is the source address. -/
def ntscfHead (dst sa vid pcp stream seq len : Nat) : List Byte :=
  beBytesOf 6 dst ++ beBytesOf 6 sa ++ beBytesOf 2 0x8100 ++ beBytesOf 2 (pcp * 8192 + vid) ++ beBytesOf 2 0x22F0 ++
    [0x82] ++ beBytesOf 2 (0x8000 + len) ++ [BitVec.ofNat 8 seq] ++ beBytesOf 8 stream

/-- The stream ID and the messages of a frame, where it is NTSCF. -/
def ntscfBody (bs : List Byte) : Option (Nat × List Byte) :=
  let at_ := if beNat ((bs.drop 12).take 2) = 0x8100 then 16 else 12
  let b := bs.drop (at_ + 2)
  if beNat ((bs.drop at_).take 2) = 0x22F0 && (b.getD 0 0).toNat = 0x82 then
    some (beNat ((b.drop 4).take 8), (b.drop 12).take (beNat ((b.drop 1).take 2) % 2048))
  else none

/-- A frame or message of the gateway is discarded. -/
def Chip.gwDrop (c : Chip) (n : Nat) : Chip := (c.satInc (CAN_GWCNT_DROP n)).canEvent n 3

/-- The open NTSCF frame of a route is sent: its DMA is still to do. -/
def Chip.gwClose (c : Chip) (n r : Nat) : Chip :=
  let held := (c.gwRoute n r).held
  if held.isEmpty then c
  else (c.updRoute n r fun x => { x with held := [] }).updCan fun b => { b with jobs := b.jobs ++ [(n, r, held)] }

/-- Append a frame to the open NTSCF frame of an outbound route (R261). -/
def Chip.gwAppend (c : Chip) (n r : Nat) (f : CanFrame) : Chip :=
  let m := acfMessage (c.get (CAN_GWCFG_BUSID n)) (c.pb0At f.stamp.toNat) f
  let total (l : List (List Byte)) : Nat := 30 + (l.flatten).length
  let c := c.when (decide (1500 < total ((c.gwRoute n r).held ++ [m]))) fun c => c.gwClose n r
  let c := c.updRoute n r fun x => { x with held := x.held ++ [m], since := if x.held.isEmpty then c.frc else x.since }
  c.when (decide (bits (c.gwWord n r 2) 111 108 + 1 ≤ (c.gwRoute n r).held.length)) fun c => c.gwClose n r

/-- Move the oldest message of an inbound route into its idle transmit object (R262). -/
def Chip.gwLoad (c : Chip) (n r : Nat) : Chip :=
  let i := 128 * n + c.gwWord n r 3 % 128
  let o := c.canObj i
  match (c.gwRoute n r).fifo with
  | [] => c
  | m :: rest =>
    if o.transmits && o.gw && o.tx == .idle then
      let w := setBits (setBits (setBits (setBits (setBits o.w0 125 124 (b2n m.fd)) 123 123 (b2n m.ide)) 122 122 (b2n m.brs))
        79 64 m.data.length) 28 0 m.id
      let c := c.updRoute n r fun x => { x with fifo := rest }
      c.updObj i fun o => { o with w0 := w, current := intoCopy [] 0 m.data, staging := intoCopy [] 0 m.data, tx := .pending }
    else c

/-- Load every inbound route of a controller. -/
def Chip.gwLoadAll (c : Chip) (n : Nat) : Chip := forAll 8 (fun r c => c.when (c.gwOn n (8 + r)) fun c => c.gwLoad n (8 + r)) c

/-- Send an NTSCF frame through the gateway's host pair (R260, R261): into the buffer of the next transmit descriptor, which is
then given to the switch; with no free descriptor, or an error response, it is discarded. -/
def State.gwSend (s : State) (n r : Nat) (held : List (List Byte)) : State :=
  let c := s.chip
  let q := c.get (CAN_GWCFG_HQ n)
  let size := 2 ^ c.get (ESW_HQ_CFG_SIZE q)
  let pi := c.get (ESW_HQ_TXPI_I q)
  let body := held.flatten
  let w := c.gwWord n r 2
  let sa := (Config.openValue c.freeCtr).toNat % 2 ^ 48
  let bs := ntscfHead (bits w 47 0) sa (bits w 75 64) (bits w 62 60) (bits (c.gwWord n r 1) 63 0) (c.gwRoute n r).seq body.length ++ body
  let c := c.drawn.updRoute n r fun x => { x with seq := (x.seq + 1) % 256 }
  if !c.flag (ESW_HQ_CFG_EN q) || (pi + 1) % size = c.get (ESW_HQ_TXCI_I q) then { s with chip := c.gwDrop n }
  else
    let t := c.fnTag 14 ((c.holderFn 0 q).getD 64)
    let base := c.get (ESW_HQ_TXBASE_A q) + 32 * pi
    match ({ s with chip := c } : State).busRead t base 16 with
    | (none, s) => { s with chip := s.chip.gwDrop n }
    | (some d, s) =>
      let addr := leNat d % 2 ^ 40
      let bs := bs ++ List.replicate (60 - bs.length) 0
      let r1 := s.busWrite t addr bs
      let r2 := r1.2.busWrite t base (leBytesOf 16 (addr + (bs.length <<< 40) + (bits w 62 60 <<< 54)))
      if r1.1 && r2.1 then
        { r2.2 with chip := (r2.2.chip.set (ESW_HQ_TXPI_I q) ((pi + 1) % size)).satInc (CAN_GWCNT_SENT n) }
      else { r2.2 with chip := r2.2.chip.gwDrop n }

/-- Do the DMA that a command left. -/
def State.gwFlush (s : State) : State :=
  s.chip.can.jobs.foldl (fun s j => s.gwSend j.1 j.2.1 j.2.2) { s with chip := s.chip.updCan fun b => { b with jobs := [] } }

/-- The outcome of a command of the controllers: its effect on the module, then the gateway's DMA. -/
def State.canOn (s : State) (f : Chip → Chip) : Host.Outcome State Fault Refusal :=
  s.onZoneMem fun s => ({ s with chip := f s.chip } : State).gwFlush

end Sys2Proof.Machine
end

