-- ==== Sys2Proof/Machine/HatbandCore.lean ====
section
/-! DEFINITION. The Hatband controller's schedule, frames, buffers and clock measurement: R217–R223, R225, R232, R233, R239. -/

namespace Sys2Proof.Machine

/-- Replace the controller's own state. -/
def Chip.updHbd (c : Chip) (f : HbdBlk → HbdBlk) : Chip := { c with hbd := f c.hbd }

/-- The state codes of R227. -/
def hsCONFIG : Nat := 0
def hsLISTEN : Nat := 1
def hsCOLDSTART : Nat := 2
def hsINTEGRATE : Nat := 3
def hsNORMAL : Nat := 4
def hsPASSIVE : Nat := 5
def hsSILENT : Nat := 6
def hsHALT : Nat := 7

/-- The controller's state. -/
def Chip.hbState (c : Chip) : Nat := c.get HBD_STAT_STATE

/-- Enter a state; every change raises EV0384 (R227). -/
def Chip.hbEnter (c : Chip) (st : Nat) : Chip :=
  if c.hbState = st then c
  else
    let c := c.updHbd fun b => { b with
      spent := 0
      listenFrom := if st = 1 then c.frc else b.listenFrom
      leader := if st = 2 then b.leader else false }
    (c.set HBD_STAT_STATE st).raise 384

/-- This node's number. -/
def Chip.hbNode (c : Chip) : Nat := c.get HBD_CFG_NODE

/-- The current mode. -/
def Chip.hbMode (c : Chip) : Nat := c.get HBD_STAT_CURMODE

/-- CYCLEN in ns. -/
def Chip.hbCyclen (c : Chip) : Nat := c.get HBD_TIM0_CYCLEN * 1000

/-- SLOTLEN in ns. -/
def Chip.hbSlotlen (c : Chip) : Nat := c.get HBD_TIM0_SLOTLEN * 100

/-- MSLEN in ns. -/
def Chip.hbMslen (c : Chip) : Nat := c.get HBD_TIM3_MSLEN * 100

/-- The wire time of a frame with `n` payload bytes, in ns (R219). -/
def wireTime (n : Nat) (sync : Bool) : Nat := (n + 24 + 8 * b2n sync) * 800

/-- The FRC tick of a time within the running cycle, scaled by the increment at its start (R218). -/
def Chip.hbTick (c : Chip) (t : Nat) : Nat :=
  if c.hbd.startInc = 0 then c.hbd.startTick + t else c.hbd.startTick + t * 2 ^ 32 / c.hbd.startInc

/-- The time within the running cycle of an FRC tick. -/
def Chip.hbTime (c : Chip) (tick : Nat) : Nat := (tick - c.hbd.startTick) * c.hbd.startInc / 2 ^ 32

/-! ### Slot tables (R221) -/

/-- An entry of a slot table. -/
structure HbdSlot where
  valid : Bool
  tx : Bool
  sync : Bool
  ch : Nat
  rep : Nat
  base : Nat
  len : Nat
  buf : Nat
  type : Nat
  slot : Nat
  deriving DecidableEq, Repr

/-- An entry from its 64 bits. -/
def slotOf (v : Nat) : HbdSlot :=
  { valid := bit v 63, tx := bit v 62, sync := bit v 61, ch := bits v 60 59, rep := bits v 58 56, base := bits v 55 50,
    len := bits v 49 42, buf := bits v 40 32, type := bits v 18 16, slot := bits v 15 0 }

/-- The valid entries of a mode's slot table, in order. -/
def Chip.hbSlots (c : Chip) (m : Nat) : List HbdSlot :=
  ((c.hbd.slots.filter fun e => e.1 / 512 == m).map fun e => slotOf e.2).filter (·.valid)

/-- Whether an entry applies in cycle `k`. -/
def HbdSlot.inCycle (e : HbdSlot) (k : Nat) : Bool := k % 2 ^ e.rep == e.base

/-- The number of the running cycle. -/
def Chip.hbCycle (c : Chip) : Nat := c.hbd.cycle.getD 0

/-- Whether a slot ID lies in the open segment. -/
def openSlot (s : Nat) : Bool := decide (0x8000 ≤ s)

/-- The transmit entry of a slot ID in the running cycle of the current mode. -/
def Chip.hbTxEntry (c : Chip) (slot : Nat) : Option HbdSlot :=
  (c.hbSlots c.hbMode).find? fun e => e.tx && e.slot == slot && e.inCycle c.hbCycle

/-- The cold-start slot: that of the SYNC entry in mode 0 (R221). -/
def Chip.coldEntry (c : Chip) : Option HbdSlot := (c.hbSlots 0).find? fun e => e.tx && e.sync

/-- The start of static slot `s` within the cycle. -/
def Chip.slotStart (c : Chip) (s : Nat) : Nat := (s - 1) * c.hbSlotlen

/-- The length of the static segment of the current mode. -/
def Chip.staticLen (c : Chip) : Nat := c.get (HBD_MODE_NSLOT c.hbMode) * c.hbSlotlen

/-- The action point of static slot `s` within the cycle (R219). -/
def Chip.actionPoint (c : Chip) (s : Nat) : Nat := c.slotStart s + c.get HBD_TIM1_APO

/-! ### Buffers (R239) -/

/-- Buffer `n`. -/
def Chip.hbBuf (c : Chip) (n : Nat) : HbdBuf := look {} c.hbd.bufs n

/-- Change buffer `n`. -/
def Chip.updBuf (c : Chip) (n : Nat) (f : HbdBuf → HbdBuf) : Chip := c.updHbd fun b => { b with bufs := upd {} b.bufs n f }

/-- The first `n` bytes of a copy. -/
def firstBytes (m : NMap Byte) (n : Nat) : List Byte := (List.range n).map fun i => look 0 m i

/-- Bytes as a copy. -/
def copyOf (bs : List Byte) : NMap Byte := bs.zipIdx.foldl (fun m x => put 0 m x.2 x.1) []

/-- Bytes written into a staging copy from its first byte, and made current: a commit by a logic engine (R239). -/
def Chip.hbdCommitBytes (c : Chip) (n : Nat) (bs : List Nat) : Chip :=
  c.updBuf n fun b =>
    let st := bs.zipIdx.foldl (fun m x => put 0 m x.2 (BitVec.ofNat 8 x.1)) b.staging
    { b with staging := st, current := st, committed := true }

/-- A payload byte of a receive buffer. -/
def Chip.hbdRxByte (c : Chip) (n i : Nat) : Nat := (look 0 (c.hbBuf n).current i).toNat

/-- Whether a receive buffer had no valid frame in the last Hatband cycle (R152, R239). -/
def Chip.hbdRxBad (c : Chip) (n : Nat) : Bool := !(c.hbBuf n).fresh

/-! ### Frames (R222) -/

/-- CRC-8 with polynomial 0x2F and initial value 0xFF. -/
def crc8 (bs : List Byte) : Nat :=
  bs.foldl (fun x b => forAll 8 (fun _ y => if y ≥ 128 then (y * 2 % 256) ^^^ 0x2F else y * 2 % 256) (x ^^^ b.toNat)) 0xFF

/-- What the MODE byte of this node's frames carries: its own request, otherwise its confirmation (R222, R242). -/
def Chip.modeByte (c : Chip) : Nat :=
  let cur := c.hbMode
  if c.flag HBD_MSTAT_PENDING && c.hbd.reqCycles.isSome then 0xC0 + (c.get HBD_MSTAT_MODE <<< 3) + cur
  else match c.hbd.confMode with
    | some r => 0x40 + (r <<< 3) + cur
    | none => cur

/-- A whole frame from its parts, with both check sequences. -/
def buildFrame (flags sender slot cycle len mode : Nat) (time : Option Nat) (payload : List Byte) : List Byte :=
  let head := [BitVec.ofNat 8 flags, BitVec.ofNat 8 sender] ++ leBytesOf 2 slot ++
    [BitVec.ofNat 8 cycle, BitVec.ofNat 8 len, BitVec.ofNat 8 mode]
  let body := head ++ [BitVec.ofNat 8 (crc8 head)] ++ (match time with | some t => leBytesOf 8 t | none => []) ++ payload
  body ++ leBytesOf 4 (crc32 body)

/-- The frame this node sends for an entry, with `data` or as a NULL frame. -/
def Chip.ownFrame (c : Chip) (e : HbdSlot) (startup : Bool) (data : Option (List Byte)) (k : Nat) : List Byte :=
  let flags := 0x40 + (b2n e.sync <<< 5) + (b2n startup <<< 4) + (b2n data.isNone <<< 3) + e.type
  buildFrame flags c.hbNode e.slot (k % 64) e.len c.modeByte (if e.sync then some (k * c.hbCyclen % 2 ^ 64) else none)
    (data.getD (List.replicate e.len 0))

/-- A frame as its fields. -/
structure HbdFrame where
  sync : Bool
  startup : Bool
  type : Nat
  sender : Nat
  slot : Nat
  cycle : Nat
  len : Nat
  req : Bool
  conf : Bool
  rmode : Nat
  curmode : Nat
  time : Nat
  payload : List Byte
  deriving DecidableEq, Repr

/-- Read a received frame: none where its check sequences, version or length fail. -/
def parseFrame (bs : List Byte) : Option HbdFrame :=
  let b (i : Nat) : Nat := (bs.getD i 0).toNat
  let sync := bit (b 0) 5
  let n := b 5
  let at_ := if sync then 16 else 8
  let body := bs.take (bs.length - 4)
  if bs.length ≠ at_ + n + 4 || crc8 (bs.take 7) ≠ b 7 || crc32 body ≠ leNat (bs.drop (bs.length - 4)) || b 0 / 64 ≠ 1 then none
  else some { sync := sync, startup := bit (b 0) 4, type := b 0 % 8, sender := b 1 % 64, slot := b 2 + 256 * b 3, cycle := b 4 % 64,
              len := n, req := bit (b 6) 7, conf := bit (b 6) 6, rmode := bits (b 6) 5 3, curmode := b 6 % 8,
              time := if sync then leNat ((bs.drop 8).take 8) else 0, payload := (bs.drop at_).take n }

/-! ### Transmission (R219, R224, R225) -/

/-- Put a frame on the channels of `mask`, sent from time `at_` of the cycle; it is own until it comes back (R224). -/
def Chip.hbSend (c : Chip) (mask slot at_ : Nat) (sync : Bool) (len : Nat) (bs : List Byte) : Chip :=
  let out := mask &&& c.get HBD_CFG_CHEN
  let end_ := c.hbTick (at_ + wireTime len sync)
  c.updHbd fun b => { b with
    wire := forAll 2 (fun ch m => if bit out ch then put [] m ch bs else m) b.wire
    sendEnd := forAll 2 (fun ch m => if bit out ch then put none m ch (some end_) else m) b.sendEnd
    own := if out = 0 then b.own else if b.own.any (·.slot == slot) then
        b.own.map fun o => if o.slot = slot then { o with out := o.out ||| out } else o
      else b.own ++ [{ slot := slot, out := out }] }

/-- Whether the guardian grants this node's windows: locked and not failed (R225, R226). -/
def Chip.guardianOpen (c : Chip) : Bool := c.flag HBD_STAT_GLOCK && !c.flag HBD_STAT_GFAULT

/-! ### The checks of R220 -/

/-- Guardian margin, action point and minislot, and the common instant. -/
def Chip.timingOk (c : Chip) : Bool :=
  let cyc := c.get HBD_TIM0_CYCLEN
  decide (500 + cyc ≤ 10 * c.get HBD_TIM1_GDELTA) &&
  decide (c.get HBD_TIM2_PREC + c.get HBD_TIM1_GDELTA ≤ c.get HBD_TIM1_APO) &&
  decide (c.get HBD_TIM1_APO + c.get HBD_TIM2_PREC + 1000 ≤ c.hbMslen) &&
  decide (c.get HBD_TIM4_CIOFS < cyc)

/-- Cycle fit of a mode with `nslot` slots and `nms` minislots. -/
def Chip.cycleFits (c : Chip) (nslot nms : Nat) : Bool :=
  decide (nslot * c.hbSlotlen + nms * c.hbMslen + 20000 ≤ c.hbCyclen)

/-- Static fit of an entry. -/
def Chip.staticFits (c : Chip) (e : HbdSlot) : Bool :=
  !e.tx || openSlot e.slot || decide (c.get HBD_TIM1_APO + wireTime e.len e.sync + c.get HBD_TIM2_PREC ≤ c.hbSlotlen)

/-- Whether two entries apply in a common cycle. -/
def HbdSlot.meets (a b : HbdSlot) : Bool :=
  let r := min a.rep b.rep
  a.base % 2 ^ r == b.base % 2 ^ r

/-- Slot ownership of one mode's entries. -/
def Chip.ownershipOk (c : Chip) (es : List HbdSlot) : Bool :=
  let tx := es.filter (·.tx)
  let syncs := tx.filter (·.sync)
  decide (syncs.length ≤ 1) && syncs.all (fun e => !openSlot e.slot && c.flag HBD_CFG_SYNCEN) &&
    decide (tx.Pairwise fun a b => !(a.slot == b.slot && a.meets b))

/-- Whether a whole configuration meets R220. -/
def Chip.configOk (c : Chip) : Bool :=
  c.timingOk && (List.range 8).all fun m =>
    !c.flag (HBD_MODE_VALID m) ||
      (c.cycleFits (c.get (HBD_MODE_NSLOT m)) (c.get (HBD_MODE_NMS m)) && (c.hbSlots m).all c.staticFits &&
        c.ownershipOk (c.hbSlots m))

/-! ### Clock measurement (R232, R233) -/

/-- Insert a value in rising order. -/
def insertInt (x : Int) : List Int → List Int
  | [] => [x]
  | y :: t => if x ≤ y then x :: y :: t else y :: insertInt x t

/-- The values in ascending order. -/
def sortInt (l : List Int) : List Int := l.foldr insertInt []

/-- The fault-tolerant midpoint, doubled: the sum of the values that remain at both ends (R233). -/
def midpoint2 (l : List Int) : Int :=
  let s := sortInt l
  let q := if s.length ≤ 2 then 0 else if s.length ≤ 7 then 1 else 2
  s.getD q 0 + s.getD (s.length - 1 - q) 0

/-- The value of a sync node in a cycle: the mean of its channels. -/
def meanOf (l : List Int) : Int := l.foldl (· + ·) 0 / (max 1 l.length : Nat)

/-- A step as 80 bits in units of 2^-16 ns. -/
def step80 (x : Int) : Nat := unsigned 80 x

/-- Offer a correction (R229, R230, R234). -/
def Chip.offer (c : Chip) (n cycle : Nat) (step : Int) : Chip :=
  let c := c.wrN HBD_CORR ((1 <<< 127) + (n <<< 88) + ((cycle % 64) <<< 80) + step80 step)
  ((c.setB HBD_STAT_CORRRDY true).updHbd fun b => { b with ackFor := some (cycle % 64) }).raise 385

/-- The crystal is lost: NORMAL and COLDSTART become PASSIVE (R236). -/
def Chip.hbdCrystal (c : Chip) : Chip := c.when (c.hbState == hsNORMAL || c.hbState == hsCOLDSTART) fun c => c.hbEnter hsPASSIVE

end Sys2Proof.Machine
end

