-- ==== Sys2Proof/Machine/KeyCore.lean ====
section
/-! DEFINITION. What other blocks use of the key store: the life cycle and debug worlds (R432, R435), slots (R416, R418), and the
checks of an invocation (R423). -/

namespace Sys2Proof.Machine

/-- Replace the key store's own state. -/
def Chip.updKey (c : Chip) (f : KeyBlk → KeyBlk) : Chip := { c with key := f c.key }

/-! ### Life cycle and debug worlds (R432, R435) -/

def lcBLANK : Nat := 1
def lcPROVISIONED : Nat := 2
def lcFIELD : Nat := 3
def lcWORKSHOP : Nat := 4
def lcRETURNED : Nat := 5
def lcDECOMMISSIONED : Nat := 6

/-- Whether the module is in WORKSHOP. -/
def Chip.lcWorkshop (c : Chip) : Bool := c.key.lcs == lcWORKSHOP

/-- The worlds whose debug is open. -/
def Chip.debugOpen (c : Chip) : Nat :=
  match c.key.lcs with
  | 1 => c.get KEY_DBGPOL_WORLDS
  | 2 => c.get KEY_DBGPOL_WORLDS
  | 3 => c.get KEY_DBGPOL_WORLDS &&& c.key.tokWorlds &&& 0b11010
  | 4 => c.get KEY_DBGPOL_WORLDS &&& c.key.tokWorlds
  | 5 => 0b11111
  | _ => 0

/-- Show what KEY_STAT tells of the life cycle, the identity and debug. -/
def Chip.showKey (c : Chip) : Chip :=
  ((((c.set KEY_STAT_LCS c.key.lcs).setB KEY_STAT_CROWN c.key.crown).setB KEY_STAT_IDKEY c.key.idkey).setB KEY_STAT_GEN c.key.gen).set
    KEY_STAT_DBGOPEN c.debugOpen

/-! ### Random numbers -/

/-- `n` bytes of the random bit generator at this draw. -/
def Chip.randomBytes (c : Chip) (n : Nat) : List Byte := (List.range n).map fun i => Config.random c.freeCtr i

/-! ### Slots (R416, R418) -/

/-- A key slot. -/
def Chip.slot (c : Chip) (n : Nat) : KeySlot := look {} c.key.slots n

/-- Change a key slot. -/
def Chip.updSlot (c : Chip) (n : Nat) (f : KeySlot → KeySlot) : Chip := c.updKey fun b => { b with slots := upd {} b.slots n f }

/-- The attributes in force (R416): slot 0 takes its masters and worlds, and slot 1 its worlds, from KEY_ROOTATTR. -/
def Chip.slotW0 (c : Chip) (n : Nat) : Nat :=
  let v := (c.slot n).w0.toNat
  if n = 0 then (c.get KEY_ROOTATTR_MASTERS <<< 108) + (c.get KEY_ROOTATTR_WORLDS <<< 103) + v % 2 ^ 103
  else if n = 1 then (bits v 127 108 <<< 108) + (c.get KEY_ROOTATTR_IDWORLDS <<< 103) + v % 2 ^ 103
  else v

/-- The fields of a word 0 (R418). -/
def kwMasters (v : Nat) : Nat := bits v 127 108
def kwWorlds (v : Nat) : Nat := bits v 107 103
def kwLcs (v : Nat) : Nat := bits v 102 97
def kwUsage (v : Nat) : Nat := bits v 96 91
def kwDbgok (v : Nat) : Bool := bit v 90
def kwType (v : Nat) : Nat := bits v 89 86
def kwSalt (v : Nat) : Bool := bit v 85

/-- USAGE bits, counted from bit 91. -/
def useSIGN : Nat := 0
def useVERIFY : Nat := 1
def useENCRYPT : Nat := 2
def useDECRYPT : Nat := 3
def useDERIVE : Nat := 4
def useMAC : Nat := 5

/-- The slots a slot descends from, with its own number: what a slot or bound key made from it carries as ANC. -/
def Chip.lineOf (c : Chip) (n : Nat) : List Nat := (c.slot n).anc ++ [n]

/-- Word 1 of a slot's record. -/
def KeySlot.word1 (k : KeySlot) : Nat :=
  let st := match k.state with | .free => 0 | .ready => 1 | .revoked => 2 | .orphan => 3 | .dead => 4
  (st <<< 124) + ((k.level % 8) <<< 121) + ((k.parent % 1024) <<< 111) +
    ((List.range 7).foldl (fun n i => n + ((k.anc.getD i 0x3FF % 1024) <<< (41 + 10 * i))) 0) + (b2n k.revokedCause <<< 40) +
    ((k.uses % 65536) <<< 16)

/-- The statuses of checks 2, 3, 4 and 7 of R423, which are made again at the start: WHY and status of the first that fails. -/
def Chip.keyStateCheck (c : Chip) (n : Nat) : Option (Nat × Nat) :=
  let k := c.slot n
  let v := c.slotW0 n
  match k.state with
  | .free => some (2, stNO_OBJECT)
  | .revoked => some (3, stKEY_REVOKED)
  | .orphan => some (3, stORPHANED)
  | .dead => some (3, if k.revokedCause then stKEY_REVOKED else stORPHANED)
  | .ready =>
    if !bit (kwLcs v) (c.key.lcs - 1) then some (4, stDENIED_STATE)
    else none

/-- Check 7 of R423. -/
def Chip.keyDebugCheck (c : Chip) (n : Nat) : Option (Nat × Nat) :=
  let v := c.slotW0 n
  if kwDbgok v || (kwWorlds v &&& c.debugOpen) = 0 then none else some (7, stDENIED_STATE)

/-- Checks 2 to 10 of R423 for slot `n`: `type` and `usage` say what the operation needs, `ses` is the session that asks. -/
def Chip.keyCheck (c : Chip) (n mid world : Nat) (types : List Nat) (usage : Option Nat) (ses : Option Nat) : Option (Nat × Nat) :=
  let v := c.slotW0 n
  (c.keyStateCheck n).orElse fun _ =>
    if !bit (kwMasters v) mid then some (5, stDENIED_WORLD)
    else if !bit (kwWorlds v) world then some (6, stDENIED_WORLD)
    else (c.keyDebugCheck n).orElse fun _ =>
      if !types.contains (kwType v) then some (8, stTYPE_MISMATCH)
      else if (match usage with | some u => !bit (kwUsage v) u | none => false) then some (9, stDENIED_WORLD)
      else match look none c.key.holds n with
        | some h => if some h.ses = ses then none else some (10, stBUSY)
        | none => none

/-- Count a refused invocation and raise EV0739. -/
def Chip.keyRefused (c : Chip) : Chip := (c.satInc KEY_CNT_REFUSED).raise 739

/-- A MACsec frame invokes the slot of its SA as master 11 (R204): whether it may be used. -/
def Chip.macsecKey (c : Chip) (slot : Nat) (encrypt : Bool) : Bool :=
  decide (c.key.lcs < lcRETURNED) &&
    (c.keyCheck slot 11 (c.worldOf 11) [3] (some (if encrypt then useENCRYPT else useDECRYPT)) none).isNone

/-- A slot's use is counted when an operation on it starts. -/
def Chip.keyUsed (c : Chip) (n : Nat) : Chip := c.updSlot n fun k => { k with uses := min (k.uses + 1) 65535 }

/-- The KDF of R420: the leftmost bits of HMAC-SHA-512 over counter, label, zero byte, context and length. -/
def kdf (key label ctx : List Byte) (bitsOut : Nat) : List Byte :=
  let h := Config.hmacSha512 key (beBytesOf 4 1 ++ label ++ [0] ++ ctx ++ beBytesOf 4 bitsOut)
  (beBytesOf 64 h.toNat).take (bitsOut / 8)

end Sys2Proof.Machine
end

