-- ==== Sys2Proof/Machine/DdpCore.lean ====
section
/-! DEFINITION. What the dictionary engine sends and how its sessions and transfers end: packets (R389), tags (R403), transports
(R391–R394), transfers (R397) and sessions (R402). -/

namespace Sys2Proof.Machine

/-- Replace the dictionary engine's own state. -/
def Chip.updDdp (c : Chip) (f : DdpBlk → DdpBlk) : Chip := { c with ddp := f c.ddp }

/-! ### Packets (R389, R391) -/

/-- The 20 bytes of a packet's header. -/
def packetHeader (p : DdpPacket) : List Byte :=
  [BitVec.ofNat 8 (0x10 + (b2n p.auth <<< 1) + b2n p.resp), p.cmd] ++ leBytesOf 3 p.dst.toNat ++ leBytesOf 3 p.src.toNat ++
    [p.session, p.tid] ++ leBytesOf 3 p.object.toNat ++ [p.element, p.status, p.type] ++ leBytesOf 2 p.segno.toNat ++
    leBytesOf 2 p.data.length

/-- The bytes of a packet before its tag. -/
def packetBody (p : DdpPacket) : List Byte := packetHeader p ++ p.data

/-- The transport link as a number: UDP, CAN links, Hatband channels. -/
def viaLink (v : DdpVia) : Nat :=
  match v with
  | .udp _ => 0
  | .can l => 16 + l.val
  | .hat ch => 32 + ch.val

/-- Whether the CAN link of a transport runs CAN XL. -/
def Chip.viaXl (c : Chip) (v : DdpVia) : Bool :=
  match v with
  | .can l => c.flag (DDP_CL_XL l.val)
  | _ => false

/-- The largest LEN of a full packet on a transport (R391). -/
def Chip.expedited (c : Chip) (v : DdpVia) (auth : Bool) : Nat :=
  let n := match v with
    | .udp _ => 1392
    | .can l => if c.flag (DDP_CL_XL l.val) then 2028 else 44
    | .hat _ => 224
  if auth then n - 8 else n

/-- The segment size of a transport (R391). -/
def Chip.segmentSize (c : Chip) (v : DdpVia) : Nat :=
  match v with
  | .udp _ => 1408
  | .can l => if c.flag (DDP_CL_XL l.val) then 2048 else 60
  | .hat _ => 240

/-- A continuation segment from the module (R390). -/
def segmentBytes (tid : Byte) (n : Nat) (last : Bool) (data : List Byte) : List Byte :=
  [BitVec.ofNat 8 (0xA0 + (b2n last <<< 4)), tid] ++ leBytesOf 2 n ++ data

/-! ### Ethernet (R392) -/

/-- The ones' complement sum of 16-bit words in network order. -/
def onesSum : List Byte → Nat
  | [] => 0
  | [a] => a.toNat * 256
  | a :: b :: t =>
    let s := a.toNat * 256 + b.toNat + onesSum t
    s % 65536 + s / 65536

/-- The checksum of IP and UDP. -/
def inetSum (bs : List Byte) : Nat := 65535 - onesSum bs

/-- The Ethernet frame, without its FCS, of a UDP datagram from port 50,210 to a requester. -/
def Chip.udpFrame (c : Chip) (e : UdpEnd) (data : List Byte) : List Byte :=
  let o := (Config.ipOpen c.freeCtr).toNat
  let n := data.length + 8
  let src := if e.ip6 then beBytesOf 16 (c.rdN DDP_IP6) else beBytesOf 4 (c.rdN DDP_IP4)
  let dst := if e.ip6 then beBytesOf 16 e.addr.toNat else beBytesOf 4 e.addr.toNat
  let pseudo := src ++ dst ++ (if e.ip6 then beBytesOf 4 n ++ [0, 0, 0, 17] else [0, 17] ++ beBytesOf 2 n)
  let udp (sum : Nat) := beBytesOf 2 50210 ++ beBytesOf 2 e.port.toNat ++ beBytesOf 2 n ++ beBytesOf 2 sum ++ data
  let sum := inetSum (pseudo ++ udp 0)
  let head := if e.ip6 then
      beBytesOf 4 (0x60000000 + bits o 51 32) ++ beBytesOf 2 n ++ [17, BitVec.ofNat 8 (bits o 23 16)] ++ src ++ dst
    else
      let h (s : Nat) := [0x45, BitVec.ofNat 8 (bits o 31 24)] ++ beBytesOf 2 (n + 20) ++ beBytesOf 2 (bits o 15 0) ++ [0, 0] ++
        [BitVec.ofNat 8 (bits o 23 16), 17] ++ beBytesOf 2 s ++ src ++ dst
      h (inetSum (h 0))
  let tag := match e.tag with
    | some t => beBytesOf 2 0x8100 ++ beBytesOf 2 t.toNat
    | none => []
  let bs := beBytesOf 6 e.mac.toNat ++ beBytesOf 6 (c.get DDP_MAC_ADDR) ++ tag ++ beBytesOf 2 (if e.ip6 then 0x86DD else 0x0800) ++
    head ++ udp (if sum = 0 then 65535 else sum)
  bs ++ List.replicate (60 - bs.length) 0

/-! ### Sending (R391–R394) -/

/-- The payload length that carries `n` bytes: the next length of CAN FD; CAN XL has every length. -/
def canPadded (xl : Bool) (n : Nat) : Nat :=
  if xl || n ≤ 8 then n else ([12, 16, 20, 24, 32, 48, 64].find? fun l => decide (n ≤ l)).getD 64

/-- Whether a packet for a transport can be handed over now. -/
def Chip.viaFree (c : Chip) (v : DdpVia) : Bool :=
  match v with
  | .udp _ => true
  | .can l => (c.canObj (128 * c.get (DDP_CL_CTRL l.val) + c.get (DDP_CL_TXO l.val))).tx == .idle
  | .hat ch =>
    let b := look {} c.hbd.bufs (c.get DDP_HB_BUF)
    !bit b.request ch.val && b.ddpLen.isNone

/-- Hand a packet over to its transport: to port I4, to the link's transmit object, or to the buffer of DDP_HB. -/
def Chip.viaPut (c : Chip) (v : DdpVia) (bs : List Byte) : Chip :=
  match v with
  | .udp e => (c.updDdp fun b => { b with frames := b.frames ++ [c.udpFrame e bs] }).drawn
  | .can l =>
    let xl := c.flag (DDP_CL_XL l.val)
    let cont := xl && bit (beNat (bs.take 1)) 7
    let af := if cont then leNat (bs.take 4) else 0
    let bs := if cont then bs.drop 4 else bs
    let n := canPadded xl bs.length
    c.updObj (128 * c.get (DDP_CL_CTRL l.val) + c.get (DDP_CL_TXO l.val)) fun o =>
      let w0 := setBits (setBits (setBits o.w0 28 0 (c.get (DDP_CL_TXID l.val))) 123 123 (b2n !xl)) 79 64 n
      { o with w0 := w0, w1 := if xl then setBits o.w1 127 96 af else o.w1
               current := intoCopy [] 0 bs, tx := .pending }
  | .hat ch =>
    let n := c.get DDP_HB_BUF
    { c with hbd := { c.hbd with bufs := upd {} c.hbd.bufs n fun b =>
        { b with current := intoCopy [] 0 bs, committed := true, request := setBit b.request ch.val true, ddpLen := some bs.length } } }

/-- Hand over the packets whose transport is free, in order. -/
def Chip.ddpPump (c : Chip) : Chip :=
  c.ddp.out.foldl (fun (c : Chip) x => if c.viaFree x.1 then c.viaPut x.1 x.2 else c.updDdp fun b => { b with out := b.out ++ [x] })
    (c.updDdp fun b => { b with out := [] })

/-- Send the bytes of a packet or segment. -/
def Chip.ddpSend (c : Chip) (v : DdpVia) (bs : List Byte) : Chip :=
  (c.updDdp fun b => { b with out := b.out ++ [(v, bs)] }).ddpPump

/-! ### Tags (R403) -/

/-- The tag over request counter, direction and bytes under a session's key. -/
def ddpTag (key : BitVec 256) (rc : Nat) (fromModule : Bool) (bs : List Byte) : List Byte :=
  (beBytesOf 16 (Config.cmac (beBytesOf 32 key.toNat) (leBytesOf 4 rc ++ [if fromModule then 1 else 0] ++ bs)).toNat).take 8

/-- A session. -/
def Chip.session (c : Chip) (s : Nat) : Option DdpSession := look none c.ddp.sessions s

/-- Change a session. -/
def Chip.updSession (c : Chip) (s : Nat) (f : DdpSession → DdpSession) : Chip :=
  c.updDdp fun b => { b with sessions := upd none b.sessions s fun x => x.map f }

/-- The bytes of a packet as sent, with its tag over `extra` and itself where it belongs to a session. -/
def Chip.sealed (c : Chip) (p : DdpPacket) (ses : Option (Nat × Nat)) (extra : List Byte) : List Byte :=
  match ses with
  | none => packetBody p
  | some (s, rc) => match c.session s with
    | none => packetBody p
    | some x =>
      let p := { p with auth := true }
      packetBody p ++ ddpTag x.key rc true (extra ++ packetBody p)

/-- The response to a request: the header with DST and SRC exchanged and RESP = 1 (R389). -/
def Chip.answerTo (c : Chip) (p : DdpPacket) (status type : Nat) (data : List Byte) : DdpPacket :=
  { p with auth := false, resp := true, dst := p.src, src := BitVec.ofNat 18 (c.get DDP_SNI_SNI), status := BitVec.ofNat 8 status
           type := BitVec.ofNat 8 type, segno := 0, data := data, tag := [] }

/-- Answer a request: count it, send the response, and keep it as the session's last. -/
def Chip.ddpAnswer (c : Chip) (v : DdpVia) (p : DdpPacket) (ses : Option (Nat × Nat)) (status type : Nat) (data : List Byte) : Chip :=
  let c := if status = stOK then c.satInc DDP_CNT0_OK else c.satInc DDP_CNT0_REFUSED
  let c := c.when (status == stDENIED_WORLD || status == stDENIED_STATE) fun c => c.raise 704
  let c := c.when (status == stSEQUENCE && ses.isSome) fun c => c.raise 706
  let bs := c.sealed (c.answerTo p status type data) ses []
  let c := match ses with
    | some (s, _) => c.updSession s fun x => { x with last := bs }
    | none => c
  c.ddpSend v bs

/-! ### Transfers (R397, R398) -/

/-- A transfer. -/
def Chip.xfer (c : Chip) (x : Nat) : Option DdpXfer := look none c.ddp.xfers x

/-- Change a transfer. -/
def Chip.updXfer (c : Chip) (x : Nat) (f : DdpXfer → DdpXfer) : Chip :=
  c.updDdp fun b => { b with xfers := upd none b.xfers x fun t => t.map f }

/-- Release a transfer context with its hold; a firmware request of it is forgotten. -/
def Chip.xferGone (c : Chip) (x : Nat) : Chip :=
  let c := c.updDdp fun b => { b with xfers := put none b.xfers x none, fwReqs := b.fwReqs.filter fun r => r.waiter != .xfer x }
  c.set DDP_STAT_XFERS c.ddp.xfers.length

/-- An engine's own packet of a transfer: DACK, DEND or ABORT. -/
def Chip.xferPacket (c : Chip) (t : DdpXfer) (cmd status segno : Nat) (data extra : List Byte) : List Byte :=
  c.sealed { t.head with auth := false, resp := false, cmd := BitVec.ofNat 8 cmd, dst := t.head.src
                         src := BitVec.ofNat 18 (c.get DDP_SNI_SNI), status := BitVec.ofNat 8 status, type := 0
                         segno := BitVec.ofNat 16 segno, data := data, tag := [] } t.session extra

/-- The engine ends a transfer with ABORT. -/
def Chip.xferAbort (c : Chip) (x status : Nat) : Chip :=
  match c.xfer x with
  | none => c
  | some t => (((c.ddpSend t.via (c.xferPacket t 8 status 0 [] [])).xferGone x).satInc DDP_CNT1_ABORTS).raise 709

/-! ### Sessions (R402) -/

/-- Show the number of open sessions. -/
def Chip.showSessions (c : Chip) : Chip := c.set DDP_STAT_SESSIONS c.ddp.sessions.length

/-- A session ends: its transfers are aborted, its bound key goes, EV0708; it refuses packets no longer. -/
def Chip.sessionEnds (c : Chip) (s status : Nat) : Chip :=
  match c.session s with
  | none => c
  | some _ =>
    let mine := (c.ddp.xfers.filter fun e => match e.2 with
      | some t => (match t.session with | some (n, _) => n == s | none => false)
      | none => false).map (·.1)
    let c := forEach mine (fun x c => c.xferAbort x status) c
    let c := c.updDdp fun b => { b with sessions := put none b.sessions s none }
    let c := c.updKey fun b => { b with bound := put none b.bound s none }
    (c.showSessions.raise 708).gateReopen (.ses s)

end Sys2Proof.Machine
end

