-- ==== Sys2Proof/Machine/Keys.lean ====
section
/-! DEFINITION. The key store: R414–R439. -/

namespace Sys2Proof.Machine

/-! ### First start and health (R415, R417) -/

/-- KEY_GENERATION: the first start commits the crown secret and the identity key. -/
def Chip.keyGeneration (c : Chip) : Chip :=
  c.when (c.key.gen && c.key.lcs == lcBLANK && !c.key.trngBad) fun c =>
    let crown : KeySlot := { w0 := BitVec.ofNat 128 ((0b001111 <<< 97) + (1 <<< (91 + useDERIVE)) + (1 <<< 86)), state := .ready
                             mat := c.randomBytes 32 }
    let id : KeySlot := { w0 := BitVec.ofNat 128 (((2 ^ 20 - 1) <<< 108) + (0b001111 <<< 97) + (1 <<< (91 + useSIGN)) + (4 <<< 86))
                          state := .ready, mat := c.drawn.randomBytes 512 }
    let c := c.drawn.drawn
    ((c.updKey fun b => { b with
        slots := put {} (put {} b.slots 0 crown) 1 id, modulus := beBytesOf 512 (Config.rsaModulus id.mat).toNat, crown := true
        idkey := true, gen := false }).showKey).raise 736

def execKeyGeneration (s : State) : Host.Outcome State Fault Refusal := s.onZone Chip.keyGeneration

/-- TRNG_HEALTH_FAIL: nothing draws random numbers until the next wide reset, whether or not the flag is cleared (R417). -/
def execTrngHealthFail (s : State) : Host.Outcome State Fault Refusal :=
  s.onZone fun c => ((c.updKey fun b => { b with trngBad := true }).stick KEY_STAT_TRNGFAIL).raise 743

/-! ### Sessions and acceptance (R423, R429) -/

/-- The function whose session window a requester uses. -/
def Who.fn (w : Who) : Nat := w.vf.getD 64

/-- The world of a function: PF0's is W1. -/
def Chip.fnWorld (c : Chip) (f : Nat) : Nat := if f = 64 then 1 else c.get (SFE_FN_CFG_WORLD f)

/-- The crypto session a requester names by its local number: only the holding function's world has it. -/
def Chip.keySession (c : Chip) (w : Who) (i : Nat) : Option Nat :=
  if c.fnWorld w.fn = w.world then c.localIndex w.fn 3 i else none

/-- The slot that number `n` in a session of function `f` names: local in a VF's window; PF0's sessions name slots 0 and 1, which lie
outside the functions, and PF0's own. -/
def Chip.keySlotOf (c : Chip) (f n : Nat) : Option Nat :=
  if f = 64 then (if n < 2 || c.inRange 64 4 n then some n else none) else c.localIndex f 4 n

/-- Set a session's result. -/
def Chip.keyResult (c : Chip) (ses : Nat) (during : Bool) (why status : Nat) : Chip :=
  c.wrN (CSES_RES ses) ((b2n during <<< 30) + (why <<< 24) + ((status % 256) <<< 16))

/-- A refused invocation of a session (R423). -/
def Chip.keyRefuse (c : Chip) (ses why status : Nat) : Chip := (c.keyResult ses false why status).keyRefused

/-- The key types and the usage bit that operation `op` needs of slot A; none where it uses no key. -/
def keyNeeds (op : Nat) : Option (List Nat × Option Nat) :=
  match op with
  | 1 => some ([3], some useENCRYPT)
  | 2 => some ([3], some useDECRYPT)
  | 3 => some ([3], some useMAC)
  | 4 => some ([3], some useMAC)
  | 6 => some ([4], some useSIGN)
  | 7 => some ([5], some useVERIFY)
  | 8 => some ([1, 2], some useDERIVE)
  | 9 => some ([3], some useDECRYPT)
  | 10 => some ([1, 2, 3, 4, 5], none)
  | 12 => some ([4], some useSIGN)
  | 14 => some ([1, 2, 3, 4, 5], none)
  | _ => none

/-- The bytes of an operation's parameter block. -/
def paramLen (op : Nat) : Nat :=
  match op with
  | 1 => 16
  | 2 => 32
  | 4 => 16
  | 8 => 112
  | 9 => 16
  | 10 => 16
  | _ => 0

/-- Word 0 of the target slot as the parameter block of `op` gives it. -/
def targetW0 (op : Nat) (params : List Byte) : Nat := leNat ((params.drop (if op = 8 then 96 else 0)).take 16)

/-- Whether an operation's length and parameters are in range (check 11). -/
def lengthOk (op len : Nat) (params : List Byte) : Bool :=
  let aad := leNat ((params.drop 12).take 4)
  match op with
  | 1 => decide (16 + aad ≤ len)
  | 2 => decide (32 + aad ≤ len)
  | 4 => decide (16 ≤ len)
  | 6 => len == 64
  | 7 => len == 576
  | 8 => len == 112
  | 9 => len == (if kwSalt (targetW0 9 params) then 72 else 56)
  | 10 => len == 528
  | 12 => len == 64
  | _ => true

/-- A free entry of the public-key store. -/
def Chip.pubFree (c : Chip) : Option Nat := (List.range 32).find? fun i => (look [] c.key.pubs i).isEmpty

/-- The check of a new slot B under A (R419): the status of its refusal, if any. -/
def Chip.targetCheck (c : Chip) (op a : Nat) (b : Option Nat) (params : List Byte) : Option Nat :=
  let n := targetW0 op params
  let old := c.slotW0 a
  let level := (c.slot a).level + 1
  match b with
  | none => some stBUSY
  | some b =>
    let k := c.slot b
    if (k.state != .free && k.state != .dead) || b < 2 || c.key.jobs.any (fun j => [8, 9, 10].contains j.op && j.b == b) then some stBUSY
    else if kwMasters n &&& kwMasters old ≠ kwMasters n || kwWorlds n &&& kwWorlds old ≠ kwWorlds n ||
        kwLcs n &&& kwLcs old ≠ kwLcs n || (kwDbgok n && !kwDbgok old) || decide (7 < level) ||
        (bit (kwUsage n) useDERIVE && decide (7 ≤ level)) || !(if op = 10 then [5] else [2, 3]).contains (kwType n) ||
        (kwSalt n && kwType n != 3) || bits n 84 64 ≠ 0 || bits n 31 0 ≠ 0 then some stRANGE
    else if op = 10 && c.pubFree.isNone then some stBUSY
    else none

/-- The world that extends measurement register `m` (R430). -/
def measureWorld (m : Nat) : Nat :=
  match m with
  | 0 => 0
  | 1 => 0
  | 3 => 2
  | 4 => 3
  | _ => 1

/-- The checks of R423 before acceptance, with WHY and status of the first that fails. -/
def Chip.keyAccept (c : Chip) (op a : Nat) (aOk : Bool) (b : Option Nat) (ses len : Nat) (w : Who) (params : List Byte) :
    Option (Nat × Nat) :=
  if op = 12 && !(decide (lcPROVISIONED ≤ c.key.lcs) && decide (c.key.lcs ≤ lcWORKSHOP)) then some (4, stDENIED_STATE)
  else if (op = 11 || op = 8) && c.key.trngBad then some (0, stNOT_NOW)
  else if op = 13 && measureWorld (a % 8) ≠ w.world then some (6, stDENIED_WORLD)
  else
    let keyed := match keyNeeds op with
      | none => none
      | some (ts, u) => if aOk then c.keyCheck a w.mid w.world ts u (some ses) else some (1, stRANGE)
    keyed.orElse fun _ =>
      if !lengthOk op len params then some (11, stRANGE)
      else if [8, 9, 10].contains op then (c.targetCheck op a b params).map fun st => (11, st)
      else none

/-- The function of a session's traffic as a tag (R348). -/
def Chip.keyTag (c : Chip) (fn : Nat) : Tag := c.fnTag 16 fn

/-- Take or release a hold (R425). -/
def Chip.keyHoldDo (c : Chip) (w : Who) (ses a : Nat) (rel : Bool) : Chip :=
  if rel then
    match look none c.key.holds a with
    | some h =>
      if h.ses = ses then (c.updKey fun b => { b with holds := put none b.holds a none }).keyResult ses false 0 stOK
      else c.keyRefuse ses 10 stBUSY
    | none => c.keyRefuse ses 11 stNOT_NOW
  else
    (c.updKey fun b => { b with
      holds := put none b.holds a (some { ses := ses, fn := w.fn, mid := w.mid, world := w.world
                                          expiry := c.frc + c.get KEY_LIM_HOLDL * 1000000 }) }).keyResult ses false 0 stOK

/-- An invalidation of slot `p` (R426): it becomes REVOKED, its ready descendants ORPHAN, running operations on them are marked, and
bound keys that descend from it end their dictionary sessions. -/
def Chip.keyInvalidate (c : Chip) (p : Nat) : Chip :=
  let hit := (c.key.slots.filter fun e => e.1 == p || (e.2.state == .ready && e.2.anc.contains p)).map (·.1)
  let c := forEach hit (fun n c => c.updSlot n fun k => { k with state := if n = p then .revoked else .orphan }) c
  let c := c.updKey fun b => { b with jobs := b.jobs.map fun (j : KeyJob) =>
    if j.engine.isSome && (keyNeeds j.op).isSome && hit.contains j.a then { j with during := true } else j }
  let ended := (c.key.bound.filter fun e => match e.2 with | some l => l.contains p | none => false).map (·.1)
  (forEach ended (fun s c => c.sessionEnds s stKEY_REVOKED) c).raise 737

/-- The status with which an invalidation of slot `p` is refused. -/
def Chip.invalRefusal (c : Chip) (p : Nat) : Option Nat :=
  if p < 2 then some stRANGE else if (c.slot p).state = .free then some stNO_OBJECT else none

/-- A write of CSES_GO of local session `i` (R423, R429). -/
def State.keyGo (s : State) (w : Who) (i : Nat) : State :=
  let c := s.chip
  match c.keySession w i with
  | none => match w.vf with
    | some v => { s with chip := c.set (VF_STAT_LASTERR v) stRANGE }
    | none => s
  | some ses =>
    if c.flag (CSES_RES_BUSY ses) then { s with chip := c.set KEY_STAT_LASTERR stBUSY }
    else
      let op := c.get (CSES_OP_OP ses)
      let n := c.get (CSES_OP_SLOTA ses)
      let aOpt := if op = 12 then some 1 else c.keySlotOf w.fn n
      let a := if op = 13 then n else aOpt.getD 0
      let b := c.keySlotOf w.fn (c.get (CSES_OP_SLOTB ses))
      let len := c.get (CSES_LEN_LEN ses)
      if c.key.gen then { s with chip := c.keyRefuse ses 0 stNOT_NOW }
      else if lcRETURNED ≤ c.key.lcs then { s with chip := c.keyRefuse ses 4 stDENIED_STATE }
      else if w.fn < 64 && c.get (SFE_FN_CFG_STATE w.fn) != 2 then { s with chip := c.keyRefuse ses 0 stNOT_NOW }
      else if op = 0 then { s with chip := c.keyRefuse ses 11 stRANGE }
      else if op = 15 then
        match aOpt with
        | none => { s with chip := c.keyRefuse ses 1 stRANGE }
        | some p => match c.invalRefusal p with
          | some st => { s with chip := c.keyRefuse ses (if st = stRANGE then 1 else 2) st }
          | none => { s with chip := (c.keyInvalidate p).keyResult ses false 0 stOK }
      else
        let need := paramLen op
        let r : Option (List Byte) × State := if need = 0 || len < need then (some [], s) else s.busRead (c.keyTag w.fn) (c.get (CSES_ADDR_IN ses)) need
        let s := r.2
        let c := s.chip
        match r.1 with
        | none => { s with chip := (c.keyRefuse ses 11 (Config.openValue c.freeCtr).toNat).drawn }
        | some params =>
          match (if len < need then some (11, stRANGE) else none) with
          | some x => { s with chip := match c.keyAccept op a aOpt.isSome b ses need w params with
              | some y => c.keyRefuse ses (if y.1 = 11 then x.1 else y.1) (if y.1 = 11 then x.2 else y.2)
              | none => c.keyRefuse ses x.1 x.2 }
          | none => match c.keyAccept op a aOpt.isSome b ses len w params with
            | some (why, st) => { s with chip := c.keyRefuse ses why st }
            | none =>
              if op = 14 then { s with chip := c.keyHoldDo w ses a (c.flag (CSES_OP_REL ses)) }
              else
                let j : KeyJob := { ses := ses, op := op, a := a, b := b.getD 0, len := len, inp := c.get (CSES_ADDR_IN ses)
                                    out := c.get (CSES_ADDR_OUT ses), fn := w.fn, mid := w.mid, world := w.world, params := params
                                    irq := c.flag (CSES_OP_IRQ ses) }
                { s with chip := (c.updKey fun b => { b with jobs := b.jobs ++ [j] }).wrN (CSES_RES ses) (1 <<< 31) }

/-- A GO command of operation `op`: it is this command where CSES_OP names the operation. -/
def State.keyGoOp (s : State) (w : Who) (i op : Nat) : State :=
  match s.chip.keySession w i with
  | some ses => if s.chip.get (CSES_OP_OP ses) = op then s.keyGo w i else s
  | none => s.keyGo w i

/-- A HOLD command, to take or to release. -/
def State.keyGoHold (s : State) (w : Who) (i : Nat) (rel : Bool) : State :=
  match s.chip.keySession w i with
  | some ses => if s.chip.flag (CSES_OP_REL ses) = rel then s.keyGoOp w i 14 else s
  | none => s.keyGo w i

def execGcmEnc (a : Agent) (ses : Fin 128) (s : State) : Host.Outcome State Fault Refusal := s.byMem a fun w s => s.keyGoOp w ses.val 1
def execGcmDec (a : Agent) (ses : Fin 128) (s : State) : Host.Outcome State Fault Refusal := s.byMem a fun w s => s.keyGoOp w ses.val 2
def execCmacGen (a : Agent) (ses : Fin 128) (s : State) : Host.Outcome State Fault Refusal := s.byMem a fun w s => s.keyGoOp w ses.val 3
def execCmacVer (a : Agent) (ses : Fin 128) (s : State) : Host.Outcome State Fault Refusal := s.byMem a fun w s => s.keyGoOp w ses.val 4
def execSha512 (a : Agent) (ses : Fin 128) (s : State) : Host.Outcome State Fault Refusal := s.byMem a fun w s => s.keyGoOp w ses.val 5
def execRsaSign (a : Agent) (ses : Fin 128) (s : State) : Host.Outcome State Fault Refusal := s.byMem a fun w s => s.keyGoOp w ses.val 6
def execRsaVer (a : Agent) (ses : Fin 128) (s : State) : Host.Outcome State Fault Refusal := s.byMem a fun w s => s.keyGoOp w ses.val 7
def execDerive (a : Agent) (ses : Fin 128) (s : State) : Host.Outcome State Fault Refusal := s.byMem a fun w s => s.keyGoOp w ses.val 8
def execUnwrap (a : Agent) (ses : Fin 128) (s : State) : Host.Outcome State Fault Refusal := s.byMem a fun w s => s.keyGoOp w ses.val 9
def execLoadpub (a : Agent) (ses : Fin 128) (s : State) : Host.Outcome State Fault Refusal := s.byMem a fun w s => s.keyGoOp w ses.val 10
def execRandom (a : Agent) (ses : Fin 128) (s : State) : Host.Outcome State Fault Refusal := s.byMem a fun w s => s.keyGoOp w ses.val 11
def execAttest (a : Agent) (ses : Fin 128) (s : State) : Host.Outcome State Fault Refusal := s.byMem a fun w s => s.keyGoOp w ses.val 12
def execMextend (a : Agent) (ses : Fin 128) (s : State) : Host.Outcome State Fault Refusal := s.byMem a fun w s => s.keyGoOp w ses.val 13

def execKeyHold (a : Agent) (ses : Fin 128) (s : State) : Host.Outcome State Fault Refusal :=
  s.byMem a fun w s => s.keyGoHold w ses.val false

def execKeyRel (a : Agent) (ses : Fin 128) (s : State) : Host.Outcome State Fault Refusal :=
  s.byMem a fun w s => s.keyGoHold w ses.val true

/-- A write of KEY_INVAL by W1. -/
def Chip.keyInvalWrite (c : Chip) (w : Who) (p : Nat) : Chip :=
  c.when (w.world == 1) fun c => match c.invalRefusal p with
    | some st => c.set KEY_STAT_LASTERR st
    | none => c.keyInvalidate p

def execKeyInval (a : Agent) (ses : Option (Fin 128)) (slot : Fin 1024) (s : State) : Host.Outcome State Fault Refusal :=
  s.byMem a fun w s => match ses with
    | some i => s.keyGoOp w i.val 15
    | none => { s with chip := s.chip.keyInvalWrite w slot.val }

/-! ### Engines (R424, R427) -/

/-- Whether engine `e` (0 and 1 AES, 2 hash, 3 RSA, 4 DRBG) runs operation `op`. -/
def engineRuns (e op : Nat) : Bool :=
  match e with
  | 2 => [5, 8, 13].contains op
  | 3 => [6, 7, 10, 12].contains op
  | 4 => op == 11
  | _ => [1, 2, 3, 4, 9].contains op

/-- Remove a job. -/
def Chip.dropJob (c : Chip) (ses : Nat) : Chip := c.updKey fun b => { b with jobs := b.jobs.filter fun j => j.ses != ses }

/-- The checks made again at the start (R423). -/
def Chip.startCheck (c : Chip) (j : KeyJob) : Option (Nat × Nat) :=
  if lcRETURNED ≤ c.key.lcs then some (4, stDENIED_STATE)
  else match keyNeeds j.op with
    | none => none
    | some _ => (c.keyStateCheck j.a).orElse fun _ => c.keyDebugCheck j.a

/-- The secret or public material an operation loads. -/
def Chip.keyLoad (c : Chip) (j : KeyJob) : List Byte :=
  match (c.slot j.a).pub with
  | some i => look [] c.key.pubs i
  | none => (c.slot j.a).mat

/-- KEY_OP_START: engine `e` takes the oldest operation that waits for it. -/
def Chip.keyOpStart (c : Chip) (e : Nat) : Chip :=
  if c.key.jobs.any fun j => j.engine == some e then c
  else match c.key.jobs.find? fun j => j.engine.isNone && engineRuns e j.op with
    | none => c
    | some j => match c.startCheck j with
      | some (why, st) => (c.dropJob j.ses).keyRefuse j.ses why st
      | none =>
        let keyed := (keyNeeds j.op).isSome
        let mat := if keyed then c.keyLoad j else []
        let c := c.updKey fun b => { b with jobs := b.jobs.map fun (x : KeyJob) =>
          if x.ses = j.ses then { x with engine := some e, mat := mat } else x }
        c.when keyed fun c => c.keyUsed j.a

def execKeyOpStart (e : Fin 5) (s : State) : Host.Outcome State Fault Refusal := s.onZone fun c => c.keyOpStart e.val

/-- The codes of R4: variant and stepping. -/
def Chip.variantCode (c : Chip) : Nat := if c.variantH then 0x48 else 0x4E

/-- Bytes 0 to 647 of the attestation report (R431). -/
def Chip.report (c : Chip) (nonce : List Byte) : List Byte :=
  let flags := b2n (c.flag RST_STAT_SEALED) + (b2n (c.flag RST_CAUSE_OPTFAIL) <<< 1) + (b2n (c.flag KEY_STAT_TRNGFAIL) <<< 2)
  [0x41, 0x58, 0x41, 0x54] ++ leBytesOf 2 1 ++ leBytesOf 2 1160 ++ leBytesOf 16 Config.serial.toNat ++ leBytesOf 3 (c.get DDP_SNI_SNI) ++
    leBytesOf 1 c.key.lcs ++ leBytesOf 1 c.variantCode ++ leBytesOf 1 c.stepping ++ leBytesOf 1 flags ++ leBytesOf 1 c.debugOpen ++
    leBytesOf 16 (c.tdRead 0 c.frc) ++ leBytesOf 8 c.frc ++ nonce ++
    ((List.range 32).flatMap fun i => leBytesOf 16 (c.rdN (KEY_MEAS (i / 4) (i % 4)))) ++ leBytesOf 16 (c.rdN KEY_MCNT)

/-- A measurement register as bytes. -/
def Chip.measureBytes (c : Chip) (m : Nat) : List Byte := (List.range 4).flatMap fun i => leBytesOf 16 (c.rdN (KEY_MEAS m i))

/-- Extend measurement register `m` by a digest (R430). -/
def Chip.extend (c : Chip) (m : Nat) (digest : List Byte) : Chip :=
  let v := leNat (beBytesOf 64 (Config.sha512 (c.measureBytes m ++ digest)).toNat)
  let c := forAll 4 (fun i c => c.wrN (KEY_MEAS m i) (bits v (128 * i + 127) (128 * i))) c
  c.wr KEY_MCNT (setBits (c.rd KEY_MCNT) (16 * m + 15) (16 * m) (bits (c.rdN KEY_MCNT) (16 * m + 15) (16 * m) + 1))

/-- Create slot B of an operation under A (R419): READY with its material, or DEAD where A was invalidated meanwhile (R427). -/
def Chip.keyCreate (c : Chip) (j : KeyJob) (mat : List Byte) (pub : Bool) : Chip :=
  let a := c.slot j.a
  let new : KeySlot := { w0 := BitVec.ofNat 128 (targetW0 j.op j.params), state := .ready, level := a.level + 1, parent := j.a
                         anc := c.lineOf j.a }
  if j.during then c.updSlot j.b fun _ => { new with state := .dead }
  else if pub then
    match c.pubFree with
    | some i => (c.updKey fun b => { b with pubs := put [] b.pubs i mat }).updSlot j.b fun _ => { new with pub := some i }
    | none => c
  else c.updSlot j.b fun _ => { new with mat := mat }

/-- What an operation does with its input: the bytes it writes, or a status; and its effect on the key store. -/
def Chip.keyCompute (c : Chip) (j : KeyJob) (data : List Byte) : Nat × List Byte × Chip :=
  let key := j.mat.take 32
  let iv := data.take 12
  let aad (k : Nat) := (data.drop k).take (leNat ((data.drop 12).take 4))
  let rest (k : Nat) := data.drop (k + leNat ((data.drop 12).take 4))
  let stream (bs : List Byte) : List Byte := bs.zipIdx.map fun x => x.1 ^^^ Config.gcmStream key iv x.2
  let digest := BitVec.ofNat 512 (beNat (data.take 64))
  match j.op with
  | 1 =>
    let ct := stream (rest 16)
    (stOK, ct ++ beBytesOf 16 (Config.gcmTag key iv (aad 16) ct).toNat, c)
  | 2 =>
    if beBytesOf 16 (Config.gcmTag key iv (aad 32) (rest 32)).toNat = (data.drop 16).take 16 then (stOK, stream (rest 32), c)
    else (stINTEGRITY, [], c)
  | 3 => (stOK, beBytesOf 16 (Config.cmac key data).toNat, c)
  | 4 =>
    if beBytesOf 16 (Config.cmac key (data.drop 16)).toNat = data.take 16 then (stOK, [], c) else (stINTEGRITY, [], c)
  | 5 => (stOK, beBytesOf 64 (Config.sha512 data).toNat, c)
  | 6 => (stOK, beBytesOf 512 (Config.rsaSign j.mat digest c.freeCtr).toNat, c.drawn)
  | 7 => (if Config.rsaVerify j.mat digest (data.drop 64) then stOK else stINTEGRITY, [], c)
  | 8 =>
    let n := if kwSalt (targetW0 8 j.params) then 352 else 256
    (stOK, [], c.keyCreate j (kdf j.mat (data.take 32) ((data.drop 32).take 64) n) false)
  | 9 => match Config.kwpOpen key (data.drop 16) with
    | none => (stINTEGRITY, [], c)
    | some v => (stOK, [], c.keyCreate j ((beBytesOf 44 v.toNat).take (if kwSalt (targetW0 9 j.params) then 44 else 32)) false)
  | 10 => (stOK, [], c.keyCreate j (data.drop 16) true)
  | 11 => (stOK, c.randomBytes j.len, c.drawn)
  | 12 =>
    let r := c.report data
    (stOK, r ++ beBytesOf 512 (Config.rsaSign j.mat (Config.sha512 r) c.freeCtr).toNat, c.drawn)
  | 13 => (stOK, [], c.extend (j.a % 8) (beBytesOf 64 (Config.sha512 data).toNat))
  | _ => (stOK, [], c)

/-- Tell the session's function that its operation has completed: EV0745, or a vector of the VF whose number the spec leaves open. -/
def Chip.keyIrq (c : Chip) (j : KeyJob) : Chip :=
  if !j.irq then c
  else if j.fn = 64 then c.raise 745
  else (c.raiseVector j.fn ((Config.openValue c.freeCtr).toNat % 64)).drawn

/-- An operation ends with its status (R427). -/
def Chip.keyEnds (c : Chip) (j : KeyJob) (st : Nat) : Chip :=
  let c := c.dropJob j.ses
  let c := if j.during then ((c.keyResult j.ses true 0 stKEY_REVOKED).satInc KEY_CNT_DURING).raise 738
    else if j.op = 9 && st = stINTEGRITY then c.keyRefuse j.ses 11 st
    else c.keyResult j.ses false 0 st
  c.keyIrq j

/-- KEY_OP_COMPLETE: the operation on engine `e` reads its input, computes, and writes its output; an error response leaves it with a
status that the spec does not give. -/
def State.keyOpComplete (s : State) (e : Nat) : State :=
  match s.chip.key.jobs.find? fun j => j.engine == some e with
  | none => s
  | some j =>
    let t := s.chip.keyTag j.fn
    let failed (s : State) : State := { s with chip := (s.chip.keyEnds j (Config.openValue s.chip.freeCtr).toNat).drawn }
    match (if j.op = 11 then (some [], s) else s.busRead t j.inp j.len) with
    | (none, s) => failed s
    | (some data, s) =>
      let r := s.chip.keyCompute j data
      let s := { s with chip := r.2.2 }
      if r.2.1.isEmpty then { s with chip := s.chip.keyEnds j r.1 }
      else match s.busWrite t j.out r.2.1 with
        | (false, s) => failed s
        | (true, s) => { s with chip := s.chip.keyEnds j r.1 }

def execKeyOpComplete (e : Fin 5) (s : State) : Host.Outcome State Fault Refusal := s.onZoneMem fun s => s.keyOpComplete e.val

/-- KEY_ZEROISE: a revoked or orphaned slot on which nothing runs loses its material and becomes DEAD (R428). -/
def Chip.keyZeroise (c : Chip) (n : Nat) : Chip :=
  let k := c.slot n
  let busy := c.key.jobs.any fun j => j.engine.isSome && (keyNeeds j.op).isSome && j.a == n
  c.when ((k.state == .revoked || k.state == .orphan) && !busy) fun c =>
    let c := match k.pub with
      | some i => c.updKey fun b => { b with pubs := put [] b.pubs i [] }
      | none => c
    c.updSlot n fun k => { k with state := .dead, revokedCause := k.state == .revoked, mat := [], pub := none }

def execKeyZeroise (slot : Fin 1024) (s : State) : Host.Outcome State Fault Refusal := s.onZone fun c => c.keyZeroise slot.val

/-- A hold ends by expiry or revocation (R425). -/
def Chip.keyHoldEnds (c : Chip) (n : Nat) : Chip := (c.updKey fun b => { b with holds := put none b.holds n none }).raise 744

/-- KEY_HOLD_EXPIRY. -/
def Chip.keyHoldExpiry (c : Chip) (n : Nat) : Chip :=
  match look none c.key.holds n with
  | some h => c.when (c.due h.expiry && !c.revoking { kind := 2, index := n }) fun c => c.keyHoldEnds n
  | none => c

def execKeyHoldExpiry (slot : Fin 1024) (s : State) : Host.Outcome State Fault Refusal := s.onZone fun c => c.keyHoldExpiry slot.val

/-! ### Life cycle (R432–R434) -/

/-- A life-cycle transition: tokens' debug worlds close, EV0740. -/
def Chip.lcEnter (c : Chip) (n : Nat) : Chip :=
  ((c.updKey fun b => { b with lcs := n, tokWorlds := 0, zeroise := b.zeroise || n == lcRETURNED }).showKey).raise 740

/-- The status of a life-cycle command. -/
def Chip.lcResult (c : Chip) (st : Nat) : Chip := c.set KEY_LCRES_STATUS st

/-- KEY_AUTHHASH as a number. -/
def Chip.authHash (c : Chip) : Nat := forAll 4 (fun i (n : Nat) => n + (c.rdN (KEY_AUTHHASH i) <<< (128 * i))) 0

/-- The ADVANCE command. -/
def Chip.lcAdvance (c : Chip) (w : Who) : Chip :=
  if c.key.lcs = lcBLANK && c.key.crown && c.key.idkey && w.world < 2 then (c.lcEnter lcPROVISIONED).lcResult stOK
  else if c.key.lcs = lcPROVISIONED && c.authHash != 0 && w.world = 1 then (c.lcEnter lcFIELD).lcResult stOK
  else c.lcResult stDENIED_STATE

/-- The DECOMMISSION command. -/
def Chip.lcDecommission (c : Chip) : Chip :=
  if c.key.lcs = lcRETURNED then (c.lcEnter lcDECOMMISSIONED).lcResult stOK else c.lcResult stDENIED_STATE

/-- Renew the nonce (R433). -/
def Chip.newNonce (c : Chip) : Chip :=
  let bs := c.randomBytes 32
  ((c.wrN (KEY_LCNONCE 0) (leNat (bs.take 16))).wrN (KEY_LCNONCE 1) (leNat (bs.drop 16))).drawn

/-- Whether a token's target is allowed from the current state (R432); a debug-only token changes no state. -/
def Chip.targetAllowed (c : Chip) (target : Nat) : Bool :=
  let l := c.key.lcs
  match target with
  | 0 => true
  | 3 => l == lcWORKSHOP
  | 4 => l == lcFIELD
  | _ => decide (lcPROVISIONED ≤ l) && decide (l ≤ lcWORKSHOP)

/-- The check of a token (R433): the status. -/
def Chip.tokenCheck (c : Chip) (t : List Byte) : Nat :=
  let target := leNat ((t.drop 5).take 1)
  let modulus := (t.drop 56).take 512
  if t.take 4 ≠ [0x41, 0x58, 0x4C, 0x54] || leNat ((t.drop 4).take 1) ≠ 1 || !([0, 3, 4, 5].contains target) ||
      leNat ((t.drop 6).take 1) ≥ 32 || leNat ((t.drop 7).take 1) ≠ 0 then stRANGE
  else if c.authHash = 0 then stDENIED_STATE
  else if leNat (beBytesOf 64 (Config.sha512 modulus).toNat) ≠ c.authHash then stINTEGRITY
  else if !Config.rsaVerify modulus (Config.sha512 (t.take 568)) ((t.drop 568).take 512) then stINTEGRITY
  else if leNat ((t.drop 8).take 16) ≠ Config.serial.toNat then stRANGE
  else if leNat ((t.drop 24).take 32) ≠ c.rdN (KEY_LCNONCE 0) + (c.rdN (KEY_LCNONCE 1) <<< 128) then stSEQUENCE
  else if !c.targetAllowed target then stDENIED_STATE
  else stOK

/-- What a token that passes does. -/
def Chip.tokenDo (c : Chip) (t : List Byte) : Chip :=
  let target := leNat ((t.drop 5).take 1)
  if target = 0 then
    let before := c.debugOpen
    let c := (c.updKey fun b => { b with tokWorlds := leNat ((t.drop 6).take 1) }).showKey
    c.when ((c.debugOpen &&& before) != c.debugOpen) fun c => c.raise 742
  else c.lcEnter target

/-- The TOKEN command: the token is read and checked, and the nonce renewed whatever the outcome. -/
def State.lcToken (s : State) (w : Who) : State :=
  match s.busRead { mid := 16, world := w.world, vf := none } (s.chip.get KEY_TOKADDR_ADDR) 1080 with
  | (none, s) => { s with chip := ((s.chip.lcResult (Config.openValue s.chip.freeCtr).toNat).drawn.newNonce).raise 741 }
  | (some t, s) =>
    let c := s.chip
    let st := c.tokenCheck t
    let c := (if st = stOK then c.tokenDo t else c.raise 741).lcResult st
    { s with chip := c.newNonce }

/-- A write of KEY_LC (R432, R436). -/
def State.keyLcWrite (s : State) (w : Who) (v : Nat) : State :=
  if !bit v 31 || s.chip.flag KEY_LCRES_BUSY then s
  else match bits v 3 0 with
    | 1 => if w.world < 2 then { s with chip := s.chip.lcAdvance w } else s
    | 2 => if w.world = 1 || w.world = 4 then s.lcToken w else s
    | 3 => if w.world = 1 || w.world = 4 then { s with chip := s.chip.lcDecommission } else s
    | _ => s

def execAdvance (a : Agent) (v : W32) (s : State) : Host.Outcome State Fault Refusal := s.byMem a fun w s => s.keyLcWrite w v.toNat
def execToken (a : Agent) (v : W32) (s : State) : Host.Outcome State Fault Refusal := s.byMem a fun w s => s.keyLcWrite w v.toNat
def execDecommission (a : Agent) (v : W32) (s : State) : Host.Outcome State Fault Refusal := s.byMem a fun w s => s.keyLcWrite w v.toNat

/-- RETURNED_ZEROISE: every slot, the public-key store and KEY_AUTHHASH are erased; the modulus object stays (R434). -/
def Chip.returnedZeroise (c : Chip) : Chip :=
  c.when c.key.zeroise fun c =>
    let used := (c.key.slots.filter fun e => e.2.state != .free).map (·.1)
    let c := forEach used (fun n c => c.updSlot n fun k => { k with state := .dead, revokedCause := true, mat := [], pub := none }) c
    let c := forAll 4 (fun i c => c.wrN (KEY_AUTHHASH i) 0) c
    (c.updKey fun b => { b with pubs := [], crown := false, idkey := false, zeroise := false }).showKey

def execReturnedZeroise (s : State) : Host.Outcome State Fault Refusal := s.onZone Chip.returnedZeroise

/-- A write of a word of KEY_AUTHHASH (R433). -/
def Chip.authHashWrite (c : Chip) (w : Who) (k : Nat) (v : W128) : Chip :=
  c.when (w.world == 1) fun c =>
    if c.key.lcs ≠ lcPROVISIONED || c.rdN (KEY_AUTHHASH k) ≠ 0 then c.set KEY_STAT_LASTERR stDENIED_STATE
    else c.wr (KEY_AUTHHASH k) v

def execKeyAuthhashWrite (a : Agent) (k : Fin 4) (v : W128) (s : State) : Host.Outcome State Fault Refusal :=
  s.by a fun w c => c.authHashWrite w k.val v

/-- KEY_ARRAY_ECC: an uncorrectable error in the array; the slot is zeroised and DEAD. -/
def Chip.keyArrayEcc (c : Chip) (n : Nat) : Chip :=
  let c := match (c.slot n).pub with
    | some i => c.updKey fun b => { b with pubs := put [] b.pubs i [] }
    | none => c
  ((c.updSlot n fun k => { k with state := .dead, revokedCause := true, mat := [], pub := none }).stick KEY_STAT_NVERR).raise 746

def execKeyArrayEcc (slot : Fin 1024) (s : State) : Host.Outcome State Fault Refusal := s.onZone fun c => c.keyArrayEcc slot.val

/-- A write of KEY_CTL. -/
def Chip.keyCtlWrite (c : Chip) (w : Who) (v : Nat) : Chip := c.when (w.world == 1 && bit v 0) fun c => c.wrN KEY_CNT 0

def execKeyClrcnt (a : Agent) (v : W32) (s : State) : Host.Outcome State Fault Refusal := s.by a fun w c => c.keyCtlWrite w v.toNat

/-! ### Reset, sleep and functions (R352, R353, R357, R439) -/

/-- End the operations that `p` selects, with a status in their results. -/
def Chip.keyEndAll (c : Chip) (p : KeyJob → Bool) (st : Nat) : Chip :=
  let c := forEach (c.key.jobs.filter p) (fun j c => c.keyResult j.ses false 0 st) c
  c.updKey fun b => { b with jobs := b.jobs.filter fun j => !p j }

/-- A reset of warm reach or wider; from system reach on, tokens' debug worlds close and a failed TRNG is tried again (R417). -/
def Chip.keyReset (c : Chip) (reach : Nat) : Chip :=
  let c := if reach = 2 then c.keyEndAll (fun _ => true) stNOT_NOW else c.updKey fun b => { b with jobs := [] }
  let c := c.updKey fun b => { b with bound := [], holds := [] }
  let c := c.when (decide (3 ≤ reach)) fun c => c.updKey fun b => { b with tokWorlds := 0, trngBad := false }
  c.newNonce.showKey

/-- Sleep entry: sessions end, bound keys are cleared; and the resume renews the nonce. -/
def Chip.keySleep (c : Chip) : Chip :=
  (c.keyEndAll (fun _ => true) stNOT_NOW).updKey fun b => { b with bound := [], holds := [] }

/-- The crypto sessions of VF `f` end in its partition reset. -/
def Chip.keyVfReset (c : Chip) (f : Nat) : Chip :=
  let c := c.updKey fun b => { b with
    jobs := b.jobs.filter fun j => j.fn != f }
  let r := c.rangeOf f 3
  forAll r.2 (fun i c => (((c.wrN (CSES_OP (r.1 + i)) 0).wrN (CSES_RES (r.1 + i)) 0).wrN (CSES_LEN (r.1 + i)) 0).wrN
    (CSES_ADDR (r.1 + i)) 0) c

/-- Quiesce of VF `f`: its queued operations end with NOT_NOW. -/
def Chip.keyVfQuiesce (c : Chip) (f : Nat) : Chip := c.keyEndAll (fun j => j.fn == f && j.engine.isNone) stNOT_NOW

/-- FORCE of VF `f`: its running operations end with TIMEOUT and nothing is written. -/
def Chip.keyVfForce (c : Chip) (f : Nat) : Chip := c.keyEndAll (fun j => j.fn == f) stTIMEOUT

end Sys2Proof.Machine
end

