-- ==== Sys2Proof/Machine/Claims.lean ====
section
/-! DEFINITION. Credit watch, conflict log, locks and revocation as commands: R536–R550. -/

namespace Sys2Proof.Machine

/-! ### Credit watch (R536, R537) -/

/-- CREDIT_WAIT_LIMIT: a wait passes the limit of its class: its record, the event, and with CWACT the revocation of the lease. -/
def Chip.creditWait (c : Chip) (k unit : Nat) (a : Agent) (us : Nat) (lease : Option LeaseRef) : Chip :=
  let lim := c.get (CLM_CWLIM_US k)
  c.when (lim != 0 && decide (lim < us)) fun c =>
    let w := c.who a
    let l := match lease with
      | some l => (l.index <<< 91) + (l.kind <<< 89) + (1 <<< 88)
      | none => 0
    let r := (min us (2 ^ 27 - 1) <<< 101) + l + (unit <<< 80) + ((w.vf.getD 0) <<< 74) + (b2n w.vf.isSome <<< 73) + (w.mid <<< 67) +
      (k <<< 64) + c.frc % 2 ^ 64
    let c := ((c.wrN CLM_CWREC r).satInc CLM_CNT_CWREC).raise (840 + k)
    match lease with
    | some l => c.when (k != 0 && bit (c.get CLM_CWACT_ACT) (k - 1)) fun c => (c.revQueue l).revNext
    | none => c

def execCreditWaitLimit (k : Fin 5) (unit : Byte) (a : Agent) (us : Nat) (lease : Option (Fin 4 × Fin 1024)) (s : State) :
    Host.Outcome State Fault Refusal :=
  s.onZone fun c => c.creditWait k.val unit.toNat a us (lease.map fun l => { kind := l.1.val, index := l.2.val })

/-! ### Conflict log (R541) -/

/-- CLM_CONF_READ: a read of the lowest word removes the oldest record (R11). -/
def Chip.clmConfRead (c : Chip) (w : Who) : Chip :=
  let v := c.clm.conflicts.headD 0
  let c := (c.updClm fun b => { b with conflicts := b.conflicts.drop 1 }).showConfN
  (c.latch w.key CLM_CONF.addr v).respond w.key false (v.toNat % 2 ^ 32)

def execClmConfRead (a : Agent) (s : State) : Host.Outcome State Fault Refusal := s.by a fun w c => c.clmConfRead w

/-! ### Locks (R543) -/

/-- Show the holder of lock `i`. -/
def Chip.showLock (c : Chip) (i : Nat) : Chip :=
  match look none c.clm.locks i with
  | none => c.wrN (CLM_LOCK_OWN i) 0
  | some h => c.wrN (CLM_LOCK_OWN i)
    ((1 <<< 31) + (h.world <<< 28) + (h.mid <<< 9) + (b2n h.vf.isSome <<< 8) + ((h.vf.getD 0) <<< 2))

/-- What a read of lock `i` answers. -/
def lockAnswer (h : LockHold) (granted : Bool) : Nat :=
  (b2n granted <<< 31) + ((if granted then stOK else stBUSY) <<< 16) + (h.mid <<< 9) + (b2n h.vf.isSome <<< 8) + ((h.vf.getD 0) <<< 2)

/-- CLM_LOCK_ACQUIRE: a read acquires a free lock, renews the reader's own, or answers BUSY with the holder's fields. -/
def Chip.lockAcquire (c : Chip) (w : Who) (i : Nat) : Chip :=
  let mine : LockHold :=
    { key := w.key, mid := w.mid, vf := w.vf, world := w.world, expiry := c.frc + c.get (CLM_LOCK_CFG_US i) * 1000 }
  let grant (c : Chip) : Chip :=
    (((c.updClm fun b => { b with locks := put none b.locks i (some mine) }).showLock i)).respond w.key false (lockAnswer mine true)
  match look none c.clm.locks i with
  | none => grant c
  | some h => if h.key = w.key && h.world = w.world then grant c else c.respond w.key false (lockAnswer h false)

def execClmLockAcquire (a : Agent) (i : Fin 64) (s : State) : Host.Outcome State Fault Refusal :=
  s.by a fun w c => c.lockAcquire w i.val

/-- Lock `i` becomes free. -/
def Chip.lockFree (c : Chip) (i : Nat) : Chip := (c.updClm fun b => { b with locks := put none b.locks i none }).showLock i

/-- CLM_LOCK_RELEASE: a write by the holder; anyone else's is ignored with EV0838. -/
def Chip.lockRelease (c : Chip) (w : Who) (i : Nat) : Chip :=
  match look none c.clm.locks i with
  | some h => if h.key = w.key && h.world = w.world then c.lockFree i else c.raise 838
  | none => c.raise 838

def execClmLockRelease (a : Agent) (i : Fin 64) (s : State) : Host.Outcome State Fault Refusal :=
  s.by a fun w c => c.lockRelease w i.val

/-- CLM_LOCK_EXPIRY. -/
def Chip.lockExpiry (c : Chip) (i : Nat) : Chip :=
  match look none c.clm.locks i with
  | some h => c.when (c.due h.expiry && !c.revoking { kind := 0, index := i }) fun c => (c.lockFree i).raise 835
  | none => c

def execClmLockExpiry (i : Fin 64) (s : State) : Host.Outcome State Fault Refusal := s.onZone fun c => c.lockExpiry i.val

/-! ### Revocation (R544, R545) -/

/-- A refused write of the block: LASTERR and EV0832 (R547). -/
def Chip.clmRefuse (c : Chip) : Chip := c.refuse CLM_STAT_LASTERR stDENIED_WORLD 832

/-- The leases that a written CLM_REVOKE names: one, those of a MID, or those of a VF. -/
def Chip.revokeTargets (c : Chip) (v : Nat) : List LeaseRef :=
  match bits v 31 30 with
  | 0 =>
    let l : LeaseRef := { kind := bits v 29 28, index := bits v 9 0 }
    if (c.leaseHolder l).isSome then [l] else []
  | 1 => c.leasesOf (.mid (bits v 15 10))
  | _ => c.leasesOf (.vf (bits v 15 10))

/-- A write of CLM_REVOKE; a reserved TARGET is ignored. -/
def Chip.clmRevokeWrite (c : Chip) (w : Who) (v : Nat) : Chip :=
  if w.world ≠ 2 then c.clmRefuse
  else if bits v 31 30 = 3 then c
  else
    let b := c.clm
    if b.running.isSome || !b.todo.isEmpty || !b.queue.isEmpty || !b.pendingRev.isEmpty then c.set CLM_REVRES_STATUS stBUSY
    else match c.revokeTargets v with
      | [] => c.set CLM_REVRES_STATUS stNO_OBJECT
      | l => ((c.set CLM_REVRES_STATUS stOK).updClm fun b => { b with todo := l }).revNext

def execClmRevoke (a : Agent) (v : W32) (s : State) : Host.Outcome State Fault Refusal := s.by a fun w c => c.clmRevokeWrite w v.toNat

/-- Whether a bridge request belongs to a holder. -/
def holderKey (h : LeaseHolder) (mid vfBits : Nat) : Bool := holderOf mid (if 64 ≤ vfBits then some (vfBits - 64) else none) == h

/-- The requests of a holder that are still outstanding: those at the bridge, since every other one is answered as it is issued. -/
def Chip.outstanding (c : Chip) (h : LeaseHolder) : List BrgReq :=
  (c.brg.out ++ c.brg.queue).filter fun r => holderKey h r.mid r.vfBits

/-- A revoked lease is freed, with the event of its own block (R376, R402, R425). -/
def Chip.leaseFree (c : Chip) (l : LeaseRef) : Chip :=
  match l.kind with
  | 0 => c.lockFree l.index
  | 1 => c.brgLockEnds
  | 2 => c.keyHoldEnds l.index
  | _ =>
    if (look none c.ddp.sessions l.index).isSome then c.sessionEnds l.index stTIMEOUT
    else
      let c := c.updDdp fun b => { b with fwReqs := b.fwReqs.filter fun r => match r.waiter with
        | .loc s _ => s != l.index
        | _ => true }
      c.wrN (SES_RES l.index) (stTIMEOUT <<< 16)

/-- REVOCATION_DONE: the holder has drained, or its drain has passed the limit; the resource is freed and the next one starts. -/
def Chip.revDone (c : Chip) : Chip :=
  match c.clm.running with
  | none => c
  | some (l, h) =>
    c.when ((c.outstanding h).isEmpty || c.clm.drainOver) fun c =>
      let c := c.leaseFree l
      let c := ((c.satInc CLM_CNT_REVOKES).set CLM_REVRES_STATUS stOK).raise 836
      let c := c.updClm fun b => { b with running := none, drainOver := false }
      let left := (c.clm.queue ++ c.clm.pendingRev ++ c.clm.todo).any fun x => c.leaseHolder x == some h
      let c := c.when (c.clm.reopen.contains h && !left) fun c =>
        (c.updClm fun b => { b with reopen := b.reopen.filter (· != h) }).gateReopen h
      c.revNext

def execRevocationDone (s : State) : Host.Outcome State Fault Refusal := s.onZone Chip.revDone

/-- CLM_DRAIN_LIMIT: the drain has taken longer than DRAINLIM; what is outstanding is discarded when it arrives. -/
def Chip.drainLimit (c : Chip) : Chip :=
  match c.clm.running with
  | none => c
  | some (_, h) =>
    c.when (!(c.outstanding h).isEmpty && !c.clm.drainOver && c.due (c.clm.runStart + c.get CLM_DRAINLIM_US * 1000)) fun c =>
      let c := c.updBrg fun b => { b with
        out := b.out.filter fun r => !holderKey h r.mid r.vfBits
        queue := b.queue.filter fun r => !holderKey h r.mid r.vfBits }
      let c := c.updClm fun b => { b with drainOver := true }
      ((c.stick CLM_STAT_DRAINOVR).satInc CLM_CNT_DRAINS).raise 837

def execClmDrainLimit (s : State) : Host.Outcome State Fault Refusal := s.onZone Chip.drainLimit

/-- A write of CLM_ISOCLR by W2. -/
def Chip.isoClear (c : Chip) (w : Who) (v : Nat) : Chip :=
  if w.world ≠ 2 then c.clmRefuse
  else c.gateReopen (if bit v 31 then .vf (bits v 5 0) else .mid (bits v 5 0))

def execClmIsoclr (a : Agent) (v : W32) (s : State) : Host.Outcome State Fault Refusal := s.by a fun w c => c.isoClear w v.toNat

/-- A write of CLM_CTL by W2. -/
def Chip.clmCtlWrite (c : Chip) (w : Who) (v : Nat) : Chip :=
  if w.world ≠ 2 then c.clmRefuse else c.when (bit v 0) fun c => c.wrN CLM_CNT 0

def execClmClrcnt (a : Agent) (v : W32) (s : State) : Host.Outcome State Fault Refusal := s.by a fun w c => c.clmCtlWrite w v.toNat

/-! ### Reset and sleep (R550) -/

/-- A reset of warm reach or wider, or sleep entry: leases are freed, revocations end and every gate is open. -/
def Chip.clmReset (c : Chip) (wide : Bool) : Chip :=
  let c := forAll 64 (fun i c => c.wrN (CLM_LOCK_OWN i) 0) c
  let c := c.updClm fun b => { conflicts := if wide then [] else b.conflicts }
  ((c.wrN CLM_ISO 0).showIso).showRev

end Sys2Proof.Machine
end

