-- ==== Sys2Proof/Machine/Cores.lean ====
section
/-! DEFINITION. Cores, comparators and the event router: R315–R338. -/

namespace Sys2Proof.Machine

/-! ### Cores (R318, R319) -/

/-- IMPRECISE_STORE_FAULT: an error response to a store that had retired. -/
def execImpreciseStoreFault (k : Fin 8) (addr : BitVec 40) (status : Byte) (s : State) : Host.Outcome State Fault Refusal :=
  s.onZone fun c =>
    (c.wrN (CMP_C_BERR k.val) (((c.frc % 2 ^ 64) <<< 64) + (status.toNat <<< 40) + addr.toNat)).raise (532 + k.val)

/-- DIRTY_LINE_ECC: an uncorrectable error in a dirty line. -/
def execDirtyLineEcc (k : Fin 8) (s : State) : Host.Outcome State Fault Refusal :=
  s.onZone fun c => (c.satInc (CMP_C_ECC_UNCORR k.val)).raise (524 + k.val)

/-! ### Comparators (R326–R331) -/

/-- A mismatch: the gate closes and the twins halt, the first record is written, MM counts, EV0512 + p is raised (R327), and the leases of its masters are revoked (R544). -/
def Chip.pairFails (c : Chip) (p lane nlanes pc : Nat) (inj : Bool) : Chip :=
  let r := (1 <<< 127) + (b2n inj <<< 126) + (lane <<< 112) + (nlanes <<< 100) + (pc <<< 64) + c.frc % 2 ^ 64
  let c := c.when (!c.flag (CMP_P_MM_VALID p)) fun c => c.wrN (CMP_P_MM p) r
  (((c.setB (CMP_P_STAT_HALTED p) true).satInc (CMP_P_CNT_MM p)).raise (512 + p)).autoRevoke [.mid (2 * p), .mid (2 * p + 1)]

/-- Whether the comparator of pair `p` compares: a mitten that is neither halted by a mismatch nor held in reset. -/
def Chip.comparing (c : Chip) (p : Nat) : Bool :=
  c.mitten p && !c.flag (CMP_P_STAT_HALTED p) && !c.flag (CMP_P_STAT_HELD p) && !c.coreDown (2 * p)

/-- PAIR_MISMATCH: lanes of a mitten differ. -/
def Chip.pairMismatch (c : Chip) (p lane nlanes pc : Nat) : Chip :=
  c.when (c.comparing p && decide (0 < nlanes)) fun c => c.pairFails p lane nlanes pc false

def execPairMismatch (p : Fin 4) (lane nlanes : Fin 4096) (pc : BitVec 36) (s : State) : Host.Outcome State Fault Refusal :=
  s.onZone fun c => c.pairMismatch p.val lane.val nlanes.val pc.toNat

/-- A refused injection (R331). -/
def Chip.injRefuse (c : Chip) (p st : Nat) : Chip := (c.set (CMP_P_INJRES_STATUS p) st).raise (520 + p)

/-- CMP_INJECT: W2 has one lane tested while its pair runs. -/
def Chip.cmpInject (c : Chip) (w : Who) (p v : Nat) : Chip :=
  c.when (w.world == 2 && bit v 31) fun c =>
    if !c.flag (CMP_P_INJRES_DONE p) then c.injRefuse p stBUSY
    else if !c.mitten p then c.injRefuse p stNOT_NOW
    else
      let c := (c.set (CMP_P_INJRES_STATUS p) stOK).setB (CMP_P_INJRES_DONE p) false
      let c := c.set (CMP_P_INJRES_LANE p) (v % 4096)
      { c with core := { c.core with injections := put none c.core.injections p (some { lane := v % 4096 }) } }

def execCmpInject (a : Agent) (p : Fin 4) (v : W32) (s : State) : Host.Outcome State Fault Refusal :=
  s.by a fun w c => c.cmpInject w p.val v.toNat

/-- CMP_INJECT_RESULT: the injected difference was reported in its lane, or was not and the pair fails. -/
def Chip.cmpInjectResult (c : Chip) (p : Nat) (caught : Bool) (pc : Nat) : Chip :=
  match look none c.core.injections p with
  | none => c
  | some i =>
    let c : Chip := { c with core := { c.core with injections := put none c.core.injections p none } }
    let c := (c.setB (CMP_P_INJRES_DONE p) true).setB (CMP_P_INJRES_CAUGHT p) caught
    if caught then c.satInc (CMP_P_CNT_INJOK p)
    else c.pairFails p i.lane 1 pc true

def execCmpInjectResult (p : Fin 4) (caught : Bool) (pc : BitVec 36) (s : State) : Host.Outcome State Fault Refusal :=
  s.onZone fun c => c.cmpInjectResult p.val caught pc.toNat

/-- A write of CMP_Pp_MMCLR by W2. -/
def Chip.cmpMmclr (c : Chip) (w : Who) (p v : Nat) : Chip := c.when (w.world == 2 && bit v 0) fun c => c.wrN (CMP_P_MM p) 0

def execCmpMmclr (a : Agent) (p : Fin 4) (v : W32) (s : State) : Host.Outcome State Fault Refusal :=
  s.by a fun w c => c.cmpMmclr w p.val v.toNat

/-- A write of CMP_CTL by W2. -/
def Chip.cmpCtlWrite (c : Chip) (w : Who) (v : Nat) : Chip :=
  c.when (w.world == 2 && bit v 0) fun c => forAll 8 (fun k c => c.wrN (CMP_C_ECC k) 0) c

def execCmpClrcnt (a : Agent) (v : W32) (s : State) : Host.Outcome State Fault Refusal := s.by a fun w c => c.cmpCtlWrite w v.toNat

/-! ### Event router (R333, R334, R336) -/

/-- EVR_RAISE: a software event of a group the writer has claimed. -/
def Chip.evrRaise (c : Chip) (w : Who) (v : Nat) : Chip :=
  let n := v % 1024
  if n < 896 then c.refuse EVR_STAT_LASTERR stRANGE 541
  else if !c.claims w.world 16 ((n - 896) / 16) then c.refuse EVR_STAT_LASTERR stDENIED_WORLD 541
  else c.raise n

def execEvrRaise (a : Agent) (v : W32) (s : State) : Host.Outcome State Fault Refusal := s.by a fun w c => c.evrRaise w v.toNat

/-- EVR_ACK: the owning world clears PEND. -/
def Chip.evrAck (c : Chip) (w : Who) (v : Nat) : Chip :=
  let n := v % 1024
  if c.eventOwner n = some w.world then c.setPend n false else c.set EVR_STAT_LASTERR stDENIED_WORLD

def execEvrAck (a : Agent) (v : W32) (s : State) : Host.Outcome State Fault Refusal := s.by a fun w c => c.evrAck w v.toNat

/-- A write of EVR_RT`n` (R333). -/
def Chip.evrRtWrite (c : Chip) (w : Who) (n v : Nat) : Chip :=
  let tgt := bits v 30 29
  let core := bits v 28 26
  let file := bits v 25 24
  let guest := bits v 23 21
  let iid := bits v 10 0
  let heldCore := c.flag (CMP_P_STAT_BARRED (core / 2)) && c.flag (CMP_P_STAT_HELD (core / 2))
  let bad := tgt == 3 || file == 3 || (file == 2 && guest == 0) || (tgt == 2 && decide (63 < iid)) ||
    (tgt == 1 && (c.trailing core || heldCore || iid == 0))
  if c.eventOwner n ≠ some w.world then c.refuse EVR_STAT_LASTERR stDENIED_WORLD 540
  else if bad then c.refuse EVR_STAT_LASTERR stRANGE 540
  else c.wrN (EVR_RT n) ((bits v 31 15 <<< 15) + iid)

end Sys2Proof.Machine
end

