-- ==== Sys2Proof/Machine/Actions.lean ====
section
/-! DEFINITION. Actions on their way to their targets: R84, R88, R111. -/

namespace Sys2Proof.Machine

/-- Whether action `b` comes before `a`: an earlier fire tick. -/
def earlier (a b : Action) : Bool := decide (b.fire < a.fire)

/-- Take the action of class `cls` for target `t` that is due and has the earliest fire tick; among equal ones the first
received (R88, R111). -/
def Chip.dueAction (c : Chip) (cls t : Nat) : Option Action :=
  c.seq.acts.foldl (fun best a =>
    if a.cls == cls && a.target == t && c.due a.fire then
      match best with
      | some b => if earlier b a then some a else best
      | none => some a
    else best) none

/-- The first due action of class `cls` for target `t` with argument `arg`. -/
def Chip.dueArg (c : Chip) (cls t arg : Nat) : Option Action :=
  c.seq.acts.find? fun a => a.cls == cls && a.target == t && a.arg == arg && c.due a.fire

/-- Drop an action that has been carried out. -/
def Chip.dropAction (c : Chip) (a : Action) : Chip := { c with seq := { c.seq with acts := c.seq.acts.erase a } }

/-- Give a target an action. -/
def Chip.addAction (c : Chip) (a : Action) : Chip := { c with seq := { c.seq with acts := c.seq.acts ++ [a] } }

end Sys2Proof.Machine
end

