-- ==== Sys2Proof/Machine/Cuff.lean ====
section
/-! DEFINITION. The cuff's own operations on load switch channels, which its commands share: classes, banks and lugs, gate
transitions, disturbance and inrush windows, protection switch-offs, and orphaning: R105–R138. -/

namespace Sys2Proof.Machine

/-! ### Channels, banks and lugs (R105, R106) -/

/-- The power die (slice) of channel `n`: 0 heavy, 1 medium, 2 light. -/
def lsClass (n : Nat) : Nat := if n < 8 then 0 else if n < 24 then 1 else 2

/-- The bank of channel `n`. -/
def lsBank (n : Nat) : Nat := n / 4

/-- The lug that feeds bank `k`. -/
def bankLug (k : Nat) : Nat := if k < 2 then 0 else if k < 4 then 1 else if k < 6 then 2 else if k < 10 then 3 else 2

/-- The class limit in mA. -/
def classLimit (cl : Nat) : Nat := match cl with | 0 => 120000 | 1 => 45000 | _ => 12000

/-- The class single-pulse clamp rating in µJ. -/
def classRating (cl : Nat) : Nat := match cl with | 0 => 250000 | 1 => 60000 | _ => 20000

/-- The class minimum pulse in ns (R109). -/
def minPulse (cl : Nat) : Nat := match cl with | 0 => 20000 | 1 => 10000 | _ => 5000

/-- The leak exponent of the class (R119). -/
def leakShift (cl : Nat) : Nat := match cl with | 0 => 12 | 1 => 11 | _ => 10

/-- One step of the class's sense code, in mA (R128). -/
def senseLsb (cl : Nat) : Nat := match cl with | 0 => 40 | 1 => 16 | _ => 4

/-- The short-circuit time of a TSC code, in ns (R114). -/
def tscNs (code : Nat) : Nat :=
  match code with
  | 0 => 10000
  | 1 => 20000
  | 2 => 50000
  | 3 => 100000
  | 4 => 200000
  | 5 => 500000
  | 6 => 1000000
  | _ => 10000000

/-- What the cuff holds for channel `n`. -/
def Chip.lsCh (c : Chip) (n : Nat) : LsChan := look {} c.lsc.chans n

/-- Change what the cuff holds for channel `n`. -/
def Chip.updLs (c : Chip) (n : Nat) (f : LsChan → LsChan) : Chip :=
  { c with lsc := { c.lsc with chans := upd {} c.lsc.chans n f } }

/-- Channel `n`'s protection state (R117). -/
def Chip.pstate (c : Chip) (n : Nat) : Nat := c.get (LSC_CH_STAT_PSTATE n)

/-- A held change advances HSEQ (R131). -/
def Chip.heldChange (c : Chip) (n : Nat) : Chip := c.wrapInc (LSC_CH_HOLD_HSEQ n)

/-- The present current limit of channel `n` in mA (R113). -/
def Chip.lsLimit (c : Chip) (n : Nat) : Nat :=
  let code := if c.flag (LSC_CH_STAT_INRUSH n) then c.get (LSC_CH_PROT_IRLIM n) else c.get (LSC_CH_PROT_ILIM n)
  (code + 1) * classLimit (lsClass n) / 16

/-- Whether the slice of channel `n` has shut down for a fault (R138). -/
def Chip.lsFaulted (c : Chip) (n : Nat) : Bool := look false c.lsc.sliceFault (lsClass n)

/-- A refused command of channel `n` (R567). -/
def Chip.lsRefuseCmd (c : Chip) (n st : Nat) : Chip :=
  (c.refuse (LSC_CH_STAT_LASTERR n) st n).satInc (LSC_CH_CNT_REFUSED n)

/-! ### Disturbance and inrush windows (R113, R125, R126) -/

/-- Whether an instant lies within the preceding millisecond. -/
def Chip.within1ms (c : Chip) (t : Option Nat) : Bool :=
  match t with
  | none => false
  | some t => decide (c.now < t + 1000000)

/-- Channel `j` limits outside its inrush window. -/
def Chip.limitsOutside (c : Chip) (j : Nat) : Bool := c.pstate j == 1 && !c.flag (LSC_CH_STAT_INRUSH j)

/-- Whether a condition of R125 that is channel `j`'s own holds its bank's DIST (R126). -/
def Chip.ownDist (c : Chip) (j : Nat) : Bool := c.limitsOutside j || c.within1ms (c.lsCh j).distOff

/-- Whether a condition that is no channel's own holds bank `k`'s DIST: a low supply, or the millisecond after it or after a
limit that ended without a switch-off. -/
def Chip.bankDist (c : Chip) (k : Nat) : Bool :=
  look false c.lsc.vbkLow k || c.within1ms (look none c.lsc.vbkLowEnd k) ||
    (List.range 4).any (fun i => c.within1ms (c.lsCh (4 * k + i)).limEnd)

/-- Whether any condition of R125 holds bank `k`'s DIST. -/
def Chip.distHeld (c : Chip) (k : Nat) : Bool :=
  c.bankDist k || (List.range 4).any (fun i => c.ownDist (4 * k + i))

/-- Whether channel `n`'s inrush window is paused now (R126). -/
def Chip.pausedNow (c : Chip) (n : Nat) : Bool :=
  c.flag (LSC_BK_STAT_DIST (lsBank n)) &&
    (c.bankDist (lsBank n) || (List.range 4).any (fun i => 4 * lsBank n + i != n && c.ownDist (4 * lsBank n + i)))

/-- Pause or resume the inrush windows of bank `k`'s channels, and show frozen compensation (R125, R126). -/
def Chip.refreshBank (c : Chip) (k : Nat) : Chip :=
  forAll 4 (fun i c =>
    let n := 4 * k + i
    let p := c.pausedNow n && c.flag (LSC_CH_STAT_INRUSH n)
    let c := c.setB (LSC_CH_STAT_COMPFRZ n)
      (c.flag (LSC_BK_STAT_DIST k) && c.flag (LSC_CH_CFG_COMP n) && (c.lsCh n).pwm)
    let c := c.setB (LSC_CH_STAT_IRPAUSE n) p
    c.updLs n fun x =>
      match p, x.irEnd, x.irRemain with
      | true, some e, _ => { x with irEnd := none, irRemain := some (e - c.now) }
      | false, none, some r => { x with irEnd := some (c.now + r), irRemain := none }
      | _, _, _ => x) c

/-- Set bank `k`'s DIST, with EV0048 + k where it was clear (R125, R140). -/
def Chip.setDist (c : Chip) (k : Nat) : Chip :=
  let was := c.flag (LSC_BK_STAT_DIST k)
  ((c.setB (LSC_BK_STAT_DIST k) true).when (!was) fun c => c.raise (48 + k)).refreshBank k

/-- Start channel `n`'s inrush window (R113). -/
def Chip.startInrush (c : Chip) (n : Nat) : Chip :=
  let w := c.get (LSC_CH_PROT_IRWIN n)
  c.when (w != 0) fun c =>
    let c := c.setB (LSC_CH_STAT_INRUSH n) true
    (c.updLs n fun x => { x with irEnd := some (c.now + w * 1000000), irRemain := none }).refreshBank (lsBank n)

/-! ### Switching (R108, R114–R118) -/

/-- Note since when a channel has been in NORMAL and commanded on (R116). -/
def Chip.noteNormal (c : Chip) (n : Nat) : Chip :=
  let on := c.pstate n == 0 && c.flag (LSC_CH_STAT_CMDON n)
  c.updLs n fun x => { x with normalSince := if on then (x.normalSince.getD c.now) else none }

/-- Enter a protection state: the codes of R117, and a held change (R131). -/
def Chip.lsState (c : Chip) (n st : Nat) : Chip := ((c.set (LSC_CH_STAT_PSTATE n) st).heldChange n).noteNormal n

/-- Switch the gate off: the on-time of a running period ends, and the short-circuit timer stops. -/
def Chip.gateOff (c : Chip) (n : Nat) : Chip :=
  (c.setB (LSC_CH_STAT_OUT n) false).updLs n fun x => { x with onEnd := none, scStart := none }

/-- Switch the gate on statically, with the inrush window of static mode where it was off (R113); at UVH gates stay off (R298). -/
def Chip.gateOnStatic (c : Chip) (n : Nat) : Chip :=
  c.when (!c.pmu.uvh) fun c =>
  let was := c.flag (LSC_CH_STAT_OUT n)
  let c := (c.setB (LSC_CH_STAT_OUT n) true).updLs n fun x => { x with onEnd := none }
  c.when (!was && c.get (LSC_CH_CFG_MODE n) == 0) fun c => c.startInrush n

/-- Leave LIMIT for good: its end is noted for DIST (R125). -/
def Chip.noteLimitEnd (c : Chip) (n : Nat) : Chip := c.updLs n fun x => { x with limEnd := some c.now, scStart := none }

/-- Stop PWM and switch the channel off on command, cancelling a retry (R108, R116). -/
def Chip.lsTurnOff (c : Chip) (n : Nat) : Chip :=
  let st := c.pstate n
  let c := c.when (c.limitsOutside n) fun c => c.noteLimitEnd n
  let c := (c.gateOff n).setB (LSC_CH_STAT_CMDON n) false
  let c := c.setB (LSC_CH_STAT_FLYWHEEL n) false
  let c := c.updLs n fun x => { x with pwm := false, prevOp2 := none, afterOff := true, retryAt := none }
  let c := c.when (st == 1 || st == 2 || st == 5) fun c => c.set (LSC_CH_STAT_PSTATE n) 0
  (c.noteNormal n).refreshBank (lsBank n)

/-- A protection switch-off with a cause (R114–R118): RETRY while retries remain, otherwise LATCHED; EV0000 + n. -/
def Chip.protOff (c : Chip) (n cause : Nat) : Chip :=
  let retries := c.get (LSC_CH_STAT_RETRIES n)
  let st := if retries < c.get (LSC_CH_PROT_RETRY n) then 2 else 3
  let c := (c.gateOff n).set (LSC_CH_STAT_CAUSE n) cause
  let c := c.satInc (LSC_CH_CNT_PROTOFF n)
  let c := c.updLs n fun x => { x with
    protOff := some c.now, distOff := some c.now, afterOff := true,
    retryAt := if st = 2 then some (c.now + c.get (LSC_CH_PROT_RDLY n) * 10000000) else none }
  ((c.lsState n st).setDist (lsBank n)).raise n

/-- Shut a channel off for shedding (R127). -/
def Chip.shedOff (c : Chip) (n cause : Nat) : Chip :=
  let c := c.when (c.limitsOutside n) fun c => c.noteLimitEnd n
  let c := (c.gateOff n).set (LSC_CH_STAT_CAUSE n) cause
  let c := c.satInc (LSC_CH_CNT_PROTOFF n)
  let c := c.updLs n fun x => { x with protOff := some c.now, afterOff := true, pwm := false }
  (((c.setB (LSC_CH_STAT_FLYWHEEL n) false).lsState n 5).refreshBank (lsBank n)).raise n

/-- Whether every filtered current of channel `n`'s bank and lug is at or below 90 % of its budget (R127). -/
def Chip.budgetRoom (c : Chip) (n : Nat) : Bool :=
  let k := lsBank n
  decide (look 0 c.lsc.bankFilt k * 10 ≤ c.get (LSC_BK_CFG_BUDGET k) * 100000 * 9) &&
    decide (look 0 c.lsc.lugFilt (bankLug k) * 10 ≤ c.get (LSC_LUG_CFG_BUDGET (bankLug k)) * 100000 * 9)

/-- Whether the cuff accepts an on command or OP 2 in the channel's protection state (R118, R127). -/
def Chip.onAccepted (c : Chip) (n : Nat) : Bool :=
  match c.pstate n with
  | 3 => false
  | 4 => false
  | 5 => c.budgetRoom n
  | _ => true

/-! ### Orphaning (R132, R133) -/

/-- The channels of a slice. -/
def sliceChans (s : Nat) : List Nat := (List.range 48).filter (fun n => lsClass n == s)

/-- Show the number of channels not adopted (LSC_STAT.NADOPT). -/
def Chip.showNadopt (c : Chip) : Chip :=
  c.set LSC_STAT_NADOPT ((List.range 48).filter (fun n => !c.flag (LSC_CH_STAT_ADOPTED n))).length

/-- Orphan channel `n` from now (R132). -/
def Chip.orphan (c : Chip) (n : Nat) : Chip :=
  if c.flag (LSC_CH_STAT_ORPHAN n) then c.setB (LSC_CH_STAT_ADOPTED n) false
  else
    let c := (c.setB (LSC_CH_STAT_ORPHAN n) true).setB (LSC_CH_STAT_ADOPTED n) false
    let c := c.setB (LSC_CH_HOLD_FBAPPLIED n) false
    c.updLs n fun x => { x with orphanAt := c.now }

/-- Slices declare silence: their channels are orphaned, SILENT is set, the heartbeat timer stops, and EV0061 is raised now or,
while the zone die is in reset, at link-up (R132, R140). -/
def Chip.declareSilence (c : Chip) (slices : List Nat) : Chip :=
  let c := forEach (slices.flatMap sliceChans) (fun n c => c.orphan n) c
  let c := (c.stick LSC_STAT_SILENT).showNadopt
  let c : Chip := { c with lsc := { c.lsc with heartbeat := none } }
  if c.rst.episode.isSome then { c with lsc := { c.lsc with silenceDue := true } } else c.raise 61

/-- The link of a slice goes down: LINKUP and HOLDVALID of the slice clear. -/
def Chip.linkLost (c : Chip) (s : Nat) : Chip :=
  (c.set LSC_STAT_LINKUP (setBit (c.get LSC_STAT_LINKUP) s false)).set LSC_STAT_HOLDVALID
    (setBit (c.get LSC_STAT_HOLDVALID) s false)

/-- The duty's on-time in a period of `t` ns, with the minimum pulse applied (R109): none when the output stays on. -/
def pwmOnTime (cl t deff : Nat) : Option Nat :=
  let on := t * deff / 65535
  if on < minPulse cl then some 0
  else if t - on < minPulse cl then none
  else some on

/-- Compute the effective duty at a period start (R124, R125): frozen while DIST is set. -/
def Chip.effDuty (c : Chip) (n vbkMv : Nat) : Nat :=
  let d := c.get (LSC_CH_HOLD_DUTY n)
  if !c.flag (LSC_CH_CFG_COMP n) then d
  else if c.flag (LSC_BK_STAT_DIST (lsBank n)) then c.get (LSC_CH_HOLD_DEFF n)
  else
    let vnom := c.get (LSC_BK_CFG_VNOM (lsBank n)) * 10
    if vbkMv = 0 then 65535 else min 65535 (d * vnom ^ 2 / vbkMv ^ 2)

/-- The period that a channel runs with: free-running by its register, otherwise the last *T*, or the register before two
period starts have been seen (R109, R110). -/
def Chip.lsPeriod (c : Chip) (n : Nat) : Nat :=
  if c.get (LSC_CH_CFG_MODE n) == 2 || c.get (LSC_CH_HOLD_PERIOD n) == 0 then c.get (LSC_CH_PWMPER_T n)
  else c.get (LSC_CH_HOLD_PERIOD n)

/-- Start a PWM period of `t` ns at tick `start` with the effective duty (R109, R113). -/
def Chip.startPeriod (c : Chip) (n start t vbkMv : Nat) : Chip :=
  let deff := c.effDuty n vbkMv
  let c := (c.set (LSC_CH_HOLD_DEFF n) deff).set (LSC_CH_HOLD_PERIOD n) t
  let first := (c.lsCh n).afterOff
  let on := pwmOnTime (lsClass n) t deff
  let run := decide (c.pstate n ≤ 1) && !(c.lsCh n).hot && !c.lsFaulted n && !c.pmu.uvh
  let c := c.updLs n fun x => { x with
    lastStart := start, afterOff := if run then false else x.afterOff, onEnd := if run then on.map (start + ·) else none }
  let c := c.when run fun c => c.setB (LSC_CH_STAT_OUT n) (on != some 0)
  (c.when (run && first) fun c => c.startInrush n).refreshBank (lsBank n)

end Sys2Proof.Machine
end

