-- ==== Sys2Proof/Machine/LoadSwitch.lean ====
section
/-! DEFINITION. The commands of the load switch channels and the cuff: R105–R142, R567. -/

namespace Sys2Proof.Machine

/-! ### Actions of the cuff (R108–R112) -/

/-- Carry out the channel's next due action where it is of one of the given operations. -/
def Chip.lsAction (c : Chip) (n : Nat) (ops : List Nat) (f : Action → Chip → Chip) : Chip :=
  match c.dueAction 0 n with
  | none => c
  | some a => if ops.contains (a.arg % 32) then f a (c.dropAction a) else c

/-- Safe-off of one channel (R136): cause 8 where it was on; LATCHED, LOCKOFF and SHED are kept. -/
def Chip.safeOffOne (c : Chip) (n : Nat) : Chip :=
  if decide (3 ≤ c.pstate n) then c
  else
    let was := c.flag (LSC_CH_STAT_CMDON n) || c.flag (LSC_CH_STAT_OUT n)
    let c := c.lsTurnOff n
    (c.when was fun c => c.set (LSC_CH_STAT_CAUSE n) 8).heldChange n

/-- LS_OFF: an off at its fire tick stops PWM and switches the output off (R108, R116); a safe-off as R136. -/
def Chip.lsOff (c : Chip) (n : Nat) : Chip :=
  c.lsAction n [0, 16] fun a c => if a.arg = 16 then c.safeOffOne n else (c.lsTurnOff n).heldChange n

def execLsOff (n : Fin 48) (s : State) : Host.Outcome State Fault Refusal := s.on fun c => c.lsOff n.val

/-- Switch a channel on at 100 % (R108, R118, R127): refused in LATCHED, LOCKOFF and, without budget, SHED; only recorded in
RETRY and while the channel is off for temperature. -/
def Chip.lsTurnOn (c : Chip) (n : Nat) : Chip :=
  if !c.onAccepted n then c.lsRefuseCmd n stNOT_NOW
  else
    let c := c.when (c.pstate n == 5) fun c => c.set (LSC_CH_STAT_PSTATE n) 0
    let c := (c.setB (LSC_CH_STAT_CMDON n) true).setB (LSC_CH_STAT_FLYWHEEL n) false
    let c := c.updLs n fun x => { x with pwm := false, prevOp2 := none }
    let c := c.when (decide (c.pstate n ≤ 1) && !(c.lsCh n).hot && !c.lsFaulted n) fun c => c.gateOnStatic n
    (c.noteNormal n).heldChange n

/-- LS_ON: an on at its fire tick stops PWM and switches the output on at 100 %. -/
def Chip.lsOn (c : Chip) (n : Nat) : Chip := c.lsAction n [1] fun _ c => c.lsTurnOn n

def execLsOn (n : Fin 48) (s : State) : Host.Outcome State Fault Refusal := s.on fun c => c.lsOn n.val

/-- PWM_PERIOD_START: an OP 2 at its fire tick starts a period with the buffered duty, measures *T* and clears FLYWHEEL
(R108–R110). -/
def Chip.pwmPeriodStart (c : Chip) (n vbkMv : Nat) : Chip :=
  c.lsAction n [2] fun a c =>
    if c.get (LSC_CH_CFG_MODE n) == 0 || !c.onAccepted n then c.lsRefuseCmd n stNOT_NOW
    else
      let c := c.when (c.pstate n == 5) fun c => c.set (LSC_CH_STAT_PSTATE n) 0
      let t := if c.get (LSC_CH_CFG_MODE n) == 2 then c.get (LSC_CH_PWMPER_T n) else
        match (c.lsCh n).prevOp2 with
        | some p => a.fire - p
        | none => c.lsPeriod n
      let c := (c.setB (LSC_CH_STAT_CMDON n) true).setB (LSC_CH_STAT_FLYWHEEL n) false
      let c := c.updLs n fun x => { x with pwm := true, prevOp2 := some a.fire }
      ((c.startPeriod n a.fire t vbkMv).noteNormal n).heldChange n

def execPwmPeriodStart (n : Fin 48) (vbkMv : Nat) (s : State) : Host.Outcome State Fault Refusal :=
  s.on fun c => c.pwmPeriodStart n.val vbkMv

/-- LOAD_DUTY: an OP 3 at its fire tick buffers DUTY for the next period start (R108). -/
def Chip.loadDuty (c : Chip) (n : Nat) : Chip :=
  c.lsAction n [3] fun a c =>
    if c.get (LSC_CH_CFG_MODE n) == 0 then c.lsRefuseCmd n stNOT_NOW
    else (c.set (LSC_CH_HOLD_DUTY n) (bits a.arg 31 16)).heldChange n

def execLoadDuty (n : Fin 48) (s : State) : Host.Outcome State Fault Refusal := s.on fun c => c.loadDuty n.val

/-- PWM_SELF_TIMED_PERIOD: in free-running mode *T* after the last period start, in flywheel operation 1.5 *T* after the last
OP 2 and then *T* after each (R110). -/
def Chip.pwmSelfTimed (c : Chip) (n vbkMv : Nat) : Chip :=
  let t := c.lsPeriod n
  let free := c.get (LSC_CH_CFG_MODE n) == 2
  let wait := if free || c.flag (LSC_CH_STAT_FLYWHEEL n) then t else t * 3 / 2
  let start := (c.lsCh n).lastStart + wait
  c.when ((c.lsCh n).pwm && c.flag (LSC_CH_STAT_CMDON n) && c.due start) fun c =>
    let c := c.when (!free) fun c => c.setB (LSC_CH_STAT_FLYWHEEL n) true
    (c.updLs n fun x => { x with prevOp2 := none }).startPeriod n start t vbkMv

def execPwmSelfTimedPeriod (n : Fin 48) (vbkMv : Nat) (s : State) : Host.Outcome State Fault Refusal :=
  s.on fun c => c.pwmSelfTimed n.val vbkMv

/-- PWM_ON_TIME_END: the on-time of the running period ends (R109). -/
def Chip.pwmOnTimeEnd (c : Chip) (n : Nat) : Chip :=
  c.when ((c.lsCh n).pwm && c.dueAt (c.lsCh n).onEnd) fun c =>
    (c.setB (LSC_CH_STAT_OUT n) false).updLs n fun x => { x with onEnd := none }

def execPwmOnTimeEnd (n : Fin 48) (s : State) : Host.Outcome State Fault Refusal := s.on fun c => c.pwmOnTimeEnd n.val

/-! ### Register commands (R107, R111, R116, R123, R134) -/

/-- A write of LSC_CHn_CMD (R107, R111, R134, R138): CLR, UNLOCK, and the operation, which goes to the cuff with fire tick
acceptance + 1,500. A reserved OP is ignored as a whole (R10). -/
def Chip.lsCmdWrite (c : Chip) (w : Who) (n v : Nat) : Chip :=
  let op := v % 16
  if !c.claims w.world 4 n then c.lsRefuseCmd n stDENIED_WORLD
  else if decide (4 < op) then c
  else if c.flag (LSC_CH_STAT_ORPHAN n) then c.lsRefuseCmd n stNOT_ADOPTED
  else if c.lsFaulted n then c.lsRefuseCmd n stNOT_NOW
  else
    let c := c.when (bit v 6) fun c =>
      let c := c.set (LSC_CH_STAT_RETRIES n) 0
      c.when (c.pstate n == 3) fun c => (c.setB (LSC_CH_STAT_CMDON n) false).lsState n 0
    let c := c.when (bit v 7 && c.pstate n == 4) fun c =>
      if c.get (LSC_CH_EACC_UJ n) ≤ c.get (LSC_CH_CLAMP_REARM n) * 100 then
        (c.setB (LSC_CH_STAT_CMDON n) false).lsState n 0
      else c.lsRefuseCmd n stNOT_NOW
    c.when (op != 4) fun c => c.addAction { fire := c.time.frc + 1500, cls := 0, target := n, arg := op + (bits v 31 16 <<< 16) }

/-- UNLOCK: a write of LSC_CHn_CMD with UNLOCK = 1. -/
def execLsUnlock (a : Agent) (n : Fin 48) (v : W32) (s : State) : Host.Outcome State Fault Refusal :=
  s.by a fun w c => c.lsCmdWrite w n.val (setBit v.toNat 7 true)

/-- CLR: a write of LSC_CHn_CMD with CLR = 1. -/
def execLsClr (a : Agent) (n : Fin 48) (v : W32) (s : State) : Host.Outcome State Fault Refusal :=
  s.by a fun w c => c.lsCmdWrite w n.val (setBit v.toNat 6 true)

/-- Why a write of a channel's CFG (0), PROT (1), CLAMP (2) or PWMPER (3) is refused (R107, R113, R121, R134, R139). -/
def Chip.lsCfgCheck (c : Chip) (w : Who) (n which v : Nat) : Nat :=
  if !c.claims w.world 4 n then stDENIED_WORLD
  else if c.flag (LSC_CH_STAT_ORPHAN n) then stNOT_ADOPTED
  else if decide (which < 2) && c.flag (LSC_CH_STAT_CMDON n) then stBUSY
  else match which with
    | 1 => if bits v 31 28 < 3 || bits v 27 24 < bits v 31 28 then stRANGE else stOK
    | 2 =>
      if classRating (lsClass n) < bits v 23 12 * 100 || bits v 23 12 ≤ bits v 11 0 then stRANGE else stOK
    | 3 => if bits v 29 0 < 50000 || 1000000000 < bits v 29 0 then stRANGE else stOK
    | _ => stOK

/-- A write of a channel's configuration register; a reserved encoding is ignored as a whole (R10), and a refused write is
reported as R567 lays down. -/
def Chip.lsCfgWrite (c : Chip) (w : Who) (n which v : Nat) : Chip :=
  let st := c.lsCfgCheck w n which v
  if st ≠ stOK then c.refuse (LSC_CH_STAT_LASTERR n) st n
  else match which with
    | 0 => if bits v 22 21 = 3 then c else c.wrN (LSC_CH_CFG n) (v &&& 0xF0E00000)
    | 1 => if bits v 7 0 = 0 then c else c.wrN (LSC_CH_PROT n) v
    | 2 => c.wrN (LSC_CH_CLAMP n) (v &&& 0x00FFFFFF)
    | _ => c.wrN (LSC_CH_PWMPER n) (v &&& 0x3FFFFFFF)

/-- The budget maximum of a bank, in 0.1 A (R127). -/
def bankBudgetMax (k : Nat) : Nat := if k < 2 then 800 else if k < 6 then 320 else 100

/-- A write of a bank's or (from index 12) a lug's configuration (R107, R124, R127, R567). -/
def Chip.lsBudgetWrite (c : Chip) (w : Who) (g v : Nat) : Chip :=
  let ev := if g < 12 then 48 + g else 60
  let b := v % 65536
  if w.world ≠ 2 then c.refuse LSC_STAT_LASTERR stDENIED_WORLD ev
  else if g < 12 then
    if bits v 31 16 < 600 || 3600 < bits v 31 16 || b < 10 || bankBudgetMax g < b then c.refuse LSC_STAT_LASTERR stRANGE ev
    else c.wrN (LSC_BK_CFG g) v
  else if b < 10 || 450 < b then c.refuse LSC_STAT_LASTERR stRANGE ev
  else c.wrN (LSC_LUG_CFG (g - 12)) b

/-! ### Protection (R114–R116) -/

/-- Show a measured current (R128, R139). -/
def Chip.showCurrent (c : Chip) (n ma : Nat) : Chip :=
  c.set (LSC_CH_MEAS_ISENSE n) (min 0xEFF (ma / senseLsb (lsClass n)))

/-- LIMIT_ENTER: the current reaches the limit; LIMIT, the short-circuit timer, and DIST outside the inrush window (R114, R125). -/
def Chip.limitEnter (c : Chip) (n ma : Nat) : Chip :=
  let c := c.showCurrent n ma
  c.when (c.pstate n == 0 && c.flag (LSC_CH_STAT_OUT n) && decide (c.lsLimit n ≤ ma)) fun c =>
    let c := c.updLs n fun x => { x with scStart := some c.now }
    let c := c.lsState n 1
    if c.limitsOutside n then c.setDist (lsBank n) else c

def execLimitEnter (n : Fin 48) (ma : Nat) (s : State) : Host.Outcome State Fault Refusal :=
  s.on fun c => c.limitEnter n.val ma

/-- LIMIT_EXIT: the current falls below 90 % of the limit; NORMAL, the timer clears (R114). -/
def Chip.limitExit (c : Chip) (n ma : Nat) : Chip :=
  let c := c.showCurrent n ma
  c.when (c.pstate n == 1 && decide (ma * 10 < c.lsLimit n * 9)) fun c =>
    let c := if c.limitsOutside n then c.noteLimitEnd n else c.updLs n fun x => { x with scStart := none }
    (c.lsState n 0).refreshBank (lsBank n)

def execLimitExit (n : Fin 48) (ma : Nat) (s : State) : Host.Outcome State Fault Refusal :=
  s.on fun c => c.limitExit n.val ma

/-- SHORT_CIRCUIT_TIMEOUT: still in LIMIT at TSC; cause OVERCURRENT (R114). -/
def Chip.shortCircuitTimeout (c : Chip) (n : Nat) : Chip :=
  c.when (c.pstate n == 1 && c.dueNow ((c.lsCh n).scStart.map (· + tscNs (c.get (LSC_CH_PROT_TSC n))))) fun c => c.protOff n 1

def execShortCircuitTimeout (n : Fin 48) (s : State) : Host.Outcome State Fault Refusal :=
  s.on fun c => c.shortCircuitTimeout n.val

/-- Whether a neighbour explains an overtemperature: another channel of the bank in LIMIT, or switched off under protection
within 10 ms (R115). -/
def Chip.neighbourHot (c : Chip) (n : Nat) : Bool :=
  (List.range 4).any fun i =>
    let j := 4 * lsBank n + i
    j != n && (c.pstate j == 1 || match (c.lsCh j).protOff with
      | some t => decide (c.now ≤ t + 10000000)
      | none => false)

/-- THERMAL_SHUTDOWN: the junction sensor reads 175 °C or more (R115, R118): off with cause THERMAL or THERMAL_NEIGHBOUR; a
switch-off for overcurrent in the same instant takes the thermal cause. -/
def Chip.thermalShutdown (c : Chip) (n tj : Nat) : Chip :=
  let c := c.set (LSC_CH_MEAS_TJ n) tj
  c.when (decide (1400 ≤ tj)) fun c =>
    let cause := if c.neighbourHot n then 3 else 2
    let c := c.updLs n fun x => { x with hot := true }
    if c.pstate n ≤ 1 then
      if c.flag (LSC_CH_STAT_OUT n) || c.flag (LSC_CH_STAT_CMDON n) then c.protOff n cause else c
    else if (c.lsCh n).protOff == some c.now then c.set (LSC_CH_STAT_CAUSE n) cause
    else c

def execThermalShutdown (n : Fin 48) (tj : Nat) (s : State) : Host.Outcome State Fault Refusal :=
  s.on fun c => c.thermalShutdown n.val tj

/-- RETRY_EXPIRY: the retry delay has ended and, after a thermal switch-off, the sensor has read below 160 °C; a channel still
commanded on switches on again (R115, R116). -/
def Chip.retryExpiry (c : Chip) (n : Nat) : Chip :=
  c.when (c.pstate n == 2 && c.dueNow (c.lsCh n).retryAt && !(c.lsCh n).hot) fun c =>
    let c := c.updLs n fun x => { x with retryAt := none }
    if c.flag (LSC_CH_STAT_CMDON n) then
      let c := (c.satInc (LSC_CH_STAT_RETRIES n)).lsState n 0
      if (c.lsCh n).pwm || c.lsFaulted n then c else c.gateOnStatic n
    else c.lsState n 0

def execRetryExpiry (n : Fin 48) (s : State) : Host.Outcome State Fault Refusal := s.on fun c => c.retryExpiry n.val

/-- THERMAL_RECOVERY: the sensor reads below 160 °C; a retry whose delay has ended is taken, and a channel commanded on meanwhile
switches on (R115, R116). -/
def Chip.thermalRecovery (c : Chip) (n tj : Nat) : Chip :=
  let c := c.set (LSC_CH_MEAS_TJ n) tj
  c.when (decide (tj < 1280) && (c.lsCh n).hot) fun c =>
    let c := c.updLs n fun x => { x with hot := false }
    if c.pstate n = 2 then c.retryExpiry n
    else if c.pstate n ≤ 1 && c.flag (LSC_CH_STAT_CMDON n) && !(c.lsCh n).pwm && !c.lsFaulted n then c.gateOnStatic n
    else c

def execThermalRecovery (n : Fin 48) (tj : Nat) (s : State) : Host.Outcome State Fault Refusal :=
  s.on fun c => c.thermalRecovery n.val tj

/-- RETRY_COUNT_RESET: 1 s continuously in NORMAL with CMDON = 1 (R116). -/
def Chip.retryCountReset (c : Chip) (n : Nat) : Chip :=
  c.when (c.dueNow ((c.lsCh n).normalSince.map (· + 1000000000))) fun c => c.set (LSC_CH_STAT_RETRIES n) 0

def execRetryCountReset (n : Fin 48) (s : State) : Host.Outcome State Fault Refusal := s.on fun c => c.retryCountReset n.val

/-- INRUSH_WINDOW_END: the window expires; the limit is the normal one, and a channel still limiting disturbs its bank (R113,
R125). -/
def Chip.inrushWindowEnd (c : Chip) (n : Nat) : Chip :=
  c.when (c.dueNow (c.lsCh n).irEnd) fun c =>
    let c := (c.setB (LSC_CH_STAT_INRUSH n) false).updLs n fun x => { x with irEnd := none }
    if c.limitsOutside n then c.setDist (lsBank n) else c

def execInrushWindowEnd (n : Fin 48) (s : State) : Host.Outcome State Fault Refusal := s.on fun c => c.inrushWindowEnd n.val

/-! ### Clamp energy (R119–R122) -/

/-- DEMAGNETISATION_END: the clamp energy enters the accumulator and the lifetime counter; SPOVER and LOCKOFF (R119–R122). -/
def Chip.demagnetisationEnd (c : Chip) (n uj : Nat) : Chip :=
  let c := c.satAdd (LSC_CH_EACC_UJ n) uj
  let life := (c.lsCh n).lifeUj + uj
  let c := (c.satAdd (LSC_CH_ELIFE_J n) (life / 1000000)).updLs n fun x => { x with lifeUj := life % 1000000 }
  let c := c.when (decide (classRating (lsClass n) < uj)) fun c => (c.stick (LSC_CH_STAT_SPOVER n)).raise n
  c.when (decide (c.get (LSC_CH_CLAMP_BUDGET n) * 100 < c.get (LSC_CH_EACC_UJ n))) fun c =>
    let c := c.when (c.limitsOutside n) fun c => c.noteLimitEnd n
    let c := (c.gateOff n).set (LSC_CH_STAT_CAUSE n) 4
    let c := c.updLs n fun x => { x with pwm := false, retryAt := none, afterOff := true }
    (((c.setB (LSC_CH_STAT_FLYWHEEL n) false).lsState n 4).refreshBank (lsBank n)).raise n

def execDemagnetisationEnd (n : Fin 48) (energyUj : Nat) (s : State) : Host.Outcome State Fault Refusal :=
  s.on fun c => c.demagnetisationEnd n.val energyUj

/-- CLAMP_LEAK_TICK: each accumulator of the slice loses floor(E × 2^−s) (R119). -/
def Chip.clampLeakTick (c : Chip) (sl : Nat) : Chip :=
  forEach (sliceChans sl) (fun n c =>
    let e := c.get (LSC_CH_EACC_UJ n)
    c.set (LSC_CH_EACC_UJ n) (e - e / 2 ^ leakShift sl)) c

def execClampLeakTick (slice : Fin 3) (s : State) : Host.Outcome State Fault Refusal :=
  s.on fun c => c.clampLeakTick slice.val

/-- DIST_CLEAR: 1.0 ms after the last condition ended, the bank's flag clears, compensation thaws and windows resume (R125,
R126). -/
def Chip.distClear (c : Chip) (k : Nat) : Chip :=
  c.when (c.flag (LSC_BK_STAT_DIST k) && !c.distHeld k) fun c => (c.setB (LSC_BK_STAT_DIST k) false).refreshBank k

def execDistClear (k : Fin 12) (s : State) : Host.Outcome State Fault Refusal := s.on fun c => c.distClear k.val

/-! ### Budgets (R127) -/

/-- One step of a first-order filter of a current in mA, kept in µA, with time constant `tau` in units of 128 µs × 7812.5. -/
def filterStep (f ma num den : Nat) : Nat := ((f : Int) + (((ma * 1000 : Nat) : Int) - (f : Int)) * (num : Int) / (den : Int)).toNat

/-- A bank's part of the budget tick: its voltage, DIST below 5.50 V, its filtered current and OVER (R125, R127). -/
def Chip.bankTick (c : Chip) (k ma mv : Nat) : Chip :=
  let f := filterStep (look 0 c.lsc.bankFilt k) ma 128 1000000
  let low := decide (mv < 5500)
  let was := look false c.lsc.vbkLow k
  let c : Chip := { c with lsc := { c.lsc with
    bankMa := put 0 c.lsc.bankMa k ma, bankFilt := put 0 c.lsc.bankFilt k f, vbkLow := put false c.lsc.vbkLow k low
    vbkLowEnd := if was && !low then put none c.lsc.vbkLowEnd k (some c.now) else c.lsc.vbkLowEnd } }
  let c := (c.set (LSC_BK_STAT_VBK k) (min (mv / 10) 0xFFFF)).set (LSC_BK_STAT_IFILT k) (min (f / 100000) 0xFFF)
  let c := if low then c.setDist k else c.refreshBank k
  let exceeded := decide (c.get (LSC_BK_CFG_BUDGET k) * 100000 < f)
  let wasOver := c.flag (LSC_BK_STAT_OVER k)
  (c.setB (LSC_BK_STAT_OVER k) exceeded).when (exceeded && !wasOver) fun c => c.raise (48 + k)

/-- A lug's part of the budget tick (R127). -/
def Chip.lugTick (c : Chip) (j ma mv : Nat) : Chip :=
  let f := filterStep (look 0 c.lsc.lugFilt j) ma 64 1000000
  let c : Chip := { c with lsc := { c.lsc with lugFilt := put 0 c.lsc.lugFilt j f } }
  let c := (c.set (LSC_LUG_STAT_VLUG j) (min (mv / 10) 0xFFFF)).set (LSC_LUG_STAT_IFILT j) (min (f / 100000) 0xFFF)
  let exceeded := decide (c.get (LSC_LUG_CFG_BUDGET j) * 100000 < f)
  let wasOver := c.flag (LSC_LUG_STAT_OVER j)
  (c.setB (LSC_LUG_STAT_OVER j) exceeded).when (exceeded && !wasOver) fun c => c.raise 60

/-- The present sum of a lug's bank currents, in mA. -/
def Chip.lugMa (c : Chip) (j : Nat) : Nat :=
  ((List.range 12).filter (fun k => bankLug k == j)).foldl (fun a k => a + look 0 c.lsc.bankMa k) 0

/-- BUDGET_TICK: every 128 µs the cuff filters the summed bank and lug currents and compares them with their budgets (R127). -/
def Chip.budgetTick (c : Chip) (ma mv lug : List Nat) : Chip :=
  let c := forAll 12 (fun k c => c.bankTick k (ma.getD k 0) (mv.getD k 0)) c
  forAll 4 (fun j c => c.lugTick j (c.lugMa j) (lug.getD j 0)) c

def execBudgetTick (bankMa bankMv lugMv : List Nat) (s : State) : Host.Outcome State Fault Refusal :=
  s.on fun c => c.budgetTick bankMa bankMv lugMv

/-- The channel shed next among some banks: on, the highest SHEDPRI, then the highest number (R127). -/
def Chip.shedChoice (c : Chip) (banks : List Nat) : Option Nat :=
  (List.range 48).foldl (fun best n =>
    if banks.contains (lsBank n) && c.flag (LSC_CH_STAT_OUT n) then
      match best with
      | some b => if c.get (LSC_CH_CFG_SHEDPRI b) ≤ c.get (LSC_CH_CFG_SHEDPRI n) then some n else best
      | none => some n
    else best) none

/-- SHED_STEP: while the filtered and the present current exceed the budget, the next channel is shed (R127). -/
def Chip.shedStep (c : Chip) (g : Nat) : Chip :=
  if g < 12 then
    let b := c.get (LSC_BK_CFG_BUDGET g) * 100
    if b * 1000 < look 0 c.lsc.bankFilt g && b < look 0 c.lsc.bankMa g then
      let was := c.flag (LSC_BK_STAT_SHEDDING g)
      let c := (c.setB (LSC_BK_STAT_SHEDDING g) true).when (!was) fun c => c.raise (48 + g)
      match c.shedChoice [g] with
      | some n => c.shedOff n 5
      | none => c
    else c.setB (LSC_BK_STAT_SHEDDING g) false
  else
    let j := g - 12
    let b := c.get (LSC_LUG_CFG_BUDGET j) * 100
    if b * 1000 < look 0 c.lsc.lugFilt j && b < c.lugMa j then
      let c := c.setB (LSC_LUG_STAT_SHEDDING j) true
      match c.shedChoice ((List.range 12).filter (fun k => bankLug k == j)) with
      | some n => c.shedOff n 6
      | none => c
    else c.setB (LSC_LUG_STAT_SHEDDING j) false

def execShedStep (g : Fin 16) (s : State) : Host.Outcome State Fault Refusal := s.on fun c => c.shedStep g.val

/-- SOSEL_WRITE: select the channel of a SENSE_OUT ball (R130): the ball's claimant, who is the channel's world or W2. -/
def Chip.soselWrite (c : Chip) (w : Who) (m v : Nat) : Chip :=
  let n := v % 64
  if decide (47 < n) then c
  else if c.ballHeld w.world (172 + m) 0 && (c.claims w.world 4 n || w.world == 2) then
    c.wrN (LSC_SOSEL m) (v &&& 0xBF)
  else c.set LSC_STAT_LASTERR stDENIED_WORLD

def execSoselWrite (a : Agent) (m : Fin 4) (v : W32) (s : State) : Host.Outcome State Fault Refusal :=
  s.by a fun w c => c.soselWrite w m.val v.toNat

/-! ### Silence, orphan policy and adoption (R131–R135) -/

/-- SLICE_SILENCE: no link frame for 50 µs; the slice's link is down and its channels are orphaned (R132). -/
def Chip.sliceSilence (c : Chip) (sl : Nat) : Chip := (c.linkLost sl).declareSilence [sl]

def execSliceSilence (slice : Fin 3) (s : State) : Host.Outcome State Fault Refusal :=
  s.on fun c => c.sliceSilence slice.val

/-- HEARTBEAT: an LSC_HEART write of W2 restarts the timer; another world's is ignored under R567 (R132). -/
def Chip.heartbeatWrite (c : Chip) (w : Who) : Chip :=
  if w.world ≠ 2 then c.set LSC_STAT_LASTERR stDENIED_WORLD
  else match c.lsc.policy with
    | some (_, hbt, _) =>
      if hbt = 0 then c else { c with lsc := { c.lsc with heartbeat := some (c.now + hbt * 1000000) } }
    | none => c

def execLsHeartbeat (a : Agent) (s : State) : Host.Outcome State Fault Refusal := s.by a fun w c => c.heartbeatWrite w

/-- HEARTBEAT_MISS: the heartbeat timer expires; every slice declares silence, and HBMISS is set (R132). -/
def Chip.heartbeatMiss (c : Chip) : Chip :=
  c.when (c.dueNow c.lsc.heartbeat) fun c => (c.stick LSC_STAT_HBMISS).declareSilence [0, 1, 2]

def execHeartbeatMiss (s : State) : Host.Outcome State Fault Refusal := s.on Chip.heartbeatMiss

/-- Apply a fallback code to a channel (R133): it takes no channel out of RETRY, LATCHED, LOCKOFF or SHED. -/
def Chip.applyFallback (c : Chip) (n code : Nat) : Chip :=
  let free := decide (c.pstate n ≤ 1)
  match code with
  | 0 =>
    if free then
      ((c.lsTurnOff n).set (LSC_CH_STAT_CAUSE n) 7)
    else (c.setB (LSC_CH_STAT_CMDON n) false).updLs n fun x => { x with pwm := false }
  | 1 =>
    let c := (c.setB (LSC_CH_STAT_CMDON n) true).updLs n fun x => { x with pwm := false, prevOp2 := none }
    let c := c.setB (LSC_CH_STAT_FLYWHEEL n) false
    if free then
      ((c.when (!(c.lsCh n).hot && !c.lsFaulted n) fun c => c.gateOnStatic n).set (LSC_CH_STAT_CAUSE n) 7).noteNormal n
    else c
  | _ => c

/-- ORPHAN_FALLBACK: ODLY × 10 ms after its orphaning a channel goes to its fallback (R131, R133); EV0062 now, or at link-up. -/
def Chip.orphanFallback (c : Chip) (n : Nat) : Chip :=
  match c.lsc.policy with
  | none => c
  | some (odly, _, codes) =>
    c.when (c.flag (LSC_CH_STAT_ORPHAN n) && !c.flag (LSC_CH_HOLD_FBAPPLIED n) && odly != 0 &&
        c.dueNow (some ((c.lsCh n).orphanAt + odly * 10000000))) fun c =>
      let c := c.applyFallback n (bits codes (2 * n + 1) (2 * n))
      let c := (c.setB (LSC_CH_HOLD_FBAPPLIED n) true).heldChange n
      if bit (c.get LSC_STAT_LINKUP) (lsClass n) then c.raise 62
      else { c with lsc := { c.lsc with fallbackDue := true } }

def execOrphanFallback (n : Fin 48) (s : State) : Host.Outcome State Fault Refusal := s.on fun c => c.orphanFallback n.val

/-- CUFF_LINK_UP: LINKUP of the slice; the events that waited for a link are raised (R133, R135, R140). -/
def Chip.cuffLinkUp (c : Chip) (sl : Nat) : Chip :=
  let c := c.set LSC_STAT_LINKUP (setBit (c.get LSC_STAT_LINKUP) sl true)
  let s := c.lsc.silenceDue
  let f := c.lsc.fallbackDue
  let c : Chip := { c with lsc := { c.lsc with silenceDue := false, fallbackDue := false } }
  (c.when s fun c => c.raise 61).when f fun c => c.raise 62

def execCuffLinkUp (slice : Fin 3) (s : State) : Host.Outcome State Fault Refusal := s.on fun c => c.cuffLinkUp slice.val

/-- HOLD_READBACK_DONE: the slice's held states are read back; HOLDVALID (R135). -/
def Chip.holdReadbackDone (c : Chip) (sl : Nat) : Chip :=
  c.when (bit (c.get LSC_STAT_LINKUP) sl) fun c =>
    c.set LSC_STAT_HOLDVALID (setBit (c.get LSC_STAT_HOLDVALID) sl true)

def execHoldReadbackDone (slice : Fin 3) (s : State) : Host.Outcome State Fault Refusal :=
  s.on fun c => c.holdReadbackDone slice.val

/-- The status of an adoption (R135). -/
def Chip.adoptStatus (c : Chip) (w : Who) (n token : Nat) : Nat :=
  if 47 < n then stRANGE
  else if !c.claims w.world 4 n then stDENIED_WORLD
  else if c.flag (LSC_CH_STAT_ADOPTED n) then stOK
  else if !bit (c.get LSC_STAT_HOLDVALID) (lsClass n) then stNOT_NOW
  else if token ≠ c.get (LSC_CH_HOLD_HSEQ n) then stSEQUENCE
  else stOK

/-- The time since a channel's orphaning in ms, saturating (LSC_CHn_HOLD.ORPHT). -/
def Chip.orphanMs (c : Chip) (n : Nat) : Nat := min ((c.now - (c.lsCh n).orphanAt) / 1000000) 0xFFFFFFFF

/-- ADOPT: a write of LSC_ADOPT (R135). -/
def Chip.lsAdopt (c : Chip) (w : Who) (v : Nat) : Chip :=
  let n := v % 64
  let st := c.adoptStatus w n (bits v 23 16)
  let c : Chip := { c with lsc := { c.lsc with adoptRes := put 0 c.lsc.adoptRes w.key (n + st <<< 8) } }
  if st ≠ stOK then c.when (decide (n ≤ 47)) fun c => c.raise n
  else if c.flag (LSC_CH_STAT_ADOPTED n) then c
  else
    let c := c.set (LSC_CH_HOLD_ORPHT n) (c.orphanMs n)
    ((c.setB (LSC_CH_STAT_ORPHAN n) false).setB (LSC_CH_STAT_ADOPTED n) true).showNadopt

def execLsAdopt (a : Agent) (v : W32) (s : State) : Host.Outcome State Fault Refusal :=
  s.by a fun w c => c.lsAdopt w v.toNat

/-! ### Safe-off, cuff reset and faults (R136–R139) -/

/-- A write of LSC_CTL (R136, R139): CLRCNT, and SAFEOFF with the fire tick of R111 for every channel. -/
def Chip.lscCtlWrite (c : Chip) (w : Who) (v : Nat) : Chip :=
  if w.world ≠ 2 then c.set LSC_STAT_LASTERR stDENIED_WORLD
  else
    let c := c.when (bit v 1) fun c => forAll 48 (fun n c => c.wrN (LSC_CH_CNT n) 0) c
    c.when (bit v 0) fun c =>
      forAll 48 (fun n c => c.addAction { fire := c.time.frc + 1500, cls := 0, target := n, arg := 16 }) c

/-- SAFEOFF: a write of LSC_CTL with SAFEOFF = 1. -/
def execLsSafeoff (a : Agent) (v : W32) (s : State) : Host.Outcome State Fault Refusal :=
  s.by a fun w c => c.lscCtlWrite w (setBit v.toNat 0 true)

/-- LSC_CLRCNT: a write of LSC_CTL with CLRCNT = 1. -/
def execLscClrcnt (a : Agent) (v : W32) (s : State) : Host.Outcome State Fault Refusal :=
  s.by a fun w c => c.lscCtlWrite w (setBit v.toNat 1 true)

/-- Bring every channel to its state after a reset of the cuff (R137): off, NORMAL, reset configuration, orphaned. -/
def Chip.cuffClear (c : Chip) : Chip :=
  let c := forAll 48 (fun n c =>
    let life := (c.lsCh n).lifeUj
    let c := [LSC_CH_CFG n, LSC_CH_PROT n, LSC_CH_CLAMP n, LSC_CH_PWMPER n, LSC_CH_STAT n, LSC_CH_MEAS n, LSC_CH_HOLD n].foldl
      (fun c r => c.wrN r r.rst) c
    c.updLs n fun _ => { orphanAt := c.now, lifeUj := life }) c
  let c := forAll 12 (fun k c => c.wrN (LSC_BK_STAT k) 0) c
  let c := forAll 4 (fun j c => (c.wrN (LSC_LUG_STAT j) 0).wrN (LSC_SOSEL j) 0) c
  { c with
    seq := { c.seq with acts := c.seq.acts.filter (fun a => a.cls != 0) }
    lsc := { c.lsc with
      sliceFault := [], heartbeat := none, vbkLow := [], vbkLowEnd := [], bankMa := [], bankFilt := [], lugFilt := [] } }

/-- CUFF_RESET: a write of the key to LSC_CUFFRST by W0 before PROT_SEAL (R13, R137). -/
def Chip.cuffReset (c : Chip) (w : Who) (v : Nat) : Chip :=
  if w.world ≠ 0 then c.set LSC_STAT_LASTERR stDENIED_WORLD
  else if c.flag RST_STAT_SEALED then c.raise 481
  else c.when (v % 65536 == 0x5A3C) fun c => c.cuffClear.showNadopt

def execCuffReset (a : Agent) (v : W32) (s : State) : Host.Outcome State Fault Refusal :=
  s.by a fun w c => c.cuffReset w v.toNat

/-- SLICE_FAULT: the slice shuts its channels off with CAUSE 9; they keep their protection state (R138). -/
def Chip.sliceFaultOp (c : Chip) (sl : Nat) : Chip :=
  c.when (!look false c.lsc.sliceFault sl) fun c =>
    let c := forEach (sliceChans sl) (fun n c =>
      let c := (c.gateOff n).set (LSC_CH_STAT_CAUSE n) 9
      (c.setB (LSC_CH_STAT_FLYWHEEL n) false).updLs n fun x => { x with pwm := false, retryAt := none }) c
    ({ c with lsc := { c.lsc with sliceFault := put false c.lsc.sliceFault sl true } } : Chip).raise 63

def execSliceFault (slice : Fin 3) (s : State) : Host.Outcome State Fault Refusal := s.on fun c => c.sliceFaultOp slice.val

end Sys2Proof.Machine
end

