-- ==== Sys2Proof/Machine/LogicIsa.lean ====
section
/-! DEFINITION. The instruction set of the logic engines: R149, R154–R161. Each instruction is a function on the engine's
processor; the active constant pool is its only other input. -/

namespace Sys2Proof.Machine

/-! ### Instruction words (R154) -/

/-- The fields of an instruction word, each at its place in every format that has it. -/
structure LeIns where
  op : Nat
  area : Nat
  bitAddr : Nat
  src : Nat
  u : Bool
  any : Bool
  addr : Nat
  target : Nat
  deriving DecidableEq, Repr

/-- The fields of a word. The lane width code of format W stands where format B has its bit area. -/
def leFields (w : Nat) : LeIns :=
  { op := bits w 31 26, area := bits w 25 23, bitAddr := bits w 14 0, src := bits w 22 21, u := bit w 20, any := bit w 19,
    addr := bits w 11 0, target := bits w 15 0 }

def wordN (op : Nat) : Nat := op <<< 26
def wordB (op area addr : Nat) : Nat := (op <<< 26) + (area <<< 23) + addr
def wordI (op ix : Nat) : Nat := (op <<< 26) + ix
def wordW (op l src : Nat) (u any : Bool) (addr : Nat) : Nat :=
  (op <<< 26) + (l <<< 23) + (src <<< 21) + (b2n u <<< 20) + (b2n any <<< 19) + addr
def wordJ (op target : Nat) : Nat := (op <<< 26) + target

/-! ### Lanes -/

/-- The lane width of code `l`: 8, 16, 32, 64 or 128 bits. -/
def laneBits (l : Nat) : Nat := 8 * 2 ^ l

/-- Lane `i` of width `w`. -/
def lane (w : Nat) (v : W128) (i : Nat) : Nat := (v.toNat >>> (w * i)) % 2 ^ w

/-- A word with lane `i` of width `w` replaced. -/
def setLane (w : Nat) (v : W128) (i x : Nat) : W128 := setBits v (w * i + w - 1) (w * i) (x % 2 ^ w)

/-- Apply `f` lane by lane. -/
def laneZip (w : Nat) (f : Nat → Nat → Nat) (a b : W128) : W128 :=
  BitVec.ofNat 128 ((List.range (128 / w)).foldl (fun s i => s + ((f (lane w a i) (lane w b i) % 2 ^ w) <<< (w * i))) 0)

/-- Whether `p` holds in every lane, or with `any` in some lane (R157). -/
def laneTest (w : Nat) (any : Bool) (p : Nat → Nat → Bool) (a b : W128) : Bool :=
  if any then (List.range (128 / w)).any fun i => p (lane w a i) (lane w b i)
  else (List.range (128 / w)).all fun i => p (lane w a i) (lane w b i)

/-- A lane value as an integer: unsigned with `u`, otherwise two's complement (R157). -/
def laneInt (w : Nat) (u : Bool) (x : Nat) : Int := if u then (x : Int) else signed w x

/-- An integer saturated to a lane, unsigned or signed. -/
def saturate (w : Nat) (u : Bool) (x : Int) : Nat :=
  if u then (if x < 0 then 0 else if (2 ^ w : Int) ≤ x then 2 ^ w - 1 else x.toNat)
  else if x < -(2 ^ (w - 1) : Int) then 2 ^ (w - 1)
  else if (2 ^ (w - 1) : Int) ≤ x then 2 ^ (w - 1) - 1 else unsigned w x

/-! ### Operands -/

/-- What an instruction does: a new processor, or a fault with its cause (R156), without any effect. -/
inductive LeRes
  | ok (p : LeCpu)
  | fault (cause : Nat)
  deriving DecidableEq, Repr

/-- The next instruction address. -/
def LeCpu.step (p : LeCpu) : LeCpu := { p with pc := (p.pc + 1) % 65536 }

/-- A bit operand (R149, R155). -/
def LeCpu.bitAt (p : LeCpu) (area addr : Nat) : Bool :=
  match area with
  | 0 => look false p.i addr
  | 1 => look false p.q addr
  | 2 => look false p.m addr
  | 3 => (look {} p.timers addr).q
  | 4 => (look {} p.counters addr).q
  | 5 => bit p.sysBits addr
  | _ => false

/-- Store a bit; only Q and M are written by the program (R149). -/
def LeCpu.setBit (p : LeCpu) (area addr : Nat) (b : Bool) : LeCpu :=
  match area with
  | 1 => { p with q := put false p.q addr b }
  | 2 => { p with m := put false p.m addr b }
  | _ => p

/-- A word operand by SRC (R154). -/
def LeCpu.operand (p : LeCpu) (k : NMap W128) (n : LeIns) : W128 :=
  match n.src with
  | 0 => look 0 p.w n.addr
  | 1 => look 0 k n.addr
  | 2 => look 0 p.w ((n.addr + p.x) % 4096)
  | _ => let w := laneBits n.area
         laneZip w (fun _ _ => unsigned w (signed 12 n.addr)) 0 0

/-- A word with the bytes of `mask` taken from `new`. -/
def mergeBytes (mask : Nat) (old new : W128) : W128 :=
  forAll 16 (fun b v => if bit mask b then setLane 8 v b (lane 8 new b) else v) old

/-- An instruction on RLO with a bit operand. -/
def leBit (f : Bool → Bool → Bool) (n : LeIns) (p : LeCpu) : LeRes :=
  .ok ({ p with rlo := f p.rlo (p.bitAt n.area n.bitAddr) } : LeCpu).step

/-- An instruction on RLO alone. -/
def leRlo (f : Bool → Bool) (p : LeCpu) : LeRes := .ok ({ p with rlo := f p.rlo } : LeCpu).step

/-- A store of a bit where `p` asks for it. -/
def leStoreBit (f : Bool → Option Bool) (n : LeIns) (p : LeCpu) : LeRes :=
  match f p.rlo with
  | some b => .ok (p.setBit n.area n.bitAddr b).step
  | none => .ok p.step

/-- A pop of the branch stack into RLO (R156). -/
def lePop (f : Bool → Bool → Bool) (p : LeCpu) : LeRes :=
  match p.bstack with
  | [] => .fault 3
  | b :: t => .ok ({ p with rlo := f b p.rlo, bstack := t } : LeCpu).step

/-- A word instruction on WA, lane by lane. -/
def leLanes (f : Nat → Nat → Nat → Nat) (k : NMap W128) (n : LeIns) (p : LeCpu) : LeRes :=
  let w := laneBits n.area
  .ok ({ p with wa := laneZip w (f w) p.wa (p.operand k n) } : LeCpu).step

/-- A compare (R157). -/
def leCompare (f : Int → Int → Bool) (k : NMap W128) (n : LeIns) (p : LeCpu) : LeRes :=
  let w := laneBits n.area
  .ok ({ p with rlo := laneTest w n.any (fun a b => f (laneInt w n.u a) (laneInt w n.u b)) p.wa (p.operand k n) } : LeCpu).step

/-- A jump where the condition holds. -/
def leJump (take : Bool) (n : LeIns) (p : LeCpu) : LeRes := if take then .ok { p with pc := n.target } else .ok p.step

/-! ### Timers (R159) -/

/-- The timer time of the cycle (system word 2). -/
def LeCpu.timerTime (p : LeCpu) : Nat := (look 0 p.sysWords 2).toNat % 2 ^ 64

/-- The elapsed time of a running timer, saturated at its preset. -/
def LeCpu.elapsed (p : LeCpu) (t : LeTimer) : Nat :=
  min (s64 ((p.timerTime : Int) - (t.stamp : Int))).toNat t.preset

/-- Run a timer on RLO; RLO takes its Q. -/
def leTimer (f : LeCpu → LeTimer → LeTimer) (n : LeIns) (p : LeCpu) : LeRes :=
  let t := f p (look {} p.timers n.addr)
  .ok ({ p with timers := put {} p.timers n.addr t, rlo := t.q } : LeCpu).step

/-- TON: the on-delay timer. -/
def tonStep (p : LeCpu) (t : LeTimer) : LeTimer :=
  if p.rlo then
    let t := if t.running then t else { t with stamp := p.timerTime, running := true }
    { t with q := decide (t.preset ≤ p.elapsed t) }
  else { t with q := false, running := false }

/-- TOF: the off-delay timer. -/
def tofStep (p : LeCpu) (t : LeTimer) : LeTimer :=
  if p.rlo then { t with q := true, running := false }
  else
    let t := if t.q && !t.running then { t with stamp := p.timerTime, running := true } else t
    if t.running && decide (t.preset ≤ p.elapsed t) then { t with q := false } else t

/-- TP: the pulse timer. -/
def tpStep (p : LeCpu) (t : LeTimer) : LeTimer :=
  let t := if p.rlo && !t.input && !t.running then { t with stamp := p.timerTime, running := true, q := true } else t
  let t := if t.running && decide (t.preset ≤ p.elapsed t) then { t with q := false, running := false } else t
  { t with input := p.rlo }

/-! ### Counters and edge detectors (R160, R161) -/

/-- Run a counter; RLO takes its result. -/
def leCounter (f : LeCpu → LeCounter → LeCounter) (n : LeIns) (p : LeCpu) : LeRes :=
  let t := f p (look {} p.counters n.addr)
  .ok ({ p with counters := put {} p.counters n.addr t, rlo := t.q } : LeCpu).step

/-- CTU: count up on a rising RLO. -/
def ctuStep (p : LeCpu) (t : LeCounter) : LeCounter :=
  let n := if p.rlo && !t.up then min (t.count + 1) 2147483647 else t.count
  { t with count := n, up := p.rlo, q := decide (t.preset ≤ n) }

/-- CTD: count down on a rising RLO. -/
def ctdStep (p : LeCpu) (t : LeCounter) : LeCounter :=
  let n := if p.rlo && !t.down then max (t.count - 1) (-2147483648) else t.count
  { t with count := n, down := p.rlo, q := decide (n ≤ 0) }

/-- Change a counter and leave RLO. -/
def leSetCounter (f : LeCpu → LeCounter → LeCounter) (n : LeIns) (p : LeCpu) : LeRes :=
  .ok ({ p with counters := put {} p.counters n.addr (f p (look {} p.counters n.addr)) } : LeCpu).step

/-- Run an edge detector that reports `f input prev`. -/
def leDetect (f : Bool → Bool → Bool) (n : LeIns) (p : LeCpu) : LeRes :=
  let d := look {} p.edges n.addr
  let r := if d.fresh then false else f p.rlo d.prev
  .ok ({ p with edges := put {} p.edges n.addr { prev := p.rlo, fresh := false }, rlo := r } : LeCpu).step

/-! ### The instructions (R155) -/

def leiNop (_ : NMap W128) (_ : LeIns) (p : LeCpu) : LeRes := .ok p.step
def leiLd (_ : NMap W128) (n : LeIns) (p : LeCpu) : LeRes := leBit (fun _ b => b) n p
def leiLdn (_ : NMap W128) (n : LeIns) (p : LeCpu) : LeRes := leBit (fun _ b => !b) n p
def leiAnd (_ : NMap W128) (n : LeIns) (p : LeCpu) : LeRes := leBit (fun r b => r && b) n p
def leiAndn (_ : NMap W128) (n : LeIns) (p : LeCpu) : LeRes := leBit (fun r b => r && !b) n p
def leiOr (_ : NMap W128) (n : LeIns) (p : LeCpu) : LeRes := leBit (fun r b => r || b) n p
def leiOrn (_ : NMap W128) (n : LeIns) (p : LeCpu) : LeRes := leBit (fun r b => r || !b) n p
def leiXor (_ : NMap W128) (n : LeIns) (p : LeCpu) : LeRes := leBit (fun r b => r ^^ b) n p
def leiXorn (_ : NMap W128) (n : LeIns) (p : LeCpu) : LeRes := leBit (fun r b => r ^^ !b) n p
def leiSt (_ : NMap W128) (n : LeIns) (p : LeCpu) : LeRes := leStoreBit (fun r => some r) n p
def leiStn (_ : NMap W128) (n : LeIns) (p : LeCpu) : LeRes := leStoreBit (fun r => some !r) n p
def leiSet (_ : NMap W128) (n : LeIns) (p : LeCpu) : LeRes := leStoreBit (fun r => if r then some true else none) n p
def leiRst (_ : NMap W128) (n : LeIns) (p : LeCpu) : LeRes := leStoreBit (fun r => if r then some false else none) n p
def leiNot (_ : NMap W128) (_ : LeIns) (p : LeCpu) : LeRes := leRlo (fun r => !r) p
def leiSetr (_ : NMap W128) (_ : LeIns) (p : LeCpu) : LeRes := leRlo (fun _ => true) p
def leiClrr (_ : NMap W128) (_ : LeIns) (p : LeCpu) : LeRes := leRlo (fun _ => false) p

/-- PSH: BSTACK_OVER with 16 entries (R156). -/
def leiPsh (_ : NMap W128) (_ : LeIns) (p : LeCpu) : LeRes :=
  if 16 ≤ p.bstack.length then .fault 2 else .ok ({ p with bstack := p.rlo :: p.bstack } : LeCpu).step

def leiPopa (_ : NMap W128) (_ : LeIns) (p : LeCpu) : LeRes := lePop (fun b r => b && r) p
def leiPopo (_ : NMap W128) (_ : LeIns) (p : LeCpu) : LeRes := lePop (fun b r => b || r) p
def leiPopx (_ : NMap W128) (_ : LeIns) (p : LeCpu) : LeRes := lePop (fun b r => b ^^ r) p
def leiRedg (_ : NMap W128) (n : LeIns) (p : LeCpu) : LeRes := leDetect (fun r prev => r && !prev) n p
def leiFedg (_ : NMap W128) (n : LeIns) (p : LeCpu) : LeRes := leDetect (fun r prev => !r && prev) n p
def leiTon (_ : NMap W128) (n : LeIns) (p : LeCpu) : LeRes := leTimer tonStep n p
def leiTof (_ : NMap W128) (n : LeIns) (p : LeCpu) : LeRes := leTimer tofStep n p
def leiTp (_ : NMap W128) (n : LeIns) (p : LeCpu) : LeRes := leTimer tpStep n p

/-- TPS: the timer's preset takes WA bits 63:0. -/
def leiTps (_ : NMap W128) (n : LeIns) (p : LeCpu) : LeRes :=
  let t := look {} p.timers n.addr
  .ok ({ p with timers := put {} p.timers n.addr { t with preset := p.wa.toNat % 2 ^ 64 } } : LeCpu).step

/-- TEL: WA takes the elapsed time; of a timer that does not run the spec states none, and the value is open. -/
def leiTel (_ : NMap W128) (n : LeIns) (p : LeCpu) : LeRes :=
  let t := look {} p.timers n.addr
  let v := if t.running then p.elapsed t else (Config.elapsedStopped t.stamp t.preset t.q).toNat
  .ok ({ p with wa := BitVec.ofNat 128 v } : LeCpu).step

def leiCtu (_ : NMap W128) (n : LeIns) (p : LeCpu) : LeRes := leCounter ctuStep n p
def leiCtd (_ : NMap W128) (n : LeIns) (p : LeCpu) : LeRes := leCounter ctdStep n p
def leiCrs (_ : NMap W128) (n : LeIns) (p : LeCpu) : LeRes :=
  leSetCounter (fun p t => if p.rlo then { t with count := 0 } else t) n p
def leiCld (_ : NMap W128) (n : LeIns) (p : LeCpu) : LeRes :=
  leSetCounter (fun p t => if p.rlo then { t with count := t.preset } else t) n p
def leiCvl (_ : NMap W128) (n : LeIns) (p : LeCpu) : LeRes :=
  .ok ({ p with wa := BitVec.ofInt 128 (look {} p.counters n.addr).count } : LeCpu).step
def leiCps (_ : NMap W128) (n : LeIns) (p : LeCpu) : LeRes :=
  leSetCounter (fun p t => { t with preset := signed 32 p.wa.toNat }) n p
def leiLdw (k : NMap W128) (n : LeIns) (p : LeCpu) : LeRes := .ok ({ p with wa := p.operand k n } : LeCpu).step

/-- STW: bytes of W under an input force of this cycle stay (R168). -/
def leiStw (_ : NMap W128) (n : LeIns) (p : LeCpu) : LeRes :=
  let a := if n.src = 2 then (n.addr + p.x) % 4096 else n.addr
  .ok ({ p with w := put 0 p.w a (mergeBytes (65535 - look 0 p.forced a % 65536) (look 0 p.w a) p.wa) } : LeCpu).step

def leiAdd (k : NMap W128) (n : LeIns) (p : LeCpu) : LeRes := leLanes (fun _ a b => a + b) k n p
def leiSub (k : NMap W128) (n : LeIns) (p : LeCpu) : LeRes := leLanes (fun w a b => a + 2 ^ w - b) k n p
def leiAdds (k : NMap W128) (n : LeIns) (p : LeCpu) : LeRes :=
  leLanes (fun w a b => saturate w n.u (laneInt w n.u a + laneInt w n.u b)) k n p
def leiSubs (k : NMap W128) (n : LeIns) (p : LeCpu) : LeRes :=
  leLanes (fun w a b => saturate w n.u (laneInt w n.u a - laneInt w n.u b)) k n p
def leiMul (k : NMap W128) (n : LeIns) (p : LeCpu) : LeRes := leLanes (fun _ a b => a * b) k n p
def leiAndw (k : NMap W128) (n : LeIns) (p : LeCpu) : LeRes := .ok ({ p with wa := p.wa &&& p.operand k n } : LeCpu).step
def leiOrw (k : NMap W128) (n : LeIns) (p : LeCpu) : LeRes := .ok ({ p with wa := p.wa ||| p.operand k n } : LeCpu).step
def leiXorw (k : NMap W128) (n : LeIns) (p : LeCpu) : LeRes := .ok ({ p with wa := p.wa ^^^ p.operand k n } : LeCpu).step
def leiShl (k : NMap W128) (n : LeIns) (p : LeCpu) : LeRes := leLanes (fun w a b => a <<< (b % w)) k n p
def leiShr (k : NMap W128) (n : LeIns) (p : LeCpu) : LeRes :=
  leLanes (fun w a b => if n.u then a >>> (b % w) else unsigned w (signed w a / (2 ^ (b % w) : Nat))) k n p
def leiMin (k : NMap W128) (n : LeIns) (p : LeCpu) : LeRes :=
  leLanes (fun w a b => if laneInt w n.u b < laneInt w n.u a then b else a) k n p
def leiMax (k : NMap W128) (n : LeIns) (p : LeCpu) : LeRes :=
  leLanes (fun w a b => if laneInt w n.u a < laneInt w n.u b then b else a) k n p
def leiCeq (k : NMap W128) (n : LeIns) (p : LeCpu) : LeRes := leCompare (fun a b => decide (a = b)) k n p
def leiCne (k : NMap W128) (n : LeIns) (p : LeCpu) : LeRes := leCompare (fun a b => decide (a ≠ b)) k n p
def leiClt (k : NMap W128) (n : LeIns) (p : LeCpu) : LeRes := leCompare (fun a b => decide (a < b)) k n p
def leiCle (k : NMap W128) (n : LeIns) (p : LeCpu) : LeRes := leCompare (fun a b => decide (a ≤ b)) k n p
def leiCgt (k : NMap W128) (n : LeIns) (p : LeCpu) : LeRes := leCompare (fun a b => decide (b < a)) k n p
def leiCge (k : NMap W128) (n : LeIns) (p : LeCpu) : LeRes := leCompare (fun a b => decide (b ≤ a)) k n p
def leiSel (k : NMap W128) (n : LeIns) (p : LeCpu) : LeRes :=
  .ok (if p.rlo then { p with wa := p.operand k n } else p : LeCpu).step
def leiLdx (_ : NMap W128) (_ : LeIns) (p : LeCpu) : LeRes := .ok ({ p with x := p.wa.toNat % 4096 } : LeCpu).step
def leiLds (_ : NMap W128) (n : LeIns) (p : LeCpu) : LeRes := .ok ({ p with wa := look 0 p.sysWords n.addr } : LeCpu).step
def leiJmp (_ : NMap W128) (n : LeIns) (p : LeCpu) : LeRes := leJump true n p
def leiJc (_ : NMap W128) (n : LeIns) (p : LeCpu) : LeRes := leJump p.rlo n p
def leiJnc (_ : NMap W128) (n : LeIns) (p : LeCpu) : LeRes := leJump (!p.rlo) n p

/-- CALL: CALL_OVER with 8 return addresses (R156). -/
def leiCall (_ : NMap W128) (n : LeIns) (p : LeCpu) : LeRes :=
  if 8 ≤ p.cstack.length then .fault 4 else .ok { p with pc := n.target, cstack := (p.pc + 1) % 65536 :: p.cstack }

/-- RET: RET_UNDER with an empty call stack (R156). -/
def leiRet (_ : NMap W128) (_ : LeIns) (p : LeCpu) : LeRes :=
  match p.cstack with
  | [] => .fault 5
  | r :: t => .ok { p with pc := r, cstack := t }

/-- The instruction an opcode names; END (0x3D) and the reserved opcodes are none of them. -/
def leOpcode (op : Nat) : Option (NMap W128 → LeIns → LeCpu → LeRes) :=
  match op with
  | 0x00 => some leiNop | 0x01 => some leiLd | 0x02 => some leiLdn | 0x03 => some leiAnd | 0x04 => some leiAndn
  | 0x05 => some leiOr | 0x06 => some leiOrn | 0x07 => some leiXor | 0x08 => some leiXorn | 0x09 => some leiSt
  | 0x0A => some leiStn | 0x0B => some leiSet | 0x0C => some leiRst | 0x0D => some leiNot | 0x0E => some leiSetr
  | 0x0F => some leiClrr | 0x10 => some leiPsh | 0x11 => some leiPopa | 0x12 => some leiPopo | 0x13 => some leiPopx
  | 0x14 => some leiRedg | 0x15 => some leiFedg | 0x16 => some leiTon | 0x17 => some leiTof | 0x18 => some leiTp
  | 0x19 => some leiTps | 0x1A => some leiTel | 0x1B => some leiCtu | 0x1C => some leiCtd | 0x1D => some leiCrs
  | 0x1E => some leiCld | 0x1F => some leiCvl | 0x20 => some leiCps | 0x21 => some leiLdw | 0x22 => some leiStw
  | 0x23 => some leiAdd | 0x24 => some leiSub | 0x25 => some leiAdds | 0x26 => some leiSubs | 0x27 => some leiMul
  | 0x28 => some leiAndw | 0x29 => some leiOrw | 0x2A => some leiXorw | 0x2B => some leiShl | 0x2C => some leiShr
  | 0x2D => some leiMin | 0x2E => some leiMax | 0x2F => some leiCeq | 0x30 => some leiCne | 0x31 => some leiClt
  | 0x32 => some leiCle | 0x33 => some leiCgt | 0x34 => some leiCge | 0x35 => some leiSel | 0x36 => some leiLdx
  | 0x37 => some leiLds | 0x38 => some leiJmp | 0x39 => some leiJc | 0x3A => some leiJnc | 0x3B => some leiCall
  | 0x3C => some leiRet
  | _ => none

end Sys2Proof.Machine
end

