-- ==== Sys2Proof/Machine/LogicLinks.lean ====
section
/-! DEFINITION. The link table of the logic engines: sources at a snapshot, sinks at a commit, forces, and the claims and
shapes of entries: R145, R151–R153, R165–R168. -/

namespace Sys2Proof.Machine

/-! ### Engines -/

/-- Engine `e`. -/
def Chip.leg (c : Chip) (e : Nat) : LeEngine := look {} c.le.engines e

/-- Change engine `e`. -/
def Chip.updLe (c : Chip) (e : Nat) (f : LeEngine → LeEngine) : Chip :=
  { c with le := { c.le with engines := upd {} c.le.engines e f } }

/-- Change the processor of engine `e`. -/
def Chip.updCpu (c : Chip) (e : Nat) (f : LeCpu → LeCpu) : Chip := c.updLe e fun g => { g with cpu := f g.cpu }

/-- The world of engine `e` (R143). -/
def Chip.leWorld (c : Chip) (e : Nat) : Nat := c.worldOf (8 + e)

/-- Raise event `k` of engine `e` (R177). -/
def Chip.leEvent (c : Chip) (e k : Nat) : Chip := c.raise (160 + 16 * e + k)

/-- The mode of engine `e`: 0 STOP, 1 RUN, 2 HOLD. -/
def Chip.leMode (c : Chip) (e : Nat) : Nat := c.get (LE_STAT_MODE e)

/-! ### Link entries (R151) -/

/-- An entry of the link table. -/
structure LeLink where
  kind : Nat
  index : Nat
  area : Nat
  addr : Nat
  count : Nat
  reserved : Bool
  deriving DecidableEq, Repr

/-- Entry `i` of a link table. -/
def linkAt (t : NMap W128) (i : Nat) : LeLink :=
  let v := bits (look 0 t (i / 2)).toNat (64 * (i % 2) + 63) (64 * (i % 2))
  { kind := bits v 63 56, index := bits v 55 40, area := bits v 39 38, addr := bits v 31 16, count := bits v 11 0,
    reserved := bits v 37 32 != 0 || bits v 15 12 != 0 }

/-- The numbers of the entries in use. -/
def linksUsed (t : NMap W128) : List Nat := (List.range 512).filter fun i => (linkAt t i).kind != 0

/-- Whether a kind is a sink. -/
def LeLink.out (l : LeLink) : Bool := decide (0x40 < l.kind)

/-- The bits of one unit of a kind: 1 for bits, a lane, or a byte. -/
def linkUnit (kind : Nat) : Nat :=
  match kind with
  | 3 => 16
  | 4 => 64
  | 5 => 16
  | 6 => 8
  | 7 => 8
  | 0x42 => 16
  | 0x44 => 8
  | 0x45 => 8
  | _ => 1

/-- The instances a kind has, and whether a unit advances the instance. -/
def linkInstances (kind : Nat) : Nat :=
  match kind with
  | 1 => 48
  | 2 => 8
  | 3 => 32
  | 4 => 16
  | 5 => 48
  | 0x41 => 48
  | 0x42 => 48
  | 0x43 => 32
  | 6 => 512
  | 0x44 => 512
  | 7 => 1536
  | 0x45 => 1536
  | _ => 0

/-- The number of W words an entry of units of `u` bits covers. -/
def linkWords (u count : Nat) : Nat := (u * count + 127) / 128

/-- Whether an entry's AREA and COUNT fit its KIND (R151, R171). -/
def Chip.linkFits (c : Chip) (l : LeLink) : Bool :=
  let u := linkUnit l.kind
  let size := if l.kind = 6 || l.kind = 0x44 then 256 else c.canSize l.index
  !l.reserved && l.count != 0 && linkInstances l.kind != 0 &&
  (if u = 1 then l.area == (if l.out then 1 else 0) && decide (l.addr + l.count ≤ 8192)
   else l.area == 2 && decide (l.addr + linkWords u l.count ≤ 4096)) &&
  (if u = 8 then decide (l.index < linkInstances l.kind) && decide (l.count ≤ size)
   else decide (l.index + l.count ≤ linkInstances l.kind))

/-- Whether world `w` claims instance `n` of a kind (R171, R538, R343). -/
def Chip.linkClaimed (c : Chip) (w kind n : Nat) : Bool :=
  match kind with
  | 1 => c.claims w 9 n
  | 2 => c.claims w 10 n
  | 3 => c.claims w 12 0 || c.claims w 12 1
  | 4 => c.claims w 6 n
  | 5 => c.claims w 4 n
  | 0x41 => c.claims w 4 n
  | 0x42 => c.claims w 4 n
  | 0x43 => c.sqoHeld w n
  | 6 => c.poolWorld 2 n == some w
  | 0x44 => c.poolWorld 2 n == some w
  | 7 => c.poolWorld 1 n == some w
  | 0x45 => c.poolWorld 1 n == some w
  | _ => false

/-- The instances an entry names. -/
def LeLink.instances (l : LeLink) : List Nat :=
  if linkUnit l.kind = 8 then [l.index] else (List.range l.count).map (l.index + ·)

/-! ### Snapshot (R144, R151, R152) -/

/-- The value of unit `j` of an input entry at tick `t`. -/
def Chip.linkValue (c : Chip) (l : LeLink) (j t : Nat) : Nat :=
  let n := l.index + j
  match l.kind with
  | 1 => b2n (c.dinBit n)
  | 2 => b2n (c.lswBit n)
  | 3 => c.ainCode n
  | 4 => c.reportedAt n t
  | 5 => (b2n (c.flag (LSC_CH_STAT_OUT n)) <<< 15) + (c.pstate n <<< 12) + c.get (LSC_CH_MEAS_ISENSE n)
  | 6 => c.hbdRxByte l.index j
  | 7 => c.canRxByte l.index j
  | _ => 0

/-- Whether an instance of an input kind is invalid (R152). -/
def Chip.linkBad (c : Chip) (kind n : Nat) : Bool :=
  match kind with
  | 1 => c.dinBad n
  | 2 => c.lswBad n
  | 3 => c.ainBad n
  | 4 => n != 0 && c.get (PB_STAT_STATE n) != 4
  | 6 => c.hbdRxBad n
  | 7 => c.canRxBad n
  | _ => false

/-- Copy one input entry into the image. -/
def Chip.copyLink (c : Chip) (l : LeLink) (t : Nat) (p : LeCpu) : LeCpu :=
  let u := linkUnit l.kind
  forAll l.count (fun j p =>
    if u = 1 then { p with i := put false p.i (l.addr + j) (c.linkValue l j t == 1) }
    else
      let a := l.addr + u * j / 128
      { p with w := put 0 p.w a (setLane u (look 0 p.w a) (j % (128 / u)) (c.linkValue l j t)) }) p

/-- The input entries of a table. -/
def inputLinks (t : NMap W128) : List Nat := (linksUsed t).filter fun i => !(linkAt t i).out

/-- The output entries of a table. -/
def outputLinks (t : NMap W128) : List Nat := (linksUsed t).filter fun i => (linkAt t i).out

/-- The lowest input entry with an invalid source. -/
def Chip.lowestBad (c : Chip) (t : NMap W128) : Option Nat :=
  (inputLinks t).find? fun i => (linkAt t i).instances.any fun n => c.linkBad (linkAt t i).kind n

/-! ### Forces (R167, R168) -/

/-- A force entry: kind, address, byte mask, bit and word. -/
structure LeForce where
  valid : Bool
  kind : Nat
  addr : Nat
  mask : Nat
  bval : Bool
  value : W128
  deriving DecidableEq, Repr

/-- Entry `n` of a force table. -/
def forceAt (t : NMap W128) (n : Nat) : LeForce :=
  let v := (look 0 t (2 * n)).toNat
  { valid := bit v 31, kind := bits v 30 28, addr := bits v 15 0, mask := bits v 47 32, bval := bit v 48,
    value := look 0 t (2 * n + 1) }

/-- The valid entries of one kind, in rising order, so that a later one prevails. -/
def forcesOf (t : NMap W128) (kind : Nat) : List LeForce :=
  ((List.range 256).map (forceAt t)).filter fun f => f.valid && f.kind == kind

/-- Force bits. -/
def forceBits (t : NMap W128) (kind : Nat) (m : NMap Bool) : NMap Bool :=
  (forcesOf t kind).foldl (fun m f => put false m (f.addr % 8192) f.bval) m

/-- Force bytes of words. -/
def forceWords (t : NMap W128) (kind : Nat) (m : NMap W128) : NMap W128 :=
  (forcesOf t kind).foldl (fun m f => put 0 m (f.addr % 4096) (mergeBytes f.mask (look 0 m (f.addr % 4096)) f.value)) m

/-- Apply the input forces (R144 step 3), and note the bytes they cover for this cycle. -/
def applyInputForces (t : NMap W128) (p : LeCpu) : LeCpu :=
  { p with i := forceBits t 0 p.i, w := forceWords t 2 p.w,
           forced := (forcesOf t 2).foldl (fun m f => put 0 m (f.addr % 4096) (look 0 m (f.addr % 4096) ||| f.mask)) [] }

/-! ### Delivery (R145, R153) -/

/-- The value the commit image has for unit `j` of an output entry. -/
def imageUnit (q : NMap Bool) (w : NMap W128) (l : LeLink) (j : Nat) : Nat :=
  let u := linkUnit l.kind
  if u = 1 then b2n (look false q (l.addr + j)) else lane u (look 0 w (l.addr + u * j / 128)) (j % (128 / u))

/-- Why the LSC block refuses a command of engine `e` for channel `n` at acceptance (R107, R134, R138). -/
def Chip.lsAccept (c : Chip) (e n : Nat) : Nat :=
  if !c.claims (c.leWorld e) 4 n then stDENIED_WORLD
  else if c.flag (LSC_CH_STAT_ORPHAN n) then stNOT_ADOPTED
  else if c.lsFaulted n then stNOT_NOW
  else stOK

/-- Deliver unit `j` of entry `i` where its value differs from the one last delivered (R153): a load-switch or pin command
with fire tick `fire`. -/
def Chip.deliverUnit (c : Chip) (e fire i : Nat) (l : LeLink) (j : Nat) : Chip :=
  let key := i * 4096 + j
  let v := imageUnit (c.leg e).commitQ (c.leg e).commitW l j
  let n := l.index + j
  if look none (c.leg e).delivered key == some v then c
  else
    let sent (c : Chip) : Chip := c.updLe e fun g => { g with delivered := put none g.delivered key (some v) }
    if l.kind = 0x43 then sent (c.addAction { fire := fire, cls := 1, target := n, arg := v, le := some e })
    else
      let st := c.lsAccept e n
      if st = stOK then
        sent (c.addAction { fire := fire, cls := 0, target := n, arg := if l.kind = 0x42 then 3 + (v <<< 16) else v, le := some e })
      else ((c.lsRefuseCmd n st).satInc (LE_CNT_LINKREF e)).leEvent e 9

/-- The bytes of an output entry in the commit image. -/
def imageBytes (q : NMap Bool) (w : NMap W128) (l : LeLink) : List Nat := (List.range l.count).map (imageUnit q w l)

/-- Deliver the commit image at tick `fire` to every sink of a link table (R145, R153). -/
def Chip.leDeliver (c : Chip) (e fire : Nat) (t : NMap W128) : Chip :=
  forEach (outputLinks t) (fun i c =>
    let l := linkAt t i
    if linkUnit l.kind = 8 then c.updLe e fun g => { g with bytesOut := g.bytesOut ++
      [{ due := fire, kind := l.kind, index := l.index, data := imageBytes g.commitQ g.commitW l }] }
    else forAll l.count (fun j c => c.deliverUnit e fire i l j) c) c

/-- Byte sinks take their bytes when they are due (R145): a Hatband buffer is committed (R239), a CAN object sent. -/
def Chip.leBytes (c : Chip) (e : Nat) : Chip :=
  let due := (c.leg e).bytesOut.filter fun b => c.due b.due
  let c := c.updLe e fun g => { g with bytesOut := g.bytesOut.filter fun b => !c.due b.due }
  forEach due (fun b c => if b.kind = 0x44 then c.hbdCommitBytes b.index b.data else c.canSendBytes b.index b.data) c

/-- The W words the output entries of a table name, from an image (R145). -/
def namedWords (t : NMap W128) (w : NMap W128) : NMap W128 :=
  (outputLinks t).foldl (fun m i =>
    let l := linkAt t i
    let u := linkUnit l.kind
    if u = 1 then m
    else (List.range (linkWords u l.count)).foldl (fun m a => put 0 m (l.addr + a) (look 0 w (l.addr + a))) m) []

/-- Form the commit image from the base image: the output forces applied (R145, R168). -/
def formCommit (g : LeEngine) : LeEngine :=
  { g with commitQ := forceBits g.forces 1 g.baseQ, commitW := forceWords g.forces 3 g.baseW }

end Sys2Proof.Machine
end

