-- ==== Sys2Proof/Machine/Publish.lean ====
section
/-! DEFINITION. The publication of logic-engine process data at switch port I2 (R208). -/

namespace Sys2Proof.Machine

/-- Byte `i` of the Q bits of a commit image. -/
def qByte (q : NMap Bool) (i : Nat) : Byte :=
  BitVec.ofNat 8 ((List.range 8).foldl (fun n j => n + (b2n (look false q (8 * i + j)) <<< j)) 0)

/-- The data bytes of publication `d` from the commit image of its engine. -/
def Chip.pubData (c : Chip) (d : Nat) : List Byte :=
  let g := c.leg (c.get (ESW_PUB0_ENGINE d))
  let start := c.get (ESW_PUB0_START d)
  (List.range (c.get (ESW_PUB0_LEN d))).map fun i =>
    if c.flag (ESW_PUB0_AREA d) then BitVec.ofNat 8 (lane 8 (look 0 g.commitW (start + i / 16)) (i % 16))
    else qByte g.commitQ (start / 8 + i)

/-- The frame of publication `d`, without its FCS, padded to the minimum frame. -/
def Chip.pubFrame (c : Chip) (d : Nat) : List Byte :=
  let vid := c.get (ESW_PUB0_VID d)
  let tag := if vid = 0 then [] else beBytesOf 2 0x8100 ++ beBytesOf 2 (c.get (ESW_PUB1_PCP d) * 8192 + vid % 4096)
  let bs := beBytesOf 6 (c.get (ESW_PUB0_DA d)) ++ beBytesOf 6 (c.get ESW_I2MAC_MAC) ++ tag ++ beBytesOf 2 0x88B5
    ++ leBytesOf 8 (c.get (LE_CYCLE_N (c.get (ESW_PUB0_ENGINE d)))) ++ leBytesOf 2 d ++ leBytesOf 2 (c.get (ESW_PUB0_LEN d))
    ++ c.pubData d
  bs ++ List.replicate (60 - bs.length) 0

/-- The enabled publications of engine `e`. -/
def Chip.pubsOf (c : Chip) (e : Nat) : List Nat :=
  (List.range 16).filter fun d => c.flag (ESW_PUB0_EN d) && c.get (ESW_PUB0_ENGINE d) == e

/-- Build the publications of engine `e` at its commit; each waits for its admission at port 21. -/
def Chip.publish (c : Chip) (e : Nat) : Chip :=
  { c with esw := { c.esw with pubs := c.esw.pubs ++ (c.pubsOf e).map c.pubFrame } }

/-- The publications of engine `e` cannot be built at this commit. -/
def Chip.publishMissed (c : Chip) (e : Nat) : Chip :=
  forEach (c.pubsOf e) (fun d c => (c.satInc (ESW_PUB1_MISSED d)).raise 278) c

end Sys2Proof.Machine
end

