-- ==== Sys2Proof/Machine/LogicEngine.lean ====
section
/-! DEFINITION. The cycle of the logic engines, their modes, commits, online changes and program exchange: R143–R148,
R156, R162–R166, R170–R174, R180. -/

namespace Sys2Proof.Machine

/-! ### Modes and faults (R147, R148, R156, R162–R164) -/

/-- Set the mode; a change raises the mode event (R177). -/
def Chip.leSetMode (c : Chip) (e m : Nat) : Chip :=
  if c.leMode e = m then c else (c.set (LE_STAT_MODE e) m).leEvent e 0

/-- The TD0 projection now, in ns. -/
def Chip.tdNs (c : Chip) : Nat := c.pb0At c.frc

/-- The time of the hold that runs, in ns (R164). -/
def Chip.leHeldFor (c : Chip) (e : Nat) : Nat :=
  match (c.leg e).heldAt with
  | none => 0
  | some t => (s64 ((c.tdNs : Int) - (t : Int))).toNat

/-- Leave HOLD: the time spent in it enters HOLDACC. -/
def Chip.leLeaveHold (c : Chip) (e : Nat) : Chip :=
  (c.set (LE_HOLDACC_NS e) (c.get (LE_HOLDACC_NS e) + c.leHeldFor e)).updLe e fun g => { g with heldAt := none, single := false }

/-- Enter HOLD before the next instruction. -/
def Chip.leHold (c : Chip) (e : Nat) : Chip :=
  (c.updLe e fun g => { g with heldAt := some c.tdNs, single := false }).leSetMode e 2

/-- Enter STOP: the cycle in progress ends, and with STOPACT = 1 a final commit is due 2,000 ns later (R163). -/
def Chip.leStop (c : Chip) (e : Nat) : Chip :=
  let c := if c.leMode e = 2 then c.leLeaveHold e else c
  let c := (c.setB (LE_STAT_CYCRUN e) false).when (c.flag (LE_CFG_STOPACT e)) fun c =>
    c.updLe e fun g => { g with stopActAt := some (c.frc + 2000) }
  c.leSetMode e 0

/-- Stop for a fault (R156, R163): the cause and the address of the instruction are recorded, and the fault event is raised. -/
def Chip.leFault (c : Chip) (e cause : Nat) : Chip :=
  let c := ((c.set (LE_FAULT_CAUSE e) cause).set (LE_FAULT_PC e) (c.leg e).cpu.pc).stick (LE_STAT_FLTSTOP e)
  (c.leStop e).leEvent e 2

/-- Hold at an enabled breakpoint that RUN has reached (R164). -/
def Chip.leBreak (c : Chip) (e : Nat) : Chip :=
  if c.leMode e == 1 && c.flag (LE_STAT_CYCRUN e) &&
      (List.range 8).any (fun b => c.flag (LE_BRK_EN e b) && c.get (LE_BRK_ADDR e b) == (c.leg e).cpu.pc) then
    ((c.leHold e).stick (LE_STAT_BRKHIT e)).leEvent e 8
  else c

/-! ### Online changes (R166) -/

/-- Apply one change to the engine. -/
def applyChange (g : LeEngine) (h : LeChange) : LeEngine :=
  let p := g.cpu
  match h.area with
  | 0 => { g with cpu := { p with m := put false p.m h.addr (bit h.data.toNat 0) } }
  | 1 => { g with cpu := { p with w := put 0 p.w h.addr (mergeBytes h.mask (look 0 p.w h.addr) h.data) } }
  | 2 => { g with active := { g.active with k := put 0 g.active.k h.addr (mergeBytes h.mask (look 0 g.active.k h.addr) h.data) } }
  | 3 => { g with cpu := { p with timers := upd {} p.timers h.addr fun t => { t with preset := h.data.toNat % 2 ^ 64 } } }
  | 4 => { g with cpu := { p with counters := upd {} p.counters h.addr fun t => { t with preset := signed 32 h.data.toNat } } }
  | _ => { g with cpu := { p with counters := upd {} p.counters h.addr fun t => { t with count := signed 32 h.data.toNat } } }

/-- Apply the waiting changes in the order they were accepted. -/
def applyChanges (g : LeEngine) : LeEngine :=
  let g' := g.changes.foldl applyChange g
  { g' with changes := [] }

/-- The size of a change area. -/
def changeSpan (area : Nat) : Nat :=
  match area with
  | 0 => 32768
  | 1 => 4096
  | 2 => 4096
  | 3 => 1024
  | 4 => 512
  | 5 => 512
  | _ => 0

/-- Take an online change from world `w`; the result is its status (R166). -/
def Chip.leChange (c : Chip) (w e : Nat) (h : LeChange) : Nat × Chip :=
  let full := decide (64 ≤ (c.leg e).changes.length) && c.leMode e != 0
  let st := if w ≠ c.leWorld e then stDENIED_WORLD else if changeSpan h.area ≤ h.addr then stRANGE else if full then stBUSY
    else stOK
  let c := c.set (LE_CHG_RES_STATUS e) st
  if st ≠ stOK then (st, c.leEvent e 7)
  else if c.leMode e = 0 then (st, c.updLe e fun g => applyChange g h)
  else (st, c.updLe e fun g => { g with changes := g.changes ++ [h] })

/-- Discard the waiting changes at an exchange (R166, R172). -/
def Chip.leDiscard (c : Chip) (e : Nat) : Chip :=
  let n := (c.leg e).changes.length
  if n = 0 then c
  else ((c.updLe e fun g => { g with changes := [] }).satAdd (LE_CHG_RES_DISCARDED e) n).leEvent e 7

/-! ### Image map (R170, R173) -/

/-- A record of an image map. -/
structure LeRecord where
  id : Nat
  type : Nat
  area : Nat
  initX : Bool
  start : Nat
  len : Nat
  init : Nat
  reserved : Bool
  deriving DecidableEq, Repr

/-- Record `i` of a map. -/
def recordAt (t : NMap W128) (i : Nat) : LeRecord :=
  let v := (look 0 t i).toNat
  { id := bits v 127 96, type := bits v 95 88, area := bits v 87 84, initX := bit v 80, start := bits v 79 64,
    len := bits v 63 48, init := bits v 47 32, reserved := bits v 83 81 != 0 || bits v 31 0 != 0 }

/-- The records a map lists, in order. -/
def recordsOf (t : NMap W128) : List LeRecord := t.map fun r => recordAt [r] r.1

/-- The constant that gives a record's initial value or preset; 0xFFFF for zero. -/
def initValue (k : NMap W128) (r : LeRecord) : W128 := if r.init = 0xFFFF then 0 else look 0 k r.init

/-- Put an instance into its declared initial state. -/
def initInstance (k : NMap W128) (p : LeCpu) (r : LeRecord) : LeCpu :=
  let v := (initValue k r).toNat
  match r.area with
  | 4 => { p with timers := put {} p.timers r.start { preset := v % 2 ^ 64 } }
  | 5 => { p with counters := put {} p.counters r.start { preset := signed 32 v } }
  | 6 => { p with edges := put {} p.edges r.start {} }
  | _ => p

/-- Set an M or W range marked for initialisation to its initial value: every word of W takes the constant, bit `j` of a range of M
its bit `j`. The rules give no bits beyond 128: free values (DEDUCED, log entry 15). -/
def initRange (k : NMap W128) (p : LeCpu) (r : LeRecord) : LeCpu :=
  let v := initValue k r
  if !r.initX then p
  else match r.area with
    | 2 => forAll r.len (fun j p =>
        { p with m := put false p.m (r.start + j) (if j < 128 then bit v.toNat j else Config.initBit v j) }) p
    | 3 => forAll r.len (fun j p => { p with w := put 0 p.w (r.start + j) v }) p
    | _ => p

/-- RUN with INIT (R162): every declared instance to its initial state, and the marked ranges. -/
def initAll (b : LeBank) (p : LeCpu) : LeCpu :=
  let rs := recordsOf b.map
  rs.foldl (initRange b.k) (rs.foldl (initInstance b.k) { p with timers := [], counters := [], edges := [] })

/-- Whether a record stands for an instance. -/
def LeRecord.isInstance (r : LeRecord) : Bool := r.area == 4 || r.area == 5 || r.area == 6

/-- Carry one instance of the new map over (R173): a matched one takes the old state, with its preset from the new map. -/
def carryOne (old : List LeRecord) (k : NMap W128) (from_ : LeCpu) (p : LeCpu) (r : LeRecord) : LeCpu :=
  match old.find? (fun o => o.isInstance && o.id == r.id && o.type == r.type) with
  | none => initInstance k p r
  | some o =>
    let v := (initValue k r).toNat
    match r.area with
    | 4 => { p with timers := put {} p.timers r.start { look {} from_.timers o.start with preset := v % 2 ^ 64 } }
    | 5 => { p with counters := put {} p.counters r.start { look {} from_.counters o.start with preset := signed 32 v } }
    | _ => { p with edges := put {} p.edges r.start (look {} from_.edges o.start) }

/-- How many instances of the new map have a match in the old one. -/
def matchedCount (old new : List LeRecord) : Nat :=
  (new.filter fun r => r.isInstance && old.any fun o => o.isInstance && o.id == r.id && o.type == r.type).length

/-- Whether a valid force keeps its place in a new map (R173). -/
def forceKept (rs : List LeRecord) (f : LeForce) : Bool :=
  let area := match f.kind with
    | 0 => 0
    | 1 => 1
    | _ => 3
  rs.any fun r => r.area == area && decide (r.start ≤ f.addr) && decide (f.addr < r.start + r.len)

/-- The numbers of the force entries an exchange drops. -/
def droppedForces (rs : List LeRecord) (t : NMap W128) : List Nat :=
  (List.range 256).filter fun n => (forceAt t n).valid && !forceKept rs (forceAt t n)

/-- Drop a force entry: VALID = 0, DROPPED = 1. -/
def dropForce (t : NMap W128) (n : Nat) : NMap W128 := upd 0 t (2 * n) fun v => setBits (setBits v 31 31 0) 27 27 1

/-- Carry-over and the bank swap (R172–R174), with its record, and the exchange-done and force-dropped events. -/
def Chip.leExchange (c : Chip) (e : Nat) : Chip :=
  let g := c.leg e
  let old := recordsOf g.active.map
  let new := recordsOf g.staging.map
  let k := g.staging.k
  let bare := { g.cpu with timers := [], counters := [], edges := [] }
  let carried := (new.filter (·.isInstance)).foldl (carryOne old k g.cpu) bare
  let drops := droppedForces new g.forces
  let total := (new.filter (·.isInstance)).length
  let m := matchedCount old new
  let c := c.updLe e fun g => { g with
    cpu := new.foldl (initRange k) carried, active := g.staging, staging := g.active,
    forces := drops.foldl dropForce g.forces, newStaging := false,
    firstNext := true, xdoneNext := true }
  let c := c.wrN (LE_XRES e) ((c.get (LE_CYCLE_N e) <<< 64) + (min drops.length 65535 <<< 48) + (min (total - m) 65535 <<< 32)
    + (min m 65535 <<< 16))
  let c := ((c.stick (LE_XSTAT_DONE e)).setB (LE_XSTAT_ARMED e) false).leEvent e 4
  c.when (!drops.isEmpty) fun c => c.leEvent e 6

/-! ### Cycle start (R144, R147, R150) -/

/-- The system words of a cycle that starts at tick `t` (R150). -/
def Chip.leSystem (c : Chip) (e t : Nat) (p : LeCpu) : LeCpu :=
  let ws := [c.tdRead 0 t, c.get (LE_CYCLE_N e),
    unsigned 64 ((c.pb0At t : Int) - (c.get (LE_HOLDACC_NS e) : Int) - (c.leHeldFor e : Int)),
    c.get (LE_CYCLE_LASTT e) + (c.get (LE_CYCLE_MAXT e) <<< 64),
    match (c.leg e).lastStart with
    | some u => t - u
    | none => 0,
    t]
  { p with sysWords := (List.range 6).foldl (fun m i => put 0 m i (BitVec.ofNat 128 (ws.getD i 0))) [] }

/-- The snapshot of a start at tick `t`, with the system bits, LEn_INQ and the invalid-input event (R150–R152). -/
def Chip.leSnapshot (c : Chip) (e t : Nat) : Chip :=
  let g := c.leg e
  let bad := c.lowestBad g.active.link
  let was := bit g.cpu.sysBits 3
  let inq := bad.isSome
  let c := c.wrN (LE_INQ e) (match bad with | some i => (1 <<< 31) + i | none => 0)
  let sys := b2n g.firstNext + (b2n g.initNext <<< 1) + (b2n g.prevOverrun <<< 2) + (b2n inq <<< 3) + (b2n g.xdoneNext <<< 4)
    + (b2n (decide (2 ≤ c.get (TD_CTL_QUAL 0))) <<< 5)
  let c := c.updCpu e fun p => (inputLinks g.active.link).foldl (fun p i => c.copyLink (linkAt g.active.link i) t p)
    { c.leSystem e t p with sysBits := sys }
  c.when (inq && !was) fun c => c.leEvent e 10

/-- Apply the input forces to the image. -/
def Chip.leInputForces (c : Chip) (e : Nat) : Chip := c.updCpu e (applyInputForces (c.leg e).forces)

/-- Begin a cycle at tick `t`: number, snapshot, changes, forces, and execution from address 0 (R144, R150). -/
def Chip.leBegin (c : Chip) (e t : Nat) : Chip :=
  let c := c.wrapInc (LE_CYCLE_N e)
  let c := c.leSnapshot e t
  let c := (c.updLe e applyChanges).leInputForces e
  let c := c.updLe e fun g => { g with
      lastStart := some t, firstNext := false, initNext := false, xdoneNext := false,
      cpu := { g.cpu with pc := 0, bstack := [], cstack := [], executed := 0 } }
  c.setB (LE_STAT_CYCRUN e) true

/-- The held cycle of an exchange (R172): snapshot and input forces, changes discarded, carry-over and swap; its commit
delivers the old pending image by the old link table. -/
def Chip.leHeldCycle (c : Chip) (e t : Nat) : Chip :=
  let link := (c.leg e).active.link
  let c := (c.wrapInc (LE_CYCLE_N e)).leSnapshot e t
  let c := (c.leInputForces e).leDiscard e
  (c.updLe e fun g => { g with lastStart := some t, heldLink := some link, ended := true }).leExchange e

/-- Skip a start (R147). -/
def Chip.leSkip (c : Chip) (e : Nat) : Chip := ((c.satInc (LE_CNT_SKIP e)).stick (LE_STAT_SKIP e)).leEvent e 3

/-- Whether less than 100 µs has passed since the last start that was not skipped. -/
def Chip.leTooSoon (c : Chip) (e t : Nat) : Bool :=
  match (c.leg e).lastStart with
  | none => false
  | some u => decide (t < u + 100000)

/-- LE_CYCLE_START: the engine's next due start (R144, R147, R162, R171). -/
def Chip.leCycleStart (c : Chip) (e : Nat) : Chip :=
  match c.dueArg 4 e 0 with
  | none => c
  | some a =>
    let c := c.dropAction a
    if c.leMode e ≠ 1 || (c.leg e).inReset then c
    else if c.get (LE_CTL_MODE e) = 0 then c.leStop e
    else if c.flag (LE_STAT_CYCRUN e) || c.leTooSoon e a.fire then c.leSkip e
    else if c.flag (LE_XSTAT_ARMED e) && decide ((c.leg e).armedAt ≤ c.get (LE_CYCLE_N e) + 1) then c.leHeldCycle e a.fire
    else
      let c := c.leBegin e a.fire
      if c.get (LE_CTL_MODE e) = 2 then c.leHold e else c.leBreak e

def execLeCycleStart (e : Fin 2) (s : State) : Host.Outcome State Fault Refusal := s.onZone fun c => c.leCycleStart e.val

/-! ### Execution (R144, R145, R164) -/

/-- The instruction word at the program counter. -/
def LeEngine.fetch (g : LeEngine) : Nat := lane 32 (look 0 g.active.prog (g.cpu.pc / 4)) (g.cpu.pc % 4)

/-- END (R145, R156): the pending image takes the Q area and the W words output entries name. -/
def Chip.leEndInstr (c : Chip) (e : Nat) : Chip :=
  let p := (c.leg e).cpu
  if !p.bstack.isEmpty || !p.cstack.isEmpty then c.leFault e 6
  else
    let ns := min ((p.executed + 1) * 5 / 2) 0xFFFFFFFF
    let c := c.updLe e fun g => { g with
        pendQ := g.cpu.q, pendW := namedWords g.active.link g.cpu.w, ended := true,
        single := false, cpu := { g.cpu with pc := 0, executed := 0 } }
    let c := (c.set (LE_CYCLE_LASTT e) ns).set (LE_CYCLE_MAXT e) (max ns (c.get (LE_CYCLE_MAXT e)))
    c.setB (LE_STAT_CYCRUN e) false

/-- Execute one instruction. -/
def Chip.leDo (c : Chip) (e : Nat) (f : NMap W128 → LeIns → LeCpu → LeRes) (n : LeIns) : Chip :=
  match f (c.leg e).active.k n (c.leg e).cpu with
  | .ok p => (c.updCpu e fun _ => { p with executed := p.executed + 1 }).leBreak e
  | .fault cause => c.leFault e cause

/-- Whether engine `e` executes instructions now: a cycle in RUN, or a single cycle in HOLD. -/
def Chip.leExecutes (c : Chip) (e : Nat) : Bool :=
  c.flag (LE_STAT_CYCRUN e) && (c.leMode e == 1 || (c.leMode e == 2 && (c.leg e).single))

/-- The engine executes the instruction of word `w`, where that is the instruction it has reached. -/
def Chip.leRun (c : Chip) (e w : Nat) (f : NMap W128 → LeIns → LeCpu → LeRes) : Chip :=
  c.when (c.leExecutes e && (c.leg e).fetch == w) fun c => c.leDo e f (leFields w)

/-- The engine executes END. -/
def Chip.leRunEnd (c : Chip) (e : Nat) : Chip :=
  c.when (c.leExecutes e && (c.leg e).fetch == wordN 0x3D) fun c => c.leEndInstr e

/-- One instruction in HOLD (R164): the one at the program counter; with no cycle begun, the one at address 0. -/
def Chip.leStepOne (c : Chip) (e : Nat) : Chip :=
  let c := if c.flag (LE_STAT_CYCRUN e) then c
    else (c.updCpu e fun p => { p with pc := 0, bstack := [], cstack := [], executed := 0 }).setB (LE_STAT_CYCRUN e) true
  let n := leFields (c.leg e).fetch
  if n.op = 0x3D then c.leEndInstr e
  else match leOpcode n.op with
    | some f => c.leDo e f n
    | none => c

/-! ### Commits (R145, R147, R163, R165) -/

/-- Form and deliver a commit image from base images at tick `fire`, by the link table `t`. -/
def Chip.leCommitImage (c : Chip) (e fire : Nat) (q : NMap Bool) (w : NMap W128) (t : NMap W128) : Chip :=
  (c.updLe e fun g => formCommit { g with baseQ := q, baseW := w }).leDeliver e fire t

/-- LE_OUTPUT_COMMIT: the engine's next due commit; sinks take it 2,000 ns later (R145, R147, R153). -/
def Chip.leOutputCommit (c : Chip) (e : Nat) : Chip :=
  match c.dueArg 4 e 1 with
  | none => c
  | some a =>
    let c := c.dropAction a
    if c.leMode e ≠ 1 || (c.leg e).inReset then c.publishMissed e
    else
      let g := c.leg e
      let exceeded := !g.ended
      let runs := if exceeded then g.overruns + 1 else 0
      let c := c.when exceeded fun c => ((c.satInc (LE_CNT_OVERRUN e)).stick (LE_STAT_OVR e)).leEvent e 1
      let c := (c.leCommitImage e (a.fire + 2000) g.pendQ g.pendW (g.heldLink.getD g.active.link)).publish e
      let c := c.updLe e fun x => { x with
          lastCommit := some a.fire, ended := false, prevOverrun := exceeded, overruns := runs, heldLink := none,
          delivered := if g.heldLink.isSome then [] else x.delivered }
      c.when (exceeded && c.get (LE_CFG_OVRLIM e) != 0 && decide (c.get (LE_CFG_OVRLIM e) ≤ runs)) fun c => c.leFault e 1

def execLeOutputCommit (e : Fin 2) (s : State) : Host.Outcome State Fault Refusal := s.onZone fun c => c.leOutputCommit e.val

/-- LE_STOPACT_COMMIT: every Q bit and every output W word zero, with the output forces (R163). -/
def Chip.leStopact (c : Chip) (e : Nat) : Chip :=
  c.when (c.dueAt (c.leg e).stopActAt) fun c =>
    (c.leCommitImage e c.frc [] [] (c.leg e).active.link).updLe e fun g => { g with stopActAt := none }

def execLeStopactCommit (e : Fin 2) (s : State) : Host.Outcome State Fault Refusal := s.onZone fun c => c.leStopact e.val

/-- LE_FORCE_DELIVERY: 2,000 ns after an output force changed outside RUN, the last commit image goes out with the current output
forces (R165). -/
def Chip.leForceDelivery (c : Chip) (e : Nat) : Chip :=
  c.when ((c.leg e).forceAt.any c.due) fun c =>
    let g := c.leg e
    (c.leCommitImage e c.frc g.baseQ g.baseW g.active.link).updLe e fun g => { g with forceAt := g.forceAt.filter fun t => !c.due t }

def execLeForceDelivery (e : Fin 2) (s : State) : Host.Outcome State Fault Refusal := s.onZone fun c => c.leForceDelivery e.val

/-- A mismatch of the LE0 comparator: LE0 stops at once and delivers nothing of the commit in progress (R148). -/
def Chip.le0Mismatch (c : Chip) : Chip :=
  let c : Chip := { c with seq := { c.seq with acts := c.seq.acts.filter fun a => a.le != some 0 } }
  ((c.updLe 0 fun g => { g with bytesOut := [] }).leFault 0 7).leEvent 0 11

/-- LE_ECC: an uncorrectable error in an engine memory stops the engine (R177). -/
def execLeEcc (e : Fin 2) (s : State) : Host.Outcome State Fault Refusal :=
  s.onZone fun c => (c.leFault e.val 8).leEvent e.val 12

/-! ### Program checks (R158, R171) -/

/-- The record types that an instruction's instance may have, and their area (R158). -/
def leTypes (op : Nat) : Option (Nat × List Nat) :=
  match op with
  | 0x14 => some (6, [0x30])
  | 0x15 => some (6, [0x30])
  | 0x16 => some (4, [0x10])
  | 0x17 => some (4, [0x11])
  | 0x18 => some (4, [0x12])
  | 0x19 => some (4, [0x10, 0x11, 0x12])
  | 0x1A => some (4, [0x10, 0x11, 0x12])
  | 0x1B => some (5, [0x20, 0x22])
  | 0x1C => some (5, [0x21, 0x22])
  | 0x1D => some (5, [0x20, 0x21, 0x22])
  | 0x1E => some (5, [0x20, 0x21, 0x22])
  | 0x1F => some (5, [0x20, 0x21, 0x22])
  | 0x20 => some (5, [0x20, 0x21, 0x22])
  | _ => none

/-- Whether an instruction word passes the decode check of R158 but for the last word. -/
def leWordOk (rs : List LeRecord) (last w : Nat) : Bool :=
  let n := leFields w
  let op := n.op
  if op = 0x3D || op = 0x3C || op = 0x36 || op = 0 || (0x0D ≤ op && op ≤ 0x13) then w == wordN op
  else if 1 ≤ op && op ≤ 0x0C then
    w == wordB op n.area n.bitAddr && decide (n.bitAddr < bitAreaSize n.area) &&
      (decide (op < 9) || n.area == 1 || n.area == 2)
  else if op ≤ 0x20 then
    w == wordI op n.addr && match leTypes op with
      | some (area, types) => rs.any fun r => r.area == area && types.contains r.type && r.start == n.addr
      | none => false
  else if op = 0x37 then w == wordI op n.addr && decide (n.addr < 16)
  else if op ≤ 0x35 then
    w == wordW op n.area n.src n.u n.any n.addr && decide (n.area < 5) && (op != 0x22 || n.src % 2 == 0)
  else if op ≤ 0x3B then w == wordJ op n.target && decide (n.target ≤ last)
  else false

/-- Word `i` of a program. -/
def progWord (t : NMap W128) (i : Nat) : Nat := lane 32 (look 0 t (i / 4)) (i % 4)

/-- The first word up to `last` that fails the decode check. -/
def badWord (b : LeBank) (last : Nat) : Option Nat :=
  let rs := recordsOf b.map
  match (List.range (last + 1)).find? fun i => !leWordOk rs last (progWord b.prog i) with
  | some i => some i
  | none =>
    let op := bits (progWord b.prog last) 31 26
    if op = 0x3D || op = 0x38 then none else some last

/-- Whether a record is one that R170 lays out. -/
def recordOk (r : LeRecord) : Bool :=
  let typeOk := match r.area with
    | 4 => r.type == 0x10 || r.type == 0x11 || r.type == 0x12
    | 5 => r.type == 0x20 || r.type == 0x21 || r.type == 0x22
    | 6 => r.type == 0x30
    | _ => r.type == 0
  !r.reserved && decide (r.area < 7) && typeOk && (!r.isInstance || r.len == 1)

/-- Whether two instance records overlap in index, or in identifier and type. -/
def recordsClash (a b : LeRecord) : Bool :=
  a.isInstance && b.isInstance && ((a.area == b.area && a.start == b.start) || (a.id == b.id && a.type == b.type))

/-- The first listed record that fails, by number. -/
def badRecord : NMap W128 → List LeRecord → Option Nat
  | [], _ => none
  | (i, v) :: t, seen =>
    let r := recordAt [(i, v)] i
    if !recordOk r || seen.any (recordsClash r) then some i else badRecord t (r :: seen)

/-- CRC over the low `n` bytes of a unit, lowest first (R23). -/
def crcUnit (n : Nat) (v : W128) (crc : Nat) : Nat := forAll n (fun i x => crcByte x (lane 8 v i)) crc

/-- CRC over `n` units of a memory. -/
def crcUnits (t : NMap W128) (n crc : Nat) : Nat := forAll n (fun i x => crcUnit 16 (look 0 t i) x) crc

/-- The CRC of a staging bank: PROG words 0 to `last`, then MAP, K and LINK (R171). -/
def bankCrc (b : LeBank) (last : Nat) : Nat :=
  let whole := (last + 1) / 4
  let x := crcUnits b.prog whole 0xFFFFFFFF
  let x := crcUnit (4 * ((last + 1) % 4)) (look 0 b.prog whole) x
  crcUnits b.link 256 (crcUnits b.k 4096 (crcUnits b.map 8192 x)) ^^^ 0xFFFFFFFF

/-- Refuse an exchange (R171). -/
def Chip.leXrefuse (c : Chip) (e st idx spc : Nat) : Chip :=
  (((c.set (LE_XSTAT_STATUS e) st).set (LE_XSTAT_BADIDX e) idx).set (LE_XSTAT_BADSPC e) spc).leEvent e 5

/-- The first link source or sink that the engine's world does not claim: its entry, kind and instance. -/
def Chip.unclaimedLink (c : Chip) (e : Nat) (t : NMap W128) : Option (Nat × Nat × Nat) :=
  (linksUsed t).findSome? fun i =>
    let l := linkAt t i
    (l.instances.find? fun n => !c.linkClaimed (c.leWorld e) l.kind n).map fun n => (i, l.kind, n)

/-- The resource kind of R538 or R541 that a link kind names. -/
def linkResource (kind : Nat) : Nat :=
  match kind with
  | 1 => 9
  | 2 => 10
  | 3 => 12
  | 4 => 6
  | 0x43 => 0xFE
  | 6 => 0xFF
  | 7 => 0xFF
  | 0x44 => 0xFF
  | 0x45 => 0xFF
  | _ => 4

/-- The ball of sequencer output `n` (R539, R565). -/
def sqoBallOf (n : Nat) : Nat := 22 * (10 + n / 8) + 14 + n % 8

/-- The checks of the staging banks, in order; on success the exchange is armed, in STOP carried out at once (R171, R174). -/
def Chip.leCheckDone (c : Chip) (e : Nat) : Chip :=
  match (c.leg e).check with
  | none => c
  | some k =>
    let c := c.updLe e fun g => { g with check := none }
    let b := (c.leg e).staging
    if bankCrc b k.last ≠ c.get (LE_XCHG_CRC_CRC e) then c.leXrefuse e stINTEGRITY 0 0
    else match badWord b k.last with
      | some i => c.leXrefuse e stRANGE i 1
      | none => match badRecord b.map [] with
        | some i => c.leXrefuse e stRANGE i 3
        | none => match (linksUsed b.link).find? fun i => !c.linkFits (linkAt b.link i) with
          | some i => c.leXrefuse e stRANGE i 7
          | none => match c.unclaimedLink e b.link with
            | some (i, kind, n) =>
              let x := if kind = 0x43 then sqoBallOf n else n
              (c.conflict (linkResource kind) x 0xFF { mid := k.mid, vf := k.vf, world := c.leWorld e, key := 0 }).leXrefuse
                e stRES_CLAIMED i 7
            | none =>
              let c := ((c.set (LE_XSTAT_STATUS e) stOK).set (LE_XSTAT_BADIDX e) 0).set (LE_XSTAT_BADSPC e) 0
              if c.leMode e = 0 then ((c.leDiscard e).leExchange e).updLe e fun g => { g with delivered := [] }
              else (c.setB (LE_XSTAT_ARMED e) true).updLe e fun g => { g with armedAt := k.atCycle.getD 0 }

def execXchgCheckDone (e : Fin 2) (s : State) : Host.Outcome State Fault Refusal := s.onZone fun c => c.leCheckDone e.val

/-- A write of LEn_XCHG by the engine's world (R171): CANCEL, then GO. -/
def Chip.leXchgWrite (c : Chip) (w : Who) (e v : Nat) : Chip :=
  if w.world ≠ c.leWorld e then c.set (LE_STAT_LASTERR e) stDENIED_WORLD
  else
    let c := c.when (bit v 30) fun c => (c.setB (LE_XSTAT_ARMED e) false).updLe e fun g => { g with check := none }
    c.when (bit v 31) fun c =>
      if c.leMode e = 2 then c.leXrefuse e stNOT_NOW 0 0
      else if (c.leg e).check.isSome || c.flag (LE_XSTAT_ARMED e) then c.leXrefuse e stBUSY 0 0
      else c.updLe e fun g => { g with
          last := v % 65536,
          check := some { last := v % 65536, mid := w.mid, vf := w.vf, atCycle := if bit v 29 then some (c.get (LE_XCHG_CYC_N e)) else none } }

/-- XCHG_GO: a write of LEn_XCHG with GO = 1. -/
def execXchgGo (a : Agent) (e : Fin 2) (v : W32) (s : State) : Host.Outcome State Fault Refusal :=
  s.by a fun w c => c.leXchgWrite w e.val (setBit v.toNat 31 true)

/-- XCHG_CANCEL: a write of LEn_XCHG with CANCEL = 1. -/
def execXchgCancel (a : Agent) (e : Fin 2) (v : W32) (s : State) : Host.Outcome State Fault Refusal :=
  s.by a fun w c => c.leXchgWrite w e.val (setBit v.toNat 30 true)

/-! ### LEn_CTL (R148, R158, R162–R164, R175) -/

/-- Record a refused write of engine `e`. -/
def Chip.leRefuse (c : Chip) (e st : Nat) : Chip := c.set (LE_STAT_LASTERR e) st

/-- A request for RUN (R148, R158, R162). -/
def Chip.leRequestRun (c : Chip) (e : Nat) (init : Bool) : Chip :=
  if c.flag (LE_STAT_FLTSTOP e) || c.flag (LE_STAT_CMPBAD e) then c.leRefuse e stNOT_NOW
  else if c.leMode e = 0 then
    match (if (c.leg e).newStaging then badWord (c.leg e).staging (c.leg e).last else none) with
    | some i => ((c.leRefuse e stRANGE).set (LE_XSTAT_BADIDX e) i).set (LE_XSTAT_BADSPC e) 1
    | none =>
      let c := c.updLe e fun g => { g with
        cpu := if init then initAll g.active g.cpu else g.cpu, firstNext := true, initNext := init, delivered := [],
        overruns := 0 }
      (c.set (LE_CTL_MODE e) 1).leSetMode e 1
  else if c.leMode e = 2 then ((c.leLeaveHold e).set (LE_CTL_MODE e) 1).leSetMode e 1
  else c.set (LE_CTL_MODE e) 1

/-- A request for STOP: at once from HOLD, otherwise at the next start (R162). -/
def Chip.leRequestStop (c : Chip) (e : Nat) : Chip :=
  let c := c.set (LE_CTL_MODE e) 0
  if c.leMode e = 2 then c.leStop e else c

/-- A request for HOLD (R148, R162, R164): at the next start. -/
def Chip.leRequestHold (c : Chip) (e : Nat) : Chip :=
  if !c.flag (LE_PROT_DBGEN e) then c.leRefuse e stDENIED_STATE
  else if c.flag (LE_STAT_CMPBAD e) then c.leRefuse e stNOT_NOW
  else c.set (LE_CTL_MODE e) 2

/-- A write of LEn_CTL (R162, R164, R175). A reserved MODE makes the whole write ignored (R10). -/
def Chip.leCtlWrite (c : Chip) (w : Who) (e v : Nat) : Chip :=
  if w.world ≠ c.leWorld e then c.leRefuse e stDENIED_WORLD
  else if v % 4 = 3 then c
  else
    let c := c.when (bit v 6) fun c => (c.wrN (LE_CNT e) 0).set (LE_CYCLE_MAXT e) 0
    let c := c.when (bit v 5 && c.leMode e == 0) fun c => (c.setB (LE_STAT_FLTSTOP e) false).wrN (LE_FAULT e) 0
    let c := match v % 4 with
      | 0 => c.leRequestStop e
      | 1 => c.leRequestRun e (bit v 2)
      | _ => c.leRequestHold e
    let c := c.when (bit v 3 && c.leMode e == 2) fun c => c.leStepOne e
    c.when (bit v 4 && c.leMode e == 2) fun c => (c.leBegin e c.frc).updLe e fun g => { g with single := true }

/-- LE_MODE_RUN: a write of LEn_CTL with MODE = RUN. -/
def execLeModeRun (a : Agent) (e : Fin 2) (v : W32) (s : State) : Host.Outcome State Fault Refusal :=
  s.by a fun w c => c.leCtlWrite w e.val (v.toNat / 4 * 4 + 1)

/-- LE_MODE_STOP: a write of LEn_CTL with MODE = STOP. -/
def execLeModeStop (a : Agent) (e : Fin 2) (v : W32) (s : State) : Host.Outcome State Fault Refusal :=
  s.by a fun w c => c.leCtlWrite w e.val (v.toNat / 4 * 4)

/-- LE_MODE_HOLD: a write of LEn_CTL with MODE = HOLD. -/
def execLeModeHold (a : Agent) (e : Fin 2) (v : W32) (s : State) : Host.Outcome State Fault Refusal :=
  s.by a fun w c => c.leCtlWrite w e.val (v.toNat / 4 * 4 + 2)

/-- STEP: a write of LEn_CTL with STEP = 1. -/
def execLeStep (a : Agent) (e : Fin 2) (v : W32) (s : State) : Host.Outcome State Fault Refusal :=
  s.by a fun w c => c.leCtlWrite w e.val (setBit v.toNat 3 true)

/-- SCYC: a write of LEn_CTL with SCYC = 1. -/
def execLeScyc (a : Agent) (e : Fin 2) (v : W32) (s : State) : Host.Outcome State Fault Refusal :=
  s.by a fun w c => c.leCtlWrite w e.val (setBit v.toNat 4 true)

/-- CLRFLT: a write of LEn_CTL with CLRFLT = 1. -/
def execLeClrflt (a : Agent) (e : Fin 2) (v : W32) (s : State) : Host.Outcome State Fault Refusal :=
  s.by a fun w c => c.leCtlWrite w e.val (setBit v.toNat 5 true)

/-- LE_CLRCNT: a write of LEn_CTL with CLRCNT = 1. -/
def execLeClrcnt (a : Agent) (e : Fin 2) (v : W32) (s : State) : Host.Outcome State Fault Refusal :=
  s.by a fun w c => c.leCtlWrite w e.val (setBit v.toNat 6 true)

/-- A write of LEn_CHG_DATA: the change that CHG_ADDR and CHG_MASK describe (R166). -/
def Chip.leChgWrite (c : Chip) (w : Who) (e : Nat) (v : W128) : Chip :=
  (c.leChange w.world e
    { area := c.get (LE_CHG_ADDR_AREA e), addr := c.get (LE_CHG_ADDR_ADDR e), mask := c.get (LE_CHG_MASK_MASK e), data := v }).2

/-- LE_ONLINE_CHANGE: the write of the highest word of LEn_CHG_DATA queues the change (R166). -/
def execLeOnlineChange (a : Agent) (e : Fin 2) (v : W128) (s : State) : Host.Outcome State Fault Refusal :=
  s.by a fun w c => c.leChgWrite w e.val v

/-! ### The memory port (R169, R176) -/

/-- The units of a memory space. -/
def spaceUnits (space : Nat) : Nat :=
  match space with
  | 0 => 16384
  | 1 => 16384
  | 2 => 8192
  | 3 => 8192
  | 4 => 4096
  | 5 => 4096
  | 6 => 256
  | 7 => 256
  | 8 => 4096
  | 9 => 384
  | 10 => 3584
  | 11 => 512
  | _ => 0

/-- 128 bits of a bit area from bit `128 * u`. -/
def bitsUnit (m : NMap Bool) (u : Nat) : W128 :=
  BitVec.ofNat 128 ((List.range 128).foldl (fun s i => s + (b2n (look false m (128 * u + i)) <<< i)) 0)

/-- An instance as the port shows it; R176 gives no layout, so its value is open. -/
def LeCpu.instanceUnit (p : LeCpu) (i : Nat) : W128 :=
  if i < 1024 then
    let t := look {} p.timers i
    Config.instanceUnit 0 [t.stamp, t.preset, b2n t.running, b2n t.q, b2n t.input]
  else if i < 1536 then
    let t := look {} p.counters (i - 1024)
    Config.instanceUnit 1 [unsigned 32 t.count, unsigned 32 t.preset, b2n t.up, b2n t.down, b2n t.q]
  else
    let d := look {} p.edges (i - 1536)
    Config.instanceUnit 2 [b2n d.prev, b2n d.fresh]

/-- An instance as a port write sets it; R176 gives no layout, so its parts are open. -/
def LeCpu.setInstance (p : LeCpu) (i : Nat) (v : W128) : LeCpu :=
  let part (kind j : Nat) : Nat := (Config.instancePart kind j v).toNat
  let flag (kind j : Nat) : Bool := (Config.instancePart kind j v).toNat % 2 == 1
  let t : LeTimer := ⟨part 0 0, part 0 1, flag 0 2, flag 0 3, flag 0 4⟩
  let n : LeCounter := ⟨signed 32 (part 1 0), signed 32 (part 1 1), flag 1 2, flag 1 3, flag 1 4⟩
  if i < 1024 then { p with timers := put {} p.timers i t }
  else if i < 1536 then { p with counters := put {} p.counters (i - 1024) n }
  else { p with edges := put {} p.edges (i - 1536) ⟨flag 2 0, flag 2 1⟩ }

/-- Unit `i` of a memory space. -/
def LeEngine.unit (g : LeEngine) (space i : Nat) : W128 :=
  match space with
  | 0 => look 0 g.active.prog i
  | 1 => look 0 g.staging.prog i
  | 2 => look 0 g.active.map i
  | 3 => look 0 g.staging.map i
  | 4 => look 0 g.active.k i
  | 5 => look 0 g.staging.k i
  | 6 => look 0 g.active.link i
  | 7 => look 0 g.staging.link i
  | 8 => look 0 g.cpu.w i
  | 9 => if i < 64 then bitsUnit g.cpu.i i else if i < 128 then bitsUnit g.cpu.q (i - 64) else bitsUnit g.cpu.m (i - 128)
  | 10 => g.cpu.instanceUnit i
  | _ => look 0 g.forces i

/-- LE_MEM_READ: a read of the lowest word of MDATA (R176). A refused read states no data, so its value is open. -/
def Chip.leMemRead (c : Chip) (w : Who) (e : Nat) : Chip :=
  let sp := c.get (LE_MADDR_SPACE e)
  let i := c.get (LE_MADDR_INDEX e)
  let ok := decide (i < spaceUnits sp)
  let v := if ok then (c.leg e).unit sp i else Config.openValue c.freeCtr
  let c := if ok then c else c.drawn
  let c := c.set (LE_MRES_STATUS e) (if ok then stOK else stRANGE)
  ((c.set (LE_MADDR_INDEX e) (i + 1)).latch w.key (LE_MDATA e).addr v).respond w.key false (v.toNat % 2 ^ 32)

def execLeMemRead (a : Agent) (e : Fin 2) (s : State) : Host.Outcome State Fault Refusal :=
  s.by a fun w c => c.leMemRead w e.val

/-- Whether world `w` may write the force table of engine `e` (R169). -/
def Chip.forceWriter (c : Chip) (w e : Nat) : Bool :=
  w == c.leWorld e || (w == 4 && c.flag (LE_PROT_FORCEW4 e) && c.lcWorkshop)

/-- Whether a unit of the force table is an encoding that R167 allows. -/
def forceUnitOk (i : Nat) (v : W128) : Bool :=
  i % 2 == 1 || (decide (bits v.toNat 30 28 < 4) && bits v.toNat 127 49 == 0 && bits v.toNat 26 16 == 0)

/-- Write a unit of the force table; DROPPED is read only. Outside RUN a change of an output force is delivered 2,000 ns later
(R165). -/
def Chip.forceWrite (c : Chip) (e i : Nat) (v : W128) : Chip :=
  let outer (t : NMap W128) : Bool := (forceAt t (i / 2)).valid && (forceAt t (i / 2)).kind % 2 == 1
  let old := (c.leg e).forces
  let v := if i % 2 = 0 then setBits v 27 27 (bits (look 0 old i).toNat 27 27) else v
  let new := put 0 old i v
  c.updLe e fun g => { g with
      forces := new,
      forceAt := if c.leMode e != 1 && (outer old || outer new) then g.forceAt ++ [c.frc + 2000] else g.forceAt }

/-- Write one unit of a space; the result is the status (R169, R176). -/
def Chip.leUnitWrite (c : Chip) (w e space i : Nat) (v : W128) : Nat × Chip :=
  let stopped := c.leMode e == 0
  let stage (f : LeBank → LeBank) : Nat × Chip := (stOK, c.updLe e fun g => { g with staging := f g.staging, newStaging := true })
  if spaceUnits space ≤ i then (stRANGE, c)
  else match space with
    | 1 => stage fun b => { b with prog := put 0 b.prog i v }
    | 3 => stage fun b => { b with map := put 0 b.map i v }
    | 5 => stage fun b => { b with k := put 0 b.k i v }
    | 7 => stage fun b => { b with link := put 0 b.link i v }
    | 8 => if stopped then (stOK, c.updCpu e fun p => { p with w := put 0 p.w i v }) else (stNOT_NOW, c)
    | 9 => if stopped && decide (128 ≤ i) then
        (stOK, c.updCpu e fun p => { p with m := forAll 128 (fun j m => put false m (128 * (i - 128) + j) (bit v.toNat j)) p.m })
      else (stNOT_NOW, c)
    | 10 => if stopped then (stOK, c.updCpu e fun p => p.setInstance i v) else (stNOT_NOW, c)
    | 11 => if !c.forceWriter w e then (stDENIED_WORLD, c) else if !forceUnitOk i v then (stRANGE, c) else (stOK, c.forceWrite e i v)
    | _ => (stNOT_NOW, c)

/-- LE_MEM_WRITE: a completed write of MDATA (R12, R169, R176). -/
def Chip.leMemWrite (c : Chip) (w : Who) (e : Nat) (v : W128) : Chip :=
  let sp := c.get (LE_MADDR_SPACE e)
  let i := c.get (LE_MADDR_INDEX e)
  if w.world ≠ c.leWorld e && sp ≠ 11 then c.leRefuse e stDENIED_WORLD
  else
    let r := c.leUnitWrite w.world e sp i v
    let c := r.2.set (LE_MRES_STATUS e) r.1
    if r.1 = stOK then c.set (LE_MADDR_INDEX e) (i + 1) else c.leRefuse e r.1

def execLeMemWrite (a : Agent) (e : Fin 2) (v : W128) (s : State) : Host.Outcome State Fault Refusal :=
  s.by a fun w c => c.leMemWrite w e.val v

/-! ### Reset and sleep (R148, R180) -/

/-- What every reset and sleep clears of an engine (R180): pending changes and an armed exchange; the cycle ends in STOP. -/
def leHalt (g : LeEngine) : LeEngine :=
  { g with
      changes := [], check := none, stopActAt := none, forceAt := [], heldAt := none, single := false,
      firstNext := false, initNext := false, xdoneNext := g.xdoneNext, ended := false, overruns := 0, bytesOut := [],
      heldLink := none, delivered := [] }

/-- A reset of warm reach or wider: system and cold clear the memories too (R180). -/
def Chip.leReset (c : Chip) (reach e : Nat) : Chip :=
  if 3 ≤ reach then c.updLe e fun _ => {}
  else c.updLe e leHalt

/-- A partition reset of engine `e`: STOP with cause PARTITION_RESET (R180). -/
def Chip.lePartition (c : Chip) (e : Nat) : Chip :=
  let c := (c.updLe e leHalt).setB (LE_XSTAT_ARMED e) false
  let c := ((c.set (LE_FAULT_CAUSE e) 9).stick (LE_STAT_FLTSTOP e)).setB (LE_STAT_CYCRUN e) false
  ((c.set (LE_CTL_MODE e) 0).leSetMode e 0).leEvent e 2

/-- Sleep entry: STOP without a STOPACT commit; everything else is kept in retention but for changes and the exchange (R180). -/
def Chip.leSleep (c : Chip) (e : Nat) : Chip :=
  let c := if c.leMode e = 2 then c.leLeaveHold e else c
  let c := (c.updLe e leHalt).setB (LE_XSTAT_ARMED e) false
  ((c.setB (LE_STAT_CYCRUN e) false).set (LE_CTL_MODE e) 0).leSetMode e 0

/-- The LE0 comparator test at a reset of system reach or wider (R148). -/
def Chip.leCompareTest (c : Chip) (pass : Bool) : Chip :=
  c.when (!pass) fun c => (c.stick (LE_STAT_CMPBAD 0)).leEvent 0 11

end Sys2Proof.Machine
end

