-- ==== Sys2Proof/Machine/LogicRows.lean ====
section
/-! DEFINITION. The instructions of the logic engines as commands: the engine executes the instruction it has reached, where that is
the one the command names (R144, R154, R155). -/

namespace Sys2Proof.Machine

def execLeNop (e : Fin 2) (s : State) : Host.Outcome State Fault Refusal :=
  s.onZone fun c => c.leRun e.val (wordN 0x00) leiNop

def execLeLd (e : Fin 2) (area : Fin 8) (addr : Fin 32768) (s : State) : Host.Outcome State Fault Refusal :=
  s.onZone fun c => c.leRun e.val (wordB 0x01 area.val addr.val) leiLd

def execLeLdn (e : Fin 2) (area : Fin 8) (addr : Fin 32768) (s : State) : Host.Outcome State Fault Refusal :=
  s.onZone fun c => c.leRun e.val (wordB 0x02 area.val addr.val) leiLdn

def execLeAnd (e : Fin 2) (area : Fin 8) (addr : Fin 32768) (s : State) : Host.Outcome State Fault Refusal :=
  s.onZone fun c => c.leRun e.val (wordB 0x03 area.val addr.val) leiAnd

def execLeAndn (e : Fin 2) (area : Fin 8) (addr : Fin 32768) (s : State) : Host.Outcome State Fault Refusal :=
  s.onZone fun c => c.leRun e.val (wordB 0x04 area.val addr.val) leiAndn

def execLeOr (e : Fin 2) (area : Fin 8) (addr : Fin 32768) (s : State) : Host.Outcome State Fault Refusal :=
  s.onZone fun c => c.leRun e.val (wordB 0x05 area.val addr.val) leiOr

def execLeOrn (e : Fin 2) (area : Fin 8) (addr : Fin 32768) (s : State) : Host.Outcome State Fault Refusal :=
  s.onZone fun c => c.leRun e.val (wordB 0x06 area.val addr.val) leiOrn

def execLeXor (e : Fin 2) (area : Fin 8) (addr : Fin 32768) (s : State) : Host.Outcome State Fault Refusal :=
  s.onZone fun c => c.leRun e.val (wordB 0x07 area.val addr.val) leiXor

def execLeXorn (e : Fin 2) (area : Fin 8) (addr : Fin 32768) (s : State) : Host.Outcome State Fault Refusal :=
  s.onZone fun c => c.leRun e.val (wordB 0x08 area.val addr.val) leiXorn

def execLeSt (e : Fin 2) (area : Fin 8) (addr : Fin 32768) (s : State) : Host.Outcome State Fault Refusal :=
  s.onZone fun c => c.leRun e.val (wordB 0x09 area.val addr.val) leiSt

def execLeStn (e : Fin 2) (area : Fin 8) (addr : Fin 32768) (s : State) : Host.Outcome State Fault Refusal :=
  s.onZone fun c => c.leRun e.val (wordB 0x0A area.val addr.val) leiStn

def execLeSet (e : Fin 2) (area : Fin 8) (addr : Fin 32768) (s : State) : Host.Outcome State Fault Refusal :=
  s.onZone fun c => c.leRun e.val (wordB 0x0B area.val addr.val) leiSet

def execLeRst (e : Fin 2) (area : Fin 8) (addr : Fin 32768) (s : State) : Host.Outcome State Fault Refusal :=
  s.onZone fun c => c.leRun e.val (wordB 0x0C area.val addr.val) leiRst

def execLeNot (e : Fin 2) (s : State) : Host.Outcome State Fault Refusal :=
  s.onZone fun c => c.leRun e.val (wordN 0x0D) leiNot

def execLeSetr (e : Fin 2) (s : State) : Host.Outcome State Fault Refusal :=
  s.onZone fun c => c.leRun e.val (wordN 0x0E) leiSetr

def execLeClrr (e : Fin 2) (s : State) : Host.Outcome State Fault Refusal :=
  s.onZone fun c => c.leRun e.val (wordN 0x0F) leiClrr

def execLePsh (e : Fin 2) (s : State) : Host.Outcome State Fault Refusal :=
  s.onZone fun c => c.leRun e.val (wordN 0x10) leiPsh

def execLePopa (e : Fin 2) (s : State) : Host.Outcome State Fault Refusal :=
  s.onZone fun c => c.leRun e.val (wordN 0x11) leiPopa

def execLePopo (e : Fin 2) (s : State) : Host.Outcome State Fault Refusal :=
  s.onZone fun c => c.leRun e.val (wordN 0x12) leiPopo

def execLePopx (e : Fin 2) (s : State) : Host.Outcome State Fault Refusal :=
  s.onZone fun c => c.leRun e.val (wordN 0x13) leiPopx

def execLeRedg (e : Fin 2) (ix : Fin 4096) (s : State) : Host.Outcome State Fault Refusal :=
  s.onZone fun c => c.leRun e.val (wordI 0x14 ix.val) leiRedg

def execLeFedg (e : Fin 2) (ix : Fin 4096) (s : State) : Host.Outcome State Fault Refusal :=
  s.onZone fun c => c.leRun e.val (wordI 0x15 ix.val) leiFedg

def execLeTon (e : Fin 2) (ix : Fin 4096) (s : State) : Host.Outcome State Fault Refusal :=
  s.onZone fun c => c.leRun e.val (wordI 0x16 ix.val) leiTon

def execLeTof (e : Fin 2) (ix : Fin 4096) (s : State) : Host.Outcome State Fault Refusal :=
  s.onZone fun c => c.leRun e.val (wordI 0x17 ix.val) leiTof

def execLeTp (e : Fin 2) (ix : Fin 4096) (s : State) : Host.Outcome State Fault Refusal :=
  s.onZone fun c => c.leRun e.val (wordI 0x18 ix.val) leiTp

def execLeTps (e : Fin 2) (ix : Fin 4096) (s : State) : Host.Outcome State Fault Refusal :=
  s.onZone fun c => c.leRun e.val (wordI 0x19 ix.val) leiTps

def execLeTel (e : Fin 2) (ix : Fin 4096) (s : State) : Host.Outcome State Fault Refusal :=
  s.onZone fun c => c.leRun e.val (wordI 0x1A ix.val) leiTel

def execLeCtu (e : Fin 2) (ix : Fin 4096) (s : State) : Host.Outcome State Fault Refusal :=
  s.onZone fun c => c.leRun e.val (wordI 0x1B ix.val) leiCtu

def execLeCtd (e : Fin 2) (ix : Fin 4096) (s : State) : Host.Outcome State Fault Refusal :=
  s.onZone fun c => c.leRun e.val (wordI 0x1C ix.val) leiCtd

def execLeCrs (e : Fin 2) (ix : Fin 4096) (s : State) : Host.Outcome State Fault Refusal :=
  s.onZone fun c => c.leRun e.val (wordI 0x1D ix.val) leiCrs

def execLeCld (e : Fin 2) (ix : Fin 4096) (s : State) : Host.Outcome State Fault Refusal :=
  s.onZone fun c => c.leRun e.val (wordI 0x1E ix.val) leiCld

def execLeCvl (e : Fin 2) (ix : Fin 4096) (s : State) : Host.Outcome State Fault Refusal :=
  s.onZone fun c => c.leRun e.val (wordI 0x1F ix.val) leiCvl

def execLeCps (e : Fin 2) (ix : Fin 4096) (s : State) : Host.Outcome State Fault Refusal :=
  s.onZone fun c => c.leRun e.val (wordI 0x20 ix.val) leiCps

def execLeLdw (e : Fin 2) (l : Fin 8) (src : Fin 4) (u any : Bool) (addr : Fin 4096) (s : State) : Host.Outcome State Fault Refusal :=
  s.onZone fun c => c.leRun e.val (wordW 0x21 l.val src.val u any addr.val) leiLdw

def execLeStw (e : Fin 2) (l : Fin 8) (src : Fin 4) (u any : Bool) (addr : Fin 4096) (s : State) : Host.Outcome State Fault Refusal :=
  s.onZone fun c => c.leRun e.val (wordW 0x22 l.val src.val u any addr.val) leiStw

def execLeAdd (e : Fin 2) (l : Fin 8) (src : Fin 4) (u any : Bool) (addr : Fin 4096) (s : State) : Host.Outcome State Fault Refusal :=
  s.onZone fun c => c.leRun e.val (wordW 0x23 l.val src.val u any addr.val) leiAdd

def execLeSub (e : Fin 2) (l : Fin 8) (src : Fin 4) (u any : Bool) (addr : Fin 4096) (s : State) : Host.Outcome State Fault Refusal :=
  s.onZone fun c => c.leRun e.val (wordW 0x24 l.val src.val u any addr.val) leiSub

def execLeAdds (e : Fin 2) (l : Fin 8) (src : Fin 4) (u any : Bool) (addr : Fin 4096) (s : State) : Host.Outcome State Fault Refusal :=
  s.onZone fun c => c.leRun e.val (wordW 0x25 l.val src.val u any addr.val) leiAdds

def execLeSubs (e : Fin 2) (l : Fin 8) (src : Fin 4) (u any : Bool) (addr : Fin 4096) (s : State) : Host.Outcome State Fault Refusal :=
  s.onZone fun c => c.leRun e.val (wordW 0x26 l.val src.val u any addr.val) leiSubs

def execLeMul (e : Fin 2) (l : Fin 8) (src : Fin 4) (u any : Bool) (addr : Fin 4096) (s : State) : Host.Outcome State Fault Refusal :=
  s.onZone fun c => c.leRun e.val (wordW 0x27 l.val src.val u any addr.val) leiMul

def execLeAndw (e : Fin 2) (l : Fin 8) (src : Fin 4) (u any : Bool) (addr : Fin 4096) (s : State) : Host.Outcome State Fault Refusal :=
  s.onZone fun c => c.leRun e.val (wordW 0x28 l.val src.val u any addr.val) leiAndw

def execLeOrw (e : Fin 2) (l : Fin 8) (src : Fin 4) (u any : Bool) (addr : Fin 4096) (s : State) : Host.Outcome State Fault Refusal :=
  s.onZone fun c => c.leRun e.val (wordW 0x29 l.val src.val u any addr.val) leiOrw

def execLeXorw (e : Fin 2) (l : Fin 8) (src : Fin 4) (u any : Bool) (addr : Fin 4096) (s : State) : Host.Outcome State Fault Refusal :=
  s.onZone fun c => c.leRun e.val (wordW 0x2A l.val src.val u any addr.val) leiXorw

def execLeShl (e : Fin 2) (l : Fin 8) (src : Fin 4) (u any : Bool) (addr : Fin 4096) (s : State) : Host.Outcome State Fault Refusal :=
  s.onZone fun c => c.leRun e.val (wordW 0x2B l.val src.val u any addr.val) leiShl

def execLeShr (e : Fin 2) (l : Fin 8) (src : Fin 4) (u any : Bool) (addr : Fin 4096) (s : State) : Host.Outcome State Fault Refusal :=
  s.onZone fun c => c.leRun e.val (wordW 0x2C l.val src.val u any addr.val) leiShr

def execLeMin (e : Fin 2) (l : Fin 8) (src : Fin 4) (u any : Bool) (addr : Fin 4096) (s : State) : Host.Outcome State Fault Refusal :=
  s.onZone fun c => c.leRun e.val (wordW 0x2D l.val src.val u any addr.val) leiMin

def execLeMax (e : Fin 2) (l : Fin 8) (src : Fin 4) (u any : Bool) (addr : Fin 4096) (s : State) : Host.Outcome State Fault Refusal :=
  s.onZone fun c => c.leRun e.val (wordW 0x2E l.val src.val u any addr.val) leiMax

def execLeCeq (e : Fin 2) (l : Fin 8) (src : Fin 4) (u any : Bool) (addr : Fin 4096) (s : State) : Host.Outcome State Fault Refusal :=
  s.onZone fun c => c.leRun e.val (wordW 0x2F l.val src.val u any addr.val) leiCeq

def execLeCne (e : Fin 2) (l : Fin 8) (src : Fin 4) (u any : Bool) (addr : Fin 4096) (s : State) : Host.Outcome State Fault Refusal :=
  s.onZone fun c => c.leRun e.val (wordW 0x30 l.val src.val u any addr.val) leiCne

def execLeClt (e : Fin 2) (l : Fin 8) (src : Fin 4) (u any : Bool) (addr : Fin 4096) (s : State) : Host.Outcome State Fault Refusal :=
  s.onZone fun c => c.leRun e.val (wordW 0x31 l.val src.val u any addr.val) leiClt

def execLeCle (e : Fin 2) (l : Fin 8) (src : Fin 4) (u any : Bool) (addr : Fin 4096) (s : State) : Host.Outcome State Fault Refusal :=
  s.onZone fun c => c.leRun e.val (wordW 0x32 l.val src.val u any addr.val) leiCle

def execLeCgt (e : Fin 2) (l : Fin 8) (src : Fin 4) (u any : Bool) (addr : Fin 4096) (s : State) : Host.Outcome State Fault Refusal :=
  s.onZone fun c => c.leRun e.val (wordW 0x33 l.val src.val u any addr.val) leiCgt

def execLeCge (e : Fin 2) (l : Fin 8) (src : Fin 4) (u any : Bool) (addr : Fin 4096) (s : State) : Host.Outcome State Fault Refusal :=
  s.onZone fun c => c.leRun e.val (wordW 0x34 l.val src.val u any addr.val) leiCge

def execLeSel (e : Fin 2) (l : Fin 8) (src : Fin 4) (u any : Bool) (addr : Fin 4096) (s : State) : Host.Outcome State Fault Refusal :=
  s.onZone fun c => c.leRun e.val (wordW 0x35 l.val src.val u any addr.val) leiSel

def execLeLdx (e : Fin 2) (s : State) : Host.Outcome State Fault Refusal :=
  s.onZone fun c => c.leRun e.val (wordN 0x36) leiLdx

def execLeLds (e : Fin 2) (addr : Fin 16) (s : State) : Host.Outcome State Fault Refusal :=
  s.onZone fun c => c.leRun e.val (wordI 0x37 addr.val) leiLds

def execLeJmp (e : Fin 2) (target : Fin 65536) (s : State) : Host.Outcome State Fault Refusal :=
  s.onZone fun c => c.leRun e.val (wordJ 0x38 target.val) leiJmp

def execLeJc (e : Fin 2) (target : Fin 65536) (s : State) : Host.Outcome State Fault Refusal :=
  s.onZone fun c => c.leRun e.val (wordJ 0x39 target.val) leiJc

def execLeJnc (e : Fin 2) (target : Fin 65536) (s : State) : Host.Outcome State Fault Refusal :=
  s.onZone fun c => c.leRun e.val (wordJ 0x3A target.val) leiJnc

def execLeCall (e : Fin 2) (target : Fin 65536) (s : State) : Host.Outcome State Fault Refusal :=
  s.onZone fun c => c.leRun e.val (wordJ 0x3B target.val) leiCall

def execLeRet (e : Fin 2) (s : State) : Host.Outcome State Fault Refusal :=
  s.onZone fun c => c.leRun e.val (wordN 0x3C) leiRet

/-- END: the cycle ends and the pending image is formed. -/
def execLeEnd (e : Fin 2) (s : State) : Host.Outcome State Fault Refusal := s.onZone fun c => c.leRunEnd e.val

end Sys2Proof.Machine
end

