-- ==== Sys2Proof/Machine/CanLin.lean ====
section
/-! DEFINITION. The CAN and LIN commands: R248–R269. -/

namespace Sys2Proof.Machine

/-! ### Reception (R256, R261) -/

/-- The bus state that the error counters give: error passive above 127 (ISO 11898-1). -/
def Chip.canErrState (c : Chip) (n : Nat) : Chip :=
  let st := c.get (CAN_STAT_BUSST n)
  let passive := decide (127 < c.get (CAN_ERR_TEC n)) || decide (127 < c.get (CAN_ERR_REC n))
  if st = 0 && passive then ((c.set (CAN_STAT_BUSST n) 1).stick (CAN_STAT_EPASS n)).canEvent n 0
  else if st = 1 && !passive then (c.set (CAN_STAT_BUSST n) 0).canEvent n 0
  else c

/-- Store a frame in object `k` of controller `n`. -/
def Chip.canStore (c : Chip) (n k : Nat) (f : CanFrame) : Chip :=
  let i := 128 * n + k
  let o := c.canObj i
  let c := c.updObj i fun o => { o with
    current := intoCopy [] 0 f.data
    len := f.data.length
    flags := b2n f.rtr + 2 * b2n f.brs
    stamp := f.stamp.toNat
    lost := if o.fresh then min 255 (o.lost + 1) else o.lost
    fresh := true
    stale := false
    lastStore := c.frc }
  let c := c.when o.fresh fun c => (c.stick (CAN_STAT_LOST n)).canEvent n 2
  c.when o.irq fun c => c.canEvent n 1

/-- CAN_RX_FRAME: filtering into the lowest matching object, and every matching outbound route; the frame validates a wake
(R286). -/
def Chip.canRxFrame (c : Chip) (n : Nat) (f : CanFrame) : Chip :=
  c.when (c.canTakes n f.fmt.val f.ide) fun c =>
    let routes := (List.range 8).filter fun r =>
      c.gwOn n r && f.fmt.val == bits (c.gwWord n r 0) 125 124 &&
        ((f.id.toNat ^^^ bits (c.gwWord n r 0) 28 0) &&& bits (c.gwWord n r 0) 60 32) == 0
    let c := (c.set (CAN_ERR_REC n) (min 127 (c.get (CAN_ERR_REC n)) - 1)).canErrState n
    let c := match (List.range 128).find? fun k => c.canMatches n (c.canObj (128 * n + k)) f with
      | some k => c.canStore n k f
      | none => c.when routes.isEmpty fun c => c.satInc (CAN_CNT_NOMATCH n)
    (forEach routes (fun r c => c.gwAppend n r f) c).segFrame n

def execCanRxFrame (n : Fin 12) (f : CanFrame) (s : State) : Host.Outcome State Fault Refusal := s.canOn fun c => c.canRxFrame n.val f

/-- CAN_STALE: a receive object has stored no frame for TIMEOUT ms. -/
def Chip.canStale (c : Chip) (i : Nat) : Chip :=
  let o := c.canObj i
  c.when (o.valid && !o.isTx && o.timeout != 0 && !o.stale && c.due (o.lastStore + o.timeout * 1000000)) fun c =>
    (c.updObj i fun o => { o with stale := true }).when o.irq fun c => c.canEvent (i / 128) 1

def execCanStale (n : Fin 12) (o : Fin 128) (s : State) : Host.Outcome State Fault Refusal :=
  s.onZone fun c => c.canStale (128 * n.val + o.val)

/-! ### Transmission (R252–R255, R259) -/

/-- The order in arbitration: the identifier as it goes onto the bus, most significant first, then the format. -/
def arbKey (o : CanObj) : Nat :=
  let ext := o.ide && o.fmt != 2
  let base := if ext then bits o.ident 28 18 else o.ident % 2048
  ((base * 2 + b2n ext) * 2 ^ 18 + (if ext then o.ident % 2 ^ 18 else 0)) * 4 + o.fmt

/-- The pending object that wins arbitration, the lower number on a tie (R254). -/
def Chip.canWinner (c : Chip) (n : Nat) : Option Nat :=
  ((List.range 128).filter fun k =>
      let o := c.canObj (128 * n + k)
      o.transmits && o.tx == .pending && c.canTakes n o.fmt o.ide).foldl
    (fun best k => match best with
      | some j => if arbKey (c.canObj (128 * n + k)) < arbKey (c.canObj (128 * n + j)) then some k else some j
      | none => some k) none

/-- CAN_ARBITRATION_START: the winning object's current copy enters the shift buffer; a REF object carries the TD0 projection of
its start of frame. -/
def Chip.canArbitration (c : Chip) (n : Nat) : Chip :=
  if c.flag (CAN_CTL_LISTEN n) || (look none c.can.active n).isSome then c
  else match c.canWinner n with
    | none => c
    | some k =>
      let i := 128 * n + k
      let o := c.canObj i
      let t := c.pb0At c.frc
      let bs := copyBytes o.current o.size
      let bs := if o.isRef then leBytesOf 8 t ++ bs.drop 8 else bs
      let c := c.updCan fun b => { b with active := put none b.active n (some k), shift := put [] b.shift n bs }
      (c.updObj i fun o => { o with tx := .active, stamp := if o.isRef then t else o.stamp, len := o.size }).setB (CAN_STAT_TXACT n) true

def execCanArbitrationStart (n : Fin 12) (s : State) : Host.Outcome State Fault Refusal := s.onZone fun c => c.canArbitration n.val

/-- The controller's object leaves the bus. -/
def Chip.canRelease (c : Chip) (n : Nat) : Chip :=
  (c.updCan fun b => { b with active := put none b.active n none }).setB (CAN_STAT_TXACT n) false

/-- CAN_TX_COMPLETE: the frame on the bus ended well. -/
def Chip.canTxComplete (c : Chip) (n : Nat) : Chip :=
  match look none c.can.active n with
  | none => c
  | some k =>
    let i := 128 * n + k
    let o := c.canObj i
    let c := c.canRelease n
    let c := c.set (CAN_ERR_TEC n) (c.get (CAN_ERR_TEC n) - 1)
    let c := c.canErrState n
    let c := c.updObj i fun o => { o with
      tx := if o.queued then .pending else .idle, queued := false, txDone := true, status := stOK }
    let c := c.when o.irq fun c => c.canEvent n 1
    c.gwLoadAll n

def execCanTxComplete (n : Fin 12) (s : State) : Host.Outcome State Fault Refusal := s.onZone fun c => c.canTxComplete n.val

/-- CAN_TX_FAIL: the frame lost arbitration or met an error; it is pending again, or under ONESHOT discarded. -/
def Chip.canTxFail (c : Chip) (n lec tec rec : Nat) : Chip :=
  match look none c.can.active n with
  | none => c
  | some k =>
    let i := 128 * n + k
    let o := c.canObj i
    let c := c.canRelease n
    let c := c.when (lec != 0) fun c =>
      (((c.set (CAN_STAT_LEC n) lec).set (CAN_ERR_TEC n) tec).set (CAN_ERR_REC n) rec).canErrState n
    if o.oneshot then
      let c := c.updObj i fun o => { o with tx := if o.queued then .pending else .idle, queued := false, status := stTIMEOUT }
      (c.canEvent n 2).gwLoadAll n
    else c.updObj i fun o => { o with tx := .pending }

def execCanTxFail (n : Fin 12) (lec : Fin 7) (tec rec : Fin 256) (s : State) : Host.Outcome State Fault Refusal :=
  s.onZone fun c => c.canTxFail n.val lec.val tec.val rec.val

/-- CAN_TX_TRIGGER: a class 3 kind 0 occurrence fires for an object. -/
def Chip.canTrigger (c : Chip) (i : Nat) : Chip :=
  match c.dueAction 3 i with
  | none => c
  | some a =>
    let c := c.dropAction a
    c.when (c.canObj i).transmits fun c => c.canRequest i

def execCanTxTrigger (n : Fin 12) (o : Fin 128) (s : State) : Host.Outcome State Fault Refusal :=
  s.onZone fun c => c.canTrigger (128 * n.val + o.val)

/-! ### Object commands (R249, R251–R256, R265, R347) -/

/-- The object a requester selects: CANn_OSEL, or in a VF page its selector within its range (R347). -/
def Chip.canSelected (c : Chip) (w : Who) (n : Nat) : Option Nat :=
  match w.vf with
  | none => some (128 * n + c.get (CAN_OSEL_OBJ n))
  | some f =>
    c.localIndex f 1 (c.get (VF_CSEL_SEL f))

/-- The status of a requester's last object access or command (R265): CANn_ORES. -/
def Chip.canOres (c : Chip) (w : Who) (n st : Nat) : Chip :=
  let c := c.updCan fun b => { b with ores := put 0 b.ores (w.key * 16 + n) st }
  c.when (st != stOK) fun c => (c.set (CAN_STAT_LASTERR n) st).canEvent n 2

/-- An object command of a requester: its world must be that of the object's function (R249). -/
def Chip.canObjCmd (c : Chip) (w : Who) (n : Nat) (f : Nat → Chip → Nat × Chip) : Chip :=
  match c.canSelected w n with
  | none => match w.vf with
    | some v => c.set (VF_STAT_LASTERR v) stRANGE
    | none => c
  | some i =>
    if c.poolWorld 1 i ≠ some w.world then c.canOres w (i / 128) stDENIED_WORLD
    else
      let r := f i c
      r.2.canOres w (i / 128) r.1

/-- OCMD on object `i`: COMMIT, TXREQ, CANCEL and CLRNEW, with the status (R252, R253, R255). -/
def Chip.canOcmd (i v : Nat) (c : Chip) : Nat × Chip :=
  let c := c.when (bit v 2) fun c => c.canCommit i
  let c := c.when (bit v 3) fun c => c.updObj i fun o => { o with fresh := false }
  if bit v 0 && !((c.canObj i).transmits && c.canOpen i) then (stNOT_NOW, c)
  else
    let c := c.when (bit v 0) fun c => c.canTxreq i
    if bit v 1 then
      match (c.canObj i).tx with
      | .active => (stBUSY, c)
      | .pending => (stOK, (c.updObj i fun o => { o with tx := .idle }).gwLoadAll (i / 128))
      | .idle => (stOK, c)
    else (stOK, c)

/-- A write of CANn_OCMD. -/
def Chip.canOcmdWrite (c : Chip) (w : Who) (n v : Nat) : Chip := c.canObjCmd w n fun i c => Chip.canOcmd i v c

def execCanTxreq (a : Agent) (n : Fin 12) (v : W32) (s : State) : Host.Outcome State Fault Refusal :=
  s.by a fun w c => c.canOcmdWrite w n.val v.toNat

def execCanCancel (a : Agent) (n : Fin 12) (v : W32) (s : State) : Host.Outcome State Fault Refusal :=
  s.by a fun w c => c.canOcmdWrite w n.val v.toNat

def execCanCommit (a : Agent) (n : Fin 12) (v : W32) (s : State) : Host.Outcome State Fault Refusal :=
  s.by a fun w c => c.canOcmdWrite w n.val v.toNat

def execCanClrnew (a : Agent) (n : Fin 12) (v : W32) (s : State) : Host.Outcome State Fault Refusal :=
  s.by a fun w c => c.canOcmdWrite w n.val v.toNat

/-- A write of descriptor word `word` of object `i`, with the status (R251). -/
def Chip.canDesc (i word : Nat) (v : W128) (c : Chip) : Nat × Chip :=
  let o := c.canObj i
  if o.transmits then (stBUSY, c)
  else
    let o' : CanObj := if word = 0 then { o with w0 := v } else { o with w1 := v }
    let o'' : CanObj := { o' with tx := .idle, queued := false, txDone := false, lastStore := c.frc, stale := false }
    if o''.valid && !c.canDescOk (i / 128) (i % 128) o'' then (stRANGE, c)
    else (stOK, c.updObj i fun _ => o'')

/-- A write of CANn_ODESC0 or CANn_ODESC1. -/
def Chip.canDescWrite (c : Chip) (w : Who) (n word : Nat) (v : W128) : Chip := c.canObjCmd w n fun i c => Chip.canDesc i word v c

def execCanDescWrite (a : Agent) (n : Fin 12) (word : Fin 2) (v : W128) (s : State) : Host.Outcome State Fault Refusal :=
  s.by a fun w c => c.canDescWrite w n.val word.val v

/-- A write of CANn_OSEL: an object of another world's function is not selected. -/
def Chip.canOselWrite (c : Chip) (w : Who) (n v : Nat) : Chip :=
  if c.poolWorld 1 (128 * n + v % 128) = some w.world then (c.set (CAN_OSEL_OBJ n) (v % 128)).canOres w n stOK
  else c.canOres w n stDENIED_WORLD

/-- CANn_OSTAT of an object. -/
def CanObj.ostat (o : CanObj) : Nat :=
  (b2n o.fresh <<< 31) + (b2n o.stale <<< 30) + (b2n (o.tx == .pending) <<< 29) + (b2n o.txDone <<< 28) + ((o.len % 4096) <<< 16) +
    (o.lost <<< 8) + o.status

/-- A byte of CANn_WIN: the staging copy of a transmit object, the stored payload of a receive object. -/
def CanObj.winByte (o : CanObj) (i : Nat) : Nat := (look 0 (if o.isTx then o.staging else o.current) i).toNat

/-- A write of bytes of CANn_WIN. -/
def Chip.canWinWrite (c : Chip) (w : Who) (n i : Nat) (bs : List Byte) : Chip :=
  c.canObjCmd w n fun k c => (stOK, c.updObj k fun o => { o with staging := intoCopy o.staging i bs })

/-! ### Controller registers (R248, R250, R258, R265) -/

/-- A refused write of a controller's register. -/
def Chip.canRefuse (c : Chip) (n st : Nat) : Chip := (c.set (CAN_STAT_LASTERR n) st).canEvent n 2

/-- The mode fields of CTL: those that can be written only while EN = 0 (R248). -/
def canModeBits (v : Nat) : Nat := bits v 30 28 * 16 + bits v 26 24

/-- The controller leaves the bus: a frame on it is cut, and its object is pending again. -/
def Chip.canOff (c : Chip) (n : Nat) : Chip :=
  let c := match look none c.can.active n with
    | some k => (c.canRelease n).updObj (128 * n + k) fun o => { o with tx := .pending }
    | none => c
  ((c.set (CAN_STAT_BUSST n) 3).setB (CAN_STAT_SYNC n) false).updCan fun b => { b with recovering := put false b.recovering n false }

/-- A write of CANn_CTL: its fields take effect together, or it is refused. -/
def Chip.canCtlWrite (c : Chip) (w : Who) (n v : Nat) : Chip :=
  c.when (c.claims w.world 7 n) fun c =>
    let old := c.rdN (CAN_CTL n)
    let en := bit v 31
    if bit old 31 && canModeBits v != canModeBits old then c.canRefuse n stBUSY
    else if bit v 28 && decide (n < 8) then c.canRefuse n stRANGE
    else
      let c := c.wrN (CAN_CTL n) (bits v 31 24 <<< 24)
      let c := c.when (bit v 23) fun c => (c.wrN (CAN_CNT n) 0).wrN (CAN_GWCNT n) 0
      let c :=
        if en && !bit old 31 then ((c.set (CAN_STAT_BUSST n) 0).setB (CAN_STAT_SYNC n) true).wrN (CAN_ERR n) 0
        else if !en && bit old 31 then c.canOff n
        else c
      c.when (bit v 22 && c.get (CAN_STAT_BUSST n) == 2) fun c =>
        c.updCan fun b => { b with recovering := put false b.recovering n true }

def execCanRecover (a : Agent) (n : Fin 12) (v : W32) (s : State) : Host.Outcome State Fault Refusal :=
  s.by a fun w c => c.canCtlWrite w n.val v.toNat

def execCanClrcnt (a : Agent) (n : Fin 12) (v : W32) (s : State) : Host.Outcome State Fault Refusal :=
  s.by a fun w c => c.canCtlWrite w n.val v.toNat

/-- Whether the bit rate of a timing word, 80 MHz over its bit time, lies within limits in kbit/s. -/
def rateWithin (v lo hi : Nat) : Bool :=
  let d := (bits v 31 24 + 1) * (1 + (bits v 23 16 + 1) + (bits v 14 8 + 1))
  decide (lo * d ≤ 80000) && decide (80000 ≤ hi * d)

/-- A write of CANn_NBT (0), CANn_DBT (1) or CANn_XBT (2). -/
def Chip.canTimingWrite (c : Chip) (w : Who) (n which v : Nat) : Chip :=
  c.when (c.claims w.world 7 n) fun c =>
    let ok := match which with
      | 0 => if c.flag (CAN_CTL_ISO11992 n) then rateWithin v 125 125 else rateWithin v 20 1000
      | 1 => rateWithin v 500 8000
      | _ => rateWithin v 2000 (if c.flag (CAN_CTL_PWM n) then 20000 else 10000)
    let r := match which with
      | 0 => CAN_NBT n
      | 1 => CAN_DBT n
      | _ => CAN_XBT n
    if c.flag (CAN_CTL_EN n) then c.canRefuse n stBUSY
    else if !ok then c.canRefuse n stRANGE
    else c.wrN r (setBit v 15 false)

/-- A write of word `k` of gateway route `r` (R260, R262). -/
def Chip.canGwrWrite (c : Chip) (w : Who) (n r k v : Nat) : Chip :=
  c.when (c.claims w.world 7 n) fun c =>
    let w0 := if k = 0 then v else c.gwWord n r 0
    let w3 := if k = 3 then v else c.gwWord n r 3
    let o := c.canObj (128 * n + w3 % 128)
    if k = 0 && (2 ≤ bits v 125 124 || bit v 126 != decide (8 ≤ r)) then c.canRefuse n stRANGE
    else if 8 ≤ r && bit w0 127 && !(o.transmits && o.gw) then c.canRefuse n stRANGE
    else c.wrN (CAN_GWR n r k) v

/-- A write of CANn_GWCFG: the host pair must belong to the controller's world (R260). -/
def Chip.canGwcfgWrite (c : Chip) (w : Who) (n v : Nat) : Chip :=
  c.when (c.claims w.world 7 n) fun c =>
    if c.poolWorld 0 (v % 256) ≠ some w.world then c.canRefuse n stDENIED_WORLD
    else c.wrN (CAN_GWCFG n) ((bits v 31 31 <<< 31) + (bits v 20 16 <<< 16) + v % 256)

/-- CAN_BUS_OFF: pending transmissions stay pending; recovery starts at once under AUTOREC. -/
def Chip.canBusOff (c : Chip) (n : Nat) : Chip :=
  c.when (decide (c.get (CAN_STAT_BUSST n) < 2)) fun c =>
    let c := match look none c.can.active n with
      | some k => (c.canRelease n).updObj (128 * n + k) fun o => { o with tx := .pending }
      | none => c
    let c := ((c.set (CAN_STAT_BUSST n) 2).stick (CAN_STAT_BOFF n)).canEvent n 0
    c.updCan fun b => { b with recovering := put false b.recovering n (c.flag (CAN_CTL_AUTOREC n)) }

def execCanBusOff (n : Fin 12) (s : State) : Host.Outcome State Fault Refusal := s.onZone fun c => c.canBusOff n.val

/-- CAN_BUSOFF_RECOVERED: 128 occurrences of 11 recessive bits have passed in a recovery. -/
def Chip.canRecovered (c : Chip) (n : Nat) : Chip :=
  c.when (c.get (CAN_STAT_BUSST n) == 2 && look false c.can.recovering n) fun c =>
    let c := (c.set (CAN_STAT_BUSST n) 0).wrN (CAN_ERR n) 0
    (c.updCan fun b => { b with recovering := put false b.recovering n false }).canEvent n 0

def execCanBusoffRecovered (n : Fin 12) (s : State) : Host.Outcome State Fault Refusal := s.onZone fun c => c.canRecovered n.val

/-! ### Gateway (R261, R262) -/

/-- GW_MAXLAT_EXPIRY: MAXLAT µs after its first message the open frame is sent. -/
def Chip.gwMaxlat (c : Chip) (n r : Nat) : Chip :=
  let x := c.gwRoute n r
  c.when (!x.held.isEmpty && c.due (x.since + bits (c.gwWord n r 2) 127 112 * 1000)) fun c => c.gwClose n r

def execGwMaxlatExpiry (n : Fin 12) (r : Fin 8) (s : State) : Host.Outcome State Fault Refusal := s.canOn fun c => c.gwMaxlat n.val r.val

/-- One message enters the FIFO of an inbound route, or is discarded when it is full. -/
def Chip.gwTake (c : Chip) (n r : Nat) (m : CanMsg) : Chip :=
  let c := if 32 ≤ (c.gwRoute n r).fifo.length then c.gwDrop n else c.updRoute n r fun x => { x with fifo := x.fifo ++ [m] }
  c.gwLoad n r

/-- GW_INBOUND_FRAME: an NTSCF frame reaches the controller's host queue. -/
def Chip.gwInbound (c : Chip) (n : Nat) (frame : List Byte) : Chip :=
  match ntscfBody frame with
  | none => c
  | some (stream, body) =>
    let msgs := acfMessages (c.get (CAN_GWCFG_BUSID n)) 512 body
    forAll 8 (fun k c =>
      let r := 8 + k
      c.when (c.gwOn n r && bits (c.gwWord n r 1) 63 0 == stream) fun c => forEach msgs (fun m c => c.gwTake n r m) c) c

def execGwInboundFrame (n : Fin 12) (frame : List Byte) (s : State) : Host.Outcome State Fault Refusal :=
  s.onZone fun c => c.gwInbound n.val frame

/-! ### LIN (R263, R264, R266, R267) -/

/-- A header of entry `e` starts: the entry's frame is on the bus. A sporadic frame goes only when its buffer holds a new commit. -/
def Chip.linHeader (c : Chip) (n e : Nat) : Chip :=
  let b := n * 64 + c.get (LIN_ENT_BUF n e)
  let c := c.set (LIN_STAT_ENTRY n) e
  if c.get (LIN_ENT_TYPE n e) = 2 && !look false c.can.linUpd b then c
  else (c.setB (LIN_STAT_BUSY n) true).updCan fun x => { x with
    linOn := put none x.linOn n (some e)
    linUpd := if c.flag (LIN_ENT_PUB n e) then put false x.linUpd b false else x.linUpd }

/-- The schedule range in force: that of the running slot, or LINn_SCH. -/
def Chip.linSch (c : Chip) (n : Nat) : Nat × Nat := (c.get (LIN_SCH_SCHSTART n), c.get (LIN_SCH_SCHEND n))

/-- The entry after the current one in the range of the schedule. -/
def Chip.linNext (c : Chip) (n : Nat) (first : Bool) : Nat :=
  let r := c.linSch n
  let cur := c.get (LIN_STAT_ENTRY n)
  if first || look (0, 0) c.can.linRange n != r || r.2 ≤ cur || cur < r.1 then r.1 else cur + 1

/-- LIN_SLOT: in FREE mode the slot ends and the next entry's header starts; an unused entry's slot stays empty. -/
def Chip.linSlot (c : Chip) (n : Nat) : Chip :=
  c.when (c.flag (LIN_CTL_EN n) && !c.flag (LIN_CTL_MODE n) && !c.flag (LIN_STAT_ASLEEP n) && c.dueAt (look none c.can.linSlot n)) fun c =>
    let e := c.linNext n (look false c.can.linFirst n)
    let c := c.updCan fun x => { x with
      linSlot := put none x.linSlot n (some (c.frc + max 1 (c.get (LIN_ENT_SLOT n e)) * 1000000))
      linRange := put (0, 0) x.linRange n (c.linSch n)
      linFirst := put false x.linFirst n false
      linOn := put none x.linOn n none }
    if c.flag (LIN_ENT_VALID n e) then c.linHeader n e else c.set (LIN_STAT_ENTRY n) e

def execLinSlot (n : Fin 8) (s : State) : Host.Outcome State Fault Refusal := s.onZone fun c => c.linSlot n.val

/-- LIN_TRIGGER: a class 3 kind 1 occurrence fires for an entry; behind a frame on the bus it waits for that frame's end, and
on a sleeping segment it is discarded (R281). -/
def Chip.linTrigger (c : Chip) (n e : Nat) : Chip :=
  match c.dueAction 3 (0x1000 + 256 * n + e) with
  | none => c
  | some a =>
    let c := c.dropAction a
    c.when (c.flag (LIN_CTL_EN n) && c.flag (LIN_CTL_MODE n) && c.flag (LIN_ENT_VALID n e)) fun c =>
      if !c.segAwake (12 + n) then (c.segSupp (12 + n)).raise 430
      else if c.flag (LIN_STAT_BUSY n) then
        ((c.satInc (LIN_CNT_LATE n)).updCan fun x => { x with linWait := put none x.linWait n (some e) }).raise (368 + n)
      else c.linHeader n e

def execLinTrigger (n : Fin 8) (e : Fin 256) (s : State) : Host.Outcome State Fault Refusal := s.onZone fun c => c.linTrigger n.val e.val

/-- LIN_RESPONSE: the frame on the bus ends. The status of a missing or faulty response is not stated, so it is open. -/
def Chip.linResponse (c : Chip) (n : Nat) (r : LinResult) (data : Nat) : Chip :=
  match look none c.can.linOn n with
  | none => c
  | some e =>
    let b := c.get (LIN_ENT_BUF n e)
    let c := (c.setB (LIN_STAT_BUSY n) false).updCan fun x => { x with linOn := put none x.linOn n none }
    let open_ := (Config.openValue c.freeCtr).toNat % 256
    let c := match r with
      | .good =>
        let c := c.set (LIN_BUF_STATUS n b) stOK
        c.when (!c.flag (LIN_ENT_PUB n e)) fun c =>
          let len := c.get (LIN_ENT_LEN n e) + 1
          ((c.set (LIN_BUF_DATA n b) (data % 2 ^ (8 * len))).setB (LIN_BUF_NEW n b) true).segFrame (12 + n)
      | .missing =>
        ((((c.drawn.set (LIN_BUF_STATUS n b) open_).satInc (LIN_CNT_NORESP n)).stick (LIN_STAT_NORESP n))).raise (368 + n)
      | .faulty =>
        ((((c.drawn.set (LIN_BUF_STATUS n b) open_).satInc (LIN_CNT_ERR n)).stick (LIN_STAT_ERR n))).raise (368 + n)
    match look none c.can.linWait n with
    | none => c
    | some e' => (c.updCan fun x => { x with linWait := put none x.linWait n none }).linHeader n e'

def execLinResponse (n : Fin 8) (r : LinResult) (data : W64) (s : State) : Host.Outcome State Fault Refusal :=
  s.onZone fun c => c.linResponse n.val r data.toNat

/-- A refused write of a commander's register. -/
def Chip.linRefuse (c : Chip) (n st : Nat) : Chip := c.set (LIN_STAT_LASTERR n) st

/-- The segment of a commander goes to sleep: go-to-sleep is sent. -/
def Chip.linGoToSleep (c : Chip) (n : Nat) : Chip := (c.setB (LIN_STAT_ASLEEP n) true).raise (376 + n)

/-- A write of LINn_CTL: its fields take effect together. -/
def Chip.linCtlWrite (c : Chip) (w : Who) (n v : Nat) : Chip :=
  c.when (c.claims w.world 8 n) fun c =>
    let rate := v % 65536
    let was := c.flag (LIN_CTL_EN n)
    let c := c.wrN (LIN_CTL n) ((bits v 31 30 <<< 30) + (if 1000 ≤ rate && rate ≤ 20000 then rate else c.get (LIN_CTL_RATE n)))
    let c := c.when (bit v 28) fun c => c.wrN (LIN_CNT n) 0
    let c :=
      if bit v 31 && !was then c.updCan fun x => { x with
        linSlot := put none x.linSlot n (some c.frc), linFirst := put false x.linFirst n true }
      else if !bit v 31 && was then (c.setB (LIN_STAT_BUSY n) false).updCan fun x => { x with
        linSlot := put none x.linSlot n none, linOn := put none x.linOn n none, linWait := put none x.linWait n none }
      else c
    c.when (bit v 29 && bit v 31) fun c => c.linGoToSleep n

def execLinSleep (a : Agent) (n : Fin 8) (v : W32) (s : State) : Host.Outcome State Fault Refusal :=
  s.by a fun w c => c.linCtlWrite w n.val v.toNat

def execLinClrcnt (a : Agent) (n : Fin 8) (v : W32) (s : State) : Host.Outcome State Fault Refusal :=
  s.by a fun w c => c.linCtlWrite w n.val v.toNat

/-- A write of LINn_BUFb: the staging data, and with COMMIT they become current. -/
def Chip.linBufWrite (c : Chip) (w : Who) (n b v : Nat) : Chip :=
  c.when (c.claims w.world 8 n) fun c =>
    let c := (c.set (LIN_BUF_DATA n b) v).setB (LIN_BUF_NEW n b) false
    c.when (bit v 73) fun c => c.updCan fun x => { x with
      linCur := put 0 x.linCur (n * 64 + b) (v % 2 ^ 64), linUpd := put false x.linUpd (n * 64 + b) true }

def execLinBufCommit (a : Agent) (n : Fin 8) (b : Fin 64) (v : W128) (s : State) : Host.Outcome State Fault Refusal :=
  s.by a fun w c => c.linBufWrite w n.val b.val v.toNat

/-- LIN_WAKEUP_PULSE: a wake-up pulse while the segment is awake. -/
def execLinWakeupPulse (n : Fin 8) (s : State) : Host.Outcome State Fault Refusal :=
  s.onZone fun c => c.when (!c.flag (LIN_STAT_ASLEEP n.val)) fun c => (c.stick (LIN_STAT_WAKE n.val)).raise (376 + n.val)

/-! ### Reset and sleep (R269) -/

/-- Every object loses its pending transmission; the ones `p` picks are invalidated. -/
def dropPending (m : NMap CanObj) (p : Nat → Bool) : NMap CanObj :=
  m.foldl (fun t e => put {} t e.1 (if p e.1 then {} else { e.2 with tx := .idle, queued := false })) []

/-- A reset of warm reach (not `wide`), or of system reach and wider. -/
def Chip.canReset (c : Chip) (wide : Bool) : Chip :=
  if wide then c.updCan fun _ => {}
  else
    let c := forAll 12 (fun n c =>
      let lost := (forAll 16 (fun r k => k + (c.gwRoute n r).fifo.length + b2n (!(c.gwRoute n r).held.isEmpty)) 0)
      (c.satAdd (CAN_GWCNT_DROP n) lost).setB (CAN_CTL_EN n) false) c
    let c := forAll 8 (fun n c => c.setB (LIN_CTL_EN n) false) c
    c.updCan fun b => { objs := dropPending b.objs fun _ => false, linCur := b.linCur }

/-- Controller `n`'s segment goes to sleep. -/
def Chip.canSleep (c : Chip) (n : Nat) : Chip :=
  let c := (c.canOff n).setB (CAN_CTL_EN n) false
  let c := forAll 128 (fun k c =>
    if (c.canObj (128 * n + k)).tx = .idle then c else c.updObj (128 * n + k) fun o => { o with tx := .idle, queued := false }) c
  forAll 16 (fun r c => c.updRoute n r fun x => { x with held := [], fifo := [] }) c

/-- Commander `n`'s segment goes to sleep. -/
def Chip.linSegSleep (c : Chip) (n : Nat) : Chip :=
  ((c.setB (LIN_CTL_EN n) false).setB (LIN_STAT_BUSY n) false).updCan fun x => { x with
    linSlot := put none x.linSlot n none, linOn := put none x.linOn n none, linWait := put none x.linWait n none }

/-- A partition reset of VF `f` invalidates its objects and empties the inbound routes that feed them. -/
def Chip.canVfReset (c : Chip) (f : Nat) : Chip :=
  let mine (i : Nat) : Bool := c.inRange f 1 i
  let c := c.updCan fun b => { b with
    objs := b.objs.foldl (fun t e => put {} t e.1 (if mine e.1 then {} else e.2)) []
    active := b.active.foldl (fun t e => match e.2 with
      | some k => put none t e.1 (if mine (128 * e.1 + k) then none else some k)
      | none => t) [] }
  forAll 192 (fun j c =>
    c.when (decide (8 ≤ j % 16) && mine (128 * (j / 16) + c.gwWord (j / 16) (j % 16) 3 % 128)) fun c =>
      c.updRoute (j / 16) (j % 16) fun x => { x with fifo := [] }) c

end Sys2Proof.Machine
end

