-- ==== Sys2Proof/Machine/Hatband.lean ====
section
/-! DEFINITION. The Hatband commands: R214–R247. -/

namespace Sys2Proof.Machine

/-! ### Enabling (R214, R215, R220, R227, R243) -/

/-- The PHY entries of the enabled channels that the claim table does not give to the Hatband (R214). -/
def Chip.physMissing (c : Chip) : List Nat :=
  (List.range 2).filterMap fun ch =>
    if bit (c.get HBD_CFG_CHEN) ch && c.claimNibble 3 (18 + ch) != 15 then some (18 + ch) else none

/-- A write of EN = 1 in CONFIG: refused, or the controller enters LISTEN. -/
def Chip.hbdEnable (c : Chip) (w : Who) : Chip :=
  match c.physMissing with
  | e :: _ => (c.conflict 3 e 0xFF w).raise 400
  | [] =>
    if c.get (TD_CTL_SRC 0) = 1 then c.raise 400
    else if !c.configOk then c.raise 400
    else
      let c := c.updHbd fun b => { b with
        cycle := none, marks := none, rejects := 0, sinceMark := 0, trim := [], waitStep := false, ackFor := none,
        own := [], ownLostRun := 0, ownBack := 0, meas := [], lastMeas := [], confMode := none, reqCycles := none }
      ((c.setB HBD_CTL_EN true).set HBD_STAT_CURMODE 0).hbEnter hsLISTEN

/-- EN = 0 returns any state to CONFIG at once. -/
def Chip.hbdDisable (c : Chip) : Chip :=
  (((c.setB HBD_CTL_EN false).setB HBD_STAT_GLOCK false).updHbd fun b => { b with cycle := none, marks := none }).hbEnter hsCONFIG

/-- CLRCNT clears the channel counters. -/
def Chip.hbdClrcnt (c : Chip) : Chip := forAll 8 (fun i c => c.wrN (HBD_CH (i / 4) (i % 4)) 0) c

/-- A write of HBD_CTL by W2: its fields take effect together. -/
def Chip.hbdCtlWrite (c : Chip) (w : Who) (v : Nat) : Chip :=
  c.when (w.world == 2) fun c =>
    let c := c.when (bit v 2) Chip.hbdClrcnt
    let c :=
      if bit v 0 then c.when (c.hbState == hsCONFIG) fun c => c.hbdEnable w
      else c.hbdDisable
    c.when (bit v 1) fun c => c.hbEnter hsHALT

def execHbdEnable (a : Agent) (v : W32) (s : State) : Host.Outcome State Fault Refusal := s.by a fun w c => c.hbdCtlWrite w v.toNat

def execHbdDisable (a : Agent) (v : W32) (s : State) : Host.Outcome State Fault Refusal := s.by a fun w c => c.hbdCtlWrite w v.toNat

def execHbdHalt (a : Agent) (v : W32) (s : State) : Host.Outcome State Fault Refusal := s.by a fun w c => c.hbdCtlWrite w v.toNat

def execHbdClrcnt (a : Agent) (v : W32) (s : State) : Host.Outcome State Fault Refusal := s.by a fun w c => c.hbdCtlWrite w v.toNat

/-! ### Own frames (R224, R230) -/

/-- Whether a frame of this cycle has been lost on every channel already. -/
def Chip.ownLostNow (c : Chip) : Bool := c.hbd.own.any fun o => o.out == 0 && !o.valid

/-- An own frame is lost on every channel it was sent on: OWNLOST, EV0388, and PASSIVE after OWNLIM cycles in a row (R224); a
cold-start frame has collided (R230). `first` says that it is the cycle's first. -/
def Chip.ownLost (c : Chip) (first : Bool) : Chip :=
  let c := (c.stick HBD_STAT_OWNLOST).raise 388
  if c.hbState = hsCOLDSTART && c.hbd.leader then
    let c := forAll 2 (fun ch c => c.when (bit (c.get HBD_CFG_CHEN) ch) fun c => c.satInc (HBD_CH_N ch 3)) c
    ((c.stick HBD_STAT_COLL).raise 393).hbEnter hsLISTEN
  else
    let c := c.updHbd fun b => { b with ownLostRun := b.ownLostRun + b2n first }
    c.when (decide (c.get HBD_CFG_OWNLIM ≤ c.hbd.ownLostRun) && (c.hbState == hsNORMAL || c.hbState == hsCOLDSTART)) fun c =>
      c.hbEnter hsPASSIVE

/-- An own frame in `slot` comes back on channel `ch`, valid or not; the result says whether there was one. -/
def Chip.ownReturns (c : Chip) (slot ch : Nat) (valid : Bool) : Bool × Chip :=
  match c.hbd.own.find? fun o => o.slot == slot && bit o.out ch with
  | none => (false, c)
  | some o =>
    let first := !c.ownLostNow
    let o' : HbdOwn := { o with out := setBit o.out ch false, valid := o.valid || valid }
    let c := c.updHbd fun b => { b with own := b.own.map fun x => if x.slot = slot then o' else x }
    (true, c.when (o'.out == 0 && !o'.valid) fun c => c.ownLost first)

/-- Own frames of the ended cycle that never came back on some channel. -/
def Chip.ownCycleEnd (c : Chip) : Chip :=
  let missing := c.hbd.own.filter fun o => o.out != 0 && !o.valid
  let c := match missing with
    | [] => c
    | _ =>
      let first := !c.ownLostNow
      let spent := c.hbd.own.map fun (o : HbdOwn) => ({ slot := o.slot, out := 0, valid := o.valid } : HbdOwn)
      (c.updHbd fun b => { b with own := spent }).ownLost first
  let clean := !c.hbd.own.isEmpty && !c.ownLostNow
  c.updHbd fun b => { b with
    ownLostRun := if clean then 0 else b.ownLostRun
    ownBack := if clean then b.ownBack + 1 else if b.own.isEmpty then b.ownBack else 0
    own := [] }

/-! ### The start of a cycle (R217, R218, R228, R231, R239, R241, R242) -/

/-- Distinct nodes among the sync frames of a cycle. -/
def syncNodes (l : List HbdSync) : List Nat := (l.map (·.node)).eraseDups

/-- Whether the ended cycle was full valid (R228). -/
def Chip.fullValid (c : Chip) : Bool :=
  let b := c.hbd
  let lone := c.flag HBD_CFG_CSEN && c.hbState == hsINTEGRATE && !b.syncs.isEmpty && b.syncs.all (·.startup)
  let need := if lone then 1 else c.get HBD_CFG_MINSYNC
  decide (need ≤ (syncNodes b.syncs).length) && b.modes.all (fun e => e.1 == c.hbMode) && b.small && b.counted

/-- The mode a majority of the valid frames of the ended cycle carried, where it is not this node's own (R241). -/
def Chip.majority (c : Chip) : Option Nat :=
  let total := c.hbd.modes.foldl (fun (n : Nat) e => n + e.2) 0
  let others := c.hbd.modes.filter fun e => e.1 != c.hbMode
  let n := others.foldl (fun (n : Nat) e => n + e.2) 0
  if total < 2 * n then
    (others.foldl (fun best e => match best with
      | some x => if x.2 < e.2 then some e else best
      | none => some e) none).map (·.1)
  else none

/-- Whether mode `m` is loaded (R241). -/
def Chip.loaded (c : Chip) (m : Nat) : Bool := c.flag (HBD_MODE_VALID m)

/-- The mode rule of R241. -/
def Chip.modeRule (c : Chip) : Chip :=
  let st := c.hbState
  match c.majority with
  | none => c
  | some m =>
    if st = hsNORMAL || st = hsPASSIVE || st = hsSILENT then
      let c := c.raise 397
      if c.loaded m then (c.set HBD_STAT_CURMODE m).hbEnter hsPASSIVE else c.hbEnter hsHALT
    else c

/-- The state transitions a cycle start decides (R227, R228, R231). -/
def Chip.cycleStates (c : Chip) (full : Bool) : Chip :=
  let st := c.hbState
  let c := c.updHbd fun b => { b with spent := b.spent + 1 }
  if st = hsINTEGRATE then
    if full then
      if c.flag HBD_CFG_CSEN && c.hbd.syncs.all (·.startup) then c.hbEnter hsCOLDSTART else c.hbEnter hsNORMAL
    else c.when (decide (8 ≤ c.hbd.spent)) fun c => c.hbEnter hsLISTEN
  else if st = hsPASSIVE then c.when (full && c.flag HBD_STAT_GLOCK) fun c => c.hbEnter hsNORMAL
  else if st = hsCOLDSTART && c.hbd.leader then
    let csmin := c.get HBD_CFG_CSMIN
    let ok := if csmin ≤ 1 then decide (2 ≤ c.hbd.ownBack)
      else decide (csmin - 1 ≤ (syncNodes (c.hbd.syncs.filter (·.startup))).length)
    if ok then c.hbEnter hsNORMAL
    else c.when (decide (16 ≤ c.hbd.spent)) fun c => (c.hbEnter hsLISTEN).raise 394
  else c

/-- Buffers lose FRESH when a whole repetition of their entry has passed without a valid frame (R239). -/
def Chip.ageBuffers (c : Chip) (k : Nat) : Chip :=
  forEach ((c.hbSlots c.hbMode).filter fun e => !e.tx) (fun e c =>
    let b := c.hbBuf e.buf
    c.when (b.fresh && decide (b.storedIn + 2 ^ e.rep + 1 ≤ k)) fun c => c.updBuf e.buf fun b => { b with fresh := false }) c

/-- The end of a request with a status (R242). -/
def Chip.mreqEnd (c : Chip) (st : Nat) : Chip :=
  ((c.setB HBD_MSTAT_PENDING false).set HBD_MSTAT_STATUS st).updHbd fun b => { b with reqCycles := none }

/-- Whether every node in REQNODES of mode `r` confirmed it in the ended cycle (R242). -/
def Chip.allConfirmed (c : Chip) (r : Nat) : Bool :=
  c.loaded r && c.hbd.confs.any (fun e => e.2 == some r) &&
    (List.range 64).all fun n => !bit (c.get (HBD_MODE_REQNODES r)) n || look none c.hbd.confs n == some r

/-- Mode changes, confirmations and the node's own request at a cycle start (R242). -/
def Chip.modeStep (c : Chip) : Chip :=
  if c.hbState ≠ hsNORMAL then c.updHbd fun b => { b with confMode := none }
  else
    let cur := c.hbMode
    match (List.range 8).find? fun r => r != cur && c.allConfirmed r with
    | some r =>
      let c := ((c.set HBD_STAT_CURMODE r).stick HBD_STAT_MODECHG).raise 395
      let c := c.when (c.flag HBD_MSTAT_PENDING && c.get HBD_MSTAT_MODE == r) fun c => c.mreqEnd stOK
      c.updHbd fun b => { b with confMode := none }
    | none =>
      let asked := (List.range 8).find? fun r => c.hbd.reqs.contains r && c.loaded r && bit (c.get HBD_MODEOK_MODES) r
      let c := c.updHbd fun b => { b with confMode := asked }
      if !c.flag HBD_MSTAT_PENDING then c
      else if c.hbd.reqs.any (· < c.get HBD_MSTAT_MODE) then (c.mreqEnd stBUSY).raise 396
      else
        let n := match c.hbd.reqCycles with | none => 0 | some n => n + 1
        if c.get HBD_CFG_MTO ≤ n then (c.mreqEnd stTIMEOUT).raise 396
        else c.updHbd fun b => { b with reqCycles := some n }

/-- HBD_CYCLE_START: the projection of TD0 enters a new cycle; the ended one is evaluated and the new one begins. -/
def Chip.hbdCycleStart (c : Chip) : Chip :=
  let st := c.hbState
  let cyc := c.hbCyclen
  let pos := c.pb0At c.frc
  let k := if cyc = 0 then 0 else pos / cyc
  c.when (decide (1 ≤ st ∧ st ≤ 6) && decide (0 < cyc) && c.hbd.cycle != some k) fun c =>
    let c := if st = hsLISTEN || c.hbd.cycle.isNone then c
      else
        let full := c.fullValid
        let c := ((c.ownCycleEnd.cycleStates full).modeRule).modeStep
        c.ageBuffers k
    let inc := c.get (TD_INC_INC 0)
    let back := if inc = 0 then 0 else (pos % cyc) * 2 ^ 32 / inc
    let c := c.updHbd fun b => { b with
      cycle := some k, startTick := c.frc - back, startInc := inc, staticDone := false, counted := !b.waitStep, small := false
      syncs := [], modes := [], reqs := [], confs := [], lastMeas := b.meas, meas := [], copies := [], turn := [], mini := []
      own := [], sinceMark := b.sinceMark + 1 }
    c.set HBD_STAT_CYCLE (k % 64)

def execHbdCycleStart (s : State) : Host.Outcome State Fault Refusal := s.onZone Chip.hbdCycleStart

/-! ### Static slots (R219, R225, R231, R239) -/

/-- An uncorrectable error in the table entry of an own slot (1) or in its buffer (2) invalidates the entry or the buffer's payload
(R244). -/
def Chip.hbdEcc (c : Chip) (e : HbdSlot) (kind : Nat) : Chip :=
  if kind = 1 then
    match c.hbd.slots.find? fun x => x.1 / 512 == c.hbMode && slotOf x.2 == e with
    | none => c
    | some x => (c.updHbd fun b => { b with slots := put 0 b.slots x.1 (setBit x.2 63 false) }).raise 402
  else (c.updBuf e.buf fun b => { b with committed := false }).raise 402

/-- HBD_BUFFER_COPY: 2 µs before the action point of an own slot the controller copies the transmit buffer, unless it meets an
uncorrectable error. -/
def Chip.hbdBufferCopy (c : Chip) (slot ecc : Nat) : Chip :=
  c.when (c.hbd.cycle.isSome && c.due (c.hbTick (c.actionPoint slot - 2000)) && look none c.hbd.copies slot == none) fun c =>
    match c.hbTxEntry slot with
    | none => c
    | some e =>
      let b := c.hbBuf e.buf
      if ecc ≠ 0 then c.hbdEcc e ecc
      else c.when b.committed fun c =>
        c.updHbd fun x => { x with copies := put none x.copies slot (some (firstBytes b.current e.len)) }

def execHbdBufferCopy (slot : Fin 257) (ecc : Fin 3) (s : State) : Host.Outcome State Fault Refusal :=
  s.onZone fun c => c.hbdBufferCopy slot.val ecc.val

/-- HBD_SLOT_TRANSMIT: at the action point of an own static slot the controller sends its frame, or a NULL frame. -/
def Chip.hbdSlotTransmit (c : Chip) (slot : Nat) : Chip :=
  match c.hbTxEntry slot with
  | none => c
  | some e =>
    let st := c.hbState
    let may := st == hsNORMAL || (st == hsCOLDSTART && e.sync)
    c.when (c.hbd.cycle.isSome && may && c.guardianOpen && c.due (c.hbTick (c.actionPoint slot))
        && !c.hbd.own.any (·.slot == slot)) fun c =>
      let b := c.hbBuf e.buf
      let data := match look none c.hbd.copies slot with
        | some d => some d
        | none => if b.committed then some (firstBytes b.current e.len) else none
      c.hbSend e.ch slot (c.actionPoint slot) e.sync e.len (c.ownFrame e (st == hsCOLDSTART) data c.hbCycle)

def execHbdSlotTransmit (slot : Fin 257) (s : State) : Host.Outcome State Fault Refusal := s.onZone fun c => c.hbdSlotTransmit slot.val

/-! ### Cold start (R230) -/

/-- HBD_LISTEN_EXPIRY: LTO + CSIDX × SLOTLEN after its last restart the listen timer of a cold-start node expires. -/
def Chip.hbdListenExpiry (c : Chip) : Chip :=
  match c.coldEntry with
  | none => c
  | some e =>
    let t := c.hbd.listenFrom + c.get HBD_TIM3_LTO * 1000 + c.get HBD_CFG_CSIDX * c.hbSlotlen
    c.when (c.hbState == hsLISTEN && c.flag HBD_CFG_CSEN && c.due t && decide (0 < c.hbCyclen)) fun c =>
      let start := c.frc - c.slotStart e.slot
      let len := c.hbCyclen * 65536
      let td := c.tdAt 0 start
      let k := (td + len - 1) / len
      let c := c.updHbd fun b => { b with
        cycle := some k, startTick := start, startInc := c.get (TD_INC_INC 0), staticDone := false, waitStep := true
        counted := false, small := false, syncs := [], modes := [], meas := [], own := [], ownBack := 0 }
      let c := (c.set HBD_STAT_CYCLE (k % 64)).offer 1 k ((k * len : Nat) - (td : Int))
      let b := c.hbBuf e.buf
      let data := if b.committed then some (firstBytes b.current e.len) else none
      let c := c.when (!c.flag HBD_STAT_GFAULT) fun c =>
        c.hbSend e.ch e.slot (c.actionPoint e.slot) true e.len (c.ownFrame e true data k)
      (c.hbEnter hsCOLDSTART).updHbd fun b => { b with leader := true }

def execHbdListenExpiry (s : State) : Host.Outcome State Fault Refusal := s.onZone Chip.hbdListenExpiry

/-! ### Reception (R223, R224, R228–R232, R238, R239, R242) -/

/-- Where a frame that starts at FRC tick `start` on channel `ch` belongs: the slot ID it must carry and its action point, or
none. `sender` gives the turn in the open segment. -/
def Chip.slotAt (c : Chip) (ch start : Nat) (sender : Nat) : Option (Nat × Nat) :=
  let t := c.hbTime start
  if t < c.staticLen then
    let s := if c.hbSlotlen = 0 then 0 else t / c.hbSlotlen + 1
    some (s, c.actionPoint s)
  else
    let m := if c.hbMslen = 0 then 0 else (t - c.staticLen) / c.hbMslen
    if look none c.hbd.turn ch = some sender then
      some (0x8000 + sender, c.staticLen + m * c.hbMslen + c.get HBD_TIM1_APO)
    else none

/-- Whether a frame with correct check sequences is valid (R223). -/
def Chip.frameValid (c : Chip) (ch start : Nat) (f : HbdFrame) : Bool :=
  match c.slotAt ch start f.sender with
  | none => false
  | some (slot, ap) =>
    let at_ := ap + c.get HBD_TIM2_DLY
    let off : Int := (c.hbTime start : Int) - (at_ : Int)
    let endOk := openSlot slot || decide (c.hbTime start + wireTime f.len f.sync ≤ slot * c.hbSlotlen)
    f.slot == slot && f.cycle == c.hbCycle % 64 && decide (off.natAbs ≤ c.get HBD_TIM2_PREC) && endOk

/-- Store a valid frame in the buffer of its receive entry: the first complete copy (R239). -/
def Chip.storeFrame (c : Chip) (ch start : Nat) (f : HbdFrame) : Chip :=
  match (c.hbSlots c.hbMode).find? fun e => !e.tx && e.slot == f.slot && bit e.ch ch && e.inCycle c.hbCycle with
  | none => c
  | some e =>
    let b := c.hbBuf e.buf
    if b.fresh && b.storedIn == c.hbCycle && b.sender == f.sender && !bit b.channels ch then
      c.updBuf e.buf fun b => { b with channels := setBit b.channels ch true }
    else
      let c := c.updBuf e.buf fun b => { b with
        current := copyOf f.payload, len := f.len, sender := f.sender, channels := 1 <<< ch, cycle := f.cycle
        stamp := start % 2 ^ 64, storedIn := c.hbCycle, fresh := true }
      c.when (openSlot f.slot) fun c => c.raise 401

/-- The measurement of a valid sync frame (R232). -/
def Chip.measure (c : Chip) (start ap : Nat) (f : HbdFrame) : Chip :=
  let own := f.sender == c.hbNode
  let m : Int := if own then 0
    else (c.tdAt 0 start : Int) - (((c.hbCycle * c.hbCyclen + ap + c.get HBD_TIM2_DLY) * 65536 : Nat) : Int)
  c.updHbd fun b => { b with
    meas := upd [] b.meas f.sender fun l => l ++ [m]
    syncs := if own then b.syncs else b.syncs ++ [{ node := f.sender, startup := f.startup }] }

/-- What a valid frame tells of modes, requests and confirmations (R223, R242). -/
def Chip.noteModes (c : Chip) (f : HbdFrame) : Chip :=
  c.updHbd fun b => { b with
    modes := upd 0 b.modes f.curmode (· + 1)
    reqs := if f.req then b.reqs ++ [f.rmode] else b.reqs
    confs := if f.conf then put none b.confs f.sender (some f.rmode) else b.confs }

/-- LISTEN takes the cluster's time from a valid sync frame and enters INTEGRATE (R229). -/
def Chip.integrate (c : Chip) (start : Nat) (f : HbdFrame) : Chip :=
  let ap := c.actionPoint f.slot + c.get HBD_TIM2_DLY
  let k := if c.hbCyclen = 0 then 0 else f.time / c.hbCyclen
  let inc := c.get (TD_INC_INC 0)
  let back := if inc = 0 then ap else ap * 2 ^ 32 / inc
  let c := c.updHbd fun b => { b with
    cycle := some k, startTick := start - back, startInc := inc, staticDone := false, waitStep := true, counted := false
    small := false, syncs := [], modes := [], meas := [], own := [] }
  let c := (c.set HBD_STAT_CYCLE f.cycle).set HBD_STAT_CURMODE f.curmode
  let step : Int := (((f.time + ap) * 65536 : Nat) : Int) - (c.tdAt 0 start : Int)
  (c.offer 1 f.cycle step).hbEnter hsINTEGRATE

/-- The end of activity on a channel restarts the listen timer (R230). -/
def Chip.endActivity (c : Chip) : Chip := c.updHbd fun b => { b with listenFrom := c.frc }

/-- A reception that is not valid: INVALID on its channel, and an own frame that was there is lost on it. -/
def Chip.badFrame (c : Chip) (ch start : Nat) : Chip :=
  let c := c.satInc (HBD_CH_N ch 1)
  match c.slotAt ch start c.hbNode with
  | some (slot, _) => if c.hbd.cycle.isSome then (c.ownReturns slot ch false).2 else c
  | none => c

/-- A valid reception while a schedule runs. -/
def Chip.goodFrame (c : Chip) (ch start : Nat) (f : HbdFrame) : Chip :=
  let ap := match c.slotAt ch start f.sender with | some x => x.2 | none => 0
  let c := ((c.satInc (HBD_CH_N ch 0)).segFrame (40 + ch)).noteModes f
  let c := c.when (f.sender == c.hbNode) fun c => (c.ownReturns f.slot ch true).2
  let c := c.when (f.sender != c.hbNode) fun c => c.storeFrame ch start f
  let c := c.when f.sync fun c => c.measure start ap f
  c.when (c.hbState == hsCOLDSTART && !c.hbd.leader && f.sync && !f.startup && f.sender != c.hbNode) fun c => c.hbEnter hsNORMAL

/-- HBD_FRAME_RECEIVE: a frame, own ones included, has been received whole on an enabled channel. -/
def Chip.hbdFrameReceive (c : Chip) (ch start : Nat) (bs : List Byte) : Chip :=
  let st := c.hbState
  c.when (decide (1 ≤ st ∧ st ≤ 6) && bit (c.get HBD_CFG_CHEN) ch && decide (start ≤ c.frc)) fun c =>
    let p := parseFrame bs
    let c :=
      if st = hsLISTEN then
        match p with
        | none => c.satInc (HBD_CH_N ch 1)
        | some f =>
          let c := (c.satInc (HBD_CH_N ch 0)).segFrame (40 + ch)
          c.when (f.sync && (!f.startup || c.flag HBD_CFG_CSEN)) fun c => c.integrate start f
      else match p with
        | none => c.badFrame ch start
        | some f => if c.hbd.cycle.isSome && c.frameValid ch start f then c.goodFrame ch start f else c.badFrame ch start
    c.endActivity

def execHbdFrameReceive (ch : Fin 2) (start : W64) (frame : List Byte) (s : State) : Host.Outcome State Fault Refusal :=
  s.onZone fun c => c.hbdFrameReceive ch.val start.toNat frame

/-! ### Clock correction (R233–R235) -/

/-- A correction is missed (R235). -/
def Chip.corrMissed (c : Chip) : Chip :=
  let c := (c.stick HBD_STAT_CORRMISS).raise 386
  let n := min 2 (c.get HBD_STAT_MISS + 1)
  let c := (c.set HBD_STAT_MISS n).setB HBD_STAT_CORRRDY false
  let c := c.updHbd fun b => { b with ackFor := none }
  c.when (n == 2 && c.hbState == hsNORMAL) fun c => (c.hbEnter hsSILENT).raise 387

/-- The rate in ppb over the sync nodes seen in this cycle and the last (R233). -/
def Chip.showRate (c : Chip) : Chip :=
  let both := c.hbd.meas.filterMap fun e =>
    let l := look [] c.hbd.lastMeas e.1
    if l.isEmpty then none else some (meanOf e.2 - meanOf l + c.hbd.stepAcked)
  if both.isEmpty then c
  else c.set HBD_RATE_PPB (unsigned 32 (Int.tdiv (midpoint2 both * 1000000000) ((2 * 65536 * max 1 c.hbCyclen : Nat) : Int)))

/-- The correction of the cycle (R233, R234). -/
def Chip.correct (c : Chip) : Chip :=
  let ms := c.hbd.meas.map fun e => meanOf e.2
  let c := (c.set HBD_STAT_NSYNC (min 15 ms.length)).showRate
  let c := c.updHbd fun b => { b with stepAcked := 0 }
  if ms.isEmpty then
    (((c.set HBD_CORR_VALID 0).setB HBD_STAT_CORRRDY false).updHbd fun b => { b with ackFor := none }).raise 389
  else
    let corr := Int.tdiv (-(midpoint2 ms)) 2
    let big := decide (c.get HBD_TIM4_OFSLIM * 65536 < corr.natAbs)
    let c := (c.offer ms.length c.hbCycle corr).updHbd fun b => { b with small := !big }
    c.when (big && c.hbState == hsNORMAL) fun c => (c.hbEnter hsPASSIVE).raise 390

/-- HBD_STATIC_END: the static segment ends; a correction that has not been acknowledged is missed, and the next is offered. -/
def Chip.hbdStaticEnd (c : Chip) : Chip :=
  let st := c.hbState
  c.when (decide (2 ≤ st ∧ st ≤ 6) && c.hbd.cycle.isSome && !c.hbd.staticDone && c.due (c.hbTick c.staticLen)) fun c =>
    let c := c.updHbd fun b => { b with staticDone := true }
    if c.hbd.waitStep then c
    else (c.when c.hbd.ackFor.isSome Chip.corrMissed).correct

def execHbdStaticEnd (s : State) : Host.Outcome State Fault Refusal := s.onZone Chip.hbdStaticEnd

/-- HBD_CORRACK: an acknowledgement with the correction's cycle counter is accepted; another is refused with SEQUENCE. -/
def Chip.hbdCorrack (c : Chip) (w : Who) (v : Nat) : Chip :=
  c.when (w.world == 2) fun c =>
    if c.hbd.ackFor = some (HBD_CORRACK_CYCLE.of v) then
      let c := (c.set HBD_STAT_MISS 0).setB HBD_STAT_CORRRDY false
      let c := c.updHbd fun b => { b with
        ackFor := none, waitStep := false, stepAcked := b.stepAcked + signed 80 (HBD_CORRACK_STEP.of v) }
      c.when (c.hbState == hsSILENT) fun c => c.hbEnter hsPASSIVE
    else c.raise 400

def execHbdCorrack (a : Agent) (v : W128) (s : State) : Host.Outcome State Fault Refusal := s.by a fun w c => c.hbdCorrack w v.toNat

/-! ### Guardian (R225, R226) -/

/-- The mean of the last accepted intervals, or CYCLEN before the first. -/
def Chip.trimMean (c : Chip) : Nat :=
  match c.hbd.trim with
  | [] => c.hbCyclen
  | l => max 1 (l.foldl (· + ·) 0 / l.length)

/-- The guardian accepts a mark: its interval enters the trim, and two marks in a row lock it. -/
def Chip.markAccepted (c : Chip) (raw : Nat) (reference : Bool) : Chip :=
  let j := max 1 c.hbd.sinceMark
  let n := (c.hbd.marks.getD 0) + 1
  let c := c.updHbd fun b => { b with
    trim := if reference && b.marks.isNone then b.trim else
      let l := b.trim ++ [raw / j]
      if 8 < l.length then l.drop 1 else l
    marks := some n, rejects := 0, sinceMark := 0 }
  c.setB HBD_STAT_GLOCK (decide (2 ≤ n))

/-- GUARDIAN_MARK: the guardian receives a cycle-start mark, `raw` ns on its own oscillator after the last accepted one. -/
def Chip.guardianMark (c : Chip) (raw : Nat) : Chip :=
  let st := c.hbState
  c.when (decide (1 ≤ st ∧ st ≤ 6) && !c.flag HBD_STAT_GFAULT) fun c =>
    if c.hbd.marks.isNone || st = hsLISTEN || st = hsINTEGRATE then c.markAccepted raw true
    else if 8 ≤ c.hbd.rejects then c.updHbd fun b => { b with rejects := 0, marks := some 0, sinceMark := 0 }
    else
      let cyc := c.hbCyclen
      let off : Int := ((raw * cyc / c.trimMean : Nat) : Int) - ((c.hbd.sinceMark * cyc : Nat) : Int)
      if off.natAbs ≤ c.get HBD_TIM4_OFSLIM + c.get HBD_TIM1_GDELTA then c.markAccepted raw false
      else
        let c := c.updHbd fun b => { b with rejects := b.rejects + 1, marks := some 0 }
        ((c.setB HBD_STAT_GLOCK false).raise 391).hbEnter hsPASSIVE

def execGuardianMark (raw : Nat) (s : State) : Host.Outcome State Fault Refusal := s.onZone fun c => c.guardianMark raw

/-- GUARDIAN_CUT: a window closes while a transmission runs on channel `ch`. -/
def Chip.guardianCut (c : Chip) (ch : Nat) : Chip :=
  match look none c.hbd.sendEnd ch with
  | none => c
  | some t =>
    c.when (decide (c.frc < t)) fun c =>
      let c := c.updHbd fun b => { b with sendEnd := put none b.sendEnd ch none }
      ((c.satInc (HBD_CH_N ch 2)).stick HBD_STAT_GCUT).raise 392

def execGuardianCut (ch : Fin 2) (s : State) : Host.Outcome State Fault Refusal := s.onZone fun c => c.guardianCut ch.val

/-- GUARDIAN_FAULT: the guardian's oscillator or self-check fails. -/
def Chip.guardianFault (c : Chip) : Chip :=
  ((((c.stick HBD_STAT_GFAULT).setB HBD_STAT_GLOCK false).updHbd fun b => { b with sendEnd := [] }).raise 391).hbEnter hsHALT

def execGuardianFault (s : State) : Host.Outcome State Fault Refusal := s.onZone Chip.guardianFault

/-! ### Open segment (R237) -/

/-- The open transmit entry with the lowest buffer that asks for channel `ch`. -/
def Chip.openEntry (c : Chip) (ch : Nat) : Option HbdSlot :=
  ((c.hbSlots c.hbMode).filter fun e =>
      e.tx && openSlot e.slot && bit e.ch ch && e.inCycle c.hbCycle && bit (c.hbBuf e.buf).request ch).foldl
    (fun best e => match best with
      | some x => if e.buf < x.buf then some e else best
      | none => some e) none

/-- HBD_MINISLOT: minislot `m` of the open segment begins with channel `ch` idle; the turn advances and its node may send. -/
def Chip.hbdMinislot (c : Chip) (ch m : Nat) : Chip :=
  let st := c.hbState
  let start := c.staticLen + m * c.hbMslen
  let busy := match look none c.hbd.sendEnd ch with | some t => decide (c.frc < t) | none => false
  let fresh := match look none c.hbd.mini ch with | some x => decide (x < m) | none => true
  c.when (decide (2 ≤ st ∧ st ≤ 6) && c.hbd.cycle.isSome && decide (m < c.get (HBD_MODE_NMS c.hbMode)) && fresh && !busy
      && c.due (c.hbTick start)) fun c =>
    let t := match look none c.hbd.turn ch with | some t => if m = 0 then 0 else t + 1 | none => 0
    let c := c.updHbd fun b => { b with turn := put none b.turn ch (some t), mini := put none b.mini ch (some m) }
    c.when (t == c.hbNode && st == hsNORMAL && c.guardianOpen) fun c =>
      match c.openEntry ch with
      | none => c
      | some e =>
        let e : HbdSlot := match (c.hbBuf e.buf).ddpLen with
          | some n => { e with len := n, type := 1 }
          | none => e
        let ap := start + c.get HBD_TIM1_APO
        c.when (decide (ap + wireTime e.len false ≤ c.staticLen + c.get (HBD_MODE_NMS c.hbMode) * c.hbMslen)) fun c =>
          let b := c.hbBuf e.buf
          let data := if b.committed then some (firstBytes b.current e.len) else none
          let c := c.updBuf e.buf fun b => { b with request := setBit b.request ch false, ddpLen := none }
          c.hbSend (1 <<< ch) e.slot ap false e.len (c.ownFrame { e with sync := false } false data c.hbCycle)

def execHbdMinislot (ch : Fin 2) (m : Fin 256) (s : State) : Host.Outcome State Fault Refusal := s.onZone fun c => c.hbdMinislot ch.val m.val

/-! ### Buffers (R237, R239, R243) -/

/-- The buffer a requester selects: HBD_BSEL, or in a VF page its selector within its range (R347). -/
def Chip.hbdSelected (c : Chip) (w : Who) : Option Nat :=
  match w.vf with
  | none => if c.poolWorld 2 (c.get HBD_BSEL_BUF) = some w.world then some (c.get HBD_BSEL_BUF) else none
  | some f =>
    c.localIndex f 2 (c.get (VF_HSEL_SEL f))

/-- A write of HBD_BCTL by the buffer's owner; COMMIT and TXREQ through the window of a VF that is not ACTIVE are ignored (R352). -/
def Chip.hbdBctlWrite (c : Chip) (w : Who) (v : Nat) : Chip :=
  match c.hbdSelected w with
  | none => c.raise 400
  | some n =>
    let c := c.when (bit v 2) fun c => c.updBuf n fun _ => {}
    let isOpen := match w.vf with
      | none => true
      | some f => c.get (SFE_FN_CFG_STATE f) == 2
    let c := c.when (bit v 0 && isOpen) fun c => c.updBuf n fun b => { b with current := b.staging, committed := true }
    let c := c.when (bit v 1 && isOpen) fun c => c.updBuf n fun b => { b with request := c.get HBD_CFG_CHEN }
    c.updBuf n fun b => { b with status := stOK }

def execHbdBufCommit (a : Agent) (v : W32) (s : State) : Host.Outcome State Fault Refusal := s.by a fun w c => c.hbdBctlWrite w v.toNat

def execHbdBufTxreq (a : Agent) (v : W32) (s : State) : Host.Outcome State Fault Refusal := s.by a fun w c => c.hbdBctlWrite w v.toNat

def execHbdBufClr (a : Agent) (v : W32) (s : State) : Host.Outcome State Fault Refusal := s.by a fun w c => c.hbdBctlWrite w v.toNat

/-- A byte of HBD_BWIN: the staging copy of a transmit buffer, the current copy of a receive buffer (R243). -/
def Chip.hbdWinByte (c : Chip) (n i : Nat) : Nat :=
  let tx := (c.hbSlots c.hbMode).any fun e => e.tx && e.buf == n
  let rx := (c.hbSlots c.hbMode).any fun e => !e.tx && e.buf == n
  (look 0 (if rx && !tx then (c.hbBuf n).current else (c.hbBuf n).staging) i).toNat

/-- A write of bytes of HBD_BWIN fills the staging copy. -/
def Chip.hbdWinWrite (c : Chip) (w : Who) (i : Nat) (bs : List Byte) : Chip :=
  match c.hbdSelected w with
  | none => c.raise 400
  | some n => c.updBuf n fun b => { b with staging := bs.zipIdx.foldl (fun m x => put 0 m ((i + x.2) % 256) x.1) b.staging }

/-- HBD_BSTAT of buffer `n`. -/
def Chip.hbdBstat (c : Chip) (n : Nat) : Nat :=
  let b := c.hbBuf n
  (b2n b.fresh <<< 31) + (b2n b.committed <<< 30) + (b.cycle <<< 24) + (b.channels <<< 22) + (b.sender <<< 16) + (b.len <<< 8) + b.status

/-! ### Modes and tables (R220, R241–R243) -/

/-- HBD_MREQ: a mode change is requested, or refused. -/
def Chip.hbdMreq (c : Chip) (w : Who) (v : Nat) : Chip :=
  c.when (w.world == 2) fun c =>
    let r := HBD_MREQ_MODE.of v
    let c := c.set HBD_MREQ_MODE r
    if !bit v 31 then c
    else if c.hbState ≠ hsNORMAL then (c.set HBD_MSTAT_STATUS stNOT_NOW).raise 400
    else if r = c.hbMode || !c.loaded r || !bit (c.get HBD_MODEOK_MODES) r then (c.set HBD_MSTAT_STATUS stRANGE).raise 400
    else if c.flag HBD_MSTAT_PENDING then (c.set HBD_MSTAT_STATUS stBUSY).raise 400
    else
      ((c.setB HBD_MSTAT_PENDING true).set HBD_MSTAT_MODE r).updHbd fun b => { b with reqCycles := none }

def execHbdMreq (a : Agent) (v : W32) (s : State) : Host.Outcome State Fault Refusal := s.by a fun w c => c.hbdMreq w v.toNat

/-- Whether writes to mode `m` are refused: the current mode or one being requested, outside CONFIG (R241). -/
def Chip.modeBusy (c : Chip) (m : Nat) : Bool :=
  c.hbState != hsCONFIG && (m == c.hbMode || (c.flag HBD_MSTAT_PENDING && c.get HBD_MSTAT_MODE == m) || c.hbd.confMode == some m)

/-- HBD_STDATA: the slot-table entry that HBD_STSEL selects is checked and stored, or refused with EV0400. -/
def Chip.hbdStdataWrite (c : Chip) (w : Who) (v : Nat) : Chip :=
  c.when (w.world == 2) fun c =>
    let m := c.get HBD_STSEL_MODE
    let i := m * 512 + c.get HBD_STSEL_ENTRY
    let v := v % 2 ^ 64
    let e := slotOf v
    if c.modeBusy m then c.raise 400
    else if e.valid && (e.rep == 7 || decide (2 ^ e.rep ≤ e.base) || decide (254 < e.len) || (e.tx && decide (2 ≤ e.type))) then c.raise 400
    else
      let c' := (c.updHbd fun b => { b with slots := put 0 b.slots i v }).wrN HBD_STDATA v
      if c'.timingOk && (c'.hbSlots m).all c'.staticFits && c'.ownershipOk (c'.hbSlots m) then c' else c.raise 400

def execHbdStdataWrite (a : Agent) (v : W128) (s : State) : Host.Outcome State Fault Refusal := s.by a fun w c => c.hbdStdataWrite w v.toNat

/-- HBD_MODE: a mode descriptor is checked and stored, or refused with EV0400. -/
def Chip.hbdModeWrite (c : Chip) (w : Who) (m v : Nat) : Chip :=
  c.when (w.world == 2) fun c =>
    let nslot := (HBD_MODE_NSLOT m).of v
    let valid := bit v 127
    if c.modeBusy m then c.raise 400
    else if 256 < nslot || (valid && nslot = 0) then c.raise 400
    else if valid && !(c.timingOk && c.cycleFits nslot ((HBD_MODE_NMS m).of v)) then c.raise 400
    else
      let c := (c.setB (HBD_MODE_VALID m) valid).set (HBD_MODE_NSLOT m) nslot
      (c.set (HBD_MODE_NMS m) ((HBD_MODE_NMS m).of v)).set (HBD_MODE_REQNODES m) ((HBD_MODE_REQNODES m).of v)

def execHbdModeWrite (a : Agent) (m : Fin 8) (v : W128) (s : State) : Host.Outcome State Fault Refusal :=
  s.by a fun w c => c.hbdModeWrite w m.val v.toNat

/-- HATBAND_PHY_FAULT: the PHY of a channel becomes ready, or fails with EV0398 or EV0399. -/
def execHatbandPhyFault (ch : Fin 2) (ready : Bool) (s : State) : Host.Outcome State Fault Refusal :=
  s.onZone fun c =>
    let c := c.setB (if ch.val = 0 then HBD_STAT_LINKA else HBD_STAT_LINKB) ready
    c.when (!ready) fun c => c.raise (398 + ch.val)

/-! ### Reset and sleep (R246) -/

/-- No receive buffer is FRESH. -/
def staleBufs (m : NMap HbdBuf) : NMap HbdBuf := m.foldl (fun t e => put {} t e.1 { e.2 with fresh := false }) []

/-- The controller's own state at a reset: all of it for system reach or wider, otherwise the tables and buffers are kept and
no receive buffer is FRESH; a failed guardian stays failed. -/
def Chip.hbdReset (c : Chip) (wide gfault : Bool) : Chip :=
  if wide then c.updHbd fun _ => {}
  else (c.updHbd fun b => { slots := b.slots, bufs := staleBufs b.bufs }).setB HBD_STAT_GFAULT gfault

/-- Sleep entry: CONFIG, guardian unlocked, no receive buffer FRESH. -/
def Chip.hbdSleep (c : Chip) : Chip :=
  let c := (c.setB HBD_CTL_EN false).setB HBD_STAT_GLOCK false
  (c.updHbd fun b => { slots := b.slots, bufs := staleBufs b.bufs }).set HBD_STAT_STATE hsCONFIG

/-- A partition reset of a VF clears its buffers. -/
def Chip.hbdVfReset (c : Chip) (f : Nat) : Chip :=
  forEach ((c.hbd.bufs.map (·.1)).filter (c.inRange f 2)) (fun n c => c.updBuf n fun _ => {}) c

/-- A configuration write of W2: only in CONFIG, otherwise refused with BUSY and EV0400 (R243). -/
def Chip.hbdCfgOpen (c : Chip) : Bool × Chip := if c.hbState = hsCONFIG then (true, c) else (false, c.raise 400)

end Sys2Proof.Machine
end

