-- ==== Sys2Proof/Machine/Inputs.lean ====
section
/-! DEFINITION. Switch inputs, converters and capture inputs: R270–R279. -/

namespace Sys2Proof.Machine

/-! ### Switch inputs and WAKE lines (R270–R274); input 0–47 DIN, 48–55 LSW, 56–71 WAKE -/

/-- The configuration register of an input. -/
def inputCfg (i : Nat) : Reg :=
  if i < 48 then NMW_DIN_CFG i else if i < 56 then NMW_LSW_CFG (i - 48) else NMW_WAKE_CFG (i - 56)

/-- The filter time of an input, in ticks. -/
def Chip.inputFilt (c : Chip) (i : Nat) : Nat := c.rdN (inputCfg i) % 256 * 100000

/-- The filtered state of an input. -/
def Chip.inputState (c : Chip) (i : Nat) : Bool :=
  if i < 48 then c.dinBit i else if i < 56 then c.lswBit (i - 48) else bit (c.get NMW_WAKESTAT_ST) (i - 56)

/-- Whether an input is faulted; a WAKE line has no fault. -/
def Chip.inputBad (c : Chip) (i : Nat) : Bool := if i < 48 then c.dinBad i else if i < 56 then c.lswBad (i - 48) else false

/-- The tick by which the always-on filters count: the FRC, and its value carried on while the timebase is stopped (R41). -/
def Chip.carriedTick (c : Chip) : Nat := if c.time.stopped then c.frc + (c.now - c.pmu.stoppedAt.getD c.now) else c.frc

/-- Whether a run that began at sample `first` has lasted the filter time, and began after the last configuration write. -/
def Chip.runDone (c : Chip) (i first : Nat) : Bool :=
  first % 10000 == 0 && decide (look 0 c.nmw.cfgAt i ≤ first) && decide (first + c.inputFilt i ≤ c.carriedTick)

/-- A wake source whose filtered state has changed to 1 waits to fire (R282). -/
def Chip.sourceFires (c : Chip) (code : Nat) : Chip :=
  c.updNmw fun b => { b with fired := if b.fired.contains code then b.fired else b.fired ++ [code] }

/-- The filtered state of LSW `n` changes. -/
def Chip.lswChange (c : Chip) (n : Nat) (st : Bool) : Chip :=
  let c := (c.set NMW_LSWSTAT_ST (setBit (c.get NMW_LSWSTAT_ST) n st)).set NMW_LSWSTAT_CHG (setBit (c.get NMW_LSWSTAT_CHG) n true)
  let c := c.when (c.flag (NMW_LSW_CFG_IRQ n)) fun c => c.raise 418
  let c := c.when (st && c.flag (NMW_LSW_CFG_WEN n)) fun c => c.sourceFires (16 + n)
  c.slHolds

/-- The filtered state of an input changes after a run that began at `first`. -/
def Chip.inputChange (c : Chip) (i first : Nat) : Chip :=
  let st := !c.inputState i
  if i < 48 then
    let c := (c.set NMW_DINSTAT_ST (setBit (c.get NMW_DINSTAT_ST) i st)).set (NMW_DIN_STAMP_FRC i) first
    (c.set NMW_DINCHG_CHG (setBit (c.get NMW_DINCHG_CHG) i true)).when (c.flag (NMW_DIN_CFG_IRQ i)) fun c => c.raise 416
  else if i < 56 then c.lswChange (i - 48) st
  else
    let n := i - 56
    let c := c.set NMW_WAKESTAT_ST (setBit (c.get NMW_WAKESTAT_ST) n st)
    c.when (st && c.flag (NMW_WAKE_CFG_EN n)) fun c => c.sourceFires n

/-- DIN_FILTER_EXPIRY: a run of samples that differ from the filtered state has lasted the filter time; a faulted input is
frozen. WAKE lines are filtered while the zone die is off, too. -/
def Chip.dinFilterExpiry (c : Chip) (i first : Nat) : Chip :=
  c.when (c.runDone i first && !c.inputBad i) fun c => c.inputChange i first

def execDinFilterExpiry (i : Fin 72) (first : W64) (s : State) : Host.Outcome State Fault Refusal :=
  s.on fun c => c.when (c.zoneUp || decide (56 ≤ i.val)) fun c => c.dinFilterExpiry i.val first.toNat

/-- DIN_FAULT_CHANGE: a run of samples out of bounds, or within them again, has lasted the filter time (R272). -/
def Chip.dinFaultChange (c : Chip) (i first : Nat) : Chip :=
  c.when (c.runDone i first) fun c =>
    let bad := !c.inputBad i
    if i < 48 then
      (c.set NMW_DINFLT_FLT (setBit (c.get NMW_DINFLT_FLT) i bad)).when bad fun c => c.raise 417
    else
      (c.set NMW_LSWSTAT_FLT (setBit (c.get NMW_LSWSTAT_FLT) (i - 48) bad)).when bad fun c => c.raise 419

def execDinFaultChange (i : Fin 56) (first : W64) (s : State) : Host.Outcome State Fault Refusal :=
  s.onZone fun c => c.dinFaultChange i.val first.toNat

/-- A refused write of the inputs' registers (R274). -/
def Chip.nmwRefuse (c : Chip) (st : Nat) : Chip := (c.set NMW_SLP_STAT_LASTERR st).raise 431

/-- Whether the claim table gives an input to a world. -/
def Chip.inputClaimed (c : Chip) (w i : Nat) : Bool :=
  if i < 48 then c.claims w 9 i else if i < 56 then c.claims w 10 (i - 48) else c.claims w 11 (i - 56)

/-- The bits of an input's configuration register, and whether a value holds no reserved encoding. -/
def inputCfgValue (i v : Nat) : Option Nat :=
  if i < 48 then if 20 < bits v 20 16 then none else some ((bits v 31 28 <<< 28) + (bits v 20 16 <<< 16) + v % 256)
  else if i < 56 then
    if 20 < bits v 20 16 || bits v 14 8 < 5 || 100 < bits v 14 8 then none
    else some ((bits v 31 26 <<< 26) + (bits v 20 16 <<< 16) + bits v 14 0)
  else some ((bits v 31 29 <<< 29) + v % 256)

/-- DIN_CFG_WRITE: the new settings restart a filter or fault run from the next sample. -/
def Chip.dinCfgWrite (c : Chip) (w : Who) (i v : Nat) : Chip :=
  if !c.inputClaimed w.world i then c.nmwRefuse stDENIED_WORLD
  else match inputCfgValue i v with
    | none => c
    | some x => ((c.wrN (inputCfg i) x).updNmw fun b => { b with cfgAt := put 0 b.cfgAt i (c.frc + 1) }).slHolds

def execDinCfgWrite (a : Agent) (i : Fin 72) (v : W32) (s : State) : Host.Outcome State Fault Refusal :=
  s.by a fun w c => c.dinCfgWrite w i.val v.toNat

/-- LSW_POLL: in sleep, two polls in a row that read the new level confirm a change; a source without wetting current is off
(R273). -/
def Chip.lswPoll (c : Chip) (n : Nat) (level : Bool) : Chip :=
  c.when (c.pmu.power != .run && c.get (NMW_LSW_CFG_WET n) != 0) fun c =>
    if level = c.lswBit n then c.updNmw fun b => { b with polls := put 0 b.polls n 0 }
    else if look 0 c.nmw.polls n = 0 then c.updNmw fun b => { b with polls := put 0 b.polls n 1 }
    else (c.updNmw fun b => { b with polls := put 0 b.polls n 0 }).lswChange n level

def execLswPoll (n : Fin 8) (level : Bool) (s : State) : Host.Outcome State Fault Refusal := s.on fun c => c.lswPoll n.val level

/-! ### Converters (R275–R278, R289) -/

/-- Converter `k`. -/
def Chip.conv (c : Chip) (k : Nat) : AinConv := look {} c.nmw.convs k

/-- Change a converter, and show it in AIN_STAT. -/
def Chip.updConv (c : Chip) (k : Nat) (f : AinConv → AinConv) : Chip :=
  let c := c.updNmw fun b => { b with convs := upd {} b.convs k f }
  let v := c.conv k
  if k = 0 then
    ((c.setB AIN_STAT_BUSY0 v.seq.isSome).setB AIN_STAT_QUEUED0 v.queued.isSome).set AIN_STAT_SEQ0 (v.seq.getD 0)
  else
    ((c.setB AIN_STAT_BUSY1 v.seq.isSome).setB AIN_STAT_QUEUED1 v.queued.isSome).set AIN_STAT_SEQ1 (v.seq.getD 0)

/-- A refused write or discarded trigger of the AIN block. -/
def Chip.ainRefuse (c : Chip) (st ev : Nat) : Chip := c.refuse AIN_STAT_LASTERR st ev

/-- AIN_TRIG: the converter is triggered at the first tick at or after acceptance + 100 (R277). -/
def Chip.ainTrig (c : Chip) (w : Who) (v : Nat) : Chip :=
  let k := b2n (bit v 8)
  if !c.claims w.world 12 k then c.ainRefuse stDENIED_WORLD 431
  else c.addAction { fire := c.frc + 100, cls := 2, target := k, arg := v % 64 }

def execAinTrig (a : Agent) (v : W32) (s : State) : Host.Outcome State Fault Refusal := s.by a fun w c => c.ainTrig w v.toNat

/-- Start sequence `q` on converter `k` at tick `t`. -/
def Chip.convStart (c : Chip) (k q t : Nat) : Chip :=
  c.updConv k fun v => { v with seq := some q, step := 0, opened := t, ended := false }

/-- CONVERTER_TRIGGER: a trigger reaches converter `k` (R277). -/
def Chip.convTrigger (c : Chip) (k : Nat) : Chip :=
  match c.dueAction 2 k with
  | none => c
  | some a =>
    let c := c.dropAction a
    let q := a.arg % 64
    if !c.flag (AIN_SEQ_VALID q) then c.ainRefuse stRANGE 423
    else if !bit (c.get AIN_CTL_EN) k then c.ainRefuse stNOT_NOW 423
    else if (c.conv k).seq.isNone then c.convStart k q a.fire
    else if (c.conv k).queued.isNone then
      (c.updConv k fun v => { v with queued := some q }).stick (if k = 0 then AIN_STAT_QLATE0 else AIN_STAT_QLATE1)
    else (c.satInc (if k = 0 then AIN_CNT_OVR0 else AIN_CNT_OVR1)).raise 423

def execConverterTrigger (k : Fin 2) (s : State) : Host.Outcome State Fault Refusal := s.onZone fun c => c.convTrigger k.val

/-- The step table entry of the step under way. -/
def Chip.convStep (c : Chip) (k q : Nat) : Nat := (c.get (AIN_SEQ_FIRST q) + (c.conv k).step) % 256

/-- Write a result, unless the channel holds one whose sample-and-hold opened later (R278). -/
def Chip.ainResult (c : Chip) (k ch opened code : Nat) (fault : Bool) : Chip :=
  let limited := decide (ch < 32) && c.flag (AIN_CH_LIMEN ch)
  let out := limited && (decide (code < c.get (AIN_CH_LO ch)) || decide (c.get (AIN_CH_HI ch) < code))
  let was := look false c.nmw.outside ch
  let c := c.updNmw fun b => { b with outside := put false b.outside ch out }
  let c := c.when (out && !was) fun c => c.raise 422
  let newer := !c.flag (AIN_RES_VALID ch) || decide (c.get (AIN_RES_FRC ch) < opened) || (c.get (AIN_RES_FRC ch) == opened && k == 1)
  c.when newer fun c => c.wrN (AIN_RES ch)
    ((1 <<< 79) + (b2n fault <<< 78) + (b2n out <<< 77) + (k <<< 76) + ((code % 4096) <<< 64) + opened % 2 ^ 64)

/-- AIN_STEP_DONE: SMP × 50 ns + 800 ns after its sample-and-hold opened a step ends, and the next one opens. -/
def Chip.ainStepDone (c : Chip) (k code : Nat) (bad : Bool) : Chip :=
  let v := c.conv k
  match v.seq with
  | none => c
  | some q =>
    let i := c.convStep k q
    let dur := c.get (AIN_STEP_SMP i) * 50 + 800
    c.when (!v.ended && c.due (v.opened + dur)) fun c =>
      let ch := c.get (AIN_STEP_CH i)
      let fault := if ch < 32 then bad else decide (ch < 80) && decide (0xF00 ≤ code)
      let c := c.ainResult k ch v.opened code fault
      c.updConv k fun v => { v with
        step := v.step + 1, opened := v.opened + dur, ended := decide (c.get (AIN_SEQ_STEPS q) ≤ v.step) }

def execAinStepDone (k : Fin 2) (code : Fin 4096) (bad : Bool) (s : State) : Host.Outcome State Fault Refusal :=
  s.onZone fun c => c.ainStepDone k.val code.val bad

/-- AIN_SEQ_END: the last step has ended; the event is raised and a queued sequence starts. -/
def Chip.ainSeqEnd (c : Chip) (k : Nat) : Chip :=
  let v := c.conv k
  match v.seq with
  | none => c
  | some q =>
    c.when v.ended fun c =>
      let c := c.when (c.flag (AIN_SEQ_IRQ q)) fun c => c.raise (420 + k)
      match v.queued with
      | none => c.updConv k fun v => { v with seq := none, ended := false }
      | some q' => (c.updConv k fun v => { v with queued := none }).convStart k q' v.opened

def execAinSeqEnd (k : Fin 2) (s : State) : Host.Outcome State Fault Refusal := s.onZone fun c => c.ainSeqEnd k.val

/-- Whether a converter runs or holds queued sequence `q`, or any sequence, so that the tables are busy (R289). -/
def Chip.ainBusy (c : Chip) (q : Nat) : Bool :=
  (List.range 2).any fun k => (c.conv k).seq.isSome || (c.conv k).queued == some q

/-- A write of AIN_SEQ`q`: the steps must not run past 255. -/
def Chip.ainSeqWrite (c : Chip) (w : Who) (q v : Nat) : Chip :=
  if w.world ≠ 2 then c.ainRefuse stDENIED_WORLD 431
  else if c.ainBusy q then c.ainRefuse stBUSY 431
  else if 255 < v % 256 + bits v 12 8 then c.ainRefuse stRANGE 431
  else c.wrN (AIN_SEQ q) ((bits v 31 30 <<< 30) + bits v 12 8 * 256 + v % 256)

/-- A write of AIN_STEP`i`. -/
def Chip.ainStepWrite (c : Chip) (w : Who) (i v : Nat) : Chip :=
  if w.world ≠ 2 then c.ainRefuse stDENIED_WORLD 431
  else if (List.range 64).any c.ainBusy then c.ainRefuse stBUSY 431
  else if bits v 15 8 < 4 || 83 < v % 128 then c
  else c.wrN (AIN_STEP i) (bits v 15 8 * 256 + v % 128)

/-- A write of AIN_CTL: each world changes the bits of its converters. -/
def Chip.ainCtlWrite (c : Chip) (w : Who) (v : Nat) : Chip :=
  forAll 2 (fun k c =>
    if c.claims w.world 12 k then c.set AIN_CTL_EN (setBit (c.get AIN_CTL_EN) k (bit v k))
    else if bit v k != bit (c.get AIN_CTL_EN) k then c.ainRefuse stDENIED_WORLD 431 else c) c

/-! ### Capture inputs (R279) -/

/-- The accepted level of PX input `n`. -/
def Chip.pxAccepted (c : Chip) (n : Nat) : Bool := look false c.nmw.pxLevel n != c.flag (NMW_PX_CFG_INV n)

/-- PX_EDGE: an accepted edge goes to the tracker that holds the input, and into its FIFO. -/
def Chip.pxEdge (c : Chip) (n : Nat) (rise : Bool) (stamp : Nat) : Chip :=
  let c := c.updNmw fun b => { b with pxLevel := put false b.pxLevel n rise }
  let up := c.pxAccepted n
  let c := forAll 16 (fun b c =>
    c.when (c.flag (PB_CTL_EN b) && c.get (PB_CFG_SRC b) == 1 && c.get (PB_CFG_PXSEL b) == n &&
        bit (c.get (PB_CFG_EDGE b)) (if up then 0 else 1)) fun c =>
      c.updTracker b fun t => { t with
        edges := t.edges ++ [{ stamp := stamp, dirHigh := c.pxAccepted (c.get (PB_CFG_DIRPX b)) }] }) c
  if !c.flag (NMW_PX_CFG_FIFOEN n) then c
  else
    let q := look [] c.nmw.pxFifo n
    if 16 ≤ q.length then c.raise 424
    else c.updNmw fun b => { b with
      pxFifo := put [] b.pxFifo n (q ++ [BitVec.ofNat 128 ((1 <<< 127) + (b2n up <<< 64) + stamp % 2 ^ 64)]) }

def execPxEdge (n : Fin 16) (rise : Bool) (stamp : W64) (s : State) : Host.Outcome State Fault Refusal :=
  s.onZone fun c => c.pxEdge n.val rise stamp.toNat

/-- PX_FIFO_READ: a read of the lowest word removes the oldest edge (R11). -/
def Chip.pxFifoRead (c : Chip) (w : Who) (n : Nat) : Chip :=
  let q := look [] c.nmw.pxFifo n
  let v := q.headD 0
  let c := c.updNmw fun b => { b with pxFifo := put [] b.pxFifo n (q.drop 1) }
  (c.latch w.key (NMW_PX_FIFO n).addr v).respond w.key false (v.toNat % 2 ^ 32)

def execPxFifoRead (a : Agent) (n : Fin 16) (s : State) : Host.Outcome State Fault Refusal := s.by a fun w c => c.pxFifoRead w n.val

/-! ### Reset and sleep (R292) -/

/-- Filtered states, results and FIFOs are re-acquired; LSW states are carried from polling where `keepLsw` says so. -/
def Chip.inputsReacquire (c : Chip) (keepLsw : Bool) : Chip :=
  let lsw := c.get NMW_LSWSTAT_ST
  let c := (((c.wrN NMW_DINSTAT 0).wrN NMW_DINFLT 0).wrN NMW_WAKESTAT 0).wrN NMW_LSWSTAT 0
  let c := c.when keepLsw fun c => c.set NMW_LSWSTAT_ST lsw
  let c := forAll 84 (fun ch c => c.setB (AIN_RES_VALID ch) false) c
  c.updNmw fun b => { b with pxFifo := [], convs := [], outside := [], fired := [], polls := [] }

end Sys2Proof.Machine
end

