-- ==== Sys2Proof/Machine/SwitchCore.lean ====
section
/-! DEFINITION. The inside of the Ethernet switch: tables, the cell buffer and queues, admission, credits, stream functions
and the record of frames: R181–R205, R209. -/

namespace Sys2Proof.Machine

/-! ### Frames -/

/-- Replace the switch's own state. -/
def Chip.updEsw (c : Chip) (f : EswBlk → EswBlk) : Chip := { c with esw := f c.esw }

/-- The length of a frame from its destination address through the FCS (R184). -/
def EswFrame.len (f : EswFrame) : Nat := f.bytes.length + 4

/-- A byte of a frame. -/
def byteAt (bs : List Byte) (i : Nat) : Nat := (bs.getD i 0).toNat

/-- A big-endian field of a frame. -/
def beField (bs : List Byte) (i n : Nat) : Nat := beNat ((bs.drop i).take n)

/-- Whether a frame carries a tag with TPID 0x8100 (R184). -/
def hasTag (bs : List Byte) : Bool := beField bs 12 2 == 0x8100

/-- The place of the EtherType behind an optional tag. -/
def typeAt (bs : List Byte) : Nat := if hasTag bs then 16 else 12

/-- The cells a frame of length `l` uses (R189). -/
def cellsOf (l : Nat) : Nat := 1 + (l - 112 + 127) / 128

/-- A frame by its number. -/
def Chip.eswFrame (c : Chip) (id : Nat) : Option EswFrame := c.esw.frames.find? fun f => f.id == id

/-- Change a frame. -/
def Chip.updFrame (c : Chip) (id : Nat) (g : EswFrame → EswFrame) : Chip :=
  c.updEsw fun b => { b with frames := b.frames.map fun f => if f.id = id then g f else f }

/-- Give the switch's DMA a job. -/
def Chip.eswJob (c : Chip) (j : EswJob) : Chip := c.updEsw fun b => { b with jobs := b.jobs ++ [j] }

/-! ### Ports (R181, R182) -/

/-- Whether port `p` gives its PHY to the Hatband (R182). -/
def Chip.hatbandPort (c : Chip) (p : Nat) : Bool := (p == 18 || p == 19) && c.claimNibble 3 p == 15

/-- Whether the link of a port is up; the internal ports have none to lose. -/
def Chip.portUp (c : Chip) (p : Nat) : Bool := decide (20 ≤ p) || c.flag (ESW_P_STAT_LINK p)

/-- The rate of a port in kb/s. -/
def Chip.portKbps (c : Chip) (p : Nat) : Nat :=
  match c.get (ESW_P_STAT_RATE p) with
  | 1 => 10000
  | 2 => 100000
  | 3 => 1000000
  | 4 => 10000000
  | _ => 0

/-- Count one in counter `i` of port `p`. -/
def Chip.portCount (c : Chip) (p i : Nat) : Chip := c.satInc (ESW_P_CNT_N p i)

/-- A copy towards port `p` is discarded: DROP and its event (R191, R211). -/
def Chip.copyDropped (c : Chip) (p : Nat) : Chip := (c.stick (ESW_P_STAT_DROP p)).raise (216 + p)

/-! ### Tables (R186–R188) -/

/-- The key of an entry of a table. -/
def tblKey (t i : Nat) : Nat := t * 16384 + i

/-- Entry `i` of table `t`. -/
def Chip.tbl (c : Chip) (t i : Nat) : W128 := look 0 c.esw.tables (tblKey t i)

/-- Write entry `i` of table `t`. -/
def Chip.setTbl (c : Chip) (t i : Nat) (v : W128) : Chip := c.updEsw fun b => { b with tables := put 0 b.tables (tblKey t i) v }

/-- Bits of a table entry. -/
def Chip.tblBits (c : Chip) (t i hi lo : Nat) : Nat := bits (c.tbl t i).toNat hi lo

/-- Count one in a 32-bit counter of a table entry, saturating. -/
def Chip.tblCount (c : Chip) (t i lo : Nat) : Chip :=
  c.setTbl t i (setBits (c.tbl t i) (lo + 31) lo (min (c.tblBits t i (lo + 31) lo + 1) 0xFFFFFFFF))

/-- CRC-16 with polynomial 0x1021 over eight bytes. -/
def crc16 (bs : List Byte) : Nat :=
  bs.foldl (fun crc b => forAll 8 (fun _ x => if x ≥ 0x8000 then (x * 2 % 65536) ^^^ 0x1021 else x * 2 % 65536)
    (crc ^^^ (b.toNat <<< 8))) 0xFFFF

/-- The bucket of an FID and address: the FID's 12 bits, then the address, as eight bytes, FID high nibble first (R186). -/
def bucketOf (fid addr : Nat) : Nat := crc16 (beBytesOf 8 ((fid <<< 48) + addr)) % 4096

/-- The MAC entry that matches an FID and address. -/
def Chip.macFind (c : Chip) (fid addr : Nat) : Option Nat :=
  ((List.range 4).map (4 * bucketOf fid addr + ·)).find? fun i =>
    let v := (c.tbl 0 i).toNat
    bit v 127 && bits v 59 48 == fid && bits v 47 0 == addr

/-- A free way of a bucket. -/
def Chip.macFree (c : Chip) (fid addr : Nat) : Option Nat :=
  ((List.range 4).map (4 * bucketOf fid addr + ·)).find? fun i => !bit (c.tbl 0 i).toNat 127

/-- Learn a source address towards a port (R186). The host queue of a learned entry is not stated, so it is open. -/
def Chip.learn (c : Chip) (fid addr p : Nat) : Chip :=
  match c.macFind fid addr with
  | some i =>
    if bit (c.tbl 0 i).toNat 126 then c
    else c.setTbl 0 i (setBits (setBits (c.tbl 0 i) 111 88 (1 <<< p)) 125 125 1)
  | none =>
    match c.macFree fid addr with
    | some i =>
      let hq := (Config.openValue c.freeCtr).toNat
      c.drawn.setTbl 0 i (BitVec.ofNat 128 ((1 <<< 127) + (1 <<< 125) + ((hq % 256) <<< 112) + (1 <<< (88 + p)) + (fid <<< 48) + addr))
    | none => (c.satInc ESW_CNT_LEARNFAIL).raise 267

/-! ### Cells and queues (R189, R190) -/

/-- The frames of a queue, head first. -/
def Chip.eswQueue (c : Chip) (p k : Nat) : List Nat := look [] c.esw.queues (8 * p + k)

/-- Replace a queue. -/
def Chip.setQueue (c : Chip) (p k : Nat) (l : List Nat) : Chip :=
  c.updEsw fun b => { b with queues := put [] b.queues (8 * p + k) l }

/-- The cells a queue's frames hold. -/
def Chip.queueCells (c : Chip) (p k : Nat) : Nat :=
  (c.eswQueue p k).foldl (fun n id => n + match c.eswFrame id with | some f => f.cells | none => 0) 0

/-- The frame a port transmits. -/
def Chip.sendingAt (c : Chip) (p : Nat) : Option Nat := look none c.esw.sending p

/-- Set or clear the frame a port transmits. -/
def Chip.setSending (c : Chip) (p : Nat) (x : Option Nat) : Chip :=
  c.updEsw fun b => { b with sending := put none b.sending p x }

/-- Take cells from the free pool; falling below the low-water mark raises EV0264. -/
def Chip.takeCells (c : Chip) (n : Nat) : Chip :=
  let old := c.get ESW_STAT_FREE
  let low := c.get ESW_CTL_LOWWAT
  let c := c.set ESW_STAT_FREE (old - n)
  if low ≤ old && old - n < low then (c.stick ESW_STAT_LOW).raise 264 else c

/-- Give cells back. -/
def Chip.giveCells (c : Chip) (n : Nat) : Chip := c.set ESW_STAT_FREE (min (c.get ESW_STAT_FREE + n) 49152)

/-- The egress stamp a transmit descriptor records: where it asks for one and its frame left on one E port (R206). -/
def EswFrame.descStamp (f : EswFrame) : Nat :=
  if f.txStampReq && f.egress.length = 1 && f.egress.all (· < 20) then f.outStamp else 0

/-- Forget a frame: its cells return, its transmit descriptor is written back with a status, and reception stops storing it. -/
def Chip.frameGone (c : Chip) (f : EswFrame) (status : Nat) : Chip :=
  let c := (c.giveCells f.cells).updEsw fun b => { b with
    frames := b.frames.filter fun x => x.id != f.id
    receiving := if look none b.receiving f.ingress = some f.id then put none b.receiving f.ingress none else b.receiving }
  match f.txDesc with
  | some (q, i) => c.eswJob (.done q i status f.descStamp)
  | none => c

/-- Finish the copy of frame `id` for port `p`; the last one frees the frame (R190). -/
def Chip.finishCopy (c : Chip) (p id : Nat) : Chip :=
  let c := c.updFrame id fun f => { f with copies := f.copies.erase p, cut := f.cut.erase p }
  match c.eswFrame id with
  | some f => if f.copies.isEmpty then c.frameGone f stOK else c
  | none => c

/-- Remove the copy of frame `id` from port `p`'s queue and finish it. -/
def Chip.removeCopy (c : Chip) (p k id : Nat) : Chip :=
  let c := c.setQueue p k ((c.eswQueue p k).filter (· != id))
  let c := if c.sendingAt p = some id then c.setSending p none else c
  c.finishCopy p id

/-- Whether recording of drops is on (R209). -/
def Chip.dropCapture (c : Chip) : Bool := c.flag ESW_MIR_CTL_EN && c.flag ESW_MIR_CTL_DROPCAP

/-- Record a frame for the mirror ring: 4 discard, 5 stomp, 6 push-out. The cause codes are not stated, so the cause is open. -/
def Chip.captureDrop (c : Chip) (f : EswFrame) (reason : Nat) : Chip :=
  if c.dropCapture then c.drawn.eswJob (.mirror f reason (bits (Config.openValue c.freeCtr).toNat 7 0)) else c

/-! ### Credits (R200) -/

/-- The credit of class `k` on port `p`, in microbits. -/
def Chip.credit (c : Chip) (p k : Nat) : Int := look 0 c.esw.credit (8 * p + k)

/-- The credit after `dt` ns in the state the class is in now: hiCredit and loCredit follow from MAXFRM, idleSlope and the rate
as IEEE 802.1Q prescribes. -/
def Chip.creditAfter (c : Chip) (p k dt : Nat) : Int :=
  let idle : Int := c.get (ESW_P_CBS_IDLE p k)
  let rate : Int := max 1 (c.portKbps p : Int)
  let frame : Int := (c.get (ESW_P_MAXFRM_N p) * 8 * 1000000 : Nat)
  let old := c.credit p k
  let mine := match c.sendingAt p with
    | some id => (c.eswQueue p k).head? == some id
    | none => false
  if mine then max (old + (idle - rate) * dt) (-(frame * (rate - idle) / rate))
  else if (c.eswQueue p k).isEmpty then min (old + idle * dt) 0
  else min (old + idle * dt) (frame * idle / rate)

/-- Bring the credits of a port up to now. -/
def Chip.runCredits (c : Chip) (p : Nat) : Chip :=
  let dt := c.frc - look 0 c.esw.creditAt p
  let new := (List.range 8).map fun k => if c.flag (ESW_P_CBS_EN p k) then c.creditAfter p k dt else 0
  c.updEsw fun b => { b with
    credit := forAll 8 (fun k m => put 0 m (8 * p + k) (new.getD k 0)) b.credit
    creditAt := put 0 b.creditAt p c.frc }

/-- Whether class `k` of E port `p` may start now: its gate is open and its credit, where CBS is enabled, is zero or more. -/
def Chip.classOpen (c : Chip) (p k : Nat) : Bool :=
  decide (20 ≤ p) || (bit (c.get (ESW_P_GATE_NOW p)) k && (!c.flag (ESW_P_CBS_EN p k) || decide (0 ≤ c.credit p k)))

/-! ### Admission (R191–R194) -/

/-- Whether a reference is evictable: not the head of its queue in transmission (R192). -/
def Chip.evictableTail (c : Chip) (p k : Nat) : Option Nat :=
  match (c.eswQueue p k).getLast? with
  | none => none
  | some id => if (c.eswQueue p k).length = 1 && c.sendingAt p == some id then none else some id

/-- The port and frame push-out takes next from class `j`: the queue with the most cells, ties to the lower port. -/
def Chip.victimOf (c : Chip) (j : Nat) : Option (Nat × Nat) :=
  ((List.range 24).foldl (fun best p =>
    match c.evictableTail p j with
    | none => best
    | some id =>
      match best with
      | some (_, _, n) => if n < c.queueCells p j then some (p, id, c.queueCells p j) else best
      | none => some (p, id, c.queueCells p j)) none).map fun b => (b.1, b.2.1)

/-- The next reference push-out takes for class `k`: the lowest class below it that holds one. -/
def Chip.victim (c : Chip) (k : Nat) : Option (Nat × Nat × Nat) :=
  (List.range k).findSome? fun j => (c.victimOf j).map fun v => (v.1, j, v.2)

/-- Push out until the free cells minus `r` are at least ADMk or nothing evictable remains; the result says whether any
reference was evicted. -/
def pushOut : Nat → Nat → Nat → Chip → Bool × Chip
  | 0, _, _, c => (false, c)
  | fuel + 1, k, r, c =>
    if c.get (ESW_ADM_MIN k) + r ≤ c.get ESW_STAT_FREE then (false, c)
    else match c.victim k with
      | none => (false, c)
      | some (p, j, id) =>
        let c := match c.eswFrame id with
          | some f => c.captureDrop f 6
          | none => c
        let c := c.removeCopy p j id
        (true, (pushOut fuel k r ((c.portCount p 7).copyDropped p)).2)

/-- Whether the copy for port `p` of a frame is cut through (R194); `plca` has the ports that hold a transmit opportunity. -/
def Chip.cutsThrough (c : Chip) (f : EswFrame) (plca p : Nat) : Bool :=
  decide (f.ingress < 20) && decide (p < 20) && c.flag ESW_CTL_CTGLOB && c.flag (ESW_P_CFG_CT f.ingress) && c.flag (ESW_P_CFG_CT p)
    && decide (c.get (ESW_P_STAT_RATE p) ≤ c.get (ESW_P_STAT_RATE f.ingress)) && (c.sendingAt p).isNone
    && (c.eswQueue p f.cls).isEmpty && (decide (p < 14) || (c.flag (ESW_PHY_CTL_PLCAEN p) && bit plca p))
    && c.classOpen p f.cls && f.recovery.isNone
    && !(match f.filter with | some i => bit (c.tbl 5 i).toNat 126 | none => false)

/-- Check one copy of a frame of length `l` (R191). -/
def Chip.copyCheck (c : Chip) (f : EswFrame) (l p : Nat) : Option Nat :=
  if !c.portUp p then some 4
  else if c.get (ESW_P_QCFG_QMAX p f.cls) < c.queueCells p f.cls + cellsOf l then some 5
  else if c.get (ESW_P_QCFG_QMAXSDU p f.cls) != 0 && decide (c.get (ESW_P_QCFG_QMAXSDU p f.cls) < l) then some 6
  else none

/-- Discard a frame that has not been admitted. -/
def Chip.discardNew (c : Chip) (f : EswFrame) : Chip :=
  let c := c.captureDrop f 4
  match f.txDesc with
  | some (q, i) => c.eswJob (.done q i stBUSY 0)
  | none => c

/-- Admit a frame to the queues of its egress set (R191, R192, R194). -/
def Chip.eswAdmit (c : Chip) (f : EswFrame) (plca : Nat) : Chip :=
  let cuts := f.egress.filter fun p => c.portUp p && c.cutsThrough f plca p
  let room := c.get (ESW_P_MAXFRM_N f.ingress)
  let l := if cuts.isEmpty then f.len else room
  let bad := f.egress.filterMap fun p => (c.copyCheck f l p).map fun i => (p, i)
  let copies := f.egress.filter fun p => (c.copyCheck f l p).isNone
  let c := forEach bad (fun x c => (c.portCount x.1 x.2).copyDropped x.1) c
  if copies.isEmpty then c.discardNew f
  else
    let r := cellsOf room
    let pushed := pushOut 32768 f.cls r c
    let c := pushed.2
    if c.get ESW_STAT_FREE < c.get (ESW_ADM_MIN f.cls) + r then
      (((c.stick ESW_STAT_TAILDROP).satInc ESW_CNT_TAILDROP).raise 266).discardNew f
    else
      let c := c.when pushed.1 fun c => (c.stick ESW_STAT_PUSHED).raise 265
      let held := if f.good then cellsOf f.len else r
      let id := c.esw.nextId
      let cut := cuts.filter copies.contains
      let f := { f with id := id, copies := copies, cut := cut, cells := held }
      let c := forEach copies (fun p c => c.runCredits p) (c.takeCells held)
      let c := c.updEsw fun b => { b with
        frames := b.frames ++ [f]
        nextId := id + 1
        receiving := if f.good then b.receiving else put none b.receiving f.ingress (some id) }
      let c := forEach copies (fun p c => c.setQueue p f.cls (c.eswQueue p f.cls ++ [id])) c
      forEach cut (fun p c => c.setSending p (some id)) c

/-! ### Stream functions (R201, R202) -/

/-- The first stream identification entry that a frame matches (R188, R201). -/
def Chip.streamOf (c : Chip) (bs : List Byte) (vid : Nat) : Option Nat :=
  (List.range 256).find? fun i =>
    let v := (c.tbl 2 i).toNat
    bit v 127 && bits v 59 48 == vid && bits v 47 0 == (if bit v 126 then beField bs 6 6 else beField bs 0 6)

/-- Insert an R-TAG with sequence number `n` before the EtherType (R201). -/
def addRtag (bs : List Byte) (n : Nat) : List Byte :=
  bs.take (typeAt bs) ++ beBytesOf 2 0xF1C1 ++ beBytesOf 2 0 ++ beBytesOf 2 n ++ bs.drop (typeAt bs)

/-- The sequence number of a frame's R-TAG. -/
def rtagOf (bs : List Byte) : Option Nat :=
  if beField bs (typeAt bs) 2 = 0xF1C1 then some (beField bs (typeAt bs + 4) 2) else none

/-- Whether recovery function `r` has number `n` in its history, or rejects it as out of range (vector recovery). -/
def Chip.recoverySeen (c : Chip) (r n : Nat) : Bool :=
  let h := look {} c.esw.recs r
  match h.top with
  | none => false
  | some t =>
    let d := signed 16 (unsigned 16 ((n : Int) - t))
    let len : Int := c.tblBits 4 r 126 121
    if len ≤ d || d ≤ -len then true else decide (d ≤ 0) && bit h.seen (-d).toNat

/-- Record number `n` as passed (R201). -/
def Chip.recoveryPass (c : Chip) (r n : Nat) : Chip :=
  let h := look {} c.esw.recs r
  let new := match h.top with
    | none => { h with top := some n, seen := 1 }
    | some t =>
      let d := signed 16 (unsigned 16 ((n : Int) - t))
      if 0 < d then { h with top := some n, seen := ((h.seen <<< d.toNat) ||| 1) % 2 ^ 32 }
      else { h with seen := setBit h.seen (-d).toNat true }
  (c.updEsw fun b => { b with recs := put {} b.recs r new }).tblCount 4 r 64

/-- Note that recovery function `r` has seen a frame. -/
def Chip.recoveryHeard (c : Chip) (r : Nat) : Chip :=
  c.updEsw fun b => { b with recs := upd {} b.recs r fun h => { h with lastAt := some c.frc } }

/-- The colour of a frame of `l` bytes at meter `i`: 0 green, 1 yellow, 2 red (R202). -/
def Chip.meter (c : Chip) (i l : Nat) : Nat × Chip :=
  let v := (c.tbl 6 i).toNat
  let capC := bits v 59 44 * 64 * 8000000
  let capE := bits v 43 28 * 64 * 8000000
  let old := (look none c.esw.meters i).getD { c := capC, e := capE, at_ := c.frc }
  let dt := c.frc - old.at_
  let inC := old.c + bits v 99 80 * 100 * dt
  let inE := old.e + bits v 79 60 * 100 * dt + (if bit v 125 then inC - capC else 0)
  let tc := min inC capC
  let te := min inE capE
  let need := l * 8000000
  let (col, nc, ne) := if need ≤ tc then (0, tc - need, te) else if need ≤ te then (1, tc, te - need) else (2, tc, te)
  (col, c.updEsw fun b => { b with meters := put none b.meters i (some { c := nc, e := ne, at_ := c.frc }) })

/-- The filter and meter a matched stream names: whether the frame is discarded for them (R202). -/
def Chip.police (c : Chip) (flt l : Nat) (whole : Bool) : Bool × Chip :=
  let c := c.tblCount 5 flt 64
  let v := (c.tbl 5 flt).toNat
  if whole && bits v 118 105 != 0 && decide (bits v 118 105 < l) then (true, (c.tblCount 5 flt 32).raise 271)
  else if bit v 126 && c.tblBits 6 (bits v 125 119) 127 127 = 1 then
    let m := bits v 125 119
    let r := c.meter m l
    if r.1 = 2 || (r.1 = 1 && c.tblBits 6 m 126 126 = 1) then (true, (r.2.tblCount 5 flt 0).raise 271) else (false, r.2)
  else (false, c)

/-! ### The decision point (R185, R201, R202) -/

/-- Steps 1 to 4 of R185: VID, class, egress set and host queue; none where the frame is discarded. -/
def Chip.forward (c : Chip) (p : Nat) (bs : List Byte) : Option (Nat × Nat × List Nat × Nat) :=
  let tci := if hasTag bs then beField bs 14 2 else 0
  let vlanTag := hasTag bs && tci % 4096 != 0
  let vid := if vlanTag then tci % 4096 else c.get (ESW_P_CFG_PVID p)
  let accept := c.get (ESW_P_CFG_ACCEPT p)
  let e := (c.tbl 1 vid).toNat
  if (accept = 1 && !vlanTag) || (accept = 2 && vlanTag) || vid = 0xFFF || !bit e 127 then none
  else if c.flag (ESW_P_CFG_INGFLT p) && !bit e p then none
  else
    let cls := if hasTag bs then bits (c.get (ESW_P_PCPMAP_MAP p)) (3 * (tci / 8192) + 2) (3 * (tci / 8192)) else c.get (ESW_P_CFG_DEFCLS p)
    let fid := bits e 59 48
    let hit := c.macFind fid (beField bs 0 6)
    let mask := match hit with
      | some i => c.tblBits 0 i 111 88
      | none => bits e 23 0
    let hq := match hit with
      | some i => c.tblBits 0 i 119 112
      | none => bits e 79 72
    some (vid, cls, (List.range 24).filter (fun q => bit mask q && bit e q && q != p && c.flag (ESW_P_CFG_EN q) && !c.hatbandPort q), hq)

/-- Step 5 of R185. -/
def Chip.learnFrom (c : Chip) (p vid : Nat) (bs : List Byte) : Chip :=
  let e := (c.tbl 1 vid).toNat
  if c.flag ESW_CTL_LEARN && c.flag (ESW_P_CFG_LEARN p) && bit e 126 && byteAt bs 6 % 2 = 0 then
    c.learn (bits e 59 48) (beField bs 6 6) p
  else c

/-- Apply the stream functions a frame matches, then offer it for admission. -/
def Chip.streamAdmit (c : Chip) (f : EswFrame) (plca : Nat) : Chip :=
  match c.streamOf f.bytes f.vid with
  | none => c.eswAdmit f plca
  | some i =>
    let v := (c.tbl 2 i).toNat
    let flt := bits v 108 101
    let r := if bit v 123 && c.tblBits 5 flt 127 127 = 1 then c.police flt f.len f.good else (false, c)
    let c := r.2
    let f := { f with filter := if bit v 123 then some flt else none }
    if r.1 then c.discardNew f
    else
      let rec_ := bits v 115 109
      let seq := rtagOf f.bytes
      let use := bit v 124 && c.tblBits 4 rec_ 127 127 = 1
      let c := c.when use fun c => c.recoveryHeard rec_
      let drop := use && (match seq with | some n => c.recoverySeen rec_ n | none => true)
      if drop then (c.tblCount 4 rec_ 32).discardNew f
      else
        let f := if use then { f with
          recovery := seq.map fun n => (rec_, n)
          waits := c.esw.frames.any fun g => g.recovery == seq.map (fun n => (rec_, n)) && !g.waits } else f
        let gen := bits v 122 116
        let add := bit v 125 && c.tblBits 3 gen 127 127 = 1
        let n := c.tblBits 3 gen 111 96
        let c := c.when add fun c => c.setTbl 3 gen (setBits (c.tbl 3 gen) 111 96 (n + 1))
        c.eswAdmit (if add then { f with bytes := addRtag f.bytes n } else f) plca

/-- A frame reaches its decision point on port `p` (R185). -/
def Chip.decide_ (c : Chip) (f : EswFrame) (plca : Nat) : Chip :=
  if !c.flag ESW_CTL_EN || !c.flag (ESW_P_CFG_EN f.ingress) then c.discardNew f
  else match c.forward f.ingress f.bytes with
    | none => c.discardNew f
    | some (vid, cls, ports, hq) =>
      (c.learnFrom f.ingress vid f.bytes).streamAdmit
        { f with vid := vid, cls := cls, tagged := hasTag f.bytes, egress := ports, hostQueue := hq } plca

/-! ### MACsec (R204, R205) -/

/-- The receive SA a MACsec tag names on port `p`: its table index. -/
def Chip.rxSa (c : Chip) (p : Nat) (t : SecTag) : Option Nat :=
  ((List.range 4).find? fun s => c.get (ESW_P_SCI_SCI p (s + 1)) == t.sci).bind fun s =>
    ((List.range 2).map fun a => 10 * p + 2 * (s + 1) + a).find? fun i =>
      c.tblBits 7 i 127 127 == 1 && c.tblBits 7 i 125 124 == t.an

/-- Whether a frame that arrives on E0 or E1 fails validation at its decision point (R205). -/
def Chip.secFails (c : Chip) (p : Nat) (bs : List Byte) (t : Option SecTag) : Bool :=
  decide (p < 2) && c.flag (ESW_P_MSEC_EN p) && c.get (ESW_P_MSEC_VALIDATE p) != 0 && beField bs (typeAt bs) 2 != 0x888E &&
    match t with
    | none => true
    | some t =>
      match c.rxSa p t with
      | none => true
      | some i => c.flag (ESW_P_MSEC_REPLAY p) && decide (t.pn < c.tblBits 7 i 63 0)

/-- Advance the lowest acceptable packet number of a receive SA after a good frame (R205). -/
def Chip.secAccept (c : Chip) (p : Nat) (t : SecTag) : Chip :=
  match c.rxSa p t with
  | none => c
  | some i =>
    let low := t.pn + 1 - c.get (ESW_P_MSWIN_WIN p)
    c.setTbl 7 i (setBits (c.tbl 7 i) 63 0 (max (c.tblBits 7 i 63 0) low))

/-- The transmit SA of E0 or E1: the lowest slot in use. -/
def Chip.txSa (c : Chip) (p : Nat) : Option Nat :=
  ((List.range 2).map (10 * p + ·)).find? fun i => c.tblBits 7 i 127 127 == 1

/-- The number of packet numbers an SA has. -/
def pnLimit (v : Nat) : Nat := if bit v 126 then 2 ^ 64 else 2 ^ 32

/-- Take the next packet number of a transmit SA; within 2^30 of its limit EV0274 is raised (R205). -/
def Chip.secSend (c : Chip) (i : Nat) : Chip :=
  let v := (c.tbl 7 i).toNat
  let pn := bits v 63 0 + 1
  let c := c.setTbl 7 i (setBits (c.tbl 7 i) 63 0 pn)
  if pnLimit v = pn + 2 ^ 30 then c.raise 274 else c

/-! ### Mirroring (R209) -/

/-- Whether a frame is sampled on a port, and the sample count after it. -/
def Chip.sample (c : Chip) (p kind : Nat) : Bool × Chip :=
  let key := 2 * p + kind
  let n := look 0 c.esw.samples key + 1
  let hit := decide (max 1 (c.get (ESW_P_MIRCFG_NSAMP p)) ≤ n)
  (hit, c.updEsw fun b => { b with samples := put 0 b.samples key (if hit then 0 else n) })

/-- Mirror a received (0) or transmitted (1) frame of port `p`. -/
def Chip.mirrorFrame (c : Chip) (f : EswFrame) (p dir : Nat) : Chip :=
  if !c.flag ESW_MIR_CTL_EN then c
  else
    let all := c.flag (if dir = 0 then ESW_P_MIRCFG_IMIR p else ESW_P_MIRCFG_EMIR p)
    let some_ := c.flag (if dir = 0 then ESW_P_MIRCFG_ISMP p else ESW_P_MIRCFG_ESMP p)
    let c := c.when all fun c => c.eswJob (.mirror f dir 0)
    if some_ then
      let r := c.sample p dir
      r.2.when r.1 fun c => c.eswJob (.mirror f (2 + dir) 0)
    else c

end Sys2Proof.Machine
end

