-- ==== Sys2Proof/Machine/SwitchDma.lean ====
section
/-! DEFINITION. The switch's DMA: transmit and receive rings of the host queue pairs, and the mirror ring (R206, R207, R209). -/

namespace Sys2Proof.Machine

/-- The master that serves host pair `q` (R206). -/
def pairMid (q : Nat) : Nat := if q < 128 then 11 else 12

/-- The function that holds host pair `q`; PF0 where none does. -/
def Chip.pairFn (c : Chip) (q : Nat) : Nat := (c.holderFn 0 q).getD 64

/-- The tag of pair `q`'s traffic. -/
def Chip.pairTag (c : Chip) (q : Nat) : Tag := c.fnTag (pairMid q) (c.pairFn q)

/-- The descriptors of a ring of pair `q`. -/
def Chip.ringSize (c : Chip) (q : Nat) : Nat := 2 ^ c.get (ESW_HQ_CFG_SIZE q)

/-- Raise the vector that a completion on pair `q` names (R351): transmit or receive. -/
def Chip.pairVector (c : Chip) (q : Nat) (tx : Bool) : Chip :=
  match c.holderFn 0 q with
  | none => c
  | some f =>
    if 64 ≤ f then c
    else
      let i := q - (c.rangeOf f 0).1
      if tx then c.when (c.flag (VF_QPV_TXIE f i)) fun c => c.raiseVector f (c.get (VF_QPV_TXVEC f i))
      else c.when (c.flag (VF_QPV_RXIE f i)) fun c => c.raiseVector f (c.get (VF_QPV_RXVEC f i))

/-- The finished descriptors at the head of a ring: how many, and the rest. -/
def doneHead : List (Nat × Bool) → Nat × List (Nat × Bool)
  | (_, true) :: t => let r := doneHead t; (r.1 + 1, r.2)
  | l => (0, l)

/-- Write transmit descriptor `i` of pair `q` back; the consumer index follows the finished descriptors (R206). -/
def State.txDone (s : State) (q i status stamp : Nat) : State :=
  let c := s.chip
  let r := s.busWrite (c.pairTag q) (c.get (ESW_HQ_TXBASE_A q) + 32 * i + 16)
    (leBytesOf 16 ((1 <<< 127) + (status <<< 64) + stamp % 2 ^ 64))
  let c := r.2.chip.when (!r.1) fun c => c.raise 279
  let d := doneHead ((look [] c.esw.txOpen q).map fun x => if x.1 = i then (i, true) else x)
  let c := c.updEsw fun b => { b with txOpen := put [] b.txOpen q d.2 }
  let c := c.set (ESW_HQ_TXCI_I q) ((c.get (ESW_HQ_TXCI_I q) + d.1) % c.ringSize q)
  { r.2 with chip := c.pairVector q true }

/-- The bytes of a frame as port `p` sends them, with or without its tag (R185); the priority of an added tag is not stated. -/
def Chip.egressBytes (c : Chip) (f : EswFrame) (p : Nat) : List Byte × Chip :=
  if f.vid = 0 then (f.bytes, c)
  else
    let bare := if f.tagged then f.bytes.take 12 ++ f.bytes.drop 16 else f.bytes
    if bit (c.tbl 1 f.vid).toNat (24 + p) then (bare, c)
    else if f.tagged then (f.bytes.take 14 ++ beBytesOf 2 (beField f.bytes 14 2 / 4096 * 4096 + f.vid) ++ f.bytes.drop 16, c)
    else
      let pcp := bits (Config.openValue c.freeCtr).toNat 2 0
      (bare.take 12 ++ beBytesOf 2 0x8100 ++ beBytesOf 2 (pcp * 8192 + f.vid) ++ bare.drop 12, c.drawn)

/-- A frame for pair `q` is discarded: RXFULL of the pair and of port 20, and EV0279 (R206). -/
def Chip.rxFull (c : Chip) (q : Nat) : Chip := ((c.satInc (ESW_HQ_CNT_RXFULL q)).portCount 20 9).raise 279

/-- Deliver a frame to its host receive ring (R206). -/
def State.rxDeliver (s : State) (f : EswFrame) : State :=
  let c := s.chip
  let q := f.hostQueue
  let fn := c.pairFn q
  let ci := c.get (ESW_HQ_RXCI_I q)
  let (bs, c) := c.egressBytes f 20
  if !c.flag (ESW_HQ_CFG_EN q) || (fn < 64 && c.get (SFE_FN_CFG_STATE fn) != 2) || ci = c.get (ESW_HQ_RXPI_I q)
      || c.get (ESW_HQ_CFG_RXLEN q) < bs.length then { s with chip := c.rxFull q }
  else
    let t := c.pairTag q
    let base := c.get (ESW_HQ_RXBASE_A q) + 32 * ci
    match ({ s with chip := c } : State).busRead t base 16 with
    | (none, s) => { s with chip := s.chip.rxFull q }
    | (some d, s) =>
      let r := s.busWrite t (leNat d % 2 ^ 40) bs
      let word := (1 <<< 127) + (b2n (hasTag bs) <<< 86) + (f.cls <<< 83) + (f.ingress <<< 78) + (bs.length <<< 64)
        + f.stamp % 2 ^ 64
      let r2 := r.2.busWrite t (base + 16) (leBytesOf 16 word)
      if r.1 && r2.1 then
        { r2.2 with chip := (r2.2.chip.set (ESW_HQ_RXCI_I q) ((ci + 1) % r2.2.chip.ringSize q)).pairVector q false }
      else { r2.2 with chip := r2.2.chip.rxFull q }

/-- A mirror record is lost (R209). -/
def Chip.mirrorLost (c : Chip) : Chip := (c.satInc ESW_MIR_DROP_N).raise 268

/-- The egress port field of a mirror record: one port, or 31 for several. -/
def egressCode : List Nat → Nat
  | [p] => p
  | _ => 31

/-- Write a mirror record (R209): at most one in 40 ns. -/
def State.mirrorWrite (s : State) (f : EswFrame) (reason cause : Nat) : State :=
  let c := s.chip
  let size := 2 ^ c.get ESW_MIR_CTL_LOG2N
  let pi := c.get ESW_MIR_PI_I
  let fast := match c.esw.mirAt with
    | some t => decide (c.frc < t + 40)
    | none => false
  if fast || (pi + 1) % size = c.get ESW_MIR_CI_I % size then { s with chip := c.mirrorLost }
  else
    let word := ((c.esw.mirSeq % 2 ^ 32) <<< 96) + ((f.len % 2 ^ 14) <<< 82) + (f.ingress <<< 77) + (egressCode f.egress <<< 72)
      + (f.cls <<< 69) + (reason <<< 66) + (cause <<< 58)
    let head := (f.bytes ++ List.replicate 128 0).take 128
    let bs := leBytesOf 16 (c.tdRead (c.get ESW_MIR_CTL_TD) f.stamp) ++ leBytesOf 16 word ++ head
    let c := (c.set ESW_MIR_PI_I ((pi + 1) % size)).updEsw fun b => { b with mirSeq := b.mirSeq + 1, mirAt := some c.frc }
    (({ s with chip := c } : State).busWrite (c.unitTag 12) (c.get ESW_MIR_BASE_A + 160 * pi) bs).2

/-- Carry out one job of the switch's DMA. -/
def State.eswDo (s : State) (j : EswJob) : State :=
  match j with
  | .done q i status stamp => s.txDone q i status stamp
  | .deliver f => s.rxDeliver f
  | .mirror f reason cause => s.mirrorWrite f reason cause

/-- Carry out the DMA work that a command left. -/
def State.eswFlush (s : State) : State :=
  s.chip.esw.jobs.foldl (fun s j => s.eswDo j) { s with chip := s.chip.updEsw fun b => { b with jobs := [] } }

/-- The outcome of a command of the switch: its effect on the module, then its DMA work. -/
def State.eswOn (s : State) (f : Chip → Chip) : Host.Outcome State Fault Refusal :=
  s.onZoneMem fun s => ({ s with chip := f s.chip } : State).eswFlush

end Sys2Proof.Machine
end

