-- ==== Sys2Proof/Machine/Switch.lean ====
section
/-! DEFINITION. The commands of the Ethernet switch: R181–R213. -/

namespace Sys2Proof.Machine

/-! ### Frames on their way (R185, R193–R198, R203) -/

/-- ESW_DECISION_POINT: the 64th byte of a frame has been received on port `p`, or a publication enters at port 21 (R185, R208), or a
frame of the SEAM block at port 22 (R493) or of the dictionary engine at port 23 (R392);
a frame that fails MACsec validation in strict mode is discarded (R205). -/
def Chip.decisionPoint (c : Chip) (p : Nat) (bs : List Byte) (stamp : Nat) (sec : Option SecTag) (plca : Nat) : Chip :=
  if p = 20 then c
  else if p = 21 then
    match c.esw.pubs with
    | [] => c
    | x :: t =>
      (c.updEsw fun b => { b with pubs := t }).decide_
        { id := 0, ingress := 21, bytes := x, stamp := c.frc, cls := 0, good := true } plca
  else if p = 22 then
    match c.seam.frames with
    | [] => c
    | x :: t =>
      (c.updSeam fun b => { b with frames := t }).decide_
        { id := 0, ingress := 22, bytes := x, stamp := c.frc, cls := 0, good := true } plca
  else if p = 23 then
    match c.ddp.frames with
    | [] => c
    | x :: t =>
      ({ c with ddp := { c.ddp with frames := t } } : Chip).decide_
        { id := 0, ingress := 23, bytes := x, stamp := c.frc, cls := 0, good := true } plca
  else
    let f : EswFrame := { id := 0, ingress := p, bytes := bs, stamp := stamp, cls := 0, sec := sec }
    let fails := c.secFails p bs sec
    let c := c.when fails fun c => c.raise (272 + p)
    if fails && c.get (ESW_P_MSEC_VALIDATE p) == 2 then c.discardNew f else c.decide_ f plca

def execEswDecisionPoint (p : Fin 24) (frame : List Byte) (stamp : W64) (sec : Option SecTag) (plca : W32) (s : State) :
    Host.Outcome State Fault Refusal :=
  s.eswOn fun c => c.decisionPoint p.val frame stamp.toNat sec plca.toNat

/-- Discard a copy that waits in a queue. -/
def Chip.dropQueued (c : Chip) (f : EswFrame) (p : Nat) : Chip := (c.removeCopy p f.cls f.id).copyDropped p

/-- The tail of a copy that is cut through turns out bad: it is stomped (R195). -/
def Chip.stomp (c : Chip) (f : EswFrame) (p : Nat) : Chip :=
  let c := ((c.portCount p 3).stick (ESW_P_STAT_STOMP p)).captureDrop f 5
  c.updFrame f.id fun g => { g with stomped := g.stomped ++ [p] }

/-- Discard every queued copy of a frame and stomp those being cut through. -/
def Chip.spoil (c : Chip) (f : EswFrame) : Chip :=
  let c := forEach f.cut (fun p c => c.stomp f p) c
  forEach (f.copies.filter fun p => !f.cut.contains p) (fun p c => (c.captureDrop f 4).dropQueued f p) c

/-- The copies of a frame that wait for another copy of the same sequence number (R201). -/
def Chip.waiting (c : Chip) (x : Nat × Nat) : List EswFrame :=
  c.esw.frames.filter fun g => g.recovery == some x && g.waits

/-- A frame of a recovery function has ended good or bad (R201): a good number is recorded and further copies are discarded; after
a bad one the first copy that waits takes its place. -/
def Chip.recoveryEnd (c : Chip) (x : Nat × Nat) (good : Bool) : Chip :=
  let waits := c.waiting x
  let drop (c : Chip) (g : EswFrame) : Chip := (c.tblCount 4 x.1 32).spoil g
  if good then waits.foldl drop (c.recoveryPass x.1 x.2)
  else match waits with
    | [] => c
    | g :: rest =>
      let c := c.updFrame g.id fun g => { g with waits := false }
      if g.good then rest.foldl drop (c.recoveryPass x.1 x.2) else c

/-- The tail of a good frame: unused cells return and its copies become eligible (R191, R194); a stream filter's MAXSDU and the
MAXFRM of a MACsec egress are judged (R195, R202). -/
def Chip.goodTail (c : Chip) (f : EswFrame) : Chip :=
  let held := cellsOf f.len
  let c := (c.giveCells (f.cells - held)).updFrame f.id fun g => { g with good := true, cells := min g.cells held }
  let f := { f with good := true, cells := held }
  let c := c.mirrorFrame f f.ingress 0
  let c := match f.sec with
    | some t => c.secAccept f.ingress t
    | none => c
  let long := f.cut.filter fun p => decide (p < 2) && c.flag (ESW_P_MSEC_EN p) && decide (c.get (ESW_P_MAXFRM_N p) < f.len + 32)
  let c := forEach long (fun p c => c.stomp f p) c
  let sdu := match f.filter with
    | some i => c.tblBits 5 i 118 105 != 0 && decide (c.tblBits 5 i 118 105 < f.len)
    | none => false
  let c := c.when sdu fun c => ((c.tblCount 5 (f.filter.getD 0) 32).raise 271).spoil f
  match f.recovery with
  | some x => if f.waits then c else c.recoveryEnd x true
  | none => c

/-- ESW_FRAME_TAIL: the frame that arrives on port `p` ends, good or bad (R195). -/
def Chip.frameTail (c : Chip) (p : Nat) (fcsOk symOk icvOk eccOk : Bool) : Chip :=
  if !c.flag ESW_CTL_EN || !c.flag (ESW_P_CFG_EN p) then c
  else
    let f := (look none c.esw.receiving p).bind c.eswFrame
    let sec := match f with
      | some f => f.sec.isSome
      | none => false
    let slot := (f.bind fun f => f.sec.bind fun t => c.rxSa p t).map fun i => c.tblBits 7 i 119 110
    let noKey := match slot with
      | some n => decide (p < 2) && c.flag (ESW_P_MSEC_EN p) && !c.macsecKey n false
      | none => false
    let icvBad := (!icvOk || noKey) && sec && decide (p < 2)
    let c := c.when noKey Chip.keyRefused
    let giant := match f with
      | some f => decide (c.get (ESW_P_MAXFRM_N p) < f.len)
      | none => false
    let c := c.when (icvBad && c.get (ESW_P_MSEC_VALIDATE p) != 0) fun c => c.raise (272 + p)
    let c := c.when (!eccOk) fun c => c.raise 275
    let bad := !fcsOk || !symOk || !eccOk || giant || (icvBad && c.get (ESW_P_MSEC_VALIDATE p) == 2)
    let c := c.updEsw fun b => { b with receiving := put none b.receiving p none }
    if bad then
      let c := ((c.portCount p 1).stick (ESW_P_STAT_BADRX p)).raise (240 + p)
      match f with
      | none => c
      | some f =>
        let f := if giant then { f with bytes := f.bytes.take (c.get (ESW_P_MAXFRM_N p) - 4) } else f
        let c := (c.updFrame f.id fun _ => f).spoil f
        match f.recovery with
        | some x => if f.waits then c else c.recoveryEnd x false
        | none => c
    else
      let c := (c.portCount p 0).when (decide (p < 20)) fun c => c.segFrame (20 + p)
      match f with
      | none => c
      | some f => c.goodTail f

def execEswFrameTail (p : Fin 24) (fcsOk symOk icvOk eccOk : Bool) (s : State) : Host.Outcome State Fault Refusal :=
  s.eswOn fun c => c.frameTail p.val fcsOk symOk icvOk eccOk

/-- The head of the highest class of port `p` that may start: eligible frame, open gate, credit (R194, R198). -/
def Chip.selectHead (c : Chip) (p : Nat) : Option (Nat × EswFrame) :=
  ((List.range 8).map (7 - ·)).findSome? fun k =>
    match (c.eswQueue p k).head?.bind c.eswFrame with
    | some f => if f.good && !f.waits && c.classOpen p k then some (k, f) else none
    | none => none

/-- ESW_TX_SELECT: a free port takes its next frame (R198); on E0 and E1 MACsec takes a packet number, or the copy is discarded for
want of a valid SA or key (R205). -/
def Chip.txSelect (c : Chip) (p : Nat) : Chip :=
  let c := c.runCredits p
  if (c.sendingAt p).isSome || !c.portUp p then c
  else match c.selectHead p with
    | none => c
    | some (_, f) =>
      if p < 2 && c.flag (ESW_P_MSEC_EN p) && beField f.bytes (typeAt f.bytes) 2 != 0x888E then
        match c.txSa p with
        | some i =>
          let slot := c.tblBits 7 i 119 110
          if !c.macsecKey slot true then (c.keyRefused.captureDrop f 4).dropQueued f p
          else if decide (c.tblBits 7 i 63 0 < pnLimit (c.tbl 7 i).toNat) then ((c.keyUsed slot).secSend i).setSending p (some f.id)
          else (c.captureDrop f 4).dropQueued f p
        | none => (c.captureDrop f 4).dropQueued f p
      else c.setSending p (some f.id)

def execEswTxSelect (p : Fin 24) (s : State) : Host.Outcome State Fault Refusal := s.eswOn fun c => c.txSelect p.val

/-- Put the egress stamp of a PTP event message into the port's FIFO of 64 (R203). -/
def Chip.stampOut (c : Chip) (p : Nat) (f : EswFrame) (stamp : Nat) : Chip :=
  let i := typeAt f.bytes
  let kind := byteAt f.bytes (i + 2) % 16
  if !c.flag (ESW_P_CFG_TSEN p) || beField f.bytes i 2 != 0x88F7 || 3 < kind then c
  else
    let q := look [] c.esw.stamps p
    if 64 ≤ q.length then c.raise 277
    else
      let r := (1 <<< 127) + (kind <<< 120) + (byteAt f.bytes (i + 6) <<< 112) + (beField f.bytes (i + 32) 2 <<< 96) + stamp % 2 ^ 64
      c.updEsw fun b => { b with stamps := put [] b.stamps p (q ++ [BitVec.ofNat 128 r]) }

/-- ESW_TX_END: the transmission of a copy ends (R190); a host copy is delivered (R206), one for I2 is discarded (R208). -/
def Chip.txEnd (c : Chip) (p stamp : Nat) : Chip :=
  match (c.sendingAt p).bind c.eswFrame with
  | none => c
  | some f =>
    if !f.good && !f.stomped.contains p then c
    else
      let c := c.runCredits p
      let stomped := f.stomped.contains p
      let c := c.updFrame f.id fun g => { g with outStamp := stamp }
      let f := { f with outStamp := stamp }
      let c := c.when (p == 22) Chip.seamStray
      let c := if p = 21 then c.copyDropped 21 else c.when (!stomped) fun c => c.portCount p 2
      let c := c.when (p == 20) fun c => c.eswJob (.deliver f)
      let c := c.when (decide (p < 20) && !stomped) fun c => c.stampOut p f stamp
      let c := c.when (!stomped) fun c => c.mirrorFrame f p 1
      c.removeCopy p f.cls f.id

def execEswTxEnd (p : Fin 24) (stamp : W64) (s : State) : Host.Outcome State Fault Refusal :=
  s.eswOn fun c => c.txEnd p.val stamp.toNat

/-- ESW_LINK_DOWN: the frame in transmission is aborted and all queues emptied as DROPLINK (R193). -/
def Chip.linkDown (c : Chip) (p : Nat) : Chip :=
  let c := c.setSending p none
  let c := forAll 8 (fun k c => forEach (c.eswQueue p k) (fun id c =>
    let c := match c.eswFrame id with
      | some f => c.captureDrop f 4
      | none => c
    ((c.removeCopy p k id).portCount p 4).copyDropped p) c) c
  let c := ((c.setB (ESW_P_STAT_LINK p) false).set (ESW_P_STAT_RATE p) 0).stick (ESW_P_STAT_LINKCHG p)
  (c.setB (ESW_PHY_STAT_LINK p) false).raise (192 + p)

def execEswLinkDown (p : Fin 20) (s : State) : Host.Outcome State Fault Refusal := s.eswOn fun c => c.linkDown p.val

/-- ESW_LINK_UP (R211). -/
def Chip.linkUp (c : Chip) (p rate sqi : Nat) : Chip :=
  let c := ((c.setB (ESW_P_STAT_LINK p) true).set (ESW_P_STAT_RATE p) rate).set (ESW_P_STAT_SQI p) sqi
  let c := (c.setB (ESW_PHY_STAT_LINK p) true).set (ESW_PHY_STAT_SQI p) sqi
  (c.stick (ESW_P_STAT_LINKCHG p)).raise (192 + p)

def execEswLinkUp (p : Fin 20) (rate : Fin 5) (sqi : Fin 8) (s : State) : Host.Outcome State Fault Refusal :=
  s.onZone fun c => c.linkUp p.val rate.val sqi.val

/-! ### Host transmit (R193, R206, R207) -/

/-- A fetched host frame enters admission (R185, R193). -/
def Chip.hostAdmit (c : Chip) (q : Nat) (h : HostFrame) : Chip :=
  let f : EswFrame :=
    { id := 0, ingress := 20, bytes := h.bytes, stamp := c.frc, cls := bits h.desc 56 54, good := true,
      txDesc := some (q, h.index), txStampReq := bit h.desc 57 }
  if c.get (ESW_P_MAXFRM_N 20) < f.len then
    (((c.portCount 20 1).stick (ESW_P_STAT_BADRX 20)).raise 260).eswJob (.done q h.index stRANGE 0)
  else
    let c := (c.portCount 20 0).mirrorFrame f 20 0
    if bit h.desc 59 then
      if c.flag ESW_CTL_EN then c.eswAdmit { f with egress := [bits h.desc 64 60] } 0 else c.discardNew f
    else c.decide_ f 0

/-- HOST_FRAME_FETCHED: the next transmit descriptor of pair `q` and its frame have been fetched whole; a TRIG frame waits at the
head, any other enters admission. -/
def State.hostFetched (s : State) (q : Nat) (memErr : Bool) : State :=
  let c := s.chip
  let fn := c.pairFn q
  let i := look 0 c.esw.txFetch q
  if !c.flag (ESW_HQ_CFG_EN q) || (fn < 64 && c.get (SFE_FN_CFG_STATE fn) != 2) || i = c.get (ESW_HQ_TXPI_I q)
      || (look none c.esw.trigWait q).isSome then s
  else
    let t := c.pairTag q
    let c := c.updEsw fun b => { b with
      txFetch := put 0 b.txFetch q ((i + 1) % c.ringSize q)
      txOpen := upd [] b.txOpen q fun l => l ++ [(i, false)] }
    let fail (s : State) (st : Nat) : State := { s with chip := (s.chip.raise 279).eswJob (.done q i st 0) }
    match ({ s with chip := c } : State).busRead t (c.get (ESW_HQ_TXBASE_A q) + 32 * i) 16 with
    | (none, s) => fail s stINTEGRITY
    | (some d, s) =>
      let d := leNat d
      let n := bits d 53 40
      if memErr then fail s stINTEGRITY
      else if n < 60 || 9212 < n || (bit d 59 && 19 < bits d 64 60) then fail s stRANGE
      else match s.busRead t (d % 2 ^ 40) n with
        | (none, s) => fail s stINTEGRITY
        | (some bs, s) =>
          let h : HostFrame := { bytes := bs, desc := d, index := i }
          if bit d 58 then { s with chip := s.chip.updEsw fun b => { b with trigWait := put none b.trigWait q (some h) } }
          else { s with chip := s.chip.hostAdmit q h }

def execHostFrameFetched (q : Fin 256) (memErr : Bool) (s : State) : Host.Outcome State Fault Refusal :=
  s.onZoneMem fun s => (s.hostFetched q.val memErr).eswFlush

/-- ESW_HQ_TRIGGER: a class 3 kind 2 occurrence fires for pair `q` (R207). -/
def Chip.hqTrigger (c : Chip) (q : Nat) : Chip :=
  match c.dueAction 3 (0x2000 + q) with
  | none => c
  | some a =>
    let c := c.dropAction a
    match look none c.esw.trigWait q with
    | none => c.satInc (ESW_HQ_CNT_TRIGMISS q)
    | some h => (c.updEsw fun b => { b with trigWait := put none b.trigWait q none }).hostAdmit q h

def execEswHqTrigger (q : Fin 256) (s : State) : Host.Outcome State Fault Refusal := s.eswOn fun c => c.hqTrigger q.val

/-! ### Gates (R199) -/

/-- Set the gates of an E port; a transmission whose gate closes runs on and is counted (R199). -/
def Chip.setGates (c : Chip) (p g : Nat) : Chip :=
  let exceeded := match (c.sendingAt p).bind c.eswFrame with
    | some f => bit (c.get (ESW_P_GATE_NOW p)) f.cls && !bit g f.cls
    | none => false
  let c := (c.runCredits p).set (ESW_P_GATE_NOW p) g
  c.when exceeded fun c => ((c.portCount p 8).stick (ESW_P_STAT_TXOVR p)).raise 269

/-- ESW_GATE_STEP: the port's next due gate step; a port that serves the Hatband takes none (R182, R199). -/
def Chip.gateStep (c : Chip) (p : Nat) : Chip :=
  match c.dueAction 3 (0x3000 + p) with
  | none => c
  | some a => let c := c.dropAction a
              if c.hatbandPort p then c else c.setGates p (a.arg % 256)

def execEswGateStep (p : Fin 20) (s : State) : Host.Outcome State Fault Refusal := s.onZone fun c => c.gateStep p.val

/-! ### Tables (R186–R188) -/

/-- The entries of a table. -/
def tblSize (t : Nat) : Nat :=
  match t with
  | 0 => 16384
  | 1 => 4096
  | 2 => 256
  | 3 => 128
  | 4 => 128
  | 5 => 256
  | 6 => 128
  | 7 => 20
  | _ => 0

/-- An entry with its named fields alone, read-only fields kept from the old entry (R188). -/
def tblMerge (t : Nat) (old new : W128) : W128 :=
  let keep (v : W128) (hi lo : Nat) : W128 := setBits v hi lo (bits old.toNat hi lo)
  match t with
  | 0 => keep (setBits (setBits new 124 120 0) 87 60 0) 125 125
  | 1 => setBits (setBits new 125 80 0) 71 60 0
  | 2 => setBits (setBits new 100 60 0) 47 0 (bits new.toNat 47 0)
  | 3 => setBits (setBits new 126 112 0) 95 0 0
  | 4 => setBits (keep (keep (keep (setBits new 104 96 0) 95 64) 63 32) 31 16) 15 0 0
  | 5 => keep (keep (keep (setBits new 104 96 0) 95 64) 63 32) 31 0
  | 6 => setBits (setBits new 124 100 0) 27 0 0
  | _ => setBits (setBits new 121 120 0) 109 96 0

/-- Whether an entry holds an encoding that R188 does not give. -/
def tblReserved (t : Nat) (v : Nat) : Bool :=
  match t with
  | 0 => bit v 127 && !bit v 126 && (List.range 24).countP (fun p => bit v (88 + p)) != 1
  | 4 => bit v 127 && (decide (bits v 126 121 < 2) || decide (32 < bits v 126 121) || bits v 120 105 == 0)
  | 7 => bits v 123 122 == 3
  | _ => false

/-- End a table command. -/
def Chip.tblDone (c : Chip) (st : Nat) : Chip :=
  let c := c.set ESW_TBL_CMD_STATUS st
  if st = stOK then c else c.raise 276

/-- Whether a MAC entry is dynamic. -/
def macDynamic (v : Nat) : Bool := bit v 127 && !bit v 126

/-- Remove the dynamic MAC entries that `p` selects. -/
def Chip.removeMacs (c : Chip) (p : Nat → Bool) : Chip :=
  c.updEsw fun b => { b with tables := b.tables.filter fun e => !(decide (e.1 < 16384) && macDynamic e.2.toNat && p e.2.toNat) }

/-- Carry out a table command (R187, R188). -/
def Chip.tblRun (c : Chip) (w : Who) (op t i : Nat) : Chip :=
  let key := c.rdN ESW_TBL_KEY
  let data := c.rd ESW_TBL_DATA
  let fid := bits key 59 48
  let addr := bits key 47 0
  match op with
  | 1 => if tblSize t ≤ i then c.tblDone stRANGE else (c.wr ESW_TBL_DATA (c.tbl t i)).tblDone stOK
  | 2 =>
    let ports := bits data.toNat 23 0 ||| bits data.toNat 47 24
    match (if t = 1 then [18, 19].find? (fun p => c.hatbandPort p && bit ports p) else none) with
    | some p => (c.conflict 3 p 7 w).tblDone stRES_CLAIMED
    | none =>
      if tblSize t ≤ i || tblReserved t data.toNat then c.tblDone stRANGE
      else (c.setTbl t i (tblMerge t (c.tbl t i) data)).tblDone stOK
  | 3 =>
    if t ≠ 0 then c.tblDone stRANGE
    else match c.macFind fid addr with
      | some j => (c.set ESW_TBL_CMD_INDEX j).tblDone stOK
      | none => c.tblDone stNO_OBJECT
  | 4 =>
    let v := setBits (setBits (setBits data 127 127 1) 59 48 fid) 47 0 addr
    if t ≠ 0 || tblReserved 0 v.toNat then c.tblDone stRANGE
    else match (match c.macFind fid addr with | some j => some j | none => c.macFree fid addr) with
      | some j => ((c.setTbl 0 j (tblMerge 0 (c.tbl 0 j) v)).set ESW_TBL_CMD_INDEX j).tblDone stOK
      | none => c.tblDone stBUSY
  | 5 =>
    if t ≠ 0 then c.tblDone stRANGE
    else match c.macFind fid addr with
      | some j => (c.setTbl 0 j 0).tblDone stOK
      | none => c.tblDone stNO_OBJECT
  | 6 =>
    let port := key % 32
    if port ≠ 31 && 24 ≤ port then c.tblDone stRANGE
    else (c.removeMacs fun v => (port == 31 || bit v (88 + port)) && (!bit key 60 || bits v 59 48 == fid)).tblDone stOK
  | _ => c

/-- A write of ESW_TBL_CMD by W1; a reserved OP or TABLE is refused (R187, R210). -/
def Chip.tblWrite (c : Chip) (w : Who) (v : Nat) : Chip :=
  if w.world ≠ 1 then c
  else
    let op := bits v 30 28
    let t := bits v 27 24
    if op = 7 || 8 ≤ t then c.tblDone stRANGE
    else ((c.set ESW_TBL_CMD_TABLE t).set ESW_TBL_CMD_INDEX (bits v 13 0)).tblRun w op t (bits v 13 0)

/-- An uncorrectable error in a table entry invalidates it (R189). -/
def Chip.tblEcc (c : Chip) (t i : Nat) : Chip := c.when (decide (i < tblSize t)) fun c => (c.setTbl t i 0).raise 275

/-- A written word with its OP field set. -/
def withOp (v op : Nat) : Nat := (setBits (BitVec.ofNat 128 v) 30 28 op).toNat

/-- ESW_TBL_READ: a write of ESW_TBL_CMD with OP READ. -/
def execEswTblRead (a : Agent) (v : W32) (ecc : Bool) (s : State) : Host.Outcome State Fault Refusal :=
  s.by a fun w c => (c.when (ecc && w.world == 1) fun c => c.tblEcc (bits v.toNat 27 24) (bits v.toNat 13 0)).tblWrite w (withOp v.toNat 1)

/-- ESW_TBL_WRITE: a write of ESW_TBL_CMD with OP WRITE. -/
def execEswTblWrite (a : Agent) (v : W32) (s : State) : Host.Outcome State Fault Refusal :=
  s.by a fun w c => c.tblWrite w (withOp v.toNat 2)

/-- LOOKUP: a write of ESW_TBL_CMD with OP LOOKUP. -/
def execEswLookup (a : Agent) (v : W32) (s : State) : Host.Outcome State Fault Refusal :=
  s.by a fun w c => c.tblWrite w (withOp v.toNat 3)

/-- INSERT: a write of ESW_TBL_CMD with OP INSERT. -/
def execEswInsert (a : Agent) (v : W32) (s : State) : Host.Outcome State Fault Refusal :=
  s.by a fun w c => c.tblWrite w (withOp v.toNat 4)

/-- DELETE: a write of ESW_TBL_CMD with OP DELETE. -/
def execEswDelete (a : Agent) (v : W32) (s : State) : Host.Outcome State Fault Refusal :=
  s.by a fun w c => c.tblWrite w (withOp v.toNat 5)

/-- FLUSH: a write of ESW_TBL_CMD with OP FLUSH. -/
def execEswFlush (a : Agent) (v : W32) (s : State) : Host.Outcome State Fault Refusal :=
  s.by a fun w c => c.tblWrite w (withOp v.toNat 6)

/-- A write of ESW_CTL by W1 (R210). -/
def Chip.eswCtlWrite (c : Chip) (w : Who) (v : Nat) : Chip :=
  c.when (w.world == 1) fun c =>
    let c := c.wrN ESW_CTL (v &&& 0x00FFFF0D)
    let c := c.setB ESW_STAT_RUN (bit v 0)
    c.when (bit v 1) fun c => c.removeMacs fun _ => true

/-- FLUSHDYN: a write of ESW_CTL with FLUSHDYN = 1. -/
def execEswFlushdyn (a : Agent) (v : W32) (s : State) : Host.Outcome State Fault Refusal :=
  s.by a fun w c => c.eswCtlWrite w (setBit v.toNat 1 true)

/-- ESW_AGE_TICK: dynamic entries with HIT = 0 leave, HIT of the others is cleared; ESW_AGE = 0 disables ageing (R186). -/
def Chip.ageTick (c : Chip) : Chip :=
  c.when (c.get ESW_AGE_S != 0) fun c =>
    let c := c.removeMacs fun v => !bit v 125
    c.updEsw fun b => { b with tables := b.tables.map fun e =>
      if e.1 < 16384 && macDynamic e.2.toNat then (e.1, setBits e.2 125 125 0) else e }

def execEswAgeTick (s : State) : Host.Outcome State Fault Refusal := s.onZone Chip.ageTick

/-- ESW_TSFIFO_READ: a read of the lowest word removes the oldest egress stamp (R11, R203). -/
def Chip.tsfifoRead (c : Chip) (w : Who) (p : Nat) : Chip :=
  let q := look [] c.esw.stamps p
  let v := q.headD 0
  let c := c.updEsw fun b => { b with stamps := put [] b.stamps p (q.drop 1) }
  (c.latch w.key (ESW_P_TSFIFO p).addr v).respond w.key false (v.toNat % 2 ^ 32)

def execEswTsfifoRead (a : Agent) (p : Fin 20) (s : State) : Host.Outcome State Fault Refusal :=
  s.by a fun w c => c.tsfifoRead w p.val

/-- ESW_RECOVERY_RESET: a recovery function has seen no frame for RESET ms (R201). -/
def Chip.recoveryReset (c : Chip) (r : Nat) : Chip :=
  let due := ((look {} c.esw.recs r).lastAt).map (· + c.tblBits 4 r 120 105 * 1000000)
  c.when (c.tblBits 4 r 127 127 == 1 && c.dueAt due) fun c =>
    let n := min (c.tblBits 4 r 31 16 + 1) 65535
    let c := c.setTbl 4 r (setBits (c.tbl 4 r) 31 16 n)
    (c.updEsw fun b => { b with recs := put {} b.recs r {} }).raise 270

def execEswRecoveryReset (r : Fin 128) (s : State) : Host.Outcome State Fault Refusal := s.onZone fun c => c.recoveryReset r.val

/-! ### Port configuration (R182, R199, R210) -/

/-- A refused write of a port register. -/
def Chip.portRefused (c : Chip) (p st : Nat) : Chip := c.set (ESW_P_STAT_LASTERR p) st

/-- Why enabling port `p` conflicts: its PHY serves the Hatband, or the world does not claim it (R182, R540). -/
def Chip.portConflict (c : Chip) (w : Who) (p : Nat) : Option Nat :=
  if c.hatbandPort p then some 7
  else if p < 20 && !c.claims w.world 3 p then some 0xFF
  else none

/-- A write of ESW_Pp_CFG by the port's claimant (R182, R199, R210). -/
def Chip.portCfgWrite (c : Chip) (w : Who) (p v : Nat) : Chip :=
  if !c.claims w.world 2 p then c.portRefused p stDENIED_WORLD
  else if bits v 28 27 = 3 || bits v 11 0 = 0 || 4094 < bits v 11 0 then c
  else
    let rises := bit v 31 && !c.flag (ESW_P_CFG_EN p)
    match (if rises then c.portConflict w p else none) with
    | some h => (c.conflict 3 p h w).portRefused p stRES_CLAIMED
    | none =>
      let c := c.when (bit v 24) fun c => forAll 10 (fun i c => c.wrN (ESW_P_CNT p i) 0) c
      let c := c.wrN (ESW_P_CFG p) (v &&& 0xFEE00FFF)
      c.when rises fun c => c.set (ESW_P_GATE_NOW p) (c.get (ESW_P_GATE_INIT p))

/-- ESW_PORT_ENABLE: a write of ESW_Pp_CFG with EN = 1. -/
def execEswPortEnable (a : Agent) (p : Fin 24) (v : W32) (s : State) : Host.Outcome State Fault Refusal :=
  s.by a fun w c => c.portCfgWrite w p.val (setBit v.toNat 31 true)

/-- ESW_PORT_CLRCNT: a write of ESW_Pp_CFG with CLRCNT = 1. -/
def execEswPortClrcnt (a : Agent) (p : Fin 24) (v : W32) (s : State) : Host.Outcome State Fault Refusal :=
  s.by a fun w c => c.portCfgWrite w p.val (setBit v.toNat 24 true)

/-- The rate of a port by R181, in kb/s. -/
def portNominal (p : Nat) : Nat :=
  if p < 2 then 10000000 else if p < 6 then 1000000 else if p < 14 then 100000 else if p < 20 then 10000
  else if p = 20 then 20000000 else if p = 22 then 100000 else 1000000

/-- A write of a port's CBS register: the idle slopes of a port take at most 75 % of its rate (R200). -/
def Chip.cbsWrite (c : Chip) (w : Who) (p k v : Nat) : Chip :=
  if !c.claims w.world 2 p then c.portRefused p stDENIED_WORLD
  else
    let sum := (List.range 8).foldl (fun n j => n + if j = k then bits v 23 0 else c.get (ESW_P_CBS_IDLE p j)) 0
    if portNominal p * 3 < sum * 4 then c.portRefused p stRANGE
    else (c.runCredits p).wrN (ESW_P_CBS p k) (v &&& 0x80FFFFFF)

/-- A write of a port's MAXFRM, only while it is disabled (R210). -/
def Chip.maxfrmWrite (c : Chip) (w : Who) (p v : Nat) : Chip :=
  if !c.claims w.world 2 p then c.portRefused p stDENIED_WORLD
  else if bits v 13 0 < 64 || 9216 < bits v 13 0 then c
  else if c.flag (ESW_P_CFG_EN p) then c.portRefused p stBUSY
  else c.wrN (ESW_P_MAXFRM p) (bits v 13 0)

/-- A write of ESW_MIR_CTL by W1; an enable needs its ring wholly in LPDDR5 (R209). -/
def Chip.mirCtlWrite (c : Chip) (w : Who) (v : Nat) : Chip :=
  let n := bits v 28 24
  if w.world ≠ 1 || n < 6 || 16 < n || 8 ≤ bits v 19 16 then c
  else if bit v 31 && !inDram (c.get ESW_MIR_BASE_A) (160 * 2 ^ n) then c
  else c.wrN ESW_MIR_CTL (v &&& 0xDF0F0000)

/-! ### Reset and sleep (R213) -/

/-- Empty the buffer and every queue. -/
def Chip.eswEmpty (c : Chip) : Chip :=
  (c.updEsw fun b => { b with
    frames := []
    queues := []
    sending := []
    receiving := []
    pubs := []
    trigWait := []
    txOpen := [] }).set ESW_STAT_FREE 49152

/-- Sleep entry: the buffer empties and dynamic MAC entries leave. -/
def Chip.eswSleep (c : Chip) : Chip := c.eswEmpty.removeMacs fun _ => true

/-- A reset of warm reach or wider. -/
def Chip.eswReset (c : Chip) : Chip := c.updEsw fun _ => {}

/-- A partition reset of a VF empties its host queue pairs and discards their frames. -/
def Chip.eswVfReset (c : Chip) (f : Nat) : Chip :=
  let qs := (List.range 256).filter (c.inRange f 0)
  let mine := c.esw.frames.filter fun x => match x.txDesc with
    | some (q, _) => qs.contains q
    | none => false
  let c := forEach mine (fun x c => (c.updFrame x.id fun x => { x with txDesc := none }).spoil x) c
  forEach qs (fun q c => (c.wrN (ESW_HQ_CNT q) 0).updEsw fun b => { b with
    trigWait := put none b.trigWait q none
    txOpen := put [] b.txOpen q []
    txFetch := put 0 b.txFetch q 0 }) c

end Sys2Proof.Machine
end

