-- ==== Sys2Proof/Machine/Nmw.lean ====
section
/-! DEFINITION. Segments, wake sources and the sleep agreement: R280–R288. -/

namespace Sys2Proof.Machine

/-! ### Segments (R280, R281) -/

/-- Segment `s` falls asleep while the module stays awake. -/
def Chip.segIsolate (c : Chip) (s : Nat) : Chip :=
  c.when (c.segAwake s) fun c =>
    let c :=
      if s < 12 then match look none c.can.active s with
        | some k => (c.canRelease s).updObj (128 * s + k) fun o => { o with tx := .pending }
        | none => c
      else if s < 20 then c.linGoToSleep (s - 12)
      else if s < 40 then c.when (c.flag (ESW_P_STAT_LINK (s - 20))) fun c => c.linkDown (s - 20)
      else c
    c.segShow s false

/-- Segment `s` wakes: the steps are reversed. -/
def Chip.segWake (c : Chip) (s : Nat) : Chip :=
  c.when (!c.segAwake s) fun c =>
    let c := c.when (decide (12 ≤ s ∧ s < 20)) fun c => c.setB (LIN_STAT_ASLEEP (s - 12)) false
    c.segShow s true

/-- Whether a world claims segment `s`: its controller, commander or port, or for the Hatband channels W2 (R215, R538). -/
def Chip.segClaimed (c : Chip) (w s : Nat) : Bool :=
  if s < 12 then c.claims w 7 s else if s < 20 then c.claims w 8 (s - 12) else if s < 40 then c.claims w 2 (s - 20) else w == 2

/-- Why bit `s` of a segment mask keeps its value at a write that would change it (R280, R281). -/
def Chip.segRefusal (c : Chip) (w s : Nat) : Option Nat :=
  if (s = 38 || s = 39) && c.hatbandPort (s - 20) then some stRES_CLAIMED
  else if !c.segClaimed w s then some stDENIED_WORLD
  else if 40 ≤ s && c.hbState ≠ hsCONFIG && c.hbState ≠ hsHALT then some stBUSY
  else none

/-- SEG_ISO_WRITE: each bit within the writer's claims isolates or wakes its segment. -/
def Chip.segIsoWrite (c : Chip) (w : Who) (v : Nat) : Chip :=
  forAll 42 (fun s c =>
    let want := bit v s
    if want = c.segIso s then c
    else match c.segRefusal w.world s with
      | some st => c.nmwRefuse st
      | none =>
        let c := c.set NMW_SEGISO_ISO (setBit (c.get NMW_SEGISO_ISO) s want)
        if want then c.segIsolate s else c.segWake s) c

def execSegIsoWrite (a : Agent) (v : W128) (s : State) : Host.Outcome State Fault Refusal :=
  s.byMem a fun w s => ({ s with chip := s.chip.segIsoWrite w v.toNat } : State).eswFlush

/-- A write of NMW_SEGBWK: each bit within the writer's claims. -/
def Chip.segBwkWrite (c : Chip) (w : Who) (v : Nat) : Chip :=
  forAll 42 (fun s c =>
    let want := bit v s
    if want = bit (c.get NMW_SEGBWK_BWK) s then c
    else if c.segClaimed w.world s then c.set NMW_SEGBWK_BWK (setBit (c.get NMW_SEGBWK_BWK) s want)
    else c.nmwRefuse stDENIED_WORLD) c

/-! ### Wake sources (R282, R285, R286) -/

/-- Whether firmware has not let source `code` be inhibited. -/
def Chip.notInhibited (c : Chip) (code : Nat) : Bool :=
  if code < 16 then !bit (c.get NMW_INH_WAKES) code
  else if 32 ≤ code then !bit (c.get NMW_INH_SEGS) (code - 32)
  else true

/-- WAKE_SOURCE: a WAKE line or LSW whose filtered state has changed to 1 fires; an LSW also wakes its segments. -/
def Chip.wakeSource (c : Chip) (code : Nat) : Chip :=
  c.when (c.nmw.fired.contains code) fun c =>
    let c := c.updNmw fun b => { b with fired := b.fired.filter (· != code) }
    c.when (c.notInhibited code) fun c =>
      let c := c.when (decide (16 ≤ code)) fun c =>
        forAll 42 (fun s c => c.when (bit (c.get (NMW_LSW_SEG_SEGS (code - 16))) s) fun c =>
          let c := c.set NMW_SEGISO_ISO (setBit (c.get NMW_SEGISO_ISO) s false)
          c.when (c.pmu.power == .run && c.slState != slENTRY) fun c => c.segWake s) c
      c.wakeFire code

def execWakeSource (code : Fin 24) (s : State) : Host.Outcome State Fault Refusal := s.on fun c => c.wakeSource code.val

/-- BUS_WAKE: a sleeping segment's wake detection fires; on an isolated one it is only counted, and in DEEP it is not detected. -/
def Chip.busWake (c : Chip) (s : Nat) : Chip :=
  let code := busWakeCode s
  c.when (!c.segAwake s && c.pmu.power != .deep) fun c =>
    if c.segIso s then c.segSupp s
    else c.when (bit (c.get NMW_SEGBWK_BWK) s && c.notInhibited code) fun c => c.wakeFire code

def execBusWake (s : Fin 42) (st : State) : Host.Outcome State Fault Refusal := st.on fun c => c.busWake s.val

/-- SLEEP_TIMER_WAKE: NMW_SLPTMR seconds of sleep have passed. -/
def Chip.sleepTimerWake (c : Chip) : Chip :=
  c.when (c.pmu.power != .run && c.get NMW_SLPTMR_S != 0 && c.dueNow (some (c.pmu.sleptAt + c.get NMW_SLPTMR_S * 1000000000))) fun c =>
    c.wakeFire 24

def execSleepTimerWake (s : State) : Host.Outcome State Fault Refusal := s.on Chip.sleepTimerWake

/-- WAKE_HOLD_EXPIRY: the hold ends; an unvalidated wake is false, and its source may be inhibited (R286). -/
def Chip.wakeHoldExpiry (c : Chip) : Chip :=
  c.when (c.pmu.power == .run && c.dueAt c.nmw.hold) fun c =>
    let bad := !c.nmw.validated
    let src := c.nmw.holdSrc
    let c := c.updNmw fun b => { b with hold := none, holdSrc := none, validated := false }
    let c := match src with
      | none => c
      | some code =>
        c.when bad fun c =>
          let c := ((c.satInc (NMW_SRC_CNT_FALSE code)).satInc (NMW_SRC_CNT_CONSEC code)).raise 427
          let lim := c.get NMW_VALWIN_FWLIM
          c.when (lim != 0 && decide (lim ≤ c.get (NMW_SRC_CNT_CONSEC code)) && (decide (code < 16) || decide (32 ≤ code))) fun c =>
            let c := if code < 16 then c.set NMW_INH_WAKES (setBit (c.get NMW_INH_WAKES) code true)
              else c.set NMW_INH_SEGS (setBit (c.get NMW_INH_SEGS) (code - 32) true)
            c.raise 428
    c.slHolds

def execWakeHoldExpiry (s : State) : Host.Outcome State Fault Refusal := s.onZone Chip.wakeHoldExpiry

/-- A write of NMW_SLP_CTL: EN, VALID and KACLR. -/
def Chip.slpCtlWrite (c : Chip) (w : Who) (v : Nat) : Chip :=
  if w.world ≠ 1 then c.nmwRefuse stDENIED_WORLD
  else
    let c := c.setB NMW_SLP_CTL_EN (bit v 0)
    let c := c.when (bit v 1) Chip.holdValidate
    let c := c.when (bit v 2) fun c => (forAll 192 (fun i c => c.wrN (NMW_KALOG (i / 3) (i % 3)) 0) c).wrN NMW_KASTAT 0
    c.slHolds

def execWakeValidate (a : Agent) (v : W32) (s : State) : Host.Outcome State Fault Refusal := s.by a fun w c => c.slpCtlWrite w v.toNat

def execKaclr (a : Agent) (v : W32) (s : State) : Host.Outcome State Fault Refusal := s.by a fun w c => c.slpCtlWrite w v.toNat

/-! ### The sleep agreement (R283–R285, R287) -/

/-- SLEEP_VOTE: a world writes its own bit. -/
def Chip.sleepVote (c : Chip) (w : Who) (v : Nat) : Chip :=
  if w.world = 0 || 4 < w.world then c.nmwRefuse stDENIED_WORLD
  else (c.set NMW_VOTE_VOTES (setBit (c.get NMW_VOTE_VOTES) (w.world - 1) (bit v w.world))).slHolds

def execSleepVote (a : Agent) (v : W32) (s : State) : Host.Outcome State Fault Refusal := s.by a fun w c => c.sleepVote w v.toNat

/-- READY_TIMEOUT: no keep-awake message for TREADY ms. -/
def Chip.readyTimeout (c : Chip) : Chip :=
  c.when (c.slState == slREADY && c.due (c.nmw.readyAt + c.get NMW_SLP_TIM_TREADY * 1000000)) fun c => c.slEnter slPREPARE

def execReadyTimeout (s : State) : Host.Outcome State Fault Refusal := s.onZone Chip.readyTimeout

/-- The commit point (R285). -/
def Chip.commitPoint (c : Chip) : Nat := c.nmw.prepAt + c.get NMW_SLP_TIM_TPREP * 1000000

/-- GUARD_WINDOW_OPEN: 2.0 ms before the commit point; go-to-sleep on the awake LIN segments. -/
def Chip.guardOpen (c : Chip) : Chip :=
  c.when (c.slState == slPREPARE && !c.nmw.guard && c.due (c.commitPoint - 2000000)) fun c =>
    let c := c.updNmw fun b => { b with guard := true }
    forAll 8 (fun n c => c.when (c.segAwake (12 + n)) fun c => c.linGoToSleep n) c

def execGuardWindowOpen (s : State) : Host.Outcome State Fault Refusal := s.onZone Chip.guardOpen

/-- Whether a message matches filter `f` and keeps the network awake (R284); the result is its source address. -/
def Chip.kaMatch (c : Chip) (f s id sender : Nat) (payload : List Byte) : Option Nat :=
  let byte (i : Nat) : Option Nat := (payload[i]?).map (·.toNat)
  let same := if s < 12 then ((id ^^^ c.get (NMW_KAF_ID f)) &&& c.get (NMW_KAF_MASK f)) == 0
    else if s < 20 then false
    else id % 65536 == c.get (NMW_KAF_ID f) % 65536
  let ofs := c.get (NMW_KAF_KAOFS f)
  let keeps := ofs == 0xFF || match byte ofs with | some b => bit b (c.get (NMW_KAF_KABIT f)) | none => false
  if c.flag (NMW_KAF_VALID f) && c.get (NMW_KAF_SEG f) == s && same && keeps then
    match c.get (NMW_KAF_SASRC f) with
    | 0 => some (id % 256)
    | 1 => some ((byte (c.get (NMW_KAF_SAOFS f))).getD 0)
    | _ => some sender
  else none

/-- Log a keep-awake message (R287). -/
def Chip.kaLog (c : Chip) (s sa : Nat) : Chip :=
  let now := c.tdRead 0 c.frc
  let word (i : Nat) : Nat := c.rdN (NMW_KALOG i 0)
  match (List.range 64).find? fun i => bit (word i) 127 && bits (word i) 117 112 == s && bits (word i) 103 96 == sa with
  | some i =>
    let n := min (word i % 2 ^ 32 + 1) (2 ^ 32 - 1)
    (c.wr (NMW_KALOG i 0) (setBits (c.rd (NMW_KALOG i 0)) 31 0 n)).wrN (NMW_KALOG i 2) now
  | none =>
    match (List.range 64).find? fun i => !bit (word i) 127 with
    | some i =>
      let c := c.wrN (NMW_KALOG i 0) ((1 <<< 127) + (s <<< 112) + (sa <<< 96) + 1)
      (((c.wrN (NMW_KALOG i 1) now).wrN (NMW_KALOG i 2) now).set NMW_KASTAT_USED (c.get NMW_KASTAT_USED + 1)).raise 429
    | none => c.satInc NMW_KASTAT_LOGLOST

/-- KEEP_AWAKE_MESSAGE: a frame on an awake segment that a filter takes as keep-awake. -/
def Chip.keepAwake (c : Chip) (s id sender : Nat) (payload : List Byte) : Chip :=
  let hit := if c.segAwake s then (List.range 16).findSome? fun f => c.kaMatch f s id sender payload else none
  match hit with
  | none => c
  | some sa =>
    let st := c.slState
    let c := c.when (st != slAWAKE) fun c => c.kaLog s (sa % 256)
    if st = slREADY then c.updNmw fun b => { b with readyAt := c.frc }
    else if st = slPREPARE && !c.nmw.guard then c.slEnter slREADY
    else c

def execKeepAwakeMessage (s : Fin 42) (id sender : Nat) (payload : List Byte) (st : State) : Host.Outcome State Fault Refusal :=
  st.onZone fun c => c.keepAwake s.val id sender payload

end Sys2Proof.Machine
end

