-- ==== Sys2Proof/Machine/RegFind.lean ====
section
/-! DEFINITION. Finding the register at an address, and what a reset or sleep clears of the register map (R7, R9, R440). -/

namespace Sys2Proof.Machine

/-- The indices of the register at distance `d` from the first of a row with these strides and counts; none where there is none. -/
def dimIndex : List (Nat × Nat) → Nat → Option (List Nat)
  | [], d => if d = 0 then some [] else none
  | (s, n) :: t, d =>
    if s = 0 then none
    else
      let k := d / s
      if k < n then (dimIndex t (d - k * s)).map (k :: ·) else none

/-- A register found in the map: its row, its indices and its address. -/
structure Found where
  row : RegRow
  idx : List Nat
  addr : Nat
  deriving DecidableEq, Repr

/-- The register whose first byte is at `a`. -/
def regAt (a : Nat) : Option Found :=
  regRows.findSome? fun r =>
    if a < r.addr then none else (dimIndex r.dims (a - r.addr)).map fun l => { row := r, idx := l, addr := a }

/-- The number of an instance among those of its row. -/
def Found.flat (f : Found) : Nat :=
  (f.row.dims.zip f.idx).foldl (fun (n : Nat) x => n * x.1.2 + x.2) 0

/-- The register with the reset value of its instance. -/
def Found.reg (f : Found) : Reg :=
  ⟨f.addr, (f.row.exc.find? fun e => e.1 == f.flat).elim f.row.rst (·.2)⟩

/-- Whether a reset of a reach clears the register at an address. -/
def clearedBy (reach a : Nat) : Bool :=
  match regAt a with
  | some f => decide (f.row.clears ≤ reach)
  | none => false

/-- Every register that a reset of a reach clears takes its reset value. -/
def Chip.dropRegs (c : Chip) (reach : Nat) : Chip := { c with regs := c.regs.filter fun e => !clearedBy reach e.1 }

/-- Every register that sleep clears takes its reset value. -/
def Chip.dropSleepRegs (c : Chip) : Chip :=
  { c with regs := c.regs.filter fun e => match regAt e.1 with | some f => !f.row.sleepClears | none => true }

end Sys2Proof.Machine
end

