-- ==== Sys2Proof/Machine/Hatbox.lean ====
section
/-! DEFINITION. The Hatbox measuring island: R475–R501. It times itself in the model's ns. -/

namespace Sys2Proof.Machine

/-- Replace the Hatbox's own state. -/
def Chip.updHbx (c : Chip) (f : HbxBlk → HbxBlk) : Chip := { c with hbx := f c.hbx }

/-- Do `f` where the Hatbox is fitted and in ACTIVE. -/
def Chip.hbxOn (c : Chip) (f : Chip → Chip) : Chip := c.when (c.variantH && c.hbx.power == .active) f

/-! ### Time (R485–R487) -/

/-- UTC of the RTC, in units of 2^-16 ns. -/
def Chip.hbxUtc (c : Chip) : Nat := c.hbx.rtc + (c.now - c.hbx.rtcAt) * 65536

/-- Set the RTC. -/
def Chip.hbxSetUtc (c : Chip) (u : Nat) : Chip := c.updHbx fun h => { h with rtc := u, rtcAt := c.now }

/-- Whether `t` lies within the last `d` ns. -/
def Chip.hbxWithin (c : Chip) (t : Option Nat) (d : Nat) : Bool :=
  match t with
  | some t => decide (c.now ≤ t + d)
  | none => false

/-- The quality of a time mark: 2 disciplined within 10 minutes, 1 valid, 0 otherwise. -/
def Chip.hbxQuality (c : Chip) : Nat :=
  if c.hbxWithin c.hbx.discAt 600000000000 then 2 else b2n c.hbx.timeValid

/-- Whether the GNSS fix is valid (R485). -/
def Chip.hbxFix (c : Chip) : Bool := c.hbx.rmcA && c.hbx.ggaOk && c.hbx.ppsOk

/-! ### Records (R488–R491) -/

/-- The type numbers of R489. -/
def rtSTART : Nat := 0x0001
def rtACTIVITY : Nat := 0x0002
def rtCARD : Nat := 0x0003
def rtTOLL : Nat := 0x0004
def rtTAMPER : Nat := 0x0005
def rtCALIB : Nat := 0x0006
def rtTIMEADJ : Nat := 0x0007
def rtPOWER : Nat := 0x0008
def rtFIRMWARE : Nat := 0x0009
def rtLIFECYCLE : Nat := 0x000A
def rtDOWNLOAD : Nat := 0x000B
def rtINPUT : Nat := 0x000C
def rtSTATUS : Nat := 0x000D
def rtDAY : Nat := 0x000E
def rtFAULT : Nat := 0x000F
def rtSEAL : Nat := 0x00FF

/-- FLAGS bits that a record's circumstance adds. -/
def rfZONEINPUT : Nat := 8
def rfRECOVERED : Nat := 16

/-- The bytes of a record before its CHAIN. -/
def Chip.recordHeadBody (c : Chip) (type extra : Nat) (body : List Byte) : List Byte :=
  let h := c.hbx
  let flags := b2n h.timeValid + (b2n (c.hbxQuality == 2) <<< 1) + (b2n (bit h.tampers 5 || bit h.tampers 6) <<< 2) + extra
  leBytesOf 2 type ++ leBytesOf 2 (72 + body.length) ++ leBytesOf 8 h.seq ++ leBytesOf 16 (tvWord c.hbxUtc) ++ leBytesOf 8 h.odo ++
    leBytesOf 1 h.lcs ++ leBytesOf 1 flags ++ [0, 0] ++ body

/-- Keep the record area within its 1.5 MiB: the oldest sealed records are overwritten (R491). -/
def trimRecords : Nat → Nat → List HbxRec → List HbxRec
  | 0, _, l => l
  | fuel + 1, sealedTo, l =>
    match l with
    | r :: t =>
      if 1572864 < l.foldl (fun (n : Nat) (x : HbxRec) => n + x.bytes.length) 0 && decide (r.seq ≤ sealedTo) then trimRecords fuel sealedTo t else l
    | [] => []

/-- Write a record with the given body (R488). -/
def Chip.hbxRecordWith (c : Chip) (type extra : Nat) (vals : List Nat) (body : List Byte) : Chip :=
  let bs := c.recordHeadBody type extra body
  let chain := (beBytesOf 64 (Config.sha512 (c.hbx.chain ++ bs)).toNat).take 32
  c.updHbx fun h =>
    let recs := h.recs ++ [{ seq := h.seq, type := type, vals := vals, bytes := bs ++ chain }]
    { h with
      recs := trimRecords recs.length h.sealedTo recs
      seq := h.seq + 1
      chain := chain
      unsealedAt := if type = rtSEAL then h.unsealedAt else some (h.unsealedAt.getD c.now) }

/-- Write a record of a type with its values. -/
def Chip.hbxRecord (c : Chip) (type : Nat) (vals : List Nat) (extra : Nat := 0) : Chip :=
  c.hbxRecordWith type extra vals ((Config.hbxBody type vals).take 952)

/-- The records not covered by a SEAL. -/
def Chip.hbxUnsealed (c : Chip) : List HbxRec := c.hbx.recs.filter fun r => decide (c.hbx.sealedTo < r.seq) && r.type != rtSEAL

/-- Write a SEAL record over the unsealed records (R490). -/
def Chip.hbxSeal (c : Chip) : Chip :=
  match c.hbx.idkey, c.hbxUnsealed with
  | some key, r :: t =>
    let last := (t.getLast?.getD r)
    let range := leBytesOf 8 r.seq ++ leBytesOf 8 last.seq
    let head := (c.recordHeadBody rtSEAL 0 (range ++ List.replicate 512 0)).take 56
    let sig := Config.rsaSign key (Config.sha512 (head ++ last.bytes.drop (last.bytes.length - 32))) c.freeCtr
    let c := (c.hbxRecordWith rtSEAL 0 [r.seq, last.seq] (range ++ beBytesOf 512 sig.toNat)).drawn
    c.updHbx fun h => { h with sealedTo := last.seq, unsealedAt := none, sealDue := false }
  | _, _ => c

/-- SEAL_RECORD: 60 s after the first unsealed record, at 255 of them, or after a DOWNLOAD range has been sent. -/
def Chip.sealRecord (c : Chip) : Chip :=
  c.hbxOn fun c =>
    let due := match c.hbx.unsealedAt with | some t => decide (t + 60000000000 ≤ c.now) | none => false
    c.when (due || decide (255 ≤ c.hbxUnsealed.length) || (c.hbx.sealDue && c.hbx.resend.isEmpty)) Chip.hbxSeal

def execSealRecord (s : State) : Host.Outcome State Fault Refusal := s.on Chip.sealRecord

/-! ### Life cycle and tampers (R479, R496, R499) -/

/-- Change the life cycle, with its record. -/
def Chip.hbxLcs (c : Chip) (n : Nat) : Chip :=
  let old := c.hbx.lcs
  (c.updHbx fun h => { h with lcs := n }).hbxRecord rtLIFECYCLE [old, n]

/-- The tampers that mark the die BROKEN. -/
def breaks (code : Nat) : Bool := code == 8 || code == 12 || code == 13

/-- A tamper begins; `extra` are record flags. -/
def Chip.tamperBegin (c : Chip) (code : Nat) (vals : List Nat) (extra : Nat := 0) : Chip :=
  let c := c.updHbx fun h => { h with tampers := setBit h.tampers code true, timeValid := h.timeValid && code != 11 }
  if breaks code && c.hbx.lcs = 2 then ((c.updHbx fun h => { h with lcs := 3 }).hbxRecord rtTAMPER ([code, 1] ++ vals) extra).hbxRecord rtLIFECYCLE [2, 3]
  else c.hbxRecord rtTAMPER ([code, 1] ++ vals) extra

/-- A tamper ends. -/
def Chip.tamperEnd (c : Chip) (code : Nat) (vals : List Nat) : Chip :=
  (c.updHbx fun h => { h with tampers := setBit h.tampers code false }).hbxRecord rtTAMPER ([code, 0] ++ vals)

/-- A condition that is evaluated: it begins or ends a tamper where it changes. -/
def Chip.tamperIs (c : Chip) (code : Nat) (holds : Bool) (vals : List Nat) : Chip :=
  if holds && !bit c.hbx.tampers code then c.tamperBegin code vals
  else if !holds && bit c.hbx.tampers code then c.tamperEnd code vals
  else c

/-- Entry to ACTIVE: a mesh break latched in BACKUP enters BROKEN first, then the latched events are recorded (R479). -/
def Chip.hbxWake (c : Chip) : Chip :=
  c.when (c.variantH && c.hbx.power == .standby) fun c =>
    let l := c.hbx.latched
    let broke := l.contains 8 && c.hbx.lcs == 2
    let c := c.updHbx fun h => { h with power := .active, latched := [], lcs := if broke then 3 else h.lcs, statusAt := c.now }
    let c := c.when broke fun c => c.hbxRecord rtLIFECYCLE [2, 3] rfRECOVERED
    forEach l (fun code c => c.tamperBegin code [] rfRECOVERED) c

/-- HBX_TAMPER: a sensor's condition begins or ends; in BACKUP a mesh break, magnetometer step or supply event is latched, and in
STANDBY it wakes the Hatbox. The distance, clock, card and firmware tampers (5, 6, 9, 10, 14, 15) follow their own rules. -/
def Chip.hbxTamper (c : Chip) (code : Nat) (isBegin : Bool) (vals : List Nat) : Chip :=
  if !c.variantH || !([1, 2, 3, 4, 7, 8, 11, 12, 13].contains code) then c
  else match c.hbx.power with
    | .off => c
    | .backup => c.when (isBegin && [2, 7, 8].contains code && !c.hbx.latched.contains code) fun c =>
        c.updHbx fun h => { h with latched := h.latched ++ [code] }
    | .standby =>
      let c := c.when (isBegin && [1, 2, 8].contains code) Chip.hbxWake
      c.hbxOn fun c => c.tamperIs code isBegin vals
    | .active => c.tamperIs code isBegin vals

def execHbxTamper (code : Fin 16) (isBegin : Bool) (vals : List Nat) (s : State) : Host.Outcome State Fault Refusal :=
  s.on fun c => c.hbxTamper code.val isBegin vals

/-! ### Power states (R478, R479) -/

/-- Whether no pulse has come for 10 s. -/
def Chip.hbxStill (c : Chip) : Bool := !(match c.hbx.pulseAt with | some t => decide (c.now < t + 10000000000) | none => false)

/-- HBX_STANDBY_ENTRY: the Seam down for 2 s and no pulse for 10 s; what is not sealed is sealed first. -/
def Chip.hbxStandbyEntry (c : Chip) : Chip :=
  c.hbxOn fun c => c.when (!c.flag SEAM_STAT_LINK && decide (c.hbx.linkAt + 2000000000 ≤ c.now) && c.hbxStill) fun c =>
    c.hbxSeal.updHbx fun h => { h with power := .standby, probeAt := c.now }

def execHbxStandbyEntry (s : State) : Host.Outcome State Fault Refusal := s.on Chip.hbxStandbyEntry

/-- HBX_ACTIVE_WAKE. -/
def execHbxActiveWake (s : State) : Host.Outcome State Fault Refusal := s.on Chip.hbxWake

/-- HBX_SENSOR_PROBE: every 30 s in STANDBY; a pulse in its window wakes the Hatbox. -/
def Chip.hbxSensorProbe (c : Chip) (pulse : Bool) : Chip :=
  c.when (c.variantH && c.hbx.power == .standby && decide (c.hbx.probeAt + 30000000000 ≤ c.now)) fun c =>
    (c.updHbx fun h => { h with probeAt := c.now }).when pulse Chip.hbxWake

def execHbxSensorProbe (pulse : Bool) (s : State) : Host.Outcome State Fault Refusal := s.on fun c => c.hbxSensorProbe pulse

/-- What the Hatbox loses with its working memory. -/
def Chip.hbxVolatile (c : Chip) : Chip :=
  c.updHbx fun h => { h with
    pulseAt := none, slew := 0, stepDue := none, pos := 0, interval := 0, metre := 0, rmcA := false, ggaOk := false, ppsAt := none
    ppsOk := false, winTicks := 0, secTicks := 0, wheel := none, wheelRun := 0, moving := false, timeref := none, resend := []
    load := none, cards := [], activity := [], out := [], sealDue := false }

/-- A start of the Hatbox, with its START record. -/
def Chip.hbxStart (c : Chip) (cause : Nat) : Chip :=
  let c := c.updHbx fun h => { h with power := .active, statusAt := c.now }
  c.hbxRecord rtSTART [c.hbx.image.version, c.hbx.image.hash, cause]

/-- HBX_OFF: VHBX leaves regulation. -/
def Chip.hbxOff (c : Chip) : Chip :=
  c.when c.variantH fun c => c.hbxVolatile.updHbx fun h => { h with power := .off, timeValid := false, discAt := none, latched := [] }

def execHbxOff (s : State) : Host.Outcome State Fault Refusal := s.on Chip.hbxOff

/-- HBX_POWER_RETURN: a start from OFF: TIMEVALID = 0, START and POWER records, and the supply tamper recorded at return. -/
def Chip.hbxPowerReturn (c : Chip) : Chip :=
  c.when (c.variantH && c.hbx.power == .off) fun c =>
    let c := (c.hbxSetUtc 0).updHbx fun h => { h with timeValid := false }
    ((c.hbxStart 0).hbxRecord rtPOWER [1]).tamperIs 7 true []

def execHbxPowerReturn (s : State) : Host.Outcome State Fault Refusal := s.on Chip.hbxPowerReturn

/-- HBX_IDKEY_GENERATED: the first start in UNSEALED has made its key pair. -/
def Chip.hbxIdkeyGenerated (c : Chip) : Chip :=
  c.hbxOn fun c => c.when (c.hbx.lcs == 1 && c.hbx.idkey.isNone) fun c =>
    (c.updHbx fun h => { h with idkey := some (c.randomBytes 512) }).drawn

def execHbxIdkeyGenerated (s : State) : Host.Outcome State Fault Refusal := s.on Chip.hbxIdkeyGenerated

/-- HBX_LOCKSTEP_MISMATCH: the Hatbox alone is reset and writes a FAULT record. -/
def Chip.hbxLockstepMismatch (c : Chip) : Chip := c.hbxOn fun c => (c.hbxVolatile.hbxStart 1).hbxRecord rtFAULT [1]

def execHbxLockstepMismatch (s : State) : Host.Outcome State Fault Refusal := s.on Chip.hbxLockstepMismatch

/-- The change-over to VBAK begins: the processor is off (R478, R307). -/
def Chip.hbxToBackup (c : Chip) : Chip :=
  c.when (c.variantH && c.hbx.power != .off && c.hbx.power != .backup) fun c =>
    c.updHbx fun h => { h with power := .backup, backupAt := c.now }

/-- The change-over to VBAK ends: one of more than 1.0 s is recorded (R489). -/
def Chip.hbxFromBackup (c : Chip) : Chip :=
  c.when (c.variantH && c.hbx.power == .backup) fun c =>
    let long := decide (c.hbx.backupAt + 1000000000 < c.now)
    let c := (c.updHbx fun h => { h with power := .standby }).hbxWake
    c.when long fun c => c.hbxRecord rtPOWER [0, c.now - c.hbx.backupAt]

/-! ### Distance (R481–R484) -/

/-- The ticks of one pulse. -/
def Chip.hbxStep (c : Chip) : Nat := 4096 / c.hbx.ppr

/-- HBX_PULSE: pulses under 10 µs are rejected. -/
def Chip.hbxPulse (c : Chip) (width : Nat) : Chip :=
  c.hbxOn fun c => c.when (decide (10000 ≤ width)) fun c =>
    let iv := match c.hbx.pulseAt with | some t => c.now - t | none => 0
    c.updHbx fun h => { h with
      pos := h.pos + c.hbxStep, interval := iv, pulseAt := some c.now, winTicks := h.winTicks + c.hbxStep
      secTicks := h.secTicks + c.hbxStep }

def execHbxPulse (width : Nat) (s : State) : Host.Outcome State Fault Refusal := s.on fun c => c.hbxPulse width

/-- Whether the tracker has passed metre `m` (R482): P × 1,000,000 ≥ m × 4,096 × KCAL, with P extrapolated at the last interval and
never beyond the next pulse. -/
def Chip.hbxPassed (c : Chip) (m : Nat) : Bool :=
  let h := c.hbx
  let d := max h.interval 1
  let el := match h.pulseAt with | some t => if h.interval = 0 then 0 else min (c.now - t) h.interval | none => 0
  decide (h.kcal ≠ 0 ∧ m * 4096 * h.kcal * d ≤ (h.pos * d + c.hbxStep * el) * 1000000)

/-- Every TOLLDIST metres a TOLL record is written (R484). -/
def Chip.hbxToll (c : Chip) : Chip :=
  let h := c.hbx
  c.when (decide (0 < h.tollDist ∧ h.tollDist ≤ h.toll)) fun c =>
    let src := bit h.tampers 5
    let c := c.hbxRecord rtTOLL [h.lat, h.lon, b2n c.hbxFix, if src then h.tollGnss else h.toll, b2n src]
    c.updHbx fun h => { h with toll := 0, tollGnss := 0 }

/-- METRE_REGISTRATION: odometer, day and toll distance advance, and a mirror record is sent unless the Seam is down. -/
def Chip.metreRegistration (c : Chip) : Chip :=
  c.hbxOn fun c => c.when (c.hbxPassed (c.hbx.metre + 1)) fun c =>
    let c := c.updHbx fun h => { h with metre := h.metre + 1, odo := h.odo + 1, day := h.day + 1, toll := h.toll + 1 }
    let c := c.when (c.flag SEAM_STAT_LINK) fun c => c.updHbx fun h => { h with mirror := some h.odo }
    c.hbxToll

def execMetreRegistration (s : State) : Host.Outcome State Fault Refusal := s.on Chip.metreRegistration

/-! ### Timekeeping (R485–R487) -/

/-- HBX_NMEA: an RMC or GGA sentence; four satellites make a fix. -/
def Chip.hbxNmea (c : Chip) (rmc : Option Bool) (gga : Option Nat) (lat lon : Nat) : Chip :=
  c.hbxOn fun c => c.updHbx fun h => { h with
    rmcA := rmc.getD h.rmcA, ggaOk := (gga.map fun n => decide (4 ≤ n)).getD h.ggaOk, lat := lat, lon := lon }

def execHbxNmea (rmc : Option Bool) (gga : Option Nat) (lat lon : BitVec 32) (s : State) : Host.Outcome State Fault Refusal :=
  s.on fun c => c.hbxNmea rmc gga lat.toNat lon.toNat

/-- Move the RTC by an error in ns. -/
def Chip.hbxCorrect (c : Chip) (err : Int) : Chip := c.hbxSetUtc (((c.hbxUtc : Int) - err * 65536).toNat)

/-- What a running slew has done since the last edge: at most 100 ppm of the time, by an open amount. -/
def Chip.hbxSlewed (c : Chip) (elapsed : Nat) : Chip :=
  let most := min c.hbx.slew.natAbs (elapsed / 10000)
  let part : Int := ((Config.openValue c.freeCtr).toNat % (most + 1) : Nat)
  if c.hbx.slew = 0 then c
  else
    let d := if c.hbx.slew < 0 then -part else part
    ((c.hbxCorrect d).updHbx fun h => { h with slew := h.slew - d }).drawn

/-- Whether an error lies within 1 s and 2 s a day since the last discipline. -/
def Chip.hbxStepAllowed (c : Chip) (err : Int) : Bool :=
  match c.hbx.discAt with
  | none => true
  | some t => decide (err.natAbs * 43200 ≤ 43200000000000 + (c.now - t))

/-- HBX_PPS: an edge, by which the RTC is slewed, stepped at the next one, or left with a tamper (R486). -/
def Chip.hbxPps (c : Chip) (err : Int) : Chip :=
  c.hbxOn fun c =>
    let el := match c.hbx.ppsAt with | some t => c.now - t | none => 0
    let ok := decide (999000000 ≤ el ∧ el ≤ 1001000000)
    let c := (c.hbxSlewed el).updHbx fun h => { h with ppsAt := some c.now, ppsOk := ok }
    match c.hbx.stepDue with
    | some e =>
      let old := c.hbxUtc
      let c := (c.hbxCorrect e).updHbx fun h => { h with stepDue := none, timeValid := true, discAt := some c.now, slew := 0 }
      c.hbxRecord rtTIMEADJ [old, c.hbxUtc, 0]
    | none =>
      if !c.hbxFix then c
      else if err.natAbs ≤ 10000000 then
        (c.tamperIs 9 false []).updHbx fun h => { h with slew := err, timeValid := true, discAt := some c.now }
      else if c.hbxStepAllowed err then (c.tamperIs 9 false []).updHbx fun h => { h with stepDue := some err }
      else c.tamperIs 9 true [err.natAbs]

def execHbxPps (err : Int) (s : State) : Host.Outcome State Fault Refusal := s.on fun c => c.hbxPps err

/-- HBX_TIME_MARK: while the Seam is up a mark carries UTC with domain 1 and its quality (R487). -/
def Chip.hbxTimeMark (c : Chip) : Chip :=
  c.hbxOn fun c => c.when (c.flag SEAM_STAT_LINK) fun c =>
    c.updHbx fun h => { h with mark := some (BitVec.ofNat 128 (tvWord c.hbxUtc + (1 <<< 28) + (c.hbxQuality <<< 24))) }

def execHbxTimeMark (s : State) : Host.Outcome State Fault Refusal := s.on Chip.hbxTimeMark

/-- The values of a STATUS record (R489). -/
def Chip.hbxStatus (c : Chip) : List Nat := [c.hbx.tampers, c.hbxQuality, c.hbx.day]

/-- HBX_STATUS_TICK: every 60 s in ACTIVE. -/
def Chip.hbxStatusTick (c : Chip) : Chip :=
  c.hbxOn fun c => c.when (decide (c.hbx.statusAt + 60000000000 ≤ c.now)) fun c =>
    (c.updHbx fun h => { h with statusAt := c.now }).hbxRecord rtSTATUS c.hbxStatus

def execHbxStatusTick (s : State) : Host.Outcome State Fault Refusal := s.on Chip.hbxStatusTick

/-- HBX_MIDNIGHT: the UTC day has changed; the RTC's alarm wakes the Hatbox from STANDBY. -/
def Chip.hbxMidnight (c : Chip) : Chip :=
  let day := c.hbxUtc / (86400 * secUnits)
  c.when (decide (c.hbx.dayDone < day)) fun c =>
    c.hbxWake.hbxOn fun c =>
      let c := c.hbxRecord rtDAY [c.hbx.day, c.hbx.odo]
      c.updHbx fun h => { h with day := 0, dayDone := day }

def execHbxMidnight (s : State) : Host.Outcome State Fault Refusal := s.on Chip.hbxMidnight

/-! ### Cards and plausibility (R480, R500) -/

/-- HBX_CARD: a card authenticates, fails, or is withdrawn; it wakes the Hatbox from STANDBY. -/
def Chip.hbxCard (c : Chip) (slot : Nat) (ev : CardEvent) : Chip :=
  c.hbxWake.hbxOn fun c => match ev with
    | .inserted t n =>
      let k := match t with | .driver => 0 | .workshop => 1 | .company => 2 | .control => 3
      ((c.updHbx fun h => { h with
        cards := put none h.cards slot (some { type := t, number := n.toNat, at_ := c.now }) }).hbxRecord rtCARD
          [slot, k, n.toNat, 1]).tamperIs 14 false [slot]
    | .failed => c.tamperBegin 14 [slot]
    | .withdrawn => match look none c.hbx.cards slot with
      | none => c
      | some x => (c.updHbx fun h => { h with cards := put none h.cards slot none }).hbxRecord rtCARD [slot, 0, x.number, 0]

def execHbxCard (slot : Fin 2) (ev : CardEvent) (s : State) : Host.Outcome State Fault Refusal :=
  s.on fun c => c.hbxCard slot.val ev

/-- HBX_GNSS_WINDOW: a window of 500 m closes; without a valid fix it is abandoned. -/
def Chip.hbxGnssWindow (c : Chip) (dg : Nat) : Chip :=
  c.hbxOn fun c =>
    let h := c.hbx
    let k := 4096 * h.kcal
    let dp := h.winTicks * 1000000000
    let c := c.updHbx fun h => { h with winTicks := 0 }
    c.when (c.hbxFix && decide (500000 ≤ dg) && h.kcal != 0) fun c =>
      let off := ((dp : Int) - ((dg * k : Nat) : Int)).natAbs
      let c := c.updHbx fun h => { h with tollGnss := h.tollGnss + dg / 1000 }
      c.tamperIs 5 (decide ((dg + 200000) * k < off * 10)) [dg, h.winTicks]

def execHbxGnssWindow (dg : Nat) (s : State) : Host.Outcome State Fault Refusal := s.on fun c => c.hbxGnssWindow dg

/-- HBX_SPEED_SECOND: the pulse speed of a whole second against WHEEL_SPEED, and the activity change at standstill. -/
def Chip.hbxSpeedSecond (c : Chip) : Chip :=
  c.hbxOn fun c =>
    let h := c.hbx
    let k := 4096 * h.kcal
    let vp := h.secTicks * 3600000 * 256
    let fresh := match h.wheel with | some (_, t) => decide (c.now ≤ t + 1000000000) | none => false
    let vw := match h.wheel with | some (v, _) => v * k | none => 0
    let off := ((vp : Int) - (vw : Int)).natAbs
    let holds := fresh && h.kcal != 0 && decide (vw + 30 * 256 * k < off * 10)
    let run := if holds then h.wheelRun + 1 else 0
    let moving := h.secTicks != 0
    let c := c.updHbx fun h => { h with secTicks := 0, wheelRun := run, moving := moving }
    let driver := h.cards.any fun e => match e.2 with | some x => x.type == .driver | none => false
    let c := c.when (moving != h.moving && driver) fun c => c.hbxRecord rtACTIVITY [2, b2n moving]
    if bit h.tampers 6 then c.when (!holds) fun c => c.tamperEnd 6 []
    else c.when (decide (10 ≤ run)) fun c => c.tamperBegin 6 []

def execHbxSpeedSecond (s : State) : Host.Outcome State Fault Refusal := s.on Chip.hbxSpeedSecond

/-! ### Commands (R494–R497) -/

/-- Whether some slot holds a card of a type. -/
def Chip.hasCard (c : Chip) (p : CardType → Bool) : Bool :=
  c.hbx.cards.any fun e => match e.2 with | some x => p x.type | none => false

/-- The number of the first card of a type. -/
def Chip.cardNumber (c : Chip) (p : CardType → Bool) : Nat :=
  match c.hbx.cards.find? (fun e => match e.2 with | some x => p x.type | none => false) with
  | some (_, some x) => x.number
  | _ => 0

/-- A failed firmware check: INTEGRITY and a FW_REJECT record (R497). -/
def Chip.fwReject (c : Chip) : Nat × List Byte × Chip := (stINTEGRITY, [], c.tamperBegin 15 [])

/-- The calibration ranges of R481, R482 and R484. -/
def calibOk (kcal ppr toll : Nat) : Bool :=
  decide (200000 ≤ kcal ∧ kcal ≤ 20000000) && [1, 2, 4, 8, 16, 32, 64].contains ppr && decide (100 ≤ toll ∧ toll ≤ 10000)

/-- RESEND and DOWNLOAD: the stored records of a range of SEQ are pushed again. -/
def Chip.hbxResend (c : Chip) (first last : Nat) : Chip :=
  c.updHbx fun h => { h with
    resend := h.resend ++ (h.recs.filter fun r => decide (first ≤ r.seq ∧ r.seq ≤ last)).map (·.seq) }

/-- FW_COMMIT on a good bank: FIRMWARE record, seal, and restart on the new bank, or on the old one with a FAULT record. -/
def Chip.fwCommit (c : Chip) (l : HbxLoad) : Chip :=
  let old := c.hbx.image
  let c := (c.hbxRecord rtFIRMWARE [old.version, old.hash, l.image.version, l.image.hash]).hbxSeal
  let out := c.hbx.out
  let c := c.hbxVolatile.updHbx fun h => { h with out := out }
  if Config.imageBoots l.image.hash then (c.updHbx fun h => { h with image := l.image }).hbxStart 2
  else (c.hbxStart 2).hbxRecord rtFAULT [2]

/-- What the Hatbox does with a command: status, response data and effect (R494). -/
def Chip.hbxCommand (c : Chip) (code : Nat) (a : List Byte) : Nat × List Byte × Chip :=
  let g (i : Nat) : Nat := Config.seamArg code a i
  let h := c.hbx
  let no : Nat × List Byte × Chip := (stNOT_NOW, [], c)
  let ok (c : Chip) : Nat × List Byte × Chip := (stOK, [], c)
  let range : Nat × List Byte × Chip := (stRANGE, [], c)
  match code with
  | 0x0 => (stOK, leBytesOf 1 h.lcs, c)
  | 0x1 => (stOK, leBytesOf 4 h.image.version ++ beBytesOf 64 h.image.hash, c)
  | 0x2 => (stOK, (Config.hbxBody rtSTATUS c.hbxStatus).take 952, c)
  | 0x3 =>
    let first := leNat (a.take 8)
    if g 1 = 0 || 256 < g 1 then range
    else if first + 4096 < h.seq || h.seq ≤ first then no
    else ok (c.hbxResend first (first + g 1 - 1))
  | 0x4 =>
    if 3 < g 1 || 1 < g 0 then range
    else match look none h.cards (g 0) with
      | some x =>
        if x.type = .driver then ok ((c.updHbx fun h => { h with activity := put 0 h.activity (g 0) (g 1) }).hbxRecord rtACTIVITY [g 0, g 1])
        else no
      | none => no
  | 0x5 =>
    match look none h.cards (g 0) with
    | some x =>
      if x.type = .driver && c.hbxWithin (some x.at_) 600000000000 then
        if 32 < g 1 then range else ok (c.hbxRecord rtINPUT ((List.range (2 + 2 * g 1)).map g) rfZONEINPUT)
      else no
    | none => no
  | 0x6 => ok (c.updHbx fun h => { h with wheel := some (leNat (a.take 2), c.now) })
  | 0x7 =>
    let td := tvUnits (leNat (a.take 16))
    match h.timeref with
    | none => ok (c.updHbx fun h => { h with timeref := some (c.hbxUtc, td) })
    | some (u0, t0) =>
      if td < t0 + 60 * secUnits then ok c
      else
        let dt := td - t0
        let off := (((c.hbxUtc : Int) - (u0 : Int)) - (dt : Int)).natAbs
        let c := c.tamperIs 10 (!c.hbxFix && decide (200 * dt < off * 1000000)) [off]
        ok (c.updHbx fun h => { h with timeref := some (c.hbxUtc, td) })
  | 0x8 => ok (c.hbxRecord rtINPUT [g 0, g 1, g 2] rfZONEINPUT)
  | 0x9 =>
    let p (t : CardType) : Bool := t != .driver
    if !c.hasCard p then no
    else
      let c := c.hbxRecord rtDOWNLOAD [leNat (a.take 8), leNat ((a.drop 8).take 8), c.cardNumber p]
      ok ((c.hbxResend (leNat (a.take 8)) (leNat ((a.drop 8).take 8))).updHbx fun h => { h with sealDue := true })
  | 0xA =>
    if !c.hasCard (· == .workshop) || !c.hbxStill then no
    else if !calibOk (g 0) (g 1) (g 2) then range
    else
      let c := c.updHbx fun x => { x with
        kcal := g 0, ppr := g 1, tollDist := g 2, vin := g 3, calibrated := true, pos := 0, metre := 0, interval := 0, winTicks := 0 }
      ok (c.hbxRecord rtCALIB [h.kcal, h.ppr, h.tollDist, h.vin, g 0, g 1, g 2, g 3, c.cardNumber (· == .workshop)])
  | 0xB =>
    if !c.hasCard (· == .workshop) then no
    else
      let old := c.hbxUtc
      let c := (c.hbxSetUtc (tvUnits (leNat (a.take 16)))).updHbx fun h => { h with slew := 0, stepDue := none, timeValid := true }
      ok (c.hbxRecord rtTIMEADJ [old, c.hbxUtc, 1])
  | 0xC =>
    let modulus := beBytesOf 512 (g 3)
    let signer := (Config.sha512 modulus).toNat
    let signed := Config.rsaVerify modulus (Config.sha512 (leBytesOf 4 (g 0) ++ leBytesOf 4 (g 1) ++ beBytesOf 64 (g 2))) (beBytesOf 512 (g 4))
    if !signed || (h.lcs != 1 && (signer != h.metroKey || decide (g 0 < h.image.version))) then c.fwReject
    else ok ((c.tamperIs 15 false []).updHbx fun h => { h with
      load := some { image := { version := g 0, hash := g 2, signer := signer }, length := g 1 } })
  | 0xD =>
    match h.load with
    | none => (stSEQUENCE, [], c)
    | some l =>
      let bs := Config.seamData a
      if g 0 ≠ l.next then (stSEQUENCE, [], c)
      else if bs.length ≠ min 1024 (l.length - l.data.length) then range
      else ok (c.updHbx fun h => { h with load := some { l with next := l.next + 1, data := l.data ++ bs } })
  | 0xE =>
    match h.load with
    | none => no
    | some l =>
      if l.data.length < l.length || !c.hbxStill then no
      else if (Config.sha512 l.data).toNat ≠ l.image.hash then (c.updHbx fun h => { h with load := none }).fwReject
      else ok ((c.tamperIs 15 false []).fwCommit l)
  | 0xF =>
    if h.lcs ≠ 1 || !c.hasCard (· == .workshop) || !h.calibrated then no
    else ok ((c.updHbx fun h => { h with metroKey := h.image.signer }).hbxLcs 2)
  | _ => range

end Sys2Proof.Machine
end

