-- ==== Sys2Proof/Machine/Seam.lean ====
section
/-! DEFINITION. The SEAM block: records, command ports and link (R492–R495, R498, R502–R505). -/

namespace Sys2Proof.Machine

/-! ### Records (R492, R498) -/

/-- HBX_RECORD_PUSH: the next record in SEQ order, then records asked for again, while the Seam is up. -/
def Chip.hbxRecordPush (c : Chip) : Chip :=
  c.hbxOn fun c => c.when (c.flag SEAM_STAT_LINK) fun c =>
    match c.hbx.recs.find? fun r => decide (c.hbx.pushed < r.seq) with
    | some r => (c.updHbx fun h => { h with pushed := r.seq }).updSeam fun b => { b with arriving := b.arriving ++ [r] }
    | none => match c.hbx.resend with
      | [] => c
      | n :: t =>
        let c := c.updHbx fun h => { h with resend := t }
        let c := c.updSeam fun b => { b with since := if t.isEmpty then c.frc else b.since }
        match c.hbx.recs.find? fun r => r.seq == n with
        | some r => c.updSeam fun b => { b with arriving := b.arriving ++ [r] }
        | none => c

def execHbxRecordPush (s : State) : Host.Outcome State Fault Refusal := s.on Chip.hbxRecordPush

/-- The ring's slots, and the slots in use. -/
def Chip.seamSize (c : Chip) : Nat := 2 ^ c.get SEAM_RING_LOG2N
def Chip.seamUsed (c : Chip) : Nat :=
  (c.get SEAM_RPI_PI + c.seamSize - c.get SEAM_RCI_CI % c.seamSize) % c.seamSize

/-- Show RINGHI. -/
def Chip.showRing (c : Chip) : Chip := c.setB SEAM_STAT_RINGHI (decide (c.seamSize * 3 ≤ c.seamUsed * 4))

/-- A record that is not written is counted. -/
def Chip.recordDropped (c : Chip) : Chip := ((c.satInc SEAM_CNT_DROPPED).stick SEAM_STAT_DROP).raise 770

/-- Write the software identification (R498). -/
def Chip.swidWrite (c : Chip) (version hash lcs : Nat) : Chip :=
  let v := leNat (leBytesOf 4 version ++ beBytesOf 64 hash ++ leBytesOf 1 lcs)
  let old := forAll 5 (fun i (n : Nat) => n + (c.rdN (SEAM_SWID i) <<< (128 * i))) 0
  let c := forAll 5 (fun i c => c.wrN (SEAM_SWID i) (bits v (128 * i + 127) (128 * i))) c
  c.when (old != v) fun c => c.raise 777

/-- What the block keeps of a record: identification, status, sequence number, tampers and life-cycle changes. -/
def Chip.recordSeen (c : Chip) (r : HbxRec) : Chip :=
  let lcs := leNat ((r.bytes.drop 36).take 1)
  let odo := leNat ((r.bytes.drop 28).take 8)
  let g (i : Nat) : Nat := r.vals.getD i 0
  let gap := c.seam.heard && decide (c.get SEAM_LASTSEQ_SEQ + 1 < r.seq)
  let c := c.when gap fun c => ((c.satInc SEAM_CNT_GAPS).stick SEAM_STAT_GAP).raise 774
  let c := (c.set SEAM_LASTSEQ_SEQ r.seq).updSeam fun b => { b with heard := true }
  let c := c.when (r.type == rtTAMPER) fun c => c.raise 775
  let c := c.when (r.type == rtLIFECYCLE) fun c => c.raise 776
  let c := c.when (r.type == rtSTART) fun c => c.swidWrite (g 0) (g 1) lcs
  let c := c.when (r.type == rtFIRMWARE) fun c => c.swidWrite (g 2) (g 3) lcs
  c.when (r.type == rtSTATUS) fun c =>
    (((c.set SEAM_HSTAT_TAMPER (g 0)).set SEAM_HSTAT_LCS lcs).set SEAM_HSTAT_QUAL (g 1)).set SEAM_HSTAT_ODO odo

/-- Write a record into the ring, with its word 0 and the payload from byte 16. -/
def State.ringWrite (s : State) (r : HbxRec) : State :=
  let c := s.chip
  if !c.flag SEAM_CTL_EN then s
  else if c.seamUsed + 1 = c.seamSize then { s with chip := c.recordDropped }
  else
    let pi := c.get SEAM_RPI_PI % c.seamSize
    let word := c.frc % 2 ^ 64 + (r.bytes.length <<< 64) + (1 <<< 80)
    match s.busWrite (c.unitTag 19) (c.get SEAM_RING_BASE + 2048 * pi) (leBytesOf 16 word ++ r.bytes) with
    | (false, s) => { s with chip := s.chip.recordDropped }
    | (true, s) =>
      let was := s.chip.flag SEAM_STAT_RINGHI
      let c := ((s.chip.set SEAM_RPI_PI ((pi + 1) % c.seamSize)).showRing).raise 768
      { s with chip := c.when (!was && c.flag SEAM_STAT_RINGHI) fun c => c.raise 769 }

/-- SEAM_RECORD_RECEIVE: the oldest record on the Seam arrives; one that meets an uncorrectable error is dropped and counted. -/
def State.recordReceive (s : State) (ecc : Bool) : State :=
  match s.chip.seam.arriving with
  | [] => s
  | r :: t =>
    let c := s.chip.updSeam fun b => { b with arriving := t }
    if ecc then { s with chip := c.recordDropped.raise 779 }
    else
      let s : State := { s with chip := (c.recordSeen r).seamForward 0 1 r.bytes }
      s.ringWrite r

def execSeamRecordReceive (ecc : Bool) (s : State) : Host.Outcome State Fault Refusal := s.onZoneMem fun s => s.recordReceive ecc

/-! ### Command ports (R495) -/

/-- The result of port `w`. -/
def Chip.seamPortResult (c : Chip) (w st len : Nat) : Chip := c.wrN (SEAM_P_RES (w - 1)) (((st % 256) <<< 16) + len)

/-- Send the next waiting command; the Hatbox, where it is in ACTIVE, acts on it and its response is on its way. -/
def Chip.seamNext (c : Chip) : Chip :=
  if c.seam.flight.isSome then c
  else match c.seam.queue with
    | [] => c
    | x :: t =>
      let x : SeamCmd := { x with tag := c.seam.tag }
      let c := c.updSeam fun b => { b with queue := t, flight := some x, since := c.frc, tag := (b.tag + 1) % 256 }
      c.hbxOn fun c => c.when (c.flag SEAM_STAT_LINK) fun c =>
        let r := c.hbxCommand x.code x.args
        r.2.2.updHbx fun h => { h with out := h.out ++ [{ code := x.code, status := r.1, tag := x.tag, data := r.2.1 }] }

/-- A command that the SEAM block refuses. -/
def Chip.seamRefuse (c : Chip) (w st : Nat) : Chip := ((c.seamPortResult w st 0).set SEAM_STAT_LASTERR st).raise 772

/-- A write of SEAM_Pw_CMD by world `w`; the argument is read from memory as master 19. -/
def State.portWrite (s : State) (who : Who) (w v : Nat) : State :=
  let c := s.chip
  let code := bits v 27 24
  let len := bits v 10 0
  if !c.variantH || w = 0 || who.world ≠ w || !bit v 31 || c.flag (SEAM_P_RES_BUSY (w - 1)) then s
  else if !bit (c.get SEAM_CMDW_MAY) (5 * code + w) then { s with chip := c.seamRefuse w stDENIED_WORLD }
  else if 1024 < len then { s with chip := c.seamRefuse w stRANGE }
  else if !c.flag SEAM_STAT_LINK then { s with chip := c.seamRefuse w stNOT_NOW }
  else match s.busRead (c.unitTag 19) (c.get (SEAM_P_ADDR_ARG (w - 1))) len with
    | (none, s) => { s with chip := (s.chip.seamRefuse w (Config.openValue s.chip.freeCtr).toNat).drawn }
    | (some a, s) =>
      let c := s.chip.wrN (SEAM_P_RES (w - 1)) (1 <<< 31)
      { s with chip := (c.updSeam fun b => { b with queue := b.queue ++ [{ world := w, code := code, args := a, tag := 0 }] }).seamNext }

/-- A port write that carries the given code. -/
def State.seamCmd (s : State) (who : Who) (w v code : Nat) : State := if bits v 27 24 = code then s.portWrite who w v else s

def execPing (a : Agent) (w : Fin 5) (v : W32) (s : State) : Host.Outcome State Fault Refusal :=
  s.byMem a fun x s => s.seamCmd x w.val v.toNat 0x0

def execGetSwid (a : Agent) (w : Fin 5) (v : W32) (s : State) : Host.Outcome State Fault Refusal :=
  s.byMem a fun x s => s.seamCmd x w.val v.toNat 0x1

def execGetStatus (a : Agent) (w : Fin 5) (v : W32) (s : State) : Host.Outcome State Fault Refusal :=
  s.byMem a fun x s => s.seamCmd x w.val v.toNat 0x2

def execResend (a : Agent) (w : Fin 5) (v : W32) (s : State) : Host.Outcome State Fault Refusal :=
  s.byMem a fun x s => s.seamCmd x w.val v.toNat 0x3

def execActivity (a : Agent) (w : Fin 5) (v : W32) (s : State) : Host.Outcome State Fault Refusal :=
  s.byMem a fun x s => s.seamCmd x w.val v.toNat 0x4

def execManualEntry (a : Agent) (w : Fin 5) (v : W32) (s : State) : Host.Outcome State Fault Refusal :=
  s.byMem a fun x s => s.seamCmd x w.val v.toNat 0x5

def execWheelSpeed (a : Agent) (w : Fin 5) (v : W32) (s : State) : Host.Outcome State Fault Refusal :=
  s.byMem a fun x s => s.seamCmd x w.val v.toNat 0x6

def execTimeref (a : Agent) (w : Fin 5) (v : W32) (s : State) : Host.Outcome State Fault Refusal :=
  s.byMem a fun x s => s.seamCmd x w.val v.toNat 0x7

def execTollContext (a : Agent) (w : Fin 5) (v : W32) (s : State) : Host.Outcome State Fault Refusal :=
  s.byMem a fun x s => s.seamCmd x w.val v.toNat 0x8

def execDownload (a : Agent) (w : Fin 5) (v : W32) (s : State) : Host.Outcome State Fault Refusal :=
  s.byMem a fun x s => s.seamCmd x w.val v.toNat 0x9

def execCalibrate (a : Agent) (w : Fin 5) (v : W32) (s : State) : Host.Outcome State Fault Refusal :=
  s.byMem a fun x s => s.seamCmd x w.val v.toNat 0xA

def execTimeAdjust (a : Agent) (w : Fin 5) (v : W32) (s : State) : Host.Outcome State Fault Refusal :=
  s.byMem a fun x s => s.seamCmd x w.val v.toNat 0xB

def execFwBegin (a : Agent) (w : Fin 5) (v : W32) (s : State) : Host.Outcome State Fault Refusal :=
  s.byMem a fun x s => s.seamCmd x w.val v.toNat 0xC

def execFwSegment (a : Agent) (w : Fin 5) (v : W32) (s : State) : Host.Outcome State Fault Refusal :=
  s.byMem a fun x s => s.seamCmd x w.val v.toNat 0xD

def execFwCommit (a : Agent) (w : Fin 5) (v : W32) (s : State) : Host.Outcome State Fault Refusal :=
  s.byMem a fun x s => s.seamCmd x w.val v.toNat 0xE

def execSeal (a : Agent) (w : Fin 5) (v : W32) (s : State) : Host.Outcome State Fault Refusal :=
  s.byMem a fun x s => s.seamCmd x w.val v.toNat 0xF

/-- SEAM_RESPONSE: a response arrives; the waiting port completes with it, and the next command is sent. -/
def State.seamResponse (s : State) : State :=
  match s.chip.hbx.out with
  | [] => s
  | r :: t =>
    if !s.chip.flag SEAM_STAT_LINK then s
    else
      let s : State := { s with chip := s.chip.updHbx fun h => { h with out := t } }
      match s.chip.seam.flight with
      | none => { s with chip := s.chip.seamStray }
      | some x =>
        if x.tag ≠ r.tag then { s with chip := s.chip.seamStray }
        else
          let w := x.world
          let d := s.busWrite (s.chip.unitTag 19) (s.chip.get (SEAM_P_ADDR_RESP (w - 1))) r.data
          let s := d.2
          let c := s.chip.updSeam fun b => { b with flight := none }
          let c := (c.seamPortResult w r.status (if d.1 then r.data.length else 0)).raise 771
          let c := c.when (r.status != stOK) fun c => c.raise 772
          { s with chip := c.seamNext }

def execSeamResponse (s : State) : Host.Outcome State Fault Refusal := s.onZoneMem State.seamResponse

/-- SEAM_COMMAND_TIMEOUT: no response within the limit of the command in flight. -/
def Chip.seamTimeout (c : Chip) : Chip :=
  match c.seam.flight with
  | none => c
  | some x =>
    let limit := if x.code = 0xE then 2000000000 else 100000000
    let pushing := (x.code == 0x3 || x.code == 0x9) && !c.hbx.resend.isEmpty
    c.when (!pushing && c.due (c.seam.since + limit)) fun c =>
      (((c.updSeam fun b => { b with flight := none }).seamPortResult x.world stTIMEOUT 0).raise 773).seamNext

def execSeamCommandTimeout (s : State) : Host.Outcome State Fault Refusal := s.onZone Chip.seamTimeout

/-! ### Link, registers, reset and sleep (R502, R503, R505) -/

/-- SEAM_LINK_CHANGE: the link of a powered Hatbox comes up, which wakes it, or goes down. -/
def Chip.seamLinkChange (c : Chip) (up : Bool) : Chip :=
  c.when (c.variantH && c.flag SEAM_STAT_LINK != up && (!up || c.hbx.power == .active || c.hbx.power == .standby)) fun c =>
    let c := ((c.setB SEAM_STAT_LINK up).stick SEAM_STAT_LINKCHG).updHbx fun h => { h with linkAt := c.now }
    (c.when up Chip.hbxWake).raise 778

def execSeamLinkChange (up : Bool) (s : State) : Host.Outcome State Fault Refusal := s.on fun c => c.seamLinkChange up

/-- A write of SEAM_CTL by W1. -/
def Chip.seamCtlWrite (c : Chip) (w : Who) (v : Nat) : Chip :=
  c.when (c.variantH && w.world == 1) fun c =>
    let c := (c.setB SEAM_CTL_EN (bit v 31)).set SEAM_CTL_FWD (bits v 2 0)
    c.when (bit v 30) fun c => c.wrN SEAM_CNT 0

def execSeamClrcnt (a : Agent) (v : W32) (s : State) : Host.Outcome State Fault Refusal := s.by a fun w c => c.seamCtlWrite w v.toNat

/-- A write of SEAM_RING: only while EN = 0. -/
def Chip.seamRingWrite (c : Chip) (w : Who) (v : Nat) : Chip :=
  c.when (c.variantH && w.world == 1) fun c =>
    if c.flag SEAM_CTL_EN then c.set SEAM_STAT_LASTERR stBUSY
    else if !(decide (4 ≤ bits v 67 64) && decide (bits v 67 64 ≤ 12)) || bits v 39 0 % 2048 ≠ 0 then c.set SEAM_STAT_LASTERR stRANGE
    else (c.wrN SEAM_RING ((bits v 67 64 <<< 64) + bits v 39 0)).showRing

/-- Command ports become idle; a command in flight is lost. -/
def Chip.seamPortsIdle (c : Chip) : Chip := c.updSeam fun b => { b with queue := [], flight := none }

/-- A reset of warm reach or wider; from system reach on the last SEQ is forgotten and the link trains again. -/
def Chip.seamReset (c : Chip) (wide : Bool) : Chip :=
  let c := c.seamPortsIdle
  c.when wide fun c => (c.updSeam fun b => { b with heard := false, arriving := [], frames := [] }).updHbx fun h => { h with linkAt := c.now }

/-- Sleep entry: the ring is disabled, the ports are idle, and the link is down. -/
def Chip.seamSleep (c : Chip) : Chip :=
  let c := (c.seamPortsIdle.setB SEAM_CTL_EN false).updSeam fun b => { b with arriving := [], frames := [] }
  c.when (c.flag SEAM_STAT_LINK) fun c => (c.setB SEAM_STAT_LINK false).updHbx fun h => { h with linkAt := c.now }

end Sys2Proof.Machine
end

