-- ==== Sys2Proof/Machine/Targets.lean ====
section
/-! DEFINITION. The targets of sequencer actions: who holds them (R80), when they refuse a hand-off (R92), and how a target
reports a refusal beside the sequencer (R567). -/

namespace Sys2Proof.Machine

/-- Whether world `w` holds a message target of class 3 (R80). -/
def Chip.messageHeld (c : Chip) (w target : Nat) : Bool :=
  match target / 4096 with
  | 0 => c.poolWorld 1 (target % 2048) == some w
  | 1 => c.claims w 8 (target / 256 % 8)
  | 2 => c.poolWorld 0 (target % 256) == some w
  | 3 => c.claims w 2 (target % 32)
  | _ => false

/-- Whether world `w` holds doorbell `d` (R80). -/
def Chip.doorbellHeld (c : Chip) (w d : Nat) : Bool :=
  if d < 128 then c.poolWorld 0 (2 * d) == some w && c.poolWorld 0 (2 * d + 1) == some w
  else if d < 140 then c.claims w 7 (d - 128)
  else if d < 148 then c.claims w 8 (d - 140)
  else false

/-- Whether world `w` holds the target of an action (R80). -/
def Chip.targetHeld (c : Chip) (w cls target : Nat) : Bool :=
  match cls with
  | 0 => c.claims w 4 (target % 64)
  | 1 => c.sqoHeld w (target % 32)
  | 2 => c.claims w 12 (target % 2)
  | 3 => c.messageHeld w target
  | 4 => if target % 2 = 0 then w == 2 else w == c.leWorld 1
  | 5 => c.doorbellHeld w (target % 256)
  | 6 => c.claims w 16 ((target % 1024 - 896) / 16)
  | _ => false

/-- Whether a message target of class 3 is configured for transmit (R92, R253, R264). -/
def Chip.messageReady (c : Chip) (target : Nat) : Bool :=
  match target / 4096 with
  | 0 => (c.canObj (target % 2048)).transmits
  | 1 =>
    let n := target / 256 % 8
    c.flag (LIN_CTL_EN n) && c.flag (LIN_CTL_MODE n) && c.flag (LIN_ENT_VALID n (target % 256))
  | 2 => c.flag (ESW_HQ_CFG_EN (target % 256))
  | _ => true

/-- Why the target of an action refuses a hand-off; none where it accepts (R92, R162, R180). -/
def Chip.targetRefusal (c : Chip) (cls target : Nat) : Option Nat :=
  match cls with
  | 0 =>
    if c.flag (LSC_CH_STAT_ORPHAN (target % 64)) then some stNOT_ADOPTED
    else if c.lsFaulted (target % 64) then some stNOT_NOW
    else none
  | 3 => if c.messageReady target then none else some stNOT_NOW
  | 4 =>
    if c.get (LE_STAT_MODE (target % 2)) ≠ 1 || (look {} c.le.engines (target % 2)).inReset then some stNOT_NOW else none
  | _ => none

/-- What the target itself reports of a hand-off refused at acceptance: a load-switch channel records it (R567). -/
def Chip.targetReports (c : Chip) (cls target st : Nat) : Chip :=
  c.when (cls == 0) fun c => c.lsRefuseCmd (target % 64) st

end Sys2Proof.Machine
end

