-- ==== Sys2Proof/Machine/Sequencer.lean ====
section
/-! DEFINITION. The event sequencer: R74–R104. -/

namespace Sys2Proof.Machine

/-! ### Entries as words (R75) -/

/-- An entry's content from its two words, with the owner's own fields alone. -/
def entryOf (d0 d1 : Nat) : SeqEntry :=
  { pos := bits d0 63 0, owner := bits d0 66 64, cls := bits d0 70 68, base := bits d0 75 72, late := bit d0 78,
    dir := bit d0 79, target := bits d0 95 80, arg := bits d0 127 96, period := bits d1 63 0, rcnt := bits d1 79 64,
    tag := bits d1 111 96 }

/-- The code of an entry's state (R75). -/
def stateCode : EntrySt → Nat
  | .free => 0
  | .waiting => 1
  | .armed => 2
  | .committed => 3
  | .done => 4
  | .fault => 5

/-- Word 0 of an entry. -/
def entryWord0 (e : SeqEntry) : Nat :=
  e.pos + (e.owner <<< 64) + (e.cls <<< 68) + (e.base <<< 72) + (b2n e.late <<< 78) + (b2n e.dir <<< 79)
    + (e.target <<< 80) + (e.arg <<< 96)

/-- Word 1 of an entry. -/
def entryWord1 (e : SeqEntry) : Nat :=
  e.period + (e.rcnt <<< 64) + (e.gen <<< 80) + (stateCode e.st <<< 88) + (e.tag <<< 96)

/-- Entry `i`. -/
def Chip.entry (c : Chip) (i : Nat) : SeqEntry := look {} c.seq.entries i

/-- Replace entry `i`. -/
def Chip.setEntry (c : Chip) (i : Nat) (e : SeqEntry) : Chip :=
  { c with seq := { c.seq with entries := put {} c.seq.entries i e } }

/-- Whether an entry's TARGET and ARG are encodings that R77 lists for its class. -/
def encodingOk (cls target arg : Nat) : Bool :=
  match cls with
  | 0 => decide (target < 48) && decide (arg % 16 < 4) &&
      (if arg % 16 = 3 then bits arg 15 4 == 0 else bits arg 31 4 == 0)
  | 1 => decide (target < 32) && decide (arg < 4)
  | 2 => decide (target < 2) && decide (arg < 64)
  | 3 => match target / 4096 with
    | 0 => decide (bits target 10 7 < 12) && !bit target 11 && arg == 0
    | 1 => !bit target 11 && arg == 0
    | 2 => bits target 11 8 == 0 && arg == 0
    | 3 => decide (bits target 11 0 < 20) && decide (arg < 256)
    | _ => false
  | 4 => decide (target < 2) && decide (arg < 2)
  | 5 => decide (target < 148)
  | 6 => decide (896 ≤ target) && decide (target < 1024) && arg == 0
  | _ => false

/-- The commit horizon of a class, in FRC ticks (R76). -/
def horizon (cls : Nat) : Nat :=
  match cls with
  | 0 => 1500
  | 1 => 20
  | 2 => 100
  | 3 => 2000
  | 4 => 1000
  | 5 => 50
  | _ => 0

/-! ### Fire ticks (R83) -/

/-- The fire tick of a position on a base: the first tick at which the estimate reaches it in direction `dir`; none where the
estimate never does. -/
def Chip.fireTick (c : Chip) (base pos : Nat) (dir : Bool) : Option Nat :=
  if base = 0 then
    let inc := c.get (TD_INC_INC 0)
    if dir || inc = 0 then none
    else
      let now := c.time.frc
      let u := c.tdAt 0 now
      let want : Int := ((u / 65536 : Nat) : Int) + s64 ((pos : Int) - (projection u : Int))
      let k : Int := want * 65536 - (tvUnits (c.rdN (TD_OFS 0)) : Int)
      some (((c.get (TD_ANCHOR_FRC 0) : Int) + (k * 2 ^ 32 + (inc : Int) - 1) / (inc : Int)).toNat)
  else if c.pbRuns base then
    let d : Int := if dir then s64 (((c.tracker base).pe : Int) - (pos : Int))
      else s64 ((pos : Int) - ((c.tracker base).pe : Int))
    some (((c.pbTe base : Int) + (d * ((c.pbN base * c.get (PB_PER_P base) : Nat) : Int) + 2 ^ 48 - 1) / 2 ^ 48).toNat)
  else none

/-- Whether a base can carry an occurrence of direction `dir` now: PB0, or a tracker in SYNC whose direction matches (R85). -/
def Chip.baseReady (c : Chip) (base : Nat) (dir : Bool) : Bool :=
  base == 0 || (c.get (PB_STAT_STATE base) == 4 && c.pbRev base == dir)

/-- Whether the sequencer arms and hands off now (R101, R104). -/
def Chip.seqRuns (c : Chip) : Bool := c.flag SEQ_CTL_EN && c.rst.episode.isNone

/-- Whether an occurrence's target is reached on its base now (R54). -/
def Chip.passed (c : Chip) (e : SeqEntry) : Bool := reached e.dir e.pos (c.estAt e.base c.time.frc)

/-! ### Repeats and squashes (R89–R91) -/

/-- The position `k` periods on, in the occurrence's direction (R90, R91). -/
def advancePos (e : SeqEntry) (k : Nat) : Nat :=
  let d : Int := (k : Int) * (e.period : Int)
  (((e.pos : Int) + (if e.dir then -d else d)) % 2 ^ 64).toNat

/-- The occurrence `k` on, waiting; the entry is DONE where it has none (R90, R91). -/
def advanceEntry (e : SeqEntry) (k : Nat) : SeqEntry :=
  let fresh := { e with fire := 0, held := false, lateOcc := false }
  if e.period ≠ 0 && (e.rcnt = 0xFFFF || k ≤ e.rcnt) && e.rcnt ≠ 0 then
    { fresh with pos := advancePos e k, rcnt := if e.rcnt = 0xFFFF then e.rcnt else e.rcnt - k, st := .waiting }
  else { fresh with st := .done }

/-- How many occurrences of a repeating entry have passed, so that the next has not (R91). -/
def Chip.passedCount (c : Chip) (e : SeqEntry) : Nat :=
  if e.period = 0 then 1
  else
    let p := c.estAt e.base c.time.frc
    let d : Int := if e.dir then s64 ((e.pos : Int) - (p : Int)) else s64 ((p : Int) - (e.pos : Int))
    d.toNat / e.period + 1

/-- Squash `k` occurrences of entry `i`, with event `ev` (R89, R91). -/
def Chip.squash (c : Chip) (i k ev : Nat) : Chip :=
  let e := c.entry i
  ((c.setEntry i (advanceEntry e k)).satAdd (SEQ_B_SQUASH_N e.base) k).raise ev

/-! ### Arming (R85, R86) -/

/-- The latest uncommitted armed occurrence: its entry and fire tick. -/
def Chip.latestArmed (c : Chip) : Option (Nat × Nat) :=
  c.seq.entries.foldl (fun a e =>
    if e.2.st == .armed then
      match a with
      | some b => if b.2 ≤ e.2.fire then some (e.1, e.2.fire) else a
      | none => some (e.1, e.2.fire)
    else a) none

/-- The armed and committed occurrences in the window. -/
def Chip.windowCount (c : Chip) : Nat :=
  (c.seq.entries.filter (fun e => e.2.st == .armed || e.2.st == .committed)).length

/-- Arm entry `i` with fire tick `t`. -/
def Chip.arm (c : Chip) (i t : Nat) (late : Bool) : Chip :=
  let e := c.entry i
  c.setEntry i { e with st := .armed, fire := t, gen := c.get (PB_STAT_GEN e.base), lateOcc := late, held := false }

/-- Arm entry `i` in the window, displacing a later occurrence or waiting where the window is full (R86). -/
def Chip.armInWindow (c : Chip) (i t : Nat) (late : Bool) : Chip :=
  if c.windowCount < 256 then c.arm i t late
  else
    let c := ((c.satInc SEQ_WFCNT_N).stick SEQ_STAT_WINFULL).raise 64
    match c.latestArmed with
    | some (j, tj) =>
      if t < tj then
        (c.setEntry j { c.entry j with st := .waiting, fire := 0, held := false, lateOcc := false }).arm i t late
      else c
    | none => c

/-- The test of a waiting occurrence (R85, R89, R91): squashed where it is reached or late without LATE, armed where its fire
tick lies within the look-ahead. A repeat that a squash advanced is tested at once; `fuel` bounds that. -/
def testEntry : Nat → Nat → Chip → Chip
  | 0, _, c => c
  | fuel + 1, i, c =>
    let e := c.entry i
    if e.st == .waiting && c.seqRuns && c.baseReady e.base e.dir then
      if c.passed e then testEntry fuel i (c.squash i (c.passedCount e) 65)
      else match c.fireTick e.base e.pos e.dir with
        | none => c
        | some t =>
          if t ≤ c.time.frc + c.get (SEQ_B_LA_US e.base) * 1000 then
            if t < c.time.frc + horizon e.cls then
              if e.late then c.armInWindow i t true else testEntry fuel i (c.squash i 1 65)
            else c.armInWindow i t false
          else c
    else c

/-- Test entry `i`, and show the window. -/
def Chip.testOcc (c : Chip) (i : Nat) : Chip := (testEntry 3 i c).showWindow

/-- SEQ_ARM: the run-ahead scanner reads entry `i` (R85); an uncorrectable error sets it to FAULT and raises EV0073 (R102). -/
def Chip.seqArm (c : Chip) (i : Nat) (ecc : Bool) : Chip :=
  if ecc && (c.entry i).st != .free then
    ((c.setEntry i { c.entry i with st := .fault, held := false, lateOcc := false }).showWindow).raise 73
  else c.testOcc i

def execSeqArm (i : Fin 8192) (ecc : Bool) (s : State) : Host.Outcome State Fault Refusal :=
  s.onZone fun c => c.seqArm i.val ecc

/-! ### Port commands (R78–R82) -/

/-- End a port command with its status. -/
def Chip.portResult (c : Chip) (w st skipped : Nat) (afterCommit : Bool) : Chip :=
  c.wrN (SEQ_P_RES w) (st + (b2n afterCommit <<< 9) + (min skipped 0xFFFF <<< 16))

/-- A refused port command: its status and EV0071 (R79). -/
def Chip.portRefuse (c : Chip) (w st : Nat) : Chip := (c.portResult w st 0 false).raise 71

/-- A port command: another world's request is ignored and raises EV0071 (R78); then the range check of R79 step 1. -/
def Chip.onPort (c : Chip) (who : Who) (w : Nat) (f : Nat → Chip → Chip) : Chip :=
  if who.world ≠ w then c.raise 71
  else
    let i := c.get (SEQ_P_IDX_N w)
    if c.claims w 0 (i / 256) then f i c else c.portRefuse w stDENIED_WORLD

/-- Whether the reserved fields of an entry's words are zero (R75). -/
def reservedZero (d0 d1 : Nat) : Bool :=
  !bit d0 67 && !bit d0 71 && bits d0 77 76 == 0 && bits d1 95 92 == 0 && bits d1 127 112 == 0

/-- Steps 2 to 4 of R79 on new content; the status of the first that fails. A reserved field that is not zero counts as a reserved
encoding (DEDUCED, log entry 13). -/
def Chip.writeCheck (c : Chip) (w d0 d1 : Nat) : Nat :=
  let e := entryOf d0 d1
  if e.owner ≠ w then stDENIED_WORLD
  else if !encodingOk e.cls e.target e.arg || decide (2 ^ 63 ≤ e.period) || !reservedZero d0 d1 then stRANGE
  else if !c.targetHeld w e.cls e.target then stDENIED_WORLD
  else stOK

/-- Write new content into entry `i` for world `w`: the status, the occurrences skipped, whether the current occurrence had
been committed, and the module after it (R79, R81, R91). -/
def Chip.writeEntry (c : Chip) (w i d0 d1 : Nat) : Nat × Nat × Bool × Chip :=
  let e := entryOf d0 d1
  let st := c.writeCheck w d0 d1
  if st ≠ stOK then (st, 0, false, c)
  else
    let past := c.baseReady e.base e.dir && c.passed e
    if past && e.period = 0 then (stNOT_NOW, 0, false, c)
    else
      let k := if past then c.passedCount e else 0
      let e' := if past then advanceEntry e k else { e with st := .waiting }
      let c := c.when past fun c => (c.satAdd (SEQ_B_SQUASH_N e.base) k).raise 65
      let old := c.entry i
      if old.st == .committed then
        (stOK, k, true, c.setEntry i { old with
          nextWords := some (BitVec.ofNat 128 (entryWord0 e'), BitVec.ofNat 128 (entryWord1 e')), freeAfter := false })
      else (stOK, k, false, (c.setEntry i e').testOcc i)

/-- SEQ_WRITE: the WRITE command of port `w` (R79). -/
def Chip.seqWrite (c : Chip) (who : Who) (w : Nat) : Chip :=
  c.onPort who w fun i c =>
    let r := c.writeEntry w i (c.rdN (SEQ_P_D0 w)) (c.rdN (SEQ_P_D1 w))
    if r.1 = stOK then r.2.2.2.portResult w stOK r.2.1 r.2.2.1 else r.2.2.2.portRefuse w r.1

def execSeqWrite (a : Agent) (w : Fin 5) (s : State) : Host.Outcome State Fault Refusal :=
  s.by a fun who c => c.seqWrite who w.val

/-- SEQ_READ: the READ command copies the entry into the port's words (R82). -/
def Chip.seqRead (c : Chip) (who : Who) (w : Nat) : Chip :=
  c.onPort who w fun i c =>
    ((c.wrN (SEQ_P_D0 w) (entryWord0 (c.entry i))).wrN (SEQ_P_D1 w) (entryWord1 (c.entry i))).portResult w stOK 0 false

def execSeqRead (a : Agent) (w : Fin 5) (s : State) : Host.Outcome State Fault Refusal :=
  s.by a fun who c => c.seqRead who w.val

/-- SEQ_CANCEL: the CANCEL command frees the entry; a committed occurrence still fires (R82). -/
def Chip.seqCancel (c : Chip) (who : Who) (w : Nat) : Chip :=
  c.onPort who w fun i c =>
    let e := c.entry i
    if e.st == .committed then (c.setEntry i { e with freeAfter := true, nextWords := none }).portResult w stOK 0 true
    else ((c.setEntry i {}).showWindow).portResult w stOK 0 false

def execSeqCancel (a : Agent) (w : Fin 5) (s : State) : Host.Outcome State Fault Refusal :=
  s.by a fun who c => c.seqCancel who w.val

/-! ### Hand-off (R84, R87–R92) -/

/-- An occurrence has ended (R90): the entry takes its waiting content (R81), becomes free (R82), or advances to the next
occurrence, which is tested at once (R85). -/
def Chip.endOcc (c : Chip) (i : Nat) : Chip :=
  let e := c.entry i
  if e.freeAfter then (c.setEntry i {}).showWindow
  else match e.nextWords with
    | some (d0, d1) =>
      let n := entryOf d0.toNat d1.toNat
      (c.setEntry i { n with st := if bits d1.toNat 91 88 = 4 then .done else .waiting }).testOcc i
    | none => (c.setEntry i (advanceEntry e 1)).testOcc i

/-- A refused hand-off (R92). -/
def Chip.refuseHandoff (c : Chip) (i st : Nat) : Chip :=
  let e := c.entry i
  let c := (c.satInc (SEQ_B_REFUSED_N e.base)).wrN SEQ_LAST_REF (i + (st <<< 16))
  ((c.targetReports e.cls e.target st).raise 70).endOcc i

/-- Hand entry `i` to its target with fire tick `t`: refused where the target is no longer held (R80) or refuses (R92),
otherwise COMMITTED. The result says whether it was accepted. -/
def Chip.handOver (c : Chip) (i t : Nat) : Bool × Chip :=
  let e := c.entry i
  if !c.targetHeld e.owner e.cls e.target then (false, c.refuseHandoff i stDENIED_WORLD)
  else match c.targetRefusal e.cls e.target with
    | some st => (false, c.refuseHandoff i st)
    | none =>
      let c := c.setEntry i { e with st := .committed, fire := t, lateOcc := false }
      (true, (c.addAction { fire := t, cls := e.cls, target := e.target, arg := e.arg, seqEntry := some i }).showWindow)

/-- Whether an entry below `i` must be handed to the same target first (R88). -/
def Chip.earlierTwin (c : Chip) (i : Nat) : Bool :=
  let e := c.entry i
  c.seq.entries.any fun x =>
    x.1 < i && x.2.st == .armed && x.2.cls == e.cls && x.2.target == e.target && x.2.fire == e.fire

/-- An armed occurrence goes back to WAITING. -/
def Chip.disarm (c : Chip) (i : Nat) : Chip :=
  (c.setEntry i { c.entry i with st := .waiting, fire := 0, held := false, lateOcc := false }).showWindow

/-- SEQ_HANDOFF: at its commit point, or up to 255 clocks earlier, entry `i` goes to its target (R84, R87), never later: where the
commit point has passed it is tested again, and is late or squashed (R89). With EN = 0 it returns to WAITING at its commit point
(DEDUCED, log entry 14). -/
def Chip.seqHandoff (c : Chip) (i : Nat) : Chip :=
  let e := c.entry i
  let commit := e.fire - horizon e.cls
  c.when (e.st == .armed && !e.held && !e.lateOcc && c.rst.episode.isNone && c.due (commit - 318) && !c.earlierTwin i) fun c =>
    if !c.seqRuns then (if c.due commit then c.disarm i else c)
    else if c.time.frc ≤ commit then (c.handOver i e.fire).2
    else (c.disarm i).testOcc i

def execSeqHandoff (i : Fin 8192) (s : State) : Host.Outcome State Fault Refusal := s.onZone fun c => c.seqHandoff i.val

/-- LATE_HANDOFF: a late occurrence with LATE = 1 goes to its target; its fire tick is the first at or after the hand-off plus
the horizon (R89, R97 kind 3). -/
def Chip.lateHandoff (c : Chip) (i : Nat) : Chip :=
  let e := c.entry i
  c.when (e.st == .armed && !e.held && e.lateOcc && c.seqRuns) fun c =>
    let t := c.time.frc + horizon e.cls
    let r := c.handOver i t
    if r.1 then
      ((r.2.satInc (SEQ_B_LATE_N e.base)).leadRecord 3 e.base e.cls i (leadErr (r.2.estAt e.base t) e.pos) t).raise 66
    else r.2

def execLateHandoff (i : Fin 8192) (s : State) : Host.Outcome State Fault Refusal := s.onZone fun c => c.lateHandoff i.val

/-! ### Re-timing (R94, R95) -/

/-- Insert an entry by old commit point, then base, then number (R94). -/
def insertByCommit (x : Nat × SeqEntry) : List (Nat × SeqEntry) → List (Nat × SeqEntry)
  | [] => [x]
  | y :: t =>
    let kx := x.2.fire - horizon x.2.cls
    let ky := y.2.fire - horizon y.2.cls
    if kx < ky || (kx == ky && (x.2.base < y.2.base || (x.2.base == y.2.base && x.1 < y.1))) then x :: y :: t
    else y :: insertByCommit x t

/-- Re-time one held occurrence (R94). -/
def Chip.retimeOne (c : Chip) (i : Nat) : Chip :=
  let e := c.entry i
  let c := c.satInc SEQ_GEN_RETIMED
  if c.passed e then
    let k := c.passedCount e
    ((c.squash i k 67).satAdd SEQ_GEN_SQUASHED k).testOcc i
  else match c.fireTick e.base e.pos e.dir with
    | none => c.setEntry i { e with st := .waiting, held := false, lateOcc := false }
    | some t =>
      let stamped := { e with gen := c.get (PB_STAT_GEN e.base), held := false, fire := t }
      if t < c.time.frc + horizon e.cls then
        if e.late then c.setEntry i { stamped with lateOcc := true }
        else ((c.squash i 1 67).satInc SEQ_GEN_SQUASHED).testOcc i
      else c.setEntry i { stamped with lateOcc := false }

/-- SEQ_RETIME_PASS: one pass over the held occurrences of every base whose generation advanced (R94, R95). -/
def Chip.seqRetimePass (c : Chip) : Chip :=
  c.when (!c.seq.retime.isEmpty) fun c =>
    let held := c.seq.entries.filter (fun e => e.2.st == .armed && e.2.held && c.seq.retime.contains e.2.base)
    let order := held.foldl (fun l x => insertByCommit x l) []
    let c := c.wrN SEQ_GEN (c.seq.retime.foldl (fun m b => setBit m b true) 0)
    let c : Chip := { c with seq := { c.seq with retime := [] } }
    (forEach order (fun x c => c.retimeOne x.1) c).showWindow

def execSeqRetimePass (s : State) : Host.Outcome State Fault Refusal := s.onZone Chip.seqRetimePass

/-! ### Firing (R97, R98) -/

/-- The oldest fired occurrence is released unverified (R98). -/
def Chip.releaseOldest (c : Chip) : Chip :=
  (({ c with seq := { c.seq with verify := c.seq.verify.drop 1 } } : Chip).satInc SEQ_LERR_STAT_UNVER).raise 72

/-- SEQ_FIRE: a committed occurrence reaches its fire tick (R90, R97, R98); a class 6 occurrence raises its event (R76). -/
def Chip.seqFire (c : Chip) (i : Nat) : Chip :=
  let e := c.entry i
  c.when (e.st == .committed && c.due e.fire) fun c =>
    let c := c.satInc (SEQ_B_FIRED_N e.base)
    let c := c.when (e.cls == 6) fun c =>
      (({ c with seq := { c.seq with acts := c.seq.acts.filter (fun a => a.seqEntry != some i || a.cls != 6) } }) : Chip).raise
        e.target
    let c := c.when (e.gen != c.get (PB_STAT_GEN e.base)) fun c =>
      c.leadRecord 1 e.base e.cls i (leadErr (c.estAt e.base e.fire) e.pos) e.fire
    let c := c.when (decide (64 ≤ c.seq.verify.length)) Chip.releaseOldest
    let item : VerifyItem := { entry := i, base := e.base, cls := e.cls, pos := e.pos, fire := e.fire,
                               prevEdge := c.pbTe e.base, prevPos := (c.tracker e.base).pe }
    ({ c with seq := { c.seq with verify := c.seq.verify ++ [item] } } : Chip).endOcc i

def execSeqFire (i : Fin 8192) (s : State) : Host.Outcome State Fault Refusal := s.onZone fun c => c.seqFire i.val

/-- VERIFY_TIMEOUT: fired occurrences leave the verify list 65.536 ms after their fire tick without a record (R98). The release of the
oldest place of a full list takes place where the next fired occurrence needs it (SEQ_FIRE). -/
def Chip.verifyTimeout (c : Chip) : Chip :=
  { c with seq := { c.seq with verify := c.seq.verify.filter (fun v => !c.due (v.fire + 65536000)) } }

def execVerifyTimeout (s : State) : Host.Outcome State Fault Refusal := s.onZone Chip.verifyTimeout

/-- SEQ_LERR_READ: a read of the lowest word of SEQ_LERR removes the oldest record and latches it (R11, R101). -/
def Chip.seqLerrRead (c : Chip) (w : Who) : Chip :=
  let r := c.seq.lerr.headD 0
  let c : Chip := { c with seq := { c.seq with lerr := c.seq.lerr.drop 1 } }
  let c := c.set SEQ_LERR_STAT_HELD c.seq.lerr.length
  (c.latch w.key SEQ_LERR.addr r).respond w.key false (r.toNat % 2 ^ 32)

def execSeqLerrRead (a : Agent) (s : State) : Host.Outcome State Fault Refusal := s.by a fun w c => c.seqLerrRead w

/-- A write of SEQ_CTL by W2 (R101): EN, and CLRCNT clears every counter. -/
def Chip.seqCtlWrite (c : Chip) (w : Who) (v : Nat) : Chip :=
  c.when (w.world == 2) fun c =>
    let c := c.set SEQ_CTL_EN (SEQ_CTL_EN.of v)
    c.when (bit v 1) fun c =>
      forAll 16 (fun n c => [SEQ_B_FIRED n, SEQ_B_SQUASH n, SEQ_B_LATE n, SEQ_B_LEADN n, SEQ_B_REFUSED n, SEQ_B_MAXLEAD n].foldl
        (fun c r => c.wrN r 0) c) (c.wrN SEQ_WFCNT 0)

/-- SEQ_CLRCNT: a write of SEQ_CTL with CLRCNT = 1. -/
def execSeqClrcnt (a : Agent) (v : W32) (s : State) : Host.Outcome State Fault Refusal :=
  s.by a fun w c => c.seqCtlWrite w (setBit v.toNat 1 true)

/-- Drive sequencer output `n` (R77). -/
def Chip.driveSqo (c : Chip) (n arg : Nat) : Chip :=
  match arg % 4 with
  | 3 => { c with seq := { c.seq with sqoDrive := put none c.seq.sqoDrive n none } }
  | k =>
    let v := if k = 2 then !(look false c.seq.sqoLast n) else k == 1
    { c with seq := { c.seq with sqoLast := put false c.seq.sqoLast n v, sqoDrive := put none c.seq.sqoDrive n (some v) } }

/-- SQO_FIRE: the output's next due action takes effect (R77). -/
def Chip.sqoFire (c : Chip) (n : Nat) : Chip :=
  match c.dueAction 1 n with
  | none => c
  | some a => (c.dropAction a).driveSqo n a.arg

def execSqoFire (n : Fin 32) (s : State) : Host.Outcome State Fault Refusal := s.onZone fun c => c.sqoFire n.val

end Sys2Proof.Machine
end

