-- ==== Sys2Proof/Machine/Service.lean ====
section
/-! DEFINITION. Service functions for virtual machines: R342–R361. -/

namespace Sys2Proof.Machine

/-- Replace the service functions' own state. -/
def Chip.updSfe (c : Chip) (f : SfeBlk → SfeBlk) : Chip := { c with sfe := f c.sfe }

/-- The state of function `f` (R345). -/
def Chip.fnState (c : Chip) (f : Nat) : Nat := c.get (SFE_FN_CFG_STATE f)

/-- The size of pool `k` and the most a VF may hold (R343). -/
def poolSize (k : Nat) : Nat :=
  match k with
  | 0 => 256
  | 1 => 1536
  | 2 => 512
  | 3 => 128
  | 4 => 1024
  | _ => 64

def vfLimit (k : Nat) : Nat := if k = 0 then 8 else poolSize k

/-- Show the ACTIVE VFs and the free count of each pool. -/
def Chip.showSfe (c : Chip) : Chip :=
  let n := ((List.range 64).filter fun f => c.fnState f == 2).length
  let free (k : Nat) : Nat := poolSize k - (c.sfe.ranges.filter fun e => e.1 % 8 == k).foldl (fun (n : Nat) e => n + e.2.2) 0
  (c.set SFE_STAT_NACTIVE n).wrN SFE_POOLFREE ((List.range 6).foldl (fun n k => n + (free k <<< (16 * k))) 0)

/-- Enter a state. -/
def Chip.fnEnter (c : Chip) (f st : Nat) : Chip := (c.set (SFE_FN_CFG_STATE f) st).showSfe

/-- The status of a command: a refusal is recorded and raises EV0577. -/
def Chip.sfeAnswer (c : Chip) (st : Nat) : Chip :=
  let c := c.set SFE_CMD_STATUS st
  c.when (st != stOK) fun c => (c.set SFE_STAT_LASTERR st).raise 577

/-! ### Vectors (R351) -/

/-- Send the pending vectors of VF `f` whose conditions hold. -/
def Chip.vfSendPend (c : Chip) (f : Nat) : Chip :=
  forAll 64 (fun v c => c.when (c.flag (VF_VEC_PEND f v) && !c.flag (VF_VEC_MASK f v) && c.get (VF_VEC_IID f v) != 0 && c.fnState f == 2)
    fun c => c.raiseVector f v) c

/-- VF_VECTOR_RAISE. -/
def execVfVectorRaise (f : Fin 64) (v : Fin 64) (s : State) : Host.Outcome State Fault Refusal :=
  s.onZone fun c => c.raiseVector f.val v.val

/-- A write of VF_VECv through the page of VF `f`. -/
def Chip.vfVecWrite (c : Chip) (f v x : Nat) : Chip :=
  ((c.setB (VF_VEC_MASK f v) (bit x 31)).set (VF_VEC_IID f v) (bits x 10 0)).vfSendPend f

/-! ### DEFINE and UNDEFINE (R343, R344, R346) -/

/-- The range that SFE_FNf_RNGk asks for. -/
def Chip.wanted (c : Chip) (f k : Nat) : Nat × Nat :=
  let n := c.get (SFE_FN_RNG_COUNT f k)
  if n = 0 then (0, 0) else (c.get (SFE_FN_RNG_FIRST f k), n)

/-- Whether two ranges share an index. -/
def rangesShare (a b : Nat × Nat) : Bool := decide (a.1 < b.1 + b.2) && decide (b.1 < a.1 + a.2)

/-- A pool in which the wanted range of `f` overlaps another function's, or a slot that the key store holds itself (R344). -/
def Chip.poolClash (c : Chip) (f : Nat) : Option Nat :=
  (List.range 6).find? fun k =>
    let r := c.wanted f k
    r.2 != 0 && ((c.sfe.ranges.any fun e => e.1 % 8 == k && e.1 / 8 != f && rangesShare r e.2) || (k == 4 && decide (r.1 < 2)))

/-- Whether the wanted ranges of `f` lie inside their pools and limits. -/
def Chip.rangesOk (c : Chip) (f : Nat) : Bool :=
  (List.range 6).all fun k =>
    let r := c.wanted f k
    decide (r.1 + r.2 ≤ poolSize k) && (f == 64 || decide (r.2 ≤ vfLimit k))

/-- Whether PF0 would drop an enabled queue pair or a valid CAN object. -/
def Chip.dropsUsed (c : Chip) : Bool :=
  let gone (k i : Nat) : Bool := c.inRange 64 k i && !(decide ((c.wanted 64 k).1 ≤ i) && decide (i < (c.wanted 64 k).1 + (c.wanted 64 k).2))
  (List.range 256).any (fun q => gone 0 q && c.flag (ESW_HQ_CFG_EN q)) || c.can.objs.any (fun e => gone 1 e.1 && e.2.valid)

/-- The DEFINE command. -/
def Chip.sfeDefine (c : Chip) (w : Who) (f : Nat) : Chip :=
  if f < 64 && c.fnState f != 0 then c.sfeAnswer stNOT_NOW
  else if f < 64 && !(decide (1 ≤ c.get (SFE_FN_CFG_WORLD f)) && decide (c.get (SFE_FN_CFG_WORLD f) ≤ 4)) || !c.rangesOk f then
    c.sfeAnswer stRANGE
  else match c.poolClash f with
    | some k => (c.conflict 0xFF k 0xFF w).sfeAnswer stRES_CLAIMED
    | none =>
      if f = 64 && c.dropsUsed then c.sfeAnswer stBUSY
      else
        let c := forAll 6 (fun k c => c.updSfe fun b => { b with ranges := put (0, 0) b.ranges (8 * f + k) (c.wanted f k) }) c
        (if f = 64 then c.showSfe else c.fnEnter f 1).sfeAnswer stOK

/-- The UNDEFINE command. -/
def Chip.sfeUndefine (c : Chip) (f : Nat) : Chip :=
  if c.fnState f != 1 then c.sfeAnswer stNOT_NOW
  else ((forAll 6 (fun k c => c.updSfe fun b => { b with ranges := put (0, 0) b.ranges (8 * f + k) (0, 0) }) c).fnEnter f 0).sfeAnswer stOK

/-! ### Quiesce (R352, R353) -/

/-- Local dictionary sessions of VF `f` with a request in progress. -/
def Chip.dictBusy (c : Chip) (f : Nat) : Bool :=
  (List.range 64).any fun s => c.inRange f 5 s && c.flag (SES_RES_BUSY s)

/-- The units still busy for VF `f`: SFE_FNf_HOLD. -/
def Chip.fnHold (c : Chip) (f : Nat) : Nat :=
  let dma := c.esw.frames.any fun x => match x.txDesc with | some (q, _) => c.inRange f 0 q | none => false
  let can := c.can.active.any fun e => match e.2 with | some k => c.inRange f 1 (128 * e.1 + k) | none => false
  let hat := (c.hbSlots c.hbMode).any fun e => e.tx && c.inRange f 2 e.buf && (look none c.hbd.copies e.slot).isSome
  let key := c.key.jobs.any fun j => j.fn == f
  b2n dma + (b2n can <<< 1) + (b2n hat <<< 2) + (b2n key <<< 3) + (b2n (c.dictBusy f) <<< 4)

/-- A quiesce begins: pending CAN transmissions are withdrawn and queued crypto operations ended. -/
def Chip.quiesceStart (c : Chip) (f : Nat) : Chip :=
  let c := c.fnEnter f 3
  let c := c.updCan fun b => { b with objs := b.objs.foldl (fun t e =>
    put {} t e.1 (if c.inRange f 1 e.1 then { e.2 with tx := if e.2.tx == .pending then .idle else e.2.tx, queued := false } else e.2)) [] }
  let c := c.keyVfQuiesce f
  c.updSfe fun b => { b with quiescedAt := put none b.quiescedAt f (some c.frc), late := put false b.late f false }

/-- The QUIESCE command. -/
def Chip.sfeQuiesce (c : Chip) (f : Nat) : Chip :=
  if c.fnState f != 2 then c.sfeAnswer stNOT_NOW else (c.quiesceStart f).sfeAnswer stOK

/-- SFE_QUIESCED: every unit is idle for a quiescing VF. -/
def Chip.sfeQuiesced (c : Chip) (f : Nat) : Chip :=
  c.when (c.fnState f == 3 && c.fnHold f == 0) fun c =>
    ((c.fnEnter f 4).updSfe fun b => { b with quiescedAt := put none b.quiescedAt f none, late := put false b.late f false }).raise 576

def execSfeQuiesced (f : Fin 64) (s : State) : Host.Outcome State Fault Refusal := s.onZone fun c => c.sfeQuiesced f.val

/-- SFE_QUIESCE_TIMEOUT: QTO has run out since the acceptance. -/
def Chip.quiesceTimeout (c : Chip) (f : Nat) : Chip :=
  match look none c.sfe.quiescedAt f with
  | none => c
  | some t => c.when (c.fnState f == 3 && c.due (t + c.get SFE_CTL_QTO * 1000000) && !look false c.sfe.late f) fun c =>
    ((c.updSfe fun b => { b with late := put false b.late f true }).set SFE_CMD_STATUS stTIMEOUT).raise 578

def execSfeQuiesceTimeout (f : Fin 64) (s : State) : Host.Outcome State Fault Refusal := s.onZone fun c => c.quiesceTimeout f.val

/-- A local dictionary session's request is ended by force. -/
def Chip.dictForce (c : Chip) (f : Nat) : Chip :=
  let c := c.updDdp fun b => { b with fwReqs := b.fwReqs.filter fun r => match r.waiter with
    | .loc s _ => !c.inRange f 5 s
    | _ => true }
  forAll 64 (fun s c => c.when (c.inRange f 5 s && c.flag (SES_RES_BUSY s)) fun c => c.wrN (SES_RES s) (stTIMEOUT <<< 16)) c

/-- The FORCE command. -/
def Chip.sfeForce (c : Chip) (f : Nat) : Chip :=
  if c.fnState f != 3 || !look false c.sfe.late f then c.sfeAnswer stNOT_NOW else ((c.keyVfForce f).dictForce f).sfeAnswer stOK

/-- START and RESUME. -/
def Chip.sfeActivate (c : Chip) (f src : Nat) : Chip :=
  if c.fnState f != src then c.sfeAnswer stNOT_NOW else ((c.fnEnter f 2).vfSendPend f).sfeAnswer stOK

/-! ### Partition reset (R357) -/

/-- The local dictionary sessions of VF `f` are closed. -/
def Chip.dictVfReset (c : Chip) (f : Nat) : Chip :=
  let c := c.updDdp fun b => { b with fwReqs := b.fwReqs.filter fun r => match r.waiter with
    | .loc s _ => !c.inRange f 5 s
    | _ => true }
  forAll 64 (fun s c => c.when (c.inRange f 5 s) fun c =>
    (((c.wrN (SES_HDR s) 0).wrN (SES_HDR2 s) 0).wrN (SES_RES s) 0).wrN (SES_BUF s) 0) c

/-- What a reset of VF `f` clears: its resources are emptied, its vectors and dirty log cleared (R357). -/
def Chip.vfClear (c : Chip) (f : Nat) : Chip :=
  let c := ((((c.eswVfReset f).canVfReset f).hbdVfReset f).keyVfReset f).dictVfReset f
  let c := forAll 64 (fun v c => c.wrN (VF_VEC f v) (1 <<< 31)) c
  let c := c.wrN (SFE_FN_DRING f) 0
  c.updSfe fun b => { b with
    filters := put [] b.filters f []
    quiescedAt := put none b.quiescedAt f none
    late := put false b.late f false }

/-- A reset of partition reach of VF `f`: what it clears, and its leases revoked (R544). -/
def Chip.vfReset (c : Chip) (f : Nat) : Chip := ((c.vfClear f).autoRevoke [.vf f]).gatesAfterReset [.vf f]

/-- The RESET command. -/
def Chip.sfeResetCmd (c : Chip) (f : Nat) : Chip :=
  if c.fnState f != 1 && c.fnState f != 4 then c.sfeAnswer stNOT_NOW else (((c.vfReset f).fnEnter f 1).sfeAnswer stOK).partDone (64 + f) 5

/-! ### Migration (R354–R356) -/

/-- The DIRTYSYNC command. -/
def Chip.sfeDirtysync (c : Chip) (f : Nat) : Chip :=
  if c.fnState f == 0 then c.sfeAnswer stNOT_NOW
  else ((c.updSfe fun b => { b with filters := put [] b.filters f [] }).wrapInc (SFE_FN_DSTAT_EPOCH f)).sfeAnswer stOK

/-- The INVAL command: translations are taken from the tables at each access, so nothing is left to drop. -/
def Chip.sfeInval (c : Chip) (f : Nat) : Chip := if c.fnState f == 0 then c.sfeAnswer stNOT_NOW else c.sfeAnswer stOK

/-- A CAN object's part of a state record. -/
def canPart (o : CanObj) : List Nat :=
  [o.w0.toNat, o.w1.toNat, b2n o.fresh, b2n o.stale, b2n o.txDone, o.len, o.lost, o.status, o.stamp, o.flags] ++
    (copyBytes o.staging o.size).map (·.toNat) ++ (copyBytes o.current o.size).map (·.toNat)

/-- A Hatband buffer's part of a state record. -/
def hatPart (b : HbdBuf) : List Nat :=
  [b2n b.committed, b.request, b2n b.fresh, b.len, b.sender, b.channels, b.cycle, b.stamp, b.storedIn, b.status] ++
    (copyBytes b.staging 256).map (·.toNat) ++ (copyBytes b.current 256).map (·.toNat)

/-- A queue pair's registers (R347). -/
def pairRegs (q : Nat) : List Reg :=
  [ESW_HQ_TXBASE q, ESW_HQ_RXBASE q, ESW_HQ_CFG q, ESW_HQ_TXPI q, ESW_HQ_TXCI q, ESW_HQ_RXPI q, ESW_HQ_RXCI q, ESW_HQ_CNT q]

/-- The parts of a VF's state record: queue pairs, CAN objects, Hatband buffers, vectors. -/
def Chip.recordOf (c : Chip) (f : Nat) : List (List Nat) :=
  let r (k : Nat) := c.rangeOf f k
  [((List.range (r 0).2).flatMap fun i => (pairRegs ((r 0).1 + i)).map c.rdN ++ [c.rdN (VF_QPV f i)])] ++
    ((List.range (r 1).2).map fun i => canPart (c.canObj ((r 1).1 + i))) ++
    ((List.range (r 2).2).map fun i => hatPart (look {} c.hbd.bufs ((r 2).1 + i))) ++
    [(List.range 64).map fun v => c.rdN (VF_VEC f v)]

/-- The header of a state record: version, the six counts, the VF number. -/
def Chip.recordHead (c : Chip) (f : Nat) : List Byte :=
  leBytesOf 2 1 ++ ((List.range 6).flatMap fun k => leBytesOf 2 (c.rangeOf f k).2) ++ leBytesOf 2 f

/-- A VF's state record, at most 64 KiB, with its CRC-32. -/
def Chip.record (c : Chip) (f : Nat) : List Byte :=
  let bs := c.recordHead f ++ (Config.recordBody (c.recordOf f)).take 65516
  bs ++ leBytesOf 4 (crc32 bs)

/-- Bytes from numbers. -/
def byteMap (l : List Nat) : NMap Byte := intoCopy [] 0 (l.map (BitVec.ofNat 8))

/-- Load a CAN object's part. -/
def loadCan (l : List Nat) : CanObj :=
  let g (i : Nat) : Nat := l.getD i 0
  let o : CanObj := { w0 := BitVec.ofNat 128 (g 0), w1 := BitVec.ofNat 128 (g 1), fresh := g 2 != 0, stale := g 3 != 0
                      txDone := g 4 != 0, len := g 5, lost := g 6, status := g 7, stamp := g 8, flags := g 9 }
  { o with staging := byteMap ((l.drop 10).take o.size), current := byteMap ((l.drop (10 + o.size)).take o.size) }

/-- Load a Hatband buffer's part. -/
def loadHat (l : List Nat) : HbdBuf :=
  let g (i : Nat) : Nat := l.getD i 0
  { committed := g 0 != 0, request := g 1, fresh := g 2 != 0, len := g 3, sender := g 4, channels := g 5, cycle := g 6
    stamp := g 7, storedIn := g 8, status := g 9, staging := byteMap ((l.drop 10).take 256), current := byteMap ((l.drop 266).take 256) }

/-- Load the parts of a state record into VF `f`. -/
def Chip.loadRecord (c : Chip) (f : Nat) (parts : List (List Nat)) : Chip :=
  let r (k : Nat) := c.rangeOf f k
  let qp := parts.getD 0 []
  let vec := parts.getD (1 + (r 1).2 + (r 2).2) []
  let c := forAll (r 0).2 (fun i c =>
    let c := (pairRegs ((r 0).1 + i)).zipIdx.foldl (fun (c : Chip) x => c.wrN x.1 (qp.getD (9 * i + x.2) 0)) c
    c.wrN (VF_QPV f i) (qp.getD (9 * i + 8) 0)) c
  let c := forAll (r 1).2 (fun i c => c.updObj ((r 1).1 + i) fun _ => loadCan (parts.getD (1 + i) [])) c
  let c := forAll (r 2).2 (fun i c => c.updBuf ((r 2).1 + i) fun _ => loadHat (parts.getD (1 + (r 1).2 + i) [])) c
  forAll 64 (fun v c => c.wrN (VF_VEC f v) (vec.getD v 0)) c

/-- The SAVE command. -/
def Chip.sfeSave (c : Chip) (f : Nat) : Chip :=
  let a := c.get SFE_XADDR_ADDR
  if c.fnState f != 4 then c.sfeAnswer stNOT_NOW
  else if a % 16 != 0 || !inDram a (c.record f).length then c.sfeAnswer stRANGE
  else (c.updSfe fun b => { b with job := some (8, f) }).setB SFE_CMD_BUSY true

/-- SAVE_DONE: the record has been written. -/
def State.saveDone (s : State) : State :=
  match s.chip.sfe.job with
  | some (8, f) =>
    let bs := s.chip.record f
    let c := (s.chip.updSfe fun b => { b with job := none }).setB SFE_CMD_BUSY false
    { s with chip := ((c.set SFE_XADDR_LEN bs.length).sfeAnswer stOK).raise 576
             mem := memWrite s.mem (s.chip.get SFE_XADDR_ADDR) bs }
  | _ => s

def execSaveDone (s : State) : Host.Outcome State Fault Refusal := s.onZoneMem State.saveDone

/-- The RESTORE command. -/
def Chip.sfeRestore (c : Chip) (f : Nat) : Chip :=
  if c.fnState f != 1 && c.fnState f != 4 then c.sfeAnswer stNOT_NOW
  else (c.updSfe fun b => { b with job := some (9, f) }).setB SFE_CMD_BUSY true

/-- The status of a record's check. -/
def Chip.recordCheck (c : Chip) (f : Nat) (bs : List Byte) : Nat :=
  if (bs.take 14) ≠ ((c.recordHead f).take 14) then stRANGE
  else if leNat (bs.drop (bs.length - 4)) ≠ crc32 (bs.take (bs.length - 4)) then stINTEGRITY
  else stOK

/-- RESTORE_DONE: the record has been checked, and loaded or refused; crypto and dictionary sessions are closed and empty. -/
def State.restoreDone (s : State) : State :=
  match s.chip.sfe.job with
  | some (9, f) =>
    let c := (s.chip.updSfe fun b => { b with job := none }).setB SFE_CMD_BUSY false
    let a := c.get SFE_XADDR_ADDR
    let all := memRead s.mem a (min 65536 (0xA00000000 - a))
    let bs := all.take (max 20 (Config.recordLength all))
    let st := if inDram a bs.length then c.recordCheck f bs else stRANGE
    let c := c.when (st == stOK) fun c =>
      (((c.loadRecord f (Config.recordParts ((bs.drop 16).take (bs.length - 20)))).keyVfReset f).dictVfReset f).fnEnter f 4
    { s with chip := (c.sfeAnswer st).raise 576 }
  | _ => s

def execRestoreDone (s : State) : Host.Outcome State Fault Refusal := s.onZoneMem State.restoreDone

/-! ### The command register (R346, R358) -/

/-- A write of SFE_CMD by W1; a reserved OP or FN is ignored. -/
def Chip.sfeCmdWrite (c : Chip) (w : Who) (v : Nat) : Chip :=
  let op := bits v 30 27
  let f := bits v 6 0
  c.when (w.world == 1 && !c.flag SFE_CMD_BUSY && decide (op < 12) && decide (f < 65)) fun c =>
    let c := c.set SFE_CMD_FN f
    if op = 0 then c
    else if f = 64 && !([1, 10, 11].contains op) then c.sfeAnswer stRANGE
    else match op with
      | 1 => c.sfeDefine w f
      | 2 => c.sfeActivate f 1
      | 3 => c.sfeQuiesce f
      | 4 => c.sfeActivate f 4
      | 5 => c.sfeForce f
      | 6 => c.sfeResetCmd f
      | 7 => c.sfeUndefine f
      | 8 => c.sfeSave f
      | 9 => c.sfeRestore f
      | 10 => c.sfeDirtysync f
      | _ => c.sfeInval f

def execSfeDefine (a : Agent) (v : W32) (s : State) : Host.Outcome State Fault Refusal := s.by a fun w c => c.sfeCmdWrite w v.toNat
def execSfeStart (a : Agent) (v : W32) (s : State) : Host.Outcome State Fault Refusal := s.by a fun w c => c.sfeCmdWrite w v.toNat
def execQuiesce (a : Agent) (v : W32) (s : State) : Host.Outcome State Fault Refusal := s.by a fun w c => c.sfeCmdWrite w v.toNat
def execSfeResume (a : Agent) (v : W32) (s : State) : Host.Outcome State Fault Refusal := s.by a fun w c => c.sfeCmdWrite w v.toNat
def execForce (a : Agent) (v : W32) (s : State) : Host.Outcome State Fault Refusal := s.by a fun w c => c.sfeCmdWrite w v.toNat
def execSfeReset (a : Agent) (v : W32) (s : State) : Host.Outcome State Fault Refusal := s.by a fun w c => c.sfeCmdWrite w v.toNat
def execUndefine (a : Agent) (v : W32) (s : State) : Host.Outcome State Fault Refusal := s.by a fun w c => c.sfeCmdWrite w v.toNat
def execSave (a : Agent) (v : W32) (s : State) : Host.Outcome State Fault Refusal := s.by a fun w c => c.sfeCmdWrite w v.toNat
def execRestore (a : Agent) (v : W32) (s : State) : Host.Outcome State Fault Refusal := s.by a fun w c => c.sfeCmdWrite w v.toNat
def execDirtysync (a : Agent) (v : W32) (s : State) : Host.Outcome State Fault Refusal := s.by a fun w c => c.sfeCmdWrite w v.toNat
def execSfeInval (a : Agent) (v : W32) (s : State) : Host.Outcome State Fault Refusal := s.by a fun w c => c.sfeCmdWrite w v.toNat

/-! ### Traffic and errors (R348, R349, R359) -/

/-- VF_DMA_ACCESS: a unit's access for VF `f`; the response goes to the unit. -/
def State.vfDma (s : State) (mid f addr n : Nat) (data : Option (List Byte)) : State :=
  if s.chip.fnState f != 2 && s.chip.fnState f != 3 then s
  else
    let t := s.chip.fnTag mid f
    let key := mid * 128 + 64 + f
    match data with
    | none =>
      let r := s.busRead t addr n
      { r.2 with chip := r.2.chip.respond key r.1.isNone (leNat (r.1.getD [])) }
    | some bs =>
      let r := s.busWrite t addr bs
      { r.2 with chip := r.2.chip.respond key (!r.1) 0 }

def execVfDmaAccess (mid : Fin 20) (f : Fin 64) (addr : BitVec 50) (size : Fin 4097) (data : Option (List Byte)) (s : State) :
    Host.Outcome State Fault Refusal :=
  s.onZoneMem fun s => s.vfDma mid.val f.val addr.toNat size.val data

/-- SFE_STATE_ECC: an uncorrectable error in the state of a function. -/
def Chip.sfeStateEcc (c : Chip) (f : Nat) : Chip := (c.when (c.fnState f != 0) fun c => c.quiesceStart f).raise 584

def execSfeStateEcc (f : Fin 64) (s : State) : Host.Outcome State Fault Refusal := s.onZone fun c => c.sfeStateEcc f.val

/-- A reset of warm reach or wider, or sleep (R361): from system reach on every VF is FREE, otherwise the defined ones are in DEFINED. -/
def Chip.sfeWide (c : Chip) (wide : Bool) : Chip :=
  let c := c.updSfe fun b => { b with filters := [], quiescedAt := [], late := [], job := none, ranges := if wide then [] else b.ranges }
  let c := c.setB SFE_CMD_BUSY false
  let c := forAll 64 (fun f c => c.when (c.fnState f != 0) fun c => c.set (SFE_FN_CFG_STATE f) (if wide then 0 else 1)) c
  c.showSfe

end Sys2Proof.Machine
end

