-- ==== Sys2Proof/Machine/Time.lean ====
section
/-! DEFINITION. The FRC, the clock monitor and the time domains: R38–R52. -/

namespace Sys2Proof.Machine

/-- The quality of every domain is forced to 0 (R38, R41, R47), and PB0's generation advances (R66). -/
def Chip.forceQuality (c : Chip) : Chip :=
  (forAll 8 (fun n c => (c.set (TD_CTL_QUAL n) 0).stick (TD_STAT_QFORCED n)) c).genAdvance 0

/-- FRC_START: the timebase PLL first locks after a cold reset; the FRC starts at zero (R39). -/
def Chip.frcStart (c : Chip) : Chip :=
  c.when (!c.time.started && c.rst.episode.isNone && c.rst.releasing == some 4 && c.rst.relStep == .pll) fun c =>
    let c : Chip := { c with time := { c.time with frc := 0, started := true }, rst := { c.rst with relStep := .options } }
    c.setB TIME_STAT_TBLOCK true

def execFrcStart (s : State) : Host.Outcome State Fault Refusal := s.on Chip.frcStart

/-- CRYSTAL_LOST: the timebase and system PLLs run from the reference oscillator, every quality is forced to 0, and EV0130 is
raised (R38); the Hatband leaves NORMAL (R236). A lost crystal is not lost again. -/
def Chip.crystalLost (c : Chip) : Chip :=
  c.when (c.flag TIME_STAT_TBLOCK && !c.flag TIME_STAT_XTALLOST) fun c =>
    (((c.setB TIME_STAT_XTALLOST true).forceQuality).raise 130).hbdCrystal

def execCrystalLost (s : State) : Host.Outcome State Fault Refusal := s.on Chip.crystalLost

/-- A refused write of a time domain: LASTERR, REFUSED and EV0129 (R44, R45, R47). -/
def Chip.tdRefuse (c : Chip) (n st : Nat) : Chip := (c.stick (TD_STAT_REFUSED n)).refuse (TD_STAT_LASTERR n) st 129

/-- Re-anchor domain `n` at the present tick with offset `ofs` and increment `inc` (R43), and check PB0's generation and its
fired occurrences (R66, R98). -/
def Chip.tdApply (c : Chip) (n ofs inc : Nat) : Chip :=
  let h := c.time.frc + c.get (PB_HZN_HZN 0) * 1000
  let before := c.pb0At h
  let c := c.wrN (TD_OFS n) (tvWord ofs)
  let c := c.set (TD_ANCHOR_FRC n) c.time.frc
  let c := c.set (TD_INC_INC n) inc
  let c := c.stick (TD_STAT_APPLIED n)
  c.when (n == 0) fun c =>
    let adv := decide ((c.get (PB_TOL_TOL 0) : Int) < ((s64 ((c.pb0At h : Int) - (before : Int))).natAbs : Int))
    (c.when adv fun c => c.genAdvance 0).verifyBase 0 adv

/-- TD_INC_WRITE: load a new increment without a jump, or refuse it (R43–R45, R47). -/
def Chip.tdIncWrite (c : Chip) (w : Who) (n v : Nat) : Chip :=
  let inc := v % 2 ^ 64
  if !c.claims w.world 5 n then c.tdRefuse n stDENIED_WORLD
  else if decide (n ≤ 1) && (decide (inc < 0x0000FFDF3B645A1D) || decide (0x00010020C49BA5E3 < inc)) then
    c.tdRefuse n stRANGE
  else (c.tdApply n (c.tdAt n c.time.frc) inc).setB (TD_STAT_QFORCED n) false

def execTdIncWrite (a : Agent) (n : Fin 8) (v : W128) (s : State) : Host.Outcome State Fault Refusal :=
  s.by a fun w c => c.tdIncWrite w n.val v.toNat

/-- Count an OFS or STEP apply, and raise EV0128 for TD0 (R46). -/
def Chip.tdStepped (c : Chip) (n : Nat) : Chip :=
  (c.wrapInc (TD_STAT_STEPS n)).when (n == 0) fun c => c.raise 128

/-- TD_OFS_WRITE: re-anchor the domain with the written offset (R43, R46, R52). -/
def Chip.tdOfsWrite (c : Chip) (w : Who) (n v : Nat) : Chip :=
  if !c.claims w.world 5 n then c.tdRefuse n stDENIED_WORLD
  else if 999999999 < bits v 79 48 then c.tdRefuse n stRANGE
  else (c.tdApply n (tvUnits v) (c.get (TD_INC_INC n))).tdStepped n

def execTdOfsWrite (a : Agent) (n : Fin 8) (v : W128) (s : State) : Host.Outcome State Fault Refusal :=
  s.by a fun w c => c.tdOfsWrite w n.val v.toNat

/-- TD_STEP_WRITE: add the signed step, in units of 2^-16 ns, to the domain (R43, R46). -/
def Chip.tdStepWrite (c : Chip) (w : Who) (n v : Nat) : Chip :=
  if !c.claims w.world 5 n then c.tdRefuse n stDENIED_WORLD
  else
    let ofs := (((c.tdAt n c.time.frc : Int) + signed 80 v) % ((2 ^ 48 * secUnits : Nat) : Int)).toNat
    (c.tdApply n ofs (c.get (TD_INC_INC n))).tdStepped n

def execTdStepWrite (a : Agent) (n : Fin 8) (v : W128) (s : State) : Host.Outcome State Fault Refusal :=
  s.by a fun w c => c.tdStepWrite w n.val v.toNat

/-- TD_CTL_WRITE: QUAL and, for TD1, SRC; a Hatbox source is refused as a whole on -N (R3), a reserved SRC is ignored as a
whole (R10), and QUAL is not taken while QFORCED is set (R47). SRC is read only in the other domains (R48). -/
def Chip.tdCtlWrite (c : Chip) (w : Who) (n v : Nat) : Chip :=
  let src := (TD_CTL_SRC n).of v
  if !c.claims w.world 5 n then c.tdRefuse n stDENIED_WORLD
  else if n = 1 && src = 1 && !c.variantH then c.tdRefuse n stNO_OBJECT
  else if n = 1 && decide (1 < src) then c
  else
    let c := c.when (n == 1) fun c =>
      let c := c.when (src == 1 && c.get (TD_CTL_SRC n) != 1) fun c =>
        { c with time := { c.time with lastMark := some c.time.frc } }
      c.set (TD_CTL_SRC n) src
    if c.flag (TD_STAT_QFORCED n) then c.tdRefuse n stNOT_NOW
    else (c.set (TD_CTL_QUAL n) ((TD_CTL_QUAL n).of v)).stick (TD_STAT_APPLIED n)

def execTdCtlWrite (a : Agent) (n : Fin 8) (v : W32) (s : State) : Host.Outcome State Fault Refusal :=
  s.by a fun w c => c.tdCtlWrite w n.val v.toNat

/-- TIME_SNAP_TAKE: the FRC and the eight domains at one tick (R50). -/
def Chip.timeSnapTake (c : Chip) (v : Nat) : Chip :=
  c.when (TIME_SNAP_TAKE.of v == 1) fun c =>
    forAll 8 (fun n d => d.wrN (TIME_SNAP_TD n) (c.tdRead n c.time.frc)) (c.set TIME_SNAP_FRC_FRC c.time.frc)

def execTimeSnapTake (a : Agent) (v : W32) (s : State) : Host.Outcome State Fault Refusal :=
  s.by a fun _ c => c.timeSnapTake v.toNat

/-- TIME_CONV: convert an FRC value into a domain for this master or VF (R51); a reserved domain number is ignored (R10). -/
def Chip.timeConv (c : Chip) (w : Who) (v : Nat) : Chip :=
  let n := TIME_CONV_IN_DOMAIN.of v
  c.when (decide (n < 8)) fun c =>
    { c with time := { c.time with
      convIn := put 0 c.time.convIn w.key (v % 2 ^ 68)
      convOut := put 0 c.time.convOut w.key (c.tdRead n (v % 2 ^ 64)) } }

def execTimeConv (a : Agent) (v : W128) (s : State) : Host.Outcome State Fault Refusal :=
  s.by a fun w c => c.timeConv w v.toNat

/-- TIME_MARK_LATCH: a Hatbox time mark arrives at I3 (R49). -/
def Chip.timeMarkLatch (c : Chip) (utc : Nat) : Chip :=
  c.when c.variantH fun c =>
    let c := c.wrN TIME_T1M_UTC utc
    let c := c.set TIME_T1M_FRC_FRC c.time.frc
    let c : Chip := { c with time := { c.time with lastMark := some c.time.frc } }
    ((c.stick TIME_STAT_T1MNEW).raise 131).seamForward 1 2 (leBytesOf 16 utc)

def execTimeMarkLatch (utc : W128) (s : State) : Host.Outcome State Fault Refusal :=
  s.onZone fun c => c.timeMarkLatch utc.toNat

/-- TIME_MARK_TIMEOUT: no mark for 2 s while TD1 is fed from the Hatbox (R49). -/
def Chip.timeMarkTimeout (c : Chip) : Chip :=
  c.when (c.get (TD_CTL_SRC 1) == 1 && c.dueAt (c.time.lastMark.map (· + 2000000000))) fun c =>
    ({ c with time := { c.time with lastMark := none } } : Chip).raise 132

def execTimeMarkTimeout (s : State) : Host.Outcome State Fault Refusal := s.onZone Chip.timeMarkTimeout

end Sys2Proof.Machine
end

