-- ==== Sys2Proof/Machine/ResetCore.lean ====
section
/-! DEFINITION. What a reset clears, block by block, and how its sources open, widen and close an episode: R440–R445. -/

namespace Sys2Proof.Machine

/-- Replace the reset block's own state. -/
def Chip.updRst (c : Chip) (f : RstBlk → RstBlk) : Chip := { c with rst := f c.rst }

/-! ### Block by block (R73, R104, R142, R292, R341, R413) -/

/-- Time and bases: the FRC runs on but for a cold reset; from system reach on the trackers are off, a lost crystal is taken
back, every quality is forced to 0 and PB0's generation advances (R38, R73). -/
def Chip.timeReset (c : Chip) (reach : Nat) : Chip :=
  if reach < 3 then { c with time := { c.time with convIn := [], convOut := [] } }
  else if reach = 3 then
    ({ c with time := { c.time with convIn := [], convOut := [], trackers := [], lastMark := none } } : Chip).setB TIME_STAT_XTALLOST false
      |>.forceQuality
  else { c with time := {} }

/-- The sequencer at a reset (R104): a wide one clears it; a warm one empties the window, and drops and squashes what is committed. -/
def Chip.seqReset (c : Chip) (wide : Bool) : Chip :=
  if wide then { c with seq := {} }
  else
    let com := (c.seq.entries.filter fun e => e.2.st == .committed).map (·.1)
    let c := forEach com (fun i c =>
      let e := c.entry i
      ((c.satAdd (SEQ_B_SQUASH_N e.base) 1).raise 65).endOcc i) c
    let c := c.mapEntries fun _ e =>
      if e.st == .armed then { e with st := .waiting, fire := 0, held := false, lateOcc := false } else e
    ({ c with seq := { c.seq with acts := [], verify := [], retime := [], sqoDrive := [] } } : Chip).showWindow

/-- The load switches at a reset (R132, R137, R142): every slice declares silence; a cold one resets the cuff, with every E_acc at
half its rating and no policy. -/
def Chip.lscReset (c : Chip) (cold : Bool) : Chip :=
  let c := forAll 3 (fun sl c => c.linkLost sl) c
  let c : Chip := { c with lsc := { c.lsc with adoptRes := [] } }
  if cold then
    let c := c.cuffClear
    let c := forAll 48 (fun n c => c.updLs n fun x => { x with lifeUj := 0 }) c
    ({ c with lsc := { c.lsc with policy := none, silenceDue := false, fallbackDue := false } } : Chip).showNadopt
  else c.declareSilence [0, 1, 2]

/-- Inputs and sleep at a reset: AWAKE, with a wake hold (R292). -/
def Chip.nmwReset (c : Chip) : Chip :=
  let c := (c.updNmw fun b => { pxLevel := b.pxLevel }).inputsReacquire false
  ((c.set NMW_SLP_STAT_STATE slAWAKE).setB NMW_SLP_STAT_LATE false).holdStart none

/-- The dictionary engine at a reset or at sleep entry (R413): sessions close, transfers end, queues are disabled. -/
def Chip.ddpReset (c : Chip) (reach : Nat) : Chip :=
  let c := if reach < 3 then
      let c := forEach (c.ddp.xfers.map (·.1)) (fun x c => c.xferAbort x stTIMEOUT) c
      forEach (c.ddp.sessions.map (·.1)) (fun s c => c.sessionEnds s stTIMEOUT) c
    else c
  let c := c.updDdp fun b => { copyA := b.copyA, copyB := b.copyB, name := if reach < 3 then b.name else 0, loaded := b.loaded && decide (reach < 3) }
  let c := forAll 4 (fun w c => c.setB (DDP_FWQ_CFG_EN w) false) c
  let c := forAll 64 (fun s c => c.wrN (SES_RES s) 0) c
  (c.set DDP_STAT_SESSIONS 0).set DDP_STAT_XFERS 0

/-- Cores and comparators at a reset (R341): no hart runs; halts by mismatch, steps and injections end. -/
def Chip.coreReset (c : Chip) : Chip :=
  let c : Chip := { c with core := { clockMHz := c.core.clockMHz } }
  forAll 4 (fun p c => (c.setB (CMP_P_STAT_HALTED p) false).setB (CMP_P_INJRES_DONE p) true) c

/-- Service functions at a warm reset: every VF that is defined as after RESET (R361). -/
def Chip.vfsClear (c : Chip) : Chip :=
  forAll 64 (fun f c => c.when (c.fnState f != 0) fun c => c.vfClear f) c

/-- The supply die at a reset: the sleep-entry flush is interrupted (R305), from system reach on the image has to be rebuilt (R302),
and a cold reset ends everything but the undervoltage that lasts. -/
def Chip.pmuReset (c : Chip) (reach : Nat) : Chip :=
  if 4 ≤ reach then
    { c with pmu := { uvz := c.pmu.uvz, uvh := c.pmu.uvh }, core := { c.core with clockMHz := 1600 } }
  else
    let c := c.when c.pmu.flushing fun c =>
      (((c.set PMU_STAT_LASTSLEEP 4).satInc PMU_CNT_RESFAIL).updRst fun b => { b with deferred := b.deferred ++ [452] }).set PMU_IMG_BACKLOG 0
    let c : Chip := { c with pmu := { c.pmu with flushing := false } }
    c.when (decide (3 ≤ reach)) fun c => ({ c with pmu := { c.pmu with rebuild := true, sealed := false } } : Chip).setB PMU_IMG_VALID false

/-- The reset block itself: W0 takes over, watchdogs stop, partition resets are absorbed (R30, R444, R464, R466). -/
def Chip.rstReset (c : Chip) (reach : Nat) : Chip :=
  let c := c.updRst fun b => { b with
    handed := false, dramTrained := b.dramTrained && decide (reach < 3), parts := [], hartHeld := [], swres := []
    wdtStart := [], wdtHalf := [], resumeBoot := false }
  let c := c.when (decide (3 ≤ reach)) fun c => (c.setB RST_STAT_SEALED false).setB RST_SEAL_SEAL false
  (c.setB RST_STAT_W0ACTIVE true).setB PMU_STAT_RESUMED false

/-- What a reset of a reach (2 warm, 3 system, 4 cold) clears in the module (R440). -/
def Chip.zoneReset (c : Chip) (reach : Nat) : Chip :=
  let wide := decide (3 ≤ reach)
  let gfault := c.flag HBD_STAT_GFAULT
  let c := c.coreReset
  let c := if wide then c else c.vfsClear
  let c := (c.ddpReset reach).clmReset wide
  let c := ((((c.lscReset (reach == 4)).seqReset wide).brgReset wide).canReset wide).eswReset
  let c := c.dropRegs reach
  let c : Chip := { c with fab := {} }
  let c := c.timeReset reach
  let c := (c.leReset reach 0).leReset reach 1
  let c := (((c.hbdReset wide gfault).nmwReset).keyReset reach).sfeWide wide
  let c := ((c.seamReset wide).showRev.showIso).pmuReset reach
  c.rstReset reach

/-- LPDDR5 and Safety SRAM lose their content (R440, R445). -/
def State.loseMemory (s : State) : State :=
  { s with mem := s.mem.filter fun e => !(regionOf e.1 == .dram || regionOf e.1 == .ssram) }

/-- A reset of a reach takes hold. -/
def State.zoneReset (s : State) (reach : Nat) : State :=
  let s := if 3 ≤ reach then s.loseMemory else s
  { s with chip := s.chip.zoneReset reach }

/-! ### Sources (R441) -/

/-- The reach a source asserts with. -/
def Chip.sourceReach (c : Chip) (s : ResetSource) : Nat :=
  match s with
  | .powerOn => 4
  | .resetN => if c.flag RST_REACH_RSTN then 2 else 3
  | .watchdog w => if w.val = 0 then 3 else c.get (RST_WDT_CFG_REACH w.val)
  | .cmpMismatch p => if bit (c.get RST_REACH_MMPAIR) p.val then 3 else 1
  | .le0Mismatch => if c.flag RST_REACH_MMLE0 then 3 else 1
  | .swReq r => r
  | .update => 2
  | _ => 3

/-- The cause bit of a source. -/
def causeBit (s : ResetSource) : Nat :=
  match s with
  | .powerOn => 0
  | .uvz => 1
  | .brownOut => 2
  | .resetN => 3
  | .watchdog w => 4 + w.val
  | .cmpMismatch _ => 9
  | .le0Mismatch => 9
  | .swReq _ => 10
  | .ndmReset => 11
  | .thermal => 12
  | .optionRetry => 13
  | .update => 15

/-- Set a cause bit. -/
def Chip.setCause (c : Chip) (s : ResetSource) : Chip := c.wrN RST_CAUSE (setBit (c.rdN RST_CAUSE) (causeBit s) true)

/-! ### Partition resets (R444) -/

/-- The masters of a partition target: a pair's, a logic engine's; a VF for the rest. -/
def partHolders (target : Nat) : List LeaseHolder :=
  if target < 4 then [.mid (2 * target), .mid (2 * target + 1)]
  else if target < 6 then [.mid (4 + target)]
  else [.vf (target - 64)]

/-- A partition source asserts: the target goes into reset, or stays in it longer; an open episode of system reach or wider
absorbs it. Its leases are revoked (R544), and a logic engine refuses hand-offs (R180). -/
def Chip.partAssert (c : Chip) (target source : Nat) : Chip :=
  if (match c.rst.episode with | some r => decide (3 ≤ r) | none => false) then c
  else
    let c := c.updRst fun b => { b with parts := upd [] b.parts target fun l => l ++ [source] }
    let c := if target < 4 then
        { c with core := { c.core with running := put false (put false c.core.running (2 * target) false) (2 * target + 1) false } }
      else if target < 6 then c.updLe (target - 4) fun g => { g with inReset := true }
      else c
    c.autoRevoke (partHolders target)

/-! ### Episodes (R442, R443) -/

/-- A source of warm reach or wider asserts: it opens an episode, widens it, or reopens the one whose release sequence runs. -/
def State.openEpisode (s : State) (src : ResetSource) (reach : Nat) : State :=
  let c := s.chip
  let old := c.rst.episode.orElse fun _ => c.rst.releasing
  let r := max reach (old.getD 0)
  let s := if c.rst.episode.isSome && decide (r = old.getD 0) then s
    else ({ s with chip := c.updRst fun b => { b with episode := some r } } : State).zoneReset r
  let c := s.chip.updRst fun b => { b with
    episode := some r, releasing := none, sources := if b.sources.contains src then b.sources else b.sources ++ [src] }
  let c := if old.isNone && decide (r < 4) then c.satInc RST_STAT_EPISODES else c
  { s with chip := c.setCause src }

/-- A reset source asserts with its reach (R441); a partition reach goes to its target. In SLEEP and DEEP the zone die is off, and
only a power-on reset is one. -/
def State.assertSource (s : State) (src : ResetSource) : State :=
  let r := s.chip.sourceReach src
  if s.chip.pmu.power ≠ .run && src ≠ .powerOn then s
  else if r ≤ 1 then
    { s with chip := match src with
      | .cmpMismatch p => s.chip.partAssert p.val 1
      | .le0Mismatch => s.chip.partAssert 4 1
      | .watchdog w => (s.chip.partAssert (s.chip.get (RST_WDT_CFG_PAIR w.val)) 2).setCause src
      | _ => s.chip }
  else s.openEpisode src r

end Sys2Proof.Machine
end

