-- ==== Sys2Proof/Machine/Package.lean ====
section
/-! DEFINITION. Update packages: the manifest, its components and rules, where they are stored, and the order of installation:
R506–R510, R517, R518. -/

namespace Sys2Proof.Machine

/-- Replace the update agent's own state. -/
def Chip.updUpdate (c : Chip) (f : UpdBlk → UpdBlk) : Chip := { c with update := f c.update }

/-! ### The manifest (R506–R508) -/

/-- Bytes `a` to `a + n - 1`. -/
def slice (bs : List Byte) (a n : Nat) : List Byte := (bs.drop a).take n

/-- Whether bytes are all zero. -/
def allZero (bs : List Byte) : Bool := bs.all (· == 0)

/-- A component of a package (R507). -/
structure Component where
  type : Nat
  inst : Nat
  version : Nat
  first : Nat
  length : Nat
  deriving DecidableEq, Repr

/-- TYPE × 8 + INSTANCE. -/
def Component.code (x : Component) : Nat := x.type * 8 + x.inst

/-- A compatibility rule (R508). -/
structure CompatRule where
  kind : Nat
  subject : Nat
  object : Nat
  peer : Nat
  low : Nat
  high : Nat
  deriving DecidableEq, Repr

def mfKeyIdx (m : List Byte) : Nat := leNat (slice m 6 1)
def mfComps (m : List Byte) : Nat := leNat (slice m 7 1)
def mfSegs (m : List Byte) : Nat := leNat (slice m 12 4)
def mfVersion (m : List Byte) : Nat := leNat (slice m 16 4)
def mfVariants (m : List Byte) : Nat := leNat (slice m 20 1)
def mfSteppings (m : List Byte) : Nat := leNat (slice m 21 1)
def mfRuleCount (m : List Byte) : Nat := leNat (slice m 22 2)
def mfId (m : List Byte) : Nat := leNat (slice m 24 8)

/-- The modulus of the signer. -/
def mfModulus (m : List Byte) : List Byte := slice m (m.length - 1024) 512

/-- The SHA-512 that the manifest gives segment `i`. -/
def mfHash (m : List Byte) (i : Nat) : List Byte := slice m (5184 + 64 * i) 64

/-- Component descriptor `i`. -/
def mfComp (m : List Byte) (i : Nat) : Component :=
  let d := slice m (64 + 64 * i) 64
  { type := leNat (slice d 0 1), inst := leNat (slice d 1 1), version := leNat (slice d 4 4), first := leNat (slice d 8 4)
    length := leNat (slice d 12 4) }

/-- The components of a package, in descriptor order. -/
def mfComponents (m : List Byte) : List Component := (List.range (mfComps m)).map (mfComp m)

/-- Rule `i`. -/
def mfRule (m : List Byte) (i : Nat) : CompatRule :=
  let d := slice m (1088 + 16 * i) 16
  { kind := leNat (slice d 0 1), subject := leNat (slice d 1 1) * 8 + leNat (slice d 2 1)
    object := leNat (slice d 3 1) * 8 + leNat (slice d 4 1), peer := leNat (slice d 5 3), low := leNat (slice d 8 4)
    high := leNat (slice d 12 4) }

/-- The rules of a package. -/
def mfRules (m : List Byte) : List CompatRule := (List.range (mfRuleCount m)).map (mfRule m)

/-- The segments a component takes. -/
def Component.segments (x : Component) : Nat := (x.length + 65535) / 65536

/-- The offset of a component's region in its bank, and its size (R509); STAGE1 has a stage-1 bank of its own. -/
def regionOfComp (code : Nat) : Nat × Nat :=
  match code / 8 with
  | 1 => (0, 0x400000)
  | 2 => (0, 0x100000)
  | 8 => (0x100000, 0x100000)
  | 7 => (0x200000, 0x400000)
  | 5 => (0x600000, 0x200000)
  | 6 => (0x800000, 0x200000)
  | 3 => (0xA00000, 0x2000000)
  | 4 => (0x2A00000 + code % 8 * 0x600000, 0x600000)
  | _ => (0, 0)

/-- Whether a descriptor is well formed. -/
def compOk (m : List Byte) (i : Nat) : Bool :=
  let d := slice m (64 + 64 * i) 64
  let x := mfComp m i
  decide (1 ≤ x.type ∧ x.type ≤ 8) && (if x.type = 4 then decide (x.inst < 8) else x.inst == 0) &&
    allZero (slice d 2 2) && allZero (slice d 16 48) && decide (x.length ≤ (regionOfComp x.code).2) &&
    (x.type != 2 || x.length == 4096) && (x.type != 1 || decide (4096 < x.length))

/-- Whether the segments of the components follow one another without gaps, from `next` to the last. -/
def segsFollow (n : Nat) : Nat → List Component → Bool
  | next, [] => next == n
  | next, x :: t => x.first == next && segsFollow n (next + x.segments) t

/-- Whether a rule is well formed and its subject in the package. -/
def ruleOk (comps : List Component) (r : CompatRule) : Bool :=
  (comps.any fun x => x.code == r.subject) &&
    ((r.kind == 1 && r.peer == 0) || (r.kind == 2 && r.object == 0 && decide (r.peer < 2 ^ 18)))

/-- Format, lengths, regions and zero fields (step 2 of R512). -/
def manifestOk (m : List Byte) : Bool :=
  let n := mfSegs m
  let comps := mfComponents m
  (slice m 0 4) == [0x41, 0x58, 0x4D, 0x46] && leNat (slice m 4 2) == 1 && decide (mfKeyIdx m ≤ 3) &&
    decide (1 ≤ mfComps m ∧ mfComps m ≤ 16) && decide (1 ≤ n ∧ n ≤ 1536) && decide (mfRuleCount m ≤ 256) &&
    leNat (slice m 8 4) == 5184 + 64 * n + 1024 && m.length == 5184 + 64 * n + 1024 && allZero (slice m 32 32) &&
    (List.range (mfComps m)).all (compOk m) && allZero (slice m (64 + 64 * mfComps m) (1024 - 64 * mfComps m)) &&
    segsFollow n 0 comps && decide ((comps.map Component.code).Nodup) && (mfRules m).all (ruleOk comps) &&
    allZero (slice m (1088 + 16 * mfRuleCount m) (4096 - 16 * mfRuleCount m))

/-! ### The order of installation (R518) -/

/-- The version of an object: the new one where it is among the installed components of the package, otherwise the old one. -/
def objectVersion (versions : NMap Nat) (installed : List Component) (code : Nat) : Nat :=
  match installed.find? fun x => x.code == code with
  | some x => x.version
  | none => look 0 versions code

/-- Whether every KIND 1 rule of every installed component holds. -/
def rulesHold (rules : List CompatRule) (versions : NMap Nat) (installed : List Component) : Bool :=
  rules.all fun r => r.kind != 1 || !(installed.any fun x => x.code == r.subject) ||
    (let v := objectVersion versions installed r.object
     decide (r.low ≤ v) && decide (v ≤ r.high))

/-- The components by TYPE and then INSTANCE. -/
def byCode (l : List Component) : List Component :=
  l.foldl (fun acc x => acc.takeWhile (fun y => decide (y.code ≤ x.code)) ++ [x] ++ acc.dropWhile (fun y => decide (y.code ≤ x.code))) []

/-- The order that installs the rest, lowest component first wherever several may come next. -/
def orderFrom (rules : List CompatRule) (versions : NMap Nat) : Nat → List Component → List Component → Option (List Component)
  | 0, _, _ => some []
  | fuel + 1, installed, rest =>
    if rest.isEmpty then some []
    else rest.findSome? fun x =>
      if rulesHold rules versions (installed ++ [x]) then
        (orderFrom rules versions fuel (installed ++ [x]) (rest.filter fun y => y.code != x.code)).map (x :: ·)
      else none

/-- The installation order of a package, where one exists. -/
def Chip.installOrder (c : Chip) (m : List Byte) : Option (List Component) :=
  let l := byCode (mfComponents m)
  orderFrom (mfRules m) c.update.versions l.length [] l

/-! ### Storage (R509, R510) -/

/-- The base of an image bank, or of a stage-1 bank (0 A, 1 B; R453). -/
def imageBank (b : Nat) : Nat := if b = 0 then 0x100000000 else 0x106000000
def stageBank (b : Nat) : Nat := if b = 0 then 0x10100000 else 0x10500000

/-- The stage-1 bank that did not boot; A where none did. -/
def Chip.spareStage (c : Chip) : Nat := if c.get RST_BOOT_BANK = 1 then 1 else 0

/-- The stage-1 bank that the journal names for the package's STAGE1. -/
def Chip.newStage (c : Chip) : Nat := look 0 c.update.banks 8

/-- Where byte 0 of a new component goes. -/
def Chip.newBase (c : Chip) (code : Nat) : Nat :=
  if code / 8 = 1 then stageBank c.newStage
  else imageBank (1 - look 0 c.update.banks code) + (regionOfComp code).1

/-- The component that segment `i` belongs to, and its offset there. -/
def segmentPlace (m : List Byte) (i : Nat) : Option (Component × Nat) :=
  (mfComponents m).findSome? fun x =>
    if x.first ≤ i && i < x.first + x.segments then some (x, (i - x.first) * 65536) else none

/-- The length of segment `i`. -/
def segmentLength (m : List Byte) (i : Nat) : Nat :=
  match segmentPlace m i with
  | some (x, o) => min 65536 (x.length - o)
  | none => 0

/-- SHA-512 as bytes. -/
def shaBytes (bs : List Byte) : List Byte := beBytesOf 64 (Config.sha512 bs).toNat

/-! ### Option copies and boot keys (R447, R460) -/

/-- The address of an option copy. -/
def optionCopy (k : Nat) : Nat := if k = 0 then 0x10000000 else 0x10010000

/-- Whether an option block passes its own SHA-512 check. -/
def optionHashOk (bs : List Byte) : Bool := bs.length == 4096 && shaBytes (bs.take 4032) == bs.drop 4032

/-- The bytes of boot-key hash slot `k`. -/
def Chip.bkHash (c : Chip) (k : Nat) : List Byte := (List.range 4).flatMap fun i => leBytesOf 16 (c.rdN (RST_BKHASH (4 * k + i)))

/-- Whether boot-key slot `k` is fused and not revoked. -/
def Chip.bkGood (c : Chip) (k : Nat) : Bool := look false c.rst.bkFused k && !bit (c.get RST_BKREV_REV) k

end Sys2Proof.Machine
end

