-- ==== Sys2Proof/Machine/Update.lean ====
section
/-! DEFINITION. The update agent: reception, relay, installation, activation groups, confirmation and recovery: R511–R530. -/

namespace Sys2Proof.Machine

/-! ### What the agent shows -/

def jIDLE : Nat := 0
def jSTAGING : Nat := 1
def jSTAGED : Nat := 2
def jPREPARED : Nat := 3
def jINSTALLING : Nat := 4
def jTRIAL : Nat := 5

/-- JSTATE. -/
def Chip.jstate (c : Chip) : Nat := c.get UPD_STAT_JSTATE

/-- Enter a journal state. -/
def Chip.jEnter (c : Chip) (j : Nat) : Chip := c.set UPD_STAT_JSTATE j

/-- The number of bits set below `n`. -/
def popCount (n v : Nat) : Nat := ((List.range n).filter fun i => bit v i).length

/-- Show the segment count and the staged package. -/
def Chip.showPkg (c : Chip) : Chip :=
  let m := c.update.manifest
  (c.set UPD_STAT_SEGOK (popCount 1536 c.update.bitmap)).wrN UPD_PKG ((mfSegs m <<< 96) + (mfVersion m <<< 64) + mfId m)

/-- A refused write of the block: LASTERR and EV0812 (R527). -/
def Chip.updRefuse (c : Chip) (st : Nat) : Chip := c.refuse UPD_STAT_LASTERR st 812

/-! ### Reception (R511–R513) -/

/-- The checks of a manifest, in order; the status of the first that fails (R512). -/
def Chip.manifestCheck (c : Chip) (m : List Byte) : Nat :=
  let j := c.jstate
  let comps := mfComponents m
  let key := mfKeyIdx m
  let digest := Config.sha512 (m.take (m.length - 512))
  if !(j == jIDLE || ((j == jSTAGING || j == jSTAGED) && mfId m == mfId c.update.manifest)) then stBUSY
  else if !manifestOk m || ((comps.any fun x => x.type == 1) && bits (c.rdN (RST_PROFILE 0)) 1 0 != 0) then stRANGE
  else if !c.bkGood key || shaBytes (mfModulus m) != c.bkHash key then stINTEGRITY
  else if !Config.rsaVerify (mfModulus m) digest (m.drop (m.length - 512)) then stINTEGRITY
  else if !bit (mfVariants m) (if c.variantH then 0 else 1) ||
      !bit (mfSteppings m) (if c.stepping = 0x10 then 2 else c.stepping) then stRANGE
  else if !(decide (c.update.package < mfVersion m) || c.flag UPD_CFG_DOWNOK) ||
      (comps.any fun x => x.type == 1 && decide (bits x.version 31 24 < c.get RST_FLOOR_FLOOR)) then stSEQUENCE
  else if (c.installOrder m).isNone then stRANGE
  else stOK

/-- STAGED once the last bit is set (R513). -/
def Chip.stagedCheck (c : Chip) : Chip :=
  let n := mfSegs c.update.manifest
  c.when (c.jstate == jSTAGING && decide (popCount n c.update.bitmap = n)) fun c => (c.jEnter jSTAGED).raise 803

/-- The manifest has arrived whole: the agent checks it, and enters STAGING or refuses it. -/
def Chip.manifestArrives (c : Chip) (m : List Byte) : Nat × Chip :=
  if !c.flag UPD_CTL_EN then (stNOT_NOW, c)
  else
    let st := c.manifestCheck m
    if st ≠ stOK then (st, c.raise 801)
    else
      let fresh := c.jstate == jIDLE
      let c := c.updUpdate fun b => { b with
        manifest := m, bitmap := if fresh then 0 else b.bitmap, relays := if fresh then [] else b.relays
        banks := if fresh then put 0 b.banks 8 c.spareStage else b.banks }
      (stOK, (((c.jEnter jSTAGING).raise 800).stagedCheck).showPkg)

def execUpdManifest (bytes : List Byte) (s : State) : Host.Outcome State Fault Refusal :=
  s.onZone fun c => (c.manifestArrives bytes).2

/-- Whether a segment's bytes may be kept: its hash, and for OPTIONS the block's own, and for STAGE1 the header's version. -/
def segmentGood (m : List Byte) (i : Nat) (x : Component) (o : Nat) (bs : List Byte) : Bool :=
  shaBytes bs == mfHash m i && (x.type != 2 || optionHashOk bs) && (x.type != 1 || o != 0 || leNat (slice bs 4 4) == x.version)

/-- Store a verified segment: STAGE1 keeps its header in the journal and leaves the bank's blank (R510). -/
def State.segmentStore (s : State) (x : Component) (o : Nat) (bs : List Byte) : State :=
  let base := s.chip.newBase x.code
  if x.type = 1 && o = 0 then
    { s with
      mem := memWrite (memWrite s.mem base (List.replicate 1152 0)) (base + 4096) (bs.drop 4096)
      chip := s.chip.updUpdate fun b => { b with header := bs.take 1152 } }
  else { s with mem := memWrite s.mem (base + o) bs }

/-- A segment's last byte has arrived: it is kept where its hash matches, or discarded with EV0802. -/
def State.segmentArrives (s : State) (i : Nat) (bs : List Byte) : Nat × State :=
  let m := s.chip.update.manifest
  if !s.chip.flag UPD_CTL_EN || s.chip.jstate != jSTAGING then (stNOT_NOW, s)
  else match segmentPlace m i with
    | none => (stRANGE, s)
    | some (x, o) =>
      if bs.length ≠ segmentLength m i then (stRANGE, s)
      else if !segmentGood m i x o bs then
        (stINTEGRITY, { s with chip := (s.chip.satInc UPD_CNT_REFUSED).raise 802 })
      else
        let s := s.segmentStore x o bs
        let c := s.chip.updUpdate fun b => { b with bitmap := setBit b.bitmap i true }
        (stOK, { s with chip := c.stagedCheck.showPkg })

def execUpdSegment (i : Fin 1536) (bytes : List Byte) (s : State) : Host.Outcome State Fault Refusal :=
  s.onZoneMem fun s => (s.segmentArrives i.val bytes).2

/-! ### Relay (R514, R515) -/

/-- The relay to neighbour `k`. -/
def Chip.relay (c : Chip) (k : Nat) : UpdRelay := look {} c.update.relays k

/-- Change a relay. -/
def Chip.updRelay (c : Chip) (k : Nat) (f : UpdRelay → UpdRelay) : Chip :=
  c.updUpdate fun b => { b with relays := upd {} b.relays k f }

/-- A transfer to neighbour `k` has failed: it is tried again 1 s later, eight times in a row. -/
def Chip.relayFails (c : Chip) (k st : Nat) : Chip :=
  let n := (c.relay k).fails + 1
  let c := (c.set (UPD_CHST_STATUS k) st).set (UPD_CHST_FAILED k) n
  if 8 ≤ n then (c.updRelay k fun r => { r with fails := n, stopped := true, retryAt := none }).raise 804
  else c.updRelay k fun r => { r with fails := n, retryAt := some (c.frc + 1000000000) }

/-- Where segment `i` of the package lies in this module. -/
def State.segmentRead (s : State) (i : Nat) : List Byte :=
  match segmentPlace s.chip.update.manifest i with
  | none => []
  | some (x, o) =>
    let n := segmentLength s.chip.update.manifest i
    let bs := memRead s.mem (s.chip.newBase x.code + o) n
    if x.type = 1 && o = 0 then s.chip.update.header ++ bs.drop 1152 else bs

/-- The agent writes the manifest, or the lowest segment that is verified here and missing at the neighbour, and takes its answer. A
segment that meets an uncorrectable error in its bank leaves the bitmap instead (R528). -/
def State.relayStep (s : State) (k bitmap st : Nat) (ecc : Bool) : State :=
  let c := s.chip
  let r := c.relay k
  let m := c.update.manifest
  let sni := c.get (UPD_CHAIN_SNI k)
  let open_ := c.flag UPD_CTL_RELAYEN && c.flag (UPD_CHAIN_EN k) && !r.refused && !r.stopped && r.retryAt.isNone &&
    decide (jSTAGING ≤ c.jstate)
  if !open_ then s
  else match c.keyCheck (c.get (UPD_CHAIN_KSLOT k)) 17 1 [1, 2] (some useDERIVE) none with
    | some (_, e) => { s with chip := c.keyRefused.relayFails k e }
    | none =>
      if !r.manifest then
        let c := c.updUpdate fun b => { b with sent := [(sni, 0xC800, 0, m)] }
        let c := c.set (UPD_CHST_STATUS k) st
        { s with chip := c.updRelay k fun r => { r with manifest := st == stOK, refused := st != stOK } }
      else match (List.range (mfSegs m)).find? fun i => bit c.update.bitmap i && !bit bitmap i with
        | none => { s with chip := c.set (UPD_CHST_ACKED k) (popCount 1536 bitmap) }
        | some i =>
          if ecc then { s with chip := ((c.updUpdate fun b => { b with bitmap := setBit b.bitmap i false }).showPkg).raise 813 }
          else
          let c := c.updUpdate fun b => { b with sent := [(sni, 0xC801, i * 65536, s.segmentRead i)] }
          if st = stOK then
            let c := (c.set (UPD_CHST_STATUS k) st).set (UPD_CHST_ACKED k) (popCount 1536 bitmap + 1)
            { s with chip := (c.set (UPD_CHST_FAILED k) 0).updRelay k fun r => { r with fails := 0 } }
          else { s with chip := c.relayFails k st }

def execUpdRelay (k : Fin 8) (bitmap : BitVec 1536) (st : Byte) (ecc : Bool) (s : State) : Host.Outcome State Fault Refusal :=
  s.onZoneMem fun s => s.relayStep k.val bitmap.toNat st.toNat ecc

/-- UPD_RELAY_RETRY: 1 s after a failed transfer. -/
def Chip.relayRetry (c : Chip) (k : Nat) : Chip :=
  c.when (c.dueAt (c.relay k).retryAt) fun c => c.updRelay k fun r => { r with retryAt := none }

def execUpdRelayRetry (k : Fin 8) (s : State) : Host.Outcome State Fault Refusal := s.onZone fun c => c.relayRetry k.val

/-! ### Installing (R517, R522) -/

/-- Install one component. -/
def State.install (s : State) (x : Component) : State :=
  let c := s.chip
  let c := c.updUpdate fun b => { b with
    versions := put 0 b.versions x.code x.version
    toInstall := b.toInstall.filter (· != x.code), installed := b.installed ++ [x.code] }
  match x.type with
  | 1 => { s with chip := c, mem := memWrite s.mem (stageBank c.newStage) c.update.header }
  | 2 =>
    let old := memRead s.mem (optionCopy 0) 4096
    let new := memRead s.mem (c.newBase x.code) 4096
    { s with chip := c.updUpdate fun b => { b with options := old }
             mem := memWrite (memWrite s.mem (optionCopy 1) new) (optionCopy 0) new }
  | _ => { s with chip := c.updUpdate fun b => { b with banks := upd 0 b.banks x.code fun k => 1 - k } }

/-- Install what the journal still lists, in its order. -/
def State.installAll (s : State) : State :=
  let comps := mfComponents s.chip.update.manifest
  let s := s.chip.update.toInstall.foldl (fun (s : State) code => match comps.find? fun x => x.code == code with
    | some x => s.install x
    | none => s) s
  { s with chip := s.chip.updUpdate fun b => { b with package := mfVersion b.manifest } }

/-- Commit: INSTALLING, EV0807, and the components under R518. -/
def State.commitNow (s : State) : State :=
  let c := s.chip
  let order := ((c.installOrder c.update.manifest).getD []).map Component.code
  let c := (c.jEnter jINSTALLING).updUpdate fun b => { b with
    toInstall := order, installed := [], oldVersions := b.versions, oldPackage := b.package }
  ({ s with chip := c.raise 807 } : State).installAll

/-- Undo one installation. -/
def State.uninstall (s : State) (code : Nat) : State :=
  let c := s.chip
  match code / 8 with
  | 1 => { s with mem := memWrite s.mem (stageBank c.newStage) (List.replicate 1152 0) }
  | 2 => { s with mem := memWrite (memWrite s.mem (optionCopy 1) c.update.options) (optionCopy 0) c.update.options }
  | _ => { s with chip := c.updUpdate fun b => { b with banks := upd 0 b.banks code fun k => 1 - k } }

/-- Roll back (R525): the installations are undone in reverse order, and a warm reset with cause UPDATE is asserted. -/
def State.rollBack (s : State) : State :=
  let s := s.chip.update.installed.reverse.foldl (fun (s : State) code => s.uninstall code) s
  let c := s.chip.updUpdate fun b => { b with
    versions := b.oldVersions, package := b.oldPackage, installed := [], toInstall := [], announce := true, ownReset := true }
  let c := ((c.jEnter jIDLE).stick UPD_STAT_ROLLEDBACK).satInc UPD_CNT_ROLLBACKS
  ({ s with chip := c.raise 810 } : State).assertSource .update

/-! ### Activation groups (R519–R522) -/

/-- TD0's projection now. -/
def Chip.td0 (c : Chip) : Nat := c.pb0At c.frc

/-- Whether the instant `ms2` half milliseconds before T is reached (R54). -/
def Chip.beforeT (c : Chip) (ms2 : Nat) : Bool :=
  reached false (((projection (tvUnits c.update.jt.toNat) : Int) - ((ms2 * 500000 : Nat) : Int)) % 2 ^ 64).toNat c.td0

/-- A message of 48 bytes. -/
def actBytes (op : Nat) (m : ActMessage) : List Byte :=
  leBytesOf 1 op ++ leBytesOf 1 m.member.val ++ [m.status, m.flags] ++ leBytesOf 8 m.package.toNat ++ leBytesOf 16 m.t.toNat ++
    leBytesOf 4 m.g.toNat ++ leBytesOf 4 m.staged.toNat ++ leBytesOf 4 m.active.toNat ++ List.replicate 8 0

/-- The message that this module sends for member `i`. -/
def Chip.actMessage (c : Chip) (i st flags : Nat) : ActMessage :=
  { member := ⟨i % 16, Nat.mod_lt _ (by decide)⟩, status := BitVec.ofNat 8 st, flags := BitVec.ofNat 8 flags
    package := BitVec.ofNat 64 (mfId c.update.manifest), t := c.update.jt, g := BitVec.ofNat 32 c.update.jg
    staged := BitVec.ofNat 32 (mfVersion c.update.manifest), active := BitVec.ofNat 32 c.update.package }

/-- Send a message to an SNI. -/
def Chip.actSend (c : Chip) (sni op : Nat) (m : ActMessage) : Chip :=
  c.updUpdate fun b => { b with sent := b.sent ++ [(sni, 0xC810, 0, actBytes op m)] }

/-- What the agent sends from here on is new. -/
def Chip.actFresh (c : Chip) : Chip := c.updUpdate fun b => { b with sent := [] }

/-- GSTAT of member `i`. -/
def Chip.gstat (c : Chip) (i : Nat) : Nat := bits (c.get UPD_GSTAT_MEMBERS) (4 * i + 3) (4 * i)

/-- Set GSTAT of member `i`. -/
def Chip.setGstat (c : Chip) (i v : Nat) : Chip := c.wr UPD_GSTAT (setBits (c.rd UPD_GSTAT) (4 * i + 3) (4 * i) v)

/-- The members of the group. -/
def Chip.members (c : Chip) : List Nat := (List.range 16).filter fun i => c.flag (UPD_GRP_VALID i)

/-- The coordinator's activation has ended. -/
def Chip.coordEnds (c : Chip) : Chip := (c.setB UPD_STAT_COORD false).updUpdate fun b => { b with cancelling := false, guarded := false }

/-- The coordinator cancels: CANCEL to every member, itself included. -/
def Chip.groupCancel (c : Chip) : Chip :=
  c.when (c.flag UPD_STAT_COORD && !c.update.cancelling) fun c =>
    let c := c.updUpdate fun b => { b with cancelling := true, cancelNext := c.frc + b.jg * 125000 }
    let c := forEach c.members (fun i c =>
      if i = 0 then c.setGstat 0 5
      else (c.setGstat i 4).actSend (c.get (UPD_GRP_SNI i)) 4 (c.actMessage i 0 0)) c
    let c := c.when (c.jstate == jPREPARED) fun c => (c.jEnter jSTAGED).updUpdate fun b => { b with cancelled := true }
    let c := (c.satInc UPD_CNT_CANCELS).raise 806
    c.when (!(c.members.any fun i => c.gstat i == 4)) Chip.coordEnds

/-- The coordinator takes READY or NOTREADY of member `i`. -/
def Chip.groupAnswer (c : Chip) (i : Nat) (ready : Bool) (staged : Nat) : Chip :=
  c.when (c.flag UPD_STAT_COORD && !c.update.cancelling && c.flag (UPD_GRP_VALID i)) fun c =>
    if ready then (c.setGstat i 2).updUpdate fun b => { b with reported := put none b.reported i (some staged) }
    else
      let c := c.setGstat i 3
      if c.update.guarded then c else c.groupCancel

/-- Why the module cannot be PREPARED for a package (R520). -/
def Chip.notReady (c : Chip) (pkg : Nat) : Option Nat :=
  if !(c.jstate == jSTAGED || c.jstate == jPREPARED) || mfId c.update.manifest ≠ pkg then some stNO_OBJECT
  else if (c.installOrder c.update.manifest).isNone then some stRANGE
  else if !bit (c.get UPD_CFG_PERMIT) (c.get UPD_VSTATE_CODE) then some stDENIED_STATE
  else none

/-- The module answers its coordinator, which may be itself. -/
def Chip.answerGroup (c : Chip) (op st flags : Nat) : Chip :=
  let i := c.update.index
  if c.flag UPD_STAT_COORD && i = 0 then
    match op with
    | 2 => c.groupAnswer 0 true (mfVersion c.update.manifest)
    | 3 => c.groupAnswer 0 false 0
    | 6 =>
      let c := c.setGstat 0 6
      c.when (c.update.package != mfVersion c.update.manifest) fun c => (c.stick UPD_STAT_SPLIT).raise 811
    | _ => c
  else c.actSend c.update.coordinator op (c.actMessage i st flags)

/-- A member receives PREPARE. -/
def Chip.prepare (c : Chip) (coord i : Nat) (m : ActMessage) : Chip :=
  let c := c.updUpdate fun b => { b with coordinator := coord, index := i }
  match c.notReady m.package.toNat with
  | some st => c.answerGroup 3 st 0
  | none =>
    let c := c.updUpdate fun b => { b with jt := m.t, jg := m.g.toNat, cancelled := false }
    ((c.jEnter jPREPARED).raise 805).answerGroup 2 0 0

def execActPrepare (from_ : BitVec 18) (m : ActMessage) (s : State) : Host.Outcome State Fault Refusal :=
  s.onZone fun c => c.actFresh.prepare from_.toNat m.member.val m

def execActReady (m : ActMessage) (s : State) : Host.Outcome State Fault Refusal :=
  s.onZone fun c => c.actFresh.groupAnswer m.member.val true m.staged.toNat

def execActNotready (m : ActMessage) (s : State) : Host.Outcome State Fault Refusal :=
  s.onZone fun c => c.actFresh.groupAnswer m.member.val false m.staged.toNat

/-- A PREPARED member loses a condition before T − G: NOTREADY, and back to STAGED (R520). -/
def Chip.prepRecheck (c : Chip) : Chip :=
  c.when (c.jstate == jPREPARED && !c.beforeT (2 * c.update.jg)) fun c =>
    match c.notReady (mfId c.update.manifest) with
    | some st => (c.jEnter jSTAGED).answerGroup 3 st 0
    | none => c

/-- A member receives CANCEL: before its commit point it acknowledges and is STAGED again, later it answers NOT_NOW. -/
def Chip.memberCancel (c : Chip) (m : ActMessage) : Nat × Chip :=
  if c.jstate = jINSTALLING || c.jstate = jTRIAL then (stNOT_NOW, c.actSend c.update.coordinator 5 (c.actMessage m.member.val stNOT_NOW 0))
  else
    let c := c.when (c.jstate == jPREPARED) fun c => ((c.jEnter jSTAGED).satInc UPD_CNT_CANCELS).raise 806
    (stOK, (c.updUpdate fun b => { b with cancelled := true }).actSend c.update.coordinator 5 (c.actMessage m.member.val 0 0))

def execActCancel (m : ActMessage) (s : State) : Host.Outcome State Fault Refusal := s.onZone fun c => (c.actFresh.memberCancel m).2

/-- The coordinator takes a cancel acknowledgement, or learns that the member had committed. -/
def Chip.cancelAck (c : Chip) (i st : Nat) : Chip :=
  c.when (c.gstat i == 4) fun c =>
    let c := if st = stNOT_NOW then ((c.setGstat i 7).stick UPD_STAT_SPLIT).raise 811 else c.setGstat i 5
    c.when (c.update.cancelling && !(c.members.any fun i => c.gstat i == 4)) Chip.coordEnds

def execActCancelack (m : ActMessage) (s : State) : Host.Outcome State Fault Refusal :=
  s.onZone fun c => c.cancelAck m.member.val m.status.toNat

/-- The coordinator takes DONE. -/
def Chip.groupDone (c : Chip) (i active : Nat) : Chip :=
  c.when (c.flag (UPD_GRP_VALID i) && c.gstat i != 0) fun c =>
    let c := c.setGstat i 6
    let c := c.when (active != mfVersion c.update.manifest) fun c => (c.stick UPD_STAT_SPLIT).raise 811
    c.when (c.members.all fun i => c.gstat i == 6) Chip.coordEnds

def execActDone (m : ActMessage) (s : State) : Host.Outcome State Fault Refusal :=
  s.onZone fun c => c.groupDone m.member.val m.active.toNat

/-- Whether every KIND 2 rule holds against the versions that the members reported (R508, R521). -/
def Chip.peersHold (c : Chip) : Bool :=
  (mfRules c.update.manifest).all fun r => r.kind != 2 || c.members.all fun i =>
    (r.peer != 0 && c.get (UPD_GRP_SNI i) != r.peer) ||
      (match look none c.update.reported i with
      | some v => decide (r.low ≤ v) && decide (v ≤ r.high)
      | none => false)

/-- UPD_GUARD_CHECK: at T − G the coordinator checks every READY and the peer rules. -/
def Chip.guardCheck (c : Chip) : Chip :=
  c.when (c.flag UPD_STAT_COORD && !c.update.guarded && !c.update.cancelling && c.beforeT (2 * c.update.jg)) fun c =>
    let c := c.updUpdate fun b => { b with guarded := true }
    c.when (!((c.members.all fun i => c.gstat i == 2) && c.peersHold)) Chip.groupCancel

def execUpdGuardCheck (s : State) : Host.Outcome State Fault Refusal := s.onZone fun c => c.actFresh.guardCheck

/-- UPD_CANCEL_REPEAT: every G/8 the CANCEL goes again to the members that have not acknowledged, until T. -/
def Chip.cancelRepeat (c : Chip) : Chip :=
  c.when (c.update.cancelling && c.due c.update.cancelNext) fun c =>
    if c.beforeT 0 then c.coordEnds
    else
      let c := c.updUpdate fun b => { b with cancelNext := c.frc + b.jg * 125000 }
      forEach (c.members.filter fun i => c.gstat i == 4) (fun i c => c.actSend (c.get (UPD_GRP_SNI i)) 4 (c.actMessage i 0 0)) c

def execUpdCancelRepeat (s : State) : Host.Outcome State Fault Refusal := s.onZone fun c => c.actFresh.cancelRepeat

/-- UPD_COMMIT: at T − G/2 a PREPARED member that has received no CANCEL commits. -/
def State.updCommit (s : State) : State :=
  if s.chip.jstate = jPREPARED && s.chip.beforeT s.chip.update.jg && !s.chip.update.cancelled then s.commitNow else s

def execUpdCommit (s : State) : Host.Outcome State Fault Refusal := s.onZoneMem State.updCommit

/-! ### Activation and trial (R523–R525) -/

/-- The activation instant: 3,000 ns after the first output commit at or after T of LE0, or LE1; T where neither is in RUN. -/
def Chip.activationTick (c : Chip) : Option Nat :=
  let after (e : Nat) : Option Nat :=
    match (c.leg e).lastCommit with
    | some t => if reached false (projection (tvUnits c.update.jt.toNat)) (c.pb0At t) then some (t + 3000) else none
    | none => none
  if c.leMode 0 = 1 then after 0
  else if c.leMode 1 = 1 then after 1
  else if c.beforeT 0 then some c.frc else none

/-- UPD_ACTIVATION_INSTANT: the agent asserts a warm reset with cause UPDATE, and the TRIAL begins. -/
def State.activate (s : State) : State :=
  match s.chip.activationTick with
  | some t =>
    if s.chip.jstate = jINSTALLING && s.chip.due t then
      let c := (s.chip.jEnter jTRIAL).updUpdate fun b => { b with
        trialAt := t, ownReset := true, announce := true, offTime := false }
      ({ s with chip := c } : State).assertSource .update
    else s
  | none => s

def execUpdActivationInstant (s : State) : Host.Outcome State Fault Refusal := s.onZoneMem State.activate

/-- The handover of R464 after an activation or a rollback: EV0808 in TRIAL, and DONE to the coordinator. -/
def Chip.updHandover (c : Chip) : Chip :=
  c.when c.update.announce fun c =>
    let c := c.updUpdate fun b => { b with announce := false, sent := [] }
    let c := c.when (c.jstate == jTRIAL) fun c => c.raise 808
    c.answerGroup 6 0 (b2n c.update.offTime)

/-- UPD_CONFIRM_TIMEOUT: TCONF seconds after Ta without CONFIRM. -/
def State.confirmTimeout (s : State) : State :=
  if s.chip.jstate = jTRIAL && s.chip.due (s.chip.update.trialAt + s.chip.get UPD_CFG_TCONF * 1000000000) then s.rollBack else s

def execUpdConfirmTimeout (s : State) : Host.Outcome State Fault Refusal := s.onZoneMem State.confirmTimeout

/-- What the agent does with its journal after a restart, before stage-1 runs (R526). -/
def State.updRestart (s : State) : State :=
  let j := s.chip.jstate
  let s := { s with chip := s.chip.updUpdate fun b => { b with relays := [] } }
  let trial (s : State) (off : Bool) : State :=
    { s with chip := ((s.chip.jEnter jTRIAL).when off fun c => c.stick UPD_STAT_OFFTIME).updUpdate fun b => { b with
        trialAt := s.chip.frc, ownReset := false, announce := true, offTime := off } }
  if j = jINSTALLING then trial s.installAll false
  else if j = jPREPARED then
    if s.chip.beforeT s.chip.update.jg && !s.chip.update.cancelled then trial s.commitNow true else s
  else if j = jTRIAL then
    if s.chip.update.ownReset then { s with chip := s.chip.updUpdate fun b => { b with ownReset := false } } else s.rollBack
  else { s with chip := s.chip.updUpdate fun b => { b with ownReset := false } }

/-! ### The command register (R519–R527) -/

/-- The result of a command; a refused one raises EV0812. -/
def Chip.updResult (c : Chip) (st : Nat) : Chip :=
  let c := c.set UPD_CMDRES_STATUS st
  c.when (st != stOK) fun c => c.updRefuse st

/-- ACTIVATE. -/
def Chip.updActivate (c : Chip) : Chip :=
  let g := c.get UPD_ACTG_G
  let t := c.rd UPD_ACTT
  let left := s64 ((projection (tvUnits t.toNat) : Int) - (c.td0 : Int))
  if c.jstate ≠ jSTAGED || left < (((g + 100) * 1000000 : Nat) : Int) then c.updResult stNOT_NOW
  else if g < 50 then c.updResult stRANGE
  else
    let c := (((c.updResult stOK).setB UPD_STAT_COORD true).wrN UPD_GSTAT 0).updUpdate fun b => { b with
      reported := [], guarded := false, cancelling := false, cancelled := false, jt := t, jg := g, sent := [] }
    let m : ActMessage := c.actMessage 0 0 0
    let c := forEach c.members (fun i c =>
      let c := c.setGstat i 1
      if i = 0 then c else c.actSend (c.get (UPD_GRP_SNI i)) 1 (c.actMessage i 0 0)) c
    c.prepare (c.get (UPD_GRP_SNI 0)) 0 m

/-- A write of UPD_CMD; reserved operations are ignored. -/
def State.updCmdWrite (s : State) (w : Who) (v : Nat) : State :=
  let c := s.chip
  if w.world ≠ 1 then { s with chip := c.updRefuse stDENIED_WORLD }
  else match bits v 2 0 with
    | 1 => { s with chip := c.updActivate }
    | 2 =>
      if c.jstate = jTRIAL then { s with chip := ((c.updResult stOK).jEnter jIDLE).raise 809 }
      else { s with chip := c.updResult stNOT_NOW }
    | 3 =>
      if c.jstate = jSTAGING || c.jstate = jSTAGED then
        { s with chip := (((c.updResult stOK).jEnter jIDLE).updUpdate fun b => { b with bitmap := 0, relays := [] }).showPkg }
      else { s with chip := c.updResult stNOT_NOW }
    | 4 =>
      if c.jstate = jTRIAL then ({ s with chip := c.updResult stOK } : State).rollBack
      else { s with chip := c.updResult stNOT_NOW }
    | 5 =>
      if c.flag UPD_STAT_COORD && !c.update.guarded then { s with chip := (c.actFresh.updResult stOK).groupCancel }
      else { s with chip := c.updResult stNOT_NOW }
    | _ => s

def execUpdActivate (a : Agent) (v : W32) (s : State) : Host.Outcome State Fault Refusal := s.byMem a fun w s => s.updCmdWrite w v.toNat
def execUpdConfirm (a : Agent) (v : W32) (s : State) : Host.Outcome State Fault Refusal := s.byMem a fun w s => s.updCmdWrite w v.toNat
def execUpdDiscard (a : Agent) (v : W32) (s : State) : Host.Outcome State Fault Refusal := s.byMem a fun w s => s.updCmdWrite w v.toNat
def execUpdRollback (a : Agent) (v : W32) (s : State) : Host.Outcome State Fault Refusal := s.byMem a fun w s => s.updCmdWrite w v.toNat
def execUpdCmdCancel (a : Agent) (v : W32) (s : State) : Host.Outcome State Fault Refusal := s.byMem a fun w s => s.updCmdWrite w v.toNat

/-- A write of UPD_CTL: RELAYEN = 1 starts stopped relays again (R515). -/
def Chip.updCtlWrite (c : Chip) (w : Who) (v : Nat) : Chip :=
  if w.world ≠ 1 then c.updRefuse stDENIED_WORLD
  else
    let c := (c.setB UPD_CTL_EN (bit v 0)).setB UPD_CTL_RELAYEN (bit v 1)
    let c := c.when (bit v 1) fun c => forAll 8 (fun k c => c.updRelay k fun r => { r with stopped := false, fails := 0 }) c
    c.when (bit v 2) fun c => c.wrN UPD_CNT 0

def execUpdClrcnt (a : Agent) (v : W32) (s : State) : Host.Outcome State Fault Refusal := s.by a fun w c => c.updCtlWrite w v.toNat

/-- A write of UPD_VSTATE by W2: a reserved code is ignored; a PREPARED member may lose its condition. -/
def Chip.vstateWrite (c : Chip) (w : Who) (v : Nat) : Chip :=
  if w.world ≠ 2 then c.updRefuse stDENIED_WORLD
  else c.when (decide (bits v 2 0 ≤ 4)) fun c => ((c.set UPD_VSTATE_CODE (bits v 2 0)).actFresh).prepRecheck

end Sys2Proof.Machine
end

