-- ==== Sys2Proof/Machine/Reset.lean ====
section
/-! DEFINITION. Options, boot, seal, watchdogs, requests and the debug port as commands: R441–R474. -/

namespace Sys2Proof.Machine

/-- An event whose cause lies in a reset: raised at the next handover (R472). -/
def Chip.defer (c : Chip) (n : Nat) : Chip := c.updRst fun b => { b with deferred := b.deferred ++ [n] }

/-- A refused RST write or kick: LASTERR and EV0499 (R471). -/
def Chip.rstRefuse (c : Chip) (st : Nat) : Chip := c.refuse RST_STAT_LASTERR st 499

/-! ### Sources and release (R441–R445) -/

def execResetAssert (src : ResetSource) (s : State) : Host.Outcome State Fault Refusal := s.onMem fun s => s.assertSource src

/-- LE0_MISMATCH: LE0 stops with MISMATCH, and its reset source asserts with the reach of RST_REACH.MMLE0 (R148, R441). -/
def execLe0Mismatch (s : State) : Host.Outcome State Fault Refusal :=
  s.onZoneMem fun s => ({ s with chip := s.chip.le0Mismatch } : State).assertSource .le0Mismatch

/-- Put a persistent object's value into effect; key 1 is the module name, the others are registers. -/
def Chip.persistPut (c : Chip) (k v : Nat) : Chip :=
  if k = 1 then c.updDdp fun b => { b with name := v }
  else match regAt k with
    | some f => c.wrN f.reg v
    | none => c

/-- A copy that passes its check. -/
def goodCopy (x : Option (Nat × Nat)) : Option Nat :=
  match x with
  | some (v, crc) => if crc32 (leBytesOf 32 v) = crc then some v else none
  | none => none

/-- The engine loads its persistent objects (R407): a bad copy is rewritten from the other; where both are bad the object takes its
default. -/
def Chip.persistLoad (c : Chip) : Chip :=
  let keys := c.ddp.copyA.map (·.1) ++ (c.ddp.copyB.map (·.1)).filter fun k => !(c.ddp.copyA.any fun e => e.1 == k)
  let c := forEach keys (fun k c =>
    let a := look none c.ddp.copyA k
    let b := look none c.ddp.copyB k
    match goodCopy a, goodCopy b with
    | some v, _ => (c.persistPut k v).updDdp fun d => { d with copyB := put none d.copyB k a }
    | none, some v => (c.persistPut k v).updDdp fun d => { d with copyA := put none d.copyA k b }
    | none, none => (c.stick DDP_STAT_PERSFAIL).raise 715) c
  c.updDdp fun b => { b with loaded := true }

/-- The rails of R296 are within their windows. -/
def Chip.railsUp (c : Chip) : Chip := c.set PMU_RAIL_WINDOW 0x1FF

/-- The release sequence of system reach or wider begins: rails, persistent objects, and the comparators' tests (R296, R407, R445). -/
def Chip.startSteps (c : Chip) (r bad : Nat) : Chip :=
  let step : StartStep := if r = 4 then .pll else .options
  (c.updRst fun b => { b with episode := none, releasing := some r, relStep := step, testBad := bad }).railsUp.persistLoad

/-- The last source releases: the episode closes, and the release sequence of its reach starts. -/
def State.releaseSource (s : State) (src : ResetSource) (bad : Nat) : State :=
  if !s.chip.rst.sources.contains src || (src == .uvz && s.chip.pmu.uvz) then s
  else
    let c := s.chip.updRst fun b => { b with sources := b.sources.erase src }
    match c.rst.sources, c.rst.episode with
    | [], some r =>
      let c := c.set RST_STAT_LASTREACH r
      let c := if 3 ≤ r then c.startSteps r bad
        else c.updRst fun b => { b with episode := none, releasing := some r, relStep := .reinit }
      ({ s with chip := c } : State).updRestart
    | _, _ => { s with chip := c }

def execResetRelease (src : ResetSource) (bad : BitVec 5) (s : State) : Host.Outcome State Fault Refusal :=
  s.onMem fun s => s.releaseSource src bad.toNat

/-- DRAM_TRAINED: LPDDR5 training ends, at earliest once the options are loaded. -/
def execDramTrained (s : State) : Host.Outcome State Fault Refusal :=
  s.on fun c => c.when (c.rst.episode.isNone && c.booting) fun c => c.updRst fun b => { b with dramTrained := true }

/-- The first lane that failed a comparator's test: the spec gives no lane, so it is a free value (R329, R337). -/
def Chip.badLane (c : Chip) (p : Nat) (bad : Bool) : Chip :=
  if bad then (c.set (CMP_P_STAT_BADLANE p) ((Config.openValue c.freeCtr).toNat % 4096)).drawn else c.set (CMP_P_STAT_BADLANE p) 0

/-- PARTITION_RESET of a pair (R328): its responses and latches are gone; a mitten is tested again, and a pair that fails is barred
and held; otherwise it restarts at its entries. -/
def Chip.pairRestart (c : Chip) (p : Nat) (bad : Bool) : Chip :=
  let mine (key : Nat) : Bool := key / 128 / 2 == p && decide (key / 128 < 8)
  let c := c.brgPartition mine
  let c : Chip := { c with
    fab := { c.fab with latches := c.fab.latches.filter fun e => !mine (e.1 % 16384), staged := c.fab.staged.filter fun e => !mine (e.1 % 16384) }
    core := { c.core with
      injections := put none c.core.injections p none
      debugHalted := put false (put false c.core.debugHalted (2 * p) false) (2 * p + 1) false
      imsic := c.core.imsic.filter fun e => e.1 / 2048 / 8 / 4 / 2 != p } }
  let c := (c.setB (CMP_P_STAT_HALTED p) false).setB (CMP_P_INJRES_DONE p) true
  let m := c.mitten p
  let fails := m && bad
  let c := c.when m fun c => (c.setB (CMP_P_STAT_TESTOK p) (!bad)).badLane p bad
  let c := c.when fails fun c => ((c.setB (CMP_P_STAT_BARRED p) true).setB (CMP_P_STAT_HELD p) true).raise (516 + p)
  let go (k : Nat) : Bool := !fails && !c.flag (CMP_P_STAT_HELD p) && c.rst.handed && (k == 0 || bit (c.get RST_HARTEN_HARTS) k) && !c.trailing k
  { c with core := { c.core with
    running := put false (put false c.core.running (2 * p) (go (2 * p))) (2 * p + 1) (go (2 * p + 1)) } }

/-- PARTITION_RESET: no source of the target holds it any more, and its reset completes (R444). -/
def Chip.partitionReset (c : Chip) (target : Nat) (bad : Bool) : Chip :=
  match look [] c.rst.parts target with
  | [] => c
  | src :: _ =>
    c.when (!c.rst.hartHeld.contains target && c.rst.episode.isNone) fun c =>
      let c := c.updRst fun b => { b with parts := put [] b.parts target [] }
      let c := if target < 4 then c.pairRestart target bad
        else if target < 6 then (c.lePartition (target - 4)).updLe (target - 4) fun g => { g with inReset := false }
        else (c.vfClear (target - 64)).fnEnter (target - 64) 1
      (c.gatesAfterReset (partHolders target)).partDone target src

def execPartitionReset (target : Fin 128) (bad : Bool) (s : State) : Host.Outcome State Fault Refusal :=
  s.on fun c => c.partitionReset target.val bad

/-! ### Options (R447–R452) -/

/-- Byte `i` of a list. -/
def octet (bs : List Byte) (i : Nat) : Nat := (bs.getD i 0).toNat

/-- The format of a profile (R448): no reserved encoding, and the other bytes zero. -/
def profileOk (p : List Byte) : Bool :=
  let b (i : Nat) := octet p i
  decide (b 0 < 3) && decide (b 1 < 64) && bits (b 1) 1 0 != 3 && bits (b 1) 3 2 != 3 && decide (16 ≤ b 2 ∧ b 2 ≤ 32) &&
    decide (b 3 < 16) && decide (b 4 < 2) && decide (b 5 < 64) && allZero (slice p 6 2) && allZero (slice p 12 52)

/-- The format of an option block (R447). -/
def optionFormatOk (bs : List Byte) : Bool :=
  let n := octet bs 6
  slice bs 0 4 == [0x41, 0x58, 0x4F, 0x50] && leNat (slice bs 4 2) == 1 && decide (1 ≤ n ∧ n ≤ 16) && allZero (slice bs 7 57) &&
    allZero (slice bs (64 + 64 * n) (1024 - 64 * n)) && allZero (slice bs 1088 2944)

/-- The mode that OPTSRC gives: BRINGUP only in BLANK and PROVISIONED (R450). -/
def Chip.optMode (c : Chip) : Nat :=
  let m := c.rst.optSrc.getD 0
  if m = 1 && decide (lcPROVISIONED < c.key.lcs) then 2 else m

/-- The profile that an option copy selects; none where the copy fails its hash, its format or the selection. -/
def Chip.optSelect (c : Chip) (bs : List Byte) (strap : Nat) : Option (Nat × List Byte) :=
  let i := if c.optMode = 0 then strap else 0
  let p := slice bs (64 + 64 * i) 64
  if optionHashOk bs && optionFormatOk bs && decide (i < octet bs 6) && profileOk p then some (i, p) else none

/-- The strap's boot source and PCIe role under BRINGUP (R450). -/
def strapChoice (strap : Nat) : Nat × Nat :=
  let b := strap % 4
  let r := strap / 4
  (if b = 3 then 0 else b, if r = 3 then 0 else r)

/-- The pair modes, with the comparator tests of R329: a pair that asks for mitten mode and fails is barred. -/
def Chip.pairModes (c : Chip) (want : Nat) (safe : Bool) : Chip :=
  forAll 4 (fun p c =>
    let asks := safe || bit want p
    let bad := bit c.rst.testBad p
    let c := (c.setB (CMP_P_STAT_MODE p) (asks && !bad)).setB (CMP_P_STAT_TESTOK p) (asks && !bad)
    let c := (c.setB (CMP_P_STAT_BARRED p) (asks && bad)).setB (CMP_P_STAT_HELD p) (safe && bad)
    let c := c.badLane p (asks && bad)
    c.when (asks && bad) fun c => c.defer (516 + p)) c

/-- Options take effect: boot source, PCIe role, TD0's source, reset reaches and pair modes (R451, R452). -/
def Chip.optEffect (c : Chip) (boot role td0 reach mitten : Nat) (safe : Bool) : Chip :=
  let c := c.updRst fun b => { b with bootSrc := boot, relStep := .init }
  let c := ((c.set BRG_STAT_ROLE role).set (TD_CTL_SRC 0) td0).wrN RST_REACH reach
  (c.pairModes mitten safe).leCompareTest (!bit c.rst.testBad 4)

/-- A third failed attempt: the safe defaults (R452). -/
def Chip.safeDefaults (c : Chip) (strap : Nat) : Chip :=
  let x := if c.optMode = 1 then strapChoice strap else (0, 0)
  let c := (c.setB RST_CAUSE_OPTFAIL true).setB DDP_STAT_RESTRICT true
  (((c.defer 483).raise 719).optEffect x.1 x.2 0 0x3F 0 true)

/-- A failed test of LE0's comparator asserts its reset source, with the reach that the options have just set (R148, R441). -/
def State.le0TestAssert (s : State) : State := if bit s.chip.rst.testBad 4 then s.assertSource .le0Mismatch else s

/-- A load attempt fails (R451). -/
def State.optFails (s : State) (strap : Nat) : State :=
  let n := min 3 (s.chip.get RST_OPT_ATTEMPTS + 1)
  let c := (s.chip.set RST_OPT_ATTEMPTS n).defer 482
  if n < 3 then ({ s with chip := c } : State).assertSource .optionRetry
  else ({ s with chip := c.safeDefaults strap } : State).le0TestAssert

/-- A load attempt succeeds with a profile of copy `k`. -/
def Chip.optTake (c : Chip) (k i strap : Nat) (p : List Byte) : Chip :=
  let b (j : Nat) := octet p j
  let x := if c.optMode = 1 then strapChoice strap else (b 0, bits (b 1) 1 0)
  let c := forAll 4 (fun j c => c.wrN (RST_PROFILE j) (leNat (slice p (16 * j) 16))) c
  let c := ((c.set RST_OPT_PROFILE i).set RST_OPT_COPY k).set RST_OPT_ATTEMPTS 0
  let c := (c.setB RST_CAUSE_OPTFAIL false).setB DDP_STAT_RESTRICT false
  c.optEffect x.1 x.2 (b 4) (b 5) (b 3) false

/-- OPTION_LOAD: the strap is measured four times and the option copies are read. -/
def State.optionLoad (s : State) (mv : List Nat) (ecc : Bool) : State :=
  let c := s.chip
  if c.rst.relStep ≠ .options || c.rst.releasing.isNone || c.rst.episode.isSome then s
  else
    let codes := mv.map fun v => min 15 (v / 125)
    let strap := codes.headD 0
    let bad := codes.any (· != strap)
    let c := ((c.set RST_OPT_STRAP strap).setB RST_OPT_STRAPBAD bad).set RST_OPT_OPTSRC (c.rst.optSrc.getD 0)
    let s : State := { s with chip := c }
    if bad || ecc then s.optFails strap
    else match c.optSelect (memRead s.mem (optionCopy 0) 4096) strap with
      | some x => ({ s with chip := c.optTake 0 x.1 strap x.2 } : State).le0TestAssert
      | none => match c.optSelect (memRead s.mem (optionCopy 1) 4096) strap with
        | some x => ({ s with chip := c.optTake 1 x.1 strap x.2 } : State).le0TestAssert
        | none => s.optFails strap

def execOptionLoad (mv0 mv1 mv2 mv3 : Nat) (ecc : Bool) (s : State) : Host.Outcome State Fault Refusal :=
  s.onMem fun s => s.optionLoad [mv0, mv1, mv2, mv3] ecc

/-! ### Boot (R453–R459) -/

/-- Whether a stage-1 header is blank. -/
def headerBlank (h : List Byte) : Bool := allZero h || h.all (· == 0xFF)

/-- The ranges of a stage-1 header (R454). -/
def headerOk (h : List Byte) : Bool :=
  let n := leNat (slice h 8 4)
  let o := leNat (slice h 12 4)
  slice h 0 4 == [0x41, 0x58, 0x53, 0x31] && allZero (slice h 21 43) && decide (16 ≤ n ∧ n ≤ 1048576) && n % 16 == 0 && o % 16 == 0 &&
    decide (o + n ≤ 0x200000) && decide (leNat (slice h 16 4) < n) && decide (octet h 20 ≤ 3)

/-- The image of stage-1 bank `b`. -/
def State.stageImage (s : State) (b : Nat) (h : List Byte) : List Byte := memRead s.mem (stageBank b + 4096) (leNat (slice h 8 4))

/-- The checks of stage-1 bank `b`, in order; the status of the first that fails (R455). -/
def State.bankCheck (s : State) (b : Nat) : Nat :=
  let c := s.chip
  let h := memRead s.mem (stageBank b) 1152
  let key := octet h 20
  let modulus := slice h 128 512
  let open_ := c.key.lcs == lcBLANK && (List.range 4).all fun k => !look false c.rst.bkFused k
  if headerBlank h then stNO_OBJECT
  else if !headerOk h then stRANGE
  else if !open_ && !c.bkGood key then stDENIED_STATE
  else if !open_ && shaBytes modulus != c.bkHash key then stINTEGRITY
  else if leNat (slice h 7 1) < c.get RST_FLOOR_FLOOR then stSEQUENCE
  else if !Config.rsaVerify modulus (Config.sha512 (h.take 640)) (slice h 640 512) then stINTEGRITY
  else if shaBytes (s.stageImage b h) != slice h 64 64 then stINTEGRITY
  else stOK

/-- The banks that the boot ROM checks, in order (R456). -/
def Chip.bankOrder (c : Chip) (va vb : Nat) : List Nat :=
  match c.rst.bootSrc with
  | 1 => [0]
  | 2 => [1]
  | _ => if va < vb then [1, 0] else [0, 1]

/-- Check banks in turn: the first that passes. A failed bank shows its status and raises EV0484. -/
def State.bankChoose : List Nat → State → Option Nat × State
  | [], s => (none, s)
  | b :: t, s =>
    let st := s.bankCheck b
    let c := if b = 0 then s.chip.set RST_BOOT_STA st else s.chip.set RST_BOOT_STB st
    if st = stOK then (some b, { s with chip := c }) else State.bankChoose t { s with chip := c.defer 484 }

/-- The boot ROM jumps to stage-1 of bank `b`, whose image stands in Safety SRAM. -/
def State.stageJump (s : State) (b : Nat) (h : List Byte) : State :=
  let img := s.stageImage b h
  let c := s.chip.updRst fun x => { x with
    relStep := .stage1, releasing := none, runSecver := leNat (slice h 7 1), runHash := (Config.sha512 img).toNat }
  let c := c.set RST_BOOT_BANK (b + 1)
  { s with
    chip := { c with core := { c.core with running := put false c.core.running 0 true } }
    mem := memWrite s.mem (0x20000000 + leNat (slice h 12 4)) img }

/-- The boot after a reset (R455–R458). -/
def State.coldBoot (s : State) : State :=
  let ha := memRead s.mem (stageBank 0) 1152
  let hb := memRead s.mem (stageBank 1) 1152
  let c := (s.chip.set RST_VER_VERA (leNat (slice ha 4 4))).set RST_VER_VERB (leNat (slice hb 4 4))
  let r := State.bankChoose (c.bankOrder (leNat (slice ha 4 4)) (leNat (slice hb 4 4))) { s with chip := c }
  match r.1 with
  | some b =>
    let h := if b = 0 then ha else hb
    let c := r.2.chip
    let profile := (List.range 4).flatMap fun j => leBytesOf 16 (c.rdN (RST_PROFILE j))
    let c := c.extend 0 (shaBytes (profile ++ leBytesOf 4 (c.rdN RST_OPT)))
    let c := c.extend 0 (shaBytes (h.take 640))
    let c := c.updRst fun x => { x with wdtStart := put none x.wdtStart 0 (some c.frc), wdtHalf := put false x.wdtHalf 0 false }
    ({ r.2 with chip := c } : State).stageJump b h
  | none =>
    let c := (r.2.chip.set RST_BOOT_BANK 0).defer 485
    let c := c.updRst fun x => { x with relStep := .noBank, releasing := none, wdtStart := put none x.wdtStart 0 none }
    let s : State := { r.2 with chip := c }
    if c.jstate = jTRIAL then s.rollBack else s

/-- The boot after a resume (R459): the image must be the one of the last sealed boot. -/
def State.resumeBoot (s : State) : State :=
  let ha := memRead s.mem (stageBank 0) 1152
  let hb := memRead s.mem (stageBank 1) 1152
  let b := (s.chip.bankOrder (leNat (slice ha 4 4)) (leNat (slice hb 4 4))).headD 0
  let h := if b = 0 then ha else hb
  if (Config.sha512 (s.stageImage b h)).toNat = s.chip.rst.sealedHash then s.stageJump b h
  else s.assertSource (.swReq 3)

/-- BOOT_ROM_CHECK. -/
def State.bootRom (s : State) : State :=
  let r := s.chip.rst
  if r.episode.isSome || (r.relStep != .init && r.relStep != .reinit) then s
  else if r.resumeBoot then s.resumeBoot else s.coldBoot

def execBootRomCheck (s : State) : Host.Outcome State Fault Refusal := s.onMem State.bootRom

/-! ### Seal and handover (R461–R464) -/

/-- The handover of R464: gates and worlds follow RST_MW, the harts start, watchdogs change over, and what resets caused is raised. -/
def Chip.worldsStart (c : Chip) : Chip :=
  let c := c.updRst fun b => { b with handed := true, relStep := .worlds }
  let c := c.setB RST_STAT_W0ACTIVE false
  let run (k : Nat) : Bool := k == 0 || (bit (c.get RST_HARTEN_HARTS) k && !c.trailing k && !c.flag (CMP_P_STAT_HELD (k / 2)) &&
    (look [] c.rst.parts (k / 2)).isEmpty)
  let c : Chip := { c with core := { c.core with running := (List.range 8).foldl (fun m k => put false m k (run k)) c.core.running } }
  let c := c.updRst fun b => { b with
    wdtStart := (List.range 4).foldl (fun m i => put none m (i + 1) (if c.flag (RST_WDT_CFG_EN (i + 1)) then some c.frc else none))
      (put none b.wdtStart 0 none)
    wdtHalf := [] }
  let c := c.raise 480
  let late := c.rst.deferred
  let c := c.updRst fun b => { b with deferred := [] }
  (forEach late (fun n c => c.raise n) c).updHandover

/-- A write of RST_SEAL: only from CX0 in W0. -/
def Chip.sealWrite (c : Chip) (w : Who) (v : Nat) : Chip :=
  if !(w.mid == 0 && w.vf.isNone && w.world == 0) || c.rst.handed then c.raise 481
  else c.when (bit v 0) fun c =>
    let c := c.when (!c.flag RST_STAT_SEALED) fun c =>
      let codes := c.rdN (LSC_FALLBACK 0) + (c.rdN (LSC_FALLBACK 1) <<< 32) + (c.rdN (LSC_FALLBACK 2) <<< 64)
      let c : Chip := { c with lsc := { c.lsc with policy := some (c.get LSC_ORPH_ODLY, c.get LSC_ORPH_HBT, codes) } }
      ((c.setB RST_STAT_SEALED true).setB RST_SEAL_SEAL true).updRst fun b => { b with sealedHash := b.runHash }
    let c := match c.lsc.policy with
      | some (_, hbt, _) => if hbt = 0 then c else { c with lsc := { c.lsc with heartbeat := some (c.now + hbt * 1000000) } }
      | none => c
    c.worldsStart

def execProtSeal (a : Agent) (v : W32) (s : State) : Host.Outcome State Fault Refusal := s.by a fun w c => c.sealWrite w v.toNat

/-! ### Watchdogs (R466) -/

/-- A watchdog's timeout in ns: W0's is fixed at 250 ms. -/
def Chip.wdtNs (c : Chip) (w : Nat) : Nat := if w = 0 then 250000000 else c.get (RST_WDT_CFG_TIMEOUT w) * 1000000

/-- WATCHDOG_KICK: its own world restarts it. -/
def Chip.wdtKick (c : Chip) (who : Who) (w : Nat) : Chip :=
  if who.world ≠ w then c.rstRefuse stDENIED_WORLD
  else match look none c.rst.wdtStart w with
    | none => c
    | some _ => c.updRst fun b => { b with wdtStart := put none b.wdtStart w (some c.frc), wdtHalf := put false b.wdtHalf w false }

def execWatchdogKick (a : Agent) (w : Fin 5) (s : State) : Host.Outcome State Fault Refusal := s.by a fun who c => c.wdtKick who w.val

/-- WATCHDOG_HALF: half the timeout has passed without a kick. -/
def Chip.wdtHalf (c : Chip) (w : Nat) : Chip :=
  match look none c.rst.wdtStart w with
  | none => c
  | some t => c.when (c.due (t + c.wdtNs w / 2) && !look false c.rst.wdtHalf w) fun c =>
    (c.updRst fun b => { b with wdtHalf := put false b.wdtHalf w true }).raise (486 + w)

def execWatchdogHalf (w : Fin 5) (s : State) : Host.Outcome State Fault Refusal := s.on fun c => c.wdtHalf w.val

/-- WATCHDOG_EXPIRY: the watchdog asserts its source; it starts anew at the next handover, or after its partition reset. -/
def State.wdtExpiry (s : State) (w : Fin 5) : State :=
  match look none s.chip.rst.wdtStart w.val with
  | none => s
  | some t =>
    if s.chip.due (t + s.chip.wdtNs w.val) then
      let c := s.chip.updRst fun b => { b with
        wdtStart := put none b.wdtStart w.val (some s.chip.frc), wdtHalf := put false b.wdtHalf w.val false }
      ({ s with chip := c } : State).assertSource (.watchdog w)
    else s

def execWatchdogExpiry (w : Fin 5) (s : State) : Host.Outcome State Fault Refusal := s.onMem fun s => s.wdtExpiry w

/-! ### Software requests (R467) -/

/-- The status of a request of world `w` with reach and target. -/
def Chip.swReqCheck (c : Chip) (w reach target : Nat) : Nat :=
  let allow (b : Bool) : Nat := if b then stOK else stDENIED_WORLD
  if reach = 0 then stRANGE
  else if 2 ≤ reach then allow (w == 1 || w == 2 || (w == 4 && c.lcWorkshop))
  else if target < 4 then allow (w == 1 || w == 2 || w == c.get (RST_MW_WORLD (2 * target)))
  else if target = 4 then allow (w == 2)
  else if target = 5 then allow (w == 1 || w == 2 || w == c.get (RST_MW_WORLD 9))
  else if 64 ≤ target then
    if w ≠ 1 then stDENIED_WORLD
    else if c.fnState (target - 64) = 1 || c.fnState (target - 64) = 4 then stOK else stNOT_NOW
  else stRANGE

/-- A request to RST_SWREQ: its status, and its effect where it is OK. -/
def State.swReq (s : State) (w v : Nat) : Nat × State :=
  if bits v 31 24 ≠ 0x5A then (stRANGE, { s with chip := s.chip.raise 492 })
  else
    let reach := bits v 17 16
    let st := s.chip.swReqCheck w reach (bits v 6 0)
    if st ≠ stOK then (st, { s with chip := s.chip.raise 492 })
    else if reach = 1 then (st, { s with chip := s.chip.partAssert (bits v 6 0) 3 })
    else (st, s.assertSource (.swReq reach))

/-- A write of RST_SWREQ; RST_SWRES is kept for each master and VF. -/
def State.swReqWrite (s : State) (w : Who) (v : Nat) : State :=
  let r := s.swReq w.world v
  { r.2 with chip := r.2.chip.updRst fun b => { b with swres := put 0 b.swres w.key r.1 } }

def execRstSwreq (a : Agent) (v : W32) (s : State) : Host.Outcome State Fault Refusal := s.byMem a fun w s => s.swReqWrite w v.toNat

/-! ### Fuses (R450, R460) -/

/-- A write of a fuse field by W0 before the seal; later it is a write to the sealed set-up (R13). -/
def Chip.fuseWrite (c : Chip) (w : Who) (f : Chip → Chip) : Chip :=
  if w.world ≠ 0 then c.rstRefuse stDENIED_WORLD
  else if c.flag RST_STAT_SEALED then c.raise 481
  else f c

/-- A write of RST_FLOOR: it only rises, and not above the running stage-1. -/
def Chip.floorWrite (c : Chip) (w : Who) (v : Nat) : Chip :=
  c.fuseWrite w fun c =>
    let x := v % 256
    if x < c.get RST_FLOOR_FLOOR || c.rst.runSecver < x then c.rstRefuse stRANGE
    else (c.set RST_FLOOR_FLOOR x).set RST_VER_FLOOR x

def execRstFloorWrite (a : Agent) (v : W32) (s : State) : Host.Outcome State Fault Refusal := s.by a fun w c => c.floorWrite w v.toNat

/-- A write of a boot-key hash slot: once, in BLANK or PROVISIONED. -/
def Chip.bkHashWrite (c : Chip) (w : Who) (k v : Nat) : Chip :=
  if w.world ≠ 0 then c.rstRefuse stDENIED_WORLD
  else if lcPROVISIONED < c.key.lcs then c.rstRefuse stDENIED_STATE
  else if look false c.rst.bkFused k then c.rstRefuse stNOT_NOW
  else (forAll 4 (fun i c => c.wrN (RST_BKHASH (4 * k + i)) (bits v (128 * i + 127) (128 * i))) c).updRst fun b => { b with
    bkFused := put false b.bkFused k true }

def execRstBkhashWrite (a : Agent) (k : Fin 4) (v : BitVec 512) (s : State) : Host.Outcome State Fault Refusal :=
  s.by a fun w c => c.bkHashWrite w k.val v.toNat

/-- A write of RST_BKREV: bits set for good, unless no fused, unrevoked slot would remain. -/
def Chip.bkRevWrite (c : Chip) (w : Who) (v : Nat) : Chip :=
  c.fuseWrite w fun c =>
    let x := c.get RST_BKREV_REV ||| v % 16
    if (List.range 4).any fun k => look false c.rst.bkFused k && !bit x k then c.set RST_BKREV_REV x else c.rstRefuse stRANGE

def execRstBkrevWrite (a : Agent) (v : W32) (s : State) : Host.Outcome State Fault Refusal := s.by a fun w c => c.bkRevWrite w v.toNat

/-- A write of RST_OPT fuses OPTSRC: once, by W0 in BLANK. -/
def Chip.optSrcWrite (c : Chip) (w : Who) (v : Nat) : Chip :=
  if w.world ≠ 0 then c.rstRefuse stDENIED_WORLD
  else if c.key.lcs ≠ lcBLANK then c.rstRefuse stDENIED_STATE
  else if c.rst.optSrc.isSome then c.rstRefuse stNOT_NOW
  else (c.set RST_OPT_OPTSRC (bits v 31 30)).updRst fun b => { b with optSrc := some (bits v 31 30) }

def execOptsrcFuse (a : Agent) (v : W32) (s : State) : Host.Outcome State Fault Refusal := s.by a fun w c => c.optSrcWrite w v.toNat

/-! ### Debug port (R468) -/

/-- Whether the debug module reaches hart `k`: its world is open, and it is no trailing core (R325). -/
def Chip.debugReaches (c : Chip) (k : Nat) : Bool :=
  look false c.core.running k && !c.trailing k && bit c.debugOpen (c.worldOf k)

/-- DEBUG_HALT. -/
def Chip.debugHalt (c : Chip) (k : Nat) : Chip :=
  c.when (c.debugReaches k) fun c => { c with core := { c.core with debugHalted := put false c.core.debugHalted k true } }

def execDebugHalt (k : Fin 8) (s : State) : Host.Outcome State Fault Refusal := s.on fun c => c.debugHalt k.val

/-- DEBUG_RESUME. -/
def Chip.debugResume (c : Chip) (k : Nat) : Chip :=
  c.when (c.debugReaches k) fun c => { c with core := { c.core with debugHalted := put false c.core.debugHalted k false } }

def execDebugResume (k : Fin 8) (s : State) : Host.Outcome State Fault Refusal := s.on fun c => c.debugResume k.val

/-- DEBUG_STEP: a halted hart retires one instruction and is halted again. -/
def Chip.debugStep (c : Chip) (k : Nat) : Chip :=
  c.when (c.debugReaches k && look false c.core.debugHalted k) fun c =>
    { c with core := { c.core with steps := upd 0 c.core.steps k (· + 1) } }

def execDebugStep (k : Fin 8) (s : State) : Host.Outcome State Fault Refusal := s.on fun c => c.debugStep k.val

/-- NDMRESET: accepted while debug is open for W0 or W1; it lasts until it releases. -/
def State.ndmReset (s : State) : State := if s.chip.debugOpen &&& 3 ≠ 0 then s.assertSource .ndmReset else s

def execNdmreset (s : State) : Host.Outcome State Fault Refusal := s.onMem State.ndmReset

/-- HARTRESET: the hart's pair is held in partition reset until the bit clears. -/
def Chip.hartReset (c : Chip) (k : Nat) (on : Bool) : Chip :=
  if on then
    c.when (bit c.debugOpen (c.worldOf k)) fun c =>
      (c.partAssert (k / 2) 4).updRst fun b => { b with hartHeld := if b.hartHeld.contains (k / 2) then b.hartHeld else b.hartHeld ++ [k / 2] }
  else c.updRst fun b => { b with hartHeld := b.hartHeld.filter (· != k / 2) }

def execHartreset (k : Fin 8) (on : Bool) (s : State) : Host.Outcome State Fault Refusal := s.on fun c => c.hartReset k.val on

end Sys2Proof.Machine
end

