-- ==== Sys2Proof/Machine/Supply.lean ====
section
/-! DEFINITION. The supply die: voltage bands, sleep and its end, backup, temperature and dissipation: R293–R314. -/

namespace Sys2Proof.Machine

/-- Replace the supply die's own state. -/
def Chip.updPmu (c : Chip) (f : PmuBlk → PmuBlk) : Chip := { c with pmu := f c.pmu }

/-- A supply event: raised now, or once the zone die runs again (R312). -/
def Chip.supplyEvent (c : Chip) (n : Nat) : Chip := if c.zoneUp then c.raise n else c.defer n

/-- Show a measurement of VBAT; VMIN is the lowest since CLRMIN, or since it was cleared. -/
def Chip.showVbat (c : Chip) (v : Nat) : Chip :=
  let low := c.get PMU_VBAT_VMIN
  (c.set PMU_VBAT_VBAT v).set PMU_VBAT_VMIN (if low = 0 then v else min low v)

/-! ### Voltage bands (R294, R296–R299) -/

/-- OV_ENTER: VBAT above 36.0 V. -/
def Chip.ovEnter (c : Chip) (v : Nat) : Chip :=
  c.when (decide (3600 < v)) fun c => (((c.showVbat v).stick PMU_STAT_OV).satInc PMU_CNT_OV).supplyEvent 450

def execOvEnter (vbat : BitVec 16) (s : State) : Host.Outcome State Fault Refusal := s.on fun c => c.ovEnter vbat.toNat

/-- UVZ_ENTER: VBAT below 5.8 V; a running zone die is held at system reach and its rails are off. -/
def State.uvzEnter (s : State) (v : Nat) : State :=
  if 580 ≤ v || s.chip.pmu.uvz then s
  else
    let c := (s.chip.showVbat v).updPmu fun b => { b with uvz := true }
    if c.pmu.power ≠ .run then { s with chip := c }
    else
      let s := ({ s with chip := (c.stick PMU_STAT_UVZ).satInc PMU_CNT_UVZ } : State).assertSource .uvz
      { s with chip := (s.chip.defer 448).set PMU_RAIL_WINDOW 0 }

def execUvzEnter (vbat : BitVec 16) (s : State) : Host.Outcome State Fault Refusal := s.onMem fun s => s.uvzEnter vbat.toNat

/-- UVZ_EXIT: VBAT above 6.0 V; the source releases. -/
def State.uvzExit (s : State) (v bad : Nat) : State :=
  if v ≤ 600 || !s.chip.pmu.uvz then s
  else ({ s with chip := (s.chip.showVbat v).updPmu fun b => { b with uvz := false } } : State).releaseSource .uvz bad

def execUvzExit (vbat : BitVec 16) (bad : BitVec 5) (s : State) : Host.Outcome State Fault Refusal :=
  s.onMem fun s => s.uvzExit vbat.toNat bad.toNat

/-- The timebase PLL stops; the sleep counter runs. -/
def Chip.baseStop (c : Chip) : Chip :=
  c.when (c.time.started && !c.time.stopped) fun c =>
    (({ c with time := { c.time with stopped := true } } : Chip).setB TIME_STAT_TBLOCK false).updPmu fun b => { b with stoppedAt := some c.now }

/-- The timebase PLL locks again, and the FRC is carried by what the sleep counter measured (R41). -/
def Chip.baseCarry (c : Chip) (ns : Nat) : Chip :=
  c.when c.time.stopped fun c =>
    let c := ({ c with time := { c.time with frc := c.time.frc + ns, stopped := false } } : Chip).updPmu fun b => { b with stoppedAt := none }
    (((c.setB TIME_STAT_TBLOCK true).forceQuality).stick TIME_STAT_SLEEPCARRY).supplyEvent 133

/-- UVH_ENTER: VBAT below 4.5 V; every gate is off, the held states stay, and the timebase stops. -/
def Chip.uvhEnter (c : Chip) (v : Nat) : Chip :=
  c.when (decide (v < 450) && !c.pmu.uvh) fun c =>
    let c := ((c.showVbat v).stick PMU_STAT_UVH).satInc PMU_CNT_UVH
    let c := forAll 48 (fun n c => c.gateOff n) c
    ((c.updPmu fun b => { b with uvh := true }).baseStop).defer 449

def execUvhEnter (vbat : BitVec 16) (s : State) : Host.Outcome State Fault Refusal := s.on fun c => c.uvhEnter vbat.toNat

/-- A channel whose held state is on switches on again: at once, or at its next PWM period. -/
def Chip.gateReturn (c : Chip) (n : Nat) : Chip :=
  if (c.lsCh n).pwm then c.updLs n fun x => { x with afterOff := true }
  else c.when (c.flag (LSC_CH_STAT_CMDON n) && decide (c.pstate n ≤ 1) && !(c.lsCh n).hot && !c.lsFaulted n) fun c =>
    (c.setB (LSC_CH_STAT_OUT n) true).startInrush n

/-- UVH_EXIT: VBAT above 4.7 V. -/
def Chip.uvhExit (c : Chip) (v ns : Nat) : Chip :=
  c.when (decide (470 < v) && c.pmu.uvh) fun c =>
    let c := (c.showVbat v).updPmu fun b => { b with uvh := false }
    let c := forAll 48 (fun n c => c.gateReturn n) c
    c.when (c.pmu.power == .run) fun c => c.baseCarry ns

def execUvhExit (vbat : BitVec 16) (ns : Nat) (s : State) : Host.Outcome State Fault Refusal := s.on fun c => c.uvhExit vbat.toNat ns

/-- POWER_ON_RESET: VBAT below 4.0 V. -/
def State.powerOnReset (s : State) (v : Nat) : State :=
  if 400 ≤ v then s
  else
    let s := s.assertSource .powerOn
    { s with chip := (s.chip.showVbat v).set PMU_RAIL_WINDOW 0 }

def execPowerOnReset (vbat : BitVec 16) (s : State) : Host.Outcome State Fault Refusal := s.onMem fun s => s.powerOnReset vbat.toNat

/-- RAIL_BROWNOUT: a rail outside its window while the zone die runs. -/
def State.railBrownout (s : State) (rail : Nat) : State :=
  let s := ({ s with chip := s.chip.set PMU_RAIL_LASTFAIL rail } : State).assertSource .brownOut
  { s with chip := (s.chip.set PMU_RAIL_WINDOW (setBit (s.chip.get PMU_RAIL_WINDOW) rail false)).defer 451 }

def execRailBrownout (rail : Fin 9) (s : State) : Host.Outcome State Fault Refusal := s.onZoneMem fun s => s.railBrownout rail.val

/-! ### Sleep entry (R303) -/

/-- Every segment falls asleep (R281). -/
def Chip.segsSleep (c : Chip) : Chip :=
  let c := forAll 12 (fun n c => c.canSleep n) c
  let c := forAll 8 (fun n c => c.linSegSleep n) c
  let c := forAll 20 (fun p c => c.when (c.flag (ESW_P_STAT_LINK p)) fun c => c.linkDown p) c
  let c := c.eswSleep.hbdSleep
  forAll 42 (fun s c => c.segShow s false) c

/-- A sleep frame at the slices: PWM channels switch off as by a command, then every channel's HSEQ is its sleep token. -/
def Chip.lscSleep (c : Chip) : Chip :=
  let c := forAll 48 (fun n c => c.when (c.lsCh n).pwm fun c => (c.lsTurnOff n).heldChange n) c
  let c : Chip := { c with lsc := { c.lsc with heartbeat := none } }
  c.updPmu fun b => { b with tokens := (List.range 48).foldl (fun m n => put 0 m n (c.get (LSC_CH_HOLD_HSEQ n))) [] }

/-- SLEEP_COMMIT: the commit point C. -/
def Chip.sleepCommit (c : Chip) (backlog : Nat) : Chip :=
  c.when (c.slState == slPREPARE && c.nmw.guard && c.due c.commitPoint) fun c =>
    let c := (c.slEnter slENTRY).segsSleep
    let c := ((c.seqReset false).setB SEQ_CTL_EN false)
    let c := (c.leSleep 0).leSleep 1
    let c := (((c.ddpReset 2).keySleep.seamSleep).clmReset false).brgReset false
    let c := (c.vfsClear.sfeWide false).lscSleep
    let c := c.updRst fun b => { b with wdtStart := [], wdtHalf := [] }
    let c := c.updUpdate fun b => { b with relays := [] }
    (c.updPmu fun b => { b with flushing := true }).set PMU_IMG_BACKLOG (min backlog 0xFFFF)

def execSleepCommit (backlog : Nat) (s : State) : Host.Outcome State Fault Refusal :=
  s.onZoneMem fun s => ({ s with chip := s.chip.sleepCommit backlog } : State).eswFlush

/-- The module passes into DEEP: channels off as by SAFEOFF, and the image is invalid (R306). -/
def Chip.deepPass (c : Chip) : Chip :=
  let c := forAll 48 (fun n c => c.safeOffOne n) c
  (c.updPmu fun b => { b with power := .deep, sealed := false }).setB PMU_IMG_VALID false

/-- SLEEP_ENTERED: the image is sealed, the rails go down and the timebase stops; a latched wake starts the wake cycle (R285). -/
def State.sleepEntered (s : State) : State :=
  if !s.chip.pmu.flushing then s
  else
    let s := s.loseMemory
    let c := (((s.chip.set PMU_IMG_BACKLOG 0).setB PMU_IMG_VALID true).wrapInc PMU_IMG_GEN).set PMU_RAIL_WINDOW 0
    let c := forAll 3 (fun sl c => c.linkLost sl) c
    let c := ({ c.coreReset with fab := {} } : Chip).dropSleepRegs
    let c := c.baseStop.updPmu fun b => { b with
      power := .sleep, flushing := false, sealed := true, sleptAt := c.now, wake := c.nmw.latched.map fun k => (k, true) }
    let c := c.updNmw fun b => { b with guard := false, latched := none, hold := none, holdSrc := none, validated := false }
    let c := c.updRst fun b => { b with dramTrained := false, handed := false }
    { s with chip := if c.flag PMU_CTL_DEEPNEXT then c.deepPass else c }

def execSleepEntered (s : State) : Host.Outcome State Fault Refusal := s.onZoneMem State.sleepEntered

/-- DEEP_ENTRY: after DTMR hours in SLEEP, or after 60 s below PARKLOW. -/
def Chip.deepEntry (c : Chip) (below : Nat) : Chip :=
  let hours := c.get PMU_DEEP_DTMR
  let timed := hours != 0 && c.dueNow (some (c.pmu.sleptAt + hours * 3600000000000))
  let parked := c.get PMU_DEEP_PARKLOW != 0 && decide (60000000000 ≤ below)
  c.when (c.pmu.power == .sleep && c.pmu.wake.isNone && (timed || parked)) Chip.deepPass

def execDeepEntry (below : Nat) (s : State) : Host.Outcome State Fault Refusal := s.on fun c => c.deepEntry below

/-! ### Wake (R302, R304–R306) -/

/-- IMAGE_REBUILD: the save agent has rebuilt the image. -/
def Chip.imageRebuild (c : Chip) : Chip :=
  c.when c.pmu.rebuild fun c => (c.updPmu fun b => { b with rebuild := false }).setB PMU_IMG_VALID true

def execImageRebuild (s : State) : Host.Outcome State Fault Refusal := s.onZone Chip.imageRebuild

/-- The wake cycle begins: the zone die is on, the FRC is carried, and DEEPNEXT clears. -/
def Chip.wakeBegin (c : Chip) (ns : Nat) : Chip :=
  ((c.updPmu fun b => { b with power := .run, wake := none }).baseCarry ns).setB PMU_CTL_DEEPNEXT false

/-- A start of system reach out of sleep. -/
def State.systemStart (s : State) (bad : Nat) : State :=
  let s := ({ s with chip := s.chip.updRst fun b => { b with episode := some 3 } } : State).zoneReset 3
  ({ s with chip := s.chip.startSteps 3 bad } : State).updRestart

/-- The wake's record and hold, with EV0425 once the zone die runs. -/
def Chip.wokeBy (c : Chip) (w : Nat × Bool) : Chip := (c.wakeRecord w.1 w.2 false).defer 425

/-- A fall-back of the resume (R305). -/
def State.resumeFails (s : State) (w : Nat × Bool) (bad : Nat) : State :=
  let s := s.systemStart bad
  { s with chip := (((s.chip.set PMU_STAT_LASTSLEEP 2).satInc PMU_CNT_RESFAIL).defer 452).wokeBy w }

/-- The trackers after a wake: WAIT, the estimate cleared, the generation advanced (R73). -/
def Chip.trackersWake (c : Chip) : Chip :=
  forAll 15 (fun i c =>
    let n := i + 1
    c.when (c.get (PB_STAT_STATE n) != 0) fun c => ((c.pbState n 1).pbClearEstimate n).genAdvance n) c

/-- The segments after a wake: those with ISO = 0 are awake, and a bus wake's own. -/
def Chip.segsWake (c : Chip) : Chip := forAll 42 (fun s c => c.when (!c.segIso s) fun c => c.segWake s) c

/-- The channels after a wake: one whose HSEQ differs from its sleep token is orphaned. -/
def Chip.tokensCheck (c : Chip) : Chip :=
  (forAll 48 (fun n c => c.when (c.get (LSC_CH_HOLD_HSEQ n) != look 0 c.pmu.tokens n) fun c => c.orphan n) c).showNadopt

/-- A resume: the retained state is restored and sealed, and CX0 enters the boot ROM (R304, R459). -/
def State.resumeGood (s : State) (w : Nat × Bool) : State :=
  let c := s.chip.railsUp.newNonce
  let c := (c.inputsReacquire true).trackersWake.segsWake
  let c := forAll 3 (fun sl c => c.cuffLinkUp sl) c
  let c := c.tokensCheck
  let c := c.updRst fun b => { b with relStep := .reinit, releasing := none, handed := false, resumeBoot := true }
  let c := ((c.setB RST_STAT_W0ACTIVE true).setB PMU_STAT_RESUMED true).set PMU_STAT_LASTSLEEP 1
  let c := ((c.wakeRecord w.1 w.2 false).slEnter slAWAKE).raise 425
  ({ s with chip := c } : State).updRestart

/-- RESUME: the wake cycle out of SLEEP. -/
def State.resume (s : State) (ns : Nat) (good : Bool) (bad : Nat) : State :=
  if s.chip.pmu.power ≠ .sleep || s.chip.pmu.uvz then s
  else match s.chip.pmu.wake with
    | none => s
    | some w =>
      let ok := s.chip.pmu.sealed && good
      let s := { s with chip := s.chip.wakeBegin ns }
      if ok then s.resumeGood w else s.resumeFails w bad

def execResume (ns : Nat) (good : Bool) (bad : BitVec 5) (s : State) : Host.Outcome State Fault Refusal :=
  s.onMem fun s => s.resume ns good bad.toNat

/-- DEEP_WAKE: the wake cycle out of DEEP. -/
def State.deepWake (s : State) (ns bad : Nat) : State :=
  if s.chip.pmu.power ≠ .deep || s.chip.pmu.uvz then s
  else match s.chip.pmu.wake with
    | none => s
    | some w =>
      let s := ({ s with chip := s.chip.wakeBegin ns } : State).systemStart bad
      { s with chip := ((s.chip.set PMU_STAT_LASTSLEEP 3).defer 453).wokeBy w }

def execDeepWake (ns : Nat) (bad : BitVec 5) (s : State) : Host.Outcome State Fault Refusal := s.onMem fun s => s.deepWake ns bad.toNat

/-! ### Backup supply (R307, R308) -/

def execVbakChangeover (backup : Bool) (s : State) : Host.Outcome State Fault Refusal :=
  s.on fun c => if backup then c.hbxToBackup else c.hbxFromBackup

/-- Show a measurement of VBAK; there is none on -N. -/
def Chip.showVbak (c : Chip) (mv : Nat) : Chip :=
  c.when c.variantH fun c => (c.set PMU_VBAK_VBAK mv).setB PMU_STAT_VBAKLOW (decide (mv < 2200))

/-- VBAK_LOW: VBAK falls below 2.2 V. -/
def Chip.vbakFalls (c : Chip) (mv : Nat) : Chip :=
  c.when (c.variantH && decide (mv < 2200)) fun c => (c.showVbak mv).supplyEvent 459

def execVbakLow (mv : BitVec 16) (s : State) : Host.Outcome State Fault Refusal := s.on fun c => c.vbakFalls mv.toNat

/-! ### Temperature and dissipation (R309, R310) -/

/-- The core clock changes for temperature, where it does. -/
def Chip.coreClock (c : Chip) (throt : Bool) : Chip :=
  c.when (c.flag PMU_STAT_THROT != throt) fun c =>
    (({ c with core := { c.core with clockMHz := if throt then 800 else 1600 } } : Chip).setB PMU_STAT_THROT throt).raise 455

/-- TWARN_ENTER: the zone die is above TWARN. -/
def Chip.twarnEnter (c : Chip) (t : Nat) : Chip :=
  c.when (decide ((c.get PMU_THR_TWARN : Int) < signed 10 t)) fun c =>
    let c := ((c.set PMU_TEMP_ZONE t).stick PMU_STAT_TWARN).raise 454
    c.when (c.flag PMU_CTL_AUTOTHR) fun c => c.coreClock true

def execTwarnEnter (temp : BitVec 10) (s : State) : Host.Outcome State Fault Refusal := s.onZone fun c => c.twarnEnter temp.toNat

/-- TWARN_EXIT: the zone die is below TWARN − 5 °C. -/
def Chip.twarnExit (c : Chip) (t : Nat) : Chip :=
  c.when (decide (signed 10 t < (c.get PMU_THR_TWARN : Int) - 5)) fun c => (c.set PMU_TEMP_ZONE t).coreClock false

def execTwarnExit (temp : BitVec 10) (s : State) : Host.Outcome State Fault Refusal := s.onZone fun c => c.twarnExit temp.toNat

/-- THERMAL_RESET: the zone die at 125 °C or the supply die at 150 °C; the source holds until it is released. -/
def State.thermalReset (s : State) (supply : Bool) (t : Nat) : State :=
  if signed 10 t < (if supply then 150 else 125) then s
  else
    let c := s.chip.set (if supply then PMU_TEMP_SUPPLY else PMU_TEMP_ZONE) t
    let again := c.rst.sources.contains .thermal
    let s := ({ s with chip := c } : State).assertSource .thermal
    { s with chip := s.chip.when (supply && !again && c.pmu.power == .run) fun c => c.defer 456 }

def execThermalReset (supply : Bool) (temp : BitVec 10) (s : State) : Host.Outcome State Fault Refusal :=
  s.onMem fun s => s.thermalReset supply temp.toNat

/-- BASEPLATE_OVERTEMP: the baseplate is above 105 °C. -/
def Chip.baseplateHot (c : Chip) (t : Nat) : Chip :=
  c.when (decide (105 < signed 10 t)) fun c => (c.set PMU_TEMP_BASE t).supplyEvent 457

def execBaseplateOvertemp (temp : BitVec 10) (s : State) : Host.Outcome State Fault Refusal := s.on fun c => c.baseplateHot temp.toNat

/-- Whether a total in mW exceeds the limit. -/
def Chip.powerOver (c : Chip) (mw : Nat) : Bool := c.get PMU_PWRLIM_LIM != 0 && decide (c.get PMU_PWRLIM_LIM * 100 < mw)

/-- POWER_REPORT_TICK: the means of the last 100 ms, and the measurements shown with them. -/
def Chip.powerReport (c : Chip) (zone stage supply vbat vbak temps : Nat) : Chip :=
  let was := c.powerOver (c.get PMU_PWR_TOTAL)
  let total := zone + stage + supply
  let c := (((c.set PMU_PWR_ZONE zone).set PMU_PWR_STAGE stage).set PMU_PWR_SUPPLY supply).set PMU_PWR_TOTAL total
  let c := (((c.showVbat vbat).showVbak vbak).wrN PMU_TEMP (temps <<< 2))
  c.when (c.powerOver total && !was) fun c => (c.stick PMU_STAT_PWROVER).raise 458

def execPowerReportTick (zone stage supply : W32) (vbat vbak : BitVec 16) (temps : BitVec 30) (s : State) :
    Host.Outcome State Fault Refusal :=
  s.onZone fun c => c.powerReport zone.toNat stage.toNat supply.toNat vbat.toNat vbak.toNat temps.toNat

/-! ### Registers (R311) -/

/-- A refused PMU write. -/
def Chip.pmuRefuse (c : Chip) (st : Nat) : Chip := c.refuse PMU_STAT_LASTERR st 460

/-- A write of PMU_CTL by W1. -/
def Chip.pmuCtlWrite (c : Chip) (w : Who) (v : Nat) : Chip :=
  if w.world ≠ 1 then c.pmuRefuse stDENIED_WORLD
  else
    let c := (c.setB PMU_CTL_DEEPNEXT (bit v 3)).setB PMU_CTL_AUTOTHR (bit v 2)
    let c := c.when (bit v 1) fun c => c.set PMU_VBAT_VMIN (c.get PMU_VBAT_VBAT)
    c.when (bit v 0) fun c => c.wrN PMU_CNT 0

def execClrmin (a : Agent) (v : W32) (s : State) : Host.Outcome State Fault Refusal := s.by a fun w c => c.pmuCtlWrite w v.toNat

def execPmuClrcnt (a : Agent) (v : W32) (s : State) : Host.Outcome State Fault Refusal := s.by a fun w c => c.pmuCtlWrite w v.toNat

/-- A write of PMU_DEEP by W1: PARKLOW 0, or 6.00–30.00 V. -/
def Chip.pmuDeepWrite (c : Chip) (w : Who) (v : Nat) : Chip :=
  let p := bits v 15 0
  if w.world ≠ 1 then c.pmuRefuse stDENIED_WORLD
  else if p = 0 || (decide (600 ≤ p) && decide (p ≤ 3000)) then c.wrN PMU_DEEP v
  else c.pmuRefuse stRANGE

end Sys2Proof.Machine
end

