-- ==== Sys2Proof/Machine/Registers.lean ====
section
/-! DEFINITION. Registers as their readers and writers see them: access codes (R8), reserved encodings (R10), owners and the sealed
set-up (R13), what each register shows, and which writes the blocks take by rules of their own. -/

namespace Sys2Proof.Machine

/-- Whether a register found in the map is an instance of the row whose first instance is `r`. -/
def Found.is (f : Found) (r : Reg) : Bool := f.row.addr == r.addr

/-- The `k`-th index of a register found in the map. -/
def Found.n (f : Found) (k : Nat) : Nat := f.idx.getD k 0

/-- The 64 KiB block an address lies in. -/
def Found.block (f : Found) : Nat := f.addr / 65536

/-! ### Access codes and reserved encodings (R8–R10) -/

/-- A field after a write of `v` (R8). -/
def fieldStore (old v : Nat) (x : FieldRow) : Nat :=
  match x.acc with
  | .rw => bits v x.hi x.lo
  | .rwb => bits v x.hi x.lo
  | .ro => bits old x.hi x.lo
  | .rsv => bits old x.hi x.lo
  | .wo => 0
  | .w1c => bits old x.hi x.lo - (bits old x.hi x.lo &&& bits v x.hi x.lo)
  | .w1s => bits old x.hi x.lo ||| bits v x.hi x.lo

/-- A register after a write of `v`, field by field; reserved fields keep what they read. -/
def mergeFields (fs : List FieldRow) (old : W128) (v : Nat) : W128 :=
  fs.foldl (fun x r => setBits x r.hi r.lo (fieldStore old.toNat v r)) old

/-- Whether a field takes what is written. -/
def Acc.writes : Acc → Bool
  | .rw => true
  | .rwb => true
  | .wo => true
  | .w1s => true
  | .w1c => false
  | .ro => false
  | .rsv => false

/-- Whether a write of `v` places a reserved encoding in a field (R10). -/
def reservedIn (fs : List FieldRow) (v : Nat) : Bool :=
  fs.any fun x => x.acc.writes && !x.legal.isEmpty &&
    !x.legal.any fun r => decide (r.1 ≤ bits v x.hi x.lo) && decide (bits v x.hi x.lo ≤ r.2)

/-- Whether a register belongs to the protection set-up. -/
def Found.boot (f : Found) : Bool := f.row.fields.any fun x => x.acc == .rwb

/-! ### Owners (R13) -/

/-- The world of the engine that publication `d` names, under the word `v` of ESW_PUBd (R208). -/
def Chip.pubWorld (c : Chip) (v : Nat) : Nat := c.leWorld (bits v 126 126)

/-- The owner of a register whose owner is a rule of its block. -/
def Chip.specialOwner (c : Chip) (w : Who) (f : Found) (v : Nat) : Bool :=
  if f.block = 0x3003 then f.n 0 == w.world
  else if f.block = 0x3005 || f.block = 0x3006 then w.world == c.leWorld (f.n 0)
  else if f.is (ESW_PUB0 0) then
    w.world == c.pubWorld v && (!c.flag (ESW_PUB0_EN (f.n 0)) || w.world == c.pubWorld (c.rdN (ESW_PUB0 (f.n 0))))
  else if f.is (ESW_PUB1 0) then w.world == c.pubWorld (c.rdN (ESW_PUB0 (f.n 0)))
  else if f.block = 0x300D then c.poolWorld 0 (f.n 0) == some w.world
  else if f.is HBD_BSEL then c.poolWorld 2 (v % 512) == some w.world
  else if f.block = 0x3021 && decide (f.addr < 0x30214000) then f.n 0 + 1 == w.world
  else if f.block = 0x3021 then c.poolWorld 5 (f.n 0) == some w.world
  else if f.block = 0x3022 then c.poolWorld 3 (f.n 0) == some w.world
  else if f.block = 0x3023 then f.n 0 + 1 == w.world
  else false

/-- Whether a requester may write a register. -/
def Chip.mayWrite (c : Chip) (w : Who) (f : Found) (v : Nat) : Bool :=
  match f.row.owner with
  | .worlds ws => ws.contains w.world
  | .all => true
  | .claim k per first => c.claims w.world k (first + f.n 0 / per)
  | .vf => true
  | .special => c.specialOwner w f v

/-- What a block does with a write from a world that is not the owner. -/
def Chip.denyWrite (c : Chip) (f : Found) : Chip :=
  match f.block with
  | 0x3000 => c.rstRefuse stDENIED_WORLD
  | 0x3001 => c.pmuRefuse stDENIED_WORLD
  | 0x3002 => c.when (decide ((PB_POS 0).addr ≤ f.addr)) fun c => c.pbRefuse (f.n 0) stDENIED_WORLD
  | 0x3003 => c.when (decide ((SEQ_P_IDX 0).addr ≤ f.addr) && decide (f.addr < (SEQ_B_FIRED 0).addr)) fun c => c.raise 71
  | 0x3004 => c.when (f.is LSC_ORPH || f.is (LSC_FALLBACK 0)) fun c => c.set LSC_STAT_LASTERR stDENIED_WORLD
  | 0x3005 => c.leRefuse 0 stDENIED_WORLD
  | 0x3006 => c.leRefuse 1 stDENIED_WORLD
  | 0x3009 => c.portRefused (f.n 0) stDENIED_WORLD
  | 0x300F => c.portRefused (f.n 0) stDENIED_WORLD
  | 0x301C => c.when (f.is HBD_BSEL) fun c => c.raise 400
  | 0x301D => c.nmwRefuse stDENIED_WORLD
  | 0x3024 => c.updRefuse stDENIED_WORLD
  | 0x3026 => c.clmRefuse
  | 0x3027 => c.ainRefuse stDENIED_WORLD 431
  | 0x3030 => c.clmRefuse
  | _ => c

/-- A write of a register by the general rules: owner, seal, reserved encodings, then field by field (R8, R10, R13). -/
def Chip.plainStore (c : Chip) (w : Who) (f : Found) (v : Nat) : Chip :=
  if !c.mayWrite w f v then c.denyWrite f
  else if f.boot && c.flag RST_STAT_SEALED then c.raise 481
  else if reservedIn f.row.fields v then c
  else c.wr f.reg (mergeFields f.row.fields (c.rd f.reg) v)

/-! ### Doorbells and producer indices (R207, R352) -/

/-- A ring's producer index advances; while the function of the pair is not ACTIVE it is ignored and counted. -/
def Chip.ringProducer (c : Chip) (q : Nat) (rx : Bool) (i : Nat) : Chip :=
  let f := c.pairFn q
  if f < 64 && c.fnState f ≠ 2 then (c.satInc (SFE_FN_CNT_DBLATE f)).stick (VF_STAT_DBLATE f)
  else c.set (if rx then ESW_HQ_RXPI_I q else ESW_HQ_TXPI_I q) (i % 4096)

/-- A write of ESW_HQq_TXPI or _RXPI by the world of the pair's function. -/
def Chip.producerWrite (c : Chip) (w : Who) (q : Nat) (rx : Bool) (v : Nat) : Chip :=
  c.when (c.poolWorld 0 q == some w.world) fun c => c.ringProducer q rx (v % 4096)

/-- A doorbell is rung at the fire tick of its class 5 occurrence. Doorbells 0–127 advance a producer index; of doorbells 128–147 the
spec states no effect beyond the ring. -/
def Chip.doorbell (c : Chip) (d : Nat) : Chip :=
  match c.dueAction 5 d with
  | none => c
  | some a =>
    let c := c.dropAction a
    c.when (decide (d < 128)) fun c => c.ringProducer (2 * d + b2n (bit a.arg 31)) (bit a.arg 30) (a.arg % 65536)

/-! ### Writes that a block takes by a rule of its own -/

/-- Time and bases (R43–R51, R55, R65, R70, R3). -/
def Chip.timeStore (c : Chip) (w : Who) (f : Found) (v : Nat) : Option Chip :=
  let n := f.n 0
  let pb0 := n == 0 && [PB_CFG 0, PB_EST 0, PB_STALL 0].any f.is
  if f.is TIME_SNAP then some (c.timeSnapTake v)
  else if f.is TIME_CONV_IN then some (c.timeConv w v)
  else if f.is (TD_INC 0) then some (c.tdIncWrite w n v)
  else if f.is (TD_OFS 0) then some (c.tdOfsWrite w n v)
  else if f.is (TD_STEP 0) then some (c.tdStepWrite w n v)
  else if f.is (TD_CTL 0) then some (c.tdCtlWrite w n v)
  else if f.is (TD_STAT 0) then some (c.when (c.claims w.world 5 n) fun c => c.plainStore w f v)
  else if f.is (PB_SET 0) then some (c.pbSetWrite w n v)
  else if f.is (PB_CTL 0) then some (c.pbCtlWrite w n v)
  else if pb0 then some c
  else if f.is (PB_HZN 0) && c.claims w.world 6 n && (PB_HZN_HZN n).of v = 0 then some (c.pbRefuse n stRANGE)
  else if (f.is (PB_CFG 0) || f.is (PB_EST 0)) && c.claims w.world 6 n then
    if c.flag (PB_CTL_EN n) then some (c.pbRefuse n stBUSY)
    else if f.is (PB_CFG 0) && (PB_CFG_SRC n).of v = 2 && !c.variantH then some (c.pbRefuse n stNO_OBJECT)
    else none
  else none

/-- The sequencer (R78, R101). -/
def Chip.seqStore (c : Chip) (w : Who) (f : Found) (v : Nat) : Option Chip :=
  let n := f.n 0
  if f.is SEQ_CTL then some (c.seqCtlWrite w v)
  else if f.is (SEQ_P_CMD 0) then
    some (match v % 8 with
      | 1 => c.seqWrite w n
      | 2 => c.seqRead w n
      | 3 => c.seqCancel w n
      | _ => if w.world ≠ n then c.raise 71 else c)
  else none

/-- The load switches (R107, R111, R121, R130–R137, R567). -/
def Chip.lscStore (c : Chip) (w : Who) (f : Found) (v : Nat) : Option Chip :=
  let n := f.n 0
  if f.is LSC_CTL then some (c.lscCtlWrite w v)
  else if f.is LSC_HEART then some (c.heartbeatWrite w)
  else if f.is LSC_ADOPT then some (c.lsAdopt w v)
  else if f.is LSC_CUFFRST then some (c.cuffReset w v)
  else if f.is (LSC_SOSEL 0) then some (c.soselWrite w n v)
  else if f.is (LSC_CH_CFG 0) then some (c.lsCfgWrite w n 0 v)
  else if f.is (LSC_CH_PROT 0) then some (c.lsCfgWrite w n 1 v)
  else if f.is (LSC_CH_CLAMP 0) then some (c.lsCfgWrite w n 2 v)
  else if f.is (LSC_CH_PWMPER 0) then some (c.lsCfgWrite w n 3 v)
  else if f.is (LSC_CH_CMD 0) then some (c.lsCmdWrite w n v)
  else if f.is (LSC_BK_CFG 0) then some (c.lsBudgetWrite w n v)
  else if f.is (LSC_LUG_CFG 0) then some (c.lsBudgetWrite w (12 + n) v)
  else none

/-- The logic engines (R162, R166, R171, R176). -/
def Chip.leStore (c : Chip) (w : Who) (f : Found) (v : Nat) : Option Chip :=
  let e := f.n 0
  if f.is (LE_CTL 0) then some (c.leCtlWrite w e v)
  else if f.is (LE_XCHG 0) then some (c.leXchgWrite w e v)
  else if f.is (LE_CHG_DATA 0) then some (c.leChgWrite w e (BitVec.ofNat 128 v))
  else if f.is (LE_MDATA 0) then some (c.leMemWrite w e (BitVec.ofNat 128 v))
  else none

/-- The Ethernet switch (R186, R190, R198, R207, R209, R210). -/
def Chip.eswStore (c : Chip) (w : Who) (f : Found) (v : Nat) : Option Chip :=
  let n := f.n 0
  if f.is ESW_CTL then some (c.eswCtlWrite w v)
  else if f.is ESW_TBL_CMD then some (c.tblWrite w v)
  else if f.is (ESW_P_CFG 0) then some (c.portCfgWrite w n v)
  else if f.is (ESW_P_CBS 0 0) then some (c.cbsWrite w n (f.n 1) v)
  else if f.is (ESW_P_MAXFRM 0) then some (c.maxfrmWrite w n v)
  else if f.is ESW_MIR_CTL then some (c.mirCtlWrite w v)
  else if f.is (ESW_HQ_TXPI 0) then some (c.producerWrite w n false v)
  else if f.is (ESW_HQ_RXPI 0) then some (c.producerWrite w n true v)
  else none

/-- The Hatband (R239–R243). -/
def Chip.hbdStore (c : Chip) (w : Who) (f : Found) (v : Nat) : Option Chip :=
  if f.is HBD_CTL then some (c.hbdCtlWrite w v)
  else if f.is HBD_CORRACK then some (c.hbdCorrack w v)
  else if f.is HBD_MREQ then some (c.hbdMreq w v)
  else if f.is (HBD_MODE 0) then some (c.hbdModeWrite w (f.n 0) v)
  else if f.is HBD_STDATA then some (c.hbdStdataWrite w v)
  else if f.is HBD_BCTL then some (c.hbdBctlWrite w v)
  else if [HBD_CFG, HBD_TIM0, HBD_TIM1, HBD_TIM2, HBD_TIM3, HBD_TIM4].any f.is && w.world == 2 then
    let r := c.hbdCfgOpen
    if r.1 then none else some r.2
  else none

/-- CAN and LIN (R248–R265). -/
def Chip.canStore_ (c : Chip) (w : Who) (f : Found) (v : Nat) : Option Chip :=
  let n := f.n 0
  if f.is (CAN_CTL 0) then some (c.canCtlWrite w n v)
  else if f.is (CAN_NBT 0) then some (c.canTimingWrite w n 0 v)
  else if f.is (CAN_DBT 0) then some (c.canTimingWrite w n 1 v)
  else if f.is (CAN_XBT 0) then some (c.canTimingWrite w n 2 v)
  else if f.is (CAN_OSEL 0) then some (c.canOselWrite w n v)
  else if f.is (CAN_OCMD 0) then some (c.canOcmdWrite w n v)
  else if f.is (CAN_ODESC 0 0) then some (c.canDescWrite w n (f.n 1) (BitVec.ofNat 128 v))
  else if f.is (CAN_GWR 0 0 0) then some (c.canGwrWrite w n (f.n 1) (f.n 2) v)
  else if f.is (CAN_GWCFG 0) then some (c.canGwcfgWrite w n v)
  else if f.is (LIN_CTL 0) then some (c.linCtlWrite w n v)
  else if f.is (LIN_BUF 0 0) then some (c.linBufWrite w n (f.n 1) v)
  else none

/-- Inputs, wake and sleep (R271–R289). -/
def Chip.nmwStore (c : Chip) (w : Who) (f : Found) (v : Nat) : Option Chip :=
  let n := f.n 0
  if f.is NMW_SLP_CTL then some (c.slpCtlWrite w v)
  else if f.is NMW_VOTE then some (c.sleepVote w v)
  else if f.is NMW_SEGISO then some (c.segIsoWrite w v)
  else if f.is NMW_SEGBWK then some (c.segBwkWrite w v)
  else if f.is (NMW_DIN_CFG 0) then some (c.dinCfgWrite w n v)
  else if f.is (NMW_LSW_CFG 0) then some (c.dinCfgWrite w (48 + n) v)
  else if f.is (NMW_WAKE_CFG 0) then some (c.dinCfgWrite w (56 + n) v)
  else if f.is NMW_DINCHG then
    some (forAll 48 (fun i c => c.when (bit v i) fun c =>
      if c.claims w.world 9 i then c.set NMW_DINCHG_CHG (setBit (c.get NMW_DINCHG_CHG) i false)
      else c.nmwRefuse stDENIED_WORLD) c)
  else if f.is AIN_CTL then some (c.ainCtlWrite w v)
  else if f.is AIN_TRIG then some (c.ainTrig w v)
  else if f.is (AIN_SEQ 0) then some (c.ainSeqWrite w n v)
  else if f.is (AIN_STEP 0) then some (c.ainStepWrite w n v)
  else none

/-- Supply, cores, event router (R301, R308, R331–R338). -/
def Chip.coreStore (c : Chip) (w : Who) (f : Found) (v : Nat) : Option Chip :=
  let n := f.n 0
  if f.is PMU_CTL then some (c.pmuCtlWrite w v)
  else if f.is PMU_DEEP then some (c.pmuDeepWrite w v)
  else if f.is PMU_VBAK && !c.variantH then some c
  else if f.is EVR_RAISE then some (c.evrRaise w v)
  else if f.is EVR_ACK then some (c.evrAck w v)
  else if f.is (EVR_RT 0) then some (c.evrRtWrite w n v)
  else if f.is CMP_CTL then some (c.cmpCtlWrite w v)
  else if f.is (CMP_P_INJ 0) then some (c.cmpInject w n v)
  else if f.is (CMP_P_MMCLR 0) then some (c.cmpMmclr w n v)
  else none

/-- A refused write of an SFE register (R343, R358). -/
def Chip.sfeRefuse (c : Chip) (st : Nat) : Chip := c.refuse SFE_STAT_LASTERR st 577

/-- Service functions (R343–R358). -/
def Chip.sfeStore (c : Chip) (w : Who) (f : Found) (v : Nat) : Option Chip :=
  let n := f.n 0
  if f.is SFE_CMD then some (c.sfeCmdWrite w v)
  else if f.is (VF_VEC 0 0) then some (c.vfVecWrite n (f.n 1) v)
  else if w.world ≠ 1 then none
  else if f.is (SFE_FN_CFG 0) then
    if n = 64 then some c else if c.fnState n ≠ 0 then some (c.sfeRefuse stBUSY) else none
  else if f.is (SFE_FN_RNG 0 0) then if n = 64 || c.fnState n = 0 then none else some (c.sfeRefuse stBUSY)
  else if f.is (SFE_FN_GATP 0) then if c.fnState n < 2 then none else some (c.sfeRefuse stBUSY)
  else if f.is (SFE_FN_DRING 0) && bit v 127 && !(decide (10 ≤ bits v 68 64) && decide (bits v 68 64 ≤ 20)) then some c
  else none

/-- The bridge (R362, R365–R378). -/
def Chip.brgStore (c : Chip) (w : Who) (f : Found) (v : Nat) : Option Chip :=
  let n := f.n 0
  if c.brgOff then some c
  else if f.is BRG_CTL then some (c.brgCtlWrite w v)
  else if f.is BRG_ELOGPOP then some (c.brgElogpop w)
  else if f.is BRG_CFGDATA then some (c.brgCfgRequest w v)
  else if f.is (BRG_POLL_CTL 0) then some (c.brgPollCtlWrite w n v)
  else if f.is (BRG_OW_CTL 0) then some (c.brgOwCtlWrite w n v)
  else if f.is (BRG_OW_LOC 0) || f.is (BRG_OW_FAR 0) then
    some (c.brgOwWrite w n f.reg (mergeFields f.row.fields (c.rd f.reg) v).toNat)
  else if f.is (BRG_IW_CTL 0) then some (c.brgIwCtlWrite w n v)
  else if [BRG_IW_FARB 0, BRG_IW_FARL 0, BRG_IW_LOCB 0].any f.is then
    some (c.brgIwWrite w n f.reg (mergeFields f.row.fields (c.rd f.reg) v).toNat)
  else none

/-! ### Persistent objects (R407) -/

/-- Write a persistent object through to both copies: the register at `k`, or the module name where `k` is 1. -/
def Chip.persist (c : Chip) (k : Nat) : Chip :=
  let v := if k = 1 then c.ddp.name else match regAt k with
    | some f => c.rdN f.reg
    | none => 0
  let e := some (v, crc32 (leBytesOf 32 v))
  (c.updDdp fun b => { b with copyA := put none b.copyA k e, copyB := put none b.copyB k e }).raise 717

/-- A write of DDP_CTL by W1 (R410). -/
def Chip.ddpCtlWrite (c : Chip) (w : Who) (v : Nat) : Chip :=
  c.when (w.world == 1) fun c =>
    let c := c.when (bit v 4) fun c => (c.wrN DDP_CNT0 0).wrN DDP_CNT1 0
    (c.wrN DDP_CTL (v % 16)).persist DDP_CTL.addr

/-- The link's objects are both PF0's (R393); otherwise the pool index of the first that is not. -/
def Chip.linkLacks (c : Chip) (v : Nat) : Option Nat :=
  [128 * bits v 123 120 + bits v 118 112, 128 * bits v 123 120 + bits v 110 104].find? fun i => !c.inRange 64 1 i

/-- A write of DDP_CLl by W1 (R393, R410). -/
def Chip.linkWrite (c : Chip) (w : Who) (f : Found) (v : Nat) : Chip :=
  if w.world ≠ 1 then c
  else if reservedIn f.row.fields v then c.set DDP_STAT_LASTERR stRANGE
  else if bit v 127 && c.flag (DDP_CL_EN (f.n 0)) then c.set DDP_STAT_LASTERR stBUSY
  else match (if bit v 127 then c.linkLacks v else none) with
    | some i => (c.conflict 0xFF i 0xFF w).set DDP_STAT_LASTERR stRES_CLAIMED
    | none => (c.wr f.reg (mergeFields f.row.fields (c.rd f.reg) v)).persist f.addr

/-- The dictionary engine's configuration (R410). -/
def Chip.ddpStore (c : Chip) (w : Who) (f : Found) (v : Nat) : Option Chip :=
  if f.is DDP_CTL then some (c.ddpCtlWrite w v)
  else if f.is (DDP_CL 0) then some (c.linkWrite w f v)
  else if (f.is (DDP_RQ 0) && w.world == 1 || f.is (DDP_FWQ_CFG 0) && f.n 0 + 1 == w.world) && reservedIn f.row.fields v then
    some (c.set DDP_STAT_LASTERR stRANGE)
  else if (f.is (DDP_RQ 0) || [DDP_LIM, DDP_SLEASE, DDP_HB, DDP_MAC, DDP_IP4, DDP_IP6].any f.is) && w.world == 1 &&
      !reservedIn f.row.fields v then
    some ((c.plainStore w f v).persist f.addr)
  else none

/-! ### Keys, reset, Seam, update, claims -/

/-- Keys and life cycle (R415–R436). -/
def Chip.keyStore (c : Chip) (w : Who) (f : Found) (v : Nat) : Option Chip :=
  if f.is KEY_CTL then some (c.keyCtlWrite w v)
  else if f.is KEY_INVAL then some (c.keyInvalWrite w (v % 1024))
  else if f.is (KEY_AUTHHASH 0) then some (c.authHashWrite w (f.n 0) (BitVec.ofNat 128 v))
  else if f.is KEY_DBGPOL then some (c.plainStore w f v).showKey
  else none

/-- Whether RST_MWm may take a world (R31, R324, R452). -/
def Chip.mwAllowed (c : Chip) (m world : Nat) : Bool :=
  if m = 8 then world == 2
  else if c.flag RST_CAUSE_OPTFAIL && world != 2 then false
  else if m < 8 then
    if world = 2 then m % 2 == 0 && c.mitten (m / 2) && c.flag (CMP_P_STAT_TESTOK (m / 2))
    else !(c.flag (CMP_P_STAT_BARRED (m / 2)) && world != 3)
  else true

/-- A write of one 128-bit word of a boot-key hash slot (R460): each word once; the slot is fused with its last word. -/
def Chip.bkWordWrite (c : Chip) (w : Who) (f : Found) (v : Nat) : Chip :=
  let k := f.n 0 / 4
  if w.world ≠ 0 then c.rstRefuse stDENIED_WORLD
  else if lcPROVISIONED < c.key.lcs then c.rstRefuse stDENIED_STATE
  else if look false c.rst.bkFused k || c.rdN f.reg ≠ 0 then c.rstRefuse stNOT_NOW
  else
    let c := c.wrN f.reg v
    c.when ((List.range 4).all fun i => c.rdN (RST_BKHASH (4 * k + i)) != 0) fun c =>
      c.updRst fun b => { b with bkFused := put false b.bkFused k true }

/-- Reset, options and boot (R450, R460–R471). -/
def Chip.rstStore (c : Chip) (w : Who) (f : Found) (v : Nat) : Option Chip :=
  let n := f.n 0
  if f.is RST_SEAL then some (c.sealWrite w v)
  else if f.is (RST_WDT_KICK 0) then some (c.wdtKick w n)
  else if f.is RST_FLOOR then some (c.floorWrite w v)
  else if f.is RST_BKREV then some (c.bkRevWrite w v)
  else if f.is RST_OPT then some (c.optSrcWrite w v)
  else if f.is (RST_BKHASH 0) then some (c.bkWordWrite w f v)
  else if f.is (RST_WDT_CFG 0) && n = 0 then some c
  else if f.is (RST_MW 0) && w.world == 0 && !c.flag RST_STAT_SEALED && !reservedIn f.row.fields v && !c.mwAllowed n (v % 8) then
    some (c.raise 496)
  else if f.is (RST_FW0 0) && decide (bits v 103 76 < bits v 39 12) && w.world == 0 && !c.flag RST_STAT_SEALED then some c
  else none

/-- The Seam (R493–R502); on -N the block ignores writes (R3). -/
def Chip.seamStore (c : Chip) (w : Who) (f : Found) (v : Nat) : Option Chip :=
  if !c.variantH then some c
  else if f.is SEAM_CTL then some (c.seamCtlWrite w v)
  else if f.is SEAM_RING then some (c.seamRingWrite w v)
  else if f.is SEAM_RCI then some (c.plainStore w f v).showRing
  else none

/-- Field update (R520–R527). -/
def Chip.updStore (c : Chip) (w : Who) (f : Found) (v : Nat) : Option Chip :=
  if f.is UPD_CTL then some (c.updCtlWrite w v)
  else if f.is UPD_VSTATE then some (c.vstateWrite w v)
  else none

/-- The entries of a kind of the claim table (R538). -/
def claimEntries (k : Nat) : Nat :=
  [32, 16, 24, 20, 48, 8, 16, 12, 8, 48, 8, 16, 2, 32, 16, 19, 8, 7].getD k 0

/-- Whether a nibble of the claim table is a reserved encoding. -/
def nibbleReserved (k e x : Nat) : Bool := decide (5 ≤ x % 8) && !(x == 15 && k == 3 && (e == 18 || e == 19))

/-- A word of the claim table as a write leaves it; none where a nibble is reserved. Nibbles beyond the kind's entries read 0. -/
def claimWord (k j v : Nat) : Option Nat :=
  let held := (List.range 8).filter fun i => decide (8 * j + i < claimEntries k)
  if held.any fun i => nibbleReserved k (8 * j + i) (bits v (4 * i + 3) (4 * i)) then none
  else some (held.foldl (fun (n : Nat) i => n + (bits v (4 * i + 3) (4 * i) <<< (4 * i))) 0)

/-- Whether ball `b` carries a sequencer output (R565). -/
def sqoBall (b : Nat) : Bool := decide (10 ≤ b / 22) && decide (b / 22 ≤ 13) && decide (14 ≤ b % 22)

/-- Claims, leases and balls (R538–R547). -/
def Chip.clmStore (c : Chip) (w : Who) (f : Found) (v : Nat) : Option Chip :=
  let n := f.n 0
  if f.is CLM_CTL then some (c.clmCtlWrite w v)
  else if f.is CLM_REVOKE then some (c.clmRevokeWrite w v)
  else if f.is CLM_ISOCLR then some (c.isoClear w v)
  else if f.is (CLM_LOCK 0) then some (c.lockRelease w n)
  else if f.is (CLM_CWLIM 0) && n = 0 then some c
  else if f.is (CLM_CLAIM 0 0) then
    match claimWord n (f.n 1) v with
    | some x => some (c.plainStore w f x)
    | none => if w.world ≠ 0 then some c.clmRefuse else some (c.when (c.flag RST_STAT_SEALED) fun c => c.raise 481)
  else if f.is (PIN_BALL 0) && w.world == 0 && !c.flag RST_STAT_SEALED &&
      (1 < v % 256 || (v % 256 = 1 && !sqoBall n)) then some c
  else none

/-- The rule of its own that a block has for a write, if any. -/
def Chip.ownStore (c : Chip) (w : Who) (f : Found) (v : Nat) : Option Chip :=
  match f.block with
  | 0x3000 => c.rstStore w f v
  | 0x3001 => c.coreStore w f v
  | 0x3002 => c.timeStore w f v
  | 0x3003 => c.seqStore w f v
  | 0x3004 => c.lscStore w f v
  | 0x3005 => c.leStore w f v
  | 0x3006 => c.leStore w f v
  | 0x301C => c.hbdStore w f v
  | 0x301D => c.nmwStore w f v
  | 0x301E => c.coreStore w f v
  | 0x301F => c.sfeStore w f v
  | 0x3020 => c.brgStore w f v
  | 0x3021 => c.ddpStore w f v
  | 0x3022 => c.keyStore w f v
  | 0x3023 => c.seamStore w f v
  | 0x3024 => c.updStore w f v
  | 0x3025 => c.coreStore w f v
  | 0x3026 => c.clmStore w f v
  | 0x3027 => c.nmwStore w f v
  | 0x3028 => c.canStore_ w f v
  | 0x3030 => c.clmStore w f v
  | b =>
    if b < 0x3010 then c.eswStore w f v else if b < 0x301C then c.canStore_ w f v else c.sfeStore w f v

/-- A write of a whole register that the module itself takes, the dictionary's queues and sessions apart. -/
def State.storeReg (s : State) (w : Who) (f : Found) (v : Nat) : State :=
  if f.is (CSES_GO 0) then s.keyGo w (f.n 0 - (s.chip.rangeOf w.fn 3).1)
  else if f.is KEY_LC then s.keyLcWrite w v
  else if f.is RST_SWREQ then s.swReqWrite w v
  else if f.is UPD_CMD then s.updCmdWrite w v
  else if f.is (SEAM_P_CMD 0) then if s.chip.variantH then s.portWrite w (f.n 0 + 1) v else s
  else match s.chip.ownStore w f v with
    | some c => ({ s with chip := c } : State).eswFlush
    | none => { s with chip := s.chip.plainStore w f v }

/-! ### What registers show -/

/-- What registers of time, sequencer and load switches show beside what they hold. -/
def Chip.timeShow (c : Chip) (w : Who) (f : Found) : Option Nat :=
  let n := f.n 0
  if f.is TIME_FRC then some (c.frc % 2 ^ 64)
  else if f.is (TD_NOW 0) then some (c.tdRead n c.frc)
  else if f.is TIME_CONV_IN then some (look 0 c.time.convIn w.key)
  else if f.is TIME_CONV_OUT then some (look 0 c.time.convOut w.key)
  else if f.is (PB_POS 0) then
    let st := if n = 0 then 4 else c.get (PB_STAT_STATE n)
    some ((st <<< 72) + (c.get (PB_STAT_GEN n) <<< 64) + c.reportedAt n c.frc)
  else if f.is (PB_STAT 0) then
    if n = 0 then some ((bits (c.rdN (PB_STAT 0)) 31 16 <<< 16) + 4)
    else some (setBit (c.rdN (PB_STAT n)) 5 (c.clamped n c.frc))
  else none

/-- The sequencer: a port answers its own world only (R78). -/
def Chip.seqShow (c : Chip) (w : Who) (f : Found) : Option Nat :=
  if f.is (SEQ_RANGE 0) then some (c.rdN (CLM_CLAIM 0 (f.n 0)))
  else if f.is SEQ_STAT then
    some (setBit (setBit (c.rdN SEQ_STAT) 18 c.seqRuns) 19 (!c.seq.retime.isEmpty))
  else if f.is SEQ_LERR then some (c.seq.lerr.headD 0).toNat
  else if [SEQ_P_IDX 0, SEQ_P_CMD 0, SEQ_P_RES 0, SEQ_P_D0 0, SEQ_P_D1 0].any f.is && f.n 0 != w.world then some 0
  else none

/-- LSC_CHn_HOLD: the held state of a channel (R131, R139). -/
def Chip.lsHold (c : Chip) (n : Nat) : Nat :=
  (c.get (LSC_CH_HOLD_HSEQ n) <<< 120) + (c.get (LSC_CH_STAT_PSTATE n) <<< 117) + (c.get (LSC_CH_STAT_CAUSE n) <<< 113) +
    (c.get (LSC_CH_CFG_MODE n) <<< 111) + (c.get (LSC_CH_STAT_OUT n) <<< 110) + (c.get (LSC_CH_STAT_CMDON n) <<< 109) +
    (c.get (LSC_CH_CFG_COMP n) <<< 108) + (c.get (LSC_CH_HOLD_FBAPPLIED n) <<< 107) + (c.get (LSC_CH_STAT_ORPHAN n) <<< 106) +
    (c.get (LSC_CH_HOLD_PERIOD n) <<< 64) + (c.get (LSC_CH_HOLD_DUTY n) <<< 48) + (c.get (LSC_CH_HOLD_DEFF n) <<< 32) +
    (if c.flag (LSC_CH_STAT_ORPHAN n) then c.orphanMs n else c.get (LSC_CH_HOLD_ORPHT n))

/-- LEn_STAT with the stacks and the bits it mirrors (R175). -/
def Chip.leStat (c : Chip) (e : Nat) : Nat :=
  let p := (c.leg e).cpu
  let v := setBits (setBits (c.rd (LE_STAT e)) 23 19 p.bstack.length) 18 15 p.cstack.length
  setBit (setBit v.toNat 13 (c.flag (LE_XSTAT_ARMED e))) 12 (bit p.sysBits 3)

/-- Load switches and logic engines. -/
def Chip.leShow (c : Chip) (w : Who) (f : Found) : Option Nat :=
  let n := f.n 0
  if f.is (LSC_CH_HOLD 0) then some (c.lsHold n)
  else if f.is LSC_ADOPTRES then some (look 0 c.lsc.adoptRes w.key)
  else if f.is (LE_PC 0) then some (if c.leMode n = 2 then (c.leg n).cpu.pc else 0)
  else if f.is (LE_STAT 0) then some (c.leStat n)
  else if f.is (LE_CHG_RES 0) then some (setBits (c.rd (LE_CHG_RES n)) 14 8 (c.leg n).changes.length).toNat
  else if f.is (LE_MDATA 0) && decide (c.get (LE_MADDR_INDEX n) < spaceUnits (c.get (LE_MADDR_SPACE n))) then
    some ((c.leg n).unit (c.get (LE_MADDR_SPACE n)) (c.get (LE_MADDR_INDEX n))).toNat
  else none

/-- Ethernet switch, Hatband, CAN. -/
def Chip.netShow (c : Chip) (w : Who) (f : Found) : Option Nat :=
  let n := f.n 0
  if f.is (ESW_P_STAT 0) then some (setBit (c.rdN (ESW_P_STAT n)) 24 (c.hatbandPort n))
  else if f.is (ESW_P_QSTAT 0 0) then some ((c.queueCells n (f.n 1) <<< 16) + (c.eswQueue n (f.n 1)).length)
  else if f.is (ESW_P_TSFIFO 0) then some ((look [] c.esw.stamps n).headD 0).toNat
  else if f.is HBD_BSTAT then some ((c.hbdSelected w).elim 0 c.hbdBstat)
  else if f.is HBD_BSTAMP then some ((c.hbdSelected w).elim 0 fun b => (c.hbBuf b).stamp)
  else if f.is HBD_STDATA then some (look 0 c.hbd.slots (c.get HBD_STSEL_MODE * 512 + c.get HBD_STSEL_ENTRY))
  else if f.is (CAN_ORES 0) then some (look 0 c.can.ores (w.key * 16 + n))
  else if f.is (CAN_OSTAT 0) then some ((c.canSelected w n).elim 0 fun i => (c.canObj i).ostat)
  else if f.is (CAN_OSTAMP 0) then some ((c.canSelected w n).elim 0 fun i => (c.canObj i).stamp)
  else if f.is (CAN_ODESC 0 0) then
    some ((c.canSelected w n).elim 0 fun i => if f.n 1 = 0 then (c.canObj i).w0.toNat else (c.canObj i).w1.toNat)
  else if f.is (NMW_PX_FIFO 0) then some ((look [] c.nmw.pxFifo n).headD 0).toNat
  else none

/-- Supply, comparators, service functions, bridge. -/
def Chip.coreShow (c : Chip) (f : Found) : Option Nat :=
  let n := f.n 0
  if f.is PMU_VBAK && !c.variantH then some 0
  else if f.is (CMP_P_STAT 0) then some (setBit (c.rdN (CMP_P_STAT n)) 5 (bit (c.get RST_REACH_MMPAIR) n))
  else if f.is (SFE_FN_HOLD 0) then some (c.fnHold n)
  else if f.is (VF_ID 0) then some ((c.fnState n <<< 28) + (c.get (SFE_FN_CFG_WORLD n) <<< 24) + n)
  else if f.is (VF_STAT 0) then some (setBit (c.rdN (VF_STAT n)) 0 (c.fnState n == 2))
  else if f.block = 0x3020 && c.brgOff && !f.is BRG_STAT then some 0
  else if f.is BRG_OUTST then some ((c.brg.out.length <<< 16) + c.brg.posted.length)
  else none

/-- A word of a key slot's record, for the world that holds the slot and for W1 (R418). -/
def Chip.slotWord (c : Chip) (w : Who) (n k : Nat) : Nat :=
  if w.world == 1 || (decide (2 ≤ n) && c.poolWorld 4 n == some w.world) then
    if k = 0 then c.slotW0 n else (c.slot n).word1
  else 0

/-- Milliseconds left of a watchdog's timeout. -/
def Chip.wdtLeft (c : Chip) (w : Nat) : Nat :=
  match look none c.rst.wdtStart w with
  | none => 0
  | some t => (t + c.wdtNs w - c.frc) / 1000000

/-- Keys, reset, claims. -/
def Chip.rootShow (c : Chip) (w : Who) (f : Found) : Option Nat :=
  let n := f.n 0
  if f.is (KEY_SLOT 0 0) then some (c.slotWord w n (f.n 1))
  else if f.is RST_SWRES then some (look 0 c.rst.swres w.key)
  else if f.is (RST_WDT_LEFT 0) then some (c.wdtLeft n)
  else if f.block = 0x3023 && !c.variantH then some 0
  else if f.is (CLM_CLAIM 0 0) && (n == 5 || n == 6) && f.n 1 = 0 then some (setBits (c.rd (CLM_CLAIM n 0)) 3 0 0b1010).toNat
  else if f.is CLM_CONF then some (c.clm.conflicts.headD 0).toNat
  else none

/-- What a register shows to a reader; write-only fields read 0. -/
def Chip.regValue (c : Chip) (w : Who) (f : Found) : W128 :=
  match (((((c.timeShow w f).orElse fun _ => c.seqShow w f).orElse fun _ => c.leShow w f).orElse fun _ => c.netShow w f).orElse
    fun _ => c.coreShow f).orElse fun _ => c.rootShow w f with
  | some v => BitVec.ofNat 128 v
  | none => c.rd f.reg

/-- A read that does something (R11, R78, R101, R176, R188, R279, R373, R541, R543): it answers and latches by itself. -/
def Chip.readEffect (c : Chip) (w : Who) (f : Found) : Option Chip :=
  let n := f.n 0
  if f.is SEQ_LERR then some (c.seqLerrRead w)
  else if f.is (LE_MDATA 0) then some (c.leMemRead w n)
  else if f.is (ESW_P_TSFIFO 0) then some (c.tsfifoRead w n)
  else if f.is (NMW_PX_FIFO 0) then some (c.pxFifoRead w n)
  else if f.is BRG_FENCE then if c.brgOff then none else some (c.brgFence w)
  else if f.is CLM_CONF then some (c.clmConfRead w)
  else if f.is (CLM_LOCK 0) then some (c.lockAcquire w n)
  else if [SEQ_P_IDX 0, SEQ_P_CMD 0, SEQ_P_RES 0, SEQ_P_D0 0, SEQ_P_D1 0].any f.is && f.n 0 != w.world then
    some ((c.raise 71).respond w.key false 0)
  else none

end Sys2Proof.Machine
end

