-- ==== Sys2Proof/Machine/Objects.lean ====
section
/-! DEFINITION. The hardware objects of the dictionary (R382–R385, R408, R409) and what reading and writing them does: each chapter's
object table (R4, R72, R103, R141, R178, R179, R212, R245, R268, R291, R313, R340, R360, R380, R412, R438, R473, R504, R529, R549). -/

namespace Sys2Proof.Machine

/-! ### Types (R383) -/

def tyBOOL : Nat := 0x01
def tyU8 : Nat := 0x02
def tyU16 : Nat := 0x03
def tyU32 : Nat := 0x04
def tyU64 : Nat := 0x05
def tyU128 : Nat := 0x06
def tyI16 : Nat := 0x08
def tyI32 : Nat := 0x09
def tyTV : Nat := 0x0E
def tyPOS : Nat := 0x0F
def tyOCTETS : Nat := 0x10
def tySTRING : Nat := 0x11
def tyDOMAIN : Nat := 0x12

/-- The size of a type in bytes, where the code alone gives it. -/
def typeSize (ty : Nat) : Nat := [0, 1, 1, 2, 4, 8, 16, 1, 2, 4, 8, 16, 4, 8, 16, 8].getD ty 0

/-- Whether bytes of a type hold a value it admits: a BOOL is 0 or 1, and a float is no NaN. -/
def typeAdmits (ty v : Nat) : Bool :=
  if ty = tyBOOL then decide (v ≤ 1)
  else if ty = 0x0C then !(bits v 30 23 == 0xFF && bits v 22 0 != 0)
  else if ty = 0x0D then !(bits v 62 52 == 0x7FF && bits v 51 0 != 0)
  else true

/-! ### Elements -/

/-- What a write of an element does: it writes bits of a register or whole 128-bit registers, or it has a rule of its own. -/
inductive ElemPut
  | none
  | field (a hi lo : Nat)
  | words (l : List Nat)
  | sni
  | name
  | swReq
  | entry (i : Nat)
  | leMode (e : Nat)
  | change (e area addr : Nat)
  | force (e n : Nat)
  | desc (i : Nat)
  | payload (i : Nat)
  | hbPayload (n : Nat)
  | linData (n b : Nat)
  | manifest
  | segments
  | act
  deriving DecidableEq, Repr

/-- An element: type code, size in bytes, the registers it mirrors, its value as a number (R23), and what a write does. -/
structure Elem where
  ty : Nat
  size : Nat
  regs : List Nat
  val : Nat
  put : ElemPut := .none
  deriving DecidableEq, Repr

/-- What the register at an address shows. -/
def Chip.shown (c : Chip) (w : Who) (a : Nat) : Nat :=
  match regAt a with
  | some f => (c.regValue w f).toNat
  | none => 0

/-- Whether bits of the register at an address can be written. -/
def addrWritable (a hi lo : Nat) : Bool :=
  match regAt a with
  | some f => f.row.fields.any fun x => x.acc == .rw && decide (x.lo ≤ hi) && decide (lo ≤ x.hi)
  | none => false

/-- An element that mirrors bits of a register, and writes them where they are RW. -/
def Chip.eField (c : Chip) (w : Who) (ty : Nat) (a hi lo : Nat) : Elem :=
  { ty := ty, size := if ty = tyOCTETS then (hi - lo + 8) / 8 else typeSize ty, regs := [a], val := bits (c.shown w a) hi lo
    put := if addrWritable a hi lo then .field a hi lo else .none }

/-- An element that mirrors a field. -/
def Chip.eF (c : Chip) (w : Who) (ty : Nat) (f : RFld) : Elem := c.eField w ty f.reg.addr f.hi f.lo

/-- An element that mirrors a whole register. -/
def Chip.eR (c : Chip) (w : Who) (ty : Nat) (r : Reg) : Elem := c.eField w ty r.addr (8 * typeSize ty - 1) 0

/-- An element of OCTETS that mirrors 128-bit registers, which a write of theirs reaches where `rw` says so. -/
def Chip.eWords (c : Chip) (w : Who) (l : List Reg) (rw : Bool) : Elem :=
  { ty := tyOCTETS, size := 16 * l.length, regs := l.map (·.addr), val := leNat (l.flatMap fun r => leBytesOf 16 (c.shown w r.addr))
    put := if rw then .words (l.map (·.addr)) else .none }

/-- An element with a value of its own, under the rights of registers. -/
def eV (ty : Nat) (regs : List Reg) (v : Nat) : Elem := { ty := ty, size := typeSize ty, regs := regs.map (·.addr), val := v }

/-- An element of bytes with a value of its own. -/
def eB (ty n : Nat) (regs : List Reg) (bs : List Byte) (put : ElemPut := .none) : Elem :=
  { ty := ty, size := n, regs := regs.map (·.addr), val := leNat (bs.take n), put := put }

/-- The same element, not writable. -/
def Elem.ro (x : Elem) : Elem := { x with put := .none }

/-- Bits gathered from a list. -/
def gather (l : List Bool) : Nat := l.zipIdx.foldl (fun (n : Nat) x => n + (b2n x.1 <<< x.2)) 0

/-! ### The tables -/

/-- Identity and life cycle (R4, R409). -/
def Chip.identityObj (c : Chip) (o : Nat) : List Elem :=
  match o with
  | 0 => [{ (eV tyU32 [DDP_SNI] (c.get DDP_SNI_SNI)) with put := .sni }]
  | 1 => [eV tyU8 [] c.key.lcs]
  | 2 => [eB tyOCTETS 16 [] (leBytesOf 16 Config.serial.toNat)]
  | 3 => [eB tySTRING 16 [] [0x41, 0x58, 0x51, 0x2D, 0x39, 0x34, 0x38, 0x34, 0x2D, if c.variantH then 0x48 else 0x4E, 0x2D, 0x45]]
  | 4 => [eB tyOCTETS 512 [] c.key.modulus]
  | 5 => [eB tySTRING 32 [] (leBytesOf 32 c.ddp.name) .name]
  | 0x10 => [eV tyU8 [] (if c.variantH then 0x48 else 0x4E)]
  | 0x11 => [eV tyU8 [] 0x45]
  | 0x12 => [eV tyU8 [] c.stepping]
  | _ => []

/-- Time and bases (R72). -/
def Chip.timeObj (c : Chip) (w : Who) (o : Nat) : List Elem :=
  let n := o % 16
  if o = 0 then [c.eR w tyU64 TIME_FRC]
  else if o = 1 then [(c.eR w tyU32 TIME_STAT).ro]
  else if 0x10 ≤ o && o < 0x18 then [c.eR w tyTV (TD_NOW n)]
  else if 0x20 ≤ o && o < 0x28 then [c.eR w tyU64 (TD_INC n)]
  else if o = 0x30 then [c.eR w tyTV TIME_T1M_UTC, c.eR w tyU64 TIME_T1M_FRC]
  else if 0x100 ≤ o && o < 0x110 then [c.eR w tyPOS (PB_POS n)]
  else if 0x110 ≤ o && o < 0x120 then
    [c.eF w tyU8 (PB_POS_STATE n), c.eF w tyU8 (PB_POS_GEN n), c.eF w tyU64 (PB_PER_P n), c.eF w tyU16 (PB_CNT_MISSED n),
      c.eF w tyU16 (PB_CNT_SYNCLOSS n)]
  else if 0x120 ≤ o && o < 0x130 then [PB_CFG n, PB_EST n, PB_TOL n, PB_HZN n, PB_STALL n, PB_CTL n].map (c.eR w tyU32)
  else []

/-- The sequencer (R103). -/
def Chip.seqObj (c : Chip) (w : Who) (o : Nat) : List Elem :=
  let n := o % 16
  if o = 0 then [c.eR w tyU32 SEQ_STAT]
  else if o = 1 then [c.eR w tyU32 SEQ_CTL]
  else if o = 2 then [c.eR w tyU32 SEQ_GEN]
  else if 0x10 ≤ o && o < 0x20 then
    [SEQ_B_FIRED n, SEQ_B_SQUASH n, SEQ_B_LATE n, SEQ_B_LEADN n, SEQ_B_REFUSED n].map (c.eR w tyU32) ++
      [c.eR w tyI32 (SEQ_B_MAXLEAD n), c.eR w tyU32 (SEQ_B_LA n)]
  else if o = 0x20 then
    (List.range 128).map fun i => eB tyOCTETS 16 [SEQ_LERR] (leBytesOf 16 (c.seq.lerr.getD i 0).toNat)
  else if 0x100 ≤ o && o < 0x120 then
    (List.range 256).map fun e =>
      let i := 256 * (o - 0x100) + e
      eB tyOCTETS 32 [SEQ_STAT] (leBytesOf 16 (entryWord0 (c.entry i)) ++ leBytesOf 16 (entryWord1 (c.entry i))) (.entry i)
  else []

/-- The load switches (R141). -/
def Chip.lscObj (c : Chip) (w : Who) (o : Nat) : List Elem :=
  if o = 0 then [(c.eR w tyU32 LSC_STAT).ro, c.eF w tyU8 LSC_STAT_NADOPT, c.eF w tyU8 LSC_STAT_HOLDVALID]
  else if 0x10 ≤ o && o < 0x40 then
    let n := o - 0x10
    [c.eF w tyU8 (LSC_CH_STAT_PSTATE n), c.eF w tyU16 (LSC_CH_MEAS_ISENSE n), c.eF w tyI16 (LSC_CH_MEAS_TJ n),
      c.eR w tyU32 (LSC_CH_EACC n), c.eR w tyU32 (LSC_CH_ELIFE n), c.eF w tyU8 (LSC_CH_STAT_CAUSE n),
      c.eF w tyU8 (LSC_CH_STAT_RETRIES n), c.eWords w [LSC_CH_HOLD n] false]
  else if 0x40 ≤ o && o < 0x4C then
    let k := o - 0x40
    [c.eF w tyU16 (LSC_BK_STAT_VBK k), c.eF w tyU16 (LSC_BK_STAT_IFILT k), c.eF w tyU16 (LSC_BK_CFG_BUDGET k),
      c.eField w tyU8 (LSC_BK_STAT k).addr 3 0]
  else if 0x50 ≤ o && o < 0x54 then
    let j := o - 0x50
    [c.eF w tyU16 (LSC_LUG_STAT_VLUG j), c.eF w tyU16 (LSC_LUG_STAT_IFILT j), c.eF w tyU16 (LSC_LUG_CFG_BUDGET j)]
  else if 0x100 ≤ o && o < 0x130 then
    let n := o - 0x100
    [LSC_CH_CFG n, LSC_CH_PROT n, LSC_CH_CLAMP n, LSC_CH_PWMPER n].map (c.eR w tyU32) ++
      [eV tyU32 ((List.range 4).map LSC_SOSEL)
        (gather ((List.range 4).map fun m => c.flag (LSC_SOSEL_EN m) && c.get (LSC_SOSEL_CH m) == n))]
  else []

/-- The status and exchange objects of logic engine `e` (R178). -/
def Chip.leObj (c : Chip) (w : Who) (e o : Nat) : List Elem :=
  match o with
  | 0 =>
    [{ (eV tyU8 [LE_STAT e] (c.leMode e)) with put := .leMode e }, (c.eR w tyU32 (LE_STAT e)).ro, c.eF w tyU64 (LE_CYCLE_N e),
      c.eF w tyU32 (LE_CYCLE_LASTT e), c.eF w tyU32 (LE_CYCLE_MAXT e), c.eF w tyU8 (LE_FAULT_CAUSE e), c.eF w tyU16 (LE_FAULT_PC e),
      c.eR w tyU32 (LE_CNT e)]
  | 1 =>
    [(c.eR w tyU32 (LE_XSTAT e)).ro, c.eF w tyU16 (LE_XRES_MATCHED e), c.eF w tyU16 (LE_XRES_UNMATCHED e), c.eF w tyU16 (LE_XRES_FDROP e),
      c.eF w tyU64 (LE_XRES_CYCLE e)]
  | _ => []

/-- 256 bits of an area from object `o` of it. -/
def bitObj (e : Nat) (m : NMap Bool) (o : Nat) (put : Nat → ElemPut) : List Elem :=
  (List.range 256).map fun i => { (eV tyBOOL [LE_STAT e] (b2n (look false m (256 * o + i)))) with put := put (256 * o + i) }

/-- The elapsed time of a timer (R159); of one that does not run the spec states none. -/
def LeCpu.elapsedShown (p : LeCpu) (t : LeTimer) : Nat :=
  if t.running then p.elapsed t else (Config.elapsedStopped t.stamp t.preset t.q).toNat

/-- The image mapping of logic engine `e` (R179). -/
def Chip.imageObj (c : Chip) (e o : Nat) : List Elem :=
  let g := c.leg e
  let p := g.cpu
  let r := [LE_STAT e]
  if o < 0x20 then bitObj e p.i o fun _ => .none
  else if 0x100 ≤ o && o < 0x120 then bitObj e g.commitQ (o - 0x100) fun _ => .none
  else if 0x200 ≤ o && o < 0x280 then bitObj e p.m (o - 0x200) fun a => .change e 0 a
  else if 0x1000 ≤ o && o < 0x2000 then [{ (eV tyU128 r (look 0 p.w (o - 0x1000)).toNat) with put := .change e 1 (o - 0x1000) }]
  else if 0x2000 ≤ o && o < 0x3000 then [{ (eV tyU128 r (look 0 g.active.k (o - 0x2000)).toNat) with put := .change e 2 (o - 0x2000) }]
  else if 0x3000 ≤ o && o < 0x3400 then
    let t := look {} p.timers (o - 0x3000)
    [{ (eV tyU64 r t.preset) with put := .change e 3 (o - 0x3000) }, eV tyU64 r (p.elapsedShown t), eV tyBOOL r (b2n t.q),
      eV tyBOOL r (b2n t.running)]
  else if 0x4000 ≤ o && o < 0x4200 then
    let t := look {} p.counters (o - 0x4000)
    [{ (eV tyI32 r (unsigned 32 t.preset)) with put := .change e 4 (o - 0x4000) },
      { (eV tyI32 r (unsigned 32 t.count)) with put := .change e 5 (o - 0x4000) }, eV tyBOOL r (b2n t.q)]
  else if 0x5000 ≤ o && o < 0x5800 then
    let d := look {} p.edges (o - 0x5000)
    [eV tyBOOL r (b2n d.prev), eV tyBOOL r (b2n d.fresh)]
  else if 0x6000 ≤ o && o < 0x6100 then
    let n := o - 0x6000
    [eB tyOCTETS 32 r (leBytesOf 16 (look 0 g.forces (2 * n)).toNat ++ leBytesOf 16 (look 0 g.forces (2 * n + 1)).toNat) (.force e n)]
  else []

/-- The Ethernet switch (R212). -/
def Chip.eswObj (c : Chip) (w : Who) (o : Nat) : List Elem :=
  if o = 0 then
    [(c.eR w tyU32 ESW_STAT).ro, c.eF w tyU16 ESW_STAT_FREE, c.eF w tyU16 ESW_CNT_TAILDROP, c.eF w tyU16 ESW_CNT_LEARNFAIL]
  else if 0x10 ≤ o && o < 0x28 then
    let p := o - 0x10
    (c.eR w tyU32 (ESW_P_STAT p)).ro :: (List.range 10).map fun i => c.eR w tyU32 (ESW_P_CNT p i)
  else if 0x30 ≤ o && o < 0x48 then
    let p := o - 0x30
    [ESW_P_CFG p, ESW_P_MAXFRM p, ESW_P_PCPMAP p].map (c.eR w tyU32)
  else if 0x100 ≤ o && o < 0x1C0 then
    let p := (o - 0x100) / 8
    let k := o % 8
    [c.eF w tyU16 (ESW_P_QSTAT_CELLS p k), c.eF w tyU16 (ESW_P_QSTAT_FRAMES p k)]
  else if o = 0x200 then [c.eR w tyU32 ESW_MIR_CTL, c.eF w tyU16 ESW_MIR_PI_I, c.eR w tyU32 ESW_MIR_DROP]
  else []

/-- The Hatband (R245). -/
def Chip.hbdObj (c : Chip) (w : Who) (o : Nat) : List Elem :=
  if o = 0 then
    [(c.eR w tyU32 HBD_STAT).ro, c.eF w tyU8 HBD_STAT_STATE, c.eF w tyU8 HBD_STAT_CYCLE, c.eF w tyU8 HBD_STAT_CURMODE,
      c.eF w tyU8 HBD_STAT_NSYNC, c.eR w tyI32 HBD_RATE]
  else if o = 1 then [HBD_CFG, HBD_TIM0, HBD_TIM1, HBD_TIM2, HBD_TIM3, HBD_TIM4].map (c.eR w tyU32)
  else if o = 2 then (List.range 8).map fun i => c.eR w tyU32 (HBD_CH (i / 4) (i % 4))
  else if o = 3 then [c.eR w tyU32 HBD_MREQ, c.eR w tyU32 HBD_MSTAT, c.eF w tyU8 HBD_MODEOK_MODES]
  else if 0x10 ≤ o && o < 0x18 then [c.eField w tyOCTETS (HBD_MODE (o - 0x10)).addr 127 0]
  else if 0x200 ≤ o && o < 0x400 then
    let n := o - 0x200
    [eB tyOCTETS 254 [HBD_BSEL] ((List.range 254).map fun i => BitVec.ofNat 8 (c.hbdWinByte n i)) (.hbPayload n),
      eV tyU32 [HBD_BSTAT] (c.hbdBstat n)]
  else []

/-- CAN and LIN (R268). -/
def Chip.canObjs (c : Chip) (w : Who) (o : Nat) : List Elem :=
  if o < 12 then
    [(c.eR w tyU32 (CAN_STAT o)).ro, c.eR w tyU32 (CAN_CTL o), c.eF w tyU16 (CAN_CNT_NOMATCH o), c.eF w tyU16 (CAN_CNT_MERGED o),
      c.eR w tyU32 (CAN_GWCNT o)]
  else if 0x200 ≤ o && o < 0x800 then
    let i := o - 0x200
    let n := i / 128
    let x := c.canObj i
    [eB tyOCTETS 32 [CAN_ODESC n 0, CAN_ODESC n 1] (leBytesOf 16 x.w0.toNat ++ leBytesOf 16 x.w1.toNat) (.desc i),
      eV tyU32 [CAN_OSTAT n] x.ostat, eV tyU64 [CAN_OSTAMP n] x.stamp,
      eB tyOCTETS 2048 [CAN_OSEL n] ((List.range 2048).map fun j => BitVec.ofNat 8 (x.winByte j)) (.payload i)]
  else if 0x800 ≤ o && o < 0x808 then
    let n := o - 0x800
    [c.eR w tyU32 (LIN_CTL n), (c.eR w tyU32 (LIN_STAT n)).ro, c.eR w tyU32 (LIN_SCH n), c.eR w tyU32 (LIN_CNT n)]
  else if 0x900 ≤ o && o < 0xB00 then
    let n := (o - 0x900) / 64
    let b := o % 64
    [eB tyOCTETS 8 [LIN_BUF n b] (leBytesOf 8 (c.get (LIN_BUF_DATA n b))) (.linData n b), c.eF w tyU8 (LIN_BUF_STATUS n b)]
  else []

/-- Inputs, wake and sleep (R291). -/
def Chip.nmwObj (c : Chip) (w : Who) (o : Nat) : List Elem :=
  let bitOf (f : RFld) (i : Nat) : Elem := eV tyBOOL [f.reg] (b2n (bit (c.get f) i))
  if o = 0 then
    [(c.eR w tyU32 NMW_SLP_STAT).ro, c.eF w tyU8 NMW_SLP_STAT_STATE, c.eR w tyU32 NMW_SLP_CTL, c.eR w tyU32 NMW_SLP_TIM,
      c.eF w tyU16 NMW_KASTAT_LOGLOST]
  else if o = 1 then [c.eWords w [NMW_WAKESRC] false]
  else if 0x10 ≤ o && o < 0x40 then
    let n := o - 0x10
    [bitOf NMW_DINSTAT_ST n, bitOf NMW_DINFLT_FLT n, c.eR w tyU32 (NMW_DIN_CFG n)]
  else if 0x40 ≤ o && o < 0x48 then
    let n := o - 0x40
    [bitOf NMW_LSWSTAT_ST n, bitOf NMW_LSWSTAT_FLT n, c.eR w tyU32 (NMW_LSW_CFG n)]
  else if 0x50 ≤ o && o < 0x60 then [bitOf NMW_WAKESTAT_ST (o - 0x50), c.eR w tyU32 (NMW_WAKE_CFG (o - 0x50))]
  else if 0x60 ≤ o && o < 0x8A then
    let i := o - 0x60
    [bitOf NMW_SEGSTAT_AWAKE i, c.eField w tyBOOL NMW_SEGISO.addr i i, c.eField w tyBOOL NMW_SEGBWK.addr i i]
  else if 0x100 ≤ o && o < 0x154 then
    let i := o - 0x100
    [c.eF w tyU16 (AIN_RES_CODE i), c.eF w tyBOOL (AIN_RES_FAULT i), c.eF w tyU64 (AIN_RES_FRC i)]
  else if 0x200 ≤ o && o < 0x24A then [c.eR w tyU32 (NMW_SRC_CNT (o - 0x200))]
  else if 0x300 ≤ o && o < 0x340 then
    let i := o - 0x300
    let a := (NMW_KALOG i 0).addr
    [c.eField w tyU8 a 117 112, c.eField w tyU8 a 103 96, c.eField w tyU32 a 31 0, c.eR w tyTV (NMW_KALOG i 1),
      c.eR w tyTV (NMW_KALOG i 2)].map Elem.ro
  else []

/-- Supply (R313). -/
def Chip.pmuObj (c : Chip) (w : Who) (o : Nat) : List Elem :=
  let temp (f : RFld) : Elem := eV tyI16 [PMU_TEMP] (unsigned 16 (signed 10 (c.get f)))
  match o with
  | 0 => [(c.eR w tyU32 PMU_STAT).ro, c.eF w tyU16 PMU_VBAT_VBAT, c.eF w tyU16 PMU_VBAT_VMIN, c.eF w tyU8 PMU_STAT_LASTSLEEP]
  | 1 => [temp PMU_TEMP_ZONE, temp PMU_TEMP_SUPPLY, temp PMU_TEMP_BASE]
  | 2 => [c.eF w tyU32 PMU_PWR_ZONE, c.eF w tyU32 PMU_PWR_STAGE, c.eF w tyU32 PMU_PWR_SUPPLY, c.eF w tyU32 PMU_PWR_TOTAL]
  | 3 => [PMU_CTL, PMU_DEEP, PMU_THR, PMU_PWRLIM].map (c.eR w tyU32)
  | 4 => [PMU_CNT_UVZ, PMU_CNT_UVH, PMU_CNT_OV, PMU_CNT_RESFAIL].map (c.eF w tyU8)
  | 5 => [c.eF w tyU16 PMU_VBAK_VBAK, c.eF w tyBOOL PMU_VBAK_CHGEN]
  | 6 => [c.eF w tyBOOL PMU_IMG_VALID, c.eF w tyU16 PMU_IMG_GEN, c.eF w tyU16 PMU_IMG_BACKLOG]
  | _ => []

/-- Cores, pairs and event routing (R340). -/
def Chip.coreObj (c : Chip) (w : Who) (o : Nat) : List Elem :=
  let pairs (f : Nat → RFld) : Elem :=
    eV tyU8 ((List.range 4).map CMP_P_STAT) (gather ((List.range 4).map fun p => c.flag (f p)))
  if o = 0 then [pairs CMP_P_STAT_MODE, pairs CMP_P_STAT_BARRED, pairs CMP_P_STAT_TESTOK, pairs CMP_P_STAT_HELD]
  else if 0x10 ≤ o && o < 0x14 then
    let p := o - 0x10
    [c.eR w tyU32 (CMP_P_STAT p), c.eF w tyU16 (CMP_P_CNT_MM p), c.eF w tyU16 (CMP_P_CNT_INJOK p), c.eWords w [CMP_P_MM p] false]
  else if 0x20 ≤ o && o < 0x28 then
    let k := o - 0x20
    [c.eF w tyU16 (CMP_C_ECC_CORR k), c.eF w tyU16 (CMP_C_ECC_UNCORR k), c.eWords w [CMP_C_BERR k] false]
  else if 0x100 ≤ o && o < 0x500 then
    let n := o - 0x100
    [c.eR w tyU32 (EVR_RT n), c.eR w tyU32 (EVR_ST n), c.eF w tyU64 (EVR_STAMP_FRC n)]
  else []

/-- Service functions (R360), read only, and the bridge (R380). -/
def Chip.serviceObj (c : Chip) (w : Who) (o : Nat) : List Elem :=
  if o = 0 then
    c.eR w tyU32 SFE_STAT :: (List.range 6).map fun k => c.eField w tyU16 SFE_POOLFREE.addr (16 * k + 15) (16 * k)
  else if 0x10 ≤ o && o ≤ 0x50 then
    let f := o - 0x10
    let rng := (List.range 6).flatMap fun k => leBytesOf 4 (c.shown w (SFE_FN_RNG f k).addr)
    [(c.eR w tyU32 (SFE_FN_CFG f)).ro, c.eR w tyU32 (SFE_FN_HOLD f), c.eR w tyU32 (SFE_FN_CNT f),
      eB tyOCTETS 24 [SFE_FN_RNG f 0] rng, c.eR w tyU32 (SFE_FN_DSTAT f)]
  else if o = 0x800 then [(c.eR w tyU32 BRG_STAT).ro, c.eR w tyU32 BRG_CTL, c.eR w tyU32 BRG_LIM, c.eR w tyU32 BRG_CNT]
  else if 0x810 ≤ o && o < 0x830 then
    let n := o - 0x810
    [c.eR w tyU32 (BRG_OW_CTL n), c.eField w tyOCTETS (BRG_OW_LOC n).addr 127 0, c.eField w tyOCTETS (BRG_OW_FAR n).addr 127 0]
  else if 0x840 ≤ o && o < 0x850 then
    let n := o - 0x840
    [c.eR w tyU32 (BRG_IW_CTL n), c.eR w tyU64 (BRG_IW_FARB n), c.eR w tyU64 (BRG_IW_FARL n), c.eR w tyU64 (BRG_IW_LOCB n)]
  else if o = 0x860 then
    (List.range 32).map fun i =>
      let e := c.brg.elog.getD i (0, 0)
      eB tyOCTETS 32 [BRG_ELOG0] (leBytesOf 16 e.1.toNat ++ leBytesOf 16 e.2.toNat)
  else if 0x880 ≤ o && o < 0x890 then
    let n := o - 0x880
    [c.eR w tyU32 (BRG_POLL_CTL n), c.eR w tyU32 (BRG_POLL_MASK n), c.eR w tyU32 (BRG_POLL_LAST n), c.eF w tyU16 (BRG_POLL_ERR_N n),
      c.eR w tyU64 (BRG_POLL_ADDR n)]
  else []

/-- The banks in force: bit (TYPE − 2) × 8 + INSTANCE is 1 for bank B. -/
def Chip.bankBits (c : Chip) : Nat := gather ((List.range 49).map fun i => look 0 c.update.banks (i + 16) == 1)

/-- Keys (R438) and update (R529). -/
def Chip.keyObj (c : Chip) (w : Who) (o : Nat) : List Elem :=
  if o = 0 then
    [(c.eR w tyU32 KEY_STAT).ro, eV tyU8 [KEY_STAT] c.key.lcs, c.eF w tyU8 KEY_STAT_DBGOPEN,
      eV tyU16 [KEY_SLOT 0 0] ((c.key.slots.filter fun x => x.2.state != .free).length), eV tyU8 [KEY_SLOT 0 0] c.key.pubs.length]
  else if o = 1 then
    [c.eWords w [KEY_LCNONCE 0, KEY_LCNONCE 1] false, c.eWords w ((List.range 4).map KEY_AUTHHASH) true]
  else if 0x10 ≤ o && o < 0x18 then
    let m := o - 0x10
    [c.eWords w ((List.range 4).map (KEY_MEAS m)) false, (c.eField w tyU16 KEY_MCNT.addr (16 * m + 15) (16 * m))]
  else if 0x100 ≤ o && o < 0x500 then [c.eWords w [KEY_SLOT (o - 0x100) 0, KEY_SLOT (o - 0x100) 1] false]
  else if o = 0x800 then [{ ty := tyDOMAIN, size := 0, regs := [UPD_STAT.addr], val := 0, put := .manifest }]
  else if o = 0x801 then [{ ty := tyDOMAIN, size := 0, regs := [UPD_STAT.addr], val := 0, put := .segments }]
  else if o = 0x802 then
    [eB tyOCTETS 192 [UPD_PKG] (leBytesOf 192 c.update.bitmap), c.eF w tyU64 UPD_PKG_ID, c.eF w tyU32 UPD_PKG_VERSION,
      c.eF w tyU16 UPD_PKG_NSEG]
  else if o = 0x803 then [(c.eR w tyU32 UPD_STAT).ro, c.eF w tyU8 UPD_STAT_JSTATE, eV tyU64 [UPD_STAT] c.bankBits]
  else if o = 0x810 then [eB tyOCTETS 48 [UPD_STAT] [] .act]
  else if o = 0x820 then [c.eF w tyU8 UPD_VSTATE_CODE]
  else if 0x830 ≤ o && o < 0x838 then [c.eField w tyOCTETS (UPD_CHAIN (o - 0x830)).addr 127 0, c.eR w tyU32 (UPD_CHST (o - 0x830))]
  else []

/-- Reset and options (R473) and claims (R549), read only but for the reset request. -/
def Chip.resetObj (c : Chip) (w : Who) (o : Nat) : List Elem :=
  if o = 0 then
    [(c.eR w tyU32 RST_CAUSE).ro, c.eF w tyU8 RST_STAT_LASTREACH, c.eF w tyU8 RST_STAT_EPISODES, c.eR w tyU32 RST_BOOT,
      c.eF w tyU8 RST_OPT_PROFILE, c.eF w tyU8 RST_OPT_STRAP]
  else if o = 1 then [{ (eV tyU32 [RST_SWREQ] 0) with put := .swReq }]
  else if o = 2 then
    [c.eWords w ((List.range 4).map RST_PROFILE) false, c.eF w tyU8 RST_OPT_OPTSRC, c.eF w tyU8 RST_OPT_ATTEMPTS]
  else if o = 3 then [c.eF w tyU32 RST_VER_VERA, c.eF w tyU32 RST_VER_VERB, c.eF w tyU32 RST_VER_FLOOR]
  else if 0x10 ≤ o && o < 0x50 then [c.eWords w [RST_FW0 (o - 0x10), RST_FW1 (o - 0x10)] false]
  else if 0x50 ≤ o && o < 0x64 then [c.eField w tyU8 (RST_MW (o - 0x50)).addr 7 0]
  else if 0x70 ≤ o && o < 0x75 then [c.eR w tyU32 (RST_WDT_CFG (o - 0x70)), c.eF w tyU16 (RST_WDT_LEFT_MS (o - 0x70))]
  else if 0x100 ≤ o && o < 0x112 then
    let k := o - 0x100
    (List.range (claimEntries k)).map fun i => eV tyU8 [CLM_CLAIM k 0] (c.claimNibble k i)
  else if 0x120 ≤ o && o < 0x136 then
    (List.range 22).map fun j => c.eField w tyU16 (PIN_BALL (22 * (o - 0x120) + j)).addr 15 0
  else if o = 0x140 then [CLM_STAT, CLM_CNT, CLM_DRAINLIM, CLM_CWACT].map fun r => (c.eR w tyU32 r).ro
  else if o = 0x141 then [c.eWords w [CLM_CWREC] false, c.eWords w [CLM_ISO] false]
  else if o = 0x150 then (List.range 16).map fun i => eB tyOCTETS 16 [CLM_CONF] (leBytesOf 16 (c.clm.conflicts.getD i 0).toNat)
  else if 0x160 ≤ o && o < 0x1A0 then [c.eR w tyU32 (CLM_LOCK_OWN (o - 0x160)), (c.eR w tyU32 (CLM_LOCK_CFG (o - 0x160))).ro]
  else []

/-- The Hatbox mirror (R504); none on -N (R3). -/
def Chip.seamObj (c : Chip) (w : Who) (o : Nat) : List Elem :=
  if !c.variantH then []
  else match o with
    | 0 =>
      let id := (List.range 5).flatMap fun i => leBytesOf 16 (c.shown w (SEAM_SWID i).addr)
      [eV tyU32 [SEAM_SWID 0] (leNat (slice id 0 4)), eB tyOCTETS 64 [SEAM_SWID 0] (slice id 4 64), eV tyU8 [SEAM_SWID 4] (leNat (slice id 68 1))]
    | 1 => [c.eF w tyU16 SEAM_HSTAT_TAMPER, c.eF w tyU8 SEAM_HSTAT_LCS, c.eF w tyU8 SEAM_HSTAT_QUAL, c.eF w tyU64 SEAM_HSTAT_ODO]
    | 2 => [c.eR w tyTV TIME_T1M_UTC]
    | 3 =>
      [c.eR w tyU32 SEAM_CNT, c.eF w tyU16 SEAM_CNT_GAPS, c.eF w tyU8 SEAM_CNT_STRAY, c.eF w tyU64 SEAM_LASTSEQ_SEQ,
        c.eF w tyBOOL SEAM_STAT_LINK]
    | _ => []

/-- The state of a dictionary session: 1 open (R412 gives no code). -/
def Chip.sessionObj (c : Chip) (s : Nat) : List Elem :=
  let f (g : DdpSession → Nat) : Nat := match c.session s with | some x => g x | none => 0
  [eV tyU8 [] (f fun _ => 1), eV tyU32 [] (f (·.peer)), eV tyU8 [] (f (·.world)), eV tyU16 [] (f fun x => (x.expiry - c.frc) / 1000000000)]

/-- A transfer as its object shows it. -/
def Chip.xferObj (c : Chip) (x : Nat) : List Elem :=
  let f (g : DdpXfer → Nat) : Nat := match c.xfer x with | some t => g t | none => 0
  [eV tyU8 [] (f fun t => viaLink t.via), eV tyU32 [] (f fun t => t.head.src.toNat), eV tyU8 [] (f fun t => t.head.tid.toNat),
    eV tyU32 [] (f fun t => t.head.object.toNat), eV tyU16 [] (f (·.seg))]

/-- The dictionary engine (R412). -/
def Chip.ddpObj (c : Chip) (w : Who) (o : Nat) : List Elem :=
  if o = 0 then [(c.eR w tyU32 DDP_STAT).ro, c.eR w tyU32 DDP_CNT0, c.eR w tyU32 DDP_CNT1, c.eR w tyU32 DDP_CTL]
  else if o = 1 then [DDP_LIM, DDP_SLEASE, DDP_HB].map (c.eR w tyU32)
  else if o = 2 then
    [c.eField w tyOCTETS DDP_MAC.addr 47 0, c.eR w tyU32 DDP_IP4, c.eField w tyOCTETS DDP_IP6.addr 127 0]
  else if 0x10 ≤ o && o < 0x50 then [c.eField w tyOCTETS (DDP_RQ (o - 0x10)).addr 127 0]
  else if 0x80 ≤ o && o < 0x90 then [c.eField w tyOCTETS (DDP_CL (o - 0x80)).addr 127 0]
  else if 0xC0 ≤ o && o < 0x100 then c.sessionObj (o - 0xC0)
  else if 0x100 ≤ o && o < 0x110 then c.xferObj (o - 0x100)
  else []

/-- The elements of a hardware object, in order; none where there is no such object (R382, R408). -/
def Chip.elements (c : Chip) (w : Who) (o : Nat) : List Elem :=
  let r := o % 0x1000
  if 0x80000 ≤ o && o < 0xC0000 then c.imageObj ((o - 0x80000) / 0x20000) (o % 0x20000)
  else match o / 0x1000 with
    | 0 => c.identityObj r
    | 1 => c.timeObj w r
    | 2 => c.seqObj w r
    | 3 => c.lscObj w r
    | 4 => if r < 2 then c.leObj w 0 r else if 0x100 ≤ r && r < 0x102 then c.leObj w 1 (r - 0x100) else []
    | 5 => c.eswObj w r
    | 6 => c.hbdObj w r
    | 7 => c.canObjs w r
    | 8 => c.nmwObj w r
    | 9 => c.pmuObj w r
    | 0xA => c.coreObj w r
    | 0xB => c.serviceObj w r
    | 0xC => c.keyObj w r
    | 0xD => c.resetObj w r
    | 0xE => c.seamObj w r
    | 0xF => c.ddpObj w r
    | _ => []

/-! ### Rights (R385) -/

/-- The dictionary engine acting for a world: master 18. -/
def ddpWho (world : Nat) : Who := { mid := 18, vf := none, world := world, key := 18 * 128 }

/-- Who may read an object: everyone, some worlds, or the worlds that the firewall lets read the registers. -/
def objectReaders (o : Nat) : Option (List Nat) :=
  if o < 0x1000 || (0xE000 ≤ o && o < 0xF000) then some [0, 1, 2, 3, 4]
  else if (0xB000 ≤ o && o < 0xB800) || (0xF000 ≤ o && o < 0x10000) then some [1, 4]
  else if (0xD000 ≤ o && o < 0xE000) || (0xC800 ≤ o && o < 0xD000) then some [1, 2, 4]
  else none

/-- Whether the firewall permits master 18 with the tag of a world an access to the register at an address. -/
def Chip.ddpPermits (c : Chip) (world a : Nat) (k : AccessKind) : Bool := c.fwPermits { mid := 18, world := world, vf := none } a 4 k

/-- Whether a world may read an object. -/
def Chip.mayReadObj (c : Chip) (world o : Nat) : Bool :=
  match objectReaders o with
  | some l => l.contains world
  | none => ((c.elements (ddpWho world) o).flatMap (·.regs)).all fun a => c.ddpPermits world a .read

/-- The register that a write amounts to, for the firewall. -/
def putAddr (p : ElemPut) : Option Nat :=
  match p with
  | .field a _ _ => some a
  | .words l => l.head?
  | .swReq => some RST_SWREQ.addr
  | .entry _ => some SEQ_STAT.addr
  | .leMode e => some (LE_CTL e).addr
  | .change e _ _ => some (LE_CHG_DATA e).addr
  | .force e _ => some (LE_MDATA e).addr
  | .desc i => some (CAN_ODESC (i / 128) 0).addr
  | .payload i => some (CAN_OSEL (i / 128)).addr
  | .hbPayload _ => some HBD_BSEL.addr
  | .linData n b => some (LIN_BUF n b).addr
  | _ => none

/-- Whether the owner rules let a world write (R13, R385, and the chapters' tables). -/
def Chip.putOwner (c : Chip) (world : Nat) (p : ElemPut) : Bool :=
  let own (a : Nat) : Bool := match regAt a with
    | some f => c.mayWrite (ddpWho world) f 0
    | none => false
  match p with
  | .none => false
  | .field a _ _ => own a
  | .words _ => world == 1
  | .sni => world == 1
  | .name => world == 1
  | .swReq => true
  | .entry i => c.claims world 0 (i / 256)
  | .leMode e => world == c.leWorld e
  | .change e _ _ => world == c.leWorld e
  | .force e _ => c.forceWriter world e
  | .desc i => c.poolWorld 1 i == some world
  | .payload i => c.poolWorld 1 i == some world
  | .hbPayload n => world == 2 && c.poolWorld 2 n == some world
  | .linData n _ => c.claims world 8 n
  | .manifest => world == 1
  | .segments => world == 1
  | .act => world == 1

/-- Whether a world may write an element. -/
def Chip.mayPut (c : Chip) (world : Nat) (p : ElemPut) : Bool :=
  c.putOwner world p && (match putAddr p with
    | some a => c.ddpPermits world a .write
    | none => true)

/-- Whether a world may write an object: some element of it. -/
def Chip.mayWriteObj (c : Chip) (world o : Nat) : Bool := (c.elements (ddpWho world) o).any fun x => c.mayPut world x.put

/-- The life-cycle states, bit code − 1, in which an object is read. -/
def readStates (o : Nat) : Nat := if o < 0x1000 then 0b111111 else 0b001111

/-- The life-cycle states in which an object is written: the SNI and the package in PROVISIONED, FIELD and WORKSHOP. -/
def writeStates (o : Nat) : Nat := if o = 0 || o = 0xC800 || o = 0xC801 then 0b001110 else 0b001111

/-- Whether an object is persistent (R407). -/
def persistent (o : Nat) : Bool :=
  o == 0 || o == 5 || o == 0xF001 || o == 0xF002 || (decide (0xF010 ≤ o) && decide (o < 0xF050)) || (decide (0xF080 ≤ o) && decide (o < 0xF090))

/-! ### Writes -/

/-- Where the block of a register records the status of a refused write. -/
def statusField (f : Found) : Option RFld :=
  let n := f.n 0
  match f.block with
  | 0x3001 => some PMU_STAT_LASTERR
  | 0x3002 => some (if f.addr < (PB_POS 0).addr then TD_STAT_LASTERR n else PB_STAT_LASTERR n)
  | 0x3004 => some (if (LSC_CH_CFG 0).addr ≤ f.addr && f.addr < (LSC_BK_CFG 0).addr then LSC_CH_STAT_LASTERR n else LSC_STAT_LASTERR)
  | 0x3009 => some (ESW_P_STAT_LASTERR n)
  | 0x301D => some NMW_SLP_STAT_LASTERR
  | 0x3020 => some BRG_STAT_LASTERR
  | 0x3021 => some DDP_STAT_LASTERR
  | 0x3022 => some KEY_STAT_LASTERR
  | 0x3024 => some UPD_STAT_LASTERR
  | 0x3025 => some EVR_STAT_LASTERR
  | 0x3028 => some (LIN_STAT_LASTERR n)
  | b => if 0x3010 ≤ b && b < 0x301C then some (CAN_STAT_LASTERR n) else none

/-- The status of a write that a block refuses without recording one: the Hatband's configuration outside CONFIG, its modes and its
mode requests (R241, R243), and a base's configuration record while EN = 1 (R72). -/
def Chip.silentRefusal (c : Chip) (f : Found) (v : Nat) : Option Nat :=
  let n := f.n 0
  if [HBD_CFG, HBD_TIM0, HBD_TIM1, HBD_TIM2, HBD_TIM3, HBD_TIM4].any f.is && c.hbState != hsCONFIG then some stBUSY
  else if f.is (HBD_MODE 0) && c.modeBusy n then some stBUSY
  else if f.is (HBD_MODE 0) && !(decide ((HBD_MODE_NSLOT n).of v ≤ 256) && (!bit v 127 || ((HBD_MODE_NSLOT n).of v != 0 &&
      c.timingOk && c.cycleFits ((HBD_MODE_NSLOT n).of v) ((HBD_MODE_NMS n).of v)))) then some stRANGE
  else if [PB_CFG 0, PB_EST 0, PB_TOL 0, PB_HZN 0, PB_STALL 0].any f.is && c.flag (PB_CTL_EN n) then some stBUSY
  else none

/-- Write a register for the engine: the block's status, and the effect. The recorded status is the write's own. -/
def State.putReg (s : State) (w : Who) (f : Found) (v : Nat) : Nat × State :=
  let c := s.chip
  if reservedIn f.row.fields v then (stRANGE, s)
  else match c.silentRefusal f v with
    | some st => (st, (s.storeReg w f v))
    | none =>
      match statusField f with
      | none =>
        let t := s.storeReg w f v
        (if f.is HBD_MREQ && bit v 31 then t.chip.get HBD_MSTAT_STATUS else stOK, t)
      | some l =>
        let t := ({ s with chip := c.set l 0 } : State).storeReg w f v
        let st := t.chip.get l
        if st = 0 then (stOK, { t with chip := t.chip.set l (c.get l) }) else (st, t)

/-- Write the object descriptor of CAN object `i`, both words at once (R249, R251). -/
def Chip.putDesc (c : Chip) (i v : Nat) : Nat × Chip :=
  let lo := BitVec.ofNat 128 v
  let hi := BitVec.ofNat 128 (v >>> 128)
  let r := Chip.canDesc i 0 0 c
  if r.1 ≠ stOK then (r.1, c)
  else
    let r := Chip.canDesc i 0 lo (Chip.canDesc i 1 hi r.2).2
    if r.1 = stOK then r else (r.1, c)

/-- Write force entry `n` of engine `e`, both units (R169). -/
def Chip.putForce (c : Chip) (world e n v : Nat) : Nat × Chip :=
  let lo := BitVec.ofNat 128 v
  let r := c.leUnitWrite world e 11 (2 * n) lo
  if r.1 ≠ stOK then r else r.2.leUnitWrite world e 11 (2 * n + 1) (BitVec.ofNat 128 (v >>> 128))

/-- An activation message of 48 bytes arrives (R519–R524): its status. A message with reserved bytes or an unknown OP is out of range. -/
def Chip.actArrives (c : Chip) (src : Nat) (bs : List Byte) : Nat × Chip :=
  let n (i k : Nat) : Nat := leNat (slice bs i k)
  let m : ActMessage :=
    { member := ⟨n 1 1 % 16, Nat.mod_lt _ (by decide)⟩, status := BitVec.ofNat 8 (n 2 1), flags := BitVec.ofNat 8 (n 3 1)
      package := BitVec.ofNat 64 (n 4 8), t := BitVec.ofNat 128 (n 12 16), g := BitVec.ofNat 32 (n 28 4)
      staged := BitVec.ofNat 32 (n 32 4), active := BitVec.ofNat 32 (n 36 4) }
  let c' := c.actFresh
  if 16 ≤ n 1 1 || 4 ≤ n 3 1 || n 40 8 ≠ 0 then (stRANGE, c)
  else match n 0 1 with
    | 1 => (stOK, c'.prepare src m.member.val m)
    | 2 => (stOK, c'.groupAnswer m.member.val true m.staged.toNat)
    | 3 => (stOK, c'.groupAnswer m.member.val false m.staged.toNat)
    | 4 => c'.memberCancel m
    | 5 => (stOK, c'.cancelAck m.member.val m.status.toNat)
    | 6 => (stOK, c'.groupDone m.member.val m.active.toNat)
    | _ => (stRANGE, c)

/-- Write an element for a world: step 13 of R387. `src` is the requester's SNI, `v` the value as a number. -/
def State.putElem (s : State) (world src : Nat) (x : Elem) (v : Nat) : Nat × State :=
  let c := s.chip
  let w := ddpWho world
  let on (r : Nat × Chip) : Nat × State := (r.1, { s with chip := r.2 })
  match x.put with
  | .none => (stDENIED_WORLD, s)
  | .field a hi lo =>
    match regAt a with
    | none => (stNO_OBJECT, s)
    | some f =>
      if hi - lo + 1 < 8 * x.size && 2 ^ (hi - lo + 1) ≤ v then (stRANGE, s)
      else s.putReg w f (setBits (c.regValue w f) hi lo v).toNat
  | .words l =>
    (l.zipIdx).foldl (fun (r : Nat × State) y =>
      if r.1 ≠ stOK then r
      else match regAt y.1 with
        | none => r
        | some f => r.2.putReg w f (bits v (128 * y.2 + 127) (128 * y.2))) (stOK, s)
  | .sni =>
    if 2 ^ 18 ≤ v then (stRANGE, s) else on (stOK, (c.set DDP_SNI_SNI v).persist DDP_SNI.addr)
  | .name => on (stOK, (c.updDdp fun b => { b with name := v }).persist 1)
  | .swReq => s.swReq world v
  | .entry i =>
    let r := c.writeEntry world i (bits v 127 0) (bits v 255 128)
    on (r.1, r.2.2.2.when (r.1 != stOK) fun c => c.raise 71)
  | .leMode e =>
    if 2 < v then (stRANGE, s)
    else
      let c' := (c.set (LE_STAT_LASTERR e) 0).leCtlWrite w e v
      let st := c'.get (LE_STAT_LASTERR e)
      on (st, if st = 0 then c'.set (LE_STAT_LASTERR e) (c.get (LE_STAT_LASTERR e)) else c')
  | .change e area addr => on (c.leChange world e { area := area, addr := addr, mask := 0xFFFF, data := BitVec.ofNat 128 v })
  | .force e n => on (c.putForce world e n v)
  | .desc i => on (c.putDesc i v)
  | .payload i => on (stOK, c.updObj i fun o => { o with staging := intoCopy o.staging 0 (leBytesOf 2048 v) })
  | .hbPayload n =>
    on (stOK, c.updBuf n fun b => { b with staging := (leBytesOf 254 v).zipIdx.foldl (fun m y => put 0 m y.2 y.1) b.staging })
  | .linData n b => on (stOK, c.linBufWrite w n b v)
  | .manifest => (stTYPE_MISMATCH, s)
  | .segments => (stTYPE_MISMATCH, s)
  | .act => on (c.actArrives src (leBytesOf 48 v))

end Sys2Proof.Machine
end

