-- ==== Sys2Proof/Machine/Requests.lean ====
section
/-! DEFINITION. A request to the dictionary as every way in shares it: worlds (R401), the object checks of R387, descriptors (R384),
and firmware objects (R405). -/

namespace Sys2Proof.Machine

def cmREAD : Nat := 1
def cmWRITE : Nat := 2
def cmDESC : Nat := 3
def cmDWRITE : Nat := 4
def cmDREAD : Nat := 5
def cmDACK : Nat := 6
def cmDEND : Nat := 7
def cmABORT : Nat := 8
def cmOPEN : Nat := 9
def cmCLOSE : Nat := 10

/-! ### Worlds (R401) -/

/-- The first requester entry that matches a transport and an SNI. -/
def Chip.rqEntry (c : Chip) (v : DdpVia) (peer : Nat) : Option Nat :=
  (List.range 64).find? fun i =>
    let kind := c.get (DDP_RQ_KIND i)
    let viaOk := match v with
      | .udp _ => kind == 0 || kind == 1
      | .can l => kind == 0 || (kind == 2 && c.get (DDP_RQ_LINK i) == l.val)
      | .hat _ => kind == 0 || kind == 3
    c.flag (DDP_RQ_VALID i) && viaOk && (c.flag (DDP_RQ_ANYSNI i) || c.get (DDP_RQ_PEER i) == peer)

/-- The world of a request without a session. -/
def Chip.rqWorld (c : Chip) (v : DdpVia) (peer : Nat) : Option Nat :=
  match c.rqEntry v peer with
  | none => none
  | some i => if c.flag (DDP_RQ_AUTH i) || c.get (DDP_RQ_WDEF i) = 0 then none else some (c.get (DDP_RQ_WDEF i))

/-- Whether a command reads. -/
def cmdReads (cmd : Nat) : Bool := cmd == cmREAD || cmd == cmDESC || cmd == cmDREAD

/-- Step 4 of R387: whether a world, or none, may give a command for an object. -/
def Chip.worldMay (c : Chip) (world : Option Nat) (cmd o : Nat) : Bool :=
  if c.flag RST_CAUSE_OPTFAIL && world != some 4 then cmdReads cmd && decide (o < 0x1000)
  else match world with
    | some _ => true
    | none => cmd == cmOPEN || ((cmd == cmREAD || cmd == cmDESC) && (decide (o < 0x1000) || o == 0xE000))

/-! ### Descriptors (R384) -/

/-- The bounds an element states: of the SNI only. -/
def elemRange (o : Nat) : Option (Nat × Nat) := if o = 0 then some (0, 0x3FFFF) else none

/-- The default of an element: what a persistent object falls back to (R407). -/
def elemDefault (o : Nat) (x : Elem) : Option Nat :=
  if !persistent o then none
  else match x.put with
    | .field a hi lo => (regAt a).map fun f => bits f.reg.rst hi lo
    | _ => some 0

/-- The 16-byte record of an element. -/
def Chip.descRecord (c : Chip) (o : Nat) (x : Elem) : List Byte :=
  let flags := gather [persistent o, (elemDefault o x).isSome, (elemRange o).isSome, true, false, x.ty == tyDOMAIN]
  let worlds (p : Nat → Bool) : Nat := gather ((List.range 5).map p)
  let n := if x.ty = tyOCTETS || x.ty = tySTRING then x.size else 0
  leBytesOf 3 o ++ leBytesOf 1 ((c.elements (ddpWho 1) o).length - 1) ++ leBytesOf 1 x.ty ++ leBytesOf 1 flags ++ leBytesOf 2 n ++
    leBytesOf 1 (worlds fun w => c.mayReadObj w o) ++ leBytesOf 1 (worlds fun w => c.mayWriteObj w o) ++ leBytesOf 1 (readStates o) ++
    leBytesOf 1 (writeStates o) ++ [0, 0, 0, 0]

/-- What DESC answers at an element number: the record, or the default, minimum or maximum of element 0. -/
def Chip.descAnswer (c : Chip) (o e : Nat) (x : Elem) : Option (List Byte) :=
  match e with
  | 1 => (elemDefault o x).map (leBytesOf x.size)
  | 2 => (elemRange o).map fun r => leBytesOf x.size r.1
  | 3 => (elemRange o).map fun r => leBytesOf x.size r.2
  | _ => some (c.descRecord o x)

/-- The element that an element number of a command names. -/
def elemIndex (cmd e : Nat) : Option Nat :=
  if cmd ≠ cmDESC then some e else if e ≤ 3 then some 0 else if 0x80 ≤ e then some (e - 0x80) else none

/-! ### The checks of a hardware object (steps 5 to 10 of R387) -/

/-- Whether a requester with a world, or without, may read an object. -/
def Chip.requesterReads (c : Chip) (world : Option Nat) (o : Nat) : Bool :=
  match world with
  | some w => c.mayReadObj w o
  | none => decide (o < 0x1000) || o == 0xE000

/-- Steps 5 to 10: the status of the first check that fails, or the element. A local request reaches DOMAIN elements (R406). -/
def Chip.objectCheck (c : Chip) (world : Option Nat) (isLocal : Bool) (cmd o e ty : Nat) : Nat × Option Elem :=
  if 0xF0000 ≤ o && !c.lcWorkshop then (stDENIED_STATE, none)
  else
    let l := c.elements (ddpWho (world.getD 0)) o
    if l.isEmpty then (stNO_OBJECT, none)
    else match (elemIndex cmd e).bind fun i => l[i]? with
      | none => (stNO_ELEMENT, none)
      | some x =>
        let writes := cmd == cmWRITE || cmd == cmDWRITE
        if cmd = cmDESC && (c.descAnswer o e x).isNone then (stNO_ELEMENT, none)
        else if !(if writes then (match world with | some w => c.mayPut w x.put | none => false) else c.requesterReads world o) then
          (stDENIED_WORLD, none)
        else if !bit (if writes then writeStates o else readStates o) (c.key.lcs - 1) then (stDENIED_STATE, none)
        else if ty ≠ 0 && ty ≠ x.ty then (stTYPE_MISMATCH, none)
        else if (cmd = cmREAD || cmd = cmWRITE) && x.ty = tyDOMAIN && !isLocal then (stTYPE_MISMATCH, none)
        else (stOK, some x)

/-- Whether bytes are a value of an element (R383, R396). -/
def elemFits (x : Elem) (bs : List Byte) : Bool :=
  (if x.ty = tySTRING then decide (bs.length ≤ x.size) else bs.length == x.size) && typeAdmits x.ty (leNat bs)

/-- Whether a transfer holds an object (R399). -/
def Chip.objectHeld (c : Chip) (o : Nat) : Bool :=
  c.ddp.xfers.any fun e => match e.2 with
    | some t => t.head.object.toNat == o
    | none => false

/-- A context that is free. -/
def Chip.freeXfer (c : Chip) : Option Nat := (List.range 16).find? fun x => (c.xfer x).isNone

/-! ### STREAM objects (R399, R511) -/

/-- The segments of the package from segment `i`, each with its offset within the transfer and its end. -/
def segmentEnds (m : List Byte) (i : Nat) : List (Nat × Nat × Nat) :=
  ((List.range (mfSegs m - i)).foldl (fun (l : List (Nat × Nat × Nat) × Nat) k =>
    (l.1 ++ [(i + k, l.2, l.2 + segmentLength m (i + k))], l.2 + segmentLength m (i + k))) ([], 0)).1

/-- The status of a write transfer of segments as it opens: the offset names a first segment, and the length ends a segment. -/
def Chip.segmentsOpen (c : Chip) (off len : Nat) : Nat :=
  if off % 65536 ≠ 0 || !(segmentEnds c.update.manifest (off / 65536)).any fun x => x.2.2 == len then stRANGE
  else if !c.flag UPD_CTL_EN || c.jstate ≠ jSTAGING then stNOT_NOW
  else stOK

/-- The bytes of a STREAM object from an offset, as the block holds them. -/
def State.streamBytes (s : State) (o off : Nat) : List Byte :=
  if o = 0xC800 then s.chip.update.manifest.drop off
  else ((segmentEnds s.chip.update.manifest (off / 65536)).flatMap fun x => s.segmentRead x.1).drop (off % 65536)

/-- The segments that end within the bytes gathered so far, beyond the first `before`, go to the update agent. -/
def State.segmentsGathered (s : State) (off before : Nat) (data : List Byte) : State :=
  forEach ((segmentEnds s.chip.update.manifest (off / 65536)).filter fun x => decide (before < x.2.2) && decide (x.2.2 ≤ data.length))
    (fun x s => (s.segmentArrives x.1 ((data.drop x.2.1).take (x.2.2 - x.2.1))).2) s

/-- The result of a write transfer of segments: INTEGRITY where a segment of it is missing. -/
def Chip.segmentsResult (c : Chip) (off len : Nat) : Nat :=
  if !c.flag UPD_CTL_EN || !(c.jstate == jSTAGING || c.jstate == jSTAGED) then stNOT_NOW
  else if ((segmentEnds c.update.manifest (off / 65536)).filter fun x => decide (x.2.2 ≤ len)).all fun x => bit c.update.bitmap x.1 then stOK
  else stINTEGRITY

/-- Write a whole value for a world: the block's own rules, with the DOMAIN objects of the update agent. -/
def State.putWhole (s : State) (world src off : Nat) (x : Elem) (bs : List Byte) : Nat × State :=
  match x.put with
  | .manifest => let r := s.chip.manifestArrives bs; (r.1, { s with chip := r.2 })
  | .segments => (s.chip.segmentsResult off bs.length, s)
  | _ => s.putElem world src x (leNat bs)

/-! ### Firmware objects (R405) -/

/-- Whether an object is answered by firmware. -/
def firmwareObject (o : Nat) : Bool := decide (0x10000 ≤ o) && decide (o < 0x80000)

/-- The world that claims the block of a firmware object; W0 has no queue. -/
def Chip.firmwareWorld (c : Chip) (o : Nat) : Option Nat :=
  match c.claimant 17 (o / 0x10000 - 1) with
  | some w => if w = 0 then none else some w
  | none => none

/-- The size of a world's queue. -/
def Chip.fwqSize (c : Chip) (w : Nat) : Nat := 2 ^ c.get (DDP_FWQ_CFG_LOG2N (w - 1))

/-- Why a request cannot be posted to a world's queue. One place of the ring stays free. -/
def Chip.fwqRefuses (c : Chip) (w : Nat) : Option Nat :=
  if !c.flag (DDP_FWQ_CFG_EN (w - 1)) then some stNOT_NOW
  else
    let n := c.fwqSize w
    if (c.get (DDP_FWQ_PI_N (w - 1)) + 1) % n = c.get (DDP_FWQ_CI_N (w - 1)) % n then some stBUSY else none

/-- Master 18 with a world's tag. -/
def ddpTagOf (world : Nat) : Tag := { mid := 18, world := world, vf := none }

/-- Post a request to a world's queue: the record and its data are written, EV0710 + w − 1 is raised, and who waits is kept. Of a
record that cannot be written the spec states no status. -/
def State.fwPost (s : State) (w world : Nat) (p : DdpPacket) (data : List Byte) (waiter : DdpWaiter) : State :=
  let c := s.chip
  let q := w - 1
  let j := c.get (DDP_FWQ_PI_N q) % c.fwqSize w
  let head := packetHeader { p with auth := false, session := BitVec.ofNat 8 world }
  let r := s.busWrite (ddpTagOf w) (c.get (DDP_FWQ_BASE_RING q) + 64 * j) (head ++ leBytesOf 4 data.length ++ List.replicate 40 0)
  let r := r.2.busWrite (ddpTagOf w) (c.get (DDP_FWQ_BUF_BUF q) + 2048 * j) data
  let c := r.2.chip.set (DDP_FWQ_PI_N q) ((j + 1) % c.fwqSize w)
  let c := c.updDdp fun b => { b with fwReqs := b.fwReqs ++
    [{ world := w, index := j, deadline := c.frc + c.get DDP_LIM_FWTO * 1000000, waiter := waiter }] }
  { r.2 with chip := c.raise (709 + w) }

/-- What a record of a queue answers: its status and data. A record that cannot be read leaves them open. -/
def State.fwRecord (s : State) (w j : Nat) : (Nat × List Byte) × State :=
  let c := s.chip
  let q := w - 1
  match s.busRead (ddpTagOf w) (c.get (DDP_FWQ_BASE_RING q) + 64 * j) 64 with
  | (none, s) => (((Config.openValue s.chip.freeCtr).toNat % 256, []), { s with chip := s.chip.drawn })
  | (some rec, s) =>
    let n := min (leNat (slice rec 34 2)) 2048
    match s.busRead (ddpTagOf w) (c.get (DDP_FWQ_BUF_BUF q) + 2048 * j) n with
    | (none, s) => (((Config.openValue s.chip.freeCtr).toNat % 256, []), { s with chip := s.chip.drawn })
    | (some bs, s) => ((leNat (slice rec 32 1), bs), s)

end Sys2Proof.Machine
end

