-- ==== Sys2Proof/Machine/Ddp.lean ====
section
/-! DEFINITION. The dictionary protocol: R387–R405. -/

namespace Sys2Proof.Machine

/-! ### Responses -/

/-- Refuse a packet before it counts as a request of its session: the stored response stays (R403). -/
def Chip.ddpRefuse (c : Chip) (v : DdpVia) (p : DdpPacket) (ses : Option Nat) (st : Nat) : Chip :=
  let c := c.satInc DDP_CNT0_REFUSED
  let key := ses.bind fun n => (c.session n).map fun x => (n, x.rc)
  c.ddpSend v (c.sealed (c.answerTo p st p.type.toNat []) key [])

/-- A failed tag (R403): INTEGRITY and EV0705. -/
def Chip.ddpBadTag (c : Chip) (v : DdpVia) (p : DdpPacket) (ses : Option Nat) : Chip :=
  (((c.satInc DDP_CNT1_TAGFAIL).stick DDP_STAT_AUTHFAIL).raise 705).ddpRefuse v p ses stINTEGRITY

/-- Whether the transport of a packet is served (R393, R394, R410). -/
def Chip.viaServed (c : Chip) (v : DdpVia) : Bool :=
  c.ddp.loaded && c.flag DDP_CTL_EN && (match v with
    | .udp _ => c.flag DDP_CTL_UDPEN
    | .can l => c.flag DDP_CTL_CANEN && c.flag (DDP_CL_EN l.val)
    | .hat _ => c.flag DDP_CTL_HBEN)

/-- Whether a packet is addressed to this module (R388). -/
def Chip.addressed (c : Chip) (p : DdpPacket) : Bool :=
  let own := c.get DDP_SNI_SNI
  if own = 0 then p.dst == 0
  else p.dst.toNat == own ||
    (p.dst == 0 && (p.cmd.toNat == cmREAD || p.cmd.toNat == cmDESC) && decide (p.object.toNat < 0x1000))

/-- Whether two transports are the same link (R397). -/
def sameLink (a b : DdpVia) : Bool := viaLink a == viaLink b

/-- The session of a packet: open for its peer and link (R401). -/
def Chip.packetSession (c : Chip) (v : DdpVia) (p : DdpPacket) : Option Nat :=
  match c.session p.session.toNat with
  | some x => if sameLink x.via v && x.peer == p.src.toNat then some p.session.toNat else none
  | none => none

/-- The transfer of a packet: its link, peer and TID (R397). -/
def Chip.packetXfer (c : Chip) (v : DdpVia) (p : DdpPacket) : Option Nat :=
  (List.range 16).find? fun i => match c.xfer i with
    | some t => sameLink t.via v && t.head.src == p.src && t.head.tid == p.tid
    | none => false

/-- Renew a session's lease. -/
def Chip.renewSession (c : Chip) (s : Nat) : Chip :=
  c.updSession s fun x => { x with expiry := c.frc + c.get DDP_SLEASE_S * 1000000000 }

/-! ### Transfers (R397–R399) -/

/-- The CREDIT that transfers get. -/
def Chip.ddpCredit (c : Chip) : Nat := c.get DDP_LIM_CREDIT + 1

/-- The number of segments of a transfer. -/
def Chip.xferSegments (c : Chip) (t : DdpXfer) : Nat := (t.total + c.segmentSize t.via - 1) / c.segmentSize t.via

/-- A packet of a transfer has arrived or gone. -/
def Chip.xferSeen (c : Chip) (x : Nat) : Chip := c.updXfer x fun t => { t with lastAt := c.frc }

/-- The data of a read transfer between two offsets: of a STREAM object read live, otherwise of the snapshot. -/
def State.xferSlice (s : State) (t : DdpXfer) (a b : Nat) : List Byte :=
  let o := t.head.object.toNat
  if o = 0xC800 || o = 0xC801 then ((s.streamBytes o (leNat (t.head.data.take 4))).drop a).take (b - a)
  else (t.data.drop a).take (b - a)

/-- DEND from the engine, with the CRC-32 of all data and, in a session, the tag over them (R397, R403). -/
def Chip.sendDend (c : Chip) (x : Nat) (t : DdpXfer) (all : List Byte) : Chip :=
  let c := c.updXfer x fun t => { t with ended := true, lastAt := c.frc }
  c.ddpSend t.via (c.xferPacket t cmDEND 0 0 (leBytesOf 4 (crc32 all)) all)

/-- Send the segments that CREDIT lets pass, and DEND behind the last. -/
def sendSegments : Nat → Nat → State → State
  | 0, _, s => s
  | fuel + 1, x, s =>
    let c := s.chip
    match c.xfer x with
    | none => s
    | some t =>
      if t.write || t.ended then s
      else
        let n := c.xferSegments t
        if n ≤ t.seg then { s with chip := c.sendDend x t (s.xferSlice t 0 t.total) }
        else if t.acked + c.ddpCredit ≤ t.seg then s
        else
          let k := c.segmentSize t.via
          let c := c.ddpSend t.via (segmentBytes t.head.tid (t.seg + 1) (t.seg + 1 == n) (s.xferSlice t (k * t.seg) (min (k * (t.seg + 1)) t.total)))
          sendSegments fuel x { s with chip := c.updXfer x fun t => { t with seg := t.seg + 1, lastAt := c.frc } }

/-- Let a read transfer go on. -/
def State.xferGo (s : State) (x : Nat) : State := sendSegments (s.chip.ddpCredit + 1) x s

/-- A read transfer starts: OK with the length and CREDIT, then the first segments. -/
def State.readStarts (s : State) (x : Nat) : State :=
  match s.chip.xfer x with
  | none => s
  | some t =>
    let data := leBytesOf 4 t.total ++ leBytesOf 1 s.chip.ddpCredit
    ({ s with chip := s.chip.ddpAnswer t.via t.head t.session stOK t.head.type.toNat data } : State).xferGo x

/-- Open a transfer context. -/
def Chip.xferOpen (c : Chip) (x : Nat) (t : DdpXfer) : Chip :=
  let c := c.updDdp fun b => { b with xfers := put none b.xfers x (some t) }
  c.set DDP_STAT_XFERS c.ddp.xfers.length

/-- The answer to DEND of a write transfer: its status, and the release (R397). -/
def Chip.dendAnswer (c : Chip) (x : Nat) (t : DdpXfer) (p : DdpPacket) (st : Nat) : Chip :=
  (c.xferGone x).ddpAnswer t.via p t.session st p.type.toNat []

/-! ### Commands on objects (R384, R396, R397) -/

/-- The outcome of a request: it refuses or answers with a type and data, it waits for firmware, or it opens a transfer. -/
inductive DdpResult
  | answer (st ty : Nat) (data : List Byte)
  | posted
  | opened (x : Nat)
  deriving DecidableEq, Repr

/-- READ of an element. -/
def ddpRead (p : DdpPacket) (limit : Nat) (x : Elem) : DdpResult :=
  if p.data ≠ [] || limit < x.size then .answer stRANGE p.type.toNat [] else .answer stOK x.ty (leBytesOf x.size x.val)

/-- DESC of an element. -/
def Chip.ddpDesc (c : Chip) (p : DdpPacket) (limit : Nat) (x : Elem) : DdpResult :=
  match c.descAnswer p.object.toNat p.element.toNat x with
  | none => .answer stNO_ELEMENT p.type.toNat []
  | some bs => if p.data ≠ [] || limit < bs.length then .answer stRANGE p.type.toNat [] else .answer stOK x.ty bs

/-- WRITE of an element for a world. -/
def State.ddpWrite (s : State) (p : DdpPacket) (world limit : Nat) (x : Elem) : DdpResult × State :=
  if limit < p.data.length || !elemFits x p.data then (.answer stRANGE p.type.toNat [], s)
  else
    let r := s.putElem world p.src.toNat x (leNat p.data)
    (.answer r.1 p.type.toNat [], r.2)

/-- Offset and length of a DWRITE or DREAD. -/
def xferSpan (p : DdpPacket) : Nat × Nat := (leNat (slice p.data 0 4), leNat (slice p.data 4 4))

/-- DWRITE of a hardware element: the checks of steps 11 and 13. -/
def Chip.dwriteCheck (c : Chip) (v : DdpVia) (p : DdpPacket) (x : Elem) : Nat :=
  let a := xferSpan p
  if p.data.length ≠ 8 || 65535 * c.segmentSize v < a.2 then stRANGE
  else if x.put = .segments then c.segmentsOpen a.1 a.2
  else if a.1 ≠ 0 || (x.ty ≠ tyDOMAIN && a.2 ≠ x.size) then stRANGE
  else stOK

/-- A context for a transfer. -/
def Chip.newXfer (c : Chip) (v : DdpVia) (p : DdpPacket) (ses : Option (Nat × Nat)) (world : Nat) (write : Bool) (total : Nat)
    (data : List Byte) : DdpXfer :=
  { via := v, head := p, session := ses, world := world, write := write, total := total, data := data, lastAt := c.frc }

/-- DREAD of a hardware element: its length from the offset, or none where the request is out of range. -/
def State.dreadData (s : State) (p : DdpPacket) (x : Elem) : Option (Nat × List Byte) :=
  let a := xferSpan p
  if p.data.length ≠ 8 then none
  else if x.ty = tyDOMAIN then
    let all := s.streamBytes p.object.toNat a.1
    if all.length < a.2 || (p.object = 0xC801 && a.1 % 65536 ≠ 0) then none else some (if a.2 = 0 then all.length else a.2, [])
  else if a.1 ≠ 0 || x.size < a.2 then none
  else
    let n := if a.2 = 0 then x.size else a.2
    some (n, (leBytesOf x.size x.val).take n)

/-- A request for a hardware object: steps 5 to 13 of R387. -/
def State.hardwareRequest (s : State) (v : DdpVia) (p : DdpPacket) (ses : Option (Nat × Nat)) (world : Option Nat) : DdpResult × State :=
  let c := s.chip
  let o := p.object.toNat
  let cmd := p.cmd.toNat
  let limit := c.expedited v ses.isSome
  let no (st : Nat) : DdpResult × State := (.answer st p.type.toNat [], s)
  match c.objectCheck world false cmd o p.element.toNat p.type.toNat with
  | (st, none) => no st
  | (_, some x) =>
    let wd := world.getD 0
    if cmd = cmREAD then if c.objectHeld o && ddpRead p limit x ≠ .answer stRANGE p.type.toNat [] then no stBUSY else (ddpRead p limit x, s)
    else if cmd = cmDESC then (c.ddpDesc p limit x, s)
    else if cmd = cmWRITE then
      if limit < p.data.length || !elemFits x p.data then no stRANGE
      else if c.objectHeld o then no stBUSY
      else s.ddpWrite p wd limit x
    else if cmd = cmDWRITE then
      let st := c.dwriteCheck v p x
      if st = stRANGE then no st
      else if c.objectHeld o then no stBUSY
      else match c.freeXfer with
        | none => no stBUSY
        | some k => if st ≠ stOK then no st
          else (.opened k, { s with chip := c.xferOpen k (c.newXfer v p ses wd true (xferSpan p).2 []) })
    else match s.dreadData p x with
      | none => no stRANGE
      | some (n, bs) =>
        if 65535 * c.segmentSize v < n then no stRANGE
        else if c.objectHeld o then no stBUSY
        else match c.freeXfer with
          | none => no stBUSY
          | some k => (.opened k, { s with chip := c.xferOpen k (c.newXfer v p ses wd false n bs) })

/-- A request for a firmware object (R405): steps 6 and 12, then the queue; transfers of up to 2,048 bytes are staged. -/
def State.firmwareRequest (s : State) (v : DdpVia) (p : DdpPacket) (ses : Option (Nat × Nat)) (world : Nat) : DdpResult × State :=
  let c := s.chip
  let o := p.object.toNat
  let cmd := p.cmd.toNat
  let no (st : Nat) : DdpResult × State := (.answer st p.type.toNat [], s)
  match c.firmwareWorld o with
  | none => no stNO_OBJECT
  | some w =>
    let long := (cmd == cmDWRITE || cmd == cmDREAD) && (p.data.length != 8 || decide (2048 < (xferSpan p).2))
    if long then no stRANGE
    else if cmd ≠ cmDESC && c.objectHeld o then no stBUSY
    else match c.fwqRefuses w with
      | some st => no st
      | none =>
        if cmd = cmDWRITE || cmd = cmDREAD then
          match c.freeXfer with
          | none => no stBUSY
          | some k =>
            let s : State := { s with chip := c.xferOpen k (c.newXfer v p ses world (cmd == cmDWRITE) (xferSpan p).2 []) }
            if cmd = cmDWRITE then (.opened k, s) else (.posted, s.fwPost w world p p.data (.xfer k))
        else (.posted, s.fwPost w world p p.data (.remote v p ses))

/-- Run READ, WRITE, DESC, DWRITE or DREAD, and answer. -/
def State.objectRequest (s : State) (v : DdpVia) (p : DdpPacket) (ses : Option (Nat × Nat)) (world : Option Nat) : State :=
  let r := if firmwareObject p.object.toNat then
      (match world with
      | some w => s.firmwareRequest v p ses w
      | none => (.answer stDENIED_WORLD p.type.toNat [], s))
    else s.hardwareRequest v p ses world
  match r.1 with
  | .answer st ty data => { r.2 with chip := r.2.chip.ddpAnswer v p ses st ty data }
  | .posted => r.2
  | .opened k =>
    if p.cmd.toNat = cmDWRITE then
      { r.2 with chip := r.2.chip.ddpAnswer v p ses stOK p.type.toNat (leBytesOf 1 r.2.chip.ddpCredit) }
    else r.2.readStarts k

/-! ### Sessions (R402, R403) -/

/-- The context of a session key, 64 bytes. -/
def Chip.sessionContext (c : Chip) (client server : List Byte) (peer : Nat) : List Byte :=
  let bs := [0x44, 0x44, 0x50, 0x53] ++ client ++ server ++ leBytesOf 3 (c.get DDP_SNI_SNI) ++ leBytesOf 3 peer
  bs ++ List.replicate (64 - bs.length) 0

/-- A dictionary session of PF0 that is free. -/
def Chip.freeSession (c : Chip) : Option Nat :=
  (List.range 64).find? fun n => c.inRange 64 5 n && (c.session n).isNone && !c.flag (SES_RES_BUSY n)

/-- OPEN: a session is created with a derived key, or refused. -/
def Chip.openSession (c : Chip) (v : DdpVia) (p : DdpPacket) (ses : Option (Nat × Nat)) : Chip :=
  let no (st : Nat) (c : Chip) : Chip := c.ddpAnswer v p ses st p.type.toNat []
  let world := leNat (p.data.take 1)
  let peer := p.src.toNat
  let may := match c.rqEntry v peer with
    | some i => decide (1 ≤ world) && bit (c.get (DDP_RQ_WORLDS i)) world
    | none => false
  let slot := match c.rqEntry v peer with
    | some i => c.get (DDP_RQ_KSLOT i)
    | none => 0
  if !may then no stDENIED_WORLD c
  else if p.data.length ≠ 9 || 4 < world then no stRANGE c
  else match c.freeSession with
    | none => no stBUSY c
    | some n =>
      match c.keyCheck slot 18 world [1, 2] (some useDERIVE) none with
      | some (_, st) => no st c.keyRefused
      | none =>
        let nonce := c.randomBytes 8
        let k := kdf (c.slot slot).mat (List.replicate 32 0) (c.sessionContext (p.data.drop 1) nonce peer) 256
        let c := (c.keyUsed slot).drawn
        let c := c.updKey fun b => { b with bound := put none b.bound n (some (c.lineOf slot)) }
        let x : DdpSession :=
          { via := v, peer := peer, world := world, slot := slot, key := BitVec.ofNat 256 (beNat k)
            expiry := c.frc + c.get DDP_SLEASE_S * 1000000000 }
        let c := (c.updDdp fun b => { b with sessions := put none b.sessions n (some x) }).showSessions.raise 707
        c.ddpAnswer v p (some (n, 0)) stOK p.type.toNat (leBytesOf 1 n ++ nonce)

/-- CLOSE ends the session it belongs to. -/
def Chip.closeSession (c : Chip) (v : DdpVia) (p : DdpPacket) (ses : Option (Nat × Nat)) : Chip :=
  match ses with
  | none => c.ddpAnswer v p none stRANGE p.type.toNat []
  | some (n, _) =>
    if p.data ≠ [] then c.ddpAnswer v p ses stRANGE p.type.toNat []
    else ((c.ddpAnswer v p ses stOK p.type.toNat []).raise 707).sessionEnds n stTIMEOUT

/-- What step 3 of R387 makes of a packet: refused or answered already, or a request, with its session and counter. -/
inductive SessionCheck
  | done (c : Chip)
  | request (ses : Option (Nat × Nat)) (c : Chip)
  deriving DecidableEq, Repr

/-- Step 3: tag and sequence (R403); a session whose gate is closed refuses (R544). -/
def Chip.sessionCheck (c : Chip) (v : DdpVia) (p : DdpPacket) : SessionCheck :=
  match c.packetSession v p with
  | none => if p.auth then .done (c.ddpBadTag v p none) else .request none c
  | some n =>
    match c.session n with
    | none => .request none c
    | some x =>
      let good (rc : Nat) : Bool := p.auth && p.tag == ddpTag x.key rc false (packetBody p)
      if c.gateShut (.ses n) then .done (c.ddpRefuse v p (some n) stNOT_NOW)
      else if p.tid.toNat = (x.rc + 1) % 256 then
        if good (x.rc + 1) then .request (some (n, x.rc + 1)) ((c.updSession n fun x => { x with rc := x.rc + 1 }).renewSession n)
        else .done (c.ddpBadTag v p (some n))
      else if p.tid.toNat = x.rc % 256 then
        if good x.rc then .done ((c.renewSession n).ddpSend v x.last) else .done (c.ddpBadTag v p (some n))
      else .done ((c.raise 706).ddpRefuse v p (some n) stSEQUENCE)

/-- Whether the tag of a transfer's own packet is good: under the counter of the request that opened it, with the transfer's data
where the packet is the sender's DEND. A transfer without a session needs none. -/
def Chip.xferTagGood (c : Chip) (t : DdpXfer) (p : DdpPacket) (data : List Byte) : Bool :=
  match t.session with
  | none => !p.auth
  | some (n, rc) =>
    match c.session n with
    | none => false
    | some x => p.auth && !c.gateShut (.ses n) && p.tag == ddpTag x.key rc false (data ++ packetBody p)

/-- An accepted packet of a transfer: the transfer's time and its session's lease run anew. -/
def Chip.xferRenew (c : Chip) (x : Nat) (t : DdpXfer) : Chip :=
  let c := c.xferSeen x
  match t.session with
  | some (n, _) => c.renewSession n
  | none => c

/-! ### DACK, DEND, ABORT and segments (R397, R398) -/

/-- DACK: the sender goes on, or resumes behind the acknowledged segment. -/
def State.dack (s : State) (x : Nat) (t : DdpXfer) (p : DdpPacket) : State :=
  let c := s.chip
  let n := p.segno.toNat
  if !c.xferTagGood t p [] then { s with chip := c.ddpBadTag t.via p none }
  else if t.write || t.seg < n || n < t.acked then s
  else
    let c := c.xferRenew x t
    let back := p.status.toNat = stSEQUENCE
    let c := c.updXfer x fun t => { t with acked := n, seg := if back then n else t.seg, ended := t.ended && !back }
    ({ s with chip := c } : State).xferGo x

/-- DEND of the requester for a write: CRC and tag are checked, then the value is applied, or posted to firmware. -/
def State.dendWrite (s : State) (x : Nat) (t : DdpXfer) (p : DdpPacket) : State :=
  let c := s.chip
  if !c.xferTagGood t p t.data then
    { s with chip := ((((c.satInc DDP_CNT1_TAGFAIL).stick DDP_STAT_AUTHFAIL).raise 705).dendAnswer x t p stINTEGRITY) }
  else if p.data.length ≠ 4 then { s with chip := (c.xferRenew x t).dendAnswer x t p stRANGE }
  else if t.data.length ≠ t.total || leNat p.data ≠ crc32 t.data then { s with chip := (c.xferRenew x t).dendAnswer x t p stINTEGRITY }
  else
    let s : State := { s with chip := c.xferRenew x t }
    let o := t.head.object.toNat
    if firmwareObject o then
      match c.firmwareWorld o with
      | none => { s with chip := s.chip.dendAnswer x t p stNO_OBJECT }
      | some w =>
        match s.chip.fwqRefuses w with
        | some st => { s with chip := s.chip.dendAnswer x t p st }
        | none => s.fwPost w t.world t.head t.data (.xfer x)
    else
      match (c.elements (ddpWho t.world) o)[t.head.element.toNat]? with
      | none => { s with chip := s.chip.dendAnswer x t p stNO_ELEMENT }
      | some e =>
        if e.ty ≠ tyDOMAIN && !typeAdmits e.ty (leNat t.data) then { s with chip := s.chip.dendAnswer x t p stRANGE }
        else
          let r := s.putWhole t.world t.head.src.toNat (xferSpan t.head).1 e t.data
          { r.2 with chip := r.2.chip.dendAnswer x t p r.1 }

/-- The requester's response to the engine's DEND releases a read transfer. -/
def Chip.dendResponse (c : Chip) (x : Nat) (t : DdpXfer) (p : DdpPacket) : Chip :=
  if !t.ended then c
  else if !c.xferTagGood t p [] then ((c.satInc DDP_CNT1_TAGFAIL).stick DDP_STAT_AUTHFAIL).raise 705
  else (c.xferRenew x t).xferGone x

/-- A received ABORT ends a transfer at once. -/
def Chip.abortReceived (c : Chip) (x : Nat) (t : DdpXfer) (p : DdpPacket) : Chip :=
  if !c.xferTagGood t p [] then c.ddpBadTag t.via p none
  else (((c.xferRenew x t).xferGone x).satInc DDP_CNT1_ABORTS).raise 709

/-- A packet of a transfer by its own link, peer and TID; false where there is none. -/
def State.xferPacketIn (s : State) (v : DdpVia) (p : DdpPacket) : Option State :=
  match s.chip.packetXfer v p with
  | none => none
  | some x =>
    match s.chip.xfer x with
    | none => none
    | some t =>
      if p.cmd.toNat = cmDACK then some (if p.resp then s else s.dack x t p)
      else if p.cmd.toNat = cmABORT then some (if p.resp then s else { s with chip := s.chip.abortReceived x t p })
      else if p.resp then some (if t.write then s else { s with chip := s.chip.dendResponse x t p })
      else if t.write then some (s.dendWrite x t p)
      else none

/-- A malformed packet (step 1 of R387). -/
def Chip.ddpMalformed (c : Chip) : Chip := (c.satInc DDP_CNT1_MALFORMED).raise 716

/-- Whether a segment answers to a transfer: its link, the UDP address and port it came from, its TID. -/
def segmentOf (v : DdpVia) (tid : Byte) (t : DdpXfer) : Bool :=
  t.write && t.head.tid == tid && (match v, t.via with
    | .udp a, .udp b => a.ip6 == b.ip6 && a.addr == b.addr && a.port == b.port
    | a, b => sameLink a b)

/-- DACK from the engine. -/
def Chip.sendDack (c : Chip) (x : Nat) (st : Nat) : Chip :=
  match c.xfer x with
  | none => c
  | some t => (c.ddpSend t.via (c.xferPacket t cmDACK st t.seg [] [])).updXfer x fun t => { t with acked := t.seg }

/-- A continuation segment arrives (R390, R398). Of a frame longer than the segment, the rest is padding. -/
def State.segmentIn (s : State) (v : DdpVia) (tid : Byte) (n : Nat) (last : Bool) (data : List Byte) : State :=
  let c := s.chip
  match (List.range 16).find? fun i => match c.xfer i with | some t => segmentOf v tid t | none => false with
  | none => s
  | some x =>
    match c.xfer x with
    | none => s
    | some t =>
      let k := c.segmentSize t.via
      let need := min k (t.total - k * (n - 1))
      if n = 0 || c.xferSegments t < n || (n == c.xferSegments t) != last || data.length < need then { s with chip := c.ddpMalformed }
      else
        let c := c.xferSeen x
        if n ≤ t.seg then { s with chip := c }
        else if t.seg + 1 < n then { s with chip := c.sendDack x stSEQUENCE }
        else
          let all := t.data ++ data.take need
          let c := c.updXfer x fun t => { t with seg := n, data := all }
          let c := c.when (last || decide (t.acked + c.ddpCredit ≤ n)) fun c => c.sendDack x 0
          let s : State := { s with chip := c }
          if t.head.object = 0xC801 then s.segmentsGathered (xferSpan t.head).1 t.data.length all else s

/-! ### Packets (R387) -/

/-- A full packet of a served transport: steps 2 to 13. -/
def State.packetIn (s : State) (v : DdpVia) (p : DdpPacket) : State :=
  let cmd := p.cmd.toNat
  if !s.chip.viaServed v || !s.chip.addressed p then s
  else if cmd = cmDACK || cmd = cmABORT then (s.xferPacketIn v p).getD s
  else if p.resp then if cmd = cmDEND then (s.xferPacketIn v p).getD s else s
  else match (if cmd = cmDEND then s.xferPacketIn v p else none) with
    | some s => s
    | none =>
      match s.chip.sessionCheck v p with
      | .done c => { s with chip := c }
      | .request ses c =>
        let s : State := { s with chip := c }
        let world := match ses with
          | some (n, _) => (c.session n).map (·.world)
          | none => c.rqWorld v p.src.toNat
        if !c.worldMay world cmd p.object.toNat then { s with chip := c.ddpAnswer v p ses stDENIED_WORLD p.type.toNat [] }
        else if cmd = cmOPEN then { s with chip := c.openSession v p ses }
        else if cmd = cmCLOSE then { s with chip := c.closeSession v p ses }
        else if cmd = cmDEND then { s with chip := c.ddpAnswer v p ses stSEQUENCE p.type.toNat [] }
        else s.objectRequest v p ses world

/-- The full packet that bytes hold, where they are well formed (step 1, R389). -/
def parsePacket (bs : List Byte) : Option DdpPacket :=
  let n (i k : Nat) : Nat := leNat (slice bs i k)
  let cmd := n 1 1
  let auth := bit (n 0 1) 1
  let resp := bit (n 0 1) 0
  let len := n 18 2
  let free := resp || cmd == cmDACK || cmd == cmABORT
  if bs.length < 20 || n 0 1 / 4 ≠ 4 || cmd = 0 || cmCLOSE < cmd || 2 ^ 18 ≤ n 2 3 || 2 ^ 18 ≤ n 5 3 || 2 ^ 20 ≤ n 10 3 ||
      (!free && n 14 1 ≠ 0) || (cmd ≠ cmDACK && n 16 2 ≠ 0) || bs.length < 20 + len + (if auth then 8 else 0) then none
  else some
    { auth := auth, resp := resp, cmd := BitVec.ofNat 8 cmd, dst := BitVec.ofNat 18 (n 2 3), src := BitVec.ofNat 18 (n 5 3)
      session := BitVec.ofNat 8 (n 8 1), tid := BitVec.ofNat 8 (n 9 1), object := BitVec.ofNat 20 (n 10 3), element := BitVec.ofNat 8 (n 13 1)
      status := BitVec.ofNat 8 (n 14 1), type := BitVec.ofNat 8 (n 15 1), segno := BitVec.ofNat 16 (n 16 2), data := slice bs 20 len
      tag := if auth then slice bs (20 + len) 8 else [] }

/-- The bytes of a DDP packet arrive over a transport. -/
def State.packetBytes (s : State) (v : DdpVia) (bs : List Byte) : State :=
  let b := leNat (bs.take 1)
  if !s.chip.viaServed v then s
  else if b / 64 = 2 then
    if bs.length < 4 || bit b 5 || b % 16 ≠ 0 then { s with chip := s.chip.ddpMalformed }
    else s.segmentIn v (BitVec.ofNat 8 (leNat (slice bs 1 1))) (leNat (slice bs 2 2)) (bit b 4) (bs.drop 4)
  else match parsePacket bs with
    | none => { s with chip := s.chip.ddpMalformed }
    | some p => s.packetIn v p

/-! ### Ethernet (R392) -/

/-- A UDP datagram to port 50,210 of this module in an Ethernet frame without FCS: where it comes from, and its data. Fragments,
IPv4 packets with options and datagrams whose checksum fails are discarded. -/
def Chip.udpArrives (c : Chip) (bs : List Byte) : Option (UdpEnd × List Byte) :=
  let f (b : List Byte) (i n : Nat) : Nat := beNat (slice b i n)
  let tagged := f bs 12 2 == 0x8100
  let t := if tagged then 16 else 12
  let ip := bs.drop (t + 2)
  let ip6 := f bs t 2 == 0x86DD
  let own := if ip6 then c.rdN DDP_IP6 else c.rdN DDP_IP4
  let headOk := if ip6 then f ip 0 1 / 16 == 6 && f ip 6 1 == 17 && decide (40 + f ip 4 2 ≤ ip.length)
    else f bs t 2 == 0x0800 && f ip 0 1 == 0x45 && f ip 6 2 % 0x4000 == 0 && f ip 9 1 == 17 && inetSum (ip.take 20) == 0 &&
      decide (20 ≤ f ip 2 2) && decide (f ip 2 2 ≤ ip.length)
  let src := if ip6 then slice ip 8 16 else slice ip 12 4
  let dst := if ip6 then slice ip 24 16 else slice ip 16 4
  let udp := if ip6 then slice ip 40 (f ip 4 2) else slice ip 20 (f ip 2 2 - 20)
  let n := f udp 4 2
  let pseudo := src ++ dst ++ (if ip6 then beBytesOf 4 n ++ [0, 0, 0, 17] else [0, 17] ++ beBytesOf 2 n)
  let sumOk := (!ip6 && f udp 6 2 == 0) || inetSum (pseudo ++ udp.take n) == 0
  if headOk && own != 0 && beNat dst == own && decide (8 ≤ n) && decide (n ≤ udp.length) && f udp 2 2 == 50210 && sumOk then
    some ({ ip6 := ip6, mac := BitVec.ofNat 48 (f bs 6 6), addr := BitVec.ofNat 128 (beNat src), port := BitVec.ofNat 16 (f udp 0 2)
            tag := if tagged then some (BitVec.ofNat 16 (f bs 14 2)) else none }, slice udp 8 (n - 8))
  else none

/-- A packet as its transport brings it. On CAN XL a continuation has its header in the AF field, and a full packet has AF = 0. -/
def State.ddpArrival (s : State) (x : DdpArrival) : State :=
  match x with
  | .frame bs =>
    match s.chip.udpArrives bs with
    | some (e, data) => s.packetBytes (.udp e) data
    | none => s
  | .can l af bs =>
    if !s.chip.viaXl (.can l) then s.packetBytes (.can l) bs
    else if bits af.toNat 7 6 = 2 then s.packetBytes (.can l) (leBytesOf 4 af.toNat ++ bs)
    else if af ≠ 0 then if s.chip.viaServed (.can l) then { s with chip := s.chip.ddpMalformed } else s
    else s.packetBytes (.can l) bs
  | .hat ch bs => s.packetBytes (.hat ch) bs

/-- An arriving packet is checked and its command runs. -/
def execDdpPacket (x : DdpArrival) (s : State) : Host.Outcome State Fault Refusal := s.onZoneMem fun s => s.ddpArrival x

/-- A request with a given command. -/
def asRequest (p : DdpPacket) (cmd : Nat) : DdpPacket := { p with cmd := BitVec.ofNat 8 cmd, resp := false }

def execDdpRead (v : DdpVia) (p : DdpPacket) (s : State) : Host.Outcome State Fault Refusal :=
  s.onZoneMem fun s => s.packetIn v (asRequest p cmREAD)

def execDdpWrite (v : DdpVia) (p : DdpPacket) (s : State) : Host.Outcome State Fault Refusal :=
  s.onZoneMem fun s => s.packetIn v (asRequest p cmWRITE)

def execDdpDesc (v : DdpVia) (p : DdpPacket) (s : State) : Host.Outcome State Fault Refusal :=
  s.onZoneMem fun s => s.packetIn v (asRequest p cmDESC)

def execDdpDwrite (v : DdpVia) (p : DdpPacket) (s : State) : Host.Outcome State Fault Refusal :=
  s.onZoneMem fun s => s.packetIn v (asRequest p cmDWRITE)

def execDdpDread (v : DdpVia) (p : DdpPacket) (s : State) : Host.Outcome State Fault Refusal :=
  s.onZoneMem fun s => s.packetIn v (asRequest p cmDREAD)

/-- An uncorrectable error in the engine's memory as a segment arrives: its transfer is aborted with INTEGRITY (R411). -/
def Chip.segmentEcc (c : Chip) (v : DdpVia) (tid : Byte) : Chip :=
  match (List.range 16).find? fun i => match c.xfer i with | some t => segmentOf v tid t | none => false with
  | none => c
  | some x => (c.xferAbort x stINTEGRITY).raise 718

def execDdpSegment (v : DdpVia) (tid : Byte) (segno : BitVec 16) (last : Bool) (data : List Byte) (ecc : Bool) (s : State) :
    Host.Outcome State Fault Refusal :=
  s.onZoneMem fun s =>
    if !s.chip.viaServed v then s
    else if ecc then { s with chip := s.chip.segmentEcc v tid }
    else s.segmentIn v tid segno.toNat last data

def execDdpDack (v : DdpVia) (p : DdpPacket) (s : State) : Host.Outcome State Fault Refusal :=
  s.onZoneMem fun s => s.packetIn v (asRequest p cmDACK)

/-- DEND, as a request or as the response to the engine's own. -/
def execDdpDend (v : DdpVia) (p : DdpPacket) (s : State) : Host.Outcome State Fault Refusal :=
  s.onZoneMem fun s => s.packetIn v { p with cmd := BitVec.ofNat 8 cmDEND }

def execDdpAbort (v : DdpVia) (p : DdpPacket) (s : State) : Host.Outcome State Fault Refusal :=
  s.onZoneMem fun s => s.packetIn v (asRequest p cmABORT)

def execDdpOpen (v : DdpVia) (p : DdpPacket) (s : State) : Host.Outcome State Fault Refusal :=
  s.onZoneMem fun s => s.packetIn v (asRequest p cmOPEN)

def execDdpClose (v : DdpVia) (p : DdpPacket) (s : State) : Host.Outcome State Fault Refusal :=
  s.onZoneMem fun s => s.packetIn v (asRequest p cmCLOSE)

/-! ### Limits of time -/

/-- A transfer has seen no packet for STO ms. -/
def Chip.xferTimeout (c : Chip) (x : Nat) : Chip :=
  match c.xfer x with
  | none => c
  | some t => c.when (c.due (t.lastAt + c.get DDP_LIM_STO * 1000000)) fun c => c.xferAbort x stTIMEOUT

def execDdpTransferTimeout (x : Fin 16) (s : State) : Host.Outcome State Fault Refusal := s.onZone fun c => c.xferTimeout x.val

/-- A session's lease expires, unless its revocation already takes it. -/
def Chip.sessionExpiry (c : Chip) (s : Nat) : Chip :=
  match c.session s with
  | none => c
  | some x => c.when (c.due x.expiry && !c.revoking { kind := 3, index := s }) fun c => c.sessionEnds s stTIMEOUT

def execDdpSessionExpiry (n : Fin 64) (s : State) : Host.Outcome State Fault Refusal := s.onZone fun c => c.sessionExpiry n.val

/-! ### Firmware answers (R405) -/

/-- A local session's request ends with a status and data, which go to its buffer with the session's tag (R406). Of a buffer that
cannot be written the spec states no status. -/
def State.localDone (s : State) (n : Nat) (t : Nat × Nat × Option Nat) (st : Nat) (data : List Byte) : State :=
  let c := s.chip
  let room := c.get (SES_BUF_LEN n)
  let st := if st = stOK && room < data.length then stRANGE else st
  let r := if st = stOK then s.busWrite { mid := 18, world := t.2.1, vf := t.2.2 } (c.get (SES_BUF_ADDR n)) data else (true, s)
  let st := if r.1 then st else (Config.openValue r.2.chip.freeCtr).toNat % 256
  let c := if r.1 then r.2.chip else r.2.chip.drawn
  let c := c.set (SES_BUF_RESLEN n) (if st = stOK then data.length else 0)
  { r.2 with chip := c.wrN (SES_RES n) (st <<< 16) }

/-- The answer of firmware, or of its time limit, reaches whoever waits. -/
def State.fwDeliver (s : State) (x : DdpWaiter) (st : Nat) (data : List Byte) : State :=
  let c := s.chip
  match x with
  | .remote v p ses =>
    if c.expedited v ses.isSome < data.length then { s with chip := c.ddpAnswer v p ses stRANGE p.type.toNat [] }
    else { s with chip := c.ddpAnswer v p ses st p.type.toNat (if st = stOK then data else []) }
  | .loc n t => s.localDone n t st data
  | .xfer k =>
    match c.xfer k with
    | none => s
    | some t =>
      if t.write then { s with chip := c.dendAnswer k t { t.head with cmd := BitVec.ofNat 8 cmDEND } st }
      else if st ≠ stOK then { s with chip := (c.xferGone k).ddpAnswer t.via t.head t.session st t.head.type.toNat [] }
      else
        let n := if t.total = 0 then data.length else min t.total data.length
        ({ s with chip := (c.updXfer k fun t => { t with total := n, data := data.take n }).xferSeen k } : State).readStarts k

/-- A write of DDP_FWQw_CI = `k` answers every record before `k`, oldest first. -/
def State.fwqAnswer (s : State) (w : Who) (q k : Nat) : State :=
  let c := s.chip
  if w.world ≠ q + 1 then s
  else
    let n := c.fwqSize w.world
    let from_ := c.get (DDP_FWQ_CI_N q) % n
    let held := (c.get (DDP_FWQ_PI_N q) + n - from_) % n
    let take := min ((k % n + n - from_) % n) held
    let s : State := { s with chip := c.set (DDP_FWQ_CI_N q) ((from_ + take) % n) }
    forEach ((List.range take).map fun i => (from_ + i) % n) (fun j s =>
      match s.chip.ddp.fwReqs.find? fun r => r.world == w.world && r.index == j with
      | none => s
      | some r =>
        let y := s.fwRecord w.world j
        let s : State := { y.2 with chip := y.2.chip.updDdp fun b => { b with fwReqs := b.fwReqs.erase r } }
        s.fwDeliver r.waiter y.1.1 y.1.2) s

def execDdpFwqAnswer (a : Agent) (w : Fin 4) (v : W32) (s : State) : Host.Outcome State Fault Refusal :=
  s.byMem a fun who s => s.fwqAnswer who w.val v.toNat

/-- Requests of a world that firmware has not answered in FWTO ms. -/
def State.fwTimeout (s : State) (w : Nat) : State :=
  forEach (s.chip.ddp.fwReqs.filter fun r => r.world == w && s.chip.due r.deadline) (fun r s =>
    let c := s.chip.updDdp fun b => { b with fwReqs := b.fwReqs.erase r }
    let c := (c.satInc (DDP_FWQ_CNT_TIMEOUTS (w - 1))).raise 714
    ({ s with chip := c } : State).fwDeliver r.waiter stTIMEOUT []) s

def execDdpFwTimeout (w : Fin 4) (s : State) : Host.Outcome State Fault Refusal := s.onZoneMem fun s => s.fwTimeout (w.val + 1)

/-! ### Local sessions (R406) -/

/-- The header of a local request: DST, SRC, SESSION and TID are not part of it. -/
def Chip.localHeader (c : Chip) (n : Nat) : Option DdpPacket :=
  let h := leBytesOf 16 (c.rdN (SES_HDR n)) ++ leBytesOf 4 (c.rdN (SES_HDR2 n))
  let clear := h.take 2 ++ List.replicate 8 0 ++ h.drop 10
  let p := parsePacket ((clear.take 18) ++ [0, 0])
  match p with
  | some p => if p.auth || p.resp || !(p.cmd.toNat == cmREAD || p.cmd.toNat == cmWRITE || p.cmd.toNat == cmDESC) then none else some p
  | none => none

/-- The length of a local request's data: LEN of the header; a DOMAIN takes the whole buffer. -/
def Chip.localLength (c : Chip) (n : Nat) (p : DdpPacket) : Nat :=
  let len := bits (c.rdN (SES_HDR2 n)) 31 16
  if p.cmd.toNat ≠ cmWRITE then len
  else if p.object.toNat = 0xC800 || p.object.toNat = 0xC801 then c.get (SES_BUF_LEN n) else len

/-- A local request on a hardware object. -/
def State.localHardware (s : State) (p : DdpPacket) (world room : Nat) : Nat × List Byte × State :=
  let c := s.chip
  let o := p.object.toNat
  let cmd := p.cmd.toNat
  match c.objectCheck (some world) true cmd o p.element.toNat p.type.toNat with
  | (st, none) => (st, [], s)
  | (_, some x) =>
    if cmd = cmDESC then
      match c.ddpDesc p room x with
      | .answer st _ bs => (st, bs, s)
      | _ => (stRANGE, [], s)
    else if cmd = cmREAD then
      let bs := if x.ty = tyDOMAIN then s.streamBytes o 0 else leBytesOf x.size x.val
      if p.data ≠ [] || room < bs.length then (stRANGE, [], s)
      else if c.objectHeld o then (stBUSY, [], s)
      else (stOK, bs, s)
    else if x.ty ≠ tyDOMAIN && !elemFits x p.data then (stRANGE, [], s)
    else if x.put = .segments && c.segmentsOpen 0 p.data.length = stRANGE then (stRANGE, [], s)
    else if c.objectHeld o then (stBUSY, [], s)
    else
      let s := if x.put = .segments then s.segmentsGathered 0 0 p.data else s
      let r := s.putWhole world 0 0 x p.data
      (r.1, [], r.2)

/-- SES_GO: a local request runs; a firmware object is posted to its queue and leaves the session BUSY. -/
def State.sesGo (s : State) (w : Who) (n : Nat) : State :=
  let c := s.chip
  let t := (w.mid, w.world, w.vf)
  let active := match w.vf with
    | some f => c.fnState f == 2
    | none => true
  if c.poolWorld 5 n ≠ some w.world || (c.session n).isSome || c.flag (SES_RES_BUSY n) then s
  else if !active then s.localDone n t stBUSY []
  else if !c.ddp.loaded then s.localDone n t stNOT_NOW []
  else match c.localHeader n with
    | none => s.localDone n t stRANGE []
    | some p =>
      let o := p.object.toNat
      let len := c.localLength n p
      if !c.worldMay (some w.world) p.cmd.toNat o then s.localDone n t stDENIED_WORLD []
      else if c.get (SES_BUF_LEN n) < len then s.localDone n t stRANGE []
      else match s.busRead { mid := 18, world := w.world, vf := w.vf } (c.get (SES_BUF_ADDR n)) len with
        | (none, s) =>
          ({ s with chip := s.chip.drawn } : State).localDone n t ((Config.openValue s.chip.freeCtr).toNat % 256) []
        | (some data, s) =>
          let p := { p with data := data }
          if firmwareObject o then
            match s.chip.firmwareWorld o with
            | none => s.localDone n t stNO_OBJECT []
            | some fw =>
              if 2048 < len then s.localDone n t stRANGE []
              else if p.cmd.toNat ≠ cmDESC && s.chip.objectHeld o then s.localDone n t stBUSY []
              else match s.chip.fwqRefuses fw with
                | some st => s.localDone n t st []
                | none => ({ s with chip := s.chip.setB (SES_RES_BUSY n) true } : State).fwPost fw w.world p data (.loc n t)
          else
            let r := s.localHardware p w.world (c.get (SES_BUF_LEN n))
            r.2.2.localDone n t r.1 r.2.1

/-- SES_GO of the session that an agent's function numbers `i` (R347). -/
def State.sesGoLocal (s : State) (w : Who) (i : Nat) : State :=
  match s.chip.localIndex w.fn 5 i with
  | some n => s.sesGo w n
  | none => match w.vf with
    | some f => { s with chip := s.chip.set (VF_STAT_LASTERR f) stRANGE }
    | none => s

def execSesGo (a : Agent) (n : Fin 64) (_v : W32) (s : State) : Host.Outcome State Fault Refusal :=
  s.byMem a fun w s => s.sesGoLocal w n.val

/-! ### ARP and neighbour solicitations (R392) -/

/-- The answer to an ARP request for the module's IPv4 address. -/
def Chip.arpAnswer (c : Chip) (bs : List Byte) : Option (List Byte) :=
  let t := if beNat (slice bs 12 2) = 0x8100 then 16 else 12
  let a := bs.drop (t + 2)
  let own := beBytesOf 6 (c.get DDP_MAC_ADDR)
  if slice bs t 2 == [0x08, 0x06] && slice a 0 8 == [0, 1, 8, 0, 6, 4, 0, 1] && c.rdN DDP_IP4 != 0 && beNat (slice a 24 4) == c.rdN DDP_IP4 then
    let body := slice a 8 6 ++ own ++ slice bs 12 (t - 12) ++ [0x08, 0x06, 0, 1, 8, 0, 6, 4, 0, 2] ++ own ++ slice a 24 4 ++ slice a 8 10
    some (body ++ List.replicate (60 - body.length) 0)
  else none

/-- The answer to a neighbour solicitation for the module's IPv6 address. -/
def Chip.neighbourAnswer (c : Chip) (bs : List Byte) : Option (List Byte) :=
  let t := if beNat (slice bs 12 2) = 0x8100 then 16 else 12
  let ip := bs.drop (t + 2)
  let n := beNat (slice ip 4 2)
  let icmp := slice ip 40 n
  let own := beBytesOf 16 (c.rdN DDP_IP6)
  let src := slice ip 8 16
  let sum (s d m : List Byte) : Nat := inetSum (s ++ d ++ beBytesOf 4 m.length ++ [0, 0, 0, 58] ++ m)
  let asked := slice bs t 2 == [0x86, 0xDD] && slice ip 6 2 == [58, 255] && slice icmp 0 2 == [135, 0] && decide (24 ≤ n) &&
    decide (40 + n ≤ ip.length) && slice icmp 8 16 == own && c.rdN DDP_IP6 != 0 && sum src (slice ip 24 16) icmp == 0
  if !asked then none
  else
    let probe := beNat src == 0
    let dst := if probe then [0xFF, 0x02, 0, 0, 0, 0, 0, 0, 0, 0, 0, 0, 0, 0, 0, 1] else src
    let msg (s : Nat) : List Byte :=
      [136, 0] ++ beBytesOf 2 s ++ [if probe then 0x20 else 0x60, 0, 0, 0] ++ own ++ [2, 1] ++ beBytesOf 6 (c.get DDP_MAC_ADDR)
    let mac := if probe then [0x33, 0x33, 0, 0, 0, 1] else slice bs 6 6
    some (mac ++ beBytesOf 6 (c.get DDP_MAC_ADDR) ++ slice bs 12 (t - 12) ++ [0x86, 0xDD] ++
      beBytesOf 4 (0x60000000 + bits (Config.ipOpen c.freeCtr).toNat 51 32) ++ [0, 32, 58, 255] ++ own ++ dst ++ msg (sum own dst (msg 0)))

/-- An ARP request or a neighbour solicitation at port I4. -/
def Chip.ddpArp (c : Chip) (bs : List Byte) : Chip :=
  if !(c.ddp.loaded && c.flag DDP_CTL_EN && c.flag DDP_CTL_UDPEN) then c
  else match (c.arpAnswer bs).orElse fun _ => c.neighbourAnswer bs with
    | some f => (c.updDdp fun b => { b with frames := b.frames ++ [f] }).drawn
    | none => c

def execDdpArp (frame : List Byte) (s : State) : Host.Outcome State Fault Refusal := s.onZone fun c => c.ddpArp frame

/-- DDP_CLRCNT: a write of DDP_CTL with CLRCNT = 1. -/
def execDdpClrcnt (a : Agent) (v : W32) (s : State) : Host.Outcome State Fault Refusal :=
  s.by a fun w c => c.ddpCtlWrite w (setBit v.toNat 4 true)

end Sys2Proof.Machine
end

