-- ==== Sys2Proof/Machine/Access.lean ====
section
/-! DEFINITION. Fabric accesses as a master makes them: where an address leads (R7, R9, R25–R27, R347), whole and partial accesses to
registers (R10–R12), the service of a request (R24, R26, R28, R317), fences (R22), doorbells, inbound PCIe requests (R366) and the debug
module's abstract commands (R468). -/

namespace Sys2Proof.Machine

/-! ### Where an address leads -/

/-- What a word of the peripheral region or of a VF page is: a word of a register, of a payload window of CAN controller `n` or of the
Hatband, nothing that the map lists, or an index that VF `v` does not hold. -/
inductive Place
  | reg (f : Found) (word : Nat)
  | canWin (n i : Nat)
  | hbdWin (i : Nat)
  | empty
  | outside (v : Nat)
  deriving DecidableEq, Repr

/-- The register that covers the word at an address, with the number of the word in it. -/
def coverAt (a : Nat) : Place :=
  match regAt a with
  | some f => .reg f 0
  | none =>
    match regAt (a - a % 16) with
    | some f => if f.row.width = 128 then .reg f (a % 16 / 4) else .empty
    | none => .empty

/-- A word at `a` behind one of local indices: session `i` of pool `k` at stride `size` from `base`. -/
def Chip.localPlace (c : Chip) (f k base size i r : Nat) (no : Place) : Place :=
  match c.localIndex f k i with
  | some g => coverAt (base + g * size + r)
  | none => no

/-- The word at offset `o` of VF page `n` (R347). -/
def Chip.vfPlace (c : Chip) (n o : Nat) : Place :=
  let no := Place.outside n
  let own := coverAt (0x40000000 + 0x10000 * n + o)
  if 0x100 ≤ o && o < 0x300 then
    let i := (o - 0x100) / 0x40
    let r := o % 0x40
    if (c.localIndex n 0 i).isNone then no else if 0x38 ≤ r then own else c.localPlace n 0 0x300D0000 0x40 i r no
  else if 0x1004 ≤ o && o < 0x1050 then
    match c.localIndex n 1 (c.get (VF_CSEL_SEL n)) with
    | some i => coverAt (0x30100000 + 0x10000 * (i / 128) + o - 0x1000 + 0x20)
    | none => no
  else if 0x2000 ≤ o && o < 0x2800 then
    match c.localIndex n 1 (c.get (VF_CSEL_SEL n)) with
    | some i => .canWin (i / 128) (o - 0x2000)
    | none => no
  else if 0x3004 ≤ o && o < 0x3020 then
    if (c.localIndex n 2 (c.get (VF_HSEL_SEL n))).isNone then no else coverAt (0x301C1000 + o - 0x3000)
  else if 0x3100 ≤ o && o < 0x3200 then
    if (c.localIndex n 2 (c.get (VF_HSEL_SEL n))).isNone then no else .hbdWin (o - 0x3100)
  else if 0x4000 ≤ o && o < 0x5000 then c.localPlace n 3 0x3022A000 0x20 ((o - 0x4000) / 0x20) (o % 0x20) no
  else if 0x5000 ≤ o && o < 0x6000 then c.localPlace n 5 0x30214000 0x40 ((o - 0x5000) / 0x40) (o % 0x40) no
  else own

/-- The word at an address for a requester, as whom it acts there; none where the page of a VF turns its world away (R347). -/
def Chip.placeOf (c : Chip) (w : Who) (a : Nat) : Option (Place × Who) :=
  if regionOf a = .vfPage then
    let n := (a - 0x40000000) / 0x10000
    let world := c.get (SFE_FN_CFG_WORLD n)
    if w.world = world || w.world = 1 then some (c.vfPlace n (a % 0x10000), { w with vf := some n, world := world }) else none
  else
    let o := a % 0x10000
    let p :=
      if 0x30100000 ≤ a && a < 0x301C0000 && 0x1000 ≤ o && o < 0x1800 then .canWin (a / 0x10000 - 0x3010) (o - 0x1000)
      else if 0x301C1100 ≤ a && a < 0x301C1200 then .hbdWin (a - 0x301C1100)
      else if 0x3022A000 ≤ a && a < 0x3022B000 then c.localPlace 64 3 0x3022A000 0x20 ((a - 0x3022A000) / 0x20) (a % 0x20) .empty
      else if 0x30214000 ≤ a && a < 0x30215000 then c.localPlace 64 5 0x30214000 0x40 ((a - 0x30214000) / 0x40) (a % 0x40) .empty
      else coverAt a
    some (p, w)

/-! ### Registers (R10–R12) -/

/-- A write of a whole register. -/
def State.storeAny (s : State) (w : Who) (f : Found) (v : Nat) : State :=
  if f.is (SES_GO 0) then s.sesGo w (f.n 0)
  else if f.is (DDP_FWQ_CI 0) then s.fwqAnswer w (f.n 0) v
  else s.storeReg w f v

/-- The latch a requester holds for a register (R11). -/
def Chip.latchOf (c : Chip) (w : Who) (a : Nat) : Option W128 := look none c.fab.latches (latchKey w.key a)

/-- Set or drop a requester's latch. -/
def Chip.setLatch (c : Chip) (w : Who) (a : Nat) (v : Option W128) : Chip :=
  { c with fab := { c.fab with latches := put none c.fab.latches (latchKey w.key a) v } }

/-- A read of a whole register, atomic: no latch changes by it (R11). -/
def Chip.readReg (c : Chip) (w : Who) (f : Found) : Nat × Chip :=
  match c.readEffect w f with
  | none => ((c.regValue w f).toNat, c)
  | some c' =>
    if f.row.width = 128 then (((c'.latchOf w f.addr).getD 0).toNat, c'.setLatch w f.addr (c.latchOf w f.addr))
    else ((look {} c'.fab.resp w.key).data, c')

/-- A 32-bit read of word `k` of a register: the lowest word of a 128-bit register latches all of it, the upper words answer from the
latch where there is one (R11). -/
def Chip.readRegWord (c : Chip) (w : Who) (f : Found) (k : Nat) : Nat × Chip :=
  if f.row.width ≠ 128 then let r := c.readReg w f; (r.1 % 2 ^ 32, r.2)
  else if k = 0 then
    let r := c.readReg w f
    (r.1 % 2 ^ 32, r.2.latch w.key f.addr (BitVec.ofNat 128 r.1))
  else (bits ((c.latchOf w f.addr).getD (c.regValue w f)).toNat (32 * k + 31) (32 * k), c)

/-- Stage a lower word of a 128-bit register (R12). -/
def Chip.stageWord (c : Chip) (w : Who) (f : Found) (k : Nat) (v : W32) : Chip :=
  { c with fab := { c.fab with staged := upd {} c.fab.staged (latchKey w.key f.addr) fun x =>
      match k with
      | 0 => { x with w0 := some v }
      | 1 => { x with w1 := some v }
      | _ => { x with w2 := some v } } }

/-- The highest word of a 128-bit register is written: all four words take effect, staged lower words or the current ones (R12). -/
def State.highWord (s : State) (w : Who) (f : Found) (v : Nat) : State :=
  let c := s.chip
  let x := look {} c.fab.staged (latchKey w.key f.addr)
  let cur := (c.regValue w f).toNat
  let part (o : Option W32) (k : Nat) : Nat := (match o with | some y => y.toNat | none => bits cur (32 * k + 31) (32 * k)) <<< (32 * k)
  let c := { c with fab := { c.fab with staged := put {} c.fab.staged (latchKey w.key f.addr) {} } }
  ({ s with chip := c } : State).storeAny w f (part x.w0 0 + part x.w1 1 + part x.w2 2 + (v <<< 96))

/-- A 32-bit write of word `k` of a register. -/
def State.writeRegWord (s : State) (w : Who) (f : Found) (k v : Nat) : State :=
  if f.row.width ≠ 128 then s.storeAny w f v
  else if k = 3 then s.highWord w f v
  else { s with chip := s.chip.stageWord w f k (BitVec.ofNat 32 v) }

/-! ### Words of the peripheral region and the VF pages -/

/-- An access through a page with an index that the VF does not hold (R347). -/
def Chip.outsideIndex (c : Chip) (v : Nat) : Chip := c.set (VF_STAT_LASTERR v) stRANGE

/-- Bytes of a CAN payload window as its object's owner reads them. -/
def Chip.canWinRead (c : Chip) (w : Who) (n i k : Nat) : Nat :=
  match c.canSelected w n with
  | some o => if c.poolWorld 1 o = some w.world then
      leNat ((List.range k).map fun j => BitVec.ofNat 8 ((c.canObj o).winByte (i + j))) else 0
  | none => 0

/-- Bytes of the Hatband buffer window. -/
def Chip.hbdWinRead (c : Chip) (w : Who) (i k : Nat) : Nat :=
  match c.hbdSelected w with
  | some n => leNat ((List.range k).map fun j => BitVec.ofNat 8 (c.hbdWinByte n (i + j)))
  | none => 0

/-- A 32-bit read at an address. -/
def Chip.readWord (c : Chip) (w : Who) (a : Nat) : Nat × Chip :=
  match c.placeOf w a with
  | none => (0, c.raise 583)
  | some (.reg f k, w) => c.readRegWord w f k
  | some (.canWin n i, w) => (c.canWinRead w n i 4, c)
  | some (.hbdWin i, w) => (c.hbdWinRead w i 4, c)
  | some (.empty, _) => (0, c)
  | some (.outside v, _) => (0, c.outsideIndex v)

/-- A 32-bit write at an address. -/
def State.writeWord (s : State) (w : Who) (a v : Nat) : State :=
  let c := s.chip
  match c.placeOf w a with
  | none => { s with chip := c.raise 583 }
  | some (.reg f k, w) => s.writeRegWord w f k v
  | some (.canWin n i, w) => { s with chip := c.canWinWrite w n i (leBytesOf 4 v) }
  | some (.hbdWin i, w) => { s with chip := c.hbdWinWrite w i (leBytesOf 4 v) }
  | some (.empty, _) => s
  | some (.outside v, _) => { s with chip := c.outsideIndex v }

/-- A 128-bit read at an address: atomic where a 128-bit register stands there, otherwise four words in rising order. -/
def Chip.readQuad (c : Chip) (w : Who) (a : Nat) : Nat × Chip :=
  let words : Nat × Chip := (List.range 4).foldl (fun (r : Nat × Chip) k =>
    let x := r.2.readWord w (a + 4 * k)
    (r.1 + (x.1 <<< (32 * k)), x.2)) (0, c)
  match c.placeOf w a with
  | some (.reg f 0, w) => if f.row.width = 128 then c.readReg w f else words
  | _ => words

/-- A 128-bit write at an address. -/
def State.writeQuad (s : State) (w : Who) (a v : Nat) : State :=
  let words : State := forAll 4 (fun k s => s.writeWord w (a + 4 * k) (bits v (32 * k + 31) (32 * k))) s
  match s.chip.placeOf w a with
  | some (.reg f 0, w) => if f.row.width = 128 then s.storeAny w f v else words
  | _ => words

/-- A read of `n` bytes of registers: narrower than a word, part of its word; wider, words or quads in rising order. -/
def Chip.readBytes (c : Chip) (w : Who) (a n : Nat) : Nat × Chip :=
  if n < 4 then
    let x := c.readWord w (a - a % 4)
    (bits x.1 (8 * (a % 4) + 8 * n - 1) (8 * (a % 4)), x.2)
  else if n < 16 then
    (List.range (n / 4)).foldl (fun (r : Nat × Chip) k =>
      let x := r.2.readWord w (a + 4 * k)
      (r.1 + (x.1 <<< (32 * k)), x.2)) (0, c)
  else
    (List.range (n / 16)).foldl (fun (r : Nat × Chip) k =>
      let x := r.2.readQuad w (a + 16 * k)
      (r.1 + (x.1 <<< (128 * k)), x.2)) (0, c)

/-- A write of bytes to registers. A write narrower than a word is a write of the word with its other bytes as they read. -/
def State.writeBytes (s : State) (w : Who) (a : Nat) (bs : List Byte) : State :=
  let n := bs.length
  let v := leNat bs
  if n < 4 then
    let x := s.chip.readWord w (a - a % 4)
    s.writeWord w (a - a % 4) (setBits (BitVec.ofNat 128 x.1) (8 * (a % 4) + 8 * n - 1) (8 * (a % 4)) v).toNat
  else if n < 16 then forAll (n / 4) (fun k s => s.writeWord w (a + 4 * k) (bits v (32 * k + 31) (32 * k))) s
  else forAll (n / 16) (fun k s => s.writeQuad w (a + 16 * k) (bits v (128 * k + 127) (128 * k))) s

/-! ### Commands on registers -/

/-- REGISTER_WRITE: a write of the whole register at an address. -/
def State.registerWrite (s : State) (w : Who) (a v : Nat) : State :=
  match s.chip.placeOf w a with
  | some (.reg f 0, w) => s.storeAny w f (v % 2 ^ f.row.width)
  | none => { s with chip := s.chip.raise 583 }
  | some (.outside n, _) => { s with chip := s.chip.outsideIndex n }
  | _ => s

def execRegisterWrite (a : Agent) (addr : BitVec 40) (v : W128) (s : State) : Host.Outcome State Fault Refusal :=
  s.byMem a fun w s => s.registerWrite w addr.toNat v.toNat

/-- The 128-bit register that begins at an address. -/
def Chip.wideReg (c : Chip) (w : Who) (a : Nat) : Option (Found × Who) :=
  match c.placeOf w a with
  | some (.reg f 0, w) => if f.row.width = 128 then some (f, w) else none
  | _ => none

/-- WORD128_LOW_READ: a 32-bit read of the lowest word of a 128-bit register. -/
def Chip.wordLowRead (c : Chip) (w : Who) (a : Nat) : Chip :=
  match c.wideReg w a with
  | some (f, w) => let r := c.readRegWord w f 0; r.2.respond w.key false r.1
  | none => c

def execWord128LowRead (a : Agent) (addr : BitVec 40) (s : State) : Host.Outcome State Fault Refusal :=
  s.by a fun w c => c.wordLowRead w addr.toNat

/-- WORD128_LOWER_WRITE: word `k` of the 128-bit register at an address is staged. -/
def Chip.wordLowerWrite (c : Chip) (w : Who) (a k : Nat) (v : W32) : Chip :=
  match c.wideReg w a with
  | some (f, w) => c.stageWord w f k v
  | none => c

def execWord128LowerWrite (a : Agent) (addr : BitVec 40) (k : Fin 3) (v : W32) (s : State) : Host.Outcome State Fault Refusal :=
  s.by a fun w c => c.wordLowerWrite w addr.toNat k.val v

/-- WORD128_HIGH_WRITE: the highest word of the 128-bit register at an address is written. -/
def State.wordHighWrite (s : State) (w : Who) (a : Nat) (v : W32) : State :=
  match s.chip.wideReg w a with
  | some (f, w) => s.highWord w f v.toNat
  | none => s

def execWord128HighWrite (a : Agent) (addr : BitVec 40) (v : W32) (s : State) : Host.Outcome State Fault Refusal :=
  s.byMem a fun w s => s.wordHighWrite w addr.toNat v

/-- DOORBELL_KICK: a class 5 occurrence fires, or an agent writes a producer index (R207). -/
def execDoorbellKick (k : Kick) (s : State) : Host.Outcome State Fault Refusal :=
  match k with
  | .occurrence d => s.onZone fun c => c.doorbell d.val
  | .producer a q rx v => s.by a fun w c => c.producerWrite w q.val rx v.toNat

/-! ### The service of a request (R24, R26, R28, R317) -/

/-- The kind under which the firewall checks a request. -/
def opKind (o : FabricOp) : AccessKind :=
  match o with
  | .read => .read
  | .fetch => .fetch
  | .write _ => .write
  | .amo _ _ => .amo

/-- Whether a memory region takes a kind of access (R317). -/
def regionTakes (r : Region) (k : AccessKind) : Bool :=
  match r, k with
  | .bootRom, .read => true
  | .bootRom, .fetch => true
  | .emram, .amo => false
  | .emram, _ => true
  | .ssram, _ => true
  | .dram, _ => true
  | .mram, .read => true
  | .mram, .write => true
  | _, _ => false

/-- What a request receives: an error response or not, and the read data. -/
structure Served where
  err : Bool
  data : Nat
  s : State

/-- An error response, with read data zero. -/
def State.servedBad (s : State) : Served := ⟨true, 0, s⟩

/-- An access to memory: a read that meets an uncorrectable error, or a write that cannot complete for one, gets an error response and
raises EV0498 (R24). -/
def State.serveMemory (s : State) (o : FabricOp) (a n : Nat) (ecc : Bool) : Served :=
  if !regionTakes (regionOf a) (opKind o) then s.servedBad
  else if ecc then ⟨true, 0, { s with chip := s.chip.raise 498 }⟩
  else
    let old := leNat (memRead s.mem a n)
    match o with
    | .read => ⟨false, old, s⟩
    | .fetch => ⟨false, old, s⟩
    | .write bs => ⟨false, 0, { s with mem := memWrite s.mem a bs }⟩
    | .amo op x => ⟨false, old, { s with mem := memWrite s.mem a (leBytesOf n (amoResult op n old x.toNat)) }⟩

/-- An access to registers; fetches and atomic accesses get an error response (R317). -/
def State.serveRegisters (s : State) (w : Who) (o : FabricOp) (a n : Nat) : Served :=
  match o with
  | .read => let r := s.chip.readBytes w a n; ⟨false, r.1, { s with chip := r.2 }⟩
  | .write bs => ⟨false, 0, s.writeBytes w a bs⟩
  | _ => s.servedBad

/-- A request that the firewall has checked is decoded and served, the bridge's apertures apart. -/
def State.serve (s : State) (w : Who) (o : FabricOp) (a n : Nat) (ecc : Bool) : Served :=
  if !s.chip.fwPermits w.tag a n (opKind o) then ⟨true, 0, { s with chip := s.chip.raise 496 }⟩
  else match regionOf a with
    | .hole => ⟨true, 0, { s with chip := s.chip.raise 497 }⟩
    | .bridge => s.servedBad
    | .peripheral => s.serveRegisters w o a n
    | .vfPage => s.serveRegisters w o a n
    | _ => s.serveMemory o a n ecc

/-- FABRIC_ACCESS: the requester receives the response, at once or from the bridge. -/
def State.fabricAccess (s : State) (w : Who) (o : FabricOp) (a n : Nat) (ecc : Bool) : State :=
  let c := s.chip
  let bridged (k : BrgKind) (bs : List Byte) : State := { s with chip := c.toBridge w (opKind o) k a n bs }
  let local_ : State :=
    let r := s.serve w o a n ecc
    { r.s with chip := r.s.chip.respond w.key r.err r.data }
  if regionOf a = .bridge then
    match o with
    | .read => bridged .read []
    | .write bs => bridged (.write false) bs
    | .amo op x => bridged (.amo op x.toNat) []
    | .fetch => local_
  else local_

def execFabricAccess (a : Agent) (o : FabricOp) (addr : BitVec 40) (size : Fin 65) (ecc : Bool) (s : State) :
    Host.Outcome State Fault Refusal :=
  s.byMem a fun w s => s.fabricAccess w o addr.toNat size.val ecc

/-! ### Fences (R22) -/

/-- Whether an earlier request of a master has no response yet: only the bridge answers later. -/
def Chip.unanswered (c : Chip) (mid : Nat) : Bool :=
  (c.brg.queue ++ c.brg.out).any (fun r => r.key / 128 == mid) || c.brg.fences.any fun e => e.1 / 128 == mid

/-- FABRIC_FENCE: it is complete at once, or waits. -/
def Chip.fabricFence (c : Chip) (w : Who) : Chip :=
  if c.unanswered w.mid && !c.fab.fences.contains w.mid then { c with fab := { c.fab with fences := c.fab.fences ++ [w.mid] } } else c

/-- The fences that wait complete once every earlier request has its response. -/
def Chip.fencesDone (c : Chip) : Chip := { c with fab := { c.fab with fences := c.fab.fences.filter c.unanswered } }

def execFabricFence (a : Agent) (s : State) : Host.Outcome State Fault Refusal := s.by a fun w c => c.fabricFence w

/-! ### Inbound PCIe requests (R366, R374) -/

/-- An inbound request that matches no window, or that is denied: a read is completed with a status, a write discarded. -/
def Chip.inboundBad (c : Chip) (st : Nat) (isRead : Bool) : Chip :=
  (if isRead then c.updBrg fun b => { b with answered := some (st, []) } else c).raise 647

/-- BRG_INBOUND_REQUEST: mapped through its window, issued on the fabric as master 13 in the window's world, and completed. A request
that a locked sequence holds back is not taken yet (R376); one that meets an uncorrectable error in the bridge's buffers is not issued,
and a read is completed with CA (R379). -/
def State.brgInbound (s : State) (farId far n : Nat) (data : Option (List Byte)) (ecc : Bool) : State :=
  let c := s.chip
  if c.brgOff || !c.flag BRG_STAT_LINK || c.brgHeld farId then s
  else match c.inWindow far n with
    | none => { s with chip := c.inboundBad 1 data.isNone }
    | some j =>
      let c := c.brgCross farId
      let b := c.get (BRG_IW_LOCB_A j) + (far - c.get (BRG_IW_FARB_A j))
      let sw := c.get (BRG_IW_CTL_SWAP j)
      let g := c.get (BRG_IW_CTL_GRAN j)
      let a := swapBase sw g b n
      let w : Who := { mid := 13, vf := none, world := c.get (BRG_IW_CTL_WORLD j), key := 13 * 128 }
      if ecc then
        { s with chip := (if data.isNone then c.updBrg fun x => { x with answered := some (4, []) } else c).raise 649 }
      else if !c.gateOpen 13 || c.midIsolated 13 then
        { s with chip := (c.when (c.gateOpen 13 && c.midIsolated 13) fun c => c.raise 833).inboundBad 4 data.isNone }
      else
        let s : State := { s with chip := c }
        match data with
        | none =>
          let r := s.serve w .read a n false
          if r.err then { r.s with chip := r.s.chip.inboundBad 4 true }
          else { r.s with chip := r.s.chip.updBrg fun x => { x with answered := some (0, swapBytes sw g b (leBytesOf n r.data)) } }
        | some bs =>
          let r := s.serve w (.write (swapBytes sw g b bs)) a n false
          if r.err then { r.s with chip := r.s.chip.inboundBad 4 false } else r.s

def execBrgInboundRequest (farId : BitVec 16) (addr : W64) (size : Fin 513) (data : Option (List Byte)) (ecc : Bool) (s : State) :
    Host.Outcome State Fault Refusal :=
  s.onZoneMem fun s => s.brgInbound farId.toNat addr.toNat size.val data ecc

/-! ### The debug module (R468) -/

/-- DEBUG_ABSTRACT_COMMAND: a halted hart reads or writes memory with its own MID and world. -/
def State.debugAbstract (s : State) (k a n : Nat) (data : Option W128) : State :=
  let c := s.chip
  if !(c.debugReaches k && look false c.core.debugHalted k) then s
  else
    let c : Chip := { c with core := { c.core with abstracts := upd 0 c.core.abstracts k (· + 1) } }
    let w : Who := { mid := k, vf := none, world := c.worldOf k, key := k * 128 }
    let o : FabricOp := match data with
      | none => .read
      | some v => .write (leBytesOf n v.toNat)
    if n = 0 || !c.gateOpen k then { s with chip := c }
    else if c.midIsolated k then { s with chip := (c.respond w.key true 0).raise 833 }
    else ({ s with chip := c } : State).fabricAccess w o a n false

def execDebugAbstractCommand (k : Fin 8) (addr : BitVec 40) (size : Fin 17) (data : Option W128) (s : State) :
    Host.Outcome State Fault Refusal :=
  s.onZoneMem fun s => s.debugAbstract k.val addr.toNat size.val data

end Sys2Proof.Machine
end

