-- ==== Sys2Proof/Machine/Dispatch.lean ====
section
/-! DEFINITION. One arm for each command: a direct call of its meaning. -/

namespace Sys2Proof.Machine

/-- What a command does to everything but the queue. -/
def exec (i : Instr) (s : State) : Host.Outcome State Fault Refusal :=
  match i with
  | .registerWrite a addr v => Sys2Proof.Machine.execRegisterWrite a addr v s
  | .word128LowRead a addr => Sys2Proof.Machine.execWord128LowRead a addr s
  | .word128LowerWrite a addr k v => Sys2Proof.Machine.execWord128LowerWrite a addr k v s
  | .word128HighWrite a addr v => Sys2Proof.Machine.execWord128HighWrite a addr v s
  | .fabricAccess a o addr size ecc => Sys2Proof.Machine.execFabricAccess a o addr size ecc s
  | .fabricFence a => Sys2Proof.Machine.execFabricFence a s
  | .frcStart => Sys2Proof.Machine.execFrcStart s
  | .crystalLost => Sys2Proof.Machine.execCrystalLost s
  | .tdIncWrite a n v => Sys2Proof.Machine.execTdIncWrite a n v s
  | .tdOfsWrite a n v => Sys2Proof.Machine.execTdOfsWrite a n v s
  | .tdStepWrite a n v => Sys2Proof.Machine.execTdStepWrite a n v s
  | .tdCtlWrite a n v => Sys2Proof.Machine.execTdCtlWrite a n v s
  | .timeSnapTake a v => Sys2Proof.Machine.execTimeSnapTake a v s
  | .timeConv a v => Sys2Proof.Machine.execTimeConv a v s
  | .timeMarkLatch utc => Sys2Proof.Machine.execTimeMarkLatch utc s
  | .timeMarkTimeout => Sys2Proof.Machine.execTimeMarkTimeout s
  | .pbEnable a n v => Sys2Proof.Machine.execPbEnable a n v s
  | .pbDisable a n v => Sys2Proof.Machine.execPbDisable a n v s
  | .pbResync a n v => Sys2Proof.Machine.execPbResync a n v s
  | .pbSetWrite a n v => Sys2Proof.Machine.execPbSetWrite a n v s
  | .pbEdge n => Sys2Proof.Machine.execPbEdge n s
  | .mirrorRecord metres => Sys2Proof.Machine.execMirrorRecord metres s
  | .pbStallTimeout n => Sys2Proof.Machine.execPbStallTimeout n s
  | .holdRelease n => Sys2Proof.Machine.execHoldRelease n s
  | .seqWrite a w => Sys2Proof.Machine.execSeqWrite a w s
  | .seqRead a w => Sys2Proof.Machine.execSeqRead a w s
  | .seqCancel a w => Sys2Proof.Machine.execSeqCancel a w s
  | .seqArm n ecc => Sys2Proof.Machine.execSeqArm n ecc s
  | .seqHandoff n => Sys2Proof.Machine.execSeqHandoff n s
  | .lateHandoff n => Sys2Proof.Machine.execLateHandoff n s
  | .seqRetimePass => Sys2Proof.Machine.execSeqRetimePass s
  | .seqFire n => Sys2Proof.Machine.execSeqFire n s
  | .verifyTimeout => Sys2Proof.Machine.execVerifyTimeout s
  | .seqLerrRead a => Sys2Proof.Machine.execSeqLerrRead a s
  | .seqClrcnt a v => Sys2Proof.Machine.execSeqClrcnt a v s
  | .sqoFire n => Sys2Proof.Machine.execSqoFire n s
  | .doorbellKick k => Sys2Proof.Machine.execDoorbellKick k s
  | .lsOff n => Sys2Proof.Machine.execLsOff n s
  | .lsOn n => Sys2Proof.Machine.execLsOn n s
  | .pwmPeriodStart n vbkMv => Sys2Proof.Machine.execPwmPeriodStart n vbkMv s
  | .loadDuty n => Sys2Proof.Machine.execLoadDuty n s
  | .lsUnlock a n v => Sys2Proof.Machine.execLsUnlock a n v s
  | .lsClr a n v => Sys2Proof.Machine.execLsClr a n v s
  | .pwmSelfTimedPeriod n vbkMv => Sys2Proof.Machine.execPwmSelfTimedPeriod n vbkMv s
  | .pwmOnTimeEnd n => Sys2Proof.Machine.execPwmOnTimeEnd n s
  | .limitEnter n ma => Sys2Proof.Machine.execLimitEnter n ma s
  | .limitExit n ma => Sys2Proof.Machine.execLimitExit n ma s
  | .shortCircuitTimeout n => Sys2Proof.Machine.execShortCircuitTimeout n s
  | .thermalShutdown n tj => Sys2Proof.Machine.execThermalShutdown n tj s
  | .retryExpiry n => Sys2Proof.Machine.execRetryExpiry n s
  | .retryCountReset n => Sys2Proof.Machine.execRetryCountReset n s
  | .inrushWindowEnd n => Sys2Proof.Machine.execInrushWindowEnd n s
  | .demagnetisationEnd n energyUj => Sys2Proof.Machine.execDemagnetisationEnd n energyUj s
  | .clampLeakTick slice => Sys2Proof.Machine.execClampLeakTick slice s
  | .distClear k => Sys2Proof.Machine.execDistClear k s
  | .budgetTick bankMa bankMv lugMv => Sys2Proof.Machine.execBudgetTick bankMa bankMv lugMv s
  | .shedStep g => Sys2Proof.Machine.execShedStep g s
  | .soselWrite a m v => Sys2Proof.Machine.execSoselWrite a m v s
  | .sliceSilence slice => Sys2Proof.Machine.execSliceSilence slice s
  | .lsHeartbeat a => Sys2Proof.Machine.execLsHeartbeat a s
  | .heartbeatMiss => Sys2Proof.Machine.execHeartbeatMiss s
  | .orphanFallback n => Sys2Proof.Machine.execOrphanFallback n s
  | .cuffLinkUp slice => Sys2Proof.Machine.execCuffLinkUp slice s
  | .holdReadbackDone slice => Sys2Proof.Machine.execHoldReadbackDone slice s
  | .lsAdopt a v => Sys2Proof.Machine.execLsAdopt a v s
  | .lsSafeoff a v => Sys2Proof.Machine.execLsSafeoff a v s
  | .cuffReset a v => Sys2Proof.Machine.execCuffReset a v s
  | .sliceFault slice => Sys2Proof.Machine.execSliceFault slice s
  | .lscClrcnt a v => Sys2Proof.Machine.execLscClrcnt a v s
  | .leCycleStart e => Sys2Proof.Machine.execLeCycleStart e s
  | .leOutputCommit e => Sys2Proof.Machine.execLeOutputCommit e s
  | .leNop e => Sys2Proof.Machine.execLeNop e s
  | .leLd e area addr => Sys2Proof.Machine.execLeLd e area addr s
  | .leLdn e area addr => Sys2Proof.Machine.execLeLdn e area addr s
  | .leAnd e area addr => Sys2Proof.Machine.execLeAnd e area addr s
  | .leAndn e area addr => Sys2Proof.Machine.execLeAndn e area addr s
  | .leOr e area addr => Sys2Proof.Machine.execLeOr e area addr s
  | .leOrn e area addr => Sys2Proof.Machine.execLeOrn e area addr s
  | .leXor e area addr => Sys2Proof.Machine.execLeXor e area addr s
  | .leXorn e area addr => Sys2Proof.Machine.execLeXorn e area addr s
  | .leSt e area addr => Sys2Proof.Machine.execLeSt e area addr s
  | .leStn e area addr => Sys2Proof.Machine.execLeStn e area addr s
  | .leSet e area addr => Sys2Proof.Machine.execLeSet e area addr s
  | .leRst e area addr => Sys2Proof.Machine.execLeRst e area addr s
  | .leNot e => Sys2Proof.Machine.execLeNot e s
  | .leSetr e => Sys2Proof.Machine.execLeSetr e s
  | .leClrr e => Sys2Proof.Machine.execLeClrr e s
  | .lePsh e => Sys2Proof.Machine.execLePsh e s
  | .lePopa e => Sys2Proof.Machine.execLePopa e s
  | .lePopo e => Sys2Proof.Machine.execLePopo e s
  | .lePopx e => Sys2Proof.Machine.execLePopx e s
  | .leRedg e ix => Sys2Proof.Machine.execLeRedg e ix s
  | .leFedg e ix => Sys2Proof.Machine.execLeFedg e ix s
  | .leTon e ix => Sys2Proof.Machine.execLeTon e ix s
  | .leTof e ix => Sys2Proof.Machine.execLeTof e ix s
  | .leTp e ix => Sys2Proof.Machine.execLeTp e ix s
  | .leTps e ix => Sys2Proof.Machine.execLeTps e ix s
  | .leTel e ix => Sys2Proof.Machine.execLeTel e ix s
  | .leCtu e ix => Sys2Proof.Machine.execLeCtu e ix s
  | .leCtd e ix => Sys2Proof.Machine.execLeCtd e ix s
  | .leCrs e ix => Sys2Proof.Machine.execLeCrs e ix s
  | .leCld e ix => Sys2Proof.Machine.execLeCld e ix s
  | .leCvl e ix => Sys2Proof.Machine.execLeCvl e ix s
  | .leCps e ix => Sys2Proof.Machine.execLeCps e ix s
  | .leLdw e l src u any addr => Sys2Proof.Machine.execLeLdw e l src u any addr s
  | .leStw e l src u any addr => Sys2Proof.Machine.execLeStw e l src u any addr s
  | .leAdd e l src u any addr => Sys2Proof.Machine.execLeAdd e l src u any addr s
  | .leSub e l src u any addr => Sys2Proof.Machine.execLeSub e l src u any addr s
  | .leAdds e l src u any addr => Sys2Proof.Machine.execLeAdds e l src u any addr s
  | .leSubs e l src u any addr => Sys2Proof.Machine.execLeSubs e l src u any addr s
  | .leMul e l src u any addr => Sys2Proof.Machine.execLeMul e l src u any addr s
  | .leAndw e l src u any addr => Sys2Proof.Machine.execLeAndw e l src u any addr s
  | .leOrw e l src u any addr => Sys2Proof.Machine.execLeOrw e l src u any addr s
  | .leXorw e l src u any addr => Sys2Proof.Machine.execLeXorw e l src u any addr s
  | .leShl e l src u any addr => Sys2Proof.Machine.execLeShl e l src u any addr s
  | .leShr e l src u any addr => Sys2Proof.Machine.execLeShr e l src u any addr s
  | .leMin e l src u any addr => Sys2Proof.Machine.execLeMin e l src u any addr s
  | .leMax e l src u any addr => Sys2Proof.Machine.execLeMax e l src u any addr s
  | .leCeq e l src u any addr => Sys2Proof.Machine.execLeCeq e l src u any addr s
  | .leCne e l src u any addr => Sys2Proof.Machine.execLeCne e l src u any addr s
  | .leClt e l src u any addr => Sys2Proof.Machine.execLeClt e l src u any addr s
  | .leCle e l src u any addr => Sys2Proof.Machine.execLeCle e l src u any addr s
  | .leCgt e l src u any addr => Sys2Proof.Machine.execLeCgt e l src u any addr s
  | .leCge e l src u any addr => Sys2Proof.Machine.execLeCge e l src u any addr s
  | .leSel e l src u any addr => Sys2Proof.Machine.execLeSel e l src u any addr s
  | .leLdx e => Sys2Proof.Machine.execLeLdx e s
  | .leLds e addr => Sys2Proof.Machine.execLeLds e addr s
  | .leJmp e target => Sys2Proof.Machine.execLeJmp e target s
  | .leJc e target => Sys2Proof.Machine.execLeJc e target s
  | .leJnc e target => Sys2Proof.Machine.execLeJnc e target s
  | .leCall e target => Sys2Proof.Machine.execLeCall e target s
  | .leRet e => Sys2Proof.Machine.execLeRet e s
  | .leEnd e => Sys2Proof.Machine.execLeEnd e s
  | .leModeRun a e v => Sys2Proof.Machine.execLeModeRun a e v s
  | .leModeStop a e v => Sys2Proof.Machine.execLeModeStop a e v s
  | .leModeHold a e v => Sys2Proof.Machine.execLeModeHold a e v s
  | .leStep a e v => Sys2Proof.Machine.execLeStep a e v s
  | .leScyc a e v => Sys2Proof.Machine.execLeScyc a e v s
  | .leClrflt a e v => Sys2Proof.Machine.execLeClrflt a e v s
  | .leClrcnt a e v => Sys2Proof.Machine.execLeClrcnt a e v s
  | .leStopactCommit e => Sys2Proof.Machine.execLeStopactCommit e s
  | .leForceDelivery e => Sys2Proof.Machine.execLeForceDelivery e s
  | .le0Mismatch => Sys2Proof.Machine.execLe0Mismatch s
  | .leOnlineChange a e v => Sys2Proof.Machine.execLeOnlineChange a e v s
  | .leMemRead a e => Sys2Proof.Machine.execLeMemRead a e s
  | .leMemWrite a e v => Sys2Proof.Machine.execLeMemWrite a e v s
  | .xchgGo a e v => Sys2Proof.Machine.execXchgGo a e v s
  | .xchgCheckDone e => Sys2Proof.Machine.execXchgCheckDone e s
  | .xchgCancel a e v => Sys2Proof.Machine.execXchgCancel a e v s
  | .leEcc e => Sys2Proof.Machine.execLeEcc e s
  | .eswDecisionPoint p frame stamp sec plca => Sys2Proof.Machine.execEswDecisionPoint p frame stamp sec plca s
  | .eswFrameTail p fcsOk symOk icvOk eccOk => Sys2Proof.Machine.execEswFrameTail p fcsOk symOk icvOk eccOk s
  | .eswTxSelect p => Sys2Proof.Machine.execEswTxSelect p s
  | .eswTxEnd p stamp => Sys2Proof.Machine.execEswTxEnd p stamp s
  | .eswLinkDown p => Sys2Proof.Machine.execEswLinkDown p s
  | .eswLinkUp p rate sqi => Sys2Proof.Machine.execEswLinkUp p rate sqi s
  | .eswTblRead a v ecc => Sys2Proof.Machine.execEswTblRead a v ecc s
  | .eswTblWrite a v => Sys2Proof.Machine.execEswTblWrite a v s
  | .eswLookup a v => Sys2Proof.Machine.execEswLookup a v s
  | .eswInsert a v => Sys2Proof.Machine.execEswInsert a v s
  | .eswDelete a v => Sys2Proof.Machine.execEswDelete a v s
  | .eswFlush a v => Sys2Proof.Machine.execEswFlush a v s
  | .eswFlushdyn a v => Sys2Proof.Machine.execEswFlushdyn a v s
  | .eswAgeTick => Sys2Proof.Machine.execEswAgeTick s
  | .eswGateStep p => Sys2Proof.Machine.execEswGateStep p s
  | .eswHqTrigger q => Sys2Proof.Machine.execEswHqTrigger q s
  | .eswTsfifoRead a p => Sys2Proof.Machine.execEswTsfifoRead a p s
  | .eswRecoveryReset r => Sys2Proof.Machine.execEswRecoveryReset r s
  | .eswPortEnable a p v => Sys2Proof.Machine.execEswPortEnable a p v s
  | .eswPortClrcnt a p v => Sys2Proof.Machine.execEswPortClrcnt a p v s
  | .hbdEnable a v => Sys2Proof.Machine.execHbdEnable a v s
  | .hbdDisable a v => Sys2Proof.Machine.execHbdDisable a v s
  | .hbdHalt a v => Sys2Proof.Machine.execHbdHalt a v s
  | .hbdClrcnt a v => Sys2Proof.Machine.execHbdClrcnt a v s
  | .hbdCycleStart => Sys2Proof.Machine.execHbdCycleStart s
  | .hbdSlotTransmit slot => Sys2Proof.Machine.execHbdSlotTransmit slot s
  | .hbdBufferCopy slot ecc => Sys2Proof.Machine.execHbdBufferCopy slot ecc s
  | .hbdFrameReceive ch start frame => Sys2Proof.Machine.execHbdFrameReceive ch start frame s
  | .hbdStaticEnd => Sys2Proof.Machine.execHbdStaticEnd s
  | .hbdCorrack a v => Sys2Proof.Machine.execHbdCorrack a v s
  | .guardianMark raw => Sys2Proof.Machine.execGuardianMark raw s
  | .guardianCut ch => Sys2Proof.Machine.execGuardianCut ch s
  | .guardianFault => Sys2Proof.Machine.execGuardianFault s
  | .hbdListenExpiry => Sys2Proof.Machine.execHbdListenExpiry s
  | .hbdMinislot ch m => Sys2Proof.Machine.execHbdMinislot ch m s
  | .hbdBufCommit a v => Sys2Proof.Machine.execHbdBufCommit a v s
  | .hbdBufTxreq a v => Sys2Proof.Machine.execHbdBufTxreq a v s
  | .hbdBufClr a v => Sys2Proof.Machine.execHbdBufClr a v s
  | .hbdMreq a v => Sys2Proof.Machine.execHbdMreq a v s
  | .hbdStdataWrite a v => Sys2Proof.Machine.execHbdStdataWrite a v s
  | .hbdModeWrite a m v => Sys2Proof.Machine.execHbdModeWrite a m v s
  | .canRxFrame n f => Sys2Proof.Machine.execCanRxFrame n f s
  | .canArbitrationStart n => Sys2Proof.Machine.execCanArbitrationStart n s
  | .canTxComplete n => Sys2Proof.Machine.execCanTxComplete n s
  | .canTxFail n lec tec rec => Sys2Proof.Machine.execCanTxFail n lec tec rec s
  | .canTxreq a n v => Sys2Proof.Machine.execCanTxreq a n v s
  | .canTxTrigger n o => Sys2Proof.Machine.execCanTxTrigger n o s
  | .canCancel a n v => Sys2Proof.Machine.execCanCancel a n v s
  | .canCommit a n v => Sys2Proof.Machine.execCanCommit a n v s
  | .canClrnew a n v => Sys2Proof.Machine.execCanClrnew a n v s
  | .canDescWrite a n word v => Sys2Proof.Machine.execCanDescWrite a n word v s
  | .canBusOff n => Sys2Proof.Machine.execCanBusOff n s
  | .canRecover a n v => Sys2Proof.Machine.execCanRecover a n v s
  | .canBusoffRecovered n => Sys2Proof.Machine.execCanBusoffRecovered n s
  | .canStale n o => Sys2Proof.Machine.execCanStale n o s
  | .canClrcnt a n v => Sys2Proof.Machine.execCanClrcnt a n v s
  | .gwMaxlatExpiry n r => Sys2Proof.Machine.execGwMaxlatExpiry n r s
  | .gwInboundFrame n frame => Sys2Proof.Machine.execGwInboundFrame n frame s
  | .linSlot n => Sys2Proof.Machine.execLinSlot n s
  | .linTrigger n e => Sys2Proof.Machine.execLinTrigger n e s
  | .linResponse n r data => Sys2Proof.Machine.execLinResponse n r data s
  | .linSleep a n v => Sys2Proof.Machine.execLinSleep a n v s
  | .linBufCommit a n b v => Sys2Proof.Machine.execLinBufCommit a n b v s
  | .linClrcnt a n v => Sys2Proof.Machine.execLinClrcnt a n v s
  | .dinFilterExpiry n first => Sys2Proof.Machine.execDinFilterExpiry n first s
  | .dinFaultChange n first => Sys2Proof.Machine.execDinFaultChange n first s
  | .dinCfgWrite a n v => Sys2Proof.Machine.execDinCfgWrite a n v s
  | .lswPoll n level => Sys2Proof.Machine.execLswPoll n level s
  | .ainTrig a v => Sys2Proof.Machine.execAinTrig a v s
  | .converterTrigger k => Sys2Proof.Machine.execConverterTrigger k s
  | .ainStepDone k code bad => Sys2Proof.Machine.execAinStepDone k code bad s
  | .ainSeqEnd k => Sys2Proof.Machine.execAinSeqEnd k s
  | .pxEdge n rise stamp => Sys2Proof.Machine.execPxEdge n rise stamp s
  | .pxFifoRead a n => Sys2Proof.Machine.execPxFifoRead a n s
  | .segIsoWrite a v => Sys2Proof.Machine.execSegIsoWrite a v s
  | .wakeSource code => Sys2Proof.Machine.execWakeSource code s
  | .busWake seg => Sys2Proof.Machine.execBusWake seg s
  | .sleepTimerWake => Sys2Proof.Machine.execSleepTimerWake s
  | .sleepVote a v => Sys2Proof.Machine.execSleepVote a v s
  | .readyTimeout => Sys2Proof.Machine.execReadyTimeout s
  | .keepAwakeMessage seg id sender payload => Sys2Proof.Machine.execKeepAwakeMessage seg id sender payload s
  | .guardWindowOpen => Sys2Proof.Machine.execGuardWindowOpen s
  | .sleepCommit backlog => Sys2Proof.Machine.execSleepCommit backlog s
  | .sleepEntered => Sys2Proof.Machine.execSleepEntered s
  | .wakeHoldExpiry => Sys2Proof.Machine.execWakeHoldExpiry s
  | .wakeValidate a v => Sys2Proof.Machine.execWakeValidate a v s
  | .kaclr a v => Sys2Proof.Machine.execKaclr a v s
  | .ovEnter vbat => Sys2Proof.Machine.execOvEnter vbat s
  | .uvzEnter vbat => Sys2Proof.Machine.execUvzEnter vbat s
  | .uvzExit vbat bad => Sys2Proof.Machine.execUvzExit vbat bad s
  | .uvhEnter vbat => Sys2Proof.Machine.execUvhEnter vbat s
  | .uvhExit vbat ns => Sys2Proof.Machine.execUvhExit vbat ns s
  | .powerOnReset vbat => Sys2Proof.Machine.execPowerOnReset vbat s
  | .railBrownout rail => Sys2Proof.Machine.execRailBrownout rail s
  | .imageRebuild => Sys2Proof.Machine.execImageRebuild s
  | .resume ns good bad => Sys2Proof.Machine.execResume ns good bad s
  | .deepEntry below => Sys2Proof.Machine.execDeepEntry below s
  | .deepWake ns bad => Sys2Proof.Machine.execDeepWake ns bad s
  | .vbakChangeover backup => Sys2Proof.Machine.execVbakChangeover backup s
  | .vbakLow mv => Sys2Proof.Machine.execVbakLow mv s
  | .twarnEnter temp => Sys2Proof.Machine.execTwarnEnter temp s
  | .twarnExit temp => Sys2Proof.Machine.execTwarnExit temp s
  | .thermalReset supply temp => Sys2Proof.Machine.execThermalReset supply temp s
  | .baseplateOvertemp temp => Sys2Proof.Machine.execBaseplateOvertemp temp s
  | .powerReportTick zone stage supply vbat vbak temps => Sys2Proof.Machine.execPowerReportTick zone stage supply vbat vbak temps s
  | .clrmin a v => Sys2Proof.Machine.execClrmin a v s
  | .pmuClrcnt a v => Sys2Proof.Machine.execPmuClrcnt a v s
  | .impreciseStoreFault k addr status => Sys2Proof.Machine.execImpreciseStoreFault k addr status s
  | .dirtyLineEcc k => Sys2Proof.Machine.execDirtyLineEcc k s
  | .pairMismatch p lane nlanes pc => Sys2Proof.Machine.execPairMismatch p lane nlanes pc s
  | .cmpInject a p v => Sys2Proof.Machine.execCmpInject a p v s
  | .cmpInjectResult p caught pc => Sys2Proof.Machine.execCmpInjectResult p caught pc s
  | .cmpMmclr a p v => Sys2Proof.Machine.execCmpMmclr a p v s
  | .cmpClrcnt a v => Sys2Proof.Machine.execCmpClrcnt a v s
  | .evrRaise a v => Sys2Proof.Machine.execEvrRaise a v s
  | .evrAck a v => Sys2Proof.Machine.execEvrAck a v s
  | .sfeDefine a v => Sys2Proof.Machine.execSfeDefine a v s
  | .sfeStart a v => Sys2Proof.Machine.execSfeStart a v s
  | .quiesce a v => Sys2Proof.Machine.execQuiesce a v s
  | .sfeQuiesced f => Sys2Proof.Machine.execSfeQuiesced f s
  | .sfeQuiesceTimeout f => Sys2Proof.Machine.execSfeQuiesceTimeout f s
  | .sfeResume a v => Sys2Proof.Machine.execSfeResume a v s
  | .force a v => Sys2Proof.Machine.execForce a v s
  | .sfeReset a v => Sys2Proof.Machine.execSfeReset a v s
  | .undefine a v => Sys2Proof.Machine.execUndefine a v s
  | .save a v => Sys2Proof.Machine.execSave a v s
  | .saveDone => Sys2Proof.Machine.execSaveDone s
  | .restore a v => Sys2Proof.Machine.execRestore a v s
  | .restoreDone => Sys2Proof.Machine.execRestoreDone s
  | .dirtysync a v => Sys2Proof.Machine.execDirtysync a v s
  | .sfeInval a v => Sys2Proof.Machine.execSfeInval a v s
  | .vfDmaAccess mid f addr size data => Sys2Proof.Machine.execVfDmaAccess mid f addr size data s
  | .vfVectorRaise f v => Sys2Proof.Machine.execVfVectorRaise f v s
  | .sfeStateEcc f => Sys2Proof.Machine.execSfeStateEcc f s
  | .brgOutboundRequest a addr size data ecc => Sys2Proof.Machine.execBrgOutboundRequest a addr size data ecc s
  | .brgCompletion id st data => Sys2Proof.Machine.execBrgCompletion id st data s
  | .brgFlushTrigger w => Sys2Proof.Machine.execBrgFlushTrigger w s
  | .brgErrorMessage farId => Sys2Proof.Machine.execBrgErrorMessage farId s
  | .brgHeaderLogDone addr ca => Sys2Proof.Machine.execBrgHeaderLogDone addr ca s
  | .brgFlushComplete w st => Sys2Proof.Machine.execBrgFlushComplete w st s
  | .brgCompletionTimeout w => Sys2Proof.Machine.execBrgCompletionTimeout w s
  | .brgLinkDown => Sys2Proof.Machine.execBrgLinkDown s
  | .brgLinkUp width speed => Sys2Proof.Machine.execBrgLinkUp width speed s
  | .brgFence a => Sys2Proof.Machine.execBrgFence a s
  | .brgElogpop a v => Sys2Proof.Machine.execBrgElogpop a v s
  | .brgInboundRequest farId addr size data ecc => Sys2Proof.Machine.execBrgInboundRequest farId addr size data ecc s
  | .brgAmo a op addr wide arg => Sys2Proof.Machine.execBrgAmo a op addr wide arg s
  | .brgLr a addr wide => Sys2Proof.Machine.execBrgLr a addr wide s
  | .brgSc a addr wide arg => Sys2Proof.Machine.execBrgSc a addr wide arg s
  | .brgLockExpiry => Sys2Proof.Machine.execBrgLockExpiry s
  | .brgPollRead n => Sys2Proof.Machine.execBrgPollRead n s
  | .brgPollComplete n ok v => Sys2Proof.Machine.execBrgPollComplete n ok v s
  | .brgCfgRequest a v => Sys2Proof.Machine.execBrgCfgRequest a v s
  | .brgHotrst a v => Sys2Proof.Machine.execBrgHotrst a v s
  | .brgWindowEnable a inbound w v => Sys2Proof.Machine.execBrgWindowEnable a inbound w v s
  | .brgClrcnt a v => Sys2Proof.Machine.execBrgClrcnt a v s
  | .ddpPacket x => Sys2Proof.Machine.execDdpPacket x s
  | .ddpRead via p => Sys2Proof.Machine.execDdpRead via p s
  | .ddpWrite via p => Sys2Proof.Machine.execDdpWrite via p s
  | .ddpDesc via p => Sys2Proof.Machine.execDdpDesc via p s
  | .ddpDwrite via p => Sys2Proof.Machine.execDdpDwrite via p s
  | .ddpDread via p => Sys2Proof.Machine.execDdpDread via p s
  | .ddpSegment via tid segno last data ecc => Sys2Proof.Machine.execDdpSegment via tid segno last data ecc s
  | .ddpDack via p => Sys2Proof.Machine.execDdpDack via p s
  | .ddpDend via p => Sys2Proof.Machine.execDdpDend via p s
  | .ddpAbort via p => Sys2Proof.Machine.execDdpAbort via p s
  | .ddpOpen via p => Sys2Proof.Machine.execDdpOpen via p s
  | .ddpClose via p => Sys2Proof.Machine.execDdpClose via p s
  | .ddpTransferTimeout x => Sys2Proof.Machine.execDdpTransferTimeout x s
  | .ddpSessionExpiry n => Sys2Proof.Machine.execDdpSessionExpiry n s
  | .ddpFwqAnswer a w v => Sys2Proof.Machine.execDdpFwqAnswer a w v s
  | .ddpFwTimeout w => Sys2Proof.Machine.execDdpFwTimeout w s
  | .sesGo a n v => Sys2Proof.Machine.execSesGo a n v s
  | .ddpArp frame => Sys2Proof.Machine.execDdpArp frame s
  | .ddpClrcnt a v => Sys2Proof.Machine.execDdpClrcnt a v s
  | .keyGeneration => Sys2Proof.Machine.execKeyGeneration s
  | .trngHealthFail => Sys2Proof.Machine.execTrngHealthFail s
  | .gcmEnc a ses => Sys2Proof.Machine.execGcmEnc a ses s
  | .gcmDec a ses => Sys2Proof.Machine.execGcmDec a ses s
  | .cmacGen a ses => Sys2Proof.Machine.execCmacGen a ses s
  | .cmacVer a ses => Sys2Proof.Machine.execCmacVer a ses s
  | .sha512 a ses => Sys2Proof.Machine.execSha512 a ses s
  | .rsaSign a ses => Sys2Proof.Machine.execRsaSign a ses s
  | .rsaVer a ses => Sys2Proof.Machine.execRsaVer a ses s
  | .derive a ses => Sys2Proof.Machine.execDerive a ses s
  | .unwrap a ses => Sys2Proof.Machine.execUnwrap a ses s
  | .loadpub a ses => Sys2Proof.Machine.execLoadpub a ses s
  | .random a ses => Sys2Proof.Machine.execRandom a ses s
  | .attest a ses => Sys2Proof.Machine.execAttest a ses s
  | .mextend a ses => Sys2Proof.Machine.execMextend a ses s
  | .keyHold a ses => Sys2Proof.Machine.execKeyHold a ses s
  | .keyRel a ses => Sys2Proof.Machine.execKeyRel a ses s
  | .keyInval a ses slot => Sys2Proof.Machine.execKeyInval a ses slot s
  | .keyOpStart e => Sys2Proof.Machine.execKeyOpStart e s
  | .keyOpComplete e => Sys2Proof.Machine.execKeyOpComplete e s
  | .keyZeroise slot => Sys2Proof.Machine.execKeyZeroise slot s
  | .keyHoldExpiry slot => Sys2Proof.Machine.execKeyHoldExpiry slot s
  | .advance a v => Sys2Proof.Machine.execAdvance a v s
  | .token a v => Sys2Proof.Machine.execToken a v s
  | .decommission a v => Sys2Proof.Machine.execDecommission a v s
  | .returnedZeroise => Sys2Proof.Machine.execReturnedZeroise s
  | .keyAuthhashWrite a k v => Sys2Proof.Machine.execKeyAuthhashWrite a k v s
  | .keyArrayEcc slot => Sys2Proof.Machine.execKeyArrayEcc slot s
  | .keyClrcnt a v => Sys2Proof.Machine.execKeyClrcnt a v s
  | .resetAssert src => Sys2Proof.Machine.execResetAssert src s
  | .resetRelease src bad => Sys2Proof.Machine.execResetRelease src bad s
  | .optionLoad mv0 mv1 mv2 mv3 ecc => Sys2Proof.Machine.execOptionLoad mv0 mv1 mv2 mv3 ecc s
  | .bootRomCheck => Sys2Proof.Machine.execBootRomCheck s
  | .dramTrained => Sys2Proof.Machine.execDramTrained s
  | .partitionReset target bad => Sys2Proof.Machine.execPartitionReset target bad s
  | .watchdogKick a w => Sys2Proof.Machine.execWatchdogKick a w s
  | .watchdogHalf w => Sys2Proof.Machine.execWatchdogHalf w s
  | .watchdogExpiry w => Sys2Proof.Machine.execWatchdogExpiry w s
  | .rstSwreq a v => Sys2Proof.Machine.execRstSwreq a v s
  | .protSeal a v => Sys2Proof.Machine.execProtSeal a v s
  | .rstFloorWrite a v => Sys2Proof.Machine.execRstFloorWrite a v s
  | .rstBkhashWrite a k v => Sys2Proof.Machine.execRstBkhashWrite a k v s
  | .rstBkrevWrite a v => Sys2Proof.Machine.execRstBkrevWrite a v s
  | .optsrcFuse a v => Sys2Proof.Machine.execOptsrcFuse a v s
  | .debugHalt k => Sys2Proof.Machine.execDebugHalt k s
  | .debugResume k => Sys2Proof.Machine.execDebugResume k s
  | .debugStep k => Sys2Proof.Machine.execDebugStep k s
  | .debugAbstractCommand k addr size data => Sys2Proof.Machine.execDebugAbstractCommand k addr size data s
  | .ndmreset => Sys2Proof.Machine.execNdmreset s
  | .hartreset k on => Sys2Proof.Machine.execHartreset k on s
  | .hbxPulse width => Sys2Proof.Machine.execHbxPulse width s
  | .metreRegistration => Sys2Proof.Machine.execMetreRegistration s
  | .hbxStandbyEntry => Sys2Proof.Machine.execHbxStandbyEntry s
  | .hbxActiveWake => Sys2Proof.Machine.execHbxActiveWake s
  | .hbxSensorProbe pulse => Sys2Proof.Machine.execHbxSensorProbe pulse s
  | .hbxOff => Sys2Proof.Machine.execHbxOff s
  | .hbxPowerReturn => Sys2Proof.Machine.execHbxPowerReturn s
  | .hbxPps err => Sys2Proof.Machine.execHbxPps err s
  | .hbxNmea rmc gga lat lon => Sys2Proof.Machine.execHbxNmea rmc gga lat lon s
  | .hbxTimeMark => Sys2Proof.Machine.execHbxTimeMark s
  | .sealRecord => Sys2Proof.Machine.execSealRecord s
  | .hbxStatusTick => Sys2Proof.Machine.execHbxStatusTick s
  | .hbxMidnight => Sys2Proof.Machine.execHbxMidnight s
  | .hbxCard slot ev => Sys2Proof.Machine.execHbxCard slot ev s
  | .hbxTamper code isBegin vals => Sys2Proof.Machine.execHbxTamper code isBegin vals s
  | .hbxGnssWindow dg => Sys2Proof.Machine.execHbxGnssWindow dg s
  | .hbxSpeedSecond => Sys2Proof.Machine.execHbxSpeedSecond s
  | .hbxLockstepMismatch => Sys2Proof.Machine.execHbxLockstepMismatch s
  | .hbxRecordPush => Sys2Proof.Machine.execHbxRecordPush s
  | .seamRecordReceive ecc => Sys2Proof.Machine.execSeamRecordReceive ecc s
  | .ping a w v => Sys2Proof.Machine.execPing a w v s
  | .getSwid a w v => Sys2Proof.Machine.execGetSwid a w v s
  | .getStatus a w v => Sys2Proof.Machine.execGetStatus a w v s
  | .resend a w v => Sys2Proof.Machine.execResend a w v s
  | .activity a w v => Sys2Proof.Machine.execActivity a w v s
  | .manualEntry a w v => Sys2Proof.Machine.execManualEntry a w v s
  | .wheelSpeed a w v => Sys2Proof.Machine.execWheelSpeed a w v s
  | .timeref a w v => Sys2Proof.Machine.execTimeref a w v s
  | .tollContext a w v => Sys2Proof.Machine.execTollContext a w v s
  | .download a w v => Sys2Proof.Machine.execDownload a w v s
  | .calibrate a w v => Sys2Proof.Machine.execCalibrate a w v s
  | .timeAdjust a w v => Sys2Proof.Machine.execTimeAdjust a w v s
  | .fwBegin a w v => Sys2Proof.Machine.execFwBegin a w v s
  | .fwSegment a w v => Sys2Proof.Machine.execFwSegment a w v s
  | .fwCommit a w v => Sys2Proof.Machine.execFwCommit a w v s
  | .seal a w v => Sys2Proof.Machine.execSeal a w v s
  | .seamResponse => Sys2Proof.Machine.execSeamResponse s
  | .seamCommandTimeout => Sys2Proof.Machine.execSeamCommandTimeout s
  | .seamLinkChange up => Sys2Proof.Machine.execSeamLinkChange up s
  | .seamClrcnt a v => Sys2Proof.Machine.execSeamClrcnt a v s
  | .updManifest bytes => Sys2Proof.Machine.execUpdManifest bytes s
  | .updSegment n bytes => Sys2Proof.Machine.execUpdSegment n bytes s
  | .updRelay k bitmap st ecc => Sys2Proof.Machine.execUpdRelay k bitmap st ecc s
  | .updRelayRetry k => Sys2Proof.Machine.execUpdRelayRetry k s
  | .updActivate a v => Sys2Proof.Machine.execUpdActivate a v s
  | .updConfirm a v => Sys2Proof.Machine.execUpdConfirm a v s
  | .updDiscard a v => Sys2Proof.Machine.execUpdDiscard a v s
  | .updRollback a v => Sys2Proof.Machine.execUpdRollback a v s
  | .updCmdCancel a v => Sys2Proof.Machine.execUpdCmdCancel a v s
  | .actPrepare from_ m => Sys2Proof.Machine.execActPrepare from_ m s
  | .actReady m => Sys2Proof.Machine.execActReady m s
  | .actNotready m => Sys2Proof.Machine.execActNotready m s
  | .actCancel m => Sys2Proof.Machine.execActCancel m s
  | .actCancelack m => Sys2Proof.Machine.execActCancelack m s
  | .actDone m => Sys2Proof.Machine.execActDone m s
  | .updGuardCheck => Sys2Proof.Machine.execUpdGuardCheck s
  | .updCancelRepeat => Sys2Proof.Machine.execUpdCancelRepeat s
  | .updCommit => Sys2Proof.Machine.execUpdCommit s
  | .updActivationInstant => Sys2Proof.Machine.execUpdActivationInstant s
  | .updConfirmTimeout => Sys2Proof.Machine.execUpdConfirmTimeout s
  | .updClrcnt a v => Sys2Proof.Machine.execUpdClrcnt a v s
  | .creditWaitLimit k unit a us lease => Sys2Proof.Machine.execCreditWaitLimit k unit a us lease s
  | .clmConfRead a => Sys2Proof.Machine.execClmConfRead a s
  | .clmLockAcquire a n => Sys2Proof.Machine.execClmLockAcquire a n s
  | .clmLockRelease a n => Sys2Proof.Machine.execClmLockRelease a n s
  | .clmLockExpiry n => Sys2Proof.Machine.execClmLockExpiry n s
  | .clmRevoke a v => Sys2Proof.Machine.execClmRevoke a v s
  | .revocationDone => Sys2Proof.Machine.execRevocationDone s
  | .clmDrainLimit => Sys2Proof.Machine.execClmDrainLimit s
  | .clmIsoclr a v => Sys2Proof.Machine.execClmIsoclr a v s
  | .clmClrcnt a v => Sys2Proof.Machine.execClmClrcnt a v s
  | .thermalRecovery n tj => Sys2Proof.Machine.execThermalRecovery n tj s
  | .hatbandPhyFault ch ready => Sys2Proof.Machine.execHatbandPhyFault ch ready s
  | .linWakeupPulse n => Sys2Proof.Machine.execLinWakeupPulse n s
  | .hostFrameFetched q memErr => Sys2Proof.Machine.execHostFrameFetched q memErr s
  | .hbxIdkeyGenerated => Sys2Proof.Machine.execHbxIdkeyGenerated s

end Sys2Proof.Machine
end

