-- ==== Sys2Proof/Machine/Tick.lean ====
section
/-! DEFINITION. What the passing of one nanosecond does by itself, with no command: the FRC counts (R40), and what waits only
for time or for room is handed on. -/

namespace Sys2Proof.Machine

/-- The FRC advances by one on a tick of the timebase PLL (R40); it stands still while the timebase is stopped (R41). -/
def Chip.frcTick (c : Chip) : Chip :=
  if c.time.started && !c.time.stopped then { c with time := { c.time with frc := (c.time.frc + 1) % 2 ^ 64 } } else c

/-- What the running zone die does at a tick: byte sinks of both logic engines take their bytes when due (R145), dictionary
packets go to a transport that has become free, fences whose requests are answered complete (R22). -/
def Chip.zoneTick (c : Chip) : Chip := ((c.leBytes 0).leBytes 1).ddpPump.fencesDone

/-- One nanosecond passes. -/
def Chip.tick (c : Chip) : Chip :=
  let c : Chip := { c with now := c.now + 1 }
  c.frcTick.when c.zoneUp Chip.zoneTick

/-- One nanosecond passes for the machine: no memory changes and no command is taken. -/
def State.tick (s : State) : State := { s with chip := s.chip.tick }

end Sys2Proof.Machine
end

