-- ==== Sys2Proof/WellFormed.lean ====
section
/-! DEFINITION. Well-formed commands: an operand that stands for a field of fixed width fits it, and a list operand is no
longer than the hardware unit it fills. Operands that number a unit of the module are bounded by their types. -/

namespace Sys2Proof

/-- Whether every operand of a command fits the field or the unit it stands for. -/
def Instr.wellFormed (i : Instr) : Bool :=
  match i with
  | .registerWrite _ addr _ => decide (addr.toNat % 4 = 0)
  | .word128LowRead _ addr => decide (addr.toNat % 16 = 0)
  | .word128LowerWrite _ addr _ _ => decide (addr.toNat % 16 = 0)
  | .word128HighWrite _ addr _ => decide (addr.toNat % 16 = 0)
  | .fabricAccess _ o addr size _ => decide (size.val ∈ [1, 2, 4, 8, 16, 32, 64]) && decide (addr.toNat % size.val = 0) && (match o with | .write d => d.length == size.val | .amo _ _ => size.val == 4 || size.val == 8 | _ => true)
  | .fabricFence _ => true
  | .frcStart => true
  | .crystalLost => true
  | .tdIncWrite _ _ _ => true
  | .tdOfsWrite _ _ _ => true
  | .tdStepWrite _ _ _ => true
  | .tdCtlWrite _ _ _ => true
  | .timeSnapTake _ _ => true
  | .timeConv _ _ => true
  | .timeMarkLatch _ => true
  | .timeMarkTimeout => true
  | .pbEnable _ _ _ => true
  | .pbDisable _ _ _ => true
  | .pbResync _ _ _ => true
  | .pbSetWrite _ _ _ => true
  | .pbEdge _ => true
  | .mirrorRecord _ => true
  | .pbStallTimeout _ => true
  | .holdRelease _ => true
  | .seqWrite _ _ => true
  | .seqRead _ _ => true
  | .seqCancel _ _ => true
  | .seqArm _ _ => true
  | .seqHandoff _ => true
  | .lateHandoff _ => true
  | .seqRetimePass => true
  | .seqFire _ => true
  | .verifyTimeout => true
  | .seqLerrRead _ => true
  | .seqClrcnt _ _ => true
  | .sqoFire _ => true
  | .doorbellKick _ => true
  | .lsOff _ => true
  | .lsOn _ => true
  | .pwmPeriodStart _ _ => true
  | .loadDuty _ => true
  | .lsUnlock _ _ _ => true
  | .lsClr _ _ _ => true
  | .pwmSelfTimedPeriod _ _ => true
  | .pwmOnTimeEnd _ => true
  | .limitEnter _ _ => true
  | .limitExit _ _ => true
  | .shortCircuitTimeout _ => true
  | .thermalShutdown _ _ => true
  | .retryExpiry _ => true
  | .retryCountReset _ => true
  | .inrushWindowEnd _ => true
  | .demagnetisationEnd _ _ => true
  | .clampLeakTick _ => true
  | .distClear _ => true
  | .budgetTick bankMa bankMv lugMv => decide (bankMa.length = 12) && decide (bankMv.length = 12) && decide (lugMv.length = 4)
  | .shedStep _ => true
  | .soselWrite _ _ _ => true
  | .sliceSilence _ => true
  | .lsHeartbeat _ => true
  | .heartbeatMiss => true
  | .orphanFallback _ => true
  | .cuffLinkUp _ => true
  | .holdReadbackDone _ => true
  | .lsAdopt _ _ => true
  | .lsSafeoff _ _ => true
  | .cuffReset _ _ => true
  | .sliceFault _ => true
  | .lscClrcnt _ _ => true
  | .leCycleStart _ => true
  | .leOutputCommit _ => true
  | .leNop _ => true
  | .leLd _ area addr => decide (addr.val < bitAreaSize area.val)
  | .leLdn _ area addr => decide (addr.val < bitAreaSize area.val)
  | .leAnd _ area addr => decide (addr.val < bitAreaSize area.val)
  | .leAndn _ area addr => decide (addr.val < bitAreaSize area.val)
  | .leOr _ area addr => decide (addr.val < bitAreaSize area.val)
  | .leOrn _ area addr => decide (addr.val < bitAreaSize area.val)
  | .leXor _ area addr => decide (addr.val < bitAreaSize area.val)
  | .leXorn _ area addr => decide (addr.val < bitAreaSize area.val)
  | .leSt _ area addr => decide (addr.val < bitAreaSize area.val) && (area.val == 1 || area.val == 2)
  | .leStn _ area addr => decide (addr.val < bitAreaSize area.val) && (area.val == 1 || area.val == 2)
  | .leSet _ area addr => decide (addr.val < bitAreaSize area.val) && (area.val == 1 || area.val == 2)
  | .leRst _ area addr => decide (addr.val < bitAreaSize area.val) && (area.val == 1 || area.val == 2)
  | .leNot _ => true
  | .leSetr _ => true
  | .leClrr _ => true
  | .lePsh _ => true
  | .lePopa _ => true
  | .lePopo _ => true
  | .lePopx _ => true
  | .leRedg _ ix => decide (ix.val < 2048)
  | .leFedg _ ix => decide (ix.val < 2048)
  | .leTon _ ix => decide (ix.val < 1024)
  | .leTof _ ix => decide (ix.val < 1024)
  | .leTp _ ix => decide (ix.val < 1024)
  | .leTps _ ix => decide (ix.val < 1024)
  | .leTel _ ix => decide (ix.val < 1024)
  | .leCtu _ ix => decide (ix.val < 512)
  | .leCtd _ ix => decide (ix.val < 512)
  | .leCrs _ ix => decide (ix.val < 512)
  | .leCld _ ix => decide (ix.val < 512)
  | .leCvl _ ix => decide (ix.val < 512)
  | .leCps _ ix => decide (ix.val < 512)
  | .leLdw _ l _ _ _ _ => decide (l.val < 5)
  | .leStw _ l src _ _ _ => decide (l.val < 5) && src.val % 2 == 0
  | .leAdd _ l _ _ _ _ => decide (l.val < 5)
  | .leSub _ l _ _ _ _ => decide (l.val < 5)
  | .leAdds _ l _ _ _ _ => decide (l.val < 5)
  | .leSubs _ l _ _ _ _ => decide (l.val < 5)
  | .leMul _ l _ _ _ _ => decide (l.val < 5)
  | .leAndw _ l _ _ _ _ => decide (l.val < 5)
  | .leOrw _ l _ _ _ _ => decide (l.val < 5)
  | .leXorw _ l _ _ _ _ => decide (l.val < 5)
  | .leShl _ l _ _ _ _ => decide (l.val < 5)
  | .leShr _ l _ _ _ _ => decide (l.val < 5)
  | .leMin _ l _ _ _ _ => decide (l.val < 5)
  | .leMax _ l _ _ _ _ => decide (l.val < 5)
  | .leCeq _ l _ _ _ _ => decide (l.val < 5)
  | .leCne _ l _ _ _ _ => decide (l.val < 5)
  | .leClt _ l _ _ _ _ => decide (l.val < 5)
  | .leCle _ l _ _ _ _ => decide (l.val < 5)
  | .leCgt _ l _ _ _ _ => decide (l.val < 5)
  | .leCge _ l _ _ _ _ => decide (l.val < 5)
  | .leSel _ l _ _ _ _ => decide (l.val < 5)
  | .leLdx _ => true
  | .leLds _ _ => true
  | .leJmp _ _ => true
  | .leJc _ _ => true
  | .leJnc _ _ => true
  | .leCall _ _ => true
  | .leRet _ => true
  | .leEnd _ => true
  | .leModeRun _ _ _ => true
  | .leModeStop _ _ _ => true
  | .leModeHold _ _ _ => true
  | .leStep _ _ _ => true
  | .leScyc _ _ _ => true
  | .leClrflt _ _ _ => true
  | .leClrcnt _ _ _ => true
  | .leStopactCommit _ => true
  | .leForceDelivery _ => true
  | .le0Mismatch => true
  | .leOnlineChange _ _ _ => true
  | .leMemRead _ _ => true
  | .leMemWrite _ _ _ => true
  | .xchgGo _ _ _ => true
  | .xchgCheckDone _ => true
  | .xchgCancel _ _ _ => true
  | .leEcc _ => true
  | .eswDecisionPoint _ frame _ _ _ => decide (60 ≤ frame.length)
  | .eswFrameTail _ _ _ _ _ => true
  | .eswTxSelect _ => true
  | .eswTxEnd _ _ => true
  | .eswLinkDown _ => true
  | .eswLinkUp _ rate _ => rate.val != 0
  | .eswTblRead _ _ _ => true
  | .eswTblWrite _ _ => true
  | .eswLookup _ _ => true
  | .eswInsert _ _ => true
  | .eswDelete _ _ => true
  | .eswFlush _ _ => true
  | .eswFlushdyn _ _ => true
  | .eswAgeTick => true
  | .eswGateStep _ => true
  | .eswHqTrigger _ => true
  | .eswTsfifoRead _ _ => true
  | .eswRecoveryReset _ => true
  | .eswPortEnable _ _ _ => true
  | .eswPortClrcnt _ _ _ => true
  | .hbdEnable _ _ => true
  | .hbdDisable _ _ => true
  | .hbdHalt _ _ => true
  | .hbdClrcnt _ _ => true
  | .hbdCycleStart => true
  | .hbdSlotTransmit _ => true
  | .hbdBufferCopy _ _ => true
  | .hbdFrameReceive _ _ _ => true
  | .hbdStaticEnd => true
  | .hbdCorrack _ _ => true
  | .guardianMark _ => true
  | .guardianCut _ => true
  | .guardianFault => true
  | .hbdListenExpiry => true
  | .hbdMinislot _ _ => true
  | .hbdBufCommit _ _ => true
  | .hbdBufTxreq _ _ => true
  | .hbdBufClr _ _ => true
  | .hbdMreq _ _ => true
  | .hbdStdataWrite _ _ => true
  | .hbdModeWrite _ _ _ => true
  | .canRxFrame _ _ => true
  | .canArbitrationStart _ => true
  | .canTxComplete _ => true
  | .canTxFail _ _ _ _ => true
  | .canTxreq _ _ _ => true
  | .canTxTrigger _ _ => true
  | .canCancel _ _ _ => true
  | .canCommit _ _ _ => true
  | .canClrnew _ _ _ => true
  | .canDescWrite _ _ _ _ => true
  | .canBusOff _ => true
  | .canRecover _ _ _ => true
  | .canBusoffRecovered _ => true
  | .canStale _ _ => true
  | .canClrcnt _ _ _ => true
  | .gwMaxlatExpiry _ _ => true
  | .gwInboundFrame _ _ => true
  | .linSlot _ => true
  | .linTrigger _ _ => true
  | .linResponse _ _ _ => true
  | .linSleep _ _ _ => true
  | .linBufCommit _ _ _ _ => true
  | .linClrcnt _ _ _ => true
  | .dinFilterExpiry _ _ => true
  | .dinFaultChange _ _ => true
  | .dinCfgWrite _ _ _ => true
  | .lswPoll _ _ => true
  | .ainTrig _ _ => true
  | .converterTrigger _ => true
  | .ainStepDone _ _ _ => true
  | .ainSeqEnd _ => true
  | .pxEdge _ _ _ => true
  | .pxFifoRead _ _ => true
  | .segIsoWrite _ _ => true
  | .wakeSource _ => true
  | .busWake _ => true
  | .sleepTimerWake => true
  | .sleepVote _ _ => true
  | .readyTimeout => true
  | .keepAwakeMessage _ _ _ _ => true
  | .guardWindowOpen => true
  | .sleepCommit _ => true
  | .sleepEntered => true
  | .wakeHoldExpiry => true
  | .wakeValidate _ _ => true
  | .kaclr _ _ => true
  | .ovEnter _ => true
  | .uvzEnter _ => true
  | .uvzExit _ _ => true
  | .uvhEnter _ => true
  | .uvhExit _ _ => true
  | .powerOnReset _ => true
  | .railBrownout _ => true
  | .imageRebuild => true
  | .resume _ _ _ => true
  | .deepEntry _ => true
  | .deepWake _ _ => true
  | .vbakChangeover _ => true
  | .vbakLow _ => true
  | .twarnEnter _ => true
  | .twarnExit _ => true
  | .thermalReset _ _ => true
  | .baseplateOvertemp _ => true
  | .powerReportTick _ _ _ _ _ _ => true
  | .clrmin _ _ => true
  | .pmuClrcnt _ _ => true
  | .impreciseStoreFault _ _ _ => true
  | .dirtyLineEcc _ => true
  | .pairMismatch _ _ _ _ => true
  | .cmpInject _ _ _ => true
  | .cmpInjectResult _ _ _ => true
  | .cmpMmclr _ _ _ => true
  | .cmpClrcnt _ _ => true
  | .evrRaise _ _ => true
  | .evrAck _ _ => true
  | .sfeDefine _ _ => true
  | .sfeStart _ _ => true
  | .quiesce _ _ => true
  | .sfeQuiesced _ => true
  | .sfeQuiesceTimeout _ => true
  | .sfeResume _ _ => true
  | .force _ _ => true
  | .sfeReset _ _ => true
  | .undefine _ _ => true
  | .save _ _ => true
  | .saveDone => true
  | .restore _ _ => true
  | .restoreDone => true
  | .dirtysync _ _ => true
  | .sfeInval _ _ => true
  | .vfDmaAccess mid _ _ size data => decide (mid.val ∈ [11, 12, 14, 16, 18]) && decide (0 < size.val) && (match data with | none => true | some d => d.length == size.val)
  | .vfVectorRaise _ _ => true
  | .sfeStateEcc _ => true
  | .brgOutboundRequest _ addr size data _ => decide (size.val ∈ [1, 2, 4, 8, 16, 32, 64]) && decide (addr.toNat % size.val = 0) && (match data with | none => true | some d => d.length == size.val)
  | .brgCompletion _ _ _ => true
  | .brgFlushTrigger _ => true
  | .brgErrorMessage _ => true
  | .brgHeaderLogDone _ _ => true
  | .brgFlushComplete _ _ => true
  | .brgCompletionTimeout _ => true
  | .brgLinkDown => true
  | .brgLinkUp _ _ => true
  | .brgFence _ => true
  | .brgElogpop _ _ => true
  | .brgInboundRequest _ _ size data _ => match data with | none => size.val != 0 | some d => d.length == size.val && decide (0 < size.val ∧ size.val ≤ 256)
  | .brgAmo _ _ addr wide _ => decide (addr.toNat % (if wide then 8 else 4) = 0)
  | .brgLr _ addr wide => decide (addr.toNat % (if wide then 8 else 4) = 0)
  | .brgSc _ addr wide _ => decide (addr.toNat % (if wide then 8 else 4) = 0)
  | .brgLockExpiry => true
  | .brgPollRead _ => true
  | .brgPollComplete _ _ _ => true
  | .brgCfgRequest _ _ => true
  | .brgHotrst _ _ => true
  | .brgWindowEnable _ inbound w _ => !inbound || decide (w.val < 16)
  | .brgClrcnt _ _ => true
  | .ddpPacket _ => true
  | .ddpRead _ p => decide (p.data.length < 65536) && (p.tag.length == (if p.auth then 8 else 0))
  | .ddpWrite _ p => decide (p.data.length < 65536) && (p.tag.length == (if p.auth then 8 else 0))
  | .ddpDesc _ p => decide (p.data.length < 65536) && (p.tag.length == (if p.auth then 8 else 0))
  | .ddpDwrite _ p => decide (p.data.length < 65536) && (p.tag.length == (if p.auth then 8 else 0))
  | .ddpDread _ p => decide (p.data.length < 65536) && (p.tag.length == (if p.auth then 8 else 0))
  | .ddpSegment _ _ _ _ _ _ => true
  | .ddpDack _ p => decide (p.data.length < 65536) && (p.tag.length == (if p.auth then 8 else 0))
  | .ddpDend _ p => decide (p.data.length < 65536) && (p.tag.length == (if p.auth then 8 else 0))
  | .ddpAbort _ p => decide (p.data.length < 65536) && (p.tag.length == (if p.auth then 8 else 0))
  | .ddpOpen _ p => decide (p.data.length < 65536) && (p.tag.length == (if p.auth then 8 else 0))
  | .ddpClose _ p => decide (p.data.length < 65536) && (p.tag.length == (if p.auth then 8 else 0))
  | .ddpTransferTimeout _ => true
  | .ddpSessionExpiry _ => true
  | .ddpFwqAnswer _ _ _ => true
  | .ddpFwTimeout _ => true
  | .sesGo _ _ _ => true
  | .ddpArp _ => true
  | .ddpClrcnt _ _ => true
  | .keyGeneration => true
  | .trngHealthFail => true
  | .gcmEnc _ _ => true
  | .gcmDec _ _ => true
  | .cmacGen _ _ => true
  | .cmacVer _ _ => true
  | .sha512 _ _ => true
  | .rsaSign _ _ => true
  | .rsaVer _ _ => true
  | .derive _ _ => true
  | .unwrap _ _ => true
  | .loadpub _ _ => true
  | .random _ _ => true
  | .attest _ _ => true
  | .mextend _ _ => true
  | .keyHold _ _ => true
  | .keyRel _ _ => true
  | .keyInval _ _ _ => true
  | .keyOpStart _ => true
  | .keyOpComplete _ => true
  | .keyZeroise _ => true
  | .keyHoldExpiry _ => true
  | .advance _ _ => true
  | .token _ _ => true
  | .decommission _ _ => true
  | .returnedZeroise => true
  | .keyAuthhashWrite _ _ _ => true
  | .keyArrayEcc _ => true
  | .keyClrcnt _ _ => true
  | .resetAssert src => match src with | .swReq r => r == 2 || r == 3 | _ => true
  | .resetRelease _ _ => true
  | .optionLoad _ _ _ _ _ => true
  | .bootRomCheck => true
  | .dramTrained => true
  | .partitionReset _ _ => true
  | .watchdogKick _ _ => true
  | .watchdogHalf _ => true
  | .watchdogExpiry _ => true
  | .rstSwreq _ _ => true
  | .protSeal _ _ => true
  | .rstFloorWrite _ _ => true
  | .rstBkhashWrite _ _ _ => true
  | .rstBkrevWrite _ _ => true
  | .optsrcFuse _ _ => true
  | .debugHalt _ => true
  | .debugResume _ => true
  | .debugStep _ => true
  | .debugAbstractCommand _ _ size _ => decide (size.val ∈ [1, 2, 4, 8, 16])
  | .ndmreset => true
  | .hartreset _ _ => true
  | .hbxPulse _ => true
  | .metreRegistration => true
  | .hbxStandbyEntry => true
  | .hbxActiveWake => true
  | .hbxSensorProbe _ => true
  | .hbxOff => true
  | .hbxPowerReturn => true
  | .hbxPps _ => true
  | .hbxNmea _ _ _ _ => true
  | .hbxTimeMark => true
  | .sealRecord => true
  | .hbxStatusTick => true
  | .hbxMidnight => true
  | .hbxCard _ _ => true
  | .hbxTamper _ _ _ => true
  | .hbxGnssWindow _ => true
  | .hbxSpeedSecond => true
  | .hbxLockstepMismatch => true
  | .hbxRecordPush => true
  | .seamRecordReceive _ => true
  | .ping _ _ _ => true
  | .getSwid _ _ _ => true
  | .getStatus _ _ _ => true
  | .resend _ _ _ => true
  | .activity _ _ _ => true
  | .manualEntry _ _ _ => true
  | .wheelSpeed _ _ _ => true
  | .timeref _ _ _ => true
  | .tollContext _ _ _ => true
  | .download _ _ _ => true
  | .calibrate _ _ _ => true
  | .timeAdjust _ _ _ => true
  | .fwBegin _ _ _ => true
  | .fwSegment _ _ _ => true
  | .fwCommit _ _ _ => true
  | .seal _ _ _ => true
  | .seamResponse => true
  | .seamCommandTimeout => true
  | .seamLinkChange _ => true
  | .seamClrcnt _ _ => true
  | .updManifest _ => true
  | .updSegment _ _ => true
  | .updRelay _ _ _ _ => true
  | .updRelayRetry _ => true
  | .updActivate _ _ => true
  | .updConfirm _ _ => true
  | .updDiscard _ _ => true
  | .updRollback _ _ => true
  | .updCmdCancel _ _ => true
  | .actPrepare _ _ => true
  | .actReady _ => true
  | .actNotready _ => true
  | .actCancel _ => true
  | .actCancelack _ => true
  | .actDone _ => true
  | .updGuardCheck => true
  | .updCancelRepeat => true
  | .updCommit => true
  | .updActivationInstant => true
  | .updConfirmTimeout => true
  | .updClrcnt _ _ => true
  | .creditWaitLimit _ _ _ _ _ => true
  | .clmConfRead _ => true
  | .clmLockAcquire _ _ => true
  | .clmLockRelease _ _ => true
  | .clmLockExpiry _ => true
  | .clmRevoke _ _ => true
  | .revocationDone => true
  | .clmDrainLimit => true
  | .clmIsoclr _ _ => true
  | .clmClrcnt _ _ => true
  | .thermalRecovery _ _ => true
  | .hatbandPhyFault _ _ => true
  | .linWakeupPulse _ => true
  | .hostFrameFetched _ _ => true
  | .hbxIdkeyGenerated => true

end Sys2Proof
end

