-- ==== Sys2Proof/Safety.lean ====
section
/-! DEFINITION. The terms that statements about the machine use: when a command is issued, what a command leaves as it was, where
the event router writes, and the invariant that every step keeps. -/

namespace Sys2Proof.Machine

/-! ### Outcomes -/

/-- Command `i` completes from `s` in a next state that meets `p`. -/
def Runs (i : Instr) (s : State) (p : State → Prop) : Prop := ∃ t, exec i s = .next t ∧ p t

/-- Agent `a` may issue a request and is behind no isolation gate (R30, R544). -/
def Chip.admits (c : Chip) (a : Agent) : Bool :=
  c.issues a && (match a.vf with | none => !c.midIsolated a.mid.val | some v => !c.vfIsolated v.val)

/-- The world agent `a` acts for. -/
def Chip.worldOfAgent (c : Chip) (a : Agent) : Nat := (c.who a).world

/-! ### What stays as it was -/

/-- The memories and the queue are as before: every byte of every address reads as it did. -/
def State.memKept (s t : State) : Prop := t.pending = s.pending ∧ ∀ a : Nat, memByte t.mem a = memByte s.mem a

/-- The parts of the module besides its registers. -/
inductive Part
  | now | freeCtr | fab | time | seq | lsc | le | esw | hbd | can | nmw | pmu | brg | core | hbx | seam | ddp | key | sfe | rst
  | update | clm
  deriving DecidableEq, Repr

/-- A part is as before. -/
def Part.kept (p : Part) (c d : Chip) : Prop :=
  match p with
  | .now => d.now = c.now
  | .freeCtr => d.freeCtr = c.freeCtr
  | .fab => d.fab = c.fab
  | .time => d.time = c.time
  | .seq => d.seq = c.seq
  | .lsc => d.lsc = c.lsc
  | .le => d.le = c.le
  | .esw => d.esw = c.esw
  | .hbd => d.hbd = c.hbd
  | .can => d.can = c.can
  | .nmw => d.nmw = c.nmw
  | .pmu => d.pmu = c.pmu
  | .brg => d.brg = c.brg
  | .core => d.core = c.core
  | .hbx => d.hbx = c.hbx
  | .seam => d.seam = c.seam
  | .ddp => d.ddp = c.ddp
  | .key => d.key = c.key
  | .sfe => d.sfe = c.sfe
  | .rst => d.rst = c.rst
  | .update => d.update = c.update
  | .clm => d.clm = c.clm

/-- Whether an address is one that raising an event may write: the router's block, the lost counter of a VF, a VF's vector
(R334, R335, R351). -/
def eventAddr (a : Nat) : Prop :=
  (0x30250000 ≤ a ∧ a < 0x30260000) ∨ (0x40000000 ≤ a ∧ a < 0x40400000) ∨
  (0x301F010C ≤ a ∧ a < 0x301F210C ∧ (a - 0x301F010C) % 0x80 = 0)

/-- Only the parts listed and the registers whose address meets `w` may differ: every other register reads as before, and the
variant of the module is the same. -/
def Chip.frame (ps : List Part) (w : Nat → Prop) (c d : Chip) : Prop :=
  (∀ p : Part, p ∉ ps → p.kept c d) ∧ (∀ r : Reg, ¬ w r.addr → d.rd r = c.rd r) ∧ d.variantH = c.variantH ∧
  d.stepping = c.stepping

/-- A frame of the whole machine: the memories and the queue are kept too. -/
def State.frame (ps : List Part) (w : Nat → Prop) (s t : State) : Prop := s.memKept t ∧ s.chip.frame ps w t.chip

/-- One of these addresses. -/
def among (l : List Nat) (a : Nat) : Prop := a ∈ l

/-- One of these addresses, or one that raising an event may write. -/
def amongEv (l : List Nat) (a : Nat) : Prop := a ∈ l ∨ eventAddr a

/-- Event `n` is pending (R334). -/
def Chip.pends (c : Chip) (n : Nat) : Bool := c.flag (EVR_ST_PEND n)

/-- Whether there is such a holder: a master, a virtual function or a session of the module. -/
def LeaseHolder.real (h : LeaseHolder) : Bool :=
  match h with
  | .mid m => decide (m < 20)
  | .vf f => decide (f < 64)
  | .ses n => decide (n < 64)

/-- The addresses of `r 0`, …, `r (n - 1)`. -/
def addrs (n : Nat) (r : Nat → Reg) : List Nat := (List.range n).map fun i => (r i).addr

/-- The status registers of the four channels of channel `n`'s bank (R105). -/
def bankStats (n : Nat) : List Nat := addrs 4 fun i => LSC_CH_STAT (4 * (n / 4) + i)

end Sys2Proof.Machine
end

