-- ==== Sys2Proof/Certificates/Slice0/Obligations.lean ====
section
/-! DEFINITION. The statements about the model, for its provers: for each family of commands what they do and what they leave alone,
the rules of the whole machine, and the invariant that every step keeps. -/

open Sys2Proof Sys2Proof.Machine

/-! ### The machine as a whole -/

/-- A step with a command at the front of the queue is that command's effect on the state with the queue's rest. On an empty queue one
  nanosecond passes, in which the FRC advances by one while the timebase runs (R40) and no memory changes; that a step on an empty queue
  is such a tick is the model's choice (log entry 1). -/
def Obligations.StepRunsFrontCommand : Prop :=
  (∀ (i : Instr) (s : State), step { s with pending := i :: s.pending } = exec i s) ∧
  (∀ s : State, s.pending = [] → ∃ t : State, step s = .next t ∧ t.chip.now = s.chip.now + 1 ∧
    t.chip.time.frc = (if s.chip.time.started && !s.chip.time.stopped then (s.chip.time.frc + 1) % 2 ^ 64 else s.chip.time.frc) ∧
    t.mem = s.mem ∧ t.pending = [])

/-- After reset the queue is empty, the memories list nothing and have their canonical form, the FRC is zero and has not started, and
  every register reads its reset value, among them RST_MW8 with W2 for LE0 (R31) and PF0 as ACTIVE in W1 (R345). That unlisted memory
  reads zero, that the life cycle starts in BLANK and every value of a register whose reset value the spec does not give are the model's
  choices (log entries 2 and 3). -/
def Obligations.ResetMeetsInvariant : Prop :=
  State.reset.pending = [] ∧ Memory.wf State.reset.mem = true ∧ (∀ a : Nat, memByte State.reset.mem a = 0) ∧
  (∀ r : Reg, State.reset.chip.rd r = BitVec.ofNat 128 r.rst) ∧
  State.reset.chip.time.frc = 0 ∧ State.reset.chip.time.started = false ∧
  State.reset.chip.get (RST_MW_WORLD 8) = 2 ∧ State.reset.chip.fnState 64 = 2 ∧ State.reset.chip.get (SFE_FN_CFG_WORLD 64) = 1 ∧
  (∀ f : Fin 64, State.reset.chip.fnState f.val = 0) ∧ State.reset.chip.key.lcs = lcBLANK

/-- From every state whose memories are in their canonical form (addresses rising, no cell at the value an unlisted address reads as),
  every step, whatever command is at the front of the queue or none, answers a next state, and that state's memories are in the form
  again. -/
def Obligations.EveryStepKeepsMemoryForm : Prop :=
  ∀ s : State, Memory.wf s.mem = true → ∃ t : State, step s = .next t ∧ Memory.wf t.mem = true

/-- No command stops, and none takes, adds or reorders a waiting command: from every state each command answers a next state whose queue
  is the queue before. -/
def Obligations.EveryCommandLeavesTheQueue : Prop :=
  ∀ (i : Instr) (s : State), ∃ t : State, exec i s = .next t ∧ t.pending = s.pending

/-- The 20-byte header of R389 with its data and tag, followed by any padding, parses to the packet it was made from, for every value of
  every field that R387's first check admits: a known command, STATUS zero in a request other than DACK and ABORT, SEGNO zero except in
  DACK, 8 tag bytes with AUTH and none without. -/
def Obligations.PacketBytesParseBack : Prop :=
  ∀ (p : DdpPacket) (pad : List Byte),
    (1 ≤ p.cmd.toNat ∧ p.cmd.toNat ≤ 10) → (p.resp = true ∨ p.cmd.toNat = 6 ∨ p.cmd.toNat = 8 ∨ p.status = 0) →
    (p.cmd.toNat = 6 ∨ p.segno = 0) → p.data.length < 65536 → p.tag.length = (if p.auth then 8 else 0) →
    parsePacket (packetBody p ++ p.tag ++ pad) = some p

/-- TIME_SNAP_FRC takes the FRC of the tick, and each TIME_SNAP_TDn the value of domain n at that same tick; nothing else changes. A write
  of 0 changes nothing. -/
def Obligations.SnapshotLatchesFrcAndDomains : Prop :=
  ∀ (s : State) (a : Agent) (v : W32), s.chip.admits a = true →
    (bits v.toNat 0 0 = 1 → Runs (.timeSnapTake a v) s fun t =>
      t.chip.get TIME_SNAP_FRC_FRC = s.chip.time.frc % 2 ^ 64 ∧ (∀ n : Fin 8, t.chip.rd (TIME_SNAP_TD n.val) = BitVec.ofNat 128
        (s.chip.tdRead n.val s.chip.time.frc)) ∧ (s.frame [] (among (TIME_SNAP_FRC.addr :: (List.range 8).map fun n => (TIME_SNAP_TD
        n).addr)) t)) ∧
    (bits v.toNat 0 0 = 0 → Runs (.timeSnapTake a v) s fun t =>
      t = s)

/-- A write to any register of PBn from a world other than the base's owner, by the base's own commands or as a register write, changes no
  register but PBn_STAT, whose LASTERR becomes DENIED_WORLD, and raises EV0112 + n. (The writes of PB0 that R65 ignores for every world
  record nothing and are left to that rule.) -/
def Obligations.PositionBaseWriteByAnotherWorld : Prop :=
  ∀ (s : State) (a : Agent) (n : Fin 16), s.chip.admits a = true ∧ a.vf = none → s.chip.claims (s.chip.worldOfAgent a) 6 n.val = false →
    (∀ (v : W32), n.val ≠ 0 → Runs (.pbEnable a n v) s fun t =>
      t.chip.get (PB_STAT_LASTERR n.val) = stDENIED_WORLD ∧ t.chip.pends (112 + n.val) = true ∧ s.frame [.core] (amongEv [(PB_STAT
        n.val).addr]) t) ∧
    (∀ (v : W32), n.val ≠ 0 → Runs (.pbDisable a n v) s fun t =>
      t.chip.get (PB_STAT_LASTERR n.val) = stDENIED_WORLD ∧ t.chip.pends (112 + n.val) = true ∧ s.frame [.core] (amongEv [(PB_STAT
        n.val).addr]) t) ∧
    (∀ (v : W32), n.val ≠ 0 → Runs (.pbResync a n v) s fun t =>
      t.chip.get (PB_STAT_LASTERR n.val) = stDENIED_WORLD ∧ t.chip.pends (112 + n.val) = true ∧ s.frame [.core] (amongEv [(PB_STAT
        n.val).addr]) t) ∧
    (∀ (v : W128), n.val ≠ 0 → Runs (.pbSetWrite a n v) s fun t =>
      t.chip.get (PB_STAT_LASTERR n.val) = stDENIED_WORLD ∧ t.chip.pends (112 + n.val) = true ∧ s.frame [.core] (amongEv [(PB_STAT
        n.val).addr]) t) ∧
    (∀ (r : Reg) (v : W128), (r ∈ [PB_POS n.val, PB_EDGE n.val, PB_PER n.val, PB_TOL n.val, PB_HZN n.val, PB_STAT n.val, PB_CNT n.val] ∨
      n.val ≠ 0 ∧ r ∈ [PB_SET n.val, PB_CFG n.val, PB_EST n.val, PB_STALL n.val, PB_CTL n.val]) → Runs (.registerWrite a (BitVec.ofNat 40
      r.addr) v) s fun t =>
      t.chip.get (PB_STAT_LASTERR n.val) = stDENIED_WORLD ∧ t.chip.pends (112 + n.val) = true ∧ s.frame [.core] (amongEv [(PB_STAT
        n.val).addr]) t)

/-! ### Time and position bases -/

/-- An accepted write of TDn_INC re-anchors the domain at the present tick at its present value and loads the increment, and clears
  QFORCED (R43, R44, R47); an accepted write of TDn_OFS re-anchors it at the written value and counts it, and one of TDn_STEP moves it by
  the signed step (R43, R46); a write of TDn_CTL takes QUAL (R47, R48). -/
def Obligations.TimeDomainWritesTakeEffect : Prop :=
  ∀ (s : State) (a : Agent) (n : Fin 8), s.chip.admits a = true → s.chip.claims (s.chip.worldOfAgent a) 5 n.val = true →
    (∀ (v : W128), (n.val ≤ 1 → 0x0000FFDF3B645A1D ≤ v.toNat % 2 ^ 64 ∧ v.toNat % 2 ^ 64 ≤ 0x00010020C49BA5E3) → Runs (.tdIncWrite a n v) s
      fun t =>
      t.chip.get (TD_INC_INC n.val) = v.toNat % 2 ^ 64 ∧ t.chip.get (TD_ANCHOR_FRC n.val) = s.chip.time.frc % 2 ^ 64 ∧ t.chip.rd (TD_OFS
        n.val) = BitVec.ofNat 128 (tvWord (s.chip.tdAt n.val s.chip.time.frc)) ∧ t.chip.flag (TD_STAT_APPLIED n.val) = true ∧ t.chip.flag
        (TD_STAT_QFORCED n.val) = false) ∧
    (∀ (v : W128), bits v.toNat 79 48 ≤ 999999999 → Runs (.tdOfsWrite a n v) s fun t =>
      t.chip.rd (TD_OFS n.val) = BitVec.ofNat 128 (tvWord (tvUnits v.toNat)) ∧ t.chip.get (TD_ANCHOR_FRC n.val) = s.chip.time.frc % 2 ^ 64
        ∧ t.chip.get (TD_INC_INC n.val) = s.chip.get (TD_INC_INC n.val) ∧ t.chip.get (TD_STAT_STEPS n.val) = (s.chip.get (TD_STAT_STEPS
        n.val) + 1) % 256 ∧ (n.val = 0 → t.chip.pends 128 = true)) ∧
    (∀ (v : W128), Runs (.tdStepWrite a n v) s fun t =>
      t.chip.rd (TD_OFS n.val) = BitVec.ofNat 128 (tvWord (((s.chip.tdAt n.val s.chip.time.frc : Int) + signed 80 v.toNat) % ((2 ^ 48 *
        secUnits : Nat) : Int)).toNat) ∧ t.chip.get (TD_ANCHOR_FRC n.val) = s.chip.time.frc % 2 ^ 64 ∧ t.chip.get (TD_INC_INC n.val) =
        s.chip.get (TD_INC_INC n.val) ∧ t.chip.get (TD_STAT_STEPS n.val) = (s.chip.get (TD_STAT_STEPS n.val) + 1) % 256 ∧ (n.val = 0 →
        t.chip.pends 128 = true)) ∧
    (∀ (v : W32), n.val ≠ 1 → s.chip.flag (TD_STAT_QFORCED n.val) = false → Runs (.tdCtlWrite a n v) s fun t =>
      t.chip.get (TD_CTL_QUAL n.val) = v.toNat % 4 ∧ t.chip.get (TD_CTL_SRC n.val) = s.chip.get (TD_CTL_SRC n.val) ∧ t.chip.flag
        (TD_STAT_APPLIED n.val) = true) ∧
    (∀ (v : W32), n.val = 1 → bits v.toNat 5 4 ≤ 1 → (bits v.toNat 5 4 = 1 → s.chip.variantH = true) → s.chip.flag (TD_STAT_QFORCED 1) =
      false → Runs (.tdCtlWrite a n v) s fun t =>
      t.chip.get (TD_CTL_QUAL 1) = v.toNat % 4 ∧ t.chip.get (TD_CTL_SRC 1) = bits v.toNat 5 4 ∧ t.chip.flag (TD_STAT_APPLIED 1) = true)

/-- A write of a time domain by a world that does not claim it is refused with DENIED_WORLD, shown in LASTERR and REFUSED, with EV0129;
  nothing else of the module changes but the event router (R44). -/
def Obligations.TimeDomainWritesRefused : Prop :=
  ∀ (s : State) (a : Agent) (n : Fin 8) (v : W128) (x : W32), s.chip.admits a = true → s.chip.claims (s.chip.worldOfAgent a) 5 n.val =
    false →
    (Runs (.tdIncWrite a n v) s fun t =>
      t.chip.get (TD_STAT_LASTERR n.val) = stDENIED_WORLD ∧ t.chip.flag (TD_STAT_REFUSED n.val) = true ∧ t.chip.pends 129 = true ∧ s.frame
        [.core] (amongEv [(TD_STAT n.val).addr]) t) ∧
    (Runs (.tdOfsWrite a n v) s fun t =>
      t.chip.get (TD_STAT_LASTERR n.val) = stDENIED_WORLD ∧ t.chip.flag (TD_STAT_REFUSED n.val) = true ∧ t.chip.pends 129 = true ∧ s.frame
        [.core] (amongEv [(TD_STAT n.val).addr]) t) ∧
    (Runs (.tdStepWrite a n v) s fun t =>
      t.chip.get (TD_STAT_LASTERR n.val) = stDENIED_WORLD ∧ t.chip.flag (TD_STAT_REFUSED n.val) = true ∧ t.chip.pends 129 = true ∧ s.frame
        [.core] (amongEv [(TD_STAT n.val).addr]) t) ∧
    (Runs (.tdCtlWrite a n x) s fun t =>
      t.chip.get (TD_STAT_LASTERR n.val) = stDENIED_WORLD ∧ t.chip.flag (TD_STAT_REFUSED n.val) = true ∧ t.chip.pends 129 = true ∧ s.frame
        [.core] (amongEv [(TD_STAT n.val).addr]) t)

/-- The FRC starts at zero when the timebase first locks (R39); a lost crystal forces every domain's quality to 0 and raises EV0130 (R38);
  a conversion answers the requester (R51); a Hatbox mark is stamped with the FRC and raises EV0131, and its absence for 2 s raises EV0132
  (R49). -/
def Obligations.TimeEventsAndCaptures : Prop :=
  ∀ (s : State),
    (s.chip.time.started = false → s.chip.rst.episode = none → s.chip.rst.releasing = some 4 → s.chip.rst.relStep = .pll → Runs (.frcStart)
      s fun t =>
      t.chip.time.frc = 0 ∧ t.chip.time.started = true ∧ t.chip.flag TIME_STAT_TBLOCK = true ∧ t.chip.rst.relStep = .options ∧ s.frame
        [.time, .rst] (among [TIME_STAT.addr]) t) ∧
    (s.chip.flag TIME_STAT_TBLOCK = true → s.chip.flag TIME_STAT_XTALLOST = false → Runs (.crystalLost) s fun t =>
      t.chip.flag TIME_STAT_XTALLOST = true ∧ t.chip.pends 130 = true ∧ (∀ n : Fin 8, t.chip.get (TD_CTL_QUAL n.val) = 0 ∧ t.chip.flag
        (TD_STAT_QFORCED n.val) = true)) ∧
    (∀ (a : Agent) (v : W128), s.chip.admits a = true → bits v.toNat 67 64 < 8 → Runs (.timeConv a v) s fun t =>
      look 0 t.chip.time.convOut (agentKey a) = s.chip.tdRead (bits v.toNat 67 64) (v.toNat % 2 ^ 64) ∧ look 0 t.chip.time.convIn
        (agentKey a) = v.toNat % 2 ^ 68 ∧ s.frame [.time] (among []) t) ∧
    (∀ (utc : W128), s.chip.zoneUp = true → s.chip.variantH = true → Runs (.timeMarkLatch utc) s fun t =>
      t.chip.rd TIME_T1M_UTC = utc ∧ t.chip.get TIME_T1M_FRC_FRC = s.chip.time.frc % 2 ^ 64 ∧ t.chip.flag TIME_STAT_T1MNEW = true ∧
        t.chip.pends 131 = true ∧ t.chip.time.lastMark = some s.chip.time.frc ∧ s.frame [.time, .core, .seam] (amongEv [TIME_T1M_UTC.addr,
        TIME_T1M_FRC.addr, TIME_STAT.addr]) t) ∧
    (∀ (m : Nat), s.chip.zoneUp = true → s.chip.get (TD_CTL_SRC 1) = 1 → s.chip.time.lastMark = some m → m + 2000000000 ≤ s.chip.time.frc →
      Runs (.timeMarkTimeout) s fun t =>
      t.chip.pends 132 = true ∧ t.chip.time.lastMark = none ∧ s.frame [.time, .core] eventAddr t)

/-- A base that is enabled waits for its first edge with its counters cleared and no estimate (R55, R57); one that is disabled is OFF
  (R57); RESYNC takes a tracking base back to UNSYNC (R59); PB_SET moves the cycle count and leaves the fraction of the position (R65). -/
def Obligations.PositionBaseControl : Prop :=
  ∀ (s : State) (a : Agent) (n : Fin 16), s.chip.admits a = true → s.chip.claims (s.chip.worldOfAgent a) 6 n.val = true → n.val ≠ 0 →
    (∀ (v : W32), s.chip.flag (PB_CTL_EN n.val) = false → s.chip.pbCfgCheck n.val = stOK → (∀ p ∈ s.chip.pbNeeds n.val, s.chip.pxConflict
      (s.chip.worldOfAgent a) n.val p = none) → Runs (.pbEnable a n v) s fun t =>
      t.chip.flag (PB_CTL_EN n.val) = true ∧ t.chip.get (PB_STAT_STATE n.val) = 1 ∧ t.chip.rd (PB_CNT n.val) = 0 ∧ t.chip.get (PB_PER_P
        n.val) = 0xFFFFFFFFFFFF ∧ t.chip.flag (PB_STAT_HELD n.val) = false) ∧
    (∀ (v : W32), s.chip.flag (PB_CTL_EN n.val) = true → Runs (.pbDisable a n v) s fun t =>
      t.chip.flag (PB_CTL_EN n.val) = false ∧ t.chip.get (PB_STAT_STATE n.val) = 0 ∧ t.chip.get (PB_PER_P n.val) = 0xFFFFFFFFFFFF) ∧
    (∀ (v : W32), s.chip.flag (PB_CTL_EN n.val) = true → v.toNat.testBit 0 = true → (s.chip.get (PB_STAT_STATE n.val) = 3 ∨ s.chip.get
      (PB_STAT_STATE n.val) = 4) → Runs (.pbResync a n v) s fun t =>
      t.chip.get (PB_STAT_STATE n.val) = 2 ∧ t.chip.flag (PB_CTL_EN n.val) = true) ∧
    (∀ (v : W128), Runs (.pbSetWrite a n v) s fun t =>
      (t.chip.tracker n.val).pe % 2 ^ 32 = (s.chip.tracker n.val).pe % 2 ^ 32 ∧ (s.chip.reportedAt n.val s.chip.time.frc = (s.chip.tracker
        n.val).pe → (t.chip.tracker n.val).pe / 2 ^ 32 % 2 ^ 32 = bits v.toNat 63 32))

/-- A tracker that waits takes its first edge as a tooth at the edge's stamp: in SYNC at once where its wheel has no gap (R57); a Hatbox
  record is such an edge of every mirror base (R64); a tracker without an edge for PBn_STALL µs is STALLED, without an estimate, and
  raises its event (R63); a held position is released when the line has reached it (R61). -/
def Obligations.PositionBaseEdges : Prop :=
  ∀ (s : State) (n : Fin 16), s.chip.zoneUp = true →
    (∀ (e : EdgeIn) (es : List EdgeIn), (s.chip.tracker n.val).edges = e :: es → s.chip.get (PB_STAT_STATE n.val) = 1 → s.chip.pbGap n.val
      = 0 → Runs (.pbEdge n) s fun t =>
      t.chip.get (PB_STAT_STATE n.val) = 4 ∧ t.chip.get (PB_EDGE_FRC n.val) = e.stamp % 2 ^ 64 ∧ (t.chip.tracker n.val).edges = es) ∧
    (∀ (metres : Nat), s.chip.variantH = true → s.chip.flag (PB_CTL_EN n.val) = true → s.chip.get (PB_CFG_SRC n.val) = 2 → s.chip.get
      (PB_STAT_STATE n.val) = 1 → Runs (.mirrorRecord metres) s fun t =>
      t.chip.get (PB_STAT_STATE n.val) = 4 ∧ t.chip.get (PB_EDGE_FRC n.val) = s.chip.time.frc % 2 ^ 64) ∧
    ((s.chip.get (PB_STAT_STATE n.val) = 2 ∨ s.chip.get (PB_STAT_STATE n.val) = 3 ∨ s.chip.get (PB_STAT_STATE n.val) = 4) → s.chip.get
      (PB_STALL_US n.val) ≠ 0 → s.chip.pbTe n.val + s.chip.get (PB_STALL_US n.val) * 1000 ≤ s.chip.time.frc → Runs (.pbStallTimeout n) s
      fun t =>
      t.chip.get (PB_STAT_STATE n.val) = 5 ∧ t.chip.get (PB_PER_P n.val) = 0xFFFFFFFFFFFF ∧ t.chip.pends (112 + n.val) = true) ∧
    (∀ (h : Nat), (s.chip.tracker n.val).heldPos = some h → beyond (s.chip.pbRev n.val) h (s.chip.estAt n.val s.chip.time.frc) = false →
      Runs (.holdRelease n) s fun t =>
      t.chip.flag (PB_STAT_HELD n.val) = false ∧ (t.chip.tracker n.val).heldPos = none ∧ s.frame [.time] (among [(PB_STAT n.val).addr]) t)

/-! ### Event sequencer -/

/-- At the port of its own world, on an entry whose range that world claims: WRITE stores the content and answers OK, and while the
  sequencer is off the entry then waits with exactly the written fields (R79, R81); READ shows the entry in the port's two words and
  changes nothing else (R82); CANCEL frees the entry, or, once it is committed, lets it fire and reports AFTERCOMMIT (R82). -/
def Obligations.SequencerPortCommands : Prop :=
  ∀ (s : State) (a : Agent) (w : Fin 5) (i : Nat), s.chip.admits a = true → s.chip.worldOfAgent a = w.val → s.chip.get (SEQ_P_IDX_N w.val)
    = i → s.chip.claims w.val 0 (i / 256) = true →
    (s.chip.writeCheck w.val (s.chip.rdN (SEQ_P_D0 w.val)) (s.chip.rdN (SEQ_P_D1 w.val)) = stOK → (s.chip.baseReady (entryOf (s.chip.rdN
      (SEQ_P_D0 w.val)) 0).base (entryOf (s.chip.rdN (SEQ_P_D0 w.val)) 0).dir && s.chip.passed (entryOf (s.chip.rdN (SEQ_P_D0 w.val))
      (s.chip.rdN (SEQ_P_D1 w.val)))) = false → (s.chip.entry i).st ≠ .committed → Runs (.seqWrite a w) s fun t =>
      t.chip.rd (SEQ_P_RES w.val) = 0 ∧ (s.chip.flag SEQ_CTL_EN = false → t.chip.entry i =
        { entryOf (s.chip.rdN (SEQ_P_D0 w.val)) (s.chip.rdN (SEQ_P_D1 w.val)) with st := .waiting })) ∧
    (Runs (.seqRead a w) s fun t =>
      t.chip.rd (SEQ_P_D0 w.val) = BitVec.ofNat 128 (entryWord0 (s.chip.entry i)) ∧ t.chip.rd (SEQ_P_D1 w.val) = BitVec.ofNat 128
        (entryWord1 (s.chip.entry i)) ∧ t.chip.rd (SEQ_P_RES w.val) = 0 ∧ s.frame [] (among [(SEQ_P_D0 w.val).addr, (SEQ_P_D1 w.val).addr,
        (SEQ_P_RES w.val).addr]) t) ∧
    ((s.chip.entry i).st ≠ .committed → Runs (.seqCancel a w) s fun t =>
      t.chip.entry i = {} ∧ t.chip.rd (SEQ_P_RES w.val) = 0) ∧
    ((s.chip.entry i).st = .committed → Runs (.seqCancel a w) s fun t =>
      t.chip.entry i = { s.chip.entry i with freeAfter := true, nextWords := none } ∧ t.chip.get (SEQ_P_RES_STATUS w.val) = stOK ∧
        t.chip.flag (SEQ_P_RES_AFTERCOMMIT w.val) = true)

/-- A port command of a world that is not the port's does nothing but raise EV0071 (R78); on an entry outside the ranges its world claims
  it answers DENIED_WORLD, raises EV0071 and leaves every entry as it was (R79). -/
def Obligations.SequencerPortRefusals : Prop :=
  ∀ (s : State) (a : Agent) (w : Fin 5), s.chip.admits a = true →
    (s.chip.worldOfAgent a ≠ w.val → Runs (.seqWrite a w) s fun t =>
      t.chip.pends 71 = true ∧ s.frame [.core] eventAddr t) ∧
    (s.chip.worldOfAgent a ≠ w.val → Runs (.seqRead a w) s fun t =>
      t.chip.pends 71 = true ∧ s.frame [.core] eventAddr t) ∧
    (s.chip.worldOfAgent a ≠ w.val → Runs (.seqCancel a w) s fun t =>
      t.chip.pends 71 = true ∧ s.frame [.core] eventAddr t) ∧
    (s.chip.worldOfAgent a = w.val → s.chip.claims w.val 0 (s.chip.get (SEQ_P_IDX_N w.val) / 256) = false → Runs (.seqWrite a w) s fun t =>
      t.chip.rd (SEQ_P_RES w.val) = BitVec.ofNat 128 stDENIED_WORLD ∧ t.chip.pends 71 = true ∧ s.frame [.core] (amongEv [(SEQ_P_RES
        w.val).addr]) t) ∧
    (s.chip.worldOfAgent a = w.val → s.chip.claims w.val 0 (s.chip.get (SEQ_P_IDX_N w.val) / 256) = false → Runs (.seqCancel a w) s fun t
      =>
      t.chip.rd (SEQ_P_RES w.val) = BitVec.ofNat 128 stDENIED_WORLD ∧ t.chip.pends 71 = true ∧ s.frame [.core] (amongEv [(SEQ_P_RES
        w.val).addr]) t)

/-- A waiting entry of a base that is ready is armed once its fire tick lies within the look-ahead and not below the horizon (R85), or set
  to FAULT with EV0073 on an uncorrectable error (R102); an armed occurrence whose target is held and accepts goes to the target at its
  commit point (R84, R87); a late one does with the first fire tick at or after the hand-off plus the horizon, counted with EV0066 (R89);
  a committed occurrence fires at its tick, is counted and enters the verify list (R90, R97, R98). -/
def Obligations.SequencerOccurrences : Prop :=
  ∀ (s : State) (i : Fin 8192), s.chip.zoneUp = true →
    ((s.chip.entry i.val).st ≠ .free → Runs (.seqArm i true) s fun t =>
      (t.chip.entry i.val).st = .fault ∧ t.chip.pends 73 = true) ∧
    (∀ (f : Nat), (s.chip.entry i.val).st = .waiting → s.chip.seqRuns = true → s.chip.baseReady (s.chip.entry i.val).base (s.chip.entry
      i.val).dir = true → s.chip.passed (s.chip.entry i.val) = false → s.chip.fireTick (s.chip.entry i.val).base (s.chip.entry i.val).pos
      (s.chip.entry i.val).dir = some f → f ≤ s.chip.time.frc + s.chip.get (SEQ_B_LA_US (s.chip.entry i.val).base) * 1000 →
      s.chip.time.frc + horizon (s.chip.entry i.val).cls ≤ f → s.chip.windowCount < 256 → Runs (.seqArm i false) s fun t =>
      t.chip.entry i.val =
        { s.chip.entry i.val with st := .armed, fire := f, gen := s.chip.get (PB_STAT_GEN (s.chip.entry i.val).base), lateOcc := false, held := false }
        ∧ s.frame [.seq] (among [SEQ_STAT.addr]) t) ∧
    ((s.chip.entry i.val).st = .armed → (s.chip.entry i.val).held = false → (s.chip.entry i.val).lateOcc = false → s.chip.seqRuns = true →
      (s.chip.entry i.val).fire ≤ s.chip.time.frc + 318 + horizon (s.chip.entry i.val).cls → s.chip.time.frc + horizon (s.chip.entry
      i.val).cls ≤ (s.chip.entry i.val).fire → s.chip.earlierTwin i.val = false → s.chip.targetHeld (s.chip.entry i.val).owner
      (s.chip.entry i.val).cls (s.chip.entry i.val).target = true → s.chip.targetRefusal (s.chip.entry i.val).cls (s.chip.entry
      i.val).target = none → Runs (.seqHandoff i) s fun t =>
      t.chip.entry i.val = { s.chip.entry i.val with st := .committed, lateOcc := false } ∧ t.chip.seq.acts = s.chip.seq.acts ++
        [{ fire := (s.chip.entry i.val).fire, cls := (s.chip.entry i.val).cls, target := (s.chip.entry i.val).target, arg := (s.chip.entry i.val).arg, seqEntry := some i.val }]
        ∧ s.frame [.seq] (among [SEQ_STAT.addr]) t) ∧
    ((s.chip.entry i.val).st = .armed → (s.chip.entry i.val).held = false → (s.chip.entry i.val).lateOcc = true → s.chip.seqRuns = true →
      (s.chip.entry i.val).base < 16 → s.chip.targetHeld (s.chip.entry i.val).owner (s.chip.entry i.val).cls (s.chip.entry i.val).target =
      true → s.chip.targetRefusal (s.chip.entry i.val).cls (s.chip.entry i.val).target = none → Runs (.lateHandoff i) s fun t =>
      (t.chip.entry i.val).st = .committed ∧ (t.chip.entry i.val).fire = s.chip.time.frc + horizon (s.chip.entry i.val).cls ∧ t.chip.get
        (SEQ_B_LATE_N (s.chip.entry i.val).base) = min (s.chip.get (SEQ_B_LATE_N (s.chip.entry i.val).base) + 1) 0xFFFFFFFF ∧ t.chip.pends
        66 = true) ∧
    ((s.chip.entry i.val).st = .committed → (s.chip.entry i.val).fire ≤ s.chip.time.frc → (s.chip.entry i.val).base < 16 → ((s.chip.entry
      i.val).cls = 6 → (s.chip.entry i.val).target < 1024) → s.chip.seq.verify.length < 64 → Runs (.seqFire i) s fun t =>
      t.chip.get (SEQ_B_FIRED_N (s.chip.entry i.val).base) = min (s.chip.get (SEQ_B_FIRED_N (s.chip.entry i.val).base) + 1) 0xFFFFFFFF ∧
        ((s.chip.entry i.val).cls = 6 → t.chip.pends (s.chip.entry i.val).target = true) ∧ t.chip.seq.verify = s.chip.seq.verify ++
        [{ entry := i.val, base := (s.chip.entry i.val).base, cls := (s.chip.entry i.val).cls, pos := (s.chip.entry i.val).pos, fire := (s.chip.entry i.val).fire, prevEdge := s.chip.pbTe (s.chip.entry i.val).base, prevPos := (s.chip.tracker (s.chip.entry i.val).base).pe }])

/-- A re-timing pass shows in SEQ_GEN the bases it served and leaves none waiting (R94, R95); the verify list loses what is older than
  65.536 ms (R98); reading SEQ_LERR takes the oldest record (R101); CLRCNT written by W2 clears the counters (R101); a sequencer output
  takes the level of its due action: low, high, the opposite of its last, or released (R77). -/
def Obligations.SequencerRetimingAndRecords : Prop :=
  ∀ (s : State),
    (s.chip.zoneUp = true → s.chip.seq.retime ≠ [] → Runs (.seqRetimePass) s fun t =>
      t.chip.seq.retime = [] ∧ (t.chip.get SEQ_GEN_BASES = s.chip.seq.retime.foldl (fun m b => setBit m b true) 0 % 65536)) ∧
    (s.chip.zoneUp = true → Runs (.verifyTimeout) s fun t =>
      (t.chip.seq = { s.chip.seq with verify := s.chip.seq.verify.filter fun v => decide (s.chip.time.frc < v.fire + 65536000) }) ∧
        s.frame [.seq] (among []) t) ∧
    (∀ (a : Agent), s.chip.admits a = true → Runs (.seqLerrRead a) s fun t =>
      t.chip.seq = { s.chip.seq with lerr := s.chip.seq.lerr.drop 1 } ∧ t.chip.get SEQ_LERR_STAT_HELD = (s.chip.seq.lerr.length - 1) % 256
        ∧ look {} t.chip.fab.resp (agentKey a) = { err := false, data := (s.chip.seq.lerr.headD 0).toNat % 2 ^ 32 } ∧ s.frame [.seq, .fab]
        (among [SEQ_LERR_STAT.addr]) t) ∧
    (∀ (a : Agent) (v : W32), s.chip.admits a = true → s.chip.worldOfAgent a = 2 → Runs (.seqClrcnt a v) s fun t =>
      t.chip.rd SEQ_WFCNT = 0 ∧ t.chip.flag SEQ_CTL_EN = v.toNat.testBit 0 ∧ (∀ n : Fin 16, t.chip.rd (SEQ_B_FIRED n.val) = 0 ∧ t.chip.rd
        (SEQ_B_SQUASH n.val) = 0 ∧ t.chip.rd (SEQ_B_LATE n.val) = 0 ∧ t.chip.rd (SEQ_B_LEADN n.val) = 0 ∧ t.chip.rd (SEQ_B_REFUSED n.val)
        = 0 ∧ t.chip.rd (SEQ_B_MAXLEAD n.val) = 0)) ∧
    (∀ (n : Fin 32) (x : Action), s.chip.zoneUp = true → s.chip.dueAction 1 n.val = some x → Runs (.sqoFire n) s fun t =>
      look none t.chip.seq.sqoDrive n.val = (if x.arg % 4 = 3 then none else some (if x.arg % 4 = 2 then !(look false s.chip.seq.sqoLast
        n.val) else x.arg % 4 == 1)) ∧ t.chip.seq.acts = s.chip.seq.acts.erase x ∧ s.frame [.seq] (among []) t)

/-! ### Load switch channels -/

/-- At its fire tick an off stops the channel and keeps a latched or locked-off state (R108, R116), an on switches an admitted channel on
  statically (R108, R118), OP 3 buffers the duty (R108), OP 2 starts a period with the effective duty (R108, R109), a self-timed period
  starts one period after the last start (R110), and the on-time ends with the output off (R109). -/
def Obligations.LoadSwitchActions : Prop :=
  ∀ (s : State) (n : Fin 48),
    (∀ (x : Action), s.chip.dueAction 0 n.val = some x → x.arg % 32 = 0 → Runs (.lsOff n) s fun t =>
      t.chip.flag (LSC_CH_STAT_OUT n.val) = false ∧ t.chip.flag (LSC_CH_STAT_CMDON n.val) = false ∧ t.chip.flag (LSC_CH_STAT_FLYWHEEL
        n.val) = false ∧ (t.chip.pstate n.val = (if s.chip.pstate n.val = 1 ∨ s.chip.pstate n.val = 2 ∨ s.chip.pstate n.val = 5 then 0
        else s.chip.pstate n.val)) ∧ t.chip.get (LSC_CH_HOLD_HSEQ n.val) = (s.chip.get (LSC_CH_HOLD_HSEQ n.val) + 1) % 256 ∧
        t.chip.seq.acts = s.chip.seq.acts.erase x ∧ s.frame [.seq, .lsc] (among ((LSC_CH_HOLD n.val).addr :: bankStats n.val)) t) ∧
    (∀ (x : Action), s.chip.dueAction 0 n.val = some x → x.arg % 32 = 1 → s.chip.pstate n.val ≤ 1 → (s.chip.lsCh n.val).hot = false →
      s.chip.lsFaulted n.val = false → s.chip.pmu.uvh = false → Runs (.lsOn n) s fun t =>
      t.chip.flag (LSC_CH_STAT_OUT n.val) = true ∧ t.chip.flag (LSC_CH_STAT_CMDON n.val) = true ∧ t.chip.flag (LSC_CH_STAT_FLYWHEEL n.val)
        = false ∧ (t.chip.lsCh n.val).pwm = false ∧ t.chip.seq.acts = s.chip.seq.acts.erase x ∧ s.frame [.seq, .lsc] (among ((LSC_CH_HOLD
        n.val).addr :: bankStats n.val)) t) ∧
    (∀ (x : Action), s.chip.dueAction 0 n.val = some x → x.arg % 32 = 1 → (s.chip.pstate n.val = 3 ∨ s.chip.pstate n.val = 4) → Runs (.lsOn
      n) s fun t =>
      t.chip.get (LSC_CH_STAT_LASTERR n.val) = stNOT_NOW ∧ t.chip.pends n.val = true ∧ t.chip.flag (LSC_CH_STAT_OUT n.val) = s.chip.flag
        (LSC_CH_STAT_OUT n.val) ∧ s.frame [.seq, .core] (amongEv [(LSC_CH_STAT n.val).addr, (LSC_CH_CNT n.val).addr]) t) ∧
    (∀ (x : Action), s.chip.dueAction 0 n.val = some x → x.arg % 32 = 3 → s.chip.get (LSC_CH_CFG_MODE n.val) ≠ 0 → Runs (.loadDuty n) s fun
      t =>
      t.chip.get (LSC_CH_HOLD_DUTY n.val) = bits x.arg 31 16 ∧ t.chip.seq.acts = s.chip.seq.acts.erase x ∧ s.frame [.seq] (among
        [(LSC_CH_HOLD n.val).addr]) t) ∧
    (∀ (x : Action) (vbkMv : Nat), s.chip.dueAction 0 n.val = some x → x.arg % 32 = 2 → s.chip.get (LSC_CH_CFG_MODE n.val) ≠ 0 →
      s.chip.pstate n.val ≤ 1 → Runs (.pwmPeriodStart n vbkMv) s fun t =>
      t.chip.get (LSC_CH_HOLD_DEFF n.val) = s.chip.effDuty n.val vbkMv ∧ t.chip.flag (LSC_CH_STAT_CMDON n.val) = true ∧ t.chip.flag
        (LSC_CH_STAT_FLYWHEEL n.val) = false ∧ (t.chip.lsCh n.val).pwm = true ∧ (t.chip.lsCh n.val).lastStart = x.fire ∧ (t.chip.lsCh
        n.val).prevOp2 = some x.fire ∧ t.chip.seq.acts = s.chip.seq.acts.erase x ∧ s.frame [.seq, .lsc] (among ((LSC_CH_HOLD n.val).addr
        :: bankStats n.val)) t) ∧
    (∀ (vbkMv : Nat), s.chip.get (LSC_CH_CFG_MODE n.val) = 2 → (s.chip.lsCh n.val).pwm = true → s.chip.flag (LSC_CH_STAT_CMDON n.val) =
      true → (s.chip.lsCh n.val).lastStart + s.chip.get (LSC_CH_PWMPER_T n.val) ≤ s.chip.time.frc → Runs (.pwmSelfTimedPeriod n vbkMv) s
      fun t =>
      (t.chip.lsCh n.val).lastStart = (s.chip.lsCh n.val).lastStart + s.chip.get (LSC_CH_PWMPER_T n.val) ∧ t.chip.get (LSC_CH_HOLD_DEFF
        n.val) = s.chip.effDuty n.val vbkMv ∧ t.chip.flag (LSC_CH_STAT_FLYWHEEL n.val) = s.chip.flag (LSC_CH_STAT_FLYWHEEL n.val) ∧
        s.frame [.lsc] (among ((LSC_CH_HOLD n.val).addr :: bankStats n.val)) t) ∧
    (∀ (vbkMv : Nat), s.chip.get (LSC_CH_CFG_MODE n.val) ≠ 2 → (s.chip.lsCh n.val).pwm = true → s.chip.flag (LSC_CH_STAT_CMDON n.val) =
      true → s.chip.flag (LSC_CH_STAT_FLYWHEEL n.val) = false → (s.chip.lsCh n.val).lastStart + s.chip.lsPeriod n.val * 3 / 2 ≤
      s.chip.time.frc → Runs (.pwmSelfTimedPeriod n vbkMv) s fun t =>
      t.chip.flag (LSC_CH_STAT_FLYWHEEL n.val) = true ∧ (t.chip.lsCh n.val).lastStart = (s.chip.lsCh n.val).lastStart + s.chip.lsPeriod
        n.val * 3 / 2) ∧
    (∀ (e : Nat), (s.chip.lsCh n.val).pwm = true → (s.chip.lsCh n.val).onEnd = some e → e ≤ s.chip.time.frc → Runs (.pwmOnTimeEnd n) s fun
      t =>
      t.chip.flag (LSC_CH_STAT_OUT n.val) = false ∧ (t.chip.lsCh n.val).onEnd = none ∧ s.frame [.lsc] (among [(LSC_CH_STAT n.val).addr]) t)

/-- A channel enters LIMIT at its limit and leaves it below 90 % (R114); after TSC it is switched off with cause OVERCURRENT (R114), at
  175 °C with a thermal cause (R115); a retry switches it on again (R116); 1 s in NORMAL resets the count (R116); the inrush window ends
  (R113); clamp energy adds up, leaks, and locks the channel off above its budget (R119–R121); DIST clears (R125). -/
def Obligations.LoadSwitchProtection : Prop :=
  ∀ (s : State) (n : Fin 48),
    (∀ (ma : Nat), s.chip.pstate n.val = 0 → s.chip.flag (LSC_CH_STAT_OUT n.val) = true → s.chip.lsLimit n.val ≤ ma → Runs (.limitEnter n
      ma) s fun t =>
      t.chip.pstate n.val = 1 ∧ (t.chip.lsCh n.val).scStart = some s.chip.now ∧ t.chip.get (LSC_CH_MEAS_ISENSE n.val) = min 0xEFF (ma /
        senseLsb (lsClass n.val)) ∧ (s.chip.flag (LSC_CH_STAT_INRUSH n.val) = false → t.chip.flag (LSC_BK_STAT_DIST (lsBank n.val)) =
        true)) ∧
    (∀ (ma : Nat), s.chip.pstate n.val = 1 → ma * 10 < s.chip.lsLimit n.val * 9 → Runs (.limitExit n ma) s fun t =>
      t.chip.pstate n.val = 0 ∧ (t.chip.lsCh n.val).scStart = none ∧ t.chip.flag (LSC_CH_STAT_OUT n.val) = s.chip.flag (LSC_CH_STAT_OUT
        n.val) ∧ s.frame [.lsc] (among ([(LSC_CH_MEAS n.val).addr, (LSC_CH_HOLD n.val).addr] ++ bankStats n.val)) t) ∧
    (∀ (u : Nat), s.chip.pstate n.val = 1 → (s.chip.lsCh n.val).scStart = some u → u + tscNs (s.chip.get (LSC_CH_PROT_TSC n.val)) ≤
      s.chip.now → Runs (.shortCircuitTimeout n) s fun t =>
      t.chip.flag (LSC_CH_STAT_OUT n.val) = false ∧ t.chip.get (LSC_CH_STAT_CAUSE n.val) = 1 ∧ t.chip.pstate n.val = (if s.chip.get
        (LSC_CH_STAT_RETRIES n.val) < s.chip.get (LSC_CH_PROT_RETRY n.val) then 2 else 3) ∧ t.chip.get (LSC_CH_CNT_PROTOFF n.val) = min
        (s.chip.get (LSC_CH_CNT_PROTOFF n.val) + 1) 0xFFFF ∧ t.chip.flag (LSC_BK_STAT_DIST (lsBank n.val)) = true ∧ t.chip.pends n.val =
        true) ∧
    (∀ (tj : Nat), 1400 ≤ tj → s.chip.pstate n.val ≤ 1 → s.chip.flag (LSC_CH_STAT_OUT n.val) = true → Runs (.thermalShutdown n tj) s fun t
      =>
      t.chip.flag (LSC_CH_STAT_OUT n.val) = false ∧ t.chip.get (LSC_CH_STAT_CAUSE n.val) = (if s.chip.neighbourHot n.val then 3 else 2) ∧
        (t.chip.lsCh n.val).hot = true ∧ t.chip.get (LSC_CH_MEAS_TJ n.val) = tj % 65536 ∧ t.chip.pends n.val = true) ∧
    (∀ (r : Nat), s.chip.pstate n.val = 2 → (s.chip.lsCh n.val).retryAt = some r → r ≤ s.chip.now → (s.chip.lsCh n.val).hot = false →
      s.chip.flag (LSC_CH_STAT_CMDON n.val) = true → (s.chip.lsCh n.val).pwm = false → s.chip.lsFaulted n.val = false → s.chip.pmu.uvh =
      false → Runs (.retryExpiry n) s fun t =>
      t.chip.pstate n.val = 0 ∧ t.chip.flag (LSC_CH_STAT_OUT n.val) = true ∧ t.chip.get (LSC_CH_STAT_RETRIES n.val) = min (s.chip.get
        (LSC_CH_STAT_RETRIES n.val) + 1) 7 ∧ s.frame [.lsc] (among ((LSC_CH_HOLD n.val).addr :: bankStats n.val)) t) ∧
    (∀ (tj : Nat), tj < 1280 → (s.chip.lsCh n.val).hot = true → Runs (.thermalRecovery n tj) s fun t =>
      (t.chip.lsCh n.val).hot = false ∧ t.chip.get (LSC_CH_MEAS_TJ n.val) = tj ∧ s.frame [.lsc] (among ([(LSC_CH_MEAS n.val).addr,
        (LSC_CH_HOLD n.val).addr] ++ bankStats n.val)) t) ∧
    (∀ (u : Nat), (s.chip.lsCh n.val).normalSince = some u → u + 1000000000 ≤ s.chip.now → Runs (.retryCountReset n) s fun t =>
      t.chip.get (LSC_CH_STAT_RETRIES n.val) = 0 ∧ s.frame [] (among [(LSC_CH_STAT n.val).addr]) t) ∧
    (∀ (u : Nat), (s.chip.lsCh n.val).irEnd = some u → u ≤ s.chip.now → Runs (.inrushWindowEnd n) s fun t =>
      t.chip.flag (LSC_CH_STAT_INRUSH n.val) = false ∧ (s.chip.pstate n.val = 1 → t.chip.flag (LSC_BK_STAT_DIST (lsBank n.val)) = true)) ∧
    (∀ (uj : Nat), Runs (.demagnetisationEnd n uj) s fun t =>
      t.chip.get (LSC_CH_EACC_UJ n.val) = min (s.chip.get (LSC_CH_EACC_UJ n.val) + uj) 0xFFFFFFFF ∧ (classRating (lsClass n.val) < uj →
        t.chip.flag (LSC_CH_STAT_SPOVER n.val) = true ∧ t.chip.pends n.val = true) ∧ (s.chip.get (LSC_CH_CLAMP_BUDGET n.val) * 100 < min
        (s.chip.get (LSC_CH_EACC_UJ n.val) + uj) 0xFFFFFFFF → t.chip.pstate n.val = 4 ∧ t.chip.get (LSC_CH_STAT_CAUSE n.val) = 4 ∧
        t.chip.flag (LSC_CH_STAT_OUT n.val) = false ∧ t.chip.pends n.val = true)) ∧
    (∀ (sl : Fin 3), Runs (.clampLeakTick sl) s fun t =>
      (∀ m : Fin 48, t.chip.get (LSC_CH_EACC_UJ m.val) = (if lsClass m.val = sl.val then s.chip.get (LSC_CH_EACC_UJ m.val) - s.chip.get
        (LSC_CH_EACC_UJ m.val) / 2 ^ leakShift sl.val else s.chip.get (LSC_CH_EACC_UJ m.val))) ∧ s.frame [] (among (addrs 48 LSC_CH_EACC))
        t) ∧
    (∀ (k : Fin 12), s.chip.flag (LSC_BK_STAT_DIST k.val) = true → s.chip.distHeld k.val = false → Runs (.distClear k) s fun t =>
      t.chip.flag (LSC_BK_STAT_DIST k.val) = false ∧ s.frame [.lsc] (among ((LSC_BK_STAT k.val).addr :: bankStats (4 * k.val))) t)

/-- UNLOCK and CLR return a locked-off or latched channel to NORMAL (R116, R121, R134); SENSE_OUT selection (R130), the heartbeat (R132),
  adoption (R135), SAFEOFF (R111, R136), CLRCNT (R139) and the cuff's reset (R137) take effect for the world that may write them; a world
  without the claim is refused with DENIED_WORLD (R567). -/
def Obligations.LoadSwitchCommands : Prop :=
  ∀ (s : State) (a : Agent) (v : W32), s.chip.admits a = true →
    (∀ (n : Fin 48), s.chip.claims (s.chip.worldOfAgent a) 4 n.val = true → v.toNat % 16 ≤ 4 → s.chip.flag (LSC_CH_STAT_ORPHAN n.val) =
      false → s.chip.lsFaulted n.val = false → s.chip.pstate n.val = 4 → Runs (.lsUnlock a n v) s fun t =>
      (s.chip.get (LSC_CH_EACC_UJ n.val) ≤ s.chip.get (LSC_CH_CLAMP_REARM n.val) * 100 → t.chip.pstate n.val = 0 ∧ t.chip.flag
        (LSC_CH_STAT_CMDON n.val) = false) ∧ (s.chip.get (LSC_CH_CLAMP_REARM n.val) * 100 < s.chip.get (LSC_CH_EACC_UJ n.val) →
        t.chip.pstate n.val = 4 ∧ t.chip.get (LSC_CH_STAT_LASTERR n.val) = stNOT_NOW ∧ t.chip.pends n.val = true)) ∧
    (∀ (n : Fin 48), s.chip.claims (s.chip.worldOfAgent a) 4 n.val = true → v.toNat % 16 ≤ 4 → s.chip.flag (LSC_CH_STAT_ORPHAN n.val) =
      false → s.chip.lsFaulted n.val = false → s.chip.pstate n.val = 3 → Runs (.lsClr a n v) s fun t =>
      t.chip.pstate n.val = 0 ∧ t.chip.get (LSC_CH_STAT_RETRIES n.val) = 0 ∧ t.chip.flag (LSC_CH_STAT_CMDON n.val) = false ∧
        t.chip.seq.acts = s.chip.seq.acts ++ (if v.toNat % 16 = 4 then [] else
        [{ fire := s.chip.time.frc + 1500, cls := 0, target := n.val, arg := v.toNat % 16 + bits v.toNat 31 16 * 65536 }]) ∧ s.frame
        [.seq, .lsc] (among [(LSC_CH_STAT n.val).addr, (LSC_CH_HOLD n.val).addr]) t) ∧
    (∀ (n : Fin 48), s.chip.claims (s.chip.worldOfAgent a) 4 n.val = false → Runs (.lsClr a n v) s fun t =>
      t.chip.get (LSC_CH_STAT_LASTERR n.val) = stDENIED_WORLD ∧ t.chip.pends n.val = true ∧ t.chip.get (LSC_CH_CNT_REFUSED n.val) = min
        (s.chip.get (LSC_CH_CNT_REFUSED n.val) + 1) 0xFFFF ∧ s.frame [.core] (amongEv [(LSC_CH_STAT n.val).addr, (LSC_CH_CNT n.val).addr])
        t) ∧
    (∀ (m : Fin 4), v.toNat % 64 ≤ 47 → s.chip.ballHeld (s.chip.worldOfAgent a) (172 + m.val) 0 = true → (s.chip.claims
      (s.chip.worldOfAgent a) 4 (v.toNat % 64) = true ∨ s.chip.worldOfAgent a = 2) → Runs (.soselWrite a m v) s fun t =>
      t.chip.get (LSC_SOSEL_CH m.val) = v.toNat % 64 ∧ t.chip.flag (LSC_SOSEL_EN m.val) = v.toNat.testBit 7 ∧ s.frame [] (among
        [(LSC_SOSEL m.val).addr]) t) ∧
    (∀ (odly hbt codes : Nat), s.chip.worldOfAgent a = 2 → s.chip.lsc.policy = some (odly, hbt, codes) → hbt ≠ 0 → Runs (.lsHeartbeat a) s
      fun t =>
      t.chip.lsc = { s.chip.lsc with heartbeat := some (s.chip.now + hbt * 1000000) } ∧ s.frame [.lsc] (among []) t) ∧
    (v.toNat % 64 ≤ 47 → s.chip.flag (LSC_CH_STAT_ADOPTED (v.toNat % 64)) = false → s.chip.adoptStatus (s.chip.who a) (v.toNat % 64) (bits
      v.toNat 23 16) = stOK → Runs (.lsAdopt a v) s fun t =>
      t.chip.flag (LSC_CH_STAT_ADOPTED (v.toNat % 64)) = true ∧ t.chip.flag (LSC_CH_STAT_ORPHAN (v.toNat % 64)) = false ∧ look 0
        t.chip.lsc.adoptRes (agentKey a) = v.toNat % 64 ∧ s.frame [.lsc] (among [(LSC_CH_STAT (v.toNat % 64)).addr, (LSC_CH_HOLD (v.toNat
        % 64)).addr, LSC_STAT.addr]) t) ∧
    (s.chip.worldOfAgent a = 2 → Runs (.lsSafeoff a v) s fun t =>
      (t.chip.seq.acts = s.chip.seq.acts ++ (List.range 48).map fun n =>
        { fire := s.chip.time.frc + 1500, cls := 0, target := n, arg := 16 }) ∧ s.frame [.seq] (among (if v.toNat.testBit 1 then addrs 48
        LSC_CH_CNT else [])) t) ∧
    (s.chip.worldOfAgent a = 2 → Runs (.lscClrcnt a v) s fun t =>
      (∀ n : Fin 48, t.chip.rd (LSC_CH_CNT n.val) = 0)) ∧
    (s.chip.worldOfAgent a = 0 → s.chip.flag RST_STAT_SEALED = false → v.toNat % 65536 = 0x5A3C → Runs (.cuffReset a v) s fun t =>
      (∀ n : Fin 48, t.chip.rd (LSC_CH_STAT n.val) = BitVec.ofNat 128 (LSC_CH_STAT n.val).rst ∧ t.chip.rd (LSC_CH_CFG n.val) =
        BitVec.ofNat 128 (LSC_CH_CFG n.val).rst ∧ t.chip.rd (LSC_CH_PROT n.val) = BitVec.ofNat 128 (LSC_CH_PROT n.val).rst) ∧ t.chip.get
        LSC_STAT_NADOPT = 48 ∧ (t.chip.seq.acts = s.chip.seq.acts.filter fun x => x.cls != 0))

/-- The budget tick filters bank currents, shows the supply and OVER (R127); a shed step switches the channel of the highest priority off
  (R127); silence and a missed heartbeat orphan channels (R132); the fallback is applied after ODLY (R133); a link that comes up raises
  what waited (R140); held states become valid (R135); a slice fault switches its channels off with CAUSE 9 (R138). -/
def Obligations.LoadSwitchSupervision : Prop :=
  ∀ (s : State),
    (∀ (bankMa bankMv lugMv : List Nat), Runs (.budgetTick bankMa bankMv lugMv) s fun t =>
      (∀ k : Fin 12, look 0 t.chip.lsc.bankFilt k.val = filterStep (look 0 s.chip.lsc.bankFilt k.val) (bankMa.getD k.val 0) 128 1000000) ∧
        (∀ k : Fin 12, t.chip.flag (LSC_BK_STAT_OVER k.val) = decide (s.chip.get (LSC_BK_CFG_BUDGET k.val) * 100000 < look 0
        t.chip.lsc.bankFilt k.val)) ∧ (∀ k : Fin 12, t.chip.get (LSC_BK_STAT_VBK k.val) = min (bankMv.getD k.val 0 / 10) 0xFFFF) ∧ (∀ k :
        Fin 12, bankMv.getD k.val 0 < 5500 → t.chip.flag (LSC_BK_STAT_DIST k.val) = true)) ∧
    (∀ (g : Fin 16) (n : Fin 48), g.val < 12 → s.chip.get (LSC_BK_CFG_BUDGET g.val) * 100000 < look 0 s.chip.lsc.bankFilt g.val →
      s.chip.get (LSC_BK_CFG_BUDGET g.val) * 100 < look 0 s.chip.lsc.bankMa g.val → s.chip.shedChoice [g.val] = some n.val → Runs
      (.shedStep g) s fun t =>
      t.chip.flag (LSC_BK_STAT_SHEDDING g.val) = true ∧ t.chip.flag (LSC_CH_STAT_OUT n.val) = false ∧ t.chip.pstate n.val = 5 ∧ t.chip.get
        (LSC_CH_STAT_CAUSE n.val) = 5 ∧ t.chip.pends n.val = true) ∧
    (∀ (g : Fin 16) (n : Fin 48), 12 ≤ g.val → s.chip.get (LSC_LUG_CFG_BUDGET (g.val - 12)) * 100000 < look 0 s.chip.lsc.lugFilt (g.val -
      12) → s.chip.get (LSC_LUG_CFG_BUDGET (g.val - 12)) * 100 < s.chip.lugMa (g.val - 12) → (s.chip.shedChoice ((List.range 12).filter
      fun k => bankLug k == g.val - 12) = some n.val) → Runs (.shedStep g) s fun t =>
      t.chip.flag (LSC_LUG_STAT_SHEDDING (g.val - 12)) = true ∧ t.chip.flag (LSC_CH_STAT_OUT n.val) = false ∧ t.chip.get
        (LSC_CH_STAT_CAUSE n.val) = 6 ∧ t.chip.pends n.val = true) ∧
    (∀ (slice : Fin 3), s.chip.rst.episode = none → Runs (.sliceSilence slice) s fun t =>
      (∀ n : Fin 48, lsClass n.val = slice.val → t.chip.flag (LSC_CH_STAT_ORPHAN n.val) = true ∧ t.chip.flag (LSC_CH_STAT_ADOPTED n.val) =
        false) ∧ t.chip.flag LSC_STAT_SILENT = true ∧ (t.chip.get LSC_STAT_LINKUP).testBit slice.val = false ∧ (t.chip.get
        LSC_STAT_HOLDVALID).testBit slice.val = false ∧ t.chip.pends 61 = true) ∧
    (∀ (d : Nat), s.chip.lsc.heartbeat = some d → d ≤ s.chip.now → Runs (.heartbeatMiss) s fun t =>
      t.chip.flag LSC_STAT_HBMISS = true ∧ t.chip.lsc.heartbeat = none ∧ (∀ n : Fin 48, t.chip.flag (LSC_CH_STAT_ORPHAN n.val) = true ∧
        t.chip.flag (LSC_CH_STAT_ADOPTED n.val) = false)) ∧
    (∀ (n : Fin 48) (odly hbt codes : Nat), s.chip.lsc.policy = some (odly, hbt, codes) → s.chip.flag (LSC_CH_STAT_ORPHAN n.val) = true →
      s.chip.flag (LSC_CH_HOLD_FBAPPLIED n.val) = false → odly ≠ 0 → (s.chip.lsCh n.val).orphanAt + odly * 10000000 ≤ s.chip.now → bits
      codes (2 * n.val + 1) (2 * n.val) = 0 → s.chip.pstate n.val ≤ 1 → Runs (.orphanFallback n) s fun t =>
      t.chip.flag (LSC_CH_STAT_OUT n.val) = false ∧ t.chip.flag (LSC_CH_STAT_CMDON n.val) = false ∧ t.chip.get (LSC_CH_STAT_CAUSE n.val) =
        7 ∧ t.chip.flag (LSC_CH_HOLD_FBAPPLIED n.val) = true ∧ ((s.chip.get LSC_STAT_LINKUP).testBit (lsClass n.val) = true → t.chip.pends
        62 = true)) ∧
    (∀ (n : Fin 48) (odly hbt codes : Nat), s.chip.lsc.policy = some (odly, hbt, codes) → s.chip.flag (LSC_CH_STAT_ORPHAN n.val) = true →
      s.chip.flag (LSC_CH_HOLD_FBAPPLIED n.val) = false → odly ≠ 0 → (s.chip.lsCh n.val).orphanAt + odly * 10000000 ≤ s.chip.now → bits
      codes (2 * n.val + 1) (2 * n.val) = 1 → s.chip.pstate n.val ≤ 1 → (s.chip.lsCh n.val).hot = false → s.chip.lsFaulted n.val = false →
      s.chip.pmu.uvh = false → Runs (.orphanFallback n) s fun t =>
      t.chip.flag (LSC_CH_STAT_OUT n.val) = true ∧ t.chip.flag (LSC_CH_STAT_CMDON n.val) = true ∧ t.chip.get (LSC_CH_STAT_CAUSE n.val) = 7
        ∧ t.chip.flag (LSC_CH_HOLD_FBAPPLIED n.val) = true) ∧
    (∀ (slice : Fin 3), Runs (.cuffLinkUp slice) s fun t =>
      (t.chip.get LSC_STAT_LINKUP).testBit slice.val = true ∧ t.chip.lsc = { s.chip.lsc with silenceDue := false, fallbackDue := false } ∧
        (s.chip.lsc.silenceDue = true → t.chip.pends 61 = true) ∧ (s.chip.lsc.fallbackDue = true → t.chip.pends 62 = true) ∧ s.frame
        [.lsc, .core] (amongEv [LSC_STAT.addr]) t) ∧
    (∀ (slice : Fin 3), (s.chip.get LSC_STAT_LINKUP).testBit slice.val = true → Runs (.holdReadbackDone slice) s fun t =>
      (t.chip.get LSC_STAT_HOLDVALID).testBit slice.val = true ∧ s.frame [] (among [LSC_STAT.addr]) t) ∧
    (∀ (slice : Fin 3), look false s.chip.lsc.sliceFault slice.val = false → Runs (.sliceFault slice) s fun t =>
      (∀ n : Fin 48, lsClass n.val = slice.val → t.chip.flag (LSC_CH_STAT_OUT n.val) = false ∧ t.chip.get (LSC_CH_STAT_CAUSE n.val) = 9 ∧
        t.chip.pstate n.val = s.chip.pstate n.val) ∧ look false t.chip.lsc.sliceFault slice.val = true ∧ t.chip.pends 63 = true)

/-! ### Instructions of the logic engines -/

/-- An engine that executes the bit instruction it has reached sets RLO, or the bit of Q or M that it stores to, as the table of R155
  gives it, steps to the next address and counts the instruction; the rest of the processor is as it was (R149, R154, R155). -/
def Obligations.LogicBitInstructions : Prop :=
  ∀ (s : State) (e : Fin 2) (p : LeCpu), s.chip.zoneUp = true → s.chip.leExecutes e.val = true → (s.chip.leg e.val).cpu = p →
    ((s.chip.leg e.val).fetch = wordN 0x00 → Runs (.leNop e) s fun t =>
      (t.chip.leg e.val).cpu = { p.step with executed := p.executed + 1 }) ∧
    (∀ (area : Fin 8) (addr : Fin 32768), (s.chip.leg e.val).fetch = wordB 1 area.val addr.val → Runs (.leLd e area addr) s fun t =>
      (t.chip.leg e.val).cpu = { p.step with rlo := (p.bitAt area.val addr.val), executed := p.executed + 1 }) ∧
    (∀ (area : Fin 8) (addr : Fin 32768), (s.chip.leg e.val).fetch = wordB 2 area.val addr.val → Runs (.leLdn e area addr) s fun t =>
      (t.chip.leg e.val).cpu = { p.step with rlo := !(p.bitAt area.val addr.val), executed := p.executed + 1 }) ∧
    (∀ (area : Fin 8) (addr : Fin 32768), (s.chip.leg e.val).fetch = wordB 3 area.val addr.val → Runs (.leAnd e area addr) s fun t =>
      (t.chip.leg e.val).cpu = { p.step with rlo := (p.rlo && (p.bitAt area.val addr.val)), executed := p.executed + 1 }) ∧
    (∀ (area : Fin 8) (addr : Fin 32768), (s.chip.leg e.val).fetch = wordB 4 area.val addr.val → Runs (.leAndn e area addr) s fun t =>
      (t.chip.leg e.val).cpu = { p.step with rlo := (p.rlo && !(p.bitAt area.val addr.val)), executed := p.executed + 1 }) ∧
    (∀ (area : Fin 8) (addr : Fin 32768), (s.chip.leg e.val).fetch = wordB 5 area.val addr.val → Runs (.leOr e area addr) s fun t =>
      (t.chip.leg e.val).cpu = { p.step with rlo := (p.rlo || (p.bitAt area.val addr.val)), executed := p.executed + 1 }) ∧
    (∀ (area : Fin 8) (addr : Fin 32768), (s.chip.leg e.val).fetch = wordB 6 area.val addr.val → Runs (.leOrn e area addr) s fun t =>
      (t.chip.leg e.val).cpu = { p.step with rlo := (p.rlo || !(p.bitAt area.val addr.val)), executed := p.executed + 1 }) ∧
    (∀ (area : Fin 8) (addr : Fin 32768), (s.chip.leg e.val).fetch = wordB 7 area.val addr.val → Runs (.leXor e area addr) s fun t =>
      (t.chip.leg e.val).cpu = { p.step with rlo := (p.rlo != (p.bitAt area.val addr.val)), executed := p.executed + 1 }) ∧
    (∀ (area : Fin 8) (addr : Fin 32768), (s.chip.leg e.val).fetch = wordB 8 area.val addr.val → Runs (.leXorn e area addr) s fun t =>
      (t.chip.leg e.val).cpu = { p.step with rlo := (p.rlo == (p.bitAt area.val addr.val)), executed := p.executed + 1 }) ∧
    (∀ (area : Fin 8) (addr : Fin 32768), (s.chip.leg e.val).fetch = wordB 9 area.val addr.val → Runs (.leSt e area addr) s fun t =>
      (t.chip.leg e.val).cpu = { (p.setBit area.val addr.val (p.rlo)).step with executed := p.executed + 1 }) ∧
    (∀ (area : Fin 8) (addr : Fin 32768), (s.chip.leg e.val).fetch = wordB 10 area.val addr.val → Runs (.leStn e area addr) s fun t =>
      (t.chip.leg e.val).cpu = { (p.setBit area.val addr.val (!p.rlo)).step with executed := p.executed + 1 }) ∧
    (∀ (area : Fin 8) (addr : Fin 32768), (s.chip.leg e.val).fetch = wordB 11 area.val addr.val → Runs (.leSet e area addr) s fun t =>
      (t.chip.leg e.val).cpu = { (if p.rlo then p.setBit area.val addr.val true else p).step with executed := p.executed + 1 }) ∧
    (∀ (area : Fin 8) (addr : Fin 32768), (s.chip.leg e.val).fetch = wordB 12 area.val addr.val → Runs (.leRst e area addr) s fun t =>
      (t.chip.leg e.val).cpu = { (if p.rlo then p.setBit area.val addr.val false else p).step with executed := p.executed + 1 }) ∧
    ((s.chip.leg e.val).fetch = wordN 13 → Runs (.leNot e) s fun t =>
      (t.chip.leg e.val).cpu = { p.step with rlo := !p.rlo, executed := p.executed + 1 }) ∧
    ((s.chip.leg e.val).fetch = wordN 14 → Runs (.leSetr e) s fun t =>
      (t.chip.leg e.val).cpu = { p.step with rlo := true, executed := p.executed + 1 }) ∧
    ((s.chip.leg e.val).fetch = wordN 15 → Runs (.leClrr e) s fun t =>
      (t.chip.leg e.val).cpu = { p.step with rlo := false, executed := p.executed + 1 })

/-- PSH pushes RLO; POPA, POPO and POPX join the top with RLO and drop it; REDG and FEDG report a change against the last input, and
  nothing when fresh (R161); JMP, JC, JNC, CALL and RET set the program counter and the call stack (R155); END with empty stacks forms the
  pending image and ends the cycle with its time (R144, R145). -/
def Obligations.LogicStackEdgeAndJumpInstructions : Prop :=
  ∀ (s : State) (e : Fin 2) (p : LeCpu), s.chip.zoneUp = true → s.chip.leExecutes e.val = true → (s.chip.leg e.val).cpu = p →
    ((s.chip.leg e.val).fetch = wordN 0x10 → p.bstack.length < 16 → Runs (.lePsh e) s fun t =>
      (t.chip.leg e.val).cpu = { p.step with bstack := p.rlo :: p.bstack, executed := p.executed + 1 }) ∧
    (∀ (b : Bool) (r : List Bool), (s.chip.leg e.val).fetch = wordN 0x11 → p.bstack = b :: r → Runs (.lePopa e) s fun t =>
      (t.chip.leg e.val).cpu = { p.step with rlo := (b && p.rlo), bstack := r, executed := p.executed + 1 }) ∧
    (∀ (b : Bool) (r : List Bool), (s.chip.leg e.val).fetch = wordN 0x12 → p.bstack = b :: r → Runs (.lePopo e) s fun t =>
      (t.chip.leg e.val).cpu = { p.step with rlo := (b || p.rlo), bstack := r, executed := p.executed + 1 }) ∧
    (∀ (b : Bool) (r : List Bool), (s.chip.leg e.val).fetch = wordN 0x13 → p.bstack = b :: r → Runs (.lePopx e) s fun t =>
      (t.chip.leg e.val).cpu = { p.step with rlo := (b != p.rlo), bstack := r, executed := p.executed + 1 }) ∧
    (∀ (ix : Fin 4096), (s.chip.leg e.val).fetch = wordI 0x14 ix.val → Runs (.leRedg e ix) s fun t =>
      (t.chip.leg e.val).cpu.rlo = (!(look {} p.edges ix.val).fresh && (p.rlo && !(look {} p.edges ix.val).prev)) ∧ look {} (t.chip.leg
        e.val).cpu.edges ix.val = { prev := p.rlo, fresh := false } ∧ (t.chip.leg e.val).cpu.pc = (p.pc + 1) % 65536) ∧
    (∀ (ix : Fin 4096), (s.chip.leg e.val).fetch = wordI 0x15 ix.val → Runs (.leFedg e ix) s fun t =>
      (t.chip.leg e.val).cpu.rlo = (!(look {} p.edges ix.val).fresh && (!p.rlo && (look {} p.edges ix.val).prev)) ∧ look {} (t.chip.leg
        e.val).cpu.edges ix.val = { prev := p.rlo, fresh := false } ∧ (t.chip.leg e.val).cpu.pc = (p.pc + 1) % 65536) ∧
    (∀ (target : Fin 65536), (s.chip.leg e.val).fetch = wordJ 0x38 target.val → Runs (.leJmp e target) s fun t =>
      (t.chip.leg e.val).cpu = { p with pc := target.val, executed := p.executed + 1 }) ∧
    (∀ (target : Fin 65536), (s.chip.leg e.val).fetch = wordJ 0x39 target.val → Runs (.leJc e target) s fun t =>
      (t.chip.leg e.val).cpu = { p with pc := (if p.rlo then target.val else (p.pc + 1) % 65536), executed := p.executed + 1 }) ∧
    (∀ (target : Fin 65536), (s.chip.leg e.val).fetch = wordJ 0x3A target.val → Runs (.leJnc e target) s fun t =>
      (t.chip.leg e.val).cpu = { p with pc := (if p.rlo then (p.pc + 1) % 65536 else target.val), executed := p.executed + 1 }) ∧
    (∀ (target : Fin 65536), (s.chip.leg e.val).fetch = wordJ 0x3B target.val → p.cstack.length < 8 → Runs (.leCall e target) s fun t =>
      (t.chip.leg e.val).cpu = { p with pc := target.val, cstack := (p.pc + 1) % 65536 :: p.cstack, executed := p.executed + 1 }) ∧
    (∀ (r : Nat) (q : List Nat), (s.chip.leg e.val).fetch = wordN 0x3C → p.cstack = r :: q → Runs (.leRet e) s fun t =>
      (t.chip.leg e.val).cpu = { p with pc := r, cstack := q, executed := p.executed + 1 }) ∧
    ((s.chip.leg e.val).fetch = wordN 0x3D → p.bstack = [] → p.cstack = [] → Runs (.leEnd e) s fun t =>
      (t.chip.leg e.val).pendQ = p.q ∧ (t.chip.leg e.val).ended = true ∧ (t.chip.leg e.val).cpu.pc = 0 ∧ t.chip.flag (LE_STAT_CYCRUN
        e.val) = false ∧ t.chip.get (LE_CYCLE_LASTT e.val) = min ((p.executed + 1) * 5 / 2) 0xFFFFFFFF ∧ s.frame [.le] (among [(LE_CYCLE
        e.val).addr, (LE_STAT e.val).addr]) t)

/-- A push on a full branch stack, a pop of an empty one, a ninth nested call, a return without a call and an END with a stack that is not
  empty stop the engine with the cause of R156 and the address of the instruction, without any effect on the processor (R156, R163). -/
def Obligations.LogicInstructionFaults : Prop :=
  ∀ (s : State) (e : Fin 2) (p : LeCpu), s.chip.zoneUp = true → s.chip.leExecutes e.val = true → (s.chip.leg e.val).cpu = p →
    ((s.chip.leg e.val).fetch = wordN 0x10 → 16 ≤ p.bstack.length → Runs (.lePsh e) s fun t =>
      t.chip.get (LE_FAULT_CAUSE e.val) = 2 ∧ t.chip.get (LE_FAULT_PC e.val) = p.pc % 65536 ∧ t.chip.flag (LE_STAT_FLTSTOP e.val) = true ∧
        t.chip.leMode e.val = 0 ∧ (t.chip.leg e.val).cpu = p) ∧
    ((s.chip.leg e.val).fetch = wordN 0x11 → p.bstack = [] → Runs (.lePopa e) s fun t =>
      t.chip.get (LE_FAULT_CAUSE e.val) = 3 ∧ t.chip.get (LE_FAULT_PC e.val) = p.pc % 65536 ∧ t.chip.flag (LE_STAT_FLTSTOP e.val) = true ∧
        t.chip.leMode e.val = 0 ∧ (t.chip.leg e.val).cpu = p) ∧
    ((s.chip.leg e.val).fetch = wordN 0x12 → p.bstack = [] → Runs (.lePopo e) s fun t =>
      t.chip.get (LE_FAULT_CAUSE e.val) = 3 ∧ t.chip.get (LE_FAULT_PC e.val) = p.pc % 65536 ∧ t.chip.flag (LE_STAT_FLTSTOP e.val) = true ∧
        t.chip.leMode e.val = 0 ∧ (t.chip.leg e.val).cpu = p) ∧
    ((s.chip.leg e.val).fetch = wordN 0x13 → p.bstack = [] → Runs (.lePopx e) s fun t =>
      t.chip.get (LE_FAULT_CAUSE e.val) = 3 ∧ t.chip.get (LE_FAULT_PC e.val) = p.pc % 65536 ∧ t.chip.flag (LE_STAT_FLTSTOP e.val) = true ∧
        t.chip.leMode e.val = 0 ∧ (t.chip.leg e.val).cpu = p) ∧
    (∀ (target : Fin 65536), (s.chip.leg e.val).fetch = wordJ 0x3B target.val → 8 ≤ p.cstack.length → Runs (.leCall e target) s fun t =>
      t.chip.get (LE_FAULT_CAUSE e.val) = 4 ∧ t.chip.get (LE_FAULT_PC e.val) = p.pc % 65536 ∧ t.chip.flag (LE_STAT_FLTSTOP e.val) = true ∧
        t.chip.leMode e.val = 0 ∧ (t.chip.leg e.val).cpu = p) ∧
    ((s.chip.leg e.val).fetch = wordN 0x3C → p.cstack = [] → Runs (.leRet e) s fun t =>
      t.chip.get (LE_FAULT_CAUSE e.val) = 5 ∧ t.chip.get (LE_FAULT_PC e.val) = p.pc % 65536 ∧ t.chip.flag (LE_STAT_FLTSTOP e.val) = true ∧
        t.chip.leMode e.val = 0 ∧ (t.chip.leg e.val).cpu = p) ∧
    ((s.chip.leg e.val).fetch = wordN 0x3D → (p.bstack ≠ [] ∨ p.cstack ≠ []) → Runs (.leEnd e) s fun t =>
      t.chip.get (LE_FAULT_CAUSE e.val) = 6 ∧ t.chip.get (LE_FAULT_PC e.val) = p.pc % 65536 ∧ t.chip.flag (LE_STAT_FLTSTOP e.val) = true ∧
        t.chip.leMode e.val = 0 ∧ (t.chip.leg e.val).cpu = p)

/-- TON, TOF and TP run their timer on RLO by the timer time of the cycle and give RLO its output; TPS and TEL set the preset and show the
  elapsed time (R159); CTU and CTD count a rising RLO and stay at the ends of 32 bits, CRS, CLD, CVL and CPS clear, load, show and set
  (R160). -/
def Obligations.LogicTimerAndCounterInstructions : Prop :=
  ∀ (s : State) (e : Fin 2) (p : LeCpu), s.chip.zoneUp = true → s.chip.leExecutes e.val = true → (s.chip.leg e.val).cpu = p →
    (∀ (ix : Fin 4096), (s.chip.leg e.val).fetch = wordI 0x16 ix.val → p.rlo = false → Runs (.leTon e ix) s fun t =>
      look {} (t.chip.leg e.val).cpu.timers ix.val = { look {} p.timers ix.val with q := false, running := false } ∧ (t.chip.leg
        e.val).cpu.rlo = (look {} (t.chip.leg e.val).cpu.timers ix.val).q ∧ (t.chip.leg e.val).cpu.pc = (p.pc + 1) % 65536) ∧
    (∀ (ix : Fin 4096), (s.chip.leg e.val).fetch = wordI 0x16 ix.val → p.rlo = true → (look {} p.timers ix.val).running = false → Runs
      (.leTon e ix) s fun t =>
      look {} (t.chip.leg e.val).cpu.timers ix.val =
        { look {} p.timers ix.val with stamp := p.timerTime, running := true, q := decide ((look {} p.timers ix.val).preset = 0) } ∧
        (t.chip.leg e.val).cpu.rlo = (look {} (t.chip.leg e.val).cpu.timers ix.val).q ∧ (t.chip.leg e.val).cpu.pc = (p.pc + 1) % 65536) ∧
    (∀ (ix : Fin 4096), (s.chip.leg e.val).fetch = wordI 0x16 ix.val → p.rlo = true → (look {} p.timers ix.val).running = true → Runs
      (.leTon e ix) s fun t =>
      look {} (t.chip.leg e.val).cpu.timers ix.val =
        { look {} p.timers ix.val with q := decide ((look {} p.timers ix.val).preset ≤ p.elapsed (look {} p.timers ix.val)) } ∧
        (t.chip.leg e.val).cpu.rlo = (look {} (t.chip.leg e.val).cpu.timers ix.val).q ∧ (t.chip.leg e.val).cpu.pc = (p.pc + 1) % 65536) ∧
    (∀ (ix : Fin 4096), (s.chip.leg e.val).fetch = wordI 0x17 ix.val → p.rlo = true → Runs (.leTof e ix) s fun t =>
      look {} (t.chip.leg e.val).cpu.timers ix.val = { look {} p.timers ix.val with q := true, running := false } ∧ (t.chip.leg
        e.val).cpu.rlo = (look {} (t.chip.leg e.val).cpu.timers ix.val).q ∧ (t.chip.leg e.val).cpu.pc = (p.pc + 1) % 65536) ∧
    (∀ (ix : Fin 4096), (s.chip.leg e.val).fetch = wordI 0x17 ix.val → p.rlo = false → (look {} p.timers ix.val).running = true → Runs
      (.leTof e ix) s fun t =>
      look {} (t.chip.leg e.val).cpu.timers ix.val =
        { look {} p.timers ix.val with q := ((look {} p.timers ix.val).q && decide (p.elapsed (look {} p.timers ix.val) < (look {} p.timers ix.val).preset)) }
        ∧ (t.chip.leg e.val).cpu.rlo = (look {} (t.chip.leg e.val).cpu.timers ix.val).q ∧ (t.chip.leg e.val).cpu.pc = (p.pc + 1) % 65536) ∧
    (∀ (ix : Fin 4096), (s.chip.leg e.val).fetch = wordI 0x18 ix.val → p.rlo = true → (look {} p.timers ix.val).input = false → (look {}
      p.timers ix.val).running = false → 0 < (look {} p.timers ix.val).preset → Runs (.leTp e ix) s fun t =>
      look {} (t.chip.leg e.val).cpu.timers ix.val =
        { look {} p.timers ix.val with stamp := p.timerTime, running := true, q := true, input := true } ∧ (t.chip.leg e.val).cpu.rlo =
        (look {} (t.chip.leg e.val).cpu.timers ix.val).q ∧ (t.chip.leg e.val).cpu.pc = (p.pc + 1) % 65536) ∧
    (∀ (ix : Fin 4096), (s.chip.leg e.val).fetch = wordI 0x18 ix.val → (look {} p.timers ix.val).running = true → (look {} p.timers
      ix.val).preset ≤ p.elapsed (look {} p.timers ix.val) → Runs (.leTp e ix) s fun t =>
      look {} (t.chip.leg e.val).cpu.timers ix.val = { look {} p.timers ix.val with q := false, running := false, input := p.rlo } ∧
        (t.chip.leg e.val).cpu.rlo = (look {} (t.chip.leg e.val).cpu.timers ix.val).q ∧ (t.chip.leg e.val).cpu.pc = (p.pc + 1) % 65536) ∧
    (∀ (ix : Fin 4096), (s.chip.leg e.val).fetch = wordI 0x19 ix.val → Runs (.leTps e ix) s fun t =>
      look {} (t.chip.leg e.val).cpu.timers ix.val = { look {} p.timers ix.val with preset := p.wa.toNat % 2 ^ 64 } ∧ (t.chip.leg
        e.val).cpu.rlo = p.rlo ∧ (t.chip.leg e.val).cpu.pc = (p.pc + 1) % 65536) ∧
    (∀ (ix : Fin 4096), (s.chip.leg e.val).fetch = wordI 0x1A ix.val → (look {} p.timers ix.val).running = true → Runs (.leTel e ix) s fun
      t =>
      (t.chip.leg e.val).cpu = { p.step with wa := BitVec.ofNat 128 (p.elapsed (look {} p.timers ix.val)), executed := p.executed + 1 }) ∧
    (∀ (ix : Fin 4096), (s.chip.leg e.val).fetch = wordI 0x1B ix.val → Runs (.leCtu e ix) s fun t =>
      look {} (t.chip.leg e.val).cpu.counters ix.val =
        { look {} p.counters ix.val with count := (if p.rlo && !(look {} p.counters ix.val).up then min ((look {} p.counters ix.val).count + 1) 2147483647 else (look {} p.counters ix.val).count), up := p.rlo, q := decide ((look {} p.counters ix.val).preset ≤ (if p.rlo && !(look {} p.counters ix.val).up then min ((look {} p.counters ix.val).count + 1) 2147483647 else (look {} p.counters ix.val).count)) }
        ∧ (t.chip.leg e.val).cpu.rlo = (look {} (t.chip.leg e.val).cpu.counters ix.val).q ∧ (t.chip.leg e.val).cpu.pc = (p.pc + 1) % 65536) ∧
    (∀ (ix : Fin 4096), (s.chip.leg e.val).fetch = wordI 0x1C ix.val → Runs (.leCtd e ix) s fun t =>
      look {} (t.chip.leg e.val).cpu.counters ix.val =
        { look {} p.counters ix.val with count := (if p.rlo && !(look {} p.counters ix.val).down then max ((look {} p.counters ix.val).count - 1) (-2147483648) else (look {} p.counters ix.val).count), down := p.rlo, q := decide ((if p.rlo && !(look {} p.counters ix.val).down then max ((look {} p.counters ix.val).count - 1) (-2147483648) else (look {} p.counters ix.val).count) ≤ 0) }
        ∧ (t.chip.leg e.val).cpu.rlo = (look {} (t.chip.leg e.val).cpu.counters ix.val).q ∧ (t.chip.leg e.val).cpu.pc = (p.pc + 1) % 65536) ∧
    (∀ (ix : Fin 4096), (s.chip.leg e.val).fetch = wordI 0x1D ix.val → Runs (.leCrs e ix) s fun t =>
      look {} (t.chip.leg e.val).cpu.counters ix.val =
        { look {} p.counters ix.val with count := (if p.rlo then 0 else (look {} p.counters ix.val).count) } ∧ (t.chip.leg e.val).cpu.rlo
        = p.rlo ∧ (t.chip.leg e.val).cpu.pc = (p.pc + 1) % 65536) ∧
    (∀ (ix : Fin 4096), (s.chip.leg e.val).fetch = wordI 0x1E ix.val → Runs (.leCld e ix) s fun t =>
      look {} (t.chip.leg e.val).cpu.counters ix.val =
        { look {} p.counters ix.val with count := (if p.rlo then (look {} p.counters ix.val).preset else (look {} p.counters ix.val).count) }
        ∧ (t.chip.leg e.val).cpu.rlo = p.rlo ∧ (t.chip.leg e.val).cpu.pc = (p.pc + 1) % 65536) ∧
    (∀ (ix : Fin 4096), (s.chip.leg e.val).fetch = wordI 0x1F ix.val → Runs (.leCvl e ix) s fun t =>
      (t.chip.leg e.val).cpu = { p.step with wa := BitVec.ofInt 128 (look {} p.counters ix.val).count, executed := p.executed + 1 }) ∧
    (∀ (ix : Fin 4096), (s.chip.leg e.val).fetch = wordI 0x20 ix.val → Runs (.leCps e ix) s fun t =>
      look {} (t.chip.leg e.val).cpu.counters ix.val = { look {} p.counters ix.val with preset := signed 32 p.wa.toNat } ∧ (t.chip.leg
        e.val).cpu.rlo = p.rlo ∧ (t.chip.leg e.val).cpu.pc = (p.pc + 1) % 65536)

/-- LDW and STW move words, an index register added where SRC says so and the bytes under an input force kept; the arithmetic, shift,
  minimum and maximum instructions act lane by lane on WA and the operand, wrapping or saturating; the logical ones act on the whole word
  (R155, R157). -/
def Obligations.LogicWordInstructions : Prop :=
  ∀ (s : State) (e : Fin 2) (p : LeCpu), s.chip.zoneUp = true → s.chip.leExecutes e.val = true → (s.chip.leg e.val).cpu = p →
    (∀ (l : Fin 8) (src : Fin 4) (u any : Bool) (addr : Fin 4096), (s.chip.leg e.val).fetch = wordW 0x21 l.val src.val u any addr.val →
      Runs (.leLdw e l src u any addr) s fun t =>
      (t.chip.leg e.val).cpu =
        { p.step with wa := (p.operand (s.chip.leg e.val).active.k (leFields (wordW 0x21 l.val src.val u any addr.val))), executed := p.executed + 1 }) ∧
    (∀ (l : Fin 8) (src : Fin 4) (u any : Bool) (addr : Fin 4096), (s.chip.leg e.val).fetch = wordW 0x22 l.val src.val u any addr.val →
      Runs (.leStw e l src u any addr) s fun t =>
      look 0 (t.chip.leg e.val).cpu.w (if src.val = 2 then (addr.val + p.x) % 4096 else addr.val) = mergeBytes (65535 - look 0 p.forced
        (if src.val = 2 then (addr.val + p.x) % 4096 else addr.val) % 65536) (look 0 p.w (if src.val = 2 then (addr.val + p.x) % 4096 else
        addr.val)) p.wa ∧ (t.chip.leg e.val).cpu.pc = (p.pc + 1) % 65536 ∧ (t.chip.leg e.val).cpu.wa = p.wa ∧ (t.chip.leg e.val).cpu.rlo =
        p.rlo) ∧
    (∀ (l : Fin 8) (src : Fin 4) (u any : Bool) (addr : Fin 4096), (s.chip.leg e.val).fetch = wordW 0x23 l.val src.val u any addr.val →
      Runs (.leAdd e l src u any addr) s fun t =>
      ((t.chip.leg e.val).cpu =
        { p.step with wa := laneZip (laneBits l.val) (fun a b => a + b) p.wa (p.operand (s.chip.leg e.val).active.k (leFields (wordW 0x23 l.val src.val u any addr.val))), executed := p.executed + 1 })) ∧
    (∀ (l : Fin 8) (src : Fin 4) (u any : Bool) (addr : Fin 4096), (s.chip.leg e.val).fetch = wordW 0x24 l.val src.val u any addr.val →
      Runs (.leSub e l src u any addr) s fun t =>
      ((t.chip.leg e.val).cpu =
        { p.step with wa := laneZip (laneBits l.val) (fun a b => a + 2 ^ (laneBits l.val) - b) p.wa (p.operand (s.chip.leg e.val).active.k (leFields (wordW 0x24 l.val src.val u any addr.val))), executed := p.executed + 1 })) ∧
    (∀ (l : Fin 8) (src : Fin 4) (u any : Bool) (addr : Fin 4096), (s.chip.leg e.val).fetch = wordW 0x25 l.val src.val u any addr.val →
      Runs (.leAdds e l src u any addr) s fun t =>
      ((t.chip.leg e.val).cpu =
        { p.step with wa := laneZip (laneBits l.val) (fun a b => saturate (laneBits l.val) u ((laneInt (laneBits l.val) u a) + (laneInt (laneBits l.val) u b))) p.wa (p.operand (s.chip.leg e.val).active.k (leFields (wordW 0x25 l.val src.val u any addr.val))), executed := p.executed + 1 })) ∧
    (∀ (l : Fin 8) (src : Fin 4) (u any : Bool) (addr : Fin 4096), (s.chip.leg e.val).fetch = wordW 0x26 l.val src.val u any addr.val →
      Runs (.leSubs e l src u any addr) s fun t =>
      ((t.chip.leg e.val).cpu =
        { p.step with wa := laneZip (laneBits l.val) (fun a b => saturate (laneBits l.val) u ((laneInt (laneBits l.val) u a) - (laneInt (laneBits l.val) u b))) p.wa (p.operand (s.chip.leg e.val).active.k (leFields (wordW 0x26 l.val src.val u any addr.val))), executed := p.executed + 1 })) ∧
    (∀ (l : Fin 8) (src : Fin 4) (u any : Bool) (addr : Fin 4096), (s.chip.leg e.val).fetch = wordW 0x27 l.val src.val u any addr.val →
      Runs (.leMul e l src u any addr) s fun t =>
      ((t.chip.leg e.val).cpu =
        { p.step with wa := laneZip (laneBits l.val) (fun a b => a * b) p.wa (p.operand (s.chip.leg e.val).active.k (leFields (wordW 0x27 l.val src.val u any addr.val))), executed := p.executed + 1 })) ∧
    (∀ (l : Fin 8) (src : Fin 4) (u any : Bool) (addr : Fin 4096), (s.chip.leg e.val).fetch = wordW 0x2B l.val src.val u any addr.val →
      Runs (.leShl e l src u any addr) s fun t =>
      ((t.chip.leg e.val).cpu =
        { p.step with wa := laneZip (laneBits l.val) (fun a b => a <<< (b % (laneBits l.val))) p.wa (p.operand (s.chip.leg e.val).active.k (leFields (wordW 0x2B l.val src.val u any addr.val))), executed := p.executed + 1 })) ∧
    (∀ (l : Fin 8) (src : Fin 4) (u any : Bool) (addr : Fin 4096), (s.chip.leg e.val).fetch = wordW 0x2C l.val src.val u any addr.val →
      Runs (.leShr e l src u any addr) s fun t =>
      ((t.chip.leg e.val).cpu =
        { p.step with wa := laneZip (laneBits l.val) (fun a b => if u then a >>> (b % (laneBits l.val)) else unsigned (laneBits l.val) (signed (laneBits l.val) a / (2 ^ (b % (laneBits l.val)) : Nat))) p.wa (p.operand (s.chip.leg e.val).active.k (leFields (wordW 0x2C l.val src.val u any addr.val))), executed := p.executed + 1 })) ∧
    (∀ (l : Fin 8) (src : Fin 4) (u any : Bool) (addr : Fin 4096), (s.chip.leg e.val).fetch = wordW 0x2D l.val src.val u any addr.val →
      Runs (.leMin e l src u any addr) s fun t =>
      ((t.chip.leg e.val).cpu =
        { p.step with wa := laneZip (laneBits l.val) (fun a b => if (laneInt (laneBits l.val) u b) < (laneInt (laneBits l.val) u a) then b else a) p.wa (p.operand (s.chip.leg e.val).active.k (leFields (wordW 0x2D l.val src.val u any addr.val))), executed := p.executed + 1 })) ∧
    (∀ (l : Fin 8) (src : Fin 4) (u any : Bool) (addr : Fin 4096), (s.chip.leg e.val).fetch = wordW 0x2E l.val src.val u any addr.val →
      Runs (.leMax e l src u any addr) s fun t =>
      ((t.chip.leg e.val).cpu =
        { p.step with wa := laneZip (laneBits l.val) (fun a b => if (laneInt (laneBits l.val) u a) < (laneInt (laneBits l.val) u b) then b else a) p.wa (p.operand (s.chip.leg e.val).active.k (leFields (wordW 0x2E l.val src.val u any addr.val))), executed := p.executed + 1 })) ∧
    (∀ (l : Fin 8) (src : Fin 4) (u any : Bool) (addr : Fin 4096), (s.chip.leg e.val).fetch = wordW 0x28 l.val src.val u any addr.val →
      Runs (.leAndw e l src u any addr) s fun t =>
      (t.chip.leg e.val).cpu =
        { p.step with wa := p.wa &&& (p.operand (s.chip.leg e.val).active.k (leFields (wordW 0x28 l.val src.val u any addr.val))), executed := p.executed + 1 }) ∧
    (∀ (l : Fin 8) (src : Fin 4) (u any : Bool) (addr : Fin 4096), (s.chip.leg e.val).fetch = wordW 0x29 l.val src.val u any addr.val →
      Runs (.leOrw e l src u any addr) s fun t =>
      (t.chip.leg e.val).cpu =
        { p.step with wa := p.wa ||| (p.operand (s.chip.leg e.val).active.k (leFields (wordW 0x29 l.val src.val u any addr.val))), executed := p.executed + 1 }) ∧
    (∀ (l : Fin 8) (src : Fin 4) (u any : Bool) (addr : Fin 4096), (s.chip.leg e.val).fetch = wordW 0x2A l.val src.val u any addr.val →
      Runs (.leXorw e l src u any addr) s fun t =>
      (t.chip.leg e.val).cpu =
        { p.step with wa := p.wa ^^^ (p.operand (s.chip.leg e.val).active.k (leFields (wordW 0x2A l.val src.val u any addr.val))), executed := p.executed + 1 })

/-- The compares set RLO to whether the relation holds in every lane, or with ANY in some lane, signed or unsigned (R157); SEL takes the
  operand where RLO is 1; LDX loads the index register and LDS a system word (R150, R155). -/
def Obligations.LogicCompareAndSelectInstructions : Prop :=
  ∀ (s : State) (e : Fin 2) (p : LeCpu), s.chip.zoneUp = true → s.chip.leExecutes e.val = true → (s.chip.leg e.val).cpu = p →
    (∀ (l : Fin 8) (src : Fin 4) (u any : Bool) (addr : Fin 4096), (s.chip.leg e.val).fetch = wordW 0x2F l.val src.val u any addr.val →
      Runs (.leCeq e l src u any addr) s fun t =>
      ((t.chip.leg e.val).cpu =
        { p.step with rlo := laneTest (laneBits l.val) any (fun a b => decide ((laneInt (laneBits l.val) u a) = (laneInt (laneBits l.val) u b))) p.wa (p.operand (s.chip.leg e.val).active.k (leFields (wordW 0x2F l.val src.val u any addr.val))), executed := p.executed + 1 })) ∧
    (∀ (l : Fin 8) (src : Fin 4) (u any : Bool) (addr : Fin 4096), (s.chip.leg e.val).fetch = wordW 0x30 l.val src.val u any addr.val →
      Runs (.leCne e l src u any addr) s fun t =>
      ((t.chip.leg e.val).cpu =
        { p.step with rlo := laneTest (laneBits l.val) any (fun a b => decide ((laneInt (laneBits l.val) u a) ≠ (laneInt (laneBits l.val) u b))) p.wa (p.operand (s.chip.leg e.val).active.k (leFields (wordW 0x30 l.val src.val u any addr.val))), executed := p.executed + 1 })) ∧
    (∀ (l : Fin 8) (src : Fin 4) (u any : Bool) (addr : Fin 4096), (s.chip.leg e.val).fetch = wordW 0x31 l.val src.val u any addr.val →
      Runs (.leClt e l src u any addr) s fun t =>
      ((t.chip.leg e.val).cpu =
        { p.step with rlo := laneTest (laneBits l.val) any (fun a b => decide ((laneInt (laneBits l.val) u a) < (laneInt (laneBits l.val) u b))) p.wa (p.operand (s.chip.leg e.val).active.k (leFields (wordW 0x31 l.val src.val u any addr.val))), executed := p.executed + 1 })) ∧
    (∀ (l : Fin 8) (src : Fin 4) (u any : Bool) (addr : Fin 4096), (s.chip.leg e.val).fetch = wordW 0x32 l.val src.val u any addr.val →
      Runs (.leCle e l src u any addr) s fun t =>
      ((t.chip.leg e.val).cpu =
        { p.step with rlo := laneTest (laneBits l.val) any (fun a b => decide ((laneInt (laneBits l.val) u a) ≤ (laneInt (laneBits l.val) u b))) p.wa (p.operand (s.chip.leg e.val).active.k (leFields (wordW 0x32 l.val src.val u any addr.val))), executed := p.executed + 1 })) ∧
    (∀ (l : Fin 8) (src : Fin 4) (u any : Bool) (addr : Fin 4096), (s.chip.leg e.val).fetch = wordW 0x33 l.val src.val u any addr.val →
      Runs (.leCgt e l src u any addr) s fun t =>
      ((t.chip.leg e.val).cpu =
        { p.step with rlo := laneTest (laneBits l.val) any (fun a b => decide ((laneInt (laneBits l.val) u a) > (laneInt (laneBits l.val) u b))) p.wa (p.operand (s.chip.leg e.val).active.k (leFields (wordW 0x33 l.val src.val u any addr.val))), executed := p.executed + 1 })) ∧
    (∀ (l : Fin 8) (src : Fin 4) (u any : Bool) (addr : Fin 4096), (s.chip.leg e.val).fetch = wordW 0x34 l.val src.val u any addr.val →
      Runs (.leCge e l src u any addr) s fun t =>
      ((t.chip.leg e.val).cpu =
        { p.step with rlo := laneTest (laneBits l.val) any (fun a b => decide ((laneInt (laneBits l.val) u a) ≥ (laneInt (laneBits l.val) u b))) p.wa (p.operand (s.chip.leg e.val).active.k (leFields (wordW 0x34 l.val src.val u any addr.val))), executed := p.executed + 1 })) ∧
    (∀ (l : Fin 8) (src : Fin 4) (u any : Bool) (addr : Fin 4096), (s.chip.leg e.val).fetch = wordW 0x35 l.val src.val u any addr.val →
      Runs (.leSel e l src u any addr) s fun t =>
      (t.chip.leg e.val).cpu =
        { p.step with wa := (if p.rlo then (p.operand (s.chip.leg e.val).active.k (leFields (wordW 0x35 l.val src.val u any addr.val))) else p.wa), executed := p.executed + 1 }) ∧
    ((s.chip.leg e.val).fetch = wordN 0x36 → Runs (.leLdx e) s fun t =>
      (t.chip.leg e.val).cpu = { p.step with x := p.wa.toNat % 4096, executed := p.executed + 1 }) ∧
    (∀ (addr : Fin 16), (s.chip.leg e.val).fetch = wordI 0x37 addr.val → Runs (.leLds e addr) s fun t =>
      (t.chip.leg e.val).cpu = { p.step with wa := look 0 p.sysWords addr.val, executed := p.executed + 1 })

/-! ### Cycle, modes and memories of the logic engines -/

/-- A due start begins the next cycle at address 0, or is skipped and counted while the last one runs (R144, R147); a commit takes the
  pending image and notes an overrun (R145, R147); the STOPACT commit takes a zero image (R163) and a forced delivery the last one (R165);
  a memory error or a comparator mismatch stops the engine with its cause (R148, R156, R177). -/
def Obligations.LogicEngineCycle : Prop :=
  ∀ (s : State) (e : Fin 2), s.chip.zoneUp = true →
    (∀ (x : Action), s.chip.dueArg 4 e.val 0 = some x → s.chip.leMode e.val = 1 → (s.chip.leg e.val).inReset = false → s.chip.get
      (LE_CTL_MODE e.val) = 1 → s.chip.flag (LE_STAT_CYCRUN e.val) = false → s.chip.leTooSoon e.val x.fire = false → s.chip.flag
      (LE_XSTAT_ARMED e.val) = false → Runs (.leCycleStart e) s fun t =>
      t.chip.flag (LE_STAT_CYCRUN e.val) = true ∧ t.chip.get (LE_CYCLE_N e.val) = (s.chip.get (LE_CYCLE_N e.val) + 1) % 2 ^ 64 ∧
        (t.chip.leg e.val).cpu.pc = 0 ∧ (t.chip.leg e.val).cpu.bstack = [] ∧ (t.chip.leg e.val).cpu.cstack = [] ∧ (t.chip.leg
        e.val).lastStart = some x.fire) ∧
    (∀ (x : Action), s.chip.dueArg 4 e.val 0 = some x → s.chip.leMode e.val = 1 → (s.chip.leg e.val).inReset = false → s.chip.get
      (LE_CTL_MODE e.val) ≠ 0 → (s.chip.flag (LE_STAT_CYCRUN e.val) = true ∨ s.chip.leTooSoon e.val x.fire = true) → Runs (.leCycleStart
      e) s fun t =>
      t.chip.get (LE_CNT_SKIP e.val) = min (s.chip.get (LE_CNT_SKIP e.val) + 1) 1023 ∧ t.chip.flag (LE_STAT_SKIP e.val) = true ∧
        t.chip.pends (163 + 16 * e.val) = true ∧ t.chip.leg e.val = s.chip.leg e.val ∧ s.frame [.seq, .core] (amongEv [(LE_CNT
        e.val).addr, (LE_STAT e.val).addr]) t) ∧
    (∀ (x : Action), s.chip.dueArg 4 e.val 1 = some x → s.chip.leMode e.val = 1 → (s.chip.leg e.val).inReset = false → s.chip.get
      (LE_CFG_OVRLIM e.val) = 0 → Runs (.leOutputCommit e) s fun t =>
      (t.chip.leg e.val).baseQ = (s.chip.leg e.val).pendQ ∧ (t.chip.leg e.val).baseW = (s.chip.leg e.val).pendW ∧ (t.chip.leg
        e.val).lastCommit = some x.fire ∧ (t.chip.leg e.val).ended = false ∧ (t.chip.leg e.val).prevOverrun = !(s.chip.leg e.val).ended ∧
        (t.chip.leg e.val).overruns = (if (s.chip.leg e.val).ended then 0 else (s.chip.leg e.val).overruns + 1)) ∧
    (∀ (u : Nat), (s.chip.leg e.val).stopActAt = some u → u ≤ s.chip.time.frc → Runs (.leStopactCommit e) s fun t =>
      (t.chip.leg e.val).stopActAt = none ∧ (t.chip.leg e.val).baseQ = [] ∧ (t.chip.leg e.val).baseW = []) ∧
    ((s.chip.leg e.val).forceAt.any s.chip.due = true → Runs (.leForceDelivery e) s fun t =>
      ((t.chip.leg e.val).forceAt = (s.chip.leg e.val).forceAt.filter fun u => !s.chip.due u) ∧ (t.chip.leg e.val).baseQ = (s.chip.leg
        e.val).baseQ ∧ (t.chip.leg e.val).commitQ = forceBits (s.chip.leg e.val).forces 1 (s.chip.leg e.val).baseQ) ∧
    (Runs (.leEcc e) s fun t =>
      t.chip.get (LE_FAULT_CAUSE e.val) = 8 ∧ t.chip.get (LE_FAULT_PC e.val) = (s.chip.leg e.val).cpu.pc % 65536 ∧ t.chip.flag
        (LE_STAT_FLTSTOP e.val) = true ∧ t.chip.leMode e.val = 0 ∧ t.chip.pends (172 + 16 * e.val) = true) ∧
    (s.chip.flag RST_REACH_MMLE0 = false → Runs (.le0Mismatch) s fun t =>
      t.chip.get (LE_FAULT_CAUSE 0) = 7 ∧ t.chip.flag (LE_STAT_FLTSTOP 0) = true ∧ t.chip.leMode 0 = 0 ∧ (t.chip.leg 0).inReset = true ∧
        t.chip.pends 171 = true) ∧
    (s.chip.flag RST_REACH_MMLE0 = true → Runs (.le0Mismatch) s fun t =>
      t.chip.rst.episode = some (max 3 (s.chip.rst.releasing.getD 0)) ∧ t.chip.rst.handed = false)

/-- A request of the engine's world for RUN starts a stopped engine that has no fault (R162) and continues a held one (R164); STOP takes
  effect at once in HOLD (R162); HOLD is requested where debug is enabled, otherwise refused (R164); STEP executes one instruction and
  SCYC begins one cycle in HOLD (R164); CLRFLT and CLRCNT clear (R163, R175); another world is refused (R143). -/
def Obligations.LogicEngineControl : Prop :=
  ∀ (s : State) (a : Agent) (e : Fin 2) (v : W32), s.chip.admits a = true →
    (s.chip.worldOfAgent a = s.chip.leWorld e.val → s.chip.flag (LE_STAT_FLTSTOP e.val) = false → s.chip.flag (LE_STAT_CMPBAD e.val) =
      false → s.chip.leMode e.val = 0 → (s.chip.leg e.val).newStaging = false → Runs (.leModeRun a e v) s fun t =>
      t.chip.leMode e.val = 1 ∧ t.chip.get (LE_CTL_MODE e.val) = 1 ∧ t.chip.pends (160 + 16 * e.val) = true ∧ (t.chip.leg e.val).firstNext
        = true ∧ (t.chip.leg e.val).initNext = v.toNat.testBit 2 ∧ (t.chip.leg e.val).cpu = (if v.toNat.testBit 2 then initAll (s.chip.leg
        e.val).active (s.chip.leg e.val).cpu else (s.chip.leg e.val).cpu)) ∧
    (s.chip.worldOfAgent a = s.chip.leWorld e.val → s.chip.flag (LE_STAT_FLTSTOP e.val) = false → s.chip.flag (LE_STAT_CMPBAD e.val) =
      false → s.chip.leMode e.val = 2 → Runs (.leModeRun a e v) s fun t =>
      t.chip.leMode e.val = 1 ∧ (t.chip.leg e.val).heldAt = none ∧ t.chip.pends (160 + 16 * e.val) = true ∧ (t.chip.leg e.val).cpu =
        (s.chip.leg e.val).cpu) ∧
    (s.chip.worldOfAgent a = s.chip.leWorld e.val → s.chip.leMode e.val = 2 → Runs (.leModeStop a e v) s fun t =>
      t.chip.leMode e.val = 0 ∧ t.chip.get (LE_CTL_MODE e.val) = 0 ∧ t.chip.flag (LE_STAT_CYCRUN e.val) = false ∧ t.chip.pends (160 + 16 *
        e.val) = true) ∧
    (s.chip.worldOfAgent a = s.chip.leWorld e.val → s.chip.leMode e.val = 1 → Runs (.leModeStop a e v) s fun t =>
      t.chip.leMode e.val = 1 ∧ t.chip.get (LE_CTL_MODE e.val) = 0 ∧ t.chip.leg e.val = s.chip.leg e.val) ∧
    (s.chip.worldOfAgent a = s.chip.leWorld e.val → s.chip.leMode e.val ≠ 2 → s.chip.flag (LE_PROT_DBGEN e.val) = true → s.chip.flag
      (LE_STAT_CMPBAD e.val) = false → Runs (.leModeHold a e v) s fun t =>
      t.chip.get (LE_CTL_MODE e.val) = 2 ∧ t.chip.leMode e.val = s.chip.leMode e.val) ∧
    (s.chip.worldOfAgent a = s.chip.leWorld e.val → s.chip.leMode e.val ≠ 2 → s.chip.flag (LE_PROT_DBGEN e.val) = false → Runs (.leModeHold
      a e v) s fun t =>
      t.chip.get (LE_STAT_LASTERR e.val) = stDENIED_STATE ∧ t.chip.get (LE_CTL_MODE e.val) = s.chip.get (LE_CTL_MODE e.val)) ∧
    (∀ (q : LeCpu), s.chip.worldOfAgent a = s.chip.leWorld e.val → s.chip.leMode e.val = 2 → v.toNat % 4 = 2 → v.toNat.testBit 4 = false →
      s.chip.flag (LE_PROT_DBGEN e.val) = true → s.chip.flag (LE_STAT_CMPBAD e.val) = false → s.chip.flag (LE_STAT_CYCRUN e.val) = true →
      ((leOpcode (leFields (s.chip.leg e.val).fetch).op).map (fun f => f (s.chip.leg e.val).active.k (leFields (s.chip.leg e.val).fetch)
      (s.chip.leg e.val).cpu) = some (.ok q)) → Runs (.leStep a e v) s fun t =>
      (t.chip.leg e.val).cpu = { q with executed := q.executed + 1 } ∧ t.chip.leMode e.val = 2 ∧ t.chip.flag (LE_STAT_CYCRUN e.val) = true) ∧
    (s.chip.worldOfAgent a = s.chip.leWorld e.val → s.chip.leMode e.val = 2 → v.toNat % 4 = 2 → v.toNat.testBit 3 = false → s.chip.flag
      (LE_PROT_DBGEN e.val) = true → s.chip.flag (LE_STAT_CMPBAD e.val) = false → Runs (.leScyc a e v) s fun t =>
      t.chip.get (LE_CYCLE_N e.val) = (s.chip.get (LE_CYCLE_N e.val) + 1) % 2 ^ 64 ∧ (t.chip.leg e.val).single = true ∧ (t.chip.leg
        e.val).cpu.pc = 0 ∧ t.chip.flag (LE_STAT_CYCRUN e.val) = true ∧ t.chip.leMode e.val = 2) ∧
    (s.chip.worldOfAgent a = s.chip.leWorld e.val → s.chip.leMode e.val = 0 → v.toNat % 4 = 0 → Runs (.leClrflt a e v) s fun t =>
      t.chip.flag (LE_STAT_FLTSTOP e.val) = false ∧ t.chip.rd (LE_FAULT e.val) = 0 ∧ s.frame [] (among [(LE_STAT e.val).addr, (LE_FAULT
        e.val).addr, (LE_CTL e.val).addr, (LE_CNT e.val).addr, (LE_CYCLE e.val).addr]) t) ∧
    (s.chip.worldOfAgent a = s.chip.leWorld e.val → s.chip.leMode e.val ≠ 2 → v.toNat % 4 ≠ 3 → Runs (.leClrcnt a e v) s fun t =>
      t.chip.rd (LE_CNT e.val) = 0 ∧ t.chip.get (LE_CYCLE_MAXT e.val) = 0) ∧
    (s.chip.worldOfAgent a ≠ s.chip.leWorld e.val → Runs (.leModeRun a e v) s fun t =>
      t.chip.get (LE_STAT_LASTERR e.val) = stDENIED_WORLD ∧ s.frame [] (among [(LE_STAT e.val).addr]) t)

/-- An online change of the engine's world waits for the next cycle, or applies at once in STOP (R166); a port read answers the unit and a
  port write to staging or, in STOP, to W stores it, both moving the index on (R176); GO starts the checks of the staging bank, CANCEL
  ends them (R171); a bank whose CRC differs is refused with INTEGRITY, one that passes is armed, or exchanged in STOP (R171, R172). -/
def Obligations.LogicEngineMemoryAndExchange : Prop :=
  ∀ (s : State) (e : Fin 2),
    (∀ (a : Agent) (v : W128), s.chip.admits a = true → s.chip.worldOfAgent a = s.chip.leWorld e.val → s.chip.get (LE_CHG_ADDR_ADDR e.val)
      < changeSpan (s.chip.get (LE_CHG_ADDR_AREA e.val)) → s.chip.leMode e.val ≠ 0 → (s.chip.leg e.val).changes.length < 64 → Runs
      (.leOnlineChange a e v) s fun t =>
      (t.chip.leg e.val).changes = (s.chip.leg e.val).changes ++
        [{ area := s.chip.get (LE_CHG_ADDR_AREA e.val), addr := s.chip.get (LE_CHG_ADDR_ADDR e.val), mask := s.chip.get (LE_CHG_MASK_MASK e.val), data := v }]
        ∧ t.chip.get (LE_CHG_RES_STATUS e.val) = stOK ∧ s.frame [.le] (among [(LE_CHG_RES e.val).addr]) t) ∧
    (∀ (a : Agent) (v : W128), s.chip.admits a = true → s.chip.worldOfAgent a = s.chip.leWorld e.val → s.chip.get (LE_CHG_ADDR_ADDR e.val)
      < changeSpan (s.chip.get (LE_CHG_ADDR_AREA e.val)) → s.chip.leMode e.val = 0 → Runs (.leOnlineChange a e v) s fun t =>
      t.chip.leg e.val = applyChange (s.chip.leg e.val)
        { area := s.chip.get (LE_CHG_ADDR_AREA e.val), addr := s.chip.get (LE_CHG_ADDR_ADDR e.val), mask := s.chip.get (LE_CHG_MASK_MASK e.val), data := v }
        ∧ t.chip.get (LE_CHG_RES_STATUS e.val) = stOK) ∧
    (∀ (a : Agent) (v : W128), s.chip.admits a = true → s.chip.worldOfAgent a ≠ s.chip.leWorld e.val → Runs (.leOnlineChange a e v) s fun t
      =>
      t.chip.get (LE_CHG_RES_STATUS e.val) = stDENIED_WORLD ∧ t.chip.pends (167 + 16 * e.val) = true ∧ s.frame [.core] (amongEv
        [(LE_CHG_RES e.val).addr]) t) ∧
    (∀ (a : Agent), s.chip.admits a = true → s.chip.get (LE_MADDR_INDEX e.val) < spaceUnits (s.chip.get (LE_MADDR_SPACE e.val)) → Runs
      (.leMemRead a e) s fun t =>
      look {} t.chip.fab.resp (agentKey a) =
        { err := false, data := ((s.chip.leg e.val).unit (s.chip.get (LE_MADDR_SPACE e.val)) (s.chip.get (LE_MADDR_INDEX e.val))).toNat % 2 ^ 32 }
        ∧ t.chip.get (LE_MADDR_INDEX e.val) = s.chip.get (LE_MADDR_INDEX e.val) + 1 ∧ t.chip.get (LE_MRES_STATUS e.val) = stOK ∧ s.frame
        [.fab] (among [(LE_MADDR e.val).addr, (LE_MRES e.val).addr]) t) ∧
    (∀ (a : Agent) (v : W128), s.chip.admits a = true → s.chip.worldOfAgent a = s.chip.leWorld e.val → s.chip.get (LE_MADDR_INDEX e.val) <
      spaceUnits (s.chip.get (LE_MADDR_SPACE e.val)) → (s.chip.get (LE_MADDR_SPACE e.val) ∈ [1, 3, 5, 7] ∨ (s.chip.get (LE_MADDR_SPACE
      e.val) = 8 ∧ s.chip.leMode e.val = 0)) → Runs (.leMemWrite a e v) s fun t =>
      (t.chip.leg e.val).unit (s.chip.get (LE_MADDR_SPACE e.val)) (s.chip.get (LE_MADDR_INDEX e.val)) = v ∧ t.chip.get (LE_MADDR_INDEX
        e.val) = s.chip.get (LE_MADDR_INDEX e.val) + 1 ∧ t.chip.get (LE_MRES_STATUS e.val) = stOK ∧ s.frame [.le] (among [(LE_MADDR
        e.val).addr, (LE_MRES e.val).addr]) t) ∧
    (∀ (a : Agent) (v : W32), s.chip.admits a = true → s.chip.worldOfAgent a = s.chip.leWorld e.val → s.chip.leMode e.val ≠ 2 → (s.chip.leg
      e.val).check = none → s.chip.flag (LE_XSTAT_ARMED e.val) = false → Runs (.xchgGo a e v) s fun t =>
      (t.chip.leg e.val).check = some
        { last := v.toNat % 65536, atCycle := (if v.toNat.testBit 29 then some (s.chip.get (LE_XCHG_CYC_N e.val)) else none), mid := a.mid.val, vf := a.vf.map (·.val) }
        ∧ (t.chip.leg e.val).last = v.toNat % 65536) ∧
    (∀ (a : Agent) (v : W32), s.chip.admits a = true → s.chip.worldOfAgent a = s.chip.leWorld e.val → v.toNat.testBit 31 = false → Runs
      (.xchgCancel a e v) s fun t =>
      t.chip.flag (LE_XSTAT_ARMED e.val) = false ∧ (t.chip.leg e.val).check = none ∧ s.frame [.le] (among [(LE_XSTAT e.val).addr]) t) ∧
    (∀ (k : LeCheck), s.chip.zoneUp = true → (s.chip.leg e.val).check = some k → bankCrc (s.chip.leg e.val).staging k.last ≠ s.chip.get
      (LE_XCHG_CRC_CRC e.val) → Runs (.xchgCheckDone e) s fun t =>
      t.chip.get (LE_XSTAT_STATUS e.val) = stINTEGRITY ∧ (t.chip.leg e.val).check = none ∧ t.chip.pends (165 + 16 * e.val) = true ∧
        s.frame [.le, .core] (amongEv [(LE_XSTAT e.val).addr]) t) ∧
    (∀ (k : LeCheck), s.chip.zoneUp = true → (s.chip.leg e.val).check = some k → bankCrc (s.chip.leg e.val).staging k.last = s.chip.get
      (LE_XCHG_CRC_CRC e.val) → badWord (s.chip.leg e.val).staging k.last = none → badRecord (s.chip.leg e.val).staging.map [] = none →
      ((linksUsed (s.chip.leg e.val).staging.link).all (fun i => s.chip.linkFits (linkAt (s.chip.leg e.val).staging.link i)) = true) →
      s.chip.unclaimedLink e.val (s.chip.leg e.val).staging.link = none → Runs (.xchgCheckDone e) s fun t =>
      t.chip.get (LE_XSTAT_STATUS e.val) = stOK ∧ (t.chip.leg e.val).check = none ∧ (s.chip.leMode e.val ≠ 0 → t.chip.flag (LE_XSTAT_ARMED
        e.val) = true ∧ (t.chip.leg e.val).armedAt = k.atCycle.getD 0) ∧ (s.chip.leMode e.val = 0 → (t.chip.leg e.val).active =
        (s.chip.leg e.val).staging ∧ (t.chip.leg e.val).staging = (s.chip.leg e.val).active ∧ t.chip.flag (LE_XSTAT_DONE e.val) = true))

/-! ### Ethernet switch -/

/-- At its decision point a frame that the VLAN tables forward, that matches no stream and finds room is queued for every port of its
  egress set and takes the cells of its port's longest frame (R185, R189, R191); its tail returns the unused ones and makes it eligible
  (R194), or, when bad, is counted with its event (R195); a free port takes the head that may start (R198) and leaves the queue at its end
  (R190); a link that goes down empties the port's queues (R193), and one that comes up shows its rate (R211). -/
def Obligations.SwitchFrames : Prop :=
  ∀ (s : State), s.chip.zoneUp = true → s.chip.esw.jobs = [] →
    (∀ (p : Fin 24) (bs : List Byte) (stamp : W64) (sec : Option SecTag) (plca : W32) (vid cls hq : Nat) (ports : List Nat), p.val < 20 →
      s.chip.secFails p.val bs sec = false → s.chip.flag ESW_CTL_EN = true → s.chip.flag (ESW_P_CFG_EN p.val) = true → s.chip.forward
      p.val bs = some (vid, cls, ports, hq) → s.chip.streamOf bs vid = none → s.chip.flag ESW_CTL_CTGLOB = false → ports ≠ [] → (∀ q ∈
      ports, s.chip.copyCheck { id := 0, ingress := p.val, bytes := bs, stamp := stamp.toNat, cls := cls } (bs.length + 4) q = none) →
      s.chip.get (ESW_ADM_MIN cls) + cellsOf (s.chip.get (ESW_P_MAXFRM_N p.val)) ≤ s.chip.get ESW_STAT_FREE → Runs (.eswDecisionPoint p bs
      stamp sec plca) s fun t =>
      t.chip.esw.frames = s.chip.esw.frames ++
        [{ id := s.chip.esw.nextId, ingress := p.val, bytes := bs, stamp := stamp.toNat, cls := cls, tagged := hasTag bs, vid := vid, egress := ports, copies := ports, cells := cellsOf (s.chip.get (ESW_P_MAXFRM_N p.val)), hostQueue := hq, sec := sec }]
        ∧ t.chip.get ESW_STAT_FREE = s.chip.get ESW_STAT_FREE - cellsOf (s.chip.get (ESW_P_MAXFRM_N p.val)) ∧ look none
        t.chip.esw.receiving p.val = some s.chip.esw.nextId ∧ (∀ q : Fin 24, q.val ∈ ports → s.chip.esw.nextId ∈ t.chip.eswQueue q.val
        cls)) ∧
    (∀ (p : Fin 24) (symOk icvOk eccOk : Bool), s.chip.flag ESW_CTL_EN = true → s.chip.flag (ESW_P_CFG_EN p.val) = true → Runs
      (.eswFrameTail p false symOk icvOk eccOk) s fun t =>
      t.chip.flag (ESW_P_STAT_BADRX p.val) = true ∧ t.chip.pends (240 + p.val) = true ∧ t.chip.get (ESW_P_CNT_N p.val 1) = min (s.chip.get
        (ESW_P_CNT_N p.val 1) + 1) 0xFFFFFFFF ∧ look none t.chip.esw.receiving p.val = none) ∧
    (∀ (p : Fin 24) (id : Nat) (f : EswFrame), s.chip.flag ESW_CTL_EN = true → s.chip.flag (ESW_P_CFG_EN p.val) = true → look none
      s.chip.esw.receiving p.val = some id → s.chip.eswFrame id = some f → f.sec = none ∧ f.filter = none ∧ f.recovery = none ∧ f.cut = []
      → f.len ≤ s.chip.get (ESW_P_MAXFRM_N p.val) → Runs (.eswFrameTail p true true true true) s fun t =>
      (t.chip.esw.frames = s.chip.esw.frames.map fun g => if g.id = id then { g with good := true, cells := min g.cells (cellsOf f.len) }
        else g) ∧ t.chip.get (ESW_P_CNT_N p.val 0) = min (s.chip.get (ESW_P_CNT_N p.val 0) + 1) 0xFFFFFFFF ∧ look none
        t.chip.esw.receiving p.val = none) ∧
    (∀ (p : Fin 24) (k : Nat) (f : EswFrame), s.chip.sendingAt p.val = none → s.chip.portUp p.val = true → (s.chip.runCredits
      p.val).selectHead p.val = some (k, f) → (2 ≤ p.val ∨ s.chip.flag (ESW_P_MSEC_EN p.val) = false) → Runs (.eswTxSelect p) s fun t =>
      t.chip.sendingAt p.val = some f.id ∧ t.chip.esw.frames = s.chip.esw.frames ∧ s.frame [.esw] (among []) t) ∧
    (∀ (p : Fin 24) (stamp : W64) (id : Nat) (f : EswFrame), p.val < 20 → s.chip.sendingAt p.val = some id → s.chip.eswFrame id = some f →
      f.good = true → p.val ∉ f.stomped → Runs (.eswTxEnd p stamp) s fun t =>
      t.chip.sendingAt p.val = none ∧ t.chip.eswQueue p.val f.cls = (s.chip.eswQueue p.val f.cls).filter (· != id) ∧ t.chip.get
        (ESW_P_CNT_N p.val 2) = min (s.chip.get (ESW_P_CNT_N p.val 2) + 1) 0xFFFFFFFF) ∧
    (∀ (p : Fin 20), Runs (.eswLinkDown p) s fun t =>
      t.chip.flag (ESW_P_STAT_LINK p.val) = false ∧ t.chip.get (ESW_P_STAT_RATE p.val) = 0 ∧ t.chip.flag (ESW_P_STAT_LINKCHG p.val) = true
        ∧ t.chip.sendingAt p.val = none ∧ (∀ k : Fin 8, t.chip.eswQueue p.val k.val = []) ∧ t.chip.pends (192 + p.val) = true) ∧
    (∀ (p : Fin 20) (rate : Fin 5) (sqi : Fin 8), Runs (.eswLinkUp p rate sqi) s fun t =>
      t.chip.flag (ESW_P_STAT_LINK p.val) = true ∧ t.chip.get (ESW_P_STAT_RATE p.val) = rate.val ∧ t.chip.get (ESW_P_STAT_SQI p.val) =
        sqi.val ∧ t.chip.flag (ESW_PHY_STAT_LINK p.val) = true ∧ t.chip.pends (192 + p.val) = true ∧ s.frame [.core] (amongEv [(ESW_P_STAT
        p.val).addr, (ESW_PHY_STAT p.val).addr]) t)

/-- W1's table commands read and write an entry (its read-only fields kept), look up, insert and delete a MAC address by FID and bucket,
  and flush the dynamic entries (R186–R188); FLUSHDYN does as much (R210); ageing takes dynamic entries without HIT out and clears HIT of
  the others (R186). An entry that a READ finds uncorrectable is invalidated with EV0275 (R189). -/
def Obligations.SwitchTables : Prop :=
  ∀ (s : State),
    (∀ (a : Agent) (v : W32) (k i : Nat), s.chip.admits a = true → s.chip.worldOfAgent a = 1 → bits v.toNat 27 24 = k → bits v.toNat 13 0 =
      i → k < 8 → i < tblSize k → Runs (.eswTblRead a v false) s fun t =>
      t.chip.rd ESW_TBL_DATA = s.chip.tbl k i ∧ t.chip.get ESW_TBL_CMD_STATUS = stOK ∧ s.frame [] (among [ESW_TBL_DATA.addr,
        ESW_TBL_CMD.addr]) t) ∧
    (∀ (a : Agent) (v : W32) (k i : Nat), s.chip.admits a = true → s.chip.worldOfAgent a = 1 → bits v.toNat 27 24 = k → bits v.toNat 13 0 =
      i → k < 8 → i < tblSize k → Runs (.eswTblRead a v true) s fun t =>
      t.chip.tbl k i = 0 ∧ t.chip.rd ESW_TBL_DATA = 0 ∧ t.chip.pends 275 = true ∧ t.chip.esw.frames = s.chip.esw.frames) ∧
    (∀ (a : Agent) (v : W32) (k i : Nat), s.chip.admits a = true → s.chip.worldOfAgent a = 1 → bits v.toNat 27 24 = k → bits v.toNat 13 0 =
      i → k < 8 → i < tblSize k → tblReserved k (s.chip.rdN ESW_TBL_DATA) = false → (k = 1 → s.chip.hatbandPort 18 = false ∧
      s.chip.hatbandPort 19 = false) → Runs (.eswTblWrite a v) s fun t =>
      t.chip.tbl k i = tblMerge k (s.chip.tbl k i) (s.chip.rd ESW_TBL_DATA) ∧ t.chip.get ESW_TBL_CMD_STATUS = stOK ∧ s.frame [.esw] (among
        [ESW_TBL_CMD.addr]) t) ∧
    (∀ (a : Agent) (v : W32) (j : Nat), s.chip.admits a = true → s.chip.worldOfAgent a = 1 → bits v.toNat 27 24 = 0 → s.chip.macFind (bits
      (s.chip.rdN ESW_TBL_KEY) 59 48) (bits (s.chip.rdN ESW_TBL_KEY) 47 0) = some j → Runs (.eswLookup a v) s fun t =>
      t.chip.get ESW_TBL_CMD_INDEX = j ∧ t.chip.get ESW_TBL_CMD_STATUS = stOK) ∧
    (∀ (a : Agent) (v : W32), s.chip.admits a = true → s.chip.worldOfAgent a = 1 → bits v.toNat 27 24 = 0 → s.chip.macFind (bits
      (s.chip.rdN ESW_TBL_KEY) 59 48) (bits (s.chip.rdN ESW_TBL_KEY) 47 0) = none → Runs (.eswLookup a v) s fun t =>
      t.chip.get ESW_TBL_CMD_STATUS = stNO_OBJECT ∧ t.chip.pends 276 = true) ∧
    (∀ (a : Agent) (v : W32) (j : Nat), s.chip.admits a = true → s.chip.worldOfAgent a = 1 → bits v.toNat 27 24 = 0 → s.chip.macFind (bits
      (s.chip.rdN ESW_TBL_KEY) 59 48) (bits (s.chip.rdN ESW_TBL_KEY) 47 0) = none → s.chip.macFree (bits (s.chip.rdN ESW_TBL_KEY) 59 48)
      (bits (s.chip.rdN ESW_TBL_KEY) 47 0) = some j → tblReserved 0 (setBits (setBits (setBits (s.chip.rd ESW_TBL_DATA) 127 127 1) 59 48
      (bits (s.chip.rdN ESW_TBL_KEY) 59 48)) 47 0 (bits (s.chip.rdN ESW_TBL_KEY) 47 0)).toNat = false → Runs (.eswInsert a v) s fun t =>
      t.chip.tblBits 0 j 59 48 = bits (s.chip.rdN ESW_TBL_KEY) 59 48 ∧ t.chip.tblBits 0 j 47 0 = bits (s.chip.rdN ESW_TBL_KEY) 47 0 ∧
        t.chip.tblBits 0 j 127 127 = 1 ∧ t.chip.get ESW_TBL_CMD_INDEX = j ∧ t.chip.get ESW_TBL_CMD_STATUS = stOK) ∧
    (∀ (a : Agent) (v : W32) (j : Nat), s.chip.admits a = true → s.chip.worldOfAgent a = 1 → bits v.toNat 27 24 = 0 → s.chip.macFind (bits
      (s.chip.rdN ESW_TBL_KEY) 59 48) (bits (s.chip.rdN ESW_TBL_KEY) 47 0) = some j → Runs (.eswDelete a v) s fun t =>
      t.chip.tbl 0 j = 0 ∧ t.chip.get ESW_TBL_CMD_STATUS = stOK) ∧
    (∀ (a : Agent) (v : W32) (i : Fin 16384), s.chip.admits a = true → s.chip.worldOfAgent a = 1 → bits v.toNat 27 24 < 8 → s.chip.rdN
      ESW_TBL_KEY % 32 = 31 → (s.chip.rdN ESW_TBL_KEY).testBit 60 = false → Runs (.eswFlush a v) s fun t =>
      macDynamic (t.chip.tbl 0 i.val).toNat = false ∧ t.chip.get ESW_TBL_CMD_STATUS = stOK ∧ s.frame [.esw] (among [ESW_TBL_CMD.addr]) t) ∧
    (∀ (a : Agent) (v : W32) (i : Fin 16384), s.chip.admits a = true → s.chip.worldOfAgent a = 1 → Runs (.eswFlushdyn a v) s fun t =>
      macDynamic (t.chip.tbl 0 i.val).toNat = false ∧ t.chip.flag ESW_STAT_RUN = v.toNat.testBit 0 ∧ t.chip.flag ESW_CTL_EN =
        v.toNat.testBit 0 ∧ s.frame [.esw] (among [ESW_CTL.addr, ESW_STAT.addr]) t) ∧
    (∀ (i : Fin 16384), s.chip.zoneUp = true → s.chip.get ESW_AGE_S ≠ 0 → canonical 0 s.chip.esw.tables = true → Runs (.eswAgeTick) s fun t
      =>
      (macDynamic (s.chip.tbl 0 i.val).toNat = true → t.chip.tbl 0 i.val = (if (s.chip.tbl 0 i.val).toNat.testBit 125 then setBits
        (s.chip.tbl 0 i.val) 125 125 0 else 0)) ∧ (macDynamic (s.chip.tbl 0 i.val).toNat = false → t.chip.tbl 0 i.val = s.chip.tbl 0
        i.val) ∧ s.frame [.esw] (among []) t)

/-- A fetched descriptor advances its ring, and a TRIG frame waits at the head (R206, R207); a trigger without one is a miss (R207); a due
  gate step sets the gates (R199); reading the stamp FIFO takes the oldest (R203); a silent recovery function resets (R201); the claimant
  of a port enables it with its initial gates and clears its counters, and no other world does (R182, R199, R210). -/
def Obligations.SwitchPortsAndHostQueues : Prop :=
  ∀ (s : State),
    (∀ (q : Fin 256) (memErr : Bool), s.chip.zoneUp = true → s.chip.esw.jobs = [] → s.chip.flag (ESW_HQ_CFG_EN q.val) = true →
      s.chip.pairFn q.val = 64 → look 0 s.chip.esw.txFetch q.val ≠ s.chip.get (ESW_HQ_TXPI_I q.val) → look none s.chip.esw.trigWait q.val
      = none → Runs (.hostFrameFetched q memErr) s fun t =>
      look 0 t.chip.esw.txFetch q.val = (look 0 s.chip.esw.txFetch q.val + 1) % s.chip.ringSize q.val ∧ (memErr = true → t.chip.pends 279
        = true)) ∧
    (∀ (q : Fin 256) (c : Chip) (d bs : List Byte), s.chip.zoneUp = true → s.chip.esw.jobs = [] → s.chip.flag (ESW_HQ_CFG_EN q.val) = true
      → s.chip.pairFn q.val = 64 → look 0 s.chip.esw.txFetch q.val ≠ s.chip.get (ESW_HQ_TXPI_I q.val) → look none s.chip.esw.trigWait
      q.val = none → (c = s.chip.updEsw fun b =>
      { b with txFetch := put 0 b.txFetch q.val ((look 0 b.txFetch q.val + 1) % s.chip.ringSize q.val), txOpen := upd [] b.txOpen q.val fun l => l ++ [(look 0 b.txFetch q.val, false)] })
      → ({ s with chip := c } : State).busRead (s.chip.pairTag q.val) (s.chip.get (ESW_HQ_TXBASE_A q.val) + 32 * look 0 s.chip.esw.txFetch
      q.val) 16 = (some d, { s with chip := c }) → bit (leNat d) 58 = true → 60 ≤ bits (leNat d) 53 40 ∧ bits (leNat d) 53 40 ≤ 9212 →
      (bit (leNat d) 59 = true → bits (leNat d) 64 60 ≤ 19) → ({ s with chip := c } : State).busRead (s.chip.pairTag q.val) (leNat d % 2 ^
      40) (bits (leNat d) 53 40) = (some bs, { s with chip := c }) → Runs (.hostFrameFetched q false) s fun t =>
      look none t.chip.esw.trigWait q.val = some { bytes := bs, desc := leNat d, index := look 0 s.chip.esw.txFetch q.val } ∧ t.mem =
        s.mem) ∧
    (∀ (q : Fin 256) (x : Action), s.chip.zoneUp = true → s.chip.esw.jobs = [] → s.chip.dueAction 3 (0x2000 + q.val) = some x → look none
      s.chip.esw.trigWait q.val = none → Runs (.eswHqTrigger q) s fun t =>
      t.chip.get (ESW_HQ_CNT_TRIGMISS q.val) = min (s.chip.get (ESW_HQ_CNT_TRIGMISS q.val) + 1) 0xFFFF ∧ t.chip.seq.acts =
        s.chip.seq.acts.erase x ∧ s.frame [.seq, .esw] (among [(ESW_HQ_CNT q.val).addr]) t) ∧
    (∀ (q : Fin 256) (x : Action) (h : HostFrame), s.chip.zoneUp = true → s.chip.esw.jobs = [] → s.chip.dueAction 3 (0x2000 + q.val) = some
      x → look none s.chip.esw.trigWait q.val = some h → h.bytes.length + 4 ≤ s.chip.get (ESW_P_MAXFRM_N 20) → Runs (.eswHqTrigger q) s
      fun t =>
      look none t.chip.esw.trigWait q.val = none ∧ t.chip.get (ESW_P_CNT_N 20 0) = min (s.chip.get (ESW_P_CNT_N 20 0) + 1) 0xFFFFFFFF ∧
        t.chip.seq.acts = s.chip.seq.acts.erase x) ∧
    (∀ (p : Fin 20) (x : Action), s.chip.zoneUp = true → s.chip.dueAction 3 (0x3000 + p.val) = some x → s.chip.hatbandPort p.val = false →
      Runs (.eswGateStep p) s fun t =>
      t.chip.get (ESW_P_GATE_NOW p.val) = x.arg % 256 ∧ t.chip.seq.acts = s.chip.seq.acts.erase x) ∧
    (∀ (a : Agent) (p : Fin 20), s.chip.admits a = true → Runs (.eswTsfifoRead a p) s fun t =>
      look {} t.chip.fab.resp (agentKey a) = { err := false, data := ((look [] s.chip.esw.stamps p.val).headD 0).toNat % 2 ^ 32 } ∧ look
        [] t.chip.esw.stamps p.val = (look [] s.chip.esw.stamps p.val).drop 1 ∧ s.frame [.esw, .fab] (among []) t) ∧
    (∀ (r : Fin 128) (u : Nat), s.chip.zoneUp = true → s.chip.tblBits 4 r.val 127 127 = 1 → (look {} s.chip.esw.recs r.val).lastAt = some u
      → u + s.chip.tblBits 4 r.val 120 105 * 1000000 ≤ s.chip.time.frc → Runs (.eswRecoveryReset r) s fun t =>
      look {} t.chip.esw.recs r.val = {} ∧ t.chip.tblBits 4 r.val 31 16 = min (s.chip.tblBits 4 r.val 31 16 + 1) 65535 ∧ t.chip.pends 270
        = true ∧ s.frame [.esw, .core] eventAddr t) ∧
    (∀ (a : Agent) (p : Fin 24) (v : W32), s.chip.admits a = true → s.chip.claims (s.chip.worldOfAgent a) 2 p.val = true → bits v.toNat 28
      27 ≠ 3 → bits v.toNat 11 0 ≠ 0 ∧ bits v.toNat 11 0 ≤ 4094 → s.chip.flag (ESW_P_CFG_EN p.val) = false → s.chip.portConflict
      (s.chip.who a) p.val = none → Runs (.eswPortEnable a p v) s fun t =>
      t.chip.flag (ESW_P_CFG_EN p.val) = true ∧ t.chip.get (ESW_P_CFG_PVID p.val) = bits v.toNat 11 0 ∧ t.chip.get (ESW_P_GATE_NOW p.val)
        = s.chip.get (ESW_P_GATE_INIT p.val) ∧ s.frame [] (among ([(ESW_P_CFG p.val).addr, (ESW_P_GATE p.val).addr] ++ if v.toNat.testBit
        24 then addrs 10 (ESW_P_CNT p.val) else [])) t) ∧
    (∀ (a : Agent) (p : Fin 24) (v : W32), s.chip.admits a = true → s.chip.claims (s.chip.worldOfAgent a) 2 p.val = true → bits v.toNat 28
      27 ≠ 3 → bits v.toNat 11 0 ≠ 0 ∧ bits v.toNat 11 0 ≤ 4094 → (v.toNat.testBit 31 = true → s.chip.flag (ESW_P_CFG_EN p.val) = true ∨
      s.chip.portConflict (s.chip.who a) p.val = none) → Runs (.eswPortClrcnt a p v) s fun t =>
      (∀ i : Fin 10, t.chip.rd (ESW_P_CNT p.val i.val) = 0)) ∧
    (∀ (a : Agent) (p : Fin 24) (v : W32), s.chip.admits a = true → s.chip.claims (s.chip.worldOfAgent a) 2 p.val = false → Runs
      (.eswPortEnable a p v) s fun t =>
      t.chip.get (ESW_P_STAT_LASTERR p.val) = stDENIED_WORLD ∧ s.frame [] (among [(ESW_P_STAT p.val).addr]) t)

/-! ### Hatband -/

/-- W2's writes of HBD_CTL enable the controller when its PHYs are claimed, TD0 does not follow the network on its own and the
  configuration meets R220, and disable, halt or clear counters (R214, R227); a slot-table entry and a mode descriptor outside the current
  and requested mode are checked and stored (R220, R241); a mode change is requested in NORMAL (R242); the owner of a buffer commits,
  requests and clears it (R239, R243). -/
def Obligations.HatbandControl : Prop :=
  ∀ (s : State) (a : Agent), s.chip.admits a = true →
    (∀ (v : W32), s.chip.worldOfAgent a = 2 → bits v.toNat 2 0 = 1 → s.chip.hbState = hsCONFIG → s.chip.physMissing = [] → s.chip.get
      (TD_CTL_SRC 0) ≠ 1 → s.chip.configOk = true → Runs (.hbdEnable a v) s fun t =>
      t.chip.flag HBD_CTL_EN = true ∧ t.chip.hbState = hsLISTEN ∧ t.chip.get HBD_STAT_CURMODE = 0 ∧ t.chip.hbd.cycle = none ∧
        t.chip.hbd.listenFrom = s.chip.frc ∧ t.chip.pends 384 = true ∧ t.chip.hbd.slots = s.chip.hbd.slots ∧ t.chip.hbd.bufs =
        s.chip.hbd.bufs ∧ s.frame [.hbd, .core] (amongEv [HBD_CTL_EN.reg.addr, HBD_STAT_STATE.reg.addr]) t) ∧
    (∀ (v : W32), s.chip.worldOfAgent a = 2 → bits v.toNat 2 0 = 1 → s.chip.hbState = hsCONFIG → s.chip.physMissing = [] → (s.chip.get
      (TD_CTL_SRC 0) = 1 ∨ s.chip.configOk = false) → Runs (.hbdEnable a v) s fun t =>
      t.chip.pends 400 = true ∧ t.chip.hbState = hsCONFIG ∧ t.chip.hbd = s.chip.hbd ∧ s.frame [.core] eventAddr t) ∧
    (∀ (v : W32), s.chip.worldOfAgent a = 2 → bits v.toNat 2 0 = 0 → Runs (.hbdDisable a v) s fun t =>
      t.chip.flag HBD_CTL_EN = false ∧ t.chip.hbState = hsCONFIG ∧ t.chip.flag HBD_STAT_GLOCK = false ∧ t.chip.hbd.cycle = none ∧
        t.chip.hbd.marks = none ∧ t.chip.hbd.slots = s.chip.hbd.slots ∧ t.chip.hbd.bufs = s.chip.hbd.bufs ∧ s.frame [.hbd, .core] (amongEv
        [HBD_CTL_EN.reg.addr, HBD_STAT_STATE.reg.addr]) t) ∧
    (∀ (v : W32), s.chip.worldOfAgent a = 2 → bits v.toNat 2 0 = 3 → s.chip.hbState ≠ hsCONFIG → Runs (.hbdHalt a v) s fun t =>
      t.chip.hbState = hsHALT ∧ t.chip.hbd.slots = s.chip.hbd.slots ∧ t.chip.hbd.bufs = s.chip.hbd.bufs ∧ s.frame [.hbd, .core] (amongEv
        [HBD_STAT_STATE.reg.addr]) t) ∧
    (∀ (v : W32), s.chip.worldOfAgent a = 2 → bits v.toNat 2 0 = 5 → s.chip.hbState ≠ hsCONFIG → Runs (.hbdClrcnt a v) s fun t =>
      (∀ ch : Fin 2, ∀ i : Fin 4, t.chip.rdN (HBD_CH ch.val i.val) = 0) ∧ t.chip.hbd = s.chip.hbd ∧ s.frame [] (among (addrs 4 (HBD_CH 0)
        ++ addrs 4 (HBD_CH 1))) t) ∧
    (∀ (v : W32), s.chip.worldOfAgent a = 2 → bit v.toNat 31 = true → s.chip.hbState = hsNORMAL → HBD_MREQ_MODE.of v.toNat ≠ s.chip.hbMode
      → s.chip.loaded (HBD_MREQ_MODE.of v.toNat) = true → bit (s.chip.get HBD_MODEOK_MODES) (HBD_MREQ_MODE.of v.toNat) = true →
      s.chip.flag HBD_MSTAT_PENDING = false → Runs (.hbdMreq a v) s fun t =>
      t.chip.flag HBD_MSTAT_PENDING = true ∧ t.chip.get HBD_MSTAT_MODE = HBD_MREQ_MODE.of v.toNat ∧ t.chip.hbState = hsNORMAL ∧
        t.chip.hbMode = s.chip.hbMode) ∧
    (∀ (v : W32), s.chip.worldOfAgent a = 2 → bit v.toNat 31 = true → s.chip.hbState ≠ hsNORMAL → Runs (.hbdMreq a v) s fun t =>
      t.chip.get HBD_MSTAT_STATUS = stNOT_NOW ∧ t.chip.pends 400 = true ∧ t.chip.flag HBD_MSTAT_PENDING = s.chip.flag HBD_MSTAT_PENDING) ∧
    (∀ (v : W128) (m i : Nat) (e : HbdSlot) (d : Chip), s.chip.worldOfAgent a = 2 → s.chip.get HBD_STSEL_MODE = m → s.chip.get
      HBD_STSEL_ENTRY = i → slotOf (v.toNat % 2 ^ 64) = e → (s.chip.hbState = hsCONFIG ∨ (m ≠ s.chip.hbMode ∧ s.chip.flag
      HBD_MSTAT_PENDING = false ∧ s.chip.hbd.confMode ≠ some m)) → (e.valid = true → e.rep < 7 ∧ e.base < 2 ^ e.rep ∧ e.len ≤ 254 ∧ (e.tx
      = true → e.type < 2)) → (d = s.chip.updHbd fun b => { b with slots := put 0 b.slots (512 * m + i) (v.toNat % 2 ^ 64) }) →
      s.chip.timingOk = true ∧ (d.hbSlots m).all d.staticFits = true ∧ d.ownershipOk (d.hbSlots m) = true → Runs (.hbdStdataWrite a v) s
      fun t =>
      look 0 t.chip.hbd.slots (512 * m + i) = v.toNat % 2 ^ 64 ∧ (∀ j : Fin 4096, j.val ≠ 512 * m + i → look 0 t.chip.hbd.slots j.val =
        look 0 s.chip.hbd.slots j.val) ∧ t.chip.hbd.bufs = s.chip.hbd.bufs) ∧
    (∀ (m : Fin 8) (v : W128), s.chip.worldOfAgent a = 2 → s.chip.modeBusy m.val = false → 1 ≤ (HBD_MODE_NSLOT m.val).of v.toNat ∧
      (HBD_MODE_NSLOT m.val).of v.toNat ≤ 256 → s.chip.timingOk = true → s.chip.cycleFits ((HBD_MODE_NSLOT m.val).of v.toNat)
      ((HBD_MODE_NMS m.val).of v.toNat) = true → Runs (.hbdModeWrite a m v) s fun t =>
      t.chip.flag (HBD_MODE_VALID m.val) = bit v.toNat 127 ∧ t.chip.get (HBD_MODE_NSLOT m.val) = (HBD_MODE_NSLOT m.val).of v.toNat ∧
        t.chip.get (HBD_MODE_NMS m.val) = (HBD_MODE_NMS m.val).of v.toNat ∧ t.chip.get (HBD_MODE_REQNODES m.val) = (HBD_MODE_REQNODES
        m.val).of v.toNat ∧ s.frame [] (among [(HBD_MODE_VALID m.val).reg.addr]) t) ∧
    (∀ (v : W32) (n : Nat), s.chip.hbdSelected (s.chip.who a) = some n → a.vf = none → bits v.toNat 2 0 = 1 → Runs (.hbdBufCommit a v) s
      fun t =>
      t.chip.hbBuf n = { s.chip.hbBuf n with current := (s.chip.hbBuf n).staging, committed := true, status := stOK } ∧ (∀ k : Fin 512,
        k.val ≠ n → t.chip.hbBuf k.val = s.chip.hbBuf k.val) ∧ s.frame [.hbd] (among []) t) ∧
    (∀ (v : W32) (n : Nat), s.chip.hbdSelected (s.chip.who a) = some n → a.vf = none → bits v.toNat 2 0 = 2 → Runs (.hbdBufTxreq a v) s fun
      t =>
      t.chip.hbBuf n = { s.chip.hbBuf n with request := s.chip.get HBD_CFG_CHEN, status := stOK } ∧ (∀ k : Fin 512, k.val ≠ n →
        t.chip.hbBuf k.val = s.chip.hbBuf k.val) ∧ s.frame [.hbd] (among []) t) ∧
    (∀ (v : W32) (n : Nat), s.chip.hbdSelected (s.chip.who a) = some n → bits v.toNat 2 0 = 4 → Runs (.hbdBufClr a v) s fun t =>
      t.chip.hbBuf n = {} ∧ (∀ k : Fin 512, k.val ≠ n → t.chip.hbBuf k.val = s.chip.hbBuf k.val) ∧ s.frame [.hbd] (among []) t)

/-- The projection of TD0 entering a new cycle begins it with nothing received and shows its number (R217); 2 µs before the action point
  of an own slot its committed buffer is copied (R239), and at the action point the frame goes to the channels of the entry that are
  enabled (R219); a cold-start node whose listen timer expires leads a cold start (R230); the end of the static segment offers a
  correction or says there is no sync node (R234), and counts one that was not acknowledged as missed (R235); an acknowledged one ends
  that; in the open segment the turn passes with each idle minislot (R237). An uncorrectable table entry or buffer is invalidated at the
  copy with EV0402 (R244). -/
def Obligations.HatbandSchedule : Prop :=
  ∀ (s : State), s.chip.zoneUp = true →
    (∀ (k : Nat), 1 ≤ s.chip.hbState ∧ s.chip.hbState ≤ 6 → 0 < s.chip.hbCyclen → k = s.chip.pb0At s.chip.frc / s.chip.hbCyclen →
      s.chip.hbd.cycle ≠ some k → (s.chip.hbState = hsLISTEN ∨ s.chip.hbd.cycle = none) → Runs (.hbdCycleStart) s fun t =>
      t.chip.hbd.cycle = some k ∧ t.chip.get HBD_STAT_CYCLE = k % 64 ∧ t.chip.hbd.staticDone = false ∧ t.chip.hbd.meas = [] ∧
        t.chip.hbd.syncs = [] ∧ t.chip.hbd.own = [] ∧ t.chip.hbd.copies = [] ∧ t.chip.hbd.turn = [] ∧ t.chip.hbd.lastMeas =
        s.chip.hbd.meas ∧ t.chip.hbState = s.chip.hbState ∧ t.chip.hbd.bufs = s.chip.hbd.bufs ∧ t.chip.hbd.slots = s.chip.hbd.slots ∧
        s.frame [.hbd] (among [HBD_STAT_STATE.reg.addr]) t) ∧
    (∀ (slot : Fin 257) (e : HbdSlot), s.chip.hbd.cycle.isSome = true → s.chip.due (s.chip.hbTick (s.chip.actionPoint slot.val - 2000)) =
      true → look none s.chip.hbd.copies slot.val = none → s.chip.hbTxEntry slot.val = some e → (s.chip.hbBuf e.buf).committed = true →
      Runs (.hbdBufferCopy slot 0) s fun t =>
      look none t.chip.hbd.copies slot.val = some (firstBytes (s.chip.hbBuf e.buf).current e.len) ∧ t.chip.hbd.bufs = s.chip.hbd.bufs ∧
        t.chip.hbd.wire = s.chip.hbd.wire ∧ s.frame [.hbd] (among []) t) ∧
    (∀ (slot : Fin 257) (e : HbdSlot), s.chip.hbd.cycle.isSome = true → s.chip.due (s.chip.hbTick (s.chip.actionPoint slot.val - 2000)) =
      true → look none s.chip.hbd.copies slot.val = none → s.chip.hbTxEntry slot.val = some e → Runs (.hbdBufferCopy slot 2) s fun t =>
      (t.chip.hbBuf e.buf).committed = false ∧ t.chip.pends 402 = true ∧ t.chip.hbd.copies = s.chip.hbd.copies ∧ t.chip.hbd.slots =
        s.chip.hbd.slots ∧ s.frame [.hbd, .core] (amongEv []) t) ∧
    (∀ (slot : Fin 257) (e : HbdSlot) (i v : Nat), s.chip.hbd.cycle.isSome = true → s.chip.due (s.chip.hbTick (s.chip.actionPoint slot.val
      - 2000)) = true → look none s.chip.hbd.copies slot.val = none → s.chip.hbTxEntry slot.val = some e → s.chip.hbd.slots = [(i, v)] →
      Runs (.hbdBufferCopy slot 1) s fun t =>
      look 0 t.chip.hbd.slots i = setBit v 63 false ∧ t.chip.pends 402 = true ∧ t.chip.hbd.copies = s.chip.hbd.copies ∧ t.chip.hbd.bufs =
        s.chip.hbd.bufs ∧ s.frame [.hbd, .core] (amongEv []) t) ∧
    (∀ (slot : Fin 257) (e : HbdSlot) (d : List Byte), s.chip.hbd.cycle.isSome = true → s.chip.hbState = hsNORMAL → s.chip.guardianOpen =
      true → s.chip.due (s.chip.hbTick (s.chip.actionPoint slot.val)) = true → s.chip.hbTxEntry slot.val = some e → look none
      s.chip.hbd.copies slot.val = some d → ((s.chip.hbd.own.any fun o => o.slot == slot.val) = false) → Runs (.hbdSlotTransmit slot) s
      fun t =>
      (∀ ch : Fin 2, bit (e.ch &&& s.chip.get HBD_CFG_CHEN) ch.val = true → look [] t.chip.hbd.wire ch.val = s.chip.ownFrame e false (some
        d) s.chip.hbCycle) ∧ (∀ ch : Fin 2, bit (e.ch &&& s.chip.get HBD_CFG_CHEN) ch.val = false → look [] t.chip.hbd.wire ch.val = look
        [] s.chip.hbd.wire ch.val) ∧ (∀ ch : Fin 2, bit (e.ch &&& s.chip.get HBD_CFG_CHEN) ch.val = true → look none t.chip.hbd.sendEnd
        ch.val = some (s.chip.hbTick (s.chip.actionPoint slot.val + wireTime e.len e.sync))) ∧ t.chip.hbd.bufs = s.chip.hbd.bufs ∧
        t.chip.hbd.cycle = s.chip.hbd.cycle ∧ s.frame [.hbd] (among []) t) ∧
    (∀ (slot : Fin 257), (s.chip.hbState = hsPASSIVE ∨ s.chip.hbState = hsSILENT ∨ s.chip.guardianOpen = false) → Runs (.hbdSlotTransmit
      slot) s fun t =>
      t.chip = s.chip) ∧
    (∀ (e : HbdSlot), s.chip.coldEntry = some e → s.chip.hbState = hsLISTEN → s.chip.flag HBD_CFG_CSEN = true → s.chip.due
      (s.chip.hbd.listenFrom + s.chip.get HBD_TIM3_LTO * 1000 + s.chip.get HBD_CFG_CSIDX * s.chip.hbSlotlen) = true → 0 < s.chip.hbCyclen
      → Runs (.hbdListenExpiry) s fun t =>
      t.chip.hbState = hsCOLDSTART ∧ t.chip.hbd.leader = true ∧ t.chip.hbd.waitStep = true ∧ t.chip.flag HBD_STAT_CORRRDY = true ∧
        t.chip.pends 384 = true ∧ t.chip.pends 385 = true ∧ t.chip.hbd.startTick = s.chip.frc - s.chip.slotStart e.slot ∧ t.chip.hbd.cycle
        = some ((s.chip.tdAt 0 (s.chip.frc - s.chip.slotStart e.slot) + s.chip.hbCyclen * 65536 - 1) / (s.chip.hbCyclen * 65536)) ∧
        t.chip.hbd.bufs = s.chip.hbd.bufs ∧ t.chip.hbd.slots = s.chip.hbd.slots) ∧
    (s.chip.hbState = hsPASSIVE → s.chip.hbd.cycle.isSome = true → s.chip.hbd.staticDone = false ∧ s.chip.hbd.waitStep = false → s.chip.due
      (s.chip.hbTick s.chip.staticLen) = true → s.chip.hbd.ackFor = none → s.chip.hbd.meas = [] → Runs (.hbdStaticEnd) s fun t =>
      t.chip.hbd.staticDone = true ∧ t.chip.flag HBD_STAT_CORRRDY = false ∧ t.chip.get HBD_STAT_NSYNC = 0 ∧ t.chip.get HBD_CORR_VALID = 0
        ∧ t.chip.pends 389 = true ∧ t.chip.hbState = hsPASSIVE ∧ t.chip.get HBD_RATE_PPB = s.chip.get HBD_RATE_PPB) ∧
    (∀ (n : Nat), s.chip.hbState = hsNORMAL → s.chip.hbd.cycle.isSome = true → s.chip.hbd.staticDone = false ∧ s.chip.hbd.waitStep = false
      → s.chip.due (s.chip.hbTick s.chip.staticLen) = true → s.chip.hbd.ackFor = some n → s.chip.get HBD_STAT_MISS = 1 → Runs
      (.hbdStaticEnd) s fun t =>
      t.chip.get HBD_STAT_MISS = 2 ∧ t.chip.flag HBD_STAT_CORRMISS = true ∧ t.chip.hbState = hsSILENT ∧ t.chip.pends 386 = true ∧
        t.chip.pends 387 = true ∧ t.chip.hbd.staticDone = true) ∧
    (∀ (a : Agent) (v : W128), s.chip.admits a = true → s.chip.worldOfAgent a = 2 → s.chip.hbd.ackFor = some (HBD_CORRACK_CYCLE.of v.toNat)
      → Runs (.hbdCorrack a v) s fun t =>
      t.chip.get HBD_STAT_MISS = 0 ∧ t.chip.flag HBD_STAT_CORRRDY = false ∧ t.chip.hbd.ackFor = none ∧ t.chip.hbd.waitStep = false ∧
        t.chip.hbd.stepAcked = s.chip.hbd.stepAcked + signed 80 (HBD_CORRACK_STEP.of v.toNat) ∧ t.chip.hbState = (if s.chip.hbState =
        hsSILENT then hsPASSIVE else s.chip.hbState)) ∧
    (∀ (ch : Fin 2) (m : Fin 256) (x : Nat), 2 ≤ s.chip.hbState ∧ s.chip.hbState ≤ 6 ∧ s.chip.hbState ≠ hsNORMAL → s.chip.hbd.cycle.isSome
      = true → 0 < m.val ∧ m.val < s.chip.get (HBD_MODE_NMS s.chip.hbMode) → look none s.chip.hbd.mini ch.val = some x ∧ x < m.val → look
      none s.chip.hbd.sendEnd ch.val = none → s.chip.due (s.chip.hbTick (s.chip.staticLen + m.val * s.chip.hbMslen)) = true → Runs
      (.hbdMinislot ch m) s fun t =>
      look none t.chip.hbd.mini ch.val = some m.val ∧ look none t.chip.hbd.turn ch.val = some
        (match look none s.chip.hbd.turn ch.val with | some n => n + 1 | none => 0) ∧ t.chip.hbd.bufs = s.chip.hbd.bufs ∧ t.chip.hbd.wire
        = s.chip.hbd.wire ∧ s.frame [.hbd] (among []) t)

/-- In LISTEN a frame that is not well formed counts INVALID, and a valid sync frame of a running cluster is counted and takes the
  controller to INTEGRATE with the cycle it names (R223, R229); every reception restarts the listen timer (R230). While a schedule runs a
  bad frame counts INVALID. The guardian takes the first mark as its reference and locks on the second, rejects one out of its window
  (R226), cuts a transmission that outlasts its window (R225), and its own failure halts the controller; a PHY that fails says so. -/
def Obligations.HatbandReceptionAndGuardian : Prop :=
  ∀ (s : State), s.chip.zoneUp = true →
    (∀ (ch : Fin 2) (start : W64) (bs : List Byte), s.chip.hbState = hsLISTEN → bit (s.chip.get HBD_CFG_CHEN) ch.val = true → start.toNat ≤
      s.chip.frc → parseFrame bs = none → Runs (.hbdFrameReceive ch start bs) s fun t =>
      t.chip.get (HBD_CH_N ch.val 1) = min (s.chip.get (HBD_CH_N ch.val 1) + 1) 0xFFFFFFFF ∧ t.chip.hbd =
        { s.chip.hbd with listenFrom := s.chip.frc } ∧ s.frame [.hbd] (among [(HBD_CH ch.val 1).addr]) t) ∧
    (∀ (ch : Fin 2) (start : W64) (bs : List Byte) (f : HbdFrame), s.chip.hbState = hsLISTEN → bit (s.chip.get HBD_CFG_CHEN) ch.val = true
      → start.toNat ≤ s.chip.frc → parseFrame bs = some f → (f.sync = true ∧ (f.startup = true → s.chip.flag HBD_CFG_CSEN = true)) → 0 <
      s.chip.hbCyclen → Runs (.hbdFrameReceive ch start bs) s fun t =>
      t.chip.hbState = hsINTEGRATE ∧ t.chip.hbd.cycle = some (f.time / s.chip.hbCyclen) ∧ t.chip.get HBD_STAT_CYCLE = f.cycle ∧ t.chip.get
        HBD_STAT_CURMODE = f.curmode ∧ t.chip.hbd.waitStep = true ∧ t.chip.flag HBD_STAT_CORRRDY = true ∧ t.chip.pends 384 = true ∧
        t.chip.pends 385 = true ∧ t.chip.get (HBD_CH_N ch.val 0) = min (s.chip.get (HBD_CH_N ch.val 0) + 1) 0xFFFFFFFF ∧ t.chip.hbd.bufs =
        s.chip.hbd.bufs ∧ t.chip.hbd.slots = s.chip.hbd.slots) ∧
    (∀ (ch : Fin 2) (start : W64) (bs : List Byte), 2 ≤ s.chip.hbState ∧ s.chip.hbState ≤ 6 → bit (s.chip.get HBD_CFG_CHEN) ch.val = true →
      start.toNat ≤ s.chip.frc → parseFrame bs = none → s.chip.hbd.own = [] → Runs (.hbdFrameReceive ch start bs) s fun t =>
      t.chip.get (HBD_CH_N ch.val 1) = min (s.chip.get (HBD_CH_N ch.val 1) + 1) 0xFFFFFFFF ∧ t.chip.hbd =
        { s.chip.hbd with listenFrom := s.chip.frc } ∧ s.frame [.hbd] (among [(HBD_CH ch.val 1).addr]) t) ∧
    (∀ (ch : Fin 2) (start : W64) (bs : List Byte) (f : HbdFrame), s.chip.hbState = hsPASSIVE → bit (s.chip.get HBD_CFG_CHEN) ch.val = true
      → start.toNat ≤ s.chip.frc → parseFrame bs = some f → s.chip.hbd.cycle.isSome = true ∧ s.chip.frameValid ch.val start.toNat f = true
      → f.sender ≠ s.chip.hbNode ∧ f.sync = false → s.chip.hbd.own = [] → ((s.chip.hbSlots s.chip.hbMode).find? (fun e => !e.tx && e.slot
      == f.slot && bit e.ch ch.val && e.inCycle s.chip.hbCycle) = none) → Runs (.hbdFrameReceive ch start bs) s fun t =>
      t.chip.get (HBD_CH_N ch.val 0) = min (s.chip.get (HBD_CH_N ch.val 0) + 1) 0xFFFFFFFF ∧ look 0 t.chip.hbd.modes f.curmode = look 0
        s.chip.hbd.modes f.curmode + 1 ∧ t.chip.hbd.reqs = (if f.req then s.chip.hbd.reqs ++ [f.rmode] else s.chip.hbd.reqs) ∧
        t.chip.hbd.bufs = s.chip.hbd.bufs ∧ t.chip.hbd.meas = s.chip.hbd.meas ∧ t.chip.hbd.listenFrom = s.chip.frc ∧ t.chip.hbState =
        hsPASSIVE) ∧
    (∀ (raw : Nat), 1 ≤ s.chip.hbState ∧ s.chip.hbState ≤ 6 → s.chip.flag HBD_STAT_GFAULT = false → s.chip.hbd.marks = none → Runs
      (.guardianMark raw) s fun t =>
      t.chip.hbd.marks = some 1 ∧ t.chip.flag HBD_STAT_GLOCK = false ∧ t.chip.hbd.trim = s.chip.hbd.trim ∧ t.chip.hbState = s.chip.hbState
        ∧ s.frame [.hbd] (among [HBD_STAT_STATE.reg.addr]) t) ∧
    (∀ (raw m : Nat), (s.chip.hbState = hsNORMAL ∨ s.chip.hbState = hsPASSIVE) → s.chip.flag HBD_STAT_GFAULT = false → s.chip.hbd.marks =
      some m ∧ 1 ≤ m → s.chip.hbd.rejects < 8 → (((raw * s.chip.hbCyclen / s.chip.trimMean : Nat) : Int) - ((s.chip.hbd.sinceMark *
      s.chip.hbCyclen : Nat) : Int)).natAbs ≤ s.chip.get HBD_TIM4_OFSLIM + s.chip.get HBD_TIM1_GDELTA → Runs (.guardianMark raw) s fun t
      =>
      t.chip.hbd.marks = some (m + 1) ∧ t.chip.flag HBD_STAT_GLOCK = true ∧ t.chip.hbd.rejects = 0 ∧ t.chip.hbd.sinceMark = 0 ∧ s.frame
        [.hbd] (among [HBD_STAT_STATE.reg.addr]) t) ∧
    (∀ (raw m : Nat), (s.chip.hbState = hsNORMAL ∨ s.chip.hbState = hsPASSIVE) → s.chip.flag HBD_STAT_GFAULT = false → s.chip.hbd.marks =
      some m → s.chip.hbd.rejects < 8 → s.chip.get HBD_TIM4_OFSLIM + s.chip.get HBD_TIM1_GDELTA < (((raw * s.chip.hbCyclen /
      s.chip.trimMean : Nat) : Int) - ((s.chip.hbd.sinceMark * s.chip.hbCyclen : Nat) : Int)).natAbs → Runs (.guardianMark raw) s fun t =>
      t.chip.hbd.rejects = s.chip.hbd.rejects + 1 ∧ t.chip.flag HBD_STAT_GLOCK = false ∧ t.chip.pends 391 = true ∧ t.chip.hbState =
        hsPASSIVE) ∧
    (∀ (ch : Fin 2) (u : Nat), look none s.chip.hbd.sendEnd ch.val = some u → s.chip.frc < u → Runs (.guardianCut ch) s fun t =>
      look none t.chip.hbd.sendEnd ch.val = none ∧ t.chip.get (HBD_CH_N ch.val 2) = min (s.chip.get (HBD_CH_N ch.val 2) + 1) 0xFFFFFFFF ∧
        t.chip.flag HBD_STAT_GCUT = true ∧ t.chip.pends 392 = true ∧ t.chip.hbState = s.chip.hbState) ∧
    (Runs (.guardianFault) s fun t =>
      t.chip.flag HBD_STAT_GFAULT = true ∧ t.chip.flag HBD_STAT_GLOCK = false ∧ t.chip.hbState = hsHALT ∧ t.chip.hbd.sendEnd = [] ∧
        t.chip.pends 391 = true ∧ t.chip.hbd.bufs = s.chip.hbd.bufs ∧ t.chip.hbd.slots = s.chip.hbd.slots) ∧
    (∀ (ch : Fin 2), Runs (.hatbandPhyFault ch false) s fun t =>
      t.chip.flag (if ch.val = 0 then HBD_STAT_LINKA else HBD_STAT_LINKB) = false ∧ t.chip.pends (398 + ch.val) = true ∧ s.frame [.core]
        (amongEv [HBD_STAT_STATE.reg.addr]) t) ∧
    (∀ (ch : Fin 2), Runs (.hatbandPhyFault ch true) s fun t =>
      t.chip.flag (if ch.val = 0 then HBD_STAT_LINKA else HBD_STAT_LINKB) = true ∧ s.frame [] (among [HBD_STAT_STATE.reg.addr]) t)

/-! ### CAN and LIN -/

/-- A requester whose world owns the selected object commits its staging copy (R252), requests transmission — pending, merged or queued
  behind the frame on the bus (R253) —, cancels a pending request but not one on the bus (R255), and marks it read; the status is its own
  CANn_ORES (R265). Another world's object is refused with DENIED_WORLD and stays as it was (R249). A descriptor that is valid and fits is
  stored, but not under a transmit object that is valid (R251). RECOVER starts the recovery from bus-off (R258); CLRCNT clears. -/
def Obligations.CanObjectCommands : Prop :=
  ∀ (s : State) (a : Agent) (n : Fin 12), s.chip.admits a = true →
    (∀ (v : W32) (i : Nat), s.chip.canSelected (s.chip.who a) n.val = some i → s.chip.poolWorld 1 i = some (s.chip.worldOfAgent a) → bits
      v.toNat 3 0 = 4 → Runs (.canCommit a n v) s fun t =>
      t.chip.canObj i = { s.chip.canObj i with current := (s.chip.canObj i).staging } ∧ (∀ k : Fin 1536, k.val ≠ i → t.chip.canObj k.val =
        s.chip.canObj k.val) ∧ s.frame [.can] (among []) t) ∧
    (∀ (v : W32) (i : Nat), s.chip.canSelected (s.chip.who a) n.val = some i → s.chip.poolWorld 1 i = some (s.chip.worldOfAgent a) → bits
      v.toNat 3 0 = 1 → (s.chip.canObj i).transmits = true ∧ (s.chip.canObj i).trig = false → s.chip.canOpen i = true → (s.chip.canObj
      i).tx = .idle → Runs (.canTxreq a n v) s fun t =>
      t.chip.canObj i = { s.chip.canObj i with tx := .pending } ∧ (∀ k : Fin 1536, k.val ≠ i → t.chip.canObj k.val = s.chip.canObj k.val)
        ∧ s.frame [.can] (among []) t) ∧
    (∀ (v : W32) (i : Nat), s.chip.canSelected (s.chip.who a) n.val = some i → s.chip.poolWorld 1 i = some (s.chip.worldOfAgent a) → bits
      v.toNat 3 0 = 1 → (s.chip.canObj i).transmits = true ∧ (s.chip.canObj i).trig = false → s.chip.canOpen i = true → (s.chip.canObj
      i).tx = .pending → Runs (.canTxreq a n v) s fun t =>
      t.chip.get (CAN_CNT_MERGED (i / 128)) = min (s.chip.get (CAN_CNT_MERGED (i / 128)) + 1) 65535 ∧ t.chip.can.objs = s.chip.can.objs ∧
        s.frame [.can] (among [(CAN_CNT_MERGED (i / 128)).reg.addr]) t) ∧
    (∀ (v : W32) (i : Nat), s.chip.canSelected (s.chip.who a) n.val = some i → s.chip.poolWorld 1 i = some (s.chip.worldOfAgent a) → bits
      v.toNat 3 0 = 2 → (s.chip.canObj i).tx ≠ .active → (∀ r : Fin 8, (s.chip.gwRoute (i / 128) (8 + r.val)).fifo = []) → Runs
      (.canCancel a n v) s fun t =>
      t.chip.canObj i = { s.chip.canObj i with tx := .idle } ∧ (∀ k : Fin 1536, k.val ≠ i → t.chip.canObj k.val = s.chip.canObj k.val) ∧
        s.frame [.can] (among []) t) ∧
    (∀ (v : W32) (i : Nat), s.chip.canSelected (s.chip.who a) n.val = some i → i < 1536 → s.chip.poolWorld 1 i = some (s.chip.worldOfAgent
      a) → bits v.toNat 3 0 = 2 → (s.chip.canObj i).tx = .active → Runs (.canCancel a n v) s fun t =>
      t.chip.can.objs = s.chip.can.objs ∧ t.chip.get (CAN_STAT_LASTERR (i / 128)) = stBUSY ∧ t.chip.pends (320 + 4 * (i / 128) + 2) = true) ∧
    (∀ (v : W32) (i : Nat), s.chip.canSelected (s.chip.who a) n.val = some i → s.chip.poolWorld 1 i = some (s.chip.worldOfAgent a) → bits
      v.toNat 3 0 = 8 → Runs (.canClrnew a n v) s fun t =>
      t.chip.canObj i = { s.chip.canObj i with fresh := false } ∧ (∀ k : Fin 1536, k.val ≠ i → t.chip.canObj k.val = s.chip.canObj k.val)
        ∧ s.frame [.can] (among []) t) ∧
    (∀ (v : W32) (i : Nat), s.chip.canSelected (s.chip.who a) n.val = some i → i < 1536 → s.chip.poolWorld 1 i ≠ some (s.chip.worldOfAgent
      a) → Runs (.canTxreq a n v) s fun t =>
      t.chip.can.objs = s.chip.can.objs ∧ t.chip.get (CAN_STAT_LASTERR (i / 128)) = stDENIED_WORLD ∧ t.chip.pends (320 + 4 * (i / 128) +
        2) = true) ∧
    (∀ (word : Fin 2) (v : W128) (i : Nat) (o : CanObj), s.chip.canSelected (s.chip.who a) n.val = some i → s.chip.poolWorld 1 i = some
      (s.chip.worldOfAgent a) → (s.chip.canObj i).transmits = false → o =
      { s.chip.canObj i with w0 := (if word.val = 0 then v else (s.chip.canObj i).w0), w1 := (if word.val = 0 then (s.chip.canObj i).w1 else v), tx := .idle, queued := false, txDone := false, lastStore := s.chip.frc, stale := false }
      → (o.valid = true → s.chip.canDescOk (i / 128) (i % 128) o = true) → Runs (.canDescWrite a n word v) s fun t =>
      t.chip.canObj i = o ∧ (∀ k : Fin 1536, k.val ≠ i → t.chip.canObj k.val = s.chip.canObj k.val) ∧ s.frame [.can] (among []) t) ∧
    (∀ (v : W32), s.chip.claims (s.chip.worldOfAgent a) 7 n.val = true → s.chip.flag (CAN_CTL_EN n.val) = true ∧ bit v.toNat 31 = true →
      canModeBits v.toNat = canModeBits (s.chip.rdN (CAN_CTL n.val)) → (8 ≤ n.val ∨ bit v.toNat 28 = false) → bits v.toNat 23 22 = 1 →
      s.chip.get (CAN_STAT_BUSST n.val) = 2 → Runs (.canRecover a n v) s fun t =>
      look false t.chip.can.recovering n.val = true ∧ t.chip.get (CAN_STAT_BUSST n.val) = 2 ∧ s.frame [.can] (among [(CAN_CTL
        n.val).addr]) t) ∧
    (∀ (v : W32), s.chip.claims (s.chip.worldOfAgent a) 7 n.val = true → s.chip.flag (CAN_CTL_EN n.val) = true ∧ bit v.toNat 31 = true →
      canModeBits v.toNat = canModeBits (s.chip.rdN (CAN_CTL n.val)) → (8 ≤ n.val ∨ bit v.toNat 28 = false) → bits v.toNat 23 22 = 2 →
      Runs (.canClrcnt a n v) s fun t =>
      t.chip.rdN (CAN_CNT n.val) = 0 ∧ t.chip.rdN (CAN_GWCNT n.val) = 0 ∧ s.frame [] (among [(CAN_CTL n.val).addr, (CAN_CNT n.val).addr,
        (CAN_GWCNT n.val).addr]) t)

/-- A received frame goes into the lowest object it matches (R256); one that nothing takes is counted; an object without a frame for its
  TIMEOUT is stale. The winning pending object goes onto the bus (R254); its end makes it idle or pending again (R253), a failure pends it
  again or discards it under ONESHOT (R255), and a fired occurrence requests it (R259). Bus-off puts the frame's object back to pending,
  and a completed recovery ends it (R258). A gateway frame past MAXLAT is closed (R261); a frame of another stream is left alone (R262).
  -/
def Obligations.CanBus : Prop :=
  ∀ (s : State) (n : Fin 12), s.chip.zoneUp = true →
    (∀ (f : CanFrame) (k : Fin 128), s.chip.can.jobs = [] → s.chip.canTakes n.val f.fmt.val f.ide = true → (∀ r : Fin 8, s.chip.gwOn n.val
      r.val = false) → s.chip.canMatches n.val (s.chip.canObj (128 * n.val + k.val)) f = true → (∀ j : Fin 128, j.val < k.val →
      s.chip.canMatches n.val (s.chip.canObj (128 * n.val + j.val)) f = false) → Runs (.canRxFrame n f) s fun t =>
      t.chip.canObj (128 * n.val + k.val) =
        { s.chip.canObj (128 * n.val + k.val) with current := intoCopy [] 0 f.data, len := f.data.length, flags := b2n f.rtr + 2 * b2n f.brs, stamp := f.stamp.toNat, lost := (if (s.chip.canObj (128 * n.val + k.val)).fresh then min 255 ((s.chip.canObj (128 * n.val + k.val)).lost + 1) else (s.chip.canObj (128 * n.val + k.val)).lost), fresh := true, stale := false, lastStore := s.chip.frc }
        ∧ (∀ j : Fin 1536, j.val ≠ 128 * n.val + k.val → t.chip.canObj j.val = s.chip.canObj j.val) ∧ ((s.chip.canObj (128 * n.val +
        k.val)).irq = true → t.chip.pends (320 + 4 * n.val + 1) = true) ∧ ((s.chip.canObj (128 * n.val + k.val)).fresh = true →
        t.chip.flag (CAN_STAT_LOST n.val) = true ∧ t.chip.pends (320 + 4 * n.val + 2) = true)) ∧
    (∀ (f : CanFrame), s.chip.can.jobs = [] → s.chip.canTakes n.val f.fmt.val f.ide = true → (∀ r : Fin 8, s.chip.gwOn n.val r.val = false)
      → (∀ j : Fin 128, s.chip.canMatches n.val (s.chip.canObj (128 * n.val + j.val)) f = false) → Runs (.canRxFrame n f) s fun t =>
      t.chip.can.objs = s.chip.can.objs ∧ t.chip.get (CAN_CNT_NOMATCH n.val) = min (s.chip.get (CAN_CNT_NOMATCH n.val) + 1) 65535) ∧
    (∀ (f : CanFrame), s.chip.can.jobs = [] → s.chip.canTakes n.val f.fmt.val f.ide = false → Runs (.canRxFrame n f) s fun t =>
      t.chip = s.chip) ∧
    (∀ (o : Fin 128) (x : CanObj), s.chip.canObj (128 * n.val + o.val) = x → x.valid = true ∧ x.isTx = false ∧ x.timeout ≠ 0 ∧ x.stale =
      false → s.chip.due (x.lastStore + x.timeout * 1000000) = true → Runs (.canStale n o) s fun t =>
      t.chip.canObj (128 * n.val + o.val) = { x with stale := true } ∧ (∀ j : Fin 1536, j.val ≠ 128 * n.val + o.val → t.chip.canObj j.val
        = s.chip.canObj j.val) ∧ (x.irq = true → t.chip.pends (320 + 4 * n.val + 1) = true) ∧ s.frame [.can, .core] eventAddr t) ∧
    (∀ (k : Nat) (x : CanObj), s.chip.flag (CAN_CTL_LISTEN n.val) = false → look none s.chip.can.active n.val = none → s.chip.canWinner
      n.val = some k → s.chip.canObj (128 * n.val + k) = x → x.isRef = false → Runs (.canArbitrationStart n) s fun t =>
      look none t.chip.can.active n.val = some k ∧ look [] t.chip.can.shift n.val = copyBytes x.current x.size ∧ t.chip.canObj (128 *
        n.val + k) = { x with tx := .active, len := x.size } ∧ (∀ j : Fin 1536, j.val ≠ 128 * n.val + k → t.chip.canObj j.val =
        s.chip.canObj j.val) ∧ t.chip.flag (CAN_STAT_TXACT n.val) = true ∧ s.frame [.can] (among [(CAN_STAT n.val).addr]) t) ∧
    (∀ (k : Nat) (x : CanObj), look none s.chip.can.active n.val = some k → s.chip.canObj (128 * n.val + k) = x → (∀ r : Fin 8, s.chip.gwOn
      n.val (8 + r.val) = false) → Runs (.canTxComplete n) s fun t =>
      look none t.chip.can.active n.val = none ∧ t.chip.flag (CAN_STAT_TXACT n.val) = false ∧ t.chip.canObj (128 * n.val + k) =
        { x with tx := (if x.queued then .pending else .idle), queued := false, txDone := true, status := stOK } ∧ t.chip.get (CAN_ERR_TEC
        n.val) = s.chip.get (CAN_ERR_TEC n.val) - 1 ∧ (x.irq = true → t.chip.pends (320 + 4 * n.val + 1) = true)) ∧
    (∀ (lec : Fin 7) (tec rx : Fin 256) (k : Nat) (x : CanObj), look none s.chip.can.active n.val = some k → s.chip.canObj (128 * n.val +
      k) = x → x.oneshot = false → Runs (.canTxFail n lec tec rx) s fun t =>
      look none t.chip.can.active n.val = none ∧ t.chip.canObj (128 * n.val + k) = { x with tx := .pending } ∧ (lec.val ≠ 0 → t.chip.get
        (CAN_STAT_LEC n.val) = lec.val ∧ t.chip.get (CAN_ERR_TEC n.val) = tec.val ∧ t.chip.get (CAN_ERR_REC n.val) = rx.val)) ∧
    (∀ (lec : Fin 7) (tec rx : Fin 256) (k : Nat) (x : CanObj), look none s.chip.can.active n.val = some k → s.chip.canObj (128 * n.val +
      k) = x → x.oneshot = true → (∀ r : Fin 8, s.chip.gwOn n.val (8 + r.val) = false) → Runs (.canTxFail n lec tec rx) s fun t =>
      look none t.chip.can.active n.val = none ∧ t.chip.canObj (128 * n.val + k) =
        { x with tx := (if x.queued then .pending else .idle), queued := false, status := stTIMEOUT } ∧ t.chip.pends (320 + 4 * n.val + 2)
        = true) ∧
    (∀ (o : Fin 128) (x : Action), s.chip.dueAction 3 (128 * n.val + o.val) = some x → (s.chip.canObj (128 * n.val + o.val)).transmits =
      true → s.chip.canOpen (128 * n.val + o.val) = true → (s.chip.canObj (128 * n.val + o.val)).tx = .idle → Runs (.canTxTrigger n o) s
      fun t =>
      (t.chip.canObj (128 * n.val + o.val)).tx = .pending ∧ t.chip.dueAction 3 (128 * n.val + o.val) = (s.chip.dropAction x).dueAction 3
        (128 * n.val + o.val) ∧ (∀ j : Fin 1536, j.val ≠ 128 * n.val + o.val → t.chip.canObj j.val = s.chip.canObj j.val) ∧ s.frame [.can,
        .seq] (among []) t) ∧
    (∀ (k : Nat) (x : CanObj), s.chip.get (CAN_STAT_BUSST n.val) < 2 → look none s.chip.can.active n.val = some k → s.chip.canObj (128 *
      n.val + k) = x → Runs (.canBusOff n) s fun t =>
      t.chip.get (CAN_STAT_BUSST n.val) = 2 ∧ t.chip.flag (CAN_STAT_BOFF n.val) = true ∧ t.chip.canObj (128 * n.val + k) =
        { x with tx := .pending } ∧ look none t.chip.can.active n.val = none ∧ look false t.chip.can.recovering n.val = s.chip.flag
        (CAN_CTL_AUTOREC n.val) ∧ t.chip.pends (320 + 4 * n.val) = true) ∧
    (s.chip.get (CAN_STAT_BUSST n.val) = 2 → look false s.chip.can.recovering n.val = true → Runs (.canBusoffRecovered n) s fun t =>
      t.chip.get (CAN_STAT_BUSST n.val) = 0 ∧ t.chip.rdN (CAN_ERR n.val) = 0 ∧ look false t.chip.can.recovering n.val = false ∧
        t.chip.can.objs = s.chip.can.objs ∧ t.chip.pends (320 + 4 * n.val) = true) ∧
    (∀ (r : Fin 8), s.chip.can.jobs = [] → (s.chip.gwRoute n.val r.val).held ≠ [] → s.chip.due ((s.chip.gwRoute n.val r.val).since + bits
      (s.chip.gwWord n.val r.val 2) 127 112 * 1000) = true → s.chip.flag (ESW_HQ_CFG_EN (s.chip.get (CAN_GWCFG_HQ n.val))) = false → Runs
      (.gwMaxlatExpiry n r) s fun t =>
      (t.chip.gwRoute n.val r.val).held = [] ∧ (t.chip.gwRoute n.val r.val).seq = ((s.chip.gwRoute n.val r.val).seq + 1) % 256 ∧
        t.chip.get (CAN_GWCNT_DROP n.val) = min (s.chip.get (CAN_GWCNT_DROP n.val) + 1) 65535 ∧ t.chip.pends (320 + 4 * n.val + 3) = true
        ∧ t.chip.can.objs = s.chip.can.objs) ∧
    (∀ (frame : List Byte) (stream : Nat) (body : List Byte), ntscfBody frame = some (stream, body) → (∀ r : Fin 8, s.chip.gwOn n.val (8 +
      r.val) = true → bits (s.chip.gwWord n.val (8 + r.val) 1) 63 0 ≠ stream) → Runs (.gwInboundFrame n frame) s fun t =>
      t.chip = s.chip) ∧
    (∀ (frame : List Byte) (stream : Nat) (body : List Byte) (m : CanMsg) (r : Fin 8), ntscfBody frame = some (stream, body) → acfMessages
      (s.chip.get (CAN_GWCFG_BUSID n.val)) 512 body = [m] → s.chip.gwOn n.val (8 + r.val) = true ∧ bits (s.chip.gwWord n.val (8 + r.val)
      1) 63 0 = stream → (∀ q : Fin 8, q ≠ r → s.chip.gwOn n.val (8 + q.val) = false) → (s.chip.gwRoute n.val (8 + r.val)).fifo.length <
      32 → (s.chip.canObj (128 * n.val + s.chip.gwWord n.val (8 + r.val) 3 % 128)).tx ≠ .idle → Runs (.gwInboundFrame n frame) s fun t =>
      (t.chip.gwRoute n.val (8 + r.val)).fifo = (s.chip.gwRoute n.val (8 + r.val)).fifo ++ [m] ∧ t.chip.can.objs = s.chip.can.objs ∧
        s.frame [.can] (among []) t)

/-- In FREE mode the end of a slot starts the next entry's header (R263); a trigger starts its entry's header, or waits behind the frame
  on the bus, counted LATE; the frame's end stores a good response of another node with NEW, and counts a missing or a faulty one with the
  commander's event (R264); a sleeping segment gets no header from a trigger (R281). SLEEP sends the go-to-sleep command; CLRCNT clears;
  COMMIT makes a buffer's data current; a wake-up pulse on an awake segment sets WAKE. -/
def Obligations.LinCommanders : Prop :=
  ∀ (s : State) (n : Fin 8),
    (∀ (u : Nat) (e : Nat), s.chip.zoneUp = true → s.chip.flag (LIN_CTL_EN n.val) = true ∧ s.chip.flag (LIN_CTL_MODE n.val) = false ∧
      s.chip.flag (LIN_STAT_ASLEEP n.val) = false → look none s.chip.can.linSlot n.val = some u ∧ u ≤ s.chip.frc → s.chip.linNext n.val
      (look false s.chip.can.linFirst n.val) = e → s.chip.flag (LIN_ENT_VALID n.val e) = true ∧ s.chip.get (LIN_ENT_TYPE n.val e) ≠ 2 →
      Runs (.linSlot n) s fun t =>
      t.chip.get (LIN_STAT_ENTRY n.val) = e ∧ t.chip.flag (LIN_STAT_BUSY n.val) = true ∧ look none t.chip.can.linOn n.val = some e ∧ look
        none t.chip.can.linSlot n.val = some (s.chip.frc + max 1 (s.chip.get (LIN_ENT_SLOT n.val e)) * 1000000) ∧ look (0, 0)
        t.chip.can.linRange n.val = (s.chip.get (LIN_SCH_SCHSTART n.val), s.chip.get (LIN_SCH_SCHEND n.val)) ∧ s.frame [.can] (among
        [(LIN_STAT n.val).addr]) t) ∧
    (∀ (e : Fin 256) (x : Action), s.chip.zoneUp = true → s.chip.dueAction 3 (0x1000 + 256 * n.val + e.val) = some x → s.chip.flag
      (LIN_CTL_EN n.val) = true ∧ s.chip.flag (LIN_CTL_MODE n.val) = true ∧ s.chip.flag (LIN_ENT_VALID n.val e.val) = true →
      s.chip.segAwake (12 + n.val) = true → s.chip.flag (LIN_STAT_BUSY n.val) = true → Runs (.linTrigger n e) s fun t =>
      look none t.chip.can.linWait n.val = some e.val ∧ t.chip.get (LIN_CNT_LATE n.val) = min (s.chip.get (LIN_CNT_LATE n.val) + 1) 255 ∧
        t.chip.pends (368 + n.val) = true ∧ t.chip.get (LIN_STAT_ENTRY n.val) = s.chip.get (LIN_STAT_ENTRY n.val)) ∧
    (∀ (e : Fin 256) (x : Action), s.chip.zoneUp = true → s.chip.dueAction 3 (0x1000 + 256 * n.val + e.val) = some x → s.chip.flag
      (LIN_CTL_EN n.val) = true ∧ s.chip.flag (LIN_CTL_MODE n.val) = true ∧ s.chip.flag (LIN_ENT_VALID n.val e.val) = true →
      s.chip.segAwake (12 + n.val) = true → s.chip.flag (LIN_STAT_BUSY n.val) = false → s.chip.get (LIN_ENT_TYPE n.val e.val) ≠ 2 → Runs
      (.linTrigger n e) s fun t =>
      t.chip.get (LIN_STAT_ENTRY n.val) = e.val ∧ t.chip.flag (LIN_STAT_BUSY n.val) = true ∧ look none t.chip.can.linOn n.val = some e.val
        ∧ s.frame [.can, .seq] (among [(LIN_STAT n.val).addr]) t) ∧
    (∀ (e : Fin 256) (x : Action), s.chip.zoneUp = true → s.chip.dueAction 3 (0x1000 + 256 * n.val + e.val) = some x → s.chip.flag
      (LIN_CTL_EN n.val) = true ∧ s.chip.flag (LIN_CTL_MODE n.val) = true ∧ s.chip.flag (LIN_ENT_VALID n.val e.val) = true →
      s.chip.segAwake (12 + n.val) = false → Runs (.linTrigger n e) s fun t =>
      t.chip.can = s.chip.can ∧ t.chip.pends 430 = true ∧ t.chip.get (LIN_STAT_ENTRY n.val) = s.chip.get (LIN_STAT_ENTRY n.val)) ∧
    (∀ (data : W64) (e b : Nat), s.chip.zoneUp = true → look none s.chip.can.linOn n.val = some e → e < 256 → s.chip.get (LIN_ENT_BUF n.val
      e) = b → s.chip.flag (LIN_ENT_PUB n.val e) = false → look none s.chip.can.linWait n.val = none → Runs (.linResponse n .good data) s
      fun t =>
      t.chip.get (LIN_BUF_DATA n.val b) = data.toNat % 2 ^ (8 * (s.chip.get (LIN_ENT_LEN n.val e) + 1)) ∧ t.chip.flag (LIN_BUF_NEW n.val
        b) = true ∧ t.chip.get (LIN_BUF_STATUS n.val b) = stOK ∧ t.chip.flag (LIN_STAT_BUSY n.val) = false ∧ look none t.chip.can.linOn
        n.val = none) ∧
    (∀ (r : LinResult) (data : W64) (e b : Nat), s.chip.zoneUp = true → r ≠ .good → look none s.chip.can.linOn n.val = some e → e < 256 →
      s.chip.get (LIN_ENT_BUF n.val e) = b → look none s.chip.can.linWait n.val = none → Runs (.linResponse n r data) s fun t =>
      t.chip.get (LIN_BUF_STATUS n.val b) = (Config.openValue s.chip.freeCtr).toNat % 256 ∧ t.chip.freeCtr = s.chip.freeCtr + 1 ∧
        t.chip.get (LIN_BUF_DATA n.val b) = s.chip.get (LIN_BUF_DATA n.val b) ∧ t.chip.get (if r = .missing then LIN_CNT_NORESP n.val else
        LIN_CNT_ERR n.val) = min (s.chip.get (if r = .missing then LIN_CNT_NORESP n.val else LIN_CNT_ERR n.val) + 1) (if r = .missing then
        65535 else 255) ∧ t.chip.flag (if r = .missing then LIN_STAT_NORESP n.val else LIN_STAT_ERR n.val) = true ∧ t.chip.pends (368 +
        n.val) = true ∧ t.chip.flag (LIN_STAT_BUSY n.val) = false ∧ look none t.chip.can.linOn n.val = none) ∧
    (∀ (a : Agent) (v : W32), s.chip.admits a = true → s.chip.claims (s.chip.worldOfAgent a) 8 n.val = true → (bits v.toNat 31 28 = 0xA ∨
      bits v.toNat 31 28 = 0xE) → s.chip.flag (LIN_CTL_EN n.val) = true → Runs (.linSleep a n v) s fun t =>
      t.chip.flag (LIN_STAT_ASLEEP n.val) = true ∧ t.chip.pends (376 + n.val) = true ∧ t.chip.flag (LIN_CTL_EN n.val) = true ∧ t.chip.can
        = s.chip.can ∧ s.frame [.core] (amongEv [(LIN_STAT n.val).addr, (LIN_CTL n.val).addr]) t) ∧
    (∀ (a : Agent) (v : W32), s.chip.admits a = true → s.chip.claims (s.chip.worldOfAgent a) 8 n.val = true → bits v.toNat 29 28 = 1 → bit
      v.toNat 31 = s.chip.flag (LIN_CTL_EN n.val) → Runs (.linClrcnt a n v) s fun t =>
      t.chip.rdN (LIN_CNT n.val) = 0 ∧ t.chip.can = s.chip.can ∧ t.chip.flag (LIN_CTL_EN n.val) = s.chip.flag (LIN_CTL_EN n.val) ∧ s.frame
        [] (among [(LIN_CNT n.val).addr, (LIN_CTL n.val).addr]) t) ∧
    (∀ (a : Agent) (b : Fin 64) (v : W128), s.chip.admits a = true → s.chip.claims (s.chip.worldOfAgent a) 8 n.val = true → bit v.toNat 73
      = true → Runs (.linBufCommit a n b v) s fun t =>
      look 0 t.chip.can.linCur (n.val * 64 + b.val) = v.toNat % 2 ^ 64 ∧ look false t.chip.can.linUpd (n.val * 64 + b.val) = true ∧
        t.chip.get (LIN_BUF_DATA n.val b.val) = v.toNat % 2 ^ 64 ∧ t.chip.flag (LIN_BUF_NEW n.val b.val) = false ∧ s.frame [.can] (among
        [(LIN_BUF n.val b.val).addr]) t) ∧
    (∀ (a : Agent) (b : Fin 64) (v : W128), s.chip.admits a = true → s.chip.claims (s.chip.worldOfAgent a) 8 n.val = false → Runs
      (.linBufCommit a n b v) s fun t =>
      t.chip = s.chip) ∧
    (s.chip.zoneUp = true → s.chip.flag (LIN_STAT_ASLEEP n.val) = false → Runs (.linWakeupPulse n) s fun t =>
      t.chip.flag (LIN_STAT_WAKE n.val) = true ∧ t.chip.pends (376 + n.val) = true ∧ t.chip.can = s.chip.can ∧ s.frame [.core] (amongEv
        [(LIN_STAT n.val).addr]) t)

/-! ### Inputs and converters -/

/-- A run of samples that lasted the filter time changes a DIN's filtered state, its stamp and CHG (R271), a LSW's or a WAKE line's state;
  a faulted input is frozen, and a fault run marks it with its event (R272). In sleep the second poll in a row at the new level changes an
  LSW (R273). The claiming world configures an input, which restarts its filter; another is refused with DENIED_WORLD (R274). An accepted
  edge enters the FIFO of its capture input, from which a read takes the oldest (R279). -/
def Obligations.InputFiltersAndCapture : Prop :=
  ∀ (s : State),
    (∀ (i : Fin 72) (first : W64), s.chip.zoneUp = true → i.val < 48 → s.chip.runDone i.val first.toNat = true → s.chip.dinBad i.val =
      false → Runs (.dinFilterExpiry i first) s fun t =>
      t.chip.dinBit i.val = !s.chip.dinBit i.val ∧ t.chip.get (NMW_DIN_STAMP_FRC i.val) = first.toNat ∧ bit (t.chip.get NMW_DINCHG_CHG)
        i.val = true ∧ (s.chip.flag (NMW_DIN_CFG_IRQ i.val) = true → t.chip.pends 416 = true) ∧ (∀ j : Fin 48, j.val ≠ i.val →
        t.chip.dinBit j.val = s.chip.dinBit j.val) ∧ s.frame [.core] (amongEv [NMW_DINSTAT.addr, (NMW_DIN_STAMP i.val).addr,
        NMW_DINCHG.addr]) t) ∧
    (∀ (i : Fin 72) (first : W64), i.val < 56 → s.chip.inputBad i.val = true → Runs (.dinFilterExpiry i first) s fun t =>
      t.chip = s.chip) ∧
    (∀ (i : Fin 72) (first : W64), 56 ≤ i.val → s.chip.runDone i.val first.toNat = true → Runs (.dinFilterExpiry i first) s fun t =>
      bit (t.chip.get NMW_WAKESTAT_ST) (i.val - 56) = !bit (s.chip.get NMW_WAKESTAT_ST) (i.val - 56) ∧ t.chip.nmw.fired = (if bit
        (s.chip.get NMW_WAKESTAT_ST) (i.val - 56) = false ∧ s.chip.flag (NMW_WAKE_CFG_EN (i.val - 56)) = true ∧ s.chip.nmw.fired.contains
        (i.val - 56) = false then s.chip.nmw.fired ++ [i.val - 56] else s.chip.nmw.fired) ∧ s.frame [.nmw] (among [NMW_WAKESTAT.addr]) t) ∧
    (∀ (i : Fin 56) (first : W64), s.chip.zoneUp = true → s.chip.runDone i.val first.toNat = true → Runs (.dinFaultChange i first) s fun t
      =>
      t.chip.inputBad i.val = !s.chip.inputBad i.val ∧ (s.chip.inputBad i.val = false → t.chip.pends (if i.val < 48 then 417 else 419) =
        true) ∧ s.frame [.core] (amongEv [if i.val < 48 then NMW_DINFLT.addr else NMW_LSWSTAT.addr]) t) ∧
    (∀ (a : Agent) (i : Fin 72) (v : W32) (x : Nat), s.chip.admits a = true → s.chip.inputClaimed (s.chip.worldOfAgent a) i.val = true →
      inputCfgValue i.val v.toNat = some x → s.chip.slState = slENTRY → Runs (.dinCfgWrite a i v) s fun t =>
      t.chip.rdN (inputCfg i.val) = x ∧ look 0 t.chip.nmw.cfgAt i.val = s.chip.frc + 1 ∧ s.frame [.nmw] (among [(inputCfg i.val).addr,
        NMW_SLP_STAT.addr]) t) ∧
    (∀ (a : Agent) (i : Fin 72) (v : W32), s.chip.admits a = true → s.chip.inputClaimed (s.chip.worldOfAgent a) i.val = false → Runs
      (.dinCfgWrite a i v) s fun t =>
      t.chip.get NMW_SLP_STAT_LASTERR = stDENIED_WORLD ∧ t.chip.pends 431 = true ∧ s.frame [.core] (amongEv [NMW_SLP_STAT.addr]) t) ∧
    (∀ (n : Fin 8) (level : Bool), s.chip.pmu.power ≠ .run → s.chip.get (NMW_LSW_CFG_WET n.val) ≠ 0 → level ≠ s.chip.lswBit n.val → look 0
      s.chip.nmw.polls n.val = 0 → Runs (.lswPoll n level) s fun t =>
      look 0 t.chip.nmw.polls n.val = 1 ∧ s.frame [.nmw] (among []) t) ∧
    (∀ (n : Fin 8) (level : Bool), s.chip.pmu.power ≠ .run → s.chip.get (NMW_LSW_CFG_WET n.val) ≠ 0 → level ≠ s.chip.lswBit n.val → look 0
      s.chip.nmw.polls n.val = 1 → Runs (.lswPoll n level) s fun t =>
      t.chip.lswBit n.val = level ∧ bit (t.chip.get NMW_LSWSTAT_CHG) n.val = true ∧ look 0 t.chip.nmw.polls n.val = 0) ∧
    (∀ (n : Fin 16) (rise : Bool) (stamp : W64), s.chip.zoneUp = true → s.chip.flag (NMW_PX_CFG_FIFOEN n.val) = true → (look []
      s.chip.nmw.pxFifo n.val).length < 16 → (∀ b : Fin 16, s.chip.flag (PB_CTL_EN b.val) = false) → Runs (.pxEdge n rise stamp) s fun t
      =>
      look [] t.chip.nmw.pxFifo n.val = look [] s.chip.nmw.pxFifo n.val ++ [BitVec.ofNat 128 (2 ^ 127 + b2n (rise != s.chip.flag
        (NMW_PX_CFG_INV n.val)) * 2 ^ 64 + stamp.toNat)] ∧ look false t.chip.nmw.pxLevel n.val = rise ∧ s.frame [.nmw] (among []) t) ∧
    (∀ (n : Fin 16) (rise : Bool) (stamp : W64), s.chip.zoneUp = true → s.chip.flag (NMW_PX_CFG_FIFOEN n.val) = true → 16 ≤ (look []
      s.chip.nmw.pxFifo n.val).length → Runs (.pxEdge n rise stamp) s fun t =>
      look [] t.chip.nmw.pxFifo n.val = look [] s.chip.nmw.pxFifo n.val ∧ t.chip.pends 424 = true) ∧
    (∀ (a : Agent) (n : Fin 16), s.chip.admits a = true → Runs (.pxFifoRead a n) s fun t =>
      look [] t.chip.nmw.pxFifo n.val = (look [] s.chip.nmw.pxFifo n.val).drop 1 ∧ s.frame [.nmw, .fab] (among []) t)

/-- AIN_TRIG of the claiming world triggers its converter 100 ticks after acceptance (R277). A trigger starts a valid sequence on an idle
  converter, queues it behind a running one with QLATE, is counted in OVR with EV0423 when one is queued already, and is discarded with
  RANGE for a sequence that is not VALID. A step that has had its time ends, the next one opens at its end, and its result enters AIN_RES
  (R278); at the end of a sequence the queued one starts (R277). -/
def Obligations.Converters : Prop :=
  ∀ (s : State) (k : Fin 2),
    (∀ (a : Agent) (v : W32), s.chip.admits a = true → bit v.toNat 8 = (k.val == 1) → s.chip.claims (s.chip.worldOfAgent a) 12 k.val = true
      → Runs (.ainTrig a v) s fun t =>
      t.chip = s.chip.addAction { fire := s.chip.frc + 100, cls := 2, target := k.val, arg := v.toNat % 64 }) ∧
    (∀ (a : Agent) (v : W32), s.chip.admits a = true → bit v.toNat 8 = (k.val == 1) → s.chip.claims (s.chip.worldOfAgent a) 12 k.val =
      false → Runs (.ainTrig a v) s fun t =>
      t.chip.get AIN_STAT_LASTERR = stDENIED_WORLD ∧ t.chip.pends 431 = true ∧ t.chip.nmw = s.chip.nmw ∧ s.frame [.core] (amongEv
        [AIN_STAT.addr]) t) ∧
    (∀ (x : Action), s.chip.zoneUp = true → s.chip.dueAction 2 k.val = some x → s.chip.flag (AIN_SEQ_VALID (x.arg % 64)) = true → bit
      (s.chip.get AIN_CTL_EN) k.val = true → (s.chip.conv k.val).seq = none → Runs (.converterTrigger k) s fun t =>
      t.chip.conv k.val = { s.chip.conv k.val with seq := some (x.arg % 64), step := 0, opened := x.fire, ended := false } ∧ t.chip.flag
        (if k.val = 0 then AIN_STAT_BUSY0 else AIN_STAT_BUSY1) = true ∧ t.chip.get (if k.val = 0 then AIN_STAT_SEQ0 else AIN_STAT_SEQ1) =
        x.arg % 64 ∧ s.frame [.nmw, .seq] (among [AIN_STAT.addr]) t) ∧
    (∀ (x : Action), s.chip.zoneUp = true → s.chip.dueAction 2 k.val = some x → s.chip.flag (AIN_SEQ_VALID (x.arg % 64)) = true → bit
      (s.chip.get AIN_CTL_EN) k.val = true → (s.chip.conv k.val).seq ≠ none ∧ (s.chip.conv k.val).queued = none → Runs (.converterTrigger
      k) s fun t =>
      t.chip.conv k.val = { s.chip.conv k.val with queued := some (x.arg % 64) } ∧ t.chip.flag (if k.val = 0 then AIN_STAT_QUEUED0 else
        AIN_STAT_QUEUED1) = true ∧ t.chip.flag (if k.val = 0 then AIN_STAT_QLATE0 else AIN_STAT_QLATE1) = true) ∧
    (∀ (x : Action), s.chip.zoneUp = true → s.chip.dueAction 2 k.val = some x → s.chip.flag (AIN_SEQ_VALID (x.arg % 64)) = true → bit
      (s.chip.get AIN_CTL_EN) k.val = true → (s.chip.conv k.val).seq ≠ none ∧ (s.chip.conv k.val).queued ≠ none → Runs (.converterTrigger
      k) s fun t =>
      t.chip.conv k.val = s.chip.conv k.val ∧ t.chip.get (if k.val = 0 then AIN_CNT_OVR0 else AIN_CNT_OVR1) = min (s.chip.get (if k.val =
        0 then AIN_CNT_OVR0 else AIN_CNT_OVR1) + 1) 65535 ∧ t.chip.pends 423 = true) ∧
    (∀ (x : Action), s.chip.zoneUp = true → s.chip.dueAction 2 k.val = some x → s.chip.flag (AIN_SEQ_VALID (x.arg % 64)) = false → Runs
      (.converterTrigger k) s fun t =>
      t.chip.conv k.val = s.chip.conv k.val ∧ t.chip.get AIN_STAT_LASTERR = stRANGE ∧ t.chip.pends 423 = true) ∧
    (∀ (code : Fin 4096) (bad : Bool) (v : AinConv) (q i ch d : Nat), s.chip.zoneUp = true → s.chip.conv k.val = v ∧ v.seq = some q ∧
      v.ended = false ∧ v.opened < 2 ^ 64 ∧ q < 64 → s.chip.convStep k.val q = i → d = s.chip.get (AIN_STEP_SMP i) * 50 + 800 → s.chip.due
      (v.opened + d) = true → s.chip.get (AIN_STEP_CH i) = ch → ch < 32 → s.chip.flag (AIN_CH_LIMEN ch) = false → (s.chip.flag
      (AIN_RES_VALID ch) = false ∨ s.chip.get (AIN_RES_FRC ch) < v.opened) → Runs (.ainStepDone k code bad) s fun t =>
      t.chip.get (AIN_RES_CODE ch) = code.val ∧ t.chip.get (AIN_RES_FRC ch) = v.opened ∧ t.chip.flag (AIN_RES_VALID ch) = true ∧
        t.chip.flag (AIN_RES_FAULT ch) = bad ∧ t.chip.conv k.val =
        { v with step := v.step + 1, opened := v.opened + d, ended := decide (s.chip.get (AIN_SEQ_STEPS q) ≤ v.step) } ∧ s.frame [.nmw]
        (among [AIN_STAT.addr, (AIN_RES ch).addr]) t) ∧
    (∀ (v : AinConv) (q p : Nat), s.chip.zoneUp = true → s.chip.conv k.val = v ∧ v.seq = some q ∧ v.ended = true → v.queued = some p → q <
      64 ∧ p < 64 → Runs (.ainSeqEnd k) s fun t =>
      t.chip.conv k.val = { v with seq := some p, step := 0, queued := none, ended := false } ∧ t.chip.get (if k.val = 0 then
        AIN_STAT_SEQ0 else AIN_STAT_SEQ1) = p ∧ (s.chip.flag (AIN_SEQ_IRQ q) = true → t.chip.pends (420 + k.val) = true) ∧ s.frame [.nmw,
        .core] (amongEv [AIN_STAT.addr]) t) ∧
    (∀ (v : AinConv) (q : Nat), s.chip.zoneUp = true → s.chip.conv k.val = v ∧ v.seq = some q ∧ v.ended = true → v.queued = none → q < 64 →
      Runs (.ainSeqEnd k) s fun t =>
      t.chip.conv k.val = { v with seq := none, ended := false } ∧ t.chip.flag (if k.val = 0 then AIN_STAT_BUSY0 else AIN_STAT_BUSY1) =
        false ∧ (s.chip.flag (AIN_SEQ_IRQ q) = true → t.chip.pends (420 + k.val) = true))

/-! ### Segments, wake and sleep -/

/-- A claiming world's ISO bit puts a segment to sleep and back with EV0430 (R280, R281). A wake in AWAKE writes its record and starts a
  hold of VALWIN ms (R282, R286), one in PREPARE aborts (R285), one in the guard window is latched; on an isolated segment it only counts
  SUPP. An unvalidated hold ends as a false wake (R286). A world writes its own vote (R283); READY times out into PREPARE (R284); the
  guard window opens before the commit point (R285); a keep-awake message returns PREPARE to READY (R284). -/
def Obligations.SegmentsWakesAndVotes : Prop :=
  ∀ (s : State),
    (∀ (a : Agent) (v : W128) (g : Nat), s.chip.admits a = true → s.chip.esw.jobs = [] → g < 12 → s.chip.claims (s.chip.worldOfAgent a) 7 g
      = true → v.toNat % 2 ^ 42 = setBit (s.chip.get NMW_SEGISO_ISO) g true → s.chip.segAwake g = true → look none s.chip.can.active g =
      none → Runs (.segIsoWrite a v) s fun t =>
      t.chip.segIso g = true ∧ t.chip.segAwake g = false ∧ t.chip.pends 430 = true ∧ (∀ j : Fin 42, j.val ≠ g → t.chip.segIso j.val =
        s.chip.segIso j.val ∧ t.chip.segAwake j.val = s.chip.segAwake j.val)) ∧
    (∀ (a : Agent) (v : W128) (g : Nat), s.chip.admits a = true → s.chip.esw.jobs = [] → 12 ≤ g ∧ g < 20 → s.chip.claims
      (s.chip.worldOfAgent a) 8 (g - 12) = true → v.toNat % 2 ^ 42 = setBit (s.chip.get NMW_SEGISO_ISO) g false → s.chip.segIso g = true →
      s.chip.segAwake g = false → Runs (.segIsoWrite a v) s fun t =>
      t.chip.segIso g = false ∧ t.chip.segAwake g = true ∧ t.chip.flag (LIN_STAT_ASLEEP (g - 12)) = false ∧ t.chip.pends 430 = true) ∧
    (∀ (a : Agent) (v : W128) (g : Fin 42), s.chip.admits a = true → s.chip.esw.jobs = [] → s.chip.segRefusal (s.chip.worldOfAgent a) g.val
      = some stDENIED_WORLD → v.toNat % 2 ^ 42 = setBit (s.chip.get NMW_SEGISO_ISO) g.val (!s.chip.segIso g.val) → Runs (.segIsoWrite a v)
      s fun t =>
      t.chip.get NMW_SEGISO_ISO = s.chip.get NMW_SEGISO_ISO ∧ t.chip.get NMW_SEGSTAT_AWAKE = s.chip.get NMW_SEGSTAT_AWAKE ∧ t.chip.get
        NMW_SLP_STAT_LASTERR = stDENIED_WORLD ∧ t.chip.pends 431 = true) ∧
    (∀ (code : Fin 24), code.val < 16 → s.chip.nmw.fired.contains code.val = true → s.chip.notInhibited code.val = true → s.chip.pmu.power
      = .run → s.chip.slState = slAWAKE ∧ s.chip.nmw.guard = false → Runs (.wakeSource code) s fun t =>
      t.chip.nmw.fired = s.chip.nmw.fired.filter (· != code.val) ∧ t.chip.nmw.hold = some (s.chip.frc + s.chip.get NMW_VALWIN_VALWIN *
        1000000) ∧ t.chip.nmw.holdSrc = some code.val ∧ t.chip.nmw.validated = false ∧ t.chip.rdN NMW_WAKESRC = code.val * 2 ^ 64 +
        s.chip.frc % 2 ^ 64 ∧ t.chip.flag NMW_SLP_STAT_HOLDWK = true ∧ t.chip.slState = slAWAKE) ∧
    (∀ (code : Fin 24), s.chip.nmw.fired.contains code.val = false → Runs (.wakeSource code) s fun t =>
      t.chip = s.chip) ∧
    (∀ (st : State) (g : Fin 42), st = s → s.chip.segAwake g.val = false → s.chip.pmu.power ≠ .deep → s.chip.segIso g.val = true → Runs
      (.busWake g) s fun t =>
      t.chip.get (NMW_SRC_CNT_SUPP (32 + g.val)) = min (s.chip.get (NMW_SRC_CNT_SUPP (32 + g.val)) + 1) 15 ∧ s.frame [] (among
        [(NMW_SRC_CNT_SUPP (32 + g.val)).reg.addr]) t) ∧
    (∀ (g : Fin 42), s.chip.segAwake g.val = false → s.chip.pmu.power = .run → s.chip.segIso g.val = false → bit (s.chip.get
      NMW_SEGBWK_BWK) g.val = true → s.chip.notInhibited (32 + g.val) = true → s.chip.slState = slPREPARE ∧ s.chip.nmw.guard = false →
      Runs (.busWake g) s fun t =>
      t.chip.slState = slAWAKE ∧ t.chip.flag NMW_SLP_STAT_ABORTED = true ∧ t.chip.pends 425 = true ∧ t.chip.pends 426 = true ∧ t.chip.rdN
        NMW_WAKESRC = 2 ^ 73 + (32 + g.val) * 2 ^ 64 + s.chip.frc % 2 ^ 64 ∧ t.chip.nmw.holdSrc = some (32 + g.val)) ∧
    (s.chip.pmu.power ≠ .run → s.chip.get NMW_SLPTMR_S ≠ 0 → s.chip.pmu.sleptAt + s.chip.get NMW_SLPTMR_S * 1000000000 ≤ s.chip.now →
      s.chip.pmu.wake = none → Runs (.sleepTimerWake) s fun t =>
      t.chip.pmu.wake = some (24, false) ∧ s.frame [.pmu] (among []) t) ∧
    (∀ (code : Nat), s.chip.zoneUp = true → s.chip.pmu.power = .run → s.chip.dueAt s.chip.nmw.hold = true → s.chip.nmw.validated = false ∧
      s.chip.nmw.holdSrc = some code ∧ code < 74 → s.chip.get NMW_VALWIN_FWLIM = 0 → Runs (.wakeHoldExpiry) s fun t =>
      t.chip.nmw.hold = none ∧ t.chip.nmw.holdSrc = none ∧ t.chip.get (NMW_SRC_CNT_FALSE code) = min (s.chip.get (NMW_SRC_CNT_FALSE code)
        + 1) 255 ∧ t.chip.pends 427 = true ∧ t.chip.flag NMW_SLP_STAT_HOLDWK = false ∧ t.chip.get NMW_INH_WAKES = s.chip.get NMW_INH_WAKES) ∧
    (∀ (a : Agent) (v : W32), s.chip.admits a = true → s.chip.worldOfAgent a = 1 → bits v.toNat 2 1 = 1 → s.chip.nmw.hold ≠ none → Runs
      (.wakeValidate a v) s fun t =>
      t.chip.nmw.validated = true ∧ t.chip.flag NMW_WAKESRC_VALIDATED = true ∧ t.chip.nmw.hold = s.chip.nmw.hold ∧ t.chip.flag
        NMW_SLP_CTL_EN = bit v.toNat 0) ∧
    (∀ (a : Agent) (v : W32), s.chip.admits a = true → s.chip.worldOfAgent a = 1 → bits v.toNat 2 1 = 2 → Runs (.kaclr a v) s fun t =>
      (∀ i : Fin 64, ∀ j : Fin 3, t.chip.rdN (NMW_KALOG i.val j.val) = 0) ∧ t.chip.rdN NMW_KASTAT = 0) ∧
    (∀ (a : Agent) (v : W32), s.chip.admits a = true → 1 ≤ s.chip.worldOfAgent a ∧ s.chip.worldOfAgent a ≤ 4 → Runs (.sleepVote a v) s fun
      t =>
      t.chip.get NMW_VOTE_VOTES = setBit (s.chip.get NMW_VOTE_VOTES) (s.chip.worldOfAgent a - 1) (bit v.toNat (s.chip.worldOfAgent a)) ∧
        t.chip.flag NMW_SLP_STAT_HOLDVOTE = (t.chip.get NMW_VOTE_VOTES != 0)) ∧
    (s.chip.zoneUp = true → s.chip.slState = slREADY → s.chip.due (s.chip.nmw.readyAt + s.chip.get NMW_SLP_TIM_TREADY * 1000000) = true →
      Runs (.readyTimeout) s fun t =>
      t.chip.slState = slPREPARE ∧ t.chip.nmw.prepAt = s.chip.frc ∧ t.chip.nmw.guard = false ∧ t.chip.pends 426 = true ∧ s.frame [.nmw,
        .core] (amongEv [NMW_SLP_STAT.addr]) t) ∧
    (s.chip.zoneUp = true → s.chip.slState = slPREPARE → s.chip.nmw.guard = false → s.chip.due (s.chip.commitPoint - 2000000) = true → Runs
      (.guardWindowOpen) s fun t =>
      t.chip.nmw.guard = true ∧ t.chip.slState = slPREPARE ∧ (∀ n : Fin 8, s.chip.segAwake (12 + n.val) = true → t.chip.flag
        (LIN_STAT_ASLEEP n.val) = true ∧ t.chip.pends (376 + n.val) = true)) ∧
    (∀ (g : Fin 42) (id sender sa : Nat) (payload : List Byte), s.chip.zoneUp = true → s.chip.segAwake g.val = true → ((List.range
      16).findSome? (fun f => s.chip.kaMatch f g.val id sender payload) = some sa) → s.chip.slState = slPREPARE ∧ s.chip.nmw.guard = false
      → Runs (.keepAwakeMessage g id sender payload) s fun t =>
      t.chip.slState = slREADY ∧ t.chip.nmw.readyAt = s.chip.frc ∧ t.chip.pends 426 = true)

/-! ### Cores, comparators and events -/

/-- An error response to a retired store is recorded with EV0532 + k (R318), an uncorrectable error in a dirty line counted with EV0524 +
  k (R319). A mismatch of a comparing pair halts it, records the first one and raises EV0512 + p (R326, R327). W2 injects a difference
  into a pair that runs; caught, it is counted, and otherwise the pair fails (R331); MMCLR and CLRCNT clear. The claimant of a software
  group raises its events, another is refused (R336); the owner of an event acknowledges it (R334), another is refused with DENIED_WORLD.
  -/
def Obligations.CoresComparatorsAndEvents : Prop :=
  ∀ (s : State),
    (∀ (k : Fin 8) (addr : BitVec 40) (status : Byte), s.chip.zoneUp = true → Runs (.impreciseStoreFault k addr status) s fun t =>
      t.chip.rdN (CMP_C_BERR k.val) = s.chip.frc % 2 ^ 64 * 2 ^ 64 + status.toNat * 2 ^ 40 + addr.toNat ∧ t.chip.pends (532 + k.val) =
        true ∧ s.frame [.core] (amongEv [(CMP_C_BERR k.val).addr]) t) ∧
    (∀ (k : Fin 8), s.chip.zoneUp = true → Runs (.dirtyLineEcc k) s fun t =>
      t.chip.get (CMP_C_ECC_UNCORR k.val) = min (s.chip.get (CMP_C_ECC_UNCORR k.val) + 1) 65535 ∧ t.chip.pends (524 + k.val) = true ∧
        s.frame [.core] (amongEv [(CMP_C_ECC_UNCORR k.val).reg.addr]) t) ∧
    (∀ (p : Fin 4) (lane nlanes : Fin 4096) (pc : BitVec 36), s.chip.zoneUp = true → s.chip.comparing p.val = true → 0 < nlanes.val →
      s.chip.flag (CMP_P_MM_VALID p.val) = false → Runs (.pairMismatch p lane nlanes pc) s fun t =>
      t.chip.flag (CMP_P_STAT_HALTED p.val) = true ∧ t.chip.rdN (CMP_P_MM p.val) = 2 ^ 127 + lane.val * 2 ^ 112 + nlanes.val * 2 ^ 100 +
        pc.toNat * 2 ^ 64 + s.chip.frc % 2 ^ 64 ∧ t.chip.get (CMP_P_CNT_MM p.val) = min (s.chip.get (CMP_P_CNT_MM p.val) + 1) 65535 ∧
        t.chip.pends (512 + p.val) = true) ∧
    (∀ (p : Fin 4) (lane nlanes : Fin 4096) (pc : BitVec 36), s.chip.zoneUp = true → s.chip.comparing p.val = false → Runs (.pairMismatch p
      lane nlanes pc) s fun t =>
      t.chip = s.chip) ∧
    (∀ (a : Agent) (p : Fin 4) (v : W32), s.chip.admits a = true → s.chip.worldOfAgent a = 2 → bit v.toNat 31 = true → s.chip.flag
      (CMP_P_INJRES_DONE p.val) = true → s.chip.mitten p.val = true → Runs (.cmpInject a p v) s fun t =>
      look none t.chip.core.injections p.val = some { lane := v.toNat % 4096 } ∧ t.chip.get (CMP_P_INJRES_STATUS p.val) = stOK ∧
        t.chip.flag (CMP_P_INJRES_DONE p.val) = false ∧ t.chip.get (CMP_P_INJRES_LANE p.val) = v.toNat % 4096 ∧ s.frame [.core] (among
        [(CMP_P_INJRES p.val).addr]) t) ∧
    (∀ (a : Agent) (p : Fin 4) (v : W32), s.chip.admits a = true → s.chip.worldOfAgent a = 2 → bit v.toNat 31 = true → s.chip.flag
      (CMP_P_INJRES_DONE p.val) = false → Runs (.cmpInject a p v) s fun t =>
      t.chip.get (CMP_P_INJRES_STATUS p.val) = stBUSY ∧ t.chip.pends (520 + p.val) = true ∧ t.chip.core.injections =
        s.chip.core.injections) ∧
    (∀ (p : Fin 4) (pc : BitVec 36) (i : Injection), s.chip.zoneUp = true → look none s.chip.core.injections p.val = some i → Runs
      (.cmpInjectResult p true pc) s fun t =>
      look none t.chip.core.injections p.val = none ∧ t.chip.flag (CMP_P_INJRES_DONE p.val) = true ∧ t.chip.flag (CMP_P_INJRES_CAUGHT
        p.val) = true ∧ t.chip.get (CMP_P_CNT_INJOK p.val) = min (s.chip.get (CMP_P_CNT_INJOK p.val) + 1) 65535 ∧ t.chip.flag
        (CMP_P_STAT_HALTED p.val) = s.chip.flag (CMP_P_STAT_HALTED p.val)) ∧
    (∀ (p : Fin 4) (pc : BitVec 36) (i : Injection), s.chip.zoneUp = true → look none s.chip.core.injections p.val = some i → Runs
      (.cmpInjectResult p false pc) s fun t =>
      look none t.chip.core.injections p.val = none ∧ t.chip.flag (CMP_P_INJRES_CAUGHT p.val) = false ∧ t.chip.flag (CMP_P_STAT_HALTED
        p.val) = true ∧ t.chip.pends (512 + p.val) = true) ∧
    (∀ (a : Agent) (p : Fin 4) (v : W32), s.chip.admits a = true → s.chip.worldOfAgent a = 2 → bit v.toNat 0 = true → Runs (.cmpMmclr a p
      v) s fun t =>
      t.chip.rdN (CMP_P_MM p.val) = 0 ∧ s.frame [] (among [(CMP_P_MM p.val).addr]) t) ∧
    (∀ (a : Agent) (v : W32), s.chip.admits a = true → s.chip.worldOfAgent a = 2 → bit v.toNat 0 = true → Runs (.cmpClrcnt a v) s fun t =>
      (∀ k : Fin 8, t.chip.rdN (CMP_C_ECC k.val) = 0) ∧ s.frame [] (among (addrs 8 CMP_C_ECC)) t) ∧
    (∀ (a : Agent) (v : W32), s.chip.admits a = true → 896 ≤ v.toNat % 1024 → s.chip.claims (s.chip.worldOfAgent a) 16 ((v.toNat % 1024 -
      896) / 16) = true → Runs (.evrRaise a v) s fun t =>
      t.chip.pends (v.toNat % 1024) = true ∧ s.frame [.core] eventAddr t) ∧
    (∀ (a : Agent) (v : W32), s.chip.admits a = true → 896 ≤ v.toNat % 1024 → s.chip.claims (s.chip.worldOfAgent a) 16 ((v.toNat % 1024 -
      896) / 16) = false → Runs (.evrRaise a v) s fun t =>
      t.chip.get EVR_STAT_LASTERR = stDENIED_WORLD ∧ t.chip.pends 541 = true) ∧
    (∀ (a : Agent) (v : W32), s.chip.admits a = true → s.chip.eventOwner (v.toNat % 1024) = some (s.chip.worldOfAgent a) → Runs (.evrAck a
      v) s fun t =>
      t.chip.pends (v.toNat % 1024) = false ∧ (∀ k : Fin 1024, k.val ≠ v.toNat % 1024 → t.chip.pends k.val = s.chip.pends k.val)) ∧
    (∀ (a : Agent) (v : W32), s.chip.admits a = true → s.chip.eventOwner (v.toNat % 1024) ≠ some (s.chip.worldOfAgent a) → Runs (.evrAck a
      v) s fun t =>
      t.chip.get EVR_STAT_LASTERR = stDENIED_WORLD ∧ (∀ k : Fin 1024, t.chip.pends k.val = s.chip.pends k.val))

/-! ### Supply -/

/-- Above 36.0 V OV counts (R299); below 5.8 V the zone die is held with UVZ (R297), below 4.5 V every gate is off (R298), and above 4.7 V
  the counter's time is carried; below 4.0 V the module is power-on reset (R294); a rail out of its window browns out (R296). The SWID
  processor changes over to VBAK, and VBAK below 2.2 V says so on -H (R307, R308). Temperatures warn, throttle and report (R309, R310).
  W1's CLRMIN and CLRCNT clear (R311). Values that lie within a band change nothing. -/
def Obligations.SupplyBands : Prop :=
  ∀ (s : State),
    (∀ (v : BitVec 16), s.chip.zoneUp = true → 3600 < v.toNat → Runs (.ovEnter v) s fun t =>
      t.chip.flag PMU_STAT_OV = true ∧ t.chip.get PMU_CNT_OV = min (s.chip.get PMU_CNT_OV + 1) 255 ∧ t.chip.get PMU_VBAT_VBAT = v.toNat ∧
        t.chip.get PMU_VBAT_VMIN = (if s.chip.get PMU_VBAT_VMIN = 0 then v.toNat else min (s.chip.get PMU_VBAT_VMIN) v.toNat) ∧
        t.chip.pends 450 = true ∧ s.frame [.core] (amongEv [PMU_STAT.addr, PMU_CNT.addr, PMU_VBAT.addr]) t) ∧
    (∀ (v : BitVec 16), v.toNat ≤ 3600 → Runs (.ovEnter v) s fun t =>
      t = s) ∧
    (∀ (v : BitVec 16), v.toNat < 580 → s.chip.pmu.uvz = false → s.chip.pmu.power = .run → Runs (.uvzEnter v) s fun t =>
      t.chip.pmu.uvz = true ∧ t.chip.get PMU_RAIL_WINDOW = 0 ∧ t.chip.rst.handed = false ∧ 448 ∈ t.chip.rst.deferred) ∧
    (∀ (v : BitVec 16) (bad : BitVec 5), (v.toNat ≤ 600 ∨ s.chip.pmu.uvz = false) → Runs (.uvzExit v bad) s fun t =>
      t = s) ∧
    (∀ (v : BitVec 16) (bad : BitVec 5), 600 < v.toNat → s.chip.pmu.uvz = true → s.chip.rst.sources.erase .uvz ≠ [] → Runs (.uvzExit v bad)
      s fun t =>
      t.chip.pmu.uvz = false ∧ t.chip.rst.sources = s.chip.rst.sources.erase .uvz ∧ t.chip.rst.episode = s.chip.rst.episode) ∧
    (∀ (v : BitVec 16), v.toNat < 450 → s.chip.pmu.uvh = false → Runs (.uvhEnter v) s fun t =>
      t.chip.pmu.uvh = true ∧ t.chip.flag PMU_STAT_UVH = true ∧ t.chip.get PMU_CNT_UVH = min (s.chip.get PMU_CNT_UVH + 1) 255 ∧ (∀ n : Fin
        48, t.chip.flag (LSC_CH_STAT_OUT n.val) = false) ∧ (∀ n : Fin 48, t.chip.flag (LSC_CH_STAT_CMDON n.val) = s.chip.flag
        (LSC_CH_STAT_CMDON n.val)) ∧ t.chip.time.stopped = (s.chip.time.started || s.chip.time.stopped) ∧ t.chip.rst.deferred =
        s.chip.rst.deferred ++ [449]) ∧
    (∀ (v : BitVec 16) (ns : Nat), 470 < v.toNat → s.chip.pmu.uvh = true → s.chip.pmu.power = .run → s.chip.time.stopped = true → Runs
      (.uvhExit v ns) s fun t =>
      t.chip.pmu.uvh = false ∧ t.chip.time.frc = s.chip.time.frc + ns ∧ t.chip.time.stopped = false ∧ t.chip.flag TIME_STAT_SLEEPCARRY =
        true ∧ (∀ n : Fin 48, s.chip.flag (LSC_CH_STAT_CMDON n.val) = false ∧ s.chip.flag (LSC_CH_STAT_OUT n.val) = false → t.chip.flag
        (LSC_CH_STAT_OUT n.val) = false)) ∧
    (∀ (v : BitVec 16), v.toNat < 400 → Runs (.powerOnReset v) s fun t =>
      t.chip.rst.episode = some 4 ∧ t.chip.rst.handed = false ∧ t.chip.get PMU_RAIL_WINDOW = 0 ∧ t.chip.get PMU_VBAT_VBAT = v.toNat ∧ bit
        (t.chip.rdN RST_CAUSE) 0 = true) ∧
    (∀ (v : BitVec 16), 400 ≤ v.toNat → Runs (.powerOnReset v) s fun t =>
      t = s) ∧
    (∀ (rail : Fin 9), s.chip.zoneUp = true → Runs (.railBrownout rail) s fun t =>
      bit (t.chip.get PMU_RAIL_WINDOW) rail.val = false ∧ 451 ∈ t.chip.rst.deferred ∧ t.chip.rst.handed = false ∧ bit (t.chip.rdN
        RST_CAUSE) 2 = true) ∧
    (s.chip.variantH = true → s.chip.hbx.power ≠ .off ∧ s.chip.hbx.power ≠ .backup → Runs (.vbakChangeover true) s fun t =>
      t.chip.hbx.power = .backup ∧ t.chip.hbx.backupAt = s.chip.now ∧ s.frame [.hbx] (among []) t) ∧
    (s.chip.variantH = false → Runs (.vbakChangeover true) s fun t =>
      t = s) ∧
    (∀ (mv : BitVec 16), s.chip.zoneUp = true → s.chip.variantH = true → mv.toNat < 2200 → Runs (.vbakLow mv) s fun t =>
      t.chip.get PMU_VBAK_VBAK = mv.toNat ∧ t.chip.flag PMU_STAT_VBAKLOW = true ∧ t.chip.pends 459 = true ∧ s.frame [.core] (amongEv
        [PMU_VBAK.addr, PMU_STAT.addr]) t) ∧
    (∀ (x : BitVec 10), s.chip.zoneUp = true → (s.chip.get PMU_THR_TWARN : Int) < signed 10 x.toNat → Runs (.twarnEnter x) s fun t =>
      t.chip.flag PMU_STAT_TWARN = true ∧ t.chip.get PMU_TEMP_ZONE = x.toNat ∧ t.chip.pends 454 = true ∧ (s.chip.flag PMU_CTL_AUTOTHR =
        true → t.chip.flag PMU_STAT_THROT = true)) ∧
    (∀ (x : BitVec 10), s.chip.zoneUp = true → signed 10 x.toNat < (s.chip.get PMU_THR_TWARN : Int) - 5 → s.chip.flag PMU_STAT_THROT = true
      → Runs (.twarnExit x) s fun t =>
      t.chip.flag PMU_STAT_THROT = false ∧ t.chip.core.clockMHz = 1600 ∧ t.chip.pends 455 = true ∧ t.chip.get PMU_TEMP_ZONE = x.toNat) ∧
    (∀ (supply : Bool) (x : BitVec 10), signed 10 x.toNat < (if supply then 150 else 125) → Runs (.thermalReset supply x) s fun t =>
      t = s) ∧
    (∀ (x : BitVec 10), s.chip.pmu.power = .run → 125 ≤ signed 10 x.toNat → s.chip.rst.episode = none → Runs (.thermalReset false x) s fun
      t =>
      t.chip.rst.handed = false ∧ .thermal ∈ t.chip.rst.sources ∧ bit (t.chip.rdN RST_CAUSE) 12 = true) ∧
    (∀ (x : BitVec 10), s.chip.zoneUp = true → 105 < signed 10 x.toNat → Runs (.baseplateOvertemp x) s fun t =>
      t.chip.get PMU_TEMP_BASE = x.toNat ∧ t.chip.pends 457 = true ∧ s.frame [.core] (amongEv [PMU_TEMP.addr]) t) ∧
    (∀ (zone stage supply : W32) (vbat vbak : BitVec 16) (temps : BitVec 30), s.chip.zoneUp = true → zone.toNat + stage.toNat +
      supply.toNat < 2 ^ 32 → s.chip.powerOver (s.chip.get PMU_PWR_TOTAL) = false → Runs (.powerReportTick zone stage supply vbat vbak
      temps) s fun t =>
      t.chip.get PMU_PWR_ZONE = zone.toNat ∧ t.chip.get PMU_PWR_TOTAL = zone.toNat + stage.toNat + supply.toNat ∧ t.chip.get PMU_VBAT_VBAT
        = vbat.toNat ∧ t.chip.rdN PMU_TEMP = temps.toNat * 4 ∧ (s.chip.powerOver (zone.toNat + stage.toNat + supply.toNat) = true →
        t.chip.flag PMU_STAT_PWROVER = true ∧ t.chip.pends 458 = true)) ∧
    (∀ (a : Agent) (v : W32), s.chip.admits a = true → s.chip.worldOfAgent a = 1 → bits v.toNat 1 0 = 2 → Runs (.clrmin a v) s fun t =>
      t.chip.get PMU_VBAT_VMIN = s.chip.get PMU_VBAT_VBAT ∧ t.chip.flag PMU_CTL_DEEPNEXT = bit v.toNat 3 ∧ t.chip.flag PMU_CTL_AUTOTHR =
        bit v.toNat 2 ∧ s.frame [] (among [PMU_CTL.addr, PMU_VBAT.addr]) t) ∧
    (∀ (a : Agent) (v : W32), s.chip.admits a = true → s.chip.worldOfAgent a = 1 → bits v.toNat 1 0 = 1 → Runs (.pmuClrcnt a v) s fun t =>
      t.chip.rdN PMU_CNT = 0 ∧ s.frame [] (among [PMU_CTL.addr, PMU_CNT.addr]) t) ∧
    (∀ (a : Agent) (v : W32), s.chip.admits a = true → s.chip.worldOfAgent a ≠ 1 → Runs (.pmuClrcnt a v) s fun t =>
      t.chip.get PMU_STAT_LASTERR = stDENIED_WORLD ∧ t.chip.pends 460 = true ∧ t.chip.rdN PMU_CNT = s.chip.rdN PMU_CNT)

/-- At the commit point with its guard window open the module enters ENTRY and the flush begins (R285, R303); when it has ended the image
  is sealed and the module sleeps, or passes into DEEP (R303, R306). DTMR hours or 60 s below PARKLOW pass SLEEP into DEEP (R306). A wake
  resumes from a good image into the boot ROM (R304, R459), or starts at system reach where it is not good (R305); DEEP always does
  (R306). The save agent rebuilds the image (R302). Without a wake, or below 6.0 V after UVZ, nothing starts. -/
def Obligations.SleepAndWake : Prop :=
  ∀ (s : State),
    (∀ (backlog : Nat), s.chip.zoneUp = true → s.chip.slState = slPREPARE → s.chip.nmw.guard = true → s.chip.due s.chip.commitPoint = true
      → Runs (.sleepCommit backlog) s fun t =>
      t.chip.pmu.flushing = true ∧ t.chip.pmu.power = .run ∧ t.chip.get NMW_SEGSTAT_AWAKE % 2 ^ 42 = 0 ∧ t.chip.flag SEQ_CTL_EN = false ∧
        t.chip.get PMU_IMG_BACKLOG = min backlog 0xFFFF ∧ t.chip.rst.wdtStart = [] ∧ t.chip.rst.wdtHalf = []) ∧
    (∀ (backlog : Nat), s.chip.zoneUp = true → s.chip.esw.jobs = [] → (s.chip.slState ≠ slPREPARE ∨ s.chip.nmw.guard = false) → Runs
      (.sleepCommit backlog) s fun t =>
      t.chip = s.chip) ∧
    (s.chip.zoneUp = true → s.chip.pmu.flushing = true → s.chip.flag PMU_CTL_DEEPNEXT = false → Runs (.sleepEntered) s fun t =>
      t.chip.pmu.power = .sleep ∧ t.chip.pmu.sealed = true ∧ t.chip.pmu.flushing = false ∧ t.chip.pmu.sleptAt = s.chip.now ∧ t.chip.flag
        PMU_IMG_VALID = true ∧ (t.chip.pmu.wake = s.chip.nmw.latched.map fun k => (k, true)) ∧ t.chip.rst.handed = false ∧
        t.chip.nmw.guard = false ∧ t.chip.nmw.hold = none ∧ t.chip.time.stopped = (s.chip.time.started || s.chip.time.stopped)) ∧
    (s.chip.zoneUp = true → s.chip.pmu.flushing = false → Runs (.sleepEntered) s fun t =>
      t = s) ∧
    (∀ (below : Nat), s.chip.pmu.power = .sleep → s.chip.pmu.wake = none → 60000000000 ≤ below ∧ s.chip.get PMU_DEEP_PARKLOW ≠ 0 → Runs
      (.deepEntry below) s fun t =>
      t.chip.pmu.power = .deep ∧ t.chip.pmu.sealed = false ∧ t.chip.flag PMU_IMG_VALID = false) ∧
    (∀ (below : Nat), (s.chip.pmu.power ≠ .sleep ∨ s.chip.pmu.wake ≠ none ∨ (s.chip.get PMU_DEEP_DTMR = 0 ∧ below < 60000000000)) → Runs
      (.deepEntry below) s fun t =>
      t.chip = s.chip) ∧
    (s.chip.zoneUp = true → s.chip.pmu.rebuild = true → Runs (.imageRebuild) s fun t =>
      t.chip.flag PMU_IMG_VALID = true ∧ t.chip.pmu.rebuild = false ∧ s.frame [.pmu] (among [PMU_IMG.addr]) t) ∧
    (∀ (ns : Nat) (good : Bool) (bad : BitVec 5), (s.chip.pmu.power ≠ .sleep ∨ s.chip.pmu.uvz = true ∨ s.chip.pmu.wake = none) → Runs
      (.resume ns good bad) s fun t =>
      t = s) ∧
    (∀ (ns : Nat) (bad : BitVec 5) (k : Nat) (late : Bool), s.chip.pmu.power = .sleep → s.chip.pmu.uvz = false → s.chip.pmu.wake = some (k,
      late) → s.chip.pmu.sealed = true → s.chip.jstate ≠ jINSTALLING ∧ s.chip.jstate ≠ jPREPARED ∧ s.chip.jstate ≠ jTRIAL → Runs (.resume
      ns true bad) s fun t =>
      t.chip.pmu.power = .run ∧ t.chip.pmu.wake = none ∧ t.chip.time.frc = (if s.chip.time.stopped then s.chip.time.frc + ns else
        s.chip.time.frc) ∧ t.chip.flag PMU_STAT_RESUMED = true) ∧
    (∀ (ns : Nat) (good : Bool) (bad : BitVec 5) (k : Nat) (late : Bool), s.chip.pmu.power = .sleep → s.chip.pmu.uvz = false →
      s.chip.pmu.wake = some (k, late) → (good = false ∨ s.chip.pmu.sealed = false) → s.chip.jstate ≠ jINSTALLING ∧ s.chip.jstate ≠
      jPREPARED ∧ s.chip.jstate ≠ jTRIAL → Runs (.resume ns good bad) s fun t =>
      t.chip.pmu.power = .run ∧ t.chip.rst.handed = false ∧ t.chip.get PMU_STAT_LASTSLEEP = 2 ∧ 452 ∈ t.chip.rst.deferred ∧ 425 ∈
        t.chip.rst.deferred) ∧
    (∀ (ns : Nat) (bad : BitVec 5) (k : Nat) (late : Bool), s.chip.pmu.power = .deep → s.chip.pmu.uvz = false → s.chip.pmu.wake = some (k,
      late) → s.chip.jstate ≠ jINSTALLING ∧ s.chip.jstate ≠ jPREPARED ∧ s.chip.jstate ≠ jTRIAL → Runs (.deepWake ns bad) s fun t =>
      t.chip.pmu.power = .run ∧ t.chip.rst.handed = false ∧ t.chip.get PMU_STAT_LASTSLEEP = 3 ∧ 453 ∈ t.chip.rst.deferred ∧ 425 ∈
        t.chip.rst.deferred)

/-! ### Reset, boot and seal -/

/-- A source of warm reach or wider opens an episode with its cause bit, or joins the one open (R442); a release takes it out, and the
  last one starts the release sequence with its reach (R443); a partition request holds its target in reset, and its reset completes once
  no source holds it (R444). A world kicks its own watchdog (R466), half its timeout raises EV0486 + w, all of it asserts its source. A
  request with the key and a legal target resets, and another is refused with EV0492 (R467). The debug port resets and holds harts it
  reaches (R468). -/
def Obligations.ResetsAndWatchdogs : Prop :=
  ∀ (s : State),
    (∀ (src : ResetSource), s.chip.pmu.power = .run → 2 ≤ s.chip.sourceReach src ∧ s.chip.sourceReach src ≤ 3 → s.chip.rst.episode = none ∧
      s.chip.rst.releasing = none → Runs (.resetAssert src) s fun t =>
      t.chip.rst.episode = some (s.chip.sourceReach src) ∧ src ∈ t.chip.rst.sources ∧ t.chip.rst.handed = false ∧ t.chip.rst.parts = [] ∧
        t.chip.rst.wdtStart = [] ∧ t.chip.flag RST_STAT_W0ACTIVE = true ∧ bit (t.chip.rdN RST_CAUSE) (causeBit src) = true ∧ (∀ k : Fin 8,
        look false t.chip.core.running k.val = false) ∧ t.pending = s.pending) ∧
    (∀ (src : ResetSource) (r : Nat), (s.chip.pmu.power = .run ∨ src = .powerOn) → 2 ≤ s.chip.sourceReach src ∧ s.chip.sourceReach src ≤ r
      → s.chip.rst.episode = some r → Runs (.resetAssert src) s fun t =>
      t.chip.rst.episode = some r ∧ t.chip.rst.sources = (if s.chip.rst.sources.contains src then s.chip.rst.sources else
        s.chip.rst.sources ++ [src]) ∧ bit (t.chip.rdN RST_CAUSE) (causeBit src) = true ∧ s.frame [.rst] (among [RST_CAUSE.addr]) t) ∧
    (∀ (src : ResetSource), s.chip.pmu.power ≠ .run → src ≠ .powerOn → Runs (.resetAssert src) s fun t =>
      t = s) ∧
    (∀ (p : Fin 4), s.chip.pmu.power = .run → bit (s.chip.get RST_REACH_MMPAIR) p.val = false → s.chip.rst.episode = none → Runs
      (.resetAssert (.cmpMismatch p)) s fun t =>
      (t.chip.rst.parts = upd [] s.chip.rst.parts p.val fun l => l ++ [1]) ∧ look false t.chip.core.running (2 * p.val) = false ∧ look
        false t.chip.core.running (2 * p.val + 1) = false ∧ t.chip.rst.episode = none ∧ t.chip.rst.handed = s.chip.rst.handed) ∧
    (∀ (src : ResetSource) (bad : BitVec 5), s.chip.rst.sources.contains src = false → Runs (.resetRelease src bad) s fun t =>
      t = s) ∧
    (∀ (src : ResetSource) (bad : BitVec 5) (r : Nat), src ≠ .uvz → s.chip.rst.sources = [src] → s.chip.rst.episode = some 2 →
      s.chip.jstate ≠ jINSTALLING ∧ s.chip.jstate ≠ jPREPARED ∧ s.chip.jstate ≠ jTRIAL → r = 2 → Runs (.resetRelease src bad) s fun t =>
      t.chip.rst.sources = [] ∧ t.chip.rst.episode = none ∧ t.chip.rst.releasing = some r ∧ t.chip.rst.relStep = .reinit ∧ t.chip.get
        RST_STAT_LASTREACH = r) ∧
    (∀ (target : Fin 128) (bad : Bool), (look [] s.chip.rst.parts target.val = [] ∨ target.val ∈ s.chip.rst.hartHeld ∨ s.chip.rst.episode ≠
      none) → Runs (.partitionReset target bad) s fun t =>
      t.chip = s.chip) ∧
    (∀ (target : Fin 128) (bad : Bool) (src : Nat) (l : List Nat), target.val < 4 → look [] s.chip.rst.parts target.val = src :: l → src <
      8 → target.val ∉ s.chip.rst.hartHeld → s.chip.rst.episode = none → (bad = false ∨ s.chip.mitten target.val = false) → Runs
      (.partitionReset target bad) s fun t =>
      look [] t.chip.rst.parts target.val = [] ∧ t.chip.flag (CMP_P_STAT_HALTED target.val) = false ∧ look false t.chip.core.running (2 *
        target.val) = (!s.chip.flag (CMP_P_STAT_HELD target.val) && s.chip.rst.handed && (target.val == 0 || bit (s.chip.get
        RST_HARTEN_HARTS) (2 * target.val))) ∧ t.chip.get RST_PLAST_TARGET = target.val ∧ t.chip.get RST_PLAST_SOURCE = src ∧ t.chip.pends
        491 = true) ∧
    (∀ (a : Agent) (w : Fin 5) (u : Nat), s.chip.admits a = true → s.chip.worldOfAgent a = w.val → look none s.chip.rst.wdtStart w.val =
      some u → Runs (.watchdogKick a w) s fun t =>
      look none t.chip.rst.wdtStart w.val = some s.chip.frc ∧ look false t.chip.rst.wdtHalf w.val = false ∧ s.frame [.rst] (among []) t) ∧
    (∀ (a : Agent) (w : Fin 5), s.chip.admits a = true → s.chip.worldOfAgent a ≠ w.val → Runs (.watchdogKick a w) s fun t =>
      t.chip.rst = s.chip.rst ∧ t.chip.get RST_STAT_LASTERR = stDENIED_WORLD ∧ t.chip.pends 499 = true) ∧
    (∀ (w : Fin 5) (u : Nat), look none s.chip.rst.wdtStart w.val = some u → s.chip.due (u + s.chip.wdtNs w.val / 2) = true → look false
      s.chip.rst.wdtHalf w.val = false → Runs (.watchdogHalf w) s fun t =>
      look false t.chip.rst.wdtHalf w.val = true ∧ t.chip.pends (486 + w.val) = true ∧ look none t.chip.rst.wdtStart w.val = some u ∧
        s.frame [.rst, .core] eventAddr t) ∧
    (∀ (w : Fin 5) (u : Nat), look none s.chip.rst.wdtStart w.val = some u → s.chip.due (u + s.chip.wdtNs w.val) = false → Runs
      (.watchdogExpiry w) s fun t =>
      t = s) ∧
    (∀ (w : Fin 5) (u : Nat), s.chip.pmu.power = .run → look none s.chip.rst.wdtStart w.val = some u → s.chip.due (u + s.chip.wdtNs w.val)
      = true → 2 ≤ s.chip.sourceReach (.watchdog w) → s.chip.rst.episode = none ∧ s.chip.rst.releasing = none → Runs (.watchdogExpiry w) s
      fun t =>
      .watchdog w ∈ t.chip.rst.sources ∧ t.chip.rst.episode = some (s.chip.sourceReach (.watchdog w)) ∧ bit (t.chip.rdN RST_CAUSE) (4 +
        w.val) = true) ∧
    (∀ (a : Agent) (v : W32), s.chip.admits a = true → bits v.toNat 31 24 ≠ 0x5A → Runs (.rstSwreq a v) s fun t =>
      look 0 t.chip.rst.swres (s.chip.who a).key = stRANGE ∧ t.chip.pends 492 = true ∧ t.chip.rst.episode = s.chip.rst.episode) ∧
    (∀ (a : Agent) (v : W32), s.chip.admits a = true → bits v.toNat 31 24 = 0x5A ∧ bits v.toNat 17 16 = 2 → (s.chip.worldOfAgent a = 1 ∨
      s.chip.worldOfAgent a = 2) → s.chip.pmu.power = .run → s.chip.rst.episode = none ∧ s.chip.rst.releasing = none → Runs (.rstSwreq a
      v) s fun t =>
      t.chip.rst.episode = some 2 ∧ .swReq 2 ∈ t.chip.rst.sources ∧ look 0 t.chip.rst.swres (s.chip.who a).key = stOK ∧ bit (t.chip.rdN
        RST_CAUSE) 10 = true) ∧
    (∀ (a : Agent) (v : W32), s.chip.admits a = true → bits v.toNat 31 24 = 0x5A ∧ bits v.toNat 17 16 = 1 → s.chip.swReqCheck
      (s.chip.worldOfAgent a) 1 (bits v.toNat 6 0) ≠ stOK → Runs (.rstSwreq a v) s fun t =>
      look 0 t.chip.rst.swres (s.chip.who a).key = s.chip.swReqCheck (s.chip.worldOfAgent a) 1 (bits v.toNat 6 0) ∧ t.chip.rst.parts =
        s.chip.rst.parts ∧ t.chip.pends 492 = true) ∧
    (s.chip.rst.episode = none → s.chip.booting = true → Runs (.dramTrained) s fun t =>
      t.chip.rst.dramTrained = true ∧ s.frame [.rst] (among []) t) ∧
    (s.chip.debugOpen &&& 3 = 0 → Runs (.ndmreset) s fun t =>
      t = s) ∧
    (s.chip.pmu.power = .run → s.chip.debugOpen &&& 3 ≠ 0 → s.chip.rst.episode = none ∧ s.chip.rst.releasing = none → Runs (.ndmreset) s
      fun t =>
      t.chip.rst.episode = some 3 ∧ .ndmReset ∈ t.chip.rst.sources ∧ bit (t.chip.rdN RST_CAUSE) 11 = true) ∧
    (∀ (k : Fin 8), bit s.chip.debugOpen (s.chip.worldOf k.val) = true → s.chip.rst.episode = none → Runs (.hartreset k true) s fun t =>
      k.val / 2 ∈ t.chip.rst.hartHeld ∧ (t.chip.rst.parts = upd [] s.chip.rst.parts (k.val / 2) fun l => l ++ [4]) ∧ look false
        t.chip.core.running k.val = false) ∧
    (∀ (k : Fin 8), Runs (.hartreset k false) s fun t =>
      t.chip.rst.hartHeld = s.chip.rst.hartHeld.filter (· != k.val / 2) ∧ s.frame [.rst] (among []) t)

/-- A bad strap or fuse read fails the load attempt, and the third attempt takes the safe defaults (R451). With no bank that passes, the
  boot ROM waits with bank 0 shown and EV0485 to come (R457). CX0 in W0 seals: the worlds of RST_MW take over with EV0480 (R461–R464), and
  no one else does, with EV0481. Fuses are written by W0: the floor only rises (R460), a key hash once, a revocation not of the last key,
  the option source once (R450). The debug module halts, resumes and steps the harts it reaches (R468). -/
def Obligations.BootSealAndFuses : Prop :=
  ∀ (s : State),
    (∀ (m0 m1 m2 m3 : Nat) (ecc : Bool), (s.chip.rst.relStep ≠ .options ∨ s.chip.rst.releasing = none ∨ s.chip.rst.episode ≠ none) → Runs
      (.optionLoad m0 m1 m2 m3 ecc) s fun t =>
      t = s) ∧
    (∀ (m0 m1 m2 m3 : Nat) (ecc : Bool), s.chip.pmu.power = .run → s.chip.rst.relStep = .options ∧ s.chip.rst.releasing ≠ none ∧
      s.chip.rst.episode = none → m1 / 125 ≠ m0 / 125 ∧ m0 < 1875 ∧ m1 < 1875 → s.chip.get RST_OPT_ATTEMPTS = 2 → Runs (.optionLoad m0 m1
      m2 m3 ecc) s fun t =>
      t.chip.flag RST_OPT_STRAPBAD = true ∧ t.chip.get RST_OPT_ATTEMPTS = 3 ∧ 483 ∈ t.chip.rst.deferred ∧ 482 ∈ t.chip.rst.deferred ∧
        t.chip.get RST_OPT_STRAP = m0 / 125) ∧
    ((s.chip.rst.episode ≠ none ∨ (s.chip.rst.relStep ≠ .init ∧ s.chip.rst.relStep ≠ .reinit)) → Runs (.bootRomCheck) s fun t =>
      t = s) ∧
    (s.chip.rst.episode = none → s.chip.rst.relStep = .init ∧ s.chip.rst.resumeBoot = false → s.bankCheck 0 ≠ stOK ∧ s.bankCheck 1 ≠ stOK →
      s.chip.jstate ≠ jTRIAL → Runs (.bootRomCheck) s fun t =>
      t.chip.get RST_BOOT_BANK = 0 ∧ t.chip.rst.relStep = .noBank ∧ t.chip.rst.releasing = none ∧ 485 ∈ t.chip.rst.deferred ∧ t.mem =
        s.mem) ∧
    (∀ (a : Agent) (v : W32), s.chip.admits a = true → a = ⟨0, none⟩ → s.chip.worldOfAgent a = 0 → s.chip.rst.handed = false → bit v.toNat
      0 = true → s.chip.flag RST_STAT_SEALED = false → Runs (.protSeal a v) s fun t =>
      t.chip.flag RST_STAT_SEALED = true ∧ t.chip.rst.handed = true ∧ t.chip.flag RST_STAT_W0ACTIVE = false ∧ t.chip.pends 480 = true ∧
        t.chip.rst.sealedHash = s.chip.rst.runHash ∧ t.chip.rst.deferred = [] ∧ look none t.chip.rst.wdtStart 0 = none ∧ look false
        t.chip.core.running 0 = true ∧ (∀ m : Fin 20, t.chip.get (RST_MW_WORLD m.val) = s.chip.get (RST_MW_WORLD m.val))) ∧
    (∀ (a : Agent) (v : W32), s.chip.admits a = true → (a.mid ≠ 0 ∨ a.vf ≠ none ∨ s.chip.worldOfAgent a ≠ 0 ∨ s.chip.rst.handed = true) →
      Runs (.protSeal a v) s fun t =>
      t.chip.pends 481 = true ∧ t.chip.rst = s.chip.rst ∧ t.chip.flag RST_STAT_SEALED = s.chip.flag RST_STAT_SEALED ∧ s.frame [.core]
        eventAddr t) ∧
    (∀ (a : Agent) (v : W32), s.chip.admits a = true → s.chip.worldOfAgent a = 0 → s.chip.flag RST_STAT_SEALED = false → s.chip.get
      RST_FLOOR_FLOOR ≤ v.toNat % 256 ∧ v.toNat % 256 ≤ s.chip.rst.runSecver → Runs (.rstFloorWrite a v) s fun t =>
      t.chip.get RST_FLOOR_FLOOR = v.toNat % 256 ∧ t.chip.get RST_VER_FLOOR = v.toNat % 256 ∧ s.frame [] (among [RST_FLOOR.addr,
        RST_VER.addr]) t) ∧
    (∀ (a : Agent) (v : W32), s.chip.admits a = true → s.chip.worldOfAgent a = 0 → s.chip.flag RST_STAT_SEALED = false → (v.toNat % 256 <
      s.chip.get RST_FLOOR_FLOOR ∨ s.chip.rst.runSecver < v.toNat % 256) → Runs (.rstFloorWrite a v) s fun t =>
      t.chip.get RST_FLOOR_FLOOR = s.chip.get RST_FLOOR_FLOOR ∧ t.chip.get RST_STAT_LASTERR = stRANGE ∧ t.chip.pends 499 = true) ∧
    (∀ (a : Agent) (v : W32), s.chip.admits a = true → s.chip.worldOfAgent a = 0 → s.chip.flag RST_STAT_SEALED = true → Runs
      (.rstFloorWrite a v) s fun t =>
      t.chip.pends 481 = true ∧ s.frame [.core] eventAddr t) ∧
    (∀ (a : Agent) (k : Fin 4) (v : BitVec 512), s.chip.admits a = true → s.chip.worldOfAgent a = 0 → s.chip.key.lcs ≤ lcPROVISIONED → look
      false s.chip.rst.bkFused k.val = false → Runs (.rstBkhashWrite a k v) s fun t =>
      look false t.chip.rst.bkFused k.val = true ∧ (∀ i : Fin 4, t.chip.rdN (RST_BKHASH (4 * k.val + i.val)) = bits v.toNat (128 * i.val +
        127) (128 * i.val)) ∧ s.frame [.rst] (among (addrs 16 RST_BKHASH)) t) ∧
    (∀ (a : Agent) (k : Fin 4) (v : BitVec 512), s.chip.admits a = true → s.chip.worldOfAgent a = 0 → s.chip.key.lcs ≤ lcPROVISIONED → look
      false s.chip.rst.bkFused k.val = true → Runs (.rstBkhashWrite a k v) s fun t =>
      t.chip.rst = s.chip.rst ∧ t.chip.get RST_STAT_LASTERR = stNOT_NOW ∧ t.chip.pends 499 = true) ∧
    (∀ (a : Agent) (v : W32) (k : Fin 4), s.chip.admits a = true → s.chip.worldOfAgent a = 0 → s.chip.flag RST_STAT_SEALED = false → look
      false s.chip.rst.bkFused k.val = true ∧ bit (s.chip.get RST_BKREV_REV ||| v.toNat % 16) k.val = false → Runs (.rstBkrevWrite a v) s
      fun t =>
      t.chip.get RST_BKREV_REV = s.chip.get RST_BKREV_REV ||| v.toNat % 16 ∧ s.frame [] (among [RST_BKREV.addr]) t) ∧
    (∀ (a : Agent) (v : W32), s.chip.admits a = true → s.chip.worldOfAgent a = 0 → s.chip.key.lcs = lcBLANK → s.chip.rst.optSrc = none →
      Runs (.optsrcFuse a v) s fun t =>
      t.chip.rst.optSrc = some (bits v.toNat 31 30) ∧ t.chip.get RST_OPT_OPTSRC = bits v.toNat 31 30 ∧ s.frame [.rst] (among
        [RST_OPT.addr]) t) ∧
    (∀ (k : Fin 8), s.chip.debugReaches k.val = true → Runs (.debugHalt k) s fun t =>
      look false t.chip.core.debugHalted k.val = true ∧ s.frame [.core] (among []) t) ∧
    (∀ (k : Fin 8), s.chip.debugReaches k.val = false → Runs (.debugHalt k) s fun t =>
      t.chip = s.chip) ∧
    (∀ (k : Fin 8), s.chip.debugReaches k.val = true → Runs (.debugResume k) s fun t =>
      look false t.chip.core.debugHalted k.val = false ∧ s.frame [.core] (among []) t) ∧
    (∀ (k : Fin 8), s.chip.debugReaches k.val = true → look false s.chip.core.debugHalted k.val = true → Runs (.debugStep k) s fun t =>
      look 0 t.chip.core.steps k.val = look 0 s.chip.core.steps k.val + 1 ∧ look false t.chip.core.debugHalted k.val = true ∧ s.frame
        [.core] (among []) t)

/-! ### Bridge -/

/-- Training shows the link with EV0640, and its loss too (R362); without it a request gets an error response and EV0643 (R364), and so
  does one that no window holds (R365); a read that a window holds is sent with its far address. Atomics need a window with LOCK in the
  root role (R375). An initiator without posted writes has its fence answered at once (R373). The claimant enables a window that passes
  the checks (R367). A due poll read starts, and its end shows a changed value with EV0656 + i, or an error with EV0650 (R377). W1's
  commands: hot reset, configuration requests, counters and the error log (R378, R372). One with an uncorrectable place in the bridge's
  buffers gets an error response and EV0649 (R379). -/
def Obligations.BridgeLinkAndWindows : Prop :=
  ∀ (s : State),
    (∀ (width : Fin 3) (speed : Fin 4), s.chip.zoneUp = true → s.chip.brgOff = false ∧ s.chip.flag BRG_CTL_EN = true ∧ s.chip.flag
      BRG_STAT_LINK = false → Runs (.brgLinkUp width speed) s fun t =>
      t.chip.flag BRG_STAT_LINK = true ∧ t.chip.get BRG_STAT_WIDTH = width.val ∧ t.chip.get BRG_STAT_SPEED = speed.val ∧ t.chip.flag
        BRG_STAT_LINKCHG = true ∧ t.chip.pends 640 = true ∧ s.frame [.core] (amongEv [BRG_STAT.addr]) t) ∧
    (s.chip.zoneUp = true → s.chip.flag BRG_STAT_LINK = true → s.chip.brg.out = [] ∧ s.chip.brg.queue = [] ∧ s.chip.brg.posted = [] ∧
      s.chip.brg.fences = [] → Runs (.brgLinkDown) s fun t =>
      t.chip.flag BRG_STAT_LINK = false ∧ t.chip.pends 640 = true ∧ t.chip.brg.lock = none ∧ t.chip.brg.flushes = [] ∧ t.chip.brg.hlogs =
        [] ∧ t.chip.brg.elog = s.chip.brg.elog) ∧
    (∀ (a : Agent) (addr : BitVec 40) (size : Fin 65), s.chip.admits a = true → s.chip.fwPermits (s.chip.who a).tag addr.toNat size.val
      .read = true → regionOf addr.toNat = .bridge ∧ regionOf (addr.toNat + size.val - 1) = .bridge → (s.chip.brgOff = true ∨ s.chip.flag
      BRG_STAT_LINK = false ∨ s.chip.outWindow addr.toNat size.val = none) → Runs (.brgOutboundRequest a addr size none false) s fun t =>
      (look {} t.chip.fab.resp (s.chip.who a).key).err = true ∧ t.chip.pends 643 = true ∧ t.chip.brg = s.chip.brg) ∧
    (∀ (a : Agent) (addr : BitVec 40) (size : Fin 65) (data : Option (List Byte)), s.chip.admits a = true → s.chip.fwPermits (s.chip.who
      a).tag addr.toNat (match data with | none => size.val | some bs => bs.length) (match data with | none => .read | some _ => .write) =
      false → Runs (.brgOutboundRequest a addr size data false) s fun t =>
      (look {} t.chip.fab.resp (s.chip.who a).key).err = true ∧ t.chip.pends 496 = true ∧ t.chip.brg = s.chip.brg) ∧
    (∀ (a : Agent) (addr : BitVec 40) (size : Fin 65) (i : Nat), s.chip.admits a = true → s.chip.fwPermits (s.chip.who a).tag addr.toNat
      size.val .read = true → regionOf addr.toNat = .bridge ∧ regionOf (addr.toNat + size.val - 1) = .bridge → s.chip.brgOff = false ∧
      s.chip.flag BRG_STAT_LINK = true → s.chip.outWindow addr.toNat size.val = some i → size.val ≤ 2 ^ s.chip.get (BRG_OW_CTL_WMAX i) ∧ 1
      ≤ size.val ∧ s.chip.get (BRG_OW_CTL_SWAP i) = 0 → s.chip.brg.queue = [] ∧ s.chip.brg.lock = none ∧ s.chip.brg.out.length < 60 → Runs
      (.brgOutboundRequest a addr size none false) s fun t =>
      t.chip.brg.out = s.chip.brg.out ++
        [{ id := s.chip.brg.next, kind := .read, win := i, laddr := addr.toNat, size := size.val, far := s.chip.get (BRG_OW_FAR_BASE i) + addr.toNat - s.chip.get (BRG_OW_LOC_BASE i), bytes := [], key := (s.chip.who a).key, mid := a.mid.val, vfBits := (match a.vf with | none => 0 | some v => 64 + v.val), world := s.chip.worldOfAgent a, left := 1 }]
        ∧ t.chip.brg.next = s.chip.brg.next + 1 ∧ t.chip.brg.queue = []) ∧
    (∀ (a : Agent) (addr : BitVec 40) (size : Fin 65) (data : Option (List Byte)), s.chip.admits a = true → s.chip.fwPermits (s.chip.who
      a).tag addr.toNat size.val (if data.isSome then .write else .read) = true → regionOf addr.toNat = .bridge ∧ regionOf (addr.toNat +
      size.val - 1) = .bridge → Runs (.brgOutboundRequest a addr size data true) s fun t =>
      (look {} t.chip.fab.resp (s.chip.who a).key).err = true ∧ t.chip.pends 649 = true ∧ t.chip.brg = s.chip.brg) ∧
    (∀ (a : Agent) (op : AmoOp) (addr : BitVec 40) (wide : Bool) (arg : W64) (i : Nat), s.chip.admits a = true → s.chip.fwPermits
      (s.chip.who a).tag addr.toNat (wideBytes wide) .amo = true → regionOf addr.toNat = .bridge ∧ regionOf (addr.toNat + wideBytes wide -
      1) = .bridge → s.chip.brgOff = false ∧ s.chip.flag BRG_STAT_LINK = true → s.chip.outWindow addr.toNat (wideBytes wide) = some i →
      (s.chip.flag (BRG_OW_CTL_LOCK i) = false ∨ s.chip.brgRoot = false) → Runs (.brgAmo a op addr wide arg) s fun t =>
      (look {} t.chip.fab.resp (s.chip.who a).key).err = true ∧ t.chip.brg = s.chip.brg) ∧
    (∀ (a : Agent) (op : AmoOp) (addr : BitVec 40) (wide : Bool) (arg : W64) (i : Nat), s.chip.admits a = true → s.chip.fwPermits
      (s.chip.who a).tag addr.toNat (wideBytes wide) .amo = true → regionOf addr.toNat = .bridge ∧ regionOf (addr.toNat + wideBytes wide -
      1) = .bridge → s.chip.brgRoot = true ∧ s.chip.flag BRG_STAT_LINK = true → s.chip.outWindow addr.toNat (wideBytes wide) = some i →
      s.chip.flag (BRG_OW_CTL_LOCK i) = true → wideBytes wide ≤ 2 ^ s.chip.get (BRG_OW_CTL_WMAX i) → s.chip.brg.queue = [] ∧
      s.chip.brg.lock = none ∧ s.chip.brg.out.length < 60 → Runs (.brgAmo a op addr wide arg) s fun t =>
      t.chip.brg.lock = some
        { key := (s.chip.who a).key, mid := a.mid.val, vfBits := (match a.vf with | none => 0 | some v => 64 + v.val), win := i, resv := none, expiry := s.chip.frc + s.chip.get BRG_LIM_LOCKL * 1000 }
        ∧ t.chip.flag BRG_STAT_LOCKED = true ∧ t.chip.brg.out.map (·.kind) = s.chip.brg.out.map (·.kind) ++ [.amo op arg.toNat]) ∧
    (∀ (a : Agent) (addr : BitVec 40) (wide : Bool) (i : Nat), s.chip.admits a = true → s.chip.fwPermits (s.chip.who a).tag addr.toNat
      (wideBytes wide) .read = true → regionOf addr.toNat = .bridge ∧ regionOf (addr.toNat + wideBytes wide - 1) = .bridge →
      s.chip.brgRoot = true ∧ s.chip.flag BRG_STAT_LINK = true → s.chip.outWindow addr.toNat (wideBytes wide) = some i → s.chip.flag
      (BRG_OW_CTL_LOCK i) = true → wideBytes wide ≤ 2 ^ s.chip.get (BRG_OW_CTL_WMAX i) → s.chip.brg.queue = [] ∧ s.chip.brg.lock = none ∧
      s.chip.brg.out.length < 60 → Runs (.brgLr a addr wide) s fun t =>
      ((t.chip.brg.lock.map fun l => (l.key, l.win, l.resv)) = some ((s.chip.who a).key, i, some addr.toNat)) ∧ t.chip.brg.out.map
        (·.kind) = s.chip.brg.out.map (·.kind) ++ [.lr]) ∧
    (∀ (a : Agent) (addr : BitVec 40) (wide : Bool) (arg : W64) (i : Nat) (l : BrgLock), s.chip.admits a = true → s.chip.fwPermits
      (s.chip.who a).tag addr.toNat (wideBytes wide) .write = true → regionOf addr.toNat = .bridge ∧ regionOf (addr.toNat + wideBytes wide
      - 1) = .bridge → s.chip.brgRoot = true ∧ s.chip.flag BRG_STAT_LINK = true → s.chip.outWindow addr.toNat (wideBytes wide) = some i →
      s.chip.flag (BRG_OW_CTL_LOCK i) = true → wideBytes wide ≤ 2 ^ s.chip.get (BRG_OW_CTL_WMAX i) → s.chip.brg.queue = [] ∧
      s.chip.brg.lock = some l → l.key = (s.chip.who a).key ∧ l.resv = some addr.toNat ∧ s.chip.frc < l.expiry → Runs (.brgSc a addr wide
      arg) s fun t =>
      look {} t.chip.fab.resp (s.chip.who a).key = { err := false, data := 0 } ∧ t.chip.brg.lock = none ∧ t.chip.flag BRG_STAT_LOCKED =
        false ∧ t.chip.brg.sent.map (·.1) = some (s.chip.get (BRG_OW_FAR_BASE i) + swapBase (s.chip.get (BRG_OW_CTL_SWAP i)) (s.chip.get
        (BRG_OW_CTL_GRAN i)) addr.toNat (wideBytes wide) - s.chip.get (BRG_OW_LOC_BASE i))) ∧
    (∀ (a : Agent), s.chip.admits a = true → (s.chip.brg.posted.any (fun p => p.key == (s.chip.who a).key) = false) → look (0, 0)
      s.chip.brg.fails (s.chip.who a).key = (0, 0) → Runs (.brgFence a) s fun t =>
      look {} t.chip.fab.resp (s.chip.who a).key = { err := false, data := stOK * 2 ^ 24 } ∧ t.chip.brg.posted = s.chip.brg.posted) ∧
    (∀ (a : Agent) (v : W32), s.chip.admits a = true → s.chip.worldOfAgent a = 1 → Runs (.brgElogpop a v) s fun t =>
      t.chip.brg.elog = s.chip.brg.elog.drop 1 ∧ t.chip.rd BRG_ELOG0 = ((s.chip.brg.elog.drop 1).headD (0, 0)).1 ∧ t.chip.get
        BRG_STAT_ELOGN = (s.chip.brg.elog.drop 1).length % 2 ^ 6) ∧
    (∀ (a : Agent) (w : Fin 32) (v : W32), s.chip.admits a = true → s.chip.brgOff = false → s.chip.claims (s.chip.worldOfAgent a) 13 w.val
      = true → s.chip.flag (BRG_OW_CTL_EN w.val) = false → bit v.toNat 31 = true ∧ s.chip.owOk w.val v.toNat = true → Runs
      (.brgWindowEnable a false w v) s fun t =>
      t.chip.flag (BRG_OW_CTL_EN w.val) = true ∧ t.chip.rdN (BRG_OW_CTL w.val) = bits v.toNat 31 20 * 2 ^ 20 + v.toNat % 65536 ∧ s.frame
        [] (among [(BRG_OW_CTL w.val).addr]) t) ∧
    (∀ (a : Agent) (w : Fin 32) (v : W32), s.chip.admits a = true → s.chip.brgOff = false → s.chip.claims (s.chip.worldOfAgent a) 13 w.val
      = true → s.chip.flag (BRG_OW_CTL_EN w.val) = false → bit v.toNat 31 = true ∧ s.chip.owOk w.val v.toNat = false → Runs
      (.brgWindowEnable a false w v) s fun t =>
      t.chip.flag (BRG_OW_CTL_EN w.val) = false ∧ t.chip.get BRG_STAT_LASTERR = stRANGE ∧ t.chip.pends 648 = true) ∧
    (∀ (a : Agent) (v : W32), s.chip.admits a = true → s.chip.worldOfAgent a = 1 → s.chip.brgRoot = true → bits v.toNat 2 1 = 2 → Runs
      (.brgHotrst a v) s fun t =>
      t.chip.brg.hotResets = s.chip.brg.hotResets + 1 ∧ t.chip.flag BRG_CTL_EN = bit v.toNat 0 ∧ s.frame [.brg] (among [BRG_CTL.addr]) t) ∧
    (∀ (a : Agent) (v : W32), s.chip.admits a = true → s.chip.worldOfAgent a = 1 → s.chip.brgOff = false → bits v.toNat 2 1 = 1 → Runs
      (.brgClrcnt a v) s fun t =>
      t.chip.rdN BRG_CNT = 0 ∧ (∀ i : Fin 16, t.chip.rdN (BRG_POLL_ERR i.val) = 0)) ∧
    (∀ (a : Agent) (v : W32), s.chip.admits a = true → s.chip.worldOfAgent a = 1 → (s.chip.brgRoot = false ∨ s.chip.flag BRG_STAT_LINK =
      false) → Runs (.brgCfgRequest a v) s fun t =>
      t.chip.get BRG_STAT_LASTERR = stNOT_NOW ∧ t.chip.pends 648 = true ∧ t.chip.brg = s.chip.brg) ∧
    (∀ (a : Agent) (v : W32), s.chip.admits a = true → s.chip.worldOfAgent a = 1 → s.chip.brgRoot = true ∧ s.chip.flag BRG_STAT_LINK = true
      → s.chip.brg.queue = [] ∧ s.chip.brg.lock = none ∧ s.chip.brg.out.length < 60 → Runs (.brgCfgRequest a v) s fun t =>
      (t.chip.brg.out.map (fun r => (r.id, r.far, r.bytes)) = s.chip.brg.out.map (fun r => (r.id, r.far, r.bytes)) ++ [(s.chip.brg.next,
        s.chip.rdN BRG_CFGADDR, natBytes 4 v.toNat)]) ∧ t.chip.brg.queue = []) ∧
    (∀ (i : Fin 16), s.chip.zoneUp = true → s.chip.flag (BRG_POLL_CTL_EN i.val) = true ∧ s.chip.flag BRG_STAT_LINK = true → s.chip.brg.lock
      = none → s.chip.dueAt (s.chip.poll i.val).next = true → Runs (.brgPollRead i) s fun t =>
      t.chip.poll i.val =
        { s.chip.poll i.val with next := some (s.chip.frc + s.chip.get (BRG_POLL_CTL_PERIOD i.val) * 1000), out := true } ∧ s.frame [.brg]
        (among []) t) ∧
    (∀ (i : Fin 16) (v : W32) (x : Nat), s.chip.zoneUp = true → (s.chip.poll i.val).out = true ∧ (s.chip.poll i.val).seen = true → x =
      v.toNat % 2 ^ (8 * 2 ^ s.chip.get (BRG_POLL_CTL_SIZE i.val)) → (x ^^^ s.chip.get (BRG_POLL_LAST_V i.val)) &&& s.chip.get
      (BRG_POLL_MASK_M i.val) ≠ 0 → Runs (.brgPollComplete i true v) s fun t =>
      t.chip.get (BRG_POLL_LAST_V i.val) = x ∧ t.chip.pends (656 + i.val) = true ∧ (t.chip.poll i.val).out = false) ∧
    (∀ (i : Fin 16) (v : W32), s.chip.zoneUp = true → (s.chip.poll i.val).out = true → Runs (.brgPollComplete i false v) s fun t =>
      t.chip.pends 650 = true ∧ t.chip.get (BRG_POLL_LAST_V i.val) = s.chip.get (BRG_POLL_LAST_V i.val) ∧ (t.chip.poll i.val).out = false)

/-- The last completion of a read answers it (R370); a failed one ends it with an error response and EV0643, but a crossed one on a window
  with XRETRY goes again (R374). Enough unconfirmed writes, or 2 µs, cause a flush read, whose completion confirms them and whose failure
  logs them (R370–R372); in the root role an error message starts a Header Log read, which names no write where none lies at its address
  (R371). The lock's lease expires with EV0646 (R376). Inbound requests without a window or while the lock holds them back change nothing
  of memory (R366, R376). One that is uncorrectable in the bridge's buffers is not issued; EV0649, and a read is completed with CA (R379).
  -/
def Obligations.BridgeCompletions : Prop :=
  ∀ (s : State), s.chip.zoneUp = true →
    (∀ (id : Nat) (data : List Byte) (r : BrgReq), s.chip.brg.out = [r] ∧ s.chip.brg.queue = [] → r.id = id ∧ r.kind = .read ∧ r.flushed =
      false ∧ r.left ≤ 1 → Runs (.brgCompletion id .success data) s fun t =>
      t.chip.brg.out = [] ∧ look {} t.chip.fab.resp r.key =
        { err := false, data := bytesNat (swapBytes (s.chip.get (BRG_OW_CTL_SWAP r.win)) (s.chip.get (BRG_OW_CTL_GRAN r.win)) r.laddr (r.got ++ data)) }
        ∧ t.chip.brg.posted = s.chip.brg.posted) ∧
    (∀ (id : Nat) (st : CplStatus) (data : List Byte) (r : BrgReq), s.chip.brg.out = [r] ∧ s.chip.brg.queue = [] → st ≠ .success → r.id =
      id ∧ r.kind = .read ∧ r.flushed = false → (s.chip.flag (BRG_OW_CTL_XRETRY r.win) = false ∨ r.crossed = false) → Runs (.brgCompletion
      id st data) s fun t =>
      t.chip.brg.out = [] ∧ (look {} t.chip.fab.resp r.key).err = true ∧ t.chip.pends 643 = true) ∧
    (∀ (id : Nat) (st : CplStatus) (data : List Byte) (r : BrgReq), s.chip.brg.out = [r] → st ≠ .success → r.id = id ∧ r.kind ≠ .cfg ∧
      r.flushed = false → s.chip.flag (BRG_OW_CTL_XRETRY r.win) = true ∧ r.crossed = true ∧ r.retries < 15 → Runs (.brgCompletion id st
      data) s fun t =>
      t.chip.brg.out = [{ r with crossed := false, retries := r.retries + 1, got := [] }] ∧ s.frame [.brg] (among []) t) ∧
    (∀ (w : Fin 32), (16 ≤ (s.chip.uncovered w.val).length ∨ (s.chip.uncovered w.val ≠ [] ∧ s.chip.due (look 0 s.chip.brg.lastPosted w.val
      + 2000) = true)) → Runs (.brgFlushTrigger w) s fun t =>
      t.chip.brg.flushes = s.chip.brg.flushes ++
        [{ win := w.val, upto := ((s.chip.brg.posted.filter (·.win == w.val)).map (·.id)).foldl max 0, since := s.chip.frc }] ∧ s.frame
        [.brg] (among []) t) ∧
    (∀ (w : Fin 32) (f : BrgFlush) (p : BrgReq), s.chip.brg.flushes = [f] ∧ f.win = w.val → s.chip.brg.posted = [p] ∧ p.win = w.val ∧ p.id
      ≤ f.upto ∧ p.flushed = false → s.chip.brg.hlogs = [] ∧ s.chip.brg.out = [] ∧ s.chip.brg.queue = [] ∧ s.chip.brg.fences = [] → Runs
      (.brgFlushComplete w .success) s fun t =>
      t.chip.brg.posted = [] ∧ t.chip.brg.flushes = [] ∧ t.chip.brg.elog = s.chip.brg.elog ∧ s.frame [.brg] (among []) t) ∧
    (∀ (w : Fin 32) (f : BrgFlush) (p : BrgReq), s.chip.brg.flushes = [f] ∧ f.win = w.val ∧ s.chip.due (f.since + s.chip.get BRG_LIM_CTO *
      1000) = true → s.chip.brg.posted = [p] ∧ p.win = w.val ∧ p.id ≤ f.upto ∧ p.flushed = false → s.chip.brg.hlogs = [] ∧ s.chip.brg.out
      = [] ∧ s.chip.brg.queue = [] ∧ s.chip.brg.fences = [] → s.chip.brg.elog.length < 32 → Runs (.brgCompletionTimeout w) s fun t =>
      t.chip.brg.posted = [] ∧ t.chip.brg.elog.length = s.chip.brg.elog.length + 1 ∧ look (0, 0) t.chip.brg.fails p.key = (min ((look (0,
        0) s.chip.brg.fails p.key).1 + 1) 65535, if (look (0, 0) s.chip.brg.fails p.key).1 = 0 then 3 else (look (0, 0) s.chip.brg.fails
        p.key).2) ∧ t.chip.pends 641 = true) ∧
    (∀ (farId : BitVec 16), s.chip.brgRoot = true → Runs (.brgErrorMessage farId) s fun t =>
      t.chip.brg.hlogs = s.chip.brg.hlogs ++ [s.chip.brg.next] ∧ t.chip.brg.next = s.chip.brg.next + 1 ∧ s.frame [.brg] (among []) t) ∧
    (∀ (farId : BitVec 16), s.chip.brgRoot = false → Runs (.brgErrorMessage farId) s fun t =>
      t.chip = s.chip) ∧
    (∀ (addr : W64) (ca : Bool) (h : Nat), s.chip.brg.hlogs = [h] → s.chip.brg.out = [] ∧ s.chip.brg.queue = [] ∧ s.chip.brg.posted = [] ∧
      s.chip.brg.fences = [] → s.chip.brg.elog.length < 32 → Runs (.brgHeaderLogDone addr ca) s fun t =>
      t.chip.brg.hlogs = [] ∧ t.chip.brg.elog.length = s.chip.brg.elog.length + 1 ∧ t.chip.pends 641 = true) ∧
    (∀ (l : BrgLock), s.chip.brg.lock = some l ∧ s.chip.due l.expiry = true → s.chip.clm.running = none → s.chip.brg.queue = [] → Runs
      (.brgLockExpiry) s fun t =>
      t.chip.brg.lock = none ∧ t.chip.flag BRG_STAT_LOCKED = false ∧ t.chip.pends 646 = true ∧ t.chip.brg.out = s.chip.brg.out) ∧
    (∀ (farId : BitVec 16) (addr : W64) (size : Fin 513), s.chip.brgOff = false ∧ s.chip.flag BRG_STAT_LINK = true → s.chip.brgHeld
      farId.toNat = false → s.chip.inWindow addr.toNat size.val = none → Runs (.brgInboundRequest farId addr size none false) s fun t =>
      t.chip.brg.answered = some (1, []) ∧ t.chip.pends 647 = true ∧ t.mem = s.mem) ∧
    (∀ (farId : BitVec 16) (addr : W64) (size : Fin 513) (data : Option (List Byte)), (s.chip.brgOff = true ∨ s.chip.flag BRG_STAT_LINK =
      false ∨ s.chip.brgHeld farId.toNat = true) → Runs (.brgInboundRequest farId addr size data false) s fun t =>
      t = s) ∧
    (∀ (farId : BitVec 16) (addr : W64) (size : Fin 513) (bs : List Byte) (j : Nat), s.chip.brgOff = false ∧ s.chip.flag BRG_STAT_LINK =
      true → s.chip.brgHeld farId.toNat = false → s.chip.inWindow addr.toNat size.val = some j → (s.chip.gateOpen 13 = false ∨
      s.chip.midIsolated 13 = true) → Runs (.brgInboundRequest farId addr size (some bs) false) s fun t =>
      t.chip.pends 647 = true ∧ t.mem = s.mem) ∧
    (∀ (farId : BitVec 16) (addr : W64) (size : Fin 513) (data : Option (List Byte)) (j : Nat), s.chip.brgOff = false ∧ s.chip.flag
      BRG_STAT_LINK = true → s.chip.brgHeld farId.toNat = false → s.chip.inWindow addr.toNat size.val = some j → Runs (.brgInboundRequest
      farId addr size data true) s fun t =>
      t.chip.pends 649 = true ∧ t.mem = s.mem ∧ (data = none → t.chip.brg.answered = some (4, [])))

/-! ### Update -/

/-- An enabled agent checks a manifest and enters STAGING with EV0800, or refuses it with EV0801 (R512); a segment with a wrong hash is
  discarded and counted with EV0802 (R513). A failed relay is tried again 1 s later, the eighth failure stops it with EV0804 (R515). W1
  confirms a TRIAL with EV0809 (R524), discards a staged package, and is refused with NOT_NOW and EV0812 where the journal does not allow
  it (R527); another world is denied. TCONF without a confirmation rolls back with EV0810 (R525). The relay sends the manifest, then the
  lowest segment held here and missing there (R514); an uncorrectable one leaves the bitmap with EV0813 (R528). -/
def Obligations.UpdatePackages : Prop :=
  ∀ (s : State),
    (∀ (bytes : List Byte), s.chip.zoneUp = true → s.chip.flag UPD_CTL_EN = true → s.chip.jstate = jIDLE → mfSegs bytes ≠ 0 → Runs
      (.updManifest bytes) s fun t =>
      t.chip.jstate = (if s.chip.manifestCheck bytes = stOK then jSTAGING else jIDLE) ∧ t.chip.update.manifest = (if s.chip.manifestCheck
        bytes = stOK then bytes else s.chip.update.manifest) ∧ t.chip.update.bitmap = (if s.chip.manifestCheck bytes = stOK then 0 else
        s.chip.update.bitmap) ∧ t.chip.pends (if s.chip.manifestCheck bytes = stOK then 800 else 801) = true ∧ t.mem = s.mem) ∧
    (∀ (bytes : List Byte), s.chip.zoneUp = true → s.chip.flag UPD_CTL_EN = true → 3 ≤ s.chip.jstate → Runs (.updManifest bytes) s fun t =>
      t.chip.pends 801 = true ∧ t.chip.update = s.chip.update ∧ t.chip.jstate = s.chip.jstate ∧ s.frame [.core] eventAddr t) ∧
    (∀ (bytes : List Byte), s.chip.flag UPD_CTL_EN = false → Runs (.updManifest bytes) s fun t =>
      t = s) ∧
    (∀ (i : Fin 1536) (bytes : List Byte), s.chip.zoneUp = true → (s.chip.flag UPD_CTL_EN = false ∨ s.chip.jstate ≠ jSTAGING ∨ segmentPlace
      s.chip.update.manifest i.val = none) → Runs (.updSegment i bytes) s fun t =>
      t = s) ∧
    (∀ (i : Fin 1536) (bytes : List Byte) (x : Component) (o : Nat) (good : Bool), s.chip.zoneUp = true → s.chip.flag UPD_CTL_EN = true ∧
      s.chip.jstate = jSTAGING → segmentPlace s.chip.update.manifest i.val = some (x, o) → bytes.length = segmentLength
      s.chip.update.manifest i.val → segmentGood s.chip.update.manifest i.val x o bytes = good → x.type ≠ 1 → Runs (.updSegment i bytes) s
      fun t =>
      t.mem = (if good then memWrite s.mem (s.chip.newBase x.code + o) bytes else s.mem) ∧ t.chip.update.bitmap = (if good then setBit
        s.chip.update.bitmap i.val true else s.chip.update.bitmap) ∧ t.chip.update.manifest = s.chip.update.manifest ∧ t.chip.get
        UPD_CNT_REFUSED = (if good then s.chip.get UPD_CNT_REFUSED else min (s.chip.get UPD_CNT_REFUSED + 1) 65535) ∧ (good = false →
        t.chip.pends 802 = true)) ∧
    (∀ (k : Fin 8) (bitmap : BitVec 1536) (st : Byte), s.chip.zoneUp = true → (s.chip.flag UPD_CTL_RELAYEN = false ∨ s.chip.flag
      (UPD_CHAIN_EN k.val) = false ∨ (s.chip.relay k.val).stopped = true ∨ s.chip.jstate < jSTAGING) → Runs (.updRelay k bitmap st false)
      s fun t =>
      t = s) ∧
    (∀ (k : Fin 8) (bitmap : BitVec 1536) (st : Byte) (e : Option (Nat × Nat)) (n : Nat), s.chip.zoneUp = true → s.chip.flag
      UPD_CTL_RELAYEN = true ∧ s.chip.flag (UPD_CHAIN_EN k.val) = true ∧ jSTAGING ≤ s.chip.jstate → (s.chip.relay k.val).refused = false ∧
      (s.chip.relay k.val).stopped = false ∧ (s.chip.relay k.val).retryAt = none → s.chip.keyCheck (s.chip.get (UPD_CHAIN_KSLOT k.val)) 17
      1 [1, 2] (some useDERIVE) none = e ∧ e ≠ none → (s.chip.relay k.val).fails = n ∧ n < 7 → Runs (.updRelay k bitmap st false) s fun t
      =>
      (t.chip.relay k.val).fails = n + 1 ∧ (t.chip.relay k.val).retryAt = some (s.chip.frc + 1000000000) ∧ t.chip.get (UPD_CHST_FAILED
        k.val) = n + 1 ∧ t.mem = s.mem) ∧
    (∀ (k : Fin 8), s.chip.zoneUp = true → s.chip.dueAt (s.chip.relay k.val).retryAt = true → Runs (.updRelayRetry k) s fun t =>
      t.chip.relay k.val = { s.chip.relay k.val with retryAt := none } ∧ s.frame [.update] (among []) t) ∧
    (∀ (k : Fin 8) (bitmap : BitVec 1536) (st : Byte) (i : Nat), s.chip.zoneUp = true → s.chip.flag UPD_CTL_RELAYEN = true ∧ s.chip.flag
      (UPD_CHAIN_EN k.val) = true ∧ jSTAGING ≤ s.chip.jstate → (s.chip.relay k.val).refused = false ∧ (s.chip.relay k.val).stopped = false
      ∧ (s.chip.relay k.val).retryAt = none → s.chip.keyCheck (s.chip.get (UPD_CHAIN_KSLOT k.val)) 17 1 [1, 2] (some useDERIVE) none =
      none → (s.chip.relay k.val).manifest = true → (((List.range (mfSegs s.chip.update.manifest)).find? fun i => bit s.chip.update.bitmap
      i && !bit bitmap.toNat i) = some i) → Runs (.updRelay k bitmap st false) s fun t =>
      t.chip.update.sent = [(s.chip.get (UPD_CHAIN_SNI k.val), 0xC801, i * 65536, s.segmentRead i)] ∧ (st = 0 → (t.chip.relay k.val).fails
        = 0 ∧ t.chip.get (UPD_CHST_ACKED k.val) = (popCount 1536 bitmap.toNat + 1) % 2048) ∧ t.chip.update.bitmap = s.chip.update.bitmap ∧
        t.mem = s.mem) ∧
    (∀ (k : Fin 8) (bitmap : BitVec 1536) (st : Byte), s.chip.zoneUp = true → s.chip.flag UPD_CTL_RELAYEN = true ∧ s.chip.flag
      (UPD_CHAIN_EN k.val) = true ∧ jSTAGING ≤ s.chip.jstate → (s.chip.relay k.val).refused = false ∧ (s.chip.relay k.val).stopped = false
      ∧ (s.chip.relay k.val).retryAt = none → s.chip.keyCheck (s.chip.get (UPD_CHAIN_KSLOT k.val)) 17 1 [1, 2] (some useDERIVE) none =
      none → (s.chip.relay k.val).manifest = false → Runs (.updRelay k bitmap st false) s fun t =>
      t.chip.update.sent = [(s.chip.get (UPD_CHAIN_SNI k.val), 0xC800, 0, s.chip.update.manifest)] ∧ (t.chip.relay k.val).manifest =
        decide (st = 0) ∧ (t.chip.relay k.val).refused = decide (st ≠ 0) ∧ t.chip.get (UPD_CHST_STATUS k.val) = st.toNat ∧ t.mem = s.mem) ∧
    (∀ (k : Fin 8) (bitmap : BitVec 1536) (st : Byte) (i : Nat), s.chip.zoneUp = true → s.chip.flag UPD_CTL_RELAYEN = true ∧ s.chip.flag
      (UPD_CHAIN_EN k.val) = true ∧ jSTAGING ≤ s.chip.jstate → (s.chip.relay k.val).refused = false ∧ (s.chip.relay k.val).stopped = false
      ∧ (s.chip.relay k.val).retryAt = none → s.chip.keyCheck (s.chip.get (UPD_CHAIN_KSLOT k.val)) 17 1 [1, 2] (some useDERIVE) none =
      none → (s.chip.relay k.val).manifest = true → (((List.range (mfSegs s.chip.update.manifest)).find? fun i => bit s.chip.update.bitmap
      i && !bit bitmap.toNat i) = some i) → Runs (.updRelay k bitmap st true) s fun t =>
      t.chip.update.bitmap = setBit s.chip.update.bitmap i false ∧ t.chip.pends 813 = true ∧ t.chip.update.sent = s.chip.update.sent ∧
        t.mem = s.mem) ∧
    (∀ (a : Agent) (v : W32), s.chip.admits a = true → s.chip.worldOfAgent a = 1 → bits v.toNat 2 0 = 2 → s.chip.jstate = jTRIAL → Runs
      (.updConfirm a v) s fun t =>
      t.chip.jstate = jIDLE ∧ t.chip.get UPD_CMDRES_STATUS = stOK ∧ t.chip.pends 809 = true ∧ t.chip.update = s.chip.update ∧ t.mem =
        s.mem) ∧
    (∀ (a : Agent) (v : W32), s.chip.admits a = true → s.chip.worldOfAgent a = 1 → bits v.toNat 2 0 = 2 → s.chip.jstate ≠ jTRIAL → Runs
      (.updConfirm a v) s fun t =>
      t.chip.jstate = s.chip.jstate ∧ t.chip.get UPD_CMDRES_STATUS = stNOT_NOW ∧ t.chip.get UPD_STAT_LASTERR = stNOT_NOW ∧ t.chip.pends
        812 = true ∧ t.mem = s.mem) ∧
    (∀ (a : Agent) (v : W32), s.chip.admits a = true → s.chip.worldOfAgent a = 1 → bits v.toNat 2 0 = 3 → (s.chip.jstate = jSTAGING ∨
      s.chip.jstate = jSTAGED) → Runs (.updDiscard a v) s fun t =>
      t.chip.jstate = jIDLE ∧ t.chip.update.bitmap = 0 ∧ t.chip.update.relays = [] ∧ t.chip.get UPD_STAT_SEGOK = 0 ∧ t.chip.get
        UPD_CMDRES_STATUS = stOK) ∧
    (∀ (a : Agent) (v : W32), s.chip.admits a = true → s.chip.worldOfAgent a ≠ 1 → Runs (.updDiscard a v) s fun t =>
      t.chip.get UPD_STAT_LASTERR = stDENIED_WORLD ∧ t.chip.pends 812 = true ∧ t.chip.update = s.chip.update) ∧
    (∀ (a : Agent) (v : W32), s.chip.admits a = true → s.chip.worldOfAgent a = 1 → bits v.toNat 2 0 = 4 → s.chip.jstate = jTRIAL →
      s.chip.update.installed = [] → s.chip.pmu.power = .run ∧ s.chip.rst.episode = none ∧ s.chip.rst.releasing = none → Runs
      (.updRollback a v) s fun t =>
      t.chip.jstate = jIDLE ∧ t.chip.update.versions = s.chip.update.oldVersions ∧ t.chip.update.package = s.chip.update.oldPackage ∧
        .update ∈ t.chip.rst.sources ∧ t.chip.rst.episode = some 2) ∧
    (∀ (a : Agent) (v : W32), s.chip.admits a = true → s.chip.worldOfAgent a = 1 → bits v.toNat 2 0 = 4 → s.chip.jstate ≠ jTRIAL → Runs
      (.updRollback a v) s fun t =>
      t.chip.get UPD_CMDRES_STATUS = stNOT_NOW ∧ t.chip.rst = s.chip.rst ∧ t.mem = s.mem) ∧
    (s.chip.zoneUp = true → s.chip.jstate = jTRIAL → s.chip.due (s.chip.update.trialAt + s.chip.get UPD_CFG_TCONF * 1000000000) = true →
      s.chip.update.installed = [] → s.chip.pmu.power = .run ∧ s.chip.rst.episode = none ∧ s.chip.rst.releasing = none → Runs
      (.updConfirmTimeout) s fun t =>
      t.chip.jstate = jIDLE ∧ .update ∈ t.chip.rst.sources ∧ t.chip.update.announce = true) ∧
    (∀ (a : Agent) (v : W32), s.chip.admits a = true → s.chip.worldOfAgent a = 1 → bits v.toNat 2 1 = 2 → Runs (.updClrcnt a v) s fun t =>
      t.chip.rdN UPD_CNT = 0 ∧ t.chip.flag UPD_CTL_EN = bit v.toNat 0 ∧ t.chip.update = s.chip.update)

/-- ACTIVATE needs a staged package and enough lead (R519). A member that is asked to prepare answers READY and is PREPARED with EV0805,
  or says why it cannot (R520). The coordinator notes the answers, cancels on NOTREADY or when the guard check fails (R520, R521), repeats
  the cancellation until it is acknowledged or T is reached, and notes DONE. A prepared member commits at T − G/2 (R522), and the
  activation instant asserts a warm reset with cause UPDATE (R523). -/
def Obligations.ActivationGroups : Prop :=
  ∀ (s : State),
    (∀ (a : Agent) (v : W32), s.chip.admits a = true → s.chip.worldOfAgent a = 1 → bits v.toNat 2 0 = 1 → s.chip.jstate ≠ jSTAGED → Runs
      (.updActivate a v) s fun t =>
      t.chip.get UPD_CMDRES_STATUS = stNOT_NOW ∧ t.chip.update = s.chip.update ∧ t.chip.pends 812 = true) ∧
    (∀ (a : Agent) (v : W32), s.chip.admits a = true → s.chip.worldOfAgent a = 1 → bits v.toNat 2 0 = 1 → s.chip.jstate = jSTAGED → 50 ≤
      s.chip.get UPD_ACTG_G → (((s.chip.get UPD_ACTG_G + 100) * 1000000 : Nat) : Int) ≤ s64 ((projection (tvUnits (s.chip.rdN UPD_ACTT)) :
      Int) - (s.chip.td0 : Int)) → s.chip.members = [] → Runs (.updActivate a v) s fun t =>
      t.chip.get UPD_CMDRES_STATUS = stOK ∧ (t.chip.flag UPD_STAT_COORD = true ∨ t.chip.pends 806 = true) ∧ t.chip.update.jt = s.chip.rd
        UPD_ACTT ∧ t.chip.update.jg = s.chip.get UPD_ACTG_G) ∧
    (∀ (from_ : BitVec 18) (m : ActMessage), s.chip.zoneUp = true → s.chip.notReady m.package.toNat = none → s.chip.flag UPD_STAT_COORD =
      false → Runs (.actPrepare from_ m) s fun t =>
      t.chip.jstate = jPREPARED ∧ t.chip.update.jt = m.t ∧ t.chip.update.jg = m.g.toNat ∧ t.chip.update.coordinator = from_.toNat ∧
        t.chip.update.index = m.member.val ∧ t.chip.update.cancelled = false ∧ t.chip.pends 805 = true ∧ (t.chip.update.sent.map (fun x =>
        (x.1, x.2.1)) = [(from_.toNat, 0xC810)])) ∧
    (∀ (from_ : BitVec 18) (m : ActMessage) (e : Nat), s.chip.zoneUp = true → s.chip.notReady m.package.toNat = some e → s.chip.flag
      UPD_STAT_COORD = false → Runs (.actPrepare from_ m) s fun t =>
      t.chip.jstate = s.chip.jstate ∧ (t.chip.update.sent.map (fun x => (x.1, x.2.1)) = [(from_.toNat, 0xC810)]) ∧ t.chip.update.jg =
        s.chip.update.jg) ∧
    (∀ (m : ActMessage), s.chip.zoneUp = true → s.chip.flag UPD_STAT_COORD = true ∧ s.chip.update.cancelling = false → s.chip.flag
      (UPD_GRP_VALID m.member.val) = true → Runs (.actReady m) s fun t =>
      t.chip.gstat m.member.val = 2 ∧ look none t.chip.update.reported m.member.val = some m.staged.toNat ∧ t.chip.jstate = s.chip.jstate
        ∧ s.frame [.update] (among [UPD_GSTAT.addr]) t) ∧
    (∀ (m : ActMessage), s.chip.zoneUp = true → s.chip.flag UPD_STAT_COORD = true ∧ s.chip.update.cancelling = false → s.chip.flag
      (UPD_GRP_VALID m.member.val) = true → s.chip.update.guarded = true → Runs (.actNotready m) s fun t =>
      t.chip.gstat m.member.val = 3 ∧ t.chip.jstate = s.chip.jstate) ∧
    (∀ (m : ActMessage), s.chip.zoneUp = true → s.chip.flag UPD_STAT_COORD = true ∧ s.chip.update.cancelling = false → s.chip.flag
      (UPD_GRP_VALID m.member.val) = true → s.chip.update.guarded = false → Runs (.actNotready m) s fun t =>
      t.chip.pends 806 = true ∧ t.chip.get UPD_CNT_CANCELS = min (s.chip.get UPD_CNT_CANCELS + 1) 255 ∧ (s.chip.jstate = jPREPARED →
        t.chip.jstate = jSTAGED)) ∧
    (∀ (m : ActMessage), s.chip.zoneUp = true → s.chip.jstate = jPREPARED → Runs (.actCancel m) s fun t =>
      t.chip.jstate = jSTAGED ∧ t.chip.update.cancelled = true ∧ t.chip.pends 806 = true ∧ (t.chip.update.sent.map (fun x => (x.1, x.2.1))
        = [(s.chip.update.coordinator, 0xC810)])) ∧
    (∀ (m : ActMessage), s.chip.zoneUp = true → (s.chip.jstate = jINSTALLING ∨ s.chip.jstate = jTRIAL) → Runs (.actCancel m) s fun t =>
      t.chip.jstate = s.chip.jstate ∧ t.chip.update.cancelled = s.chip.update.cancelled ∧ t.chip.update.sent =
        [(s.chip.update.coordinator, 0xC810, 0, actBytes 5 ((s.chip.actFresh).actMessage m.member.val stNOT_NOW 0))]) ∧
    (∀ (m : ActMessage), s.chip.zoneUp = true → s.chip.gstat m.member.val = 4 → m.status.toNat ≠ stNOT_NOW → Runs (.actCancelack m) s fun t
      =>
      t.chip.gstat m.member.val = 5 ∧ t.chip.jstate = s.chip.jstate ∧ t.chip.flag UPD_STAT_SPLIT = s.chip.flag UPD_STAT_SPLIT) ∧
    (∀ (m : ActMessage), s.chip.zoneUp = true → s.chip.gstat m.member.val = 4 → m.status.toNat = stNOT_NOW → Runs (.actCancelack m) s fun t
      =>
      t.chip.gstat m.member.val = 7 ∧ t.chip.flag UPD_STAT_SPLIT = true ∧ t.chip.pends 811 = true) ∧
    (∀ (m : ActMessage), s.chip.zoneUp = true → s.chip.flag (UPD_GRP_VALID m.member.val) = true ∧ s.chip.gstat m.member.val ≠ 0 →
      m.active.toNat ≠ mfVersion s.chip.update.manifest → Runs (.actDone m) s fun t =>
      t.chip.gstat m.member.val = 6 ∧ t.chip.flag UPD_STAT_SPLIT = true ∧ t.chip.pends 811 = true) ∧
    (s.chip.zoneUp = true → s.chip.flag UPD_STAT_COORD = true ∧ s.chip.update.guarded = false ∧ s.chip.update.cancelling = false →
      s.chip.beforeT (2 * s.chip.update.jg) = true → (s.chip.peersHold = true ∧ s.chip.members.all (fun i => s.chip.gstat i == 2) = true)
      → Runs (.updGuardCheck) s fun t =>
      t.chip.update.guarded = true ∧ t.chip.update.sent = [] ∧ s.frame [.update] (among []) t) ∧
    (s.chip.zoneUp = true → s.chip.flag UPD_STAT_COORD = true ∧ s.chip.update.guarded = false ∧ s.chip.update.cancelling = false →
      s.chip.beforeT (2 * s.chip.update.jg) = true → (s.chip.members.all (fun i => s.chip.gstat i == 2) = false) → Runs (.updGuardCheck) s
      fun t =>
      t.chip.pends 806 = true ∧ t.chip.get UPD_CNT_CANCELS = min (s.chip.get UPD_CNT_CANCELS + 1) 255) ∧
    (s.chip.zoneUp = true → s.chip.update.cancelling = true ∧ s.chip.due s.chip.update.cancelNext = true → s.chip.beforeT 0 = true → Runs
      (.updCancelRepeat) s fun t =>
      t.chip.flag UPD_STAT_COORD = false ∧ t.chip.update.cancelling = false ∧ t.chip.update.sent = []) ∧
    (∀ (a : Agent) (v : W32), s.chip.admits a = true → s.chip.worldOfAgent a = 1 → bits v.toNat 2 0 = 5 → s.chip.flag UPD_STAT_COORD = true
      ∧ s.chip.update.guarded = false ∧ s.chip.update.cancelling = false → Runs (.updCmdCancel a v) s fun t =>
      t.chip.get UPD_CMDRES_STATUS = stOK ∧ t.chip.pends 806 = true ∧ (s.chip.jstate = jPREPARED → t.chip.jstate = jSTAGED)) ∧
    (s.chip.zoneUp = true → (s.chip.jstate ≠ jPREPARED ∨ s.chip.beforeT s.chip.update.jg = false ∨ s.chip.update.cancelled = true) → Runs
      (.updCommit) s fun t =>
      t = s) ∧
    (s.chip.zoneUp = true → s.chip.jstate = jPREPARED ∧ s.chip.beforeT s.chip.update.jg = true ∧ s.chip.update.cancelled = false →
      s.chip.installOrder s.chip.update.manifest = some [] → Runs (.updCommit) s fun t =>
      t.chip.jstate = jINSTALLING ∧ t.chip.pends 807 = true ∧ t.chip.update.oldVersions = s.chip.update.versions ∧
        t.chip.update.oldPackage = s.chip.update.package ∧ t.chip.update.installed = [] ∧ t.chip.update.package = mfVersion
        s.chip.update.manifest ∧ t.mem = s.mem) ∧
    (∀ (u : Nat), s.chip.zoneUp = true → s.chip.activationTick = some u → s.chip.jstate = jINSTALLING ∧ s.chip.due u = true →
      s.chip.pmu.power = .run ∧ s.chip.rst.episode = none ∧ s.chip.rst.releasing = none → Runs (.updActivationInstant) s fun t =>
      t.chip.jstate = jTRIAL ∧ t.chip.update.trialAt = u ∧ t.chip.rst.episode = some 2 ∧ .update ∈ t.chip.rst.sources ∧ bit (t.chip.rdN
        RST_CAUSE) 15 = true)

/-! ### Claims, locks and revocation -/

/-- A wait past its class's limit is recorded with EV0840 + k (R536); a read of the conflict log takes the oldest record (R541). A free
  lock is granted to its reader, renewed for its holder, BUSY for anyone else, freed by its holder's write or by expiry with EV0835
  (R543). W2 revokes what is held: the holder's gate closes until it has drained (R544); with nothing held the answer is NO_OBJECT, and
  anyone else is denied with EV0832 (R547). A drained holder's lease is freed with EV0836, a drain past its limit is cut with EV0837
  (R544). W2 reopens gates. -/
def Obligations.LocksRevocationAndIsolation : Prop :=
  ∀ (s : State),
    (∀ (k : Fin 5) (unit : Byte) (a : Agent) (us : Nat), s.chip.zoneUp = true → s.chip.get (CLM_CWLIM_US k.val) ≠ 0 ∧ s.chip.get
      (CLM_CWLIM_US k.val) < us ∧ us < 2 ^ 27 → a.vf = none → Runs (.creditWaitLimit k unit a us none) s fun t =>
      t.chip.rdN CLM_CWREC = us * 2 ^ 101 + unit.toNat * 2 ^ 80 + a.mid.val * 2 ^ 67 + k.val * 2 ^ 64 + s.chip.frc % 2 ^ 64 ∧ t.chip.get
        CLM_CNT_CWREC = min (s.chip.get CLM_CNT_CWREC + 1) 255 ∧ t.chip.pends (840 + k.val) = true ∧ t.chip.clm = s.chip.clm ∧ s.frame
        [.core] (amongEv [CLM_CWREC.addr, CLM_CNT.addr]) t) ∧
    (∀ (k : Fin 5) (unit : Byte) (a : Agent) (us : Nat) (lease : Option (Fin 4 × Fin 1024)), (s.chip.get (CLM_CWLIM_US k.val) = 0 ∨ us ≤
      s.chip.get (CLM_CWLIM_US k.val)) → Runs (.creditWaitLimit k unit a us lease) s fun t =>
      t = s) ∧
    (∀ (a : Agent), s.chip.admits a = true → Runs (.clmConfRead a) s fun t =>
      t.chip.clm = { s.chip.clm with conflicts := s.chip.clm.conflicts.drop 1 } ∧ (look {} t.chip.fab.resp (s.chip.who a).key).data =
        (s.chip.clm.conflicts.headD 0).toNat % 2 ^ 32 ∧ s.frame [.clm, .fab] (among [CLM_STAT.addr]) t) ∧
    (∀ (a : Agent) (i : Fin 64), s.chip.admits a = true → look none s.chip.clm.locks i.val = none → Runs (.clmLockAcquire a i) s fun t =>
      look none t.chip.clm.locks i.val = some
        { key := (s.chip.who a).key, mid := a.mid.val, vf := a.vf.map (·.val), world := s.chip.worldOfAgent a, expiry := s.chip.frc + s.chip.get (CLM_LOCK_CFG_US i.val) * 1000 }
        ∧ bit (look {} t.chip.fab.resp (s.chip.who a).key).data 31 = true ∧ bit (t.chip.rdN (CLM_LOCK_OWN i.val)) 31 = true ∧ s.frame
        [.clm, .fab] (among [(CLM_LOCK_OWN i.val).addr]) t) ∧
    (∀ (a : Agent) (i : Fin 64) (h : LockHold), s.chip.admits a = true → look none s.chip.clm.locks i.val = some h → (h.key ≠ (s.chip.who
      a).key ∨ h.world ≠ s.chip.worldOfAgent a) → (h.mid < 32 ∧ (∀ v ∈ h.vf, v < 64)) → Runs (.clmLockAcquire a i) s fun t =>
      t.chip.clm = s.chip.clm ∧ bit (look {} t.chip.fab.resp (s.chip.who a).key).data 31 = false ∧ bits (look {} t.chip.fab.resp
        (s.chip.who a).key).data 23 16 = stBUSY ∧ bits (look {} t.chip.fab.resp (s.chip.who a).key).data 14 9 = h.mid ∧ s.frame [.fab]
        (among []) t) ∧
    (∀ (a : Agent) (i : Fin 64) (h : LockHold), s.chip.admits a = true → look none s.chip.clm.locks i.val = some h → h.key = (s.chip.who
      a).key ∧ h.world = s.chip.worldOfAgent a → Runs (.clmLockRelease a i) s fun t =>
      look none t.chip.clm.locks i.val = none ∧ t.chip.rdN (CLM_LOCK_OWN i.val) = 0 ∧ s.frame [.clm] (among [(CLM_LOCK_OWN i.val).addr]) t) ∧
    (∀ (a : Agent) (i : Fin 64), s.chip.admits a = true → (∀ h : LockHold, look none s.chip.clm.locks i.val = some h → h.key ≠ (s.chip.who
      a).key) → Runs (.clmLockRelease a i) s fun t =>
      t.chip.clm = s.chip.clm ∧ t.chip.pends 838 = true) ∧
    (∀ (i : Fin 64) (h : LockHold), s.chip.zoneUp = true → look none s.chip.clm.locks i.val = some h ∧ s.chip.due h.expiry = true →
      s.chip.clm.running = none → Runs (.clmLockExpiry i) s fun t =>
      look none t.chip.clm.locks i.val = none ∧ t.chip.pends 835 = true ∧ s.frame [.clm, .core] (amongEv [(CLM_LOCK_OWN i.val).addr]) t) ∧
    (∀ (a : Agent) (v : W32), s.chip.admits a = true → s.chip.worldOfAgent a ≠ 2 → Runs (.clmRevoke a v) s fun t =>
      t.chip.get CLM_STAT_LASTERR = stDENIED_WORLD ∧ t.chip.pends 832 = true ∧ t.chip.clm = s.chip.clm) ∧
    (∀ (a : Agent) (v : W32) (l : LeaseRef) (h : LeaseHolder), s.chip.admits a = true → s.chip.worldOfAgent a = 2 → bits v.toNat 31 30 = 0
      → s.chip.clm.running = none ∧ s.chip.clm.todo = [] ∧ s.chip.clm.queue = [] ∧ s.chip.clm.pendingRev = [] → l =
      { kind := bits v.toNat 29 28, index := bits v.toNat 9 0 } → s.chip.leaseHolder l = some h → h.real = true → Runs (.clmRevoke a v) s
      fun t =>
      t.chip.clm.running = some (l, h) ∧ t.chip.clm.runStart = s.chip.frc ∧ t.chip.gateShut h = true ∧ t.chip.get CLM_REVRES_STATUS = stOK
        ∧ t.chip.flag CLM_STAT_REVRUN = true) ∧
    (∀ (a : Agent) (v : W32), s.chip.admits a = true → s.chip.worldOfAgent a = 2 → bits v.toNat 31 30 ≠ 3 → s.chip.clm.running = none ∧
      s.chip.clm.todo = [] ∧ s.chip.clm.queue = [] ∧ s.chip.clm.pendingRev = [] → s.chip.revokeTargets v.toNat = [] → Runs (.clmRevoke a
      v) s fun t =>
      t.chip.get CLM_REVRES_STATUS = stNO_OBJECT ∧ t.chip.clm = s.chip.clm ∧ s.frame [] (among [CLM_REVRES.addr]) t) ∧
    (∀ (l : LeaseRef) (h : LeaseHolder), s.chip.zoneUp = true → s.chip.clm.running = some (l, h) ∧ l.kind = 0 → (s.chip.outstanding h = []
      ∨ s.chip.clm.drainOver = true) → s.chip.clm.todo = [] ∧ s.chip.clm.queue = [] ∧ s.chip.clm.pendingRev = [] → l.index < 64 → Runs
      (.revocationDone) s fun t =>
      look none t.chip.clm.locks l.index = none ∧ t.chip.clm.running = none ∧ t.chip.get CLM_REVRES_STATUS = stOK ∧ t.chip.get
        CLM_CNT_REVOKES = min (s.chip.get CLM_CNT_REVOKES + 1) 255 ∧ t.chip.pends 836 = true) ∧
    (s.chip.clm.running = none → Runs (.revocationDone) s fun t =>
      t = s) ∧
    (∀ (l : LeaseRef) (h : LeaseHolder), s.chip.zoneUp = true → s.chip.clm.running = some (l, h) → s.chip.outstanding h ≠ [] ∧
      s.chip.clm.drainOver = false → s.chip.due (s.chip.clm.runStart + s.chip.get CLM_DRAINLIM_US * 1000) = true → Runs (.clmDrainLimit) s
      fun t =>
      t.chip.outstanding h = [] ∧ t.chip.clm.drainOver = true ∧ t.chip.flag CLM_STAT_DRAINOVR = true ∧ t.chip.pends 837 = true) ∧
    (∀ (a : Agent) (v : W32) (h : LeaseHolder), s.chip.admits a = true → s.chip.worldOfAgent a = 2 → h = (if bit v.toNat 31 then .vf (bits
      v.toNat 5 0) else .mid (bits v.toNat 5 0)) → s.chip.gateShut h = true → Runs (.clmIsoclr a v) s fun t =>
      t.chip.gateShut h = false ∧ t.chip.pends 845 = true) ∧
    (∀ (a : Agent) (v : W32), s.chip.admits a = true → s.chip.worldOfAgent a = 2 → bit v.toNat 0 = true → Runs (.clmClrcnt a v) s fun t =>
      t.chip.rdN CLM_CNT = 0 ∧ t.chip.clm = s.chip.clm ∧ s.frame [] (among [CLM_CNT.addr]) t)

/-! ### Fabric accesses -/

/-- An access that the firewall admits reads, writes or updates memory and is answered (R26, R28); one that it denies gets an error
  response and EV0496, and an uncorrectable error one with EV0498 (R24); code cannot be fetched from registers (R317). A fence is complete
  at once where nothing is unanswered (R22). A doorbell advances the ring's producer index (R207). An inbound request of the far bus
  reaches the memory through its window (R366), and an abstract command that of a halted hart (R468). -/
def Obligations.FabricAccesses : Prop :=
  ∀ (s : State),
    (∀ (a : Agent) (addr : BitVec 40) (size : Fin 65), s.chip.admits a = true → regionOf addr.toNat = .dram → s.chip.fwPermits (s.chip.who
      a).tag addr.toNat size.val .read = true → Runs (.fabricAccess a .read addr size false) s fun t =>
      look {} t.chip.fab.resp (s.chip.who a).key = { err := false, data := leNat (memRead s.mem addr.toNat size.val) } ∧ t.mem = s.mem ∧
        s.frame [.fab] (among []) t) ∧
    (∀ (a : Agent) (addr : BitVec 40) (size : Fin 65) (bs : List Byte), s.chip.admits a = true → regionOf addr.toNat = .dram →
      s.chip.fwPermits (s.chip.who a).tag addr.toNat size.val .write = true → Runs (.fabricAccess a (.write bs) addr size false) s fun t
      =>
      (∀ i : Fin 65, i.val < bs.length → memByte t.mem (addr.toNat + i.val) = bs.getD i.val 0) ∧ look {} t.chip.fab.resp (s.chip.who
        a).key = { err := false, data := 0 } ∧ t.chip.regs = s.chip.regs) ∧
    (∀ (a : Agent) (op : AmoOp) (x : W64) (addr : BitVec 40) (size : Fin 65), s.chip.admits a = true → regionOf addr.toNat = .dram →
      s.chip.fwPermits (s.chip.who a).tag addr.toNat size.val .amo = true → Runs (.fabricAccess a (.amo op x) addr size false) s fun t =>
      t.mem = memWrite s.mem addr.toNat (leBytesOf size.val (amoResult op size.val (leNat (memRead s.mem addr.toNat size.val)) x.toNat)) ∧
        look {} t.chip.fab.resp (s.chip.who a).key = { err := false, data := leNat (memRead s.mem addr.toNat size.val) }) ∧
    (∀ (a : Agent) (o : FabricOp) (addr : BitVec 40) (size : Fin 65) (ecc : Bool), s.chip.admits a = true → regionOf addr.toNat ≠ .bridge →
      s.chip.fwPermits (s.chip.who a).tag addr.toNat size.val (opKind o) = false → Runs (.fabricAccess a o addr size ecc) s fun t =>
      look {} t.chip.fab.resp (s.chip.who a).key = { err := true, data := 0 } ∧ t.chip.pends 496 = true ∧ t.mem = s.mem ∧ s.frame [.fab,
        .core] eventAddr t) ∧
    (∀ (a : Agent) (addr : BitVec 40) (size : Fin 65), s.chip.admits a = true → regionOf addr.toNat = .dram → s.chip.fwPermits (s.chip.who
      a).tag addr.toNat size.val .read = true → Runs (.fabricAccess a .read addr size true) s fun t =>
      look {} t.chip.fab.resp (s.chip.who a).key = { err := true, data := 0 } ∧ t.chip.pends 498 = true ∧ t.mem = s.mem) ∧
    (∀ (a : Agent) (addr : BitVec 40) (size : Fin 65) (ecc : Bool), s.chip.admits a = true → regionOf addr.toNat = .peripheral →
      s.chip.fwPermits (s.chip.who a).tag addr.toNat size.val .fetch = true → Runs (.fabricAccess a .fetch addr size ecc) s fun t =>
      look {} t.chip.fab.resp (s.chip.who a).key = { err := true, data := 0 } ∧ s.frame [.fab] (among []) t) ∧
    (∀ (a : Agent), s.chip.admits a = true → s.chip.unanswered a.mid.val = false → Runs (.fabricFence a) s fun t =>
      t.chip = s.chip) ∧
    (∀ (a : Agent), s.chip.admits a = true → s.chip.unanswered a.mid.val = true → a.mid.val ∉ s.chip.fab.fences → Runs (.fabricFence a) s
      fun t =>
      t.chip.fab.fences = s.chip.fab.fences ++ [a.mid.val] ∧ s.frame [.fab] (among []) t) ∧
    (∀ (d : Fin 148) (x : Action), s.chip.zoneUp = true → d.val < 128 → s.chip.dueAction 5 d.val = some x → 64 ≤ s.chip.pairFn (2 * d.val +
      b2n (bit x.arg 31)) → Runs (.doorbellKick (.occurrence d)) s fun t =>
      t.chip.get (if bit x.arg 30 then ESW_HQ_RXPI_I (2 * d.val + b2n (bit x.arg 31)) else ESW_HQ_TXPI_I (2 * d.val + b2n (bit x.arg 31)))
        = x.arg % 4096 ∧ t.chip.seq = (s.chip.dropAction x).seq) ∧
    (∀ (a : Agent) (q : Fin 256) (rx : Bool) (v : W32), s.chip.admits a = true → s.chip.poolWorld 0 q.val = some (s.chip.worldOfAgent a) →
      64 ≤ s.chip.pairFn q.val → Runs (.doorbellKick (.producer a q rx v)) s fun t =>
      t.chip.get (if rx then ESW_HQ_RXPI_I q.val else ESW_HQ_TXPI_I q.val) = v.toNat % 4096 ∧ t.chip.esw = s.chip.esw) ∧
    (∀ (farId : BitVec 16) (addr : W64) (size : Fin 513) (j x : Nat), s.chip.zoneUp = true → s.chip.brgOff = false ∧ s.chip.flag
      BRG_STAT_LINK = true ∧ s.chip.brgHeld farId.toNat = false → s.chip.inWindow addr.toNat size.val = some j → s.chip.gateOpen 13 = true
      ∧ s.chip.midIsolated 13 = false → s.chip.get (BRG_IW_CTL_SWAP j) = 0 ∧ 1 ≤ size.val → x = s.chip.get (BRG_IW_LOCB_A j) + (addr.toNat
      - s.chip.get (BRG_IW_FARB_A j)) → regionOf x = .dram → s.chip.fwPermits
      { mid := 13, world := s.chip.get (BRG_IW_CTL_WORLD j), vf := none } x size.val .read = true → Runs (.brgInboundRequest farId addr
      size none false) s fun t =>
      t.chip.brg.answered = some (0, memRead s.mem x size.val) ∧ t.mem = s.mem) ∧
    (∀ (k : Fin 8) (addr : BitVec 40) (size : Fin 17), s.chip.zoneUp = true → s.chip.debugReaches k.val = true ∧ look false
      s.chip.core.debugHalted k.val = true → 1 ≤ size.val → s.chip.gateOpen k.val = true ∧ s.chip.midIsolated k.val = false → regionOf
      addr.toNat = .dram → s.chip.fwPermits { mid := k.val, world := s.chip.worldOf k.val, vf := none } addr.toNat size.val .read = true →
      Runs (.debugAbstractCommand k addr size none) s fun t =>
      look {} t.chip.fab.resp (k.val * 128) = { err := false, data := leNat (memRead s.mem addr.toNat size.val) } ∧ look 0
        t.chip.core.abstracts k.val = look 0 s.chip.core.abstracts k.val + 1 ∧ t.mem = s.mem) ∧
    (∀ (k : Fin 8) (addr : BitVec 40) (size : Fin 17) (data : Option W128), (s.chip.debugReaches k.val = false ∨ look false
      s.chip.core.debugHalted k.val = false) → Runs (.debugAbstractCommand k addr size data) s fun t =>
      t = s)

/-- A write by a world that may write a register changes its writable fields, and another is turned away by the register's block (R10,
  R13). A 32-bit read of the lowest word of a 128-bit register answers it and latches all of it for the reader (R11); a write of a lower
  word is only staged for its writer, and the write of the highest word makes all four take effect (R12). -/
def Obligations.RegisterWordsAndWrites : Prop :=
  ∀ (s : State) (a : Agent) (addr : BitVec 40) (f : Found) (w : Who), s.chip.admits a = true → s.chip.placeOf (s.chip.who a) addr.toNat =
    some (.reg f 0, w) →
    (∀ (v : W128), [SES_GO 0, DDP_FWQ_CI 0, CSES_GO 0, KEY_LC, RST_SWREQ, UPD_CMD, SEAM_P_CMD 0].any f.is = false → s.chip.ownStore w f
      (v.toNat % 2 ^ f.row.width) = none → s.chip.mayWrite w f (v.toNat % 2 ^ f.row.width) = true → (f.boot = false ∨ s.chip.flag
      RST_STAT_SEALED = false) → reservedIn f.row.fields (v.toNat % 2 ^ f.row.width) = false → Runs (.registerWrite a addr v) s fun t =>
      t.chip = s.chip.wr f.reg (mergeFields f.row.fields (s.chip.rd f.reg) (v.toNat % 2 ^ f.row.width)) ∧ t.mem = s.mem) ∧
    (∀ (v : W128), [SES_GO 0, DDP_FWQ_CI 0, CSES_GO 0, KEY_LC, RST_SWREQ, UPD_CMD, SEAM_P_CMD 0].any f.is = false → s.chip.ownStore w f
      (v.toNat % 2 ^ f.row.width) = none → s.chip.mayWrite w f (v.toNat % 2 ^ f.row.width) = false → Runs (.registerWrite a addr v) s fun
      t =>
      t.chip = s.chip.denyWrite f ∧ t.mem = s.mem) ∧
    (f.row.width = 128 → s.chip.readEffect w f = none → Runs (.word128LowRead a addr) s fun t =>
      (look {} t.chip.fab.resp w.key).data = (s.chip.regValue w f).toNat % 2 ^ 32 ∧ look none t.chip.fab.latches (latchKey w.key f.addr) =
        some (s.chip.regValue w f) ∧ s.frame [.fab] (among []) t) ∧
    (∀ (k : Fin 3) (v : W32), f.row.width = 128 → Runs (.word128LowerWrite a addr k v) s fun t =>
      look {} t.chip.fab.staged (latchKey w.key f.addr) =
        { w0 := if k.val = 0 then some v else (look {} s.chip.fab.staged (latchKey w.key f.addr)).w0, w1 := if k.val = 1 then some v else (look {} s.chip.fab.staged (latchKey w.key f.addr)).w1, w2 := if k.val = 2 then some v else (look {} s.chip.fab.staged (latchKey w.key f.addr)).w2 }
        ∧ (∀ g : Fin 4096, g.val ≠ latchKey w.key f.addr → look {} t.chip.fab.staged g.val = look {} s.chip.fab.staged g.val) ∧ s.frame
        [.fab] (among []) t) ∧
    (∀ (v x0 x1 x2 : W32) (x : Nat), f.row.width = 128 → look {} s.chip.fab.staged (latchKey w.key f.addr) =
      { w0 := some x0, w1 := some x1, w2 := some x2 } → x = x0.toNat + x1.toNat * 2 ^ 32 + x2.toNat * 2 ^ 64 + v.toNat * 2 ^ 96 → [SES_GO
      0, DDP_FWQ_CI 0, CSES_GO 0, KEY_LC, RST_SWREQ, UPD_CMD, SEAM_P_CMD 0].any f.is = false →
      ({ s.chip with fab := { s.chip.fab with staged := put {} s.chip.fab.staged (latchKey w.key f.addr) {} } } : Chip).ownStore w f x =
      none → s.chip.mayWrite w f x = true → (f.boot = false ∨ s.chip.flag RST_STAT_SEALED = false) → reservedIn f.row.fields x = false →
      Runs (.word128HighWrite a addr v) s fun t =>
      t.chip.rd f.reg = mergeFields f.row.fields (s.chip.rd f.reg) x ∧ look {} t.chip.fab.staged (latchKey w.key f.addr) = {} ∧ t.mem =
        s.mem)

/-! ### Service functions -/

/-- SFE_CMD's commands take a function through R345's states, each from the states of R346's table, with NOT_NOW, RANGE, RES_CLAIMED and
  EV0577 where it refuses; QUIESCE withdraws what has not started (R352), and EV0576 or EV0578 end it (R353); RESET empties vectors, log
  and filter (R357). Traffic runs only in ACTIVE and QUIESCING (R345), translated (R349) and checked; a write is logged once per epoch
  (R354). SAVE writes the record with its length, RESTORE loads it or gives RANGE (R356). -/
def Obligations.ServiceFunctions : Prop :=
  ∀ (s : State),
    (∀ (a : Agent) (v : W32) (f : Fin 64), s.chip.admits a = true → s.chip.worldOfAgent a = 1 ∧ s.chip.flag SFE_CMD_BUSY = false → bits
      v.toNat 30 27 = 1 ∧ bits v.toNat 6 0 = f.val → s.chip.fnState f.val = 0 ∧ 1 ≤ s.chip.get (SFE_FN_CFG_WORLD f.val) ∧ s.chip.get
      (SFE_FN_CFG_WORLD f.val) ≤ 4 → s.chip.rangesOk f.val = true ∧ s.chip.poolClash f.val = none → Runs (.sfeDefine a v) s fun t =>
      t.chip.fnState f.val = 1 ∧ t.chip.get SFE_CMD_STATUS = stOK ∧ (∀ k : Fin 6, look (0, 0) t.chip.sfe.ranges (8 * f.val + k.val) =
        s.chip.wanted f.val k.val) ∧ s.frame [.sfe] (among [SFE_CMD.addr, SFE_STAT.addr, SFE_POOLFREE.addr, (SFE_FN_CFG f.val).addr]) t) ∧
    (∀ (a : Agent) (v : W32) (f : Fin 64), s.chip.admits a = true → s.chip.worldOfAgent a = 1 ∧ s.chip.flag SFE_CMD_BUSY = false → bits
      v.toNat 30 27 = 1 ∧ bits v.toNat 6 0 = f.val → s.chip.fnState f.val = 0 ∧ 1 ≤ s.chip.get (SFE_FN_CFG_WORLD f.val) ∧ s.chip.get
      (SFE_FN_CFG_WORLD f.val) ≤ 4 → s.chip.rangesOk f.val = true ∧ (s.chip.poolClash f.val).isSome = true → Runs (.sfeDefine a v) s fun t
      =>
      t.chip.fnState f.val = 0 ∧ t.chip.get SFE_CMD_STATUS = stRES_CLAIMED ∧ t.chip.pends 834 = true ∧ t.chip.pends 577 = true ∧
        t.chip.sfe = s.chip.sfe) ∧
    (∀ (a : Agent) (v : W32) (f : Fin 64), s.chip.admits a = true → s.chip.worldOfAgent a = 1 ∧ s.chip.flag SFE_CMD_BUSY = false → bits
      v.toNat 30 27 = 1 ∧ bits v.toNat 6 0 = f.val → (s.chip.fnState f.val = 0 ∧ (s.chip.get (SFE_FN_CFG_WORLD f.val) = 0 ∨ 4 < s.chip.get
      (SFE_FN_CFG_WORLD f.val) ∨ s.chip.rangesOk f.val = false)) → Runs (.sfeDefine a v) s fun t =>
      t.chip.get SFE_CMD_STATUS = stRANGE ∧ t.chip.get SFE_STAT_LASTERR = stRANGE ∧ t.chip.pends 577 = true ∧ s.frame [.core] (amongEv
        [SFE_CMD.addr, SFE_STAT.addr]) t) ∧
    (∀ (a : Agent) (v : W32) (f : Fin 64), s.chip.admits a = true → s.chip.worldOfAgent a = 1 ∧ s.chip.flag SFE_CMD_BUSY = false → bits
      v.toNat 30 27 = 2 ∧ bits v.toNat 6 0 = f.val → s.chip.fnState f.val = 1 → Runs (.sfeStart a v) s fun t =>
      t.chip.fnState f.val = 2 ∧ t.chip.get SFE_CMD_STATUS = stOK ∧ s.frame [.core] (amongEv [SFE_CMD.addr, SFE_STAT.addr,
        SFE_POOLFREE.addr, (SFE_FN_CFG f.val).addr]) t) ∧
    (∀ (a : Agent) (v : W32) (f : Fin 64), s.chip.admits a = true → s.chip.worldOfAgent a = 1 ∧ s.chip.flag SFE_CMD_BUSY = false → bits
      v.toNat 30 27 = 4 ∧ bits v.toNat 6 0 = f.val → s.chip.fnState f.val = 4 → Runs (.sfeResume a v) s fun t =>
      t.chip.fnState f.val = 2 ∧ t.chip.get SFE_CMD_STATUS = stOK ∧ (∀ i : Fin 64, s.chip.flag (VF_VEC_MASK f.val i.val) = false ∧
        s.chip.get (VF_VEC_IID f.val i.val) ≠ 0 ∧ s.chip.coreDown (s.chip.get (SFE_FN_IRQ_CORE f.val)) = false → t.chip.flag (VF_VEC_PEND
        f.val i.val) = false) ∧ s.frame [.core] (amongEv [SFE_CMD.addr, SFE_STAT.addr, SFE_POOLFREE.addr, (SFE_FN_CFG f.val).addr]) t) ∧
    (∀ (a : Agent) (v : W32) (f : Fin 64), s.chip.admits a = true → s.chip.worldOfAgent a = 1 ∧ s.chip.flag SFE_CMD_BUSY = false → bits
      v.toNat 30 27 = 3 ∧ bits v.toNat 6 0 = f.val → s.chip.fnState f.val = 2 → Runs (.quiesce a v) s fun t =>
      t.chip.fnState f.val = 3 ∧ t.chip.get SFE_CMD_STATUS = stOK ∧ look none t.chip.sfe.quiescedAt f.val = some s.chip.frc ∧ look false
        t.chip.sfe.late f.val = false ∧ (∀ o : Fin 1536, s.chip.inRange f.val 1 o.val = true → (t.chip.canObj o.val).tx ≠ .pending) ∧ (∀ j
        ∈ t.chip.key.jobs, ¬ (j.fn = f.val ∧ j.engine = none)) ∧ (s.frame [.sfe, .can, .key, .core] (fun x => amongEv [SFE_CMD.addr,
        SFE_STAT.addr, SFE_POOLFREE.addr, (SFE_FN_CFG f.val).addr] x ∨ x ∈ addrs 128 CSES_RES) t)) ∧
    (∀ (a : Agent) (v : W32) (f : Fin 64), s.chip.admits a = true → s.chip.worldOfAgent a = 1 ∧ s.chip.flag SFE_CMD_BUSY = false → bits
      v.toNat 30 27 = 3 ∧ bits v.toNat 6 0 = f.val → s.chip.fnState f.val ≠ 2 → Runs (.quiesce a v) s fun t =>
      t.chip.get SFE_CMD_STATUS = stNOT_NOW ∧ t.chip.get SFE_STAT_LASTERR = stNOT_NOW ∧ t.chip.pends 577 = true ∧ s.frame [.core] (amongEv
        [SFE_CMD.addr, SFE_STAT.addr]) t) ∧
    (∀ (f : Fin 64), s.chip.zoneUp = true → s.chip.fnState f.val = 3 ∧ s.chip.fnHold f.val = 0 → Runs (.sfeQuiesced f) s fun t =>
      t.chip.fnState f.val = 4 ∧ t.chip.pends 576 = true ∧ look none t.chip.sfe.quiescedAt f.val = none ∧ s.frame [.sfe, .core] (amongEv
        [SFE_STAT.addr, SFE_POOLFREE.addr, (SFE_FN_CFG f.val).addr]) t) ∧
    (∀ (f : Fin 64), s.chip.fnHold f.val ≠ 0 → Runs (.sfeQuiesced f) s fun t =>
      t = s) ∧
    (∀ (f : Fin 64) (at0 : Nat), s.chip.zoneUp = true → s.chip.fnState f.val = 3 ∧ look none s.chip.sfe.quiescedAt f.val = some at0 → at0 +
      s.chip.get SFE_CTL_QTO * 1000000 ≤ s.chip.frc ∧ look false s.chip.sfe.late f.val = false → Runs (.sfeQuiesceTimeout f) s fun t =>
      t.chip.fnState f.val = 3 ∧ t.chip.get SFE_CMD_STATUS = stTIMEOUT ∧ look false t.chip.sfe.late f.val = true ∧ t.chip.pends 578 = true
        ∧ s.frame [.sfe, .core] (amongEv [SFE_CMD.addr]) t) ∧
    (∀ (a : Agent) (v : W32) (f : Fin 64), s.chip.admits a = true → s.chip.worldOfAgent a = 1 ∧ s.chip.flag SFE_CMD_BUSY = false → bits
      v.toNat 30 27 = 5 ∧ bits v.toNat 6 0 = f.val → s.chip.fnState f.val = 3 ∧ look false s.chip.sfe.late f.val = true → Runs (.force a
      v) s fun t =>
      t.chip.fnState f.val = 3 ∧ t.chip.get SFE_CMD_STATUS = stOK ∧ (∀ j ∈ t.chip.key.jobs, j.fn ≠ f.val) ∧ t.chip.dictBusy f.val = false
        ∧ t.chip.sfe = s.chip.sfe) ∧
    (∀ (a : Agent) (v : W32) (f : Fin 64), s.chip.admits a = true → s.chip.worldOfAgent a = 1 ∧ s.chip.flag SFE_CMD_BUSY = false → bits
      v.toNat 30 27 = 5 ∧ bits v.toNat 6 0 = f.val → (s.chip.fnState f.val ≠ 3 ∨ look false s.chip.sfe.late f.val = false) → Runs (.force
      a v) s fun t =>
      t.chip.get SFE_CMD_STATUS = stNOT_NOW ∧ t.chip.pends 577 = true ∧ s.frame [.core] (amongEv [SFE_CMD.addr, SFE_STAT.addr]) t) ∧
    (∀ (a : Agent) (v : W32) (f : Fin 64), s.chip.admits a = true → s.chip.worldOfAgent a = 1 ∧ s.chip.flag SFE_CMD_BUSY = false → bits
      v.toNat 30 27 = 6 ∧ bits v.toNat 6 0 = f.val → (s.chip.fnState f.val = 1 ∨ s.chip.fnState f.val = 4) → Runs (.sfeReset a v) s fun t
      =>
      t.chip.fnState f.val = 1 ∧ t.chip.get SFE_CMD_STATUS = stOK ∧ (∀ i : Fin 64, t.chip.flag (VF_VEC_MASK f.val i.val) = true ∧
        t.chip.flag (VF_VEC_PEND f.val i.val) = false ∧ t.chip.get (VF_VEC_IID f.val i.val) = 0) ∧ t.chip.flag (SFE_FN_DRING_EN f.val) =
        false ∧ look [] t.chip.sfe.filters f.val = [] ∧ (∀ k : Fin 6, s.chip.rangeOf f.val k.val = t.chip.rangeOf f.val k.val) ∧
        t.chip.get (SFE_FN_CFG_WORLD f.val) = s.chip.get (SFE_FN_CFG_WORLD f.val) ∧ t.chip.get RST_PLAST_TARGET = 64 + f.val ∧
        t.chip.pends 491 = true) ∧
    (∀ (a : Agent) (v : W32) (f : Fin 64), s.chip.admits a = true → s.chip.worldOfAgent a = 1 ∧ s.chip.flag SFE_CMD_BUSY = false → bits
      v.toNat 30 27 = 6 ∧ bits v.toNat 6 0 = f.val → (s.chip.fnState f.val = 2 ∨ s.chip.fnState f.val = 3) → Runs (.sfeReset a v) s fun t
      =>
      t.chip.get SFE_CMD_STATUS = stNOT_NOW ∧ t.chip.pends 577 = true ∧ s.frame [.core] (amongEv [SFE_CMD.addr, SFE_STAT.addr]) t) ∧
    (∀ (a : Agent) (v : W32) (f : Fin 64), s.chip.admits a = true → s.chip.worldOfAgent a = 1 ∧ s.chip.flag SFE_CMD_BUSY = false → bits
      v.toNat 30 27 = 7 ∧ bits v.toNat 6 0 = f.val → s.chip.fnState f.val = 1 → Runs (.undefine a v) s fun t =>
      t.chip.fnState f.val = 0 ∧ t.chip.get SFE_CMD_STATUS = stOK ∧ (∀ k : Fin 6, t.chip.rangeOf f.val k.val = (0, 0)) ∧ s.frame [.sfe]
        (among [SFE_CMD.addr, SFE_STAT.addr, SFE_POOLFREE.addr, (SFE_FN_CFG f.val).addr]) t) ∧
    (∀ (a : Agent) (v : W32) (f : Fin 64), s.chip.admits a = true → s.chip.worldOfAgent a = 1 ∧ s.chip.flag SFE_CMD_BUSY = false → bits
      v.toNat 30 27 = 8 ∧ bits v.toNat 6 0 = f.val → s.chip.fnState f.val = 4 → s.chip.get SFE_XADDR_ADDR % 16 = 0 ∧ inDram (s.chip.get
      SFE_XADDR_ADDR) 65536 = true → Runs (.save a v) s fun t =>
      t.chip.sfe = { s.chip.sfe with job := some (8, f.val) } ∧ t.chip.flag SFE_CMD_BUSY = true ∧ s.frame [.sfe] (among [SFE_CMD.addr]) t) ∧
    (∀ (a : Agent) (v : W32) (f : Fin 64), s.chip.admits a = true → s.chip.worldOfAgent a = 1 ∧ s.chip.flag SFE_CMD_BUSY = false → bits
      v.toNat 30 27 = 8 ∧ bits v.toNat 6 0 = f.val → s.chip.fnState f.val = 4 → (s.chip.get SFE_XADDR_ADDR % 16 ≠ 0 ∨ s.chip.get
      SFE_XADDR_ADDR < 0x800000000) → Runs (.save a v) s fun t =>
      t.chip.get SFE_CMD_STATUS = stRANGE ∧ t.chip.pends 577 = true ∧ s.frame [.core] (amongEv [SFE_CMD.addr, SFE_STAT.addr]) t) ∧
    (∀ (f : Nat), s.chip.zoneUp = true → s.chip.sfe.job = some (8, f) → Runs (.saveDone) s fun t =>
      t.mem = memWrite s.mem (s.chip.get SFE_XADDR_ADDR) (s.chip.record f) ∧ t.chip.get SFE_XADDR_LEN = (s.chip.record f).length % 65536 ∧
        t.chip.get SFE_CMD_STATUS = stOK ∧ t.chip.flag SFE_CMD_BUSY = false ∧ t.chip.pends 576 = true ∧ t.chip.sfe =
        { s.chip.sfe with job := none } ∧ s.chip.frame [.sfe, .core] (amongEv [SFE_CMD.addr, SFE_STAT.addr, SFE_XADDR.addr]) t.chip) ∧
    (∀ (a : Agent) (v : W32) (f : Fin 64), s.chip.admits a = true → s.chip.worldOfAgent a = 1 ∧ s.chip.flag SFE_CMD_BUSY = false → bits
      v.toNat 30 27 = 9 ∧ bits v.toNat 6 0 = f.val → (s.chip.fnState f.val = 1 ∨ s.chip.fnState f.val = 4) → Runs (.restore a v) s fun t
      =>
      t.chip.sfe = { s.chip.sfe with job := some (9, f.val) } ∧ t.chip.flag SFE_CMD_BUSY = true ∧ s.frame [.sfe] (among [SFE_CMD.addr]) t) ∧
    (∀ (f : Fin 64), s.chip.zoneUp = true → s.chip.sfe.job = some (9, f.val) → memRead s.mem (s.chip.get SFE_XADDR_ADDR) 14 ≠
      (s.chip.recordHead f.val).take 14 → Runs (.restoreDone) s fun t =>
      t.chip.get SFE_CMD_STATUS = stRANGE ∧ t.chip.flag SFE_CMD_BUSY = false ∧ t.chip.pends 577 = true ∧ t.chip.pends 576 = true ∧
        t.chip.fnState f.val = s.chip.fnState f.val ∧ s.frame [.sfe, .core] (amongEv [SFE_CMD.addr, SFE_STAT.addr]) t) ∧
    (∀ (f : Fin 64), s.chip.zoneUp = true → s.chip.sfe.job = some (9, f.val) → Runs (.restoreDone) s fun t =>
      (t.chip.get SFE_CMD_STATUS = stOK ∨ t.chip.get SFE_CMD_STATUS = stRANGE ∨ t.chip.get SFE_CMD_STATUS = stINTEGRITY) ∧ if t.chip.get
        SFE_CMD_STATUS = stOK then t.chip.fnState f.val = 4 else t.chip.fnState f.val = s.chip.fnState f.val ∧ t.chip.pends 577 = true ∧
        t.chip.flag SFE_CMD_BUSY = false ∧ t.chip.pends 576 = true ∧ s.memKept t) ∧
    (∀ (a : Agent) (v : W32) (f : Fin 65), s.chip.admits a = true → s.chip.worldOfAgent a = 1 ∧ s.chip.flag SFE_CMD_BUSY = false → bits
      v.toNat 30 27 = 10 ∧ bits v.toNat 6 0 = f.val → s.chip.fnState f.val ≠ 0 → Runs (.dirtysync a v) s fun t =>
      look [] t.chip.sfe.filters f.val = [] ∧ t.chip.get (SFE_FN_DSTAT_EPOCH f.val) = (s.chip.get (SFE_FN_DSTAT_EPOCH f.val) + 1) % 65536
        ∧ t.chip.get SFE_CMD_STATUS = stOK ∧ s.frame [.sfe] (among [SFE_CMD.addr, (SFE_FN_DSTAT f.val).addr]) t) ∧
    (∀ (a : Agent) (v : W32) (f : Fin 65), s.chip.admits a = true → s.chip.worldOfAgent a = 1 ∧ s.chip.flag SFE_CMD_BUSY = false → bits
      v.toNat 30 27 = 11 ∧ bits v.toNat 6 0 = f.val → s.chip.fnState f.val ≠ 0 → Runs (.sfeInval a v) s fun t =>
      t.chip.get SFE_CMD_STATUS = stOK ∧ s.frame [] (among [SFE_CMD.addr]) t) ∧
    (∀ (a : Agent) (v : W32), s.chip.admits a = true → s.chip.worldOfAgent a = 1 ∧ s.chip.flag SFE_CMD_BUSY = false → bits v.toNat 30 27 <
      10 ∧ 1 < bits v.toNat 30 27 ∧ bits v.toNat 6 0 = 64 → Runs (.save a v) s fun t =>
      t.chip.get SFE_CMD_STATUS = stRANGE ∧ t.chip.pends 577 = true ∧ s.frame [.core] (amongEv [SFE_CMD.addr, SFE_STAT.addr]) t) ∧
    (∀ (a : Agent) (v : W32), s.chip.admits a = true → (s.chip.worldOfAgent a ≠ 1 ∨ s.chip.flag SFE_CMD_BUSY = true) → Runs (.sfeReset a v)
      s fun t =>
      t = s) ∧
    (∀ (f : Fin 64) (v : Fin 64), s.chip.zoneUp = true → s.chip.fnState f.val = 2 ∧ s.chip.flag (VF_VEC_MASK f.val v.val) = false ∧
      s.chip.get (VF_VEC_IID f.val v.val) ≠ 0 → s.chip.coreDown (s.chip.get (SFE_FN_IRQ_CORE f.val)) = false → Runs (.vfVectorRaise f v) s
      fun t =>
      t.chip.flag (VF_VEC_PEND f.val v.val) = false ∧ t.chip = (s.chip.msi (s.chip.get (SFE_FN_IRQ_CORE f.val)) (s.chip.get
        (SFE_FN_IRQ_FILE f.val)) (s.chip.get (SFE_FN_IRQ_GUEST f.val)) (s.chip.get (VF_VEC_IID f.val v.val))).setB (VF_VEC_PEND f.val
        v.val) false ∧ s.frame [.core] (among [(VF_VEC f.val v.val).addr]) t) ∧
    (∀ (f : Fin 64) (v : Fin 64), s.chip.zoneUp = true → (s.chip.fnState f.val ≠ 2 ∨ s.chip.flag (VF_VEC_MASK f.val v.val) = true ∨
      s.chip.get (VF_VEC_IID f.val v.val) = 0) → Runs (.vfVectorRaise f v) s fun t =>
      t.chip.flag (VF_VEC_PEND f.val v.val) = true ∧ s.frame [] (among [(VF_VEC f.val v.val).addr]) t) ∧
    (∀ (mid : Fin 20) (f : Fin 64) (addr : BitVec 50) (size : Fin 4097) (data : Option (List Byte)), s.chip.fnState f.val ≠ 2 ∧
      s.chip.fnState f.val ≠ 3 → Runs (.vfDmaAccess mid f addr size data) s fun t =>
      t = s) ∧
    (∀ (mid : Fin 20) (f : Fin 64) (addr : BitVec 50) (data : List Byte), s.chip.zoneUp = true → (s.chip.fnState f.val = 2 ∨ s.chip.fnState
      f.val = 3) → 1 ≤ data.length ∧ addr.toNat % 4096 + data.length ≤ 4096 → translatePage s.mem (s.chip.get (SFE_FN_GATP_GATP f.val))
      true (addr.toNat / 4096) = none → Runs (.vfDmaAccess mid f addr 0 (some data)) s fun t =>
      t.mem = s.mem ∧ t.chip.pends 579 = true ∧ t.chip.get (SFE_FN_CNT_FAULTS f.val) = min (s.chip.get (SFE_FN_CNT_FAULTS f.val) + 1)
        65535 ∧ t.chip.rdN SFE_FAULT = (s.chip.frc % 2 ^ 64) * 2 ^ 64 + unitOf mid.val * 2 ^ 57 + f.val * 2 ^ 50 + addr.toNat ∧
        t.chip.flag (VF_STAT_FAULT f.val) = true ∧ (look {} t.chip.fab.resp (mid.val * 128 + 64 + f.val)).err = true) ∧
    (∀ (mid : Fin 20) (f : Fin 64) (addr : BitVec 50) (data : List Byte) (p : Nat), s.chip.zoneUp = true → (s.chip.fnState f.val = 2 ∨
      s.chip.fnState f.val = 3) → 1 ≤ data.length ∧ addr.toNat % 4096 + data.length ≤ 4096 → translatePage s.mem (s.chip.get
      (SFE_FN_GATP_GATP f.val)) true (addr.toNat / 4096) = some p → (s.chip.flag (SFE_FN_DRING_EN f.val) = false ∨ (look []
      s.chip.sfe.filters f.val).contains (addr.toNat / 4096) = true) → s.chip.gateOpen mid.val = true ∧ s.chip.vfIsolated f.val = false →
      s.chip.fwPermits (s.chip.fnTag mid.val f.val) (p * 4096 + addr.toNat % 4096) data.length .write = true → (regionOf (p * 4096 +
      addr.toNat % 4096)).isMemory = true ∧ regionOf (p * 4096 + addr.toNat % 4096) ≠ .bootRom → Runs (.vfDmaAccess mid f addr 0 (some
      data)) s fun t =>
      t.mem = memWrite s.mem (p * 4096 + addr.toNat % 4096) data ∧ look {} t.chip.fab.resp (mid.val * 128 + 64 + f.val) =
        { err := false, data := 0 } ∧ s.chip.frame [.fab] (among []) t.chip) ∧
    (∀ (mid : Fin 20) (f : Fin 64) (addr : BitVec 50) (data : List Byte) (p : Nat), s.chip.zoneUp = true → (s.chip.fnState f.val = 2 ∨
      s.chip.fnState f.val = 3) → 1 ≤ data.length ∧ addr.toNat % 4096 + data.length ≤ 4096 → translatePage s.mem (s.chip.get
      (SFE_FN_GATP_GATP f.val)) true (addr.toNat / 4096) = some p → s.chip.flag (SFE_FN_DRING_EN f.val) = true ∧ (look []
      s.chip.sfe.filters f.val).contains (addr.toNat / 4096) = false → s.chip.get (SFE_FN_DRING_LOG2N f.val) = 10 ∧ s.chip.get
      (SFE_FN_DPI_PI f.val) < 256 ∧ s.chip.get (SFE_FN_DCI_CI f.val) = 0 → s.chip.gateOpen mid.val = true ∧ s.chip.vfIsolated f.val =
      false → s.chip.fwPermits (s.chip.fnTag mid.val f.val) (p * 4096 + addr.toNat % 4096) data.length .write = true → (regionOf (p * 4096
      + addr.toNat % 4096)).isMemory = true ∧ regionOf (p * 4096 + addr.toNat % 4096) ≠ .bootRom → Runs (.vfDmaAccess mid f addr 0 (some
      data)) s fun t =>
      t.mem = memWrite (memWrite s.mem (s.chip.get (SFE_FN_DRING_BASE f.val) + 8 * s.chip.get (SFE_FN_DPI_PI f.val)) (leBytesOf 8
        (s.chip.get (SFE_FN_DSTAT_EPOCH f.val) * 2 ^ 48 + unitOf mid.val * 2 ^ 44 + addr.toNat / 4096))) (p * 4096 + addr.toNat % 4096)
        data ∧ t.chip.get (SFE_FN_DPI_PI f.val) = s.chip.get (SFE_FN_DPI_PI f.val) + 1 ∧ addr.toNat / 4096 ∈ look [] t.chip.sfe.filters
        f.val ∧ s.chip.frame [.fab, .sfe] (among [(SFE_FN_DPI f.val).addr]) t.chip) ∧
    (∀ (f : Fin 64), s.chip.zoneUp = true → s.chip.fnState f.val ≠ 0 → Runs (.sfeStateEcc f) s fun t =>
      t.chip.fnState f.val = 3 ∧ t.chip.pends 584 = true)

/-! ### Keys, worlds and life cycle -/

/-- A GO of each operation, on a free session whose checks all pass, queues it with its parameters and sets BUSY; a failing check refuses
  it with its status and WHY, EV0739 and the count (R423). A busy session ignores the GO and LASTERR records BUSY (R429). HOLD and REL
  take effect at once (R425), INVAL marks the slot and its descendants (R426). An engine starts the oldest operation, checked once more
  (R424); an operation whose key was invalidated meanwhile ends with KEY_REVOKED and DURING (R427). Which slot and session a number names,
  and the checks themselves, are the model's functions keySession, keySlotOf and keyAccept. -/
def Obligations.KeySessionOperations : Prop :=
  ∀ (s : State),
    (∀ (a : Agent) (ses : Fin 128) (q : Nat) (params : List Byte), s.chip.admits a = true ∧ s.chip.keySession (s.chip.who a) ses.val = some
      q → s.chip.flag (CSES_RES_BUSY q) = false ∧ s.chip.get (CSES_OP_OP q) = 1 → (s.chip.key.gen = false ∧ s.chip.key.lcs < lcRETURNED ∧
      (∀ v ∈ a.vf, s.chip.fnState v.val = 2)) → 16 ≤ s.chip.get (CSES_LEN_LEN q) ∧ (s.busRead (s.chip.keyTag (s.chip.who a).fn)
      (s.chip.get (CSES_ADDR_IN q)) 16).1 = some params → s.chip.keyAccept 1 ((s.chip.keySlotOf (s.chip.who a).fn (s.chip.get
      (CSES_OP_SLOTA q))).getD 0) (s.chip.keySlotOf (s.chip.who a).fn (s.chip.get (CSES_OP_SLOTA q))).isSome (s.chip.keySlotOf (s.chip.who
      a).fn (s.chip.get (CSES_OP_SLOTB q))) q (s.chip.get (CSES_LEN_LEN q)) (s.chip.who a) params = none → Runs (.gcmEnc a ses) s fun t =>
      t.chip.key.jobs = s.chip.key.jobs ++
        [{ ses := q, op := 1, a := (s.chip.keySlotOf (s.chip.who a).fn (s.chip.get (CSES_OP_SLOTA q))).getD 0, b := (s.chip.keySlotOf (s.chip.who a).fn (s.chip.get (CSES_OP_SLOTB q))).getD 0, len := s.chip.get (CSES_LEN_LEN q), inp := s.chip.get (CSES_ADDR_IN q), out := s.chip.get (CSES_ADDR_OUT q), fn := (s.chip.who a).fn, mid := a.mid.val, world := s.chip.worldOfAgent a, params := params, irq := s.chip.flag (CSES_OP_IRQ q) }]
        ∧ t.chip.key.slots = s.chip.key.slots ∧ t.chip.rdN (CSES_RES q) = 2 ^ 31 ∧ s.frame [.key] (among [(CSES_RES q).addr]) t) ∧
    (∀ (a : Agent) (ses : Fin 128) (q : Nat) (params : List Byte), s.chip.admits a = true ∧ s.chip.keySession (s.chip.who a) ses.val = some
      q → s.chip.flag (CSES_RES_BUSY q) = false ∧ s.chip.get (CSES_OP_OP q) = 2 → (s.chip.key.gen = false ∧ s.chip.key.lcs < lcRETURNED ∧
      (∀ v ∈ a.vf, s.chip.fnState v.val = 2)) → 32 ≤ s.chip.get (CSES_LEN_LEN q) ∧ (s.busRead (s.chip.keyTag (s.chip.who a).fn)
      (s.chip.get (CSES_ADDR_IN q)) 32).1 = some params → s.chip.keyAccept 2 ((s.chip.keySlotOf (s.chip.who a).fn (s.chip.get
      (CSES_OP_SLOTA q))).getD 0) (s.chip.keySlotOf (s.chip.who a).fn (s.chip.get (CSES_OP_SLOTA q))).isSome (s.chip.keySlotOf (s.chip.who
      a).fn (s.chip.get (CSES_OP_SLOTB q))) q (s.chip.get (CSES_LEN_LEN q)) (s.chip.who a) params = none → Runs (.gcmDec a ses) s fun t =>
      t.chip.key.jobs = s.chip.key.jobs ++
        [{ ses := q, op := 2, a := (s.chip.keySlotOf (s.chip.who a).fn (s.chip.get (CSES_OP_SLOTA q))).getD 0, b := (s.chip.keySlotOf (s.chip.who a).fn (s.chip.get (CSES_OP_SLOTB q))).getD 0, len := s.chip.get (CSES_LEN_LEN q), inp := s.chip.get (CSES_ADDR_IN q), out := s.chip.get (CSES_ADDR_OUT q), fn := (s.chip.who a).fn, mid := a.mid.val, world := s.chip.worldOfAgent a, params := params, irq := s.chip.flag (CSES_OP_IRQ q) }]
        ∧ t.chip.key.slots = s.chip.key.slots ∧ t.chip.rdN (CSES_RES q) = 2 ^ 31 ∧ s.frame [.key] (among [(CSES_RES q).addr]) t) ∧
    (∀ (a : Agent) (ses : Fin 128) (q : Nat), s.chip.admits a = true ∧ s.chip.keySession (s.chip.who a) ses.val = some q → s.chip.flag
      (CSES_RES_BUSY q) = false ∧ s.chip.get (CSES_OP_OP q) = 3 → (s.chip.key.gen = false ∧ s.chip.key.lcs < lcRETURNED ∧ (∀ v ∈ a.vf,
      s.chip.fnState v.val = 2)) → s.chip.keyAccept 3 ((s.chip.keySlotOf (s.chip.who a).fn (s.chip.get (CSES_OP_SLOTA q))).getD 0)
      (s.chip.keySlotOf (s.chip.who a).fn (s.chip.get (CSES_OP_SLOTA q))).isSome (s.chip.keySlotOf (s.chip.who a).fn (s.chip.get
      (CSES_OP_SLOTB q))) q (s.chip.get (CSES_LEN_LEN q)) (s.chip.who a) [] = none → Runs (.cmacGen a ses) s fun t =>
      t.chip.key.jobs = s.chip.key.jobs ++
        [{ ses := q, op := 3, a := (s.chip.keySlotOf (s.chip.who a).fn (s.chip.get (CSES_OP_SLOTA q))).getD 0, b := (s.chip.keySlotOf (s.chip.who a).fn (s.chip.get (CSES_OP_SLOTB q))).getD 0, len := s.chip.get (CSES_LEN_LEN q), inp := s.chip.get (CSES_ADDR_IN q), out := s.chip.get (CSES_ADDR_OUT q), fn := (s.chip.who a).fn, mid := a.mid.val, world := s.chip.worldOfAgent a, params := [], irq := s.chip.flag (CSES_OP_IRQ q) }]
        ∧ t.chip.key.slots = s.chip.key.slots ∧ t.chip.rdN (CSES_RES q) = 2 ^ 31 ∧ s.frame [.key] (among [(CSES_RES q).addr]) t) ∧
    (∀ (a : Agent) (ses : Fin 128) (q : Nat) (params : List Byte), s.chip.admits a = true ∧ s.chip.keySession (s.chip.who a) ses.val = some
      q → s.chip.flag (CSES_RES_BUSY q) = false ∧ s.chip.get (CSES_OP_OP q) = 4 → (s.chip.key.gen = false ∧ s.chip.key.lcs < lcRETURNED ∧
      (∀ v ∈ a.vf, s.chip.fnState v.val = 2)) → 16 ≤ s.chip.get (CSES_LEN_LEN q) ∧ (s.busRead (s.chip.keyTag (s.chip.who a).fn)
      (s.chip.get (CSES_ADDR_IN q)) 16).1 = some params → s.chip.keyAccept 4 ((s.chip.keySlotOf (s.chip.who a).fn (s.chip.get
      (CSES_OP_SLOTA q))).getD 0) (s.chip.keySlotOf (s.chip.who a).fn (s.chip.get (CSES_OP_SLOTA q))).isSome (s.chip.keySlotOf (s.chip.who
      a).fn (s.chip.get (CSES_OP_SLOTB q))) q (s.chip.get (CSES_LEN_LEN q)) (s.chip.who a) params = none → Runs (.cmacVer a ses) s fun t
      =>
      t.chip.key.jobs = s.chip.key.jobs ++
        [{ ses := q, op := 4, a := (s.chip.keySlotOf (s.chip.who a).fn (s.chip.get (CSES_OP_SLOTA q))).getD 0, b := (s.chip.keySlotOf (s.chip.who a).fn (s.chip.get (CSES_OP_SLOTB q))).getD 0, len := s.chip.get (CSES_LEN_LEN q), inp := s.chip.get (CSES_ADDR_IN q), out := s.chip.get (CSES_ADDR_OUT q), fn := (s.chip.who a).fn, mid := a.mid.val, world := s.chip.worldOfAgent a, params := params, irq := s.chip.flag (CSES_OP_IRQ q) }]
        ∧ t.chip.key.slots = s.chip.key.slots ∧ t.chip.rdN (CSES_RES q) = 2 ^ 31 ∧ s.frame [.key] (among [(CSES_RES q).addr]) t) ∧
    (∀ (a : Agent) (ses : Fin 128) (q : Nat), s.chip.admits a = true ∧ s.chip.keySession (s.chip.who a) ses.val = some q → s.chip.flag
      (CSES_RES_BUSY q) = false ∧ s.chip.get (CSES_OP_OP q) = 5 → (s.chip.key.gen = false ∧ s.chip.key.lcs < lcRETURNED ∧ (∀ v ∈ a.vf,
      s.chip.fnState v.val = 2)) → s.chip.keyAccept 5 ((s.chip.keySlotOf (s.chip.who a).fn (s.chip.get (CSES_OP_SLOTA q))).getD 0)
      (s.chip.keySlotOf (s.chip.who a).fn (s.chip.get (CSES_OP_SLOTA q))).isSome (s.chip.keySlotOf (s.chip.who a).fn (s.chip.get
      (CSES_OP_SLOTB q))) q (s.chip.get (CSES_LEN_LEN q)) (s.chip.who a) [] = none → Runs (.sha512 a ses) s fun t =>
      t.chip.key.jobs = s.chip.key.jobs ++
        [{ ses := q, op := 5, a := (s.chip.keySlotOf (s.chip.who a).fn (s.chip.get (CSES_OP_SLOTA q))).getD 0, b := (s.chip.keySlotOf (s.chip.who a).fn (s.chip.get (CSES_OP_SLOTB q))).getD 0, len := s.chip.get (CSES_LEN_LEN q), inp := s.chip.get (CSES_ADDR_IN q), out := s.chip.get (CSES_ADDR_OUT q), fn := (s.chip.who a).fn, mid := a.mid.val, world := s.chip.worldOfAgent a, params := [], irq := s.chip.flag (CSES_OP_IRQ q) }]
        ∧ t.chip.key.slots = s.chip.key.slots ∧ t.chip.rdN (CSES_RES q) = 2 ^ 31 ∧ s.frame [.key] (among [(CSES_RES q).addr]) t) ∧
    (∀ (a : Agent) (ses : Fin 128) (q : Nat), s.chip.admits a = true ∧ s.chip.keySession (s.chip.who a) ses.val = some q → s.chip.flag
      (CSES_RES_BUSY q) = false ∧ s.chip.get (CSES_OP_OP q) = 6 → (s.chip.key.gen = false ∧ s.chip.key.lcs < lcRETURNED ∧ (∀ v ∈ a.vf,
      s.chip.fnState v.val = 2)) → s.chip.keyAccept 6 ((s.chip.keySlotOf (s.chip.who a).fn (s.chip.get (CSES_OP_SLOTA q))).getD 0)
      (s.chip.keySlotOf (s.chip.who a).fn (s.chip.get (CSES_OP_SLOTA q))).isSome (s.chip.keySlotOf (s.chip.who a).fn (s.chip.get
      (CSES_OP_SLOTB q))) q (s.chip.get (CSES_LEN_LEN q)) (s.chip.who a) [] = none → Runs (.rsaSign a ses) s fun t =>
      t.chip.key.jobs = s.chip.key.jobs ++
        [{ ses := q, op := 6, a := (s.chip.keySlotOf (s.chip.who a).fn (s.chip.get (CSES_OP_SLOTA q))).getD 0, b := (s.chip.keySlotOf (s.chip.who a).fn (s.chip.get (CSES_OP_SLOTB q))).getD 0, len := s.chip.get (CSES_LEN_LEN q), inp := s.chip.get (CSES_ADDR_IN q), out := s.chip.get (CSES_ADDR_OUT q), fn := (s.chip.who a).fn, mid := a.mid.val, world := s.chip.worldOfAgent a, params := [], irq := s.chip.flag (CSES_OP_IRQ q) }]
        ∧ t.chip.key.slots = s.chip.key.slots ∧ t.chip.rdN (CSES_RES q) = 2 ^ 31 ∧ s.frame [.key] (among [(CSES_RES q).addr]) t) ∧
    (∀ (a : Agent) (ses : Fin 128) (q : Nat), s.chip.admits a = true ∧ s.chip.keySession (s.chip.who a) ses.val = some q → s.chip.flag
      (CSES_RES_BUSY q) = false ∧ s.chip.get (CSES_OP_OP q) = 7 → (s.chip.key.gen = false ∧ s.chip.key.lcs < lcRETURNED ∧ (∀ v ∈ a.vf,
      s.chip.fnState v.val = 2)) → s.chip.keyAccept 7 ((s.chip.keySlotOf (s.chip.who a).fn (s.chip.get (CSES_OP_SLOTA q))).getD 0)
      (s.chip.keySlotOf (s.chip.who a).fn (s.chip.get (CSES_OP_SLOTA q))).isSome (s.chip.keySlotOf (s.chip.who a).fn (s.chip.get
      (CSES_OP_SLOTB q))) q (s.chip.get (CSES_LEN_LEN q)) (s.chip.who a) [] = none → Runs (.rsaVer a ses) s fun t =>
      t.chip.key.jobs = s.chip.key.jobs ++
        [{ ses := q, op := 7, a := (s.chip.keySlotOf (s.chip.who a).fn (s.chip.get (CSES_OP_SLOTA q))).getD 0, b := (s.chip.keySlotOf (s.chip.who a).fn (s.chip.get (CSES_OP_SLOTB q))).getD 0, len := s.chip.get (CSES_LEN_LEN q), inp := s.chip.get (CSES_ADDR_IN q), out := s.chip.get (CSES_ADDR_OUT q), fn := (s.chip.who a).fn, mid := a.mid.val, world := s.chip.worldOfAgent a, params := [], irq := s.chip.flag (CSES_OP_IRQ q) }]
        ∧ t.chip.key.slots = s.chip.key.slots ∧ t.chip.rdN (CSES_RES q) = 2 ^ 31 ∧ s.frame [.key] (among [(CSES_RES q).addr]) t) ∧
    (∀ (a : Agent) (ses : Fin 128) (q : Nat) (params : List Byte), s.chip.admits a = true ∧ s.chip.keySession (s.chip.who a) ses.val = some
      q → s.chip.flag (CSES_RES_BUSY q) = false ∧ s.chip.get (CSES_OP_OP q) = 8 → (s.chip.key.gen = false ∧ s.chip.key.lcs < lcRETURNED ∧
      (∀ v ∈ a.vf, s.chip.fnState v.val = 2)) → 112 ≤ s.chip.get (CSES_LEN_LEN q) ∧ (s.busRead (s.chip.keyTag (s.chip.who a).fn)
      (s.chip.get (CSES_ADDR_IN q)) 112).1 = some params → s.chip.keyAccept 8 ((s.chip.keySlotOf (s.chip.who a).fn (s.chip.get
      (CSES_OP_SLOTA q))).getD 0) (s.chip.keySlotOf (s.chip.who a).fn (s.chip.get (CSES_OP_SLOTA q))).isSome (s.chip.keySlotOf (s.chip.who
      a).fn (s.chip.get (CSES_OP_SLOTB q))) q (s.chip.get (CSES_LEN_LEN q)) (s.chip.who a) params = none → Runs (.derive a ses) s fun t =>
      t.chip.key.jobs = s.chip.key.jobs ++
        [{ ses := q, op := 8, a := (s.chip.keySlotOf (s.chip.who a).fn (s.chip.get (CSES_OP_SLOTA q))).getD 0, b := (s.chip.keySlotOf (s.chip.who a).fn (s.chip.get (CSES_OP_SLOTB q))).getD 0, len := s.chip.get (CSES_LEN_LEN q), inp := s.chip.get (CSES_ADDR_IN q), out := s.chip.get (CSES_ADDR_OUT q), fn := (s.chip.who a).fn, mid := a.mid.val, world := s.chip.worldOfAgent a, params := params, irq := s.chip.flag (CSES_OP_IRQ q) }]
        ∧ t.chip.key.slots = s.chip.key.slots ∧ t.chip.rdN (CSES_RES q) = 2 ^ 31 ∧ s.frame [.key] (among [(CSES_RES q).addr]) t) ∧
    (∀ (a : Agent) (ses : Fin 128) (q : Nat) (params : List Byte), s.chip.admits a = true ∧ s.chip.keySession (s.chip.who a) ses.val = some
      q → s.chip.flag (CSES_RES_BUSY q) = false ∧ s.chip.get (CSES_OP_OP q) = 9 → (s.chip.key.gen = false ∧ s.chip.key.lcs < lcRETURNED ∧
      (∀ v ∈ a.vf, s.chip.fnState v.val = 2)) → 16 ≤ s.chip.get (CSES_LEN_LEN q) ∧ (s.busRead (s.chip.keyTag (s.chip.who a).fn)
      (s.chip.get (CSES_ADDR_IN q)) 16).1 = some params → s.chip.keyAccept 9 ((s.chip.keySlotOf (s.chip.who a).fn (s.chip.get
      (CSES_OP_SLOTA q))).getD 0) (s.chip.keySlotOf (s.chip.who a).fn (s.chip.get (CSES_OP_SLOTA q))).isSome (s.chip.keySlotOf (s.chip.who
      a).fn (s.chip.get (CSES_OP_SLOTB q))) q (s.chip.get (CSES_LEN_LEN q)) (s.chip.who a) params = none → Runs (.unwrap a ses) s fun t =>
      t.chip.key.jobs = s.chip.key.jobs ++
        [{ ses := q, op := 9, a := (s.chip.keySlotOf (s.chip.who a).fn (s.chip.get (CSES_OP_SLOTA q))).getD 0, b := (s.chip.keySlotOf (s.chip.who a).fn (s.chip.get (CSES_OP_SLOTB q))).getD 0, len := s.chip.get (CSES_LEN_LEN q), inp := s.chip.get (CSES_ADDR_IN q), out := s.chip.get (CSES_ADDR_OUT q), fn := (s.chip.who a).fn, mid := a.mid.val, world := s.chip.worldOfAgent a, params := params, irq := s.chip.flag (CSES_OP_IRQ q) }]
        ∧ t.chip.key.slots = s.chip.key.slots ∧ t.chip.rdN (CSES_RES q) = 2 ^ 31 ∧ s.frame [.key] (among [(CSES_RES q).addr]) t) ∧
    (∀ (a : Agent) (ses : Fin 128) (q : Nat) (params : List Byte), s.chip.admits a = true ∧ s.chip.keySession (s.chip.who a) ses.val = some
      q → s.chip.flag (CSES_RES_BUSY q) = false ∧ s.chip.get (CSES_OP_OP q) = 10 → (s.chip.key.gen = false ∧ s.chip.key.lcs < lcRETURNED ∧
      (∀ v ∈ a.vf, s.chip.fnState v.val = 2)) → 16 ≤ s.chip.get (CSES_LEN_LEN q) ∧ (s.busRead (s.chip.keyTag (s.chip.who a).fn)
      (s.chip.get (CSES_ADDR_IN q)) 16).1 = some params → s.chip.keyAccept 10 ((s.chip.keySlotOf (s.chip.who a).fn (s.chip.get
      (CSES_OP_SLOTA q))).getD 0) (s.chip.keySlotOf (s.chip.who a).fn (s.chip.get (CSES_OP_SLOTA q))).isSome (s.chip.keySlotOf (s.chip.who
      a).fn (s.chip.get (CSES_OP_SLOTB q))) q (s.chip.get (CSES_LEN_LEN q)) (s.chip.who a) params = none → Runs (.loadpub a ses) s fun t
      =>
      t.chip.key.jobs = s.chip.key.jobs ++
        [{ ses := q, op := 10, a := (s.chip.keySlotOf (s.chip.who a).fn (s.chip.get (CSES_OP_SLOTA q))).getD 0, b := (s.chip.keySlotOf (s.chip.who a).fn (s.chip.get (CSES_OP_SLOTB q))).getD 0, len := s.chip.get (CSES_LEN_LEN q), inp := s.chip.get (CSES_ADDR_IN q), out := s.chip.get (CSES_ADDR_OUT q), fn := (s.chip.who a).fn, mid := a.mid.val, world := s.chip.worldOfAgent a, params := params, irq := s.chip.flag (CSES_OP_IRQ q) }]
        ∧ t.chip.key.slots = s.chip.key.slots ∧ t.chip.rdN (CSES_RES q) = 2 ^ 31 ∧ s.frame [.key] (among [(CSES_RES q).addr]) t) ∧
    (∀ (a : Agent) (ses : Fin 128) (q : Nat), s.chip.admits a = true ∧ s.chip.keySession (s.chip.who a) ses.val = some q → s.chip.flag
      (CSES_RES_BUSY q) = false ∧ s.chip.get (CSES_OP_OP q) = 11 → (s.chip.key.gen = false ∧ s.chip.key.lcs < lcRETURNED ∧ (∀ v ∈ a.vf,
      s.chip.fnState v.val = 2)) → s.chip.keyAccept 11 ((s.chip.keySlotOf (s.chip.who a).fn (s.chip.get (CSES_OP_SLOTA q))).getD 0)
      (s.chip.keySlotOf (s.chip.who a).fn (s.chip.get (CSES_OP_SLOTA q))).isSome (s.chip.keySlotOf (s.chip.who a).fn (s.chip.get
      (CSES_OP_SLOTB q))) q (s.chip.get (CSES_LEN_LEN q)) (s.chip.who a) [] = none → Runs (.random a ses) s fun t =>
      t.chip.key.jobs = s.chip.key.jobs ++
        [{ ses := q, op := 11, a := (s.chip.keySlotOf (s.chip.who a).fn (s.chip.get (CSES_OP_SLOTA q))).getD 0, b := (s.chip.keySlotOf (s.chip.who a).fn (s.chip.get (CSES_OP_SLOTB q))).getD 0, len := s.chip.get (CSES_LEN_LEN q), inp := s.chip.get (CSES_ADDR_IN q), out := s.chip.get (CSES_ADDR_OUT q), fn := (s.chip.who a).fn, mid := a.mid.val, world := s.chip.worldOfAgent a, params := [], irq := s.chip.flag (CSES_OP_IRQ q) }]
        ∧ t.chip.key.slots = s.chip.key.slots ∧ t.chip.rdN (CSES_RES q) = 2 ^ 31 ∧ s.frame [.key] (among [(CSES_RES q).addr]) t) ∧
    (∀ (a : Agent) (ses : Fin 128) (q : Nat), s.chip.admits a = true ∧ s.chip.keySession (s.chip.who a) ses.val = some q → s.chip.flag
      (CSES_RES_BUSY q) = false ∧ s.chip.get (CSES_OP_OP q) = 12 → (s.chip.key.gen = false ∧ s.chip.key.lcs < lcRETURNED ∧ (∀ v ∈ a.vf,
      s.chip.fnState v.val = 2)) → s.chip.keyAccept 12 1 true (s.chip.keySlotOf (s.chip.who a).fn (s.chip.get (CSES_OP_SLOTB q))) q
      (s.chip.get (CSES_LEN_LEN q)) (s.chip.who a) [] = none → Runs (.attest a ses) s fun t =>
      t.chip.key.jobs = s.chip.key.jobs ++
        [{ ses := q, op := 12, a := 1, b := (s.chip.keySlotOf (s.chip.who a).fn (s.chip.get (CSES_OP_SLOTB q))).getD 0, len := s.chip.get (CSES_LEN_LEN q), inp := s.chip.get (CSES_ADDR_IN q), out := s.chip.get (CSES_ADDR_OUT q), fn := (s.chip.who a).fn, mid := a.mid.val, world := s.chip.worldOfAgent a, params := [], irq := s.chip.flag (CSES_OP_IRQ q) }]
        ∧ t.chip.key.slots = s.chip.key.slots ∧ t.chip.rdN (CSES_RES q) = 2 ^ 31 ∧ s.frame [.key] (among [(CSES_RES q).addr]) t) ∧
    (∀ (a : Agent) (ses : Fin 128) (q : Nat), s.chip.admits a = true ∧ s.chip.keySession (s.chip.who a) ses.val = some q → s.chip.flag
      (CSES_RES_BUSY q) = false ∧ s.chip.get (CSES_OP_OP q) = 13 → (s.chip.key.gen = false ∧ s.chip.key.lcs < lcRETURNED ∧ (∀ v ∈ a.vf,
      s.chip.fnState v.val = 2)) → s.chip.keyAccept 13 (s.chip.get (CSES_OP_SLOTA q)) (s.chip.keySlotOf (s.chip.who a).fn (s.chip.get
      (CSES_OP_SLOTA q))).isSome (s.chip.keySlotOf (s.chip.who a).fn (s.chip.get (CSES_OP_SLOTB q))) q (s.chip.get (CSES_LEN_LEN q))
      (s.chip.who a) [] = none → Runs (.mextend a ses) s fun t =>
      t.chip.key.jobs = s.chip.key.jobs ++
        [{ ses := q, op := 13, a := (s.chip.get (CSES_OP_SLOTA q)), b := (s.chip.keySlotOf (s.chip.who a).fn (s.chip.get (CSES_OP_SLOTB q))).getD 0, len := s.chip.get (CSES_LEN_LEN q), inp := s.chip.get (CSES_ADDR_IN q), out := s.chip.get (CSES_ADDR_OUT q), fn := (s.chip.who a).fn, mid := a.mid.val, world := s.chip.worldOfAgent a, params := [], irq := s.chip.flag (CSES_OP_IRQ q) }]
        ∧ t.chip.key.slots = s.chip.key.slots ∧ t.chip.rdN (CSES_RES q) = 2 ^ 31 ∧ s.frame [.key] (among [(CSES_RES q).addr]) t) ∧
    (∀ (a : Agent) (ses : Fin 128) (q : Nat) (why : Nat) (st : Nat), s.chip.admits a = true ∧ s.chip.keySession (s.chip.who a) ses.val =
      some q → s.chip.flag (CSES_RES_BUSY q) = false ∧ s.chip.get (CSES_OP_OP q) = 3 → (s.chip.key.gen = false ∧ s.chip.key.lcs <
      lcRETURNED ∧ (∀ v ∈ a.vf, s.chip.fnState v.val = 2)) → s.chip.keyAccept 3 ((s.chip.keySlotOf (s.chip.who a).fn (s.chip.get
      (CSES_OP_SLOTA q))).getD 0) (s.chip.keySlotOf (s.chip.who a).fn (s.chip.get (CSES_OP_SLOTA q))).isSome (s.chip.keySlotOf (s.chip.who
      a).fn (s.chip.get (CSES_OP_SLOTB q))) q (s.chip.get (CSES_LEN_LEN q)) (s.chip.who a) [] = some (why, st) → Runs (.cmacGen a ses) s
      fun t =>
      t.chip.get (CSES_RES_WHY q) = why ∧ t.chip.get (CSES_RES_STATUS q) = st ∧ t.chip.flag (CSES_RES_BUSY q) = false ∧ t.chip.get
        KEY_CNT_REFUSED = min (s.chip.get KEY_CNT_REFUSED + 1) 65535 ∧ t.chip.pends 739 = true ∧ s.frame [.core] (amongEv [(CSES_RES
        q).addr, KEY_CNT.addr]) t) ∧
    (∀ (a : Agent) (ses : Fin 128) (q : Nat), s.chip.admits a = true ∧ s.chip.keySession (s.chip.who a) ses.val = some q ∧ q < 128 →
      s.chip.get (CSES_OP_OP q) = 11 ∧ s.chip.flag (CSES_RES_BUSY q) = true → Runs (.random a ses) s fun t =>
      t.chip.get KEY_STAT_LASTERR = stBUSY ∧ s.frame [] (among [KEY_STAT.addr]) t) ∧
    (∀ (a : Agent) (ses : Fin 128) (q : Nat), s.chip.admits a = true ∧ s.chip.keySession (s.chip.who a) ses.val = some q → s.chip.flag
      (CSES_RES_BUSY q) = false ∧ s.chip.get (CSES_OP_OP q) = 11 → s.chip.key.gen = true → Runs (.random a ses) s fun t =>
      t.chip.get (CSES_RES_STATUS q) = stNOT_NOW ∧ t.chip.pends 739 = true ∧ t.chip.key = s.chip.key) ∧
    (∀ (a : Agent) (ses : Fin 128) (q : Nat), s.chip.admits a = true ∧ s.chip.keySession (s.chip.who a) ses.val = some q → s.chip.flag
      (CSES_RES_BUSY q) = false ∧ s.chip.get (CSES_OP_OP q) = 12 → s.chip.key.gen = false ∧ lcRETURNED ≤ s.chip.key.lcs → Runs (.attest a
      ses) s fun t =>
      t.chip.get (CSES_RES_STATUS q) = stDENIED_STATE ∧ t.chip.pends 739 = true ∧ t.chip.key = s.chip.key) ∧
    (∀ (a : Agent) (ses : Fin 128) (q : Nat) (p : Nat), s.chip.admits a = true ∧ s.chip.keySession (s.chip.who a) ses.val = some q →
      s.chip.flag (CSES_RES_BUSY q) = false ∧ s.chip.get (CSES_OP_OP q) = 14 → (s.chip.key.gen = false ∧ s.chip.key.lcs < lcRETURNED ∧ (∀
      v ∈ a.vf, s.chip.fnState v.val = 2)) → s.chip.flag (CSES_OP_REL q) = false ∧ s.chip.keySlotOf (s.chip.who a).fn (s.chip.get
      (CSES_OP_SLOTA q)) = some p → s.chip.keyCheck p a.mid.val (s.chip.worldOfAgent a) [1, 2, 3, 4, 5] none (some q) = none → Runs
      (.keyHold a ses) s fun t =>
      look none t.chip.key.holds p = some
        { ses := q, fn := (s.chip.who a).fn, mid := a.mid.val, world := s.chip.worldOfAgent a, expiry := s.chip.frc + s.chip.get KEY_LIM_HOLDL * 1000000 }
        ∧ t.chip.rdN (CSES_RES q) = 0 ∧ s.frame [.key] (among [(CSES_RES q).addr]) t) ∧
    (∀ (a : Agent) (ses : Fin 128) (q : Nat) (p : Nat) (h : KeyHold), s.chip.admits a = true ∧ s.chip.keySession (s.chip.who a) ses.val =
      some q → s.chip.flag (CSES_RES_BUSY q) = false ∧ s.chip.get (CSES_OP_OP q) = 14 → (s.chip.key.gen = false ∧ s.chip.key.lcs <
      lcRETURNED ∧ (∀ v ∈ a.vf, s.chip.fnState v.val = 2)) → s.chip.flag (CSES_OP_REL q) = true ∧ s.chip.keySlotOf (s.chip.who a).fn
      (s.chip.get (CSES_OP_SLOTA q)) = some p → s.chip.keyCheck p a.mid.val (s.chip.worldOfAgent a) [1, 2, 3, 4, 5] none (some q) = none →
      look none s.chip.key.holds p = some h ∧ h.ses = q → Runs (.keyRel a ses) s fun t =>
      look none t.chip.key.holds p = none ∧ t.chip.rdN (CSES_RES q) = 0 ∧ s.frame [.key] (among [(CSES_RES q).addr]) t) ∧
    (∀ (a : Agent) (ses : Fin 128) (slot : Fin 1024) (q : Nat) (p : Nat), s.chip.admits a = true ∧ s.chip.keySession (s.chip.who a) ses.val
      = some q → s.chip.flag (CSES_RES_BUSY q) = false ∧ s.chip.get (CSES_OP_OP q) = 15 → (s.chip.key.gen = false ∧ s.chip.key.lcs <
      lcRETURNED ∧ (∀ v ∈ a.vf, s.chip.fnState v.val = 2)) → s.chip.keySlotOf (s.chip.who a).fn (s.chip.get (CSES_OP_SLOTA q)) = some p ∧
      2 ≤ p ∧ (s.chip.slot p).state ≠ .free → s.chip.key.bound = [] ∧ (s.chip.key.slots.map (·.1)).Nodup → Runs (.keyInval a (some ses)
      slot) s fun t =>
      (t.chip.slot p).state = .revoked ∧ (∀ n : Fin 1024, n.val ≠ p ∧ (s.chip.slot n.val).state = .ready ∧ p ∈ (s.chip.slot n.val).anc →
        (t.chip.slot n.val).state = .orphan) ∧ (∀ n : Fin 1024, n.val ≠ p ∧ ¬ ((s.chip.slot n.val).state = .ready ∧ p ∈ (s.chip.slot
        n.val).anc) → t.chip.slot n.val = s.chip.slot n.val) ∧ t.chip.pends 737 = true ∧ t.chip.rdN (CSES_RES q) = 0 ∧ s.frame [.key,
        .core] (amongEv [(CSES_RES q).addr]) t) ∧
    (∀ (e : Fin 5) (j : KeyJob), s.chip.zoneUp = true → ((s.chip.key.jobs.find? fun x => x.engine == none && engineRuns e.val x.op) = some
      j) → (∀ x ∈ s.chip.key.jobs, x.engine ≠ some e.val) → (s.chip.startCheck j = none ∧ (∀ x ∈ s.chip.key.jobs, x.ses = j.ses → x = j))
      → Runs (.keyOpStart e) s fun t =>
      (t.chip.key.jobs = s.chip.key.jobs.map (fun x => if x = j then
        { j with engine := some e.val, mat := (if (keyNeeds j.op).isSome then s.chip.keyLoad j else []) } else x)) ∧ if (keyNeeds
        j.op).isSome then (t.chip.slot j.a).uses = min ((s.chip.slot j.a).uses + 1) 65535 else t.chip.key.slots = s.chip.key.slots ∧
        s.frame [.key] (among []) t) ∧
    (∀ (e : Fin 5) (j : KeyJob) (why : Nat) (st : Nat), s.chip.zoneUp = true ∧ j.ses < 128 → ((s.chip.key.jobs.find? fun x => x.engine ==
      none && engineRuns e.val x.op) = some j) → (∀ x ∈ s.chip.key.jobs, x.engine ≠ some e.val) → s.chip.startCheck j = some (why, st) →
      Runs (.keyOpStart e) s fun t =>
      (t.chip.key.jobs = s.chip.key.jobs.filter (fun x => x.ses ≠ j.ses)) ∧ t.chip.get (CSES_RES_STATUS j.ses) = st ∧ t.chip.flag
        (CSES_RES_BUSY j.ses) = false ∧ t.chip.pends 739 = true ∧ s.frame [.key, .core] (amongEv [(CSES_RES j.ses).addr, KEY_CNT.addr]) t) ∧
    (∀ (e : Fin 5) (j : KeyJob), s.chip.zoneUp = true ∧ j.ses < 128 ∧ j.fn < 65 ∧ j.irq = false → ((s.chip.key.jobs.find? fun x => x.engine
      == some e.val) = some j) → j.during = true → Runs (.keyOpComplete e) s fun t =>
      (t.chip.key.jobs = s.chip.key.jobs.filter (fun x => x.ses ≠ j.ses)) ∧ t.chip.flag (CSES_RES_BUSY j.ses) = false ∧ t.chip.flag
        (CSES_RES_DURING j.ses) = true ∧ t.chip.get (CSES_RES_STATUS j.ses) = stKEY_REVOKED ∧ t.chip.pends 738 = true ∧ t.chip.get
        KEY_CNT_DURING = min (s.chip.get KEY_CNT_DURING + 1) 65535) ∧
    (∀ (e : Fin 5) (j : KeyJob) (data : List Byte), s.chip.zoneUp = true ∧ j.ses < 128 ∧ j.irq = false ∧ j.during = false →
      ((s.chip.key.jobs.find? fun x => x.engine == some e.val) = some j) → j.op = 13 ∧ (s.busRead (s.chip.keyTag j.fn) j.inp j.len).1 =
      some data → Runs (.keyOpComplete e) s fun t =>
      (t.chip.measureBytes (j.a % 8) = (List.range 4).flatMap (fun i => leBytesOf 16 (bits (leNat (beBytesOf 64 (Config.sha512
        (s.chip.measureBytes (j.a % 8) ++ beBytesOf 64 (Config.sha512 data).toNat)).toNat)) (128 * i + 127) (128 * i)))) ∧ bits
        (t.chip.rdN KEY_MCNT) (16 * (j.a % 8) + 15) (16 * (j.a % 8)) = (bits (s.chip.rdN KEY_MCNT) (16 * (j.a % 8) + 15) (16 * (j.a % 8))
        + 1) % 65536 ∧ t.chip.rdN (CSES_RES j.ses) = 0 ∧ s.frame [.key] (among ([(CSES_RES j.ses).addr, KEY_MCNT.addr] ++ addrs 4
        (KEY_MEAS (j.a % 8)))) t) ∧
    (∀ (e : Fin 5) (j : KeyJob) (data : List Byte), s.chip.zoneUp = true ∧ j.ses < 128 ∧ j.irq = false ∧ j.during = false →
      ((s.chip.key.jobs.find? fun x => x.engine == some e.val) = some j) → j.op = 8 ∧ (s.busRead (s.chip.keyTag j.fn) j.inp j.len).1 =
      some data → Runs (.keyOpComplete e) s fun t =>
      t.chip.slot j.b =
        { w0 := BitVec.ofNat 128 (targetW0 8 j.params), state := .ready, level := (s.chip.slot j.a).level + 1, parent := j.a, anc := (s.chip.slot j.a).anc ++ [j.a], mat := kdf j.mat (data.take 32) ((data.drop 32).take 64) (if kwSalt (targetW0 8 j.params) then 352 else 256) }
        ∧ (∀ n : Fin 1024, n.val ≠ j.b → t.chip.slot n.val = s.chip.slot n.val) ∧ t.chip.rdN (CSES_RES j.ses) = 0 ∧ s.frame [.key] (among
        [(CSES_RES j.ses).addr]) t) ∧
    (∀ (e : Fin 5) (j : KeyJob) (data : List Byte), s.chip.zoneUp = true ∧ j.ses < 128 ∧ j.irq = false ∧ j.during = false →
      ((s.chip.key.jobs.find? fun x => x.engine == some e.val) = some j) → j.op = 4 ∧ (s.busRead (s.chip.keyTag j.fn) j.inp j.len).1 =
      some data → Runs (.keyOpComplete e) s fun t =>
      t.chip.get (CSES_RES_STATUS j.ses) = (if beBytesOf 16 (Config.cmac (j.mat.take 32) (data.drop 16)).toNat = data.take 16 then stOK
        else stINTEGRITY) ∧ t.chip.key.slots = s.chip.key.slots ∧ s.frame [.key] (among [(CSES_RES j.ses).addr]) t)

/-- The first start commits crown and identity with EV0736 (R415). W1's KEY_INVAL revokes a slot and orphans its ready descendants with
  EV0737, with RANGE for slots 0 and 1 and NO_OBJECT for a FREE one (R426). An idle marked slot loses its material and becomes DEAD
  (R428). A hold expires with EV0744 (R425). ADVANCE and DECOMMISSION are R432's transitions with EV0740, DENIED_STATE otherwise; a token
  of wrong format is refused with RANGE and EV0741 (R433). KEY_AUTHHASH is written once (R433). The zeroisation of RETURNED erases every
  slot (R434). -/
def Obligations.KeysAndLifeCycle : Prop :=
  ∀ (s : State),
    (s.chip.zoneUp = true → s.chip.key.gen = true ∧ s.chip.key.lcs = lcBLANK ∧ s.chip.key.trngBad = false → Runs (.keyGeneration) s fun t
      =>
      t.chip.key.gen = false ∧ t.chip.key.crown = true ∧ t.chip.key.idkey = true ∧ (t.chip.slot 0).state = .ready ∧ kwType (t.chip.slot
        0).w0.toNat = 1 ∧ kwUsage (t.chip.slot 0).w0.toNat = 16 ∧ (t.chip.slot 1).state = .ready ∧ kwType (t.chip.slot 1).w0.toNat = 4 ∧
        kwUsage (t.chip.slot 1).w0.toNat = 1 ∧ t.chip.flag KEY_STAT_CROWN = true ∧ t.chip.flag KEY_STAT_IDKEY = true ∧ t.chip.flag
        KEY_STAT_GEN = false ∧ t.chip.pends 736 = true ∧ s.frame [.key, .core, .freeCtr] (amongEv [KEY_STAT.addr]) t) ∧
    ((s.chip.key.gen = false ∨ s.chip.key.trngBad = true) → Runs (.keyGeneration) s fun t =>
      t = s) ∧
    (s.chip.zoneUp = true → Runs (.trngHealthFail) s fun t =>
      t.chip.flag KEY_STAT_TRNGFAIL = true ∧ t.chip.key = { s.chip.key with trngBad := true } ∧ t.chip.pends 743 = true ∧ s.frame [.key,
        .core] (amongEv [KEY_STAT.addr]) t) ∧
    (∀ (a : Agent) (slot : Fin 1024), s.chip.admits a = true ∧ s.chip.worldOfAgent a = 1 → 2 ≤ slot.val ∧ (s.chip.slot slot.val).state ≠
      .free → s.chip.key.bound = [] ∧ (s.chip.key.slots.map (·.1)).Nodup → Runs (.keyInval a none slot) s fun t =>
      (t.chip.slot slot.val).state = .revoked ∧ (∀ n : Fin 1024, n ≠ slot ∧ (s.chip.slot n.val).state = .ready ∧ slot.val ∈ (s.chip.slot
        n.val).anc → (t.chip.slot n.val).state = .orphan) ∧ (∀ n : Fin 1024, n ≠ slot ∧ ¬ ((s.chip.slot n.val).state = .ready ∧ slot.val ∈
        (s.chip.slot n.val).anc) → t.chip.slot n.val = s.chip.slot n.val) ∧ t.chip.pends 737 = true ∧ s.frame [.key, .core] (amongEv []) t) ∧
    (∀ (a : Agent) (slot : Fin 1024), s.chip.admits a = true ∧ s.chip.worldOfAgent a = 1 → (slot.val < 2 ∨ (s.chip.slot slot.val).state =
      .free) → Runs (.keyInval a none slot) s fun t =>
      t.chip.get KEY_STAT_LASTERR = (if slot.val < 2 then stRANGE else stNO_OBJECT) ∧ s.frame [] (among [KEY_STAT.addr]) t) ∧
    (∀ (slot : Fin 1024), s.chip.zoneUp = true → ((s.chip.slot slot.val).state = .revoked ∨ (s.chip.slot slot.val).state = .orphan) →
      s.chip.key.jobs = [] → Runs (.keyZeroise slot) s fun t =>
      (t.chip.slot slot.val).state = .dead ∧ (t.chip.slot slot.val).mat = [] ∧ (t.chip.slot slot.val).pub = none ∧ (t.chip.slot
        slot.val).revokedCause = decide ((s.chip.slot slot.val).state = .revoked) ∧ (∀ i ∈ (s.chip.slot slot.val).pub, look []
        t.chip.key.pubs i = []) ∧ (∀ n : Fin 1024, n ≠ slot → t.chip.slot n.val = s.chip.slot n.val) ∧ s.frame [.key] (among []) t) ∧
    (∀ (slot : Fin 1024) (j : KeyJob), j ∈ s.chip.key.jobs ∧ j.engine ≠ none ∧ (keyNeeds j.op).isSome = true ∧ j.a = slot.val → Runs
      (.keyZeroise slot) s fun t =>
      t = s) ∧
    (∀ (slot : Fin 1024) (h : KeyHold), s.chip.zoneUp = true → look none s.chip.key.holds slot.val = some h ∧ h.expiry ≤ s.chip.frc ∧
      s.chip.clm.running = none → Runs (.keyHoldExpiry slot) s fun t =>
      look none t.chip.key.holds slot.val = none ∧ t.chip.pends 744 = true ∧ s.frame [.key, .core] (amongEv []) t) ∧
    (∀ (a : Agent) (v : W32), s.chip.admits a = true ∧ s.chip.flag KEY_LCRES_BUSY = false ∧ bit v.toNat 31 = true ∧ bits v.toNat 3 0 = 1 →
      s.chip.key.lcs = lcBLANK ∧ s.chip.key.crown = true ∧ s.chip.key.idkey = true ∧ s.chip.worldOfAgent a < 2 → Runs (.advance a v) s fun
      t =>
      t.chip.key = { s.chip.key with lcs := lcPROVISIONED, tokWorlds := 0 } ∧ t.chip.get KEY_LCRES_STATUS = stOK ∧ t.chip.get KEY_STAT_LCS
        = 2 ∧ t.chip.pends 740 = true ∧ s.frame [.key, .core] (amongEv [KEY_STAT.addr, KEY_LCRES.addr]) t) ∧
    (∀ (a : Agent) (v : W32), s.chip.admits a = true ∧ s.chip.flag KEY_LCRES_BUSY = false ∧ bit v.toNat 31 = true ∧ bits v.toNat 3 0 = 1 →
      s.chip.key.lcs = lcPROVISIONED ∧ s.chip.authHash ≠ 0 ∧ s.chip.worldOfAgent a = 1 → Runs (.advance a v) s fun t =>
      t.chip.key = { s.chip.key with lcs := lcFIELD, tokWorlds := 0 } ∧ t.chip.get KEY_LCRES_STATUS = stOK ∧ t.chip.get KEY_STAT_LCS = 3 ∧
        t.chip.pends 740 = true ∧ s.frame [.key, .core] (amongEv [KEY_STAT.addr, KEY_LCRES.addr]) t) ∧
    (∀ (a : Agent) (v : W32), s.chip.admits a = true ∧ s.chip.flag KEY_LCRES_BUSY = false ∧ bit v.toNat 31 = true ∧ bits v.toNat 3 0 = 1 →
      s.chip.worldOfAgent a < 2 ∧ lcFIELD ≤ s.chip.key.lcs → Runs (.advance a v) s fun t =>
      t.chip.get KEY_LCRES_STATUS = stDENIED_STATE ∧ s.frame [] (among [KEY_LCRES.addr]) t) ∧
    (∀ (a : Agent) (v : W32), s.chip.admits a = true ∧ s.chip.flag KEY_LCRES_BUSY = false ∧ bit v.toNat 31 = true ∧ bits v.toNat 3 0 = 3 →
      (s.chip.worldOfAgent a = 1 ∨ s.chip.worldOfAgent a = 4) → s.chip.key.lcs = lcRETURNED → Runs (.decommission a v) s fun t =>
      t.chip.key = { s.chip.key with lcs := lcDECOMMISSIONED, tokWorlds := 0 } ∧ t.chip.get KEY_LCRES_STATUS = stOK ∧ t.chip.pends 740 =
        true ∧ t.chip.get KEY_STAT_DBGOPEN = 0 ∧ s.frame [.key, .core] (amongEv [KEY_STAT.addr, KEY_LCRES.addr]) t) ∧
    (∀ (a : Agent) (v : W32), s.chip.admits a = true ∧ s.chip.flag KEY_LCRES_BUSY = false ∧ bit v.toNat 31 = true ∧ bits v.toNat 3 0 = 3 →
      (s.chip.worldOfAgent a = 1 ∨ s.chip.worldOfAgent a = 4) → s.chip.key.lcs ≠ lcRETURNED → Runs (.decommission a v) s fun t =>
      t.chip.get KEY_LCRES_STATUS = stDENIED_STATE ∧ s.frame [] (among [KEY_LCRES.addr]) t) ∧
    (∀ (a : Agent) (v : W32) (tok : List Byte), s.chip.admits a = true ∧ s.chip.flag KEY_LCRES_BUSY = false ∧ bit v.toNat 31 = true ∧ bits
      v.toNat 3 0 = 2 → (s.chip.worldOfAgent a = 1 ∨ s.chip.worldOfAgent a = 4) → (s.busRead
      { mid := 16, world := s.chip.worldOfAgent a, vf := none } (s.chip.get KEY_TOKADDR_ADDR) 1080).1 = some tok → (tok.take 4 ≠ [0x41,
      0x58, 0x4C, 0x54] ∨ tok.getD 4 0 ≠ 1 ∨ tok.getD 5 0 ∉ [0, 3, 4, 5]) → Runs (.token a v) s fun t =>
      t.chip.get KEY_LCRES_STATUS = stRANGE ∧ t.chip.key = s.chip.key ∧ t.chip.pends 741 = true ∧ s.frame [.core, .freeCtr] (amongEv
        [KEY_LCRES.addr, (KEY_LCNONCE 0).addr, (KEY_LCNONCE 1).addr]) t) ∧
    (∀ (a : Agent) (v : W32) (tok : List Byte), s.chip.admits a = true ∧ s.chip.flag KEY_LCRES_BUSY = false ∧ bit v.toNat 31 = true ∧ bits
      v.toNat 3 0 = 2 → (s.chip.worldOfAgent a = 1 ∨ s.chip.worldOfAgent a = 4) → (s.busRead
      { mid := 16, world := s.chip.worldOfAgent a, vf := none } (s.chip.get KEY_TOKADDR_ADDR) 1080).1 = some tok → Runs (.token a v) s fun
      t =>
      t.chip.get KEY_LCRES_STATUS = s.chip.tokenCheck tok ∧ if s.chip.tokenCheck tok = stOK ∧ tok.getD 5 0 = 5 then t.chip.key.lcs =
        lcRETURNED ∧ t.chip.key.zeroise = true else True ∧ if s.chip.tokenCheck tok = stOK then True else t.chip.key = s.chip.key ∧
        t.chip.pends 741 = true) ∧
    (s.chip.zoneUp = true → s.chip.key.zeroise = true → Runs (.returnedZeroise) s fun t =>
      (∀ n : Fin 1024, (t.chip.slot n.val).mat = [] ∧ ((t.chip.slot n.val).state = .free ∨ (t.chip.slot n.val).state = .dead) ∨
        (s.chip.slot n.val).state = .free) ∧ t.chip.key.pubs = [] ∧ t.chip.key.crown = false ∧ t.chip.key.idkey = false ∧
        t.chip.key.zeroise = false ∧ t.chip.authHash = 0 ∧ t.chip.key.modulus = s.chip.key.modulus ∧ t.chip.key.lcs = s.chip.key.lcs ∧
        s.frame [.key] (among ([KEY_STAT.addr] ++ addrs 4 KEY_AUTHHASH)) t) ∧
    (∀ (a : Agent) (k : Fin 4) (v : W128), s.chip.admits a = true ∧ s.chip.worldOfAgent a = 1 → s.chip.key.lcs = lcPROVISIONED ∧ s.chip.rdN
      (KEY_AUTHHASH k.val) = 0 → Runs (.keyAuthhashWrite a k v) s fun t =>
      t.chip.rd (KEY_AUTHHASH k.val) = v ∧ s.frame [] (among [(KEY_AUTHHASH k.val).addr]) t) ∧
    (∀ (a : Agent) (k : Fin 4) (v : W128), s.chip.admits a = true ∧ s.chip.worldOfAgent a = 1 → (s.chip.key.lcs ≠ lcPROVISIONED ∨
      s.chip.rdN (KEY_AUTHHASH k.val) ≠ 0) → Runs (.keyAuthhashWrite a k v) s fun t =>
      t.chip.get KEY_STAT_LASTERR = stDENIED_STATE ∧ s.frame [] (among [KEY_STAT.addr]) t) ∧
    (∀ (slot : Fin 1024), s.chip.zoneUp = true → Runs (.keyArrayEcc slot) s fun t =>
      (t.chip.slot slot.val).state = .dead ∧ (t.chip.slot slot.val).revokedCause = true ∧ (t.chip.slot slot.val).mat = [] ∧ t.chip.flag
        KEY_STAT_NVERR = true ∧ t.chip.pends 746 = true ∧ s.frame [.key, .core] (amongEv [KEY_STAT.addr]) t) ∧
    (∀ (a : Agent) (v : W32), s.chip.admits a = true ∧ s.chip.worldOfAgent a = 1 ∧ bit v.toNat 0 = true → Runs (.keyClrcnt a v) s fun t =>
      t.chip.rdN KEY_CNT = 0 ∧ s.frame [] (among [KEY_CNT.addr]) t)

/-! ### Dunymer dictionary -/

/-- A request without a session that passes R387's checks is answered with the bytes of R389 behind the value (READ), the record (DESC) or
  no data (WRITE); the first failing check gives its status and the refused count, DENIED ones EV0704; a packet for another module or a
  transport that is not served changes nothing. OPEN creates a session with the derived key (R402), CLOSE and expiry end it with EV0708. A
  local session writes its result to its buffer (R406). A world's CI write answers its firmware requests, FWTO answers TIMEOUT with EV0714
  (R405). The engine answers ARP for its address (R392). Checks of object, world and bounds are the model's objectCheck, worldMay,
  putElem. -/
def Obligations.DictionaryRequests : Prop :=
  ∀ (s : State),
    (∀ (v : DdpVia) (p : DdpPacket) (w : Nat) (x : Elem), s.chip.zoneUp = true ∧ s.chip.viaServed v = true ∧ s.chip.addressed (asRequest p
      cmREAD) = true → p.auth = false ∧ s.chip.packetSession v p = none → s.chip.rqWorld v p.src.toNat = some w ∧ s.chip.worldMay (some w)
      cmREAD p.object.toNat = true ∧ firmwareObject p.object.toNat = false → s.chip.objectCheck (some w) false cmREAD p.object.toNat
      p.element.toNat p.type.toNat = (stOK, some x) → p.data = [] ∧ x.size ≤ s.chip.expedited v false ∧ s.chip.objectHeld p.object.toNat =
      false ∧ s.chip.ddp.out = [] → Runs (.ddpRead v p) s fun t =>
      if s.chip.viaFree v then t =
        { s with chip := (s.chip.satInc DDP_CNT0_OK).viaPut v ([0x11, 1] ++ leBytesOf 3 p.src.toNat ++ leBytesOf 3 (s.chip.get DDP_SNI_SNI) ++ [p.session, p.tid] ++ leBytesOf 3 p.object.toNat ++ [p.element, BitVec.ofNat 8 stOK, BitVec.ofNat 8 x.ty, 0, 0] ++ leBytesOf 2 (leBytesOf x.size x.val).length ++ (leBytesOf x.size x.val)) }
        else t.chip.ddp.out = [(v, [0x11, 1] ++ leBytesOf 3 p.src.toNat ++ leBytesOf 3 (s.chip.get DDP_SNI_SNI) ++ [p.session, p.tid] ++
        leBytesOf 3 p.object.toNat ++ [p.element, BitVec.ofNat 8 stOK, BitVec.ofNat 8 x.ty, 0, 0] ++ leBytesOf 2 (leBytesOf x.size
        x.val).length ++ (leBytesOf x.size x.val))] ∧ s.memKept t) ∧
    (∀ (v : DdpVia) (p : DdpPacket) (st : Nat) (w : Nat), s.chip.zoneUp = true ∧ s.chip.viaServed v = true ∧ s.chip.addressed (asRequest p
      cmREAD) = true → p.auth = false ∧ s.chip.packetSession v p = none → s.chip.rqWorld v p.src.toNat = some w ∧ s.chip.worldMay (some w)
      cmREAD p.object.toNat = true ∧ firmwareObject p.object.toNat = false → s.chip.objectCheck (some w) false cmREAD p.object.toNat
      p.element.toNat p.type.toNat = (st, none) → s.chip.ddp.out = [] → Runs (.ddpRead v p) s fun t =>
      t.chip.get DDP_CNT0_REFUSED = min (s.chip.get DDP_CNT0_REFUSED + 1) 65535 ∧ (if st = stDENIED_WORLD ∨ st = stDENIED_STATE then
        t.chip.pends 704 = true else if s.chip.viaFree v then t =
        { s with chip := (s.chip.satInc DDP_CNT0_REFUSED).viaPut v ([0x11, 1] ++ leBytesOf 3 p.src.toNat ++ leBytesOf 3 (s.chip.get DDP_SNI_SNI) ++ [p.session, p.tid] ++ leBytesOf 3 p.object.toNat ++ [p.element, BitVec.ofNat 8 st, BitVec.ofNat 8 p.type.toNat, 0, 0, 0, 0]) }
        else t.chip.ddp.out = [(v, [0x11, 1] ++ leBytesOf 3 p.src.toNat ++ leBytesOf 3 (s.chip.get DDP_SNI_SNI) ++ [p.session, p.tid] ++
        leBytesOf 3 p.object.toNat ++ [p.element, BitVec.ofNat 8 st, BitVec.ofNat 8 p.type.toNat, 0, 0, 0, 0])]) ∧ s.memKept t) ∧
    (∀ (v : DdpVia) (p : DdpPacket), s.chip.zoneUp = true ∧ s.chip.viaServed v = true ∧ s.chip.addressed (asRequest p cmREAD) = true →
      p.auth = false ∧ s.chip.packetSession v p = none → s.chip.rqWorld v p.src.toNat = none ∧ 0x1000 ≤ p.object.toNat ∧ p.object.toNat ≠
      0xE000 → Runs (.ddpRead v p) s fun t =>
      t.chip.get DDP_CNT0_REFUSED = min (s.chip.get DDP_CNT0_REFUSED + 1) 65535 ∧ t.chip.pends 704 = true ∧ s.memKept t) ∧
    (∀ (v : DdpVia) (p : DdpPacket), (s.chip.viaServed v = false ∨ s.chip.addressed (asRequest p cmREAD) = false) → Runs (.ddpRead v p) s
      fun t =>
      t = s) ∧
    (∀ (v : DdpVia) (p : DdpPacket), s.chip.zoneUp = true ∧ s.chip.viaServed v = true ∧ s.chip.addressed (asRequest p cmWRITE) = true →
      p.auth = false ∧ s.chip.packetSession v p = none → s.chip.rqWorld v p.src.toNat = some 1 ∧ s.chip.flag RST_CAUSE_OPTFAIL = false ∧
      lcPROVISIONED ≤ s.chip.key.lcs ∧ s.chip.key.lcs ≤ lcWORKSHOP → p.object = 0 ∧ p.element = 0 ∧ p.type = 0 ∧ p.data.length = 4 ∧ leNat
      p.data < 2 ^ 18 → s.chip.mayPut 1 .sni = true ∧ s.chip.objectHeld 0 = false → Runs (.ddpWrite v p) s fun t =>
      t.chip.get DDP_SNI_SNI = leNat p.data ∧ t.chip.get DDP_CNT0_OK = min (s.chip.get DDP_CNT0_OK + 1) 65535 ∧ t.chip.pends 717 = true ∧
        s.frame [.ddp, .can, .hbd, .core, .freeCtr] (amongEv [DDP_SNI.addr, DDP_CNT0.addr]) t) ∧
    (∀ (v : DdpVia) (p : DdpPacket) (w : Nat) (x : Elem), s.chip.zoneUp = true ∧ s.chip.viaServed v = true ∧ s.chip.addressed (asRequest p
      cmWRITE) = true → p.auth = false ∧ s.chip.packetSession v p = none → s.chip.rqWorld v p.src.toNat = some w ∧ s.chip.worldMay (some
      w) cmWRITE p.object.toNat = true ∧ firmwareObject p.object.toNat = false → s.chip.objectCheck (some w) false cmWRITE p.object.toNat
      p.element.toNat p.type.toNat = (stOK, some x) → (elemFits x p.data = false ∨ s.chip.expedited v false < p.data.length) → Runs
      (.ddpWrite v p) s fun t =>
      t.chip.get DDP_CNT0_REFUSED = min (s.chip.get DDP_CNT0_REFUSED + 1) 65535 ∧ s.frame [.ddp, .can, .hbd, .freeCtr] (among
        [DDP_CNT0.addr]) t) ∧
    (∀ (v : DdpVia) (p : DdpPacket) (w : Nat) (x : Elem), s.chip.zoneUp = true ∧ s.chip.viaServed v = true ∧ s.chip.addressed (asRequest p
      cmDESC) = true → p.auth = false ∧ s.chip.packetSession v p = none → s.chip.rqWorld v p.src.toNat = some w ∧ s.chip.worldMay (some w)
      cmDESC p.object.toNat = true ∧ firmwareObject p.object.toNat = false → p.element = 0 ∧ s.chip.objectCheck (some w) false cmDESC
      p.object.toNat 0 p.type.toNat = (stOK, some x) → p.data = [] ∧ 16 ≤ s.chip.expedited v false ∧ s.chip.ddp.out = [] → Runs (.ddpDesc
      v p) s fun t =>
      if s.chip.viaFree v then t =
        { s with chip := (s.chip.satInc DDP_CNT0_OK).viaPut v ([0x11, 3] ++ leBytesOf 3 p.src.toNat ++ leBytesOf 3 (s.chip.get DDP_SNI_SNI) ++ [p.session, p.tid] ++ leBytesOf 3 p.object.toNat ++ [p.element, BitVec.ofNat 8 stOK, BitVec.ofNat 8 x.ty, 0, 0] ++ leBytesOf 2 (s.chip.descRecord p.object.toNat x).length ++ (s.chip.descRecord p.object.toNat x)) }
        else t.chip.ddp.out = [(v, [0x11, 3] ++ leBytesOf 3 p.src.toNat ++ leBytesOf 3 (s.chip.get DDP_SNI_SNI) ++ [p.session, p.tid] ++
        leBytesOf 3 p.object.toNat ++ [p.element, BitVec.ofNat 8 stOK, BitVec.ofNat 8 x.ty, 0, 0] ++ leBytesOf 2 (s.chip.descRecord
        p.object.toNat x).length ++ (s.chip.descRecord p.object.toNat x))]) ∧
    (∀ (v : DdpVia) (p : DdpPacket) (i : Nat) (n : Nat), s.chip.zoneUp = true ∧ s.chip.viaServed v = true ∧ s.chip.addressed (asRequest p
      cmOPEN) = true → p.auth = false ∧ s.chip.packetSession v p = none → s.chip.rqEntry v p.src.toNat = some i ∧ s.chip.flag
      RST_CAUSE_OPTFAIL = false → p.data.length = 9 ∧ 1 ≤ leNat (p.data.take 1) ∧ leNat (p.data.take 1) ≤ 4 ∧ bit (s.chip.get
      (DDP_RQ_WORLDS i)) (leNat (p.data.take 1)) = true → s.chip.freeSession = some n → s.chip.keyCheck (s.chip.get (DDP_RQ_KSLOT i)) 18
      (leNat (p.data.take 1)) [1, 2] (some useDERIVE) none = none → Runs (.ddpOpen v p) s fun t =>
      ((t.chip.session n).map (fun x => (x.via, x.peer, x.world, x.slot, x.rc, x.expiry)) = some (v, p.src.toNat, leNat (p.data.take 1),
        s.chip.get (DDP_RQ_KSLOT i), 0, s.chip.frc + s.chip.get DDP_SLEASE_S * 1000000000)) ∧ ((t.chip.session n).map (fun x => x.key) =
        some (BitVec.ofNat 256 (beNat (kdf (s.chip.slot (s.chip.get (DDP_RQ_KSLOT i))).mat (List.replicate 32 0) ([0x44, 0x44, 0x50, 0x53]
        ++ p.data.drop 1 ++ s.chip.randomBytes 8 ++ leBytesOf 3 (s.chip.get DDP_SNI_SNI) ++ leBytesOf 3 p.src.toNat ++ List.replicate 38
        0) 256)))) ∧ look none t.chip.key.bound n = some ((s.chip.slot (s.chip.get (DDP_RQ_KSLOT i))).anc ++ [s.chip.get (DDP_RQ_KSLOT
        i)]) ∧ (t.chip.slot (s.chip.get (DDP_RQ_KSLOT i))).uses = min ((s.chip.slot (s.chip.get (DDP_RQ_KSLOT i))).uses + 1) 65535 ∧
        t.chip.pends 707 = true ∧ s.frame [.ddp, .key, .can, .hbd, .core, .freeCtr] (amongEv [DDP_CNT0.addr, DDP_STAT.addr]) t) ∧
    (∀ (v : DdpVia) (p : DdpPacket) (i : Nat), s.chip.zoneUp = true ∧ s.chip.viaServed v = true ∧ s.chip.addressed (asRequest p cmOPEN) =
      true → p.auth = false ∧ s.chip.packetSession v p = none → s.chip.rqEntry v p.src.toNat = some i ∧ s.chip.flag RST_CAUSE_OPTFAIL =
      false → bit (s.chip.get (DDP_RQ_WORLDS i)) (leNat (p.data.take 1)) = false → Runs (.ddpOpen v p) s fun t =>
      t.chip.ddp.sessions = s.chip.ddp.sessions ∧ t.chip.key = s.chip.key ∧ t.chip.get DDP_CNT0_REFUSED = min (s.chip.get DDP_CNT0_REFUSED
        + 1) 65535 ∧ t.chip.pends 704 = true) ∧
    (∀ (v : DdpVia) (p : DdpPacket) (w : Nat), s.chip.zoneUp = true ∧ s.chip.viaServed v = true ∧ s.chip.addressed (asRequest p cmCLOSE) =
      true → p.auth = false ∧ s.chip.packetSession v p = none → s.chip.rqWorld v p.src.toNat = some w ∧ s.chip.flag RST_CAUSE_OPTFAIL =
      false → Runs (.ddpClose v p) s fun t =>
      t.chip.get DDP_CNT0_REFUSED = min (s.chip.get DDP_CNT0_REFUSED + 1) 65535 ∧ s.frame [.ddp, .can, .hbd, .freeCtr] (among
        [DDP_CNT0.addr]) t) ∧
    (∀ (v : DdpVia) (p : DdpPacket) (n : Fin 64) (x : DdpSession), s.chip.zoneUp = true ∧ s.chip.viaServed v = true ∧ s.chip.addressed
      (asRequest p cmCLOSE) = true → p.auth = true ∧ p.data = [] ∧ p.session.toNat = n.val ∧ s.chip.session n.val = some x ∧ sameLink
      x.via v = true ∧ x.peer = p.src.toNat → s.chip.gateShut (.ses n.val) = false ∧ p.tid.toNat = (x.rc + 1) % 256 ∧ p.tag = ddpTag x.key
      (x.rc + 1) false (packetBody (asRequest p cmCLOSE)) → s.chip.flag RST_CAUSE_OPTFAIL = false ∧ s.chip.ddp.xfers = [] → Runs
      (.ddpClose v p) s fun t =>
      t.chip.session n.val = none ∧ look none t.chip.key.bound n.val = none ∧ t.chip.get DDP_CNT0_OK = min (s.chip.get DDP_CNT0_OK + 1)
        65535 ∧ t.chip.pends 707 = true ∧ t.chip.pends 708 = true) ∧
    (∀ (v : DdpVia) (p : DdpPacket) (n : Fin 64) (x : DdpSession), s.chip.zoneUp = true ∧ s.chip.viaServed v = true ∧ s.chip.addressed
      (asRequest p cmWRITE) = true → p.auth = true ∧ p.session.toNat = n.val ∧ s.chip.session n.val = some x ∧ sameLink x.via v = true ∧
      x.peer = p.src.toNat → s.chip.gateShut (.ses n.val) = false ∧ p.tid.toNat = x.rc % 256 ∧ p.tag = ddpTag x.key x.rc false (packetBody
      (asRequest p cmWRITE)) → s.chip.ddp.out = [] → Runs (.ddpWrite v p) s fun t =>
      (if s.chip.viaFree v then t.chip = (s.chip.updSession n.val fun y =>
        { y with expiry := s.chip.frc + s.chip.get DDP_SLEASE_S * 1000000000 }).viaPut v x.last else t.chip.ddp.out = [(v, x.last)]) ∧
        s.memKept t) ∧
    (∀ (v : DdpVia) (p : DdpPacket) (n : Fin 64) (x : DdpSession), s.chip.zoneUp = true ∧ s.chip.viaServed v = true ∧ s.chip.addressed
      (asRequest p cmWRITE) = true → p.session.toNat = n.val ∧ s.chip.session n.val = some x ∧ sameLink x.via v = true ∧ x.peer =
      p.src.toNat → s.chip.gateShut (.ses n.val) = false ∧ p.auth = false ∧ p.tid.toNat = (x.rc + 1) % 256 → Runs (.ddpWrite v p) s fun t
      =>
      t.chip.get DDP_CNT1_TAGFAIL = min (s.chip.get DDP_CNT1_TAGFAIL + 1) 255 ∧ t.chip.flag DDP_STAT_AUTHFAIL = true ∧ t.chip.pends 705 =
        true ∧ t.chip.session n.val = some x ∧ s.memKept t) ∧
    (∀ (n : Fin 64) (x : DdpSession), s.chip.zoneUp = true → s.chip.session n.val = some x ∧ x.expiry ≤ s.chip.frc ∧ s.chip.clm.running =
      none ∧ s.chip.ddp.xfers = [] → Runs (.ddpSessionExpiry n) s fun t =>
      t.chip.session n.val = none ∧ look none t.chip.key.bound n.val = none ∧ t.chip.pends 708 = true) ∧
    (∀ (ch : Fin 2) (bs : List Byte), s.chip.zoneUp = true ∧ s.chip.viaServed (.hat ch) = true → leNat (bs.take 1) / 64 ≠ 2 ∧ parsePacket
      bs = none → Runs (.ddpPacket (.hat ch bs)) s fun t =>
      t.chip.get DDP_CNT1_MALFORMED = min (s.chip.get DDP_CNT1_MALFORMED + 1) 65535 ∧ t.chip.pends 716 = true ∧ s.frame [.core] (amongEv
        [DDP_CNT1.addr]) t) ∧
    (∀ (ch : Fin 2) (bs : List Byte) (p : DdpPacket), s.chip.viaServed (.hat ch) = true ∧ leNat (bs.take 1) / 64 ≠ 2 ∧ parsePacket bs =
      some p → Runs (.ddpPacket (.hat ch bs)) s fun t =>
      t = (if s.chip.zoneUp then s.packetIn (.hat ch) p else s)) ∧
    (∀ (a : Agent) (i : Fin 64) (v : W32) (n : Nat) (p : DdpPacket) (x : Elem), s.chip.admits a = true ∧ a.vf = none ∧ s.chip.localIndex 64
      5 i.val = some n ∧ s.chip.poolWorld 5 n = some (s.chip.worldOfAgent a) → s.chip.session n = none ∧ s.chip.flag (SES_RES_BUSY n) =
      false ∧ s.chip.ddp.loaded = true → s.chip.localHeader n = some p ∧ p.cmd = 1 ∧ s.chip.localLength n p = 0 ∧ s.chip.worldMay (some
      (s.chip.worldOfAgent a)) 1 p.object.toNat = true ∧ firmwareObject p.object.toNat = false → s.chip.objectCheck (some
      (s.chip.worldOfAgent a)) true 1 p.object.toNat p.element.toNat p.type.toNat = (stOK, some x) → p.data = [] ∧ x.ty ≠ tyDOMAIN ∧
      x.size ≤ s.chip.get (SES_BUF_LEN n) ∧ s.chip.objectHeld p.object.toNat = false → (s.busWrite
      { mid := 18, world := s.chip.worldOfAgent a, vf := none } (s.chip.get (SES_BUF_ADDR n)) (leBytesOf x.size x.val)).1 = true → Runs
      (.sesGo a i v) s fun t =>
      t.mem = (s.busWrite { mid := 18, world := s.chip.worldOfAgent a, vf := none } (s.chip.get (SES_BUF_ADDR n)) (leBytesOf x.size
        x.val)).2.mem ∧ t.chip.rdN (SES_RES n) = 0 ∧ t.chip.get (SES_BUF_RESLEN n) = x.size % 2 ^ 32 ∧ s.chip.frame [] (among [(SES_RES
        n).addr, (SES_BUF n).addr]) t.chip) ∧
    (∀ (a : Agent) (i : Fin 64) (v : W32) (n : Nat), s.chip.admits a = true ∧ a.vf = none ∧ s.chip.localIndex 64 5 i.val = some n ∧
      s.chip.poolWorld 5 n = some (s.chip.worldOfAgent a) → s.chip.session n = none ∧ s.chip.flag (SES_RES_BUSY n) = false ∧
      s.chip.ddp.loaded = true → s.chip.localHeader n = none → Runs (.sesGo a i v) s fun t =>
      t.chip.rdN (SES_RES n) = stRANGE * 65536 ∧ s.frame [] (among [(SES_RES n).addr, (SES_BUF n).addr]) t) ∧
    (∀ (a : Agent) (w : Fin 4) (v : W32), s.chip.worldOfAgent a ≠ w.val + 1 ∧ s.chip.admits a = true → Runs (.ddpFwqAnswer a w v) s fun t
      =>
      t = s) ∧
    (∀ (a : Agent) (w : Fin 4) (v : W32) (r : DdpFwReq) (dv : DdpVia) (p : DdpPacket) (st : Nat) (data : List Byte), s.chip.admits a = true
      ∧ s.chip.worldOfAgent a = w.val + 1 → s.chip.get (DDP_FWQ_CI_N w.val) = 0 ∧ s.chip.get (DDP_FWQ_PI_N w.val) = 1 ∧ 1 ≤ s.chip.get
      (DDP_FWQ_CFG_LOG2N w.val) ∧ v.toNat = 1 → s.chip.ddp.fwReqs = [r] ∧ r.world = w.val + 1 ∧ r.index = 0 ∧ r.waiter = .remote dv p none
      → (s.busRead (ddpTagOf (w.val + 1)) (s.chip.get (DDP_FWQ_BASE_RING w.val)) 64).1 = some data ∧ leNat (slice data 34 2) = 0 ∧ leNat
      (slice data 32 1) = st → Runs (.ddpFwqAnswer a w v) s fun t =>
      t.chip.ddp.fwReqs = [] ∧ t.chip.get (DDP_FWQ_CI_N w.val) = 1 ∧ if st = stOK then t.chip.get DDP_CNT0_OK = min (s.chip.get
        DDP_CNT0_OK + 1) 65535 else t.chip.get DDP_CNT0_REFUSED = min (s.chip.get DDP_CNT0_REFUSED + 1) 65535 ∧ s.memKept t) ∧
    (∀ (w : Fin 4) (r : DdpFwReq) (dv : DdpVia) (p : DdpPacket), s.chip.zoneUp = true → s.chip.ddp.fwReqs = [r] ∧ r.world = w.val + 1 ∧
      r.deadline ≤ s.chip.frc ∧ r.waiter = .remote dv p none → Runs (.ddpFwTimeout w) s fun t =>
      t.chip.ddp.fwReqs = [] ∧ t.chip.get (DDP_FWQ_CNT_TIMEOUTS w.val) = min (s.chip.get (DDP_FWQ_CNT_TIMEOUTS w.val) + 1) 4294967295 ∧
        t.chip.get DDP_CNT0_REFUSED = min (s.chip.get DDP_CNT0_REFUSED + 1) 65535 ∧ t.chip.pends 714 = true ∧ s.memKept t) ∧
    (∀ (w : Fin 4), (∀ r ∈ s.chip.ddp.fwReqs, r.world = w.val + 1 → s.chip.frc < r.deadline) → Runs (.ddpFwTimeout w) s fun t =>
      t = s) ∧
    (∀ (frame : List Byte), s.chip.zoneUp = true ∧ s.chip.ddp.loaded = true ∧ s.chip.flag DDP_CTL_EN = true ∧ s.chip.flag DDP_CTL_UDPEN =
      true → frame.length = 60 ∧ slice frame 12 10 = [8, 6, 0, 1, 8, 0, 6, 4, 0, 1] ∧ s.chip.rdN DDP_IP4 ≠ 0 ∧ beNat (slice frame 38 4) =
      s.chip.rdN DDP_IP4 → Runs (.ddpArp frame) s fun t =>
      t.chip.ddp.frames = s.chip.ddp.frames ++ [slice frame 22 6 ++ beBytesOf 6 (s.chip.get DDP_MAC_ADDR) ++ [8, 6, 0, 1, 8, 0, 6, 4, 0,
        2] ++ beBytesOf 6 (s.chip.get DDP_MAC_ADDR) ++ slice frame 38 4 ++ slice frame 22 10 ++ List.replicate 18 0] ∧ s.frame [.ddp,
        .freeCtr] (among []) t) ∧
    (∀ (frame : List Byte), (s.chip.ddp.loaded = false ∨ s.chip.flag DDP_CTL_EN = false ∨ s.chip.flag DDP_CTL_UDPEN = false) → Runs
      (.ddpArp frame) s fun t =>
      t = s) ∧
    (∀ (a : Agent) (v : W32), s.chip.admits a = true ∧ s.chip.worldOfAgent a = 1 → Runs (.ddpClrcnt a v) s fun t =>
      t.chip.rdN DDP_CNT0 = 0 ∧ t.chip.rdN DDP_CNT1 = 0 ∧ t.chip.rdN DDP_CTL = v.toNat % 16 ∧ s.frame [.ddp, .core] (amongEv
        [DDP_CNT0.addr, DDP_CNT1.addr, DDP_CTL.addr]) t)

/-- An accepted DWRITE or DREAD takes a free context with the length, and the object is held (R397, R399). Segments in order are gathered;
  one that arrives twice is discarded, one out of order is answered by DACK with SEQUENCE, one that does not fit is malformed with EV0716
  (R398). DACK acknowledges. A write's DEND with a wrong CRC or too little data releases the context with INTEGRITY and leaves the object
  unchanged; a DEND without transfer is refused. ABORT and STO end a transfer at once, counted, with EV0709. An uncorrectable segment
  aborts its transfer with EV0718 (R411). -/
def Obligations.DictionaryTransfers : Prop :=
  ∀ (s : State),
    (∀ (v : DdpVia) (p : DdpPacket) (w : Nat) (x : Elem) (k : Nat), s.chip.zoneUp = true ∧ s.chip.viaServed v = true ∧ s.chip.addressed
      (asRequest p cmDWRITE) = true → p.auth = false ∧ s.chip.packetSession v p = none → s.chip.rqWorld v p.src.toNat = some w ∧
      s.chip.worldMay (some w) cmDWRITE p.object.toNat = true ∧ firmwareObject p.object.toNat = false → s.chip.objectCheck (some w) false
      cmDWRITE p.object.toNat p.element.toNat p.type.toNat = (stOK, some x) → p.data.length = 8 ∧ leNat (slice p.data 0 4) = 0 ∧ leNat
      (slice p.data 4 4) = x.size ∧ x.put ≠ .segments ∧ x.size ≤ 2048 → s.chip.objectHeld p.object.toNat = false ∧ s.chip.freeXfer = some
      k → Runs (.ddpDwrite v p) s fun t =>
      t.chip.xfer k = some { via := v, head := asRequest p cmDWRITE, world := w, write := true, total := x.size, lastAt := s.chip.frc } ∧
        t.chip.objectHeld p.object.toNat = true ∧ t.chip.get DDP_CNT0_OK = min (s.chip.get DDP_CNT0_OK + 1) 65535 ∧ s.frame [.ddp, .can,
        .hbd, .freeCtr] (among [DDP_CNT0.addr, DDP_STAT.addr]) t) ∧
    (∀ (v : DdpVia) (p : DdpPacket) (w : Nat) (x : Elem), s.chip.zoneUp = true ∧ s.chip.viaServed v = true ∧ s.chip.addressed (asRequest p
      cmDWRITE) = true → p.auth = false ∧ s.chip.packetSession v p = none → s.chip.rqWorld v p.src.toNat = some w ∧ s.chip.worldMay (some
      w) cmDWRITE p.object.toNat = true ∧ firmwareObject p.object.toNat = false → s.chip.objectCheck (some w) false cmDWRITE
      p.object.toNat p.element.toNat p.type.toNat = (stOK, some x) → p.data.length = 8 ∧ leNat (slice p.data 0 4) = 0 ∧ leNat (slice
      p.data 4 4) = x.size ∧ x.put ≠ .segments ∧ x.size ≤ 2048 → (s.chip.objectHeld p.object.toNat = true ∨ s.chip.freeXfer = none) → Runs
      (.ddpDwrite v p) s fun t =>
      t.chip.ddp.xfers = s.chip.ddp.xfers ∧ t.chip.get DDP_CNT0_REFUSED = min (s.chip.get DDP_CNT0_REFUSED + 1) 65535 ∧ s.frame [.ddp,
        .can, .hbd, .freeCtr] (among [DDP_CNT0.addr]) t) ∧
    (∀ (v : DdpVia) (p : DdpPacket) (w : Nat) (x : Elem) (k : Nat), s.chip.zoneUp = true ∧ s.chip.viaServed v = true ∧ s.chip.addressed
      (asRequest p cmDREAD) = true → p.auth = false ∧ s.chip.packetSession v p = none → s.chip.rqWorld v p.src.toNat = some w ∧
      s.chip.worldMay (some w) cmDREAD p.object.toNat = true ∧ firmwareObject p.object.toNat = false → s.chip.objectCheck (some w) false
      cmDREAD p.object.toNat p.element.toNat p.type.toNat = (stOK, some x) → p.data = [0, 0, 0, 0, 0, 0, 0, 0] ∧ x.ty ≠ tyDOMAIN ∧ 1 ≤
      x.size ∧ x.size ≤ s.chip.segmentSize v → s.chip.objectHeld p.object.toNat = false ∧ s.chip.freeXfer = some k → Runs (.ddpDread v p)
      s fun t =>
      t.chip.xfer k = some
        { via := v, head := asRequest p cmDREAD, world := w, write := false, total := x.size, seg := 1, data := leBytesOf x.size x.val, lastAt := s.chip.frc, ended := true }
        ∧ t.chip.get DDP_CNT0_OK = min (s.chip.get DDP_CNT0_OK + 1) 65535 ∧ s.frame [.ddp, .can, .hbd, .freeCtr] (among [DDP_CNT0.addr,
        DDP_STAT.addr]) t) ∧
    (∀ (v : DdpVia) (tid : Byte) (n : BitVec 16) (last : Bool) (data : List Byte) (x : Nat) (z : DdpXfer), s.chip.zoneUp = true ∧
      s.chip.viaServed v = true → (((List.range 16).find? fun i => match s.chip.xfer i with | some t => segmentOf v tid t | none => false)
      = some x ∧ s.chip.xfer x = some z) → n.toNat = z.seg + 1 ∧ n.toNat < s.chip.xferSegments z ∧ last = false ∧ s.chip.segmentSize z.via
      ≤ data.length ∧ n.toNat < z.acked + s.chip.ddpCredit → z.head.object ≠ 0xC801 → Runs (.ddpSegment v tid n last data false) s fun t
      =>
      t.chip.xfer x = some { z with seg := n.toNat, data := z.data ++ data.take (s.chip.segmentSize z.via), lastAt := s.chip.frc } ∧
        s.frame [.ddp] (among []) t) ∧
    (∀ (v : DdpVia) (tid : Byte) (n : BitVec 16) (last : Bool) (data : List Byte) (x : Nat) (z : DdpXfer), s.chip.zoneUp = true ∧
      s.chip.viaServed v = true → (((List.range 16).find? fun i => match s.chip.xfer i with | some t => segmentOf v tid t | none => false)
      = some x ∧ s.chip.xfer x = some z) → 1 ≤ n.toNat ∧ n.toNat ≤ s.chip.xferSegments z ∧ last = decide (n.toNat = s.chip.xferSegments z)
      ∧ s.chip.segmentSize z.via ≤ data.length → (n.toNat ≤ z.seg ∨ z.seg + 1 < n.toNat) → Runs (.ddpSegment v tid n last data false) s
      fun t =>
      t.chip.xfer x = (if n.toNat ≤ z.seg then some { z with lastAt := s.chip.frc } else some
        { z with lastAt := s.chip.frc, acked := z.seg }) ∧ s.frame [.ddp, .can, .hbd, .freeCtr] (among []) t) ∧
    (∀ (v : DdpVia) (tid : Byte) (n : BitVec 16) (last : Bool) (data : List Byte) (x : Nat) (z : DdpXfer), s.chip.zoneUp = true ∧
      s.chip.viaServed v = true → (((List.range 16).find? fun i => match s.chip.xfer i with | some t => segmentOf v tid t | none => false)
      = some x ∧ s.chip.xfer x = some z) → (n.toNat = 0 ∨ s.chip.xferSegments z < n.toNat ∨ last ≠ decide (n.toNat = s.chip.xferSegments
      z)) → Runs (.ddpSegment v tid n last data false) s fun t =>
      t.chip.ddp = s.chip.ddp ∧ t.chip.get DDP_CNT1_MALFORMED = min (s.chip.get DDP_CNT1_MALFORMED + 1) 65535 ∧ t.chip.pends 716 = true) ∧
    (∀ (v : DdpVia) (tid : Byte) (n : BitVec 16) (last : Bool) (data : List Byte) (x : Nat) (z : DdpXfer), s.chip.zoneUp = true ∧
      s.chip.viaServed v = true → (((List.range 16).find? fun i => match s.chip.xfer i with | some t => segmentOf v tid t | none => false)
      = some x ∧ s.chip.xfer x = some z) → Runs (.ddpSegment v tid n last data true) s fun t =>
      t.chip.xfer x = none ∧ t.chip.get DDP_CNT1_ABORTS = min (s.chip.get DDP_CNT1_ABORTS + 1) 65535 ∧ t.chip.pends 718 = true ∧
        t.chip.pends 709 = true ∧ t.chip.ddp.sessions = s.chip.ddp.sessions) ∧
    (∀ (v : DdpVia) (p : DdpPacket) (x : Nat) (z : DdpXfer), s.chip.zoneUp = true ∧ s.chip.viaServed v = true ∧ s.chip.addressed
      { p with cmd := 6 } = true → p.auth = false ∧ s.chip.packetXfer v p = some x ∧ s.chip.xfer x = some z ∧ z.session = none → z.write =
      false ∧ z.ended = true ∧ p.segno.toNat = z.seg ∧ z.acked ≤ z.seg ∧ p.status ≠ 8 → Runs (.ddpDack v p) s fun t =>
      t.chip.xfer x = some { z with acked := z.seg, lastAt := s.chip.frc } ∧ s.frame [.ddp] (among []) t) ∧
    (∀ (v : DdpVia) (p : DdpPacket) (x : Nat) (z : DdpXfer), s.chip.zoneUp = true ∧ s.chip.viaServed v = true ∧ s.chip.addressed
      { p with cmd := 6 } = true → p.auth = false ∧ s.chip.packetXfer v p = some x ∧ s.chip.xfer x = some z ∧ z.session = none → z.write =
      true → Runs (.ddpDack v p) s fun t =>
      t = s) ∧
    (∀ (v : DdpVia) (p : DdpPacket) (x : Nat) (z : DdpXfer), s.chip.zoneUp = true ∧ s.chip.viaServed v = true ∧ s.chip.addressed
      { p with cmd := 7 } = true → p.auth = false ∧ s.chip.packetXfer v p = some x ∧ s.chip.xfer x = some z ∧ z.session = none → p.resp =
      false ∧ z.write = true ∧ p.data.length = 4 → (z.data.length ≠ z.total ∨ leNat p.data ≠ crc32 z.data) → Runs (.ddpDend v p) s fun t
      =>
      t.chip.xfer x = none ∧ t.chip.get DDP_CNT0_REFUSED = min (s.chip.get DDP_CNT0_REFUSED + 1) 65535 ∧ s.frame [.ddp, .can, .hbd,
        .freeCtr] (among [DDP_CNT0.addr, DDP_STAT.addr]) t) ∧
    (∀ (v : DdpVia) (p : DdpPacket) (x : Nat) (z : DdpXfer), s.chip.zoneUp = true ∧ s.chip.viaServed v = true ∧ s.chip.addressed
      { p with cmd := 7 } = true → p.auth = false ∧ s.chip.packetXfer v p = some x ∧ s.chip.xfer x = some z ∧ z.session = none → p.resp =
      false ∧ z.write = true ∧ p.data.length = 4 ∧ z.data.length = 4 ∧ z.total = 4 ∧ leNat p.data = crc32 z.data → z.head.object = 0 ∧
      z.head.element = 0 ∧ leNat z.data < 2 ^ 18 → Runs (.ddpDend v p) s fun t =>
      t.chip.get DDP_SNI_SNI = leNat z.data ∧ t.chip.xfer x = none ∧ t.chip.pends 717 = true ∧ t.chip.get DDP_CNT0_OK = min (s.chip.get
        DDP_CNT0_OK + 1) 65535 ∧ s.memKept t) ∧
    (∀ (v : DdpVia) (p : DdpPacket) (x : Nat) (z : DdpXfer), s.chip.zoneUp = true ∧ s.chip.viaServed v = true ∧ s.chip.addressed
      { p with cmd := 7 } = true → p.auth = false ∧ s.chip.packetXfer v p = some x ∧ s.chip.xfer x = some z ∧ z.session = none → p.resp =
      true ∧ z.write = false ∧ z.ended = true → Runs (.ddpDend v p) s fun t =>
      t.chip.xfer x = none ∧ s.frame [.ddp] (among [DDP_STAT.addr]) t) ∧
    (∀ (v : DdpVia) (p : DdpPacket) (w : Nat), s.chip.zoneUp = true ∧ s.chip.viaServed v = true ∧ s.chip.addressed { p with cmd := 7 } =
      true → p.auth = false ∧ p.resp = false ∧ s.chip.packetXfer v p = none ∧ s.chip.packetSession v p = none ∧ s.chip.rqWorld v
      p.src.toNat = some w ∧ s.chip.flag RST_CAUSE_OPTFAIL = false → Runs (.ddpDend v p) s fun t =>
      t.chip.get DDP_CNT0_REFUSED = min (s.chip.get DDP_CNT0_REFUSED + 1) 65535 ∧ s.frame [.ddp, .can, .hbd, .freeCtr] (among
        [DDP_CNT0.addr]) t) ∧
    (∀ (v : DdpVia) (p : DdpPacket) (x : Nat) (z : DdpXfer), s.chip.zoneUp = true ∧ s.chip.viaServed v = true ∧ s.chip.addressed
      { p with cmd := 8 } = true → p.auth = false ∧ s.chip.packetXfer v p = some x ∧ s.chip.xfer x = some z ∧ z.session = none → Runs
      (.ddpAbort v p) s fun t =>
      t.chip.xfer x = none ∧ t.chip.get DDP_CNT1_ABORTS = min (s.chip.get DDP_CNT1_ABORTS + 1) 255 ∧ t.chip.pends 709 = true ∧ s.frame
        [.ddp, .core] (amongEv [DDP_CNT1.addr, DDP_STAT.addr]) t) ∧
    (∀ (x : Fin 16) (z : DdpXfer), s.chip.zoneUp = true ∧ s.chip.xfer x.val = some z ∧ z.session = none ∧ s.chip.ddp.out = [] → z.lastAt +
      s.chip.get DDP_LIM_STO * 1000000 ≤ s.chip.frc → Runs (.ddpTransferTimeout x) s fun t =>
      t.chip.xfer x.val = none ∧ t.chip.get DDP_CNT1_ABORTS = min (s.chip.get DDP_CNT1_ABORTS + 1) 255 ∧ t.chip.pends 709 = true ∧ if
        s.chip.viaFree z.via then t.chip.ddp.out = [] else t.chip.ddp.out = [(z.via, [0x10, 8] ++ leBytesOf 3 z.head.src.toNat ++
        leBytesOf 3 (s.chip.get DDP_SNI_SNI) ++ [z.head.session, z.head.tid] ++ leBytesOf 3 z.head.object.toNat ++ [z.head.element, 0x0B,
        0, 0, 0, 0, 0])] ∧ s.frame [.ddp, .can, .hbd, .core, .freeCtr] (amongEv [DDP_CNT1.addr, DDP_STAT.addr]) t) ∧
    (∀ (x : Fin 16) (z : DdpXfer), s.chip.xfer x.val = some z ∧ s.chip.frc < z.lastAt + s.chip.get DDP_LIM_STO * 1000000 → Runs
      (.ddpTransferTimeout x) s fun t =>
      t = s)

/-! ### Hatbox and Seam -/

/-- A pulse adds 4,096 / PPR ticks (R481); a metre is registered when the tracker passes it, with odometer, mirror and TOLL (R482, R484).
  PPS slews, steps or leaves the RTC (R486). Records carry R488's layout and chain; a SEAL covers the unsealed ones (R490). Tampers set
  their bit with a record, and 8, 12 and 13 break the seal (R499); the plausibility rules begin and end 5 and 6 (R500). Power states
  change as R478 and R479 say. A lockstep mismatch resets the Hatbox alone (R476). Nothing of this touches another block. -/
def Obligations.HatboxMeasuring : Prop :=
  ∀ (s : State),
    (∀ (width : Nat), s.chip.variantH = true ∧ s.chip.hbx.power = .active → 10000 ≤ width → Runs (.hbxPulse width) s fun t =>
      t.chip.hbx.pos = s.chip.hbx.pos + 4096 / s.chip.hbx.ppr ∧ t.chip.hbx.pulseAt = some s.chip.now ∧ t.chip.hbx.secTicks =
        s.chip.hbx.secTicks + 4096 / s.chip.hbx.ppr ∧ t.chip.hbx.winTicks = s.chip.hbx.winTicks + 4096 / s.chip.hbx.ppr ∧ t.chip.hbx.odo =
        s.chip.hbx.odo ∧ t.chip.hbx.recs = s.chip.hbx.recs ∧ s.frame [.hbx] (among []) t) ∧
    (∀ (width : Nat), (width < 10000 ∨ s.chip.hbx.power ≠ .active) → Runs (.hbxPulse width) s fun t =>
      t = s) ∧
    (s.chip.variantH = true ∧ s.chip.hbx.power = .active → s.chip.hbx.kcal ≠ 0 ∧ (s.chip.hbx.metre + 1) * 4096 * s.chip.hbx.kcal ≤
      s.chip.hbx.pos * 1000000 → s.chip.hbx.sealedTo < s.chip.hbx.seq → Runs (.metreRegistration) s fun t =>
      t.chip.hbx.metre = s.chip.hbx.metre + 1 ∧ t.chip.hbx.odo = s.chip.hbx.odo + 1 ∧ t.chip.hbx.day = s.chip.hbx.day + 1 ∧
        t.chip.hbx.mirror = (if s.chip.flag SEAM_STAT_LINK then some (s.chip.hbx.odo + 1) else s.chip.hbx.mirror) ∧ (if 0 <
        s.chip.hbx.tollDist ∧ s.chip.hbx.tollDist ≤ s.chip.hbx.toll + 1 then t.chip.hbx.toll = 0 ∧ t.chip.hbx.recs.getLast?.map (fun r =>
        (r.seq, r.type)) = some (s.chip.hbx.seq, 4) else t.chip.hbx.toll = s.chip.hbx.toll + 1 ∧ t.chip.hbx.recs = s.chip.hbx.recs) ∧
        s.frame [.hbx] (among []) t) ∧
    ((s.chip.hbx.pos + 4096 / s.chip.hbx.ppr) * 1000000 < (s.chip.hbx.metre + 1) * 4096 * s.chip.hbx.kcal → Runs (.metreRegistration) s fun
      t =>
      t = s) ∧
    (∀ (t0 : Nat) (err : Int), s.chip.variantH = true ∧ s.chip.hbx.power = .active → s.chip.hbx.rmcA = true ∧ s.chip.hbx.ggaOk = true ∧
      s.chip.hbx.stepDue = none ∧ s.chip.hbx.ppsAt = some t0 → t0 + 999000000 ≤ s.chip.now ∧ s.chip.now ≤ t0 + 1001000000 → err.natAbs ≤
      10000000 → Runs (.hbxPps err) s fun t =>
      t.chip.hbx.slew = err ∧ t.chip.hbx.timeValid = true ∧ t.chip.hbx.discAt = some s.chip.now ∧ t.chip.hbx.stepDue = none ∧ bit
        t.chip.hbx.tampers 9 = false ∧ (bit s.chip.hbx.tampers 9 = false → t.chip.hbx.recs = s.chip.hbx.recs) ∧ s.frame [.hbx, .freeCtr]
        (among []) t) ∧
    (∀ (t0 : Nat) (err : Int), s.chip.variantH = true ∧ s.chip.hbx.power = .active → s.chip.hbx.rmcA = true ∧ s.chip.hbx.ggaOk = true ∧
      s.chip.hbx.stepDue = none ∧ s.chip.hbx.ppsAt = some t0 → t0 + 999000000 ≤ s.chip.now ∧ s.chip.now ≤ t0 + 1001000000 → (10000000 <
      err.natAbs ∧ (s.chip.hbx.discAt = none ∨ err.natAbs ≤ 1000000000)) → Runs (.hbxPps err) s fun t =>
      t.chip.hbx.stepDue = some err ∧ bit t.chip.hbx.tampers 9 = false ∧ (bit s.chip.hbx.tampers 9 = false → t.chip.hbx.recs =
        s.chip.hbx.recs) ∧ s.frame [.hbx, .freeCtr] (among []) t) ∧
    (∀ (t0 d0 : Nat) (err : Int), s.chip.variantH = true ∧ s.chip.hbx.power = .active → s.chip.hbx.rmcA = true ∧ s.chip.hbx.ggaOk = true ∧
      s.chip.hbx.stepDue = none ∧ s.chip.hbx.ppsAt = some t0 → t0 + 999000000 ≤ s.chip.now ∧ s.chip.now ≤ t0 + 1001000000 →
      s.chip.hbx.discAt = some d0 ∧ 43200000000000 + (s.chip.now - d0) < err.natAbs * 43200 ∧ bit s.chip.hbx.tampers 9 = false → 10000000
      < err.natAbs ∧ s.chip.hbx.sealedTo < s.chip.hbx.seq → Runs (.hbxPps err) s fun t =>
      bit t.chip.hbx.tampers 9 = true ∧ t.chip.hbx.stepDue = none ∧ (t.chip.hbx.recs.getLast?.map (fun r => (r.seq, r.type, r.vals)) =
        some (s.chip.hbx.seq, 5, [9, 1, err.natAbs])) ∧ s.frame [.hbx, .freeCtr] (among []) t) ∧
    (∀ (e : Int) (err : Int), s.chip.variantH = true ∧ s.chip.hbx.power = .active → s.chip.hbx.stepDue = some e ∧ s.chip.hbx.slew = 0 ∧ 0 ≤
      (s.chip.hbxUtc : Int) - e * 65536 → s.chip.hbx.sealedTo < s.chip.hbx.seq → Runs (.hbxPps err) s fun t =>
      (t.chip.hbxUtc : Int) = (s.chip.hbxUtc : Int) - e * 65536 ∧ t.chip.hbx.timeValid = true ∧ t.chip.hbx.discAt = some s.chip.now ∧
        t.chip.hbx.stepDue = none ∧ (t.chip.hbx.recs.getLast?.map (fun r => (r.seq, r.type, r.vals)) = some (s.chip.hbx.seq, 7,
        [s.chip.hbxUtc, t.chip.hbxUtc, 0])) ∧ s.frame [.hbx] (among []) t) ∧
    (∀ (rmc : Option Bool) (gga : Option Nat) (lat lon : BitVec 32), s.chip.variantH = true ∧ s.chip.hbx.power = .active → Runs (.hbxNmea
      rmc gga lat lon) s fun t =>
      (t.chip.hbx =
        { s.chip.hbx with rmcA := rmc.getD s.chip.hbx.rmcA, ggaOk := (gga.map fun n => decide (4 ≤ n)).getD s.chip.hbx.ggaOk, lat := lat.toNat, lon := lon.toNat })
        ∧ s.frame [.hbx] (among []) t) ∧
    (s.chip.variantH = true ∧ s.chip.hbx.power = .active → s.chip.flag SEAM_STAT_LINK = true → Runs (.hbxTimeMark) s fun t =>
      t.chip.hbx.mark = some (BitVec.ofNat 128 (tvWord s.chip.hbxUtc + 2 ^ 28 + s.chip.hbxQuality * 2 ^ 24)) ∧ s.frame [.hbx] (among []) t) ∧
    (∀ (h : List Byte), s.chip.variantH = true ∧ s.chip.hbx.power = .active → s.chip.hbx.statusAt + 60000000000 ≤ s.chip.now ∧
      s.chip.hbx.sealedTo < s.chip.hbx.seq → h = leBytesOf 2 0x0D ++ leBytesOf 2 (72 + ((Config.hbxBody 0x0D s.chip.hbxStatus).take
      952).length) ++ leBytesOf 8 s.chip.hbx.seq ++ leBytesOf 16 (tvWord s.chip.hbxUtc) ++ leBytesOf 8 s.chip.hbx.odo ++ leBytesOf 1
      s.chip.hbx.lcs ++ leBytesOf 1 (b2n s.chip.hbx.timeValid + 2 * b2n (s.chip.hbxQuality == 2) + 4 * b2n (bit s.chip.hbx.tampers 5 ||
      bit s.chip.hbx.tampers 6)) ++ [0, 0] ++ (Config.hbxBody 0x0D s.chip.hbxStatus).take 952 → Runs (.hbxStatusTick) s fun t =>
      t.chip.hbx.recs.getLast? = some
        { seq := s.chip.hbx.seq, type := 0x0D, vals := s.chip.hbxStatus, bytes := h ++ (beBytesOf 64 (Config.sha512 (s.chip.hbx.chain ++ h)).toNat).take 32 }
        ∧ t.chip.hbx.seq = s.chip.hbx.seq + 1 ∧ t.chip.hbx.chain = (beBytesOf 64 (Config.sha512 (s.chip.hbx.chain ++ h)).toNat).take 32 ∧
        t.chip.hbx.unsealedAt = some (s.chip.hbx.unsealedAt.getD s.chip.now) ∧ t.chip.hbx.statusAt = s.chip.now ∧ s.frame [.hbx] (among
        []) t) ∧
    (∀ (key : List Byte) (r : HbxRec) (l : List HbxRec) (t0 : Nat), s.chip.variantH = true ∧ s.chip.hbx.power = .active → s.chip.hbx.idkey
      = some key ∧ s.chip.hbxUnsealed = r :: l ∧ s.chip.hbx.unsealedAt = some t0 ∧ t0 + 60000000000 ≤ s.chip.now → s.chip.hbx.sealedTo <
      s.chip.hbx.seq → Runs (.sealRecord) s fun t =>
      (t.chip.hbx.recs.getLast?.map (fun r => (r.seq, r.type, r.vals)) = some (s.chip.hbx.seq, 0xFF, [r.seq, (l.getLast?.getD r).seq])) ∧
        (t.chip.hbx.recs.getLast?.map (fun x => x.bytes.length) = some 600) ∧ t.chip.hbx.sealedTo = (l.getLast?.getD r).seq ∧
        t.chip.hbx.unsealedAt = none ∧ s.frame [.hbx, .freeCtr] (among []) t) ∧
    (s.chip.hbx.unsealedAt = none ∧ s.chip.hbxUnsealed.length < 255 ∧ s.chip.hbx.sealDue = false → Runs (.sealRecord) s fun t =>
      t = s) ∧
    (∀ (code : Fin 16) (vals : List Nat), s.chip.variantH = true ∧ s.chip.hbx.power = .active → code.val ∈ [1, 2, 3, 4, 7, 11] ∧ bit
      s.chip.hbx.tampers code.val = false → s.chip.hbx.sealedTo < s.chip.hbx.seq → Runs (.hbxTamper code true vals) s fun t =>
      bit t.chip.hbx.tampers code.val = true ∧ t.chip.hbx.lcs = s.chip.hbx.lcs ∧ (t.chip.hbx.recs.getLast?.map (fun r => (r.seq, r.type,
        r.vals)) = some (s.chip.hbx.seq, 5, [code.val, 1] ++ vals)) ∧ s.frame [.hbx] (among []) t) ∧
    (∀ (code : Fin 16) (vals : List Nat), s.chip.variantH = true ∧ s.chip.hbx.power = .active → code.val ∈ [8, 12, 13] ∧ bit
      s.chip.hbx.tampers code.val = false ∧ s.chip.hbx.lcs = 2 → s.chip.hbx.sealedTo < s.chip.hbx.seq → Runs (.hbxTamper code true vals) s
      fun t =>
      bit t.chip.hbx.tampers code.val = true ∧ t.chip.hbx.lcs = 3 ∧ (t.chip.hbx.recs.getLast?.map (fun r => (r.seq, r.type, r.vals)) =
        some (s.chip.hbx.seq + 1, 10, [2, 3])) ∧ s.frame [.hbx] (among []) t) ∧
    (∀ (code : Fin 16) (vals : List Nat), s.chip.variantH = true ∧ s.chip.hbx.power = .active → code.val ∈ [1, 2, 3, 4, 7, 8, 11, 12, 13] ∧
      bit s.chip.hbx.tampers code.val = true → s.chip.hbx.sealedTo < s.chip.hbx.seq → Runs (.hbxTamper code false vals) s fun t =>
      bit t.chip.hbx.tampers code.val = false ∧ t.chip.hbx.lcs = s.chip.hbx.lcs ∧ (t.chip.hbx.recs.getLast?.map (fun r => (r.seq, r.type,
        r.vals)) = some (s.chip.hbx.seq, 5, [code.val, 0] ++ vals)) ∧ s.frame [.hbx] (among []) t) ∧
    (∀ (code : Fin 16) (vals : List Nat), s.chip.variantH = true ∧ s.chip.hbx.power = .backup → code.val ∈ [2, 7, 8] ∧ code.val ∉
      s.chip.hbx.latched → Runs (.hbxTamper code true vals) s fun t =>
      t.chip.hbx = { s.chip.hbx with latched := s.chip.hbx.latched ++ [code.val] } ∧ s.frame [.hbx] (among []) t) ∧
    (s.chip.variantH = true ∧ s.chip.hbx.power = .active → s.chip.flag SEAM_STAT_LINK = false ∧ s.chip.hbx.linkAt + 2000000000 ≤ s.chip.now
      → s.chip.hbx.pulseAt = none ∧ s.chip.hbxUnsealed = [] → Runs (.hbxStandbyEntry) s fun t =>
      t.chip.hbx = { s.chip.hbx with power := .standby, probeAt := s.chip.now } ∧ s.frame [.hbx] (among []) t) ∧
    (s.chip.variantH = true ∧ s.chip.hbx.power = .active → (s.chip.flag SEAM_STAT_LINK = true ∨ s.chip.now < s.chip.hbx.linkAt +
      2000000000) → Runs (.hbxStandbyEntry) s fun t =>
      t = s) ∧
    (s.chip.variantH = true ∧ s.chip.hbx.power = .standby ∧ s.chip.hbx.latched = [8] ∧ s.chip.hbx.lcs = 2 → s.chip.hbx.sealedTo <
      s.chip.hbx.seq → Runs (.hbxActiveWake) s fun t =>
      t.chip.hbx.power = .active ∧ t.chip.hbx.latched = [] ∧ t.chip.hbx.lcs = 3 ∧ bit t.chip.hbx.tampers 8 = true ∧
        (t.chip.hbx.recs.getLast?.map (fun r => (r.seq, r.type, r.vals)) = some (s.chip.hbx.seq + 1, 5, [8, 1])) ∧ s.frame [.hbx] (among
        []) t) ∧
    (∀ (pulse : Bool), s.chip.variantH = true ∧ s.chip.hbx.power = .standby ∧ s.chip.hbx.latched = [] → s.chip.hbx.probeAt + 30000000000 ≤
      s.chip.now → Runs (.hbxSensorProbe pulse) s fun t =>
      t.chip.hbx.probeAt = s.chip.now ∧ t.chip.hbx.power = (if pulse then .active else .standby) ∧ s.frame [.hbx] (among []) t) ∧
    (s.chip.variantH = true → Runs (.hbxOff) s fun t =>
      t.chip.hbx.power = .off ∧ t.chip.hbx.timeValid = false ∧ t.chip.hbx.odo = s.chip.hbx.odo ∧ t.chip.hbx.recs = s.chip.hbx.recs ∧
        t.chip.hbx.seq = s.chip.hbx.seq ∧ s.frame [.hbx] (among []) t) ∧
    (s.chip.variantH = true ∧ s.chip.hbx.power = .off ∧ bit s.chip.hbx.tampers 7 = false → s.chip.hbx.sealedTo < s.chip.hbx.seq → Runs
      (.hbxPowerReturn) s fun t =>
      t.chip.hbx.power = .active ∧ t.chip.hbx.timeValid = false ∧ t.chip.hbx.seq = s.chip.hbx.seq + 3 ∧ (t.chip.hbx.recs.getLast?.map (fun
        r => (r.seq, r.type, r.vals)) = some (s.chip.hbx.seq + 2, 5, [7, 1])) ∧ s.frame [.hbx] (among []) t) ∧
    (s.chip.variantH = true ∧ s.chip.hbx.power = .active → s.chip.hbx.lcs = 1 ∧ s.chip.hbx.idkey = none → Runs (.hbxIdkeyGenerated) s fun t
      =>
      t.chip.hbx = { s.chip.hbx with idkey := some (s.chip.randomBytes 512) } ∧ s.frame [.hbx, .freeCtr] (among []) t) ∧
    (s.chip.variantH = true ∧ s.chip.hbx.power = .active → s.chip.hbx.sealedTo < s.chip.hbx.seq → Runs (.hbxLockstepMismatch) s fun t =>
      t.chip.hbx.odo = s.chip.hbx.odo ∧ t.chip.hbx.seq = s.chip.hbx.seq + 2 ∧ t.chip.hbx.power = .active ∧ (t.chip.hbx.recs.getLast?.map
        (fun r => (r.seq, r.type, r.vals)) = some (s.chip.hbx.seq + 1, 15, [1])) ∧ s.frame [.hbx] (among []) t) ∧
    (s.chip.variantH = true ∧ s.chip.hbx.power = .active → s.chip.hbx.dayDone < s.chip.hbxUtc / (86400 * secUnits) ∧ s.chip.hbx.sealedTo <
      s.chip.hbx.seq → Runs (.hbxMidnight) s fun t =>
      t.chip.hbx.day = 0 ∧ t.chip.hbx.dayDone = s.chip.hbxUtc / (86400 * secUnits) ∧ t.chip.hbx.odo = s.chip.hbx.odo ∧
        (t.chip.hbx.recs.getLast?.map (fun r => (r.seq, r.type, r.vals)) = some (s.chip.hbx.seq, 14, [s.chip.hbx.day, s.chip.hbx.odo])) ∧
        s.frame [.hbx] (among []) t) ∧
    (s.chip.hbxUtc / (86400 * secUnits) ≤ s.chip.hbx.dayDone → Runs (.hbxMidnight) s fun t =>
      t = s) ∧
    (∀ (slot : Fin 2) (k : CardType) (n : W128), s.chip.variantH = true ∧ s.chip.hbx.power = .active → s.chip.hbx.sealedTo < s.chip.hbx.seq
      → Runs (.hbxCard slot (.inserted k n)) s fun t =>
      look none t.chip.hbx.cards slot.val = some { type := k, number := n.toNat, at_ := s.chip.now } ∧ bit t.chip.hbx.tampers 14 = false ∧
        (bit s.chip.hbx.tampers 14 = false → t.chip.hbx.recs.getLast?.map (fun r => (r.seq, r.type)) = some (s.chip.hbx.seq, 3)) ∧ s.frame
        [.hbx] (among []) t) ∧
    (∀ (slot : Fin 2), s.chip.variantH = true ∧ s.chip.hbx.power = .active → s.chip.hbx.sealedTo < s.chip.hbx.seq → Runs (.hbxCard slot
      .failed) s fun t =>
      t.chip.hbx.cards = s.chip.hbx.cards ∧ bit t.chip.hbx.tampers 14 = true ∧ (t.chip.hbx.recs.getLast?.map (fun r => (r.seq, r.type,
        r.vals)) = some (s.chip.hbx.seq, 5, [14, 1, slot.val])) ∧ s.frame [.hbx] (among []) t) ∧
    (∀ (slot : Fin 2) (x : HbxCard), s.chip.variantH = true ∧ s.chip.hbx.power = .active → s.chip.hbx.sealedTo < s.chip.hbx.seq → look none
      s.chip.hbx.cards slot.val = some x → Runs (.hbxCard slot .withdrawn) s fun t =>
      look none t.chip.hbx.cards slot.val = none ∧ (t.chip.hbx.recs.getLast?.map (fun r => (r.seq, r.type, r.vals)) = some
        (s.chip.hbx.seq, 3, [slot.val, 0, x.number, 0])) ∧ s.frame [.hbx] (among []) t) ∧
    (∀ (dg : Nat), s.chip.variantH = true ∧ s.chip.hbx.power = .active → s.chip.hbx.rmcA = true ∧ s.chip.hbx.ggaOk = true ∧
      s.chip.hbx.ppsOk = true ∧ s.chip.hbx.kcal ≠ 0 ∧ 500000 ≤ dg → (dg + 200000) * 4096 * s.chip.hbx.kcal < ((s.chip.hbx.winTicks *
      1000000000 : Nat) - (dg * 4096 * s.chip.hbx.kcal : Nat) : Int).natAbs * 10 ∧ bit s.chip.hbx.tampers 5 = false → s.chip.hbx.sealedTo
      < s.chip.hbx.seq → Runs (.hbxGnssWindow dg) s fun t =>
      bit t.chip.hbx.tampers 5 = true ∧ t.chip.hbx.winTicks = 0 ∧ t.chip.hbx.tollGnss = s.chip.hbx.tollGnss + dg / 1000 ∧ t.chip.hbx.odo =
        s.chip.hbx.odo ∧ (t.chip.hbx.recs.getLast?.map (fun r => (r.seq, r.type, r.vals)) = some (s.chip.hbx.seq, 5, [5, 1, dg,
        s.chip.hbx.winTicks])) ∧ s.frame [.hbx] (among []) t) ∧
    (∀ (dg : Nat), s.chip.variantH = true ∧ s.chip.hbx.power = .active → s.chip.hbx.rmcA = true ∧ s.chip.hbx.ggaOk = true ∧
      s.chip.hbx.ppsOk = true ∧ s.chip.hbx.kcal ≠ 0 ∧ 500000 ≤ dg → ((s.chip.hbx.winTicks * 1000000000 : Nat) - (dg * 4096 *
      s.chip.hbx.kcal : Nat) : Int).natAbs * 10 ≤ (dg + 200000) * 4096 * s.chip.hbx.kcal ∧ bit s.chip.hbx.tampers 5 = true →
      s.chip.hbx.sealedTo < s.chip.hbx.seq → Runs (.hbxGnssWindow dg) s fun t =>
      bit t.chip.hbx.tampers 5 = false ∧ t.chip.hbx.winTicks = 0 ∧ t.chip.hbx.tollGnss = s.chip.hbx.tollGnss + dg / 1000 ∧
        (t.chip.hbx.recs.getLast?.map (fun r => (r.seq, r.type, r.vals)) = some (s.chip.hbx.seq, 5, [5, 0, dg, s.chip.hbx.winTicks])) ∧
        s.frame [.hbx] (among []) t) ∧
    (∀ (dg : Nat), s.chip.variantH = true ∧ s.chip.hbx.power = .active → (s.chip.hbx.rmcA = false ∨ s.chip.hbx.ggaOk = false ∨
      s.chip.hbx.ppsOk = false) → Runs (.hbxGnssWindow dg) s fun t =>
      t.chip.hbx = { s.chip.hbx with winTicks := 0 } ∧ s.frame [.hbx] (among []) t) ∧
    (∀ (v at0 : Nat), s.chip.variantH = true ∧ s.chip.hbx.power = .active → s.chip.hbx.kcal ≠ 0 ∧ s.chip.hbx.wheel = some (v, at0) ∧
      s.chip.now ≤ at0 + 1000000000 → (v + 7680) * 4096 * s.chip.hbx.kcal < ((s.chip.hbx.secTicks * 921600000 : Nat) - (v * 4096 *
      s.chip.hbx.kcal : Nat) : Int).natAbs * 10 → s.chip.hbx.wheelRun = 9 ∧ bit s.chip.hbx.tampers 6 = false → s.chip.hbx.sealedTo <
      s.chip.hbx.seq → Runs (.hbxSpeedSecond) s fun t =>
      bit t.chip.hbx.tampers 6 = true ∧ t.chip.hbx.wheelRun = 10 ∧ t.chip.hbx.secTicks = 0 ∧ (t.chip.hbx.recs.getLast?.map (fun r =>
        (r.type, r.vals)) = some (5, [6, 1])) ∧ s.frame [.hbx] (among []) t) ∧
    (∀ (v at0 : Nat), s.chip.variantH = true ∧ s.chip.hbx.power = .active → s.chip.hbx.wheel = some (v, at0) → ((s.chip.hbx.secTicks *
      921600000 : Nat) - (v * 4096 * s.chip.hbx.kcal : Nat) : Int).natAbs * 10 ≤ (v + 7680) * 4096 * s.chip.hbx.kcal → bit
      s.chip.hbx.tampers 6 = true → s.chip.hbx.sealedTo < s.chip.hbx.seq → Runs (.hbxSpeedSecond) s fun t =>
      bit t.chip.hbx.tampers 6 = false ∧ t.chip.hbx.wheelRun = 0 ∧ (t.chip.hbx.recs.getLast?.map (fun r => (r.type, r.vals)) = some (5,
        [6, 0])) ∧ s.frame [.hbx] (among []) t)

/-- Records are pushed once in SEQ order while the Seam is up (R492); one received sets LASTSEQ, EV0774 for a gap, and goes into the ring
  with its stamp, or is dropped with EV0770. A port whose world may send the code passes the command, one at a time (R495); each of the 16
  has R494's effect, or NOT_NOW without its authority. A port without the right gets DENIED_WORLD with EV0772, a busy one is ignored. The
  response ends the wait with EV0771; a stray one is counted; the limit gives TIMEOUT with EV0773 (R495). The link raises EV0778. -/
def Obligations.SeamRecordsAndCommands : Prop :=
  ∀ (s : State),
    (∀ (r : HbxRec), s.chip.variantH = true ∧ s.chip.hbx.power = .active → (s.chip.flag SEAM_STAT_LINK = true ∧ (s.chip.hbx.recs.find? fun
      x => decide (s.chip.hbx.pushed < x.seq)) = some r) → Runs (.hbxRecordPush) s fun t =>
      t.chip.hbx = { s.chip.hbx with pushed := r.seq } ∧ t.chip.seam = { s.chip.seam with arriving := s.chip.seam.arriving ++ [r] } ∧
        s.frame [.hbx, .seam] (among []) t) ∧
    (s.chip.flag SEAM_STAT_LINK = false → Runs (.hbxRecordPush) s fun t =>
      t = s) ∧
    (∀ (r : HbxRec) (l : List HbxRec), s.chip.zoneUp = true ∧ s.chip.seam.arriving = r :: l → r.type = 2 ∧ s.chip.seam.heard = true ∧ r.seq
      = s.chip.get SEAM_LASTSEQ_SEQ + 1 ∧ r.seq < 2 ^ 64 → s.chip.flag SEAM_CTL_EN = false ∧ bit (s.chip.get SEAM_CTL_FWD) 0 = false →
      Runs (.seamRecordReceive false) s fun t =>
      t.chip.seam = { s.chip.seam with arriving := l } ∧ t.chip.get SEAM_LASTSEQ_SEQ = r.seq ∧ s.frame [.seam] (among [SEAM_LASTSEQ.addr])
        t) ∧
    (∀ (r : HbxRec) (l : List HbxRec), s.chip.zoneUp = true ∧ s.chip.seam.arriving = r :: l → s.chip.seam.heard = true ∧ s.chip.get
      SEAM_LASTSEQ_SEQ + 1 < r.seq ∧ r.seq < 2 ^ 64 → s.chip.flag SEAM_CTL_EN = false → Runs (.seamRecordReceive false) s fun t =>
      t.chip.get SEAM_LASTSEQ_SEQ = r.seq ∧ t.chip.get SEAM_CNT_GAPS = min (s.chip.get SEAM_CNT_GAPS + 1) 255 ∧ t.chip.flag SEAM_STAT_GAP
        = true ∧ t.chip.pends 774 = true ∧ s.memKept t) ∧
    (∀ (r : HbxRec) (l : List HbxRec), s.chip.zoneUp = true ∧ s.chip.seam.arriving = r :: l → r.type = 2 ∧ s.chip.seam.heard = true ∧ r.seq
      = s.chip.get SEAM_LASTSEQ_SEQ + 1 ∧ r.seq < 2 ^ 64 ∧ r.bytes.length ≤ 1024 → s.chip.flag SEAM_CTL_EN = true ∧ s.chip.get
      SEAM_RING_LOG2N = 4 ∧ s.chip.get SEAM_RPI_PI = 2 ∧ s.chip.get SEAM_RCI_CI = 1 → (s.busWrite (s.chip.unitTag 19) (s.chip.get
      SEAM_RING_BASE + 4096) (leBytesOf 16 (s.chip.frc % 2 ^ 64 + r.bytes.length * 2 ^ 64 + 2 ^ 80) ++ r.bytes)).1 = true → Runs
      (.seamRecordReceive false) s fun t =>
      t.mem = (s.busWrite (s.chip.unitTag 19) (s.chip.get SEAM_RING_BASE + 4096) (leBytesOf 16 (s.chip.frc % 2 ^ 64 + r.bytes.length * 2 ^
        64 + 2 ^ 80) ++ r.bytes)).2.mem ∧ t.chip.get SEAM_RPI_PI = 3 ∧ t.chip.pends 768 = true) ∧
    (∀ (r : HbxRec) (l : List HbxRec), s.chip.zoneUp = true ∧ s.chip.seam.arriving = r :: l → s.chip.flag SEAM_CTL_EN = true ∧ s.chip.get
      SEAM_RING_LOG2N = 4 ∧ s.chip.get SEAM_RPI_PI = 2 ∧ s.chip.get SEAM_RCI_CI = 3 → Runs (.seamRecordReceive false) s fun t =>
      t.mem = s.mem ∧ t.chip.get SEAM_CNT_DROPPED = min (s.chip.get SEAM_CNT_DROPPED + 1) 65535 ∧ t.chip.flag SEAM_STAT_DROP = true ∧
        t.chip.pends 770 = true) ∧
    (∀ (r : HbxRec) (l : List HbxRec), s.chip.zoneUp = true ∧ s.chip.seam.arriving = r :: l → Runs (.seamRecordReceive true) s fun t =>
      t.chip.seam = { s.chip.seam with arriving := l } ∧ t.chip.get SEAM_CNT_DROPPED = min (s.chip.get SEAM_CNT_DROPPED + 1) 65535 ∧
        t.chip.pends 779 = true ∧ s.frame [.seam, .core] (amongEv [SEAM_CNT.addr, SEAM_STAT.addr]) t) ∧
    (∀ (a : Agent) (w : Fin 5) (v : W32) (args : List Byte), s.chip.admits a = true ∧ s.chip.variantH = true ∧ s.chip.hbx.power = .active ∧
      1 ≤ w.val ∧ s.chip.worldOfAgent a = w.val → bit v.toNat 31 = true ∧ bits v.toNat 27 24 = 0 ∧ bits v.toNat 10 0 ≤ 1024 → s.chip.flag
      (SEAM_P_RES_BUSY (w.val - 1)) = false ∧ bit (s.chip.get SEAM_CMDW_MAY) (0 + w.val) = true ∧ s.chip.flag SEAM_STAT_LINK = true →
      s.chip.seam.flight = none ∧ s.chip.seam.queue = [] → (s.busRead (s.chip.unitTag 19) (s.chip.get (SEAM_P_ADDR_ARG (w.val - 1))) (bits
      v.toNat 10 0)).1 = some args → Runs (.ping a w v) s fun t =>
      t.chip.hbx.out = s.chip.hbx.out ++ [{ code := 0, status := stOK, tag := s.chip.seam.tag, data := leBytesOf 1 s.chip.hbx.lcs }] ∧
        t.chip.hbx = { s.chip.hbx with out := t.chip.hbx.out } ∧ t.chip.seam =
        { s.chip.seam with flight := some { world := w.val, code := 0, args := args, tag := s.chip.seam.tag }, since := s.chip.frc, tag := (s.chip.seam.tag + 1) % 256 }
        ∧ s.frame [.seam, .hbx, .freeCtr] (among [(SEAM_P_RES (w.val - 1)).addr]) t) ∧
    (∀ (a : Agent) (w : Fin 5) (v : W32) (args : List Byte), s.chip.admits a = true ∧ s.chip.variantH = true ∧ s.chip.hbx.power = .active ∧
      1 ≤ w.val ∧ s.chip.worldOfAgent a = w.val → bit v.toNat 31 = true ∧ bits v.toNat 27 24 = 1 ∧ bits v.toNat 10 0 ≤ 1024 → s.chip.flag
      (SEAM_P_RES_BUSY (w.val - 1)) = false ∧ bit (s.chip.get SEAM_CMDW_MAY) (5 + w.val) = true ∧ s.chip.flag SEAM_STAT_LINK = true →
      s.chip.seam.flight = none ∧ s.chip.seam.queue = [] → (s.busRead (s.chip.unitTag 19) (s.chip.get (SEAM_P_ADDR_ARG (w.val - 1))) (bits
      v.toNat 10 0)).1 = some args → Runs (.getSwid a w v) s fun t =>
      t.chip.hbx.out = s.chip.hbx.out ++
        [{ code := 1, status := stOK, tag := s.chip.seam.tag, data := leBytesOf 4 s.chip.hbx.image.version ++ beBytesOf 64 s.chip.hbx.image.hash }]
        ∧ t.chip.hbx = { s.chip.hbx with out := t.chip.hbx.out } ∧ t.chip.seam =
        { s.chip.seam with flight := some { world := w.val, code := 1, args := args, tag := s.chip.seam.tag }, since := s.chip.frc, tag := (s.chip.seam.tag + 1) % 256 }
        ∧ s.frame [.seam, .hbx, .freeCtr] (among [(SEAM_P_RES (w.val - 1)).addr]) t) ∧
    (∀ (a : Agent) (w : Fin 5) (v : W32) (args : List Byte), s.chip.admits a = true ∧ s.chip.variantH = true ∧ s.chip.hbx.power = .active ∧
      1 ≤ w.val ∧ s.chip.worldOfAgent a = w.val → bit v.toNat 31 = true ∧ bits v.toNat 27 24 = 2 ∧ bits v.toNat 10 0 ≤ 1024 → s.chip.flag
      (SEAM_P_RES_BUSY (w.val - 1)) = false ∧ bit (s.chip.get SEAM_CMDW_MAY) (10 + w.val) = true ∧ s.chip.flag SEAM_STAT_LINK = true →
      s.chip.seam.flight = none ∧ s.chip.seam.queue = [] → (s.busRead (s.chip.unitTag 19) (s.chip.get (SEAM_P_ADDR_ARG (w.val - 1))) (bits
      v.toNat 10 0)).1 = some args → Runs (.getStatus a w v) s fun t =>
      t.chip.hbx.out = s.chip.hbx.out ++
        [{ code := 2, status := stOK, tag := s.chip.seam.tag, data := (Config.hbxBody 0x0D [s.chip.hbx.tampers, s.chip.hbxQuality, s.chip.hbx.day]).take 952 }]
        ∧ t.chip.hbx = { s.chip.hbx with out := t.chip.hbx.out } ∧ t.chip.seam =
        { s.chip.seam with flight := some { world := w.val, code := 2, args := args, tag := s.chip.seam.tag }, since := s.chip.frc, tag := (s.chip.seam.tag + 1) % 256 }
        ∧ s.frame [.seam, .hbx, .freeCtr] (among [(SEAM_P_RES (w.val - 1)).addr]) t) ∧
    (∀ (a : Agent) (w : Fin 5) (v : W32) (args : List Byte), s.chip.admits a = true ∧ s.chip.variantH = true ∧ s.chip.hbx.power = .active ∧
      1 ≤ w.val ∧ s.chip.worldOfAgent a = w.val → bit v.toNat 31 = true ∧ bits v.toNat 27 24 = 3 ∧ bits v.toNat 10 0 ≤ 1024 → s.chip.flag
      (SEAM_P_RES_BUSY (w.val - 1)) = false ∧ bit (s.chip.get SEAM_CMDW_MAY) (15 + w.val) = true ∧ s.chip.flag SEAM_STAT_LINK = true →
      s.chip.seam.flight = none ∧ s.chip.seam.queue = [] → (s.busRead (s.chip.unitTag 19) (s.chip.get (SEAM_P_ADDR_ARG (w.val - 1))) (bits
      v.toNat 10 0)).1 = some args → Runs (.resend a w v) s fun t =>
      (if 1 ≤ Config.seamArg 3 args 1 ∧ Config.seamArg 3 args 1 ≤ 256 ∧ s.chip.hbx.seq ≤ leNat (args.take 8) + 4096 ∧ leNat (args.take 8)
        < s.chip.hbx.seq then t.chip.hbx.resend = s.chip.hbx.resend ++ (s.chip.hbx.recs.filter fun r => decide (leNat (args.take 8) ≤
        r.seq ∧ r.seq ≤ leNat (args.take 8) + Config.seamArg 3 args 1 - 1)).map (·.seq) ∧ t.chip.hbx.out.getLast?.map (·.status) = some
        stOK else t.chip.hbx = { s.chip.hbx with out := t.chip.hbx.out }) ∧ t.chip.seam =
        { s.chip.seam with flight := some { world := w.val, code := 3, args := args, tag := s.chip.seam.tag }, since := s.chip.frc, tag := (s.chip.seam.tag + 1) % 256 }
        ∧ s.frame [.seam, .hbx, .freeCtr] (among [(SEAM_P_RES (w.val - 1)).addr]) t) ∧
    (∀ (a : Agent) (w : Fin 5) (v : W32) (args : List Byte), s.chip.admits a = true ∧ s.chip.variantH = true ∧ s.chip.hbx.power = .active ∧
      1 ≤ w.val ∧ s.chip.worldOfAgent a = w.val → bit v.toNat 31 = true ∧ bits v.toNat 27 24 = 4 ∧ bits v.toNat 10 0 ≤ 1024 → s.chip.flag
      (SEAM_P_RES_BUSY (w.val - 1)) = false ∧ bit (s.chip.get SEAM_CMDW_MAY) (20 + w.val) = true ∧ s.chip.flag SEAM_STAT_LINK = true →
      s.chip.seam.flight = none ∧ s.chip.seam.queue = [] → (s.busRead (s.chip.unitTag 19) (s.chip.get (SEAM_P_ADDR_ARG (w.val - 1))) (bits
      v.toNat 10 0)).1 = some args → s.chip.hbx.sealedTo < s.chip.hbx.seq → Runs (.activity a w v) s fun t =>
      (if Config.seamArg 4 args 0 ≤ 1 ∧ Config.seamArg 4 args 1 ≤ 3 ∧ (look none s.chip.hbx.cards (Config.seamArg 4 args 0)).map (fun x =>
        x.type) = some .driver then look 0 t.chip.hbx.activity (Config.seamArg 4 args 0) = Config.seamArg 4 args 1 ∧
        t.chip.hbx.recs.getLast?.map (fun r => (r.seq, r.type, r.vals)) = some (s.chip.hbx.seq, 2, [Config.seamArg 4 args 0,
        Config.seamArg 4 args 1]) ∧ t.chip.hbx.out.getLast?.map (·.status) = some stOK else t.chip.hbx =
        { s.chip.hbx with out := t.chip.hbx.out }) ∧ t.chip.seam =
        { s.chip.seam with flight := some { world := w.val, code := 4, args := args, tag := s.chip.seam.tag }, since := s.chip.frc, tag := (s.chip.seam.tag + 1) % 256 }
        ∧ s.frame [.seam, .hbx, .freeCtr] (among [(SEAM_P_RES (w.val - 1)).addr]) t) ∧
    (∀ (a : Agent) (w : Fin 5) (v : W32) (args : List Byte), s.chip.admits a = true ∧ s.chip.variantH = true ∧ s.chip.hbx.power = .active ∧
      1 ≤ w.val ∧ s.chip.worldOfAgent a = w.val → bit v.toNat 31 = true ∧ bits v.toNat 27 24 = 5 ∧ bits v.toNat 10 0 ≤ 1024 → s.chip.flag
      (SEAM_P_RES_BUSY (w.val - 1)) = false ∧ bit (s.chip.get SEAM_CMDW_MAY) (25 + w.val) = true ∧ s.chip.flag SEAM_STAT_LINK = true →
      s.chip.seam.flight = none ∧ s.chip.seam.queue = [] → (s.busRead (s.chip.unitTag 19) (s.chip.get (SEAM_P_ADDR_ARG (w.val - 1))) (bits
      v.toNat 10 0)).1 = some args → s.chip.hbx.sealedTo < s.chip.hbx.seq → Runs (.manualEntry a w v) s fun t =>
      (if (look none s.chip.hbx.cards (Config.seamArg 5 args 0)).map (fun x => x.type) = some .driver ∧ ((look none s.chip.hbx.cards
        (Config.seamArg 5 args 0)).any fun x => decide (s.chip.now ≤ x.at_ + 600000000000)) = true ∧ Config.seamArg 5 args 1 ≤ 32 then
        t.chip.hbx.recs.getLast?.map (fun r => (r.seq, r.type)) = some (s.chip.hbx.seq, 12) ∧ t.chip.hbx.out.getLast?.map (·.status) =
        some stOK else t.chip.hbx = { s.chip.hbx with out := t.chip.hbx.out }) ∧ t.chip.seam =
        { s.chip.seam with flight := some { world := w.val, code := 5, args := args, tag := s.chip.seam.tag }, since := s.chip.frc, tag := (s.chip.seam.tag + 1) % 256 }
        ∧ s.frame [.seam, .hbx, .freeCtr] (among [(SEAM_P_RES (w.val - 1)).addr]) t) ∧
    (∀ (a : Agent) (w : Fin 5) (v : W32) (args : List Byte), s.chip.admits a = true ∧ s.chip.variantH = true ∧ s.chip.hbx.power = .active ∧
      1 ≤ w.val ∧ s.chip.worldOfAgent a = w.val → bit v.toNat 31 = true ∧ bits v.toNat 27 24 = 6 ∧ bits v.toNat 10 0 ≤ 1024 → s.chip.flag
      (SEAM_P_RES_BUSY (w.val - 1)) = false ∧ bit (s.chip.get SEAM_CMDW_MAY) (30 + w.val) = true ∧ s.chip.flag SEAM_STAT_LINK = true →
      s.chip.seam.flight = none ∧ s.chip.seam.queue = [] → (s.busRead (s.chip.unitTag 19) (s.chip.get (SEAM_P_ADDR_ARG (w.val - 1))) (bits
      v.toNat 10 0)).1 = some args → Runs (.wheelSpeed a w v) s fun t =>
      t.chip.hbx.out = s.chip.hbx.out ++ [{ code := 6, status := stOK, tag := s.chip.seam.tag, data := [] }] ∧ t.chip.hbx.wheel = some
        (leNat (args.take 2), s.chip.now) ∧ t.chip.hbx.odo = s.chip.hbx.odo ∧ t.chip.hbx.pos = s.chip.hbx.pos ∧ t.chip.hbx.recs =
        s.chip.hbx.recs ∧ t.chip.seam =
        { s.chip.seam with flight := some { world := w.val, code := 6, args := args, tag := s.chip.seam.tag }, since := s.chip.frc, tag := (s.chip.seam.tag + 1) % 256 }
        ∧ s.frame [.seam, .hbx, .freeCtr] (among [(SEAM_P_RES (w.val - 1)).addr]) t) ∧
    (∀ (a : Agent) (w : Fin 5) (v : W32) (args : List Byte), s.chip.admits a = true ∧ s.chip.variantH = true ∧ s.chip.hbx.power = .active ∧
      1 ≤ w.val ∧ s.chip.worldOfAgent a = w.val → bit v.toNat 31 = true ∧ bits v.toNat 27 24 = 7 ∧ bits v.toNat 10 0 ≤ 1024 → s.chip.flag
      (SEAM_P_RES_BUSY (w.val - 1)) = false ∧ bit (s.chip.get SEAM_CMDW_MAY) (35 + w.val) = true ∧ s.chip.flag SEAM_STAT_LINK = true →
      s.chip.seam.flight = none ∧ s.chip.seam.queue = [] → (s.busRead (s.chip.unitTag 19) (s.chip.get (SEAM_P_ADDR_ARG (w.val - 1))) (bits
      v.toNat 10 0)).1 = some args → s.chip.hbx.timeref = none → Runs (.timeref a w v) s fun t =>
      t.chip.hbx.out = s.chip.hbx.out ++ [{ code := 7, status := stOK, tag := s.chip.seam.tag, data := [] }] ∧ t.chip.hbx.timeref = some
        (s.chip.hbxUtc, tvUnits (leNat (args.take 16))) ∧ t.chip.hbx.rtc = s.chip.hbx.rtc ∧ t.chip.hbx.recs = s.chip.hbx.recs ∧
        t.chip.seam =
        { s.chip.seam with flight := some { world := w.val, code := 7, args := args, tag := s.chip.seam.tag }, since := s.chip.frc, tag := (s.chip.seam.tag + 1) % 256 }
        ∧ s.frame [.seam, .hbx, .freeCtr] (among [(SEAM_P_RES (w.val - 1)).addr]) t) ∧
    (∀ (a : Agent) (w : Fin 5) (v : W32) (args : List Byte), s.chip.admits a = true ∧ s.chip.variantH = true ∧ s.chip.hbx.power = .active ∧
      1 ≤ w.val ∧ s.chip.worldOfAgent a = w.val → bit v.toNat 31 = true ∧ bits v.toNat 27 24 = 8 ∧ bits v.toNat 10 0 ≤ 1024 → s.chip.flag
      (SEAM_P_RES_BUSY (w.val - 1)) = false ∧ bit (s.chip.get SEAM_CMDW_MAY) (40 + w.val) = true ∧ s.chip.flag SEAM_STAT_LINK = true →
      s.chip.seam.flight = none ∧ s.chip.seam.queue = [] → (s.busRead (s.chip.unitTag 19) (s.chip.get (SEAM_P_ADDR_ARG (w.val - 1))) (bits
      v.toNat 10 0)).1 = some args → s.chip.hbx.sealedTo < s.chip.hbx.seq → Runs (.tollContext a w v) s fun t =>
      t.chip.hbx.out = s.chip.hbx.out ++ [{ code := 8, status := stOK, tag := s.chip.seam.tag, data := [] }] ∧
        (t.chip.hbx.recs.getLast?.map (fun r => (r.seq, r.type, r.vals)) = some (s.chip.hbx.seq, 12, [Config.seamArg 8 args 0,
        Config.seamArg 8 args 1, Config.seamArg 8 args 2])) ∧ t.chip.hbx.odo = s.chip.hbx.odo ∧ t.chip.hbx.toll = s.chip.hbx.toll ∧
        t.chip.seam =
        { s.chip.seam with flight := some { world := w.val, code := 8, args := args, tag := s.chip.seam.tag }, since := s.chip.frc, tag := (s.chip.seam.tag + 1) % 256 }
        ∧ s.frame [.seam, .hbx, .freeCtr] (among [(SEAM_P_RES (w.val - 1)).addr]) t) ∧
    (∀ (a : Agent) (w : Fin 5) (v : W32) (args : List Byte), s.chip.admits a = true ∧ s.chip.variantH = true ∧ s.chip.hbx.power = .active ∧
      1 ≤ w.val ∧ s.chip.worldOfAgent a = w.val → bit v.toNat 31 = true ∧ bits v.toNat 27 24 = 9 ∧ bits v.toNat 10 0 ≤ 1024 → s.chip.flag
      (SEAM_P_RES_BUSY (w.val - 1)) = false ∧ bit (s.chip.get SEAM_CMDW_MAY) (45 + w.val) = true ∧ s.chip.flag SEAM_STAT_LINK = true →
      s.chip.seam.flight = none ∧ s.chip.seam.queue = [] → (s.busRead (s.chip.unitTag 19) (s.chip.get (SEAM_P_ADDR_ARG (w.val - 1))) (bits
      v.toNat 10 0)).1 = some args → s.chip.hbx.sealedTo < s.chip.hbx.seq → Runs (.download a w v) s fun t =>
      (if (s.chip.hbx.cards.any fun e => match e.2 with | some x => x.type != .driver | none => false) = true then t.chip.hbx.sealDue =
        true ∧ t.chip.hbx.recs.getLast?.map (fun r => (r.seq, r.type)) = some (s.chip.hbx.seq, 11) ∧ t.chip.hbx.out.getLast?.map
        (·.status) = some stOK else t.chip.hbx = { s.chip.hbx with out := t.chip.hbx.out } ∧ t.chip.hbx.out.getLast?.map (·.status) = some
        stNOT_NOW) ∧ t.chip.seam =
        { s.chip.seam with flight := some { world := w.val, code := 9, args := args, tag := s.chip.seam.tag }, since := s.chip.frc, tag := (s.chip.seam.tag + 1) % 256 }
        ∧ s.frame [.seam, .hbx, .freeCtr] (among [(SEAM_P_RES (w.val - 1)).addr]) t) ∧
    (∀ (a : Agent) (w : Fin 5) (v : W32) (args : List Byte), s.chip.admits a = true ∧ s.chip.variantH = true ∧ s.chip.hbx.power = .active ∧
      1 ≤ w.val ∧ s.chip.worldOfAgent a = w.val → bit v.toNat 31 = true ∧ bits v.toNat 27 24 = 10 ∧ bits v.toNat 10 0 ≤ 1024 → s.chip.flag
      (SEAM_P_RES_BUSY (w.val - 1)) = false ∧ bit (s.chip.get SEAM_CMDW_MAY) (50 + w.val) = true ∧ s.chip.flag SEAM_STAT_LINK = true →
      s.chip.seam.flight = none ∧ s.chip.seam.queue = [] → (s.busRead (s.chip.unitTag 19) (s.chip.get (SEAM_P_ADDR_ARG (w.val - 1))) (bits
      v.toNat 10 0)).1 = some args → s.chip.hbx.sealedTo < s.chip.hbx.seq → Runs (.calibrate a w v) s fun t =>
      (if (s.chip.hbx.cards.any fun e => match e.2 with | some x => x.type == .workshop | none => false) = true ∧ s.chip.hbxStill = true ∧
        calibOk (Config.seamArg 10 args 0) (Config.seamArg 10 args 1) (Config.seamArg 10 args 2) = true then t.chip.hbx.kcal =
        Config.seamArg 10 args 0 ∧ t.chip.hbx.ppr = Config.seamArg 10 args 1 ∧ t.chip.hbx.tollDist = Config.seamArg 10 args 2 ∧
        t.chip.hbx.calibrated = true ∧ t.chip.hbx.recs.getLast?.map (fun r => (r.seq, r.type)) = some (s.chip.hbx.seq, 6) ∧
        t.chip.hbx.out.getLast?.map (·.status) = some stOK else t.chip.hbx = { s.chip.hbx with out := t.chip.hbx.out }) ∧ t.chip.hbx.odo =
        s.chip.hbx.odo ∧ t.chip.seam =
        { s.chip.seam with flight := some { world := w.val, code := 10, args := args, tag := s.chip.seam.tag }, since := s.chip.frc, tag := (s.chip.seam.tag + 1) % 256 }
        ∧ s.frame [.seam, .hbx, .freeCtr] (among [(SEAM_P_RES (w.val - 1)).addr]) t) ∧
    (∀ (a : Agent) (w : Fin 5) (v : W32) (args : List Byte), s.chip.admits a = true ∧ s.chip.variantH = true ∧ s.chip.hbx.power = .active ∧
      1 ≤ w.val ∧ s.chip.worldOfAgent a = w.val → bit v.toNat 31 = true ∧ bits v.toNat 27 24 = 11 ∧ bits v.toNat 10 0 ≤ 1024 → s.chip.flag
      (SEAM_P_RES_BUSY (w.val - 1)) = false ∧ bit (s.chip.get SEAM_CMDW_MAY) (55 + w.val) = true ∧ s.chip.flag SEAM_STAT_LINK = true →
      s.chip.seam.flight = none ∧ s.chip.seam.queue = [] → (s.busRead (s.chip.unitTag 19) (s.chip.get (SEAM_P_ADDR_ARG (w.val - 1))) (bits
      v.toNat 10 0)).1 = some args → s.chip.hbx.sealedTo < s.chip.hbx.seq → Runs (.timeAdjust a w v) s fun t =>
      (if (s.chip.hbx.cards.any fun e => match e.2 with | some x => x.type == .workshop | none => false) = true then t.chip.hbx.rtc =
        tvUnits (leNat (args.take 16)) ∧ t.chip.hbx.rtcAt = s.chip.now ∧ t.chip.hbx.timeValid = true ∧ t.chip.hbx.slew = 0 ∧
        t.chip.hbx.recs.getLast?.map (fun r => (r.seq, r.type)) = some (s.chip.hbx.seq, 7) ∧ t.chip.hbx.out.getLast?.map (·.status) = some
        stOK else t.chip.hbx = { s.chip.hbx with out := t.chip.hbx.out } ∧ t.chip.hbx.out.getLast?.map (·.status) = some stNOT_NOW) ∧
        t.chip.seam =
        { s.chip.seam with flight := some { world := w.val, code := 11, args := args, tag := s.chip.seam.tag }, since := s.chip.frc, tag := (s.chip.seam.tag + 1) % 256 }
        ∧ s.frame [.seam, .hbx, .freeCtr] (among [(SEAM_P_RES (w.val - 1)).addr]) t) ∧
    (∀ (a : Agent) (w : Fin 5) (v : W32) (args : List Byte), s.chip.admits a = true ∧ s.chip.variantH = true ∧ s.chip.hbx.power = .active ∧
      1 ≤ w.val ∧ s.chip.worldOfAgent a = w.val → bit v.toNat 31 = true ∧ bits v.toNat 27 24 = 12 ∧ bits v.toNat 10 0 ≤ 1024 → s.chip.flag
      (SEAM_P_RES_BUSY (w.val - 1)) = false ∧ bit (s.chip.get SEAM_CMDW_MAY) (60 + w.val) = true ∧ s.chip.flag SEAM_STAT_LINK = true →
      s.chip.seam.flight = none ∧ s.chip.seam.queue = [] → (s.busRead (s.chip.unitTag 19) (s.chip.get (SEAM_P_ADDR_ARG (w.val - 1))) (bits
      v.toNat 10 0)).1 = some args → s.chip.hbx.sealedTo < s.chip.hbx.seq → Runs (.fwBegin a w v) s fun t =>
      (if Config.rsaVerify (beBytesOf 512 (Config.seamArg 12 args 3)) (Config.sha512 (leBytesOf 4 (Config.seamArg 12 args 0) ++ leBytesOf
        4 (Config.seamArg 12 args 1) ++ beBytesOf 64 (Config.seamArg 12 args 2))) (beBytesOf 512 (Config.seamArg 12 args 4)) = true ∧
        (s.chip.hbx.lcs = 1 ∨ (Config.sha512 (beBytesOf 512 (Config.seamArg 12 args 3))).toNat = s.chip.hbx.metroKey ∧
        s.chip.hbx.image.version ≤ Config.seamArg 12 args 0) then t.chip.hbx.load = some
        { image := { version := Config.seamArg 12 args 0, hash := Config.seamArg 12 args 2, signer := (Config.sha512 (beBytesOf 512 (Config.seamArg 12 args 3))).toNat }, length := Config.seamArg 12 args 1 }
        ∧ bit t.chip.hbx.tampers 15 = false ∧ (bit s.chip.hbx.tampers 15 = false → t.chip.hbx.recs = s.chip.hbx.recs) else
        t.chip.hbx.out.getLast?.map (·.status) = some stINTEGRITY ∧ bit t.chip.hbx.tampers 15 = true ∧ t.chip.hbx.load = s.chip.hbx.load)
        ∧ t.chip.hbx.image = s.chip.hbx.image ∧ t.chip.seam =
        { s.chip.seam with flight := some { world := w.val, code := 12, args := args, tag := s.chip.seam.tag }, since := s.chip.frc, tag := (s.chip.seam.tag + 1) % 256 }
        ∧ s.frame [.seam, .hbx, .freeCtr] (among [(SEAM_P_RES (w.val - 1)).addr]) t) ∧
    (∀ (a : Agent) (w : Fin 5) (v : W32) (args : List Byte), s.chip.admits a = true ∧ s.chip.variantH = true ∧ s.chip.hbx.power = .active ∧
      1 ≤ w.val ∧ s.chip.worldOfAgent a = w.val → bit v.toNat 31 = true ∧ bits v.toNat 27 24 = 13 ∧ bits v.toNat 10 0 ≤ 1024 → s.chip.flag
      (SEAM_P_RES_BUSY (w.val - 1)) = false ∧ bit (s.chip.get SEAM_CMDW_MAY) (65 + w.val) = true ∧ s.chip.flag SEAM_STAT_LINK = true →
      s.chip.seam.flight = none ∧ s.chip.seam.queue = [] → (s.busRead (s.chip.unitTag 19) (s.chip.get (SEAM_P_ADDR_ARG (w.val - 1))) (bits
      v.toNat 10 0)).1 = some args → s.chip.hbx.load = none → Runs (.fwSegment a w v) s fun t =>
      t.chip.hbx.out = s.chip.hbx.out ++ [{ code := 13, status := stSEQUENCE, tag := s.chip.seam.tag, data := [] }] ∧ t.chip.hbx =
        { s.chip.hbx with out := t.chip.hbx.out } ∧ t.chip.seam =
        { s.chip.seam with flight := some { world := w.val, code := 13, args := args, tag := s.chip.seam.tag }, since := s.chip.frc, tag := (s.chip.seam.tag + 1) % 256 }
        ∧ s.frame [.seam, .hbx, .freeCtr] (among [(SEAM_P_RES (w.val - 1)).addr]) t) ∧
    (∀ (a : Agent) (w : Fin 5) (v : W32) (args : List Byte) (l : HbxLoad), s.chip.admits a = true ∧ s.chip.variantH = true ∧
      s.chip.hbx.power = .active ∧ 1 ≤ w.val ∧ s.chip.worldOfAgent a = w.val → bit v.toNat 31 = true ∧ bits v.toNat 27 24 = 13 ∧ bits
      v.toNat 10 0 ≤ 1024 → s.chip.flag (SEAM_P_RES_BUSY (w.val - 1)) = false ∧ bit (s.chip.get SEAM_CMDW_MAY) (65 + w.val) = true ∧
      s.chip.flag SEAM_STAT_LINK = true → s.chip.seam.flight = none ∧ s.chip.seam.queue = [] → (s.busRead (s.chip.unitTag 19) (s.chip.get
      (SEAM_P_ADDR_ARG (w.val - 1))) (bits v.toNat 10 0)).1 = some args → s.chip.hbx.load = some l → Runs (.fwSegment a w v) s fun t =>
      if Config.seamArg 13 args 0 = l.next ∧ (Config.seamData args).length = min 1024 (l.length - l.data.length) then t.chip.hbx =
        { s.chip.hbx with load := some { l with next := l.next + 1, data := l.data ++ Config.seamData args }, out := t.chip.hbx.out } ∧
        t.chip.hbx.out.getLast?.map (·.status) = some stOK else t.chip.hbx = { s.chip.hbx with out := t.chip.hbx.out } ∧ t.chip.seam =
        { s.chip.seam with flight := some { world := w.val, code := 13, args := args, tag := s.chip.seam.tag }, since := s.chip.frc, tag := (s.chip.seam.tag + 1) % 256 }
        ∧ s.frame [.seam, .hbx, .freeCtr] (among [(SEAM_P_RES (w.val - 1)).addr]) t) ∧
    (∀ (a : Agent) (w : Fin 5) (v : W32) (args : List Byte) (l : HbxLoad), s.chip.admits a = true ∧ s.chip.variantH = true ∧
      s.chip.hbx.power = .active ∧ 1 ≤ w.val ∧ s.chip.worldOfAgent a = w.val → bit v.toNat 31 = true ∧ bits v.toNat 27 24 = 14 ∧ bits
      v.toNat 10 0 ≤ 1024 → s.chip.flag (SEAM_P_RES_BUSY (w.val - 1)) = false ∧ bit (s.chip.get SEAM_CMDW_MAY) (70 + w.val) = true ∧
      s.chip.flag SEAM_STAT_LINK = true → s.chip.seam.flight = none ∧ s.chip.seam.queue = [] → (s.busRead (s.chip.unitTag 19) (s.chip.get
      (SEAM_P_ADDR_ARG (w.val - 1))) (bits v.toNat 10 0)).1 = some args → s.chip.hbx.load = some l ∧ l.length ≤ l.data.length ∧
      s.chip.hbx.pulseAt = none → Runs (.fwCommit a w v) s fun t =>
      if (Config.sha512 l.data).toNat = l.image.hash then t.chip.hbx.image = (if Config.imageBoots l.image.hash then l.image else
        s.chip.hbx.image) ∧ t.chip.hbx.out.getLast?.map (·.status) = some stOK else t.chip.hbx.image = s.chip.hbx.image ∧ bit
        t.chip.hbx.tampers 15 = true ∧ t.chip.hbx.out.getLast?.map (·.status) = some stINTEGRITY ∧ t.chip.hbx.load = none ∧ t.chip.hbx.odo
        = s.chip.hbx.odo ∧ t.chip.seam =
        { s.chip.seam with flight := some { world := w.val, code := 14, args := args, tag := s.chip.seam.tag }, since := s.chip.frc, tag := (s.chip.seam.tag + 1) % 256 }
        ∧ s.frame [.seam, .hbx, .freeCtr] (among [(SEAM_P_RES (w.val - 1)).addr]) t) ∧
    (∀ (a : Agent) (w : Fin 5) (v : W32) (args : List Byte), s.chip.admits a = true ∧ s.chip.variantH = true ∧ s.chip.hbx.power = .active ∧
      1 ≤ w.val ∧ s.chip.worldOfAgent a = w.val → bit v.toNat 31 = true ∧ bits v.toNat 27 24 = 14 ∧ bits v.toNat 10 0 ≤ 1024 → s.chip.flag
      (SEAM_P_RES_BUSY (w.val - 1)) = false ∧ bit (s.chip.get SEAM_CMDW_MAY) (70 + w.val) = true ∧ s.chip.flag SEAM_STAT_LINK = true →
      s.chip.seam.flight = none ∧ s.chip.seam.queue = [] → (s.busRead (s.chip.unitTag 19) (s.chip.get (SEAM_P_ADDR_ARG (w.val - 1))) (bits
      v.toNat 10 0)).1 = some args → s.chip.hbx.load = none → Runs (.fwCommit a w v) s fun t =>
      t.chip.hbx.out = s.chip.hbx.out ++ [{ code := 14, status := stNOT_NOW, tag := s.chip.seam.tag, data := [] }] ∧ t.chip.hbx =
        { s.chip.hbx with out := t.chip.hbx.out } ∧ t.chip.seam =
        { s.chip.seam with flight := some { world := w.val, code := 14, args := args, tag := s.chip.seam.tag }, since := s.chip.frc, tag := (s.chip.seam.tag + 1) % 256 }
        ∧ s.frame [.seam, .hbx, .freeCtr] (among [(SEAM_P_RES (w.val - 1)).addr]) t) ∧
    (∀ (a : Agent) (w : Fin 5) (v : W32) (args : List Byte), s.chip.admits a = true ∧ s.chip.variantH = true ∧ s.chip.hbx.power = .active ∧
      1 ≤ w.val ∧ s.chip.worldOfAgent a = w.val → bit v.toNat 31 = true ∧ bits v.toNat 27 24 = 15 ∧ bits v.toNat 10 0 ≤ 1024 → s.chip.flag
      (SEAM_P_RES_BUSY (w.val - 1)) = false ∧ bit (s.chip.get SEAM_CMDW_MAY) (75 + w.val) = true ∧ s.chip.flag SEAM_STAT_LINK = true →
      s.chip.seam.flight = none ∧ s.chip.seam.queue = [] → (s.busRead (s.chip.unitTag 19) (s.chip.get (SEAM_P_ADDR_ARG (w.val - 1))) (bits
      v.toNat 10 0)).1 = some args → s.chip.hbx.sealedTo < s.chip.hbx.seq → Runs (.seal a w v) s fun t =>
      (if s.chip.hbx.lcs = 1 ∧ (s.chip.hbx.cards.any fun e => match e.2 with | some x => x.type == .workshop | none => false) = true ∧
        s.chip.hbx.calibrated = true then t.chip.hbx.lcs = 2 ∧ t.chip.hbx.metroKey = s.chip.hbx.image.signer ∧
        t.chip.hbx.recs.getLast?.map (fun r => (r.seq, r.type, r.vals)) = some (s.chip.hbx.seq, 10, [1, 2]) ∧ t.chip.hbx.out.getLast?.map
        (·.status) = some stOK else t.chip.hbx = { s.chip.hbx with out := t.chip.hbx.out } ∧ t.chip.hbx.out.getLast?.map (·.status) = some
        stNOT_NOW) ∧ t.chip.seam =
        { s.chip.seam with flight := some { world := w.val, code := 15, args := args, tag := s.chip.seam.tag }, since := s.chip.frc, tag := (s.chip.seam.tag + 1) % 256 }
        ∧ s.frame [.seam, .hbx, .freeCtr] (among [(SEAM_P_RES (w.val - 1)).addr]) t) ∧
    (∀ (a : Agent) (w : Fin 5) (v : W32), s.chip.admits a = true ∧ s.chip.variantH = true ∧ 1 ≤ w.val ∧ s.chip.worldOfAgent a = w.val ∧ bit
      v.toNat 31 = true ∧ bits v.toNat 27 24 = 0 ∧ s.chip.flag (SEAM_P_RES_BUSY (w.val - 1)) = false → bit (s.chip.get SEAM_CMDW_MAY)
      w.val = false → Runs (.ping a w v) s fun t =>
      t.chip.get (SEAM_P_RES_STATUS (w.val - 1)) = stDENIED_WORLD ∧ t.chip.flag (SEAM_P_RES_BUSY (w.val - 1)) = false ∧ t.chip.pends 772 =
        true ∧ s.frame [.core] (amongEv [(SEAM_P_RES (w.val - 1)).addr, SEAM_STAT.addr]) t) ∧
    (∀ (a : Agent) (w : Fin 5) (v : W32), s.chip.admits a = true ∧ s.chip.variantH = true ∧ 1 ≤ w.val ∧ s.chip.worldOfAgent a = w.val ∧ bit
      v.toNat 31 = true ∧ bits v.toNat 27 24 = 0 ∧ s.chip.flag (SEAM_P_RES_BUSY (w.val - 1)) = false → bit (s.chip.get SEAM_CMDW_MAY)
      w.val = true ∧ bits v.toNat 10 0 ≤ 1024 ∧ s.chip.flag SEAM_STAT_LINK = false → Runs (.ping a w v) s fun t =>
      t.chip.get (SEAM_P_RES_STATUS (w.val - 1)) = stNOT_NOW ∧ t.chip.pends 772 = true ∧ t.chip.hbx = s.chip.hbx ∧ t.chip.seam =
        s.chip.seam) ∧
    (∀ (a : Agent) (w : Fin 5) (v : W32), s.chip.admits a = true → (s.chip.flag (SEAM_P_RES_BUSY (w.val - 1)) = true ∨ s.chip.worldOfAgent
      a ≠ w.val) → Runs (.ping a w v) s fun t =>
      t = s) ∧
    (∀ (x : SeamCmd) (r : HbxResp) (l : List HbxResp), s.chip.zoneUp = true ∧ s.chip.flag SEAM_STAT_LINK = true ∧ s.chip.hbx.out = r :: l ∧
      s.chip.seam.flight = some x ∧ s.chip.seam.queue = [] → x.tag = r.tag ∧ r.status = stOK ∧ 1 ≤ x.world ∧ x.world ≤ 4 ∧ r.data.length ≤
      1024 → (s.busWrite (s.chip.unitTag 19) (s.chip.get (SEAM_P_ADDR_RESP (x.world - 1))) r.data).1 = true → Runs (.seamResponse) s fun t
      =>
      t.mem = (s.busWrite (s.chip.unitTag 19) (s.chip.get (SEAM_P_ADDR_RESP (x.world - 1))) r.data).2.mem ∧ t.chip.rdN (SEAM_P_RES
        (x.world - 1)) = r.data.length ∧ t.chip.hbx = { s.chip.hbx with out := l } ∧ t.chip.seam = { s.chip.seam with flight := none } ∧
        t.chip.pends 771 = true ∧ s.chip.frame [.hbx, .seam, .core] (amongEv [(SEAM_P_RES (x.world - 1)).addr]) t.chip) ∧
    (∀ (r : HbxResp) (l : List HbxResp), s.chip.zoneUp = true ∧ s.chip.flag SEAM_STAT_LINK = true ∧ s.chip.hbx.out = r :: l ∧
      s.chip.seam.flight = none → Runs (.seamResponse) s fun t =>
      t.chip.hbx = { s.chip.hbx with out := l } ∧ t.chip.get SEAM_CNT_STRAY = min (s.chip.get SEAM_CNT_STRAY + 1) 255 ∧ s.frame [.hbx]
        (among [SEAM_CNT.addr]) t) ∧
    (∀ (x : SeamCmd), s.chip.zoneUp = true ∧ s.chip.seam.flight = some x ∧ s.chip.seam.queue = [] ∧ 1 ≤ x.world ∧ x.world ≤ 4 → x.code ≠ 3
      ∧ x.code ≠ 9 ∧ s.chip.seam.since + (if x.code = 14 then 2000000000 else 100000000) ≤ s.chip.frc → Runs (.seamCommandTimeout) s fun t
      =>
      t.chip.rdN (SEAM_P_RES (x.world - 1)) = stTIMEOUT * 65536 ∧ t.chip.seam = { s.chip.seam with flight := none } ∧ t.chip.pends 773 =
        true ∧ s.frame [.seam, .core] (amongEv [(SEAM_P_RES (x.world - 1)).addr]) t) ∧
    (∀ (x : SeamCmd), s.chip.seam.flight = some x ∧ s.chip.frc < s.chip.seam.since + 100000000 → Runs (.seamCommandTimeout) s fun t =>
      t = s) ∧
    (s.chip.variantH = true ∧ s.chip.flag SEAM_STAT_LINK = false ∧ s.chip.hbx.power = .active → Runs (.seamLinkChange true) s fun t =>
      t.chip.flag SEAM_STAT_LINK = true ∧ t.chip.flag SEAM_STAT_LINKCHG = true ∧ t.chip.hbx = { s.chip.hbx with linkAt := s.chip.now } ∧
        t.chip.pends 778 = true ∧ s.frame [.hbx, .core] (amongEv [SEAM_STAT.addr]) t) ∧
    (s.chip.variantH = true ∧ s.chip.flag SEAM_STAT_LINK = true → Runs (.seamLinkChange false) s fun t =>
      t.chip.flag SEAM_STAT_LINK = false ∧ t.chip.flag SEAM_STAT_LINKCHG = true ∧ t.chip.pends 778 = true ∧ s.frame [.hbx, .core] (amongEv
        [SEAM_STAT.addr]) t) ∧
    (∀ (a : Agent) (v : W32), s.chip.admits a = true ∧ s.chip.variantH = true ∧ s.chip.worldOfAgent a = 1 ∧ bit v.toNat 30 = true → Runs
      (.seamClrcnt a v) s fun t =>
      t.chip.rdN SEAM_CNT = 0 ∧ t.chip.flag SEAM_CTL_EN = bit v.toNat 31 ∧ t.chip.get SEAM_CTL_FWD = bits v.toNat 2 0 ∧ s.frame [] (among
        [SEAM_CNT.addr, SEAM_CTL.addr]) t)
end

