-- ==== Sys2Proof/Laws/Map.lean ====
section
/-! SUPPORT. Reading a table after writing it, and the canonical form that every write keeps. -/

namespace Sys2Proof.Machine

theorem look_ins_same {α : Type} (d : α) (m : NMap α) (a : Nat) (x : α) : look d (ins m a x) a = x := by
  induction m with
  | nil => simp [ins, look]
  | cons e t ih =>
    obtain ⟨k, v⟩ := e
    simp only [ins]
    split
    · simp [look]
    · split
      · simp [look]
      · rename_i h1 h2
        simp [look, h2, ih]

theorem look_ins_ne {α : Type} (d : α) (m : NMap α) {a b : Nat} (x : α) (h : b ≠ a) : look d (ins m a x) b = look d m b := by
  induction m with
  | nil => simp [ins, look, h]
  | cons e t ih =>
    obtain ⟨k, v⟩ := e
    simp only [ins]
    split
    · simp [look, h]
    · split
      · rename_i h1 h2
        subst h2
        simp [look, h]
      · by_cases hb : b = k
        · simp [look, hb]
        · simp [look, hb, ih]

theorem look_del_same {α : Type} (d : α) (m : NMap α) (a : Nat) : look d (del m a) a = d := by
  induction m with
  | nil => simp [del, look]
  | cons e t ih =>
    obtain ⟨k, v⟩ := e
    simp only [del]
    split
    · exact ih
    · rename_i h
      simp [look, h, ih]

theorem look_del_ne {α : Type} (d : α) (m : NMap α) {a b : Nat} (h : b ≠ a) : look d (del m a) b = look d m b := by
  induction m with
  | nil => simp [del, look]
  | cons e t ih =>
    obtain ⟨k, v⟩ := e
    simp only [del]
    split
    · rename_i hk
      subst hk
      simp [look, h, ih]
    · by_cases hb : b = k
      · simp [look, hb]
      · simp [look, hb, ih]

/-- A value that was put is what is read. -/
@[simp] theorem look_put_same {α : Type} [DecidableEq α] (d : α) (m : NMap α) (a : Nat) (x : α) : look d (put d m a x) a = x := by
  unfold put
  split
  · rename_i h
    rw [look_del_same, h]
  · exact look_ins_same d m a x

/-- A put changes no other number, whatever an unlisted number reads as. -/
theorem look_put_ne {α : Type} [DecidableEq α] (d e : α) (m : NMap α) {a b : Nat} (x : α) (h : b ≠ a) :
    look e (put d m a x) b = look e m b := by
  unfold put
  split
  · exact look_del_ne e m h
  · exact look_ins_ne e m x h

/-- Reading after a put, as one equation. -/
theorem look_put {α : Type} [DecidableEq α] (d : α) (m : NMap α) (a b : Nat) (x : α) :
    look d (put d m a x) b = if b = a then x else look d m b := by
  split
  · rename_i h
    subst h
    simp
  · rename_i h
    exact look_put_ne d d m x h

@[simp] theorem look_upd_same {α : Type} [DecidableEq α] (d : α) (m : NMap α) (a : Nat) (f : α → α) :
    look d (upd d m a f) a = f (look d m a) := by simp [upd]

theorem look_upd_ne {α : Type} [DecidableEq α] (d : α) (m : NMap α) {a b : Nat} (f : α → α) (h : b ≠ a) :
    look d (upd d m a f) b = look d m b := look_put_ne d d m _ h

@[simp] theorem look_nil {α : Type} (d : α) (a : Nat) : look d [] a = d := rfl

/-! ### The canonical form -/

theorem allAbove_mono {α : Type} {a b : Nat} (h : a ≤ b) (m : NMap α) (hm : allAbove b m = true) : allAbove a m = true := by
  induction m with
  | nil => rfl
  | cons e t ih =>
    obtain ⟨k, v⟩ := e
    simp only [allAbove, Bool.and_eq_true, decide_eq_true_eq] at hm ⊢
    exact ⟨by omega, ih hm.2⟩

theorem allAbove_ins {α : Type} (m : NMap α) {b a : Nat} (x : α) (h : b < a) (hm : allAbove b m = true) :
    allAbove b (ins m a x) = true := by
  induction m with
  | nil => simp [ins, allAbove, h]
  | cons e t ih =>
    obtain ⟨k, v⟩ := e
    simp only [allAbove, Bool.and_eq_true, decide_eq_true_eq] at hm
    simp only [ins]
    split
    · simp [allAbove, h, hm]
    · split
      · simp [allAbove, h, hm]
      · simp [allAbove, hm.1, ih hm.2]

theorem allAbove_del {α : Type} (m : NMap α) {b a : Nat} (hm : allAbove b m = true) : allAbove b (del m a) = true := by
  induction m with
  | nil => rfl
  | cons e t ih =>
    obtain ⟨k, v⟩ := e
    simp only [allAbove, Bool.and_eq_true, decide_eq_true_eq] at hm
    simp only [del]
    split
    · exact ih hm.2
    · simp [allAbove, hm.1, ih hm.2]

theorem canonical_ins {α : Type} [DecidableEq α] (d : α) (m : NMap α) (a : Nat) (x : α) (hx : x ≠ d)
    (hm : canonical d m = true) : canonical d (ins m a x) = true := by
  induction m with
  | nil => simp [ins, canonical, allAbove, hx]
  | cons e t ih =>
    obtain ⟨k, v⟩ := e
    have hm' := hm
    simp only [canonical, Bool.and_eq_true, decide_eq_true_eq] at hm'
    obtain ⟨⟨hv, hk⟩, ht⟩ := hm'
    simp only [ins]
    split
    · rename_i hak
      simp only [canonical, Bool.and_eq_true, decide_eq_true_eq, allAbove]
      exact ⟨⟨hx, hak, allAbove_mono (by omega) t hk⟩, ⟨hv, hk⟩, ht⟩
    · split
      · rename_i hak
        subst hak
        simp [canonical, hx, hk, ht]
      · rename_i h1 h2
        simp only [canonical, Bool.and_eq_true, decide_eq_true_eq]
        exact ⟨⟨hv, allAbove_ins t x (by omega) hk⟩, ih ht⟩

theorem canonical_del {α : Type} [DecidableEq α] (d : α) (m : NMap α) (a : Nat) (hm : canonical d m = true) :
    canonical d (del m a) = true := by
  induction m with
  | nil => rfl
  | cons e t ih =>
    obtain ⟨k, v⟩ := e
    simp only [canonical, Bool.and_eq_true, decide_eq_true_eq] at hm
    simp only [del]
    split
    · exact ih hm.2
    · simp [canonical, hm.1.1, allAbove_del t hm.1.2, ih hm.2]

/-- Every put keeps the canonical form. -/
theorem canonical_put {α : Type} [DecidableEq α] (d : α) (m : NMap α) (a : Nat) (x : α) (hm : canonical d m = true) :
    canonical d (put d m a x) = true := by
  unfold put
  split
  · exact canonical_del d m a hm
  · rename_i h
    exact canonical_ins d m a x h hm

theorem canonical_upd {α : Type} [DecidableEq α] (d : α) (m : NMap α) (a : Nat) (f : α → α) (hm : canonical d m = true) :
    canonical d (upd d m a f) = true := canonical_put d m a _ hm

theorem allAbove_filter {α : Type} (m : NMap α) (p : Nat × α → Bool) {b : Nat} (hm : allAbove b m = true) :
    allAbove b (m.filter p) = true := by
  induction m with
  | nil => rfl
  | cons e t ih =>
    obtain ⟨k, v⟩ := e
    simp only [allAbove, Bool.and_eq_true, decide_eq_true_eq] at hm
    rw [List.filter_cons]
    split
    · simp [allAbove, hm.1, ih hm.2]
    · exact ih hm.2

/-- Dropping entries keeps the canonical form. -/
theorem canonical_filter {α : Type} [DecidableEq α] (d : α) (m : NMap α) (p : Nat × α → Bool) (hm : canonical d m = true) :
    canonical d (m.filter p) = true := by
  induction m with
  | nil => rfl
  | cons e t ih =>
    obtain ⟨k, v⟩ := e
    simp only [canonical, Bool.and_eq_true, decide_eq_true_eq] at hm
    rw [List.filter_cons]
    split
    · simp [canonical, hm.1.1, allAbove_filter t p hm.1.2, ih hm.2]
    · exact ih hm.2

end Sys2Proof.Machine
end

