-- ==== Sys2Proof/Laws/State.lean ====
section
/-! SUPPORT. Which part of the module each elementary update leaves as it was: one equation for each update and part, so that no
proof unfolds a record update. -/

namespace Sys2Proof.Machine

section
variable (c : Chip)


/-! `wr` -/

@[simp] theorem Chip.wr_variantH (r : Reg) (v : W128) : (c.wr r v).variantH = c.variantH := (rfl)
@[simp] theorem Chip.wr_stepping (r : Reg) (v : W128) : (c.wr r v).stepping = c.stepping := (rfl)
@[simp] theorem Chip.wr_now (r : Reg) (v : W128) : (c.wr r v).now = c.now := (rfl)
@[simp] theorem Chip.wr_freeCtr (r : Reg) (v : W128) : (c.wr r v).freeCtr = c.freeCtr := (rfl)
@[simp] theorem Chip.wr_fab (r : Reg) (v : W128) : (c.wr r v).fab = c.fab := (rfl)
@[simp] theorem Chip.wr_time (r : Reg) (v : W128) : (c.wr r v).time = c.time := (rfl)
@[simp] theorem Chip.wr_seq (r : Reg) (v : W128) : (c.wr r v).seq = c.seq := (rfl)
@[simp] theorem Chip.wr_lsc (r : Reg) (v : W128) : (c.wr r v).lsc = c.lsc := (rfl)
@[simp] theorem Chip.wr_le (r : Reg) (v : W128) : (c.wr r v).le = c.le := (rfl)
@[simp] theorem Chip.wr_esw (r : Reg) (v : W128) : (c.wr r v).esw = c.esw := (rfl)
@[simp] theorem Chip.wr_hbd (r : Reg) (v : W128) : (c.wr r v).hbd = c.hbd := (rfl)
@[simp] theorem Chip.wr_can (r : Reg) (v : W128) : (c.wr r v).can = c.can := (rfl)
@[simp] theorem Chip.wr_nmw (r : Reg) (v : W128) : (c.wr r v).nmw = c.nmw := (rfl)
@[simp] theorem Chip.wr_pmu (r : Reg) (v : W128) : (c.wr r v).pmu = c.pmu := (rfl)
@[simp] theorem Chip.wr_brg (r : Reg) (v : W128) : (c.wr r v).brg = c.brg := (rfl)
@[simp] theorem Chip.wr_core (r : Reg) (v : W128) : (c.wr r v).core = c.core := (rfl)
@[simp] theorem Chip.wr_hbx (r : Reg) (v : W128) : (c.wr r v).hbx = c.hbx := (rfl)
@[simp] theorem Chip.wr_seam (r : Reg) (v : W128) : (c.wr r v).seam = c.seam := (rfl)
@[simp] theorem Chip.wr_ddp (r : Reg) (v : W128) : (c.wr r v).ddp = c.ddp := (rfl)
@[simp] theorem Chip.wr_key (r : Reg) (v : W128) : (c.wr r v).key = c.key := (rfl)
@[simp] theorem Chip.wr_sfe (r : Reg) (v : W128) : (c.wr r v).sfe = c.sfe := (rfl)
@[simp] theorem Chip.wr_rst (r : Reg) (v : W128) : (c.wr r v).rst = c.rst := (rfl)
@[simp] theorem Chip.wr_update (r : Reg) (v : W128) : (c.wr r v).update = c.update := (rfl)
@[simp] theorem Chip.wr_clm (r : Reg) (v : W128) : (c.wr r v).clm = c.clm := (rfl)

/-! `wrN` -/

@[simp] theorem Chip.wrN_variantH (r : Reg) (v : Nat) : (c.wrN r v).variantH = c.variantH := (rfl)
@[simp] theorem Chip.wrN_stepping (r : Reg) (v : Nat) : (c.wrN r v).stepping = c.stepping := (rfl)
@[simp] theorem Chip.wrN_now (r : Reg) (v : Nat) : (c.wrN r v).now = c.now := (rfl)
@[simp] theorem Chip.wrN_freeCtr (r : Reg) (v : Nat) : (c.wrN r v).freeCtr = c.freeCtr := (rfl)
@[simp] theorem Chip.wrN_fab (r : Reg) (v : Nat) : (c.wrN r v).fab = c.fab := (rfl)
@[simp] theorem Chip.wrN_time (r : Reg) (v : Nat) : (c.wrN r v).time = c.time := (rfl)
@[simp] theorem Chip.wrN_seq (r : Reg) (v : Nat) : (c.wrN r v).seq = c.seq := (rfl)
@[simp] theorem Chip.wrN_lsc (r : Reg) (v : Nat) : (c.wrN r v).lsc = c.lsc := (rfl)
@[simp] theorem Chip.wrN_le (r : Reg) (v : Nat) : (c.wrN r v).le = c.le := (rfl)
@[simp] theorem Chip.wrN_esw (r : Reg) (v : Nat) : (c.wrN r v).esw = c.esw := (rfl)
@[simp] theorem Chip.wrN_hbd (r : Reg) (v : Nat) : (c.wrN r v).hbd = c.hbd := (rfl)
@[simp] theorem Chip.wrN_can (r : Reg) (v : Nat) : (c.wrN r v).can = c.can := (rfl)
@[simp] theorem Chip.wrN_nmw (r : Reg) (v : Nat) : (c.wrN r v).nmw = c.nmw := (rfl)
@[simp] theorem Chip.wrN_pmu (r : Reg) (v : Nat) : (c.wrN r v).pmu = c.pmu := (rfl)
@[simp] theorem Chip.wrN_brg (r : Reg) (v : Nat) : (c.wrN r v).brg = c.brg := (rfl)
@[simp] theorem Chip.wrN_core (r : Reg) (v : Nat) : (c.wrN r v).core = c.core := (rfl)
@[simp] theorem Chip.wrN_hbx (r : Reg) (v : Nat) : (c.wrN r v).hbx = c.hbx := (rfl)
@[simp] theorem Chip.wrN_seam (r : Reg) (v : Nat) : (c.wrN r v).seam = c.seam := (rfl)
@[simp] theorem Chip.wrN_ddp (r : Reg) (v : Nat) : (c.wrN r v).ddp = c.ddp := (rfl)
@[simp] theorem Chip.wrN_key (r : Reg) (v : Nat) : (c.wrN r v).key = c.key := (rfl)
@[simp] theorem Chip.wrN_sfe (r : Reg) (v : Nat) : (c.wrN r v).sfe = c.sfe := (rfl)
@[simp] theorem Chip.wrN_rst (r : Reg) (v : Nat) : (c.wrN r v).rst = c.rst := (rfl)
@[simp] theorem Chip.wrN_update (r : Reg) (v : Nat) : (c.wrN r v).update = c.update := (rfl)
@[simp] theorem Chip.wrN_clm (r : Reg) (v : Nat) : (c.wrN r v).clm = c.clm := (rfl)

/-! `set` -/

@[simp] theorem Chip.set_variantH (f : RFld) (x : Nat) : (c.set f x).variantH = c.variantH := (rfl)
@[simp] theorem Chip.set_stepping (f : RFld) (x : Nat) : (c.set f x).stepping = c.stepping := (rfl)
@[simp] theorem Chip.set_now (f : RFld) (x : Nat) : (c.set f x).now = c.now := (rfl)
@[simp] theorem Chip.set_freeCtr (f : RFld) (x : Nat) : (c.set f x).freeCtr = c.freeCtr := (rfl)
@[simp] theorem Chip.set_fab (f : RFld) (x : Nat) : (c.set f x).fab = c.fab := (rfl)
@[simp] theorem Chip.set_time (f : RFld) (x : Nat) : (c.set f x).time = c.time := (rfl)
@[simp] theorem Chip.set_seq (f : RFld) (x : Nat) : (c.set f x).seq = c.seq := (rfl)
@[simp] theorem Chip.set_lsc (f : RFld) (x : Nat) : (c.set f x).lsc = c.lsc := (rfl)
@[simp] theorem Chip.set_le (f : RFld) (x : Nat) : (c.set f x).le = c.le := (rfl)
@[simp] theorem Chip.set_esw (f : RFld) (x : Nat) : (c.set f x).esw = c.esw := (rfl)
@[simp] theorem Chip.set_hbd (f : RFld) (x : Nat) : (c.set f x).hbd = c.hbd := (rfl)
@[simp] theorem Chip.set_can (f : RFld) (x : Nat) : (c.set f x).can = c.can := (rfl)
@[simp] theorem Chip.set_nmw (f : RFld) (x : Nat) : (c.set f x).nmw = c.nmw := (rfl)
@[simp] theorem Chip.set_pmu (f : RFld) (x : Nat) : (c.set f x).pmu = c.pmu := (rfl)
@[simp] theorem Chip.set_brg (f : RFld) (x : Nat) : (c.set f x).brg = c.brg := (rfl)
@[simp] theorem Chip.set_core (f : RFld) (x : Nat) : (c.set f x).core = c.core := (rfl)
@[simp] theorem Chip.set_hbx (f : RFld) (x : Nat) : (c.set f x).hbx = c.hbx := (rfl)
@[simp] theorem Chip.set_seam (f : RFld) (x : Nat) : (c.set f x).seam = c.seam := (rfl)
@[simp] theorem Chip.set_ddp (f : RFld) (x : Nat) : (c.set f x).ddp = c.ddp := (rfl)
@[simp] theorem Chip.set_key (f : RFld) (x : Nat) : (c.set f x).key = c.key := (rfl)
@[simp] theorem Chip.set_sfe (f : RFld) (x : Nat) : (c.set f x).sfe = c.sfe := (rfl)
@[simp] theorem Chip.set_rst (f : RFld) (x : Nat) : (c.set f x).rst = c.rst := (rfl)
@[simp] theorem Chip.set_update (f : RFld) (x : Nat) : (c.set f x).update = c.update := (rfl)
@[simp] theorem Chip.set_clm (f : RFld) (x : Nat) : (c.set f x).clm = c.clm := (rfl)

/-! `setB` -/

@[simp] theorem Chip.setB_variantH (f : RFld) (b : Bool) : (c.setB f b).variantH = c.variantH := (rfl)
@[simp] theorem Chip.setB_stepping (f : RFld) (b : Bool) : (c.setB f b).stepping = c.stepping := (rfl)
@[simp] theorem Chip.setB_now (f : RFld) (b : Bool) : (c.setB f b).now = c.now := (rfl)
@[simp] theorem Chip.setB_freeCtr (f : RFld) (b : Bool) : (c.setB f b).freeCtr = c.freeCtr := (rfl)
@[simp] theorem Chip.setB_fab (f : RFld) (b : Bool) : (c.setB f b).fab = c.fab := (rfl)
@[simp] theorem Chip.setB_time (f : RFld) (b : Bool) : (c.setB f b).time = c.time := (rfl)
@[simp] theorem Chip.setB_seq (f : RFld) (b : Bool) : (c.setB f b).seq = c.seq := (rfl)
@[simp] theorem Chip.setB_lsc (f : RFld) (b : Bool) : (c.setB f b).lsc = c.lsc := (rfl)
@[simp] theorem Chip.setB_le (f : RFld) (b : Bool) : (c.setB f b).le = c.le := (rfl)
@[simp] theorem Chip.setB_esw (f : RFld) (b : Bool) : (c.setB f b).esw = c.esw := (rfl)
@[simp] theorem Chip.setB_hbd (f : RFld) (b : Bool) : (c.setB f b).hbd = c.hbd := (rfl)
@[simp] theorem Chip.setB_can (f : RFld) (b : Bool) : (c.setB f b).can = c.can := (rfl)
@[simp] theorem Chip.setB_nmw (f : RFld) (b : Bool) : (c.setB f b).nmw = c.nmw := (rfl)
@[simp] theorem Chip.setB_pmu (f : RFld) (b : Bool) : (c.setB f b).pmu = c.pmu := (rfl)
@[simp] theorem Chip.setB_brg (f : RFld) (b : Bool) : (c.setB f b).brg = c.brg := (rfl)
@[simp] theorem Chip.setB_core (f : RFld) (b : Bool) : (c.setB f b).core = c.core := (rfl)
@[simp] theorem Chip.setB_hbx (f : RFld) (b : Bool) : (c.setB f b).hbx = c.hbx := (rfl)
@[simp] theorem Chip.setB_seam (f : RFld) (b : Bool) : (c.setB f b).seam = c.seam := (rfl)
@[simp] theorem Chip.setB_ddp (f : RFld) (b : Bool) : (c.setB f b).ddp = c.ddp := (rfl)
@[simp] theorem Chip.setB_key (f : RFld) (b : Bool) : (c.setB f b).key = c.key := (rfl)
@[simp] theorem Chip.setB_sfe (f : RFld) (b : Bool) : (c.setB f b).sfe = c.sfe := (rfl)
@[simp] theorem Chip.setB_rst (f : RFld) (b : Bool) : (c.setB f b).rst = c.rst := (rfl)
@[simp] theorem Chip.setB_update (f : RFld) (b : Bool) : (c.setB f b).update = c.update := (rfl)
@[simp] theorem Chip.setB_clm (f : RFld) (b : Bool) : (c.setB f b).clm = c.clm := (rfl)

/-! `satAdd` -/

@[simp] theorem Chip.satAdd_variantH (f : RFld) (n : Nat) : (c.satAdd f n).variantH = c.variantH := (rfl)
@[simp] theorem Chip.satAdd_stepping (f : RFld) (n : Nat) : (c.satAdd f n).stepping = c.stepping := (rfl)
@[simp] theorem Chip.satAdd_now (f : RFld) (n : Nat) : (c.satAdd f n).now = c.now := (rfl)
@[simp] theorem Chip.satAdd_freeCtr (f : RFld) (n : Nat) : (c.satAdd f n).freeCtr = c.freeCtr := (rfl)
@[simp] theorem Chip.satAdd_fab (f : RFld) (n : Nat) : (c.satAdd f n).fab = c.fab := (rfl)
@[simp] theorem Chip.satAdd_time (f : RFld) (n : Nat) : (c.satAdd f n).time = c.time := (rfl)
@[simp] theorem Chip.satAdd_seq (f : RFld) (n : Nat) : (c.satAdd f n).seq = c.seq := (rfl)
@[simp] theorem Chip.satAdd_lsc (f : RFld) (n : Nat) : (c.satAdd f n).lsc = c.lsc := (rfl)
@[simp] theorem Chip.satAdd_le (f : RFld) (n : Nat) : (c.satAdd f n).le = c.le := (rfl)
@[simp] theorem Chip.satAdd_esw (f : RFld) (n : Nat) : (c.satAdd f n).esw = c.esw := (rfl)
@[simp] theorem Chip.satAdd_hbd (f : RFld) (n : Nat) : (c.satAdd f n).hbd = c.hbd := (rfl)
@[simp] theorem Chip.satAdd_can (f : RFld) (n : Nat) : (c.satAdd f n).can = c.can := (rfl)
@[simp] theorem Chip.satAdd_nmw (f : RFld) (n : Nat) : (c.satAdd f n).nmw = c.nmw := (rfl)
@[simp] theorem Chip.satAdd_pmu (f : RFld) (n : Nat) : (c.satAdd f n).pmu = c.pmu := (rfl)
@[simp] theorem Chip.satAdd_brg (f : RFld) (n : Nat) : (c.satAdd f n).brg = c.brg := (rfl)
@[simp] theorem Chip.satAdd_core (f : RFld) (n : Nat) : (c.satAdd f n).core = c.core := (rfl)
@[simp] theorem Chip.satAdd_hbx (f : RFld) (n : Nat) : (c.satAdd f n).hbx = c.hbx := (rfl)
@[simp] theorem Chip.satAdd_seam (f : RFld) (n : Nat) : (c.satAdd f n).seam = c.seam := (rfl)
@[simp] theorem Chip.satAdd_ddp (f : RFld) (n : Nat) : (c.satAdd f n).ddp = c.ddp := (rfl)
@[simp] theorem Chip.satAdd_key (f : RFld) (n : Nat) : (c.satAdd f n).key = c.key := (rfl)
@[simp] theorem Chip.satAdd_sfe (f : RFld) (n : Nat) : (c.satAdd f n).sfe = c.sfe := (rfl)
@[simp] theorem Chip.satAdd_rst (f : RFld) (n : Nat) : (c.satAdd f n).rst = c.rst := (rfl)
@[simp] theorem Chip.satAdd_update (f : RFld) (n : Nat) : (c.satAdd f n).update = c.update := (rfl)
@[simp] theorem Chip.satAdd_clm (f : RFld) (n : Nat) : (c.satAdd f n).clm = c.clm := (rfl)

/-! `satInc` -/

@[simp] theorem Chip.satInc_variantH (f : RFld) : (c.satInc f).variantH = c.variantH := (rfl)
@[simp] theorem Chip.satInc_stepping (f : RFld) : (c.satInc f).stepping = c.stepping := (rfl)
@[simp] theorem Chip.satInc_now (f : RFld) : (c.satInc f).now = c.now := (rfl)
@[simp] theorem Chip.satInc_freeCtr (f : RFld) : (c.satInc f).freeCtr = c.freeCtr := (rfl)
@[simp] theorem Chip.satInc_fab (f : RFld) : (c.satInc f).fab = c.fab := (rfl)
@[simp] theorem Chip.satInc_time (f : RFld) : (c.satInc f).time = c.time := (rfl)
@[simp] theorem Chip.satInc_seq (f : RFld) : (c.satInc f).seq = c.seq := (rfl)
@[simp] theorem Chip.satInc_lsc (f : RFld) : (c.satInc f).lsc = c.lsc := (rfl)
@[simp] theorem Chip.satInc_le (f : RFld) : (c.satInc f).le = c.le := (rfl)
@[simp] theorem Chip.satInc_esw (f : RFld) : (c.satInc f).esw = c.esw := (rfl)
@[simp] theorem Chip.satInc_hbd (f : RFld) : (c.satInc f).hbd = c.hbd := (rfl)
@[simp] theorem Chip.satInc_can (f : RFld) : (c.satInc f).can = c.can := (rfl)
@[simp] theorem Chip.satInc_nmw (f : RFld) : (c.satInc f).nmw = c.nmw := (rfl)
@[simp] theorem Chip.satInc_pmu (f : RFld) : (c.satInc f).pmu = c.pmu := (rfl)
@[simp] theorem Chip.satInc_brg (f : RFld) : (c.satInc f).brg = c.brg := (rfl)
@[simp] theorem Chip.satInc_core (f : RFld) : (c.satInc f).core = c.core := (rfl)
@[simp] theorem Chip.satInc_hbx (f : RFld) : (c.satInc f).hbx = c.hbx := (rfl)
@[simp] theorem Chip.satInc_seam (f : RFld) : (c.satInc f).seam = c.seam := (rfl)
@[simp] theorem Chip.satInc_ddp (f : RFld) : (c.satInc f).ddp = c.ddp := (rfl)
@[simp] theorem Chip.satInc_key (f : RFld) : (c.satInc f).key = c.key := (rfl)
@[simp] theorem Chip.satInc_sfe (f : RFld) : (c.satInc f).sfe = c.sfe := (rfl)
@[simp] theorem Chip.satInc_rst (f : RFld) : (c.satInc f).rst = c.rst := (rfl)
@[simp] theorem Chip.satInc_update (f : RFld) : (c.satInc f).update = c.update := (rfl)
@[simp] theorem Chip.satInc_clm (f : RFld) : (c.satInc f).clm = c.clm := (rfl)

/-! `wrapInc` -/

@[simp] theorem Chip.wrapInc_variantH (f : RFld) : (c.wrapInc f).variantH = c.variantH := (rfl)
@[simp] theorem Chip.wrapInc_stepping (f : RFld) : (c.wrapInc f).stepping = c.stepping := (rfl)
@[simp] theorem Chip.wrapInc_now (f : RFld) : (c.wrapInc f).now = c.now := (rfl)
@[simp] theorem Chip.wrapInc_freeCtr (f : RFld) : (c.wrapInc f).freeCtr = c.freeCtr := (rfl)
@[simp] theorem Chip.wrapInc_fab (f : RFld) : (c.wrapInc f).fab = c.fab := (rfl)
@[simp] theorem Chip.wrapInc_time (f : RFld) : (c.wrapInc f).time = c.time := (rfl)
@[simp] theorem Chip.wrapInc_seq (f : RFld) : (c.wrapInc f).seq = c.seq := (rfl)
@[simp] theorem Chip.wrapInc_lsc (f : RFld) : (c.wrapInc f).lsc = c.lsc := (rfl)
@[simp] theorem Chip.wrapInc_le (f : RFld) : (c.wrapInc f).le = c.le := (rfl)
@[simp] theorem Chip.wrapInc_esw (f : RFld) : (c.wrapInc f).esw = c.esw := (rfl)
@[simp] theorem Chip.wrapInc_hbd (f : RFld) : (c.wrapInc f).hbd = c.hbd := (rfl)
@[simp] theorem Chip.wrapInc_can (f : RFld) : (c.wrapInc f).can = c.can := (rfl)
@[simp] theorem Chip.wrapInc_nmw (f : RFld) : (c.wrapInc f).nmw = c.nmw := (rfl)
@[simp] theorem Chip.wrapInc_pmu (f : RFld) : (c.wrapInc f).pmu = c.pmu := (rfl)
@[simp] theorem Chip.wrapInc_brg (f : RFld) : (c.wrapInc f).brg = c.brg := (rfl)
@[simp] theorem Chip.wrapInc_core (f : RFld) : (c.wrapInc f).core = c.core := (rfl)
@[simp] theorem Chip.wrapInc_hbx (f : RFld) : (c.wrapInc f).hbx = c.hbx := (rfl)
@[simp] theorem Chip.wrapInc_seam (f : RFld) : (c.wrapInc f).seam = c.seam := (rfl)
@[simp] theorem Chip.wrapInc_ddp (f : RFld) : (c.wrapInc f).ddp = c.ddp := (rfl)
@[simp] theorem Chip.wrapInc_key (f : RFld) : (c.wrapInc f).key = c.key := (rfl)
@[simp] theorem Chip.wrapInc_sfe (f : RFld) : (c.wrapInc f).sfe = c.sfe := (rfl)
@[simp] theorem Chip.wrapInc_rst (f : RFld) : (c.wrapInc f).rst = c.rst := (rfl)
@[simp] theorem Chip.wrapInc_update (f : RFld) : (c.wrapInc f).update = c.update := (rfl)
@[simp] theorem Chip.wrapInc_clm (f : RFld) : (c.wrapInc f).clm = c.clm := (rfl)

/-! `stick` -/

@[simp] theorem Chip.stick_variantH (f : RFld) : (c.stick f).variantH = c.variantH := (rfl)
@[simp] theorem Chip.stick_stepping (f : RFld) : (c.stick f).stepping = c.stepping := (rfl)
@[simp] theorem Chip.stick_now (f : RFld) : (c.stick f).now = c.now := (rfl)
@[simp] theorem Chip.stick_freeCtr (f : RFld) : (c.stick f).freeCtr = c.freeCtr := (rfl)
@[simp] theorem Chip.stick_fab (f : RFld) : (c.stick f).fab = c.fab := (rfl)
@[simp] theorem Chip.stick_time (f : RFld) : (c.stick f).time = c.time := (rfl)
@[simp] theorem Chip.stick_seq (f : RFld) : (c.stick f).seq = c.seq := (rfl)
@[simp] theorem Chip.stick_lsc (f : RFld) : (c.stick f).lsc = c.lsc := (rfl)
@[simp] theorem Chip.stick_le (f : RFld) : (c.stick f).le = c.le := (rfl)
@[simp] theorem Chip.stick_esw (f : RFld) : (c.stick f).esw = c.esw := (rfl)
@[simp] theorem Chip.stick_hbd (f : RFld) : (c.stick f).hbd = c.hbd := (rfl)
@[simp] theorem Chip.stick_can (f : RFld) : (c.stick f).can = c.can := (rfl)
@[simp] theorem Chip.stick_nmw (f : RFld) : (c.stick f).nmw = c.nmw := (rfl)
@[simp] theorem Chip.stick_pmu (f : RFld) : (c.stick f).pmu = c.pmu := (rfl)
@[simp] theorem Chip.stick_brg (f : RFld) : (c.stick f).brg = c.brg := (rfl)
@[simp] theorem Chip.stick_core (f : RFld) : (c.stick f).core = c.core := (rfl)
@[simp] theorem Chip.stick_hbx (f : RFld) : (c.stick f).hbx = c.hbx := (rfl)
@[simp] theorem Chip.stick_seam (f : RFld) : (c.stick f).seam = c.seam := (rfl)
@[simp] theorem Chip.stick_ddp (f : RFld) : (c.stick f).ddp = c.ddp := (rfl)
@[simp] theorem Chip.stick_key (f : RFld) : (c.stick f).key = c.key := (rfl)
@[simp] theorem Chip.stick_sfe (f : RFld) : (c.stick f).sfe = c.sfe := (rfl)
@[simp] theorem Chip.stick_rst (f : RFld) : (c.stick f).rst = c.rst := (rfl)
@[simp] theorem Chip.stick_update (f : RFld) : (c.stick f).update = c.update := (rfl)
@[simp] theorem Chip.stick_clm (f : RFld) : (c.stick f).clm = c.clm := (rfl)

/-! `setPend` -/

@[simp] theorem Chip.setPend_variantH (n : Nat) (b : Bool) : (c.setPend n b).variantH = c.variantH := (rfl)
@[simp] theorem Chip.setPend_stepping (n : Nat) (b : Bool) : (c.setPend n b).stepping = c.stepping := (rfl)
@[simp] theorem Chip.setPend_now (n : Nat) (b : Bool) : (c.setPend n b).now = c.now := (rfl)
@[simp] theorem Chip.setPend_freeCtr (n : Nat) (b : Bool) : (c.setPend n b).freeCtr = c.freeCtr := (rfl)
@[simp] theorem Chip.setPend_fab (n : Nat) (b : Bool) : (c.setPend n b).fab = c.fab := (rfl)
@[simp] theorem Chip.setPend_time (n : Nat) (b : Bool) : (c.setPend n b).time = c.time := (rfl)
@[simp] theorem Chip.setPend_seq (n : Nat) (b : Bool) : (c.setPend n b).seq = c.seq := (rfl)
@[simp] theorem Chip.setPend_lsc (n : Nat) (b : Bool) : (c.setPend n b).lsc = c.lsc := (rfl)
@[simp] theorem Chip.setPend_le (n : Nat) (b : Bool) : (c.setPend n b).le = c.le := (rfl)
@[simp] theorem Chip.setPend_esw (n : Nat) (b : Bool) : (c.setPend n b).esw = c.esw := (rfl)
@[simp] theorem Chip.setPend_hbd (n : Nat) (b : Bool) : (c.setPend n b).hbd = c.hbd := (rfl)
@[simp] theorem Chip.setPend_can (n : Nat) (b : Bool) : (c.setPend n b).can = c.can := (rfl)
@[simp] theorem Chip.setPend_nmw (n : Nat) (b : Bool) : (c.setPend n b).nmw = c.nmw := (rfl)
@[simp] theorem Chip.setPend_pmu (n : Nat) (b : Bool) : (c.setPend n b).pmu = c.pmu := (rfl)
@[simp] theorem Chip.setPend_brg (n : Nat) (b : Bool) : (c.setPend n b).brg = c.brg := (rfl)
@[simp] theorem Chip.setPend_core (n : Nat) (b : Bool) : (c.setPend n b).core = c.core := (rfl)
@[simp] theorem Chip.setPend_hbx (n : Nat) (b : Bool) : (c.setPend n b).hbx = c.hbx := (rfl)
@[simp] theorem Chip.setPend_seam (n : Nat) (b : Bool) : (c.setPend n b).seam = c.seam := (rfl)
@[simp] theorem Chip.setPend_ddp (n : Nat) (b : Bool) : (c.setPend n b).ddp = c.ddp := (rfl)
@[simp] theorem Chip.setPend_key (n : Nat) (b : Bool) : (c.setPend n b).key = c.key := (rfl)
@[simp] theorem Chip.setPend_sfe (n : Nat) (b : Bool) : (c.setPend n b).sfe = c.sfe := (rfl)
@[simp] theorem Chip.setPend_rst (n : Nat) (b : Bool) : (c.setPend n b).rst = c.rst := (rfl)
@[simp] theorem Chip.setPend_update (n : Nat) (b : Bool) : (c.setPend n b).update = c.update := (rfl)
@[simp] theorem Chip.setPend_clm (n : Nat) (b : Bool) : (c.setPend n b).clm = c.clm := (rfl)

/-! `showConfN` -/

@[simp] theorem Chip.showConfN_variantH : c.showConfN.variantH = c.variantH := (rfl)
@[simp] theorem Chip.showConfN_stepping : c.showConfN.stepping = c.stepping := (rfl)
@[simp] theorem Chip.showConfN_now : c.showConfN.now = c.now := (rfl)
@[simp] theorem Chip.showConfN_freeCtr : c.showConfN.freeCtr = c.freeCtr := (rfl)
@[simp] theorem Chip.showConfN_fab : c.showConfN.fab = c.fab := (rfl)
@[simp] theorem Chip.showConfN_time : c.showConfN.time = c.time := (rfl)
@[simp] theorem Chip.showConfN_seq : c.showConfN.seq = c.seq := (rfl)
@[simp] theorem Chip.showConfN_lsc : c.showConfN.lsc = c.lsc := (rfl)
@[simp] theorem Chip.showConfN_le : c.showConfN.le = c.le := (rfl)
@[simp] theorem Chip.showConfN_esw : c.showConfN.esw = c.esw := (rfl)
@[simp] theorem Chip.showConfN_hbd : c.showConfN.hbd = c.hbd := (rfl)
@[simp] theorem Chip.showConfN_can : c.showConfN.can = c.can := (rfl)
@[simp] theorem Chip.showConfN_nmw : c.showConfN.nmw = c.nmw := (rfl)
@[simp] theorem Chip.showConfN_pmu : c.showConfN.pmu = c.pmu := (rfl)
@[simp] theorem Chip.showConfN_brg : c.showConfN.brg = c.brg := (rfl)
@[simp] theorem Chip.showConfN_core : c.showConfN.core = c.core := (rfl)
@[simp] theorem Chip.showConfN_hbx : c.showConfN.hbx = c.hbx := (rfl)
@[simp] theorem Chip.showConfN_seam : c.showConfN.seam = c.seam := (rfl)
@[simp] theorem Chip.showConfN_ddp : c.showConfN.ddp = c.ddp := (rfl)
@[simp] theorem Chip.showConfN_key : c.showConfN.key = c.key := (rfl)
@[simp] theorem Chip.showConfN_sfe : c.showConfN.sfe = c.sfe := (rfl)
@[simp] theorem Chip.showConfN_rst : c.showConfN.rst = c.rst := (rfl)
@[simp] theorem Chip.showConfN_update : c.showConfN.update = c.update := (rfl)
@[simp] theorem Chip.showConfN_clm : c.showConfN.clm = c.clm := (rfl)

/-! `drawn` -/

@[simp] theorem Chip.drawn_variantH : c.drawn.variantH = c.variantH := (rfl)
@[simp] theorem Chip.drawn_stepping : c.drawn.stepping = c.stepping := (rfl)
@[simp] theorem Chip.drawn_regs : c.drawn.regs = c.regs := (rfl)
@[simp] theorem Chip.drawn_now : c.drawn.now = c.now := (rfl)
@[simp] theorem Chip.drawn_freeCtr : c.drawn.freeCtr = c.freeCtr + 1 := (rfl)
@[simp] theorem Chip.drawn_fab : c.drawn.fab = c.fab := (rfl)
@[simp] theorem Chip.drawn_time : c.drawn.time = c.time := (rfl)
@[simp] theorem Chip.drawn_seq : c.drawn.seq = c.seq := (rfl)
@[simp] theorem Chip.drawn_lsc : c.drawn.lsc = c.lsc := (rfl)
@[simp] theorem Chip.drawn_le : c.drawn.le = c.le := (rfl)
@[simp] theorem Chip.drawn_esw : c.drawn.esw = c.esw := (rfl)
@[simp] theorem Chip.drawn_hbd : c.drawn.hbd = c.hbd := (rfl)
@[simp] theorem Chip.drawn_can : c.drawn.can = c.can := (rfl)
@[simp] theorem Chip.drawn_nmw : c.drawn.nmw = c.nmw := (rfl)
@[simp] theorem Chip.drawn_pmu : c.drawn.pmu = c.pmu := (rfl)
@[simp] theorem Chip.drawn_brg : c.drawn.brg = c.brg := (rfl)
@[simp] theorem Chip.drawn_core : c.drawn.core = c.core := (rfl)
@[simp] theorem Chip.drawn_hbx : c.drawn.hbx = c.hbx := (rfl)
@[simp] theorem Chip.drawn_seam : c.drawn.seam = c.seam := (rfl)
@[simp] theorem Chip.drawn_ddp : c.drawn.ddp = c.ddp := (rfl)
@[simp] theorem Chip.drawn_key : c.drawn.key = c.key := (rfl)
@[simp] theorem Chip.drawn_sfe : c.drawn.sfe = c.sfe := (rfl)
@[simp] theorem Chip.drawn_rst : c.drawn.rst = c.rst := (rfl)
@[simp] theorem Chip.drawn_update : c.drawn.update = c.update := (rfl)
@[simp] theorem Chip.drawn_clm : c.drawn.clm = c.clm := (rfl)

/-! `respond` -/

@[simp] theorem Chip.respond_variantH (k : Nat) (e : Bool) (d : Nat) : (c.respond k e d).variantH = c.variantH := (rfl)
@[simp] theorem Chip.respond_stepping (k : Nat) (e : Bool) (d : Nat) : (c.respond k e d).stepping = c.stepping := (rfl)
@[simp] theorem Chip.respond_regs (k : Nat) (e : Bool) (d : Nat) : (c.respond k e d).regs = c.regs := (rfl)
@[simp] theorem Chip.respond_now (k : Nat) (e : Bool) (d : Nat) : (c.respond k e d).now = c.now := (rfl)
@[simp] theorem Chip.respond_freeCtr (k : Nat) (e : Bool) (d : Nat) : (c.respond k e d).freeCtr = c.freeCtr := (rfl)
@[simp] theorem Chip.respond_time (k : Nat) (e : Bool) (d : Nat) : (c.respond k e d).time = c.time := (rfl)
@[simp] theorem Chip.respond_seq (k : Nat) (e : Bool) (d : Nat) : (c.respond k e d).seq = c.seq := (rfl)
@[simp] theorem Chip.respond_lsc (k : Nat) (e : Bool) (d : Nat) : (c.respond k e d).lsc = c.lsc := (rfl)
@[simp] theorem Chip.respond_le (k : Nat) (e : Bool) (d : Nat) : (c.respond k e d).le = c.le := (rfl)
@[simp] theorem Chip.respond_esw (k : Nat) (e : Bool) (d : Nat) : (c.respond k e d).esw = c.esw := (rfl)
@[simp] theorem Chip.respond_hbd (k : Nat) (e : Bool) (d : Nat) : (c.respond k e d).hbd = c.hbd := (rfl)
@[simp] theorem Chip.respond_can (k : Nat) (e : Bool) (d : Nat) : (c.respond k e d).can = c.can := (rfl)
@[simp] theorem Chip.respond_nmw (k : Nat) (e : Bool) (d : Nat) : (c.respond k e d).nmw = c.nmw := (rfl)
@[simp] theorem Chip.respond_pmu (k : Nat) (e : Bool) (d : Nat) : (c.respond k e d).pmu = c.pmu := (rfl)
@[simp] theorem Chip.respond_brg (k : Nat) (e : Bool) (d : Nat) : (c.respond k e d).brg = c.brg := (rfl)
@[simp] theorem Chip.respond_core (k : Nat) (e : Bool) (d : Nat) : (c.respond k e d).core = c.core := (rfl)
@[simp] theorem Chip.respond_hbx (k : Nat) (e : Bool) (d : Nat) : (c.respond k e d).hbx = c.hbx := (rfl)
@[simp] theorem Chip.respond_seam (k : Nat) (e : Bool) (d : Nat) : (c.respond k e d).seam = c.seam := (rfl)
@[simp] theorem Chip.respond_ddp (k : Nat) (e : Bool) (d : Nat) : (c.respond k e d).ddp = c.ddp := (rfl)
@[simp] theorem Chip.respond_key (k : Nat) (e : Bool) (d : Nat) : (c.respond k e d).key = c.key := (rfl)
@[simp] theorem Chip.respond_sfe (k : Nat) (e : Bool) (d : Nat) : (c.respond k e d).sfe = c.sfe := (rfl)
@[simp] theorem Chip.respond_rst (k : Nat) (e : Bool) (d : Nat) : (c.respond k e d).rst = c.rst := (rfl)
@[simp] theorem Chip.respond_update (k : Nat) (e : Bool) (d : Nat) : (c.respond k e d).update = c.update := (rfl)
@[simp] theorem Chip.respond_clm (k : Nat) (e : Bool) (d : Nat) : (c.respond k e d).clm = c.clm := (rfl)

/-! `latch` -/

@[simp] theorem Chip.latch_variantH (k a : Nat) (v : W128) : (c.latch k a v).variantH = c.variantH := (rfl)
@[simp] theorem Chip.latch_stepping (k a : Nat) (v : W128) : (c.latch k a v).stepping = c.stepping := (rfl)
@[simp] theorem Chip.latch_regs (k a : Nat) (v : W128) : (c.latch k a v).regs = c.regs := (rfl)
@[simp] theorem Chip.latch_now (k a : Nat) (v : W128) : (c.latch k a v).now = c.now := (rfl)
@[simp] theorem Chip.latch_freeCtr (k a : Nat) (v : W128) : (c.latch k a v).freeCtr = c.freeCtr := (rfl)
@[simp] theorem Chip.latch_time (k a : Nat) (v : W128) : (c.latch k a v).time = c.time := (rfl)
@[simp] theorem Chip.latch_seq (k a : Nat) (v : W128) : (c.latch k a v).seq = c.seq := (rfl)
@[simp] theorem Chip.latch_lsc (k a : Nat) (v : W128) : (c.latch k a v).lsc = c.lsc := (rfl)
@[simp] theorem Chip.latch_le (k a : Nat) (v : W128) : (c.latch k a v).le = c.le := (rfl)
@[simp] theorem Chip.latch_esw (k a : Nat) (v : W128) : (c.latch k a v).esw = c.esw := (rfl)
@[simp] theorem Chip.latch_hbd (k a : Nat) (v : W128) : (c.latch k a v).hbd = c.hbd := (rfl)
@[simp] theorem Chip.latch_can (k a : Nat) (v : W128) : (c.latch k a v).can = c.can := (rfl)
@[simp] theorem Chip.latch_nmw (k a : Nat) (v : W128) : (c.latch k a v).nmw = c.nmw := (rfl)
@[simp] theorem Chip.latch_pmu (k a : Nat) (v : W128) : (c.latch k a v).pmu = c.pmu := (rfl)
@[simp] theorem Chip.latch_brg (k a : Nat) (v : W128) : (c.latch k a v).brg = c.brg := (rfl)
@[simp] theorem Chip.latch_core (k a : Nat) (v : W128) : (c.latch k a v).core = c.core := (rfl)
@[simp] theorem Chip.latch_hbx (k a : Nat) (v : W128) : (c.latch k a v).hbx = c.hbx := (rfl)
@[simp] theorem Chip.latch_seam (k a : Nat) (v : W128) : (c.latch k a v).seam = c.seam := (rfl)
@[simp] theorem Chip.latch_ddp (k a : Nat) (v : W128) : (c.latch k a v).ddp = c.ddp := (rfl)
@[simp] theorem Chip.latch_key (k a : Nat) (v : W128) : (c.latch k a v).key = c.key := (rfl)
@[simp] theorem Chip.latch_sfe (k a : Nat) (v : W128) : (c.latch k a v).sfe = c.sfe := (rfl)
@[simp] theorem Chip.latch_rst (k a : Nat) (v : W128) : (c.latch k a v).rst = c.rst := (rfl)
@[simp] theorem Chip.latch_update (k a : Nat) (v : W128) : (c.latch k a v).update = c.update := (rfl)
@[simp] theorem Chip.latch_clm (k a : Nat) (v : W128) : (c.latch k a v).clm = c.clm := (rfl)

/-! `msi` -/

@[simp] theorem Chip.msi_variantH (k f g i : Nat) : (c.msi k f g i).variantH = c.variantH := (rfl)
@[simp] theorem Chip.msi_stepping (k f g i : Nat) : (c.msi k f g i).stepping = c.stepping := (rfl)
@[simp] theorem Chip.msi_regs (k f g i : Nat) : (c.msi k f g i).regs = c.regs := (rfl)
@[simp] theorem Chip.msi_now (k f g i : Nat) : (c.msi k f g i).now = c.now := (rfl)
@[simp] theorem Chip.msi_freeCtr (k f g i : Nat) : (c.msi k f g i).freeCtr = c.freeCtr := (rfl)
@[simp] theorem Chip.msi_fab (k f g i : Nat) : (c.msi k f g i).fab = c.fab := (rfl)
@[simp] theorem Chip.msi_time (k f g i : Nat) : (c.msi k f g i).time = c.time := (rfl)
@[simp] theorem Chip.msi_seq (k f g i : Nat) : (c.msi k f g i).seq = c.seq := (rfl)
@[simp] theorem Chip.msi_lsc (k f g i : Nat) : (c.msi k f g i).lsc = c.lsc := (rfl)
@[simp] theorem Chip.msi_le (k f g i : Nat) : (c.msi k f g i).le = c.le := (rfl)
@[simp] theorem Chip.msi_esw (k f g i : Nat) : (c.msi k f g i).esw = c.esw := (rfl)
@[simp] theorem Chip.msi_hbd (k f g i : Nat) : (c.msi k f g i).hbd = c.hbd := (rfl)
@[simp] theorem Chip.msi_can (k f g i : Nat) : (c.msi k f g i).can = c.can := (rfl)
@[simp] theorem Chip.msi_nmw (k f g i : Nat) : (c.msi k f g i).nmw = c.nmw := (rfl)
@[simp] theorem Chip.msi_pmu (k f g i : Nat) : (c.msi k f g i).pmu = c.pmu := (rfl)
@[simp] theorem Chip.msi_brg (k f g i : Nat) : (c.msi k f g i).brg = c.brg := (rfl)
@[simp] theorem Chip.msi_hbx (k f g i : Nat) : (c.msi k f g i).hbx = c.hbx := (rfl)
@[simp] theorem Chip.msi_seam (k f g i : Nat) : (c.msi k f g i).seam = c.seam := (rfl)
@[simp] theorem Chip.msi_ddp (k f g i : Nat) : (c.msi k f g i).ddp = c.ddp := (rfl)
@[simp] theorem Chip.msi_key (k f g i : Nat) : (c.msi k f g i).key = c.key := (rfl)
@[simp] theorem Chip.msi_sfe (k f g i : Nat) : (c.msi k f g i).sfe = c.sfe := (rfl)
@[simp] theorem Chip.msi_rst (k f g i : Nat) : (c.msi k f g i).rst = c.rst := (rfl)
@[simp] theorem Chip.msi_update (k f g i : Nat) : (c.msi k f g i).update = c.update := (rfl)
@[simp] theorem Chip.msi_clm (k f g i : Nat) : (c.msi k f g i).clm = c.clm := (rfl)

/-! `updTracker` -/

@[simp] theorem Chip.updTracker_variantH (n : Nat) (f : Tracker → Tracker) : (c.updTracker n f).variantH = c.variantH := (rfl)
@[simp] theorem Chip.updTracker_stepping (n : Nat) (f : Tracker → Tracker) : (c.updTracker n f).stepping = c.stepping := (rfl)
@[simp] theorem Chip.updTracker_regs (n : Nat) (f : Tracker → Tracker) : (c.updTracker n f).regs = c.regs := (rfl)
@[simp] theorem Chip.updTracker_now (n : Nat) (f : Tracker → Tracker) : (c.updTracker n f).now = c.now := (rfl)
@[simp] theorem Chip.updTracker_freeCtr (n : Nat) (f : Tracker → Tracker) : (c.updTracker n f).freeCtr = c.freeCtr := (rfl)
@[simp] theorem Chip.updTracker_fab (n : Nat) (f : Tracker → Tracker) : (c.updTracker n f).fab = c.fab := (rfl)
@[simp] theorem Chip.updTracker_seq (n : Nat) (f : Tracker → Tracker) : (c.updTracker n f).seq = c.seq := (rfl)
@[simp] theorem Chip.updTracker_lsc (n : Nat) (f : Tracker → Tracker) : (c.updTracker n f).lsc = c.lsc := (rfl)
@[simp] theorem Chip.updTracker_le (n : Nat) (f : Tracker → Tracker) : (c.updTracker n f).le = c.le := (rfl)
@[simp] theorem Chip.updTracker_esw (n : Nat) (f : Tracker → Tracker) : (c.updTracker n f).esw = c.esw := (rfl)
@[simp] theorem Chip.updTracker_hbd (n : Nat) (f : Tracker → Tracker) : (c.updTracker n f).hbd = c.hbd := (rfl)
@[simp] theorem Chip.updTracker_can (n : Nat) (f : Tracker → Tracker) : (c.updTracker n f).can = c.can := (rfl)
@[simp] theorem Chip.updTracker_nmw (n : Nat) (f : Tracker → Tracker) : (c.updTracker n f).nmw = c.nmw := (rfl)
@[simp] theorem Chip.updTracker_pmu (n : Nat) (f : Tracker → Tracker) : (c.updTracker n f).pmu = c.pmu := (rfl)
@[simp] theorem Chip.updTracker_brg (n : Nat) (f : Tracker → Tracker) : (c.updTracker n f).brg = c.brg := (rfl)
@[simp] theorem Chip.updTracker_core (n : Nat) (f : Tracker → Tracker) : (c.updTracker n f).core = c.core := (rfl)
@[simp] theorem Chip.updTracker_hbx (n : Nat) (f : Tracker → Tracker) : (c.updTracker n f).hbx = c.hbx := (rfl)
@[simp] theorem Chip.updTracker_seam (n : Nat) (f : Tracker → Tracker) : (c.updTracker n f).seam = c.seam := (rfl)
@[simp] theorem Chip.updTracker_ddp (n : Nat) (f : Tracker → Tracker) : (c.updTracker n f).ddp = c.ddp := (rfl)
@[simp] theorem Chip.updTracker_key (n : Nat) (f : Tracker → Tracker) : (c.updTracker n f).key = c.key := (rfl)
@[simp] theorem Chip.updTracker_sfe (n : Nat) (f : Tracker → Tracker) : (c.updTracker n f).sfe = c.sfe := (rfl)
@[simp] theorem Chip.updTracker_rst (n : Nat) (f : Tracker → Tracker) : (c.updTracker n f).rst = c.rst := (rfl)
@[simp] theorem Chip.updTracker_update (n : Nat) (f : Tracker → Tracker) : (c.updTracker n f).update = c.update := (rfl)
@[simp] theorem Chip.updTracker_clm (n : Nat) (f : Tracker → Tracker) : (c.updTracker n f).clm = c.clm := (rfl)

/-! `updBrg` -/

@[simp] theorem Chip.updBrg_variantH (f : BrgBlk → BrgBlk) : (c.updBrg f).variantH = c.variantH := (rfl)
@[simp] theorem Chip.updBrg_stepping (f : BrgBlk → BrgBlk) : (c.updBrg f).stepping = c.stepping := (rfl)
@[simp] theorem Chip.updBrg_regs (f : BrgBlk → BrgBlk) : (c.updBrg f).regs = c.regs := (rfl)
@[simp] theorem Chip.updBrg_now (f : BrgBlk → BrgBlk) : (c.updBrg f).now = c.now := (rfl)
@[simp] theorem Chip.updBrg_freeCtr (f : BrgBlk → BrgBlk) : (c.updBrg f).freeCtr = c.freeCtr := (rfl)
@[simp] theorem Chip.updBrg_fab (f : BrgBlk → BrgBlk) : (c.updBrg f).fab = c.fab := (rfl)
@[simp] theorem Chip.updBrg_time (f : BrgBlk → BrgBlk) : (c.updBrg f).time = c.time := (rfl)
@[simp] theorem Chip.updBrg_seq (f : BrgBlk → BrgBlk) : (c.updBrg f).seq = c.seq := (rfl)
@[simp] theorem Chip.updBrg_lsc (f : BrgBlk → BrgBlk) : (c.updBrg f).lsc = c.lsc := (rfl)
@[simp] theorem Chip.updBrg_le (f : BrgBlk → BrgBlk) : (c.updBrg f).le = c.le := (rfl)
@[simp] theorem Chip.updBrg_esw (f : BrgBlk → BrgBlk) : (c.updBrg f).esw = c.esw := (rfl)
@[simp] theorem Chip.updBrg_hbd (f : BrgBlk → BrgBlk) : (c.updBrg f).hbd = c.hbd := (rfl)
@[simp] theorem Chip.updBrg_can (f : BrgBlk → BrgBlk) : (c.updBrg f).can = c.can := (rfl)
@[simp] theorem Chip.updBrg_nmw (f : BrgBlk → BrgBlk) : (c.updBrg f).nmw = c.nmw := (rfl)
@[simp] theorem Chip.updBrg_pmu (f : BrgBlk → BrgBlk) : (c.updBrg f).pmu = c.pmu := (rfl)
@[simp] theorem Chip.updBrg_brg (f : BrgBlk → BrgBlk) : (c.updBrg f).brg = f c.brg := (rfl)
@[simp] theorem Chip.updBrg_core (f : BrgBlk → BrgBlk) : (c.updBrg f).core = c.core := (rfl)
@[simp] theorem Chip.updBrg_hbx (f : BrgBlk → BrgBlk) : (c.updBrg f).hbx = c.hbx := (rfl)
@[simp] theorem Chip.updBrg_seam (f : BrgBlk → BrgBlk) : (c.updBrg f).seam = c.seam := (rfl)
@[simp] theorem Chip.updBrg_ddp (f : BrgBlk → BrgBlk) : (c.updBrg f).ddp = c.ddp := (rfl)
@[simp] theorem Chip.updBrg_key (f : BrgBlk → BrgBlk) : (c.updBrg f).key = c.key := (rfl)
@[simp] theorem Chip.updBrg_sfe (f : BrgBlk → BrgBlk) : (c.updBrg f).sfe = c.sfe := (rfl)
@[simp] theorem Chip.updBrg_rst (f : BrgBlk → BrgBlk) : (c.updBrg f).rst = c.rst := (rfl)
@[simp] theorem Chip.updBrg_update (f : BrgBlk → BrgBlk) : (c.updBrg f).update = c.update := (rfl)
@[simp] theorem Chip.updBrg_clm (f : BrgBlk → BrgBlk) : (c.updBrg f).clm = c.clm := (rfl)

/-! `updPoll` -/

@[simp] theorem Chip.updPoll_variantH (i : Nat) (f : BrgPoll → BrgPoll) : (c.updPoll i f).variantH = c.variantH := (rfl)
@[simp] theorem Chip.updPoll_stepping (i : Nat) (f : BrgPoll → BrgPoll) : (c.updPoll i f).stepping = c.stepping := (rfl)
@[simp] theorem Chip.updPoll_regs (i : Nat) (f : BrgPoll → BrgPoll) : (c.updPoll i f).regs = c.regs := (rfl)
@[simp] theorem Chip.updPoll_now (i : Nat) (f : BrgPoll → BrgPoll) : (c.updPoll i f).now = c.now := (rfl)
@[simp] theorem Chip.updPoll_freeCtr (i : Nat) (f : BrgPoll → BrgPoll) : (c.updPoll i f).freeCtr = c.freeCtr := (rfl)
@[simp] theorem Chip.updPoll_fab (i : Nat) (f : BrgPoll → BrgPoll) : (c.updPoll i f).fab = c.fab := (rfl)
@[simp] theorem Chip.updPoll_time (i : Nat) (f : BrgPoll → BrgPoll) : (c.updPoll i f).time = c.time := (rfl)
@[simp] theorem Chip.updPoll_seq (i : Nat) (f : BrgPoll → BrgPoll) : (c.updPoll i f).seq = c.seq := (rfl)
@[simp] theorem Chip.updPoll_lsc (i : Nat) (f : BrgPoll → BrgPoll) : (c.updPoll i f).lsc = c.lsc := (rfl)
@[simp] theorem Chip.updPoll_le (i : Nat) (f : BrgPoll → BrgPoll) : (c.updPoll i f).le = c.le := (rfl)
@[simp] theorem Chip.updPoll_esw (i : Nat) (f : BrgPoll → BrgPoll) : (c.updPoll i f).esw = c.esw := (rfl)
@[simp] theorem Chip.updPoll_hbd (i : Nat) (f : BrgPoll → BrgPoll) : (c.updPoll i f).hbd = c.hbd := (rfl)
@[simp] theorem Chip.updPoll_can (i : Nat) (f : BrgPoll → BrgPoll) : (c.updPoll i f).can = c.can := (rfl)
@[simp] theorem Chip.updPoll_nmw (i : Nat) (f : BrgPoll → BrgPoll) : (c.updPoll i f).nmw = c.nmw := (rfl)
@[simp] theorem Chip.updPoll_pmu (i : Nat) (f : BrgPoll → BrgPoll) : (c.updPoll i f).pmu = c.pmu := (rfl)
@[simp] theorem Chip.updPoll_core (i : Nat) (f : BrgPoll → BrgPoll) : (c.updPoll i f).core = c.core := (rfl)
@[simp] theorem Chip.updPoll_hbx (i : Nat) (f : BrgPoll → BrgPoll) : (c.updPoll i f).hbx = c.hbx := (rfl)
@[simp] theorem Chip.updPoll_seam (i : Nat) (f : BrgPoll → BrgPoll) : (c.updPoll i f).seam = c.seam := (rfl)
@[simp] theorem Chip.updPoll_ddp (i : Nat) (f : BrgPoll → BrgPoll) : (c.updPoll i f).ddp = c.ddp := (rfl)
@[simp] theorem Chip.updPoll_key (i : Nat) (f : BrgPoll → BrgPoll) : (c.updPoll i f).key = c.key := (rfl)
@[simp] theorem Chip.updPoll_sfe (i : Nat) (f : BrgPoll → BrgPoll) : (c.updPoll i f).sfe = c.sfe := (rfl)
@[simp] theorem Chip.updPoll_rst (i : Nat) (f : BrgPoll → BrgPoll) : (c.updPoll i f).rst = c.rst := (rfl)
@[simp] theorem Chip.updPoll_update (i : Nat) (f : BrgPoll → BrgPoll) : (c.updPoll i f).update = c.update := (rfl)
@[simp] theorem Chip.updPoll_clm (i : Nat) (f : BrgPoll → BrgPoll) : (c.updPoll i f).clm = c.clm := (rfl)

/-! `updCan` -/

@[simp] theorem Chip.updCan_variantH (f : CanBlk → CanBlk) : (c.updCan f).variantH = c.variantH := (rfl)
@[simp] theorem Chip.updCan_stepping (f : CanBlk → CanBlk) : (c.updCan f).stepping = c.stepping := (rfl)
@[simp] theorem Chip.updCan_regs (f : CanBlk → CanBlk) : (c.updCan f).regs = c.regs := (rfl)
@[simp] theorem Chip.updCan_now (f : CanBlk → CanBlk) : (c.updCan f).now = c.now := (rfl)
@[simp] theorem Chip.updCan_freeCtr (f : CanBlk → CanBlk) : (c.updCan f).freeCtr = c.freeCtr := (rfl)
@[simp] theorem Chip.updCan_fab (f : CanBlk → CanBlk) : (c.updCan f).fab = c.fab := (rfl)
@[simp] theorem Chip.updCan_time (f : CanBlk → CanBlk) : (c.updCan f).time = c.time := (rfl)
@[simp] theorem Chip.updCan_seq (f : CanBlk → CanBlk) : (c.updCan f).seq = c.seq := (rfl)
@[simp] theorem Chip.updCan_lsc (f : CanBlk → CanBlk) : (c.updCan f).lsc = c.lsc := (rfl)
@[simp] theorem Chip.updCan_le (f : CanBlk → CanBlk) : (c.updCan f).le = c.le := (rfl)
@[simp] theorem Chip.updCan_esw (f : CanBlk → CanBlk) : (c.updCan f).esw = c.esw := (rfl)
@[simp] theorem Chip.updCan_hbd (f : CanBlk → CanBlk) : (c.updCan f).hbd = c.hbd := (rfl)
@[simp] theorem Chip.updCan_can (f : CanBlk → CanBlk) : (c.updCan f).can = f c.can := (rfl)
@[simp] theorem Chip.updCan_nmw (f : CanBlk → CanBlk) : (c.updCan f).nmw = c.nmw := (rfl)
@[simp] theorem Chip.updCan_pmu (f : CanBlk → CanBlk) : (c.updCan f).pmu = c.pmu := (rfl)
@[simp] theorem Chip.updCan_brg (f : CanBlk → CanBlk) : (c.updCan f).brg = c.brg := (rfl)
@[simp] theorem Chip.updCan_core (f : CanBlk → CanBlk) : (c.updCan f).core = c.core := (rfl)
@[simp] theorem Chip.updCan_hbx (f : CanBlk → CanBlk) : (c.updCan f).hbx = c.hbx := (rfl)
@[simp] theorem Chip.updCan_seam (f : CanBlk → CanBlk) : (c.updCan f).seam = c.seam := (rfl)
@[simp] theorem Chip.updCan_ddp (f : CanBlk → CanBlk) : (c.updCan f).ddp = c.ddp := (rfl)
@[simp] theorem Chip.updCan_key (f : CanBlk → CanBlk) : (c.updCan f).key = c.key := (rfl)
@[simp] theorem Chip.updCan_sfe (f : CanBlk → CanBlk) : (c.updCan f).sfe = c.sfe := (rfl)
@[simp] theorem Chip.updCan_rst (f : CanBlk → CanBlk) : (c.updCan f).rst = c.rst := (rfl)
@[simp] theorem Chip.updCan_update (f : CanBlk → CanBlk) : (c.updCan f).update = c.update := (rfl)
@[simp] theorem Chip.updCan_clm (f : CanBlk → CanBlk) : (c.updCan f).clm = c.clm := (rfl)

/-! `updObj` -/

@[simp] theorem Chip.updObj_variantH (i : Nat) (f : CanObj → CanObj) : (c.updObj i f).variantH = c.variantH := (rfl)
@[simp] theorem Chip.updObj_stepping (i : Nat) (f : CanObj → CanObj) : (c.updObj i f).stepping = c.stepping := (rfl)
@[simp] theorem Chip.updObj_regs (i : Nat) (f : CanObj → CanObj) : (c.updObj i f).regs = c.regs := (rfl)
@[simp] theorem Chip.updObj_now (i : Nat) (f : CanObj → CanObj) : (c.updObj i f).now = c.now := (rfl)
@[simp] theorem Chip.updObj_freeCtr (i : Nat) (f : CanObj → CanObj) : (c.updObj i f).freeCtr = c.freeCtr := (rfl)
@[simp] theorem Chip.updObj_fab (i : Nat) (f : CanObj → CanObj) : (c.updObj i f).fab = c.fab := (rfl)
@[simp] theorem Chip.updObj_time (i : Nat) (f : CanObj → CanObj) : (c.updObj i f).time = c.time := (rfl)
@[simp] theorem Chip.updObj_seq (i : Nat) (f : CanObj → CanObj) : (c.updObj i f).seq = c.seq := (rfl)
@[simp] theorem Chip.updObj_lsc (i : Nat) (f : CanObj → CanObj) : (c.updObj i f).lsc = c.lsc := (rfl)
@[simp] theorem Chip.updObj_le (i : Nat) (f : CanObj → CanObj) : (c.updObj i f).le = c.le := (rfl)
@[simp] theorem Chip.updObj_esw (i : Nat) (f : CanObj → CanObj) : (c.updObj i f).esw = c.esw := (rfl)
@[simp] theorem Chip.updObj_hbd (i : Nat) (f : CanObj → CanObj) : (c.updObj i f).hbd = c.hbd := (rfl)
@[simp] theorem Chip.updObj_nmw (i : Nat) (f : CanObj → CanObj) : (c.updObj i f).nmw = c.nmw := (rfl)
@[simp] theorem Chip.updObj_pmu (i : Nat) (f : CanObj → CanObj) : (c.updObj i f).pmu = c.pmu := (rfl)
@[simp] theorem Chip.updObj_brg (i : Nat) (f : CanObj → CanObj) : (c.updObj i f).brg = c.brg := (rfl)
@[simp] theorem Chip.updObj_core (i : Nat) (f : CanObj → CanObj) : (c.updObj i f).core = c.core := (rfl)
@[simp] theorem Chip.updObj_hbx (i : Nat) (f : CanObj → CanObj) : (c.updObj i f).hbx = c.hbx := (rfl)
@[simp] theorem Chip.updObj_seam (i : Nat) (f : CanObj → CanObj) : (c.updObj i f).seam = c.seam := (rfl)
@[simp] theorem Chip.updObj_ddp (i : Nat) (f : CanObj → CanObj) : (c.updObj i f).ddp = c.ddp := (rfl)
@[simp] theorem Chip.updObj_key (i : Nat) (f : CanObj → CanObj) : (c.updObj i f).key = c.key := (rfl)
@[simp] theorem Chip.updObj_sfe (i : Nat) (f : CanObj → CanObj) : (c.updObj i f).sfe = c.sfe := (rfl)
@[simp] theorem Chip.updObj_rst (i : Nat) (f : CanObj → CanObj) : (c.updObj i f).rst = c.rst := (rfl)
@[simp] theorem Chip.updObj_update (i : Nat) (f : CanObj → CanObj) : (c.updObj i f).update = c.update := (rfl)
@[simp] theorem Chip.updObj_clm (i : Nat) (f : CanObj → CanObj) : (c.updObj i f).clm = c.clm := (rfl)

/-! `updClm` -/

@[simp] theorem Chip.updClm_variantH (f : ClmBlk → ClmBlk) : (c.updClm f).variantH = c.variantH := (rfl)
@[simp] theorem Chip.updClm_stepping (f : ClmBlk → ClmBlk) : (c.updClm f).stepping = c.stepping := (rfl)
@[simp] theorem Chip.updClm_regs (f : ClmBlk → ClmBlk) : (c.updClm f).regs = c.regs := (rfl)
@[simp] theorem Chip.updClm_now (f : ClmBlk → ClmBlk) : (c.updClm f).now = c.now := (rfl)
@[simp] theorem Chip.updClm_freeCtr (f : ClmBlk → ClmBlk) : (c.updClm f).freeCtr = c.freeCtr := (rfl)
@[simp] theorem Chip.updClm_fab (f : ClmBlk → ClmBlk) : (c.updClm f).fab = c.fab := (rfl)
@[simp] theorem Chip.updClm_time (f : ClmBlk → ClmBlk) : (c.updClm f).time = c.time := (rfl)
@[simp] theorem Chip.updClm_seq (f : ClmBlk → ClmBlk) : (c.updClm f).seq = c.seq := (rfl)
@[simp] theorem Chip.updClm_lsc (f : ClmBlk → ClmBlk) : (c.updClm f).lsc = c.lsc := (rfl)
@[simp] theorem Chip.updClm_le (f : ClmBlk → ClmBlk) : (c.updClm f).le = c.le := (rfl)
@[simp] theorem Chip.updClm_esw (f : ClmBlk → ClmBlk) : (c.updClm f).esw = c.esw := (rfl)
@[simp] theorem Chip.updClm_hbd (f : ClmBlk → ClmBlk) : (c.updClm f).hbd = c.hbd := (rfl)
@[simp] theorem Chip.updClm_can (f : ClmBlk → ClmBlk) : (c.updClm f).can = c.can := (rfl)
@[simp] theorem Chip.updClm_nmw (f : ClmBlk → ClmBlk) : (c.updClm f).nmw = c.nmw := (rfl)
@[simp] theorem Chip.updClm_pmu (f : ClmBlk → ClmBlk) : (c.updClm f).pmu = c.pmu := (rfl)
@[simp] theorem Chip.updClm_brg (f : ClmBlk → ClmBlk) : (c.updClm f).brg = c.brg := (rfl)
@[simp] theorem Chip.updClm_core (f : ClmBlk → ClmBlk) : (c.updClm f).core = c.core := (rfl)
@[simp] theorem Chip.updClm_hbx (f : ClmBlk → ClmBlk) : (c.updClm f).hbx = c.hbx := (rfl)
@[simp] theorem Chip.updClm_seam (f : ClmBlk → ClmBlk) : (c.updClm f).seam = c.seam := (rfl)
@[simp] theorem Chip.updClm_ddp (f : ClmBlk → ClmBlk) : (c.updClm f).ddp = c.ddp := (rfl)
@[simp] theorem Chip.updClm_key (f : ClmBlk → ClmBlk) : (c.updClm f).key = c.key := (rfl)
@[simp] theorem Chip.updClm_sfe (f : ClmBlk → ClmBlk) : (c.updClm f).sfe = c.sfe := (rfl)
@[simp] theorem Chip.updClm_rst (f : ClmBlk → ClmBlk) : (c.updClm f).rst = c.rst := (rfl)
@[simp] theorem Chip.updClm_update (f : ClmBlk → ClmBlk) : (c.updClm f).update = c.update := (rfl)
@[simp] theorem Chip.updClm_clm (f : ClmBlk → ClmBlk) : (c.updClm f).clm = f c.clm := (rfl)

/-! `updLs` -/

@[simp] theorem Chip.updLs_variantH (n : Nat) (f : LsChan → LsChan) : (c.updLs n f).variantH = c.variantH := (rfl)
@[simp] theorem Chip.updLs_stepping (n : Nat) (f : LsChan → LsChan) : (c.updLs n f).stepping = c.stepping := (rfl)
@[simp] theorem Chip.updLs_regs (n : Nat) (f : LsChan → LsChan) : (c.updLs n f).regs = c.regs := (rfl)
@[simp] theorem Chip.updLs_now (n : Nat) (f : LsChan → LsChan) : (c.updLs n f).now = c.now := (rfl)
@[simp] theorem Chip.updLs_freeCtr (n : Nat) (f : LsChan → LsChan) : (c.updLs n f).freeCtr = c.freeCtr := (rfl)
@[simp] theorem Chip.updLs_fab (n : Nat) (f : LsChan → LsChan) : (c.updLs n f).fab = c.fab := (rfl)
@[simp] theorem Chip.updLs_time (n : Nat) (f : LsChan → LsChan) : (c.updLs n f).time = c.time := (rfl)
@[simp] theorem Chip.updLs_seq (n : Nat) (f : LsChan → LsChan) : (c.updLs n f).seq = c.seq := (rfl)
@[simp] theorem Chip.updLs_le (n : Nat) (f : LsChan → LsChan) : (c.updLs n f).le = c.le := (rfl)
@[simp] theorem Chip.updLs_esw (n : Nat) (f : LsChan → LsChan) : (c.updLs n f).esw = c.esw := (rfl)
@[simp] theorem Chip.updLs_hbd (n : Nat) (f : LsChan → LsChan) : (c.updLs n f).hbd = c.hbd := (rfl)
@[simp] theorem Chip.updLs_can (n : Nat) (f : LsChan → LsChan) : (c.updLs n f).can = c.can := (rfl)
@[simp] theorem Chip.updLs_nmw (n : Nat) (f : LsChan → LsChan) : (c.updLs n f).nmw = c.nmw := (rfl)
@[simp] theorem Chip.updLs_pmu (n : Nat) (f : LsChan → LsChan) : (c.updLs n f).pmu = c.pmu := (rfl)
@[simp] theorem Chip.updLs_brg (n : Nat) (f : LsChan → LsChan) : (c.updLs n f).brg = c.brg := (rfl)
@[simp] theorem Chip.updLs_core (n : Nat) (f : LsChan → LsChan) : (c.updLs n f).core = c.core := (rfl)
@[simp] theorem Chip.updLs_hbx (n : Nat) (f : LsChan → LsChan) : (c.updLs n f).hbx = c.hbx := (rfl)
@[simp] theorem Chip.updLs_seam (n : Nat) (f : LsChan → LsChan) : (c.updLs n f).seam = c.seam := (rfl)
@[simp] theorem Chip.updLs_ddp (n : Nat) (f : LsChan → LsChan) : (c.updLs n f).ddp = c.ddp := (rfl)
@[simp] theorem Chip.updLs_key (n : Nat) (f : LsChan → LsChan) : (c.updLs n f).key = c.key := (rfl)
@[simp] theorem Chip.updLs_sfe (n : Nat) (f : LsChan → LsChan) : (c.updLs n f).sfe = c.sfe := (rfl)
@[simp] theorem Chip.updLs_rst (n : Nat) (f : LsChan → LsChan) : (c.updLs n f).rst = c.rst := (rfl)
@[simp] theorem Chip.updLs_update (n : Nat) (f : LsChan → LsChan) : (c.updLs n f).update = c.update := (rfl)
@[simp] theorem Chip.updLs_clm (n : Nat) (f : LsChan → LsChan) : (c.updLs n f).clm = c.clm := (rfl)

/-! `updDdp` -/

@[simp] theorem Chip.updDdp_variantH (f : DdpBlk → DdpBlk) : (c.updDdp f).variantH = c.variantH := (rfl)
@[simp] theorem Chip.updDdp_stepping (f : DdpBlk → DdpBlk) : (c.updDdp f).stepping = c.stepping := (rfl)
@[simp] theorem Chip.updDdp_regs (f : DdpBlk → DdpBlk) : (c.updDdp f).regs = c.regs := (rfl)
@[simp] theorem Chip.updDdp_now (f : DdpBlk → DdpBlk) : (c.updDdp f).now = c.now := (rfl)
@[simp] theorem Chip.updDdp_freeCtr (f : DdpBlk → DdpBlk) : (c.updDdp f).freeCtr = c.freeCtr := (rfl)
@[simp] theorem Chip.updDdp_fab (f : DdpBlk → DdpBlk) : (c.updDdp f).fab = c.fab := (rfl)
@[simp] theorem Chip.updDdp_time (f : DdpBlk → DdpBlk) : (c.updDdp f).time = c.time := (rfl)
@[simp] theorem Chip.updDdp_seq (f : DdpBlk → DdpBlk) : (c.updDdp f).seq = c.seq := (rfl)
@[simp] theorem Chip.updDdp_lsc (f : DdpBlk → DdpBlk) : (c.updDdp f).lsc = c.lsc := (rfl)
@[simp] theorem Chip.updDdp_le (f : DdpBlk → DdpBlk) : (c.updDdp f).le = c.le := (rfl)
@[simp] theorem Chip.updDdp_esw (f : DdpBlk → DdpBlk) : (c.updDdp f).esw = c.esw := (rfl)
@[simp] theorem Chip.updDdp_hbd (f : DdpBlk → DdpBlk) : (c.updDdp f).hbd = c.hbd := (rfl)
@[simp] theorem Chip.updDdp_can (f : DdpBlk → DdpBlk) : (c.updDdp f).can = c.can := (rfl)
@[simp] theorem Chip.updDdp_nmw (f : DdpBlk → DdpBlk) : (c.updDdp f).nmw = c.nmw := (rfl)
@[simp] theorem Chip.updDdp_pmu (f : DdpBlk → DdpBlk) : (c.updDdp f).pmu = c.pmu := (rfl)
@[simp] theorem Chip.updDdp_brg (f : DdpBlk → DdpBlk) : (c.updDdp f).brg = c.brg := (rfl)
@[simp] theorem Chip.updDdp_core (f : DdpBlk → DdpBlk) : (c.updDdp f).core = c.core := (rfl)
@[simp] theorem Chip.updDdp_hbx (f : DdpBlk → DdpBlk) : (c.updDdp f).hbx = c.hbx := (rfl)
@[simp] theorem Chip.updDdp_seam (f : DdpBlk → DdpBlk) : (c.updDdp f).seam = c.seam := (rfl)
@[simp] theorem Chip.updDdp_ddp (f : DdpBlk → DdpBlk) : (c.updDdp f).ddp = f c.ddp := (rfl)
@[simp] theorem Chip.updDdp_key (f : DdpBlk → DdpBlk) : (c.updDdp f).key = c.key := (rfl)
@[simp] theorem Chip.updDdp_sfe (f : DdpBlk → DdpBlk) : (c.updDdp f).sfe = c.sfe := (rfl)
@[simp] theorem Chip.updDdp_rst (f : DdpBlk → DdpBlk) : (c.updDdp f).rst = c.rst := (rfl)
@[simp] theorem Chip.updDdp_update (f : DdpBlk → DdpBlk) : (c.updDdp f).update = c.update := (rfl)
@[simp] theorem Chip.updDdp_clm (f : DdpBlk → DdpBlk) : (c.updDdp f).clm = c.clm := (rfl)

/-! `updSession` -/

@[simp] theorem Chip.updSession_variantH (n : Nat) (f : DdpSession → DdpSession) : (c.updSession n f).variantH = c.variantH := (rfl)
@[simp] theorem Chip.updSession_stepping (n : Nat) (f : DdpSession → DdpSession) : (c.updSession n f).stepping = c.stepping := (rfl)
@[simp] theorem Chip.updSession_regs (n : Nat) (f : DdpSession → DdpSession) : (c.updSession n f).regs = c.regs := (rfl)
@[simp] theorem Chip.updSession_now (n : Nat) (f : DdpSession → DdpSession) : (c.updSession n f).now = c.now := (rfl)
@[simp] theorem Chip.updSession_freeCtr (n : Nat) (f : DdpSession → DdpSession) : (c.updSession n f).freeCtr = c.freeCtr := (rfl)
@[simp] theorem Chip.updSession_fab (n : Nat) (f : DdpSession → DdpSession) : (c.updSession n f).fab = c.fab := (rfl)
@[simp] theorem Chip.updSession_time (n : Nat) (f : DdpSession → DdpSession) : (c.updSession n f).time = c.time := (rfl)
@[simp] theorem Chip.updSession_seq (n : Nat) (f : DdpSession → DdpSession) : (c.updSession n f).seq = c.seq := (rfl)
@[simp] theorem Chip.updSession_lsc (n : Nat) (f : DdpSession → DdpSession) : (c.updSession n f).lsc = c.lsc := (rfl)
@[simp] theorem Chip.updSession_le (n : Nat) (f : DdpSession → DdpSession) : (c.updSession n f).le = c.le := (rfl)
@[simp] theorem Chip.updSession_esw (n : Nat) (f : DdpSession → DdpSession) : (c.updSession n f).esw = c.esw := (rfl)
@[simp] theorem Chip.updSession_hbd (n : Nat) (f : DdpSession → DdpSession) : (c.updSession n f).hbd = c.hbd := (rfl)
@[simp] theorem Chip.updSession_can (n : Nat) (f : DdpSession → DdpSession) : (c.updSession n f).can = c.can := (rfl)
@[simp] theorem Chip.updSession_nmw (n : Nat) (f : DdpSession → DdpSession) : (c.updSession n f).nmw = c.nmw := (rfl)
@[simp] theorem Chip.updSession_pmu (n : Nat) (f : DdpSession → DdpSession) : (c.updSession n f).pmu = c.pmu := (rfl)
@[simp] theorem Chip.updSession_brg (n : Nat) (f : DdpSession → DdpSession) : (c.updSession n f).brg = c.brg := (rfl)
@[simp] theorem Chip.updSession_core (n : Nat) (f : DdpSession → DdpSession) : (c.updSession n f).core = c.core := (rfl)
@[simp] theorem Chip.updSession_hbx (n : Nat) (f : DdpSession → DdpSession) : (c.updSession n f).hbx = c.hbx := (rfl)
@[simp] theorem Chip.updSession_seam (n : Nat) (f : DdpSession → DdpSession) : (c.updSession n f).seam = c.seam := (rfl)
@[simp] theorem Chip.updSession_key (n : Nat) (f : DdpSession → DdpSession) : (c.updSession n f).key = c.key := (rfl)
@[simp] theorem Chip.updSession_sfe (n : Nat) (f : DdpSession → DdpSession) : (c.updSession n f).sfe = c.sfe := (rfl)
@[simp] theorem Chip.updSession_rst (n : Nat) (f : DdpSession → DdpSession) : (c.updSession n f).rst = c.rst := (rfl)
@[simp] theorem Chip.updSession_update (n : Nat) (f : DdpSession → DdpSession) : (c.updSession n f).update = c.update := (rfl)
@[simp] theorem Chip.updSession_clm (n : Nat) (f : DdpSession → DdpSession) : (c.updSession n f).clm = c.clm := (rfl)

/-! `updXfer` -/

@[simp] theorem Chip.updXfer_variantH (n : Nat) (f : DdpXfer → DdpXfer) : (c.updXfer n f).variantH = c.variantH := (rfl)
@[simp] theorem Chip.updXfer_stepping (n : Nat) (f : DdpXfer → DdpXfer) : (c.updXfer n f).stepping = c.stepping := (rfl)
@[simp] theorem Chip.updXfer_regs (n : Nat) (f : DdpXfer → DdpXfer) : (c.updXfer n f).regs = c.regs := (rfl)
@[simp] theorem Chip.updXfer_now (n : Nat) (f : DdpXfer → DdpXfer) : (c.updXfer n f).now = c.now := (rfl)
@[simp] theorem Chip.updXfer_freeCtr (n : Nat) (f : DdpXfer → DdpXfer) : (c.updXfer n f).freeCtr = c.freeCtr := (rfl)
@[simp] theorem Chip.updXfer_fab (n : Nat) (f : DdpXfer → DdpXfer) : (c.updXfer n f).fab = c.fab := (rfl)
@[simp] theorem Chip.updXfer_time (n : Nat) (f : DdpXfer → DdpXfer) : (c.updXfer n f).time = c.time := (rfl)
@[simp] theorem Chip.updXfer_seq (n : Nat) (f : DdpXfer → DdpXfer) : (c.updXfer n f).seq = c.seq := (rfl)
@[simp] theorem Chip.updXfer_lsc (n : Nat) (f : DdpXfer → DdpXfer) : (c.updXfer n f).lsc = c.lsc := (rfl)
@[simp] theorem Chip.updXfer_le (n : Nat) (f : DdpXfer → DdpXfer) : (c.updXfer n f).le = c.le := (rfl)
@[simp] theorem Chip.updXfer_esw (n : Nat) (f : DdpXfer → DdpXfer) : (c.updXfer n f).esw = c.esw := (rfl)
@[simp] theorem Chip.updXfer_hbd (n : Nat) (f : DdpXfer → DdpXfer) : (c.updXfer n f).hbd = c.hbd := (rfl)
@[simp] theorem Chip.updXfer_can (n : Nat) (f : DdpXfer → DdpXfer) : (c.updXfer n f).can = c.can := (rfl)
@[simp] theorem Chip.updXfer_nmw (n : Nat) (f : DdpXfer → DdpXfer) : (c.updXfer n f).nmw = c.nmw := (rfl)
@[simp] theorem Chip.updXfer_pmu (n : Nat) (f : DdpXfer → DdpXfer) : (c.updXfer n f).pmu = c.pmu := (rfl)
@[simp] theorem Chip.updXfer_brg (n : Nat) (f : DdpXfer → DdpXfer) : (c.updXfer n f).brg = c.brg := (rfl)
@[simp] theorem Chip.updXfer_core (n : Nat) (f : DdpXfer → DdpXfer) : (c.updXfer n f).core = c.core := (rfl)
@[simp] theorem Chip.updXfer_hbx (n : Nat) (f : DdpXfer → DdpXfer) : (c.updXfer n f).hbx = c.hbx := (rfl)
@[simp] theorem Chip.updXfer_seam (n : Nat) (f : DdpXfer → DdpXfer) : (c.updXfer n f).seam = c.seam := (rfl)
@[simp] theorem Chip.updXfer_key (n : Nat) (f : DdpXfer → DdpXfer) : (c.updXfer n f).key = c.key := (rfl)
@[simp] theorem Chip.updXfer_sfe (n : Nat) (f : DdpXfer → DdpXfer) : (c.updXfer n f).sfe = c.sfe := (rfl)
@[simp] theorem Chip.updXfer_rst (n : Nat) (f : DdpXfer → DdpXfer) : (c.updXfer n f).rst = c.rst := (rfl)
@[simp] theorem Chip.updXfer_update (n : Nat) (f : DdpXfer → DdpXfer) : (c.updXfer n f).update = c.update := (rfl)
@[simp] theorem Chip.updXfer_clm (n : Nat) (f : DdpXfer → DdpXfer) : (c.updXfer n f).clm = c.clm := (rfl)

/-! `updHbd` -/

@[simp] theorem Chip.updHbd_variantH (f : HbdBlk → HbdBlk) : (c.updHbd f).variantH = c.variantH := (rfl)
@[simp] theorem Chip.updHbd_stepping (f : HbdBlk → HbdBlk) : (c.updHbd f).stepping = c.stepping := (rfl)
@[simp] theorem Chip.updHbd_regs (f : HbdBlk → HbdBlk) : (c.updHbd f).regs = c.regs := (rfl)
@[simp] theorem Chip.updHbd_now (f : HbdBlk → HbdBlk) : (c.updHbd f).now = c.now := (rfl)
@[simp] theorem Chip.updHbd_freeCtr (f : HbdBlk → HbdBlk) : (c.updHbd f).freeCtr = c.freeCtr := (rfl)
@[simp] theorem Chip.updHbd_fab (f : HbdBlk → HbdBlk) : (c.updHbd f).fab = c.fab := (rfl)
@[simp] theorem Chip.updHbd_time (f : HbdBlk → HbdBlk) : (c.updHbd f).time = c.time := (rfl)
@[simp] theorem Chip.updHbd_seq (f : HbdBlk → HbdBlk) : (c.updHbd f).seq = c.seq := (rfl)
@[simp] theorem Chip.updHbd_lsc (f : HbdBlk → HbdBlk) : (c.updHbd f).lsc = c.lsc := (rfl)
@[simp] theorem Chip.updHbd_le (f : HbdBlk → HbdBlk) : (c.updHbd f).le = c.le := (rfl)
@[simp] theorem Chip.updHbd_esw (f : HbdBlk → HbdBlk) : (c.updHbd f).esw = c.esw := (rfl)
@[simp] theorem Chip.updHbd_hbd (f : HbdBlk → HbdBlk) : (c.updHbd f).hbd = f c.hbd := (rfl)
@[simp] theorem Chip.updHbd_can (f : HbdBlk → HbdBlk) : (c.updHbd f).can = c.can := (rfl)
@[simp] theorem Chip.updHbd_nmw (f : HbdBlk → HbdBlk) : (c.updHbd f).nmw = c.nmw := (rfl)
@[simp] theorem Chip.updHbd_pmu (f : HbdBlk → HbdBlk) : (c.updHbd f).pmu = c.pmu := (rfl)
@[simp] theorem Chip.updHbd_brg (f : HbdBlk → HbdBlk) : (c.updHbd f).brg = c.brg := (rfl)
@[simp] theorem Chip.updHbd_core (f : HbdBlk → HbdBlk) : (c.updHbd f).core = c.core := (rfl)
@[simp] theorem Chip.updHbd_hbx (f : HbdBlk → HbdBlk) : (c.updHbd f).hbx = c.hbx := (rfl)
@[simp] theorem Chip.updHbd_seam (f : HbdBlk → HbdBlk) : (c.updHbd f).seam = c.seam := (rfl)
@[simp] theorem Chip.updHbd_ddp (f : HbdBlk → HbdBlk) : (c.updHbd f).ddp = c.ddp := (rfl)
@[simp] theorem Chip.updHbd_key (f : HbdBlk → HbdBlk) : (c.updHbd f).key = c.key := (rfl)
@[simp] theorem Chip.updHbd_sfe (f : HbdBlk → HbdBlk) : (c.updHbd f).sfe = c.sfe := (rfl)
@[simp] theorem Chip.updHbd_rst (f : HbdBlk → HbdBlk) : (c.updHbd f).rst = c.rst := (rfl)
@[simp] theorem Chip.updHbd_update (f : HbdBlk → HbdBlk) : (c.updHbd f).update = c.update := (rfl)
@[simp] theorem Chip.updHbd_clm (f : HbdBlk → HbdBlk) : (c.updHbd f).clm = c.clm := (rfl)

/-! `updBuf` -/

@[simp] theorem Chip.updBuf_variantH (n : Nat) (f : HbdBuf → HbdBuf) : (c.updBuf n f).variantH = c.variantH := (rfl)
@[simp] theorem Chip.updBuf_stepping (n : Nat) (f : HbdBuf → HbdBuf) : (c.updBuf n f).stepping = c.stepping := (rfl)
@[simp] theorem Chip.updBuf_regs (n : Nat) (f : HbdBuf → HbdBuf) : (c.updBuf n f).regs = c.regs := (rfl)
@[simp] theorem Chip.updBuf_now (n : Nat) (f : HbdBuf → HbdBuf) : (c.updBuf n f).now = c.now := (rfl)
@[simp] theorem Chip.updBuf_freeCtr (n : Nat) (f : HbdBuf → HbdBuf) : (c.updBuf n f).freeCtr = c.freeCtr := (rfl)
@[simp] theorem Chip.updBuf_fab (n : Nat) (f : HbdBuf → HbdBuf) : (c.updBuf n f).fab = c.fab := (rfl)
@[simp] theorem Chip.updBuf_time (n : Nat) (f : HbdBuf → HbdBuf) : (c.updBuf n f).time = c.time := (rfl)
@[simp] theorem Chip.updBuf_seq (n : Nat) (f : HbdBuf → HbdBuf) : (c.updBuf n f).seq = c.seq := (rfl)
@[simp] theorem Chip.updBuf_lsc (n : Nat) (f : HbdBuf → HbdBuf) : (c.updBuf n f).lsc = c.lsc := (rfl)
@[simp] theorem Chip.updBuf_le (n : Nat) (f : HbdBuf → HbdBuf) : (c.updBuf n f).le = c.le := (rfl)
@[simp] theorem Chip.updBuf_esw (n : Nat) (f : HbdBuf → HbdBuf) : (c.updBuf n f).esw = c.esw := (rfl)
@[simp] theorem Chip.updBuf_can (n : Nat) (f : HbdBuf → HbdBuf) : (c.updBuf n f).can = c.can := (rfl)
@[simp] theorem Chip.updBuf_nmw (n : Nat) (f : HbdBuf → HbdBuf) : (c.updBuf n f).nmw = c.nmw := (rfl)
@[simp] theorem Chip.updBuf_pmu (n : Nat) (f : HbdBuf → HbdBuf) : (c.updBuf n f).pmu = c.pmu := (rfl)
@[simp] theorem Chip.updBuf_brg (n : Nat) (f : HbdBuf → HbdBuf) : (c.updBuf n f).brg = c.brg := (rfl)
@[simp] theorem Chip.updBuf_core (n : Nat) (f : HbdBuf → HbdBuf) : (c.updBuf n f).core = c.core := (rfl)
@[simp] theorem Chip.updBuf_hbx (n : Nat) (f : HbdBuf → HbdBuf) : (c.updBuf n f).hbx = c.hbx := (rfl)
@[simp] theorem Chip.updBuf_seam (n : Nat) (f : HbdBuf → HbdBuf) : (c.updBuf n f).seam = c.seam := (rfl)
@[simp] theorem Chip.updBuf_ddp (n : Nat) (f : HbdBuf → HbdBuf) : (c.updBuf n f).ddp = c.ddp := (rfl)
@[simp] theorem Chip.updBuf_key (n : Nat) (f : HbdBuf → HbdBuf) : (c.updBuf n f).key = c.key := (rfl)
@[simp] theorem Chip.updBuf_sfe (n : Nat) (f : HbdBuf → HbdBuf) : (c.updBuf n f).sfe = c.sfe := (rfl)
@[simp] theorem Chip.updBuf_rst (n : Nat) (f : HbdBuf → HbdBuf) : (c.updBuf n f).rst = c.rst := (rfl)
@[simp] theorem Chip.updBuf_update (n : Nat) (f : HbdBuf → HbdBuf) : (c.updBuf n f).update = c.update := (rfl)
@[simp] theorem Chip.updBuf_clm (n : Nat) (f : HbdBuf → HbdBuf) : (c.updBuf n f).clm = c.clm := (rfl)

/-! `updHbx` -/

@[simp] theorem Chip.updHbx_variantH (f : HbxBlk → HbxBlk) : (c.updHbx f).variantH = c.variantH := (rfl)
@[simp] theorem Chip.updHbx_stepping (f : HbxBlk → HbxBlk) : (c.updHbx f).stepping = c.stepping := (rfl)
@[simp] theorem Chip.updHbx_regs (f : HbxBlk → HbxBlk) : (c.updHbx f).regs = c.regs := (rfl)
@[simp] theorem Chip.updHbx_now (f : HbxBlk → HbxBlk) : (c.updHbx f).now = c.now := (rfl)
@[simp] theorem Chip.updHbx_freeCtr (f : HbxBlk → HbxBlk) : (c.updHbx f).freeCtr = c.freeCtr := (rfl)
@[simp] theorem Chip.updHbx_fab (f : HbxBlk → HbxBlk) : (c.updHbx f).fab = c.fab := (rfl)
@[simp] theorem Chip.updHbx_time (f : HbxBlk → HbxBlk) : (c.updHbx f).time = c.time := (rfl)
@[simp] theorem Chip.updHbx_seq (f : HbxBlk → HbxBlk) : (c.updHbx f).seq = c.seq := (rfl)
@[simp] theorem Chip.updHbx_lsc (f : HbxBlk → HbxBlk) : (c.updHbx f).lsc = c.lsc := (rfl)
@[simp] theorem Chip.updHbx_le (f : HbxBlk → HbxBlk) : (c.updHbx f).le = c.le := (rfl)
@[simp] theorem Chip.updHbx_esw (f : HbxBlk → HbxBlk) : (c.updHbx f).esw = c.esw := (rfl)
@[simp] theorem Chip.updHbx_hbd (f : HbxBlk → HbxBlk) : (c.updHbx f).hbd = c.hbd := (rfl)
@[simp] theorem Chip.updHbx_can (f : HbxBlk → HbxBlk) : (c.updHbx f).can = c.can := (rfl)
@[simp] theorem Chip.updHbx_nmw (f : HbxBlk → HbxBlk) : (c.updHbx f).nmw = c.nmw := (rfl)
@[simp] theorem Chip.updHbx_pmu (f : HbxBlk → HbxBlk) : (c.updHbx f).pmu = c.pmu := (rfl)
@[simp] theorem Chip.updHbx_brg (f : HbxBlk → HbxBlk) : (c.updHbx f).brg = c.brg := (rfl)
@[simp] theorem Chip.updHbx_core (f : HbxBlk → HbxBlk) : (c.updHbx f).core = c.core := (rfl)
@[simp] theorem Chip.updHbx_hbx (f : HbxBlk → HbxBlk) : (c.updHbx f).hbx = f c.hbx := (rfl)
@[simp] theorem Chip.updHbx_seam (f : HbxBlk → HbxBlk) : (c.updHbx f).seam = c.seam := (rfl)
@[simp] theorem Chip.updHbx_ddp (f : HbxBlk → HbxBlk) : (c.updHbx f).ddp = c.ddp := (rfl)
@[simp] theorem Chip.updHbx_key (f : HbxBlk → HbxBlk) : (c.updHbx f).key = c.key := (rfl)
@[simp] theorem Chip.updHbx_sfe (f : HbxBlk → HbxBlk) : (c.updHbx f).sfe = c.sfe := (rfl)
@[simp] theorem Chip.updHbx_rst (f : HbxBlk → HbxBlk) : (c.updHbx f).rst = c.rst := (rfl)
@[simp] theorem Chip.updHbx_update (f : HbxBlk → HbxBlk) : (c.updHbx f).update = c.update := (rfl)
@[simp] theorem Chip.updHbx_clm (f : HbxBlk → HbxBlk) : (c.updHbx f).clm = c.clm := (rfl)

/-! `updKey` -/

@[simp] theorem Chip.updKey_variantH (f : KeyBlk → KeyBlk) : (c.updKey f).variantH = c.variantH := (rfl)
@[simp] theorem Chip.updKey_stepping (f : KeyBlk → KeyBlk) : (c.updKey f).stepping = c.stepping := (rfl)
@[simp] theorem Chip.updKey_regs (f : KeyBlk → KeyBlk) : (c.updKey f).regs = c.regs := (rfl)
@[simp] theorem Chip.updKey_now (f : KeyBlk → KeyBlk) : (c.updKey f).now = c.now := (rfl)
@[simp] theorem Chip.updKey_freeCtr (f : KeyBlk → KeyBlk) : (c.updKey f).freeCtr = c.freeCtr := (rfl)
@[simp] theorem Chip.updKey_fab (f : KeyBlk → KeyBlk) : (c.updKey f).fab = c.fab := (rfl)
@[simp] theorem Chip.updKey_time (f : KeyBlk → KeyBlk) : (c.updKey f).time = c.time := (rfl)
@[simp] theorem Chip.updKey_seq (f : KeyBlk → KeyBlk) : (c.updKey f).seq = c.seq := (rfl)
@[simp] theorem Chip.updKey_lsc (f : KeyBlk → KeyBlk) : (c.updKey f).lsc = c.lsc := (rfl)
@[simp] theorem Chip.updKey_le (f : KeyBlk → KeyBlk) : (c.updKey f).le = c.le := (rfl)
@[simp] theorem Chip.updKey_esw (f : KeyBlk → KeyBlk) : (c.updKey f).esw = c.esw := (rfl)
@[simp] theorem Chip.updKey_hbd (f : KeyBlk → KeyBlk) : (c.updKey f).hbd = c.hbd := (rfl)
@[simp] theorem Chip.updKey_can (f : KeyBlk → KeyBlk) : (c.updKey f).can = c.can := (rfl)
@[simp] theorem Chip.updKey_nmw (f : KeyBlk → KeyBlk) : (c.updKey f).nmw = c.nmw := (rfl)
@[simp] theorem Chip.updKey_pmu (f : KeyBlk → KeyBlk) : (c.updKey f).pmu = c.pmu := (rfl)
@[simp] theorem Chip.updKey_brg (f : KeyBlk → KeyBlk) : (c.updKey f).brg = c.brg := (rfl)
@[simp] theorem Chip.updKey_core (f : KeyBlk → KeyBlk) : (c.updKey f).core = c.core := (rfl)
@[simp] theorem Chip.updKey_hbx (f : KeyBlk → KeyBlk) : (c.updKey f).hbx = c.hbx := (rfl)
@[simp] theorem Chip.updKey_seam (f : KeyBlk → KeyBlk) : (c.updKey f).seam = c.seam := (rfl)
@[simp] theorem Chip.updKey_ddp (f : KeyBlk → KeyBlk) : (c.updKey f).ddp = c.ddp := (rfl)
@[simp] theorem Chip.updKey_key (f : KeyBlk → KeyBlk) : (c.updKey f).key = f c.key := (rfl)
@[simp] theorem Chip.updKey_sfe (f : KeyBlk → KeyBlk) : (c.updKey f).sfe = c.sfe := (rfl)
@[simp] theorem Chip.updKey_rst (f : KeyBlk → KeyBlk) : (c.updKey f).rst = c.rst := (rfl)
@[simp] theorem Chip.updKey_update (f : KeyBlk → KeyBlk) : (c.updKey f).update = c.update := (rfl)
@[simp] theorem Chip.updKey_clm (f : KeyBlk → KeyBlk) : (c.updKey f).clm = c.clm := (rfl)

/-! `updSlot` -/

@[simp] theorem Chip.updSlot_variantH (n : Nat) (f : KeySlot → KeySlot) : (c.updSlot n f).variantH = c.variantH := (rfl)
@[simp] theorem Chip.updSlot_stepping (n : Nat) (f : KeySlot → KeySlot) : (c.updSlot n f).stepping = c.stepping := (rfl)
@[simp] theorem Chip.updSlot_regs (n : Nat) (f : KeySlot → KeySlot) : (c.updSlot n f).regs = c.regs := (rfl)
@[simp] theorem Chip.updSlot_now (n : Nat) (f : KeySlot → KeySlot) : (c.updSlot n f).now = c.now := (rfl)
@[simp] theorem Chip.updSlot_freeCtr (n : Nat) (f : KeySlot → KeySlot) : (c.updSlot n f).freeCtr = c.freeCtr := (rfl)
@[simp] theorem Chip.updSlot_fab (n : Nat) (f : KeySlot → KeySlot) : (c.updSlot n f).fab = c.fab := (rfl)
@[simp] theorem Chip.updSlot_time (n : Nat) (f : KeySlot → KeySlot) : (c.updSlot n f).time = c.time := (rfl)
@[simp] theorem Chip.updSlot_seq (n : Nat) (f : KeySlot → KeySlot) : (c.updSlot n f).seq = c.seq := (rfl)
@[simp] theorem Chip.updSlot_lsc (n : Nat) (f : KeySlot → KeySlot) : (c.updSlot n f).lsc = c.lsc := (rfl)
@[simp] theorem Chip.updSlot_le (n : Nat) (f : KeySlot → KeySlot) : (c.updSlot n f).le = c.le := (rfl)
@[simp] theorem Chip.updSlot_esw (n : Nat) (f : KeySlot → KeySlot) : (c.updSlot n f).esw = c.esw := (rfl)
@[simp] theorem Chip.updSlot_hbd (n : Nat) (f : KeySlot → KeySlot) : (c.updSlot n f).hbd = c.hbd := (rfl)
@[simp] theorem Chip.updSlot_can (n : Nat) (f : KeySlot → KeySlot) : (c.updSlot n f).can = c.can := (rfl)
@[simp] theorem Chip.updSlot_nmw (n : Nat) (f : KeySlot → KeySlot) : (c.updSlot n f).nmw = c.nmw := (rfl)
@[simp] theorem Chip.updSlot_pmu (n : Nat) (f : KeySlot → KeySlot) : (c.updSlot n f).pmu = c.pmu := (rfl)
@[simp] theorem Chip.updSlot_brg (n : Nat) (f : KeySlot → KeySlot) : (c.updSlot n f).brg = c.brg := (rfl)
@[simp] theorem Chip.updSlot_core (n : Nat) (f : KeySlot → KeySlot) : (c.updSlot n f).core = c.core := (rfl)
@[simp] theorem Chip.updSlot_hbx (n : Nat) (f : KeySlot → KeySlot) : (c.updSlot n f).hbx = c.hbx := (rfl)
@[simp] theorem Chip.updSlot_seam (n : Nat) (f : KeySlot → KeySlot) : (c.updSlot n f).seam = c.seam := (rfl)
@[simp] theorem Chip.updSlot_ddp (n : Nat) (f : KeySlot → KeySlot) : (c.updSlot n f).ddp = c.ddp := (rfl)
@[simp] theorem Chip.updSlot_sfe (n : Nat) (f : KeySlot → KeySlot) : (c.updSlot n f).sfe = c.sfe := (rfl)
@[simp] theorem Chip.updSlot_rst (n : Nat) (f : KeySlot → KeySlot) : (c.updSlot n f).rst = c.rst := (rfl)
@[simp] theorem Chip.updSlot_update (n : Nat) (f : KeySlot → KeySlot) : (c.updSlot n f).update = c.update := (rfl)
@[simp] theorem Chip.updSlot_clm (n : Nat) (f : KeySlot → KeySlot) : (c.updSlot n f).clm = c.clm := (rfl)

/-! `updLe` -/

@[simp] theorem Chip.updLe_variantH (e : Nat) (f : LeEngine → LeEngine) : (c.updLe e f).variantH = c.variantH := (rfl)
@[simp] theorem Chip.updLe_stepping (e : Nat) (f : LeEngine → LeEngine) : (c.updLe e f).stepping = c.stepping := (rfl)
@[simp] theorem Chip.updLe_regs (e : Nat) (f : LeEngine → LeEngine) : (c.updLe e f).regs = c.regs := (rfl)
@[simp] theorem Chip.updLe_now (e : Nat) (f : LeEngine → LeEngine) : (c.updLe e f).now = c.now := (rfl)
@[simp] theorem Chip.updLe_freeCtr (e : Nat) (f : LeEngine → LeEngine) : (c.updLe e f).freeCtr = c.freeCtr := (rfl)
@[simp] theorem Chip.updLe_fab (e : Nat) (f : LeEngine → LeEngine) : (c.updLe e f).fab = c.fab := (rfl)
@[simp] theorem Chip.updLe_time (e : Nat) (f : LeEngine → LeEngine) : (c.updLe e f).time = c.time := (rfl)
@[simp] theorem Chip.updLe_seq (e : Nat) (f : LeEngine → LeEngine) : (c.updLe e f).seq = c.seq := (rfl)
@[simp] theorem Chip.updLe_lsc (e : Nat) (f : LeEngine → LeEngine) : (c.updLe e f).lsc = c.lsc := (rfl)
@[simp] theorem Chip.updLe_esw (e : Nat) (f : LeEngine → LeEngine) : (c.updLe e f).esw = c.esw := (rfl)
@[simp] theorem Chip.updLe_hbd (e : Nat) (f : LeEngine → LeEngine) : (c.updLe e f).hbd = c.hbd := (rfl)
@[simp] theorem Chip.updLe_can (e : Nat) (f : LeEngine → LeEngine) : (c.updLe e f).can = c.can := (rfl)
@[simp] theorem Chip.updLe_nmw (e : Nat) (f : LeEngine → LeEngine) : (c.updLe e f).nmw = c.nmw := (rfl)
@[simp] theorem Chip.updLe_pmu (e : Nat) (f : LeEngine → LeEngine) : (c.updLe e f).pmu = c.pmu := (rfl)
@[simp] theorem Chip.updLe_brg (e : Nat) (f : LeEngine → LeEngine) : (c.updLe e f).brg = c.brg := (rfl)
@[simp] theorem Chip.updLe_core (e : Nat) (f : LeEngine → LeEngine) : (c.updLe e f).core = c.core := (rfl)
@[simp] theorem Chip.updLe_hbx (e : Nat) (f : LeEngine → LeEngine) : (c.updLe e f).hbx = c.hbx := (rfl)
@[simp] theorem Chip.updLe_seam (e : Nat) (f : LeEngine → LeEngine) : (c.updLe e f).seam = c.seam := (rfl)
@[simp] theorem Chip.updLe_ddp (e : Nat) (f : LeEngine → LeEngine) : (c.updLe e f).ddp = c.ddp := (rfl)
@[simp] theorem Chip.updLe_key (e : Nat) (f : LeEngine → LeEngine) : (c.updLe e f).key = c.key := (rfl)
@[simp] theorem Chip.updLe_sfe (e : Nat) (f : LeEngine → LeEngine) : (c.updLe e f).sfe = c.sfe := (rfl)
@[simp] theorem Chip.updLe_rst (e : Nat) (f : LeEngine → LeEngine) : (c.updLe e f).rst = c.rst := (rfl)
@[simp] theorem Chip.updLe_update (e : Nat) (f : LeEngine → LeEngine) : (c.updLe e f).update = c.update := (rfl)
@[simp] theorem Chip.updLe_clm (e : Nat) (f : LeEngine → LeEngine) : (c.updLe e f).clm = c.clm := (rfl)

/-! `updCpu` -/

@[simp] theorem Chip.updCpu_variantH (e : Nat) (f : LeCpu → LeCpu) : (c.updCpu e f).variantH = c.variantH := (rfl)
@[simp] theorem Chip.updCpu_stepping (e : Nat) (f : LeCpu → LeCpu) : (c.updCpu e f).stepping = c.stepping := (rfl)
@[simp] theorem Chip.updCpu_regs (e : Nat) (f : LeCpu → LeCpu) : (c.updCpu e f).regs = c.regs := (rfl)
@[simp] theorem Chip.updCpu_now (e : Nat) (f : LeCpu → LeCpu) : (c.updCpu e f).now = c.now := (rfl)
@[simp] theorem Chip.updCpu_freeCtr (e : Nat) (f : LeCpu → LeCpu) : (c.updCpu e f).freeCtr = c.freeCtr := (rfl)
@[simp] theorem Chip.updCpu_fab (e : Nat) (f : LeCpu → LeCpu) : (c.updCpu e f).fab = c.fab := (rfl)
@[simp] theorem Chip.updCpu_time (e : Nat) (f : LeCpu → LeCpu) : (c.updCpu e f).time = c.time := (rfl)
@[simp] theorem Chip.updCpu_seq (e : Nat) (f : LeCpu → LeCpu) : (c.updCpu e f).seq = c.seq := (rfl)
@[simp] theorem Chip.updCpu_lsc (e : Nat) (f : LeCpu → LeCpu) : (c.updCpu e f).lsc = c.lsc := (rfl)
@[simp] theorem Chip.updCpu_esw (e : Nat) (f : LeCpu → LeCpu) : (c.updCpu e f).esw = c.esw := (rfl)
@[simp] theorem Chip.updCpu_hbd (e : Nat) (f : LeCpu → LeCpu) : (c.updCpu e f).hbd = c.hbd := (rfl)
@[simp] theorem Chip.updCpu_can (e : Nat) (f : LeCpu → LeCpu) : (c.updCpu e f).can = c.can := (rfl)
@[simp] theorem Chip.updCpu_nmw (e : Nat) (f : LeCpu → LeCpu) : (c.updCpu e f).nmw = c.nmw := (rfl)
@[simp] theorem Chip.updCpu_pmu (e : Nat) (f : LeCpu → LeCpu) : (c.updCpu e f).pmu = c.pmu := (rfl)
@[simp] theorem Chip.updCpu_brg (e : Nat) (f : LeCpu → LeCpu) : (c.updCpu e f).brg = c.brg := (rfl)
@[simp] theorem Chip.updCpu_core (e : Nat) (f : LeCpu → LeCpu) : (c.updCpu e f).core = c.core := (rfl)
@[simp] theorem Chip.updCpu_hbx (e : Nat) (f : LeCpu → LeCpu) : (c.updCpu e f).hbx = c.hbx := (rfl)
@[simp] theorem Chip.updCpu_seam (e : Nat) (f : LeCpu → LeCpu) : (c.updCpu e f).seam = c.seam := (rfl)
@[simp] theorem Chip.updCpu_ddp (e : Nat) (f : LeCpu → LeCpu) : (c.updCpu e f).ddp = c.ddp := (rfl)
@[simp] theorem Chip.updCpu_key (e : Nat) (f : LeCpu → LeCpu) : (c.updCpu e f).key = c.key := (rfl)
@[simp] theorem Chip.updCpu_sfe (e : Nat) (f : LeCpu → LeCpu) : (c.updCpu e f).sfe = c.sfe := (rfl)
@[simp] theorem Chip.updCpu_rst (e : Nat) (f : LeCpu → LeCpu) : (c.updCpu e f).rst = c.rst := (rfl)
@[simp] theorem Chip.updCpu_update (e : Nat) (f : LeCpu → LeCpu) : (c.updCpu e f).update = c.update := (rfl)
@[simp] theorem Chip.updCpu_clm (e : Nat) (f : LeCpu → LeCpu) : (c.updCpu e f).clm = c.clm := (rfl)

/-! `updNmw` -/

@[simp] theorem Chip.updNmw_variantH (f : NmwBlk → NmwBlk) : (c.updNmw f).variantH = c.variantH := (rfl)
@[simp] theorem Chip.updNmw_stepping (f : NmwBlk → NmwBlk) : (c.updNmw f).stepping = c.stepping := (rfl)
@[simp] theorem Chip.updNmw_regs (f : NmwBlk → NmwBlk) : (c.updNmw f).regs = c.regs := (rfl)
@[simp] theorem Chip.updNmw_now (f : NmwBlk → NmwBlk) : (c.updNmw f).now = c.now := (rfl)
@[simp] theorem Chip.updNmw_freeCtr (f : NmwBlk → NmwBlk) : (c.updNmw f).freeCtr = c.freeCtr := (rfl)
@[simp] theorem Chip.updNmw_fab (f : NmwBlk → NmwBlk) : (c.updNmw f).fab = c.fab := (rfl)
@[simp] theorem Chip.updNmw_time (f : NmwBlk → NmwBlk) : (c.updNmw f).time = c.time := (rfl)
@[simp] theorem Chip.updNmw_seq (f : NmwBlk → NmwBlk) : (c.updNmw f).seq = c.seq := (rfl)
@[simp] theorem Chip.updNmw_lsc (f : NmwBlk → NmwBlk) : (c.updNmw f).lsc = c.lsc := (rfl)
@[simp] theorem Chip.updNmw_le (f : NmwBlk → NmwBlk) : (c.updNmw f).le = c.le := (rfl)
@[simp] theorem Chip.updNmw_esw (f : NmwBlk → NmwBlk) : (c.updNmw f).esw = c.esw := (rfl)
@[simp] theorem Chip.updNmw_hbd (f : NmwBlk → NmwBlk) : (c.updNmw f).hbd = c.hbd := (rfl)
@[simp] theorem Chip.updNmw_can (f : NmwBlk → NmwBlk) : (c.updNmw f).can = c.can := (rfl)
@[simp] theorem Chip.updNmw_nmw (f : NmwBlk → NmwBlk) : (c.updNmw f).nmw = f c.nmw := (rfl)
@[simp] theorem Chip.updNmw_pmu (f : NmwBlk → NmwBlk) : (c.updNmw f).pmu = c.pmu := (rfl)
@[simp] theorem Chip.updNmw_brg (f : NmwBlk → NmwBlk) : (c.updNmw f).brg = c.brg := (rfl)
@[simp] theorem Chip.updNmw_core (f : NmwBlk → NmwBlk) : (c.updNmw f).core = c.core := (rfl)
@[simp] theorem Chip.updNmw_hbx (f : NmwBlk → NmwBlk) : (c.updNmw f).hbx = c.hbx := (rfl)
@[simp] theorem Chip.updNmw_seam (f : NmwBlk → NmwBlk) : (c.updNmw f).seam = c.seam := (rfl)
@[simp] theorem Chip.updNmw_ddp (f : NmwBlk → NmwBlk) : (c.updNmw f).ddp = c.ddp := (rfl)
@[simp] theorem Chip.updNmw_key (f : NmwBlk → NmwBlk) : (c.updNmw f).key = c.key := (rfl)
@[simp] theorem Chip.updNmw_sfe (f : NmwBlk → NmwBlk) : (c.updNmw f).sfe = c.sfe := (rfl)
@[simp] theorem Chip.updNmw_rst (f : NmwBlk → NmwBlk) : (c.updNmw f).rst = c.rst := (rfl)
@[simp] theorem Chip.updNmw_update (f : NmwBlk → NmwBlk) : (c.updNmw f).update = c.update := (rfl)
@[simp] theorem Chip.updNmw_clm (f : NmwBlk → NmwBlk) : (c.updNmw f).clm = c.clm := (rfl)

/-! `updUpdate` -/

@[simp] theorem Chip.updUpdate_variantH (f : UpdBlk → UpdBlk) : (c.updUpdate f).variantH = c.variantH := (rfl)
@[simp] theorem Chip.updUpdate_stepping (f : UpdBlk → UpdBlk) : (c.updUpdate f).stepping = c.stepping := (rfl)
@[simp] theorem Chip.updUpdate_regs (f : UpdBlk → UpdBlk) : (c.updUpdate f).regs = c.regs := (rfl)
@[simp] theorem Chip.updUpdate_now (f : UpdBlk → UpdBlk) : (c.updUpdate f).now = c.now := (rfl)
@[simp] theorem Chip.updUpdate_freeCtr (f : UpdBlk → UpdBlk) : (c.updUpdate f).freeCtr = c.freeCtr := (rfl)
@[simp] theorem Chip.updUpdate_fab (f : UpdBlk → UpdBlk) : (c.updUpdate f).fab = c.fab := (rfl)
@[simp] theorem Chip.updUpdate_time (f : UpdBlk → UpdBlk) : (c.updUpdate f).time = c.time := (rfl)
@[simp] theorem Chip.updUpdate_seq (f : UpdBlk → UpdBlk) : (c.updUpdate f).seq = c.seq := (rfl)
@[simp] theorem Chip.updUpdate_lsc (f : UpdBlk → UpdBlk) : (c.updUpdate f).lsc = c.lsc := (rfl)
@[simp] theorem Chip.updUpdate_le (f : UpdBlk → UpdBlk) : (c.updUpdate f).le = c.le := (rfl)
@[simp] theorem Chip.updUpdate_esw (f : UpdBlk → UpdBlk) : (c.updUpdate f).esw = c.esw := (rfl)
@[simp] theorem Chip.updUpdate_hbd (f : UpdBlk → UpdBlk) : (c.updUpdate f).hbd = c.hbd := (rfl)
@[simp] theorem Chip.updUpdate_can (f : UpdBlk → UpdBlk) : (c.updUpdate f).can = c.can := (rfl)
@[simp] theorem Chip.updUpdate_nmw (f : UpdBlk → UpdBlk) : (c.updUpdate f).nmw = c.nmw := (rfl)
@[simp] theorem Chip.updUpdate_pmu (f : UpdBlk → UpdBlk) : (c.updUpdate f).pmu = c.pmu := (rfl)
@[simp] theorem Chip.updUpdate_brg (f : UpdBlk → UpdBlk) : (c.updUpdate f).brg = c.brg := (rfl)
@[simp] theorem Chip.updUpdate_core (f : UpdBlk → UpdBlk) : (c.updUpdate f).core = c.core := (rfl)
@[simp] theorem Chip.updUpdate_hbx (f : UpdBlk → UpdBlk) : (c.updUpdate f).hbx = c.hbx := (rfl)
@[simp] theorem Chip.updUpdate_seam (f : UpdBlk → UpdBlk) : (c.updUpdate f).seam = c.seam := (rfl)
@[simp] theorem Chip.updUpdate_ddp (f : UpdBlk → UpdBlk) : (c.updUpdate f).ddp = c.ddp := (rfl)
@[simp] theorem Chip.updUpdate_key (f : UpdBlk → UpdBlk) : (c.updUpdate f).key = c.key := (rfl)
@[simp] theorem Chip.updUpdate_sfe (f : UpdBlk → UpdBlk) : (c.updUpdate f).sfe = c.sfe := (rfl)
@[simp] theorem Chip.updUpdate_rst (f : UpdBlk → UpdBlk) : (c.updUpdate f).rst = c.rst := (rfl)
@[simp] theorem Chip.updUpdate_update (f : UpdBlk → UpdBlk) : (c.updUpdate f).update = f c.update := (rfl)
@[simp] theorem Chip.updUpdate_clm (f : UpdBlk → UpdBlk) : (c.updUpdate f).clm = c.clm := (rfl)

/-! `updRelay` -/

@[simp] theorem Chip.updRelay_variantH (k : Nat) (f : UpdRelay → UpdRelay) : (c.updRelay k f).variantH = c.variantH := (rfl)
@[simp] theorem Chip.updRelay_stepping (k : Nat) (f : UpdRelay → UpdRelay) : (c.updRelay k f).stepping = c.stepping := (rfl)
@[simp] theorem Chip.updRelay_regs (k : Nat) (f : UpdRelay → UpdRelay) : (c.updRelay k f).regs = c.regs := (rfl)
@[simp] theorem Chip.updRelay_now (k : Nat) (f : UpdRelay → UpdRelay) : (c.updRelay k f).now = c.now := (rfl)
@[simp] theorem Chip.updRelay_freeCtr (k : Nat) (f : UpdRelay → UpdRelay) : (c.updRelay k f).freeCtr = c.freeCtr := (rfl)
@[simp] theorem Chip.updRelay_fab (k : Nat) (f : UpdRelay → UpdRelay) : (c.updRelay k f).fab = c.fab := (rfl)
@[simp] theorem Chip.updRelay_time (k : Nat) (f : UpdRelay → UpdRelay) : (c.updRelay k f).time = c.time := (rfl)
@[simp] theorem Chip.updRelay_seq (k : Nat) (f : UpdRelay → UpdRelay) : (c.updRelay k f).seq = c.seq := (rfl)
@[simp] theorem Chip.updRelay_lsc (k : Nat) (f : UpdRelay → UpdRelay) : (c.updRelay k f).lsc = c.lsc := (rfl)
@[simp] theorem Chip.updRelay_le (k : Nat) (f : UpdRelay → UpdRelay) : (c.updRelay k f).le = c.le := (rfl)
@[simp] theorem Chip.updRelay_esw (k : Nat) (f : UpdRelay → UpdRelay) : (c.updRelay k f).esw = c.esw := (rfl)
@[simp] theorem Chip.updRelay_hbd (k : Nat) (f : UpdRelay → UpdRelay) : (c.updRelay k f).hbd = c.hbd := (rfl)
@[simp] theorem Chip.updRelay_can (k : Nat) (f : UpdRelay → UpdRelay) : (c.updRelay k f).can = c.can := (rfl)
@[simp] theorem Chip.updRelay_nmw (k : Nat) (f : UpdRelay → UpdRelay) : (c.updRelay k f).nmw = c.nmw := (rfl)
@[simp] theorem Chip.updRelay_pmu (k : Nat) (f : UpdRelay → UpdRelay) : (c.updRelay k f).pmu = c.pmu := (rfl)
@[simp] theorem Chip.updRelay_brg (k : Nat) (f : UpdRelay → UpdRelay) : (c.updRelay k f).brg = c.brg := (rfl)
@[simp] theorem Chip.updRelay_core (k : Nat) (f : UpdRelay → UpdRelay) : (c.updRelay k f).core = c.core := (rfl)
@[simp] theorem Chip.updRelay_hbx (k : Nat) (f : UpdRelay → UpdRelay) : (c.updRelay k f).hbx = c.hbx := (rfl)
@[simp] theorem Chip.updRelay_seam (k : Nat) (f : UpdRelay → UpdRelay) : (c.updRelay k f).seam = c.seam := (rfl)
@[simp] theorem Chip.updRelay_ddp (k : Nat) (f : UpdRelay → UpdRelay) : (c.updRelay k f).ddp = c.ddp := (rfl)
@[simp] theorem Chip.updRelay_key (k : Nat) (f : UpdRelay → UpdRelay) : (c.updRelay k f).key = c.key := (rfl)
@[simp] theorem Chip.updRelay_sfe (k : Nat) (f : UpdRelay → UpdRelay) : (c.updRelay k f).sfe = c.sfe := (rfl)
@[simp] theorem Chip.updRelay_rst (k : Nat) (f : UpdRelay → UpdRelay) : (c.updRelay k f).rst = c.rst := (rfl)
@[simp] theorem Chip.updRelay_clm (k : Nat) (f : UpdRelay → UpdRelay) : (c.updRelay k f).clm = c.clm := (rfl)

/-! `updRst` -/

@[simp] theorem Chip.updRst_variantH (f : RstBlk → RstBlk) : (c.updRst f).variantH = c.variantH := (rfl)
@[simp] theorem Chip.updRst_stepping (f : RstBlk → RstBlk) : (c.updRst f).stepping = c.stepping := (rfl)
@[simp] theorem Chip.updRst_regs (f : RstBlk → RstBlk) : (c.updRst f).regs = c.regs := (rfl)
@[simp] theorem Chip.updRst_now (f : RstBlk → RstBlk) : (c.updRst f).now = c.now := (rfl)
@[simp] theorem Chip.updRst_freeCtr (f : RstBlk → RstBlk) : (c.updRst f).freeCtr = c.freeCtr := (rfl)
@[simp] theorem Chip.updRst_fab (f : RstBlk → RstBlk) : (c.updRst f).fab = c.fab := (rfl)
@[simp] theorem Chip.updRst_time (f : RstBlk → RstBlk) : (c.updRst f).time = c.time := (rfl)
@[simp] theorem Chip.updRst_seq (f : RstBlk → RstBlk) : (c.updRst f).seq = c.seq := (rfl)
@[simp] theorem Chip.updRst_lsc (f : RstBlk → RstBlk) : (c.updRst f).lsc = c.lsc := (rfl)
@[simp] theorem Chip.updRst_le (f : RstBlk → RstBlk) : (c.updRst f).le = c.le := (rfl)
@[simp] theorem Chip.updRst_esw (f : RstBlk → RstBlk) : (c.updRst f).esw = c.esw := (rfl)
@[simp] theorem Chip.updRst_hbd (f : RstBlk → RstBlk) : (c.updRst f).hbd = c.hbd := (rfl)
@[simp] theorem Chip.updRst_can (f : RstBlk → RstBlk) : (c.updRst f).can = c.can := (rfl)
@[simp] theorem Chip.updRst_nmw (f : RstBlk → RstBlk) : (c.updRst f).nmw = c.nmw := (rfl)
@[simp] theorem Chip.updRst_pmu (f : RstBlk → RstBlk) : (c.updRst f).pmu = c.pmu := (rfl)
@[simp] theorem Chip.updRst_brg (f : RstBlk → RstBlk) : (c.updRst f).brg = c.brg := (rfl)
@[simp] theorem Chip.updRst_core (f : RstBlk → RstBlk) : (c.updRst f).core = c.core := (rfl)
@[simp] theorem Chip.updRst_hbx (f : RstBlk → RstBlk) : (c.updRst f).hbx = c.hbx := (rfl)
@[simp] theorem Chip.updRst_seam (f : RstBlk → RstBlk) : (c.updRst f).seam = c.seam := (rfl)
@[simp] theorem Chip.updRst_ddp (f : RstBlk → RstBlk) : (c.updRst f).ddp = c.ddp := (rfl)
@[simp] theorem Chip.updRst_key (f : RstBlk → RstBlk) : (c.updRst f).key = c.key := (rfl)
@[simp] theorem Chip.updRst_sfe (f : RstBlk → RstBlk) : (c.updRst f).sfe = c.sfe := (rfl)
@[simp] theorem Chip.updRst_rst (f : RstBlk → RstBlk) : (c.updRst f).rst = f c.rst := (rfl)
@[simp] theorem Chip.updRst_update (f : RstBlk → RstBlk) : (c.updRst f).update = c.update := (rfl)
@[simp] theorem Chip.updRst_clm (f : RstBlk → RstBlk) : (c.updRst f).clm = c.clm := (rfl)

/-! `updSeam` -/

@[simp] theorem Chip.updSeam_variantH (f : SeamBlk → SeamBlk) : (c.updSeam f).variantH = c.variantH := (rfl)
@[simp] theorem Chip.updSeam_stepping (f : SeamBlk → SeamBlk) : (c.updSeam f).stepping = c.stepping := (rfl)
@[simp] theorem Chip.updSeam_regs (f : SeamBlk → SeamBlk) : (c.updSeam f).regs = c.regs := (rfl)
@[simp] theorem Chip.updSeam_now (f : SeamBlk → SeamBlk) : (c.updSeam f).now = c.now := (rfl)
@[simp] theorem Chip.updSeam_freeCtr (f : SeamBlk → SeamBlk) : (c.updSeam f).freeCtr = c.freeCtr := (rfl)
@[simp] theorem Chip.updSeam_fab (f : SeamBlk → SeamBlk) : (c.updSeam f).fab = c.fab := (rfl)
@[simp] theorem Chip.updSeam_time (f : SeamBlk → SeamBlk) : (c.updSeam f).time = c.time := (rfl)
@[simp] theorem Chip.updSeam_seq (f : SeamBlk → SeamBlk) : (c.updSeam f).seq = c.seq := (rfl)
@[simp] theorem Chip.updSeam_lsc (f : SeamBlk → SeamBlk) : (c.updSeam f).lsc = c.lsc := (rfl)
@[simp] theorem Chip.updSeam_le (f : SeamBlk → SeamBlk) : (c.updSeam f).le = c.le := (rfl)
@[simp] theorem Chip.updSeam_esw (f : SeamBlk → SeamBlk) : (c.updSeam f).esw = c.esw := (rfl)
@[simp] theorem Chip.updSeam_hbd (f : SeamBlk → SeamBlk) : (c.updSeam f).hbd = c.hbd := (rfl)
@[simp] theorem Chip.updSeam_can (f : SeamBlk → SeamBlk) : (c.updSeam f).can = c.can := (rfl)
@[simp] theorem Chip.updSeam_nmw (f : SeamBlk → SeamBlk) : (c.updSeam f).nmw = c.nmw := (rfl)
@[simp] theorem Chip.updSeam_pmu (f : SeamBlk → SeamBlk) : (c.updSeam f).pmu = c.pmu := (rfl)
@[simp] theorem Chip.updSeam_brg (f : SeamBlk → SeamBlk) : (c.updSeam f).brg = c.brg := (rfl)
@[simp] theorem Chip.updSeam_core (f : SeamBlk → SeamBlk) : (c.updSeam f).core = c.core := (rfl)
@[simp] theorem Chip.updSeam_hbx (f : SeamBlk → SeamBlk) : (c.updSeam f).hbx = c.hbx := (rfl)
@[simp] theorem Chip.updSeam_seam (f : SeamBlk → SeamBlk) : (c.updSeam f).seam = f c.seam := (rfl)
@[simp] theorem Chip.updSeam_ddp (f : SeamBlk → SeamBlk) : (c.updSeam f).ddp = c.ddp := (rfl)
@[simp] theorem Chip.updSeam_key (f : SeamBlk → SeamBlk) : (c.updSeam f).key = c.key := (rfl)
@[simp] theorem Chip.updSeam_sfe (f : SeamBlk → SeamBlk) : (c.updSeam f).sfe = c.sfe := (rfl)
@[simp] theorem Chip.updSeam_rst (f : SeamBlk → SeamBlk) : (c.updSeam f).rst = c.rst := (rfl)
@[simp] theorem Chip.updSeam_update (f : SeamBlk → SeamBlk) : (c.updSeam f).update = c.update := (rfl)
@[simp] theorem Chip.updSeam_clm (f : SeamBlk → SeamBlk) : (c.updSeam f).clm = c.clm := (rfl)

/-! `updSfe` -/

@[simp] theorem Chip.updSfe_variantH (f : SfeBlk → SfeBlk) : (c.updSfe f).variantH = c.variantH := (rfl)
@[simp] theorem Chip.updSfe_stepping (f : SfeBlk → SfeBlk) : (c.updSfe f).stepping = c.stepping := (rfl)
@[simp] theorem Chip.updSfe_regs (f : SfeBlk → SfeBlk) : (c.updSfe f).regs = c.regs := (rfl)
@[simp] theorem Chip.updSfe_now (f : SfeBlk → SfeBlk) : (c.updSfe f).now = c.now := (rfl)
@[simp] theorem Chip.updSfe_freeCtr (f : SfeBlk → SfeBlk) : (c.updSfe f).freeCtr = c.freeCtr := (rfl)
@[simp] theorem Chip.updSfe_fab (f : SfeBlk → SfeBlk) : (c.updSfe f).fab = c.fab := (rfl)
@[simp] theorem Chip.updSfe_time (f : SfeBlk → SfeBlk) : (c.updSfe f).time = c.time := (rfl)
@[simp] theorem Chip.updSfe_seq (f : SfeBlk → SfeBlk) : (c.updSfe f).seq = c.seq := (rfl)
@[simp] theorem Chip.updSfe_lsc (f : SfeBlk → SfeBlk) : (c.updSfe f).lsc = c.lsc := (rfl)
@[simp] theorem Chip.updSfe_le (f : SfeBlk → SfeBlk) : (c.updSfe f).le = c.le := (rfl)
@[simp] theorem Chip.updSfe_esw (f : SfeBlk → SfeBlk) : (c.updSfe f).esw = c.esw := (rfl)
@[simp] theorem Chip.updSfe_hbd (f : SfeBlk → SfeBlk) : (c.updSfe f).hbd = c.hbd := (rfl)
@[simp] theorem Chip.updSfe_can (f : SfeBlk → SfeBlk) : (c.updSfe f).can = c.can := (rfl)
@[simp] theorem Chip.updSfe_nmw (f : SfeBlk → SfeBlk) : (c.updSfe f).nmw = c.nmw := (rfl)
@[simp] theorem Chip.updSfe_pmu (f : SfeBlk → SfeBlk) : (c.updSfe f).pmu = c.pmu := (rfl)
@[simp] theorem Chip.updSfe_brg (f : SfeBlk → SfeBlk) : (c.updSfe f).brg = c.brg := (rfl)
@[simp] theorem Chip.updSfe_core (f : SfeBlk → SfeBlk) : (c.updSfe f).core = c.core := (rfl)
@[simp] theorem Chip.updSfe_hbx (f : SfeBlk → SfeBlk) : (c.updSfe f).hbx = c.hbx := (rfl)
@[simp] theorem Chip.updSfe_seam (f : SfeBlk → SfeBlk) : (c.updSfe f).seam = c.seam := (rfl)
@[simp] theorem Chip.updSfe_ddp (f : SfeBlk → SfeBlk) : (c.updSfe f).ddp = c.ddp := (rfl)
@[simp] theorem Chip.updSfe_key (f : SfeBlk → SfeBlk) : (c.updSfe f).key = c.key := (rfl)
@[simp] theorem Chip.updSfe_sfe (f : SfeBlk → SfeBlk) : (c.updSfe f).sfe = f c.sfe := (rfl)
@[simp] theorem Chip.updSfe_rst (f : SfeBlk → SfeBlk) : (c.updSfe f).rst = c.rst := (rfl)
@[simp] theorem Chip.updSfe_update (f : SfeBlk → SfeBlk) : (c.updSfe f).update = c.update := (rfl)
@[simp] theorem Chip.updSfe_clm (f : SfeBlk → SfeBlk) : (c.updSfe f).clm = c.clm := (rfl)

/-! `updPmu` -/

@[simp] theorem Chip.updPmu_variantH (f : PmuBlk → PmuBlk) : (c.updPmu f).variantH = c.variantH := (rfl)
@[simp] theorem Chip.updPmu_stepping (f : PmuBlk → PmuBlk) : (c.updPmu f).stepping = c.stepping := (rfl)
@[simp] theorem Chip.updPmu_regs (f : PmuBlk → PmuBlk) : (c.updPmu f).regs = c.regs := (rfl)
@[simp] theorem Chip.updPmu_now (f : PmuBlk → PmuBlk) : (c.updPmu f).now = c.now := (rfl)
@[simp] theorem Chip.updPmu_freeCtr (f : PmuBlk → PmuBlk) : (c.updPmu f).freeCtr = c.freeCtr := (rfl)
@[simp] theorem Chip.updPmu_fab (f : PmuBlk → PmuBlk) : (c.updPmu f).fab = c.fab := (rfl)
@[simp] theorem Chip.updPmu_time (f : PmuBlk → PmuBlk) : (c.updPmu f).time = c.time := (rfl)
@[simp] theorem Chip.updPmu_seq (f : PmuBlk → PmuBlk) : (c.updPmu f).seq = c.seq := (rfl)
@[simp] theorem Chip.updPmu_lsc (f : PmuBlk → PmuBlk) : (c.updPmu f).lsc = c.lsc := (rfl)
@[simp] theorem Chip.updPmu_le (f : PmuBlk → PmuBlk) : (c.updPmu f).le = c.le := (rfl)
@[simp] theorem Chip.updPmu_esw (f : PmuBlk → PmuBlk) : (c.updPmu f).esw = c.esw := (rfl)
@[simp] theorem Chip.updPmu_hbd (f : PmuBlk → PmuBlk) : (c.updPmu f).hbd = c.hbd := (rfl)
@[simp] theorem Chip.updPmu_can (f : PmuBlk → PmuBlk) : (c.updPmu f).can = c.can := (rfl)
@[simp] theorem Chip.updPmu_nmw (f : PmuBlk → PmuBlk) : (c.updPmu f).nmw = c.nmw := (rfl)
@[simp] theorem Chip.updPmu_pmu (f : PmuBlk → PmuBlk) : (c.updPmu f).pmu = f c.pmu := (rfl)
@[simp] theorem Chip.updPmu_brg (f : PmuBlk → PmuBlk) : (c.updPmu f).brg = c.brg := (rfl)
@[simp] theorem Chip.updPmu_core (f : PmuBlk → PmuBlk) : (c.updPmu f).core = c.core := (rfl)
@[simp] theorem Chip.updPmu_hbx (f : PmuBlk → PmuBlk) : (c.updPmu f).hbx = c.hbx := (rfl)
@[simp] theorem Chip.updPmu_seam (f : PmuBlk → PmuBlk) : (c.updPmu f).seam = c.seam := (rfl)
@[simp] theorem Chip.updPmu_ddp (f : PmuBlk → PmuBlk) : (c.updPmu f).ddp = c.ddp := (rfl)
@[simp] theorem Chip.updPmu_key (f : PmuBlk → PmuBlk) : (c.updPmu f).key = c.key := (rfl)
@[simp] theorem Chip.updPmu_sfe (f : PmuBlk → PmuBlk) : (c.updPmu f).sfe = c.sfe := (rfl)
@[simp] theorem Chip.updPmu_rst (f : PmuBlk → PmuBlk) : (c.updPmu f).rst = c.rst := (rfl)
@[simp] theorem Chip.updPmu_update (f : PmuBlk → PmuBlk) : (c.updPmu f).update = c.update := (rfl)
@[simp] theorem Chip.updPmu_clm (f : PmuBlk → PmuBlk) : (c.updPmu f).clm = c.clm := (rfl)

/-! `updEsw` -/

@[simp] theorem Chip.updEsw_variantH (f : EswBlk → EswBlk) : (c.updEsw f).variantH = c.variantH := (rfl)
@[simp] theorem Chip.updEsw_stepping (f : EswBlk → EswBlk) : (c.updEsw f).stepping = c.stepping := (rfl)
@[simp] theorem Chip.updEsw_regs (f : EswBlk → EswBlk) : (c.updEsw f).regs = c.regs := (rfl)
@[simp] theorem Chip.updEsw_now (f : EswBlk → EswBlk) : (c.updEsw f).now = c.now := (rfl)
@[simp] theorem Chip.updEsw_freeCtr (f : EswBlk → EswBlk) : (c.updEsw f).freeCtr = c.freeCtr := (rfl)
@[simp] theorem Chip.updEsw_fab (f : EswBlk → EswBlk) : (c.updEsw f).fab = c.fab := (rfl)
@[simp] theorem Chip.updEsw_time (f : EswBlk → EswBlk) : (c.updEsw f).time = c.time := (rfl)
@[simp] theorem Chip.updEsw_seq (f : EswBlk → EswBlk) : (c.updEsw f).seq = c.seq := (rfl)
@[simp] theorem Chip.updEsw_lsc (f : EswBlk → EswBlk) : (c.updEsw f).lsc = c.lsc := (rfl)
@[simp] theorem Chip.updEsw_le (f : EswBlk → EswBlk) : (c.updEsw f).le = c.le := (rfl)
@[simp] theorem Chip.updEsw_esw (f : EswBlk → EswBlk) : (c.updEsw f).esw = f c.esw := (rfl)
@[simp] theorem Chip.updEsw_hbd (f : EswBlk → EswBlk) : (c.updEsw f).hbd = c.hbd := (rfl)
@[simp] theorem Chip.updEsw_can (f : EswBlk → EswBlk) : (c.updEsw f).can = c.can := (rfl)
@[simp] theorem Chip.updEsw_nmw (f : EswBlk → EswBlk) : (c.updEsw f).nmw = c.nmw := (rfl)
@[simp] theorem Chip.updEsw_pmu (f : EswBlk → EswBlk) : (c.updEsw f).pmu = c.pmu := (rfl)
@[simp] theorem Chip.updEsw_brg (f : EswBlk → EswBlk) : (c.updEsw f).brg = c.brg := (rfl)
@[simp] theorem Chip.updEsw_core (f : EswBlk → EswBlk) : (c.updEsw f).core = c.core := (rfl)
@[simp] theorem Chip.updEsw_hbx (f : EswBlk → EswBlk) : (c.updEsw f).hbx = c.hbx := (rfl)
@[simp] theorem Chip.updEsw_seam (f : EswBlk → EswBlk) : (c.updEsw f).seam = c.seam := (rfl)
@[simp] theorem Chip.updEsw_ddp (f : EswBlk → EswBlk) : (c.updEsw f).ddp = c.ddp := (rfl)
@[simp] theorem Chip.updEsw_key (f : EswBlk → EswBlk) : (c.updEsw f).key = c.key := (rfl)
@[simp] theorem Chip.updEsw_sfe (f : EswBlk → EswBlk) : (c.updEsw f).sfe = c.sfe := (rfl)
@[simp] theorem Chip.updEsw_rst (f : EswBlk → EswBlk) : (c.updEsw f).rst = c.rst := (rfl)
@[simp] theorem Chip.updEsw_update (f : EswBlk → EswBlk) : (c.updEsw f).update = c.update := (rfl)
@[simp] theorem Chip.updEsw_clm (f : EswBlk → EswBlk) : (c.updEsw f).clm = c.clm := (rfl)

/-! `updFrame` -/

@[simp] theorem Chip.updFrame_variantH (n : Nat) (f : EswFrame → EswFrame) : (c.updFrame n f).variantH = c.variantH := (rfl)
@[simp] theorem Chip.updFrame_stepping (n : Nat) (f : EswFrame → EswFrame) : (c.updFrame n f).stepping = c.stepping := (rfl)
@[simp] theorem Chip.updFrame_regs (n : Nat) (f : EswFrame → EswFrame) : (c.updFrame n f).regs = c.regs := (rfl)
@[simp] theorem Chip.updFrame_now (n : Nat) (f : EswFrame → EswFrame) : (c.updFrame n f).now = c.now := (rfl)
@[simp] theorem Chip.updFrame_freeCtr (n : Nat) (f : EswFrame → EswFrame) : (c.updFrame n f).freeCtr = c.freeCtr := (rfl)
@[simp] theorem Chip.updFrame_fab (n : Nat) (f : EswFrame → EswFrame) : (c.updFrame n f).fab = c.fab := (rfl)
@[simp] theorem Chip.updFrame_time (n : Nat) (f : EswFrame → EswFrame) : (c.updFrame n f).time = c.time := (rfl)
@[simp] theorem Chip.updFrame_seq (n : Nat) (f : EswFrame → EswFrame) : (c.updFrame n f).seq = c.seq := (rfl)
@[simp] theorem Chip.updFrame_lsc (n : Nat) (f : EswFrame → EswFrame) : (c.updFrame n f).lsc = c.lsc := (rfl)
@[simp] theorem Chip.updFrame_le (n : Nat) (f : EswFrame → EswFrame) : (c.updFrame n f).le = c.le := (rfl)
@[simp] theorem Chip.updFrame_hbd (n : Nat) (f : EswFrame → EswFrame) : (c.updFrame n f).hbd = c.hbd := (rfl)
@[simp] theorem Chip.updFrame_can (n : Nat) (f : EswFrame → EswFrame) : (c.updFrame n f).can = c.can := (rfl)
@[simp] theorem Chip.updFrame_nmw (n : Nat) (f : EswFrame → EswFrame) : (c.updFrame n f).nmw = c.nmw := (rfl)
@[simp] theorem Chip.updFrame_pmu (n : Nat) (f : EswFrame → EswFrame) : (c.updFrame n f).pmu = c.pmu := (rfl)
@[simp] theorem Chip.updFrame_brg (n : Nat) (f : EswFrame → EswFrame) : (c.updFrame n f).brg = c.brg := (rfl)
@[simp] theorem Chip.updFrame_core (n : Nat) (f : EswFrame → EswFrame) : (c.updFrame n f).core = c.core := (rfl)
@[simp] theorem Chip.updFrame_hbx (n : Nat) (f : EswFrame → EswFrame) : (c.updFrame n f).hbx = c.hbx := (rfl)
@[simp] theorem Chip.updFrame_seam (n : Nat) (f : EswFrame → EswFrame) : (c.updFrame n f).seam = c.seam := (rfl)
@[simp] theorem Chip.updFrame_ddp (n : Nat) (f : EswFrame → EswFrame) : (c.updFrame n f).ddp = c.ddp := (rfl)
@[simp] theorem Chip.updFrame_key (n : Nat) (f : EswFrame → EswFrame) : (c.updFrame n f).key = c.key := (rfl)
@[simp] theorem Chip.updFrame_sfe (n : Nat) (f : EswFrame → EswFrame) : (c.updFrame n f).sfe = c.sfe := (rfl)
@[simp] theorem Chip.updFrame_rst (n : Nat) (f : EswFrame → EswFrame) : (c.updFrame n f).rst = c.rst := (rfl)
@[simp] theorem Chip.updFrame_update (n : Nat) (f : EswFrame → EswFrame) : (c.updFrame n f).update = c.update := (rfl)
@[simp] theorem Chip.updFrame_clm (n : Nat) (f : EswFrame → EswFrame) : (c.updFrame n f).clm = c.clm := (rfl)

end

/-! ### A register reads its table only -/

/-- The module with nothing but a register table. -/
def Chip.ofRegs (m : NMap W128) : Chip := { regs := m }


section
variable (f : RFld) (r : Reg)

@[simp] theorem Chip.get_mk x0 x1 x2 x3 x4 x5 x6 x7 x8 x9 x10 x11 x12 x13 x14 x15 x16 x17 x18 x19 x20 x21 x22 x23 x24 :
    (Chip.mk x0 x1 x2 x3 x4 x5 x6 x7 x8 x9 x10 x11 x12 x13 x14 x15 x16 x17 x18 x19 x20 x21 x22 x23 x24).get f = (Chip.ofRegs x2).get f := (rfl)
@[simp] theorem Chip.get_ofRegs (c : Chip) : (Chip.ofRegs c.regs).get f = c.get f := (rfl)
@[simp] theorem Chip.flag_mk x0 x1 x2 x3 x4 x5 x6 x7 x8 x9 x10 x11 x12 x13 x14 x15 x16 x17 x18 x19 x20 x21 x22 x23 x24 :
    (Chip.mk x0 x1 x2 x3 x4 x5 x6 x7 x8 x9 x10 x11 x12 x13 x14 x15 x16 x17 x18 x19 x20 x21 x22 x23 x24).flag f = (Chip.ofRegs x2).flag f := (rfl)
@[simp] theorem Chip.flag_ofRegs (c : Chip) : (Chip.ofRegs c.regs).flag f = c.flag f := (rfl)
@[simp] theorem Chip.rd_mk x0 x1 x2 x3 x4 x5 x6 x7 x8 x9 x10 x11 x12 x13 x14 x15 x16 x17 x18 x19 x20 x21 x22 x23 x24 :
    (Chip.mk x0 x1 x2 x3 x4 x5 x6 x7 x8 x9 x10 x11 x12 x13 x14 x15 x16 x17 x18 x19 x20 x21 x22 x23 x24).rd r = (Chip.ofRegs x2).rd r := (rfl)
@[simp] theorem Chip.rd_ofRegs (c : Chip) : (Chip.ofRegs c.regs).rd r = c.rd r := (rfl)
@[simp] theorem Chip.rdN_mk x0 x1 x2 x3 x4 x5 x6 x7 x8 x9 x10 x11 x12 x13 x14 x15 x16 x17 x18 x19 x20 x21 x22 x23 x24 :
    (Chip.mk x0 x1 x2 x3 x4 x5 x6 x7 x8 x9 x10 x11 x12 x13 x14 x15 x16 x17 x18 x19 x20 x21 x22 x23 x24).rdN r = (Chip.ofRegs x2).rdN r := (rfl)
@[simp] theorem Chip.rdN_ofRegs (c : Chip) : (Chip.ofRegs c.regs).rdN r = c.rdN r := (rfl)
@[simp] theorem Chip.drawn_get (c : Chip)  : c.drawn.get f = c.get f := (rfl)
@[simp] theorem Chip.drawn_flag (c : Chip)  : c.drawn.flag f = c.flag f := (rfl)
@[simp] theorem Chip.drawn_rd (c : Chip)  : c.drawn.rd r = c.rd r := (rfl)
@[simp] theorem Chip.drawn_rdN (c : Chip)  : c.drawn.rdN r = c.rdN r := (rfl)
@[simp] theorem Chip.respond_get (c : Chip) (k : Nat) (e : Bool) (d : Nat) : (c.respond k e d).get f = c.get f := (rfl)
@[simp] theorem Chip.respond_flag (c : Chip) (k : Nat) (e : Bool) (d : Nat) : (c.respond k e d).flag f = c.flag f := (rfl)
@[simp] theorem Chip.respond_rd (c : Chip) (k : Nat) (e : Bool) (d : Nat) : (c.respond k e d).rd r = c.rd r := (rfl)
@[simp] theorem Chip.respond_rdN (c : Chip) (k : Nat) (e : Bool) (d : Nat) : (c.respond k e d).rdN r = c.rdN r := (rfl)
@[simp] theorem Chip.latch_get (c : Chip) (k a : Nat) (v : W128) : (c.latch k a v).get f = c.get f := (rfl)
@[simp] theorem Chip.latch_flag (c : Chip) (k a : Nat) (v : W128) : (c.latch k a v).flag f = c.flag f := (rfl)
@[simp] theorem Chip.latch_rd (c : Chip) (k a : Nat) (v : W128) : (c.latch k a v).rd r = c.rd r := (rfl)
@[simp] theorem Chip.latch_rdN (c : Chip) (k a : Nat) (v : W128) : (c.latch k a v).rdN r = c.rdN r := (rfl)
@[simp] theorem Chip.msi_get (c : Chip) (k h g i : Nat) : (c.msi k h g i).get f = c.get f := (rfl)
@[simp] theorem Chip.msi_flag (c : Chip) (k h g i : Nat) : (c.msi k h g i).flag f = c.flag f := (rfl)
@[simp] theorem Chip.msi_rd (c : Chip) (k h g i : Nat) : (c.msi k h g i).rd r = c.rd r := (rfl)
@[simp] theorem Chip.msi_rdN (c : Chip) (k h g i : Nat) : (c.msi k h g i).rdN r = c.rdN r := (rfl)
@[simp] theorem Chip.updTracker_get (c : Chip) (n : Nat) (g : Tracker → Tracker) : (c.updTracker n g).get f = c.get f := (rfl)
@[simp] theorem Chip.updTracker_flag (c : Chip) (n : Nat) (g : Tracker → Tracker) : (c.updTracker n g).flag f = c.flag f := (rfl)
@[simp] theorem Chip.updTracker_rd (c : Chip) (n : Nat) (g : Tracker → Tracker) : (c.updTracker n g).rd r = c.rd r := (rfl)
@[simp] theorem Chip.updTracker_rdN (c : Chip) (n : Nat) (g : Tracker → Tracker) : (c.updTracker n g).rdN r = c.rdN r := (rfl)
@[simp] theorem Chip.updBrg_get (c : Chip) (g : BrgBlk → BrgBlk) : (c.updBrg g).get f = c.get f := (rfl)
@[simp] theorem Chip.updBrg_flag (c : Chip) (g : BrgBlk → BrgBlk) : (c.updBrg g).flag f = c.flag f := (rfl)
@[simp] theorem Chip.updBrg_rd (c : Chip) (g : BrgBlk → BrgBlk) : (c.updBrg g).rd r = c.rd r := (rfl)
@[simp] theorem Chip.updBrg_rdN (c : Chip) (g : BrgBlk → BrgBlk) : (c.updBrg g).rdN r = c.rdN r := (rfl)
@[simp] theorem Chip.updPoll_get (c : Chip) (i : Nat) (g : BrgPoll → BrgPoll) : (c.updPoll i g).get f = c.get f := (rfl)
@[simp] theorem Chip.updPoll_flag (c : Chip) (i : Nat) (g : BrgPoll → BrgPoll) : (c.updPoll i g).flag f = c.flag f := (rfl)
@[simp] theorem Chip.updPoll_rd (c : Chip) (i : Nat) (g : BrgPoll → BrgPoll) : (c.updPoll i g).rd r = c.rd r := (rfl)
@[simp] theorem Chip.updPoll_rdN (c : Chip) (i : Nat) (g : BrgPoll → BrgPoll) : (c.updPoll i g).rdN r = c.rdN r := (rfl)
@[simp] theorem Chip.updCan_get (c : Chip) (g : CanBlk → CanBlk) : (c.updCan g).get f = c.get f := (rfl)
@[simp] theorem Chip.updCan_flag (c : Chip) (g : CanBlk → CanBlk) : (c.updCan g).flag f = c.flag f := (rfl)
@[simp] theorem Chip.updCan_rd (c : Chip) (g : CanBlk → CanBlk) : (c.updCan g).rd r = c.rd r := (rfl)
@[simp] theorem Chip.updCan_rdN (c : Chip) (g : CanBlk → CanBlk) : (c.updCan g).rdN r = c.rdN r := (rfl)
@[simp] theorem Chip.updObj_get (c : Chip) (i : Nat) (g : CanObj → CanObj) : (c.updObj i g).get f = c.get f := (rfl)
@[simp] theorem Chip.updObj_flag (c : Chip) (i : Nat) (g : CanObj → CanObj) : (c.updObj i g).flag f = c.flag f := (rfl)
@[simp] theorem Chip.updObj_rd (c : Chip) (i : Nat) (g : CanObj → CanObj) : (c.updObj i g).rd r = c.rd r := (rfl)
@[simp] theorem Chip.updObj_rdN (c : Chip) (i : Nat) (g : CanObj → CanObj) : (c.updObj i g).rdN r = c.rdN r := (rfl)
@[simp] theorem Chip.updClm_get (c : Chip) (g : ClmBlk → ClmBlk) : (c.updClm g).get f = c.get f := (rfl)
@[simp] theorem Chip.updClm_flag (c : Chip) (g : ClmBlk → ClmBlk) : (c.updClm g).flag f = c.flag f := (rfl)
@[simp] theorem Chip.updClm_rd (c : Chip) (g : ClmBlk → ClmBlk) : (c.updClm g).rd r = c.rd r := (rfl)
@[simp] theorem Chip.updClm_rdN (c : Chip) (g : ClmBlk → ClmBlk) : (c.updClm g).rdN r = c.rdN r := (rfl)
@[simp] theorem Chip.updLs_get (c : Chip) (n : Nat) (g : LsChan → LsChan) : (c.updLs n g).get f = c.get f := (rfl)
@[simp] theorem Chip.updLs_flag (c : Chip) (n : Nat) (g : LsChan → LsChan) : (c.updLs n g).flag f = c.flag f := (rfl)
@[simp] theorem Chip.updLs_rd (c : Chip) (n : Nat) (g : LsChan → LsChan) : (c.updLs n g).rd r = c.rd r := (rfl)
@[simp] theorem Chip.updLs_rdN (c : Chip) (n : Nat) (g : LsChan → LsChan) : (c.updLs n g).rdN r = c.rdN r := (rfl)
@[simp] theorem Chip.updDdp_get (c : Chip) (g : DdpBlk → DdpBlk) : (c.updDdp g).get f = c.get f := (rfl)
@[simp] theorem Chip.updDdp_flag (c : Chip) (g : DdpBlk → DdpBlk) : (c.updDdp g).flag f = c.flag f := (rfl)
@[simp] theorem Chip.updDdp_rd (c : Chip) (g : DdpBlk → DdpBlk) : (c.updDdp g).rd r = c.rd r := (rfl)
@[simp] theorem Chip.updDdp_rdN (c : Chip) (g : DdpBlk → DdpBlk) : (c.updDdp g).rdN r = c.rdN r := (rfl)
@[simp] theorem Chip.updSession_get (c : Chip) (n : Nat) (g : DdpSession → DdpSession) : (c.updSession n g).get f = c.get f := (rfl)
@[simp] theorem Chip.updSession_flag (c : Chip) (n : Nat) (g : DdpSession → DdpSession) : (c.updSession n g).flag f = c.flag f := (rfl)
@[simp] theorem Chip.updSession_rd (c : Chip) (n : Nat) (g : DdpSession → DdpSession) : (c.updSession n g).rd r = c.rd r := (rfl)
@[simp] theorem Chip.updSession_rdN (c : Chip) (n : Nat) (g : DdpSession → DdpSession) : (c.updSession n g).rdN r = c.rdN r := (rfl)
@[simp] theorem Chip.updXfer_get (c : Chip) (n : Nat) (g : DdpXfer → DdpXfer) : (c.updXfer n g).get f = c.get f := (rfl)
@[simp] theorem Chip.updXfer_flag (c : Chip) (n : Nat) (g : DdpXfer → DdpXfer) : (c.updXfer n g).flag f = c.flag f := (rfl)
@[simp] theorem Chip.updXfer_rd (c : Chip) (n : Nat) (g : DdpXfer → DdpXfer) : (c.updXfer n g).rd r = c.rd r := (rfl)
@[simp] theorem Chip.updXfer_rdN (c : Chip) (n : Nat) (g : DdpXfer → DdpXfer) : (c.updXfer n g).rdN r = c.rdN r := (rfl)
@[simp] theorem Chip.updHbd_get (c : Chip) (g : HbdBlk → HbdBlk) : (c.updHbd g).get f = c.get f := (rfl)
@[simp] theorem Chip.updHbd_flag (c : Chip) (g : HbdBlk → HbdBlk) : (c.updHbd g).flag f = c.flag f := (rfl)
@[simp] theorem Chip.updHbd_rd (c : Chip) (g : HbdBlk → HbdBlk) : (c.updHbd g).rd r = c.rd r := (rfl)
@[simp] theorem Chip.updHbd_rdN (c : Chip) (g : HbdBlk → HbdBlk) : (c.updHbd g).rdN r = c.rdN r := (rfl)
@[simp] theorem Chip.updBuf_get (c : Chip) (n : Nat) (g : HbdBuf → HbdBuf) : (c.updBuf n g).get f = c.get f := (rfl)
@[simp] theorem Chip.updBuf_flag (c : Chip) (n : Nat) (g : HbdBuf → HbdBuf) : (c.updBuf n g).flag f = c.flag f := (rfl)
@[simp] theorem Chip.updBuf_rd (c : Chip) (n : Nat) (g : HbdBuf → HbdBuf) : (c.updBuf n g).rd r = c.rd r := (rfl)
@[simp] theorem Chip.updBuf_rdN (c : Chip) (n : Nat) (g : HbdBuf → HbdBuf) : (c.updBuf n g).rdN r = c.rdN r := (rfl)
@[simp] theorem Chip.updHbx_get (c : Chip) (g : HbxBlk → HbxBlk) : (c.updHbx g).get f = c.get f := (rfl)
@[simp] theorem Chip.updHbx_flag (c : Chip) (g : HbxBlk → HbxBlk) : (c.updHbx g).flag f = c.flag f := (rfl)
@[simp] theorem Chip.updHbx_rd (c : Chip) (g : HbxBlk → HbxBlk) : (c.updHbx g).rd r = c.rd r := (rfl)
@[simp] theorem Chip.updHbx_rdN (c : Chip) (g : HbxBlk → HbxBlk) : (c.updHbx g).rdN r = c.rdN r := (rfl)
@[simp] theorem Chip.updKey_get (c : Chip) (g : KeyBlk → KeyBlk) : (c.updKey g).get f = c.get f := (rfl)
@[simp] theorem Chip.updKey_flag (c : Chip) (g : KeyBlk → KeyBlk) : (c.updKey g).flag f = c.flag f := (rfl)
@[simp] theorem Chip.updKey_rd (c : Chip) (g : KeyBlk → KeyBlk) : (c.updKey g).rd r = c.rd r := (rfl)
@[simp] theorem Chip.updKey_rdN (c : Chip) (g : KeyBlk → KeyBlk) : (c.updKey g).rdN r = c.rdN r := (rfl)
@[simp] theorem Chip.updSlot_get (c : Chip) (n : Nat) (g : KeySlot → KeySlot) : (c.updSlot n g).get f = c.get f := (rfl)
@[simp] theorem Chip.updSlot_flag (c : Chip) (n : Nat) (g : KeySlot → KeySlot) : (c.updSlot n g).flag f = c.flag f := (rfl)
@[simp] theorem Chip.updSlot_rd (c : Chip) (n : Nat) (g : KeySlot → KeySlot) : (c.updSlot n g).rd r = c.rd r := (rfl)
@[simp] theorem Chip.updSlot_rdN (c : Chip) (n : Nat) (g : KeySlot → KeySlot) : (c.updSlot n g).rdN r = c.rdN r := (rfl)
@[simp] theorem Chip.updLe_get (c : Chip) (e : Nat) (g : LeEngine → LeEngine) : (c.updLe e g).get f = c.get f := (rfl)
@[simp] theorem Chip.updLe_flag (c : Chip) (e : Nat) (g : LeEngine → LeEngine) : (c.updLe e g).flag f = c.flag f := (rfl)
@[simp] theorem Chip.updLe_rd (c : Chip) (e : Nat) (g : LeEngine → LeEngine) : (c.updLe e g).rd r = c.rd r := (rfl)
@[simp] theorem Chip.updLe_rdN (c : Chip) (e : Nat) (g : LeEngine → LeEngine) : (c.updLe e g).rdN r = c.rdN r := (rfl)
@[simp] theorem Chip.updCpu_get (c : Chip) (e : Nat) (g : LeCpu → LeCpu) : (c.updCpu e g).get f = c.get f := (rfl)
@[simp] theorem Chip.updCpu_flag (c : Chip) (e : Nat) (g : LeCpu → LeCpu) : (c.updCpu e g).flag f = c.flag f := (rfl)
@[simp] theorem Chip.updCpu_rd (c : Chip) (e : Nat) (g : LeCpu → LeCpu) : (c.updCpu e g).rd r = c.rd r := (rfl)
@[simp] theorem Chip.updCpu_rdN (c : Chip) (e : Nat) (g : LeCpu → LeCpu) : (c.updCpu e g).rdN r = c.rdN r := (rfl)
@[simp] theorem Chip.updNmw_get (c : Chip) (g : NmwBlk → NmwBlk) : (c.updNmw g).get f = c.get f := (rfl)
@[simp] theorem Chip.updNmw_flag (c : Chip) (g : NmwBlk → NmwBlk) : (c.updNmw g).flag f = c.flag f := (rfl)
@[simp] theorem Chip.updNmw_rd (c : Chip) (g : NmwBlk → NmwBlk) : (c.updNmw g).rd r = c.rd r := (rfl)
@[simp] theorem Chip.updNmw_rdN (c : Chip) (g : NmwBlk → NmwBlk) : (c.updNmw g).rdN r = c.rdN r := (rfl)
@[simp] theorem Chip.updUpdate_get (c : Chip) (g : UpdBlk → UpdBlk) : (c.updUpdate g).get f = c.get f := (rfl)
@[simp] theorem Chip.updUpdate_flag (c : Chip) (g : UpdBlk → UpdBlk) : (c.updUpdate g).flag f = c.flag f := (rfl)
@[simp] theorem Chip.updUpdate_rd (c : Chip) (g : UpdBlk → UpdBlk) : (c.updUpdate g).rd r = c.rd r := (rfl)
@[simp] theorem Chip.updUpdate_rdN (c : Chip) (g : UpdBlk → UpdBlk) : (c.updUpdate g).rdN r = c.rdN r := (rfl)
@[simp] theorem Chip.updRelay_get (c : Chip) (k : Nat) (g : UpdRelay → UpdRelay) : (c.updRelay k g).get f = c.get f := (rfl)
@[simp] theorem Chip.updRelay_flag (c : Chip) (k : Nat) (g : UpdRelay → UpdRelay) : (c.updRelay k g).flag f = c.flag f := (rfl)
@[simp] theorem Chip.updRelay_rd (c : Chip) (k : Nat) (g : UpdRelay → UpdRelay) : (c.updRelay k g).rd r = c.rd r := (rfl)
@[simp] theorem Chip.updRelay_rdN (c : Chip) (k : Nat) (g : UpdRelay → UpdRelay) : (c.updRelay k g).rdN r = c.rdN r := (rfl)
@[simp] theorem Chip.updRst_get (c : Chip) (g : RstBlk → RstBlk) : (c.updRst g).get f = c.get f := (rfl)
@[simp] theorem Chip.updRst_flag (c : Chip) (g : RstBlk → RstBlk) : (c.updRst g).flag f = c.flag f := (rfl)
@[simp] theorem Chip.updRst_rd (c : Chip) (g : RstBlk → RstBlk) : (c.updRst g).rd r = c.rd r := (rfl)
@[simp] theorem Chip.updRst_rdN (c : Chip) (g : RstBlk → RstBlk) : (c.updRst g).rdN r = c.rdN r := (rfl)
@[simp] theorem Chip.updSeam_get (c : Chip) (g : SeamBlk → SeamBlk) : (c.updSeam g).get f = c.get f := (rfl)
@[simp] theorem Chip.updSeam_flag (c : Chip) (g : SeamBlk → SeamBlk) : (c.updSeam g).flag f = c.flag f := (rfl)
@[simp] theorem Chip.updSeam_rd (c : Chip) (g : SeamBlk → SeamBlk) : (c.updSeam g).rd r = c.rd r := (rfl)
@[simp] theorem Chip.updSeam_rdN (c : Chip) (g : SeamBlk → SeamBlk) : (c.updSeam g).rdN r = c.rdN r := (rfl)
@[simp] theorem Chip.updSfe_get (c : Chip) (g : SfeBlk → SfeBlk) : (c.updSfe g).get f = c.get f := (rfl)
@[simp] theorem Chip.updSfe_flag (c : Chip) (g : SfeBlk → SfeBlk) : (c.updSfe g).flag f = c.flag f := (rfl)
@[simp] theorem Chip.updSfe_rd (c : Chip) (g : SfeBlk → SfeBlk) : (c.updSfe g).rd r = c.rd r := (rfl)
@[simp] theorem Chip.updSfe_rdN (c : Chip) (g : SfeBlk → SfeBlk) : (c.updSfe g).rdN r = c.rdN r := (rfl)
@[simp] theorem Chip.updPmu_get (c : Chip) (g : PmuBlk → PmuBlk) : (c.updPmu g).get f = c.get f := (rfl)
@[simp] theorem Chip.updPmu_flag (c : Chip) (g : PmuBlk → PmuBlk) : (c.updPmu g).flag f = c.flag f := (rfl)
@[simp] theorem Chip.updPmu_rd (c : Chip) (g : PmuBlk → PmuBlk) : (c.updPmu g).rd r = c.rd r := (rfl)
@[simp] theorem Chip.updPmu_rdN (c : Chip) (g : PmuBlk → PmuBlk) : (c.updPmu g).rdN r = c.rdN r := (rfl)
@[simp] theorem Chip.updEsw_get (c : Chip) (g : EswBlk → EswBlk) : (c.updEsw g).get f = c.get f := (rfl)
@[simp] theorem Chip.updEsw_flag (c : Chip) (g : EswBlk → EswBlk) : (c.updEsw g).flag f = c.flag f := (rfl)
@[simp] theorem Chip.updEsw_rd (c : Chip) (g : EswBlk → EswBlk) : (c.updEsw g).rd r = c.rd r := (rfl)
@[simp] theorem Chip.updEsw_rdN (c : Chip) (g : EswBlk → EswBlk) : (c.updEsw g).rdN r = c.rdN r := (rfl)
@[simp] theorem Chip.updFrame_get (c : Chip) (n : Nat) (g : EswFrame → EswFrame) : (c.updFrame n g).get f = c.get f := (rfl)
@[simp] theorem Chip.updFrame_flag (c : Chip) (n : Nat) (g : EswFrame → EswFrame) : (c.updFrame n g).flag f = c.flag f := (rfl)
@[simp] theorem Chip.updFrame_rd (c : Chip) (n : Nat) (g : EswFrame → EswFrame) : (c.updFrame n g).rd r = c.rd r := (rfl)
@[simp] theorem Chip.updFrame_rdN (c : Chip) (n : Nat) (g : EswFrame → EswFrame) : (c.updFrame n g).rdN r = c.rdN r := (rfl)

end

/-! ### The module inside the machine -/

@[simp] theorem State.chip_mk (c : Chip) (m : List Host.Cell) (p : List Instr) : (State.mk c m p).chip = c := (rfl)
@[simp] theorem State.mem_mk (c : Chip) (m : List Host.Cell) (p : List Instr) : (State.mk c m p).mem = m := (rfl)
@[simp] theorem State.pending_mk (c : Chip) (m : List Host.Cell) (p : List Instr) : (State.mk c m p).pending = p := (rfl)

end Sys2Proof.Machine
end

