-- ==== Sys2Proof/Laws/Regs.lean ====
section
/-! SUPPORT. Reading a register or a field after a write: the same one, another one, and the derived writes. -/

namespace Sys2Proof.Machine

@[simp] theorem Chip.rd_wr_same (c : Chip) (r : Reg) (v : W128) : (c.wr r v).rd r = v := by
  simp [Chip.rd, Chip.wr]

theorem Chip.rd_wr_ne (c : Chip) {r q : Reg} (v : W128) (h : q.addr ≠ r.addr) : (c.wr r v).rd q = c.rd q := by
  exact look_put_ne _ _ _ _ h

/-- Bit `i` of a 128-bit value with a field replaced. -/
theorem setBits_getLsbD (v : W128) (hi lo x i : Nat) (hw : hi < 128) (hle : lo ≤ hi) :
    (setBits v hi lo x).getLsbD i = if lo ≤ i ∧ i ≤ hi then x.testBit (i - lo) else v.getLsbD i := by
  unfold setBits fieldMask
  by_cases h128 : i < 128
  · simp only [BitVec.getLsbD_or, BitVec.getLsbD_and, BitVec.getLsbD_not, BitVec.getLsbD_ofNat, h128, decide_true,
      Bool.true_and, Nat.testBit_shiftLeft, Nat.testBit_two_pow_sub_one]
    by_cases hl : lo ≤ i
    · by_cases hh : i ≤ hi
      · have : i - lo < hi - lo + 1 := by omega
        simp [hl, hh, this]
      · have : ¬ i - lo < hi - lo + 1 := by omega
        simp [hl, hh, this]
    · simp [hl]
  · have h1 : 128 ≤ i := by omega
    have h2 : ¬ i ≤ hi := by omega
    simp [BitVec.getLsbD_of_ge _ _ h1, h2]

theorem bits_testBit (v hi lo j : Nat) : (bits v hi lo).testBit j = (decide (j < hi - lo + 1) && v.testBit (lo + j)) := by
  unfold bits
  rw [Nat.testBit_mod_two_pow, Nat.testBit_shiftRight]

/-- The field just replaced. -/
theorem bits_setBits_same (v : W128) (hi lo x : Nat) (hw : hi < 128) (hl : lo ≤ hi) :
    bits (setBits v hi lo x).toNat hi lo = x % 2 ^ (hi - lo + 1) := by
  apply Nat.eq_of_testBit_eq
  intro j
  rw [bits_testBit, Nat.testBit_mod_two_pow]
  by_cases hj : j < hi - lo + 1
  · rw [BitVec.testBit_toNat, setBits_getLsbD v hi lo x _ hw hl]
    have h1 : lo ≤ lo + j ∧ lo + j ≤ hi := by omega
    have h2 : lo + j - lo = j := by omega
    simp [h1, h2, hj]
  · simp [hj]

/-- A field that shares no bit with the one replaced. -/
theorem bits_setBits_ne (v : W128) (hi lo x h l : Nat) (hw : hi < 128) (hl : lo ≤ hi) (hg : l ≤ h) (hd : h < lo ∨ hi < l) :
    bits (setBits v hi lo x).toNat h l = bits v.toNat h l := by
  apply Nat.eq_of_testBit_eq
  intro j
  rw [bits_testBit, bits_testBit]
  by_cases hj : j < h - l + 1
  · rw [BitVec.testBit_toNat, BitVec.testBit_toNat, setBits_getLsbD v hi lo x _ hw hl]
    have : ¬ (lo ≤ l + j ∧ l + j ≤ hi) := by omega
    simp [this]
  · simp [hj]

/-- A field lies in its register. -/
def RFld.ok (f : RFld) : Prop := f.hi < 128 ∧ f.lo ≤ f.hi

/-- The same as a test, which closes by computation for a field given by name. -/
def RFld.okb (f : RFld) : Bool := decide (f.hi < 128) && decide (f.lo ≤ f.hi)

theorem RFld.ok_of {f : RFld} (h : f.okb = true) : f.ok := by
  simpa [RFld.okb, RFld.ok] using h

/-- Two fields that share no bit: of different registers, or apart in one. -/
def RFld.apart (f g : RFld) : Prop := g.reg.addr ≠ f.reg.addr ∨ (g.reg = f.reg ∧ (g.hi < f.lo ∨ f.hi < g.lo))

theorem Chip.get_set_same (c : Chip) (f : RFld) (x : Nat) (h : f.ok) :
    (c.set f x).get f = x % 2 ^ (f.hi - f.lo + 1) := by
  simp only [RFld.ok] at h
  simp only [Chip.get, Chip.set, Chip.rd_wr_same]
  exact bits_setBits_same _ _ _ _ h.1 h.2

theorem Chip.get_set_ne (c : Chip) {f g : RFld} (x : Nat) (hf : f.ok) (hg : g.ok) (h : f.apart g) :
    (c.set f x).get g = c.get g := by
  simp only [RFld.ok] at hf hg
  simp only [Chip.get, Chip.set]
  rcases h with h | ⟨hr, hd⟩
  · rw [Chip.rd_wr_ne _ _ h]
  · rw [hr, Chip.rd_wr_same]
    exact bits_setBits_ne _ _ _ _ _ _ hf.1 hf.2 hg.2 hd

theorem Chip.rd_set_ne (c : Chip) {f : RFld} {q : Reg} (x : Nat) (h : q.addr ≠ f.reg.addr) : (c.set f x).rd q = c.rd q :=
  Chip.rd_wr_ne c _ h

theorem Chip.get_wr_ne (c : Chip) {r : Reg} {g : RFld} (v : W128) (h : g.reg.addr ≠ r.addr) : (c.wr r v).get g = c.get g := by
  simp only [Chip.get, Chip.rd_wr_ne c v h]

theorem Chip.get_wr_same (c : Chip) (g : RFld) (v : W128) : (c.wr g.reg v).get g = bits v.toNat g.hi g.lo := by
  simp [Chip.get]

theorem Chip.flag_setB_same (c : Chip) (f : RFld) (b : Bool) (h : f.ok) : (c.setB f b).flag f = b := by
  unfold Chip.flag Chip.setB
  rw [Chip.get_set_same c f _ h]
  cases b
  · simp [b2n]
  · have : 1 < 2 ^ (f.hi - f.lo + 1) := Nat.one_lt_two_pow (by omega)
    simp [b2n, Nat.mod_eq_of_lt this]

theorem Chip.get_lt (c : Chip) (f : RFld) : c.get f < 2 ^ (f.hi - f.lo + 1) := by
  unfold Chip.get bits
  exact Nat.mod_lt _ (Nat.two_pow_pos _)

/-! ### Registers that a function leaves alone -/

/-- `d` reads as `c` in every register whose address meets `p`. -/
def Chip.sameRegs (p : Nat → Prop) (c d : Chip) : Prop := ∀ r : Reg, p r.addr → d.rd r = c.rd r

theorem Chip.sameRegs_refl (p : Nat → Prop) (c : Chip) : Chip.sameRegs p c c := fun _ _ => rfl

theorem Chip.sameRegs_trans {p : Nat → Prop} {c d e : Chip} (h1 : Chip.sameRegs p c d) (h2 : Chip.sameRegs p d e) :
    Chip.sameRegs p c e := fun r h => (h2 r h).trans (h1 r h)

theorem Chip.sameRegs_get {p : Nat → Prop} {c d : Chip} (h : Chip.sameRegs p c d) (f : RFld) (hf : p f.reg.addr) :
    d.get f = c.get f := by simp only [Chip.get, h f.reg hf]

theorem Chip.sameRegs_flag {p : Nat → Prop} {c d : Chip} (h : Chip.sameRegs p c d) (f : RFld) (hf : p f.reg.addr) :
    d.flag f = c.flag f := by simp only [Chip.flag, Chip.sameRegs_get h f hf]

theorem Chip.sameRegs_wr (p : Nat → Prop) (c : Chip) (r : Reg) (v : W128) (h : ¬ p r.addr) :
    Chip.sameRegs p c (c.wr r v) := by
  intro q hq
  apply Chip.rd_wr_ne
  intro he
  exact h (he ▸ hq)

theorem Chip.sameRegs_set (p : Nat → Prop) (c : Chip) (f : RFld) (x : Nat) (h : ¬ p f.reg.addr) :
    Chip.sameRegs p c (c.set f x) := Chip.sameRegs_wr p c _ _ h

/-- A change of another part of the module. -/
theorem Chip.sameRegs_of_regs (p : Nat → Prop) {c d : Chip} (h : d.regs = c.regs) : Chip.sameRegs p c d := by
  intro r _
  simp only [Chip.rd, h]

end Sys2Proof.Machine
end

