-- ==== Sys2Proof/Laws/Events.lean ====
section
/-! SUPPORT. Raising an event, once for all: what it writes, and what it leaves alone. -/

namespace Sys2Proof.Machine

/-- The registers that no event writes. -/
def quiet (a : Nat) : Prop := ¬ eventAddr a

/-- A function that writes only event registers and interrupt files. -/
structure Chip.evOnly (c d : Chip) : Prop where
  eq : d = { c with regs := d.regs, core := { c.core with imsic := d.core.imsic } }
  regs : Chip.sameRegs quiet c d

theorem Chip.evOnly_refl (c : Chip) : Chip.evOnly c c := ⟨rfl, Chip.sameRegs_refl _ c⟩

theorem Chip.evOnly_trans {c d e : Chip} (h1 : Chip.evOnly c d) (h2 : Chip.evOnly d e) : Chip.evOnly c e := by
  refine ⟨?_, Chip.sameRegs_trans h1.regs h2.regs⟩
  have a := h1.eq
  have b := h2.eq
  rw [b, a]

theorem Chip.evOnly_set (c : Chip) (f : RFld) (x : Nat) (h : eventAddr f.reg.addr) : Chip.evOnly c (c.set f x) :=
  ⟨rfl, Chip.sameRegs_set _ c f x (fun q => q h)⟩

theorem Chip.evOnly_msi (c : Chip) (k f g i : Nat) : Chip.evOnly c (c.msi k f g i) :=
  ⟨rfl, Chip.sameRegs_of_regs _ rfl⟩

theorem eventAddr_st (n : Nat) (h : n < 1024) : eventAddr (EVR_ST n).addr := by
  simp only [eventAddr, EVR_ST]; omega
theorem eventAddr_stamp (n : Nat) (h : n < 1024) : eventAddr (EVR_STAMP n).addr := by
  simp only [eventAddr, EVR_STAMP]; omega
theorem eventAddr_pend (n : Nat) (h : n < 32) : eventAddr (EVR_PEND n).addr := by
  simp only [eventAddr, EVR_PEND]; omega
theorem eventAddr_stat : eventAddr EVR_STAT.addr := by
  simp only [eventAddr, EVR_STAT]; omega
theorem eventAddr_cnt (n : Nat) (h : n < 64) : eventAddr (SFE_FN_CNT n).addr := by
  simp only [eventAddr, SFE_FN_CNT]; omega
theorem eventAddr_vec (n v : Nat) (h : n < 64) (hv : v < 64) : eventAddr (VF_VEC n v).addr := by
  simp only [eventAddr, VF_VEC]; omega

theorem Chip.evOnly_setPend (c : Chip) (n : Nat) (b : Bool) (h : n < 1024) : Chip.evOnly c (c.setPend n b) := by
  unfold Chip.setPend
  exact Chip.evOnly_trans (Chip.evOnly_set _ _ _ (eventAddr_st n h)) (Chip.evOnly_set _ _ _ (eventAddr_pend (n / 32) (by omega)))

theorem Chip.evOnly_vfVector (c : Chip) (n v : Nat) (h : n < 64) (hv : v < 64) : Chip.evOnly c (c.vfVector n v).1 := by
  unfold Chip.vfVector
  dsimp only
  split
  · split
    · exact Chip.evOnly_trans (Chip.evOnly_set _ _ _ (eventAddr_cnt n h)) (Chip.evOnly_set _ _ _ (eventAddr_vec n v h hv))
    · exact Chip.evOnly_trans (Chip.evOnly_msi _ _ _ _ _) (Chip.evOnly_set _ _ _ (eventAddr_vec n v h hv))
  · exact Chip.evOnly_set _ _ _ (eventAddr_vec n v h hv)

theorem evOnly_raiseFuel (fuel : Nat) : ∀ (n : Nat) (c : Chip), n < 1024 → Chip.evOnly c (raiseFuel fuel n c) := by
  induction fuel with
  | zero => intro n c _; exact Chip.evOnly_refl c
  | succ k ih =>
    intro n c hn
    have h0 : Chip.evOnly c (c.set (EVR_STAMP_FRC n) c.time.frc) := Chip.evOnly_set _ _ _ (eventAddr_stamp n hn)
    simp only [raiseFuel]
    refine Chip.evOnly_trans h0 ?_
    generalize c.set (EVR_STAMP_FRC n) c.time.frc = c0
    split
    · exact Chip.evOnly_set _ _ _ (eventAddr_st n hn)
    · refine Chip.evOnly_trans (Chip.evOnly_setPend _ n true hn) ?_
      generalize c0.setPend n true = c1
      split
      · split
        · split
          · refine Chip.evOnly_trans ?_ (ih 541 _ (by omega))
            exact Chip.evOnly_trans (Chip.evOnly_set _ _ _ (eventAddr_st n hn)) (Chip.evOnly_set _ _ _ eventAddr_stat)
          · exact Chip.evOnly_msi _ _ _ _ _
        · split
          · have hv : c1.get (EVR_RT_VFN n) < 64 := Chip.get_lt _ _
            have h1 := Chip.evOnly_vfVector c1 (c1.get (EVR_RT_VFN n)) (c1.get (EVR_RT_IID n) % 64) hv (Nat.mod_lt _ (by decide))
            split
            · exact Chip.evOnly_trans h1 (ih 582 _ (by omega))
            · exact h1
          · exact Chip.evOnly_refl _
      · exact Chip.evOnly_refl _

/-- Raising an event writes event registers and interrupt files, nothing else. -/
theorem Chip.evOnly_raise (c : Chip) (n : Nat) (h : n < 1024) : Chip.evOnly c (c.raise n) := evOnly_raiseFuel 5 n c h

/-! ### PEND -/

theorem Chip.pend_setPend (c : Chip) (n : Nat) (h : n < 1024) : (c.setPend n true).flag (EVR_ST_PEND n) = true := by
  unfold Chip.setPend
  dsimp only
  rw [Chip.flag, Chip.get_set_ne _ _ (RFld.ok_of rfl) (RFld.ok_of rfl) (Or.inl (by simp [EVR_ST_PEND, EVR_PEND_PEND, EVR_ST, EVR_PEND]; omega)),
    ← Chip.flag]
  exact Chip.flag_setB_same _ _ _ (RFld.ok_of rfl)

/-- A write that keeps the PEND flag of event `n`. -/
theorem Chip.pend_set (c : Chip) (n : Nat) (f : RFld) (x : Nat) (hf : f.ok) (h : f.apart (EVR_ST_PEND n)) :
    (c.set f x).flag (EVR_ST_PEND n) = c.flag (EVR_ST_PEND n) := by
  simp only [Chip.flag, Chip.get_set_ne c x hf (RFld.ok_of rfl) h]

theorem Chip.pend_setPend_mono (c : Chip) (m n : Nat) (hm : m < 1024) (hn : n < 1024) (h : c.flag (EVR_ST_PEND n) = true) :
    (c.setPend m true).flag (EVR_ST_PEND n) = true := by
  by_cases e : m = n
  · subst e
    exact Chip.pend_setPend c m hm
  · unfold Chip.setPend
    dsimp only
    rw [Chip.pend_set _ _ _ _ (RFld.ok_of rfl) (Or.inl (by simp [EVR_ST_PEND, EVR_PEND_PEND, EVR_ST, EVR_PEND]; omega)), Chip.setB,
      Chip.pend_set _ _ _ _ (RFld.ok_of rfl) (Or.inl (by simp [EVR_ST_PEND, EVR_ST]; omega)), h]

theorem Chip.pend_vfVector (c : Chip) (n v m : Nat) (hm : m < 1024) (hn : n < 64) :
    (c.vfVector n v).1.flag (EVR_ST_PEND m) = c.flag (EVR_ST_PEND m) := by
  have hv : ∀ (c : Chip) (x : Nat), (c.set (VF_VEC_PEND n v) x).flag (EVR_ST_PEND m) = c.flag (EVR_ST_PEND m) := fun c x =>
    Chip.pend_set c m _ _ (RFld.ok_of rfl) (Or.inl (by simp [EVR_ST_PEND, EVR_ST, VF_VEC_PEND, VF_VEC]; omega))
  have hc : ∀ (c : Chip) (x : Nat), (c.set (SFE_FN_CNT_LOST n) x).flag (EVR_ST_PEND m) = c.flag (EVR_ST_PEND m) := fun c x =>
    Chip.pend_set c m _ _ (RFld.ok_of rfl)
      (Or.inl (by simp [EVR_ST_PEND, EVR_ST, SFE_FN_CNT_LOST, SFE_FN_CNT]; omega))
  unfold Chip.vfVector
  dsimp only
  split
  · split
    · simp only [Chip.setB, Chip.satInc, Chip.satAdd, hv, hc]
    · simp only [Chip.setB, hv, Chip.msi_flag]
  · simp only [Chip.setB, hv]

theorem pend_raiseFuel (fuel : Nat) : ∀ (m n : Nat) (c : Chip), m < 1024 → n < 1024 → c.flag (EVR_ST_PEND n) = true →
    (raiseFuel fuel m c).flag (EVR_ST_PEND n) = true := by
  induction fuel with
  | zero => intro m n c _ _ h; exact h
  | succ k ih =>
    intro m n c hm hn h
    have hs : ∀ (c : Chip) (x : Nat), (c.set (EVR_STAMP_FRC m) x).flag (EVR_ST_PEND n) = c.flag (EVR_ST_PEND n) := fun c x =>
      Chip.pend_set c n _ _ (RFld.ok_of rfl)
        (Or.inl (by simp [EVR_ST_PEND, EVR_ST, EVR_STAMP_FRC, EVR_STAMP]; omega))
    have hcoal : ∀ (c : Chip) (x : Nat), (c.set (EVR_ST_COAL m) x).flag (EVR_ST_PEND n) = c.flag (EVR_ST_PEND n) := fun c x => by
      refine Chip.pend_set c n _ _ (RFld.ok_of rfl) ?_
      by_cases e : m = n
      · subst e
        exact Or.inr ⟨rfl, by simp [EVR_ST_PEND, EVR_ST_COAL]⟩
      · exact Or.inl (by simp [EVR_ST_PEND, EVR_ST, EVR_ST_COAL]; omega)
    have hlost : ∀ (c : Chip) (x : Nat), (c.set (EVR_ST_LOST m) x).flag (EVR_ST_PEND n) = c.flag (EVR_ST_PEND n) := fun c x => by
      refine Chip.pend_set c n _ _ (RFld.ok_of rfl) ?_
      by_cases e : m = n
      · subst e
        exact Or.inr ⟨rfl, by simp [EVR_ST_PEND, EVR_ST_LOST]⟩
      · exact Or.inl (by simp [EVR_ST_PEND, EVR_ST, EVR_ST_LOST]; omega)
    have hstat : ∀ (c : Chip) (x : Nat), (c.set EVR_STAT_LOST x).flag (EVR_ST_PEND n) = c.flag (EVR_ST_PEND n) := fun c x =>
      Chip.pend_set c n _ _ (RFld.ok_of rfl) (Or.inl (by simp [EVR_ST_PEND, EVR_ST, EVR_STAT_LOST, EVR_STAT]; omega))
    simp only [raiseFuel]
    have h0 : (c.set (EVR_STAMP_FRC m) c.time.frc).flag (EVR_ST_PEND n) = true := by rw [hs]; exact h
    generalize c.set (EVR_STAMP_FRC m) c.time.frc = c0 at h0
    split
    · simp only [Chip.satInc, Chip.satAdd, hcoal, h0]
    · have h1 := Chip.pend_setPend_mono c0 m n hm hn h0
      generalize c0.setPend m true = c1 at h1
      split
      · split
        · split
          · apply ih 541 n _ (by omega) hn
            simp only [Chip.satInc, Chip.satAdd, hlost, hstat, h1]
          · simpa using h1
        · split
          · have hv : c1.get (EVR_RT_VFN m) < 64 := Chip.get_lt _ _
            have h2 := Chip.pend_vfVector c1 (c1.get (EVR_RT_VFN m)) (c1.get (EVR_RT_IID m) % 64) n hn hv
            rw [h1] at h2
            split
            · exact ih 582 n _ (by omega) hn h2
            · exact h2
          · exact h1
      · exact h1

/-- Raising an event never clears a PEND flag. -/
theorem Chip.pends_raise_mono (c : Chip) (m n : Nat) (hm : m < 1024) (hn : n < 1024) (h : c.pends n = true) :
    (c.raise m).pends n = true := pend_raiseFuel 5 m n c hm hn h

/-- An event that was raised is pending (R334). -/
theorem Chip.pends_raise (c : Chip) (n : Nat) (h : n < 1024) : (c.raise n).pends n = true := by
  unfold Chip.pends Chip.raise
  rw [raiseFuel]
  dsimp only
  generalize c.set (EVR_STAMP_FRC n) c.time.frc = c0
  split
  · rename_i hp
    have : ((c0.satInc (EVR_ST_COAL n))).flag (EVR_ST_PEND n) = c0.flag (EVR_ST_PEND n) := by
      simp only [Chip.satInc, Chip.satAdd]
      exact Chip.pend_set c0 n _ _ (RFld.ok_of rfl) (Or.inr ⟨rfl, by simp [EVR_ST_PEND, EVR_ST_COAL]⟩)
    rw [this, hp]
  · have h1 := Chip.pend_setPend c0 n h
    generalize c0.setPend n true = c1 at h1
    have hlost : ∀ (c : Chip) (x : Nat), (c.set (EVR_ST_LOST n) x).flag (EVR_ST_PEND n) = c.flag (EVR_ST_PEND n) := fun c x =>
      Chip.pend_set c n _ _ (RFld.ok_of rfl) (Or.inr ⟨rfl, by simp [EVR_ST_PEND, EVR_ST_LOST]⟩)
    have hstat : ∀ (c : Chip) (x : Nat), (c.set EVR_STAT_LOST x).flag (EVR_ST_PEND n) = c.flag (EVR_ST_PEND n) := fun c x =>
      Chip.pend_set c n _ _ (RFld.ok_of rfl) (Or.inl (by simp [EVR_ST_PEND, EVR_ST, EVR_STAT_LOST, EVR_STAT]; omega))
    split
    · split
      · split
        · apply pend_raiseFuel 4 541 n _ (by omega) h
          simp only [Chip.satInc, Chip.satAdd, hlost, hstat, h1]
        · simpa using h1
      · split
        · have hv : c1.get (EVR_RT_VFN n) < 64 := Chip.get_lt _ _
          have h2 := Chip.pend_vfVector c1 (c1.get (EVR_RT_VFN n)) (c1.get (EVR_RT_IID n) % 64) n h hv
          rw [h1] at h2
          split
          · exact pend_raiseFuel 4 582 n _ (by omega) h h2
          · exact h2
        · exact h1
    · exact h1

/-- A register that no event writes reads as before. -/
theorem Chip.get_raise (c : Chip) (n : Nat) (h : n < 1024) (f : RFld) (hf : quiet f.reg.addr) :
    (c.raise n).get f = c.get f := Chip.sameRegs_get (Chip.evOnly_raise c n h).regs f hf

theorem Chip.flag_raise (c : Chip) (n : Nat) (h : n < 1024) (f : RFld) (hf : quiet f.reg.addr) :
    (c.raise n).flag f = c.flag f := Chip.sameRegs_flag (Chip.evOnly_raise c n h).regs f hf

theorem Chip.rd_raise (c : Chip) (n : Nat) (h : n < 1024) (r : Reg) (hr : quiet r.addr) :
    (c.raise n).rd r = c.rd r := (Chip.evOnly_raise c n h).regs r hr

/-! ### Parts that raising an event leaves alone -/

theorem Chip.raise_variantH (c : Chip) (n : Nat) (h : n < 1024) : (c.raise n).variantH = c.variantH := by rw [(Chip.evOnly_raise c n h).eq]
theorem Chip.raise_stepping (c : Chip) (n : Nat) (h : n < 1024) : (c.raise n).stepping = c.stepping := by rw [(Chip.evOnly_raise c n h).eq]
theorem Chip.raise_now (c : Chip) (n : Nat) (h : n < 1024) : (c.raise n).now = c.now := by rw [(Chip.evOnly_raise c n h).eq]
theorem Chip.raise_freeCtr (c : Chip) (n : Nat) (h : n < 1024) : (c.raise n).freeCtr = c.freeCtr := by rw [(Chip.evOnly_raise c n h).eq]
theorem Chip.raise_fab (c : Chip) (n : Nat) (h : n < 1024) : (c.raise n).fab = c.fab := by rw [(Chip.evOnly_raise c n h).eq]
theorem Chip.raise_time (c : Chip) (n : Nat) (h : n < 1024) : (c.raise n).time = c.time := by rw [(Chip.evOnly_raise c n h).eq]
theorem Chip.raise_seq (c : Chip) (n : Nat) (h : n < 1024) : (c.raise n).seq = c.seq := by rw [(Chip.evOnly_raise c n h).eq]
theorem Chip.raise_lsc (c : Chip) (n : Nat) (h : n < 1024) : (c.raise n).lsc = c.lsc := by rw [(Chip.evOnly_raise c n h).eq]
theorem Chip.raise_le (c : Chip) (n : Nat) (h : n < 1024) : (c.raise n).le = c.le := by rw [(Chip.evOnly_raise c n h).eq]
theorem Chip.raise_esw (c : Chip) (n : Nat) (h : n < 1024) : (c.raise n).esw = c.esw := by rw [(Chip.evOnly_raise c n h).eq]
theorem Chip.raise_hbd (c : Chip) (n : Nat) (h : n < 1024) : (c.raise n).hbd = c.hbd := by rw [(Chip.evOnly_raise c n h).eq]
theorem Chip.raise_can (c : Chip) (n : Nat) (h : n < 1024) : (c.raise n).can = c.can := by rw [(Chip.evOnly_raise c n h).eq]
theorem Chip.raise_nmw (c : Chip) (n : Nat) (h : n < 1024) : (c.raise n).nmw = c.nmw := by rw [(Chip.evOnly_raise c n h).eq]
theorem Chip.raise_pmu (c : Chip) (n : Nat) (h : n < 1024) : (c.raise n).pmu = c.pmu := by rw [(Chip.evOnly_raise c n h).eq]
theorem Chip.raise_brg (c : Chip) (n : Nat) (h : n < 1024) : (c.raise n).brg = c.brg := by rw [(Chip.evOnly_raise c n h).eq]
theorem Chip.raise_hbx (c : Chip) (n : Nat) (h : n < 1024) : (c.raise n).hbx = c.hbx := by rw [(Chip.evOnly_raise c n h).eq]
theorem Chip.raise_seam (c : Chip) (n : Nat) (h : n < 1024) : (c.raise n).seam = c.seam := by rw [(Chip.evOnly_raise c n h).eq]
theorem Chip.raise_ddp (c : Chip) (n : Nat) (h : n < 1024) : (c.raise n).ddp = c.ddp := by rw [(Chip.evOnly_raise c n h).eq]
theorem Chip.raise_key (c : Chip) (n : Nat) (h : n < 1024) : (c.raise n).key = c.key := by rw [(Chip.evOnly_raise c n h).eq]
theorem Chip.raise_sfe (c : Chip) (n : Nat) (h : n < 1024) : (c.raise n).sfe = c.sfe := by rw [(Chip.evOnly_raise c n h).eq]
theorem Chip.raise_rst (c : Chip) (n : Nat) (h : n < 1024) : (c.raise n).rst = c.rst := by rw [(Chip.evOnly_raise c n h).eq]
theorem Chip.raise_update (c : Chip) (n : Nat) (h : n < 1024) : (c.raise n).update = c.update := by rw [(Chip.evOnly_raise c n h).eq]
theorem Chip.raise_clm (c : Chip) (n : Nat) (h : n < 1024) : (c.raise n).clm = c.clm := by rw [(Chip.evOnly_raise c n h).eq]
theorem Chip.raise_running (c : Chip) (n : Nat) (h : n < 1024) : (c.raise n).core.running = c.core.running := by
  rw [(Chip.evOnly_raise c n h).eq]

end Sys2Proof.Machine
end

