-- ==== Sys2Proof/Laws/Memory.lean ====
section
/-! SUPPORT. Reading memory after a write, the canonical form that every memory operation keeps, and what the fabric's reads and
writes leave of a state: the queue as it is, and the memories in their form. -/

namespace Sys2Proof.Machine

/-! ### One byte and many -/

@[simp] theorem memByte_memPut_same (m : List Host.Cell) (a : Nat) (b : Byte) : memByte (memPut m a b) a = b :=
  look_put_same 0 m a b

theorem memByte_memPut_ne (m : List Host.Cell) {a x : Nat} (b : Byte) (h : x ≠ a) : memByte (memPut m a b) x = memByte m x :=
  look_put_ne 0 0 m b h

theorem memPut_wf (m : List Host.Cell) (a : Nat) (b : Byte) (h : Memory.wf m = true) : Memory.wf (memPut m a b) = true :=
  canonical_put 0 m a b h

theorem memWrite_wf (m : List Host.Cell) (a : Nat) (bs : List Byte) (h : Memory.wf m = true) : Memory.wf (memWrite m a bs) = true := by
  induction bs generalizing m a with
  | nil => exact h
  | cons b t ih => exact ih _ _ (memPut_wf m a b h)

theorem memFilter_wf (m : List Host.Cell) (p : Host.Cell → Bool) (h : Memory.wf m = true) : Memory.wf (m.filter p) = true :=
  canonical_filter 0 m p h

/-- A write leaves every byte outside the written ones. -/
theorem memByte_memWrite_out (m : List Host.Cell) (a : Nat) (bs : List Byte) {x : Nat} (h : x < a ∨ a + bs.length ≤ x) :
    memByte (memWrite m a bs) x = memByte m x := by
  induction bs generalizing m a with
  | nil => rfl
  | cons b t ih =>
    simp only [List.length_cons] at h
    rw [show memWrite m a (b :: t) = memWrite (memPut m a b) (a + 1) t from rfl, ih _ _ (by omega),
      memByte_memPut_ne _ _ (by omega)]

/-- A written byte reads back. -/
theorem memByte_memWrite_in (m : List Host.Cell) (a : Nat) (bs : List Byte) {i : Nat} (h : i < bs.length) :
    memByte (memWrite m a bs) (a + i) = bs[i] := by
  induction bs generalizing m a i with
  | nil => simp at h
  | cons b t ih =>
    show memByte (memWrite (memPut m a b) (a + 1) t) (a + i) = _
    cases i with
    | zero => rw [memByte_memWrite_out _ _ _ (by omega)]; simp
    | succ k =>
      have := ih (memPut m a b) (a + 1) (i := k) (by simpa using h)
      rw [show a + (k + 1) = a + 1 + k by omega, this]
      simp

@[simp] theorem memRead_length (m : List Host.Cell) (a n : Nat) : (memRead m a n).length = n := by simp [memRead]

/-- What was written reads back. -/
theorem memRead_memWrite_same (m : List Host.Cell) (a : Nat) (bs : List Byte) : memRead (memWrite m a bs) a bs.length = bs := by
  apply List.ext_getElem
  · simp
  · intro i h1 h2
    simpa [memRead] using memByte_memWrite_in m a bs h2

/-- A read of bytes a write leaves out. -/
theorem memRead_memWrite_out (m : List Host.Cell) (a : Nat) (bs : List Byte) {x n : Nat} (h : x + n ≤ a ∨ a + bs.length ≤ x) :
    memRead (memWrite m a bs) x n = memRead m x n := by
  unfold memRead
  apply List.map_congr_left
  intro i hi
  have := List.mem_range.mp hi
  exact memByte_memWrite_out _ _ _ (by omega)

/-- The empty memory reads zero everywhere. -/
@[simp] theorem memByte_nil (a : Nat) : memByte [] a = 0 := rfl

/-! ### What an operation leaves of the state -/

/-- From `s` to `t` the queue is as it was and memories in their form stay in it. -/
def State.keeps (s t : State) : Prop := t.pending = s.pending ∧ (Memory.wf s.mem = true → Memory.wf t.mem = true)

theorem State.keeps_refl (s : State) : s.keeps s := ⟨rfl, id⟩

theorem State.keeps_trans {s t u : State} (h1 : s.keeps t) (h2 : t.keeps u) : s.keeps u :=
  ⟨h2.1.trans h1.1, fun h => h2.2 (h1.2 h)⟩

theorem State.keeps_chip (s : State) (c : Chip) : s.keeps { s with chip := c } := ⟨rfl, id⟩

theorem State.keeps_mem (s : State) (c : Chip) {m : List Host.Cell} (h : Memory.wf s.mem = true → Memory.wf m = true) :
    s.keeps { s with chip := c, mem := m } := ⟨rfl, h⟩

theorem State.keeps_write (s : State) (c : Chip) (a : Nat) (bs : List Byte) : s.keeps { s with chip := c, mem := memWrite s.mem a bs } :=
  ⟨rfl, memWrite_wf _ _ _⟩

theorem State.logPage_keeps (s : State) (f unit gpn : Nat) : s.keeps (s.logPage f unit gpn) := by
  unfold State.logPage
  dsimp only
  repeat' split
  all_goals first
    | exact s.keeps_refl
    | exact s.keeps_chip _
    | exact s.keeps_write _ _ _

theorem State.translate_keeps (s : State) (t : Tag) (a : Nat) (w : Bool) : s.keeps (s.translate t a w).2 := by
  unfold State.translate
  split
  · exact s.keeps_refl
  · split
    · exact s.keeps_chip _
    · simp only
      split
      · exact s.logPage_keeps _ _ _
      · exact s.keeps_refl

theorem State.readPiece_keeps (s : State) (t : Tag) (a n : Nat) : s.keeps (s.readPiece t a n).2 := by
  have h := s.translate_keeps t a false
  unfold State.readPiece
  split
  · next h2 => rw [h2] at h; exact h
  · next h2 => rw [h2] at h; exact State.keeps_trans h (State.keeps_chip _ _)

theorem State.readPieces_keeps (l : List (Nat × Nat)) (s : State) (t : Tag) : s.keeps (State.readPieces l s t).2 := by
  induction l generalizing s with
  | nil => exact s.keeps_refl
  | cons x l ih =>
    have h := s.readPiece_keeps t x.1 x.2
    unfold State.readPieces
    split
    · next h2 => rw [h2] at h; exact h
    · next _ u h2 =>
      rw [h2] at h
      have h3 := ih u
      split
      · next h4 => rw [h4] at h3; exact State.keeps_trans h h3
      · next h4 => rw [h4] at h3; exact State.keeps_trans h h3

theorem State.busRead_keeps (s : State) (t : Tag) (a n : Nat) : s.keeps (s.busRead t a n).2 := State.readPieces_keeps _ s t

theorem State.writePiece_keeps (s : State) (t : Tag) (a : Nat) (bs : List Byte) : s.keeps (s.writePiece t a bs).2 := by
  have h := s.translate_keeps t a true
  unfold State.writePiece
  split
  · next h2 => rw [h2] at h; exact h
  · next h2 =>
    rw [h2] at h
    simp only
    split
    · exact State.keeps_trans h (State.keeps_write _ _ _ _)
    · exact State.keeps_trans h (State.keeps_chip _ _)

theorem State.writePieces_keeps (l : List (Nat × Nat)) (s : State) (t : Tag) (bs : List Byte) :
    s.keeps (State.writePieces l s t bs).2 := by
  induction l generalizing s bs with
  | nil => exact s.keeps_refl
  | cons x l ih =>
    have h := s.writePiece_keeps t x.1 (bs.take x.2)
    unfold State.writePieces
    split
    · next h2 => rw [h2] at h; exact h
    · next u h2 => rw [h2] at h; exact State.keeps_trans h (ih u _)

theorem State.busWrite_keeps (s : State) (t : Tag) (a : Nat) (bs : List Byte) : s.keeps (s.busWrite t a bs).2 :=
  State.writePieces_keeps _ s t bs

/-- A read through the fabric changes no memory: only a write logs its page. -/
theorem State.readPiece_mem (s : State) (t : Tag) (a n : Nat) : (s.readPiece t a n).2.mem = s.mem := by
  unfold State.readPiece State.translate
  cases t.vf with
  | none => rfl
  | some f =>
    dsimp only
    split
    · next h => split at h <;> cases h; rfl
    · next h => split at h <;> cases h; rfl

theorem State.readPieces_mem (l : List (Nat × Nat)) (s : State) (t : Tag) : (State.readPieces l s t).2.mem = s.mem := by
  induction l generalizing s with
  | nil => rfl
  | cons x l ih =>
    have h := s.readPiece_mem t x.1 x.2
    unfold State.readPieces
    split
    · next h2 => rw [h2] at h; exact h
    · next _ u h2 =>
      rw [h2] at h
      have h3 := ih u
      split
      · next h4 => rw [h4] at h3; exact h3.trans h
      · next h4 => rw [h4] at h3; exact h3.trans h

theorem State.busRead_mem (s : State) (t : Tag) (a n : Nat) : (s.busRead t a n).2.mem = s.mem := State.readPieces_mem _ s t

/-! ### What a lifted meaning leaves -/

theorem State.on_keeps (s : State) (f : Chip → Chip) : ∃ t, s.on f = .next t ∧ s.keeps t := ⟨_, rfl, s.keeps_chip _⟩

theorem State.onZone_keeps (s : State) (f : Chip → Chip) : ∃ t, s.onZone f = .next t ∧ s.keeps t := ⟨_, rfl, s.keeps_chip _⟩

theorem State.onMem_keeps (s : State) (f : State → State) (h : ∀ s, State.keeps s (f s)) : ∃ t, s.onMem f = .next t ∧ s.keeps t :=
  ⟨_, rfl, h s⟩

theorem State.onZoneMem_keeps (s : State) (f : State → State) (h : ∀ s, State.keeps s (f s)) :
    ∃ t, s.onZoneMem f = .next t ∧ s.keeps t := by
  refine ⟨_, rfl, ?_⟩
  dsimp only
  split
  · exact h s
  · exact s.keeps_refl

theorem State.byMem_keeps (s : State) (a : Agent) (f : Who → State → State) (h : ∀ w s, State.keeps s (f w s)) :
    ∃ t, s.byMem a f = .next t ∧ s.keeps t := by
  refine ⟨_, rfl, ?_⟩
  split
  · exact s.keeps_refl
  · split
    · split
      · exact s.keeps_chip _
      · exact h _ s
    · split
      · exact s.keeps_refl
      · exact h _ s

end Sys2Proof.Machine
end

