-- ==== Sys2Proof/Laws/Outcomes.lean ====
section
/-! SUPPORT. How a command completes, by the way its meaning is lifted to a step: for an agent, at once, or for the running die. -/

namespace Sys2Proof.Machine

theorem Chip.issue_admits (c : Chip) (a : Agent) (f : Who → Chip → Chip) (h : c.admits a = true) : c.issue a f = f (c.who a) c := by
  unfold Chip.admits at h
  simp only [Bool.and_eq_true] at h
  unfold Chip.issue
  rw [h.1]
  have h2 := h.2
  cases hv : a.vf with
  | none => simp [hv] at h2; simp [h2]
  | some v => simp [hv] at h2; simp [h2]

theorem Runs.on {i : Instr} {s : State} {f : Chip → Chip} {p : State → Prop} (he : exec i s = s.on f)
    (hp : p { s with chip := f s.chip }) : Runs i s p := ⟨_, he, hp⟩

theorem Runs.onZone {i : Instr} {s : State} {f : Chip → Chip} {p : State → Prop} (he : exec i s = s.onZone f)
    (hz : s.chip.zoneUp = true) (hp : p { s with chip := f s.chip }) : Runs i s p := by
  refine ⟨_, he, ?_⟩
  simpa [Chip.when, hz] using hp

theorem Runs.by {i : Instr} {s : State} {a : Agent} {f : Who → Chip → Chip} {p : State → Prop} (he : exec i s = s.by a f)
    (ha : s.chip.admits a = true) (hp : p { s with chip := f (s.chip.who a) s.chip }) : Runs i s p := by
  refine ⟨_, he, ?_⟩
  simpa [Chip.issue_admits _ _ _ ha] using hp

theorem Runs.onMem {i : Instr} {s : State} {f : State → State} {p : State → Prop} (he : exec i s = s.onMem f)
    (hp : p (f s)) : Runs i s p := ⟨_, he, hp⟩

theorem Runs.onZoneMem {i : Instr} {s : State} {f : State → State} {p : State → Prop} (he : exec i s = s.onZoneMem f)
    (hz : s.chip.zoneUp = true) (hp : p (f s)) : Runs i s p := by
  refine ⟨_, he, ?_⟩
  simpa [hz] using hp

theorem Runs.byMem {i : Instr} {s : State} {a : Agent} {f : Who → State → State} {p : State → Prop}
    (he : exec i s = s.byMem a f) (ha : s.chip.admits a = true) (hp : p (f (s.chip.who a) s)) : Runs i s p := by
  refine ⟨_, he, ?_⟩
  unfold Chip.admits at ha
  simp only [Bool.and_eq_true] at ha
  have h2 := ha.2
  rw [ha.1]
  cases hv : a.vf with
  | none => simp [hv] at h2; simpa [h2] using hp
  | some v => simp [hv] at h2; simpa [h2] using hp

end Sys2Proof.Machine
end

