-- ==== Sys2Proof/Tests/Slice0.lean ====
section
/-! SUPPORT. Tests: a state that meets the hypotheses of each statement, an ill-formed command for each check of WellFormed, and single
steps and encodings with results taken from the spec. -/

open Sys2Proof Sys2Proof.Machine

set_option linter.unusedVariables false
set_option Elab.async false

namespace Sys2Proof.Machine

/-! ### States for the tests -/

/-- A module that runs: handed over, its zone die up, every master's gate open, hart `w` in world `w` for `w` up to 4. -/
def up : Chip :=
  let c : Chip := { rst := { releasing := none, relStep := .worlds, handed := true }, time := { started := true, frc := 1000000 } }
  let c := forAll 20 (fun m c => (c.set (RST_MW_GATE m) 1).set (RST_MW_WORLD m) (if m < 5 then m else 1)) c
  { c with core := { c.core with running := [(0, true), (1, true), (2, true), (3, true), (4, true), (5, true), (6, true), (7, true)] } }

/-- A state from a change of that module. -/
def wit (f : Chip → Chip) : State := { chip := f up }

/-- The same with a memory. -/
def witm (m : List Host.Cell) (f : Chip → Chip) : State := { chip := f up, mem := m }

/-- A hart, in the world of its number. -/
def hart (m : Fin 20) : Agent := ⟨m, none⟩

/-- A hart that acts for a virtual function. -/
def hartVf (m : Fin 20) (v : Fin 64) : Agent := ⟨m, some v⟩

/-- Entry `e` of claim kind `k` in the hands of world `w`. -/
def Chip.own (c : Chip) (k e w : Nat) : Chip :=
  c.wr (CLM_CLAIM k (e / 8)) (setBits (c.rd (CLM_CLAIM k (e / 8))) (4 * (e % 8) + 3) (4 * (e % 8)) (8 + w))

/-- Engine `e` in RUN, in a cycle, with processor `p` at an instruction word. -/
def Chip.leReady (c : Chip) (e w : Nat) (p : LeCpu) : Chip :=
  ((c.set (LE_STAT_MODE e) 1).setB (LE_STAT_CYCRUN e) true).updLe e fun g =>
    { g with cpu := p, active := { g.active with prog := [(p.pc / 4, BitVec.ofNat 128 (w <<< (32 * (p.pc % 4))))] } }

/-- A firewall region that admits every master, world and VF to every address. -/
def Chip.openAll (c : Chip) : Chip :=
  (c.wrN (RST_FW0 0) (2 ^ 127 + 0xFFFFFFFFFF * 2 ^ 64)).wrN (RST_FW1 0) ((2 ^ 128 - 1) - 3 * 2 ^ 93)

/-- Function `f` of world `w` with indices `i` to `i + n - 1` of pool `k`. -/
def Chip.vfPool (c : Chip) (f w k i n : Nat) : Chip :=
  ({ c with sfe := { c.sfe with ranges := [(8 * f + k, (i, n))] } }).set (SFE_FN_CFG_WORLD f) w

/-- The start of a manifest: one component of one segment of four bytes. -/
def pkg : List Byte :=
  List.replicate 7 0 ++ [1, 0, 0, 0, 0, 1, 0, 0, 0] ++ List.replicate 48 0 ++ [3, 0, 0, 0, 9, 0, 0, 0, 0, 0, 0, 0, 4, 0, 0, 0] ++
    List.replicate 48 0

/-- The register at an address. -/
def foundAt (a : Nat) : Found :=
  (regAt a).getD { row := { addr := 0, dims := [], width := 32, rst := 0, exc := [], owner := .all, clears := 0, sleepClears := false, fields := [] }, idx := [], addr := a }

/-- The dictionary serves every transport; every peer has world `w`; the SNI is 0x213; the module is in FIELD. -/
def Chip.ddpUp (c : Chip) (w : Nat) : Chip :=
  let c := ((c.openAll.wrN DDP_CTL 15).wrN (DDP_RQ 0) (2 ^ 127 + 2 ^ 125 + 31 * 2 ^ 120 + w * 2 ^ 117 + 5 * 2 ^ 106)).set DDP_SNI_SNI 0x213
  let c := (c.setB RST_CAUSE_OPTFAIL false).setB (DDP_CL_EN 0) true
  c.updKey fun b => { b with lcs := 3, gen := false }

/-- A packet to that module. -/
def ask (o : BitVec 20) (e : Byte) (data : List Byte) : DdpPacket :=
  { auth := false, resp := false, cmd := 0, dst := 0x213, src := 0x3FF00, session := 0xFF, tid := 0x21, object := o, element := e
    status := 0, type := 0, segno := 0, data := data, tag := [] }

/-- A write transfer of 500 bytes over Hatband channel A. -/
def xfer0 : DdpXfer := { via := .hat 0, head := { ask 0x11000 0 [] with cmd := 4 }, world := 4, write := true, total := 500, lastAt := 1 }

/-- The Hatbox in ACTIVE, 1,000 s after the start. -/
def Chip.hbxAct (c : Chip) (f : HbxBlk → HbxBlk) : Chip := ({ c with now := 1000000000000 } : Chip).updHbx fun h => f { h with power := .active }

/-- The Seam up, and port `w` free to send code `k`. -/
def Chip.seamUp (c : Chip) (w k : Nat) : Chip :=
  ((((c.openAll.setB SEAM_STAT_LINK true).wrN SEAM_CMDW (2 ^ (5 * k + w))).wrN (SEAM_P_RES (w - 1)) 0).wrN (SEAM_P_ADDR (w - 1)) 0x900000000).updSeam
    fun b => { b with tag := 9 }

/-! ### States that meet the hypotheses of the statements -/



theorem wit_step_runs_front_command : State.reset.pending = [] ∧ (∃ s : State, s.pending = [] ∧ s.chip.time.started = true) :=
  ⟨rfl, wit (fun c => c), rfl, rfl⟩

theorem wit_every_step_keeps_memory_form : Memory.wf State.reset.mem = true ∧ Memory.wf [(5, 1), (0x800000000, 7)] = true := by decide +kernel

theorem wit_packet_bytes_parse_back :
    let p : DdpPacket := { ask 0x302D 7 [1, 2] with cmd := 2, auth := true, tag := [1, 2, 3, 4, 5, 6, 7, 8] }
    (1 ≤ p.cmd.toNat ∧ p.cmd.toNat ≤ 10) ∧ (p.resp = true ∨ p.cmd.toNat = 6 ∨ p.cmd.toNat = 8 ∨ p.status = 0) ∧
    (p.cmd.toNat = 6 ∨ p.segno = 0) ∧ p.data.length < 65536 ∧ p.tag.length = (if p.auth then 8 else 0) := by
  decide +kernel

theorem wit_snapshot_latches_frc_and_domains :
    (let s : State := wit id
     let a : Agent := hart 1
     let v : W32 := 1
     s.chip.admits a = true ∧ bits v.toNat 0 0 = 1) ∧
    (let s : State := wit id
     let a : Agent := hart 1
     let v : W32 := 2
     s.chip.admits a = true ∧ bits v.toNat 0 0 = 0) := by
  refine ⟨?_, ?_⟩
  all_goals decide +kernel

theorem wit_position_base_write_by_another_world :
    (let s : State := wit id
     let a : Agent := hart 3
     let n : Fin 16 := 15
     s.chip.admits a = true ∧ a.vf = none ∧ s.chip.claims (s.chip.worldOfAgent a) 6 n.val = false ∧ n.val ≠ 0) ∧
    (let s : State := wit id
     let a : Agent := hart 3
     let n : Fin 16 := 0
     let r : Reg := PB_POS 0
     s.chip.admits a = true ∧ a.vf = none ∧ s.chip.claims (s.chip.worldOfAgent a) 6 n.val = false ∧ (r ∈ [PB_POS n.val, PB_EDGE n.val,
       PB_PER n.val, PB_TOL n.val, PB_HZN n.val, PB_STAT n.val, PB_CNT n.val] ∨ n.val ≠ 0 ∧ r ∈ [PB_SET n.val, PB_CFG n.val, PB_EST
       n.val, PB_STALL n.val, PB_CTL n.val])) := by
  refine ⟨?_, ?_⟩
  all_goals decide +kernel

theorem wit_time_domain_writes_take_effect :
    (let s : State := wit fun c => c.own 5 1 3
     let a : Agent := hart 3
     let n : Fin 8 := 1
     let v : W128 := 0x0000FFDF3B645A1D
     s.chip.admits a = true ∧ s.chip.claims (s.chip.worldOfAgent a) 5 n.val = true ∧ (n.val ≤ 1 → 0x0000FFDF3B645A1D ≤ v.toNat % 2 ^ 64
       ∧ v.toNat % 2 ^ 64 ≤ 0x00010020C49BA5E3)) ∧
    (let s : State := wit fun c => c.own 5 1 3
     let a : Agent := hart 3
     let n : Fin 8 := 1
     let v : W128 := 281474976710655999999
     s.chip.admits a = true ∧ s.chip.claims (s.chip.worldOfAgent a) 5 n.val = true ∧ bits v.toNat 79 48 ≤ 999999999) ∧
    (let s : State := wit fun c => c.own 5 1 3
     let a : Agent := hart 3
     let n : Fin 8 := 1
     s.chip.admits a = true ∧ s.chip.claims (s.chip.worldOfAgent a) 5 n.val = true) ∧
    (let s : State := wit fun c => c.own 5 7 3
     let a : Agent := hart 3
     let n : Fin 8 := 7
     s.chip.admits a = true ∧ s.chip.claims (s.chip.worldOfAgent a) 5 n.val = true ∧ n.val ≠ 1 ∧ s.chip.flag (TD_STAT_QFORCED n.val) =
       false) ∧
    (let s : State := wit fun c => (c.own 5 1 3).setB (TD_STAT_QFORCED 1) false
     let a : Agent := hart 3
     let n : Fin 8 := 1
     let v : W32 := 0x13
     s.chip.admits a = true ∧ s.chip.claims (s.chip.worldOfAgent a) 5 n.val = true ∧ n.val = 1 ∧ bits v.toNat 5 4 ≤ 1 ∧ (bits v.toNat 5
       4 = 1 → s.chip.variantH = true) ∧ s.chip.flag (TD_STAT_QFORCED 1) = false) := by
  refine ⟨?_, ?_, ?_, ?_, ?_⟩
  all_goals decide +kernel

theorem wit_time_domain_writes_refused :
    (let s : State := wit id
     let a : Agent := hart 3
     let n : Fin 8 := 7
     s.chip.admits a = true ∧ s.chip.claims (s.chip.worldOfAgent a) 5 n.val = false) := by
  decide +kernel

theorem wit_time_events_and_captures :
    (let s : State := State.reset
     s.chip.time.started = false ∧ s.chip.rst.episode = none ∧ s.chip.rst.releasing = some 4 ∧ s.chip.rst.relStep = .pll) ∧
    (let s : State := wit fun c => (c.setB TIME_STAT_TBLOCK true).setB TIME_STAT_XTALLOST false
     s.chip.flag TIME_STAT_TBLOCK = true ∧ s.chip.flag TIME_STAT_XTALLOST = false) ∧
    (let s : State := wit id
     let a : Agent := hart 4
     let v : W128 := 0x70000000000000009
     s.chip.admits a = true ∧ bits v.toNat 67 64 < 8) ∧
    (let s : State := wit id
     s.chip.zoneUp = true ∧ s.chip.variantH = true) ∧
    (let s : State := wit fun c => { c.set (TD_CTL_SRC 1) 1 with time := { c.time with lastMark := some 5, frc := 2000000005 } }
     let m : Nat := 5
     s.chip.zoneUp = true ∧ s.chip.get (TD_CTL_SRC 1) = 1 ∧ s.chip.time.lastMark = some m ∧ m + 2000000000 ≤ s.chip.time.frc) := by
  refine ⟨?_, ?_, ?_, ?_, ?_⟩
  all_goals decide +kernel

theorem wit_position_base_control :
    (let s : State := wit fun c => (((c.own 6 15 3).wrN (PB_CFG 15) 0).set (PB_CFG_SRC 15) 2).setB (PB_CTL_EN 15) false
     let a : Agent := hart 3
     let n : Fin 16 := 15
     s.chip.admits a = true ∧ s.chip.claims (s.chip.worldOfAgent a) 6 n.val = true ∧ n.val ≠ 0 ∧ s.chip.flag (PB_CTL_EN n.val) = false ∧
       s.chip.pbCfgCheck n.val = stOK ∧ (∀ p ∈ s.chip.pbNeeds n.val, s.chip.pxConflict (s.chip.worldOfAgent a) n.val p = none)) ∧
    (let s : State := wit fun c => (c.own 6 15 3).setB (PB_CTL_EN 15) true
     let a : Agent := hart 3
     let n : Fin 16 := 15
     s.chip.admits a = true ∧ s.chip.claims (s.chip.worldOfAgent a) 6 n.val = true ∧ n.val ≠ 0 ∧ s.chip.flag (PB_CTL_EN n.val) = true) ∧
    (let s : State := wit fun c => ((c.own 6 15 3).setB (PB_CTL_EN 15) true).set (PB_STAT_STATE 15) 4
     let a : Agent := hart 3
     let n : Fin 16 := 15
     let v : W32 := 1
     s.chip.admits a = true ∧ s.chip.claims (s.chip.worldOfAgent a) 6 n.val = true ∧ n.val ≠ 0 ∧ s.chip.flag (PB_CTL_EN n.val) = true ∧
       v.toNat.testBit 0 = true ∧ (s.chip.get (PB_STAT_STATE n.val) = 3 ∨ s.chip.get (PB_STAT_STATE n.val) = 4)) ∧
    (let s : State := wit fun c => c.own 6 15 3
     let a : Agent := hart 3
     let n : Fin 16 := 15
     s.chip.admits a = true ∧ s.chip.claims (s.chip.worldOfAgent a) 6 n.val = true ∧ n.val ≠ 0) := by
  refine ⟨?_, ?_, ?_, ?_⟩
  all_goals decide +kernel

theorem wit_position_base_edges :
    (let s : State := wit fun c => (((c.set (PB_STAT_STATE 15) 1).wrN (PB_CFG 15) 0).updTracker 15 fun t =>
       { t with edges := [{ stamp := 500 }] })
     let n : Fin 16 := 15
     let e : EdgeIn := { stamp := 500 }
     let es : List EdgeIn := []
     s.chip.zoneUp = true ∧ (s.chip.tracker n.val).edges = e :: es ∧ s.chip.get (PB_STAT_STATE n.val) = 1 ∧ s.chip.pbGap n.val = 0) ∧
    (let s : State := wit fun c => ((((c.wrN (PB_CFG 15) 0).set (PB_CFG_SRC 15) 2).setB (PB_CTL_EN 15) true).set (PB_STAT_STATE 15) 1)
     let n : Fin 16 := 15
     s.chip.zoneUp = true ∧ s.chip.variantH = true ∧ s.chip.flag (PB_CTL_EN n.val) = true ∧ s.chip.get (PB_CFG_SRC n.val) = 2 ∧
       s.chip.get (PB_STAT_STATE n.val) = 1) ∧
    (let s : State := wit fun c => (((c.set (PB_STAT_STATE 15) 4).set (PB_STALL_US 15) 10).set (PB_EDGE_FRC 15) 990000)
     let n : Fin 16 := 15
     s.chip.zoneUp = true ∧ (s.chip.get (PB_STAT_STATE n.val) = 2 ∨ s.chip.get (PB_STAT_STATE n.val) = 3 ∨ s.chip.get (PB_STAT_STATE
       n.val) = 4) ∧ s.chip.get (PB_STALL_US n.val) ≠ 0 ∧ s.chip.pbTe n.val + s.chip.get (PB_STALL_US n.val) * 1000 ≤ s.chip.time.frc) ∧
    (let s : State := wit fun c => (c.setB (PB_STAT_HELD 15) true).updTracker 15 fun t => { t with heldPos := some 0 }
     let n : Fin 16 := 15
     let h : Nat := 0
     s.chip.zoneUp = true ∧ (s.chip.tracker n.val).heldPos = some h ∧ beyond (s.chip.pbRev n.val) h (s.chip.estAt n.val s.chip.time.frc)
       = false) := by
  refine ⟨?_, ?_, ?_, ?_⟩
  all_goals decide +kernel

theorem wit_sequencer_port_commands :
    (let s : State := wit fun c => (((((c.own 0 31 3).own 4 2 3).setB SEQ_CTL_EN false).set (SEQ_P_IDX_N 3) 8191).wrN (SEQ_P_D0 3)
       (entryWord0 { pos := 5000, owner := 3, target := 2, base := 2 })).wrN (SEQ_P_D1 3) 0
     let a : Agent := hart 3
     let w : Fin 5 := 3
     let i : Nat := 8191
     s.chip.admits a = true ∧ s.chip.worldOfAgent a = w.val ∧ s.chip.get (SEQ_P_IDX_N w.val) = i ∧ s.chip.claims w.val 0 (i / 256) =
       true ∧ s.chip.writeCheck w.val (s.chip.rdN (SEQ_P_D0 w.val)) (s.chip.rdN (SEQ_P_D1 w.val)) = stOK ∧ (s.chip.baseReady (entryOf
       (s.chip.rdN (SEQ_P_D0 w.val)) 0).base (entryOf (s.chip.rdN (SEQ_P_D0 w.val)) 0).dir && s.chip.passed (entryOf (s.chip.rdN
       (SEQ_P_D0 w.val)) (s.chip.rdN (SEQ_P_D1 w.val)))) = false ∧ (s.chip.entry i).st ≠ .committed) ∧
    (let s : State := wit fun c => ((c.own 0 31 3).own 4 2 3).set (SEQ_P_IDX_N 3) 8191
     let a : Agent := hart 3
     let w : Fin 5 := 3
     let i : Nat := 8191
     s.chip.admits a = true ∧ s.chip.worldOfAgent a = w.val ∧ s.chip.get (SEQ_P_IDX_N w.val) = i ∧ s.chip.claims w.val 0 (i / 256) =
       true) ∧
    (let s : State := wit fun c => ((c.own 0 31 3).own 4 2 3).set (SEQ_P_IDX_N 3) 8191
     let a : Agent := hart 3
     let w : Fin 5 := 3
     let i : Nat := 8191
     s.chip.admits a = true ∧ s.chip.worldOfAgent a = w.val ∧ s.chip.get (SEQ_P_IDX_N w.val) = i ∧ s.chip.claims w.val 0 (i / 256) =
       true ∧ (s.chip.entry i).st ≠ .committed) ∧
    (let s : State := wit fun c => (((c.own 0 31 3).set (SEQ_P_IDX_N 3) 8191).setEntry 8191 { st := .committed, owner := 3 })
     let a : Agent := hart 3
     let w : Fin 5 := 3
     let i : Nat := 8191
     s.chip.admits a = true ∧ s.chip.worldOfAgent a = w.val ∧ s.chip.get (SEQ_P_IDX_N w.val) = i ∧ s.chip.claims w.val 0 (i / 256) =
       true ∧ (s.chip.entry i).st = .committed) := by
  refine ⟨?_, ?_, ?_, ?_⟩
  all_goals decide +kernel

theorem wit_sequencer_port_refusals :
    (let s : State := wit id
     let a : Agent := hart 3
     let w : Fin 5 := 2
     s.chip.admits a = true ∧ s.chip.worldOfAgent a ≠ w.val) ∧
    (let s : State := wit id
     let a : Agent := hart 3
     let w : Fin 5 := 3
     s.chip.admits a = true ∧ s.chip.worldOfAgent a = w.val ∧ s.chip.claims w.val 0 (s.chip.get (SEQ_P_IDX_N w.val) / 256) = false) := by
  refine ⟨?_, ?_⟩
  all_goals decide +kernel

theorem wit_sequencer_occurrences :
    (let s : State := wit fun c => c.setEntry 8191 { st := .waiting }
     let i : Fin 8192 := 8191
     s.chip.zoneUp = true ∧ (s.chip.entry i.val).st ≠ .free) ∧
    (let s : State := wit fun c => ((((({ c with time := { c.time with frc := 1000000 } }).setB SEQ_CTL_EN true).wrN (TD_OFS 0) 0).set
       (TD_INC_INC 0) 0x1000000000000).set (TD_ANCHOR_FRC 0) 0 |>.set (SEQ_B_LA_US 0) 1000).setEntry 8191
       { st := .waiting, cls := 6, target := 900, pos := 1500000 }
     let i : Fin 8192 := 8191
     let f : Nat := 1500000
     s.chip.zoneUp = true ∧ (s.chip.entry i.val).st = .waiting ∧ s.chip.seqRuns = true ∧ s.chip.baseReady (s.chip.entry i.val).base
       (s.chip.entry i.val).dir = true ∧ s.chip.passed (s.chip.entry i.val) = false ∧ s.chip.fireTick (s.chip.entry i.val).base
       (s.chip.entry i.val).pos (s.chip.entry i.val).dir = some f ∧ f ≤ s.chip.time.frc + s.chip.get (SEQ_B_LA_US (s.chip.entry
       i.val).base) * 1000 ∧ s.chip.time.frc + horizon (s.chip.entry i.val).cls ≤ f ∧ s.chip.windowCount < 256) ∧
    (let s : State := wit fun c => ((c.setB SEQ_CTL_EN true).own 16 0 3).setEntry 8191
       { st := .armed, cls := 6, target := 900, owner := 3, fire := 1000000 }
     let i : Fin 8192 := 8191
     s.chip.zoneUp = true ∧ (s.chip.entry i.val).st = .armed ∧ (s.chip.entry i.val).held = false ∧ (s.chip.entry i.val).lateOcc = false
       ∧ s.chip.seqRuns = true ∧ (s.chip.entry i.val).fire ≤ s.chip.time.frc + 318 + horizon (s.chip.entry i.val).cls ∧ s.chip.time.frc
       + horizon (s.chip.entry i.val).cls ≤ (s.chip.entry i.val).fire ∧ s.chip.earlierTwin i.val = false ∧ s.chip.targetHeld
       (s.chip.entry i.val).owner (s.chip.entry i.val).cls (s.chip.entry i.val).target = true ∧ s.chip.targetRefusal (s.chip.entry
       i.val).cls (s.chip.entry i.val).target = none) ∧
    (let s : State := wit fun c => ((c.setB SEQ_CTL_EN true).own 4 47 3 |>.setB (LSC_CH_STAT_ORPHAN 47) false |>.wrN (LSC_CH_STAT 47)
       0).setEntry 8191 { st := .armed, cls := 0, target := 47, owner := 3, lateOcc := true, base := 15 }
     let i : Fin 8192 := 8191
     s.chip.zoneUp = true ∧ (s.chip.entry i.val).st = .armed ∧ (s.chip.entry i.val).held = false ∧ (s.chip.entry i.val).lateOcc = true ∧
       s.chip.seqRuns = true ∧ (s.chip.entry i.val).base < 16 ∧ s.chip.targetHeld (s.chip.entry i.val).owner (s.chip.entry i.val).cls
       (s.chip.entry i.val).target = true ∧ s.chip.targetRefusal (s.chip.entry i.val).cls (s.chip.entry i.val).target = none) ∧
    (let s : State := wit fun c => c.setEntry 8191 { st := .committed, cls := 6, target := 1023, base := 15, fire := 5 }
     let i : Fin 8192 := 8191
     s.chip.zoneUp = true ∧ (s.chip.entry i.val).st = .committed ∧ (s.chip.entry i.val).fire ≤ s.chip.time.frc ∧ (s.chip.entry
       i.val).base < 16 ∧ ((s.chip.entry i.val).cls = 6 → (s.chip.entry i.val).target < 1024) ∧ s.chip.seq.verify.length < 64) := by
  refine ⟨?_, ?_, ?_, ?_, ?_⟩
  all_goals decide +kernel

theorem wit_sequencer_retiming_and_records :
    (let s : State := wit fun c => { c with seq := { c.seq with retime := [3, 15] } }
     s.chip.zoneUp = true ∧ s.chip.seq.retime ≠ []) ∧
    (let s : State := wit id
     s.chip.zoneUp = true) ∧
    (let s : State := wit id
     let a : Agent := hart 2
     s.chip.admits a = true) ∧
    (let s : State := wit id
     let a : Agent := hart 2
     s.chip.admits a = true ∧ s.chip.worldOfAgent a = 2) ∧
    (let s : State := wit fun c => { c with seq := { c.seq with acts := [{ fire := 5, cls := 1, target := 31, arg := 2 }] } }
     let n : Fin 32 := 31
     let x : Action := { fire := 5, cls := 1, target := 31, arg := 2 }
     s.chip.zoneUp = true ∧ s.chip.dueAction 1 n.val = some x) := by
  refine ⟨?_, ?_, ?_, ?_, ?_⟩
  all_goals decide +kernel

theorem wit_load_switch_actions :
    (let s : State := wit fun c => ((c.addAction { fire := 9, cls := 0, target := 47, arg := 0 }).set (LSC_CH_STAT_PSTATE 47) 5)
     let n : Fin 48 := 47
     let x : Action := { fire := 9, cls := 0, target := 47, arg := 0 }
     s.chip.dueAction 0 n.val = some x ∧ x.arg % 32 = 0) ∧
    (let s : State := wit fun c => ((c.addAction { fire := 9, cls := 0, target := 47, arg := 1 }).set (LSC_CH_STAT_PSTATE 47) 1)
     let n : Fin 48 := 47
     let x : Action := { fire := 9, cls := 0, target := 47, arg := 1 }
     s.chip.dueAction 0 n.val = some x ∧ x.arg % 32 = 1 ∧ s.chip.pstate n.val ≤ 1 ∧ (s.chip.lsCh n.val).hot = false ∧ s.chip.lsFaulted
       n.val = false ∧ s.chip.pmu.uvh = false) ∧
    (let s : State := wit fun c => ((c.addAction { fire := 9, cls := 0, target := 47, arg := 1 }).set (LSC_CH_STAT_PSTATE 47) 4)
     let n : Fin 48 := 47
     let x : Action := { fire := 9, cls := 0, target := 47, arg := 1 }
     s.chip.dueAction 0 n.val = some x ∧ x.arg % 32 = 1 ∧ (s.chip.pstate n.val = 3 ∨ s.chip.pstate n.val = 4)) ∧
    (let s : State := wit fun c => ((c.addAction { fire := 9, cls := 0, target := 47, arg := 0x80000003 }).set (LSC_CH_CFG_MODE 47) 1)
     let n : Fin 48 := 47
     let x : Action := { fire := 9, cls := 0, target := 47, arg := 0x80000003 }
     s.chip.dueAction 0 n.val = some x ∧ x.arg % 32 = 3 ∧ s.chip.get (LSC_CH_CFG_MODE n.val) ≠ 0) ∧
    (let s : State := wit fun c => ((c.addAction { fire := 9, cls := 0, target := 47, arg := 2 }).set (LSC_CH_CFG_MODE 47) 1).set
       (LSC_CH_STAT_PSTATE 47) 0
     let n : Fin 48 := 47
     let x : Action := { fire := 9, cls := 0, target := 47, arg := 2 }
     s.chip.dueAction 0 n.val = some x ∧ x.arg % 32 = 2 ∧ s.chip.get (LSC_CH_CFG_MODE n.val) ≠ 0 ∧ s.chip.pstate n.val ≤ 1) ∧
    (let s : State := wit fun c => (((c.set (LSC_CH_CFG_MODE 47) 2).setB (LSC_CH_STAT_CMDON 47) true).set (LSC_CH_PWMPER_T 47)
       1000000).updLs 47 fun x => { x with pwm := true }
     let n : Fin 48 := 47
     s.chip.get (LSC_CH_CFG_MODE n.val) = 2 ∧ (s.chip.lsCh n.val).pwm = true ∧ s.chip.flag (LSC_CH_STAT_CMDON n.val) = true ∧
       (s.chip.lsCh n.val).lastStart + s.chip.get (LSC_CH_PWMPER_T n.val) ≤ s.chip.time.frc) ∧
    (let s : State := wit fun c => ((((c.set (LSC_CH_CFG_MODE 47) 1).setB (LSC_CH_STAT_CMDON 47) true).setB (LSC_CH_STAT_FLYWHEEL 47)
       false).set (LSC_CH_HOLD_PERIOD 47) 600000).updLs 47 fun x => { x with pwm := true }
     let n : Fin 48 := 47
     s.chip.get (LSC_CH_CFG_MODE n.val) ≠ 2 ∧ (s.chip.lsCh n.val).pwm = true ∧ s.chip.flag (LSC_CH_STAT_CMDON n.val) = true ∧
       s.chip.flag (LSC_CH_STAT_FLYWHEEL n.val) = false ∧ (s.chip.lsCh n.val).lastStart + s.chip.lsPeriod n.val * 3 / 2 ≤
       s.chip.time.frc) ∧
    (let s : State := wit fun c => (c.setB (LSC_CH_STAT_OUT 47) true).updLs 47 fun x => { x with pwm := true, onEnd := some 1000000 }
     let n : Fin 48 := 47
     let e : Nat := 1000000
     (s.chip.lsCh n.val).pwm = true ∧ (s.chip.lsCh n.val).onEnd = some e ∧ e ≤ s.chip.time.frc) := by
  refine ⟨?_, ?_, ?_, ?_, ?_, ?_, ?_, ?_⟩
  all_goals decide +kernel

theorem wit_load_switch_protection :
    (let s : State := wit fun c => ((c.wrN (LSC_CH_STAT 47) 0).setB (LSC_CH_STAT_OUT 47) true)
     let n : Fin 48 := 47
     let ma : Nat := 12000
     s.chip.pstate n.val = 0 ∧ s.chip.flag (LSC_CH_STAT_OUT n.val) = true ∧ s.chip.lsLimit n.val ≤ ma) ∧
    (let s : State := wit fun c => ((c.wrN (LSC_CH_STAT 47) 0).set (LSC_CH_STAT_PSTATE 47) 1)
     let n : Fin 48 := 47
     let ma : Nat := 0
     s.chip.pstate n.val = 1 ∧ ma * 10 < s.chip.lsLimit n.val * 9) ∧
    (let s : State := wit fun c =>
       { ((c.wrN (LSC_CH_STAT 47) 0).set (LSC_CH_STAT_PSTATE 47) 1).updLs 47 (fun x => { x with scStart := some 3 }) with now := 10000003 }
     let n : Fin 48 := 47
     let u : Nat := 3
     s.chip.pstate n.val = 1 ∧ (s.chip.lsCh n.val).scStart = some u ∧ u + tscNs (s.chip.get (LSC_CH_PROT_TSC n.val)) ≤ s.chip.now) ∧
    (let s : State := wit fun c => ((c.wrN (LSC_CH_STAT 47) 0).setB (LSC_CH_STAT_OUT 47) true)
     let n : Fin 48 := 47
     let tj : Nat := 1400
     1400 ≤ tj ∧ s.chip.pstate n.val ≤ 1 ∧ s.chip.flag (LSC_CH_STAT_OUT n.val) = true) ∧
    (let s : State := wit fun c => (((c.wrN (LSC_CH_STAT 47) 0).set (LSC_CH_STAT_PSTATE 47) 2).setB (LSC_CH_STAT_CMDON 47) true).updLs
       47 fun x => { x with retryAt := some 0 }
     let n : Fin 48 := 47
     let r : Nat := 0
     s.chip.pstate n.val = 2 ∧ (s.chip.lsCh n.val).retryAt = some r ∧ r ≤ s.chip.now ∧ (s.chip.lsCh n.val).hot = false ∧ s.chip.flag
       (LSC_CH_STAT_CMDON n.val) = true ∧ (s.chip.lsCh n.val).pwm = false ∧ s.chip.lsFaulted n.val = false ∧ s.chip.pmu.uvh = false) ∧
    (let s : State := wit fun c => c.updLs 47 fun x => { x with hot := true }
     let n : Fin 48 := 47
     let tj : Nat := 1279
     tj < 1280 ∧ (s.chip.lsCh n.val).hot = true) ∧
    (let s : State := wit fun c => { (c.updLs 47 fun x => { x with normalSince := some 3 }) with now := 1000000003 }
     let n : Fin 48 := 47
     let u : Nat := 3
     (s.chip.lsCh n.val).normalSince = some u ∧ u + 1000000000 ≤ s.chip.now) ∧
    (let s : State := wit fun c => (c.set (LSC_CH_STAT_PSTATE 47) 1).updLs 47 fun x => { x with irEnd := some 0 }
     let n : Fin 48 := 47
     let u : Nat := 0
     (s.chip.lsCh n.val).irEnd = some u ∧ u ≤ s.chip.now) ∧
    (let s : State := wit fun c => forAll 4 (fun i c => c.set (LSC_CH_STAT_PSTATE (44 + i)) 0) (c.setB (LSC_BK_STAT_DIST 11) true)
     let k : Fin 12 := 11
     s.chip.flag (LSC_BK_STAT_DIST k.val) = true ∧ s.chip.distHeld k.val = false) := by
  refine ⟨?_, ?_, ?_, ?_, ?_, ?_, ?_, ?_, ?_⟩
  all_goals decide +kernel

theorem wit_load_switch_commands :
    (let s : State := wit fun c => (((c.own 4 47 3).setB (LSC_CH_STAT_ORPHAN 47) false).set (LSC_CH_STAT_PSTATE 47) 4).set
       (LSC_CH_EACC_UJ 47) 0
     let a : Agent := hart 3
     let v : W32 := 4
     let n : Fin 48 := 47
     s.chip.admits a = true ∧ s.chip.claims (s.chip.worldOfAgent a) 4 n.val = true ∧ v.toNat % 16 ≤ 4 ∧ s.chip.flag (LSC_CH_STAT_ORPHAN
       n.val) = false ∧ s.chip.lsFaulted n.val = false ∧ s.chip.pstate n.val = 4) ∧
    (let s : State := wit fun c => ((c.own 4 47 3).setB (LSC_CH_STAT_ORPHAN 47) false).set (LSC_CH_STAT_PSTATE 47) 3
     let a : Agent := hart 3
     let v : W32 := 0x80000001
     let n : Fin 48 := 47
     s.chip.admits a = true ∧ s.chip.claims (s.chip.worldOfAgent a) 4 n.val = true ∧ v.toNat % 16 ≤ 4 ∧ s.chip.flag (LSC_CH_STAT_ORPHAN
       n.val) = false ∧ s.chip.lsFaulted n.val = false ∧ s.chip.pstate n.val = 3) ∧
    (let s : State := wit id
     let a : Agent := hart 3
     let n : Fin 48 := 0
     s.chip.admits a = true ∧ s.chip.claims (s.chip.worldOfAgent a) 4 n.val = false) ∧
    (let s : State := wit fun c => (((c.own 4 47 3).setB (PIN_BALL_CLAIMED 175) true).set (PIN_BALL_WORLD 175) 3).set (PIN_BALL_FUNC
       175) 0
     let a : Agent := hart 3
     let v : W32 := 0xAF
     let m : Fin 4 := 3
     s.chip.admits a = true ∧ v.toNat % 64 ≤ 47 ∧ s.chip.ballHeld (s.chip.worldOfAgent a) (172 + m.val) 0 = true ∧ (s.chip.claims
       (s.chip.worldOfAgent a) 4 (v.toNat % 64) = true ∨ s.chip.worldOfAgent a = 2)) ∧
    (let s : State := wit fun c => { c with lsc := { c.lsc with policy := some (1, 5, 0) } }
     let a : Agent := hart 2
     let odly : Nat := 1
     let hbt : Nat := 5
     let codes : Nat := 0
     s.chip.admits a = true ∧ s.chip.worldOfAgent a = 2 ∧ s.chip.lsc.policy = some (odly, hbt, codes) ∧ hbt ≠ 0) ∧
    (let s : State := wit fun c => (((c.own 4 47 3).wrN (LSC_CH_STAT 47) 0x8000).set LSC_STAT_HOLDVALID 4).set (LSC_CH_HOLD_HSEQ 47) 255
     let a : Agent := hart 3
     let v : W32 := 0xFF002F
     s.chip.admits a = true ∧ v.toNat % 64 ≤ 47 ∧ s.chip.flag (LSC_CH_STAT_ADOPTED (v.toNat % 64)) = false ∧ s.chip.adoptStatus
       (s.chip.who a) (v.toNat % 64) (bits v.toNat 23 16) = stOK) ∧
    (let s : State := wit id
     let a : Agent := hart 2
     s.chip.admits a = true ∧ s.chip.worldOfAgent a = 2) ∧
    (let s : State := wit fun c => c.setB RST_STAT_SEALED false
     let a : Agent := hart 0
     let v : W32 := 0x5A3C
     s.chip.admits a = true ∧ s.chip.worldOfAgent a = 0 ∧ s.chip.flag RST_STAT_SEALED = false ∧ v.toNat % 65536 = 0x5A3C) := by
  refine ⟨?_, ?_, ?_, ?_, ?_, ?_, ?_, ?_⟩
  all_goals decide +kernel

theorem wit_load_switch_supervision :
    (let s : State := wit fun c =>
       { (forAll 4 (fun i c => ((c.setB (LSC_CH_STAT_OUT (44 + i)) true).set (LSC_CH_CFG_SHEDPRI (44 + i)) 3)) c) with lsc := { c.lsc with bankFilt := [(11, 6553600001)], bankMa := [(11, 6553601)] } }
     let g : Fin 16 := 11
     let n : Fin 48 := 47
     g.val < 12 ∧ s.chip.get (LSC_BK_CFG_BUDGET g.val) * 100000 < look 0 s.chip.lsc.bankFilt g.val ∧ s.chip.get (LSC_BK_CFG_BUDGET
       g.val) * 100 < look 0 s.chip.lsc.bankMa g.val ∧ s.chip.shedChoice [g.val] = some n.val) ∧
    (let s : State := wit fun c =>
       { (forAll 4 (fun i c => ((c.setB (LSC_CH_STAT_OUT (36 + i)) true).set (LSC_CH_CFG_SHEDPRI (36 + i)) 3)) c) with lsc := { c.lsc with lugFilt := [(3, 6553600001)], bankMa := [(6, 9999999999)] } }
     let g : Fin 16 := 15
     let n : Fin 48 := 39
     12 ≤ g.val ∧ s.chip.get (LSC_LUG_CFG_BUDGET (g.val - 12)) * 100000 < look 0 s.chip.lsc.lugFilt (g.val - 12) ∧ s.chip.get
       (LSC_LUG_CFG_BUDGET (g.val - 12)) * 100 < s.chip.lugMa (g.val - 12) ∧ (s.chip.shedChoice ((List.range 12).filter fun k => bankLug
       k == g.val - 12) = some n.val)) ∧
    (let s : State := wit id
     s.chip.rst.episode = none) ∧
    (let s : State := wit fun c => { c with now := 7, lsc := { c.lsc with heartbeat := some 7 } }
     let d : Nat := 7
     s.chip.lsc.heartbeat = some d ∧ d ≤ s.chip.now) ∧
    (let s : State := wit fun c =>
       { (((c.wrN (LSC_CH_STAT 47) 0x8000).wrN (LSC_CH_HOLD 47) 0).set LSC_STAT_LINKUP 7) with now := 10000000, lsc := { c.lsc with policy := some (1, 0, 0) } }
     let n : Fin 48 := 47
     let odly : Nat := 1
     let hbt : Nat := 0
     let codes : Nat := 0
     s.chip.lsc.policy = some (odly, hbt, codes) ∧ s.chip.flag (LSC_CH_STAT_ORPHAN n.val) = true ∧ s.chip.flag (LSC_CH_HOLD_FBAPPLIED
       n.val) = false ∧ odly ≠ 0 ∧ (s.chip.lsCh n.val).orphanAt + odly * 10000000 ≤ s.chip.now ∧ bits codes (2 * n.val + 1) (2 * n.val)
       = 0 ∧ s.chip.pstate n.val ≤ 1) ∧
    (let s : State := wit fun c =>
       { ((c.wrN (LSC_CH_STAT 0) 0x8000).wrN (LSC_CH_HOLD 0) 0) with now := 10000000, lsc := { c.lsc with policy := some (1, 0, 1) } }
     let n : Fin 48 := 0
     let odly : Nat := 1
     let hbt : Nat := 0
     let codes : Nat := 1
     s.chip.lsc.policy = some (odly, hbt, codes) ∧ s.chip.flag (LSC_CH_STAT_ORPHAN n.val) = true ∧ s.chip.flag (LSC_CH_HOLD_FBAPPLIED
       n.val) = false ∧ odly ≠ 0 ∧ (s.chip.lsCh n.val).orphanAt + odly * 10000000 ≤ s.chip.now ∧ bits codes (2 * n.val + 1) (2 * n.val)
       = 1 ∧ s.chip.pstate n.val ≤ 1 ∧ (s.chip.lsCh n.val).hot = false ∧ s.chip.lsFaulted n.val = false ∧ s.chip.pmu.uvh = false) ∧
    (let s : State := wit fun c => c.set LSC_STAT_LINKUP 7
     let slice : Fin 3 := 2
     (s.chip.get LSC_STAT_LINKUP).testBit slice.val = true) ∧
    (let s : State := wit id
     let slice : Fin 3 := 2
     look false s.chip.lsc.sliceFault slice.val = false) := by
  refine ⟨?_, ?_, ?_, ?_, ?_, ?_, ?_, ?_⟩
  all_goals decide +kernel

theorem wit_logic_bit_instructions :
    (let s : State := wit fun c => c.leReady 1 (wordN 0x00) ({ pc := 65535, executed := 7 })
     let e : Fin 2 := 1
     let p : LeCpu := { pc := 65535, executed := 7 }
     s.chip.zoneUp = true ∧ s.chip.leExecutes e.val = true ∧ (s.chip.leg e.val).cpu = p ∧ (s.chip.leg e.val).fetch = wordN 0x00) ∧
    (let s : State := wit fun c => c.leReady 1 (wordB 1 2 32767) ({ pc := 3, rlo := true, m := [(32767, true)] })
     let e : Fin 2 := 1
     let p : LeCpu := { pc := 3, rlo := true, m := [(32767, true)] }
     let area : Fin 8 := 2
     let addr : Fin 32768 := 32767
     s.chip.zoneUp = true ∧ s.chip.leExecutes e.val = true ∧ (s.chip.leg e.val).cpu = p ∧ (s.chip.leg e.val).fetch = wordB 1 area.val
       addr.val) ∧
    (let s : State := wit fun c => c.leReady 1 (wordB 2 2 32767) ({ pc := 3, rlo := true, m := [(32767, true)] })
     let e : Fin 2 := 1
     let p : LeCpu := { pc := 3, rlo := true, m := [(32767, true)] }
     let area : Fin 8 := 2
     let addr : Fin 32768 := 32767
     s.chip.zoneUp = true ∧ s.chip.leExecutes e.val = true ∧ (s.chip.leg e.val).cpu = p ∧ (s.chip.leg e.val).fetch = wordB 2 area.val
       addr.val) ∧
    (let s : State := wit fun c => c.leReady 1 (wordB 3 2 32767) ({ pc := 3, rlo := true, m := [(32767, true)] })
     let e : Fin 2 := 1
     let p : LeCpu := { pc := 3, rlo := true, m := [(32767, true)] }
     let area : Fin 8 := 2
     let addr : Fin 32768 := 32767
     s.chip.zoneUp = true ∧ s.chip.leExecutes e.val = true ∧ (s.chip.leg e.val).cpu = p ∧ (s.chip.leg e.val).fetch = wordB 3 area.val
       addr.val) ∧
    (let s : State := wit fun c => c.leReady 1 (wordB 4 2 32767) ({ pc := 3, rlo := true, m := [(32767, true)] })
     let e : Fin 2 := 1
     let p : LeCpu := { pc := 3, rlo := true, m := [(32767, true)] }
     let area : Fin 8 := 2
     let addr : Fin 32768 := 32767
     s.chip.zoneUp = true ∧ s.chip.leExecutes e.val = true ∧ (s.chip.leg e.val).cpu = p ∧ (s.chip.leg e.val).fetch = wordB 4 area.val
       addr.val) ∧
    (let s : State := wit fun c => c.leReady 1 (wordB 5 2 32767) ({ pc := 3, rlo := true, m := [(32767, true)] })
     let e : Fin 2 := 1
     let p : LeCpu := { pc := 3, rlo := true, m := [(32767, true)] }
     let area : Fin 8 := 2
     let addr : Fin 32768 := 32767
     s.chip.zoneUp = true ∧ s.chip.leExecutes e.val = true ∧ (s.chip.leg e.val).cpu = p ∧ (s.chip.leg e.val).fetch = wordB 5 area.val
       addr.val) ∧
    (let s : State := wit fun c => c.leReady 1 (wordB 6 2 32767) ({ pc := 3, rlo := true, m := [(32767, true)] })
     let e : Fin 2 := 1
     let p : LeCpu := { pc := 3, rlo := true, m := [(32767, true)] }
     let area : Fin 8 := 2
     let addr : Fin 32768 := 32767
     s.chip.zoneUp = true ∧ s.chip.leExecutes e.val = true ∧ (s.chip.leg e.val).cpu = p ∧ (s.chip.leg e.val).fetch = wordB 6 area.val
       addr.val) ∧
    (let s : State := wit fun c => c.leReady 1 (wordB 7 2 32767) ({ pc := 3, rlo := true, m := [(32767, true)] })
     let e : Fin 2 := 1
     let p : LeCpu := { pc := 3, rlo := true, m := [(32767, true)] }
     let area : Fin 8 := 2
     let addr : Fin 32768 := 32767
     s.chip.zoneUp = true ∧ s.chip.leExecutes e.val = true ∧ (s.chip.leg e.val).cpu = p ∧ (s.chip.leg e.val).fetch = wordB 7 area.val
       addr.val) ∧
    (let s : State := wit fun c => c.leReady 1 (wordB 8 2 32767) ({ pc := 3, rlo := true, m := [(32767, true)] })
     let e : Fin 2 := 1
     let p : LeCpu := { pc := 3, rlo := true, m := [(32767, true)] }
     let area : Fin 8 := 2
     let addr : Fin 32768 := 32767
     s.chip.zoneUp = true ∧ s.chip.leExecutes e.val = true ∧ (s.chip.leg e.val).cpu = p ∧ (s.chip.leg e.val).fetch = wordB 8 area.val
       addr.val) ∧
    (let s : State := wit fun c => c.leReady 1 (wordB 9 1 8191) ({ pc := 3, rlo := true })
     let e : Fin 2 := 1
     let p : LeCpu := { pc := 3, rlo := true }
     let area : Fin 8 := 1
     let addr : Fin 32768 := 8191
     s.chip.zoneUp = true ∧ s.chip.leExecutes e.val = true ∧ (s.chip.leg e.val).cpu = p ∧ (s.chip.leg e.val).fetch = wordB 9 area.val
       addr.val) ∧
    (let s : State := wit fun c => c.leReady 1 (wordB 10 1 8191) ({ pc := 3, rlo := true })
     let e : Fin 2 := 1
     let p : LeCpu := { pc := 3, rlo := true }
     let area : Fin 8 := 1
     let addr : Fin 32768 := 8191
     s.chip.zoneUp = true ∧ s.chip.leExecutes e.val = true ∧ (s.chip.leg e.val).cpu = p ∧ (s.chip.leg e.val).fetch = wordB 10 area.val
       addr.val) ∧
    (let s : State := wit fun c => c.leReady 1 (wordB 11 1 5) ({ pc := 3, rlo := true, q := [(5, true)] })
     let e : Fin 2 := 1
     let p : LeCpu := { pc := 3, rlo := true, q := [(5, true)] }
     let area : Fin 8 := 1
     let addr : Fin 32768 := 5
     s.chip.zoneUp = true ∧ s.chip.leExecutes e.val = true ∧ (s.chip.leg e.val).cpu = p ∧ (s.chip.leg e.val).fetch = wordB 11 area.val
       addr.val) ∧
    (let s : State := wit fun c => c.leReady 1 (wordB 12 1 5) ({ pc := 3, rlo := true, q := [(5, true)] })
     let e : Fin 2 := 1
     let p : LeCpu := { pc := 3, rlo := true, q := [(5, true)] }
     let area : Fin 8 := 1
     let addr : Fin 32768 := 5
     s.chip.zoneUp = true ∧ s.chip.leExecutes e.val = true ∧ (s.chip.leg e.val).cpu = p ∧ (s.chip.leg e.val).fetch = wordB 12 area.val
       addr.val) ∧
    (let s : State := wit fun c => c.leReady 1 (wordN 13) ({ pc := 2 })
     let e : Fin 2 := 1
     let p : LeCpu := { pc := 2 }
     s.chip.zoneUp = true ∧ s.chip.leExecutes e.val = true ∧ (s.chip.leg e.val).cpu = p ∧ (s.chip.leg e.val).fetch = wordN 13) ∧
    (let s : State := wit fun c => c.leReady 1 (wordN 14) ({ pc := 2 })
     let e : Fin 2 := 1
     let p : LeCpu := { pc := 2 }
     s.chip.zoneUp = true ∧ s.chip.leExecutes e.val = true ∧ (s.chip.leg e.val).cpu = p ∧ (s.chip.leg e.val).fetch = wordN 14) ∧
    (let s : State := wit fun c => c.leReady 1 (wordN 15) ({ pc := 2 })
     let e : Fin 2 := 1
     let p : LeCpu := { pc := 2 }
     s.chip.zoneUp = true ∧ s.chip.leExecutes e.val = true ∧ (s.chip.leg e.val).cpu = p ∧ (s.chip.leg e.val).fetch = wordN 15) := by
  refine ⟨?_, ?_, ?_, ?_, ?_, ?_, ?_, ?_, ?_, ?_, ?_, ?_, ?_, ?_, ?_, ?_⟩
  all_goals decide +kernel

theorem wit_logic_stack_edge_and_jump_instructions :
    (let s : State := wit fun c => c.leReady 1 (wordN 0x10) ({ rlo := true, bstack := [false, true] })
     let e : Fin 2 := 1
     let p : LeCpu := { rlo := true, bstack := [false, true] }
     s.chip.zoneUp = true ∧ s.chip.leExecutes e.val = true ∧ (s.chip.leg e.val).cpu = p ∧ (s.chip.leg e.val).fetch = wordN 0x10 ∧
       p.bstack.length < 16) ∧
    (let s : State := wit fun c => c.leReady 1 (wordN 0x11) ({ rlo := true, bstack := [true, false] })
     let e : Fin 2 := 1
     let p : LeCpu := { rlo := true, bstack := [true, false] }
     let b : Bool := true
     let r : List Bool := [false]
     s.chip.zoneUp = true ∧ s.chip.leExecutes e.val = true ∧ (s.chip.leg e.val).cpu = p ∧ (s.chip.leg e.val).fetch = wordN 0x11 ∧
       p.bstack = b :: r) ∧
    (let s : State := wit fun c => c.leReady 1 (wordN 0x12) ({ rlo := true, bstack := [true, false] })
     let e : Fin 2 := 1
     let p : LeCpu := { rlo := true, bstack := [true, false] }
     let b : Bool := true
     let r : List Bool := [false]
     s.chip.zoneUp = true ∧ s.chip.leExecutes e.val = true ∧ (s.chip.leg e.val).cpu = p ∧ (s.chip.leg e.val).fetch = wordN 0x12 ∧
       p.bstack = b :: r) ∧
    (let s : State := wit fun c => c.leReady 1 (wordN 0x13) ({ rlo := true, bstack := [true, false] })
     let e : Fin 2 := 1
     let p : LeCpu := { rlo := true, bstack := [true, false] }
     let b : Bool := true
     let r : List Bool := [false]
     s.chip.zoneUp = true ∧ s.chip.leExecutes e.val = true ∧ (s.chip.leg e.val).cpu = p ∧ (s.chip.leg e.val).fetch = wordN 0x13 ∧
       p.bstack = b :: r) ∧
    (let s : State := wit fun c => c.leReady 1 (wordI 0x14 2047) ({ rlo := true, edges := [(2047, { prev := false, fresh := false })] })
     let e : Fin 2 := 1
     let p : LeCpu := { rlo := true, edges := [(2047, { prev := false, fresh := false })] }
     let ix : Fin 4096 := 2047
     s.chip.zoneUp = true ∧ s.chip.leExecutes e.val = true ∧ (s.chip.leg e.val).cpu = p ∧ (s.chip.leg e.val).fetch = wordI 0x14 ix.val) ∧
    (let s : State := wit fun c => c.leReady 1 (wordI 0x15 2047) ({ rlo := true, edges := [(2047, { prev := false, fresh := false })] })
     let e : Fin 2 := 1
     let p : LeCpu := { rlo := true, edges := [(2047, { prev := false, fresh := false })] }
     let ix : Fin 4096 := 2047
     s.chip.zoneUp = true ∧ s.chip.leExecutes e.val = true ∧ (s.chip.leg e.val).cpu = p ∧ (s.chip.leg e.val).fetch = wordI 0x15 ix.val) ∧
    (let s : State := wit fun c => c.leReady 1 (wordJ 0x38 65535) ({})
     let e : Fin 2 := 1
     let p : LeCpu := {}
     let target : Fin 65536 := 65535
     s.chip.zoneUp = true ∧ s.chip.leExecutes e.val = true ∧ (s.chip.leg e.val).cpu = p ∧ (s.chip.leg e.val).fetch = wordJ 0x38
       target.val) ∧
    (let s : State := wit fun c => c.leReady 1 (wordJ 0x39 65535) ({})
     let e : Fin 2 := 1
     let p : LeCpu := {}
     let target : Fin 65536 := 65535
     s.chip.zoneUp = true ∧ s.chip.leExecutes e.val = true ∧ (s.chip.leg e.val).cpu = p ∧ (s.chip.leg e.val).fetch = wordJ 0x39
       target.val) ∧
    (let s : State := wit fun c => c.leReady 1 (wordJ 0x3A 65535) ({})
     let e : Fin 2 := 1
     let p : LeCpu := {}
     let target : Fin 65536 := 65535
     s.chip.zoneUp = true ∧ s.chip.leExecutes e.val = true ∧ (s.chip.leg e.val).cpu = p ∧ (s.chip.leg e.val).fetch = wordJ 0x3A
       target.val) ∧
    (let s : State := wit fun c => c.leReady 1 (wordJ 0x3B 9) ({ pc := 1, cstack := [1, 2, 3, 4, 5, 6, 7] })
     let e : Fin 2 := 1
     let p : LeCpu := { pc := 1, cstack := [1, 2, 3, 4, 5, 6, 7] }
     let target : Fin 65536 := 9
     s.chip.zoneUp = true ∧ s.chip.leExecutes e.val = true ∧ (s.chip.leg e.val).cpu = p ∧ (s.chip.leg e.val).fetch = wordJ 0x3B
       target.val ∧ p.cstack.length < 8) ∧
    (let s : State := wit fun c => c.leReady 1 (wordN 0x3C) ({ pc := 1, cstack := [4, 5] })
     let e : Fin 2 := 1
     let p : LeCpu := { pc := 1, cstack := [4, 5] }
     let r : Nat := 4
     let q : List Nat := [5]
     s.chip.zoneUp = true ∧ s.chip.leExecutes e.val = true ∧ (s.chip.leg e.val).cpu = p ∧ (s.chip.leg e.val).fetch = wordN 0x3C ∧
       p.cstack = r :: q) ∧
    (let s : State := wit fun c => c.leReady 1 (wordN 0x3D) ({ pc := 1, q := [(7, true)], executed := 99 })
     let e : Fin 2 := 1
     let p : LeCpu := { pc := 1, q := [(7, true)], executed := 99 }
     s.chip.zoneUp = true ∧ s.chip.leExecutes e.val = true ∧ (s.chip.leg e.val).cpu = p ∧ (s.chip.leg e.val).fetch = wordN 0x3D ∧
       p.bstack = [] ∧ p.cstack = []) := by
  refine ⟨?_, ?_, ?_, ?_, ?_, ?_, ?_, ?_, ?_, ?_, ?_, ?_⟩
  all_goals decide +kernel

theorem wit_logic_instruction_faults :
    (let s : State := wit fun c => c.leReady 1 (wordN 0x10) ({ bstack := List.replicate 16 true })
     let e : Fin 2 := 1
     let p : LeCpu := { bstack := List.replicate 16 true }
     s.chip.zoneUp = true ∧ s.chip.leExecutes e.val = true ∧ (s.chip.leg e.val).cpu = p ∧ (s.chip.leg e.val).fetch = wordN 0x10 ∧ 16 ≤
       p.bstack.length) ∧
    (let s : State := wit fun c => c.leReady 1 (wordN 0x11) ({ pc := 1 })
     let e : Fin 2 := 1
     let p : LeCpu := { pc := 1 }
     s.chip.zoneUp = true ∧ s.chip.leExecutes e.val = true ∧ (s.chip.leg e.val).cpu = p ∧ (s.chip.leg e.val).fetch = wordN 0x11 ∧
       p.bstack = []) ∧
    (let s : State := wit fun c => c.leReady 1 (wordN 0x12) ({ pc := 1 })
     let e : Fin 2 := 1
     let p : LeCpu := { pc := 1 }
     s.chip.zoneUp = true ∧ s.chip.leExecutes e.val = true ∧ (s.chip.leg e.val).cpu = p ∧ (s.chip.leg e.val).fetch = wordN 0x12 ∧
       p.bstack = []) ∧
    (let s : State := wit fun c => c.leReady 1 (wordN 0x13) ({ pc := 1 })
     let e : Fin 2 := 1
     let p : LeCpu := { pc := 1 }
     s.chip.zoneUp = true ∧ s.chip.leExecutes e.val = true ∧ (s.chip.leg e.val).cpu = p ∧ (s.chip.leg e.val).fetch = wordN 0x13 ∧
       p.bstack = []) ∧
    (let s : State := wit fun c => c.leReady 1 (wordJ 0x3B 9) ({ pc := 1, cstack := [1, 2, 3, 4, 5, 6, 7, 8] })
     let e : Fin 2 := 1
     let p : LeCpu := { pc := 1, cstack := [1, 2, 3, 4, 5, 6, 7, 8] }
     let target : Fin 65536 := 9
     s.chip.zoneUp = true ∧ s.chip.leExecutes e.val = true ∧ (s.chip.leg e.val).cpu = p ∧ (s.chip.leg e.val).fetch = wordJ 0x3B
       target.val ∧ 8 ≤ p.cstack.length) ∧
    (let s : State := wit fun c => c.leReady 1 (wordN 0x3C) ({ pc := 1 })
     let e : Fin 2 := 1
     let p : LeCpu := { pc := 1 }
     s.chip.zoneUp = true ∧ s.chip.leExecutes e.val = true ∧ (s.chip.leg e.val).cpu = p ∧ (s.chip.leg e.val).fetch = wordN 0x3C ∧
       p.cstack = []) ∧
    (let s : State := wit fun c => c.leReady 1 (wordN 0x3D) ({ pc := 1, bstack := [true] })
     let e : Fin 2 := 1
     let p : LeCpu := { pc := 1, bstack := [true] }
     s.chip.zoneUp = true ∧ s.chip.leExecutes e.val = true ∧ (s.chip.leg e.val).cpu = p ∧ (s.chip.leg e.val).fetch = wordN 0x3D ∧
       (p.bstack ≠ [] ∨ p.cstack ≠ [])) := by
  refine ⟨?_, ?_, ?_, ?_, ?_, ?_, ?_⟩
  all_goals decide +kernel

theorem wit_logic_timer_and_counter_instructions :
    (let s : State := wit fun c => c.leReady 1 (wordI 0x16 1023) ({ timers := [(1023, { running := true, q := true })] })
     let e : Fin 2 := 1
     let p : LeCpu := { timers := [(1023, { running := true, q := true })] }
     let ix : Fin 4096 := 1023
     s.chip.zoneUp = true ∧ s.chip.leExecutes e.val = true ∧ (s.chip.leg e.val).cpu = p ∧ (s.chip.leg e.val).fetch = wordI 0x16 ix.val ∧
       p.rlo = false) ∧
    (let s : State := wit fun c => c.leReady 1 (wordI 0x16 1023)
       ({ rlo := true, timers := [(1023, { preset := 50 })], sysWords := [(2, 900)] })
     let e : Fin 2 := 1
     let p : LeCpu := { rlo := true, timers := [(1023, { preset := 50 })], sysWords := [(2, 900)] }
     let ix : Fin 4096 := 1023
     s.chip.zoneUp = true ∧ s.chip.leExecutes e.val = true ∧ (s.chip.leg e.val).cpu = p ∧ (s.chip.leg e.val).fetch = wordI 0x16 ix.val ∧
       p.rlo = true ∧ (look {} p.timers ix.val).running = false) ∧
    (let s : State := wit fun c => c.leReady 1 (wordI 0x16 1023)
       ({ rlo := true, timers := [(1023, { preset := 50, stamp := 850, running := true })], sysWords := [(2, 900)] })
     let e : Fin 2 := 1
     let p : LeCpu := { rlo := true, timers := [(1023, { preset := 50, stamp := 850, running := true })], sysWords := [(2, 900)] }
     let ix : Fin 4096 := 1023
     s.chip.zoneUp = true ∧ s.chip.leExecutes e.val = true ∧ (s.chip.leg e.val).cpu = p ∧ (s.chip.leg e.val).fetch = wordI 0x16 ix.val ∧
       p.rlo = true ∧ (look {} p.timers ix.val).running = true) ∧
    (let s : State := wit fun c => c.leReady 1 (wordI 0x17 1023) ({ rlo := true, timers := [(1023, { running := true, q := true })] })
     let e : Fin 2 := 1
     let p : LeCpu := { rlo := true, timers := [(1023, { running := true, q := true })] }
     let ix : Fin 4096 := 1023
     s.chip.zoneUp = true ∧ s.chip.leExecutes e.val = true ∧ (s.chip.leg e.val).cpu = p ∧ (s.chip.leg e.val).fetch = wordI 0x17 ix.val ∧
       p.rlo = true) ∧
    (let s : State := wit fun c => c.leReady 1 (wordI 0x17 1023)
       ({ timers := [(1023, { preset := 50, stamp := 850, running := true, q := true })], sysWords := [(2, 899)] })
     let e : Fin 2 := 1
     let p : LeCpu := { timers := [(1023, { preset := 50, stamp := 850, running := true, q := true })], sysWords := [(2, 899)] }
     let ix : Fin 4096 := 1023
     s.chip.zoneUp = true ∧ s.chip.leExecutes e.val = true ∧ (s.chip.leg e.val).cpu = p ∧ (s.chip.leg e.val).fetch = wordI 0x17 ix.val ∧
       p.rlo = false ∧ (look {} p.timers ix.val).running = true) ∧
    (let s : State := wit fun c => c.leReady 1 (wordI 0x18 1023)
       ({ rlo := true, timers := [(1023, { preset := 50 })], sysWords := [(2, 900)] })
     let e : Fin 2 := 1
     let p : LeCpu := { rlo := true, timers := [(1023, { preset := 50 })], sysWords := [(2, 900)] }
     let ix : Fin 4096 := 1023
     s.chip.zoneUp = true ∧ s.chip.leExecutes e.val = true ∧ (s.chip.leg e.val).cpu = p ∧ (s.chip.leg e.val).fetch = wordI 0x18 ix.val ∧
       p.rlo = true ∧ (look {} p.timers ix.val).input = false ∧ (look {} p.timers ix.val).running = false ∧ 0 < (look {} p.timers
       ix.val).preset) ∧
    (let s : State := wit fun c => c.leReady 1 (wordI 0x18 1023)
       ({ rlo := true, timers := [(1023, { preset := 50, stamp := 850, running := true })], sysWords := [(2, 900)] })
     let e : Fin 2 := 1
     let p : LeCpu := { rlo := true, timers := [(1023, { preset := 50, stamp := 850, running := true })], sysWords := [(2, 900)] }
     let ix : Fin 4096 := 1023
     s.chip.zoneUp = true ∧ s.chip.leExecutes e.val = true ∧ (s.chip.leg e.val).cpu = p ∧ (s.chip.leg e.val).fetch = wordI 0x18 ix.val ∧
       (look {} p.timers ix.val).running = true ∧ (look {} p.timers ix.val).preset ≤ p.elapsed (look {} p.timers ix.val)) ∧
    (let s : State := wit fun c => c.leReady 1 (wordI 0x19 1023) ({ wa := 77 })
     let e : Fin 2 := 1
     let p : LeCpu := { wa := 77 }
     let ix : Fin 4096 := 1023
     s.chip.zoneUp = true ∧ s.chip.leExecutes e.val = true ∧ (s.chip.leg e.val).cpu = p ∧ (s.chip.leg e.val).fetch = wordI 0x19 ix.val) ∧
    (let s : State := wit fun c => c.leReady 1 (wordI 0x1A 1023)
       ({ timers := [(1023, { preset := 50, stamp := 850, running := true })], sysWords := [(2, 870)] })
     let e : Fin 2 := 1
     let p : LeCpu := { timers := [(1023, { preset := 50, stamp := 850, running := true })], sysWords := [(2, 870)] }
     let ix : Fin 4096 := 1023
     s.chip.zoneUp = true ∧ s.chip.leExecutes e.val = true ∧ (s.chip.leg e.val).cpu = p ∧ (s.chip.leg e.val).fetch = wordI 0x1A ix.val ∧
       (look {} p.timers ix.val).running = true) ∧
    (let s : State := wit fun c => c.leReady 1 (wordI 0x1B 511)
       ({ rlo := true, counters := [(511, { count := 2147483647, preset := 5 })] })
     let e : Fin 2 := 1
     let p : LeCpu := { rlo := true, counters := [(511, { count := 2147483647, preset := 5 })] }
     let ix : Fin 4096 := 511
     s.chip.zoneUp = true ∧ s.chip.leExecutes e.val = true ∧ (s.chip.leg e.val).cpu = p ∧ (s.chip.leg e.val).fetch = wordI 0x1B ix.val) ∧
    (let s : State := wit fun c => c.leReady 1 (wordI 0x1C 511) ({ rlo := true, counters := [(511, { count := 1, preset := 5 })] })
     let e : Fin 2 := 1
     let p : LeCpu := { rlo := true, counters := [(511, { count := 1, preset := 5 })] }
     let ix : Fin 4096 := 511
     s.chip.zoneUp = true ∧ s.chip.leExecutes e.val = true ∧ (s.chip.leg e.val).cpu = p ∧ (s.chip.leg e.val).fetch = wordI 0x1C ix.val) ∧
    (let s : State := wit fun c => c.leReady 1 (wordI 0x1D 511) ({ rlo := true, counters := [(511, { count := 1, preset := 5 })] })
     let e : Fin 2 := 1
     let p : LeCpu := { rlo := true, counters := [(511, { count := 1, preset := 5 })] }
     let ix : Fin 4096 := 511
     s.chip.zoneUp = true ∧ s.chip.leExecutes e.val = true ∧ (s.chip.leg e.val).cpu = p ∧ (s.chip.leg e.val).fetch = wordI 0x1D ix.val) ∧
    (let s : State := wit fun c => c.leReady 1 (wordI 0x1E 511) ({ rlo := true, counters := [(511, { count := 1, preset := 5 })] })
     let e : Fin 2 := 1
     let p : LeCpu := { rlo := true, counters := [(511, { count := 1, preset := 5 })] }
     let ix : Fin 4096 := 511
     s.chip.zoneUp = true ∧ s.chip.leExecutes e.val = true ∧ (s.chip.leg e.val).cpu = p ∧ (s.chip.leg e.val).fetch = wordI 0x1E ix.val) ∧
    (let s : State := wit fun c => c.leReady 1 (wordI 0x1F 511) ({ counters := [(511, { count := -1 })] })
     let e : Fin 2 := 1
     let p : LeCpu := { counters := [(511, { count := -1 })] }
     let ix : Fin 4096 := 511
     s.chip.zoneUp = true ∧ s.chip.leExecutes e.val = true ∧ (s.chip.leg e.val).cpu = p ∧ (s.chip.leg e.val).fetch = wordI 0x1F ix.val) ∧
    (let s : State := wit fun c => c.leReady 1 (wordI 0x20 511) ({ wa := 0xFFFFFFFF, counters := [(511, { count := 1, preset := 5 })] })
     let e : Fin 2 := 1
     let p : LeCpu := { wa := 0xFFFFFFFF, counters := [(511, { count := 1, preset := 5 })] }
     let ix : Fin 4096 := 511
     s.chip.zoneUp = true ∧ s.chip.leExecutes e.val = true ∧ (s.chip.leg e.val).cpu = p ∧ (s.chip.leg e.val).fetch = wordI 0x20 ix.val) := by
  refine ⟨?_, ?_, ?_, ?_, ?_, ?_, ?_, ?_, ?_, ?_, ?_, ?_, ?_, ?_, ?_⟩
  all_goals decide +kernel

theorem wit_logic_word_instructions :
    (let s : State := wit fun c => c.leReady 1 (wordW 0x21 1 1 false false 4095)
       ({ pc := 1, wa := 0x8000, x := 5, rlo := true, w := [(4095, 7)] })
     let e : Fin 2 := 1
     let p : LeCpu := { pc := 1, wa := 0x8000, x := 5, rlo := true, w := [(4095, 7)] }
     let l : Fin 8 := 1
     let src : Fin 4 := 1
     let u : Bool := false
     let any : Bool := false
     let addr : Fin 4096 := 4095
     s.chip.zoneUp = true ∧ s.chip.leExecutes e.val = true ∧ (s.chip.leg e.val).cpu = p ∧ (s.chip.leg e.val).fetch = wordW 0x21 l.val
       src.val u any addr.val) ∧
    (let s : State := wit fun c => c.leReady 1 (wordW 0x22 1 1 false false 4095)
       ({ pc := 1, wa := 0x8000, x := 5, rlo := true, w := [(4095, 7)] })
     let e : Fin 2 := 1
     let p : LeCpu := { pc := 1, wa := 0x8000, x := 5, rlo := true, w := [(4095, 7)] }
     let l : Fin 8 := 1
     let src : Fin 4 := 1
     let u : Bool := false
     let any : Bool := false
     let addr : Fin 4096 := 4095
     s.chip.zoneUp = true ∧ s.chip.leExecutes e.val = true ∧ (s.chip.leg e.val).cpu = p ∧ (s.chip.leg e.val).fetch = wordW 0x22 l.val
       src.val u any addr.val) ∧
    (let s : State := wit fun c => c.leReady 1 (wordW 0x23 1 1 false false 4095)
       ({ pc := 1, wa := 0x8000, x := 5, rlo := true, w := [(4095, 7)] })
     let e : Fin 2 := 1
     let p : LeCpu := { pc := 1, wa := 0x8000, x := 5, rlo := true, w := [(4095, 7)] }
     let l : Fin 8 := 1
     let src : Fin 4 := 1
     let u : Bool := false
     let any : Bool := false
     let addr : Fin 4096 := 4095
     s.chip.zoneUp = true ∧ s.chip.leExecutes e.val = true ∧ (s.chip.leg e.val).cpu = p ∧ (s.chip.leg e.val).fetch = wordW 0x23 l.val
       src.val u any addr.val) ∧
    (let s : State := wit fun c => c.leReady 1 (wordW 0x24 1 1 false false 4095)
       ({ pc := 1, wa := 0x8000, x := 5, rlo := true, w := [(4095, 7)] })
     let e : Fin 2 := 1
     let p : LeCpu := { pc := 1, wa := 0x8000, x := 5, rlo := true, w := [(4095, 7)] }
     let l : Fin 8 := 1
     let src : Fin 4 := 1
     let u : Bool := false
     let any : Bool := false
     let addr : Fin 4096 := 4095
     s.chip.zoneUp = true ∧ s.chip.leExecutes e.val = true ∧ (s.chip.leg e.val).cpu = p ∧ (s.chip.leg e.val).fetch = wordW 0x24 l.val
       src.val u any addr.val) ∧
    (let s : State := wit fun c => c.leReady 1 (wordW 0x25 1 1 false false 4095)
       ({ pc := 1, wa := 0x8000, x := 5, rlo := true, w := [(4095, 7)] })
     let e : Fin 2 := 1
     let p : LeCpu := { pc := 1, wa := 0x8000, x := 5, rlo := true, w := [(4095, 7)] }
     let l : Fin 8 := 1
     let src : Fin 4 := 1
     let u : Bool := false
     let any : Bool := false
     let addr : Fin 4096 := 4095
     s.chip.zoneUp = true ∧ s.chip.leExecutes e.val = true ∧ (s.chip.leg e.val).cpu = p ∧ (s.chip.leg e.val).fetch = wordW 0x25 l.val
       src.val u any addr.val) ∧
    (let s : State := wit fun c => c.leReady 1 (wordW 0x26 1 1 false false 4095)
       ({ pc := 1, wa := 0x8000, x := 5, rlo := true, w := [(4095, 7)] })
     let e : Fin 2 := 1
     let p : LeCpu := { pc := 1, wa := 0x8000, x := 5, rlo := true, w := [(4095, 7)] }
     let l : Fin 8 := 1
     let src : Fin 4 := 1
     let u : Bool := false
     let any : Bool := false
     let addr : Fin 4096 := 4095
     s.chip.zoneUp = true ∧ s.chip.leExecutes e.val = true ∧ (s.chip.leg e.val).cpu = p ∧ (s.chip.leg e.val).fetch = wordW 0x26 l.val
       src.val u any addr.val) ∧
    (let s : State := wit fun c => c.leReady 1 (wordW 0x27 1 1 false false 4095)
       ({ pc := 1, wa := 0x8000, x := 5, rlo := true, w := [(4095, 7)] })
     let e : Fin 2 := 1
     let p : LeCpu := { pc := 1, wa := 0x8000, x := 5, rlo := true, w := [(4095, 7)] }
     let l : Fin 8 := 1
     let src : Fin 4 := 1
     let u : Bool := false
     let any : Bool := false
     let addr : Fin 4096 := 4095
     s.chip.zoneUp = true ∧ s.chip.leExecutes e.val = true ∧ (s.chip.leg e.val).cpu = p ∧ (s.chip.leg e.val).fetch = wordW 0x27 l.val
       src.val u any addr.val) ∧
    (let s : State := wit fun c => c.leReady 1 (wordW 0x2B 1 1 false false 4095)
       ({ pc := 1, wa := 0x8000, x := 5, rlo := true, w := [(4095, 7)] })
     let e : Fin 2 := 1
     let p : LeCpu := { pc := 1, wa := 0x8000, x := 5, rlo := true, w := [(4095, 7)] }
     let l : Fin 8 := 1
     let src : Fin 4 := 1
     let u : Bool := false
     let any : Bool := false
     let addr : Fin 4096 := 4095
     s.chip.zoneUp = true ∧ s.chip.leExecutes e.val = true ∧ (s.chip.leg e.val).cpu = p ∧ (s.chip.leg e.val).fetch = wordW 0x2B l.val
       src.val u any addr.val) ∧
    (let s : State := wit fun c => c.leReady 1 (wordW 0x2C 1 1 false false 4095)
       ({ pc := 1, wa := 0x8000, x := 5, rlo := true, w := [(4095, 7)] })
     let e : Fin 2 := 1
     let p : LeCpu := { pc := 1, wa := 0x8000, x := 5, rlo := true, w := [(4095, 7)] }
     let l : Fin 8 := 1
     let src : Fin 4 := 1
     let u : Bool := false
     let any : Bool := false
     let addr : Fin 4096 := 4095
     s.chip.zoneUp = true ∧ s.chip.leExecutes e.val = true ∧ (s.chip.leg e.val).cpu = p ∧ (s.chip.leg e.val).fetch = wordW 0x2C l.val
       src.val u any addr.val) ∧
    (let s : State := wit fun c => c.leReady 1 (wordW 0x2D 1 1 false false 4095)
       ({ pc := 1, wa := 0x8000, x := 5, rlo := true, w := [(4095, 7)] })
     let e : Fin 2 := 1
     let p : LeCpu := { pc := 1, wa := 0x8000, x := 5, rlo := true, w := [(4095, 7)] }
     let l : Fin 8 := 1
     let src : Fin 4 := 1
     let u : Bool := false
     let any : Bool := false
     let addr : Fin 4096 := 4095
     s.chip.zoneUp = true ∧ s.chip.leExecutes e.val = true ∧ (s.chip.leg e.val).cpu = p ∧ (s.chip.leg e.val).fetch = wordW 0x2D l.val
       src.val u any addr.val) ∧
    (let s : State := wit fun c => c.leReady 1 (wordW 0x2E 1 1 false false 4095)
       ({ pc := 1, wa := 0x8000, x := 5, rlo := true, w := [(4095, 7)] })
     let e : Fin 2 := 1
     let p : LeCpu := { pc := 1, wa := 0x8000, x := 5, rlo := true, w := [(4095, 7)] }
     let l : Fin 8 := 1
     let src : Fin 4 := 1
     let u : Bool := false
     let any : Bool := false
     let addr : Fin 4096 := 4095
     s.chip.zoneUp = true ∧ s.chip.leExecutes e.val = true ∧ (s.chip.leg e.val).cpu = p ∧ (s.chip.leg e.val).fetch = wordW 0x2E l.val
       src.val u any addr.val) ∧
    (let s : State := wit fun c => c.leReady 1 (wordW 0x28 1 1 false false 4095)
       ({ pc := 1, wa := 0x8000, x := 5, rlo := true, w := [(4095, 7)] })
     let e : Fin 2 := 1
     let p : LeCpu := { pc := 1, wa := 0x8000, x := 5, rlo := true, w := [(4095, 7)] }
     let l : Fin 8 := 1
     let src : Fin 4 := 1
     let u : Bool := false
     let any : Bool := false
     let addr : Fin 4096 := 4095
     s.chip.zoneUp = true ∧ s.chip.leExecutes e.val = true ∧ (s.chip.leg e.val).cpu = p ∧ (s.chip.leg e.val).fetch = wordW 0x28 l.val
       src.val u any addr.val) ∧
    (let s : State := wit fun c => c.leReady 1 (wordW 0x29 1 1 false false 4095)
       ({ pc := 1, wa := 0x8000, x := 5, rlo := true, w := [(4095, 7)] })
     let e : Fin 2 := 1
     let p : LeCpu := { pc := 1, wa := 0x8000, x := 5, rlo := true, w := [(4095, 7)] }
     let l : Fin 8 := 1
     let src : Fin 4 := 1
     let u : Bool := false
     let any : Bool := false
     let addr : Fin 4096 := 4095
     s.chip.zoneUp = true ∧ s.chip.leExecutes e.val = true ∧ (s.chip.leg e.val).cpu = p ∧ (s.chip.leg e.val).fetch = wordW 0x29 l.val
       src.val u any addr.val) ∧
    (let s : State := wit fun c => c.leReady 1 (wordW 0x2A 1 1 false false 4095)
       ({ pc := 1, wa := 0x8000, x := 5, rlo := true, w := [(4095, 7)] })
     let e : Fin 2 := 1
     let p : LeCpu := { pc := 1, wa := 0x8000, x := 5, rlo := true, w := [(4095, 7)] }
     let l : Fin 8 := 1
     let src : Fin 4 := 1
     let u : Bool := false
     let any : Bool := false
     let addr : Fin 4096 := 4095
     s.chip.zoneUp = true ∧ s.chip.leExecutes e.val = true ∧ (s.chip.leg e.val).cpu = p ∧ (s.chip.leg e.val).fetch = wordW 0x2A l.val
       src.val u any addr.val) := by
  refine ⟨?_, ?_, ?_, ?_, ?_, ?_, ?_, ?_, ?_, ?_, ?_, ?_, ?_, ?_⟩
  all_goals decide +kernel

theorem wit_logic_compare_and_select_instructions :
    (let s : State := wit fun c => c.leReady 1 (wordW 0x2F 1 1 false false 4095)
       ({ pc := 1, wa := 0x8000, x := 5, rlo := true, w := [(4095, 7)] })
     let e : Fin 2 := 1
     let p : LeCpu := { pc := 1, wa := 0x8000, x := 5, rlo := true, w := [(4095, 7)] }
     let l : Fin 8 := 1
     let src : Fin 4 := 1
     let u : Bool := false
     let any : Bool := false
     let addr : Fin 4096 := 4095
     s.chip.zoneUp = true ∧ s.chip.leExecutes e.val = true ∧ (s.chip.leg e.val).cpu = p ∧ (s.chip.leg e.val).fetch = wordW 0x2F l.val
       src.val u any addr.val) ∧
    (let s : State := wit fun c => c.leReady 1 (wordW 0x30 1 1 false false 4095)
       ({ pc := 1, wa := 0x8000, x := 5, rlo := true, w := [(4095, 7)] })
     let e : Fin 2 := 1
     let p : LeCpu := { pc := 1, wa := 0x8000, x := 5, rlo := true, w := [(4095, 7)] }
     let l : Fin 8 := 1
     let src : Fin 4 := 1
     let u : Bool := false
     let any : Bool := false
     let addr : Fin 4096 := 4095
     s.chip.zoneUp = true ∧ s.chip.leExecutes e.val = true ∧ (s.chip.leg e.val).cpu = p ∧ (s.chip.leg e.val).fetch = wordW 0x30 l.val
       src.val u any addr.val) ∧
    (let s : State := wit fun c => c.leReady 1 (wordW 0x31 1 1 false false 4095)
       ({ pc := 1, wa := 0x8000, x := 5, rlo := true, w := [(4095, 7)] })
     let e : Fin 2 := 1
     let p : LeCpu := { pc := 1, wa := 0x8000, x := 5, rlo := true, w := [(4095, 7)] }
     let l : Fin 8 := 1
     let src : Fin 4 := 1
     let u : Bool := false
     let any : Bool := false
     let addr : Fin 4096 := 4095
     s.chip.zoneUp = true ∧ s.chip.leExecutes e.val = true ∧ (s.chip.leg e.val).cpu = p ∧ (s.chip.leg e.val).fetch = wordW 0x31 l.val
       src.val u any addr.val) ∧
    (let s : State := wit fun c => c.leReady 1 (wordW 0x32 1 1 false false 4095)
       ({ pc := 1, wa := 0x8000, x := 5, rlo := true, w := [(4095, 7)] })
     let e : Fin 2 := 1
     let p : LeCpu := { pc := 1, wa := 0x8000, x := 5, rlo := true, w := [(4095, 7)] }
     let l : Fin 8 := 1
     let src : Fin 4 := 1
     let u : Bool := false
     let any : Bool := false
     let addr : Fin 4096 := 4095
     s.chip.zoneUp = true ∧ s.chip.leExecutes e.val = true ∧ (s.chip.leg e.val).cpu = p ∧ (s.chip.leg e.val).fetch = wordW 0x32 l.val
       src.val u any addr.val) ∧
    (let s : State := wit fun c => c.leReady 1 (wordW 0x33 1 1 false false 4095)
       ({ pc := 1, wa := 0x8000, x := 5, rlo := true, w := [(4095, 7)] })
     let e : Fin 2 := 1
     let p : LeCpu := { pc := 1, wa := 0x8000, x := 5, rlo := true, w := [(4095, 7)] }
     let l : Fin 8 := 1
     let src : Fin 4 := 1
     let u : Bool := false
     let any : Bool := false
     let addr : Fin 4096 := 4095
     s.chip.zoneUp = true ∧ s.chip.leExecutes e.val = true ∧ (s.chip.leg e.val).cpu = p ∧ (s.chip.leg e.val).fetch = wordW 0x33 l.val
       src.val u any addr.val) ∧
    (let s : State := wit fun c => c.leReady 1 (wordW 0x34 1 1 false false 4095)
       ({ pc := 1, wa := 0x8000, x := 5, rlo := true, w := [(4095, 7)] })
     let e : Fin 2 := 1
     let p : LeCpu := { pc := 1, wa := 0x8000, x := 5, rlo := true, w := [(4095, 7)] }
     let l : Fin 8 := 1
     let src : Fin 4 := 1
     let u : Bool := false
     let any : Bool := false
     let addr : Fin 4096 := 4095
     s.chip.zoneUp = true ∧ s.chip.leExecutes e.val = true ∧ (s.chip.leg e.val).cpu = p ∧ (s.chip.leg e.val).fetch = wordW 0x34 l.val
       src.val u any addr.val) ∧
    (let s : State := wit fun c => c.leReady 1 (wordW 0x35 1 1 false false 4095)
       ({ pc := 1, wa := 0x8000, x := 5, rlo := true, w := [(4095, 7)] })
     let e : Fin 2 := 1
     let p : LeCpu := { pc := 1, wa := 0x8000, x := 5, rlo := true, w := [(4095, 7)] }
     let l : Fin 8 := 1
     let src : Fin 4 := 1
     let u : Bool := false
     let any : Bool := false
     let addr : Fin 4096 := 4095
     s.chip.zoneUp = true ∧ s.chip.leExecutes e.val = true ∧ (s.chip.leg e.val).cpu = p ∧ (s.chip.leg e.val).fetch = wordW 0x35 l.val
       src.val u any addr.val) ∧
    (let s : State := wit fun c => c.leReady 1 (wordN 0x36) ({ wa := 0x1FFF })
     let e : Fin 2 := 1
     let p : LeCpu := { wa := 0x1FFF }
     s.chip.zoneUp = true ∧ s.chip.leExecutes e.val = true ∧ (s.chip.leg e.val).cpu = p ∧ (s.chip.leg e.val).fetch = wordN 0x36) ∧
    (let s : State := wit fun c => c.leReady 1 (wordI 0x37 15) ({ sysWords := [(15, 4)] })
     let e : Fin 2 := 1
     let p : LeCpu := { sysWords := [(15, 4)] }
     let addr : Fin 16 := 15
     s.chip.zoneUp = true ∧ s.chip.leExecutes e.val = true ∧ (s.chip.leg e.val).cpu = p ∧ (s.chip.leg e.val).fetch = wordI 0x37 addr.val) := by
  refine ⟨?_, ?_, ?_, ?_, ?_, ?_, ?_, ?_, ?_⟩
  all_goals decide +kernel

theorem wit_logic_engine_cycle :
    (let s : State := wit fun c => ((((c.addAction { fire := 9, cls := 4, target := 1, arg := 0 }).set (LE_STAT_MODE 1) 1).set
       (LE_CTL_MODE 1) 1).setB (LE_STAT_CYCRUN 1) false).setB (LE_XSTAT_ARMED 1) false
     let e : Fin 2 := 1
     let x : Action := { fire := 9, cls := 4, target := 1, arg := 0 }
     s.chip.zoneUp = true ∧ s.chip.dueArg 4 e.val 0 = some x ∧ s.chip.leMode e.val = 1 ∧ (s.chip.leg e.val).inReset = false ∧ s.chip.get
       (LE_CTL_MODE e.val) = 1 ∧ s.chip.flag (LE_STAT_CYCRUN e.val) = false ∧ s.chip.leTooSoon e.val x.fire = false ∧ s.chip.flag
       (LE_XSTAT_ARMED e.val) = false) ∧
    (let s : State := wit fun c => ((((c.addAction { fire := 9, cls := 4, target := 1, arg := 0 }).set (LE_STAT_MODE 1) 1).set
       (LE_CTL_MODE 1) 2).setB (LE_STAT_CYCRUN 1) true)
     let e : Fin 2 := 1
     let x : Action := { fire := 9, cls := 4, target := 1, arg := 0 }
     s.chip.zoneUp = true ∧ s.chip.dueArg 4 e.val 0 = some x ∧ s.chip.leMode e.val = 1 ∧ (s.chip.leg e.val).inReset = false ∧ s.chip.get
       (LE_CTL_MODE e.val) ≠ 0 ∧ (s.chip.flag (LE_STAT_CYCRUN e.val) = true ∨ s.chip.leTooSoon e.val x.fire = true)) ∧
    (let s : State := wit fun c => ((((c.addAction { fire := 9, cls := 4, target := 1, arg := 1 }).set (LE_STAT_MODE 1) 1).set
       (LE_CFG_OVRLIM 1) 0).updLe 1 fun g => { g with pendQ := [(8, true)], active := { link := [(0, 0x4300000000080004)] } })
     let e : Fin 2 := 1
     let x : Action := { fire := 9, cls := 4, target := 1, arg := 1 }
     s.chip.zoneUp = true ∧ s.chip.dueArg 4 e.val 1 = some x ∧ s.chip.leMode e.val = 1 ∧ (s.chip.leg e.val).inReset = false ∧ s.chip.get
       (LE_CFG_OVRLIM e.val) = 0) ∧
    (let s : State := wit fun c => c.updLe 1 fun g => { g with stopActAt := some 1000000, baseQ := [(1, true)] }
     let e : Fin 2 := 1
     let u : Nat := 1000000
     s.chip.zoneUp = true ∧ (s.chip.leg e.val).stopActAt = some u ∧ u ≤ s.chip.time.frc) ∧
    (let s : State := wit fun c => c.updLe 1 fun g => { g with forceAt := [2000000, 1000000], baseQ := [(1, true)] }
     let e : Fin 2 := 1
     s.chip.zoneUp = true ∧ (s.chip.leg e.val).forceAt.any s.chip.due = true) ∧
    (let s : State := wit id
     s.chip.zoneUp = true) ∧
    (let s : State := wit fun c => c.setB RST_REACH_MMLE0 false
     s.chip.zoneUp = true ∧ s.chip.flag RST_REACH_MMLE0 = false) ∧
    (let s : State := wit fun c => c.setB RST_REACH_MMLE0 true
     s.chip.zoneUp = true ∧ s.chip.flag RST_REACH_MMLE0 = true) := by
  refine ⟨?_, ?_, ?_, ?_, ?_, ?_, ?_, ?_⟩
  all_goals decide +kernel

theorem wit_logic_engine_control :
    (let s : State := wit fun c => c.wrN (LE_STAT 1) 0
     let a : Agent := hart 1
     let e : Fin 2 := 1
     s.chip.admits a = true ∧ s.chip.worldOfAgent a = s.chip.leWorld e.val ∧ s.chip.flag (LE_STAT_FLTSTOP e.val) = false ∧ s.chip.flag
       (LE_STAT_CMPBAD e.val) = false ∧ s.chip.leMode e.val = 0 ∧ (s.chip.leg e.val).newStaging = false) ∧
    (let s : State := wit fun c => c.wrN (LE_STAT 1) 2
     let a : Agent := hart 1
     let e : Fin 2 := 1
     s.chip.admits a = true ∧ s.chip.worldOfAgent a = s.chip.leWorld e.val ∧ s.chip.flag (LE_STAT_FLTSTOP e.val) = false ∧ s.chip.flag
       (LE_STAT_CMPBAD e.val) = false ∧ s.chip.leMode e.val = 2) ∧
    (let s : State := wit fun c => c.wrN (LE_STAT 1) 2
     let a : Agent := hart 1
     let e : Fin 2 := 1
     s.chip.admits a = true ∧ s.chip.worldOfAgent a = s.chip.leWorld e.val ∧ s.chip.leMode e.val = 2) ∧
    (let s : State := wit fun c => c.wrN (LE_STAT 1) 1
     let a : Agent := hart 1
     let e : Fin 2 := 1
     s.chip.admits a = true ∧ s.chip.worldOfAgent a = s.chip.leWorld e.val ∧ s.chip.leMode e.val = 1) ∧
    (let s : State := wit fun c => (c.wrN (LE_STAT 1) 1).setB (LE_PROT_DBGEN 1) true
     let a : Agent := hart 1
     let e : Fin 2 := 1
     s.chip.admits a = true ∧ s.chip.worldOfAgent a = s.chip.leWorld e.val ∧ s.chip.leMode e.val ≠ 2 ∧ s.chip.flag (LE_PROT_DBGEN e.val)
       = true ∧ s.chip.flag (LE_STAT_CMPBAD e.val) = false) ∧
    (let s : State := wit fun c => (c.wrN (LE_STAT 1) 1).setB (LE_PROT_DBGEN 1) false
     let a : Agent := hart 1
     let e : Fin 2 := 1
     s.chip.admits a = true ∧ s.chip.worldOfAgent a = s.chip.leWorld e.val ∧ s.chip.leMode e.val ≠ 2 ∧ s.chip.flag (LE_PROT_DBGEN e.val)
       = false) ∧
    (let s : State := wit fun c => ((c.leReady 1 (wordN 0x0E) { pc := 7 }).setB (LE_PROT_DBGEN 1) true).wrN (LE_STAT 1) 10
     let a : Agent := hart 1
     let e : Fin 2 := 1
     let v : W32 := 2
     let q : LeCpu := { pc := 8, rlo := true }
     s.chip.admits a = true ∧ s.chip.worldOfAgent a = s.chip.leWorld e.val ∧ s.chip.leMode e.val = 2 ∧ v.toNat % 4 = 2 ∧ v.toNat.testBit
       4 = false ∧ s.chip.flag (LE_PROT_DBGEN e.val) = true ∧ s.chip.flag (LE_STAT_CMPBAD e.val) = false ∧ s.chip.flag (LE_STAT_CYCRUN
       e.val) = true ∧ ((leOpcode (leFields (s.chip.leg e.val).fetch).op).map (fun f => f (s.chip.leg e.val).active.k (leFields
       (s.chip.leg e.val).fetch) (s.chip.leg e.val).cpu) = some (.ok q))) ∧
    (let s : State := wit fun c => (c.wrN (LE_STAT 1) 2).setB (LE_PROT_DBGEN 1) true
     let a : Agent := hart 1
     let e : Fin 2 := 1
     let v : W32 := 2
     s.chip.admits a = true ∧ s.chip.worldOfAgent a = s.chip.leWorld e.val ∧ s.chip.leMode e.val = 2 ∧ v.toNat % 4 = 2 ∧ v.toNat.testBit
       3 = false ∧ s.chip.flag (LE_PROT_DBGEN e.val) = true ∧ s.chip.flag (LE_STAT_CMPBAD e.val) = false) ∧
    (let s : State := wit fun c => c.wrN (LE_STAT 1) 0x800
     let a : Agent := hart 1
     let e : Fin 2 := 1
     let v : W32 := 0
     s.chip.admits a = true ∧ s.chip.worldOfAgent a = s.chip.leWorld e.val ∧ s.chip.leMode e.val = 0 ∧ v.toNat % 4 = 0) ∧
    (let s : State := wit fun c => c.wrN (LE_STAT 1) 1
     let a : Agent := hart 1
     let e : Fin 2 := 1
     let v : W32 := 1
     s.chip.admits a = true ∧ s.chip.worldOfAgent a = s.chip.leWorld e.val ∧ s.chip.leMode e.val ≠ 2 ∧ v.toNat % 4 ≠ 3) ∧
    (let s : State := wit id
     let a : Agent := hart 3
     let e : Fin 2 := 1
     s.chip.admits a = true ∧ s.chip.worldOfAgent a ≠ s.chip.leWorld e.val) := by
  refine ⟨?_, ?_, ?_, ?_, ?_, ?_, ?_, ?_, ?_, ?_, ?_⟩
  all_goals decide +kernel

theorem crcByte_lt {x b : Nat} (hx : x < 2 ^ 32) (hb : b < 2 ^ 32) : crcByte x b < 2 ^ 32 := by
  have h : ∀ (l : List Nat) (y : Nat), y < 2 ^ 32 →
      l.foldl (fun t i => (fun _ x => if x % 2 = 1 then (x / 2) ^^^ 0xEDB88320 else x / 2) i t) y < 2 ^ 32 := by
    intro l
    induction l with
    | nil => intro y hy; exact hy
    | cons a l ih =>
      intro y hy
      apply ih
      dsimp only
      split
      · exact Nat.xor_lt_two_pow (by omega) (by omega)
      · omega
  exact h _ _ (Nat.xor_lt_two_pow hx hb)

theorem crcUnit_lt (n : Nat) (v : W128) {x : Nat} (hx : x < 2 ^ 32) : crcUnit n v x < 2 ^ 32 := by
  unfold crcUnit forAll
  induction List.range n generalizing x with
  | nil => exact hx
  | cons a l ih => exact ih (crcByte_lt hx (by unfold lane; omega))

theorem crcUnits_lt (t : NMap W128) (n : Nat) {x : Nat} (hx : x < 2 ^ 32) : crcUnits t n x < 2 ^ 32 := by
  unfold crcUnits forAll
  induction List.range n generalizing x with
  | nil => exact hx
  | cons a l ih => exact ih (crcUnit_lt 16 _ hx)

theorem bankCrc_lt (b : LeBank) (last : Nat) : bankCrc b last < 2 ^ 32 := by
  unfold bankCrc
  exact Nat.xor_lt_two_pow (crcUnits_lt _ _ (crcUnits_lt _ _ (crcUnits_lt _ _ (crcUnit_lt _ _ (crcUnits_lt _ _ (by omega)))))) (by omega)

/-- Engine 1 of `c` with an exchange check of bank `b` pending and `x` as the expected CRC. -/
def Chip.crcPending (c : Chip) (x : Nat) (b : LeBank) : Chip :=
  (c.set (LE_XCHG_CRC_CRC 1) x).updLe 1 fun g =>
    { g with staging := b, check := some { last := 0, atCycle := none, mid := 1, vf := none } }

theorem crcPending_get (c : Chip) (x : Nat) (b : LeBank) : (c.crcPending x b).get (LE_XCHG_CRC_CRC 1) = x % 2 ^ 32 :=
  (show (c.crcPending x b).get (LE_XCHG_CRC_CRC 1) = (c.set (LE_XCHG_CRC_CRC 1) x).get (LE_XCHG_CRC_CRC 1) from rfl).trans
    (Chip.get_set_same c (LE_XCHG_CRC_CRC 1) x (RFld.ok_of (by decide)))

theorem crcPending_leg (c : Chip) (x : Nat) (b : LeBank) : ((c.crcPending x b).leg 1).staging = b ∧
    ((c.crcPending x b).leg 1).check = some { last := 0, atCycle := none, mid := 1, vf := none } := by
  unfold Chip.crcPending Chip.updLe Chip.leg
  dsimp only
  rw [look_upd_same]
  exact ⟨rfl, rfl⟩

theorem crcPending_zoneUp (c : Chip) (x : Nat) (b : LeBank) : (c.crcPending x b).zoneUp = c.zoneUp := rfl

/-- The one word program of the check: END. -/
def crcBank : LeBank := { prog := [(0, 0xF4000000)] }

theorem crcMismatch {d : Chip} {b : LeBank} (h3 : (d.leg 1).staging = b)
    (hg : d.get (LE_XCHG_CRC_CRC 1) = (bankCrc b 0 + 1) % 2 ^ 32) :
    bankCrc (d.leg 1).staging 0 ≠ d.get (LE_XCHG_CRC_CRC 1) := by
  have hl := bankCrc_lt b 0
  rw [hg, h3]
  omega

theorem crcMatch {d : Chip} {b : LeBank} (h3 : (d.leg 1).staging = b) (hg : d.get (LE_XCHG_CRC_CRC 1) = bankCrc b 0 % 2 ^ 32) :
    bankCrc (d.leg 1).staging 0 = d.get (LE_XCHG_CRC_CRC 1) := by
  rw [hg, h3, Nat.mod_eq_of_lt (bankCrc_lt b 0)]

theorem crcBank_admitted {d : Chip} (h3 : (d.leg 1).staging = crcBank) :
    badWord (d.leg 1).staging 0 = none ∧ badRecord (d.leg 1).staging.map [] = none ∧
      ((linksUsed (d.leg 1).staging.link).all (fun i => d.linkFits (linkAt (d.leg 1).staging.link i)) = true) ∧
      d.unclaimedLink 1 (d.leg 1).staging.link = none := by
  have hu : linksUsed crcBank.link = [] := by decide +kernel
  rw [h3]
  unfold Chip.unclaimedLink
  rw [hu]
  exact ⟨by decide +kernel, by decide +kernel, rfl, rfl⟩

theorem wit_logic_engine_memory_and_exchange_r7 :
    let s : State := wit fun c => c.crcPending (bankCrc crcBank 0 + 1) crcBank
    let e : Fin 2 := 1
    let k : LeCheck := { last := 0, atCycle := none, mid := 1, vf := none }
    s.chip.zoneUp = true ∧ (s.chip.leg e.val).check = some k ∧
      bankCrc (s.chip.leg e.val).staging k.last ≠ s.chip.get (LE_XCHG_CRC_CRC e.val) :=
  ⟨(crcPending_zoneUp up _ _).trans (by decide), (crcPending_leg up _ _).2,
    crcMismatch (d := up.crcPending _ _) (crcPending_leg up _ _).1 (crcPending_get up _ _)⟩

theorem wit_logic_engine_memory_and_exchange_r8 :
    let s : State := wit fun c => c.crcPending (bankCrc crcBank 0) crcBank
    let e : Fin 2 := 1
    let k : LeCheck := { last := 0, atCycle := none, mid := 1, vf := none }
    s.chip.zoneUp = true ∧ (s.chip.leg e.val).check = some k ∧
      bankCrc (s.chip.leg e.val).staging k.last = s.chip.get (LE_XCHG_CRC_CRC e.val) ∧
      badWord (s.chip.leg e.val).staging k.last = none ∧ badRecord (s.chip.leg e.val).staging.map [] = none ∧
      ((linksUsed (s.chip.leg e.val).staging.link).all
        (fun i => s.chip.linkFits (linkAt (s.chip.leg e.val).staging.link i)) = true) ∧
      s.chip.unclaimedLink e.val (s.chip.leg e.val).staging.link = none :=
  ⟨(crcPending_zoneUp up _ _).trans (by decide), (crcPending_leg up _ _).2,
    crcMatch (d := up.crcPending _ _) (crcPending_leg up _ _).1 (crcPending_get up _ _),
    crcBank_admitted (d := up.crcPending _ _) (crcPending_leg up _ _).1⟩

theorem wit_logic_engine_memory_and_exchange :
    (let s : State := wit fun c => (c.wrN (LE_STAT 1) 1).wrN (LE_CHG_ADDR 1) 0x10000FFF
     let e : Fin 2 := 1
     let a : Agent := hart 1
     s.chip.admits a = true ∧ s.chip.worldOfAgent a = s.chip.leWorld e.val ∧ s.chip.get (LE_CHG_ADDR_ADDR e.val) < changeSpan
       (s.chip.get (LE_CHG_ADDR_AREA e.val)) ∧ s.chip.leMode e.val ≠ 0 ∧ (s.chip.leg e.val).changes.length < 64) ∧
    (let s : State := wit fun c => (c.wrN (LE_STAT 1) 0).wrN (LE_CHG_ADDR 1) 0x500001FF
     let e : Fin 2 := 1
     let a : Agent := hart 1
     s.chip.admits a = true ∧ s.chip.worldOfAgent a = s.chip.leWorld e.val ∧ s.chip.get (LE_CHG_ADDR_ADDR e.val) < changeSpan
       (s.chip.get (LE_CHG_ADDR_AREA e.val)) ∧ s.chip.leMode e.val = 0) ∧
    (let s : State := wit id
     let e : Fin 2 := 1
     let a : Agent := hart 3
     s.chip.admits a = true ∧ s.chip.worldOfAgent a ≠ s.chip.leWorld e.val) ∧
    (let s : State := wit fun c => c.wrN (LE_MADDR 1) 0x80000FFF
     let e : Fin 2 := 1
     let a : Agent := hart 4
     s.chip.admits a = true ∧ s.chip.get (LE_MADDR_INDEX e.val) < spaceUnits (s.chip.get (LE_MADDR_SPACE e.val))) ∧
    (let s : State := wit fun c => (c.wrN (LE_MADDR 1) 0x80000FFF).wrN (LE_STAT 1) 0
     let e : Fin 2 := 1
     let a : Agent := hart 1
     s.chip.admits a = true ∧ s.chip.worldOfAgent a = s.chip.leWorld e.val ∧ s.chip.get (LE_MADDR_INDEX e.val) < spaceUnits (s.chip.get
       (LE_MADDR_SPACE e.val)) ∧ (s.chip.get (LE_MADDR_SPACE e.val) ∈ [1, 3, 5, 7] ∨ (s.chip.get (LE_MADDR_SPACE e.val) = 8 ∧
       s.chip.leMode e.val = 0))) ∧
    (let s : State := wit fun c => (c.wrN (LE_XSTAT 1) 0).wrN (LE_STAT 1) 1
     let e : Fin 2 := 1
     let a : Agent := hart 1
     s.chip.admits a = true ∧ s.chip.worldOfAgent a = s.chip.leWorld e.val ∧ s.chip.leMode e.val ≠ 2 ∧ (s.chip.leg e.val).check = none ∧
       s.chip.flag (LE_XSTAT_ARMED e.val) = false) ∧
    (let s : State := wit id
     let e : Fin 2 := 1
     let a : Agent := hart 1
     let v : W32 := 0
     s.chip.admits a = true ∧ s.chip.worldOfAgent a = s.chip.leWorld e.val ∧ v.toNat.testBit 31 = false) := by
  refine ⟨?_, ?_, ?_, ?_, ?_, ?_, ?_⟩
  all_goals decide +kernel

theorem wit_switch_frames :
    (let s : State := wit fun c => (((((((((((((c.setB ESW_CTL_EN true).setB ESW_CTL_CTGLOB false).wrN (ESW_P_CFG 5) 0x80000005).set
       (ESW_P_CFG_DEFCLS 5) 2).wrN (ESW_P_CFG 20) 0x80000001).wrN (ESW_P_CFG 23) 0x80000001).setTbl 1 5 (BitVec.ofNat 128 (1 <<< 127 +
       0x900020))).set (ESW_ADM_MIN 2) 10).set ESW_STAT_FREE 200).set (ESW_P_MAXFRM_N 5) 1600).wrN (ESW_P_QCFG 20 2) 0x7FFF).wrN
       (ESW_P_QCFG 23 2) 0x7FFF).set (ESW_P_QCFG_QMAX 20 2) 2000 |>.set (ESW_P_QCFG_QMAX 23 2) 2000 |>.set (ESW_P_QCFG_QMAXSDU 20 2) 0
       |>.set (ESW_P_QCFG_QMAXSDU 23 2) 0)
     let p : Fin 24 := 5
     let bs : List Byte := List.replicate 60 0x11
     let stamp : W64 := 7
     let sec : Option SecTag := none
     let vid : Nat := 5
     let cls : Nat := 2
     let hq : Nat := 0
     let ports : List Nat := [20, 23]
     s.chip.zoneUp = true ∧ s.chip.esw.jobs = [] ∧ p.val < 20 ∧ s.chip.secFails p.val bs sec = false ∧ s.chip.flag ESW_CTL_EN = true ∧
       s.chip.flag (ESW_P_CFG_EN p.val) = true ∧ s.chip.forward p.val bs = some (vid, cls, ports, hq) ∧ s.chip.streamOf bs vid = none ∧
       s.chip.flag ESW_CTL_CTGLOB = false ∧ ports ≠ [] ∧ (∀ q ∈ ports, s.chip.copyCheck
       { id := 0, ingress := p.val, bytes := bs, stamp := stamp.toNat, cls := cls } (bs.length + 4) q = none) ∧ s.chip.get (ESW_ADM_MIN
       cls) + cellsOf (s.chip.get (ESW_P_MAXFRM_N p.val)) ≤ s.chip.get ESW_STAT_FREE) ∧
    (let s : State := wit fun c => (c.setB ESW_CTL_EN true).setB (ESW_P_CFG_EN 23) true
     let p : Fin 24 := 23
     s.chip.zoneUp = true ∧ s.chip.esw.jobs = [] ∧ s.chip.flag ESW_CTL_EN = true ∧ s.chip.flag (ESW_P_CFG_EN p.val) = true) ∧
    (let s : State := wit fun c => (((c.setB ESW_CTL_EN true).setB (ESW_P_CFG_EN 19) true).set (ESW_P_MAXFRM_N 19) 64).updEsw fun b =>
       { b with receiving := [(19, some 4)], frames := [{ id := 4, ingress := 19, bytes := List.replicate 60 1, stamp := 3, cls := 1, cells := 13, copies := [20] }] }
     let p : Fin 24 := 19
     let id : Nat := 4
     let f : EswFrame := { id := 4, ingress := 19, bytes := List.replicate 60 1, stamp := 3, cls := 1, cells := 13, copies := [20] }
     s.chip.zoneUp = true ∧ s.chip.esw.jobs = [] ∧ s.chip.flag ESW_CTL_EN = true ∧ s.chip.flag (ESW_P_CFG_EN p.val) = true ∧ look none
       s.chip.esw.receiving p.val = some id ∧ s.chip.eswFrame id = some f ∧ f.sec = none ∧ f.filter = none ∧ f.recovery = none ∧ f.cut =
       [] ∧ f.len ≤ s.chip.get (ESW_P_MAXFRM_N p.val)) ∧
    (let s : State := wit fun c => c.updEsw fun b =>
       { b with queues := [(167, [4])], frames := [{ id := 4, ingress := 19, bytes := List.replicate 60 1, stamp := 3, cls := 7, good := true, copies := [20] }] }
     let p : Fin 24 := 20
     let k : Nat := 7
     let f : EswFrame := { id := 4, ingress := 19, bytes := List.replicate 60 1, stamp := 3, cls := 7, good := true, copies := [20] }
     s.chip.zoneUp = true ∧ s.chip.esw.jobs = [] ∧ s.chip.sendingAt p.val = none ∧ s.chip.portUp p.val = true ∧ (s.chip.runCredits
       p.val).selectHead p.val = some (k, f) ∧ (2 ≤ p.val ∨ s.chip.flag (ESW_P_MSEC_EN p.val) = false)) ∧
    (let s : State := wit fun c => c.updEsw fun b =>
       { b with sending := [(19, some 4)], queues := [(159, [4, 5])], frames := [{ id := 4, ingress := 2, bytes := List.replicate 60 1, stamp := 3, cls := 7, good := true, copies := [19] }] }
     let p : Fin 24 := 19
     let stamp : W64 := 9
     let id : Nat := 4
     let f : EswFrame := { id := 4, ingress := 2, bytes := List.replicate 60 1, stamp := 3, cls := 7, good := true, copies := [19] }
     s.chip.zoneUp = true ∧ s.chip.esw.jobs = [] ∧ p.val < 20 ∧ s.chip.sendingAt p.val = some id ∧ s.chip.eswFrame id = some f ∧ f.good
       = true ∧ p.val ∉ f.stomped) ∧
    (let s : State := wit fun c => c.updEsw fun b =>
       { b with sending := [(19, some 4)], queues := [(159, [4, 5])], frames := [{ id := 4, ingress := 2, bytes := List.replicate 60 1, stamp := 3, cls := 7, good := true, copies := [19] }] }
     s.chip.zoneUp = true ∧ s.chip.esw.jobs = []) ∧
    (let s : State := wit id
     s.chip.zoneUp = true ∧ s.chip.esw.jobs = []) := by
  refine ⟨?_, ?_, ?_, ?_, ?_, ?_, ?_⟩
  all_goals decide +kernel

theorem wit_switch_tables :
    (let s : State := wit fun c => c.setTbl 7 19 5
     let a : Agent := hart 1
     let v : W32 := 0x07000013
     let k : Nat := 7
     let i : Nat := 19
     s.chip.admits a = true ∧ s.chip.worldOfAgent a = 1 ∧ bits v.toNat 27 24 = k ∧ bits v.toNat 13 0 = i ∧ k < 8 ∧ i < tblSize k) ∧
    (let s : State := wit fun c => c.wrN ESW_TBL_DATA 0x80000000000000000000000000000001
     let a : Agent := hart 1
     let v : W32 := 0x01000FFF
     let k : Nat := 1
     let i : Nat := 4095
     s.chip.admits a = true ∧ s.chip.worldOfAgent a = 1 ∧ bits v.toNat 27 24 = k ∧ bits v.toNat 13 0 = i ∧ k < 8 ∧ i < tblSize k ∧
       tblReserved k (s.chip.rdN ESW_TBL_DATA) = false ∧ (k = 1 → s.chip.hatbandPort 18 = false ∧ s.chip.hatbandPort 19 = false)) ∧
    (let s : State := wit fun c => (c.wrN ESW_TBL_KEY (5 <<< 48 + 9)).setTbl 0 (4 * bucketOf 5 9) (BitVec.ofNat 128 (1 <<< 127 + 5 <<<
       48 + 9))
     let a : Agent := hart 1
     let v : W32 := 0
     let j : Nat := 4 * bucketOf 5 9
     s.chip.admits a = true ∧ s.chip.worldOfAgent a = 1 ∧ bits v.toNat 27 24 = 0 ∧ s.chip.macFind (bits (s.chip.rdN ESW_TBL_KEY) 59 48)
       (bits (s.chip.rdN ESW_TBL_KEY) 47 0) = some j) ∧
    (let s : State := wit id
     let a : Agent := hart 1
     let v : W32 := 0
     s.chip.admits a = true ∧ s.chip.worldOfAgent a = 1 ∧ bits v.toNat 27 24 = 0 ∧ s.chip.macFind (bits (s.chip.rdN ESW_TBL_KEY) 59 48)
       (bits (s.chip.rdN ESW_TBL_KEY) 47 0) = none) ∧
    (let s : State := wit fun c => (c.wrN ESW_TBL_KEY (5 <<< 48 + 9)).wrN ESW_TBL_DATA (1 <<< 90)
     let a : Agent := hart 1
     let v : W32 := 0
     let j : Nat := 4 * bucketOf 5 9
     s.chip.admits a = true ∧ s.chip.worldOfAgent a = 1 ∧ bits v.toNat 27 24 = 0 ∧ s.chip.macFind (bits (s.chip.rdN ESW_TBL_KEY) 59 48)
       (bits (s.chip.rdN ESW_TBL_KEY) 47 0) = none ∧ s.chip.macFree (bits (s.chip.rdN ESW_TBL_KEY) 59 48) (bits (s.chip.rdN ESW_TBL_KEY)
       47 0) = some j ∧ tblReserved 0 (setBits (setBits (setBits (s.chip.rd ESW_TBL_DATA) 127 127 1) 59 48 (bits (s.chip.rdN
       ESW_TBL_KEY) 59 48)) 47 0 (bits (s.chip.rdN ESW_TBL_KEY) 47 0)).toNat = false) ∧
    (let s : State := wit fun c => (c.wrN ESW_TBL_KEY 31).setTbl 0 16383 (BitVec.ofNat 128 (1 <<< 127 + 9))
     let a : Agent := hart 1
     let v : W32 := 0
     s.chip.admits a = true ∧ s.chip.worldOfAgent a = 1 ∧ bits v.toNat 27 24 < 8 ∧ s.chip.rdN ESW_TBL_KEY % 32 = 31 ∧ (s.chip.rdN
       ESW_TBL_KEY).testBit 60 = false) ∧
    (let s : State := wit fun c => c.setTbl 0 16383 (BitVec.ofNat 128 (1 <<< 127 + 9))
     let a : Agent := hart 1
     s.chip.admits a = true ∧ s.chip.worldOfAgent a = 1) ∧
    (let s : State := wit fun c => (c.set ESW_AGE_S 300).setTbl 0 16383 (BitVec.ofNat 128 (1 <<< 127 + 1 <<< 125 + 9))
     s.chip.zoneUp = true ∧ s.chip.get ESW_AGE_S ≠ 0 ∧ canonical 0 s.chip.esw.tables = true) := by
  refine ⟨?_, ?_, ?_, ?_, ?_, ?_, ?_, ?_⟩
  all_goals decide +kernel

theorem wit_switch_ports_and_host_queues :
    (let s : State := wit fun c => ((c.wrN (ESW_HQ_CFG 255) 0).setB (ESW_HQ_CFG_EN 255) true).set (ESW_HQ_TXPI_I 255) 1
     let q : Fin 256 := 255
     s.chip.zoneUp = true ∧ s.chip.esw.jobs = [] ∧ s.chip.flag (ESW_HQ_CFG_EN q.val) = true ∧ s.chip.pairFn q.val = 64 ∧ look 0
       s.chip.esw.txFetch q.val ≠ s.chip.get (ESW_HQ_TXPI_I q.val) ∧ look none s.chip.esw.trigWait q.val = none) ∧
    (let s : State := witm (memWrite [] 0x10000000 (leBytesOf 16 (1 <<< 58 + 60 <<< 40 + 0x10001000))) fun c => (((((c.wrN (ESW_HQ_CFG
       255) 0).setB (ESW_HQ_CFG_EN 255) true).set (ESW_HQ_TXPI_I 255) 1).wrN (ESW_HQ_TXBASE 255) 0x10000000).set (ESW_HQ_CFG_SIZE 255)
       4).openAll
     let q : Fin 256 := 255
     let c : Chip := s.chip.updEsw fun b =>
       { b with txFetch := put 0 b.txFetch q.val ((look 0 b.txFetch q.val + 1) % s.chip.ringSize q.val), txOpen := upd [] b.txOpen q.val fun l => l ++ [(look 0 b.txFetch q.val, false)] }
     let d : List Byte := leBytesOf 16 (1 <<< 58 + 60 <<< 40 + 0x10001000)
     let bs : List Byte := List.replicate 60 0
     s.chip.zoneUp = true ∧ s.chip.esw.jobs = [] ∧ s.chip.flag (ESW_HQ_CFG_EN q.val) = true ∧ s.chip.pairFn q.val = 64 ∧ look 0
       s.chip.esw.txFetch q.val ≠ s.chip.get (ESW_HQ_TXPI_I q.val) ∧ look none s.chip.esw.trigWait q.val = none ∧ (c = s.chip.updEsw fun
       b =>
       { b with txFetch := put 0 b.txFetch q.val ((look 0 b.txFetch q.val + 1) % s.chip.ringSize q.val), txOpen := upd [] b.txOpen q.val fun l => l ++ [(look 0 b.txFetch q.val, false)] })
       ∧ ({ s with chip := c } : State).busRead (s.chip.pairTag q.val) (s.chip.get (ESW_HQ_TXBASE_A q.val) + 32 * look 0
       s.chip.esw.txFetch q.val) 16 = (some d, { s with chip := c }) ∧ bit (leNat d) 58 = true ∧ 60 ≤ bits (leNat d) 53 40 ∧ bits (leNat
       d) 53 40 ≤ 9212 ∧ (bit (leNat d) 59 = true → bits (leNat d) 64 60 ≤ 19) ∧ ({ s with chip := c } : State).busRead (s.chip.pairTag
       q.val) (leNat d % 2 ^ 40) (bits (leNat d) 53 40) = (some bs, { s with chip := c })) ∧
    (let s : State := wit fun c => c.addAction { fire := 8, cls := 3, target := 0x20FF, arg := 0 }
     let q : Fin 256 := 255
     let x : Action := { fire := 8, cls := 3, target := 0x20FF, arg := 0 }
     s.chip.zoneUp = true ∧ s.chip.esw.jobs = [] ∧ s.chip.dueAction 3 (0x2000 + q.val) = some x ∧ look none s.chip.esw.trigWait q.val =
       none) ∧
    (let s : State := wit fun c => ((c.set (ESW_P_MAXFRM_N 20) 64).addAction { fire := 8, cls := 3, target := 0x20FF, arg := 0 }).updEsw
       fun b => { b with trigWait := [(255, some { bytes := List.replicate 60 0, desc := 0, index := 3 })] }
     let q : Fin 256 := 255
     let x : Action := { fire := 8, cls := 3, target := 0x20FF, arg := 0 }
     let h : HostFrame := { bytes := List.replicate 60 0, desc := 0, index := 3 }
     s.chip.zoneUp = true ∧ s.chip.esw.jobs = [] ∧ s.chip.dueAction 3 (0x2000 + q.val) = some x ∧ look none s.chip.esw.trigWait q.val =
       some h ∧ h.bytes.length + 4 ≤ s.chip.get (ESW_P_MAXFRM_N 20)) ∧
    (let s : State := wit fun c => c.addAction { fire := 8, cls := 3, target := 0x3013, arg := 0xA5 }
     let p : Fin 20 := 19
     let x : Action := { fire := 8, cls := 3, target := 0x3013, arg := 0xA5 }
     s.chip.zoneUp = true ∧ s.chip.dueAction 3 (0x3000 + p.val) = some x ∧ s.chip.hatbandPort p.val = false) ∧
    (let s : State := wit fun c => c.updEsw fun b => { b with stamps := [(19, [5, 6])] }
     let a : Agent := hart 4
     s.chip.admits a = true) ∧
    (let s : State := wit fun c => (c.setTbl 4 127 (BitVec.ofNat 128 (1 <<< 127 + 1 <<< 105))).updEsw fun b =>
       { b with recs := [(127, { top := some 9, lastAt := some 0 })] }
     let r : Fin 128 := 127
     let u : Nat := 0
     s.chip.zoneUp = true ∧ s.chip.tblBits 4 r.val 127 127 = 1 ∧ (look {} s.chip.esw.recs r.val).lastAt = some u ∧ u + s.chip.tblBits 4
       r.val 120 105 * 1000000 ≤ s.chip.time.frc) ∧
    (let s : State := wit fun c => (c.own 2 23 3).setB (ESW_P_CFG_EN 23) false
     let a : Agent := hart 3
     let p : Fin 24 := 23
     let v : W32 := 4094
     s.chip.admits a = true ∧ s.chip.claims (s.chip.worldOfAgent a) 2 p.val = true ∧ bits v.toNat 28 27 ≠ 3 ∧ bits v.toNat 11 0 ≠ 0 ∧
       bits v.toNat 11 0 ≤ 4094 ∧ s.chip.flag (ESW_P_CFG_EN p.val) = false ∧ s.chip.portConflict (s.chip.who a) p.val = none) ∧
    (let s : State := wit fun c => c.own 2 23 3
     let a : Agent := hart 3
     let p : Fin 24 := 23
     let v : W32 := 1
     s.chip.admits a = true ∧ s.chip.claims (s.chip.worldOfAgent a) 2 p.val = true ∧ bits v.toNat 28 27 ≠ 3 ∧ bits v.toNat 11 0 ≠ 0 ∧
       bits v.toNat 11 0 ≤ 4094 ∧ (v.toNat.testBit 31 = true → s.chip.flag (ESW_P_CFG_EN p.val) = true ∨ s.chip.portConflict (s.chip.who
       a) p.val = none)) ∧
    (let s : State := wit id
     let a : Agent := hart 3
     let p : Fin 24 := 23
     s.chip.admits a = true ∧ s.chip.claims (s.chip.worldOfAgent a) 2 p.val = false) := by
  refine ⟨?_, ?_, ?_, ?_, ?_, ?_, ?_, ?_, ?_, ?_⟩
  all_goals decide +kernel

theorem wit_hatband_control :
    (let s : State := wit fun c => (((((((c.own 3 18 7).own 3 19 7).set HBD_CFG_CHEN 3).set HBD_TIM0_CYCLEN 5000).set HBD_TIM0_SLOTLEN
       500).set HBD_TIM1_GDELTA 1000).set HBD_TIM1_APO 3000 |>.set HBD_TIM2_PREC 1000 |>.set HBD_TIM3_MSLEN 100)
     let a : Agent := hart 2
     let v : W32 := 1
     s.chip.admits a = true ∧ s.chip.worldOfAgent a = 2 ∧ bits v.toNat 2 0 = 1 ∧ s.chip.hbState = hsCONFIG ∧ s.chip.physMissing = [] ∧
       s.chip.get (TD_CTL_SRC 0) ≠ 1 ∧ s.chip.configOk = true) ∧
    (let s : State := wit fun c => (((c.own 3 18 7).own 3 19 7).set HBD_CFG_CHEN 3).set (TD_CTL_SRC 0) 1
     let a : Agent := hart 2
     let v : W32 := 1
     s.chip.admits a = true ∧ s.chip.worldOfAgent a = 2 ∧ bits v.toNat 2 0 = 1 ∧ s.chip.hbState = hsCONFIG ∧ s.chip.physMissing = [] ∧
       (s.chip.get (TD_CTL_SRC 0) = 1 ∨ s.chip.configOk = false)) ∧
    (let s : State := wit fun c => (c.setB HBD_CTL_EN true).set HBD_STAT_STATE 4
     let a : Agent := hart 2
     let v : W32 := 0
     s.chip.admits a = true ∧ s.chip.worldOfAgent a = 2 ∧ bits v.toNat 2 0 = 0) ∧
    (let s : State := wit fun c => c.set HBD_STAT_STATE 6
     let a : Agent := hart 2
     let v : W32 := 3
     s.chip.admits a = true ∧ s.chip.worldOfAgent a = 2 ∧ bits v.toNat 2 0 = 3 ∧ s.chip.hbState ≠ hsCONFIG) ∧
    (let s : State := wit fun c => (c.set HBD_STAT_STATE 4).wrN (HBD_CH 1 3) 9
     let a : Agent := hart 2
     let v : W32 := 5
     s.chip.admits a = true ∧ s.chip.worldOfAgent a = 2 ∧ bits v.toNat 2 0 = 5 ∧ s.chip.hbState ≠ hsCONFIG) ∧
    (let s : State := wit fun c => ((c.set HBD_STAT_STATE 4).setB (HBD_MODE_VALID 7) true).set HBD_MODEOK_MODES 0x80
     let a : Agent := hart 2
     let v : W32 := 0x80000007
     s.chip.admits a = true ∧ s.chip.worldOfAgent a = 2 ∧ bit v.toNat 31 = true ∧ s.chip.hbState = hsNORMAL ∧ HBD_MREQ_MODE.of v.toNat ≠
       s.chip.hbMode ∧ s.chip.loaded (HBD_MREQ_MODE.of v.toNat) = true ∧ bit (s.chip.get HBD_MODEOK_MODES) (HBD_MREQ_MODE.of v.toNat) =
       true ∧ s.chip.flag HBD_MSTAT_PENDING = false) ∧
    (let s : State := wit fun c => c.set HBD_STAT_STATE 5
     let a : Agent := hart 2
     let v : W32 := 0x80000007
     s.chip.admits a = true ∧ s.chip.worldOfAgent a = 2 ∧ bit v.toNat 31 = true ∧ s.chip.hbState ≠ hsNORMAL) ∧
    (let s : State := wit fun c => ((((((c.set HBD_STSEL_ENTRY 511).set HBD_TIM0_CYCLEN 5000).set HBD_TIM0_SLOTLEN 500).set
       HBD_TIM1_GDELTA 1000).set HBD_TIM1_APO 3000 |>.set HBD_TIM2_PREC 1000 |>.set HBD_TIM3_MSLEN 100))
     let a : Agent := hart 2
     let v : W128 := BitVec.ofNat 128 (2 ^ 63 + 2 ^ 62 + 3 * 2 ^ 59 + 16 * 2 ^ 42 + 4)
     let m : Nat := 0
     let i : Nat := 511
     let e : HbdSlot := slotOf (2 ^ 63 + 2 ^ 62 + 3 * 2 ^ 59 + 16 * 2 ^ 42 + 4)
     let d : Chip := (s.chip.updHbd fun b => { b with slots := [(511, 2 ^ 63 + 2 ^ 62 + 3 * 2 ^ 59 + 16 * 2 ^ 42 + 4)] })
     s.chip.admits a = true ∧ s.chip.worldOfAgent a = 2 ∧ s.chip.get HBD_STSEL_MODE = m ∧ s.chip.get HBD_STSEL_ENTRY = i ∧ slotOf
       (v.toNat % 2 ^ 64) = e ∧ (s.chip.hbState = hsCONFIG ∨ (m ≠ s.chip.hbMode ∧ s.chip.flag HBD_MSTAT_PENDING = false ∧
       s.chip.hbd.confMode ≠ some m)) ∧ (e.valid = true → e.rep < 7 ∧ e.base < 2 ^ e.rep ∧ e.len ≤ 254 ∧ (e.tx = true → e.type < 2)) ∧
       (d = s.chip.updHbd fun b => { b with slots := put 0 b.slots (512 * m + i) (v.toNat % 2 ^ 64) }) ∧ s.chip.timingOk = true ∧
       (d.hbSlots m).all d.staticFits = true ∧ d.ownershipOk (d.hbSlots m) = true) ∧
    (let s : State := wit fun c => (((((c.set HBD_TIM0_CYCLEN 5000).set HBD_TIM0_SLOTLEN 500).set HBD_TIM1_GDELTA 1000).set HBD_TIM1_APO
       3000 |>.set HBD_TIM2_PREC 1000 |>.set HBD_TIM3_MSLEN 100))
     let a : Agent := hart 2
     let m : Fin 8 := 7
     let v : W128 := BitVec.ofNat 128 (2 ^ 127 + 4 * 2 ^ 64)
     s.chip.admits a = true ∧ s.chip.worldOfAgent a = 2 ∧ s.chip.modeBusy m.val = false ∧ 1 ≤ (HBD_MODE_NSLOT m.val).of v.toNat ∧
       (HBD_MODE_NSLOT m.val).of v.toNat ≤ 256 ∧ s.chip.timingOk = true ∧ s.chip.cycleFits ((HBD_MODE_NSLOT m.val).of v.toNat)
       ((HBD_MODE_NMS m.val).of v.toNat) = true) ∧
    (let s : State := wit fun c => ((c.vfPool 5 2 2 60 8).set HBD_BSEL_BUF 63).updBuf 63 fun b => { b with staging := [(0, 0x5A)] }
     let a : Agent := hart 2
     let v : W32 := 1
     let n : Nat := 63
     s.chip.admits a = true ∧ s.chip.hbdSelected (s.chip.who a) = some n ∧ a.vf = none ∧ bits v.toNat 2 0 = 1) ∧
    (let s : State := wit fun c => ((c.vfPool 5 2 2 60 8).set HBD_BSEL_BUF 63).set HBD_CFG_CHEN 3
     let a : Agent := hart 2
     let v : W32 := 2
     let n : Nat := 63
     s.chip.admits a = true ∧ s.chip.hbdSelected (s.chip.who a) = some n ∧ a.vf = none ∧ bits v.toNat 2 0 = 2) ∧
    (let s : State := wit fun c => ((c.vfPool 5 2 2 60 8).set HBD_BSEL_BUF 63).updBuf 63 fun b => { b with fresh := true, len := 9 }
     let a : Agent := hart 2
     let v : W32 := 4
     let n : Nat := 63
     s.chip.admits a = true ∧ s.chip.hbdSelected (s.chip.who a) = some n ∧ bits v.toNat 2 0 = 4) := by
  refine ⟨?_, ?_, ?_, ?_, ?_, ?_, ?_, ?_, ?_, ?_, ?_, ?_⟩
  all_goals decide +kernel

theorem wit_hatband_schedule :
    (let s : State := wit fun c => (c.set HBD_STAT_STATE 1).set HBD_TIM0_CYCLEN 5000
     let k : Nat := 0
     s.chip.zoneUp = true ∧ 1 ≤ s.chip.hbState ∧ s.chip.hbState ≤ 6 ∧ 0 < s.chip.hbCyclen ∧ k = s.chip.pb0At s.chip.frc /
       s.chip.hbCyclen ∧ s.chip.hbd.cycle ≠ some k ∧ (s.chip.hbState = hsLISTEN ∨ s.chip.hbd.cycle = none)) ∧
    (let s : State := wit fun c => c.updHbd fun b =>
       { b with cycle := some 2, slots := [(0, 2 ^ 63 + 2 ^ 62 + 3 * 2 ^ 59 + 2 * 2 ^ 42 + 5 * 2 ^ 32 + 3)], bufs := [(5, { current := [(0, 0x7E)], committed := true })] }
     let slot : Fin 257 := 3
     let e : HbdSlot := slotOf (2 ^ 63 + 2 ^ 62 + 3 * 2 ^ 59 + 2 * 2 ^ 42 + 5 * 2 ^ 32 + 3)
     s.chip.zoneUp = true ∧ s.chip.hbd.cycle.isSome = true ∧ s.chip.due (s.chip.hbTick (s.chip.actionPoint slot.val - 2000)) = true ∧
       look none s.chip.hbd.copies slot.val = none ∧ s.chip.hbTxEntry slot.val = some e ∧ (s.chip.hbBuf e.buf).committed = true) ∧
    (let s : State := wit fun c => c.updHbd fun b =>
       { b with cycle := some 2, slots := [(0, 2 ^ 63 + 2 ^ 62 + 3 * 2 ^ 59 + 2 * 2 ^ 42 + 5 * 2 ^ 32 + 3)], bufs := [(5, { current := [(0, 0x7E)], committed := true })] }
     let slot : Fin 257 := 3
     let e : HbdSlot := slotOf (2 ^ 63 + 2 ^ 62 + 3 * 2 ^ 59 + 2 * 2 ^ 42 + 5 * 2 ^ 32 + 3)
     s.chip.zoneUp = true ∧ s.chip.hbd.cycle.isSome = true ∧ s.chip.due (s.chip.hbTick (s.chip.actionPoint slot.val - 2000)) = true ∧
       look none s.chip.hbd.copies slot.val = none ∧ s.chip.hbTxEntry slot.val = some e) ∧
    (let s : State := wit fun c => c.updHbd fun b =>
       { b with cycle := some 2, slots := [(511, 2 ^ 63 + 2 ^ 62 + 3 * 2 ^ 59 + 2 * 2 ^ 42 + 5 * 2 ^ 32 + 3)] }
     let slot : Fin 257 := 3
     let e : HbdSlot := slotOf (2 ^ 63 + 2 ^ 62 + 3 * 2 ^ 59 + 2 * 2 ^ 42 + 5 * 2 ^ 32 + 3)
     let i : Nat := 511
     let v : Nat := 2 ^ 63 + 2 ^ 62 + 3 * 2 ^ 59 + 2 * 2 ^ 42 + 5 * 2 ^ 32 + 3
     s.chip.zoneUp = true ∧ s.chip.hbd.cycle.isSome = true ∧ s.chip.due (s.chip.hbTick (s.chip.actionPoint slot.val - 2000)) = true ∧
       look none s.chip.hbd.copies slot.val = none ∧ s.chip.hbTxEntry slot.val = some e ∧ s.chip.hbd.slots = [(i, v)]) ∧
    (let s : State := wit fun c => (((c.set HBD_STAT_STATE 4).setB HBD_STAT_GLOCK true).set HBD_CFG_CHEN 3).updHbd fun b =>
       { b with cycle := some 2, slots := [(7, 2 ^ 63 + 2 ^ 62 + 1 * 2 ^ 59 + 2 * 2 ^ 42 + 5 * 2 ^ 32 + 256)], copies := [(256, some [0x7E, 0x01])] }
     let slot : Fin 257 := 256
     let e : HbdSlot := slotOf (2 ^ 63 + 2 ^ 62 + 1 * 2 ^ 59 + 2 * 2 ^ 42 + 5 * 2 ^ 32 + 256)
     let d : List Byte := [0x7E, 0x01]
     s.chip.zoneUp = true ∧ s.chip.hbd.cycle.isSome = true ∧ s.chip.hbState = hsNORMAL ∧ s.chip.guardianOpen = true ∧ s.chip.due
       (s.chip.hbTick (s.chip.actionPoint slot.val)) = true ∧ s.chip.hbTxEntry slot.val = some e ∧ look none s.chip.hbd.copies slot.val
       = some d ∧ ((s.chip.hbd.own.any fun o => o.slot == slot.val) = false)) ∧
    (let s : State := wit fun c => c.set HBD_STAT_STATE 5
     s.chip.zoneUp = true ∧ (s.chip.hbState = hsPASSIVE ∨ s.chip.hbState = hsSILENT ∨ s.chip.guardianOpen = false)) ∧
    (let s : State := wit fun c => ((((c.set HBD_STAT_STATE 1).setB HBD_CFG_CSEN true).set HBD_TIM0_CYCLEN 5000).set HBD_TIM3_LTO
       1000).updHbd fun b => { b with slots := [(3, 2 ^ 63 + 2 ^ 62 + 2 ^ 61 + 3 * 2 ^ 59 + 2)] }
     let e : HbdSlot := slotOf (2 ^ 63 + 2 ^ 62 + 2 ^ 61 + 3 * 2 ^ 59 + 2)
     s.chip.zoneUp = true ∧ s.chip.coldEntry = some e ∧ s.chip.hbState = hsLISTEN ∧ s.chip.flag HBD_CFG_CSEN = true ∧ s.chip.due
       (s.chip.hbd.listenFrom + s.chip.get HBD_TIM3_LTO * 1000 + s.chip.get HBD_CFG_CSIDX * s.chip.hbSlotlen) = true ∧ 0 <
       s.chip.hbCyclen) ∧
    (let s : State := wit fun c => (c.set HBD_STAT_STATE 5).updHbd fun b => { b with cycle := some 4 }
     s.chip.zoneUp = true ∧ s.chip.hbState = hsPASSIVE ∧ s.chip.hbd.cycle.isSome = true ∧ s.chip.hbd.staticDone = false ∧
       s.chip.hbd.waitStep = false ∧ s.chip.due (s.chip.hbTick s.chip.staticLen) = true ∧ s.chip.hbd.ackFor = none ∧ s.chip.hbd.meas =
       []) ∧
    (let s : State := wit fun c => ((c.set HBD_STAT_STATE 4).set HBD_STAT_MISS 1).updHbd fun b =>
       { b with cycle := some 4, ackFor := some 3 }
     let n : Nat := 3
     s.chip.zoneUp = true ∧ s.chip.hbState = hsNORMAL ∧ s.chip.hbd.cycle.isSome = true ∧ s.chip.hbd.staticDone = false ∧
       s.chip.hbd.waitStep = false ∧ s.chip.due (s.chip.hbTick s.chip.staticLen) = true ∧ s.chip.hbd.ackFor = some n ∧ s.chip.get
       HBD_STAT_MISS = 1) ∧
    (let s : State := wit fun c => ((c.set HBD_STAT_STATE 6).set HBD_STAT_MISS 2).updHbd fun b =>
       { b with ackFor := some (HBD_CORRACK_CYCLE.of 5) }
     let a : Agent := hart 2
     let v : W128 := 5
     s.chip.zoneUp = true ∧ s.chip.admits a = true ∧ s.chip.worldOfAgent a = 2 ∧ s.chip.hbd.ackFor = some (HBD_CORRACK_CYCLE.of v.toNat)) ∧
    (let s : State := wit fun c => ((c.set HBD_STAT_STATE 5).set (HBD_MODE_NMS 0) 255).updHbd fun b =>
       { b with cycle := some 4, mini := [(1, some 253)], turn := [(1, some 62)] }
     let ch : Fin 2 := 1
     let m : Fin 256 := 254
     let x : Nat := 253
     s.chip.zoneUp = true ∧ 2 ≤ s.chip.hbState ∧ s.chip.hbState ≤ 6 ∧ s.chip.hbState ≠ hsNORMAL ∧ s.chip.hbd.cycle.isSome = true ∧ 0 <
       m.val ∧ m.val < s.chip.get (HBD_MODE_NMS s.chip.hbMode) ∧ look none s.chip.hbd.mini ch.val = some x ∧ x < m.val ∧ look none
       s.chip.hbd.sendEnd ch.val = none ∧ s.chip.due (s.chip.hbTick (s.chip.staticLen + m.val * s.chip.hbMslen)) = true) := by
  refine ⟨?_, ?_, ?_, ?_, ?_, ?_, ?_, ?_, ?_, ?_, ?_⟩
  all_goals decide +kernel

theorem wit_hatband_reception_and_guardian :
    (let s : State := wit fun c => (c.set HBD_STAT_STATE 1).set HBD_CFG_CHEN 3
     let ch : Fin 2 := 1
     let start : W64 := 5
     let bs : List Byte := [0x40, 0x01]
     s.chip.zoneUp = true ∧ s.chip.hbState = hsLISTEN ∧ bit (s.chip.get HBD_CFG_CHEN) ch.val = true ∧ start.toNat ≤ s.chip.frc ∧
       parseFrame bs = none) ∧
    (let s : State := wit fun c => ((c.set HBD_STAT_STATE 1).set HBD_CFG_CHEN 3).set HBD_TIM0_CYCLEN 5000
     let ch : Fin 2 := 0
     let start : W64 := 900000
     let bs : List Byte := buildFrame 0x60 7 3 2 1 0 (some 10000000) [0x55]
     let f : HbdFrame := { sync := true, startup := false, type := 0, sender := 7, slot := 3, cycle := 2, len := 1, req := false, conf := false, rmode := 0, curmode := 0, time := 10000000, payload := [0x55] }
     s.chip.zoneUp = true ∧ s.chip.hbState = hsLISTEN ∧ bit (s.chip.get HBD_CFG_CHEN) ch.val = true ∧ start.toNat ≤ s.chip.frc ∧
       parseFrame bs = some f ∧ (f.sync = true ∧ (f.startup = true → s.chip.flag HBD_CFG_CSEN = true)) ∧ 0 < s.chip.hbCyclen) ∧
    (let s : State := wit fun c => (c.set HBD_STAT_STATE 6).set HBD_CFG_CHEN 3
     let ch : Fin 2 := 1
     let start : W64 := 5
     let bs : List Byte := []
     s.chip.zoneUp = true ∧ 2 ≤ s.chip.hbState ∧ s.chip.hbState ≤ 6 ∧ bit (s.chip.get HBD_CFG_CHEN) ch.val = true ∧ start.toNat ≤
       s.chip.frc ∧ parseFrame bs = none ∧ s.chip.hbd.own = []) ∧
    (let s : State := wit fun c => ((((((c.set HBD_STAT_STATE 5).set HBD_CFG_CHEN 3).set HBD_TIM0_CYCLEN 5000).set HBD_TIM0_SLOTLEN
       1000).set HBD_TIM1_APO 3000).set (HBD_MODE_NSLOT 0) 9).set HBD_TIM2_PREC 1000 |>.updHbd fun b =>
       { b with cycle := some 2, startInc := 2 ^ 32 }
     let ch : Fin 2 := 0
     let start : W64 := 203000
     let bs : List Byte := buildFrame 0x40 7 3 2 1 0 none [0x55]
     let f : HbdFrame := { sync := false, startup := false, type := 0, sender := 7, slot := 3, cycle := 2, len := 1, req := false, conf := false, rmode := 0, curmode := 0, time := 0, payload := [0x55] }
     s.chip.zoneUp = true ∧ s.chip.hbState = hsPASSIVE ∧ bit (s.chip.get HBD_CFG_CHEN) ch.val = true ∧ start.toNat ≤ s.chip.frc ∧
       parseFrame bs = some f ∧ s.chip.hbd.cycle.isSome = true ∧ s.chip.frameValid ch.val start.toNat f = true ∧ f.sender ≠
       s.chip.hbNode ∧ f.sync = false ∧ s.chip.hbd.own = [] ∧ ((s.chip.hbSlots s.chip.hbMode).find? (fun e => !e.tx && e.slot == f.slot
       && bit e.ch ch.val && e.inCycle s.chip.hbCycle) = none)) ∧
    (let s : State := wit fun c => c.set HBD_STAT_STATE 3
     s.chip.zoneUp = true ∧ 1 ≤ s.chip.hbState ∧ s.chip.hbState ≤ 6 ∧ s.chip.flag HBD_STAT_GFAULT = false ∧ s.chip.hbd.marks = none) ∧
    (let s : State := wit fun c => (((c.set HBD_STAT_STATE 4).set HBD_TIM0_CYCLEN 5000).set HBD_TIM4_OFSLIM 500).updHbd fun b =>
       { b with marks := some 1, sinceMark := 1 }
     let raw : Nat := 5000001
     let m : Nat := 1
     s.chip.zoneUp = true ∧ (s.chip.hbState = hsNORMAL ∨ s.chip.hbState = hsPASSIVE) ∧ s.chip.flag HBD_STAT_GFAULT = false ∧
       s.chip.hbd.marks = some m ∧ 1 ≤ m ∧ s.chip.hbd.rejects < 8 ∧ (((raw * s.chip.hbCyclen / s.chip.trimMean : Nat) : Int) -
       ((s.chip.hbd.sinceMark * s.chip.hbCyclen : Nat) : Int)).natAbs ≤ s.chip.get HBD_TIM4_OFSLIM + s.chip.get HBD_TIM1_GDELTA) ∧
    (let s : State := wit fun c => (((c.set HBD_STAT_STATE 4).set HBD_TIM0_CYCLEN 5000).set HBD_TIM4_OFSLIM 500).updHbd fun b =>
       { b with marks := some 4, sinceMark := 1 }
     let raw : Nat := 9000000
     let m : Nat := 4
     s.chip.zoneUp = true ∧ (s.chip.hbState = hsNORMAL ∨ s.chip.hbState = hsPASSIVE) ∧ s.chip.flag HBD_STAT_GFAULT = false ∧
       s.chip.hbd.marks = some m ∧ s.chip.hbd.rejects < 8 ∧ s.chip.get HBD_TIM4_OFSLIM + s.chip.get HBD_TIM1_GDELTA < (((raw *
       s.chip.hbCyclen / s.chip.trimMean : Nat) : Int) - ((s.chip.hbd.sinceMark * s.chip.hbCyclen : Nat) : Int)).natAbs) ∧
    (let s : State := wit fun c => c.updHbd fun b => { b with sendEnd := [(1, some 2000000)] }
     let ch : Fin 2 := 1
     let u : Nat := 2000000
     s.chip.zoneUp = true ∧ look none s.chip.hbd.sendEnd ch.val = some u ∧ s.chip.frc < u) ∧
    (let s : State := wit id
     s.chip.zoneUp = true) := by
  refine ⟨?_, ?_, ?_, ?_, ?_, ?_, ?_, ?_, ?_⟩
  all_goals decide +kernel

theorem wit_can_object_commands :
    (let s : State := wit fun c => ((c.vfPool 64 1 1 0 1536).set (CAN_OSEL_OBJ 11) 127).updCan fun b =>
       { b with objs := [(1535, { staging := [(0, 0x7E)] })] }
     let a : Agent := hart 1
     let n : Fin 12 := 11
     let v : W32 := 4
     let i : Nat := 1535
     s.chip.admits a = true ∧ s.chip.canSelected (s.chip.who a) n.val = some i ∧ s.chip.poolWorld 1 i = some (s.chip.worldOfAgent a) ∧
       bits v.toNat 3 0 = 4) ∧
    (let s : State := wit fun c => (c.vfPool 64 1 1 0 1536).updCan fun b =>
       { b with objs := [(1408, { w0 := BitVec.ofNat 128 (2 ^ 127 + 2 ^ 126) })] }
     let a : Agent := hart 1
     let n : Fin 12 := 11
     let v : W32 := 1
     let i : Nat := 1408
     s.chip.admits a = true ∧ s.chip.canSelected (s.chip.who a) n.val = some i ∧ s.chip.poolWorld 1 i = some (s.chip.worldOfAgent a) ∧
       bits v.toNat 3 0 = 1 ∧ (s.chip.canObj i).transmits = true ∧ (s.chip.canObj i).trig = false ∧ s.chip.canOpen i = true ∧
       (s.chip.canObj i).tx = .idle) ∧
    (let s : State := wit fun c => (c.vfPool 64 1 1 0 1536).updCan fun b =>
       { b with objs := [(1408, { w0 := BitVec.ofNat 128 (2 ^ 127 + 2 ^ 126), tx := .pending })] }
     let a : Agent := hart 1
     let n : Fin 12 := 11
     let v : W32 := 1
     let i : Nat := 1408
     s.chip.admits a = true ∧ s.chip.canSelected (s.chip.who a) n.val = some i ∧ s.chip.poolWorld 1 i = some (s.chip.worldOfAgent a) ∧
       bits v.toNat 3 0 = 1 ∧ (s.chip.canObj i).transmits = true ∧ (s.chip.canObj i).trig = false ∧ s.chip.canOpen i = true ∧
       (s.chip.canObj i).tx = .pending) ∧
    (let s : State := wit fun c => (c.vfPool 64 1 1 0 1536).updCan fun b =>
       { b with objs := [(1408, { w0 := BitVec.ofNat 128 (2 ^ 127 + 2 ^ 126), tx := .pending })] }
     let a : Agent := hart 1
     let n : Fin 12 := 11
     let v : W32 := 2
     let i : Nat := 1408
     s.chip.admits a = true ∧ s.chip.canSelected (s.chip.who a) n.val = some i ∧ s.chip.poolWorld 1 i = some (s.chip.worldOfAgent a) ∧
       bits v.toNat 3 0 = 2 ∧ (s.chip.canObj i).tx ≠ .active ∧ (∀ r : Fin 8, (s.chip.gwRoute (i / 128) (8 + r.val)).fifo = [])) ∧
    (let s : State := wit fun c => (c.vfPool 64 1 1 0 1536).updCan fun b =>
       { b with objs := [(1408, { w0 := BitVec.ofNat 128 (2 ^ 127 + 2 ^ 126), tx := .active })] }
     let a : Agent := hart 1
     let n : Fin 12 := 11
     let v : W32 := 2
     let i : Nat := 1408
     s.chip.admits a = true ∧ s.chip.canSelected (s.chip.who a) n.val = some i ∧ i < 1536 ∧ s.chip.poolWorld 1 i = some
       (s.chip.worldOfAgent a) ∧ bits v.toNat 3 0 = 2 ∧ (s.chip.canObj i).tx = .active) ∧
    (let s : State := wit fun c => (c.vfPool 64 1 1 0 1536).updCan fun b => { b with objs := [(1408, { fresh := true })] }
     let a : Agent := hart 1
     let n : Fin 12 := 11
     let v : W32 := 8
     let i : Nat := 1408
     s.chip.admits a = true ∧ s.chip.canSelected (s.chip.who a) n.val = some i ∧ s.chip.poolWorld 1 i = some (s.chip.worldOfAgent a) ∧
       bits v.toNat 3 0 = 8) ∧
    (let s : State := wit id
     let a : Agent := hart 1
     let n : Fin 12 := 11
     let i : Nat := 1408
     s.chip.admits a = true ∧ s.chip.canSelected (s.chip.who a) n.val = some i ∧ i < 1536 ∧ s.chip.poolWorld 1 i ≠ some
       (s.chip.worldOfAgent a)) ∧
    (let s : State := wit fun c => (c.vfPool 64 1 1 0 1536)
     let a : Agent := hart 1
     let n : Fin 12 := 11
     let word : Fin 2 := 0
     let v : W128 := BitVec.ofNat 128 (2 ^ 127 + 1016 * 2 ^ 80 + 8 * 2 ^ 64)
     let i : Nat := 1408
     let o : CanObj := { w0 := BitVec.ofNat 128 (2 ^ 127 + 1016 * 2 ^ 80 + 8 * 2 ^ 64), lastStore := s.chip.frc }
     s.chip.admits a = true ∧ s.chip.canSelected (s.chip.who a) n.val = some i ∧ s.chip.poolWorld 1 i = some (s.chip.worldOfAgent a) ∧
       (s.chip.canObj i).transmits = false ∧ o =
       { s.chip.canObj i with w0 := (if word.val = 0 then v else (s.chip.canObj i).w0), w1 := (if word.val = 0 then (s.chip.canObj i).w1 else v), tx := .idle, queued := false, txDone := false, lastStore := s.chip.frc, stale := false }
       ∧ (o.valid = true → s.chip.canDescOk (i / 128) (i % 128) o = true)) ∧
    (let s : State := wit fun c => (((c.own 7 11 1).setB (CAN_CTL_EN 11) true).set (CAN_STAT_BUSST 11) 2)
     let a : Agent := hart 1
     let n : Fin 12 := 11
     let v : W32 := 0x80400000
     s.chip.admits a = true ∧ s.chip.claims (s.chip.worldOfAgent a) 7 n.val = true ∧ s.chip.flag (CAN_CTL_EN n.val) = true ∧ bit v.toNat
       31 = true ∧ canModeBits v.toNat = canModeBits (s.chip.rdN (CAN_CTL n.val)) ∧ (8 ≤ n.val ∨ bit v.toNat 28 = false) ∧ bits v.toNat
       23 22 = 1 ∧ s.chip.get (CAN_STAT_BUSST n.val) = 2) ∧
    (let s : State := wit fun c => (((c.own 7 11 1).setB (CAN_CTL_EN 11) true).wrN (CAN_CNT 11) 77)
     let a : Agent := hart 1
     let n : Fin 12 := 11
     let v : W32 := 0x80800000
     s.chip.admits a = true ∧ s.chip.claims (s.chip.worldOfAgent a) 7 n.val = true ∧ s.chip.flag (CAN_CTL_EN n.val) = true ∧ bit v.toNat
       31 = true ∧ canModeBits v.toNat = canModeBits (s.chip.rdN (CAN_CTL n.val)) ∧ (8 ≤ n.val ∨ bit v.toNat 28 = false) ∧ bits v.toNat
       23 22 = 2) := by
  refine ⟨?_, ?_, ?_, ?_, ?_, ?_, ?_, ?_, ?_, ?_⟩
  all_goals decide +kernel

theorem wit_can_bus :
    (let s : State := wit fun c => ((((c.setB (CAN_CTL_EN 11) true).set (CAN_STAT_BUSST 11) 0).set NMW_SEGSTAT_AWAKE 0xFFF)).updCan fun
       b =>
       { b with objs := [(1535, { w0 := BitVec.ofNat 128 (2 ^ 127 + 2 ^ 116 + 8 * 2 ^ 64 + 0x7FF * 2 ^ 32 + 0x123), fresh := true })] }
     let n : Fin 12 := 11
     let f : CanFrame := { stamp := 9, fmt := 0, ide := false, id := 0x123, rtr := false, brs := false, vcid := 0, data := [1, 2, 3] }
     let k : Fin 128 := 127
     s.chip.zoneUp = true ∧ s.chip.can.jobs = [] ∧ s.chip.canTakes n.val f.fmt.val f.ide = true ∧ (∀ r : Fin 8, s.chip.gwOn n.val r.val
       = false) ∧ s.chip.canMatches n.val (s.chip.canObj (128 * n.val + k.val)) f = true ∧ (∀ j : Fin 128, j.val < k.val →
       s.chip.canMatches n.val (s.chip.canObj (128 * n.val + j.val)) f = false)) ∧
    (let s : State := wit fun c => ((((c.setB (CAN_CTL_EN 11) true).set (CAN_STAT_BUSST 11) 0).set NMW_SEGSTAT_AWAKE 0xFFF))
     let n : Fin 12 := 11
     let f : CanFrame := { stamp := 9, fmt := 0, ide := false, id := 0x123, rtr := false, brs := false, vcid := 0, data := [1, 2, 3] }
     s.chip.zoneUp = true ∧ s.chip.can.jobs = [] ∧ s.chip.canTakes n.val f.fmt.val f.ide = true ∧ (∀ r : Fin 8, s.chip.gwOn n.val r.val
       = false) ∧ (∀ j : Fin 128, s.chip.canMatches n.val (s.chip.canObj (128 * n.val + j.val)) f = false)) ∧
    (let s : State := wit fun c => c.setB (CAN_CTL_EN 11) false
     let n : Fin 12 := 11
     let f : CanFrame := { stamp := 9, fmt := 0, ide := false, id := 0x123, rtr := false, brs := false, vcid := 0, data := [1, 2, 3] }
     s.chip.zoneUp = true ∧ s.chip.can.jobs = [] ∧ s.chip.canTakes n.val f.fmt.val f.ide = false) ∧
    (let s : State := wit fun c => ({ c with time := { c.time with frc := 1000000 } }).updCan fun b =>
       { b with objs := [(1535, { w0 := BitVec.ofNat 128 (2 ^ 127 + 2 ^ 116 + 2 ^ 96) })] }
     let n : Fin 12 := 11
     let o : Fin 128 := 127
     let x : CanObj := { w0 := BitVec.ofNat 128 (2 ^ 127 + 2 ^ 116 + 2 ^ 96) }
     s.chip.zoneUp = true ∧ s.chip.canObj (128 * n.val + o.val) = x ∧ x.valid = true ∧ x.isTx = false ∧ x.timeout ≠ 0 ∧ x.stale = false
       ∧ s.chip.due (x.lastStore + x.timeout * 1000000) = true) ∧
    (let s : State := wit fun c => ((((c.setB (CAN_CTL_EN 11) true).set (CAN_STAT_BUSST 11) 0).set NMW_SEGSTAT_AWAKE 0xFFF)).updCan fun
       b =>
       { b with objs := [(1534, { w0 := BitVec.ofNat 128 (2 ^ 127 + 2 ^ 126 + 2 * 2 ^ 64 + 0x124), tx := .pending }), (1535, { w0 := BitVec.ofNat 128 (2 ^ 127 + 2 ^ 126 + 2 * 2 ^ 64 + 0x123), tx := .pending, current := [(1, 7)] })] }
     let n : Fin 12 := 11
     let k : Nat := 127
     let x : CanObj := { w0 := BitVec.ofNat 128 (2 ^ 127 + 2 ^ 126 + 2 * 2 ^ 64 + 0x123), tx := .pending, current := [(1, 7)] }
     s.chip.zoneUp = true ∧ s.chip.flag (CAN_CTL_LISTEN n.val) = false ∧ look none s.chip.can.active n.val = none ∧ s.chip.canWinner
       n.val = some k ∧ s.chip.canObj (128 * n.val + k) = x ∧ x.isRef = false) ∧
    (let s : State := wit fun c => (c.set (CAN_ERR_TEC 11) 9).updCan fun b =>
       { b with active := [(11, some 127)], objs := [(1535, { w0 := BitVec.ofNat 128 (2 ^ 127 + 2 ^ 126 + 2 ^ 116), tx := .active, queued := true })] }
     let n : Fin 12 := 11
     let k : Nat := 127
     let x : CanObj := { w0 := BitVec.ofNat 128 (2 ^ 127 + 2 ^ 126 + 2 ^ 116), tx := .active, queued := true }
     s.chip.zoneUp = true ∧ look none s.chip.can.active n.val = some k ∧ s.chip.canObj (128 * n.val + k) = x ∧ (∀ r : Fin 8, s.chip.gwOn
       n.val (8 + r.val) = false)) ∧
    (let s : State := wit fun c => (c.set (CAN_ERR_TEC 11) 9).updCan fun b =>
       { b with active := [(11, some 127)], objs := [(1535, { w0 := BitVec.ofNat 128 (2 ^ 127 + 2 ^ 126 + 2 ^ 116), tx := .active, queued := true })] }
     let n : Fin 12 := 11
     let k : Nat := 127
     let x : CanObj := { w0 := BitVec.ofNat 128 (2 ^ 127 + 2 ^ 126 + 2 ^ 116), tx := .active, queued := true }
     s.chip.zoneUp = true ∧ look none s.chip.can.active n.val = some k ∧ s.chip.canObj (128 * n.val + k) = x ∧ x.oneshot = false) ∧
    (let s : State := wit fun c => (c.set (CAN_ERR_TEC 11) 9).updCan fun b =>
       { b with active := [(11, some 127)], objs := [(1535, { w0 := BitVec.ofNat 128 (2 ^ 127 + 2 ^ 126 + 2 ^ 120), tx := .active })] }
     let n : Fin 12 := 11
     let k : Nat := 127
     let x : CanObj := { w0 := BitVec.ofNat 128 (2 ^ 127 + 2 ^ 126 + 2 ^ 120), tx := .active }
     s.chip.zoneUp = true ∧ look none s.chip.can.active n.val = some k ∧ s.chip.canObj (128 * n.val + k) = x ∧ x.oneshot = true ∧ (∀ r :
       Fin 8, s.chip.gwOn n.val (8 + r.val) = false)) ∧
    (let s : State := wit fun c => (c.addAction { fire := 9, cls := 3, target := 1535, arg := 0 }).updCan fun b =>
       { b with objs := [(1535, { w0 := BitVec.ofNat 128 (2 ^ 127 + 2 ^ 126) })] }
     let n : Fin 12 := 11
     let o : Fin 128 := 127
     let x : Action := { fire := 9, cls := 3, target := 1535, arg := 0 }
     s.chip.zoneUp = true ∧ s.chip.dueAction 3 (128 * n.val + o.val) = some x ∧ (s.chip.canObj (128 * n.val + o.val)).transmits = true ∧
       s.chip.canOpen (128 * n.val + o.val) = true ∧ (s.chip.canObj (128 * n.val + o.val)).tx = .idle) ∧
    (let s : State := wit fun c => (c.set (CAN_STAT_BUSST 11) 1).updCan fun b =>
       { b with active := [(11, some 127)], objs := [(1535, { w0 := 5, tx := .active })] }
     let n : Fin 12 := 11
     let k : Nat := 127
     let x : CanObj := { w0 := 5, tx := .active }
     s.chip.zoneUp = true ∧ s.chip.get (CAN_STAT_BUSST n.val) < 2 ∧ look none s.chip.can.active n.val = some k ∧ s.chip.canObj (128 *
       n.val + k) = x) ∧
    (let s : State := wit fun c => (c.set (CAN_STAT_BUSST 11) 2).updCan fun b => { b with recovering := [(11, true)] }
     let n : Fin 12 := 11
     s.chip.zoneUp = true ∧ s.chip.get (CAN_STAT_BUSST n.val) = 2 ∧ look false s.chip.can.recovering n.val = true) ∧
    (let s : State := wit fun c => c.updCan fun b => { b with routes := [(183, { held := [[1, 2, 3]], seq := 255 })] }
     let n : Fin 12 := 11
     let r : Fin 8 := 7
     s.chip.zoneUp = true ∧ s.chip.can.jobs = [] ∧ (s.chip.gwRoute n.val r.val).held ≠ [] ∧ s.chip.due ((s.chip.gwRoute n.val
       r.val).since + bits (s.chip.gwWord n.val r.val 2) 127 112 * 1000) = true ∧ s.chip.flag (ESW_HQ_CFG_EN (s.chip.get (CAN_GWCFG_HQ
       n.val))) = false) ∧
    (let s : State := wit id
     let n : Fin 12 := 11
     let frame : List Byte := List.replicate 12 0 ++ [0x22, 0xF0, 0x82, 0x80, 0x00, 0x05, 0, 0, 0, 0, 0, 0, 0, 9]
     let stream : Nat := 9
     let body : List Byte := []
     s.chip.zoneUp = true ∧ ntscfBody frame = some (stream, body) ∧ (∀ r : Fin 8, s.chip.gwOn n.val (8 + r.val) = true → bits
       (s.chip.gwWord n.val (8 + r.val) 1) 63 0 ≠ stream)) ∧
    (let s : State := wit fun c => (((c.setB (CAN_GWCFG_EN 11) true).wrN (CAN_GWR 11 15 0) (2 ^ 127)).wrN (CAN_GWR 11 15 1) 9).updCan
       fun b => { b with objs := [(1408, { tx := .active })] }
     let n : Fin 12 := 11
     let frame : List Byte := List.replicate 12 0 ++ [0x22, 0xF0, 0x82, 0x80, 0x14, 0x05, 0, 0, 0, 0, 0, 0, 0, 9] ++ [2, 5, 0x60, 0, 0,
       0, 0, 0, 0, 0, 0, 0, 0, 0, 1, 0x23, 7, 8, 9, 0]
     let stream : Nat := 9
     let body : List Byte := [2, 5, 0x60, 0, 0, 0, 0, 0, 0, 0, 0, 0, 0, 0, 1, 0x23, 7, 8, 9, 0]
     let m : CanMsg := { id := 0x123, ide := false, fd := false, brs := false, data := [7, 8, 9] }
     let r : Fin 8 := 7
     s.chip.zoneUp = true ∧ ntscfBody frame = some (stream, body) ∧ acfMessages (s.chip.get (CAN_GWCFG_BUSID n.val)) 512 body = [m] ∧
       s.chip.gwOn n.val (8 + r.val) = true ∧ bits (s.chip.gwWord n.val (8 + r.val) 1) 63 0 = stream ∧ (∀ q : Fin 8, q ≠ r → s.chip.gwOn
       n.val (8 + q.val) = false) ∧ (s.chip.gwRoute n.val (8 + r.val)).fifo.length < 32 ∧ (s.chip.canObj (128 * n.val + s.chip.gwWord
       n.val (8 + r.val) 3 % 128)).tx ≠ .idle) := by
  refine ⟨?_, ?_, ?_, ?_, ?_, ?_, ?_, ?_, ?_, ?_, ?_, ?_, ?_, ?_⟩
  all_goals decide +kernel

theorem wit_lin_commanders :
    (let s : State := wit fun c => ((((c.setB (LIN_CTL_EN 7) true).setB (LIN_CTL_MODE 7) false).setB (LIN_STAT_ASLEEP 7) false).setB
       (LIN_ENT_VALID 7 3) true |>.set (LIN_SCH_SCHEND 7) 5 |>.set (LIN_STAT_ENTRY 7) 2).updCan fun b =>
       { b with linSlot := [(7, some 1000000)], linRange := [(7, (0, 5))] }
     let n : Fin 8 := 7
     let u : Nat := 1000000
     let e : Nat := 3
     s.chip.zoneUp = true ∧ s.chip.flag (LIN_CTL_EN n.val) = true ∧ s.chip.flag (LIN_CTL_MODE n.val) = false ∧ s.chip.flag
       (LIN_STAT_ASLEEP n.val) = false ∧ look none s.chip.can.linSlot n.val = some u ∧ u ≤ s.chip.frc ∧ s.chip.linNext n.val (look false
       s.chip.can.linFirst n.val) = e ∧ s.chip.flag (LIN_ENT_VALID n.val e) = true ∧ s.chip.get (LIN_ENT_TYPE n.val e) ≠ 2) ∧
    (let s : State := wit fun c => (((((c.addAction { fire := 9, cls := 3, target := 6143, arg := 0 }).setB (LIN_CTL_EN 7) true).setB
       (LIN_CTL_MODE 7) true).setB (LIN_ENT_VALID 7 255) true).set NMW_SEGSTAT_AWAKE 0xFFFFF).setB (LIN_STAT_BUSY 7) true
     let n : Fin 8 := 7
     let e : Fin 256 := 255
     let x : Action := { fire := 9, cls := 3, target := 6143, arg := 0 }
     s.chip.zoneUp = true ∧ s.chip.dueAction 3 (0x1000 + 256 * n.val + e.val) = some x ∧ s.chip.flag (LIN_CTL_EN n.val) = true ∧
       s.chip.flag (LIN_CTL_MODE n.val) = true ∧ s.chip.flag (LIN_ENT_VALID n.val e.val) = true ∧ s.chip.segAwake (12 + n.val) = true ∧
       s.chip.flag (LIN_STAT_BUSY n.val) = true) ∧
    (let s : State := wit fun c => (((((c.addAction { fire := 9, cls := 3, target := 6143, arg := 0 }).setB (LIN_CTL_EN 7) true).setB
       (LIN_CTL_MODE 7) true).setB (LIN_ENT_VALID 7 255) true).set NMW_SEGSTAT_AWAKE 0xFFFFF).setB (LIN_STAT_BUSY 7) false
     let n : Fin 8 := 7
     let e : Fin 256 := 255
     let x : Action := { fire := 9, cls := 3, target := 6143, arg := 0 }
     s.chip.zoneUp = true ∧ s.chip.dueAction 3 (0x1000 + 256 * n.val + e.val) = some x ∧ s.chip.flag (LIN_CTL_EN n.val) = true ∧
       s.chip.flag (LIN_CTL_MODE n.val) = true ∧ s.chip.flag (LIN_ENT_VALID n.val e.val) = true ∧ s.chip.segAwake (12 + n.val) = true ∧
       s.chip.flag (LIN_STAT_BUSY n.val) = false ∧ s.chip.get (LIN_ENT_TYPE n.val e.val) ≠ 2) ∧
    (let s : State := wit fun c => (((((c.addAction { fire := 9, cls := 3, target := 6143, arg := 0 }).setB (LIN_CTL_EN 7) true).setB
       (LIN_CTL_MODE 7) true).setB (LIN_ENT_VALID 7 255) true).set NMW_SEGSTAT_AWAKE 0x0FFFF)
     let n : Fin 8 := 7
     let e : Fin 256 := 255
     let x : Action := { fire := 9, cls := 3, target := 6143, arg := 0 }
     s.chip.zoneUp = true ∧ s.chip.dueAction 3 (0x1000 + 256 * n.val + e.val) = some x ∧ s.chip.flag (LIN_CTL_EN n.val) = true ∧
       s.chip.flag (LIN_CTL_MODE n.val) = true ∧ s.chip.flag (LIN_ENT_VALID n.val e.val) = true ∧ s.chip.segAwake (12 + n.val) = false) ∧
    (let s : State := wit fun c => ((c.set (LIN_ENT_BUF 7 255) 63).set (LIN_ENT_LEN 7 255) 7 |>.setB (LIN_STAT_BUSY 7) true).updCan fun
       b => { b with linOn := [(7, some 255)] }
     let n : Fin 8 := 7
     let e : Nat := 255
     let b : Nat := 63
     s.chip.zoneUp = true ∧ look none s.chip.can.linOn n.val = some e ∧ e < 256 ∧ s.chip.get (LIN_ENT_BUF n.val e) = b ∧ s.chip.flag
       (LIN_ENT_PUB n.val e) = false ∧ look none s.chip.can.linWait n.val = none) ∧
    (let s : State := wit fun c => ((c.set (LIN_ENT_BUF 7 255) 63).set (LIN_ENT_LEN 7 255) 7 |>.setB (LIN_STAT_BUSY 7) true).updCan fun
       b => { b with linOn := [(7, some 255)] }
     let n : Fin 8 := 7
     let r : LinResult := .missing
     let e : Nat := 255
     let b : Nat := 63
     s.chip.zoneUp = true ∧ r ≠ .good ∧ look none s.chip.can.linOn n.val = some e ∧ e < 256 ∧ s.chip.get (LIN_ENT_BUF n.val e) = b ∧
       look none s.chip.can.linWait n.val = none) ∧
    (let s : State := wit fun c => (c.own 8 7 3).setB (LIN_CTL_EN 7) true
     let n : Fin 8 := 7
     let a : Agent := hart 3
     let v : W32 := 0xA0004B00
     s.chip.admits a = true ∧ s.chip.claims (s.chip.worldOfAgent a) 8 n.val = true ∧ (bits v.toNat 31 28 = 0xA ∨ bits v.toNat 31 28 =
       0xE) ∧ s.chip.flag (LIN_CTL_EN n.val) = true) ∧
    (let s : State := wit fun c => ((c.own 8 7 3).setB (LIN_CTL_EN 7) true).wrN (LIN_CNT 7) 5
     let n : Fin 8 := 7
     let a : Agent := hart 3
     let v : W32 := 0x90004B00
     s.chip.admits a = true ∧ s.chip.claims (s.chip.worldOfAgent a) 8 n.val = true ∧ bits v.toNat 29 28 = 1 ∧ bit v.toNat 31 =
       s.chip.flag (LIN_CTL_EN n.val)) ∧
    (let s : State := wit fun c => c.own 8 7 3
     let n : Fin 8 := 7
     let a : Agent := hart 3
     let v : W128 := BitVec.ofNat 128 (2 ^ 73 + 0x1234)
     s.chip.admits a = true ∧ s.chip.claims (s.chip.worldOfAgent a) 8 n.val = true ∧ bit v.toNat 73 = true) ∧
    (let s : State := wit fun c => c.own 8 7 3
     let n : Fin 8 := 7
     let a : Agent := hart 2
     s.chip.admits a = true ∧ s.chip.claims (s.chip.worldOfAgent a) 8 n.val = false) ∧
    (let s : State := wit fun c => c.setB (LIN_STAT_ASLEEP 7) false
     let n : Fin 8 := 7
     s.chip.zoneUp = true ∧ s.chip.flag (LIN_STAT_ASLEEP n.val) = false) := by
  refine ⟨?_, ?_, ?_, ?_, ?_, ?_, ?_, ?_, ?_, ?_, ?_⟩
  all_goals decide +kernel

theorem wit_input_filters_and_capture :
    (let s : State := wit fun c => c.setB (NMW_DIN_CFG_IRQ 47) true
     let i : Fin 72 := 47
     let first : W64 := 20000
     s.chip.zoneUp = true ∧ i.val < 48 ∧ s.chip.runDone i.val first.toNat = true ∧ s.chip.dinBad i.val = false) ∧
    (let s : State := wit fun c => c.set NMW_LSWSTAT_FLT 0xFF
     let i : Fin 72 := 55
     i.val < 56 ∧ s.chip.inputBad i.val = true) ∧
    (let s : State := wit fun c => c.setB (NMW_WAKE_CFG_EN 15) true
     let i : Fin 72 := 71
     let first : W64 := 20000
     56 ≤ i.val ∧ s.chip.runDone i.val first.toNat = true) ∧
    (let s : State := wit id
     let i : Fin 56 := 47
     let first : W64 := 20000
     s.chip.zoneUp = true ∧ s.chip.runDone i.val first.toNat = true) ∧
    (let s : State := wit fun c => (c.own 10 0 1).set NMW_SLP_STAT_STATE 3
     let a : Agent := hart 1
     let i : Fin 72 := 48
     let v : W32 := 0xC4010A64
     let x : Nat := 0xC4010A64
     s.chip.admits a = true ∧ s.chip.inputClaimed (s.chip.worldOfAgent a) i.val = true ∧ inputCfgValue i.val v.toNat = some x ∧
       s.chip.slState = slENTRY) ∧
    (let s : State := wit fun c => (c.own 11 15 1)
     let a : Agent := hart 2
     let i : Fin 72 := 71
     s.chip.admits a = true ∧ s.chip.inputClaimed (s.chip.worldOfAgent a) i.val = false) ∧
    (let s : State := wit fun c => { c.set (NMW_LSW_CFG_WET 7) 1 with pmu := { c.pmu with power := .sleep } }
     let n : Fin 8 := 7
     let level : Bool := true
     s.chip.pmu.power ≠ .run ∧ s.chip.get (NMW_LSW_CFG_WET n.val) ≠ 0 ∧ level ≠ s.chip.lswBit n.val ∧ look 0 s.chip.nmw.polls n.val = 0) ∧
    (let s : State := wit fun c =>
       { c.set (NMW_LSW_CFG_WET 7) 1 with pmu := { c.pmu with power := .sleep }, nmw := { c.nmw with polls := [(7, 1)] } }
     let n : Fin 8 := 7
     let level : Bool := true
     s.chip.pmu.power ≠ .run ∧ s.chip.get (NMW_LSW_CFG_WET n.val) ≠ 0 ∧ level ≠ s.chip.lswBit n.val ∧ look 0 s.chip.nmw.polls n.val = 1) ∧
    (let s : State := wit fun c => (c.setB (NMW_PX_CFG_FIFOEN 15) true)
     let n : Fin 16 := 15
     s.chip.zoneUp = true ∧ s.chip.flag (NMW_PX_CFG_FIFOEN n.val) = true ∧ (look [] s.chip.nmw.pxFifo n.val).length < 16 ∧ (∀ b : Fin
       16, s.chip.flag (PB_CTL_EN b.val) = false)) ∧
    (let s : State := wit fun c =>
       { (c.setB (NMW_PX_CFG_FIFOEN 15) true) with nmw := { c.nmw with pxFifo := [(15, List.replicate 16 1)] } }
     let n : Fin 16 := 15
     s.chip.zoneUp = true ∧ s.chip.flag (NMW_PX_CFG_FIFOEN n.val) = true ∧ 16 ≤ (look [] s.chip.nmw.pxFifo n.val).length) ∧
    (let s : State := wit fun c => { c with nmw := { c.nmw with pxFifo := [(15, List.replicate 16 1)] } }
     let a : Agent := hart 3
     s.chip.admits a = true) := by
  refine ⟨?_, ?_, ?_, ?_, ?_, ?_, ?_, ?_, ?_, ?_, ?_⟩
  all_goals decide +kernel

theorem wit_converters :
    (let s : State := wit fun c => c.own 12 1 2
     let k : Fin 2 := 1
     let a : Agent := hart 2
     let v : W32 := 0x13F
     s.chip.admits a = true ∧ bit v.toNat 8 = (k.val == 1) ∧ s.chip.claims (s.chip.worldOfAgent a) 12 k.val = true) ∧
    (let s : State := wit id
     let k : Fin 2 := 1
     let a : Agent := hart 2
     let v : W32 := 0x13F
     s.chip.admits a = true ∧ bit v.toNat 8 = (k.val == 1) ∧ s.chip.claims (s.chip.worldOfAgent a) 12 k.val = false) ∧
    (let s : State := wit fun c => ((c.addAction { fire := 9, cls := 2, target := 1, arg := 63 }).setB (AIN_SEQ_VALID 63) true).set
       AIN_CTL_EN 3
     let k : Fin 2 := 1
     let x : Action := { fire := 9, cls := 2, target := 1, arg := 63 }
     s.chip.zoneUp = true ∧ s.chip.dueAction 2 k.val = some x ∧ s.chip.flag (AIN_SEQ_VALID (x.arg % 64)) = true ∧ bit (s.chip.get
       AIN_CTL_EN) k.val = true ∧ (s.chip.conv k.val).seq = none) ∧
    (let s : State := wit fun c => (((c.addAction { fire := 9, cls := 2, target := 1, arg := 63 }).setB (AIN_SEQ_VALID 63) true).set
       AIN_CTL_EN 3).updConv 1 fun v => { v with seq := some 4 }
     let k : Fin 2 := 1
     let x : Action := { fire := 9, cls := 2, target := 1, arg := 63 }
     s.chip.zoneUp = true ∧ s.chip.dueAction 2 k.val = some x ∧ s.chip.flag (AIN_SEQ_VALID (x.arg % 64)) = true ∧ bit (s.chip.get
       AIN_CTL_EN) k.val = true ∧ (s.chip.conv k.val).seq ≠ none ∧ (s.chip.conv k.val).queued = none) ∧
    (let s : State := wit fun c => (((c.addAction { fire := 9, cls := 2, target := 1, arg := 63 }).setB (AIN_SEQ_VALID 63) true).set
       AIN_CTL_EN 3).updConv 1 fun v => { v with seq := some 4, queued := some 5 }
     let k : Fin 2 := 1
     let x : Action := { fire := 9, cls := 2, target := 1, arg := 63 }
     s.chip.zoneUp = true ∧ s.chip.dueAction 2 k.val = some x ∧ s.chip.flag (AIN_SEQ_VALID (x.arg % 64)) = true ∧ bit (s.chip.get
       AIN_CTL_EN) k.val = true ∧ (s.chip.conv k.val).seq ≠ none ∧ (s.chip.conv k.val).queued ≠ none) ∧
    (let s : State := wit fun c => (c.addAction { fire := 9, cls := 2, target := 1, arg := 63 })
     let k : Fin 2 := 1
     let x : Action := { fire := 9, cls := 2, target := 1, arg := 63 }
     s.chip.zoneUp = true ∧ s.chip.dueAction 2 k.val = some x ∧ s.chip.flag (AIN_SEQ_VALID (x.arg % 64)) = false) ∧
    (let s : State := wit fun c => (((c.set (AIN_SEQ_FIRST 63) 254).set (AIN_SEQ_STEPS 63) 3).set (AIN_STEP_SMP 1) 5 |>.set (AIN_STEP_CH
       1) 31).updConv 1 fun _ => { seq := some 63, step := 3, opened := 900000 }
     let k : Fin 2 := 1
     let v : AinConv := { seq := some 63, step := 3, opened := 900000 }
     let q : Nat := 63
     let i : Nat := 1
     let ch : Nat := 31
     let d : Nat := 1050
     s.chip.zoneUp = true ∧ s.chip.conv k.val = v ∧ v.seq = some q ∧ v.ended = false ∧ v.opened < 2 ^ 64 ∧ q < 64 ∧ s.chip.convStep
       k.val q = i ∧ d = s.chip.get (AIN_STEP_SMP i) * 50 + 800 ∧ s.chip.due (v.opened + d) = true ∧ s.chip.get (AIN_STEP_CH i) = ch ∧
       ch < 32 ∧ s.chip.flag (AIN_CH_LIMEN ch) = false ∧ (s.chip.flag (AIN_RES_VALID ch) = false ∨ s.chip.get (AIN_RES_FRC ch) <
       v.opened)) ∧
    (let s : State := wit fun c => (c.setB (AIN_SEQ_IRQ 63) true).updConv 1 fun _ =>
       { seq := some 63, step := 4, opened := 900000, ended := true, queued := some 5 }
     let k : Fin 2 := 1
     let v : AinConv := { seq := some 63, step := 4, opened := 900000, ended := true, queued := some 5 }
     let q : Nat := 63
     let p : Nat := 5
     s.chip.zoneUp = true ∧ s.chip.conv k.val = v ∧ v.seq = some q ∧ v.ended = true ∧ v.queued = some p ∧ q < 64 ∧ p < 64) ∧
    (let s : State := wit fun c => (c.setB (AIN_SEQ_IRQ 63) true).updConv 1 fun _ =>
       { seq := some 63, step := 4, opened := 900000, ended := true }
     let k : Fin 2 := 1
     let v : AinConv := { seq := some 63, step := 4, opened := 900000, ended := true }
     let q : Nat := 63
     s.chip.zoneUp = true ∧ s.chip.conv k.val = v ∧ v.seq = some q ∧ v.ended = true ∧ v.queued = none ∧ q < 64) := by
  refine ⟨?_, ?_, ?_, ?_, ?_, ?_, ?_, ?_, ?_⟩
  all_goals decide +kernel

theorem wit_segments_wakes_and_votes :
    (let s : State := wit fun c => ((c.own 7 11 1).set NMW_SEGISO_ISO 1).set NMW_SEGSTAT_AWAKE 0xFFF
     let a : Agent := hart 1
     let v : W128 := 0x801
     let g : Nat := 11
     s.chip.admits a = true ∧ s.chip.esw.jobs = [] ∧ g < 12 ∧ s.chip.claims (s.chip.worldOfAgent a) 7 g = true ∧ v.toNat % 2 ^ 42 =
       setBit (s.chip.get NMW_SEGISO_ISO) g true ∧ s.chip.segAwake g = true ∧ look none s.chip.can.active g = none) ∧
    (let s : State := wit fun c => ((c.own 8 7 1).set NMW_SEGISO_ISO 0x80001).set NMW_SEGSTAT_AWAKE 0xFFF
     let a : Agent := hart 1
     let v : W128 := 0x1
     let g : Nat := 19
     s.chip.admits a = true ∧ s.chip.esw.jobs = [] ∧ 12 ≤ g ∧ g < 20 ∧ s.chip.claims (s.chip.worldOfAgent a) 8 (g - 12) = true ∧ v.toNat
       % 2 ^ 42 = setBit (s.chip.get NMW_SEGISO_ISO) g false ∧ s.chip.segIso g = true ∧ s.chip.segAwake g = false) ∧
    (let s : State := wit id
     let a : Agent := hart 1
     let v : W128 := 0x20000000000
     let g : Fin 42 := 41
     s.chip.admits a = true ∧ s.chip.esw.jobs = [] ∧ s.chip.segRefusal (s.chip.worldOfAgent a) g.val = some stDENIED_WORLD ∧ v.toNat % 2
       ^ 42 = setBit (s.chip.get NMW_SEGISO_ISO) g.val (!s.chip.segIso g.val)) ∧
    (let s : State := wit fun c => { c with nmw := { c.nmw with fired := [3, 15] } }
     let code : Fin 24 := 15
     code.val < 16 ∧ s.chip.nmw.fired.contains code.val = true ∧ s.chip.notInhibited code.val = true ∧ s.chip.pmu.power = .run ∧
       s.chip.slState = slAWAKE ∧ s.chip.nmw.guard = false) ∧
    (let s : State := wit id
     let code : Fin 24 := 15
     s.chip.nmw.fired.contains code.val = false) ∧
    (let s : State := wit fun c => (c.set NMW_SEGISO_ISO 0x3FFFFFFFFFF).set NMW_SEGSTAT_AWAKE 0
     let st : State := s
     let g : Fin 42 := 41
     st = s ∧ s.chip.segAwake g.val = false ∧ s.chip.pmu.power ≠ .deep ∧ s.chip.segIso g.val = true) ∧
    (let s : State := wit fun c => ((c.set NMW_SEGBWK_BWK 0x3FFFFFFFFFF).set NMW_SEGSTAT_AWAKE 0).set NMW_SLP_STAT_STATE 2
     let g : Fin 42 := 41
     s.chip.segAwake g.val = false ∧ s.chip.pmu.power = .run ∧ s.chip.segIso g.val = false ∧ bit (s.chip.get NMW_SEGBWK_BWK) g.val =
       true ∧ s.chip.notInhibited (32 + g.val) = true ∧ s.chip.slState = slPREPARE ∧ s.chip.nmw.guard = false) ∧
    (let s : State := wit fun c => { c.set NMW_SLPTMR_S 1 with now := 2000000000, pmu := { c.pmu with power := .deep } }
     s.chip.pmu.power ≠ .run ∧ s.chip.get NMW_SLPTMR_S ≠ 0 ∧ s.chip.pmu.sleptAt + s.chip.get NMW_SLPTMR_S * 1000000000 ≤ s.chip.now ∧
       s.chip.pmu.wake = none) ∧
    (let s : State := wit fun c => { c.set NMW_VALWIN_FWLIM 0 with nmw := { c.nmw with hold := some 9, holdSrc := some 73 } }
     let code : Nat := 73
     s.chip.zoneUp = true ∧ s.chip.pmu.power = .run ∧ s.chip.dueAt s.chip.nmw.hold = true ∧ s.chip.nmw.validated = false ∧
       s.chip.nmw.holdSrc = some code ∧ code < 74 ∧ s.chip.get NMW_VALWIN_FWLIM = 0) ∧
    (let s : State := wit fun c => { c with nmw := { c.nmw with hold := some 9, holdSrc := some 73 } }
     let a : Agent := hart 1
     let v : W32 := 3
     s.chip.admits a = true ∧ s.chip.worldOfAgent a = 1 ∧ bits v.toNat 2 1 = 1 ∧ s.chip.nmw.hold ≠ none) ∧
    (let s : State := wit fun c => (c.wrN (NMW_KALOG 63 0) 9).wrN NMW_KASTAT 9
     let a : Agent := hart 1
     let v : W32 := 5
     s.chip.admits a = true ∧ s.chip.worldOfAgent a = 1 ∧ bits v.toNat 2 1 = 2) ∧
    (let s : State := wit id
     let a : Agent := hart 4
     s.chip.admits a = true ∧ 1 ≤ s.chip.worldOfAgent a ∧ s.chip.worldOfAgent a ≤ 4) ∧
    (let s : State := wit fun c => (c.set NMW_SLP_STAT_STATE 1).set NMW_SLP_TIM_TREADY 0
     s.chip.zoneUp = true ∧ s.chip.slState = slREADY ∧ s.chip.due (s.chip.nmw.readyAt + s.chip.get NMW_SLP_TIM_TREADY * 1000000) = true) ∧
    (let s : State := wit fun c => ((c.set NMW_SLP_STAT_STATE 2).set NMW_SEGSTAT_AWAKE 0xFFFFF).set NMW_SLP_TIM_TPREP 2
     s.chip.zoneUp = true ∧ s.chip.slState = slPREPARE ∧ s.chip.nmw.guard = false ∧ s.chip.due (s.chip.commitPoint - 2000000) = true) ∧
    (let s : State := wit fun c => ((((((c.set NMW_SLP_STAT_STATE 2).set NMW_SEGSTAT_AWAKE 0xFFFFF).setB (NMW_KAF_VALID 15) true).set
       (NMW_KAF_SEG 15) 11).set (NMW_KAF_ID 15) 0x123).set (NMW_KAF_MASK 15) 0x1FFFFFFF).set (NMW_KAF_KAOFS 15) 0xFF
     let g : Fin 42 := 11
     let id : Nat := 0x123
     let sender : Nat := 0
     let sa : Nat := 0x23
     let payload : List Byte := []
     s.chip.zoneUp = true ∧ s.chip.segAwake g.val = true ∧ ((List.range 16).findSome? (fun f => s.chip.kaMatch f g.val id sender
       payload) = some sa) ∧ s.chip.slState = slPREPARE ∧ s.chip.nmw.guard = false) := by
  refine ⟨?_, ?_, ?_, ?_, ?_, ?_, ?_, ?_, ?_, ?_, ?_, ?_, ?_, ?_, ?_⟩
  all_goals decide +kernel

theorem wit_cores_comparators_and_events :
    (let s : State := wit id
     s.chip.zoneUp = true) ∧
    (let s : State := wit fun c => c.setB (CMP_P_STAT_MODE 3) true
     let p : Fin 4 := 3
     let nlanes : Fin 4096 := 1
     s.chip.zoneUp = true ∧ s.chip.comparing p.val = true ∧ 0 < nlanes.val ∧ s.chip.flag (CMP_P_MM_VALID p.val) = false) ∧
    (let s : State := wit id
     let p : Fin 4 := 3
     s.chip.zoneUp = true ∧ s.chip.comparing p.val = false) ∧
    (let s : State := wit fun c => (c.setB (CMP_P_STAT_MODE 3) true).setB (CMP_P_INJRES_DONE 3) true
     let a : Agent := hart 2
     let p : Fin 4 := 3
     let v : W32 := 0x80000FFF
     s.chip.admits a = true ∧ s.chip.worldOfAgent a = 2 ∧ bit v.toNat 31 = true ∧ s.chip.flag (CMP_P_INJRES_DONE p.val) = true ∧
       s.chip.mitten p.val = true) ∧
    (let s : State := wit fun c => (c.setB (CMP_P_STAT_MODE 3) true).setB (CMP_P_INJRES_DONE 3) false
     let a : Agent := hart 2
     let p : Fin 4 := 3
     let v : W32 := 0x80000FFF
     s.chip.admits a = true ∧ s.chip.worldOfAgent a = 2 ∧ bit v.toNat 31 = true ∧ s.chip.flag (CMP_P_INJRES_DONE p.val) = false) ∧
    (let s : State := wit fun c => { c with core := { c.core with injections := [(3, some { lane := 5 })] } }
     let p : Fin 4 := 3
     let i : Injection := { lane := 5 }
     s.chip.zoneUp = true ∧ look none s.chip.core.injections p.val = some i) ∧
    (let s : State := wit fun c => c.wrN (CMP_P_MM 3) 9
     let a : Agent := hart 2
     let v : W32 := 1
     s.chip.admits a = true ∧ s.chip.worldOfAgent a = 2 ∧ bit v.toNat 0 = true) ∧
    (let s : State := wit fun c => c.wrN (CMP_C_ECC 7) 9
     let a : Agent := hart 2
     let v : W32 := 1
     s.chip.admits a = true ∧ s.chip.worldOfAgent a = 2 ∧ bit v.toNat 0 = true) ∧
    (let s : State := wit fun c => c.own 16 7 3
     let a : Agent := hart 3
     let v : W32 := 1023
     s.chip.admits a = true ∧ 896 ≤ v.toNat % 1024 ∧ s.chip.claims (s.chip.worldOfAgent a) 16 ((v.toNat % 1024 - 896) / 16) = true) ∧
    (let s : State := wit fun c => c.own 16 7 3
     let a : Agent := hart 2
     let v : W32 := 1023
     s.chip.admits a = true ∧ 896 ≤ v.toNat % 1024 ∧ s.chip.claims (s.chip.worldOfAgent a) 16 ((v.toNat % 1024 - 896) / 16) = false) ∧
    (let s : State := wit fun c => (c.own 16 7 3).raise 1023
     let a : Agent := hart 3
     let v : W32 := 1023
     s.chip.admits a = true ∧ s.chip.eventOwner (v.toNat % 1024) = some (s.chip.worldOfAgent a)) ∧
    (let s : State := wit fun c => (c.own 16 7 3).raise 1023
     let a : Agent := hart 2
     let v : W32 := 1023
     s.chip.admits a = true ∧ s.chip.eventOwner (v.toNat % 1024) ≠ some (s.chip.worldOfAgent a)) := by
  refine ⟨?_, ?_, ?_, ?_, ?_, ?_, ?_, ?_, ?_, ?_, ?_, ?_⟩
  all_goals decide +kernel

theorem wit_supply_bands :
    (let s : State := wit id
     let v : BitVec 16 := 3601
     s.chip.zoneUp = true ∧ 3600 < v.toNat) ∧
    (let s : State := wit id
     let v : BitVec 16 := 3600
     v.toNat ≤ 3600) ∧
    (let s : State := wit id
     let v : BitVec 16 := 579
     v.toNat < 580 ∧ s.chip.pmu.uvz = false ∧ s.chip.pmu.power = .run) ∧
    (let s : State := wit fun c => { c with pmu := { c.pmu with uvz := true } }
     let v : BitVec 16 := 600
     (v.toNat ≤ 600 ∨ s.chip.pmu.uvz = false)) ∧
    (let s : State := wit fun c =>
       { c with pmu := { c.pmu with uvz := true }, rst := { c.rst with episode := some 3, sources := [.uvz, .thermal] } }
     let v : BitVec 16 := 601
     600 < v.toNat ∧ s.chip.pmu.uvz = true ∧ s.chip.rst.sources.erase .uvz ≠ []) ∧
    (let s : State := wit id
     let v : BitVec 16 := 449
     v.toNat < 450 ∧ s.chip.pmu.uvh = false) ∧
    (let s : State := wit fun c => { c with pmu := { c.pmu with uvh := true }, time := { c.time with stopped := true } }
     let v : BitVec 16 := 471
     470 < v.toNat ∧ s.chip.pmu.uvh = true ∧ s.chip.pmu.power = .run ∧ s.chip.time.stopped = true) ∧
    (let s : State := wit id
     let v : BitVec 16 := 399
     v.toNat < 400) ∧
    (let s : State := wit id
     let v : BitVec 16 := 400
     400 ≤ v.toNat) ∧
    (let s : State := wit id
     s.chip.zoneUp = true) ∧
    (let s : State := wit fun c => { c with variantH := true, hbx := { c.hbx with power := .standby } }
     s.chip.variantH = true ∧ s.chip.hbx.power ≠ .off ∧ s.chip.hbx.power ≠ .backup) ∧
    (let s : State := wit fun c => { c with variantH := false }
     s.chip.variantH = false) ∧
    (let s : State := wit fun c => { c with variantH := true }
     let mv : BitVec 16 := 2199
     s.chip.zoneUp = true ∧ s.chip.variantH = true ∧ mv.toNat < 2200) ∧
    (let s : State := wit fun c => c.setB PMU_CTL_AUTOTHR true |>.set PMU_THR_TWARN 119
     let x : BitVec 10 := 120
     s.chip.zoneUp = true ∧ (s.chip.get PMU_THR_TWARN : Int) < signed 10 x.toNat) ∧
    (let s : State := wit fun c => c.setB PMU_STAT_THROT true |>.set PMU_THR_TWARN 119
     let x : BitVec 10 := 113
     s.chip.zoneUp = true ∧ signed 10 x.toNat < (s.chip.get PMU_THR_TWARN : Int) - 5 ∧ s.chip.flag PMU_STAT_THROT = true) ∧
    (let s : State := wit id
     let supply : Bool := true
     let x : BitVec 10 := 149
     signed 10 x.toNat < (if supply then 150 else 125)) ∧
    (let s : State := wit id
     let x : BitVec 10 := 125
     s.chip.pmu.power = .run ∧ 125 ≤ signed 10 x.toNat ∧ s.chip.rst.episode = none) ∧
    (let s : State := wit id
     let x : BitVec 10 := 106
     s.chip.zoneUp = true ∧ 105 < signed 10 x.toNat) ∧
    (let s : State := wit fun c => c.set PMU_PWRLIM_LIM 23
     let zone : W32 := 900
     let stage : W32 := 800
     let supply : W32 := 700
     s.chip.zoneUp = true ∧ zone.toNat + stage.toNat + supply.toNat < 2 ^ 32 ∧ s.chip.powerOver (s.chip.get PMU_PWR_TOTAL) = false) ∧
    (let s : State := wit id
     let a : Agent := hart 1
     let v : W32 := 0xE
     s.chip.admits a = true ∧ s.chip.worldOfAgent a = 1 ∧ bits v.toNat 1 0 = 2) ∧
    (let s : State := wit fun c => c.wrN PMU_CNT 9
     let a : Agent := hart 1
     let v : W32 := 0xD
     s.chip.admits a = true ∧ s.chip.worldOfAgent a = 1 ∧ bits v.toNat 1 0 = 1) ∧
    (let s : State := wit id
     let a : Agent := hart 2
     s.chip.admits a = true ∧ s.chip.worldOfAgent a ≠ 1) := by
  refine ⟨?_, ?_, ?_, ?_, ?_, ?_, ?_, ?_, ?_, ?_, ?_, ?_, ?_, ?_, ?_, ?_, ?_, ?_, ?_, ?_, ?_, ?_⟩
  all_goals decide +kernel

theorem wit_sleep_and_wake :
    (let s : State := wit fun c => { (c.set NMW_SLP_STAT_STATE 2).set NMW_SLP_TIM_TPREP 0 with nmw := { c.nmw with guard := true } }
     s.chip.zoneUp = true ∧ s.chip.slState = slPREPARE ∧ s.chip.nmw.guard = true ∧ s.chip.due s.chip.commitPoint = true) ∧
    (let s : State := wit id
     s.chip.zoneUp = true ∧ s.chip.esw.jobs = [] ∧ (s.chip.slState ≠ slPREPARE ∨ s.chip.nmw.guard = false)) ∧
    (let s : State := wit fun c => { c with pmu := { c.pmu with flushing := true }, nmw := { c.nmw with latched := some 3 } }
     s.chip.zoneUp = true ∧ s.chip.pmu.flushing = true ∧ s.chip.flag PMU_CTL_DEEPNEXT = false) ∧
    (let s : State := wit id
     s.chip.zoneUp = true ∧ s.chip.pmu.flushing = false) ∧
    (let s : State := wit fun c => { c.set PMU_DEEP_PARKLOW 900 with pmu := { c.pmu with power := .sleep } }
     let below : Nat := 60000000000
     s.chip.pmu.power = .sleep ∧ s.chip.pmu.wake = none ∧ 60000000000 ≤ below ∧ s.chip.get PMU_DEEP_PARKLOW ≠ 0) ∧
    (let s : State := wit fun c => { c.set PMU_DEEP_PARKLOW 900 with pmu := { c.pmu with power := .sleep } }
     let below : Nat := 59999999999
     (s.chip.pmu.power ≠ .sleep ∨ s.chip.pmu.wake ≠ none ∨ (s.chip.get PMU_DEEP_DTMR = 0 ∧ below < 60000000000))) ∧
    (let s : State := wit fun c => { c with pmu := { c.pmu with rebuild := true } }
     s.chip.zoneUp = true ∧ s.chip.pmu.rebuild = true) ∧
    (let s : State := wit id
     (s.chip.pmu.power ≠ .sleep ∨ s.chip.pmu.uvz = true ∨ s.chip.pmu.wake = none)) ∧
    (let s : State := wit fun c =>
       { c with pmu := { c.pmu with power := .sleep, sealed := true, wake := some (24, false) }, time := { c.time with stopped := true } }
     let k : Nat := 24
     let late : Bool := false
     s.chip.pmu.power = .sleep ∧ s.chip.pmu.uvz = false ∧ s.chip.pmu.wake = some (k, late) ∧ s.chip.pmu.sealed = true ∧ s.chip.jstate ≠
       jINSTALLING ∧ s.chip.jstate ≠ jPREPARED ∧ s.chip.jstate ≠ jTRIAL) ∧
    (let s : State := wit fun c =>
       { c with pmu := { c.pmu with power := .sleep, sealed := true, wake := some (24, false) }, time := { c.time with stopped := true } }
     let good : Bool := false
     let k : Nat := 24
     let late : Bool := false
     s.chip.pmu.power = .sleep ∧ s.chip.pmu.uvz = false ∧ s.chip.pmu.wake = some (k, late) ∧ (good = false ∨ s.chip.pmu.sealed = false)
       ∧ s.chip.jstate ≠ jINSTALLING ∧ s.chip.jstate ≠ jPREPARED ∧ s.chip.jstate ≠ jTRIAL) ∧
    (let s : State := wit fun c =>
       { c with pmu := { c.pmu with power := .deep, wake := some (24, false) }, time := { c.time with stopped := true } }
     let k : Nat := 24
     let late : Bool := false
     s.chip.pmu.power = .deep ∧ s.chip.pmu.uvz = false ∧ s.chip.pmu.wake = some (k, late) ∧ s.chip.jstate ≠ jINSTALLING ∧ s.chip.jstate
       ≠ jPREPARED ∧ s.chip.jstate ≠ jTRIAL) := by
  refine ⟨?_, ?_, ?_, ?_, ?_, ?_, ?_, ?_, ?_, ?_, ?_⟩
  all_goals decide +kernel

theorem wit_resets_and_watchdogs :
    (let s : State := wit id
     let src : ResetSource := .resetN
     s.chip.pmu.power = .run ∧ 2 ≤ s.chip.sourceReach src ∧ s.chip.sourceReach src ≤ 3 ∧ s.chip.rst.episode = none ∧
       s.chip.rst.releasing = none) ∧
    (let s : State := wit fun c => { c with rst := { c.rst with episode := some 4, sources := [.uvz] } }
     let src : ResetSource := .thermal
     let r : Nat := 4
     (s.chip.pmu.power = .run ∨ src = .powerOn) ∧ 2 ≤ s.chip.sourceReach src ∧ s.chip.sourceReach src ≤ r ∧ s.chip.rst.episode = some r) ∧
    (let s : State := wit fun c => { c with pmu := { c.pmu with power := .sleep } }
     let src : ResetSource := .uvz
     s.chip.pmu.power ≠ .run ∧ src ≠ .powerOn) ∧
    (let s : State := wit fun c => c.set RST_REACH_MMPAIR 0
     let p : Fin 4 := 3
     s.chip.pmu.power = .run ∧ bit (s.chip.get RST_REACH_MMPAIR) p.val = false ∧ s.chip.rst.episode = none) ∧
    (let s : State := wit id
     let src : ResetSource := .thermal
     s.chip.rst.sources.contains src = false) ∧
    (let s : State := wit fun c => { c with rst := { c.rst with episode := some 2, sources := [.swReq 2] } }
     let src : ResetSource := .swReq 2
     let r : Nat := 2
     src ≠ .uvz ∧ s.chip.rst.sources = [src] ∧ s.chip.rst.episode = some 2 ∧ s.chip.jstate ≠ jINSTALLING ∧ s.chip.jstate ≠ jPREPARED ∧
       s.chip.jstate ≠ jTRIAL ∧ r = 2) ∧
    (let s : State := wit id
     let target : Fin 128 := 3
     (look [] s.chip.rst.parts target.val = [] ∨ target.val ∈ s.chip.rst.hartHeld ∨ s.chip.rst.episode ≠ none)) ∧
    (let s : State := wit fun c => { c with rst := { c.rst with parts := [(3, [2, 3])] } }
     let target : Fin 128 := 3
     let bad : Bool := true
     let src : Nat := 2
     let l : List Nat := [3]
     target.val < 4 ∧ look [] s.chip.rst.parts target.val = src :: l ∧ src < 8 ∧ target.val ∉ s.chip.rst.hartHeld ∧ s.chip.rst.episode =
       none ∧ (bad = false ∨ s.chip.mitten target.val = false)) ∧
    (let s : State := wit fun c => { c with rst := { c.rst with wdtStart := [(4, some 5)], wdtHalf := [(4, true)] } }
     let a : Agent := hart 4
     let w : Fin 5 := 4
     let u : Nat := 5
     s.chip.admits a = true ∧ s.chip.worldOfAgent a = w.val ∧ look none s.chip.rst.wdtStart w.val = some u) ∧
    (let s : State := wit id
     let a : Agent := hart 3
     let w : Fin 5 := 4
     s.chip.admits a = true ∧ s.chip.worldOfAgent a ≠ w.val) ∧
    (let s : State := wit fun c => { c.set (RST_WDT_CFG_TIMEOUT 4) 2 with rst := { c.rst with wdtStart := [(4, some 0)] } }
     let w : Fin 5 := 4
     let u : Nat := 0
     look none s.chip.rst.wdtStart w.val = some u ∧ s.chip.due (u + s.chip.wdtNs w.val / 2) = true ∧ look false s.chip.rst.wdtHalf w.val
       = false) ∧
    (let s : State := wit fun c => { c with rst := { c.rst with wdtStart := [(0, some 1000000)] } }
     let w : Fin 5 := 0
     let u : Nat := 1000000
     look none s.chip.rst.wdtStart w.val = some u ∧ s.chip.due (u + s.chip.wdtNs w.val) = false) ∧
    (let s : State := wit fun c =>
       { (c.set (RST_WDT_CFG_TIMEOUT 4) 1).set (RST_WDT_CFG_REACH 4) 2 with rst := { c.rst with wdtStart := [(4, some 0)] } }
     let w : Fin 5 := 4
     let u : Nat := 0
     s.chip.pmu.power = .run ∧ look none s.chip.rst.wdtStart w.val = some u ∧ s.chip.due (u + s.chip.wdtNs w.val) = true ∧ 2 ≤
       s.chip.sourceReach (.watchdog w) ∧ s.chip.rst.episode = none ∧ s.chip.rst.releasing = none) ∧
    (let s : State := wit id
     let a : Agent := hart 1
     let v : W32 := 0x5B020000
     s.chip.admits a = true ∧ bits v.toNat 31 24 ≠ 0x5A) ∧
    (let s : State := wit id
     let a : Agent := hart 1
     let v : W32 := 0x5A020000
     s.chip.admits a = true ∧ bits v.toNat 31 24 = 0x5A ∧ bits v.toNat 17 16 = 2 ∧ (s.chip.worldOfAgent a = 1 ∨ s.chip.worldOfAgent a =
       2) ∧ s.chip.pmu.power = .run ∧ s.chip.rst.episode = none ∧ s.chip.rst.releasing = none) ∧
    (let s : State := wit id
     let a : Agent := hart 3
     let v : W32 := 0x5A010005
     s.chip.admits a = true ∧ bits v.toNat 31 24 = 0x5A ∧ bits v.toNat 17 16 = 1 ∧ s.chip.swReqCheck (s.chip.worldOfAgent a) 1 (bits
       v.toNat 6 0) ≠ stOK) ∧
    (let s : State := wit id
     s.chip.rst.episode = none ∧ s.chip.booting = true) ∧
    (let s : State := wit id
     s.chip.debugOpen &&& 3 = 0) ∧
    (let s : State := wit fun c => { c with key := { c.key with lcs := 5 } }
     s.chip.pmu.power = .run ∧ s.chip.debugOpen &&& 3 ≠ 0 ∧ s.chip.rst.episode = none ∧ s.chip.rst.releasing = none) ∧
    (let s : State := wit fun c => { c with key := { c.key with lcs := 5 } }
     let k : Fin 8 := 1
     bit s.chip.debugOpen (s.chip.worldOf k.val) = true ∧ s.chip.rst.episode = none) := by
  refine ⟨?_, ?_, ?_, ?_, ?_, ?_, ?_, ?_, ?_, ?_, ?_, ?_, ?_, ?_, ?_, ?_, ?_, ?_, ?_, ?_⟩
  all_goals decide +kernel

theorem wit_boot_seal_and_fuses_r3 :
    (let s : State := wit fun c => { c with rst := { c.rst with relStep := .init } }
     s.chip.rst.episode = none ∧ s.chip.rst.relStep = .init ∧ s.chip.rst.resumeBoot = false ∧ s.bankCheck 0 ≠ stOK ∧ s.bankCheck 1 ≠
       stOK ∧ s.chip.jstate ≠ jTRIAL) := by
  decide +kernel

theorem wit_boot_seal_and_fuses :
    (let s : State := wit id
     (s.chip.rst.relStep ≠ .options ∨ s.chip.rst.releasing = none ∨ s.chip.rst.episode ≠ none)) ∧
    (let s : State := wit fun c => { c.set RST_OPT_ATTEMPTS 2 with rst := { c.rst with relStep := .options, releasing := some 3 } }
     let m0 : Nat := 0
     let m1 : Nat := 125
     s.chip.pmu.power = .run ∧ s.chip.rst.relStep = .options ∧ s.chip.rst.releasing ≠ none ∧ s.chip.rst.episode = none ∧ m1 / 125 ≠ m0 /
       125 ∧ m0 < 1875 ∧ m1 < 1875 ∧ s.chip.get RST_OPT_ATTEMPTS = 2) ∧
    (let s : State := wit id
     (s.chip.rst.episode ≠ none ∨ (s.chip.rst.relStep ≠ .init ∧ s.chip.rst.relStep ≠ .reinit))) ∧
    (let s : State := wit fun c => { c.set (RST_MW_GATE 0) 1 with rst := { c.rst with handed := false, relStep := .stage1 } }
     let a : Agent := hart 0
     let v : W32 := 1
     s.chip.admits a = true ∧ a = ⟨0, none⟩ ∧ s.chip.worldOfAgent a = 0 ∧ s.chip.rst.handed = false ∧ bit v.toNat 0 = true ∧ s.chip.flag
       RST_STAT_SEALED = false) ∧
    (let s : State := wit id
     let a : Agent := hart 1
     s.chip.admits a = true ∧ (a.mid ≠ 0 ∨ a.vf ≠ none ∨ s.chip.worldOfAgent a ≠ 0 ∨ s.chip.rst.handed = true)) ∧
    (let s : State := wit fun c => { c with rst := { c.rst with handed := false, runSecver := 9, relStep := .stage1 } }
     let a : Agent := hart 0
     let v : W32 := 9
     s.chip.admits a = true ∧ s.chip.worldOfAgent a = 0 ∧ s.chip.flag RST_STAT_SEALED = false ∧ s.chip.get RST_FLOOR_FLOOR ≤ v.toNat %
       256 ∧ v.toNat % 256 ≤ s.chip.rst.runSecver) ∧
    (let s : State := wit fun c => { c with rst := { c.rst with handed := false, runSecver := 9, relStep := .stage1 } }
     let a : Agent := hart 0
     let v : W32 := 10
     s.chip.admits a = true ∧ s.chip.worldOfAgent a = 0 ∧ s.chip.flag RST_STAT_SEALED = false ∧ (v.toNat % 256 < s.chip.get
       RST_FLOOR_FLOOR ∨ s.chip.rst.runSecver < v.toNat % 256)) ∧
    (let s : State := wit fun c =>
       { c.setB RST_STAT_SEALED true with rst := { c.rst with handed := false, runSecver := 9, relStep := .stage1 } }
     let a : Agent := hart 0
     s.chip.admits a = true ∧ s.chip.worldOfAgent a = 0 ∧ s.chip.flag RST_STAT_SEALED = true) ∧
    (let s : State := wit fun c => { c with rst := { c.rst with handed := false, relStep := .stage1 }, key := { c.key with lcs := 1 } }
     let a : Agent := hart 0
     let k : Fin 4 := 3
     s.chip.admits a = true ∧ s.chip.worldOfAgent a = 0 ∧ s.chip.key.lcs ≤ lcPROVISIONED ∧ look false s.chip.rst.bkFused k.val = false) ∧
    (let s : State := wit fun c =>
       { c with rst := { c.rst with handed := false, relStep := .stage1, bkFused := [(3, true)] }, key := { c.key with lcs := 1 } }
     let a : Agent := hart 0
     let k : Fin 4 := 3
     s.chip.admits a = true ∧ s.chip.worldOfAgent a = 0 ∧ s.chip.key.lcs ≤ lcPROVISIONED ∧ look false s.chip.rst.bkFused k.val = true) ∧
    (let s : State := wit fun c => { c with rst := { c.rst with handed := false, relStep := .stage1, bkFused := [(3, true)] } }
     let a : Agent := hart 0
     let v : W32 := 7
     let k : Fin 4 := 3
     s.chip.admits a = true ∧ s.chip.worldOfAgent a = 0 ∧ s.chip.flag RST_STAT_SEALED = false ∧ look false s.chip.rst.bkFused k.val =
       true ∧ bit (s.chip.get RST_BKREV_REV ||| v.toNat % 16) k.val = false) ∧
    (let s : State := wit fun c => { c with rst := { c.rst with handed := false, relStep := .stage1 }, key := { c.key with lcs := 1 } }
     let a : Agent := hart 0
     s.chip.admits a = true ∧ s.chip.worldOfAgent a = 0 ∧ s.chip.key.lcs = lcBLANK ∧ s.chip.rst.optSrc = none) ∧
    (let s : State := wit fun c => { c with key := { c.key with lcs := 5 } }
     let k : Fin 8 := 4
     s.chip.debugReaches k.val = true) ∧
    (let s : State := wit fun c => { c with core := { c.core with running := [] } }
     let k : Fin 8 := 4
     s.chip.debugReaches k.val = false) ∧
    (let s : State := wit fun c => { c with key := { c.key with lcs := 5 }, core := { c.core with debugHalted := [(4, true)] } }
     let k : Fin 8 := 4
     s.chip.debugReaches k.val = true) ∧
    (let s : State := wit fun c => { c with key := { c.key with lcs := 5 }, core := { c.core with debugHalted := [(4, true)] } }
     let k : Fin 8 := 4
     s.chip.debugReaches k.val = true ∧ look false s.chip.core.debugHalted k.val = true) := by
  refine ⟨?_, ?_, ?_, ?_, ?_, ?_, ?_, ?_, ?_, ?_, ?_, ?_, ?_, ?_, ?_, ?_⟩
  all_goals decide +kernel

theorem wit_bridge_link_and_windows :
    (let s : State := wit fun c => (c.set BRG_STAT_ROLE 1).setB BRG_CTL_EN true
     s.chip.zoneUp = true ∧ s.chip.brgOff = false ∧ s.chip.flag BRG_CTL_EN = true ∧ s.chip.flag BRG_STAT_LINK = false) ∧
    (let s : State := wit fun c => (c.set BRG_STAT_ROLE 1).setB BRG_STAT_LINK true
     s.chip.zoneUp = true ∧ s.chip.flag BRG_STAT_LINK = true ∧ s.chip.brg.out = [] ∧ s.chip.brg.queue = [] ∧ s.chip.brg.posted = [] ∧
       s.chip.brg.fences = []) ∧
    (let s : State := wit fun c => c.openAll
     let a : Agent := hart 3
     let addr : BitVec 40 := 0x200000000
     let size : Fin 65 := 4
     s.chip.admits a = true ∧ s.chip.fwPermits (s.chip.who a).tag addr.toNat size.val .read = true ∧ regionOf addr.toNat = .bridge ∧
       regionOf (addr.toNat + size.val - 1) = .bridge ∧ (s.chip.brgOff = true ∨ s.chip.flag BRG_STAT_LINK = false ∨ s.chip.outWindow
       addr.toNat size.val = none)) ∧
    (let s : State := wit id
     let a : Agent := hart 3
     let addr : BitVec 40 := 0x200000000
     let size : Fin 65 := 4
     let data : Option (List Byte) := some [1, 2]
     s.chip.admits a = true ∧ s.chip.fwPermits (s.chip.who a).tag addr.toNat (match data with | none => size.val | some bs => bs.length)
       (match data with | none => .read | some _ => .write) = false) ∧
    (let s : State := wit fun c => (((((c.openAll.set BRG_STAT_ROLE 1).setB BRG_STAT_LINK true).setB (BRG_OW_CTL_EN 31) true).set
       (BRG_OW_CTL_WMAX 31) 3).set (BRG_OW_LOC_BASE 31) 0x200000000 |>.set (BRG_OW_LOC_LIM 31) 0x20000FFFF |>.set (BRG_OW_FAR_BASE 31)
       0x9000000000 |>.set (BRG_OW_CTL_SWAP 31) 0)
     let a : Agent := hart 3
     let addr : BitVec 40 := 0x200000040
     let size : Fin 65 := 4
     let i : Nat := 31
     s.chip.admits a = true ∧ s.chip.fwPermits (s.chip.who a).tag addr.toNat size.val .read = true ∧ regionOf addr.toNat = .bridge ∧
       regionOf (addr.toNat + size.val - 1) = .bridge ∧ s.chip.brgOff = false ∧ s.chip.flag BRG_STAT_LINK = true ∧ s.chip.outWindow
       addr.toNat size.val = some i ∧ size.val ≤ 2 ^ s.chip.get (BRG_OW_CTL_WMAX i) ∧ 1 ≤ size.val ∧ s.chip.get (BRG_OW_CTL_SWAP i) = 0
       ∧ s.chip.brg.queue = [] ∧ s.chip.brg.lock = none ∧ s.chip.brg.out.length < 60) ∧
    (let s : State := wit fun c => c.openAll
     let a : Agent := hart 3
     let addr : BitVec 40 := 0x2FFFFFFFC
     let size : Fin 65 := 4
     let data : Option (List Byte) := some [1, 2, 3, 4]
     s.chip.admits a = true ∧ s.chip.fwPermits (s.chip.who a).tag addr.toNat size.val (if data.isSome then .write else .read) = true ∧
       regionOf addr.toNat = .bridge ∧ regionOf (addr.toNat + size.val - 1) = .bridge) ∧
    (let s : State := wit fun c => (((((c.openAll.set BRG_STAT_ROLE 1).setB BRG_STAT_LINK true).setB (BRG_OW_CTL_EN 31) true).set
       (BRG_OW_CTL_WMAX 31) 3).set (BRG_OW_LOC_BASE 31) 0x200000000 |>.set (BRG_OW_LOC_LIM 31) 0x20000FFFF |>.set (BRG_OW_FAR_BASE 31)
       0x9000000000)
     let a : Agent := hart 3
     let addr : BitVec 40 := 0x200000040
     let wide : Bool := true
     let i : Nat := 31
     s.chip.admits a = true ∧ s.chip.fwPermits (s.chip.who a).tag addr.toNat (wideBytes wide) .amo = true ∧ regionOf addr.toNat =
       .bridge ∧ regionOf (addr.toNat + wideBytes wide - 1) = .bridge ∧ s.chip.brgOff = false ∧ s.chip.flag BRG_STAT_LINK = true ∧
       s.chip.outWindow addr.toNat (wideBytes wide) = some i ∧ (s.chip.flag (BRG_OW_CTL_LOCK i) = false ∨ s.chip.brgRoot = false)) ∧
    (let s : State := wit fun c => (((((c.openAll.set BRG_STAT_ROLE 1).setB BRG_STAT_LINK true).setB (BRG_OW_CTL_EN 31) true).setB
       (BRG_OW_CTL_LOCK 31) true |>.set (BRG_OW_CTL_WMAX 31) 3).set (BRG_OW_LOC_BASE 31) 0x200000000 |>.set (BRG_OW_LOC_LIM 31)
       0x20000FFFF |>.set (BRG_OW_FAR_BASE 31) 0x9000000000)
     let a : Agent := hart 3
     let addr : BitVec 40 := 0x200000040
     let wide : Bool := true
     let i : Nat := 31
     s.chip.admits a = true ∧ s.chip.fwPermits (s.chip.who a).tag addr.toNat (wideBytes wide) .amo = true ∧ regionOf addr.toNat =
       .bridge ∧ regionOf (addr.toNat + wideBytes wide - 1) = .bridge ∧ s.chip.brgRoot = true ∧ s.chip.flag BRG_STAT_LINK = true ∧
       s.chip.outWindow addr.toNat (wideBytes wide) = some i ∧ s.chip.flag (BRG_OW_CTL_LOCK i) = true ∧ wideBytes wide ≤ 2 ^ s.chip.get
       (BRG_OW_CTL_WMAX i) ∧ s.chip.brg.queue = [] ∧ s.chip.brg.lock = none ∧ s.chip.brg.out.length < 60) ∧
    (let s : State := wit fun c => (((((c.openAll.set BRG_STAT_ROLE 1).setB BRG_STAT_LINK true).setB (BRG_OW_CTL_EN 31) true).setB
       (BRG_OW_CTL_LOCK 31) true |>.set (BRG_OW_CTL_WMAX 31) 3).set (BRG_OW_LOC_BASE 31) 0x200000000 |>.set (BRG_OW_LOC_LIM 31)
       0x20000FFFF |>.set (BRG_OW_FAR_BASE 31) 0x9000000000)
     let a : Agent := hart 3
     let addr : BitVec 40 := 0x200000040
     let wide : Bool := true
     let i : Nat := 31
     s.chip.admits a = true ∧ s.chip.fwPermits (s.chip.who a).tag addr.toNat (wideBytes wide) .read = true ∧ regionOf addr.toNat =
       .bridge ∧ regionOf (addr.toNat + wideBytes wide - 1) = .bridge ∧ s.chip.brgRoot = true ∧ s.chip.flag BRG_STAT_LINK = true ∧
       s.chip.outWindow addr.toNat (wideBytes wide) = some i ∧ s.chip.flag (BRG_OW_CTL_LOCK i) = true ∧ wideBytes wide ≤ 2 ^ s.chip.get
       (BRG_OW_CTL_WMAX i) ∧ s.chip.brg.queue = [] ∧ s.chip.brg.lock = none ∧ s.chip.brg.out.length < 60) ∧
    (let s : State := wit fun c => ((((((c.openAll.set BRG_STAT_ROLE 1).setB BRG_STAT_LINK true).setB (BRG_OW_CTL_EN 31) true).setB
       (BRG_OW_CTL_LOCK 31) true |>.set (BRG_OW_CTL_WMAX 31) 3).set (BRG_OW_LOC_BASE 31) 0x200000000 |>.set (BRG_OW_LOC_LIM 31)
       0x20000FFFF |>.set (BRG_OW_FAR_BASE 31) 0x9000000000)).updBrg fun b =>
       { b with lock := some { key := (up.who (hart 3)).key, mid := 3, vfBits := 0, win := 31, resv := some 0x200000040, expiry := 2000000 } }
     let a : Agent := hart 3
     let addr : BitVec 40 := 0x200000040
     let wide : Bool := true
     let i : Nat := 31
     let l : BrgLock := { key := (s.chip.who (hart 3)).key, mid := 3, vfBits := 0, win := 31, resv := some 0x200000040, expiry := 2000000 }
     s.chip.admits a = true ∧ s.chip.fwPermits (s.chip.who a).tag addr.toNat (wideBytes wide) .write = true ∧ regionOf addr.toNat =
       .bridge ∧ regionOf (addr.toNat + wideBytes wide - 1) = .bridge ∧ s.chip.brgRoot = true ∧ s.chip.flag BRG_STAT_LINK = true ∧
       s.chip.outWindow addr.toNat (wideBytes wide) = some i ∧ s.chip.flag (BRG_OW_CTL_LOCK i) = true ∧ wideBytes wide ≤ 2 ^ s.chip.get
       (BRG_OW_CTL_WMAX i) ∧ s.chip.brg.queue = [] ∧ s.chip.brg.lock = some l ∧ l.key = (s.chip.who a).key ∧ l.resv = some addr.toNat ∧
       s.chip.frc < l.expiry) ∧
    (let s : State := wit id
     let a : Agent := hart 3
     s.chip.admits a = true ∧ (s.chip.brg.posted.any (fun p => p.key == (s.chip.who a).key) = false) ∧ look (0, 0) s.chip.brg.fails
       (s.chip.who a).key = (0, 0)) ∧
    (let s : State := wit fun c => c.updBrg fun b => { b with elog := [(1, 2), (3, 4)] }
     let a : Agent := hart 1
     s.chip.admits a = true ∧ s.chip.worldOfAgent a = 1) ∧
    (let s : State := wit fun c => (((c.own 13 31 3).set BRG_STAT_ROLE 2).set (BRG_OW_LOC_BASE 31) 0x200000000).set (BRG_OW_LOC_LIM 31)
       0x20000FFFF
     let a : Agent := hart 3
     let w : Fin 32 := 31
     let v : W32 := 0x80300000
     s.chip.admits a = true ∧ s.chip.brgOff = false ∧ s.chip.claims (s.chip.worldOfAgent a) 13 w.val = true ∧ s.chip.flag (BRG_OW_CTL_EN
       w.val) = false ∧ bit v.toNat 31 = true ∧ s.chip.owOk w.val v.toNat = true) ∧
    (let s : State := wit fun c => ((c.own 13 31 3).set BRG_STAT_ROLE 2)
     let a : Agent := hart 3
     let w : Fin 32 := 31
     let v : W32 := 0x80300000
     s.chip.admits a = true ∧ s.chip.brgOff = false ∧ s.chip.claims (s.chip.worldOfAgent a) 13 w.val = true ∧ s.chip.flag (BRG_OW_CTL_EN
       w.val) = false ∧ bit v.toNat 31 = true ∧ s.chip.owOk w.val v.toNat = false) ∧
    (let s : State := wit fun c => c.set BRG_STAT_ROLE 1
     let a : Agent := hart 1
     let v : W32 := 5
     s.chip.admits a = true ∧ s.chip.worldOfAgent a = 1 ∧ s.chip.brgRoot = true ∧ bits v.toNat 2 1 = 2) ∧
    (let s : State := wit fun c => (c.set BRG_STAT_ROLE 2).wrN BRG_CNT 9
     let a : Agent := hart 1
     let v : W32 := 3
     s.chip.admits a = true ∧ s.chip.worldOfAgent a = 1 ∧ s.chip.brgOff = false ∧ bits v.toNat 2 1 = 1) ∧
    (let s : State := wit id
     let a : Agent := hart 1
     s.chip.admits a = true ∧ s.chip.worldOfAgent a = 1 ∧ (s.chip.brgRoot = false ∨ s.chip.flag BRG_STAT_LINK = false)) ∧
    (let s : State := wit fun c => (c.set BRG_STAT_ROLE 1).setB BRG_STAT_LINK true
     let a : Agent := hart 1
     s.chip.admits a = true ∧ s.chip.worldOfAgent a = 1 ∧ s.chip.brgRoot = true ∧ s.chip.flag BRG_STAT_LINK = true ∧ s.chip.brg.queue =
       [] ∧ s.chip.brg.lock = none ∧ s.chip.brg.out.length < 60) ∧
    (let s : State := wit fun c => ((c.setB (BRG_POLL_CTL_EN 15) true).setB BRG_STAT_LINK true).updPoll 15 fun p =>
       { p with next := some 5 }
     let i : Fin 16 := 15
     s.chip.zoneUp = true ∧ s.chip.flag (BRG_POLL_CTL_EN i.val) = true ∧ s.chip.flag BRG_STAT_LINK = true ∧ s.chip.brg.lock = none ∧
       s.chip.dueAt (s.chip.poll i.val).next = true) ∧
    (let s : State := wit fun c => (c.set (BRG_POLL_MASK_M 15) 0xFF).updPoll 15 fun p => { p with out := true, seen := true }
     let i : Fin 16 := 15
     let v : W32 := 7
     let x : Nat := 7
     s.chip.zoneUp = true ∧ (s.chip.poll i.val).out = true ∧ (s.chip.poll i.val).seen = true ∧ x = v.toNat % 2 ^ (8 * 2 ^ s.chip.get
       (BRG_POLL_CTL_SIZE i.val)) ∧ (x ^^^ s.chip.get (BRG_POLL_LAST_V i.val)) &&& s.chip.get (BRG_POLL_MASK_M i.val) ≠ 0) ∧
    (let s : State := wit fun c => (c.set (BRG_POLL_MASK_M 15) 0xFF).updPoll 15 fun p => { p with out := true, seen := true }
     let i : Fin 16 := 15
     s.chip.zoneUp = true ∧ (s.chip.poll i.val).out = true) := by
  refine ⟨?_, ?_, ?_, ?_, ?_, ?_, ?_, ?_, ?_, ?_, ?_, ?_, ?_, ?_, ?_, ?_, ?_, ?_, ?_, ?_, ?_⟩
  all_goals decide +kernel

theorem wit_bridge_completions :
    (let s : State := wit fun c => c.updBrg fun b =>
       { b with out := [{ id := 4, kind := .read, win := 31, laddr := 0x200000040, size := 4, far := 0, bytes := [], key := 300, mid := 2, vfBits := 0, world := 2, left := 1, got := [1, 2] }] }
     let id : Nat := 4
     let r : BrgReq := { id := 4, kind := .read, win := 31, laddr := 0x200000040, size := 4, far := 0, bytes := [], key := 300, mid := 2, vfBits := 0, world := 2, left := 1, got := [1, 2] }
     s.chip.zoneUp = true ∧ s.chip.brg.out = [r] ∧ s.chip.brg.queue = [] ∧ r.id = id ∧ r.kind = .read ∧ r.flushed = false ∧ r.left ≤ 1) ∧
    (let s : State := wit fun c => c.updBrg fun b =>
       { b with out := [{ id := 4, kind := .read, win := 31, laddr := 0x200000040, size := 4, far := 0, bytes := [], key := 300, mid := 2, vfBits := 0, world := 2, left := 1, got := [1, 2] }] }
     let id : Nat := 4
     let st : CplStatus := .ca
     let r : BrgReq := { id := 4, kind := .read, win := 31, laddr := 0x200000040, size := 4, far := 0, bytes := [], key := 300, mid := 2, vfBits := 0, world := 2, left := 1, got := [1, 2] }
     s.chip.zoneUp = true ∧ s.chip.brg.out = [r] ∧ s.chip.brg.queue = [] ∧ st ≠ .success ∧ r.id = id ∧ r.kind = .read ∧ r.flushed =
       false ∧ (s.chip.flag (BRG_OW_CTL_XRETRY r.win) = false ∨ r.crossed = false)) ∧
    (let s : State := wit fun c => (c.setB (BRG_OW_CTL_XRETRY 31) true).updBrg fun b =>
       { b with out := [{ id := 4, kind := .read, win := 31, laddr := 0x200000040, size := 4, far := 0, bytes := [], key := 300, mid := 2, vfBits := 0, world := 2, left := 1, got := [1, 2], crossed := true, retries := 14 }] }
     let id : Nat := 4
     let st : CplStatus := .ur
     let r : BrgReq := { id := 4, kind := .read, win := 31, laddr := 0x200000040, size := 4, far := 0, bytes := [], key := 300, mid := 2, vfBits := 0, world := 2, left := 1, got := [1, 2], crossed := true, retries := 14 }
     s.chip.zoneUp = true ∧ s.chip.brg.out = [r] ∧ st ≠ .success ∧ r.id = id ∧ r.kind ≠ .cfg ∧ r.flushed = false ∧ s.chip.flag
       (BRG_OW_CTL_XRETRY r.win) = true ∧ r.crossed = true ∧ r.retries < 15) ∧
    (let s : State := wit fun c => c.updBrg fun b =>
       { b with posted := [{ id := 4, kind := .write true, win := 31, laddr := 0x200000040, size := 4, far := 0, bytes := [], key := 300, mid := 2, vfBits := 0, world := 2, left := 1 }], lastPosted := [(31, 5)] }
     let w : Fin 32 := 31
     s.chip.zoneUp = true ∧ (16 ≤ (s.chip.uncovered w.val).length ∨ (s.chip.uncovered w.val ≠ [] ∧ s.chip.due (look 0
       s.chip.brg.lastPosted w.val + 2000) = true))) ∧
    (let s : State := wit fun c => c.updBrg fun b =>
       { b with flushes := [{ win := 31, upto := 4, since := 5 }], posted := [{ id := 4, kind := .write true, win := 31, laddr := 0x200000040, size := 4, far := 0, bytes := [], key := 300, mid := 2, vfBits := 0, world := 2, left := 1 }] }
     let w : Fin 32 := 31
     let f : BrgFlush := { win := 31, upto := 4, since := 5 }
     let p : BrgReq := { id := 4, kind := .write true, win := 31, laddr := 0x200000040, size := 4, far := 0, bytes := [], key := 300, mid := 2, vfBits := 0, world := 2, left := 1 }
     s.chip.zoneUp = true ∧ s.chip.brg.flushes = [f] ∧ f.win = w.val ∧ s.chip.brg.posted = [p] ∧ p.win = w.val ∧ p.id ≤ f.upto ∧
       p.flushed = false ∧ s.chip.brg.hlogs = [] ∧ s.chip.brg.out = [] ∧ s.chip.brg.queue = [] ∧ s.chip.brg.fences = []) ∧
    (let s : State := wit fun c => (c.set BRG_LIM_CTO 10).updBrg fun b =>
       { b with flushes := [{ win := 31, upto := 4, since := 5 }], posted := [{ id := 4, kind := .write true, win := 31, laddr := 0x200000040, size := 4, far := 0, bytes := [], key := 300, mid := 2, vfBits := 0, world := 2, left := 1 }] }
     let w : Fin 32 := 31
     let f : BrgFlush := { win := 31, upto := 4, since := 5 }
     let p : BrgReq := { id := 4, kind := .write true, win := 31, laddr := 0x200000040, size := 4, far := 0, bytes := [], key := 300, mid := 2, vfBits := 0, world := 2, left := 1 }
     s.chip.zoneUp = true ∧ s.chip.brg.flushes = [f] ∧ f.win = w.val ∧ s.chip.due (f.since + s.chip.get BRG_LIM_CTO * 1000) = true ∧
       s.chip.brg.posted = [p] ∧ p.win = w.val ∧ p.id ≤ f.upto ∧ p.flushed = false ∧ s.chip.brg.hlogs = [] ∧ s.chip.brg.out = [] ∧
       s.chip.brg.queue = [] ∧ s.chip.brg.fences = [] ∧ s.chip.brg.elog.length < 32) ∧
    (let s : State := wit fun c => c.set BRG_STAT_ROLE 1
     s.chip.zoneUp = true ∧ s.chip.brgRoot = true) ∧
    (let s : State := wit fun c => c.set BRG_STAT_ROLE 2
     s.chip.zoneUp = true ∧ s.chip.brgRoot = false) ∧
    (let s : State := wit fun c => c.updBrg fun b => { b with hlogs := [5] }
     let h : Nat := 5
     s.chip.zoneUp = true ∧ s.chip.brg.hlogs = [h] ∧ s.chip.brg.out = [] ∧ s.chip.brg.queue = [] ∧ s.chip.brg.posted = [] ∧
       s.chip.brg.fences = [] ∧ s.chip.brg.elog.length < 32) ∧
    (let s : State := wit fun c => c.updBrg fun b =>
       { b with lock := some { key := 300, mid := 2, vfBits := 0, win := 31, resv := none, expiry := 1000000 } }
     let l : BrgLock := { key := 300, mid := 2, vfBits := 0, win := 31, resv := none, expiry := 1000000 }
     s.chip.zoneUp = true ∧ s.chip.brg.lock = some l ∧ s.chip.due l.expiry = true ∧ s.chip.clm.running = none ∧ s.chip.brg.queue = []) ∧
    (let s : State := wit fun c => (c.set BRG_STAT_ROLE 1).setB BRG_STAT_LINK true
     let farId : BitVec 16 := 7
     let addr : W64 := 0x1000
     let size : Fin 513 := 4
     s.chip.zoneUp = true ∧ s.chip.brgOff = false ∧ s.chip.flag BRG_STAT_LINK = true ∧ s.chip.brgHeld farId.toNat = false ∧
       s.chip.inWindow addr.toNat size.val = none) ∧
    (let s : State := wit id
     let farId : BitVec 16 := 7
     s.chip.zoneUp = true ∧ (s.chip.brgOff = true ∨ s.chip.flag BRG_STAT_LINK = false ∨ s.chip.brgHeld farId.toNat = true)) ∧
    (let s : State := wit fun c => (((c.set BRG_STAT_ROLE 1).setB BRG_STAT_LINK true).setB (BRG_IW_CTL_EN 15) true).set (BRG_IW_FARL_A
       15) 0xFFFF |>.set CLM_ISO_MIDS 0x2000
     let farId : BitVec 16 := 7
     let addr : W64 := 0x1000
     let size : Fin 513 := 4
     let j : Nat := 15
     s.chip.zoneUp = true ∧ s.chip.brgOff = false ∧ s.chip.flag BRG_STAT_LINK = true ∧ s.chip.brgHeld farId.toNat = false ∧
       s.chip.inWindow addr.toNat size.val = some j ∧ (s.chip.gateOpen 13 = false ∨ s.chip.midIsolated 13 = true)) ∧
    (let s : State := wit fun c => (((c.set BRG_STAT_ROLE 1).setB BRG_STAT_LINK true).setB (BRG_IW_CTL_EN 15) true).set (BRG_IW_FARL_A
       15) 0xFFFF
     let farId : BitVec 16 := 7
     let addr : W64 := 0x1000
     let size : Fin 513 := 4
     let j : Nat := 15
     s.chip.zoneUp = true ∧ s.chip.brgOff = false ∧ s.chip.flag BRG_STAT_LINK = true ∧ s.chip.brgHeld farId.toNat = false ∧
       s.chip.inWindow addr.toNat size.val = some j) := by
  refine ⟨?_, ?_, ?_, ?_, ?_, ?_, ?_, ?_, ?_, ?_, ?_, ?_, ?_, ?_⟩
  all_goals decide +kernel

theorem wit_update_packages_r4 :
    (let s : State := wit fun c => { (c.setB UPD_CTL_EN true).set UPD_STAT_JSTATE 1 with update := { c.update with manifest := pkg } }
     let i : Fin 1536 := 0
     let bytes : List Byte := [1, 2, 3, 4]
     let x : Component := { type := 3, inst := 0, version := 9, first := 0, length := 4 }
     let o : Nat := 0
     let good : Bool := segmentGood pkg 0 { type := 3, inst := 0, version := 9, first := 0, length := 4 } 0 [1, 2, 3, 4]
     s.chip.zoneUp = true ∧ s.chip.flag UPD_CTL_EN = true ∧ s.chip.jstate = jSTAGING ∧ segmentPlace s.chip.update.manifest i.val = some
       (x, o) ∧ bytes.length = segmentLength s.chip.update.manifest i.val ∧ segmentGood s.chip.update.manifest i.val x o bytes = good ∧
       x.type ≠ 1) := by
  decide +kernel

theorem wit_update_packages :
    (let s : State := wit fun c => c.setB UPD_CTL_EN true
     let bytes : List Byte := pkg
     s.chip.zoneUp = true ∧ s.chip.flag UPD_CTL_EN = true ∧ s.chip.jstate = jIDLE ∧ mfSegs bytes ≠ 0) ∧
    (let s : State := wit fun c => (c.setB UPD_CTL_EN true).set UPD_STAT_JSTATE 5
     s.chip.zoneUp = true ∧ s.chip.flag UPD_CTL_EN = true ∧ 3 ≤ s.chip.jstate) ∧
    (let s : State := wit fun c => c.setB UPD_CTL_EN false
     s.chip.flag UPD_CTL_EN = false) ∧
    (let s : State := wit id
     let i : Fin 1536 := 0
     s.chip.zoneUp = true ∧ (s.chip.flag UPD_CTL_EN = false ∨ s.chip.jstate ≠ jSTAGING ∨ segmentPlace s.chip.update.manifest i.val =
       none)) ∧
    (let s : State := wit id
     let k : Fin 8 := 7
     s.chip.zoneUp = true ∧ (s.chip.flag UPD_CTL_RELAYEN = false ∨ s.chip.flag (UPD_CHAIN_EN k.val) = false ∨ (s.chip.relay
       k.val).stopped = true ∨ s.chip.jstate < jSTAGING)) ∧
    (let s : State := wit fun c => ((c.setB UPD_CTL_RELAYEN true).setB (UPD_CHAIN_EN 7) true).set UPD_STAT_JSTATE 1
     let k : Fin 8 := 7
     let e : Option (Nat × Nat) := s.chip.keyCheck (s.chip.get (UPD_CHAIN_KSLOT 7)) 17 1 [1, 2] (some useDERIVE) none
     let n : Nat := 0
     s.chip.zoneUp = true ∧ s.chip.flag UPD_CTL_RELAYEN = true ∧ s.chip.flag (UPD_CHAIN_EN k.val) = true ∧ jSTAGING ≤ s.chip.jstate ∧
       (s.chip.relay k.val).refused = false ∧ (s.chip.relay k.val).stopped = false ∧ (s.chip.relay k.val).retryAt = none ∧
       s.chip.keyCheck (s.chip.get (UPD_CHAIN_KSLOT k.val)) 17 1 [1, 2] (some useDERIVE) none = e ∧ e ≠ none ∧ (s.chip.relay
       k.val).fails = n ∧ n < 7) ∧
    (let s : State := wit fun c => c.updRelay 7 fun r => { r with retryAt := some 5 }
     let k : Fin 8 := 7
     s.chip.zoneUp = true ∧ s.chip.dueAt (s.chip.relay k.val).retryAt = true) ∧
    (let s : State := wit fun c =>
       { (((((c.setB UPD_CTL_RELAYEN true).setB (UPD_CHAIN_EN 7) true).set (UPD_CHAIN_KSLOT 7) 5).set UPD_STAT_JSTATE 1).updKey fun b => { b with lcs := 3, gen := false, slots := [(5, { w0 := BitVec.ofNat 128 (((2 ^ 20 - 1) <<< 108) + (31 <<< 103) + (63 <<< 97) + (31 <<< 91) + (1 <<< 86)), state := .ready })] }) with update := { c.update with manifest := pkg, bitmap := 1, relays := [(7, { manifest := true, fails := 2 })] } }
     let k : Fin 8 := 7
     let bitmap : BitVec 1536 := 0
     let i : Nat := 0
     s.chip.zoneUp = true ∧ s.chip.flag UPD_CTL_RELAYEN = true ∧ s.chip.flag (UPD_CHAIN_EN k.val) = true ∧ jSTAGING ≤ s.chip.jstate ∧
       (s.chip.relay k.val).refused = false ∧ (s.chip.relay k.val).stopped = false ∧ (s.chip.relay k.val).retryAt = none ∧
       s.chip.keyCheck (s.chip.get (UPD_CHAIN_KSLOT k.val)) 17 1 [1, 2] (some useDERIVE) none = none ∧ (s.chip.relay k.val).manifest =
       true ∧ (((List.range (mfSegs s.chip.update.manifest)).find? fun i => bit s.chip.update.bitmap i && !bit bitmap.toNat i) = some i)) ∧
    (let s : State := wit fun c =>
       { (((((c.setB UPD_CTL_RELAYEN true).setB (UPD_CHAIN_EN 7) true).set (UPD_CHAIN_KSLOT 7) 5).set UPD_STAT_JSTATE 1).updKey fun b => { b with lcs := 3, gen := false, slots := [(5, { w0 := BitVec.ofNat 128 (((2 ^ 20 - 1) <<< 108) + (31 <<< 103) + (63 <<< 97) + (31 <<< 91) + (1 <<< 86)), state := .ready })] }) with update := { c.update with manifest := pkg } }
     let k : Fin 8 := 7
     s.chip.zoneUp = true ∧ s.chip.flag UPD_CTL_RELAYEN = true ∧ s.chip.flag (UPD_CHAIN_EN k.val) = true ∧ jSTAGING ≤ s.chip.jstate ∧
       (s.chip.relay k.val).refused = false ∧ (s.chip.relay k.val).stopped = false ∧ (s.chip.relay k.val).retryAt = none ∧
       s.chip.keyCheck (s.chip.get (UPD_CHAIN_KSLOT k.val)) 17 1 [1, 2] (some useDERIVE) none = none ∧ (s.chip.relay k.val).manifest =
       false) ∧
    (let s : State := wit fun c => c.set UPD_STAT_JSTATE 5
     let a : Agent := hart 1
     let v : W32 := 2
     s.chip.admits a = true ∧ s.chip.worldOfAgent a = 1 ∧ bits v.toNat 2 0 = 2 ∧ s.chip.jstate = jTRIAL) ∧
    (let s : State := wit id
     let a : Agent := hart 1
     let v : W32 := 2
     s.chip.admits a = true ∧ s.chip.worldOfAgent a = 1 ∧ bits v.toNat 2 0 = 2 ∧ s.chip.jstate ≠ jTRIAL) ∧
    (let s : State := wit fun c => c.set UPD_STAT_JSTATE 2
     let a : Agent := hart 1
     let v : W32 := 3
     s.chip.admits a = true ∧ s.chip.worldOfAgent a = 1 ∧ bits v.toNat 2 0 = 3 ∧ (s.chip.jstate = jSTAGING ∨ s.chip.jstate = jSTAGED)) ∧
    (let s : State := wit id
     let a : Agent := hart 2
     s.chip.admits a = true ∧ s.chip.worldOfAgent a ≠ 1) ∧
    (let s : State := wit fun c => c.set UPD_STAT_JSTATE 5
     let a : Agent := hart 1
     let v : W32 := 4
     s.chip.admits a = true ∧ s.chip.worldOfAgent a = 1 ∧ bits v.toNat 2 0 = 4 ∧ s.chip.jstate = jTRIAL ∧ s.chip.update.installed = [] ∧
       s.chip.pmu.power = .run ∧ s.chip.rst.episode = none ∧ s.chip.rst.releasing = none) ∧
    (let s : State := wit id
     let a : Agent := hart 1
     let v : W32 := 4
     s.chip.admits a = true ∧ s.chip.worldOfAgent a = 1 ∧ bits v.toNat 2 0 = 4 ∧ s.chip.jstate ≠ jTRIAL) ∧
    (let s : State := wit fun c => (c.set UPD_STAT_JSTATE 5).set UPD_CFG_TCONF 0
     s.chip.zoneUp = true ∧ s.chip.jstate = jTRIAL ∧ s.chip.due (s.chip.update.trialAt + s.chip.get UPD_CFG_TCONF * 1000000000) = true ∧
       s.chip.update.installed = [] ∧ s.chip.pmu.power = .run ∧ s.chip.rst.episode = none ∧ s.chip.rst.releasing = none) ∧
    (let s : State := wit fun c => c.wrN UPD_CNT 9
     let a : Agent := hart 1
     let v : W32 := 5
     s.chip.admits a = true ∧ s.chip.worldOfAgent a = 1 ∧ bits v.toNat 2 1 = 2) := by
  refine ⟨?_, ?_, ?_, ?_, ?_, ?_, ?_, ?_, ?_, ?_, ?_, ?_, ?_, ?_, ?_, ?_, ?_⟩
  all_goals decide +kernel

theorem wit_activation_groups :
    (let s : State := wit id
     let a : Agent := hart 1
     let v : W32 := 1
     s.chip.admits a = true ∧ s.chip.worldOfAgent a = 1 ∧ bits v.toNat 2 0 = 1 ∧ s.chip.jstate ≠ jSTAGED) ∧
    (let s : State := wit fun c => ((c.set UPD_STAT_JSTATE 2).set UPD_ACTG_G 50).wrN UPD_ACTT (900 * 2 ^ 80)
     let a : Agent := hart 1
     let v : W32 := 1
     s.chip.admits a = true ∧ s.chip.worldOfAgent a = 1 ∧ bits v.toNat 2 0 = 1 ∧ s.chip.jstate = jSTAGED ∧ 50 ≤ s.chip.get UPD_ACTG_G ∧
       (((s.chip.get UPD_ACTG_G + 100) * 1000000 : Nat) : Int) ≤ s64 ((projection (tvUnits (s.chip.rdN UPD_ACTT)) : Int) - (s.chip.td0 :
       Int)) ∧ s.chip.members = []) ∧
    (let s : State := wit fun c => (c.set UPD_STAT_JSTATE 2).set UPD_CFG_PERMIT 0xFF
     let m : ActMessage := { member := 3, status := 0, flags := 0, package := 0, t := 0, g := 0, staged := 0, active := 0 }
     s.chip.zoneUp = true ∧ s.chip.notReady m.package.toNat = none ∧ s.chip.flag UPD_STAT_COORD = false) ∧
    (let s : State := wit id
     let m : ActMessage := { member := 3, status := 0, flags := 0, package := 9, t := 0, g := 0, staged := 0, active := 0 }
     let e : Nat := stNO_OBJECT
     s.chip.zoneUp = true ∧ s.chip.notReady m.package.toNat = some e ∧ s.chip.flag UPD_STAT_COORD = false) ∧
    (let s : State := wit fun c => (c.setB UPD_STAT_COORD true).setB (UPD_GRP_VALID 15) true
     let m : ActMessage := { member := 15, status := 0, flags := 0, package := 9, t := 0, g := 0, staged := 7, active := 0 }
     s.chip.zoneUp = true ∧ s.chip.flag UPD_STAT_COORD = true ∧ s.chip.update.cancelling = false ∧ s.chip.flag (UPD_GRP_VALID
       m.member.val) = true) ∧
    (let s : State := wit fun c =>
       { (c.setB UPD_STAT_COORD true).setB (UPD_GRP_VALID 15) true with update := { c.update with guarded := true } }
     let m : ActMessage := { member := 15, status := 0, flags := 0, package := 9, t := 0, g := 0, staged := 7, active := 0 }
     s.chip.zoneUp = true ∧ s.chip.flag UPD_STAT_COORD = true ∧ s.chip.update.cancelling = false ∧ s.chip.flag (UPD_GRP_VALID
       m.member.val) = true ∧ s.chip.update.guarded = true) ∧
    (let s : State := wit fun c => (c.setB UPD_STAT_COORD true).setB (UPD_GRP_VALID 15) true
     let m : ActMessage := { member := 15, status := 0, flags := 0, package := 9, t := 0, g := 0, staged := 7, active := 0 }
     s.chip.zoneUp = true ∧ s.chip.flag UPD_STAT_COORD = true ∧ s.chip.update.cancelling = false ∧ s.chip.flag (UPD_GRP_VALID
       m.member.val) = true ∧ s.chip.update.guarded = false) ∧
    (let s : State := wit fun c => c.set UPD_STAT_JSTATE 3
     s.chip.zoneUp = true ∧ s.chip.jstate = jPREPARED) ∧
    (let s : State := wit fun c => c.set UPD_STAT_JSTATE 5
     s.chip.zoneUp = true ∧ (s.chip.jstate = jINSTALLING ∨ s.chip.jstate = jTRIAL)) ∧
    (let s : State := wit fun c => c.setGstat 15 4
     let m : ActMessage := { member := 15, status := 0, flags := 0, package := 9, t := 0, g := 0, staged := 7, active := 0 }
     s.chip.zoneUp = true ∧ s.chip.gstat m.member.val = 4 ∧ m.status.toNat ≠ stNOT_NOW) ∧
    (let s : State := wit fun c => c.setGstat 15 4
     let m : ActMessage := { member := 15, status := BitVec.ofNat 8 stNOT_NOW, flags := 0, package := 9, t := 0, g := 0, staged := 7, active := 0 }
     s.chip.zoneUp = true ∧ s.chip.gstat m.member.val = 4 ∧ m.status.toNat = stNOT_NOW) ∧
    (let s : State := wit fun c => (c.setGstat 15 2).setB (UPD_GRP_VALID 15) true
     let m : ActMessage := { member := 15, status := 0, flags := 0, package := 9, t := 0, g := 0, staged := 7, active := 9 }
     s.chip.zoneUp = true ∧ s.chip.flag (UPD_GRP_VALID m.member.val) = true ∧ s.chip.gstat m.member.val ≠ 0 ∧ m.active.toNat ≠ mfVersion
       s.chip.update.manifest) ∧
    (let s : State := wit fun c => c.setB UPD_STAT_COORD true
     s.chip.zoneUp = true ∧ s.chip.flag UPD_STAT_COORD = true ∧ s.chip.update.guarded = false ∧ s.chip.update.cancelling = false ∧
       s.chip.beforeT (2 * s.chip.update.jg) = true ∧ (s.chip.peersHold = true ∧ s.chip.members.all (fun i => s.chip.gstat i == 2) =
       true)) ∧
    (let s : State := wit fun c => (c.setB UPD_STAT_COORD true).setB (UPD_GRP_VALID 15) true
     s.chip.zoneUp = true ∧ s.chip.flag UPD_STAT_COORD = true ∧ s.chip.update.guarded = false ∧ s.chip.update.cancelling = false ∧
       s.chip.beforeT (2 * s.chip.update.jg) = true ∧ (s.chip.members.all (fun i => s.chip.gstat i == 2) = false)) ∧
    (let s : State := wit fun c => { (c.setB UPD_STAT_COORD true) with update := { c.update with cancelling := true } }
     s.chip.zoneUp = true ∧ s.chip.update.cancelling = true ∧ s.chip.due s.chip.update.cancelNext = true ∧ s.chip.beforeT 0 = true) ∧
    (let s : State := wit fun c => (c.setB UPD_STAT_COORD true).set UPD_STAT_JSTATE 3
     let a : Agent := hart 1
     let v : W32 := 5
     s.chip.admits a = true ∧ s.chip.worldOfAgent a = 1 ∧ bits v.toNat 2 0 = 5 ∧ s.chip.flag UPD_STAT_COORD = true ∧
       s.chip.update.guarded = false ∧ s.chip.update.cancelling = false) ∧
    (let s : State := wit id
     s.chip.zoneUp = true ∧ (s.chip.jstate ≠ jPREPARED ∨ s.chip.beforeT s.chip.update.jg = false ∨ s.chip.update.cancelled = true)) ∧
    (let s : State := wit fun c => c.set UPD_STAT_JSTATE 3
     s.chip.zoneUp = true ∧ s.chip.jstate = jPREPARED ∧ s.chip.beforeT s.chip.update.jg = true ∧ s.chip.update.cancelled = false ∧
       s.chip.installOrder s.chip.update.manifest = some []) ∧
    (let s : State := wit fun c => c.set UPD_STAT_JSTATE 4
     let u : Nat := 1000000
     s.chip.zoneUp = true ∧ s.chip.activationTick = some u ∧ s.chip.jstate = jINSTALLING ∧ s.chip.due u = true ∧ s.chip.pmu.power = .run
       ∧ s.chip.rst.episode = none ∧ s.chip.rst.releasing = none) := by
  refine ⟨?_, ?_, ?_, ?_, ?_, ?_, ?_, ?_, ?_, ?_, ?_, ?_, ?_, ?_, ?_, ?_, ?_, ?_, ?_⟩
  all_goals decide +kernel

theorem wit_locks_revocation_and_isolation :
    (let s : State := wit fun c => c.set (CLM_CWLIM_US 4) 999
     let k : Fin 5 := 4
     let a : Agent := hart 19
     let us : Nat := 1000
     s.chip.zoneUp = true ∧ s.chip.get (CLM_CWLIM_US k.val) ≠ 0 ∧ s.chip.get (CLM_CWLIM_US k.val) < us ∧ us < 2 ^ 27 ∧ a.vf = none) ∧
    (let s : State := wit fun c => c.set (CLM_CWLIM_US 4) 999
     let k : Fin 5 := 4
     let us : Nat := 999
     (s.chip.get (CLM_CWLIM_US k.val) = 0 ∨ us ≤ s.chip.get (CLM_CWLIM_US k.val))) ∧
    (let s : State := wit fun c => { c with clm := { c.clm with conflicts := [7, 8] } }
     let a : Agent := hart 3
     s.chip.admits a = true) ∧
    (let s : State := wit id
     let a : Agent := hart 3
     let i : Fin 64 := 63
     s.chip.admits a = true ∧ look none s.chip.clm.locks i.val = none) ∧
    (let s : State := wit fun c =>
       { c with clm := { c.clm with locks := [(63, some { key := 9, mid := 19, vf := some 63, world := 1, expiry := 9 })] } }
     let a : Agent := hart 3
     let i : Fin 64 := 63
     let h : LockHold := { key := 9, mid := 19, vf := some 63, world := 1, expiry := 9 }
     s.chip.admits a = true ∧ look none s.chip.clm.locks i.val = some h ∧ (h.key ≠ (s.chip.who a).key ∨ h.world ≠ s.chip.worldOfAgent a)
       ∧ (h.mid < 32 ∧ (∀ v ∈ h.vf, v < 64))) ∧
    (let s : State := wit fun c =>
       { c with clm := { c.clm with locks := [(63, some { key := 384, mid := 3, vf := none, world := 3, expiry := 9 })] } }
     let a : Agent := hart 3
     let i : Fin 64 := 63
     let h : LockHold := { key := 384, mid := 3, vf := none, world := 3, expiry := 9 }
     s.chip.admits a = true ∧ look none s.chip.clm.locks i.val = some h ∧ h.key = (s.chip.who a).key ∧ h.world = s.chip.worldOfAgent a) ∧
    (let s : State := wit id
     let a : Agent := hart 3
     let i : Fin 64 := 63
     s.chip.admits a = true ∧ (∀ h : LockHold, look none s.chip.clm.locks i.val = some h → h.key ≠ (s.chip.who a).key)) ∧
    (let s : State := wit fun c =>
       { c with clm := { c.clm with locks := [(63, some { key := 384, mid := 3, vf := none, world := 3, expiry := 9 })] } }
     let i : Fin 64 := 63
     let h : LockHold := { key := 384, mid := 3, vf := none, world := 3, expiry := 9 }
     s.chip.zoneUp = true ∧ look none s.chip.clm.locks i.val = some h ∧ s.chip.due h.expiry = true ∧ s.chip.clm.running = none) ∧
    (let s : State := wit id
     let a : Agent := hart 3
     s.chip.admits a = true ∧ s.chip.worldOfAgent a ≠ 2) ∧
    (let s : State := wit fun c =>
       { c with clm := { c.clm with locks := [(63, some { key := 384, mid := 3, vf := none, world := 3, expiry := 9 })] } }
     let a : Agent := hart 2
     let v : W32 := 63
     let l : LeaseRef := { kind := 0, index := 63 }
     let h : LeaseHolder := .mid 3
     s.chip.admits a = true ∧ s.chip.worldOfAgent a = 2 ∧ bits v.toNat 31 30 = 0 ∧ s.chip.clm.running = none ∧ s.chip.clm.todo = [] ∧
       s.chip.clm.queue = [] ∧ s.chip.clm.pendingRev = [] ∧ l = { kind := bits v.toNat 29 28, index := bits v.toNat 9 0 } ∧
       s.chip.leaseHolder l = some h ∧ h.real = true) ∧
    (let s : State := wit id
     let a : Agent := hart 2
     let v : W32 := 63
     s.chip.admits a = true ∧ s.chip.worldOfAgent a = 2 ∧ bits v.toNat 31 30 ≠ 3 ∧ s.chip.clm.running = none ∧ s.chip.clm.todo = [] ∧
       s.chip.clm.queue = [] ∧ s.chip.clm.pendingRev = [] ∧ s.chip.revokeTargets v.toNat = []) ∧
    (let s : State := wit fun c =>
       { c with clm := { c.clm with locks := [(63, some { key := 384, mid := 3, vf := none, world := 3, expiry := 9 })], running := some ({ kind := 0, index := 63 }, .mid 3) } }
     let l : LeaseRef := { kind := 0, index := 63 }
     let h : LeaseHolder := .mid 3
     s.chip.zoneUp = true ∧ s.chip.clm.running = some (l, h) ∧ l.kind = 0 ∧ (s.chip.outstanding h = [] ∨ s.chip.clm.drainOver = true) ∧
       s.chip.clm.todo = [] ∧ s.chip.clm.queue = [] ∧ s.chip.clm.pendingRev = [] ∧ l.index < 64) ∧
    (let s : State := wit id
     s.chip.clm.running = none) ∧
    (let s : State := wit fun c =>
       { (c.set CLM_DRAINLIM_US 1).updBrg (fun b => { b with out := [{ id := 4, kind := .read, win := 31, laddr := 0x200000040, size := 4, far := 0, bytes := [], key := 300, mid := 2, vfBits := 69, world := 2, left := 1, got := [1, 2] }] }) with clm := { c.clm with running := some ({ kind := 1, index := 0 }, .vf 5) } }
     let l : LeaseRef := { kind := 1, index := 0 }
     let h : LeaseHolder := .vf 5
     s.chip.zoneUp = true ∧ s.chip.clm.running = some (l, h) ∧ s.chip.outstanding h ≠ [] ∧ s.chip.clm.drainOver = false ∧ s.chip.due
       (s.chip.clm.runStart + s.chip.get CLM_DRAINLIM_US * 1000) = true) ∧
    (let s : State := wit fun c => c.gateSet (.vf 5) true
     let a : Agent := hart 2
     let v : W32 := 0x80000005
     let h : LeaseHolder := .vf 5
     s.chip.admits a = true ∧ s.chip.worldOfAgent a = 2 ∧ h = (if bit v.toNat 31 then .vf (bits v.toNat 5 0) else .mid (bits v.toNat 5
       0)) ∧ s.chip.gateShut h = true) ∧
    (let s : State := wit fun c => c.wrN CLM_CNT 9
     let a : Agent := hart 2
     let v : W32 := 1
     s.chip.admits a = true ∧ s.chip.worldOfAgent a = 2 ∧ bit v.toNat 0 = true) := by
  refine ⟨?_, ?_, ?_, ?_, ?_, ?_, ?_, ?_, ?_, ?_, ?_, ?_, ?_, ?_, ?_, ?_⟩
  all_goals decide +kernel

theorem wit_fabric_accesses :
    (let s : State := witm [(0x800000001, 7)] Chip.openAll
     let a : Agent := hart 3
     let addr : BitVec 40 := 0x800000000
     let size : Fin 65 := 8
     s.chip.admits a = true ∧ regionOf addr.toNat = .dram ∧ s.chip.fwPermits (s.chip.who a).tag addr.toNat size.val .read = true) ∧
    (let s : State := witm [(0x800000001, 7)] Chip.openAll
     let a : Agent := hart 3
     let addr : BitVec 40 := 0x800000000
     let size : Fin 65 := 8
     s.chip.admits a = true ∧ regionOf addr.toNat = .dram ∧ s.chip.fwPermits (s.chip.who a).tag addr.toNat size.val .write = true) ∧
    (let s : State := witm [(0x800000001, 7)] Chip.openAll
     let a : Agent := hart 3
     let addr : BitVec 40 := 0x800000000
     let size : Fin 65 := 8
     s.chip.admits a = true ∧ regionOf addr.toNat = .dram ∧ s.chip.fwPermits (s.chip.who a).tag addr.toNat size.val .amo = true) ∧
    (let s : State := wit id
     let a : Agent := hart 3
     let o : FabricOp := .fetch
     let addr : BitVec 40 := 0x800000000
     let size : Fin 65 := 8
     s.chip.admits a = true ∧ regionOf addr.toNat ≠ .bridge ∧ s.chip.fwPermits (s.chip.who a).tag addr.toNat size.val (opKind o) = false) ∧
    (let s : State := witm [(0x800000001, 7)] Chip.openAll
     let a : Agent := hart 3
     let addr : BitVec 40 := 0x30000000
     let size : Fin 65 := 4
     s.chip.admits a = true ∧ regionOf addr.toNat = .peripheral ∧ s.chip.fwPermits (s.chip.who a).tag addr.toNat size.val .fetch = true) ∧
    (let s : State := wit id
     let a : Agent := hart 3
     s.chip.admits a = true ∧ s.chip.unanswered a.mid.val = false) ∧
    (let s : State := wit fun c => c.updBrg fun b => { b with fences := [(384, [1])] }
     let a : Agent := hart 3
     s.chip.admits a = true ∧ s.chip.unanswered a.mid.val = true ∧ a.mid.val ∉ s.chip.fab.fences) ∧
    (let s : State := wit fun c => (c.addAction { fire := 9, cls := 5, target := 127, arg := 0x80000123 }).vfPool 64 1 0 0 256
     let d : Fin 148 := 127
     let x : Action := { fire := 9, cls := 5, target := 127, arg := 0x80000123 }
     s.chip.zoneUp = true ∧ d.val < 128 ∧ s.chip.dueAction 5 d.val = some x ∧ 64 ≤ s.chip.pairFn (2 * d.val + b2n (bit x.arg 31))) ∧
    (let s : State := wit fun c => c.vfPool 64 1 0 0 256
     let a : Agent := hart 1
     let q : Fin 256 := 255
     s.chip.admits a = true ∧ s.chip.poolWorld 0 q.val = some (s.chip.worldOfAgent a) ∧ 64 ≤ s.chip.pairFn q.val) ∧
    (let s : State := witm [(0x800001001, 7)] fun c => ((((c.openAll.set BRG_STAT_ROLE 1).setB BRG_STAT_LINK true).setB (BRG_IW_CTL_EN
       15) true).set (BRG_IW_FARL_A 15) 0xFFFF |>.set (BRG_IW_LOCB_A 15) 0x800000000 |>.set (BRG_IW_CTL_WORLD 15) 4 |>.set
       (BRG_IW_CTL_SWAP 15) 0)
     let farId : BitVec 16 := 7
     let addr : W64 := 0x1000
     let size : Fin 513 := 2
     let j : Nat := 15
     let x : Nat := 0x800001000
     s.chip.zoneUp = true ∧ s.chip.brgOff = false ∧ s.chip.flag BRG_STAT_LINK = true ∧ s.chip.brgHeld farId.toNat = false ∧
       s.chip.inWindow addr.toNat size.val = some j ∧ s.chip.gateOpen 13 = true ∧ s.chip.midIsolated 13 = false ∧ s.chip.get
       (BRG_IW_CTL_SWAP j) = 0 ∧ 1 ≤ size.val ∧ x = s.chip.get (BRG_IW_LOCB_A j) + (addr.toNat - s.chip.get (BRG_IW_FARB_A j)) ∧
       regionOf x = .dram ∧ s.chip.fwPermits { mid := 13, world := s.chip.get (BRG_IW_CTL_WORLD j), vf := none } x size.val .read = true) ∧
    (let s : State := witm [(0x800000001, 7)] fun c =>
       { c.openAll with key := { c.key with lcs := 5 }, core := { c.core with debugHalted := [(4, true)] } }
     let k : Fin 8 := 4
     let addr : BitVec 40 := 0x800000000
     let size : Fin 17 := 16
     s.chip.zoneUp = true ∧ s.chip.debugReaches k.val = true ∧ look false s.chip.core.debugHalted k.val = true ∧ 1 ≤ size.val ∧
       s.chip.gateOpen k.val = true ∧ s.chip.midIsolated k.val = false ∧ regionOf addr.toNat = .dram ∧ s.chip.fwPermits
       { mid := k.val, world := s.chip.worldOf k.val, vf := none } addr.toNat size.val .read = true) ∧
    (let s : State := wit id
     let k : Fin 8 := 4
     (s.chip.debugReaches k.val = false ∨ look false s.chip.core.debugHalted k.val = false)) := by
  refine ⟨?_, ?_, ?_, ?_, ?_, ?_, ?_, ?_, ?_, ?_, ?_, ?_⟩
  all_goals decide +kernel

theorem wit_register_words_and_writes_r0 :
    (let s : State := wit id
     let a : Agent := hart 2
     let addr : BitVec 40 := BitVec.ofNat 40 PMU_THR.addr
     let f : Found := foundAt PMU_THR.addr
     let w : Who := (up.who (hart 2))
     let v : W128 := 100
     s.chip.admits a = true ∧ s.chip.placeOf (s.chip.who a) addr.toNat = some (.reg f 0, w) ∧ [SES_GO 0, DDP_FWQ_CI 0, CSES_GO 0,
       KEY_LC, RST_SWREQ, UPD_CMD, SEAM_P_CMD 0].any f.is = false ∧ s.chip.ownStore w f (v.toNat % 2 ^ f.row.width) = none ∧
       s.chip.mayWrite w f (v.toNat % 2 ^ f.row.width) = true ∧ (f.boot = false ∨ s.chip.flag RST_STAT_SEALED = false) ∧ reservedIn
       f.row.fields (v.toNat % 2 ^ f.row.width) = false) := by
  decide +kernel

theorem wit_register_words_and_writes_r1 :
    (let s : State := wit id
     let a : Agent := hart 1
     let addr : BitVec 40 := BitVec.ofNat 40 PMU_THR.addr
     let f : Found := foundAt PMU_THR.addr
     let w : Who := (up.who (hart 1))
     let v : W128 := 100
     s.chip.admits a = true ∧ s.chip.placeOf (s.chip.who a) addr.toNat = some (.reg f 0, w) ∧ [SES_GO 0, DDP_FWQ_CI 0, CSES_GO 0,
       KEY_LC, RST_SWREQ, UPD_CMD, SEAM_P_CMD 0].any f.is = false ∧ s.chip.ownStore w f (v.toNat % 2 ^ f.row.width) = none ∧
       s.chip.mayWrite w f (v.toNat % 2 ^ f.row.width) = false) := by
  decide +kernel

theorem wit_register_words_and_writes_r2 :
    (let s : State := wit id
     let a : Agent := hart 1
     let addr : BitVec 40 := BitVec.ofNat 40 TIME_FRC.addr
     let f : Found := foundAt TIME_FRC.addr
     let w : Who := (up.who (hart 1))
     s.chip.admits a = true ∧ s.chip.placeOf (s.chip.who a) addr.toNat = some (.reg f 0, w) ∧ f.row.width = 128 ∧ s.chip.readEffect w f
       = none) := by
  decide +kernel

theorem wit_register_words_and_writes_r3 :
    (let s : State := wit id
     let a : Agent := hart 1
     let addr : BitVec 40 := BitVec.ofNat 40 (NMW_KALOG 0 0).addr
     let f : Found := foundAt ((NMW_KALOG 0 0).addr)
     let w : Who := (up.who (hart 1))
     s.chip.admits a = true ∧ s.chip.placeOf (s.chip.who a) addr.toNat = some (.reg f 0, w) ∧ f.row.width = 128) := by
  decide +kernel

theorem wit_register_words_and_writes_r4 :
    (let s : State := wit fun c =>
       { c with fab := { c.fab with staged := [(latchKey 128 ESW_TBL_KEY.addr, { w0 := some 2, w1 := some 3, w2 := some 4 })] } }
     let a : Agent := hart 1
     let addr : BitVec 40 := BitVec.ofNat 40 ESW_TBL_KEY.addr
     let f : Found := foundAt ESW_TBL_KEY.addr
     let w : Who := (up.who (hart 1))
     let v : W32 := 1
     let x0 : W32 := 2
     let x1 : W32 := 3
     let x2 : W32 := 4
     let x : Nat := 2 + 3 * 2 ^ 32 + 4 * 2 ^ 64 + 2 ^ 96
     s.chip.admits a = true ∧ s.chip.placeOf (s.chip.who a) addr.toNat = some (.reg f 0, w) ∧ f.row.width = 128 ∧ look {}
       s.chip.fab.staged (latchKey w.key f.addr) = { w0 := some x0, w1 := some x1, w2 := some x2 } ∧ x = x0.toNat + x1.toNat * 2 ^ 32 +
       x2.toNat * 2 ^ 64 + v.toNat * 2 ^ 96 ∧ [SES_GO 0, DDP_FWQ_CI 0, CSES_GO 0, KEY_LC, RST_SWREQ, UPD_CMD, SEAM_P_CMD 0].any f.is =
       false ∧ ({ s.chip with fab := { s.chip.fab with staged := put {} s.chip.fab.staged (latchKey w.key f.addr) {} } } :
       Chip).ownStore w f x = none ∧ s.chip.mayWrite w f x = true ∧ (f.boot = false ∨ s.chip.flag RST_STAT_SEALED = false) ∧ reservedIn
       f.row.fields x = false) := by
  decide +kernel

theorem wit_service_functions_r15 :
    (let s : State := wit fun c => (c.set (SFE_FN_CFG_STATE 63) 4).set SFE_XADDR_ADDR 0x900000000
     let a : Agent := hart 1
     let v : W32 := 0x4000003F
     let f : Fin 64 := 63
     s.chip.admits a = true ∧ s.chip.worldOfAgent a = 1 ∧ s.chip.flag SFE_CMD_BUSY = false ∧ bits v.toNat 30 27 = 8 ∧ bits v.toNat 6 0 =
       f.val ∧ s.chip.fnState f.val = 4 ∧ s.chip.get SFE_XADDR_ADDR % 16 = 0 ∧ inDram (s.chip.get SFE_XADDR_ADDR) 65536 = true) := by
  decide +kernel

theorem wit_service_functions_r17 :
    (let s : State := wit fun c => (c.set SFE_XADDR_ADDR 0x900000000).updSfe fun b => { b with job := some (8, 63) }
     let f : Nat := 63
     s.chip.zoneUp = true ∧ s.chip.sfe.job = some (8, f)) := by
  decide +kernel

theorem wit_service_functions_r19 :
    (let s : State := wit fun c => (c.set SFE_XADDR_ADDR 0x900000000).updSfe fun b => { b with job := some (9, 63) }
     let f : Fin 64 := 63
     s.chip.zoneUp = true ∧ s.chip.sfe.job = some (9, f.val) ∧ memRead s.mem (s.chip.get SFE_XADDR_ADDR) 14 ≠ (s.chip.recordHead
       f.val).take 14) := by
  decide +kernel

theorem wit_service_functions_r20 :
    (let s : State := wit fun c => (c.set SFE_XADDR_ADDR 0x900000000).updSfe fun b => { b with job := some (9, 63) }
     let f : Fin 64 := 63
     s.chip.zoneUp = true ∧ s.chip.sfe.job = some (9, f.val)) := by
  decide +kernel

theorem wit_service_functions :
    (let s : State := wit fun c => (c.set (SFE_FN_CFG_WORLD 63) 3).set (SFE_FN_RNG_COUNT 63 2) 4 |>.set (SFE_FN_RNG_FIRST 63 2) 508
     let a : Agent := hart 1
     let v : W32 := 0x0800003F
     let f : Fin 64 := 63
     s.chip.admits a = true ∧ s.chip.worldOfAgent a = 1 ∧ s.chip.flag SFE_CMD_BUSY = false ∧ bits v.toNat 30 27 = 1 ∧ bits v.toNat 6 0 =
       f.val ∧ s.chip.fnState f.val = 0 ∧ 1 ≤ s.chip.get (SFE_FN_CFG_WORLD f.val) ∧ s.chip.get (SFE_FN_CFG_WORLD f.val) ≤ 4 ∧
       s.chip.rangesOk f.val = true ∧ s.chip.poolClash f.val = none) ∧
    (let s : State := wit fun c => (c.set (SFE_FN_CFG_WORLD 63) 3).set (SFE_FN_RNG_COUNT 63 4) 4 |>.set (SFE_FN_RNG_FIRST 63 4) 1
     let a : Agent := hart 1
     let v : W32 := 0x0800003F
     let f : Fin 64 := 63
     s.chip.admits a = true ∧ s.chip.worldOfAgent a = 1 ∧ s.chip.flag SFE_CMD_BUSY = false ∧ bits v.toNat 30 27 = 1 ∧ bits v.toNat 6 0 =
       f.val ∧ s.chip.fnState f.val = 0 ∧ 1 ≤ s.chip.get (SFE_FN_CFG_WORLD f.val) ∧ s.chip.get (SFE_FN_CFG_WORLD f.val) ≤ 4 ∧
       s.chip.rangesOk f.val = true ∧ (s.chip.poolClash f.val).isSome = true) ∧
    (let s : State := wit fun c => (c.set (SFE_FN_CFG_WORLD 63) 3).set (SFE_FN_RNG_COUNT 63 0) 9
     let a : Agent := hart 1
     let v : W32 := 0x0800003F
     let f : Fin 64 := 63
     s.chip.admits a = true ∧ s.chip.worldOfAgent a = 1 ∧ s.chip.flag SFE_CMD_BUSY = false ∧ bits v.toNat 30 27 = 1 ∧ bits v.toNat 6 0 =
       f.val ∧ (s.chip.fnState f.val = 0 ∧ (s.chip.get (SFE_FN_CFG_WORLD f.val) = 0 ∨ 4 < s.chip.get (SFE_FN_CFG_WORLD f.val) ∨
       s.chip.rangesOk f.val = false))) ∧
    (let s : State := wit fun c => c.set (SFE_FN_CFG_STATE 63) 1
     let a : Agent := hart 1
     let v : W32 := 0x1000003F
     let f : Fin 64 := 63
     s.chip.admits a = true ∧ s.chip.worldOfAgent a = 1 ∧ s.chip.flag SFE_CMD_BUSY = false ∧ bits v.toNat 30 27 = 2 ∧ bits v.toNat 6 0 =
       f.val ∧ s.chip.fnState f.val = 1) ∧
    (let s : State := wit fun c => ((c.set (SFE_FN_CFG_STATE 63) 4).set (VF_VEC_IID 63 63) 9).setB (VF_VEC_PEND 63 63) true |>.setB
       (VF_VEC_MASK 63 63) false
     let a : Agent := hart 1
     let v : W32 := 0x2000003F
     let f : Fin 64 := 63
     s.chip.admits a = true ∧ s.chip.worldOfAgent a = 1 ∧ s.chip.flag SFE_CMD_BUSY = false ∧ bits v.toNat 30 27 = 4 ∧ bits v.toNat 6 0 =
       f.val ∧ s.chip.fnState f.val = 4) ∧
    (let s : State := wit fun c => c.set (SFE_FN_CFG_STATE 63) 2
     let a : Agent := hart 1
     let v : W32 := 0x1800003F
     let f : Fin 64 := 63
     s.chip.admits a = true ∧ s.chip.worldOfAgent a = 1 ∧ s.chip.flag SFE_CMD_BUSY = false ∧ bits v.toNat 30 27 = 3 ∧ bits v.toNat 6 0 =
       f.val ∧ s.chip.fnState f.val = 2) ∧
    (let s : State := wit id
     let a : Agent := hart 1
     let v : W32 := 0x1800003F
     let f : Fin 64 := 63
     s.chip.admits a = true ∧ s.chip.worldOfAgent a = 1 ∧ s.chip.flag SFE_CMD_BUSY = false ∧ bits v.toNat 30 27 = 3 ∧ bits v.toNat 6 0 =
       f.val ∧ s.chip.fnState f.val ≠ 2) ∧
    (let s : State := wit fun c => c.set (SFE_FN_CFG_STATE 63) 3
     let f : Fin 64 := 63
     s.chip.zoneUp = true ∧ s.chip.fnState f.val = 3 ∧ s.chip.fnHold f.val = 0) ∧
    (let s : State := wit fun c =>
       { c with key := { c.key with jobs := [{ ses := 5, op := 3, a := 5, b := 0, len := 0, inp := 0, out := 0, fn := 63, mid := 16, world := 1, params := [], irq := false, engine := some 0 }] } }
     let f : Fin 64 := 63
     s.chip.fnHold f.val ≠ 0) ∧
    (let s : State := wit fun c => (c.set (SFE_FN_CFG_STATE 63) 3).set SFE_CTL_QTO 0 |>.updSfe fun b =>
       { b with quiescedAt := [(63, some 1)] }
     let f : Fin 64 := 63
     let at0 : Nat := 1
     s.chip.zoneUp = true ∧ s.chip.fnState f.val = 3 ∧ look none s.chip.sfe.quiescedAt f.val = some at0 ∧ at0 + s.chip.get SFE_CTL_QTO *
       1000000 ≤ s.chip.frc ∧ look false s.chip.sfe.late f.val = false) ∧
    (let s : State := wit fun c => (c.set (SFE_FN_CFG_STATE 63) 3).updSfe fun b => { b with late := [(63, true)] }
     let a : Agent := hart 1
     let v : W32 := 0x2800003F
     let f : Fin 64 := 63
     s.chip.admits a = true ∧ s.chip.worldOfAgent a = 1 ∧ s.chip.flag SFE_CMD_BUSY = false ∧ bits v.toNat 30 27 = 5 ∧ bits v.toNat 6 0 =
       f.val ∧ s.chip.fnState f.val = 3 ∧ look false s.chip.sfe.late f.val = true) ∧
    (let s : State := wit id
     let a : Agent := hart 1
     let v : W32 := 0x2800003F
     let f : Fin 64 := 63
     s.chip.admits a = true ∧ s.chip.worldOfAgent a = 1 ∧ s.chip.flag SFE_CMD_BUSY = false ∧ bits v.toNat 30 27 = 5 ∧ bits v.toNat 6 0 =
       f.val ∧ (s.chip.fnState f.val ≠ 3 ∨ look false s.chip.sfe.late f.val = false)) ∧
    (let s : State := wit fun c => (c.set (SFE_FN_CFG_STATE 63) 1).set (SFE_FN_CFG_WORLD 63) 3
     let a : Agent := hart 1
     let v : W32 := 0x3000003F
     let f : Fin 64 := 63
     s.chip.admits a = true ∧ s.chip.worldOfAgent a = 1 ∧ s.chip.flag SFE_CMD_BUSY = false ∧ bits v.toNat 30 27 = 6 ∧ bits v.toNat 6 0 =
       f.val ∧ (s.chip.fnState f.val = 1 ∨ s.chip.fnState f.val = 4)) ∧
    (let s : State := wit fun c => (c.set (SFE_FN_CFG_STATE 63) 2).set (SFE_FN_CFG_WORLD 63) 3
     let a : Agent := hart 1
     let v : W32 := 0x3000003F
     let f : Fin 64 := 63
     s.chip.admits a = true ∧ s.chip.worldOfAgent a = 1 ∧ s.chip.flag SFE_CMD_BUSY = false ∧ bits v.toNat 30 27 = 6 ∧ bits v.toNat 6 0 =
       f.val ∧ (s.chip.fnState f.val = 2 ∨ s.chip.fnState f.val = 3)) ∧
    (let s : State := wit fun c => (c.set (SFE_FN_CFG_STATE 63) 1).set (SFE_FN_CFG_WORLD 63) 3
     let a : Agent := hart 1
     let v : W32 := 0x3800003F
     let f : Fin 64 := 63
     s.chip.admits a = true ∧ s.chip.worldOfAgent a = 1 ∧ s.chip.flag SFE_CMD_BUSY = false ∧ bits v.toNat 30 27 = 7 ∧ bits v.toNat 6 0 =
       f.val ∧ s.chip.fnState f.val = 1) ∧
    (let s : State := wit fun c => (c.set (SFE_FN_CFG_STATE 63) 4).set SFE_XADDR_ADDR 0x7FFFFFFF0
     let a : Agent := hart 1
     let v : W32 := 0x4000003F
     let f : Fin 64 := 63
     s.chip.admits a = true ∧ s.chip.worldOfAgent a = 1 ∧ s.chip.flag SFE_CMD_BUSY = false ∧ bits v.toNat 30 27 = 8 ∧ bits v.toNat 6 0 =
       f.val ∧ s.chip.fnState f.val = 4 ∧ (s.chip.get SFE_XADDR_ADDR % 16 ≠ 0 ∨ s.chip.get SFE_XADDR_ADDR < 0x800000000)) ∧
    (let s : State := wit fun c => c.set (SFE_FN_CFG_STATE 63) 1
     let a : Agent := hart 1
     let v : W32 := 0x4800003F
     let f : Fin 64 := 63
     s.chip.admits a = true ∧ s.chip.worldOfAgent a = 1 ∧ s.chip.flag SFE_CMD_BUSY = false ∧ bits v.toNat 30 27 = 9 ∧ bits v.toNat 6 0 =
       f.val ∧ (s.chip.fnState f.val = 1 ∨ s.chip.fnState f.val = 4)) ∧
    (let s : State := wit id
     let a : Agent := hart 1
     let v : W32 := 0x50000040
     let f : Fin 65 := 64
     s.chip.admits a = true ∧ s.chip.worldOfAgent a = 1 ∧ s.chip.flag SFE_CMD_BUSY = false ∧ bits v.toNat 30 27 = 10 ∧ bits v.toNat 6 0
       = f.val ∧ s.chip.fnState f.val ≠ 0) ∧
    (let s : State := wit id
     let a : Agent := hart 1
     let v : W32 := 0x58000040
     let f : Fin 65 := 64
     s.chip.admits a = true ∧ s.chip.worldOfAgent a = 1 ∧ s.chip.flag SFE_CMD_BUSY = false ∧ bits v.toNat 30 27 = 11 ∧ bits v.toNat 6 0
       = f.val ∧ s.chip.fnState f.val ≠ 0) ∧
    (let s : State := wit id
     let a : Agent := hart 1
     let v : W32 := 0x40000040
     s.chip.admits a = true ∧ s.chip.worldOfAgent a = 1 ∧ s.chip.flag SFE_CMD_BUSY = false ∧ bits v.toNat 30 27 < 10 ∧ 1 < bits v.toNat
       30 27 ∧ bits v.toNat 6 0 = 64) ∧
    (let s : State := wit id
     let a : Agent := hart 2
     s.chip.admits a = true ∧ (s.chip.worldOfAgent a ≠ 1 ∨ s.chip.flag SFE_CMD_BUSY = true)) ∧
    (let s : State := wit fun c => (c.set (SFE_FN_CFG_STATE 63) 2).set (VF_VEC_IID 63 63) 5 |>.setB (VF_VEC_MASK 63 63) false
     let f : Fin 64 := 63
     let v : Fin 64 := 63
     s.chip.zoneUp = true ∧ s.chip.fnState f.val = 2 ∧ s.chip.flag (VF_VEC_MASK f.val v.val) = false ∧ s.chip.get (VF_VEC_IID f.val
       v.val) ≠ 0 ∧ s.chip.coreDown (s.chip.get (SFE_FN_IRQ_CORE f.val)) = false) ∧
    (let s : State := wit id
     let f : Fin 64 := 63
     let v : Fin 64 := 63
     s.chip.zoneUp = true ∧ (s.chip.fnState f.val ≠ 2 ∨ s.chip.flag (VF_VEC_MASK f.val v.val) = true ∨ s.chip.get (VF_VEC_IID f.val
       v.val) = 0)) ∧
    (let s : State := wit id
     let f : Fin 64 := 63
     s.chip.fnState f.val ≠ 2 ∧ s.chip.fnState f.val ≠ 3) ∧
    (let s : State := wit fun c => (c.set (SFE_FN_CFG_STATE 63) 2).set (SFE_FN_GATP_GATP 63) (8 * 2 ^ 60)
     let f : Fin 64 := 63
     let addr : BitVec 50 := 0x900000FF0
     let data : List Byte := [1, 2, 3, 4]
     s.chip.zoneUp = true ∧ (s.chip.fnState f.val = 2 ∨ s.chip.fnState f.val = 3) ∧ 1 ≤ data.length ∧ addr.toNat % 4096 + data.length ≤
       4096 ∧ translatePage s.mem (s.chip.get (SFE_FN_GATP_GATP f.val)) true (addr.toNat / 4096) = none) ∧
    (let s : State := wit fun c => (c.openAll.set (SFE_FN_CFG_STATE 63) 2).set (SFE_FN_CFG_WORLD 63) 3
     let mid : Fin 20 := 11
     let f : Fin 64 := 63
     let addr : BitVec 50 := 0x900000FFC
     let data : List Byte := [1, 2, 3, 4]
     let p : Nat := 0x900000
     s.chip.zoneUp = true ∧ (s.chip.fnState f.val = 2 ∨ s.chip.fnState f.val = 3) ∧ 1 ≤ data.length ∧ addr.toNat % 4096 + data.length ≤
       4096 ∧ translatePage s.mem (s.chip.get (SFE_FN_GATP_GATP f.val)) true (addr.toNat / 4096) = some p ∧ (s.chip.flag
       (SFE_FN_DRING_EN f.val) = false ∨ (look [] s.chip.sfe.filters f.val).contains (addr.toNat / 4096) = true) ∧ s.chip.gateOpen
       mid.val = true ∧ s.chip.vfIsolated f.val = false ∧ s.chip.fwPermits (s.chip.fnTag mid.val f.val) (p * 4096 + addr.toNat % 4096)
       data.length .write = true ∧ (regionOf (p * 4096 + addr.toNat % 4096)).isMemory = true ∧ regionOf (p * 4096 + addr.toNat % 4096) ≠
       .bootRom) ∧
    (let s : State := wit fun c => (((c.openAll.set (SFE_FN_CFG_STATE 63) 2).set (SFE_FN_CFG_WORLD 63) 3).setB (SFE_FN_DRING_EN 63) true
       |>.set (SFE_FN_DRING_LOG2N 63) 10) |>.set (SFE_FN_DRING_BASE 63) 0x880000000
     let mid : Fin 20 := 11
     let f : Fin 64 := 63
     let addr : BitVec 50 := 0x900000FFC
     let data : List Byte := [1, 2, 3, 4]
     let p : Nat := 0x900000
     s.chip.zoneUp = true ∧ (s.chip.fnState f.val = 2 ∨ s.chip.fnState f.val = 3) ∧ 1 ≤ data.length ∧ addr.toNat % 4096 + data.length ≤
       4096 ∧ translatePage s.mem (s.chip.get (SFE_FN_GATP_GATP f.val)) true (addr.toNat / 4096) = some p ∧ s.chip.flag (SFE_FN_DRING_EN
       f.val) = true ∧ (look [] s.chip.sfe.filters f.val).contains (addr.toNat / 4096) = false ∧ s.chip.get (SFE_FN_DRING_LOG2N f.val) =
       10 ∧ s.chip.get (SFE_FN_DPI_PI f.val) < 256 ∧ s.chip.get (SFE_FN_DCI_CI f.val) = 0 ∧ s.chip.gateOpen mid.val = true ∧
       s.chip.vfIsolated f.val = false ∧ s.chip.fwPermits (s.chip.fnTag mid.val f.val) (p * 4096 + addr.toNat % 4096) data.length .write
       = true ∧ (regionOf (p * 4096 + addr.toNat % 4096)).isMemory = true ∧ regionOf (p * 4096 + addr.toNat % 4096) ≠ .bootRom) ∧
    (let s : State := wit fun c => c.set (SFE_FN_CFG_STATE 63) 2
     let f : Fin 64 := 63
     s.chip.zoneUp = true ∧ s.chip.fnState f.val ≠ 0) := by
  refine ⟨?_, ?_, ?_, ?_, ?_, ?_, ?_, ?_, ?_, ?_, ?_, ?_, ?_, ?_, ?_, ?_, ?_, ?_, ?_, ?_, ?_, ?_, ?_, ?_, ?_, ?_, ?_, ?_⟩
  all_goals decide +kernel

theorem wit_key_session_operations :
    (let s : State := wit fun c => (((c.openAll.updSfe (fun b => { b with ranges := [(64 * 8 + 3, (0, 128)), (64 * 8 + 4, (2, 100))] })
       |>.updKey fun b =>
       { b with gen := false, lcs := 3, slots := [(5, { w0 := 340282366919932637181455235958412673024, state := .ready })] }).set
       (CSES_OP_OP 127) 1).set (CSES_OP_SLOTA 127) 5).set (CSES_OP_SLOTB 127) 6 |>.set (CSES_LEN_LEN 127) 16 |>.set (CSES_ADDR_IN 127)
       0x800000000 |>.wrN (CSES_RES 127) 0
     let a : Agent := hart 1
     let ses : Fin 128 := 127
     let q : Nat := 127
     let params : List Byte := [0, 0, 0, 0, 0, 0, 0, 0, 0, 0, 0, 0, 0, 0, 0, 0]
     s.chip.admits a = true ∧ s.chip.keySession (s.chip.who a) ses.val = some q ∧ s.chip.flag (CSES_RES_BUSY q) = false ∧ s.chip.get
       (CSES_OP_OP q) = 1 ∧ (s.chip.key.gen = false ∧ s.chip.key.lcs < lcRETURNED ∧ (∀ v ∈ a.vf, s.chip.fnState v.val = 2)) ∧ 16 ≤
       s.chip.get (CSES_LEN_LEN q) ∧ (s.busRead (s.chip.keyTag (s.chip.who a).fn) (s.chip.get (CSES_ADDR_IN q)) 16).1 = some params ∧
       s.chip.keyAccept 1 ((s.chip.keySlotOf (s.chip.who a).fn (s.chip.get (CSES_OP_SLOTA q))).getD 0) (s.chip.keySlotOf (s.chip.who
       a).fn (s.chip.get (CSES_OP_SLOTA q))).isSome (s.chip.keySlotOf (s.chip.who a).fn (s.chip.get (CSES_OP_SLOTB q))) q (s.chip.get
       (CSES_LEN_LEN q)) (s.chip.who a) params = none) ∧
    (let s : State := wit fun c => (((c.openAll.updSfe (fun b => { b with ranges := [(64 * 8 + 3, (0, 128)), (64 * 8 + 4, (2, 100))] })
       |>.updKey fun b =>
       { b with gen := false, lcs := 3, slots := [(5, { w0 := 340282366919932637181455235958412673024, state := .ready })] }).set
       (CSES_OP_OP 127) 2).set (CSES_OP_SLOTA 127) 5).set (CSES_OP_SLOTB 127) 6 |>.set (CSES_LEN_LEN 127) 32 |>.set (CSES_ADDR_IN 127)
       0x800000000 |>.wrN (CSES_RES 127) 0
     let a : Agent := hart 1
     let ses : Fin 128 := 127
     let q : Nat := 127
     let params : List Byte := [0, 0, 0, 0, 0, 0, 0, 0, 0, 0, 0, 0, 0, 0, 0, 0, 0, 0, 0, 0, 0, 0, 0, 0, 0, 0, 0, 0, 0, 0, 0, 0]
     s.chip.admits a = true ∧ s.chip.keySession (s.chip.who a) ses.val = some q ∧ s.chip.flag (CSES_RES_BUSY q) = false ∧ s.chip.get
       (CSES_OP_OP q) = 2 ∧ (s.chip.key.gen = false ∧ s.chip.key.lcs < lcRETURNED ∧ (∀ v ∈ a.vf, s.chip.fnState v.val = 2)) ∧ 32 ≤
       s.chip.get (CSES_LEN_LEN q) ∧ (s.busRead (s.chip.keyTag (s.chip.who a).fn) (s.chip.get (CSES_ADDR_IN q)) 32).1 = some params ∧
       s.chip.keyAccept 2 ((s.chip.keySlotOf (s.chip.who a).fn (s.chip.get (CSES_OP_SLOTA q))).getD 0) (s.chip.keySlotOf (s.chip.who
       a).fn (s.chip.get (CSES_OP_SLOTA q))).isSome (s.chip.keySlotOf (s.chip.who a).fn (s.chip.get (CSES_OP_SLOTB q))) q (s.chip.get
       (CSES_LEN_LEN q)) (s.chip.who a) params = none) ∧
    (let s : State := wit fun c => (((c.openAll.updSfe (fun b => { b with ranges := [(64 * 8 + 3, (0, 128)), (64 * 8 + 4, (2, 100))] })
       |>.updKey fun b =>
       { b with gen := false, lcs := 3, slots := [(5, { w0 := 340282366919932637181455235958412673024, state := .ready })] }).set
       (CSES_OP_OP 127) 3).set (CSES_OP_SLOTA 127) 5).set (CSES_OP_SLOTB 127) 6 |>.set (CSES_LEN_LEN 127) 100 |>.set (CSES_ADDR_IN 127)
       0x800000000 |>.wrN (CSES_RES 127) 0
     let a : Agent := hart 1
     let ses : Fin 128 := 127
     let q : Nat := 127
     s.chip.admits a = true ∧ s.chip.keySession (s.chip.who a) ses.val = some q ∧ s.chip.flag (CSES_RES_BUSY q) = false ∧ s.chip.get
       (CSES_OP_OP q) = 3 ∧ (s.chip.key.gen = false ∧ s.chip.key.lcs < lcRETURNED ∧ (∀ v ∈ a.vf, s.chip.fnState v.val = 2)) ∧
       s.chip.keyAccept 3 ((s.chip.keySlotOf (s.chip.who a).fn (s.chip.get (CSES_OP_SLOTA q))).getD 0) (s.chip.keySlotOf (s.chip.who
       a).fn (s.chip.get (CSES_OP_SLOTA q))).isSome (s.chip.keySlotOf (s.chip.who a).fn (s.chip.get (CSES_OP_SLOTB q))) q (s.chip.get
       (CSES_LEN_LEN q)) (s.chip.who a) [] = none) ∧
    (let s : State := wit fun c => (((c.openAll.updSfe (fun b => { b with ranges := [(64 * 8 + 3, (0, 128)), (64 * 8 + 4, (2, 100))] })
       |>.updKey fun b =>
       { b with gen := false, lcs := 3, slots := [(5, { w0 := 340282366919932637181455235958412673024, state := .ready })] }).set
       (CSES_OP_OP 127) 4).set (CSES_OP_SLOTA 127) 5).set (CSES_OP_SLOTB 127) 6 |>.set (CSES_LEN_LEN 127) 16 |>.set (CSES_ADDR_IN 127)
       0x800000000 |>.wrN (CSES_RES 127) 0
     let a : Agent := hart 1
     let ses : Fin 128 := 127
     let q : Nat := 127
     let params : List Byte := [0, 0, 0, 0, 0, 0, 0, 0, 0, 0, 0, 0, 0, 0, 0, 0]
     s.chip.admits a = true ∧ s.chip.keySession (s.chip.who a) ses.val = some q ∧ s.chip.flag (CSES_RES_BUSY q) = false ∧ s.chip.get
       (CSES_OP_OP q) = 4 ∧ (s.chip.key.gen = false ∧ s.chip.key.lcs < lcRETURNED ∧ (∀ v ∈ a.vf, s.chip.fnState v.val = 2)) ∧ 16 ≤
       s.chip.get (CSES_LEN_LEN q) ∧ (s.busRead (s.chip.keyTag (s.chip.who a).fn) (s.chip.get (CSES_ADDR_IN q)) 16).1 = some params ∧
       s.chip.keyAccept 4 ((s.chip.keySlotOf (s.chip.who a).fn (s.chip.get (CSES_OP_SLOTA q))).getD 0) (s.chip.keySlotOf (s.chip.who
       a).fn (s.chip.get (CSES_OP_SLOTA q))).isSome (s.chip.keySlotOf (s.chip.who a).fn (s.chip.get (CSES_OP_SLOTB q))) q (s.chip.get
       (CSES_LEN_LEN q)) (s.chip.who a) params = none) ∧
    (let s : State := wit fun c => (((c.openAll.updSfe (fun b => { b with ranges := [(64 * 8 + 3, (0, 128)), (64 * 8 + 4, (2, 100))] })
       |>.updKey fun b =>
       { b with gen := false, lcs := 3, slots := [(5, { w0 := 340282366919777894676544563424050282496, state := .ready })] }).set
       (CSES_OP_OP 127) 5).set (CSES_OP_SLOTA 127) 5).set (CSES_OP_SLOTB 127) 6 |>.set (CSES_LEN_LEN 127) 5 |>.set (CSES_ADDR_IN 127)
       0x800000000 |>.wrN (CSES_RES 127) 0
     let a : Agent := hart 1
     let ses : Fin 128 := 127
     let q : Nat := 127
     s.chip.admits a = true ∧ s.chip.keySession (s.chip.who a) ses.val = some q ∧ s.chip.flag (CSES_RES_BUSY q) = false ∧ s.chip.get
       (CSES_OP_OP q) = 5 ∧ (s.chip.key.gen = false ∧ s.chip.key.lcs < lcRETURNED ∧ (∀ v ∈ a.vf, s.chip.fnState v.val = 2)) ∧
       s.chip.keyAccept 5 ((s.chip.keySlotOf (s.chip.who a).fn (s.chip.get (CSES_OP_SLOTA q))).getD 0) (s.chip.keySlotOf (s.chip.who
       a).fn (s.chip.get (CSES_OP_SLOTA q))).isSome (s.chip.keySlotOf (s.chip.who a).fn (s.chip.get (CSES_OP_SLOTB q))) q (s.chip.get
       (CSES_LEN_LEN q)) (s.chip.who a) [] = none) ∧
    (let s : State := wit fun c => (((c.openAll.updSfe (fun b => { b with ranges := [(64 * 8 + 3, (0, 128)), (64 * 8 + 4, (2, 100))] })
       |>.updKey fun b =>
       { b with gen := false, lcs := 3, slots := [(5, { w0 := 340282366920010008433910572225593868288, state := .ready })] }).set
       (CSES_OP_OP 127) 6).set (CSES_OP_SLOTA 127) 5).set (CSES_OP_SLOTB 127) 6 |>.set (CSES_LEN_LEN 127) 64 |>.set (CSES_ADDR_IN 127)
       0x800000000 |>.wrN (CSES_RES 127) 0
     let a : Agent := hart 1
     let ses : Fin 128 := 127
     let q : Nat := 127
     s.chip.admits a = true ∧ s.chip.keySession (s.chip.who a) ses.val = some q ∧ s.chip.flag (CSES_RES_BUSY q) = false ∧ s.chip.get
       (CSES_OP_OP q) = 6 ∧ (s.chip.key.gen = false ∧ s.chip.key.lcs < lcRETURNED ∧ (∀ v ∈ a.vf, s.chip.fnState v.val = 2)) ∧
       s.chip.keyAccept 6 ((s.chip.keySlotOf (s.chip.who a).fn (s.chip.get (CSES_OP_SLOTA q))).getD 0) (s.chip.keySlotOf (s.chip.who
       a).fn (s.chip.get (CSES_OP_SLOTA q))).isSome (s.chip.keySlotOf (s.chip.who a).fn (s.chip.get (CSES_OP_SLOTB q))) q (s.chip.get
       (CSES_LEN_LEN q)) (s.chip.who a) [] = none) ∧
    (let s : State := wit fun c => (((c.openAll.updSfe (fun b => { b with ranges := [(64 * 8 + 3, (0, 128)), (64 * 8 + 4, (2, 100))] })
       |>.updKey fun b =>
       { b with gen := false, lcs := 3, slots := [(5, { w0 := 340282366920087379686365908492775063552, state := .ready })] }).set
       (CSES_OP_OP 127) 7).set (CSES_OP_SLOTA 127) 5).set (CSES_OP_SLOTB 127) 6 |>.set (CSES_LEN_LEN 127) 576 |>.set (CSES_ADDR_IN 127)
       0x800000000 |>.wrN (CSES_RES 127) 0
     let a : Agent := hart 1
     let ses : Fin 128 := 127
     let q : Nat := 127
     s.chip.admits a = true ∧ s.chip.keySession (s.chip.who a) ses.val = some q ∧ s.chip.flag (CSES_RES_BUSY q) = false ∧ s.chip.get
       (CSES_OP_OP q) = 7 ∧ (s.chip.key.gen = false ∧ s.chip.key.lcs < lcRETURNED ∧ (∀ v ∈ a.vf, s.chip.fnState v.val = 2)) ∧
       s.chip.keyAccept 7 ((s.chip.keySlotOf (s.chip.who a).fn (s.chip.get (CSES_OP_SLOTA q))).getD 0) (s.chip.keySlotOf (s.chip.who
       a).fn (s.chip.get (CSES_OP_SLOTA q))).isSome (s.chip.keySlotOf (s.chip.who a).fn (s.chip.get (CSES_OP_SLOTB q))) q (s.chip.get
       (CSES_LEN_LEN q)) (s.chip.who a) [] = none) ∧
    (let s : State := witm [(0x80000006A, 192), (0x80000006C, 130), (0x80000006D, 16)] fun c => (((c.openAll.updSfe (fun b =>
       { b with ranges := [(64 * 8 + 3, (0, 128)), (64 * 8 + 4, (2, 100))] }) |>.updKey fun b =>
       { b with gen := false, lcs := 3, slots := [(5, { w0 := 340282366919777894676544563424050282496, state := .ready })] }).set
       (CSES_OP_OP 127) 8).set (CSES_OP_SLOTA 127) 5).set (CSES_OP_SLOTB 127) 6 |>.set (CSES_LEN_LEN 127) 112 |>.set (CSES_ADDR_IN 127)
       0x800000000 |>.wrN (CSES_RES 127) 0
     let a : Agent := hart 1
     let ses : Fin 128 := 127
     let q : Nat := 127
     let params : List Byte := [0, 0, 0, 0, 0, 0, 0, 0, 0, 0, 0, 0, 0, 0, 0, 0, 0, 0, 0, 0, 0, 0, 0, 0, 0, 0, 0, 0, 0, 0, 0, 0, 0, 0, 0,
       0, 0, 0, 0, 0, 0, 0, 0, 0, 0, 0, 0, 0, 0, 0, 0, 0, 0, 0, 0, 0, 0, 0, 0, 0, 0, 0, 0, 0, 0, 0, 0, 0, 0, 0, 0, 0, 0, 0, 0, 0, 0, 0,
       0, 0, 0, 0, 0, 0, 0, 0, 0, 0, 0, 0, 0, 0, 0, 0, 0, 0, 0, 0, 0, 0, 0, 0, 0, 0, 0, 0, 192, 0, 130, 16, 0, 0]
     s.chip.admits a = true ∧ s.chip.keySession (s.chip.who a) ses.val = some q ∧ s.chip.flag (CSES_RES_BUSY q) = false ∧ s.chip.get
       (CSES_OP_OP q) = 8 ∧ (s.chip.key.gen = false ∧ s.chip.key.lcs < lcRETURNED ∧ (∀ v ∈ a.vf, s.chip.fnState v.val = 2)) ∧ 112 ≤
       s.chip.get (CSES_LEN_LEN q) ∧ (s.busRead (s.chip.keyTag (s.chip.who a).fn) (s.chip.get (CSES_ADDR_IN q)) 112).1 = some params ∧
       s.chip.keyAccept 8 ((s.chip.keySlotOf (s.chip.who a).fn (s.chip.get (CSES_OP_SLOTA q))).getD 0) (s.chip.keySlotOf (s.chip.who
       a).fn (s.chip.get (CSES_OP_SLOTA q))).isSome (s.chip.keySlotOf (s.chip.who a).fn (s.chip.get (CSES_OP_SLOTB q))) q (s.chip.get
       (CSES_LEN_LEN q)) (s.chip.who a) params = none) ∧
    (let s : State := witm [(0x80000000A, 192), (0x80000000C, 130), (0x80000000D, 16)] fun c => (((c.openAll.updSfe (fun b =>
       { b with ranges := [(64 * 8 + 3, (0, 128)), (64 * 8 + 4, (2, 100))] }) |>.updKey fun b =>
       { b with gen := false, lcs := 3, slots := [(5, { w0 := 340282366919932637181455235958412673024, state := .ready })] }).set
       (CSES_OP_OP 127) 9).set (CSES_OP_SLOTA 127) 5).set (CSES_OP_SLOTB 127) 6 |>.set (CSES_LEN_LEN 127) 56 |>.set (CSES_ADDR_IN 127)
       0x800000000 |>.wrN (CSES_RES 127) 0
     let a : Agent := hart 1
     let ses : Fin 128 := 127
     let q : Nat := 127
     let params : List Byte := [0, 0, 0, 0, 0, 0, 0, 0, 0, 0, 192, 0, 130, 16, 0, 0]
     s.chip.admits a = true ∧ s.chip.keySession (s.chip.who a) ses.val = some q ∧ s.chip.flag (CSES_RES_BUSY q) = false ∧ s.chip.get
       (CSES_OP_OP q) = 9 ∧ (s.chip.key.gen = false ∧ s.chip.key.lcs < lcRETURNED ∧ (∀ v ∈ a.vf, s.chip.fnState v.val = 2)) ∧ 16 ≤
       s.chip.get (CSES_LEN_LEN q) ∧ (s.busRead (s.chip.keyTag (s.chip.who a).fn) (s.chip.get (CSES_ADDR_IN q)) 16).1 = some params ∧
       s.chip.keyAccept 9 ((s.chip.keySlotOf (s.chip.who a).fn (s.chip.get (CSES_OP_SLOTA q))).getD 0) (s.chip.keySlotOf (s.chip.who
       a).fn (s.chip.get (CSES_OP_SLOTA q))).isSome (s.chip.keySlotOf (s.chip.who a).fn (s.chip.get (CSES_OP_SLOTB q))) q (s.chip.get
       (CSES_LEN_LEN q)) (s.chip.who a) params = none) ∧
    (let s : State := witm [(0x80000000A, 64), (0x80000000B, 1), (0x80000000C, 130), (0x80000000D, 16)] fun c => (((c.openAll.updSfe
       (fun b => { b with ranges := [(64 * 8 + 3, (0, 128)), (64 * 8 + 4, (2, 100))] }) |>.updKey fun b =>
       { b with gen := false, lcs := 3, slots := [(5, { w0 := 340282366919777894676544563424050282496, state := .ready })] }).set
       (CSES_OP_OP 127) 10).set (CSES_OP_SLOTA 127) 5).set (CSES_OP_SLOTB 127) 6 |>.set (CSES_LEN_LEN 127) 528 |>.set (CSES_ADDR_IN 127)
       0x800000000 |>.wrN (CSES_RES 127) 0
     let a : Agent := hart 1
     let ses : Fin 128 := 127
     let q : Nat := 127
     let params : List Byte := [0, 0, 0, 0, 0, 0, 0, 0, 0, 0, 64, 1, 130, 16, 0, 0]
     s.chip.admits a = true ∧ s.chip.keySession (s.chip.who a) ses.val = some q ∧ s.chip.flag (CSES_RES_BUSY q) = false ∧ s.chip.get
       (CSES_OP_OP q) = 10 ∧ (s.chip.key.gen = false ∧ s.chip.key.lcs < lcRETURNED ∧ (∀ v ∈ a.vf, s.chip.fnState v.val = 2)) ∧ 16 ≤
       s.chip.get (CSES_LEN_LEN q) ∧ (s.busRead (s.chip.keyTag (s.chip.who a).fn) (s.chip.get (CSES_ADDR_IN q)) 16).1 = some params ∧
       s.chip.keyAccept 10 ((s.chip.keySlotOf (s.chip.who a).fn (s.chip.get (CSES_OP_SLOTA q))).getD 0) (s.chip.keySlotOf (s.chip.who
       a).fn (s.chip.get (CSES_OP_SLOTA q))).isSome (s.chip.keySlotOf (s.chip.who a).fn (s.chip.get (CSES_OP_SLOTB q))) q (s.chip.get
       (CSES_LEN_LEN q)) (s.chip.who a) params = none) ∧
    (let s : State := wit fun c => (((c.openAll.updSfe (fun b => { b with ranges := [(64 * 8 + 3, (0, 128)), (64 * 8 + 4, (2, 100))] })
       |>.updKey fun b =>
       { b with gen := false, lcs := 3, slots := [(5, { w0 := 340282366919777894676544563424050282496, state := .ready })] }).set
       (CSES_OP_OP 127) 11).set (CSES_OP_SLOTA 127) 5).set (CSES_OP_SLOTB 127) 6 |>.set (CSES_LEN_LEN 127) 9 |>.set (CSES_ADDR_IN 127)
       0x800000000 |>.wrN (CSES_RES 127) 0
     let a : Agent := hart 1
     let ses : Fin 128 := 127
     let q : Nat := 127
     s.chip.admits a = true ∧ s.chip.keySession (s.chip.who a) ses.val = some q ∧ s.chip.flag (CSES_RES_BUSY q) = false ∧ s.chip.get
       (CSES_OP_OP q) = 11 ∧ (s.chip.key.gen = false ∧ s.chip.key.lcs < lcRETURNED ∧ (∀ v ∈ a.vf, s.chip.fnState v.val = 2)) ∧
       s.chip.keyAccept 11 ((s.chip.keySlotOf (s.chip.who a).fn (s.chip.get (CSES_OP_SLOTA q))).getD 0) (s.chip.keySlotOf (s.chip.who
       a).fn (s.chip.get (CSES_OP_SLOTA q))).isSome (s.chip.keySlotOf (s.chip.who a).fn (s.chip.get (CSES_OP_SLOTB q))) q (s.chip.get
       (CSES_LEN_LEN q)) (s.chip.who a) [] = none) ∧
    (let s : State := wit fun c => (((c.openAll.updSfe (fun b => { b with ranges := [(64 * 8 + 3, (0, 128)), (64 * 8 + 4, (2, 100))] })
       |>.updKey fun b =>
       { b with gen := false, lcs := 3, slots := [(1, { w0 := 340282366920010008433910572225593868288, state := .ready })] }).set
       (CSES_OP_OP 127) 12).set (CSES_OP_SLOTA 127) 5).set (CSES_OP_SLOTB 127) 6 |>.set (CSES_LEN_LEN 127) 64 |>.set (CSES_ADDR_IN 127)
       0x800000000 |>.set KEY_ROOTATTR_IDWORLDS 31 |>.wrN (CSES_RES 127) 0
     let a : Agent := hart 1
     let ses : Fin 128 := 127
     let q : Nat := 127
     s.chip.admits a = true ∧ s.chip.keySession (s.chip.who a) ses.val = some q ∧ s.chip.flag (CSES_RES_BUSY q) = false ∧ s.chip.get
       (CSES_OP_OP q) = 12 ∧ (s.chip.key.gen = false ∧ s.chip.key.lcs < lcRETURNED ∧ (∀ v ∈ a.vf, s.chip.fnState v.val = 2)) ∧
       s.chip.keyAccept 12 1 true (s.chip.keySlotOf (s.chip.who a).fn (s.chip.get (CSES_OP_SLOTB q))) q (s.chip.get (CSES_LEN_LEN q))
       (s.chip.who a) [] = none) ∧
    (let s : State := wit fun c => (((c.openAll.updSfe (fun b => { b with ranges := [(64 * 8 + 3, (0, 128)), (64 * 8 + 4, (2, 100))] })
       |>.updKey fun b =>
       { b with gen := false, lcs := 3, slots := [(5, { w0 := 340282366919777894676544563424050282496, state := .ready })] }).set
       (CSES_OP_OP 127) 13).set (CSES_OP_SLOTA 127) 2).set (CSES_OP_SLOTB 127) 6 |>.set (CSES_LEN_LEN 127) 7 |>.set (CSES_ADDR_IN 127)
       0x800000000 |>.wrN (CSES_RES 127) 0
     let a : Agent := hart 1
     let ses : Fin 128 := 127
     let q : Nat := 127
     s.chip.admits a = true ∧ s.chip.keySession (s.chip.who a) ses.val = some q ∧ s.chip.flag (CSES_RES_BUSY q) = false ∧ s.chip.get
       (CSES_OP_OP q) = 13 ∧ (s.chip.key.gen = false ∧ s.chip.key.lcs < lcRETURNED ∧ (∀ v ∈ a.vf, s.chip.fnState v.val = 2)) ∧
       s.chip.keyAccept 13 (s.chip.get (CSES_OP_SLOTA q)) (s.chip.keySlotOf (s.chip.who a).fn (s.chip.get (CSES_OP_SLOTA q))).isSome
       (s.chip.keySlotOf (s.chip.who a).fn (s.chip.get (CSES_OP_SLOTB q))) q (s.chip.get (CSES_LEN_LEN q)) (s.chip.who a) [] = none) ∧
    (let s : State := wit fun c => (((c.openAll.updSfe (fun b => { b with ranges := [(64 * 8 + 3, (0, 128)), (64 * 8 + 4, (2, 100))] })
       |>.updKey fun b => { b with gen := false, lcs := 3 }).set (CSES_OP_OP 127) 3).set (CSES_OP_SLOTA 127) 5).wrN (CSES_RES 127) 0
     let a : Agent := hart 1
     let ses : Fin 128 := 127
     let q : Nat := 127
     let why : Nat := 2
     let st : Nat := 1
     s.chip.admits a = true ∧ s.chip.keySession (s.chip.who a) ses.val = some q ∧ s.chip.flag (CSES_RES_BUSY q) = false ∧ s.chip.get
       (CSES_OP_OP q) = 3 ∧ (s.chip.key.gen = false ∧ s.chip.key.lcs < lcRETURNED ∧ (∀ v ∈ a.vf, s.chip.fnState v.val = 2)) ∧
       s.chip.keyAccept 3 ((s.chip.keySlotOf (s.chip.who a).fn (s.chip.get (CSES_OP_SLOTA q))).getD 0) (s.chip.keySlotOf (s.chip.who
       a).fn (s.chip.get (CSES_OP_SLOTA q))).isSome (s.chip.keySlotOf (s.chip.who a).fn (s.chip.get (CSES_OP_SLOTB q))) q (s.chip.get
       (CSES_LEN_LEN q)) (s.chip.who a) [] = some (why, st)) ∧
    (let s : State := wit fun c => (((c.openAll.updSfe (fun b => { b with ranges := [(64 * 8 + 3, (0, 128)), (64 * 8 + 4, (2, 100))] })
       |>.updKey fun b => { b with gen := false, lcs := 3 }).set (CSES_OP_OP 127) 11).setB (CSES_RES_BUSY 127) true)
     let a : Agent := hart 1
     let ses : Fin 128 := 127
     let q : Nat := 127
     s.chip.admits a = true ∧ s.chip.keySession (s.chip.who a) ses.val = some q ∧ q < 128 ∧ s.chip.get (CSES_OP_OP q) = 11 ∧ s.chip.flag
       (CSES_RES_BUSY q) = true) ∧
    (let s : State := wit fun c => (((c.openAll.updSfe (fun b => { b with ranges := [(64 * 8 + 3, (0, 128)), (64 * 8 + 4, (2, 100))] })
       |>.updKey fun b => { b with gen := false, lcs := 3}).updKey (fun b => { b with gen := true }) |>.set (CSES_OP_OP 127) 11).wrN
       (CSES_RES 127) 0)
     let a : Agent := hart 1
     let ses : Fin 128 := 127
     let q : Nat := 127
     s.chip.admits a = true ∧ s.chip.keySession (s.chip.who a) ses.val = some q ∧ s.chip.flag (CSES_RES_BUSY q) = false ∧ s.chip.get
       (CSES_OP_OP q) = 11 ∧ s.chip.key.gen = true) ∧
    (let s : State := wit fun c => (((c.openAll.updSfe (fun b => { b with ranges := [(64 * 8 + 3, (0, 128)), (64 * 8 + 4, (2, 100))] })
       |>.updKey fun b => { b with gen := false, lcs := 3}).updKey (fun b => { b with lcs := 5 }) |>.set (CSES_OP_OP 127) 12).wrN
       (CSES_RES 127) 0)
     let a : Agent := hart 1
     let ses : Fin 128 := 127
     let q : Nat := 127
     s.chip.admits a = true ∧ s.chip.keySession (s.chip.who a) ses.val = some q ∧ s.chip.flag (CSES_RES_BUSY q) = false ∧ s.chip.get
       (CSES_OP_OP q) = 12 ∧ s.chip.key.gen = false ∧ lcRETURNED ≤ s.chip.key.lcs) ∧
    (let s : State := wit fun c => (((c.openAll.updSfe (fun b => { b with ranges := [(64 * 8 + 3, (0, 128)), (64 * 8 + 4, (2, 100))] })
       |>.updKey fun b =>
       { b with gen := false, lcs := 3, slots := [(5, { w0 := 340282366919777894676544563424050282496, state := .ready })] }).set
       (CSES_OP_OP 127) 14).set (CSES_OP_SLOTA 127) 5).wrN (CSES_RES 127) 0
     let a : Agent := hart 1
     let ses : Fin 128 := 127
     let q : Nat := 127
     let p : Nat := 5
     s.chip.admits a = true ∧ s.chip.keySession (s.chip.who a) ses.val = some q ∧ s.chip.flag (CSES_RES_BUSY q) = false ∧ s.chip.get
       (CSES_OP_OP q) = 14 ∧ (s.chip.key.gen = false ∧ s.chip.key.lcs < lcRETURNED ∧ (∀ v ∈ a.vf, s.chip.fnState v.val = 2)) ∧
       s.chip.flag (CSES_OP_REL q) = false ∧ s.chip.keySlotOf (s.chip.who a).fn (s.chip.get (CSES_OP_SLOTA q)) = some p ∧
       s.chip.keyCheck p a.mid.val (s.chip.worldOfAgent a) [1, 2, 3, 4, 5] none (some q) = none) ∧
    (let s : State := wit fun c => (((c.openAll.updSfe (fun b => { b with ranges := [(64 * 8 + 3, (0, 128)), (64 * 8 + 4, (2, 100))] })
       |>.updKey fun b =>
       { b with gen := false, lcs := 3, slots := [(5, { w0 := 340282366919777894676544563424050282496, state := .ready })], holds := [(5, some { ses := 127, fn := 64, mid := 1, world := 1, expiry := 7 })] }).set
       (CSES_OP_OP 127) 14).set (CSES_OP_SLOTA 127) 5).setB (CSES_OP_REL 127) true |>.wrN (CSES_RES 127) 0
     let a : Agent := hart 1
     let ses : Fin 128 := 127
     let q : Nat := 127
     let p : Nat := 5
     let h : KeyHold := { ses := 127, fn := 64, mid := 1, world := 1, expiry := 7 }
     s.chip.admits a = true ∧ s.chip.keySession (s.chip.who a) ses.val = some q ∧ s.chip.flag (CSES_RES_BUSY q) = false ∧ s.chip.get
       (CSES_OP_OP q) = 14 ∧ (s.chip.key.gen = false ∧ s.chip.key.lcs < lcRETURNED ∧ (∀ v ∈ a.vf, s.chip.fnState v.val = 2)) ∧
       s.chip.flag (CSES_OP_REL q) = true ∧ s.chip.keySlotOf (s.chip.who a).fn (s.chip.get (CSES_OP_SLOTA q)) = some p ∧ s.chip.keyCheck
       p a.mid.val (s.chip.worldOfAgent a) [1, 2, 3, 4, 5] none (some q) = none ∧ look none s.chip.key.holds p = some h ∧ h.ses = q) ∧
    (let s : State := wit fun c => (((c.openAll.updSfe (fun b => { b with ranges := [(64 * 8 + 3, (0, 128)), (64 * 8 + 4, (2, 100))] })
       |>.updKey fun b =>
       { b with gen := false, lcs := 3, slots := [(5, { state := .ready, anc := [0] }), (6, { state := .ready, anc := [0, 5] })] }).set
       (CSES_OP_OP 127) 15).set (CSES_OP_SLOTA 127) 5).wrN (CSES_RES 127) 0
     let a : Agent := hart 1
     let ses : Fin 128 := 127
     let q : Nat := 127
     let p : Nat := 5
     s.chip.admits a = true ∧ s.chip.keySession (s.chip.who a) ses.val = some q ∧ s.chip.flag (CSES_RES_BUSY q) = false ∧ s.chip.get
       (CSES_OP_OP q) = 15 ∧ (s.chip.key.gen = false ∧ s.chip.key.lcs < lcRETURNED ∧ (∀ v ∈ a.vf, s.chip.fnState v.val = 2)) ∧
       s.chip.keySlotOf (s.chip.who a).fn (s.chip.get (CSES_OP_SLOTA q)) = some p ∧ 2 ≤ p ∧ (s.chip.slot p).state ≠ .free ∧
       s.chip.key.bound = [] ∧ (s.chip.key.slots.map (·.1)).Nodup) ∧
    (let s : State := wit fun c => c.openAll.updSfe (fun b => { b with ranges := [(64 * 8 + 3, (0, 128)), (64 * 8 + 4, (2, 100))] })
       |>.updKey fun b =>
       { b with gen := false, lcs := 3, jobs := [{ ses := 127, op := 5, a := 5, b := 0, len := 0, inp := 0, out := 0, fn := 64, mid := 1, world := 1, params := [], irq := false }] }
     let e : Fin 5 := 2
     let j : KeyJob := { ses := 127, op := 5, a := 5, b := 0, len := 0, inp := 0, out := 0, fn := 64, mid := 1, world := 1, params := [], irq := false }
     s.chip.zoneUp = true ∧ ((s.chip.key.jobs.find? fun x => x.engine == none && engineRuns e.val x.op) = some j) ∧ (∀ x ∈
       s.chip.key.jobs, x.engine ≠ some e.val) ∧ (s.chip.startCheck j = none ∧ (∀ x ∈ s.chip.key.jobs, x.ses = j.ses → x = j))) ∧
    (let s : State := wit fun c => c.openAll.updSfe (fun b => { b with ranges := [(64 * 8 + 3, (0, 128)), (64 * 8 + 4, (2, 100))] })
       |>.updKey fun b =>
       { b with gen := false, lcs := 3, slots := [(5, { state := .orphan })], jobs := [{ ses := 127, op := 3, a := 5, b := 0, len := 0, inp := 0, out := 0, fn := 64, mid := 1, world := 1, params := [], irq := false }] }
     let e : Fin 5 := 0
     let j : KeyJob := { ses := 127, op := 3, a := 5, b := 0, len := 0, inp := 0, out := 0, fn := 64, mid := 1, world := 1, params := [], irq := false }
     let why : Nat := 3
     let st : Nat := 0x0E
     s.chip.zoneUp = true ∧ j.ses < 128 ∧ ((s.chip.key.jobs.find? fun x => x.engine == none && engineRuns e.val x.op) = some j) ∧ (∀ x ∈
       s.chip.key.jobs, x.engine ≠ some e.val) ∧ s.chip.startCheck j = some (why, st)) ∧
    (let s : State := wit fun c => c.openAll.updSfe (fun b => { b with ranges := [(64 * 8 + 3, (0, 128)), (64 * 8 + 4, (2, 100))] })
       |>.updKey fun b =>
       { b with gen := false, lcs := 3, slots := [(5, { state := .orphan })], jobs := [{ ses := 127, op := 3, a := 5, b := 0, len := 0, inp := 0, out := 0, fn := 64, mid := 1, world := 1, params := [], irq := false, engine := some 0, during := true }] }
     let e : Fin 5 := 0
     let j : KeyJob := { ses := 127, op := 3, a := 5, b := 0, len := 0, inp := 0, out := 0, fn := 64, mid := 1, world := 1, params := [], irq := false, engine := some 0, during := true }
     s.chip.zoneUp = true ∧ j.ses < 128 ∧ j.fn < 65 ∧ j.irq = false ∧ ((s.chip.key.jobs.find? fun x => x.engine == some e.val) = some j)
       ∧ j.during = true) ∧
    (let s : State := wit fun c => c.openAll.updSfe (fun b => { b with ranges := [(64 * 8 + 3, (0, 128)), (64 * 8 + 4, (2, 100))] })
       |>.updKey fun b =>
       { b with gen := false, lcs := 3, jobs := [{ ses := 127, op := 13, a := 7, b := 0, len := 0, inp := 0, out := 0, fn := 64, mid := 1, world := 1, params := [], irq := false, engine := some 2 }] }
     let e : Fin 5 := 2
     let j : KeyJob := { ses := 127, op := 13, a := 7, b := 0, len := 0, inp := 0, out := 0, fn := 64, mid := 1, world := 1, params := [], irq := false, engine := some 2 }
     let data : List Byte := []
     s.chip.zoneUp = true ∧ j.ses < 128 ∧ j.irq = false ∧ j.during = false ∧ ((s.chip.key.jobs.find? fun x => x.engine == some e.val) =
       some j) ∧ j.op = 13 ∧ (s.busRead (s.chip.keyTag j.fn) j.inp j.len).1 = some data) ∧
    (let s : State := wit fun c => c.openAll.updSfe (fun b => { b with ranges := [(64 * 8 + 3, (0, 128)), (64 * 8 + 4, (2, 100))] })
       |>.updKey fun b =>
       { b with gen := false, lcs := 3, jobs := [{ ses := 127, op := 8, a := 7, b := 9, len := 0, inp := 0, out := 0, fn := 64, mid := 1, world := 1, params := [], irq := false, engine := some 2 }] }
     let e : Fin 5 := 2
     let j : KeyJob := { ses := 127, op := 8, a := 7, b := 9, len := 0, inp := 0, out := 0, fn := 64, mid := 1, world := 1, params := [], irq := false, engine := some 2 }
     let data : List Byte := []
     s.chip.zoneUp = true ∧ j.ses < 128 ∧ j.irq = false ∧ j.during = false ∧ ((s.chip.key.jobs.find? fun x => x.engine == some e.val) =
       some j) ∧ j.op = 8 ∧ (s.busRead (s.chip.keyTag j.fn) j.inp j.len).1 = some data) ∧
    (let s : State := wit fun c => c.openAll.updSfe (fun b => { b with ranges := [(64 * 8 + 3, (0, 128)), (64 * 8 + 4, (2, 100))] })
       |>.updKey fun b =>
       { b with gen := false, lcs := 3, jobs := [{ ses := 127, op := 4, a := 7, b := 9, len := 0, inp := 0, out := 0, fn := 64, mid := 1, world := 1, params := [], irq := false, engine := some 0 }] }
     let e : Fin 5 := 0
     let j : KeyJob := { ses := 127, op := 4, a := 7, b := 9, len := 0, inp := 0, out := 0, fn := 64, mid := 1, world := 1, params := [], irq := false, engine := some 0 }
     let data : List Byte := []
     s.chip.zoneUp = true ∧ j.ses < 128 ∧ j.irq = false ∧ j.during = false ∧ ((s.chip.key.jobs.find? fun x => x.engine == some e.val) =
       some j) ∧ j.op = 4 ∧ (s.busRead (s.chip.keyTag j.fn) j.inp j.len).1 = some data) := by
  refine ⟨?_, ?_, ?_, ?_, ?_, ?_, ?_, ?_, ?_, ?_, ?_, ?_, ?_, ?_, ?_, ?_, ?_, ?_, ?_, ?_, ?_, ?_, ?_, ?_, ?_, ?_⟩
  all_goals decide +kernel

theorem wit_keys_and_life_cycle_r13 :
    (let s : State := wit fun c => c.openAll.set KEY_TOKADDR_ADDR 0x800000000
     let a : Agent := hart 4
     let v : W32 := 0x80000002
     let tok : List Byte := List.replicate 1080 0
     s.chip.admits a = true ∧ s.chip.flag KEY_LCRES_BUSY = false ∧ bit v.toNat 31 = true ∧ bits v.toNat 3 0 = 2 ∧ (s.chip.worldOfAgent a
       = 1 ∨ s.chip.worldOfAgent a = 4) ∧ (s.busRead { mid := 16, world := s.chip.worldOfAgent a, vf := none } (s.chip.get
       KEY_TOKADDR_ADDR) 1080).1 = some tok ∧ (tok.take 4 ≠ [0x41, 0x58, 0x4C, 0x54] ∨ tok.getD 4 0 ≠ 1 ∨ tok.getD 5 0 ∉ [0, 3, 4, 5])) := by
  decide +kernel

theorem wit_keys_and_life_cycle_r14 :
    (let s : State := wit fun c => c.openAll.set KEY_TOKADDR_ADDR 0x800000000
     let a : Agent := hart 4
     let v : W32 := 0x80000002
     let tok : List Byte := List.replicate 1080 0
     s.chip.admits a = true ∧ s.chip.flag KEY_LCRES_BUSY = false ∧ bit v.toNat 31 = true ∧ bits v.toNat 3 0 = 2 ∧ (s.chip.worldOfAgent a
       = 1 ∨ s.chip.worldOfAgent a = 4) ∧ (s.busRead { mid := 16, world := s.chip.worldOfAgent a, vf := none } (s.chip.get
       KEY_TOKADDR_ADDR) 1080).1 = some tok) := by
  decide +kernel

theorem wit_keys_and_life_cycle :
    (let s : State := wit id
     s.chip.zoneUp = true ∧ s.chip.key.gen = true ∧ s.chip.key.lcs = lcBLANK ∧ s.chip.key.trngBad = false) ∧
    (let s : State := wit fun c => c.updKey fun b => { b with trngBad := true }
     (s.chip.key.gen = false ∨ s.chip.key.trngBad = true)) ∧
    (let s : State := wit id
     s.chip.zoneUp = true) ∧
    (let s : State := wit fun c => c.updKey fun b =>
       { b with slots := [(5, { state := .ready, anc := [0, 1023] }), (1023, { state := .ready, anc := [0] })] }
     let a : Agent := hart 1
     let slot : Fin 1024 := 1023
     s.chip.admits a = true ∧ s.chip.worldOfAgent a = 1 ∧ 2 ≤ slot.val ∧ (s.chip.slot slot.val).state ≠ .free ∧ s.chip.key.bound = [] ∧
       (s.chip.key.slots.map (·.1)).Nodup) ∧
    (let s : State := wit id
     let a : Agent := hart 1
     let slot : Fin 1024 := 1
     s.chip.admits a = true ∧ s.chip.worldOfAgent a = 1 ∧ (slot.val < 2 ∨ (s.chip.slot slot.val).state = .free)) ∧
    (let s : State := wit fun c => c.updKey fun b =>
       { b with slots := [(1023, { state := .orphan, anc := [0], mat := [1], pub := some 3 })], pubs := [(3, [7])] }
     let slot : Fin 1024 := 1023
     s.chip.zoneUp = true ∧ ((s.chip.slot slot.val).state = .revoked ∨ (s.chip.slot slot.val).state = .orphan) ∧ s.chip.key.jobs = []) ∧
    (let s : State := wit fun c => c.updKey fun b =>
       { b with jobs := [{ ses := 127, op := 3, a := 5, b := 0, len := 0, inp := 0, out := 0, fn := 64, mid := 1, world := 1, params := [], irq := false, engine := some 0 }], slots := [(5, { state := .orphan })] }
     let slot : Fin 1024 := 5
     let j : KeyJob := { ses := 127, op := 3, a := 5, b := 0, len := 0, inp := 0, out := 0, fn := 64, mid := 1, world := 1, params := [], irq := false, engine := some 0 }
     j ∈ s.chip.key.jobs ∧ j.engine ≠ none ∧ (keyNeeds j.op).isSome = true ∧ j.a = slot.val) ∧
    (let s : State := wit fun c => c.updKey fun b =>
       { b with holds := [(1023, some { ses := 1, fn := 64, mid := 1, world := 1, expiry := 7 })] }
     let slot : Fin 1024 := 1023
     let h : KeyHold := { ses := 1, fn := 64, mid := 1, world := 1, expiry := 7 }
     s.chip.zoneUp = true ∧ look none s.chip.key.holds slot.val = some h ∧ h.expiry ≤ s.chip.frc ∧ s.chip.clm.running = none) ∧
    (let s : State := wit fun c => c.updKey fun b => { b with crown := true, idkey := true }
     let a : Agent := hart 1
     let v : W32 := 0x80000001
     s.chip.admits a = true ∧ s.chip.flag KEY_LCRES_BUSY = false ∧ bit v.toNat 31 = true ∧ bits v.toNat 3 0 = 1 ∧ s.chip.key.lcs =
       lcBLANK ∧ s.chip.key.crown = true ∧ s.chip.key.idkey = true ∧ s.chip.worldOfAgent a < 2) ∧
    (let s : State := wit fun c => (c.wrN (KEY_AUTHHASH 3) 1).updKey fun b => { b with lcs := 2 }
     let a : Agent := hart 1
     let v : W32 := 0x80000001
     s.chip.admits a = true ∧ s.chip.flag KEY_LCRES_BUSY = false ∧ bit v.toNat 31 = true ∧ bits v.toNat 3 0 = 1 ∧ s.chip.key.lcs =
       lcPROVISIONED ∧ s.chip.authHash ≠ 0 ∧ s.chip.worldOfAgent a = 1) ∧
    (let s : State := wit fun c => c.updKey fun b => { b with lcs := 3 }
     let a : Agent := hart 1
     let v : W32 := 0x80000001
     s.chip.admits a = true ∧ s.chip.flag KEY_LCRES_BUSY = false ∧ bit v.toNat 31 = true ∧ bits v.toNat 3 0 = 1 ∧ s.chip.worldOfAgent a
       < 2 ∧ lcFIELD ≤ s.chip.key.lcs) ∧
    (let s : State := wit fun c => c.updKey fun b => { b with lcs := 5 }
     let a : Agent := hart 4
     let v : W32 := 0x80000003
     s.chip.admits a = true ∧ s.chip.flag KEY_LCRES_BUSY = false ∧ bit v.toNat 31 = true ∧ bits v.toNat 3 0 = 3 ∧ (s.chip.worldOfAgent a
       = 1 ∨ s.chip.worldOfAgent a = 4) ∧ s.chip.key.lcs = lcRETURNED) ∧
    (let s : State := wit id
     let a : Agent := hart 4
     let v : W32 := 0x80000003
     s.chip.admits a = true ∧ s.chip.flag KEY_LCRES_BUSY = false ∧ bit v.toNat 31 = true ∧ bits v.toNat 3 0 = 3 ∧ (s.chip.worldOfAgent a
       = 1 ∨ s.chip.worldOfAgent a = 4) ∧ s.chip.key.lcs ≠ lcRETURNED) ∧
    (let s : State := wit fun c => c.updKey fun b =>
       { b with zeroise := true, lcs := 5, slots := [(0, { state := .ready, mat := [1, 2] }), (1023, { state := .orphan, mat := [3] })] }
     s.chip.zoneUp = true ∧ s.chip.key.zeroise = true) ∧
    (let s : State := wit fun c => (c.wrN (KEY_AUTHHASH 3) 0).updKey fun b => { b with lcs := 2 }
     let a : Agent := hart 1
     let k : Fin 4 := 3
     s.chip.admits a = true ∧ s.chip.worldOfAgent a = 1 ∧ s.chip.key.lcs = lcPROVISIONED ∧ s.chip.rdN (KEY_AUTHHASH k.val) = 0) ∧
    (let s : State := wit id
     let a : Agent := hart 1
     let k : Fin 4 := 3
     s.chip.admits a = true ∧ s.chip.worldOfAgent a = 1 ∧ (s.chip.key.lcs ≠ lcPROVISIONED ∨ s.chip.rdN (KEY_AUTHHASH k.val) ≠ 0)) ∧
    (let s : State := wit id
     let a : Agent := hart 1
     let v : W32 := 1
     s.chip.admits a = true ∧ s.chip.worldOfAgent a = 1 ∧ bit v.toNat 0 = true) := by
  refine ⟨?_, ?_, ?_, ?_, ?_, ?_, ?_, ?_, ?_, ?_, ?_, ?_, ?_, ?_, ?_, ?_, ?_⟩
  all_goals decide +kernel

theorem wit_dictionary_requests_r10 :
    (let s : State := wit fun c => (c.ddpUp 4).updDdp (fun b =>
       { b with sessions := [(63, some { via := .hat 1, peer := 0x3FF00, world := 4, slot := 5, key := 7, rc := 0x120, expiry := 5 })] })
     let v : DdpVia := .hat 1
     let p : DdpPacket := { ask 0 0 [] with auth := true, session := 63, tid := 0x21, tag := ddpTag 7 0x121 false (packetBody (asRequest { ask 0 0 [] with auth := true, session := 63 } cmCLOSE)) }
     let n : Fin 64 := 63
     let x : DdpSession := { via := .hat 1, peer := 0x3FF00, world := 4, slot := 5, key := 7, rc := 0x120, expiry := 5 }
     s.chip.zoneUp = true ∧ s.chip.viaServed v = true ∧ s.chip.addressed (asRequest p cmCLOSE) = true ∧ p.auth = true ∧ p.data = [] ∧
       p.session.toNat = n.val ∧ s.chip.session n.val = some x ∧ sameLink x.via v = true ∧ x.peer = p.src.toNat ∧ s.chip.gateShut (.ses
       n.val) = false ∧ p.tid.toNat = (x.rc + 1) % 256 ∧ p.tag = ddpTag x.key (x.rc + 1) false (packetBody (asRequest p cmCLOSE)) ∧
       s.chip.flag RST_CAUSE_OPTFAIL = false ∧ s.chip.ddp.xfers = []) := by
  repeat' apply And.intro
  all_goals first | decide +kernel | rfl

theorem wit_dictionary_requests_r11 :
    (let s : State := wit fun c => (c.ddpUp 4).updDdp (fun b =>
       { b with sessions := [(63, some { via := .hat 1, peer := 0x3FF00, world := 4, slot := 5, key := 7, rc := 0x120, expiry := 5 })] })
     let v : DdpVia := .hat 1
     let p : DdpPacket := { ask 0 0 [] with auth := true, session := 63, tid := 0x20, tag := ddpTag 7 0x120 false (packetBody (asRequest { ask 0 0 [] with auth := true, session := 63, tid := 0x20 } cmWRITE)) }
     let n : Fin 64 := 63
     let x : DdpSession := { via := .hat 1, peer := 0x3FF00, world := 4, slot := 5, key := 7, rc := 0x120, expiry := 5 }
     s.chip.zoneUp = true ∧ s.chip.viaServed v = true ∧ s.chip.addressed (asRequest p cmWRITE) = true ∧ p.auth = true ∧ p.session.toNat
       = n.val ∧ s.chip.session n.val = some x ∧ sameLink x.via v = true ∧ x.peer = p.src.toNat ∧ s.chip.gateShut (.ses n.val) = false ∧
       p.tid.toNat = x.rc % 256 ∧ p.tag = ddpTag x.key x.rc false (packetBody (asRequest p cmWRITE)) ∧ s.chip.ddp.out = []) := by
  repeat' apply And.intro
  all_goals first | decide +kernel | rfl

theorem wit_dictionary_requests :
    (let s : State := wit fun c => (c.ddpUp 4).wrN DDP_CNT0 7
     let v : DdpVia := .hat 1
     let p : DdpPacket := ask 0xF000 1 []
     let w : Nat := 4
     let x : Elem := { ty := 4, size := 4, regs := [0x30210018], val := 7 }
     s.chip.zoneUp = true ∧ s.chip.viaServed v = true ∧ s.chip.addressed (asRequest p cmREAD) = true ∧ p.auth = false ∧
       s.chip.packetSession v p = none ∧ s.chip.rqWorld v p.src.toNat = some w ∧ s.chip.worldMay (some w) cmREAD p.object.toNat = true ∧
       firmwareObject p.object.toNat = false ∧ s.chip.objectCheck (some w) false cmREAD p.object.toNat p.element.toNat p.type.toNat =
       (stOK, some x) ∧ p.data = [] ∧ x.size ≤ s.chip.expedited v false ∧ s.chip.objectHeld p.object.toNat = false ∧ s.chip.ddp.out = []) ∧
    (let s : State := wit fun c => c.ddpUp 4
     let v : DdpVia := .hat 1
     let p : DdpPacket := ask 0x1FFF 0 []
     let st : Nat := 1
     let w : Nat := 4
     s.chip.zoneUp = true ∧ s.chip.viaServed v = true ∧ s.chip.addressed (asRequest p cmREAD) = true ∧ p.auth = false ∧
       s.chip.packetSession v p = none ∧ s.chip.rqWorld v p.src.toNat = some w ∧ s.chip.worldMay (some w) cmREAD p.object.toNat = true ∧
       firmwareObject p.object.toNat = false ∧ s.chip.objectCheck (some w) false cmREAD p.object.toNat p.element.toNat p.type.toNat =
       (st, none) ∧ s.chip.ddp.out = []) ∧
    (let s : State := wit fun c => (c.ddpUp 0)
     let v : DdpVia := .can 0
     let p : DdpPacket := ask 0x3000 0 []
     s.chip.zoneUp = true ∧ s.chip.viaServed v = true ∧ s.chip.addressed (asRequest p cmREAD) = true ∧ p.auth = false ∧
       s.chip.packetSession v p = none ∧ s.chip.rqWorld v p.src.toNat = none ∧ 0x1000 ≤ p.object.toNat ∧ p.object.toNat ≠ 0xE000) ∧
    (let s : State := wit fun c => c.ddpUp 4
     let v : DdpVia := .hat 1
     let p : DdpPacket := { ask 0xF000 1 [] with dst := 0x214 }
     (s.chip.viaServed v = false ∨ s.chip.addressed (asRequest p cmREAD) = false)) ∧
    (let s : State := wit fun c => c.ddpUp 1
     let v : DdpVia := .hat 1
     let p : DdpPacket := ask 0 0 [0xFF, 0xFF, 3, 0]
     s.chip.zoneUp = true ∧ s.chip.viaServed v = true ∧ s.chip.addressed (asRequest p cmWRITE) = true ∧ p.auth = false ∧
       s.chip.packetSession v p = none ∧ s.chip.rqWorld v p.src.toNat = some 1 ∧ s.chip.flag RST_CAUSE_OPTFAIL = false ∧ lcPROVISIONED ≤
       s.chip.key.lcs ∧ s.chip.key.lcs ≤ lcWORKSHOP ∧ p.object = 0 ∧ p.element = 0 ∧ p.type = 0 ∧ p.data.length = 4 ∧ leNat p.data < 2 ^
       18 ∧ s.chip.mayPut 1 .sni = true ∧ s.chip.objectHeld 0 = false) ∧
    (let s : State := wit fun c => c.ddpUp 1
     let v : DdpVia := .hat 1
     let p : DdpPacket := ask 0 0 [1, 2, 3]
     let w : Nat := 1
     let x : Elem := { ty := 4, size := 4, regs := [0x30210008], val := 0x213, put := .sni }
     s.chip.zoneUp = true ∧ s.chip.viaServed v = true ∧ s.chip.addressed (asRequest p cmWRITE) = true ∧ p.auth = false ∧
       s.chip.packetSession v p = none ∧ s.chip.rqWorld v p.src.toNat = some w ∧ s.chip.worldMay (some w) cmWRITE p.object.toNat = true
       ∧ firmwareObject p.object.toNat = false ∧ s.chip.objectCheck (some w) false cmWRITE p.object.toNat p.element.toNat p.type.toNat =
       (stOK, some x) ∧ (elemFits x p.data = false ∨ s.chip.expedited v false < p.data.length)) ∧
    (let s : State := wit fun c => (c.ddpUp 4).wrN DDP_STAT 0
     let v : DdpVia := .hat 1
     let p : DdpPacket := ask 0xF000 0 []
     let w : Nat := 4
     let x : Elem := { ty := 4, size := 4, regs := [0x30210004], val := 0 }
     s.chip.zoneUp = true ∧ s.chip.viaServed v = true ∧ s.chip.addressed (asRequest p cmDESC) = true ∧ p.auth = false ∧
       s.chip.packetSession v p = none ∧ s.chip.rqWorld v p.src.toNat = some w ∧ s.chip.worldMay (some w) cmDESC p.object.toNat = true ∧
       firmwareObject p.object.toNat = false ∧ p.element = 0 ∧ s.chip.objectCheck (some w) false cmDESC p.object.toNat 0 p.type.toNat =
       (stOK, some x) ∧ p.data = [] ∧ 16 ≤ s.chip.expedited v false ∧ s.chip.ddp.out = []) ∧
    (let s : State := wit fun c => ((c.ddpUp 4).updSfe fun b => { b with ranges := [(517, (3, 4))] }).updKey (fun b =>
       { b with slots := [(5, { w0 := BitVec.allOnes 128 ^^^ (13 <<< 86), state := .ready })] }) |>.wrN (SES_RES 3) 0
     let v : DdpVia := .hat 1
     let p : DdpPacket := ask 0 0 [4, 1, 2, 3, 4, 5, 6, 7, 8]
     let i : Nat := 0
     let n : Nat := 3
     s.chip.zoneUp = true ∧ s.chip.viaServed v = true ∧ s.chip.addressed (asRequest p cmOPEN) = true ∧ p.auth = false ∧
       s.chip.packetSession v p = none ∧ s.chip.rqEntry v p.src.toNat = some i ∧ s.chip.flag RST_CAUSE_OPTFAIL = false ∧ p.data.length =
       9 ∧ 1 ≤ leNat (p.data.take 1) ∧ leNat (p.data.take 1) ≤ 4 ∧ bit (s.chip.get (DDP_RQ_WORLDS i)) (leNat (p.data.take 1)) = true ∧
       s.chip.freeSession = some n ∧ s.chip.keyCheck (s.chip.get (DDP_RQ_KSLOT i)) 18 (leNat (p.data.take 1)) [1, 2] (some useDERIVE)
       none = none) ∧
    (let s : State := wit fun c => (c.ddpUp 4).set (DDP_RQ_WORLDS 0) 7
     let v : DdpVia := .hat 1
     let p : DdpPacket := ask 0 0 [4, 1, 2, 3, 4, 5, 6, 7, 8]
     let i : Nat := 0
     s.chip.zoneUp = true ∧ s.chip.viaServed v = true ∧ s.chip.addressed (asRequest p cmOPEN) = true ∧ p.auth = false ∧
       s.chip.packetSession v p = none ∧ s.chip.rqEntry v p.src.toNat = some i ∧ s.chip.flag RST_CAUSE_OPTFAIL = false ∧ bit (s.chip.get
       (DDP_RQ_WORLDS i)) (leNat (p.data.take 1)) = false) ∧
    (let s : State := wit fun c => c.ddpUp 4
     let v : DdpVia := .hat 1
     let p : DdpPacket := ask 0 0 []
     let w : Nat := 4
     s.chip.zoneUp = true ∧ s.chip.viaServed v = true ∧ s.chip.addressed (asRequest p cmCLOSE) = true ∧ p.auth = false ∧
       s.chip.packetSession v p = none ∧ s.chip.rqWorld v p.src.toNat = some w ∧ s.chip.flag RST_CAUSE_OPTFAIL = false) ∧
    (let s : State := wit fun c => (c.ddpUp 4).updDdp (fun b =>
       { b with sessions := [(63, some { via := .hat 1, peer := 0x3FF00, world := 4, slot := 5, key := 7, rc := 0x120, expiry := 5 })] })
     let v : DdpVia := .hat 1
     let p : DdpPacket := { ask 0 0 [] with session := 63, tid := 0x21 }
     let n : Fin 64 := 63
     let x : DdpSession := { via := .hat 1, peer := 0x3FF00, world := 4, slot := 5, key := 7, rc := 0x120, expiry := 5 }
     s.chip.zoneUp = true ∧ s.chip.viaServed v = true ∧ s.chip.addressed (asRequest p cmWRITE) = true ∧ p.session.toNat = n.val ∧
       s.chip.session n.val = some x ∧ sameLink x.via v = true ∧ x.peer = p.src.toNat ∧ s.chip.gateShut (.ses n.val) = false ∧ p.auth =
       false ∧ p.tid.toNat = (x.rc + 1) % 256) ∧
    (let s : State := wit fun c => c.updDdp (fun b =>
       { b with sessions := [(63, some { via := .hat 1, peer := 0x3FF00, world := 4, slot := 5, key := 7, rc := 0x120, expiry := 5 })] })
     let n : Fin 64 := 63
     let x : DdpSession := { via := .hat 1, peer := 0x3FF00, world := 4, slot := 5, key := 7, rc := 0x120, expiry := 5 }
     s.chip.zoneUp = true ∧ s.chip.session n.val = some x ∧ x.expiry ≤ s.chip.frc ∧ s.chip.clm.running = none ∧ s.chip.ddp.xfers = []) ∧
    (let s : State := wit fun c => c.ddpUp 4
     let ch : Fin 2 := 1
     let bs : List Byte := [0x20, 1, 2]
     s.chip.zoneUp = true ∧ s.chip.viaServed (.hat ch) = true ∧ leNat (bs.take 1) / 64 ≠ 2 ∧ parsePacket bs = none) ∧
    (let s : State := wit fun c => c.ddpUp 4
     let ch : Fin 2 := 1
     let bs : List Byte := [0x10, 0x01, 0x13, 0x02, 0x00, 0x00, 0xFF, 0x03, 0xFF, 0x21, 0x2D, 0x30, 0x00, 0x07, 0x00, 0x10, 0x00, 0x00,
       0x00, 0x00]
     let p : DdpPacket := { ask 0x302D 7 [] with type := 0x10, cmd := 1 }
     s.chip.viaServed (.hat ch) = true ∧ leNat (bs.take 1) / 64 ≠ 2 ∧ parsePacket bs = some p) ∧
    (let s : State := wit fun c => (((((c.ddpUp 4).updSfe fun b => { b with ranges := [(517, (3, 4))] }).wrN DDP_CNT0 7).wrN (SES_RES 5)
       0).wrN (SES_HDR 5) (0x110 + 0xF0 * 2 ^ 88 + 2 ^ 104)).wrN (SES_HDR2 5) 0 |>.wrN (SES_BUF 5) (4 * 2 ^ 96 + 0x900000000)
     let a : Agent := hart 1
     let i : Fin 64 := 2
     let n : Nat := 5
     let p : DdpPacket := { ask 0xF000 1 [] with cmd := 1, dst := 0, src := 0, session := 0, tid := 0 }
     let x : Elem := { ty := 4, size := 4, regs := [0x30210018], val := 7 }
     s.chip.admits a = true ∧ a.vf = none ∧ s.chip.localIndex 64 5 i.val = some n ∧ s.chip.poolWorld 5 n = some (s.chip.worldOfAgent a)
       ∧ s.chip.session n = none ∧ s.chip.flag (SES_RES_BUSY n) = false ∧ s.chip.ddp.loaded = true ∧ s.chip.localHeader n = some p ∧
       p.cmd = 1 ∧ s.chip.localLength n p = 0 ∧ s.chip.worldMay (some (s.chip.worldOfAgent a)) 1 p.object.toNat = true ∧ firmwareObject
       p.object.toNat = false ∧ s.chip.objectCheck (some (s.chip.worldOfAgent a)) true 1 p.object.toNat p.element.toNat p.type.toNat =
       (stOK, some x) ∧ p.data = [] ∧ x.ty ≠ tyDOMAIN ∧ x.size ≤ s.chip.get (SES_BUF_LEN n) ∧ s.chip.objectHeld p.object.toNat = false ∧
       (s.busWrite { mid := 18, world := s.chip.worldOfAgent a, vf := none } (s.chip.get (SES_BUF_ADDR n)) (leBytesOf x.size x.val)).1 =
       true) ∧
    (let s : State := wit fun c => ((((c.ddpUp 4).updSfe fun b => { b with ranges := [(517, (3, 4))] })).wrN (SES_RES 5) 0).wrN (SES_HDR
       5) 0
     let a : Agent := hart 1
     let i : Fin 64 := 2
     let n : Nat := 5
     s.chip.admits a = true ∧ a.vf = none ∧ s.chip.localIndex 64 5 i.val = some n ∧ s.chip.poolWorld 5 n = some (s.chip.worldOfAgent a)
       ∧ s.chip.session n = none ∧ s.chip.flag (SES_RES_BUSY n) = false ∧ s.chip.ddp.loaded = true ∧ s.chip.localHeader n = none) ∧
    (let s : State := wit id
     let a : Agent := hart 1
     let w : Fin 4 := 3
     s.chip.worldOfAgent a ≠ w.val + 1 ∧ s.chip.admits a = true) ∧
    (let s : State := witm [(0x800000020, 6)] fun c => (((c.ddpUp 4).wrN (DDP_FWQ_CI 1) 0).wrN (DDP_FWQ_PI 1) 1).wrN (DDP_FWQ_CFG 1)
       0x80000004 |>.wrN (DDP_FWQ_BASE 1) 0x800000000 |>.updDdp fun b =>
       { b with fwReqs := [{ world := 2, index := 0, deadline := 9, waiter := .remote (.hat 1) (ask 0x20000 0 []) none }] }
     let a : Agent := hart 2
     let w : Fin 4 := 1
     let v : W32 := 1
     let r : DdpFwReq := { world := 2, index := 0, deadline := 9, waiter := .remote (.hat 1) (ask 0x20000 0 []) none }
     let dv : DdpVia := .hat 1
     let p : DdpPacket := ask 0x20000 0 []
     let st : Nat := 6
     let data : List Byte := List.replicate 32 0 ++ [6] ++ List.replicate 31 0
     s.chip.admits a = true ∧ s.chip.worldOfAgent a = w.val + 1 ∧ s.chip.get (DDP_FWQ_CI_N w.val) = 0 ∧ s.chip.get (DDP_FWQ_PI_N w.val)
       = 1 ∧ 1 ≤ s.chip.get (DDP_FWQ_CFG_LOG2N w.val) ∧ v.toNat = 1 ∧ s.chip.ddp.fwReqs = [r] ∧ r.world = w.val + 1 ∧ r.index = 0 ∧
       r.waiter = .remote dv p none ∧ (s.busRead (ddpTagOf (w.val + 1)) (s.chip.get (DDP_FWQ_BASE_RING w.val)) 64).1 = some data ∧ leNat
       (slice data 34 2) = 0 ∧ leNat (slice data 32 1) = st) ∧
    (let s : State := wit fun c => c.updDdp fun b =>
       { b with fwReqs := [{ world := 2, index := 0, deadline := 9, waiter := .remote (.hat 1) (ask 0x20000 0 []) none }] }
     let w : Fin 4 := 1
     let r : DdpFwReq := { world := 2, index := 0, deadline := 9, waiter := .remote (.hat 1) (ask 0x20000 0 []) none }
     let dv : DdpVia := .hat 1
     let p : DdpPacket := ask 0x20000 0 []
     s.chip.zoneUp = true ∧ s.chip.ddp.fwReqs = [r] ∧ r.world = w.val + 1 ∧ r.deadline ≤ s.chip.frc ∧ r.waiter = .remote dv p none) ∧
    (let s : State := wit id
     let w : Fin 4 := 1
     (∀ r ∈ s.chip.ddp.fwReqs, r.world = w.val + 1 → s.chip.frc < r.deadline)) ∧
    (let s : State := wit fun c => (c.ddpUp 4).wrN DDP_IP4 0x0A000001
     let frame : List Byte := [255, 255, 255, 255, 255, 255, 2, 0, 0, 0, 0, 9, 8, 6, 0, 1, 8, 0, 6, 4, 0, 1, 2, 0, 0, 0, 0, 9, 10, 0, 0,
       9, 0, 0, 0, 0, 0, 0, 10, 0, 0, 1] ++ List.replicate 18 0
     s.chip.zoneUp = true ∧ s.chip.ddp.loaded = true ∧ s.chip.flag DDP_CTL_EN = true ∧ s.chip.flag DDP_CTL_UDPEN = true ∧ frame.length =
       60 ∧ slice frame 12 10 = [8, 6, 0, 1, 8, 0, 6, 4, 0, 1] ∧ s.chip.rdN DDP_IP4 ≠ 0 ∧ beNat (slice frame 38 4) = s.chip.rdN DDP_IP4) ∧
    (let s : State := wit fun c => c.setB DDP_CTL_EN false
     (s.chip.ddp.loaded = false ∨ s.chip.flag DDP_CTL_EN = false ∨ s.chip.flag DDP_CTL_UDPEN = false)) ∧
    (let s : State := wit id
     let a : Agent := hart 1
     s.chip.admits a = true ∧ s.chip.worldOfAgent a = 1) := by
  refine ⟨?_, ?_, ?_, ?_, ?_, ?_, ?_, ?_, ?_, ?_, ?_, ?_, ?_, ?_, ?_, ?_, ?_, ?_, ?_, ?_, ?_, ?_, ?_⟩
  all_goals decide +kernel

theorem wit_dictionary_transfers :
    (let s : State := wit fun c => c.ddpUp 1
     let v : DdpVia := .hat 1
     let p : DdpPacket := ask 0 0 [0, 0, 0, 0, 4, 0, 0, 0]
     let w : Nat := 1
     let x : Elem := { ty := 4, size := 4, regs := [0x30210008], val := 0x213, put := .sni }
     let k : Nat := 0
     s.chip.zoneUp = true ∧ s.chip.viaServed v = true ∧ s.chip.addressed (asRequest p cmDWRITE) = true ∧ p.auth = false ∧
       s.chip.packetSession v p = none ∧ s.chip.rqWorld v p.src.toNat = some w ∧ s.chip.worldMay (some w) cmDWRITE p.object.toNat = true
       ∧ firmwareObject p.object.toNat = false ∧ s.chip.objectCheck (some w) false cmDWRITE p.object.toNat p.element.toNat p.type.toNat
       = (stOK, some x) ∧ p.data.length = 8 ∧ leNat (slice p.data 0 4) = 0 ∧ leNat (slice p.data 4 4) = x.size ∧ x.put ≠ .segments ∧
       x.size ≤ 2048 ∧ s.chip.objectHeld p.object.toNat = false ∧ s.chip.freeXfer = some k) ∧
    (let s : State := wit fun c => (c.ddpUp 1).updDdp fun b => { b with xfers := [(15, some { xfer0 with head := ask 0 0 [] })] }
     let v : DdpVia := .hat 1
     let p : DdpPacket := ask 0 0 [0, 0, 0, 0, 4, 0, 0, 0]
     let w : Nat := 1
     let x : Elem := { ty := 4, size := 4, regs := [0x30210008], val := 0x213, put := .sni }
     s.chip.zoneUp = true ∧ s.chip.viaServed v = true ∧ s.chip.addressed (asRequest p cmDWRITE) = true ∧ p.auth = false ∧
       s.chip.packetSession v p = none ∧ s.chip.rqWorld v p.src.toNat = some w ∧ s.chip.worldMay (some w) cmDWRITE p.object.toNat = true
       ∧ firmwareObject p.object.toNat = false ∧ s.chip.objectCheck (some w) false cmDWRITE p.object.toNat p.element.toNat p.type.toNat
       = (stOK, some x) ∧ p.data.length = 8 ∧ leNat (slice p.data 0 4) = 0 ∧ leNat (slice p.data 4 4) = x.size ∧ x.put ≠ .segments ∧
       x.size ≤ 2048 ∧ (s.chip.objectHeld p.object.toNat = true ∨ s.chip.freeXfer = none)) ∧
    (let s : State := wit fun c => (c.ddpUp 4).wrN DDP_CNT0 7
     let v : DdpVia := .hat 1
     let p : DdpPacket := ask 0xF000 1 [0, 0, 0, 0, 0, 0, 0, 0]
     let w : Nat := 4
     let x : Elem := { ty := 4, size := 4, regs := [0x30210018], val := 7 }
     let k : Nat := 0
     s.chip.zoneUp = true ∧ s.chip.viaServed v = true ∧ s.chip.addressed (asRequest p cmDREAD) = true ∧ p.auth = false ∧
       s.chip.packetSession v p = none ∧ s.chip.rqWorld v p.src.toNat = some w ∧ s.chip.worldMay (some w) cmDREAD p.object.toNat = true
       ∧ firmwareObject p.object.toNat = false ∧ s.chip.objectCheck (some w) false cmDREAD p.object.toNat p.element.toNat p.type.toNat =
       (stOK, some x) ∧ p.data = [0, 0, 0, 0, 0, 0, 0, 0] ∧ x.ty ≠ tyDOMAIN ∧ 1 ≤ x.size ∧ x.size ≤ s.chip.segmentSize v ∧
       s.chip.objectHeld p.object.toNat = false ∧ s.chip.freeXfer = some k) ∧
    (let s : State := wit fun c => (c.ddpUp 4).updDdp fun b => { b with xfers := [(15, some xfer0)] }
     let v : DdpVia := .hat 0
     let tid : Byte := 0x21
     let n : BitVec 16 := 1
     let last : Bool := false
     let data : List Byte := List.replicate 240 7
     let x : Nat := 15
     let z : DdpXfer := xfer0
     s.chip.zoneUp = true ∧ s.chip.viaServed v = true ∧ (((List.range 16).find? fun i =>
       match s.chip.xfer i with | some t => segmentOf v tid t | none => false) = some x ∧ s.chip.xfer x = some z) ∧ n.toNat = z.seg + 1
       ∧ n.toNat < s.chip.xferSegments z ∧ last = false ∧ s.chip.segmentSize z.via ≤ data.length ∧ n.toNat < z.acked + s.chip.ddpCredit
       ∧ z.head.object ≠ 0xC801) ∧
    (let s : State := wit fun c => (c.ddpUp 4).updDdp fun b => { b with xfers := [(15, some xfer0)] }
     let v : DdpVia := .hat 0
     let tid : Byte := 0x21
     let n : BitVec 16 := 3
     let last : Bool := true
     let data : List Byte := List.replicate 240 7
     let x : Nat := 15
     let z : DdpXfer := xfer0
     s.chip.zoneUp = true ∧ s.chip.viaServed v = true ∧ (((List.range 16).find? fun i =>
       match s.chip.xfer i with | some t => segmentOf v tid t | none => false) = some x ∧ s.chip.xfer x = some z) ∧ 1 ≤ n.toNat ∧
       n.toNat ≤ s.chip.xferSegments z ∧ last = decide (n.toNat = s.chip.xferSegments z) ∧ s.chip.segmentSize z.via ≤ data.length ∧
       (n.toNat ≤ z.seg ∨ z.seg + 1 < n.toNat)) ∧
    (let s : State := wit fun c => (c.ddpUp 4).updDdp fun b => { b with xfers := [(15, some xfer0)] }
     let v : DdpVia := .hat 0
     let tid : Byte := 0x21
     let n : BitVec 16 := 4
     let last : Bool := true
     let x : Nat := 15
     let z : DdpXfer := xfer0
     s.chip.zoneUp = true ∧ s.chip.viaServed v = true ∧ (((List.range 16).find? fun i =>
       match s.chip.xfer i with | some t => segmentOf v tid t | none => false) = some x ∧ s.chip.xfer x = some z) ∧ (n.toNat = 0 ∨
       s.chip.xferSegments z < n.toNat ∨ last ≠ decide (n.toNat = s.chip.xferSegments z))) ∧
    (let s : State := wit fun c => (c.ddpUp 4).updDdp fun b => { b with xfers := [(15, some xfer0)] }
     let v : DdpVia := .hat 0
     let tid : Byte := 0x21
     let x : Nat := 15
     let z : DdpXfer := xfer0
     s.chip.zoneUp = true ∧ s.chip.viaServed v = true ∧ (((List.range 16).find? fun i =>
       match s.chip.xfer i with | some t => segmentOf v tid t | none => false) = some x ∧ s.chip.xfer x = some z)) ∧
    (let s : State := wit fun c => (c.ddpUp 4).updDdp fun b =>
       { b with xfers := [(15, some { { xfer0 with write := false, seg := 3, acked := 0, ended := true } with via := .hat 1 })] }
     let v : DdpVia := .hat 1
     let p : DdpPacket := { ask 0x11000 0 [] with segno := 3 }
     let x : Nat := 15
     let z : DdpXfer := { { xfer0 with write := false, seg := 3, acked := 0, ended := true } with via := .hat 1 }
     s.chip.zoneUp = true ∧ s.chip.viaServed v = true ∧ s.chip.addressed { p with cmd := 6 } = true ∧ p.auth = false ∧ s.chip.packetXfer
       v p = some x ∧ s.chip.xfer x = some z ∧ z.session = none ∧ z.write = false ∧ z.ended = true ∧ p.segno.toNat = z.seg ∧ z.acked ≤
       z.seg ∧ p.status ≠ 8) ∧
    (let s : State := wit fun c => (c.ddpUp 4).updDdp fun b => { b with xfers := [(15, some xfer0)] }
     let v : DdpVia := .hat 0
     let p : DdpPacket := ask 0x11000 0 []
     let x : Nat := 15
     let z : DdpXfer := xfer0
     s.chip.zoneUp = true ∧ s.chip.viaServed v = true ∧ s.chip.addressed { p with cmd := 6 } = true ∧ p.auth = false ∧ s.chip.packetXfer
       v p = some x ∧ s.chip.xfer x = some z ∧ z.session = none ∧ z.write = true) ∧
    (let s : State := wit fun c => (c.ddpUp 4).updDdp fun b => { b with xfers := [(15, some xfer0)] }
     let v : DdpVia := .hat 0
     let p : DdpPacket := ask 0x11000 0 [1, 2, 3, 4]
     let x : Nat := 15
     let z : DdpXfer := xfer0
     s.chip.zoneUp = true ∧ s.chip.viaServed v = true ∧ s.chip.addressed { p with cmd := 7 } = true ∧ p.auth = false ∧ s.chip.packetXfer
       v p = some x ∧ s.chip.xfer x = some z ∧ z.session = none ∧ p.resp = false ∧ z.write = true ∧ p.data.length = 4 ∧ (z.data.length ≠
       z.total ∨ leNat p.data ≠ crc32 z.data)) ∧
    (let s : State := wit fun c => (c.ddpUp 4).updDdp fun b =>
       { b with xfers := [(15, some { xfer0 with head := ask 0 0 [0, 0, 0, 0, 4, 0, 0, 0], world := 1, total := 4, data := [1, 0, 0, 0], seg := 1 })] }
     let v : DdpVia := .hat 0
     let p : DdpPacket := ask 0 0 (leBytesOf 4 (crc32 [1, 0, 0, 0]))
     let x : Nat := 15
     let z : DdpXfer := { xfer0 with head := ask 0 0 [0, 0, 0, 0, 4, 0, 0, 0], world := 1, total := 4, data := [1, 0, 0, 0], seg := 1 }
     s.chip.zoneUp = true ∧ s.chip.viaServed v = true ∧ s.chip.addressed { p with cmd := 7 } = true ∧ p.auth = false ∧ s.chip.packetXfer
       v p = some x ∧ s.chip.xfer x = some z ∧ z.session = none ∧ p.resp = false ∧ z.write = true ∧ p.data.length = 4 ∧ z.data.length =
       4 ∧ z.total = 4 ∧ leNat p.data = crc32 z.data ∧ z.head.object = 0 ∧ z.head.element = 0 ∧ leNat z.data < 2 ^ 18) ∧
    (let s : State := wit fun c => (c.ddpUp 4).updDdp fun b =>
       { b with xfers := [(15, some { xfer0 with write := false, seg := 3, acked := 0, ended := true })] }
     let v : DdpVia := .hat 0
     let p : DdpPacket := { ask 0x11000 0 [] with resp := true }
     let x : Nat := 15
     let z : DdpXfer := { xfer0 with write := false, seg := 3, acked := 0, ended := true }
     s.chip.zoneUp = true ∧ s.chip.viaServed v = true ∧ s.chip.addressed { p with cmd := 7 } = true ∧ p.auth = false ∧ s.chip.packetXfer
       v p = some x ∧ s.chip.xfer x = some z ∧ z.session = none ∧ p.resp = true ∧ z.write = false ∧ z.ended = true) ∧
    (let s : State := wit fun c => c.ddpUp 4
     let v : DdpVia := .hat 0
     let p : DdpPacket := ask 0x11000 0 [1, 2, 3, 4]
     let w : Nat := 4
     s.chip.zoneUp = true ∧ s.chip.viaServed v = true ∧ s.chip.addressed { p with cmd := 7 } = true ∧ p.auth = false ∧ p.resp = false ∧
       s.chip.packetXfer v p = none ∧ s.chip.packetSession v p = none ∧ s.chip.rqWorld v p.src.toNat = some w ∧ s.chip.flag
       RST_CAUSE_OPTFAIL = false) ∧
    (let s : State := wit fun c => (c.ddpUp 4).updDdp fun b => { b with xfers := [(15, some xfer0)] }
     let v : DdpVia := .hat 0
     let p : DdpPacket := ask 0x11000 0 []
     let x : Nat := 15
     let z : DdpXfer := xfer0
     s.chip.zoneUp = true ∧ s.chip.viaServed v = true ∧ s.chip.addressed { p with cmd := 8 } = true ∧ p.auth = false ∧ s.chip.packetXfer
       v p = some x ∧ s.chip.xfer x = some z ∧ z.session = none) ∧
    (let s : State := wit fun c => ((c.ddpUp 4).set DDP_LIM_STO 0).updDdp fun b => { b with xfers := [(15, some xfer0)] }
     let x : Fin 16 := 15
     let z : DdpXfer := xfer0
     s.chip.zoneUp = true ∧ s.chip.xfer x.val = some z ∧ z.session = none ∧ s.chip.ddp.out = [] ∧ z.lastAt + s.chip.get DDP_LIM_STO *
       1000000 ≤ s.chip.frc) ∧
    (let s : State := wit fun c => ((c.ddpUp 4).set DDP_LIM_STO 10).updDdp fun b => { b with xfers := [(15, some xfer0)] }
     let x : Fin 16 := 15
     let z : DdpXfer := xfer0
     s.chip.xfer x.val = some z ∧ s.chip.frc < z.lastAt + s.chip.get DDP_LIM_STO * 1000000) := by
  refine ⟨?_, ?_, ?_, ?_, ?_, ?_, ?_, ?_, ?_, ?_, ?_, ?_, ?_, ?_, ?_, ?_⟩
  all_goals decide +kernel

theorem wit_hatbox_measuring_r10 :
    (let s : State := wit fun c => c.hbxAct fun h => { h with timeValid := true }
     let h : List Byte := leBytesOf 2 0x0D ++ leBytesOf 2 (72 + ((Config.hbxBody 0x0D s.chip.hbxStatus).take 952).length) ++ leBytesOf 8
       s.chip.hbx.seq ++ leBytesOf 16 (tvWord s.chip.hbxUtc) ++ leBytesOf 8 s.chip.hbx.odo ++ leBytesOf 1 s.chip.hbx.lcs ++ leBytesOf 1
       (b2n s.chip.hbx.timeValid + 2 * b2n (s.chip.hbxQuality == 2) + 4 * b2n (bit s.chip.hbx.tampers 5 || bit s.chip.hbx.tampers 6)) ++
       [0, 0] ++ (Config.hbxBody 0x0D s.chip.hbxStatus).take 952
     s.chip.variantH = true ∧ s.chip.hbx.power = .active ∧ s.chip.hbx.statusAt + 60000000000 ≤ s.chip.now ∧ s.chip.hbx.sealedTo <
       s.chip.hbx.seq ∧ h = leBytesOf 2 0x0D ++ leBytesOf 2 (72 + ((Config.hbxBody 0x0D s.chip.hbxStatus).take 952).length) ++ leBytesOf
       8 s.chip.hbx.seq ++ leBytesOf 16 (tvWord s.chip.hbxUtc) ++ leBytesOf 8 s.chip.hbx.odo ++ leBytesOf 1 s.chip.hbx.lcs ++ leBytesOf
       1 (b2n s.chip.hbx.timeValid + 2 * b2n (s.chip.hbxQuality == 2) + 4 * b2n (bit s.chip.hbx.tampers 5 || bit s.chip.hbx.tampers 6))
       ++ [0, 0] ++ (Config.hbxBody 0x0D s.chip.hbxStatus).take 952) := by
  repeat' apply And.intro
  all_goals first | decide +kernel | rfl

theorem wit_hatbox_measuring :
    (let s : State := wit fun c => c.hbxAct fun h => { h with ppr := 64 }
     let width : Nat := 10000
     s.chip.variantH = true ∧ s.chip.hbx.power = .active ∧ 10000 ≤ width) ∧
    (let s : State := wit fun c => c.hbxAct fun h => { h with ppr := 64 }
     let width : Nat := 9999
     (width < 10000 ∨ s.chip.hbx.power ≠ .active)) ∧
    (let s : State := wit fun c => c.hbxAct fun h => { h with kcal := 2130000, ppr := 8, pos := 8725, tollDist := 100, toll := 99 }
     s.chip.variantH = true ∧ s.chip.hbx.power = .active ∧ s.chip.hbx.kcal ≠ 0 ∧ (s.chip.hbx.metre + 1) * 4096 * s.chip.hbx.kcal ≤
       s.chip.hbx.pos * 1000000 ∧ s.chip.hbx.sealedTo < s.chip.hbx.seq) ∧
    (let s : State := wit fun c => c.hbxAct fun h => { h with kcal := 2130000, ppr := 8, pos := 8212, tollDist := 100, toll := 99 }
     (s.chip.hbx.pos + 4096 / s.chip.hbx.ppr) * 1000000 < (s.chip.hbx.metre + 1) * 4096 * s.chip.hbx.kcal) ∧
    (let s : State := wit fun c => c.hbxAct fun h => { h with rmcA := true, ggaOk := true, ppsAt := some 999000000000 }
     let t0 : Nat := 999000000000
     let err : Int := -10000000
     s.chip.variantH = true ∧ s.chip.hbx.power = .active ∧ s.chip.hbx.rmcA = true ∧ s.chip.hbx.ggaOk = true ∧ s.chip.hbx.stepDue = none
       ∧ s.chip.hbx.ppsAt = some t0 ∧ t0 + 999000000 ≤ s.chip.now ∧ s.chip.now ≤ t0 + 1001000000 ∧ err.natAbs ≤ 10000000) ∧
    (let s : State := wit fun c => c.hbxAct fun h =>
       { h with rmcA := true, ggaOk := true, ppsAt := some 999000000000, discAt := some 7 }
     let t0 : Nat := 999000000000
     let err : Int := 10000001
     s.chip.variantH = true ∧ s.chip.hbx.power = .active ∧ s.chip.hbx.rmcA = true ∧ s.chip.hbx.ggaOk = true ∧ s.chip.hbx.stepDue = none
       ∧ s.chip.hbx.ppsAt = some t0 ∧ t0 + 999000000 ≤ s.chip.now ∧ s.chip.now ≤ t0 + 1001000000 ∧ (10000000 < err.natAbs ∧
       (s.chip.hbx.discAt = none ∨ err.natAbs ≤ 1000000000))) ∧
    (let s : State := wit fun c => c.hbxAct fun h =>
       { h with rmcA := true, ggaOk := true, ppsAt := some 999000000000, discAt := some 7 }
     let t0 : Nat := 999000000000
     let d0 : Nat := 7
     let err : Int := 2000000000
     s.chip.variantH = true ∧ s.chip.hbx.power = .active ∧ s.chip.hbx.rmcA = true ∧ s.chip.hbx.ggaOk = true ∧ s.chip.hbx.stepDue = none
       ∧ s.chip.hbx.ppsAt = some t0 ∧ t0 + 999000000 ≤ s.chip.now ∧ s.chip.now ≤ t0 + 1001000000 ∧ s.chip.hbx.discAt = some d0 ∧
       43200000000000 + (s.chip.now - d0) < err.natAbs * 43200 ∧ bit s.chip.hbx.tampers 9 = false ∧ 10000000 < err.natAbs ∧
       s.chip.hbx.sealedTo < s.chip.hbx.seq) ∧
    (let s : State := wit fun c => c.hbxAct fun h => { h with stepDue := some 7 }
     let e : Int := 7
     s.chip.variantH = true ∧ s.chip.hbx.power = .active ∧ s.chip.hbx.stepDue = some e ∧ s.chip.hbx.slew = 0 ∧ 0 ≤ (s.chip.hbxUtc : Int)
       - e * 65536 ∧ s.chip.hbx.sealedTo < s.chip.hbx.seq) ∧
    (let s : State := wit fun c => c.hbxAct fun h => { h with ggaOk := false }
     s.chip.variantH = true ∧ s.chip.hbx.power = .active) ∧
    (let s : State := wit fun c => (c.setB SEAM_STAT_LINK true).hbxAct fun h => { h with timeValid := true }
     s.chip.variantH = true ∧ s.chip.hbx.power = .active ∧ s.chip.flag SEAM_STAT_LINK = true) ∧
    (let s : State := wit fun c => c.hbxAct fun h =>
       { h with idkey := some [1], seq := 4, recs := [{ seq := 3, type := 1, vals := [], bytes := [] }], unsealedAt := some 0 }
     let key : List Byte := [1]
     let r : HbxRec := { seq := 3, type := 1, vals := [], bytes := [] }
     let l : List HbxRec := []
     let t0 : Nat := 0
     s.chip.variantH = true ∧ s.chip.hbx.power = .active ∧ s.chip.hbx.idkey = some key ∧ s.chip.hbxUnsealed = r :: l ∧
       s.chip.hbx.unsealedAt = some t0 ∧ t0 + 60000000000 ≤ s.chip.now ∧ s.chip.hbx.sealedTo < s.chip.hbx.seq) ∧
    (let s : State := wit fun c => c.hbxAct fun h => { h with seq := 4 }
     s.chip.hbx.unsealedAt = none ∧ s.chip.hbxUnsealed.length < 255 ∧ s.chip.hbx.sealDue = false) ∧
    (let s : State := wit fun c => c.hbxAct fun h => { h with lcs := 2 }
     let code : Fin 16 := 11
     s.chip.variantH = true ∧ s.chip.hbx.power = .active ∧ code.val ∈ [1, 2, 3, 4, 7, 11] ∧ bit s.chip.hbx.tampers code.val = false ∧
       s.chip.hbx.sealedTo < s.chip.hbx.seq) ∧
    (let s : State := wit fun c => c.hbxAct fun h => { h with lcs := 2 }
     let code : Fin 16 := 13
     s.chip.variantH = true ∧ s.chip.hbx.power = .active ∧ code.val ∈ [8, 12, 13] ∧ bit s.chip.hbx.tampers code.val = false ∧
       s.chip.hbx.lcs = 2 ∧ s.chip.hbx.sealedTo < s.chip.hbx.seq) ∧
    (let s : State := wit fun c => c.hbxAct fun h => { h with lcs := 3, tampers := 8192 }
     let code : Fin 16 := 13
     s.chip.variantH = true ∧ s.chip.hbx.power = .active ∧ code.val ∈ [1, 2, 3, 4, 7, 8, 11, 12, 13] ∧ bit s.chip.hbx.tampers code.val =
       true ∧ s.chip.hbx.sealedTo < s.chip.hbx.seq) ∧
    (let s : State := wit fun c => c.hbxAct fun h => { h with power := .backup, latched := [2, 7] }
     let code : Fin 16 := 8
     s.chip.variantH = true ∧ s.chip.hbx.power = .backup ∧ code.val ∈ [2, 7, 8] ∧ code.val ∉ s.chip.hbx.latched) ∧
    (let s : State := wit fun c => c.hbxAct fun h => { h with seq := 4 }
     s.chip.variantH = true ∧ s.chip.hbx.power = .active ∧ s.chip.flag SEAM_STAT_LINK = false ∧ s.chip.hbx.linkAt + 2000000000 ≤
       s.chip.now ∧ s.chip.hbx.pulseAt = none ∧ s.chip.hbxUnsealed = []) ∧
    (let s : State := wit fun c => c.hbxAct fun h => { h with linkAt := 999999999999 }
     s.chip.variantH = true ∧ s.chip.hbx.power = .active ∧ (s.chip.flag SEAM_STAT_LINK = true ∨ s.chip.now < s.chip.hbx.linkAt +
       2000000000)) ∧
    (let s : State := wit fun c => c.hbxAct fun h => { h with power := .standby, latched := [8], lcs := 2 }
     s.chip.variantH = true ∧ s.chip.hbx.power = .standby ∧ s.chip.hbx.latched = [8] ∧ s.chip.hbx.lcs = 2 ∧ s.chip.hbx.sealedTo <
       s.chip.hbx.seq) ∧
    (let s : State := wit fun c => c.hbxAct fun h => { h with power := .standby }
     s.chip.variantH = true ∧ s.chip.hbx.power = .standby ∧ s.chip.hbx.latched = [] ∧ s.chip.hbx.probeAt + 30000000000 ≤ s.chip.now) ∧
    (let s : State := wit fun c => c.hbxAct fun h => { h with timeValid := true, odo := 7 }
     s.chip.variantH = true) ∧
    (let s : State := wit fun c => c.hbxAct fun h => { h with power := .off, timeValid := true }
     s.chip.variantH = true ∧ s.chip.hbx.power = .off ∧ bit s.chip.hbx.tampers 7 = false ∧ s.chip.hbx.sealedTo < s.chip.hbx.seq) ∧
    (let s : State := wit fun c => c.hbxAct fun h => { h with lcs := 1 }
     s.chip.variantH = true ∧ s.chip.hbx.power = .active ∧ s.chip.hbx.lcs = 1 ∧ s.chip.hbx.idkey = none) ∧
    (let s : State := wit fun c => c.hbxAct fun h => { h with odo := 7 }
     s.chip.variantH = true ∧ s.chip.hbx.power = .active ∧ s.chip.hbx.sealedTo < s.chip.hbx.seq) ∧
    (let s : State := wit fun c => c.hbxAct fun h => { h with day := 7, odo := 9, rtc := 86400 * secUnits }
     s.chip.variantH = true ∧ s.chip.hbx.power = .active ∧ s.chip.hbx.dayDone < s.chip.hbxUtc / (86400 * secUnits) ∧ s.chip.hbx.sealedTo
       < s.chip.hbx.seq) ∧
    (let s : State := wit fun c => c.hbxAct fun h => { h with day := 7 }
     s.chip.hbxUtc / (86400 * secUnits) ≤ s.chip.hbx.dayDone) ∧
    (let s : State := wit fun c => c.hbxAct fun h => { h with cards := [(1, some { type := .driver, number := 7, at_ := 0 })] }
     let slot : Fin 2 := 1
     let x : HbxCard := { type := .driver, number := 7, at_ := 0 }
     s.chip.variantH = true ∧ s.chip.hbx.power = .active ∧ s.chip.hbx.sealedTo < s.chip.hbx.seq ∧ look none s.chip.hbx.cards slot.val =
       some x) ∧
    (let s : State := wit fun c => c.hbxAct fun h =>
       { h with rmcA := true, ggaOk := true, ppsOk := true, kcal := 2130000, winTicks := 2326818 }
     let dg : Nat := 500000
     s.chip.variantH = true ∧ s.chip.hbx.power = .active ∧ s.chip.hbx.rmcA = true ∧ s.chip.hbx.ggaOk = true ∧ s.chip.hbx.ppsOk = true ∧
       s.chip.hbx.kcal ≠ 0 ∧ 500000 ≤ dg ∧ (dg + 200000) * 4096 * s.chip.hbx.kcal < ((s.chip.hbx.winTicks * 1000000000 : Nat) - (dg *
       4096 * s.chip.hbx.kcal : Nat) : Int).natAbs * 10 ∧ bit s.chip.hbx.tampers 5 = false ∧ s.chip.hbx.sealedTo < s.chip.hbx.seq) ∧
    (let s : State := wit fun c => c.hbxAct fun h =>
       { h with rmcA := true, ggaOk := true, ppsOk := true, kcal := 2130000, winTicks := 4362240, tampers := 32 }
     let dg : Nat := 500000
     s.chip.variantH = true ∧ s.chip.hbx.power = .active ∧ s.chip.hbx.rmcA = true ∧ s.chip.hbx.ggaOk = true ∧ s.chip.hbx.ppsOk = true ∧
       s.chip.hbx.kcal ≠ 0 ∧ 500000 ≤ dg ∧ ((s.chip.hbx.winTicks * 1000000000 : Nat) - (dg * 4096 * s.chip.hbx.kcal : Nat) : Int).natAbs
       * 10 ≤ (dg + 200000) * 4096 * s.chip.hbx.kcal ∧ bit s.chip.hbx.tampers 5 = true ∧ s.chip.hbx.sealedTo < s.chip.hbx.seq) ∧
    (let s : State := wit fun c => c.hbxAct fun h => { h with winTicks := 5 }
     s.chip.variantH = true ∧ s.chip.hbx.power = .active ∧ (s.chip.hbx.rmcA = false ∨ s.chip.hbx.ggaOk = false ∨ s.chip.hbx.ppsOk =
       false)) ∧
    (let s : State := wit fun c => c.hbxAct fun h =>
       { h with kcal := 2130000, wheel := some (20480, 999999999999), wheelRun := 9, seq := 4 }
     let v : Nat := 20480
     let at0 : Nat := 999999999999
     s.chip.variantH = true ∧ s.chip.hbx.power = .active ∧ s.chip.hbx.kcal ≠ 0 ∧ s.chip.hbx.wheel = some (v, at0) ∧ s.chip.now ≤ at0 +
       1000000000 ∧ (v + 7680) * 4096 * s.chip.hbx.kcal < ((s.chip.hbx.secTicks * 921600000 : Nat) - (v * 4096 * s.chip.hbx.kcal : Nat)
       : Int).natAbs * 10 ∧ s.chip.hbx.wheelRun = 9 ∧ bit s.chip.hbx.tampers 6 = false ∧ s.chip.hbx.sealedTo < s.chip.hbx.seq) ∧
    (let s : State := wit fun c => c.hbxAct fun h =>
       { h with kcal := 2130000, wheel := some (0, 999999999999), wheelRun := 12, seq := 4, tampers := 64 }
     let v : Nat := 0
     let at0 : Nat := 999999999999
     s.chip.variantH = true ∧ s.chip.hbx.power = .active ∧ s.chip.hbx.wheel = some (v, at0) ∧ ((s.chip.hbx.secTicks * 921600000 : Nat) -
       (v * 4096 * s.chip.hbx.kcal : Nat) : Int).natAbs * 10 ≤ (v + 7680) * 4096 * s.chip.hbx.kcal ∧ bit s.chip.hbx.tampers 6 = true ∧
       s.chip.hbx.sealedTo < s.chip.hbx.seq) := by
  refine ⟨?_, ?_, ?_, ?_, ?_, ?_, ?_, ?_, ?_, ?_, ?_, ?_, ?_, ?_, ?_, ?_, ?_, ?_, ?_, ?_, ?_, ?_, ?_, ?_, ?_, ?_, ?_, ?_, ?_, ?_, ?_, ?_⟩
  all_goals decide +kernel

theorem wit_seam_records_and_commands :
    (let s : State := wit fun c => (c.setB SEAM_STAT_LINK true).hbxAct fun h =>
       { h with recs := [{ seq := 3, type := 2, vals := [], bytes := [1, 2] }], pushed := 2 }
     let r : HbxRec := { seq := 3, type := 2, vals := [], bytes := [1, 2] }
     s.chip.variantH = true ∧ s.chip.hbx.power = .active ∧ (s.chip.flag SEAM_STAT_LINK = true ∧ (s.chip.hbx.recs.find? fun x => decide
       (s.chip.hbx.pushed < x.seq)) = some r)) ∧
    (let s : State := wit fun c => c.hbxAct fun h =>
       { h with recs := [{ seq := 3, type := 2, vals := [], bytes := [1, 2] }], pushed := 2 }
     s.chip.flag SEAM_STAT_LINK = false) ∧
    (let s : State := wit fun c => ((c.set SEAM_LASTSEQ_SEQ 2).wrN SEAM_CTL 0).updSeam fun b =>
       { b with arriving := [{ seq := 3, type := 2, vals := [], bytes := [1, 2] }], heard := true }
     let r : HbxRec := { seq := 3, type := 2, vals := [], bytes := [1, 2] }
     let l : List HbxRec := []
     s.chip.zoneUp = true ∧ s.chip.seam.arriving = r :: l ∧ r.type = 2 ∧ s.chip.seam.heard = true ∧ r.seq = s.chip.get SEAM_LASTSEQ_SEQ
       + 1 ∧ r.seq < 2 ^ 64 ∧ s.chip.flag SEAM_CTL_EN = false ∧ bit (s.chip.get SEAM_CTL_FWD) 0 = false) ∧
    (let s : State := wit fun c => ((c.set SEAM_LASTSEQ_SEQ 1).wrN SEAM_CTL 0).updSeam fun b =>
       { b with arriving := [{ seq := 3, type := 2, vals := [], bytes := [1, 2] }], heard := true }
     let r : HbxRec := { seq := 3, type := 2, vals := [], bytes := [1, 2] }
     let l : List HbxRec := []
     s.chip.zoneUp = true ∧ s.chip.seam.arriving = r :: l ∧ s.chip.seam.heard = true ∧ s.chip.get SEAM_LASTSEQ_SEQ + 1 < r.seq ∧ r.seq <
       2 ^ 64 ∧ s.chip.flag SEAM_CTL_EN = false) ∧
    (let s : State := wit fun c => (((((c.openAll.set SEAM_LASTSEQ_SEQ 2).wrN SEAM_CTL (2 ^ 31)).wrN SEAM_RING (4 * 2 ^ 64 +
       0x900000000)).wrN SEAM_RPI 2).wrN SEAM_RCI 1).updSeam fun b =>
       { b with arriving := [{ seq := 3, type := 2, vals := [], bytes := [1, 2] }], heard := true }
     let r : HbxRec := { seq := 3, type := 2, vals := [], bytes := [1, 2] }
     let l : List HbxRec := []
     s.chip.zoneUp = true ∧ s.chip.seam.arriving = r :: l ∧ r.type = 2 ∧ s.chip.seam.heard = true ∧ r.seq = s.chip.get SEAM_LASTSEQ_SEQ
       + 1 ∧ r.seq < 2 ^ 64 ∧ r.bytes.length ≤ 1024 ∧ s.chip.flag SEAM_CTL_EN = true ∧ s.chip.get SEAM_RING_LOG2N = 4 ∧ s.chip.get
       SEAM_RPI_PI = 2 ∧ s.chip.get SEAM_RCI_CI = 1 ∧ (s.busWrite (s.chip.unitTag 19) (s.chip.get SEAM_RING_BASE + 4096) (leBytesOf 16
       (s.chip.frc % 2 ^ 64 + r.bytes.length * 2 ^ 64 + 2 ^ 80) ++ r.bytes)).1 = true) ∧
    (let s : State := wit fun c => (((((c.openAll.set SEAM_LASTSEQ_SEQ 2).wrN SEAM_CTL (2 ^ 31)).wrN SEAM_RING (4 * 2 ^ 64 +
       0x900000000)).wrN SEAM_RPI 2).wrN SEAM_RCI 3).updSeam fun b =>
       { b with arriving := [{ seq := 3, type := 2, vals := [], bytes := [1, 2] }], heard := true }
     let r : HbxRec := { seq := 3, type := 2, vals := [], bytes := [1, 2] }
     let l : List HbxRec := []
     s.chip.zoneUp = true ∧ s.chip.seam.arriving = r :: l ∧ s.chip.flag SEAM_CTL_EN = true ∧ s.chip.get SEAM_RING_LOG2N = 4 ∧ s.chip.get
       SEAM_RPI_PI = 2 ∧ s.chip.get SEAM_RCI_CI = 3) ∧
    (let s : State := wit fun c => c.updSeam fun b => { b with arriving := [{ seq := 3, type := 2, vals := [], bytes := [1, 2] }] }
     let r : HbxRec := { seq := 3, type := 2, vals := [], bytes := [1, 2] }
     let l : List HbxRec := []
     s.chip.zoneUp = true ∧ s.chip.seam.arriving = r :: l) ∧
    (let s : State := wit fun c => (c.seamUp 4 0).hbxAct fun h => { h with lcs := 2 }
     let a : Agent := hart 4
     let w : Fin 5 := 4
     let v : W32 := 0x80000000
     let args : List Byte := []
     s.chip.admits a = true ∧ s.chip.variantH = true ∧ s.chip.hbx.power = .active ∧ 1 ≤ w.val ∧ s.chip.worldOfAgent a = w.val ∧ bit
       v.toNat 31 = true ∧ bits v.toNat 27 24 = 0 ∧ bits v.toNat 10 0 ≤ 1024 ∧ s.chip.flag (SEAM_P_RES_BUSY (w.val - 1)) = false ∧ bit
       (s.chip.get SEAM_CMDW_MAY) (0 + w.val) = true ∧ s.chip.flag SEAM_STAT_LINK = true ∧ s.chip.seam.flight = none ∧ s.chip.seam.queue
       = [] ∧ (s.busRead (s.chip.unitTag 19) (s.chip.get (SEAM_P_ADDR_ARG (w.val - 1))) (bits v.toNat 10 0)).1 = some args) ∧
    (let s : State := wit fun c => (c.seamUp 4 1).hbxAct fun h => { h with lcs := 2 }
     let a : Agent := hart 4
     let w : Fin 5 := 4
     let v : W32 := 0x81000000
     let args : List Byte := []
     s.chip.admits a = true ∧ s.chip.variantH = true ∧ s.chip.hbx.power = .active ∧ 1 ≤ w.val ∧ s.chip.worldOfAgent a = w.val ∧ bit
       v.toNat 31 = true ∧ bits v.toNat 27 24 = 1 ∧ bits v.toNat 10 0 ≤ 1024 ∧ s.chip.flag (SEAM_P_RES_BUSY (w.val - 1)) = false ∧ bit
       (s.chip.get SEAM_CMDW_MAY) (5 + w.val) = true ∧ s.chip.flag SEAM_STAT_LINK = true ∧ s.chip.seam.flight = none ∧ s.chip.seam.queue
       = [] ∧ (s.busRead (s.chip.unitTag 19) (s.chip.get (SEAM_P_ADDR_ARG (w.val - 1))) (bits v.toNat 10 0)).1 = some args) ∧
    (let s : State := wit fun c => (c.seamUp 4 2).hbxAct fun h => { h with lcs := 2 }
     let a : Agent := hart 4
     let w : Fin 5 := 4
     let v : W32 := 0x82000000
     let args : List Byte := []
     s.chip.admits a = true ∧ s.chip.variantH = true ∧ s.chip.hbx.power = .active ∧ 1 ≤ w.val ∧ s.chip.worldOfAgent a = w.val ∧ bit
       v.toNat 31 = true ∧ bits v.toNat 27 24 = 2 ∧ bits v.toNat 10 0 ≤ 1024 ∧ s.chip.flag (SEAM_P_RES_BUSY (w.val - 1)) = false ∧ bit
       (s.chip.get SEAM_CMDW_MAY) (10 + w.val) = true ∧ s.chip.flag SEAM_STAT_LINK = true ∧ s.chip.seam.flight = none ∧
       s.chip.seam.queue = [] ∧ (s.busRead (s.chip.unitTag 19) (s.chip.get (SEAM_P_ADDR_ARG (w.val - 1))) (bits v.toNat 10 0)).1 = some
       args) ∧
    (let s : State := wit fun c => (c.seamUp 4 3).hbxAct fun h => { h with lcs := 2 }
     let a : Agent := hart 4
     let w : Fin 5 := 4
     let v : W32 := 0x83000000
     let args : List Byte := []
     s.chip.admits a = true ∧ s.chip.variantH = true ∧ s.chip.hbx.power = .active ∧ 1 ≤ w.val ∧ s.chip.worldOfAgent a = w.val ∧ bit
       v.toNat 31 = true ∧ bits v.toNat 27 24 = 3 ∧ bits v.toNat 10 0 ≤ 1024 ∧ s.chip.flag (SEAM_P_RES_BUSY (w.val - 1)) = false ∧ bit
       (s.chip.get SEAM_CMDW_MAY) (15 + w.val) = true ∧ s.chip.flag SEAM_STAT_LINK = true ∧ s.chip.seam.flight = none ∧
       s.chip.seam.queue = [] ∧ (s.busRead (s.chip.unitTag 19) (s.chip.get (SEAM_P_ADDR_ARG (w.val - 1))) (bits v.toNat 10 0)).1 = some
       args) ∧
    (let s : State := wit fun c => (c.seamUp 4 4).hbxAct fun h => { h with lcs := 2 }
     let a : Agent := hart 4
     let w : Fin 5 := 4
     let v : W32 := 0x84000000
     let args : List Byte := []
     s.chip.admits a = true ∧ s.chip.variantH = true ∧ s.chip.hbx.power = .active ∧ 1 ≤ w.val ∧ s.chip.worldOfAgent a = w.val ∧ bit
       v.toNat 31 = true ∧ bits v.toNat 27 24 = 4 ∧ bits v.toNat 10 0 ≤ 1024 ∧ s.chip.flag (SEAM_P_RES_BUSY (w.val - 1)) = false ∧ bit
       (s.chip.get SEAM_CMDW_MAY) (20 + w.val) = true ∧ s.chip.flag SEAM_STAT_LINK = true ∧ s.chip.seam.flight = none ∧
       s.chip.seam.queue = [] ∧ (s.busRead (s.chip.unitTag 19) (s.chip.get (SEAM_P_ADDR_ARG (w.val - 1))) (bits v.toNat 10 0)).1 = some
       args ∧ s.chip.hbx.sealedTo < s.chip.hbx.seq) ∧
    (let s : State := wit fun c => (c.seamUp 4 5).hbxAct fun h => { h with lcs := 2 }
     let a : Agent := hart 4
     let w : Fin 5 := 4
     let v : W32 := 0x85000000
     let args : List Byte := []
     s.chip.admits a = true ∧ s.chip.variantH = true ∧ s.chip.hbx.power = .active ∧ 1 ≤ w.val ∧ s.chip.worldOfAgent a = w.val ∧ bit
       v.toNat 31 = true ∧ bits v.toNat 27 24 = 5 ∧ bits v.toNat 10 0 ≤ 1024 ∧ s.chip.flag (SEAM_P_RES_BUSY (w.val - 1)) = false ∧ bit
       (s.chip.get SEAM_CMDW_MAY) (25 + w.val) = true ∧ s.chip.flag SEAM_STAT_LINK = true ∧ s.chip.seam.flight = none ∧
       s.chip.seam.queue = [] ∧ (s.busRead (s.chip.unitTag 19) (s.chip.get (SEAM_P_ADDR_ARG (w.val - 1))) (bits v.toNat 10 0)).1 = some
       args ∧ s.chip.hbx.sealedTo < s.chip.hbx.seq) ∧
    (let s : State := wit fun c => (c.seamUp 4 6).hbxAct fun h => { h with lcs := 2 }
     let a : Agent := hart 4
     let w : Fin 5 := 4
     let v : W32 := 0x86000000
     let args : List Byte := []
     s.chip.admits a = true ∧ s.chip.variantH = true ∧ s.chip.hbx.power = .active ∧ 1 ≤ w.val ∧ s.chip.worldOfAgent a = w.val ∧ bit
       v.toNat 31 = true ∧ bits v.toNat 27 24 = 6 ∧ bits v.toNat 10 0 ≤ 1024 ∧ s.chip.flag (SEAM_P_RES_BUSY (w.val - 1)) = false ∧ bit
       (s.chip.get SEAM_CMDW_MAY) (30 + w.val) = true ∧ s.chip.flag SEAM_STAT_LINK = true ∧ s.chip.seam.flight = none ∧
       s.chip.seam.queue = [] ∧ (s.busRead (s.chip.unitTag 19) (s.chip.get (SEAM_P_ADDR_ARG (w.val - 1))) (bits v.toNat 10 0)).1 = some
       args) ∧
    (let s : State := wit fun c => (c.seamUp 4 7).hbxAct fun h => { h with lcs := 2 }
     let a : Agent := hart 4
     let w : Fin 5 := 4
     let v : W32 := 0x87000000
     let args : List Byte := []
     s.chip.admits a = true ∧ s.chip.variantH = true ∧ s.chip.hbx.power = .active ∧ 1 ≤ w.val ∧ s.chip.worldOfAgent a = w.val ∧ bit
       v.toNat 31 = true ∧ bits v.toNat 27 24 = 7 ∧ bits v.toNat 10 0 ≤ 1024 ∧ s.chip.flag (SEAM_P_RES_BUSY (w.val - 1)) = false ∧ bit
       (s.chip.get SEAM_CMDW_MAY) (35 + w.val) = true ∧ s.chip.flag SEAM_STAT_LINK = true ∧ s.chip.seam.flight = none ∧
       s.chip.seam.queue = [] ∧ (s.busRead (s.chip.unitTag 19) (s.chip.get (SEAM_P_ADDR_ARG (w.val - 1))) (bits v.toNat 10 0)).1 = some
       args ∧ s.chip.hbx.timeref = none) ∧
    (let s : State := wit fun c => (c.seamUp 4 8).hbxAct fun h => { h with lcs := 2 }
     let a : Agent := hart 4
     let w : Fin 5 := 4
     let v : W32 := 0x88000000
     let args : List Byte := []
     s.chip.admits a = true ∧ s.chip.variantH = true ∧ s.chip.hbx.power = .active ∧ 1 ≤ w.val ∧ s.chip.worldOfAgent a = w.val ∧ bit
       v.toNat 31 = true ∧ bits v.toNat 27 24 = 8 ∧ bits v.toNat 10 0 ≤ 1024 ∧ s.chip.flag (SEAM_P_RES_BUSY (w.val - 1)) = false ∧ bit
       (s.chip.get SEAM_CMDW_MAY) (40 + w.val) = true ∧ s.chip.flag SEAM_STAT_LINK = true ∧ s.chip.seam.flight = none ∧
       s.chip.seam.queue = [] ∧ (s.busRead (s.chip.unitTag 19) (s.chip.get (SEAM_P_ADDR_ARG (w.val - 1))) (bits v.toNat 10 0)).1 = some
       args ∧ s.chip.hbx.sealedTo < s.chip.hbx.seq) ∧
    (let s : State := wit fun c => (c.seamUp 4 9).hbxAct fun h =>
       { h with cards := [(1, some { type := .company, number := 7, at_ := 0 })] }
     let a : Agent := hart 4
     let w : Fin 5 := 4
     let v : W32 := 0x89000000
     let args : List Byte := []
     s.chip.admits a = true ∧ s.chip.variantH = true ∧ s.chip.hbx.power = .active ∧ 1 ≤ w.val ∧ s.chip.worldOfAgent a = w.val ∧ bit
       v.toNat 31 = true ∧ bits v.toNat 27 24 = 9 ∧ bits v.toNat 10 0 ≤ 1024 ∧ s.chip.flag (SEAM_P_RES_BUSY (w.val - 1)) = false ∧ bit
       (s.chip.get SEAM_CMDW_MAY) (45 + w.val) = true ∧ s.chip.flag SEAM_STAT_LINK = true ∧ s.chip.seam.flight = none ∧
       s.chip.seam.queue = [] ∧ (s.busRead (s.chip.unitTag 19) (s.chip.get (SEAM_P_ADDR_ARG (w.val - 1))) (bits v.toNat 10 0)).1 = some
       args ∧ s.chip.hbx.sealedTo < s.chip.hbx.seq) ∧
    (let s : State := wit fun c => (c.seamUp 4 10).hbxAct fun h =>
       { h with cards := [(1, some { type := .workshop, number := 7, at_ := 0 })] }
     let a : Agent := hart 4
     let w : Fin 5 := 4
     let v : W32 := 0x8A000000
     let args : List Byte := []
     s.chip.admits a = true ∧ s.chip.variantH = true ∧ s.chip.hbx.power = .active ∧ 1 ≤ w.val ∧ s.chip.worldOfAgent a = w.val ∧ bit
       v.toNat 31 = true ∧ bits v.toNat 27 24 = 10 ∧ bits v.toNat 10 0 ≤ 1024 ∧ s.chip.flag (SEAM_P_RES_BUSY (w.val - 1)) = false ∧ bit
       (s.chip.get SEAM_CMDW_MAY) (50 + w.val) = true ∧ s.chip.flag SEAM_STAT_LINK = true ∧ s.chip.seam.flight = none ∧
       s.chip.seam.queue = [] ∧ (s.busRead (s.chip.unitTag 19) (s.chip.get (SEAM_P_ADDR_ARG (w.val - 1))) (bits v.toNat 10 0)).1 = some
       args ∧ s.chip.hbx.sealedTo < s.chip.hbx.seq) ∧
    (let s : State := wit fun c => (c.seamUp 4 11).hbxAct fun h =>
       { h with cards := [(1, some { type := .workshop, number := 7, at_ := 0 })] }
     let a : Agent := hart 4
     let w : Fin 5 := 4
     let v : W32 := 0x8B000000
     let args : List Byte := []
     s.chip.admits a = true ∧ s.chip.variantH = true ∧ s.chip.hbx.power = .active ∧ 1 ≤ w.val ∧ s.chip.worldOfAgent a = w.val ∧ bit
       v.toNat 31 = true ∧ bits v.toNat 27 24 = 11 ∧ bits v.toNat 10 0 ≤ 1024 ∧ s.chip.flag (SEAM_P_RES_BUSY (w.val - 1)) = false ∧ bit
       (s.chip.get SEAM_CMDW_MAY) (55 + w.val) = true ∧ s.chip.flag SEAM_STAT_LINK = true ∧ s.chip.seam.flight = none ∧
       s.chip.seam.queue = [] ∧ (s.busRead (s.chip.unitTag 19) (s.chip.get (SEAM_P_ADDR_ARG (w.val - 1))) (bits v.toNat 10 0)).1 = some
       args ∧ s.chip.hbx.sealedTo < s.chip.hbx.seq) ∧
    (let s : State := wit fun c => (c.seamUp 4 12).hbxAct fun h => { h with lcs := 2 }
     let a : Agent := hart 4
     let w : Fin 5 := 4
     let v : W32 := 0x8C000000
     let args : List Byte := []
     s.chip.admits a = true ∧ s.chip.variantH = true ∧ s.chip.hbx.power = .active ∧ 1 ≤ w.val ∧ s.chip.worldOfAgent a = w.val ∧ bit
       v.toNat 31 = true ∧ bits v.toNat 27 24 = 12 ∧ bits v.toNat 10 0 ≤ 1024 ∧ s.chip.flag (SEAM_P_RES_BUSY (w.val - 1)) = false ∧ bit
       (s.chip.get SEAM_CMDW_MAY) (60 + w.val) = true ∧ s.chip.flag SEAM_STAT_LINK = true ∧ s.chip.seam.flight = none ∧
       s.chip.seam.queue = [] ∧ (s.busRead (s.chip.unitTag 19) (s.chip.get (SEAM_P_ADDR_ARG (w.val - 1))) (bits v.toNat 10 0)).1 = some
       args ∧ s.chip.hbx.sealedTo < s.chip.hbx.seq) ∧
    (let s : State := wit fun c => (c.seamUp 4 13).hbxAct fun h => { h with lcs := 2 }
     let a : Agent := hart 4
     let w : Fin 5 := 4
     let v : W32 := 0x8D000000
     let args : List Byte := []
     s.chip.admits a = true ∧ s.chip.variantH = true ∧ s.chip.hbx.power = .active ∧ 1 ≤ w.val ∧ s.chip.worldOfAgent a = w.val ∧ bit
       v.toNat 31 = true ∧ bits v.toNat 27 24 = 13 ∧ bits v.toNat 10 0 ≤ 1024 ∧ s.chip.flag (SEAM_P_RES_BUSY (w.val - 1)) = false ∧ bit
       (s.chip.get SEAM_CMDW_MAY) (65 + w.val) = true ∧ s.chip.flag SEAM_STAT_LINK = true ∧ s.chip.seam.flight = none ∧
       s.chip.seam.queue = [] ∧ (s.busRead (s.chip.unitTag 19) (s.chip.get (SEAM_P_ADDR_ARG (w.val - 1))) (bits v.toNat 10 0)).1 = some
       args ∧ s.chip.hbx.load = none) ∧
    (let s : State := wit fun c => (c.seamUp 4 13).hbxAct fun h =>
       { h with load := some { image := { version := 3, hash := 7, signer := 9 }, length := 2, data := [5] } }
     let a : Agent := hart 4
     let w : Fin 5 := 4
     let v : W32 := 0x8D000000
     let args : List Byte := []
     let l : HbxLoad := { image := { version := 3, hash := 7, signer := 9 }, length := 2, data := [5] }
     s.chip.admits a = true ∧ s.chip.variantH = true ∧ s.chip.hbx.power = .active ∧ 1 ≤ w.val ∧ s.chip.worldOfAgent a = w.val ∧ bit
       v.toNat 31 = true ∧ bits v.toNat 27 24 = 13 ∧ bits v.toNat 10 0 ≤ 1024 ∧ s.chip.flag (SEAM_P_RES_BUSY (w.val - 1)) = false ∧ bit
       (s.chip.get SEAM_CMDW_MAY) (65 + w.val) = true ∧ s.chip.flag SEAM_STAT_LINK = true ∧ s.chip.seam.flight = none ∧
       s.chip.seam.queue = [] ∧ (s.busRead (s.chip.unitTag 19) (s.chip.get (SEAM_P_ADDR_ARG (w.val - 1))) (bits v.toNat 10 0)).1 = some
       args ∧ s.chip.hbx.load = some l) ∧
    (let s : State := wit fun c => (c.seamUp 4 14).hbxAct fun h =>
       { h with load := some { image := { version := 3, hash := 7, signer := 9 }, length := 1, data := [5] } }
     let a : Agent := hart 4
     let w : Fin 5 := 4
     let v : W32 := 0x8E000000
     let args : List Byte := []
     let l : HbxLoad := { image := { version := 3, hash := 7, signer := 9 }, length := 1, data := [5] }
     s.chip.admits a = true ∧ s.chip.variantH = true ∧ s.chip.hbx.power = .active ∧ 1 ≤ w.val ∧ s.chip.worldOfAgent a = w.val ∧ bit
       v.toNat 31 = true ∧ bits v.toNat 27 24 = 14 ∧ bits v.toNat 10 0 ≤ 1024 ∧ s.chip.flag (SEAM_P_RES_BUSY (w.val - 1)) = false ∧ bit
       (s.chip.get SEAM_CMDW_MAY) (70 + w.val) = true ∧ s.chip.flag SEAM_STAT_LINK = true ∧ s.chip.seam.flight = none ∧
       s.chip.seam.queue = [] ∧ (s.busRead (s.chip.unitTag 19) (s.chip.get (SEAM_P_ADDR_ARG (w.val - 1))) (bits v.toNat 10 0)).1 = some
       args ∧ s.chip.hbx.load = some l ∧ l.length ≤ l.data.length ∧ s.chip.hbx.pulseAt = none) ∧
    (let s : State := wit fun c => (c.seamUp 4 14).hbxAct fun h => { h with lcs := 2 }
     let a : Agent := hart 4
     let w : Fin 5 := 4
     let v : W32 := 0x8E000000
     let args : List Byte := []
     s.chip.admits a = true ∧ s.chip.variantH = true ∧ s.chip.hbx.power = .active ∧ 1 ≤ w.val ∧ s.chip.worldOfAgent a = w.val ∧ bit
       v.toNat 31 = true ∧ bits v.toNat 27 24 = 14 ∧ bits v.toNat 10 0 ≤ 1024 ∧ s.chip.flag (SEAM_P_RES_BUSY (w.val - 1)) = false ∧ bit
       (s.chip.get SEAM_CMDW_MAY) (70 + w.val) = true ∧ s.chip.flag SEAM_STAT_LINK = true ∧ s.chip.seam.flight = none ∧
       s.chip.seam.queue = [] ∧ (s.busRead (s.chip.unitTag 19) (s.chip.get (SEAM_P_ADDR_ARG (w.val - 1))) (bits v.toNat 10 0)).1 = some
       args ∧ s.chip.hbx.load = none) ∧
    (let s : State := wit fun c => (c.seamUp 4 15).hbxAct fun h =>
       { h with cards := [(1, some { type := .workshop, number := 7, at_ := 0 })], calibrated := true }
     let a : Agent := hart 4
     let w : Fin 5 := 4
     let v : W32 := 0x8F000000
     let args : List Byte := []
     s.chip.admits a = true ∧ s.chip.variantH = true ∧ s.chip.hbx.power = .active ∧ 1 ≤ w.val ∧ s.chip.worldOfAgent a = w.val ∧ bit
       v.toNat 31 = true ∧ bits v.toNat 27 24 = 15 ∧ bits v.toNat 10 0 ≤ 1024 ∧ s.chip.flag (SEAM_P_RES_BUSY (w.val - 1)) = false ∧ bit
       (s.chip.get SEAM_CMDW_MAY) (75 + w.val) = true ∧ s.chip.flag SEAM_STAT_LINK = true ∧ s.chip.seam.flight = none ∧
       s.chip.seam.queue = [] ∧ (s.busRead (s.chip.unitTag 19) (s.chip.get (SEAM_P_ADDR_ARG (w.val - 1))) (bits v.toNat 10 0)).1 = some
       args ∧ s.chip.hbx.sealedTo < s.chip.hbx.seq) ∧
    (let s : State := wit fun c => (c.seamUp 4 1).hbxAct fun h => { h with lcs := 2 }
     let a : Agent := hart 4
     let w : Fin 5 := 4
     let v : W32 := 0x80000000
     s.chip.admits a = true ∧ s.chip.variantH = true ∧ 1 ≤ w.val ∧ s.chip.worldOfAgent a = w.val ∧ bit v.toNat 31 = true ∧ bits v.toNat
       27 24 = 0 ∧ s.chip.flag (SEAM_P_RES_BUSY (w.val - 1)) = false ∧ bit (s.chip.get SEAM_CMDW_MAY) w.val = false) ∧
    (let s : State := wit fun c => ((c.seamUp 4 0).setB SEAM_STAT_LINK false).hbxAct fun h => { h with lcs := 2 }
     let a : Agent := hart 4
     let w : Fin 5 := 4
     let v : W32 := 0x80000000
     s.chip.admits a = true ∧ s.chip.variantH = true ∧ 1 ≤ w.val ∧ s.chip.worldOfAgent a = w.val ∧ bit v.toNat 31 = true ∧ bits v.toNat
       27 24 = 0 ∧ s.chip.flag (SEAM_P_RES_BUSY (w.val - 1)) = false ∧ bit (s.chip.get SEAM_CMDW_MAY) w.val = true ∧ bits v.toNat 10 0 ≤
       1024 ∧ s.chip.flag SEAM_STAT_LINK = false) ∧
    (let s : State := wit fun c => (c.seamUp 3 0).hbxAct fun h => { h with lcs := 2 }
     let a : Agent := hart 4
     let w : Fin 5 := 3
     s.chip.admits a = true ∧ (s.chip.flag (SEAM_P_RES_BUSY (w.val - 1)) = true ∨ s.chip.worldOfAgent a ≠ w.val)) ∧
    (let s : State := wit fun c => ((((c.seamUp 4 0).updSeam fun b =>
       { b with flight := some { world := 4, code := 0, args := [], tag := 9 } }).wrN (SEAM_P_ADDR 3) (0x900000000 * 2 ^ 64))).hbxAct
       fun h => { h with out := [{ code := 0, status := 0, tag := 9, data := [2] }] }
     let x : SeamCmd := { world := 4, code := 0, args := [], tag := 9 }
     let r : HbxResp := { code := 0, status := 0, tag := 9, data := [2] }
     let l : List HbxResp := []
     s.chip.zoneUp = true ∧ s.chip.flag SEAM_STAT_LINK = true ∧ s.chip.hbx.out = r :: l ∧ s.chip.seam.flight = some x ∧
       s.chip.seam.queue = [] ∧ x.tag = r.tag ∧ r.status = stOK ∧ 1 ≤ x.world ∧ x.world ≤ 4 ∧ r.data.length ≤ 1024 ∧ (s.busWrite
       (s.chip.unitTag 19) (s.chip.get (SEAM_P_ADDR_RESP (x.world - 1))) r.data).1 = true) ∧
    (let s : State := wit fun c => (c.seamUp 4 0).hbxAct fun h => { h with out := [{ code := 0, status := 0, tag := 9, data := [2] }] }
     let r : HbxResp := { code := 0, status := 0, tag := 9, data := [2] }
     let l : List HbxResp := []
     s.chip.zoneUp = true ∧ s.chip.flag SEAM_STAT_LINK = true ∧ s.chip.hbx.out = r :: l ∧ s.chip.seam.flight = none) ∧
    (let s : State := wit fun c =>
       { (c.updSeam fun b => { b with flight := some { world := 4, code := 0, args := [], tag := 9 } }) with time := { c.time with frc := 200000000 } }
     let x : SeamCmd := { world := 4, code := 0, args := [], tag := 9 }
     s.chip.zoneUp = true ∧ s.chip.seam.flight = some x ∧ s.chip.seam.queue = [] ∧ 1 ≤ x.world ∧ x.world ≤ 4 ∧ x.code ≠ 3 ∧ x.code ≠ 9 ∧
       s.chip.seam.since + (if x.code = 14 then 2000000000 else 100000000) ≤ s.chip.frc) ∧
    (let s : State := wit fun c => c.updSeam fun b =>
       { b with flight := some { world := 4, code := 0, args := [], tag := 9 }, since := 950000 }
     let x : SeamCmd := { world := 4, code := 0, args := [], tag := 9 }
     s.chip.seam.flight = some x ∧ s.chip.frc < s.chip.seam.since + 100000000) ∧
    (let s : State := wit fun c => (c.setB SEAM_STAT_LINK false).hbxAct fun h => { h with lcs := 2 }
     s.chip.variantH = true ∧ s.chip.flag SEAM_STAT_LINK = false ∧ s.chip.hbx.power = .active) ∧
    (let s : State := wit fun c => (c.setB SEAM_STAT_LINK true).hbxAct fun h => { h with lcs := 2 }
     s.chip.variantH = true ∧ s.chip.flag SEAM_STAT_LINK = true) ∧
    (let s : State := wit id
     let a : Agent := hart 1
     let v : W32 := 0xC0000007
     s.chip.admits a = true ∧ s.chip.variantH = true ∧ s.chip.worldOfAgent a = 1 ∧ bit v.toNat 30 = true) := by
  refine ⟨?_, ?_, ?_, ?_, ?_, ?_, ?_, ?_, ?_, ?_, ?_, ?_, ?_, ?_, ?_, ?_, ?_, ?_, ?_, ?_, ?_, ?_, ?_, ?_, ?_, ?_, ?_, ?_, ?_, ?_, ?_, ?_, ?_, ?_, ?_⟩
  all_goals decide +kernel

/-! ### Ill-formed commands, one for each check of WellFormed -/

/-- A packet that is well-formed but for what each test changes. -/
def illPacket : DdpPacket :=
  { auth := true, resp := false, cmd := 1, dst := 0, src := 0, session := 0, tid := 0, object := 0, element := 0, status := 0, type := 0
    segno := 0, data := [], tag := List.replicate 8 0 }

theorem test_ill_formed_fabric : (([
      .registerWrite ⟨1, none⟩ 0x30000002 0,
      .word128LowRead ⟨1, none⟩ 0x30000004,
      .word128LowerWrite ⟨1, none⟩ 0x30000008 0 0,
      .word128HighWrite ⟨1, none⟩ 0x30000001 0,
      .fabricAccess ⟨1, none⟩ .read 0x20000000 3 false,
      .fabricAccess ⟨1, none⟩ .read 0x20000002 4 false,
      .fabricAccess ⟨1, none⟩ (.write [1]) 0x20000000 2 false,
      .fabricAccess ⟨1, none⟩ (.amo .swap 0) 0x20000000 2 false,
      .vfDmaAccess 10 0 0 4 none,
      .vfDmaAccess 11 0 0 0 none,
      .vfDmaAccess 11 0 0 4 (some [1]),
      .debugAbstractCommand 0 0 3 none] : List Instr).all fun i => !i.wellFormed) = true := by
  decide +kernel

theorem test_ill_formed_others : (([
      .budgetTick (List.replicate 11 0) (List.replicate 12 0) (List.replicate 4 0),
      .budgetTick (List.replicate 12 0) (List.replicate 13 0) (List.replicate 4 0),
      .budgetTick (List.replicate 12 0) (List.replicate 12 0) (List.replicate 3 0),
      .eswDecisionPoint 0 (List.replicate 59 0) 0 none 0,
      .eswLinkUp 0 0 0,
      .resetAssert (.swReq 1)] : List Instr).all fun i => !i.wellFormed) = true := by
  decide +kernel

theorem test_ill_formed_logic_engine : (([
      .leLd 0 3 1024,
      .leLdn 0 3 1024,
      .leAnd 0 3 1024,
      .leAndn 0 3 1024,
      .leOr 0 3 1024,
      .leOrn 0 3 1024,
      .leXor 0 3 1024,
      .leXorn 0 3 1024,
      .leSt 0 3 1024,
      .leSt 0 0 5,
      .leStn 0 3 1024,
      .leStn 0 0 5,
      .leSet 0 3 1024,
      .leSet 0 0 5,
      .leRst 0 3 1024,
      .leRst 0 0 5,
      .leRedg 1 2048,
      .leFedg 1 2048,
      .leTon 1 1024,
      .leTof 1 1024,
      .leTp 1 1024,
      .leTps 1 1024,
      .leTel 1 1024,
      .leCtu 1 512,
      .leCtd 1 512,
      .leCrs 1 512,
      .leCld 1 512,
      .leCvl 1 512,
      .leCps 1 512,
      .leLdw 0 5 0 false false 0,
      .leStw 0 5 0 false false 0,
      .leStw 0 0 1 false false 0,
      .leAdd 0 5 0 false false 0,
      .leSub 0 5 0 false false 0,
      .leAdds 0 5 0 false false 0,
      .leSubs 0 5 0 false false 0,
      .leMul 0 5 0 false false 0,
      .leAndw 0 5 0 false false 0,
      .leOrw 0 5 0 false false 0,
      .leXorw 0 5 0 false false 0,
      .leShl 0 5 0 false false 0,
      .leShr 0 5 0 false false 0,
      .leMin 0 5 0 false false 0,
      .leMax 0 5 0 false false 0,
      .leCeq 0 5 0 false false 0,
      .leCne 0 5 0 false false 0,
      .leClt 0 5 0 false false 0,
      .leCle 0 5 0 false false 0,
      .leCgt 0 5 0 false false 0,
      .leCge 0 5 0 false false 0,
      .leSel 0 5 0 false false 0] : List Instr).all fun i => !i.wellFormed) = true := by
  decide +kernel

theorem test_ill_formed_bridge : (([
      .brgOutboundRequest ⟨1, none⟩ 0x200000000 3 none false,
      .brgOutboundRequest ⟨1, none⟩ 0x200000002 4 none false,
      .brgOutboundRequest ⟨1, none⟩ 0x200000000 4 (some [1]) false,
      .brgInboundRequest 0 0 0 none false,
      .brgInboundRequest 0 0 4 (some [1]) false,
      .brgInboundRequest 0 0 257 (some (List.replicate 257 0)) false,
      .brgAmo ⟨1, none⟩ .swap 0x200000004 true 0,
      .brgLr ⟨1, none⟩ 0x200000002 false,
      .brgSc ⟨1, none⟩ 0x200000004 true 0,
      .brgWindowEnable ⟨1, none⟩ true 16 1] : List Instr).all fun i => !i.wellFormed) = true := by
  decide +kernel

theorem test_ill_formed_dictionary : (([
      .ddpRead (.hat 0) { illPacket with tag := [] },
      .ddpRead (.hat 0) { illPacket with auth := false, data := List.replicate 65536 0 },
      .ddpWrite (.hat 0) { illPacket with tag := [] },
      .ddpWrite (.hat 0) { illPacket with auth := false, data := List.replicate 65536 0 },
      .ddpDesc (.hat 0) { illPacket with tag := [] },
      .ddpDesc (.hat 0) { illPacket with auth := false, data := List.replicate 65536 0 },
      .ddpDwrite (.hat 0) { illPacket with tag := [] },
      .ddpDwrite (.hat 0) { illPacket with auth := false, data := List.replicate 65536 0 },
      .ddpDread (.hat 0) { illPacket with tag := [] },
      .ddpDread (.hat 0) { illPacket with auth := false, data := List.replicate 65536 0 },
      .ddpDack (.hat 0) { illPacket with tag := [] },
      .ddpDack (.hat 0) { illPacket with auth := false, data := List.replicate 65536 0 },
      .ddpDend (.hat 0) { illPacket with tag := [] },
      .ddpDend (.hat 0) { illPacket with auth := false, data := List.replicate 65536 0 },
      .ddpAbort (.hat 0) { illPacket with tag := [] },
      .ddpAbort (.hat 0) { illPacket with auth := false, data := List.replicate 65536 0 },
      .ddpOpen (.hat 0) { illPacket with tag := [] },
      .ddpOpen (.hat 0) { illPacket with auth := false, data := List.replicate 65536 0 },
      .ddpClose (.hat 0) { illPacket with tag := [] },
      .ddpClose (.hat 0) { illPacket with auth := false, data := List.replicate 65536 0 }] : List Instr).all fun i => !i.wellFormed) = true := by
  decide +kernel

theorem test_well_formed : (([
      .registerWrite ⟨1, none⟩ 0x30000004 0,
      .fabricAccess ⟨1, none⟩ (.amo .swap 0) 0x20000000 8 false,
      .budgetTick (List.replicate 12 0) (List.replicate 12 0) (List.replicate 4 0),
      .leSt 0 2 32767,
      .leTon 0 1023,
      .leStw 1 4 2 true true 4095,
      .eswDecisionPoint 0 (List.replicate 60 0) 0 none 0,
      .vfDmaAccess 18 0 0 4096 none,
      .brgInboundRequest 0 0 256 (some (List.replicate 256 0)) false,
      .brgWindowEnable ⟨1, none⟩ false 31 1,
      .ddpRead (.hat 0) illPacket,
      .resetAssert (.swReq 3)] : List Instr).all fun i => i.wellFormed) = true := by
  decide +kernel

/-! ### Words and bytes that the spec writes out -/

/-- LD I 0x0012 and ANDN M 0x0030 of the door program of chapter 5. -/
theorem test_bit_instruction_words : wordB 0x04 2 0x0030 = 0x11000030 ∧ wordB 0x01 0 0x012 = 0x04000012 := by decide

/-- LDW W 0x040, L 16 and CGT K 0x005, L 16, ANY of the same program, and what the fields of the second read back as. -/
theorem test_word_instruction_words :
    wordW 0x21 1 0 false false 0x040 = 0x84800040 ∧ wordW 0x33 1 1 false true 0x005 = 0xCCA80005 ∧
      (leFields 0xCCA80005).op = 0x33 ∧ (leFields 0xCCA80005).any = true ∧ (leFields 0xCCA80005).src = 1 ∧
      (leFields 0xCCA80005).addr = 5 := by decide

/-- The hazard entry of chapter 3. -/
theorem test_hazard_entry :
    let e := entryOf 0x00000001001E00020000000001C9C380 0x00000A300000FFFF000000002CB41780
    e.pos = 30000000 ∧ e.owner = 2 ∧ e.cls = 0 ∧ e.base = 0 ∧ e.target = 30 ∧ e.arg = 1 ∧ e.period = 750000000 ∧ e.rcnt = 0xFFFF ∧
      e.tag = 0x0A30 := by decide +kernel

/-- The request of the worked example of chapter 14: the bytes of its header, and the packet they parse to. -/
theorem test_request_bytes :
    let p : DdpPacket := { auth := false, resp := false, cmd := 1, dst := 0x213, src := 0x3FF00, session := 0xFF, tid := 0x21
                           object := 0x302D, element := 7, status := 0, type := 0x10, segno := 0, data := [], tag := [] }
    packetHeader p = [0x10, 0x01, 0x13, 0x02, 0x00, 0x00, 0xFF, 0x03, 0xFF, 0x21, 0x2D, 0x30, 0x00, 0x07, 0x00, 0x10, 0, 0, 0, 0] ∧
      parsePacket (packetHeader p) = some p := by decide +kernel

/-- CRC-32 of the digits 1 to 9, the check value of IEEE 802.3's polynomial. -/
theorem test_crc32 : crc32 [0x31, 0x32, 0x33, 0x34, 0x35, 0x36, 0x37, 0x38, 0x39] = 0xCBF43926 := by decide +kernel

/-- The interior strip of chapter 4: 40 % at 27.00 V is 23,693 at 28.40 V and 58,981 at 18.00 V. -/
theorem test_effective_duty :
    let c := (((up.set (LSC_BK_CFG_VNOM (lsBank 0)) 2700).set (LSC_CH_HOLD_DUTY 0) 26214).setB (LSC_CH_CFG_COMP 0) true)
    c.effDuty 0 28400 = 23693 ∧ c.effDuty 0 18000 = 58981 := by decide +kernel

/-- No word spells a command, so none is put in front. -/
theorem test_no_word_spells_a_command : decodeTableWord 32 0x12345678 = none ∧ State.reset.withFetchWord 32 0x12345678 = State.reset :=
  ⟨rfl, rfl⟩

/-! ### Single steps -/

/-- A command at the front of the queue runs with the rest behind it: the reset machine takes FRC_START (R39). -/
theorem test_front_command_runs :
    (match step { State.reset with pending := [.frcStart, .crystalLost] } with
      | .next t => decide (t.pending = [.crystalLost]) | _ => false) = true := by decide +kernel

/-- An empty queue: one nanosecond passes and the FRC counts it (R40). -/
theorem test_empty_queue_ticks :
    (match step (wit id) with | .next t => decide (t.chip.time.frc = 1000001 ∧ t.chip.now = 1) | _ => false) = true := by decide +kernel

/-- Bytes written by a fabric access read back with the lowest first (R23). -/
theorem test_write_then_read :
    (match exec (.fabricAccess (hart 1) (.write [0x44, 0x33, 0x22, 0x11]) 0x800000010 4 false) (wit fun c => c.openAll) with
      | .next t => (match exec (.fabricAccess (hart 1) .read 0x800000010 4 false) t with
        | .next u => decide ((look {} u.chip.fab.resp (u.chip.who (hart 1)).key).data = 0x11223344) | _ => false)
      | _ => false) = true := by decide +kernel

end Sys2Proof.Machine
end

section
/-! SUPPORT. Frames: what an elementary update leaves as it was, and how frames compose; the clauses of a statement that say what else
stays read off from these. -/

namespace Sys2Proof.Machine

/-! ### Frames of the module -/

theorem Chip.frame_refl (ps : List Part) (w : Nat → Prop) (c : Chip) : Chip.frame ps w c c :=
  ⟨fun p _ => by cases p <;> rfl, fun _ _ => rfl, rfl, rfl⟩

theorem Part.kept_trans {p : Part} {c d e : Chip} (h1 : p.kept c d) (h2 : p.kept d e) : p.kept c e := by
  cases p <;> exact Eq.trans h2 h1

theorem Chip.frame_trans {ps : List Part} {w : Nat → Prop} {c d e : Chip} (h1 : Chip.frame ps w c d) (h2 : Chip.frame ps w d e) :
    Chip.frame ps w c e := by
  obtain ⟨hp1, hr1, hv1, hs1⟩ := h1
  obtain ⟨hp2, hr2, hv2, hs2⟩ := h2
  exact ⟨fun p hp => Part.kept_trans (hp1 p hp) (hp2 p hp), fun r hr => (hr2 r hr).trans (hr1 r hr), hv2.trans hv1, hs2.trans hs1⟩

/-- A write of a register that the frame lets differ. -/
theorem Chip.frame_wr (ps : List Part) {w : Nat → Prop} (c : Chip) {r : Reg} (v : W128) (h : w r.addr) :
    Chip.frame ps w c (c.wr r v) :=
  ⟨fun p _ => by cases p <;> rfl, Chip.sameRegs_wr (fun a => ¬ w a) c r v (not_not_intro h), rfl, rfl⟩

theorem Chip.frame_set (ps : List Part) {w : Nat → Prop} (c : Chip) {f : RFld} (x : Nat) (h : w f.reg.addr) :
    Chip.frame ps w c (c.set f x) := Chip.frame_wr ps c _ h

/-- A change of the fabric's own state: latches, staged words, responses. -/
theorem Chip.frame_fab {ps : List Part} (w : Nat → Prop) (c : Chip) (b : Fabric) (h : Part.fab ∈ ps) :
    Chip.frame ps w c { c with fab := b } := by
  refine ⟨fun p hp => ?_, fun _ _ => rfl, rfl, rfl⟩
  cases p with
  | fab => exact absurd h hp
  | _ => rfl

theorem Chip.frame_respond {ps : List Part} (w : Nat → Prop) (c : Chip) (k : Nat) (err : Bool) (d : Nat) (h : Part.fab ∈ ps) :
    Chip.frame ps w c (c.respond k err d) := Chip.frame_fab w c _ h

theorem Chip.frame_latch {ps : List Part} (w : Nat → Prop) (c : Chip) (k a : Nat) (v : W128) (h : Part.fab ∈ ps) :
    Chip.frame ps w c (c.latch k a v) := Chip.frame_fab w c _ h

/-- A change of a logic engine beside its registers. -/
theorem Chip.frame_updLe {ps : List Part} (w : Nat → Prop) (c : Chip) (e : Nat) (g : LeEngine → LeEngine) (h : Part.le ∈ ps) :
    Chip.frame ps w c (c.updLe e g) := by
  refine ⟨fun p hp => ?_, fun _ _ => rfl, rfl, rfl⟩
  cases p with
  | le => exact absurd h hp
  | _ => rfl

/-- What raises an event keeps every frame that lets the interrupt files and the event registers differ. -/
theorem Chip.frame_evOnly {ps : List Part} {w : Nat → Prop} {c d : Chip} (h : Chip.evOnly c d) (hp : Part.core ∈ ps)
    (hw : ∀ a, eventAddr a → w a) : Chip.frame ps w c d := by
  refine ⟨fun p hn => ?_, fun r hr => h.regs r fun he => hr (hw _ he), by rw [h.eq], by rw [h.eq]⟩
  cases p with
  | core => exact absurd hp hn
  | _ => simp only [Part.kept]; rw [h.eq]

theorem Chip.frame_raise {ps : List Part} {w : Nat → Prop} (c : Chip) {n : Nat} (hn : n < 1024) (hp : Part.core ∈ ps)
    (hw : ∀ a, eventAddr a → w a) : Chip.frame ps w c (c.raise n) := Chip.frame_evOnly (Chip.evOnly_raise c n hn) hp hw

/-! ### Answers and latches (R11) -/

/-- An agent's answers are kept under its own number. -/
@[simp] theorem Chip.who_key (c : Chip) (a : Agent) : (c.who a).key = agentKey a := rfl

@[simp] theorem Chip.resp_respond (c : Chip) (k : Nat) (err : Bool) (d : Nat) :
    look {} (c.respond k err d).fab.resp k = { err := err, data := d } := by simp only [Chip.respond, look_put_same]

@[simp] theorem Chip.latches_respond (c : Chip) (k : Nat) (err : Bool) (d : Nat) :
    (c.respond k err d).fab.latches = c.fab.latches := rfl

@[simp] theorem Chip.latches_latch (c : Chip) (k a : Nat) (v : W128) :
    look none (c.latch k a v).fab.latches (latchKey k a) = some v := by simp only [Chip.latch, look_put_same]

/-! ### Frames of the machine -/

/-- A command that changes the module only keeps the memories and the queue. -/
theorem State.frame_chip {ps : List Part} {w : Nat → Prop} {s : State} {c : Chip} (h : s.chip.frame ps w c) :
    s.frame ps w { s with chip := c } := ⟨⟨rfl, fun _ => rfl⟩, h⟩

theorem among_of_mem {l : List Nat} {a : Nat} (h : a ∈ l) : among l a := h

theorem amongEv_of_mem {l : List Nat} {a : Nat} (h : a ∈ l) : amongEv l a := Or.inl h

theorem amongEv_of_eventAddr (l : List Nat) (a : Nat) (h : eventAddr a) : amongEv l a := Or.inr h

end Sys2Proof.Machine
end

section
/-! Whole registers and the words of 128-bit registers (R10 to R13): each command's meaning at an address where a register begins, and the
statement about them. -/

namespace Sys2Proof.Machine

/-! ### Stores by the general rules -/

/-- The registers whose write is a command on the whole machine, with a rule of its own. -/
def commandRegs : List Reg := [SES_GO 0, DDP_FWQ_CI 0, CSES_GO 0, KEY_LC, RST_SWREQ, UPD_CMD, SEAM_P_CMD 0]

/-- A register that neither the machine nor its block takes by a rule of its own is stored by the general rules. -/
theorem State.storeAny_plain {s : State} {w : Who} {f : Found} {v : Nat} (hc : commandRegs.any f.is = false)
    (ho : s.chip.ownStore w f v = none) : s.storeAny w f v = { s with chip := s.chip.plainStore w f v } := by
  simp only [commandRegs, List.any_cons, List.any_nil, Bool.or_false, Bool.or_eq_false_iff] at hc
  obtain ⟨hSes, hFwq, hCses, hLc, hSwreq, hUpd, hSeam⟩ := hc
  simp [State.storeAny, State.storeReg, hSes, hFwq, hCses, hLc, hSwreq, hUpd, hSeam, ho]

/-- A write by a world that may write, of no reserved encoding, to a register that the seal does not hold (R8, R10, R13). -/
theorem Chip.plainStore_merges {c : Chip} {w : Who} {f : Found} {v : Nat} (hw : c.mayWrite w f v = true)
    (hb : f.boot = false ∨ c.flag RST_STAT_SEALED = false) (hr : reservedIn f.row.fields v = false) :
    c.plainStore w f v = c.wr f.reg (mergeFields f.row.fields (c.rd f.reg) v) := by
  have hs : (f.boot && c.flag RST_STAT_SEALED) = false := Bool.and_eq_false_iff.mpr hb
  simp [Chip.plainStore, hw, hs, hr]

theorem Chip.plainStore_denied {c : Chip} {w : Who} {f : Found} {v : Nat} (hw : c.mayWrite w f v = false) :
    c.plainStore w f v = c.denyWrite f := by simp [Chip.plainStore, hw]

/-! ### Commands at an address where a register begins -/

theorem exec_registerWrite (a : Agent) (addr : BitVec 40) (v : W128) (s : State) :
    exec (.registerWrite a addr v) s = s.byMem a fun w s => s.registerWrite w addr.toNat v.toNat := rfl

theorem exec_word128HighWrite (a : Agent) (addr : BitVec 40) (v : W32) (s : State) :
    exec (.word128HighWrite a addr v) s = s.byMem a fun w s => s.wordHighWrite w addr.toNat v := rfl

section
variable {s : State} {c : Chip} {w w' : Who} {a : Nat} {f : Found}

theorem State.registerWrite_reg (v : Nat) (h : s.chip.placeOf w a = some (.reg f 0, w')) :
    s.registerWrite w a v = s.storeAny w' f (v % 2 ^ f.row.width) := by simp [State.registerWrite, h]

theorem Chip.wideReg_reg (h : c.placeOf w a = some (.reg f 0, w')) (hf : f.row.width = 128) : c.wideReg w a = some (f, w') := by
  simp [Chip.wideReg, h, hf]

/-- The lowest word of a register whose read does nothing else: it is answered, and the whole value latched (R11). -/
theorem Chip.wordLowRead_reg (h : c.placeOf w a = some (.reg f 0, w')) (hf : f.row.width = 128) (hr : c.readEffect w' f = none) :
    c.wordLowRead w a =
      (c.latch w'.key f.addr (c.regValue w' f)).respond w'.key false ((c.regValue w' f).toNat % 2 ^ 32) := by
  simp [Chip.wordLowRead, Chip.wideReg_reg h hf, Chip.readRegWord, Chip.readReg, hf, hr]

theorem Chip.wordLowerWrite_reg (k : Nat) (v : W32) (h : c.placeOf w a = some (.reg f 0, w')) (hf : f.row.width = 128) :
    c.wordLowerWrite w a k v = c.stageWord w' f k v := by simp [Chip.wordLowerWrite, Chip.wideReg_reg h hf]

theorem State.wordHighWrite_reg (v : W32) (h : s.chip.placeOf w a = some (.reg f 0, w')) (hf : f.row.width = 128) :
    s.wordHighWrite w a v = s.highWord w' f v.toNat := by simp [State.wordHighWrite, Chip.wideReg_reg h hf]

end

/-! ### Staged words (R12) -/

/-- The staged words with word `k` replaced. -/
def Staged.withWord (x : Staged) (k : Nat) (v : W32) : Staged :=
  { w0 := if k = 0 then some v else x.w0, w1 := if k = 1 then some v else x.w1, w2 := if k = 2 then some v else x.w2 }

theorem Chip.staged_stageWord_same (c : Chip) (w : Who) (f : Found) (k : Fin 3) (v : W32) :
    look {} (c.stageWord w f k v).fab.staged (latchKey w.key f.addr) =
      (look {} c.fab.staged (latchKey w.key f.addr)).withWord k v := by
  simp only [Chip.stageWord, look_upd_same]
  match k with
  | 0 => rfl
  | 1 => rfl
  | 2 => rfl

theorem Chip.staged_stageWord_ne (c : Chip) (w : Who) (f : Found) (k : Nat) (v : W32) {g : Nat} (h : g ≠ latchKey w.key f.addr) :
    look {} (c.stageWord w f k v).fab.staged g = look {} c.fab.staged g := by
  simp only [Chip.stageWord]
  exact look_upd_ne _ _ _ h

/-- The module once the words staged for a register have been taken. -/
def Chip.unstage (c : Chip) (w : Who) (f : Found) : Chip :=
  { c with fab := { c.fab with staged := put {} c.fab.staged (latchKey w.key f.addr) {} } }

@[simp] theorem Chip.staged_unstage (c : Chip) (w : Who) (f : Found) :
    look {} (c.unstage w f).fab.staged (latchKey w.key f.addr) = {} := by simp only [Chip.unstage, look_put_same]

@[simp] theorem Chip.rd_unstage (c : Chip) (w : Who) (f : Found) (r : Reg) : (c.unstage w f).rd r = c.rd r := rfl

@[simp] theorem Chip.flag_unstage (c : Chip) (w : Who) (f : Found) (x : RFld) : (c.unstage w f).flag x = c.flag x := rfl

/-- Who may write a register does not turn on staged words. -/
@[simp] theorem Chip.mayWrite_unstage (c : Chip) (w : Who) (f : Found) (u : Who) (g : Found) (v : Nat) :
    (c.unstage w f).mayWrite u g v = c.mayWrite u g v := rfl

/-- With three words staged, the highest word stores the four together. -/
theorem State.highWord_staged {s : State} {w : Who} {f : Found} {x0 x1 x2 : W32} (v : Nat)
    (h : look {} s.chip.fab.staged (latchKey w.key f.addr) = { w0 := some x0, w1 := some x1, w2 := some x2 }) :
    s.highWord w f v = ({ s with chip := s.chip.unstage w f } : State).storeAny w f
      (x0.toNat + x1.toNat * 2 ^ 32 + x2.toNat * 2 ^ 64 + v * 2 ^ 96) := by
  simp only [State.highWord, h, Nat.shiftLeft_eq, Nat.mul_zero, Nat.mul_one, Nat.pow_zero]
  rfl

/-! ### The statement -/

/-- Settles O53: a write goes to the general store, which merges the fields or turns the world away; the words of a 128-bit register go
through the latch and the staged words. -/
theorem registerWordsAndWrites : Obligations.RegisterWordsAndWrites := by
  unfold Obligations.RegisterWordsAndWrites
  intro s a addr f w ha hp
  refine ⟨?_, ?_, ?_, ?_, ?_⟩
  · intro v hc ho hw hb hr
    refine Runs.byMem (exec_registerWrite _ _ _ _) ha ?_
    rw [State.registerWrite_reg _ hp, State.storeAny_plain hc ho, Chip.plainStore_merges hw hb hr]
    exact ⟨rfl, rfl⟩
  · intro v hc ho hw
    refine Runs.byMem (exec_registerWrite _ _ _ _) ha ?_
    rw [State.registerWrite_reg _ hp, State.storeAny_plain hc ho, Chip.plainStore_denied hw]
    exact ⟨rfl, rfl⟩
  · intro hf hr
    refine Runs.by rfl ha ?_
    rw [Chip.wordLowRead_reg hp hf hr]
    refine ⟨?_, ?_, State.frame_chip
      (Chip.frame_trans (Chip.frame_latch _ _ _ _ _ (by simp)) (Chip.frame_respond _ _ _ _ _ (by simp)))⟩
    · rw [Chip.resp_respond]
    · rw [Chip.latches_respond, Chip.latches_latch]
  · intro k v hf
    refine Runs.by rfl ha ?_
    rw [Chip.wordLowerWrite_reg _ _ hp hf]
    exact ⟨Chip.staged_stageWord_same _ _ _ k v, fun g hg => Chip.staged_stageWord_ne _ _ _ _ _ hg,
      State.frame_chip (Chip.frame_fab _ _ _ (by simp))⟩
  · intro v x0 x1 x2 x hf hx he hc ho hw hb hr
    refine Runs.byMem (exec_word128HighWrite _ _ _ _) ha ?_
    have hst := State.storeAny_plain (s := { s with chip := s.chip.unstage w f }) hc ho
    rw [State.wordHighWrite_reg _ hp hf, State.highWord_staged _ hx, ← he, hst,
      Chip.plainStore_merges (by simpa using hw) (by simpa using hb) hr]
    exact ⟨by rw [Chip.rd_wr_same, Chip.rd_unstage], by rw [Chip.wr_fab, Chip.staged_unstage], rfl⟩

end Sys2Proof.Machine
end

section
/-! SUPPORT. The registers, the events and the parts of a logic engine: what a write of a register, a change of the engine and an event of
the engine leave of each other. -/

namespace Sys2Proof.Machine

/-! ### Bits of a written value -/

@[simp] theorem bit_setBit_same (v i : Nat) : bit (setBit v i true) i = true := by simp [bit, setBit]

theorem bit_setBit_ne (v : Nat) {i j : Nat} (h : i ≠ j) : bit (setBit v i true) j = bit v j := by
  simp [bit, setBit, Nat.testBit_or, Nat.one_shiftLeft, Nat.testBit_two_pow_of_ne h]

/-- A bit above a field leaves it as it is. -/
theorem setBit_mod (v : Nat) {i n : Nat} (h : n ≤ i) : setBit v i true % 2 ^ n = v % 2 ^ n := by
  apply Nat.eq_of_testBit_eq
  intro j
  have hb := bit_setBit_ne v (i := i) (j := j)
  simp only [bit] at hb
  by_cases hj : j < n
  · simp [Nat.testBit_mod_two_pow, hj, hb (by omega)]
  · simp [Nat.testBit_mod_two_pow, hj]

section
variable (c : Chip) (e : Fin 2)

/-! ### Registers apart -/

/-- A field of a register other than the one written. -/
theorem Chip.get_set_reg_ne (c : Chip) {f g : RFld} (x : Nat) (h : g.reg.addr ≠ f.reg.addr) : (c.set f x).get g = c.get g :=
  Chip.get_wr_ne c _ h

/-- A field of the register written that shares no bit with the one written. -/
theorem Chip.get_set_bits_ne (c : Chip) {f g : RFld} (x : Nat) (hf : f.okb = true) (hg : g.okb = true) (hr : g.reg = f.reg)
    (hd : g.hi < f.lo ∨ f.hi < g.lo) : (c.set f x).get g = c.get g :=
  Chip.get_set_ne c x (RFld.ok_of hf) (RFld.ok_of hg) (Or.inr ⟨hr, hd⟩)

theorem Chip.leMode_set (c : Chip) {f : RFld} (e x : Nat) (h : (LE_STAT e).addr ≠ f.reg.addr) : (c.set f x).leMode e = c.leMode e :=
  Chip.get_set_reg_ne c x h

/-- No event writes a register of the logic engines (R7). -/
theorem quiet_le {a : Nat} (h : 0x30050000 ≤ a ∧ a < 0x30070000) : quiet a := by
  unfold quiet eventAddr
  omega

/-! ### The engine -/

@[simp] theorem Chip.leg_set (f : RFld) (x n : Nat) : (c.set f x).leg n = c.leg n := rfl

@[simp] theorem Chip.leg_setB (f : RFld) (b : Bool) (n : Nat) : (c.setB f b).leg n = c.leg n := rfl

@[simp] theorem Chip.leg_updLe_same (n : Nat) (g : LeEngine → LeEngine) : (c.updLe n g).leg n = g (c.leg n) := by
  simp only [Chip.leg, Chip.updLe, look_upd_same]

@[simp] theorem Chip.leMode_updLe (n m : Nat) (g : LeEngine → LeEngine) : (c.updLe n g).leMode m = c.leMode m := rfl

@[simp] theorem Chip.linkFits_updLe (n : Nat) (g : LeEngine → LeEngine) (l : LeLink) : (c.updLe n g).linkFits l = c.linkFits l := rfl

@[simp] theorem Chip.unclaimedLink_updLe (n m : Nat) (g : LeEngine → LeEngine) (t : NMap W128) :
    (c.updLe n g).unclaimedLink m t = c.unclaimedLink m t := rfl

/-! ### Events of the engine (R177) -/

variable {k : Nat} (hk : k < 16)
include hk

theorem leEvent_lt : 160 + 16 * e.val + k < 1024 := by omega

theorem Chip.leg_leEvent (n : Nat) : (c.leEvent e k).leg n = c.leg n := by
  simp only [Chip.leg, Chip.leEvent, Chip.raise_le _ _ (leEvent_lt e hk)]

theorem Chip.get_leEvent {f : RFld} (hf : 0x30050000 ≤ f.reg.addr ∧ f.reg.addr < 0x30070000) : (c.leEvent e k).get f = c.get f :=
  Chip.get_raise c _ (leEvent_lt e hk) f (quiet_le hf)

theorem Chip.leg_when_leEvent (p : Bool) (n : Nat) : (c.when p fun c => c.leEvent e k).leg n = c.leg n := by
  cases p
  · rfl
  · exact Chip.leg_leEvent c e hk n

theorem Chip.get_when_leEvent {f : RFld} (hf : 0x30050000 ≤ f.reg.addr ∧ f.reg.addr < 0x30070000) (p : Bool) :
    (c.when p fun c => c.leEvent e k).get f = c.get f := by
  cases p
  · rfl
  · exact Chip.get_leEvent c e hk hf

theorem Chip.pends_leEvent : (c.leEvent e k).pends (160 + 16 * e.val + k) = true := Chip.pends_raise c _ (leEvent_lt e hk)

theorem Chip.frame_leEvent {ps : List Part} (l : List Nat) (hp : Part.core ∈ ps) :
    Chip.frame ps (amongEv l) c (c.leEvent e k) := Chip.frame_raise c (leEvent_lt e hk) hp (amongEv_of_eventAddr l)

end

end Sys2Proof.Machine
end

section
/-! Online changes of a logic engine (R166). -/

namespace Sys2Proof.Machine

section
variable {c : Chip} {w : Who} {e : Nat} {v : W128}

theorem Chip.leMode_chgStatus (c : Chip) (e st : Nat) : (c.set (LE_CHG_RES_STATUS e) st).leMode e = c.leMode e :=
  Chip.leMode_set c e st (by simp [LE_STAT, LE_CHG_RES_STATUS, LE_CHG_RES])

theorem Chip.get_chgStatus (c : Chip) (e : Nat) {st : Nat} (h : st < 256) :
    (c.set (LE_CHG_RES_STATUS e) st).get (LE_CHG_RES_STATUS e) = st :=
  (Chip.get_set_same c _ st (RFld.ok_of rfl)).trans (Nat.mod_eq_of_lt h)

/-- The change that CHG_ADDR, CHG_MASK and the data describe. -/
def Chip.describedChange (c : Chip) (e : Nat) (v : W128) : LeChange :=
  { area := c.get (LE_CHG_ADDR_AREA e), addr := c.get (LE_CHG_ADDR_ADDR e), mask := c.get (LE_CHG_MASK_MASK e), data := v }

theorem Chip.leChgWrite_denied (hw : w.world ≠ c.leWorld e) :
    c.leChgWrite w e v = (c.set (LE_CHG_RES_STATUS e) stDENIED_WORLD).leEvent e 7 := by
  simp [Chip.leChgWrite, Chip.leChange, hw, stDENIED_WORLD, stOK]

/-- Outside STOP a change within its area waits for the next cycle. -/
theorem Chip.leChgWrite_waits (hw : w.world = c.leWorld e)
    (ha : c.get (LE_CHG_ADDR_ADDR e) < changeSpan (c.get (LE_CHG_ADDR_AREA e))) (hm : c.leMode e ≠ 0)
    (hl : (c.leg e).changes.length < 64) :
    c.leChgWrite w e v =
      (c.set (LE_CHG_RES_STATUS e) stOK).updLe e fun g => { g with changes := g.changes ++ [c.describedChange e v] } := by
  simp [Chip.leChgWrite, Chip.leChange, hw, Nat.not_le.mpr ha, Nat.not_le.mpr hl, Chip.leMode_chgStatus, hm, Chip.describedChange]

/-- In STOP it applies at once. -/
theorem Chip.leChgWrite_applies (hw : w.world = c.leWorld e)
    (ha : c.get (LE_CHG_ADDR_ADDR e) < changeSpan (c.get (LE_CHG_ADDR_AREA e))) (hm : c.leMode e = 0) :
    c.leChgWrite w e v = (c.set (LE_CHG_RES_STATUS e) stOK).updLe e fun g => applyChange g (c.describedChange e v) := by
  simp [Chip.leChgWrite, Chip.leChange, hw, Nat.not_le.mpr ha, Chip.leMode_chgStatus, hm, Chip.describedChange]

end

end Sys2Proof.Machine
end

section
/-! The memory port of a logic engine (R169, R176). -/

namespace Sys2Proof.Machine

section
variable {c : Chip} {w : Who} {e : Nat}

theorem spaceUnits_le (sp : Nat) : spaceUnits sp ≤ 16384 := by
  unfold spaceUnits
  split <;> decide

/-- A read within its space answers and latches the unit, and moves the index on. -/
theorem Chip.leMemRead_unit (hi : c.get (LE_MADDR_INDEX e) < spaceUnits (c.get (LE_MADDR_SPACE e))) :
    c.leMemRead w e =
      ((((c.set (LE_MRES_STATUS e) stOK).set (LE_MADDR_INDEX e) (c.get (LE_MADDR_INDEX e) + 1)).latch w.key (LE_MDATA e).addr
        ((c.leg e).unit (c.get (LE_MADDR_SPACE e)) (c.get (LE_MADDR_INDEX e)))).respond w.key false
        (((c.leg e).unit (c.get (LE_MADDR_SPACE e)) (c.get (LE_MADDR_INDEX e))).toNat % 2 ^ 32)) := by
  simp [Chip.leMemRead, hi]

/-- A staging bank with unit `i` of the memory of space `sp` replaced. -/
def LeBank.withUnit (b : LeBank) (sp i : Nat) (v : W128) : LeBank :=
  match sp with
  | 1 => { b with prog := put 0 b.prog i v }
  | 3 => { b with map := put 0 b.map i v }
  | 5 => { b with k := put 0 b.k i v }
  | _ => { b with link := put 0 b.link i v }

/-- The spaces of the staging bank. -/
theorem staging_space_cases {sp : Nat} (h : sp ∈ [1, 3, 5, 7]) : sp = 1 ∨ sp = 3 ∨ sp = 5 ∨ sp = 7 := by simpa using h

/-- A write of a staging memory is taken, whatever the mode. -/
theorem Chip.leUnitWrite_staging {sp i : Nat} (u : Nat) (v : W128) (hi : i < spaceUnits sp) (hs : sp ∈ [1, 3, 5, 7]) :
    c.leUnitWrite u e sp i v =
      (stOK, c.updLe e fun g => { g with staging := g.staging.withUnit sp i v, newStaging := true }) := by
  have hr := Nat.not_le.mpr hi
  obtain rfl | rfl | rfl | rfl := staging_space_cases hs <;> simp only [Chip.leUnitWrite, hr, if_false, LeBank.withUnit]

/-- A unit of the staging bank just written. -/
theorem LeEngine.unit_staging (g : LeEngine) {sp : Nat} (i : Nat) (v : W128) (hs : sp ∈ [1, 3, 5, 7]) :
    LeEngine.unit { g with staging := g.staging.withUnit sp i v, newStaging := true } sp i = v := by
  obtain rfl | rfl | rfl | rfl := staging_space_cases hs <;> exact look_put_same _ _ _ _

/-- A write of W is taken in STOP. -/
theorem Chip.leUnitWrite_w {i : Nat} (u : Nat) (v : W128) (hi : i < spaceUnits 8) (hm : c.leMode e = 0) :
    c.leUnitWrite u e 8 i v = (stOK, c.updCpu e fun p => { p with w := put 0 p.w i v }) := by
  simp [Chip.leUnitWrite, Nat.not_le.mpr hi, hm]

/-- A write of a unit of a staging memory, or of W in STOP, is taken, and the unit then reads as written. -/
theorem Chip.leUnitWrite_stores {sp i : Nat} (u : Nat) (v : W128) (hi : i < spaceUnits sp)
    (hs : sp ∈ [1, 3, 5, 7] ∨ (sp = 8 ∧ c.leMode e = 0)) :
    ∃ g : LeEngine → LeEngine, c.leUnitWrite u e sp i v = (stOK, c.updLe e g) ∧ ∀ x, (g x).unit sp i = v := by
  obtain hs | ⟨rfl, hm⟩ := hs
  · exact ⟨_, Chip.leUnitWrite_staging u v hi hs, fun x => LeEngine.unit_staging x i v hs⟩
  · exact ⟨_, Chip.leUnitWrite_w u v hi hm, fun _ => look_put_same _ _ _ _⟩

theorem Chip.leMemWrite_stored {v : W128} {g : LeEngine → LeEngine} (hw : w.world = c.leWorld e)
    (hg : c.leUnitWrite w.world e (c.get (LE_MADDR_SPACE e)) (c.get (LE_MADDR_INDEX e)) v = (stOK, c.updLe e g)) :
    c.leMemWrite w e v =
      ((c.updLe e g).set (LE_MRES_STATUS e) stOK).set (LE_MADDR_INDEX e) (c.get (LE_MADDR_INDEX e) + 1) := by
  simp only [Chip.leMemWrite, hg]
  simp [hw]

/-- What the port's registers show after an access that was taken. -/
theorem Chip.get_portDone (c : Chip) (e : Nat) {i sp : Nat} (hi : i < spaceUnits sp) :
    ((c.set (LE_MRES_STATUS e) stOK).set (LE_MADDR_INDEX e) (i + 1)).get (LE_MADDR_INDEX e) = i + 1 ∧
    ((c.set (LE_MRES_STATUS e) stOK).set (LE_MADDR_INDEX e) (i + 1)).get (LE_MRES_STATUS e) = stOK := by
  have hu := spaceUnits_le sp
  constructor
  · rw [Chip.get_set_same _ _ _ (RFld.ok_of rfl)]
    exact Nat.mod_eq_of_lt (show i + 1 < 2 ^ 20 by omega)
  · rw [Chip.get_set_reg_ne _ _ (by simp [LE_MRES_STATUS, LE_MRES, LE_MADDR_INDEX, LE_MADDR]),
      Chip.get_set_same _ _ _ (RFld.ok_of rfl)]
    rfl

theorem Chip.frame_portDone (ps : List Part) (c : Chip) (e i : Nat) :
    Chip.frame ps (among [(LE_MADDR e).addr, (LE_MRES e).addr]) c
      ((c.set (LE_MRES_STATUS e) stOK).set (LE_MADDR_INDEX e) i) :=
  Chip.frame_trans (Chip.frame_set ps c _ (among_of_mem (by simp [LE_MRES_STATUS])))
    (Chip.frame_set ps _ _ (among_of_mem (by simp [LE_MADDR_INDEX])))

end

end Sys2Proof.Machine
end

section
/-! The program exchange of a logic engine (R171, R172). -/

namespace Sys2Proof.Machine

section
variable {c : Chip} {w : Who} {e : Nat}

/-! ### GO and CANCEL -/

/-- The module with no check of the engine's staging bank under way. -/
def Chip.endCheck (c : Chip) (e : Nat) : Chip := c.updLe e fun g => { g with check := none }

@[simp] theorem Chip.leg_endCheck (c : Chip) (e : Nat) : (c.endCheck e).leg e = { c.leg e with check := none } :=
  Chip.leg_updLe_same _ _ _

/-- CANCEL: no exchange is armed and no check runs. -/
def Chip.leCancel (c : Chip) (e : Nat) : Chip := (c.setB (LE_XSTAT_ARMED e) false).endCheck e

/-- GO where nothing is armed or being checked: the checks of the staging bank begin. -/
def Chip.leGo (c : Chip) (w : Who) (e v : Nat) : Chip :=
  c.updLe e fun g => { g with
    last := v % 65536,
    check := some { last := v % 65536, mid := w.mid, vf := w.vf, atCycle := if bit v 29 then some (c.get (LE_XCHG_CYC_N e)) else none } }

@[simp] theorem Chip.leg_leCancel (c : Chip) (e : Nat) : (c.leCancel e).leg e = { c.leg e with check := none } := by
  simp [Chip.leCancel]

theorem Chip.leMode_leCancel (c : Chip) (e : Nat) : (c.leCancel e).leMode e = c.leMode e :=
  Chip.leMode_set c e _ (by simp [LE_STAT, LE_XSTAT_ARMED, LE_XSTAT])

theorem Chip.armed_leCancel (c : Chip) (e : Nat) : (c.leCancel e).flag (LE_XSTAT_ARMED e) = false :=
  Chip.flag_setB_same c _ _ (RFld.ok_of rfl)

theorem Chip.get_cycle_leCancel (c : Chip) (e : Nat) : (c.leCancel e).get (LE_XCHG_CYC_N e) = c.get (LE_XCHG_CYC_N e) :=
  Chip.get_set_reg_ne c _ (by simp [LE_XCHG_CYC_N, LE_XCHG_CYC, LE_XSTAT_ARMED, LE_XSTAT])

theorem Chip.leXchgWrite_cancel {v : Nat} (hw : w.world = c.leWorld e) (h30 : bit v 30 = true) (h31 : bit v 31 = false) :
    c.leXchgWrite w e v = c.leCancel e := by simp [Chip.leXchgWrite, hw, h30, h31, Chip.when, Chip.leCancel, Chip.endCheck]

/-- The module as GO finds it: with CANCEL beside it, after the cancellation. -/
def Chip.beforeGo (c : Chip) (e v : Nat) : Chip := c.when (bit v 30) fun c => c.leCancel e

/-- CANCEL beside GO ends nothing where nothing is armed or being checked. -/
theorem Chip.beforeGo_idle (v : Nat) (hk : (c.leg e).check = none) (ha : c.flag (LE_XSTAT_ARMED e) = false) :
    (c.beforeGo e v).leMode e = c.leMode e ∧ ((c.beforeGo e v).leg e).check = none ∧
      (c.beforeGo e v).flag (LE_XSTAT_ARMED e) = false ∧ (c.beforeGo e v).get (LE_XCHG_CYC_N e) = c.get (LE_XCHG_CYC_N e) := by
  unfold Chip.beforeGo Chip.when
  split
  · exact ⟨c.leMode_leCancel e, by simp, c.armed_leCancel e, c.get_cycle_leCancel e⟩
  · exact ⟨rfl, hk, ha, rfl⟩

/-- GO at an engine that is not held, with no exchange under way. -/
theorem Chip.leXchgWrite_go {v : Nat} (hw : w.world = c.leWorld e) (h31 : bit v 31 = true) (hm : c.leMode e ≠ 2)
    (hk : (c.leg e).check = none) (ha : c.flag (LE_XSTAT_ARMED e) = false) :
    c.leXchgWrite w e v = (c.beforeGo e v).leGo w e v := by
  obtain ⟨hmode, hcheck, harmed, -⟩ := Chip.beforeGo_idle v hk ha
  unfold Chip.leXchgWrite
  rw [if_neg (not_not_intro hw)]
  change Chip.when (c.beforeGo e v) (bit v 31) _ = _
  simp [Chip.when, h31, hmode, hm, hcheck, harmed, Chip.leGo]

end

/-! ### Refused -/

section
variable (c : Chip) (e : Fin 2)

/-- A write of another field of LEn_XSTAT keeps its STATUS. -/
theorem Chip.get_xstatus_set (c : Chip) (e x : Nat) {f : RFld} (hf : f.okb = true) (hr : f.reg = LE_XSTAT e) (hl : 7 < f.lo) :
    (c.set f x).get (LE_XSTAT_STATUS e) = c.get (LE_XSTAT_STATUS e) :=
  Chip.get_set_bits_ne c x hf rfl hr.symm (Or.inl hl)

theorem Chip.get_xstatus_leEvent {k : Nat} (hk : k < 16) : (c.leEvent e k).get (LE_XSTAT_STATUS e) = c.get (LE_XSTAT_STATUS e) :=
  Chip.get_leEvent c e hk (by simp [LE_XSTAT_STATUS, LE_XSTAT]; omega)

/-- The status of an exchange, written with the place of the fault. -/
def Chip.setXstat (c : Chip) (e st idx spc : Nat) : Chip :=
  ((c.set (LE_XSTAT_STATUS e) st).set (LE_XSTAT_BADIDX e) idx).set (LE_XSTAT_BADSPC e) spc

theorem Chip.get_status_setXstat (c : Chip) (e : Nat) {st : Nat} (idx spc : Nat) (h : st < 256) :
    (c.setXstat e st idx spc).get (LE_XSTAT_STATUS e) = st := by
  unfold Chip.setXstat
  rw [Chip.get_xstatus_set _ e _ rfl rfl (by simp [LE_XSTAT_BADSPC]), Chip.get_xstatus_set _ e _ rfl rfl (by simp [LE_XSTAT_BADIDX]),
    Chip.get_set_same _ _ _ (RFld.ok_of rfl)]
  exact Nat.mod_eq_of_lt h

theorem Chip.get_status_leXrefuse {st : Nat} (idx spc : Nat) (h : st < 256) :
    (c.leXrefuse e st idx spc).get (LE_XSTAT_STATUS e) = st :=
  (Chip.get_xstatus_leEvent _ e (by decide)).trans (Chip.get_status_setXstat c e idx spc h)

theorem Chip.leg_leXrefuse (st idx spc n : Nat) : (c.leXrefuse e st idx spc).leg n = c.leg n := by
  simp [Chip.leXrefuse, Chip.leg_leEvent]

theorem Chip.pends_leXrefuse (st idx spc : Nat) : (c.leXrefuse e st idx spc).pends (160 + 16 * e.val + 5) = true :=
  Chip.pends_leEvent _ e (by decide)

theorem Chip.frame_leXrefuse {ps : List Part} (st idx spc : Nat) (hp : Part.core ∈ ps) :
    Chip.frame ps (amongEv [(LE_XSTAT e).addr]) c (c.leXrefuse e st idx spc) :=
  have hx (c : Chip) (f : RFld) (x : Nat) (hf : f.reg = LE_XSTAT e) : Chip.frame ps (amongEv [(LE_XSTAT e).addr]) c (c.set f x) :=
    Chip.frame_set ps c x (amongEv_of_mem (by simp [hf]))
  Chip.frame_trans (Chip.frame_trans (Chip.frame_trans (hx _ _ _ rfl) (hx _ _ _ rfl)) (hx _ _ _ rfl))
    (Chip.frame_leEvent _ e (by decide) _ hp)

/-! ### Carried out -/

/-- An exchange swaps the banks of the engine, records its result and raises its events. -/
theorem Chip.leExchange_shape (e : Nat) : ∃ (g : LeEngine → LeEngine) (v : Nat) (p : Bool),
    c.leExchange e = ((((((c.updLe e g).wrN (LE_XRES e) v).stick (LE_XSTAT_DONE e)).setB (LE_XSTAT_ARMED e) false).leEvent e 4).when p
      fun c => c.leEvent e 6) ∧
    (g (c.leg e)).active = (c.leg e).staging ∧ (g (c.leg e)).staging = (c.leg e).active ∧ (g (c.leg e)).check = (c.leg e).check :=
  ⟨_, _, _, rfl, rfl, rfl, rfl⟩

theorem Chip.leg_leExchange :
    ((c.leExchange e).leg e).active = (c.leg e).staging ∧ ((c.leExchange e).leg e).staging = (c.leg e).active ∧
      ((c.leExchange e).leg e).check = (c.leg e).check := by
  obtain ⟨g, v, p, hx, hg⟩ := c.leExchange_shape e
  have hl : (c.leExchange e).leg e = g (c.leg e) := by
    rw [hx, Chip.leg_when_leEvent _ e (by decide), Chip.leg_leEvent _ e (by decide)]
    exact Chip.leg_updLe_same c e g
  rwa [hl]

theorem Chip.xstat_leExchange :
    (c.leExchange e).get (LE_XSTAT_STATUS e) = c.get (LE_XSTAT_STATUS e) ∧ (c.leExchange e).flag (LE_XSTAT_DONE e) = true := by
  obtain ⟨g, v, p, hx, -⟩ := c.leExchange_shape e
  have hr : 0x30050000 ≤ (LE_XSTAT e).addr ∧ (LE_XSTAT e).addr < 0x30070000 := by simp [LE_XSTAT]; omega
  have hev (d : Chip) (f : RFld) (hf : f.reg = LE_XSTAT e) : ((d.leEvent e 4).when p fun c => c.leEvent e 6).get f = d.get f := by
    rw [Chip.get_when_leEvent _ e (by decide) (hf ▸ hr), Chip.get_leEvent _ e (by decide) (hf ▸ hr)]
  rw [hx]
  constructor
  · rw [hev _ _ rfl, Chip.setB, Chip.get_xstatus_set _ e _ rfl rfl (by simp [LE_XSTAT_ARMED]), Chip.stick, Chip.setB,
      Chip.get_xstatus_set _ e _ rfl rfl (by simp [LE_XSTAT_DONE])]
    exact Chip.get_wr_ne (c.updLe e g) _ (by simp [LE_XSTAT_STATUS, LE_XSTAT, LE_XRES])
  · rw [Chip.flag, hev _ _ rfl, Chip.setB, Chip.get_set_bits_ne (f := LE_XSTAT_ARMED e) (g := LE_XSTAT_DONE e) _ _ rfl rfl rfl
      (Or.inr (by simp [LE_XSTAT_DONE, LE_XSTAT_ARMED]))]
    exact Chip.flag_setB_same _ _ true (RFld.ok_of rfl)

theorem Chip.leg_leDiscard :
    ((c.leDiscard e).leg e).active = (c.leg e).active ∧ ((c.leDiscard e).leg e).staging = (c.leg e).staging ∧
      ((c.leDiscard e).leg e).check = (c.leg e).check := by
  unfold Chip.leDiscard
  dsimp only
  split <;> simp [Chip.leg_leEvent, Chip.satAdd]

theorem Chip.get_status_leDiscard : (c.leDiscard e).get (LE_XSTAT_STATUS e) = c.get (LE_XSTAT_STATUS e) := by
  unfold Chip.leDiscard
  dsimp only
  split
  · rfl
  · rw [Chip.get_leEvent _ _ (by decide) (by simp [LE_XSTAT_STATUS, LE_XSTAT]; omega)]
    exact Chip.get_set_reg_ne _ _ (by simp [LE_XSTAT_STATUS, LE_XSTAT, LE_CHG_RES_DISCARDED, LE_CHG_RES])

end

/-! ### The end of the checks -/

/-- The checks of R171, which the staging bank passes. -/
structure Chip.StagingPasses (c : Chip) (e : Nat) (k : LeCheck) : Prop where
  crc : bankCrc (c.leg e).staging k.last = c.get (LE_XCHG_CRC_CRC e)
  words : badWord (c.leg e).staging k.last = none
  records : badRecord (c.leg e).staging.map [] = none
  fits : (linksUsed (c.leg e).staging.link).all (fun i => c.linkFits (linkAt (c.leg e).staging.link i)) = true
  claimed : c.unclaimedLink e (c.leg e).staging.link = none

section
variable {c : Chip} {e : Nat} {k : LeCheck}

theorem Chip.leCheckDone_crc (hk : (c.leg e).check = some k) (hc : bankCrc (c.leg e).staging k.last ≠ c.get (LE_XCHG_CRC_CRC e)) :
    c.leCheckDone e = (c.endCheck e).leXrefuse e stINTEGRITY 0 0 := by
  simp [Chip.leCheckDone, hk, hc, Chip.endCheck]

theorem Chip.find_unfit_eq_none (h : c.StagingPasses e k) :
    (linksUsed (c.leg e).staging.link).find? (fun i => !c.linkFits (linkAt (c.leg e).staging.link i)) = none := by
  simpa using h.fits

/-- The engine once its staging bank has passed. -/
def Chip.bankPassed (c : Chip) (e : Nat) : Chip := (c.endCheck e).setXstat e stOK 0 0

@[simp] theorem Chip.leg_bankPassed (c : Chip) (e : Nat) : (c.bankPassed e).leg e = { c.leg e with check := none } :=
  Chip.leg_updLe_same _ _ _

theorem Chip.get_status_bankPassed (c : Chip) (e : Fin 2) : (c.bankPassed e).get (LE_XSTAT_STATUS e) = stOK :=
  Chip.get_status_setXstat _ e 0 0 (by decide)

theorem Chip.leMode_bankPassed (c : Chip) (e : Nat) : (c.bankPassed e).leMode e = c.leMode e := by
  have hx (c : Chip) (f : RFld) (x : Nat) (hf : f.reg = LE_XSTAT e) : (c.set f x).leMode e = c.leMode e :=
    Chip.leMode_set c e x (by rw [hf]; simp [LE_STAT, LE_XSTAT])
  unfold Chip.bankPassed Chip.setXstat
  rw [hx _ _ _ rfl, hx _ _ _ rfl, hx _ _ _ rfl]
  rfl

/-- A bank that passes is exchanged at once in STOP. -/
theorem Chip.leCheckDone_exchanges (hk : (c.leg e).check = some k) (h : c.StagingPasses e k) (hm : c.leMode e = 0) :
    c.leCheckDone e = (((c.bankPassed e).leDiscard e).leExchange e).updLe e fun g => { g with delivered := [] } := by
  have hm' := (c.leMode_bankPassed e).trans hm
  simp only [Chip.bankPassed, Chip.endCheck, Chip.setXstat] at hm' ⊢
  simp [Chip.leCheckDone, hk, h.crc, h.words, h.records, Chip.find_unfit_eq_none h, h.claimed, hm']

/-- A bank that passes is armed otherwise. -/
theorem Chip.leCheckDone_arms (hk : (c.leg e).check = some k) (h : c.StagingPasses e k) (hm : c.leMode e ≠ 0) :
    c.leCheckDone e = ((c.bankPassed e).setB (LE_XSTAT_ARMED e) true).updLe e fun g => { g with armedAt := k.atCycle.getD 0 } := by
  have hm' := (c.leMode_bankPassed e).trans_ne hm
  simp only [Chip.bankPassed, Chip.endCheck, Chip.setXstat] at hm' ⊢
  simp [Chip.leCheckDone, hk, h.crc, h.words, h.records, Chip.find_unfit_eq_none h, h.claimed, hm']

end

section
variable {c : Chip} {e : Fin 2} {k : LeCheck}

/-- In STOP a bank that passes becomes the active one. -/
theorem Chip.leCheckDone_stopped (hk : (c.leg e).check = some k) (h : c.StagingPasses e k) (hm : c.leMode e = 0) :
    (c.leCheckDone e).get (LE_XSTAT_STATUS e) = stOK ∧ ((c.leCheckDone e).leg e).check = none ∧
      ((c.leCheckDone e).leg e).active = (c.leg e).staging ∧ ((c.leCheckDone e).leg e).staging = (c.leg e).active ∧
      (c.leCheckDone e).flag (LE_XSTAT_DONE e) = true := by
  rw [Chip.leCheckDone_exchanges hk h hm]
  obtain ⟨hdActive, hdStaging, hdCheck⟩ := (c.bankPassed e).leg_leDiscard e
  have hdStatus := ((c.bankPassed e).get_status_leDiscard e).trans (c.get_status_bankPassed e)
  generalize (c.bankPassed e).leDiscard e = d at *
  obtain ⟨hActive, hStaging, hCheck⟩ := d.leg_leExchange e
  obtain ⟨hStatus, hDone⟩ := d.xstat_leExchange e
  refine ⟨?_, ?_, ?_, ?_, ?_⟩
  · rw [Chip.updLe_get, hStatus, hdStatus]
  · rw [Chip.leg_updLe_same, hCheck, hdCheck, Chip.leg_bankPassed]
  · rw [Chip.leg_updLe_same, hActive, hdStaging, Chip.leg_bankPassed]
  · rw [Chip.leg_updLe_same, hStaging, hdActive, Chip.leg_bankPassed]
  · rw [Chip.updLe_flag, hDone]

/-- Outside STOP it is armed for the cycle that ATCYC names. -/
theorem Chip.leCheckDone_running (hk : (c.leg e).check = some k) (h : c.StagingPasses e k) (hm : c.leMode e ≠ 0) :
    (c.leCheckDone e).get (LE_XSTAT_STATUS e) = stOK ∧ ((c.leCheckDone e).leg e).check = none ∧
      (c.leCheckDone e).flag (LE_XSTAT_ARMED e) = true ∧ ((c.leCheckDone e).leg e).armedAt = k.atCycle.getD 0 := by
  rw [Chip.leCheckDone_arms hk h hm]
  refine ⟨?_, ?_, ?_, ?_⟩
  · rw [Chip.updLe_get, Chip.setB, Chip.get_xstatus_set _ e _ rfl rfl (by simp [LE_XSTAT_ARMED]), Chip.get_status_bankPassed]
  · rw [Chip.leg_updLe_same, Chip.leg_setB, Chip.leg_bankPassed]
  · rw [Chip.updLe_flag, Chip.flag_setB_same _ _ _ (RFld.ok_of rfl)]
  · rw [Chip.leg_updLe_same]

end

/-! ### The statement -/

/-- Settles O29, command by command: an online change by its status and the mode, a port access by its space, GO and CANCEL, and the end
of the checks by whether the bank passes and, if so, by the mode. -/
theorem logicEngineMemoryAndExchange : Obligations.LogicEngineMemoryAndExchange := by
  unfold Obligations.LogicEngineMemoryAndExchange
  intro s e
  refine ⟨?_, ?_, ?_, ?_, ?_, ?_, ?_, ?_, ?_⟩
  · intro a v ha hw hspan hm hl
    refine Runs.by rfl ha ?_
    rw [Chip.leChgWrite_waits hw hspan hm hl]
    refine ⟨?_, ?_, State.frame_chip (Chip.frame_trans (Chip.frame_set _ _ _ (among_of_mem (by simp [LE_CHG_RES_STATUS])))
      (Chip.frame_updLe _ _ _ _ (by simp)))⟩
    · rw [Chip.leg_updLe_same, Chip.leg_set]
      rfl
    · rw [Chip.updLe_get, Chip.get_chgStatus _ _ (by decide)]
  · intro a v ha hw hspan hm
    refine Runs.by rfl ha ?_
    rw [Chip.leChgWrite_applies hw hspan hm]
    constructor
    · rw [Chip.leg_updLe_same, Chip.leg_set]
      rfl
    · rw [Chip.updLe_get, Chip.get_chgStatus _ _ (by decide)]
  · intro a v ha hw
    refine Runs.by rfl ha ?_
    rw [Chip.leChgWrite_denied hw]
    refine ⟨?_, ?_, State.frame_chip (Chip.frame_trans (Chip.frame_set _ _ _ (amongEv_of_mem (by simp [LE_CHG_RES_STATUS])))
      (Chip.frame_leEvent _ e (by decide) _ (by simp)))⟩
    · exact (Chip.get_leEvent _ e (by decide) (by simp [LE_CHG_RES_STATUS, LE_CHG_RES]; omega)).trans
        (Chip.get_chgStatus _ _ (by decide))
    · rw [show 167 + 16 * e.val = 160 + 16 * e.val + 7 by omega]
      exact Chip.pends_leEvent _ e (by decide)
  · intro a ha hi
    refine Runs.by rfl ha ?_
    rw [Chip.leMemRead_unit hi, Chip.who_key]
    obtain ⟨hidx, hst⟩ := s.chip.get_portDone e hi
    refine ⟨?_, ?_, ?_, State.frame_chip (Chip.frame_trans (Chip.frame_portDone _ _ _ _)
      (Chip.frame_trans (Chip.frame_latch _ _ _ _ _ (by simp)) (Chip.frame_respond _ _ _ _ _ (by simp))))⟩
    · rw [Chip.resp_respond]
    · rw [Chip.respond_get, Chip.latch_get, hidx]
    · rw [Chip.respond_get, Chip.latch_get, hst]
  · intro a v ha hw hi hs
    refine Runs.by rfl ha ?_
    obtain ⟨g, hg, hu⟩ := Chip.leUnitWrite_stores (s.chip.who a).world v hi hs
    rw [Chip.leMemWrite_stored hw hg]
    obtain ⟨hidx, hst⟩ := (s.chip.updLe e g).get_portDone e hi
    exact ⟨by simp [hu], hidx, hst,
      State.frame_chip (Chip.frame_trans (Chip.frame_updLe _ _ _ _ (by simp)) (Chip.frame_portDone _ _ _ _))⟩
  · intro a v ha hw hm hk hx
    refine Runs.by rfl ha ?_
    rw [Chip.leXchgWrite_go hw (bit_setBit_same _ _) hm hk hx]
    obtain ⟨-, -, -, hcyc⟩ := Chip.beforeGo_idle (setBit v.toNat 31 true) hk hx
    have hlast : setBit v.toNat 31 true % 65536 = v.toNat % 65536 := setBit_mod v.toNat (n := 16) (by decide)
    have hat : bit (setBit v.toNat 31 true) 29 = v.toNat.testBit 29 := bit_setBit_ne _ (by decide)
    simp [Chip.leGo, hcyc, hlast, hat, Chip.who]
  · intro a v ha hw h31
    refine Runs.by rfl ha ?_
    rw [Chip.leXchgWrite_cancel hw (bit_setBit_same _ _) ((bit_setBit_ne _ (by decide)).trans h31)]
    exact ⟨Chip.armed_leCancel _ _, by simp,
      State.frame_chip (Chip.frame_trans (Chip.frame_set _ _ _ (among_of_mem (by simp [LE_XSTAT_ARMED])))
        (Chip.frame_updLe _ _ _ _ (by simp)))⟩
  · intro k hz hk hc
    refine Runs.onZone rfl hz ?_
    rw [Chip.leCheckDone_crc hk hc]
    refine ⟨Chip.get_status_leXrefuse _ e 0 0 (by decide), ?_, ?_,
      State.frame_chip (Chip.frame_trans (Chip.frame_updLe _ _ _ _ (by simp)) (Chip.frame_leXrefuse _ e _ _ _ (by simp)))⟩
    · rw [Chip.leg_leXrefuse, Chip.leg_endCheck]
    · rw [show 165 + 16 * e.val = 160 + 16 * e.val + 5 by omega]
      exact Chip.pends_leXrefuse _ e _ _ _
  · intro k hz hk hcrc hwords hrecords hfits hclaimed
    have hpass : s.chip.StagingPasses e k := ⟨hcrc, hwords, hrecords, hfits, hclaimed⟩
    refine Runs.onZone rfl hz ?_
    by_cases hm : s.chip.leMode e = 0
    · obtain ⟨hStatus, hCheck, hBanks⟩ := Chip.leCheckDone_stopped hk hpass hm
      exact ⟨hStatus, hCheck, fun h => absurd hm h, fun _ => hBanks⟩
    · obtain ⟨hStatus, hCheck, hArmed⟩ := Chip.leCheckDone_running hk hpass hm
      exact ⟨hStatus, hCheck, fun _ => hArmed, fun h => absurd h hm⟩

end Sys2Proof.Machine
end

section
/-! SUPPORT. The registers of time and position bases (R69): what events and the sequencer's bookkeeping leave of them, and how repeated
writes compose. -/

namespace Sys2Proof.Machine

/-! ### Choice and repetition -/

@[simp] theorem Chip.when_true (c : Chip) (f : Chip → Chip) : c.when true f = f c := rfl

@[simp] theorem Chip.when_false (c : Chip) (f : Chip → Chip) : c.when false f = c := rfl

theorem forAll_succ {σ : Type} (n : Nat) (f : Nat → σ → σ) (s : σ) : forAll (n + 1) f s = f n (forAll n f s) := by
  simp [forAll, List.range_succ]

theorem Chip.frame_forAll {ps : List Part} {p : Nat → Prop} {f : Nat → Chip → Chip} (n : Nat) (c : Chip)
    (h : ∀ i < n, ∀ d : Chip, Chip.frame ps p d (f i d)) : Chip.frame ps p c (forAll n f c) := by
  induction n with
  | zero => exact Chip.frame_refl ps p c
  | succ n ih =>
    rw [forAll_succ]
    exact Chip.frame_trans (ih fun i hi => h i (by omega)) (h n (by omega) _)

/-- Of registers written in turn each holds what was written to it. -/
theorem Chip.rd_forAll_wrN {r : Nat → Reg} (x : Nat → Nat) (hr : ∀ i j, i ≠ j → (r i).addr ≠ (r j).addr) (n : Nat) (c : Chip)
    {i : Nat} (hi : i < n) : (forAll n (fun k d => d.wrN (r k) (x k)) c).rd (r i) = BitVec.ofNat 128 (x i) := by
  induction n with
  | zero => omega
  | succ n ih =>
    rw [forAll_succ, Chip.wrN]
    by_cases h : i = n
    · rw [h, Chip.rd_wr_same]
    · rw [Chip.rd_wr_ne _ _ (hr i n h), ih (by omega)]

theorem Chip.rd_forAll_wrN_ne {r : Nat → Reg} (x : Nat → Nat) (n : Nat) (c : Chip) {q : Reg} (hq : ∀ i < n, q.addr ≠ (r i).addr) :
    (forAll n (fun k d => d.wrN (r k) (x k)) c).rd q = c.rd q := by
  induction n with
  | zero => rfl
  | succ n ih => rw [forAll_succ, Chip.wrN, Chip.rd_wr_ne _ _ (hq n (by omega)), ih fun i hi => hq i (by omega)]

/-! ### Registers left alone -/

section
variable {p q : Nat → Prop} {c d : Chip}

theorem Chip.sameRegs_mono (h : Chip.sameRegs q c d) (hpq : ∀ a, p a → q a) : Chip.sameRegs p c d := fun r hr => h r (hpq _ hr)

theorem Chip.sameRegs_when {f : Chip → Chip} (b : Bool) (h : Chip.sameRegs p c (f c)) : Chip.sameRegs p c (c.when b f) := by
  cases b
  · exact Chip.sameRegs_refl p c
  · exact h

theorem Chip.sameRegs_forEach {α : Type} {f : α → Chip → Chip} (h : ∀ a c, Chip.sameRegs p c (f a c)) (l : List α) (c : Chip) :
    Chip.sameRegs p c (forEach l f c) := by
  induction l generalizing c with
  | nil => exact Chip.sameRegs_refl p c
  | cons a l ih => exact Chip.sameRegs_trans (h a c) (ih (f a c))

/-- A register whose bits 127 to 0 read as before. -/
theorem Chip.rd_eq_of_get {r : Reg} (h : d.get ⟨r, 127, 0⟩ = c.get ⟨r, 127, 0⟩) : d.rd r = c.rd r := by
  have hx (v : W128) : v.toNat % 2 ^ (127 - 0 + 1) = v.toNat := Nat.mod_eq_of_lt v.isLt
  simp only [Chip.get, bits, Nat.shiftRight_zero, hx] at h
  exact BitVec.eq_of_toNat_eq h

theorem Chip.flag_eq_of_get {f : RFld} (h : d.get f = c.get f) : d.flag f = c.flag f := by rw [Chip.flag, h, Chip.flag]

end

/-! ### The block of time and bases (R7) -/

def timeAddr (a : Nat) : Prop := 0x30020000 ≤ a ∧ a < 0x30030000

theorem quiet_of_timeAddr {a : Nat} (h : timeAddr a) : quiet a := by
  unfold quiet eventAddr
  unfold timeAddr at h
  omega

section
variable (c : Chip)

theorem Chip.timeRegs_raise {n : Nat} (hn : n < 1024) : Chip.sameRegs timeAddr c (c.raise n) :=
  Chip.sameRegs_mono (Chip.evOnly_raise c n hn).regs fun _ => quiet_of_timeAddr

/-- A write above the block after what left it alone. -/
theorem Chip.timeRegs_set_above {c d : Chip} (h : Chip.sameRegs timeAddr c d) {f : RFld} (x : Nat) (hf : 0x30030000 ≤ f.reg.addr) :
    Chip.sameRegs timeAddr c (d.set f x) :=
  Chip.sameRegs_trans h (Chip.sameRegs_set _ d f x fun ht => by unfold timeAddr at ht; omega)

/-- A lead-error record is written in the sequencer's block (R99). -/
theorem Chip.timeRegs_leadRecord (kind base cls entry : Nat) (err : Int) (fire : Nat) :
    Chip.sameRegs timeAddr c (c.leadRecord kind base cls entry err fire) := by
  have hLead : 0x30030000 ≤ (SEQ_B_LEADN_N base).reg.addr := by simp [SEQ_B_LEADN_N, SEQ_B_LEADN]; omega
  have hMax : 0x30030000 ≤ (SEQ_B_MAXLEAD_N base).reg.addr := by simp [SEQ_B_MAXLEAD_N, SEQ_B_MAXLEAD]; omega
  refine Chip.sameRegs_trans ?_ (Chip.sameRegs_when _ ?_)
  · refine Chip.sameRegs_trans ?_ (Chip.timeRegs_raise _ (by decide))
    refine Chip.timeRegs_set_above (Chip.timeRegs_set_above ?_ _ hLead) _ hMax
    exact Chip.timeRegs_set_above (Chip.sameRegs_of_regs _ rfl) _ (by decide)
  · refine Chip.sameRegs_trans ?_ (Chip.timeRegs_raise _ (by decide))
    exact Chip.timeRegs_set_above (Chip.timeRegs_set_above (Chip.sameRegs_refl _ _) _ (by decide)) _ (by decide)

/-- The check of a base's fired occurrences leaves the block alone (R98). -/
theorem Chip.timeRegs_verifyBase (base : Nat) (adv : Bool) : Chip.sameRegs timeAddr c (c.verifyBase base adv) := by
  unfold Chip.verifyBase
  cases adv with
  | false => exact Chip.sameRegs_of_regs _ rfl
  | true =>
    exact Chip.sameRegs_trans (Chip.sameRegs_of_regs _ rfl)
      (Chip.sameRegs_forEach (fun v d => Chip.timeRegs_leadRecord d _ _ _ _ _ _) _ _)

/-- So does the return of armed occurrences to WAITING (R96). -/
theorem Chip.timeRegs_returnToWaiting (n : Nat) : Chip.sameRegs timeAddr c (c.returnToWaiting n) :=
  Chip.timeRegs_set_above (Chip.timeRegs_set_above (Chip.sameRegs_of_regs _ rfl) _ (by decide)) _ (by decide)

/-- A generation that advances changes GEN and nothing else of the registers (R66, R67). -/
theorem Chip.get_genAdvance (n : Nat) {f : RFld} (hf : f.ok) (h : (PB_STAT_GEN n).apart f) : (c.genAdvance n).get f = c.get f := by
  unfold Chip.genAdvance
  split
  · rfl
  · exact Chip.get_set_ne c _ (RFld.ok_of rfl) hf h

end

end Sys2Proof.Machine
end

section
/-! The snapshot of the FRC and the domains (R50). -/

namespace Sys2Proof.Machine

/-- Settles O6: the nine registers are written in turn, each with its value at the one tick. -/
theorem snapshotLatchesFrcAndDomains : Obligations.SnapshotLatchesFrcAndDomains := by
  unfold Obligations.SnapshotLatchesFrcAndDomains
  intro s a v ha
  constructor
  · intro hv
    refine Runs.by rfl ha ?_
    have ht : TIME_SNAP_TAKE.of v.toNat = 1 := hv
    simp only [Chip.timeSnapTake, ht, beq_self_eq_true, Chip.when_true]
    refine ⟨?_, fun n => Chip.rd_forAll_wrN _ (fun i j h => by simp [TIME_SNAP_TD]; omega) 8 _ n.isLt, State.frame_chip ?_⟩
    · rw [Chip.get, Chip.rd_forAll_wrN_ne _ 8 _ (by simp [TIME_SNAP_FRC_FRC, TIME_SNAP_FRC, TIME_SNAP_TD]; omega)]
      exact Chip.get_set_same _ _ _ (RFld.ok_of rfl)
    · refine Chip.frame_trans (Chip.frame_set _ _ _ (among_of_mem (by simp [TIME_SNAP_FRC_FRC]))) (Chip.frame_forAll 8 _ ?_)
      intro i hi d
      exact Chip.frame_wr _ _ _ (among_of_mem (List.mem_cons_of_mem _ (List.mem_map.mpr ⟨i, List.mem_range.mpr hi, rfl⟩)))
  · intro hv
    refine Runs.by rfl ha ?_
    have ht : TIME_SNAP_TAKE.of v.toNat = 0 := hv
    simp [Chip.timeSnapTake, ht]

end Sys2Proof.Machine
end

section
/-! The writes of a time domain (R43 to R48). -/

namespace Sys2Proof.Machine

/-! ### Refused (R45) -/

section
variable (c : Chip) (n : Fin 8)

theorem quiet_tdStat : quiet (TD_STAT n).addr := quiet_of_timeAddr (by simp [timeAddr, TD_STAT]; omega)

theorem Chip.get_lasterr_tdRefuse {st : Nat} (h : st < 256) : (c.tdRefuse n st).get (TD_STAT_LASTERR n) = st := by
  unfold Chip.tdRefuse Chip.refuse
  rw [Chip.get_raise _ _ (by decide) _ (quiet_tdStat n), Chip.get_set_same _ _ _ (RFld.ok_of rfl)]
  exact Nat.mod_eq_of_lt h

theorem Chip.refused_tdRefuse (st : Nat) : (c.tdRefuse n st).flag (TD_STAT_REFUSED n) = true := by
  unfold Chip.tdRefuse Chip.refuse
  rw [Chip.flag_raise _ _ (by decide) _ (quiet_tdStat n)]
  refine (Chip.flag_eq_of_get ?_).trans (Chip.flag_setB_same c _ true (RFld.ok_of rfl))
  exact Chip.get_set_bits_ne _ _ rfl rfl rfl (Or.inl (by simp [TD_STAT_REFUSED, TD_STAT_LASTERR]))

theorem Chip.pends_tdRefuse (st : Nat) : (c.tdRefuse n st).pends 129 = true := Chip.pends_raise _ _ (by decide)

theorem Chip.frame_tdRefuse {ps : List Part} (st : Nat) (hp : Part.core ∈ ps) :
    Chip.frame ps (amongEv [(TD_STAT n).addr]) c (c.tdRefuse n st) :=
  have hx (c : Chip) (f : RFld) (x : Nat) (hf : f.reg = TD_STAT n) : Chip.frame ps (amongEv [(TD_STAT n).addr]) c (c.set f x) :=
    Chip.frame_set ps c x (amongEv_of_mem (by simp [hf]))
  Chip.frame_trans (Chip.frame_trans (hx _ _ _ rfl) (hx _ _ _ rfl)) (Chip.frame_raise _ (by decide) hp (amongEv_of_eventAddr _))

end

section
variable {c : Chip} {w : Who} {n : Nat}

theorem Chip.tdIncWrite_denied (v : Nat) (h : c.claims w.world 5 n = false) : c.tdIncWrite w n v = c.tdRefuse n stDENIED_WORLD := by
  simp [Chip.tdIncWrite, h]

theorem Chip.tdOfsWrite_denied (v : Nat) (h : c.claims w.world 5 n = false) : c.tdOfsWrite w n v = c.tdRefuse n stDENIED_WORLD := by
  simp [Chip.tdOfsWrite, h]

theorem Chip.tdStepWrite_denied (v : Nat) (h : c.claims w.world 5 n = false) : c.tdStepWrite w n v = c.tdRefuse n stDENIED_WORLD := by
  simp [Chip.tdStepWrite, h]

theorem Chip.tdCtlWrite_denied (v : Nat) (h : c.claims w.world 5 n = false) : c.tdCtlWrite w n v = c.tdRefuse n stDENIED_WORLD := by
  simp [Chip.tdCtlWrite, h]

end

/-- What a command that is refused in a time domain shows and leaves. -/
theorem Runs.of_tdRefuse {i : Instr} {s : State} {a : Agent} {f : Who → Chip → Chip} (n : Fin 8) (he : exec i s = s.by a f)
    (ha : s.chip.admits a = true) (hf : f (s.chip.who a) s.chip = s.chip.tdRefuse n stDENIED_WORLD) :
    Runs i s fun t => t.chip.get (TD_STAT_LASTERR n.val) = stDENIED_WORLD ∧ t.chip.flag (TD_STAT_REFUSED n.val) = true ∧
      t.chip.pends 129 = true ∧ s.frame [.core] (amongEv [(TD_STAT n.val).addr]) t := by
  refine Runs.by he ha ?_
  rw [hf]
  exact ⟨Chip.get_lasterr_tdRefuse _ n (by decide), Chip.refused_tdRefuse _ n _, Chip.pends_tdRefuse _ n _,
    State.frame_chip (Chip.frame_tdRefuse _ n _ (by simp))⟩

/-- Settles O9: each of the four writes checks the claim first. -/
theorem timeDomainWritesRefused : Obligations.TimeDomainWritesRefused := by
  unfold Obligations.TimeDomainWritesRefused
  intro s a n v x ha hw
  exact ⟨Runs.of_tdRefuse n rfl ha (Chip.tdIncWrite_denied _ hw), Runs.of_tdRefuse n rfl ha (Chip.tdOfsWrite_denied _ hw),
    Runs.of_tdRefuse n rfl ha (Chip.tdStepWrite_denied _ hw), Runs.of_tdRefuse n rfl ha (Chip.tdCtlWrite_denied _ hw)⟩

/-! ### Accepted (R43, R46) -/

/-- The registers of the time domains. -/
def domainAddr (a : Nat) : Prop := 0x30021000 ≤ a ∧ a < 0x30022000

theorem timeAddr_of_domainAddr {a : Nat} (h : domainAddr a) : timeAddr a := by
  unfold domainAddr at h
  unfold timeAddr
  omega

section
variable (c : Chip) (n : Fin 8) (ofs inc : Nat)

/-- Domain `n` anchored at the present tick with an offset and an increment. -/
def Chip.tdAnchored (c : Chip) (n ofs inc : Nat) : Chip :=
  (((c.wrN (TD_OFS n) (tvWord ofs)).set (TD_ANCHOR_FRC n) c.time.frc).set (TD_INC_INC n) inc).stick (TD_STAT_APPLIED n)

theorem Chip.domainRegs_genAdvance (c : Chip) : Chip.sameRegs domainAddr c (c.genAdvance 0) := by
  intro r hr
  refine Chip.rd_eq_of_get (Chip.get_genAdvance c 0 (RFld.ok_of rfl) (Or.inl ?_))
  unfold domainAddr at hr
  simp [PB_STAT_GEN, PB_STAT]
  omega

/-- PB0's generation and its fired occurrences are no registers of a domain (R66, R98). -/
theorem Chip.domainRegs_tdApply : Chip.sameRegs domainAddr (c.tdAnchored n ofs inc) (c.tdApply n ofs inc) := by
  unfold Chip.tdApply
  refine Chip.sameRegs_when _ ?_
  extract_lets adv
  clear_value adv
  exact Chip.sameRegs_trans (Chip.sameRegs_when (f := fun c => c.genAdvance 0) adv (Chip.domainRegs_genAdvance _))
    (Chip.sameRegs_mono (Chip.timeRegs_verifyBase _ 0 adv) fun _ => timeAddr_of_domainAddr)

/-- What the domain's registers show after a re-anchoring (R43). -/
theorem Chip.regs_tdApply :
    (c.tdApply n ofs inc).rd (TD_OFS n) = BitVec.ofNat 128 (tvWord ofs) ∧
    (c.tdApply n ofs inc).get (TD_ANCHOR_FRC n) = c.time.frc % 2 ^ 64 ∧ (c.tdApply n ofs inc).get (TD_INC_INC n) = inc % 2 ^ 64 ∧
    (c.tdApply n ofs inc).flag (TD_STAT_APPLIED n) = true ∧
    (c.tdApply n ofs inc).get (TD_STAT_STEPS n) = c.get (TD_STAT_STEPS n) := by
  have hd := c.domainRegs_tdApply n ofs inc
  have hOfs : domainAddr (TD_OFS n).addr := by simp [domainAddr, TD_OFS]; omega
  have hAnchor : domainAddr (TD_ANCHOR_FRC n).reg.addr := by simp [domainAddr, TD_ANCHOR_FRC, TD_ANCHOR]; omega
  have hInc : domainAddr (TD_INC_INC n).reg.addr := by simp [domainAddr, TD_INC_INC, TD_INC]; omega
  have hStat : domainAddr (TD_STAT n).addr := by simp [domainAddr, TD_STAT]; omega
  rw [hd _ hOfs, Chip.sameRegs_get hd _ hAnchor, Chip.sameRegs_get hd _ hInc, Chip.sameRegs_flag hd (TD_STAT_APPLIED n) hStat,
    Chip.sameRegs_get hd (TD_STAT_STEPS n) hStat]
  unfold Chip.tdAnchored Chip.stick Chip.setB
  refine ⟨?_, ?_, ?_, Chip.flag_setB_same _ _ true (RFld.ok_of rfl), ?_⟩
  · rw [Chip.rd_set_ne _ _ (by simp [TD_OFS, TD_STAT_APPLIED, TD_STAT]), Chip.rd_set_ne _ _ (by simp [TD_OFS, TD_INC_INC, TD_INC]),
      Chip.rd_set_ne _ _ (by simp [TD_OFS, TD_ANCHOR_FRC, TD_ANCHOR])]
    exact Chip.rd_wr_same _ _ _
  · rw [Chip.get_set_reg_ne _ _ (by simp [TD_ANCHOR_FRC, TD_ANCHOR, TD_STAT_APPLIED, TD_STAT]),
      Chip.get_set_reg_ne _ _ (by simp [TD_ANCHOR_FRC, TD_ANCHOR, TD_INC_INC, TD_INC])]
    exact Chip.get_set_same _ _ _ (RFld.ok_of rfl)
  · rw [Chip.get_set_reg_ne _ _ (by simp [TD_INC_INC, TD_INC, TD_STAT_APPLIED, TD_STAT])]
    exact Chip.get_set_same _ _ _ (RFld.ok_of rfl)
  · rw [Chip.get_set_bits_ne (f := TD_STAT_APPLIED n) (g := TD_STAT_STEPS n) _ _ rfl rfl rfl
      (Or.inr (by simp [TD_STAT_STEPS, TD_STAT_APPLIED])),
      Chip.get_set_reg_ne _ _ (by simp [TD_STAT_STEPS, TD_STAT, TD_INC_INC, TD_INC]),
      Chip.get_set_reg_ne _ _ (by simp [TD_STAT_STEPS, TD_STAT, TD_ANCHOR_FRC, TD_ANCHOR])]
    exact Chip.get_wr_ne c _ (by simp [TD_STAT_STEPS, TD_STAT, TD_OFS])

/-- A step is counted beside the domain's other registers, and EV0128 raised for TD0 (R46). -/
theorem Chip.regs_tdStepped :
    (∀ r : Reg, domainAddr r.addr → r.addr ≠ (TD_STAT n).addr → (c.tdStepped n).rd r = c.rd r) ∧
    (c.tdStepped n).get (TD_STAT_STEPS n) = (c.get (TD_STAT_STEPS n) + 1) % 256 ∧ (n.val = 0 → (c.tdStepped n).pends 128 = true) := by
  have hr (d : Chip) : Chip.sameRegs domainAddr d (d.when (n.val == 0) fun c => c.raise 128) :=
    Chip.sameRegs_when _ (Chip.sameRegs_mono (Chip.timeRegs_raise d (by decide)) fun _ => timeAddr_of_domainAddr)
  refine ⟨fun r hd hs => (hr _ r hd).trans (Chip.rd_set_ne c _ hs), ?_, fun h0 => ?_⟩
  · exact (Chip.sameRegs_get (hr _) (TD_STAT_STEPS n) (by simp [domainAddr, TD_STAT_STEPS, TD_STAT]; omega)).trans
      (Chip.get_set_same _ _ _ (RFld.ok_of rfl))
  · simp [Chip.tdStepped, h0, Chip.pends_raise]

/-- An offset or step that is applied: the domain is anchored at the present tick, at the increment it has, and counts it. -/
theorem Chip.regs_tdApply_tdStepped :
    let d := (c.tdApply n ofs (c.get (TD_INC_INC n))).tdStepped n
    d.rd (TD_OFS n) = BitVec.ofNat 128 (tvWord ofs) ∧ d.get (TD_ANCHOR_FRC n) = c.time.frc % 2 ^ 64 ∧
      d.get (TD_INC_INC n) = c.get (TD_INC_INC n) ∧ d.get (TD_STAT_STEPS n) = (c.get (TD_STAT_STEPS n) + 1) % 256 ∧
      (n.val = 0 → d.pends 128 = true) := by
  obtain ⟨hOfs, hAnchor, hInc, -, hSteps⟩ := c.regs_tdApply n ofs (c.get (TD_INC_INC n))
  obtain ⟨hKeep, hCount, hEvent⟩ := (c.tdApply n ofs (c.get (TD_INC_INC n))).regs_tdStepped n
  have hk : ∀ f : RFld, domainAddr f.reg.addr → f.reg.addr ≠ (TD_STAT n).addr → _ := fun f hd hs =>
    congrArg (fun v : W128 => bits v.toNat f.hi f.lo) (hKeep f.reg hd hs)
  refine ⟨?_, ?_, ?_, ?_, hEvent⟩
  · rw [hKeep _ (by simp [domainAddr, TD_OFS]; omega) (by simp [TD_OFS, TD_STAT]), hOfs]
  · exact (hk (TD_ANCHOR_FRC n) (by simp [domainAddr, TD_ANCHOR_FRC, TD_ANCHOR]; omega)
      (by simp [TD_ANCHOR_FRC, TD_ANCHOR, TD_STAT])).trans hAnchor
  · exact (hk (TD_INC_INC n) (by simp [domainAddr, TD_INC_INC, TD_INC]; omega) (by simp [TD_INC_INC, TD_INC, TD_STAT])).trans
      (hInc.trans (Nat.mod_eq_of_lt (Chip.get_lt c _)))
  · rw [hCount, hSteps]

end

section
variable {c : Chip} {w : Who} {n : Fin 8} {v : Nat}

theorem Chip.tdIncWrite_applies (hw : c.claims w.world 5 n = true)
    (hv : n.val ≤ 1 → 0x0000FFDF3B645A1D ≤ v % 2 ^ 64 ∧ v % 2 ^ 64 ≤ 0x00010020C49BA5E3) :
    c.tdIncWrite w n v = (c.tdApply n (c.tdAt n c.time.frc) (v % 2 ^ 64)).setB (TD_STAT_QFORCED n) false := by
  have hr : ¬ (n.val ≤ 1 ∧ (v % 2 ^ 64 < 0x0000FFDF3B645A1D ∨ 0x00010020C49BA5E3 < v % 2 ^ 64)) := by
    intro ⟨hn, ho⟩
    have := hv hn
    omega
  unfold Chip.tdIncWrite
  simp only [hw, ← Bool.decide_or, ← Bool.decide_and, decide_eq_true_eq, if_neg hr]
  rfl

theorem Chip.tdOfsWrite_applies (hw : c.claims w.world 5 n = true) (hv : bits v 79 48 ≤ 999999999) :
    c.tdOfsWrite w n v = (c.tdApply n (tvUnits v) (c.get (TD_INC_INC n))).tdStepped n := by
  simp [Chip.tdOfsWrite, hw, Nat.not_lt.mpr hv]

theorem Chip.tdStepWrite_applies (hw : c.claims w.world 5 n = true) :
    c.tdStepWrite w n v = (c.tdApply n (((c.tdAt n c.time.frc : Int) + signed 80 v) % ((2 ^ 48 * secUnits : Nat) : Int)).toNat
      (c.get (TD_INC_INC n))).tdStepped n := by
  simp [Chip.tdStepWrite, hw]

end

/-! ### The control register (R47, R48) -/

section
variable (c : Chip) (n : Fin 8) (v : Nat)

/-- QUAL as written, and APPLIED. -/
def Chip.tdQual (c : Chip) (n v : Nat) : Chip := (c.set (TD_CTL_QUAL n) ((TD_CTL_QUAL n).of v)).stick (TD_STAT_APPLIED n)

theorem Chip.regs_tdQual :
    (c.tdQual n v).get (TD_CTL_QUAL n) = v % 4 ∧ (c.tdQual n v).get (TD_CTL_SRC n) = c.get (TD_CTL_SRC n) ∧
      (c.tdQual n v).flag (TD_STAT_APPLIED n) = true := by
  have hs (d : Chip) (f : RFld) (hf : f.reg = TD_CTL n) : (d.stick (TD_STAT_APPLIED n)).get f = d.get f :=
    Chip.get_set_reg_ne d _ (by simp [hf, TD_CTL, TD_STAT_APPLIED, TD_STAT])
  refine ⟨?_, ?_, Chip.flag_setB_same _ _ true (RFld.ok_of rfl)⟩
  · rw [Chip.tdQual, hs _ _ rfl, Chip.get_set_same _ _ _ (RFld.ok_of rfl)]
    simp [TD_CTL_QUAL, RFld.of, bits]
  · rw [Chip.tdQual, hs _ _ rfl]
    exact Chip.get_set_bits_ne c _ rfl rfl rfl (Or.inr (by simp [TD_CTL_SRC, TD_CTL_QUAL]))

end

section
variable {c : Chip} {w : Who} {n : Fin 8} {v : Nat}

theorem Chip.tdCtlWrite_qual (hw : c.claims w.world 5 n = true) (hn : n.val ≠ 1) (hq : c.flag (TD_STAT_QFORCED n) = false) :
    c.tdCtlWrite w n v = c.tdQual n v := by
  simp [Chip.tdCtlWrite, hw, hn, hq, Chip.when, Chip.tdQual]

/-- The wait for a mark starts where the source becomes the Hatbox (R49). -/
def Chip.tdFed (c : Chip) (n src : Nat) : Chip :=
  c.when (src == 1 && c.get (TD_CTL_SRC n) != 1) fun c => { c with time := { c.time with lastMark := some c.time.frc } }

theorem Chip.flag_tdFed (c : Chip) (n src : Nat) (f : RFld) : (c.tdFed n src).flag f = c.flag f := by
  unfold Chip.tdFed Chip.when
  split <;> rfl

/-- TD1 takes SRC first (R48). -/
theorem Chip.tdCtlWrite_src (hw : c.claims w.world 5 1 = true) (hs : bits v 5 4 ≤ 1) (hh : bits v 5 4 = 1 → c.variantH = true)
    (hq : c.flag (TD_STAT_QFORCED 1) = false) :
    c.tdCtlWrite w 1 v = ((c.tdFed 1 (bits v 5 4)).set (TD_CTL_SRC 1) (bits v 5 4)).tdQual 1 v := by
  have hv : (TD_CTL_SRC 1).of v = bits v 5 4 := rfl
  have hn : ¬ (bits v 5 4 = 1 ∧ c.variantH = false) := fun ⟨h1, h2⟩ => by simp [hh h1] at h2
  have hf : ((c.tdFed 1 (bits v 5 4)).set (TD_CTL_SRC 1) (bits v 5 4)).flag (TD_STAT_QFORCED 1) = false := by
    rw [Chip.flag_eq_of_get (Chip.get_set_reg_ne _ _ (by decide)), Chip.flag_tdFed, hq]
  unfold Chip.tdFed at hf ⊢
  simp [Chip.tdCtlWrite, hw, hv, hn, Nat.not_lt.mpr hs, hf, Chip.tdQual]

end

/-- Settles O8: the writes of INC, OFS and STEP re-anchor the domain, each with its own offset and increment; one of CTL sets QUAL. -/
theorem timeDomainWritesTakeEffect : Obligations.TimeDomainWritesTakeEffect := by
  unfold Obligations.TimeDomainWritesTakeEffect
  intro s a n ha hw
  refine ⟨?_, ?_, ?_, ?_, ?_⟩
  · intro v hv
    refine Runs.by rfl ha ?_
    rw [Chip.tdIncWrite_applies hw hv]
    obtain ⟨hOfs, hAnchor, hInc, hApplied, -⟩ := s.chip.regs_tdApply n (s.chip.tdAt n s.chip.time.frc) (v.toNat % 2 ^ 64)
    generalize s.chip.tdApply n _ _ = d at *
    have hk (f : RFld) (hf : f.reg.addr ≠ (TD_STAT n).addr) : (d.setB (TD_STAT_QFORCED n) false).get f = d.get f :=
      Chip.get_set_reg_ne d _ hf
    refine ⟨?_, ?_, ?_, ?_, Chip.flag_setB_same _ _ _ (RFld.ok_of rfl)⟩
    · rw [hk _ (by simp [TD_INC_INC, TD_INC, TD_STAT]), hInc, Nat.mod_mod]
    · rw [hk _ (by simp [TD_ANCHOR_FRC, TD_ANCHOR, TD_STAT]), hAnchor]
    · exact (Chip.rd_set_ne d _ (by simp [TD_OFS, TD_STAT_QFORCED, TD_STAT])).trans hOfs
    · refine (Chip.flag_eq_of_get ?_).trans hApplied
      exact Chip.get_set_bits_ne d _ rfl rfl rfl (Or.inl (by simp [TD_STAT_QFORCED, TD_STAT_APPLIED]))
  · intro v hv
    refine Runs.by rfl ha ?_
    rw [Chip.tdOfsWrite_applies hw hv]
    exact s.chip.regs_tdApply_tdStepped n _
  · intro v
    refine Runs.by rfl ha ?_
    rw [Chip.tdStepWrite_applies hw]
    exact s.chip.regs_tdApply_tdStepped n _
  · intro v hn hq
    refine Runs.by rfl ha ?_
    rw [Chip.tdCtlWrite_qual hw hn hq]
    exact s.chip.regs_tdQual n _
  · intro v hn hs hh hq
    refine Runs.by rfl ha ?_
    rw [hn] at hw ⊢
    rw [Chip.tdCtlWrite_src hw hs hh hq]
    generalize s.chip.tdFed 1 (bits v.toNat 5 4) = d
    obtain ⟨hQual, hSrc, hApplied⟩ := (d.set (TD_CTL_SRC 1) (bits v.toNat 5 4)).regs_tdQual 1 v.toNat
    have hSet : (d.set (TD_CTL_SRC 1) (bits v.toNat 5 4)).get (TD_CTL_SRC 1) = bits v.toNat 5 4 :=
      (Chip.get_set_same d _ _ (RFld.ok_of rfl)).trans (Nat.mod_eq_of_lt (by simp [TD_CTL_SRC]; omega))
    exact ⟨hQual, hSrc.trans hSet, hApplied⟩

end Sys2Proof.Machine
end

section
/-! The commands of a position base (R55 to R65). -/

namespace Sys2Proof.Machine

/-! ### Trackers -/

section
variable (c : Chip)

@[simp] theorem Chip.tracker_updTracker_same (n : Nat) (g : Tracker → Tracker) : (c.updTracker n g).tracker n = g (c.tracker n) := by
  simp only [Chip.tracker, Chip.updTracker, look_upd_same]

/-- A generation that advances leaves the position at the last edge. -/
theorem Chip.pe_genAdvance (n : Nat) : ((c.genAdvance n).tracker n).pe = (c.tracker n).pe := by
  unfold Chip.genAdvance
  split
  · rfl
  · have h := Chip.tracker_updTracker_same (c.wrapInc (PB_STAT_GEN n)) n fun t => { t with genAt := some c.time.frc }
    have hPe := congrArg Tracker.pe h
    exact hPe

/-! ### States (R57) -/

/-- A base that changes its state: its events, its generation and its occurrences change neither STATE nor another field of the block,
GEN apart. -/
theorem Chip.get_pbState_changed {n st : Nat} (hn : n < 16) {f : RFld} (hf : f.ok) (ht : timeAddr f.reg.addr)
    (hg : (PB_STAT_GEN n).apart f) (h : st ≠ c.get (PB_STAT_STATE n)) :
    (c.pbState n st).get f = (c.set (PB_STAT_STATE n) st).get f := by
  have hAdvance (d : Chip) (b : Bool) : (d.when b fun c => c.genAdvance n).get f = d.get f := by
    cases b
    · rfl
    · exact Chip.get_genAdvance d n hf hg
  have hReturn (d : Chip) (b : Bool) : (d.when b fun c => c.returnToWaiting n).get f = d.get f :=
    Chip.sameRegs_get (Chip.sameRegs_when (f := fun c => c.returnToWaiting n) b (Chip.timeRegs_returnToWaiting d n)) f ht
  unfold Chip.pbState
  simp only [if_neg h]
  rw [hReturn, hAdvance, Chip.get_raise _ _ (by omega) _ (quiet_of_timeAddr ht)]

section
variable (n : Fin 16)

theorem timeAddr_pb {r : Reg} (h : 0x30022000 ≤ r.addr ∧ r.addr < 0x30023000) : timeAddr r.addr := by
  unfold timeAddr
  omega

theorem Chip.get_pbState_state {st : Nat} (h : st < 16) : (c.pbState n st).get (PB_STAT_STATE n) = st := by
  by_cases hs : st = c.get (PB_STAT_STATE n)
  · simp [Chip.pbState, ← hs]
  · have hg : (PB_STAT_GEN n).apart (PB_STAT_STATE n) := Or.inr ⟨rfl, by simp [PB_STAT_STATE, PB_STAT_GEN]⟩
    rw [c.get_pbState_changed n.isLt (RFld.ok_of rfl) (timeAddr_pb (by simp [PB_STAT_STATE, PB_STAT]; omega)) hg hs,
      Chip.get_set_same _ _ _ (RFld.ok_of rfl)]
    exact Nat.mod_eq_of_lt h

theorem Chip.get_pbState_ne (st : Nat) {f : RFld} (hf : f.ok) (ht : 0x30022000 ≤ f.reg.addr ∧ f.reg.addr < 0x30023000)
    (hg : (PB_STAT_GEN n).apart f) (hs : (PB_STAT_STATE n).apart f) : (c.pbState n st).get f = c.get f := by
  by_cases h : st = c.get (PB_STAT_STATE n)
  · simp [Chip.pbState, ← h]
  · rw [c.get_pbState_changed n.isLt hf (timeAddr_pb ht) hg h, Chip.get_set_ne _ _ (RFld.ok_of rfl) hf hs]

end
end

/-! ### Enable and disable (R55, R57) -/

section
variable (c : Chip) (n : Fin 16)

/-- A cleared estimate reads all ones (R58). -/
theorem Chip.get_per_pbClearEstimate (n : Nat) : (c.pbClearEstimate n).get (PB_PER_P n) = 0xFFFFFFFFFFFF := by
  rw [Chip.pbClearEstimate, Chip.updTracker_get, Chip.get_set_same _ _ _ (RFld.ok_of rfl)]
  simp [PB_PER_P]

/-- Base `n` as an enable leaves it before its state changes: EN set, its counters and its estimate cleared, nothing held. -/
def Chip.pbStarted (c : Chip) (n : Nat) : Chip :=
  ((((c.setB (PB_CTL_EN n) true).wrN (PB_CNT n) 0).pbClearEstimate n).updTracker n fun t =>
    { t with heldPos := none, missedSinceRef := 0, edges := [] }).setB (PB_STAT_HELD n) false

/-- An enable whose checks pass and whose inputs are free. -/
theorem Chip.pbEnableOp_starts {c : Chip} {w : Who} {n : Nat} (hc : c.pbCfgCheck n = stOK)
    (hp : ∀ p ∈ c.pbNeeds n, c.pxConflict w.world n p = none) : c.pbEnableOp w n = (c.pbStarted n).pbState n 1 := by
  have hf : (c.pbNeeds n).findSome? (fun p => (c.pxConflict w.world n p).map fun h => (p, h)) = none := by
    simpa [List.findSome?_eq_none_iff] using hp
  unfold Chip.pbEnableOp
  rw [if_neg (not_not_intro hc), hf]
  rfl

theorem Chip.regs_pbStarted :
    (c.pbStarted n).flag (PB_CTL_EN n) = true ∧ (c.pbStarted n).rd (PB_CNT n) = 0 ∧
      (c.pbStarted n).get (PB_PER_P n) = 0xFFFFFFFFFFFF ∧ (c.pbStarted n).flag (PB_STAT_HELD n) = false := by
  have hStat (d : Chip) (f : RFld) (h : f.reg.addr ≠ (PB_STAT n).addr) : (d.setB (PB_STAT_HELD n) false).get f = d.get f :=
    Chip.get_set_reg_ne d _ h
  have hPer (d : Chip) (f : RFld) (h : f.reg.addr ≠ (PB_PER n).addr) : (d.pbClearEstimate n).get f = d.get f :=
    Chip.get_set_reg_ne d _ h
  refine ⟨?_, Chip.rd_eq_of_get (c := c.wrN (PB_CNT n) 0) ?_ |>.trans (Chip.rd_wr_same _ _ _), ?_,
    Chip.flag_setB_same _ _ _ (RFld.ok_of rfl)⟩
  · refine (Chip.flag_eq_of_get ?_).trans (Chip.flag_setB_same c _ true (RFld.ok_of rfl))
    rw [Chip.pbStarted, hStat _ _ (by simp [PB_CTL_EN, PB_CTL, PB_STAT]), Chip.updTracker_get,
      hPer _ _ (by simp [PB_CTL_EN, PB_CTL, PB_PER])]
    exact Chip.get_wr_ne _ _ (by simp [PB_CTL_EN, PB_CTL, PB_CNT])
  · rw [Chip.pbStarted, hStat _ _ (by simp [PB_CNT, PB_STAT]), Chip.updTracker_get, hPer _ _ (by simp [PB_CNT, PB_PER])]
    simp only [Chip.get, Chip.wrN, Chip.rd_wr_same]
  · rw [Chip.pbStarted, hStat _ _ (by simp [PB_PER_P, PB_PER, PB_STAT]), Chip.updTracker_get]
    exact Chip.get_per_pbClearEstimate _ _

/-- Base `n` as a disable leaves it before its state changes: EN clear, the position at its last value, no estimate. -/
def Chip.pbStopped (c : Chip) (n : Nat) : Chip :=
  (((c.setB (PB_CTL_EN n) false).updTracker n fun t => { t with pe := c.reportedAt n c.time.frc, heldPos := none, edges := [] }).setB
    (PB_STAT_HELD n) false).pbClearEstimate n

theorem Chip.pbDisableOp_stops (n : Nat) : c.pbDisableOp n = (c.pbStopped n).pbState n 0 := rfl

theorem Chip.regs_pbStopped :
    (c.pbStopped n).flag (PB_CTL_EN n) = false ∧ (c.pbStopped n).get (PB_PER_P n) = 0xFFFFFFFFFFFF := by
  constructor
  · refine (Chip.flag_eq_of_get ?_).trans (Chip.flag_setB_same c _ false (RFld.ok_of rfl))
    rw [Chip.pbStopped, Chip.pbClearEstimate, Chip.updTracker_get,
      Chip.get_set_reg_ne _ _ (by simp [PB_CTL_EN, PB_CTL, PB_PER_P, PB_PER])]
    exact Chip.get_set_reg_ne _ _ (by simp [PB_CTL_EN, PB_CTL, PB_STAT_HELD, PB_STAT])
  · exact Chip.get_per_pbClearEstimate _ _

/-- A change of state keeps every register of the base but PBn_STAT. -/
theorem Chip.get_pbState_reg_ne (st : Nat) {f : RFld} (hf : f.ok) (ht : 0x30022000 ≤ f.reg.addr ∧ f.reg.addr < 0x30023000)
    (h : f.reg.addr ≠ (PB_STAT n).addr) : (c.pbState n st).get f = c.get f :=
  c.get_pbState_ne n st hf ht (Or.inl h) (Or.inl h)

theorem Chip.flag_en_pbState (st : Nat) : (c.pbState n st).flag (PB_CTL_EN n) = c.flag (PB_CTL_EN n) :=
  Chip.flag_eq_of_get (c.get_pbState_reg_ne n st (RFld.ok_of rfl) (by simp [PB_CTL_EN, PB_CTL]; omega)
    (by simp [PB_CTL_EN, PB_CTL, PB_STAT]))

theorem Chip.get_per_pbState (st : Nat) : (c.pbState n st).get (PB_PER_P n) = c.get (PB_PER_P n) :=
  c.get_pbState_reg_ne n st (RFld.ok_of rfl) (by simp [PB_PER_P, PB_PER]; omega) (by simp [PB_PER_P, PB_PER, PB_STAT])

theorem Chip.rd_cnt_pbState (st : Nat) : (c.pbState n st).rd (PB_CNT n) = c.rd (PB_CNT n) :=
  Chip.rd_eq_of_get (c.get_pbState_reg_ne n st (RFld.ok_of rfl) (by simp [PB_CNT]; omega) (by simp [PB_CNT, PB_STAT]))

theorem Chip.flag_held_pbState (st : Nat) : (c.pbState n st).flag (PB_STAT_HELD n) = c.flag (PB_STAT_HELD n) :=
  Chip.flag_eq_of_get (c.get_pbState_ne n st (RFld.ok_of rfl) (by simp [PB_STAT_HELD, PB_STAT]; omega)
    (Or.inr ⟨rfl, by simp [PB_STAT_HELD, PB_STAT_GEN]⟩) (Or.inr ⟨rfl, by simp [PB_STAT_HELD, PB_STAT_STATE]⟩))

end

/-! ### Writes of PBn_CTL -/

theorem bit_setBit_false (v : Nat) : bit (setBit v 0 false) 0 = false := by
  by_cases h : v % 2 = 1
  · simp [bit, setBit, h]
    omega
  · simp [bit, setBit, h]

/-- Base `n` with REV as written. -/
def Chip.withRev (c : Chip) (n v : Nat) : Chip := c.set (PB_CTL_REV n) ((PB_CTL_REV n).of v)

section
variable (c : Chip) (n v : Nat)

theorem Chip.get_withRev (f : RFld) (hf : f.ok) (h : (PB_CTL_REV n).apart f) : (c.withRev n v).get f = c.get f :=
  Chip.get_set_ne c _ (RFld.ok_of rfl) hf h

/-- REV is no part of what an enable checks (R55, R56). -/
theorem Chip.flag_en_withRev (m : Nat) : (c.withRev n v).flag (PB_CTL_EN m) = c.flag (PB_CTL_EN m) := by
  refine Chip.flag_eq_of_get (c.get_withRev n v _ (RFld.ok_of rfl) ?_)
  by_cases h : m = n
  · exact Or.inr ⟨by rw [h]; rfl, by simp [PB_CTL_EN, PB_CTL_REV]⟩
  · exact Or.inl (by simp [PB_CTL_EN, PB_CTL_REV, PB_CTL]; omega)

theorem Chip.get_cfg_withRev (m : Nat) {f : RFld} (hf : f.ok) (hr : f.reg = PB_CFG m) : (c.withRev n v).get f = c.get f :=
  c.get_withRev n v f hf (Or.inl (by simp [hr, PB_CFG, PB_CTL_REV, PB_CTL]; omega))

theorem Chip.pbCfgCheck_withRev : (c.withRev n v).pbCfgCheck n = c.pbCfgCheck n := by
  have h (f : RFld) (hf : f.ok) (hr : f.reg = PB_CFG n) := c.get_cfg_withRev n v n hf hr
  unfold Chip.pbCfgCheck Chip.pbGap Chip.pbN
  rw [h (PB_CFG_SRC n) (RFld.ok_of rfl) rfl, h (PB_CFG_EDGE n) (RFld.ok_of rfl) rfl,
    h (PB_CFG_GAP n) (RFld.ok_of rfl) rfl, h (PB_CFG_TEETH n) (RFld.ok_of rfl) rfl]

theorem Chip.pbNeeds_withRev : (c.withRev n v).pbNeeds n = c.pbNeeds n := by
  have h (f : RFld) (hf : f.ok) (hr : f.reg = PB_CFG n) := c.get_cfg_withRev n v n hf hr
  simp only [Chip.pbNeeds, h (PB_CFG_SRC n) (RFld.ok_of rfl) rfl, h (PB_CFG_PXSEL n) (RFld.ok_of rfl) rfl,
    h (PB_CFG_DIRSRC n) (RFld.ok_of rfl) rfl, h (PB_CFG_DIRPX n) (RFld.ok_of rfl) rfl]

theorem Chip.pbHoldsPx_withRev (m p : Nat) : (c.withRev n v).pbHoldsPx m p = c.pbHoldsPx m p := by
  have h (f : RFld) (hf : f.ok) (hr : f.reg = PB_CFG m) := c.get_cfg_withRev n v m hf hr
  simp only [Chip.pbHoldsPx, c.flag_en_withRev n v m, h (PB_CFG_SRC m) (RFld.ok_of rfl) rfl, h (PB_CFG_PXSEL m) (RFld.ok_of rfl) rfl,
    h (PB_CFG_DIRSRC m) (RFld.ok_of rfl) rfl, h (PB_CFG_DIRPX m) (RFld.ok_of rfl) rfl]

theorem Chip.claims_withRev (hn : n < 16) (w k e : Nat) : (c.withRev n v).claims w k e = c.claims w k e := by
  have h : (c.withRev n v).rd (CLM_CLAIM k (e / 8)) = c.rd (CLM_CLAIM k (e / 8)) :=
    Chip.rd_set_ne c _ (by simp [CLM_CLAIM, PB_CTL_REV, PB_CTL]; omega)
  unfold Chip.claims Chip.claimant Chip.claimNibble
  rw [h]

theorem Chip.pxConflict_withRev (hn : n < 16) (w p : Nat) : (c.withRev n v).pxConflict w n p = c.pxConflict w n p := by
  simp only [Chip.pxConflict, c.claims_withRev n v hn, c.pbHoldsPx_withRev n v]

end

section
variable {c : Chip} {w : Who} {n v : Nat}

/-- RESYNC does nothing in a base that does not track. -/
theorem Chip.pbResyncOp_idle (h : c.get (PB_STAT_STATE n) ≤ 1) : c.pbResyncOp n = c := by
  have h3 : c.get (PB_STAT_STATE n) ≠ 3 := by omega
  have h4 : c.get (PB_STAT_STATE n) ≠ 4 := by omega
  simp [Chip.pbResyncOp, h3, h4, Chip.when]

theorem Chip.pbResyncOp_tracking (h : c.get (PB_STAT_STATE n) = 3 ∨ c.get (PB_STAT_STATE n) = 4) : c.pbResyncOp n = c.pbState n 2 := by
  rcases h with h | h <;> simp [Chip.pbResyncOp, h]

theorem Chip.when_pbResyncOp_idle (b : Bool) (h : c.get (PB_STAT_STATE n) ≤ 1) : (c.when b fun c => c.pbResyncOp n) = c := by
  cases b
  · rfl
  · exact Chip.pbResyncOp_idle h

theorem Chip.pbCtlWrite_enables (hn : n ≠ 0) (hw : c.claims w.world 6 n = true) (hv : bit v 0 = true)
    (he : c.flag (PB_CTL_EN n) = false) :
    c.pbCtlWrite w n v = ((c.withRev n v).pbEnableOp w n).when (bit v 2) fun c => c.pbResyncOp n := by
  have he' := (c.flag_en_withRev n v n).trans he
  unfold Chip.withRev at he' ⊢
  simp [Chip.pbCtlWrite, hn, hw, hv, he']

theorem Chip.pbCtlWrite_disables (hn : n ≠ 0) (hw : c.claims w.world 6 n = true) (hv : bit v 0 = false)
    (he : c.flag (PB_CTL_EN n) = true) :
    c.pbCtlWrite w n v = ((c.withRev n v).pbDisableOp n).when (bit v 2) fun c => c.pbResyncOp n := by
  have he' := (c.flag_en_withRev n v n).trans he
  unfold Chip.withRev at he' ⊢
  simp [Chip.pbCtlWrite, hn, hw, hv, he']

theorem Chip.pbCtlWrite_resyncs (hn : n ≠ 0) (hw : c.claims w.world 6 n = true) (hv : bit v 0 = true) (h2 : bit v 2 = true)
    (he : c.flag (PB_CTL_EN n) = true) : c.pbCtlWrite w n v = (c.withRev n v).pbResyncOp n := by
  have he' := (c.flag_en_withRev n v n).trans he
  unfold Chip.withRev at he' ⊢
  simp [Chip.pbCtlWrite, hn, hw, hv, h2, he']

end

/-! ### The cycle count (R65) -/

/-- A position with its cycle count moved by as much as takes the count `k` to `x`. -/
def moveCycles (x k p : Nat) : Nat := (((p : Int) + ((x : Int) - (k : Int)) * 2 ^ 32) % 2 ^ 64).toNat

theorem moveCycles_fraction (x k p : Nat) : moveCycles x k p % 2 ^ 32 = p % 2 ^ 32 := by
  unfold moveCycles
  omega

theorem moveCycles_cycle {x : Nat} (p : Nat) (hx : x < 2 ^ 32) : moveCycles x (p / 2 ^ 32) p / 2 ^ 32 % 2 ^ 32 = x := by
  unfold moveCycles
  omega

theorem Chip.pe_pbSetWrite {c : Chip} {w : Who} {n : Nat} (v : Nat) (hn : n ≠ 0) (hw : c.claims w.world 6 n = true) :
    ((c.pbSetWrite w n v).tracker n).pe = moveCycles (bits v 63 32) (c.reportedAt n c.time.frc / 2 ^ 32) (c.tracker n).pe := by
  unfold Chip.pbSetWrite
  simp only [if_neg hn, hw, Bool.not_true, Bool.false_eq_true, if_false]
  rw [Chip.pe_genAdvance, Chip.tracker_updTracker_same]
  rfl

/-! ### The statement -/

/-- Settles O11: an enable and a disable set their registers and then the state, RESYNC the state only, and PB_SET adds whole cycles. -/
theorem positionBaseControl : Obligations.PositionBaseControl := by
  unfold Obligations.PositionBaseControl
  intro s a n ha hw hn
  refine ⟨?_, ?_, ?_, ?_⟩
  · intro v he hc hp
    refine Runs.by rfl ha ?_
    rw [Chip.pbCtlWrite_enables hn hw (bit_setBit_same _ _) he]
    generalize setBit v.toNat 0 true = x
    rw [Chip.pbEnableOp_starts ((s.chip.pbCfgCheck_withRev n x).trans hc) fun p h =>
      (s.chip.pxConflict_withRev n x n.isLt _ p).trans (hp p (s.chip.pbNeeds_withRev n x ▸ h))]
    have hst := ((s.chip.withRev n x).pbStarted n).get_pbState_state n (show 1 < 16 by decide)
    rw [Chip.when_pbResyncOp_idle _ hst.le, Chip.flag_en_pbState, Chip.rd_cnt_pbState, Chip.get_per_pbState, Chip.flag_held_pbState]
    obtain ⟨hEn, hCnt, hPer, hHeld⟩ := (s.chip.withRev n x).regs_pbStarted n
    exact ⟨hEn, hst, hCnt, hPer, hHeld⟩
  · intro v he
    refine Runs.by rfl ha ?_
    rw [Chip.pbCtlWrite_disables hn hw (bit_setBit_false _) he, Chip.pbDisableOp_stops]
    generalize s.chip.withRev n _ = c
    have hst := (c.pbStopped n).get_pbState_state n (show 0 < 16 by decide)
    rw [Chip.when_pbResyncOp_idle _ (by omega), Chip.flag_en_pbState, Chip.get_per_pbState]
    obtain ⟨hEn, hPer⟩ := c.regs_pbStopped n
    exact ⟨hEn, hst, hPer⟩
  · intro v he h0 ht
    refine Runs.by rfl ha ?_
    rw [Chip.pbCtlWrite_resyncs hn hw ((bit_setBit_ne _ (by decide)).trans h0) (bit_setBit_same _ _) he]
    generalize setBit v.toNat 2 true = x
    have hs : (s.chip.withRev n x).get (PB_STAT_STATE n) = s.chip.get (PB_STAT_STATE n) :=
      s.chip.get_withRev n x _ (RFld.ok_of rfl) (Or.inl (by simp [PB_STAT_STATE, PB_STAT, PB_CTL_REV, PB_CTL]))
    rw [Chip.pbResyncOp_tracking (by rwa [hs])]
    exact ⟨Chip.get_pbState_state _ n (by decide), (Chip.flag_en_pbState _ n 2).trans ((s.chip.flag_en_withRev n x n).trans he)⟩
  · intro v
    refine Runs.by rfl ha ?_
    rw [Chip.pe_pbSetWrite v.toNat hn hw]
    refine ⟨moveCycles_fraction _ _ _, fun hr => ?_⟩
    rw [hr]
    exact moveCycles_cycle _ (Nat.mod_lt _ (by decide))

end Sys2Proof.Machine
end

section
/-! Two statements about position bases that are not true of every state of the model. -/

namespace Sys2Proof.Machine

/-! ### A write by another world (R70) -/

/-- CX0 in W0 before the handover, while the switch's DMA has a descriptor to write back that no command carried out. -/
def State.dmaLeft : State :=
  { chip := { rst := { releasing := none, relStep := .worlds }, esw := { jobs := [.done 0 0 0 0] } } }

def cx0 : Agent := ⟨0, none⟩

/-- A write of PB1_SET as a register carries that work out after the refusal, as does every write that a block takes by a rule of its
own. -/
theorem dmaLeft_registerWrite_jobs :
    (match exec (.registerWrite cx0 (BitVec.ofNat 40 (PB_SET 1).addr) 0) .dmaLeft with
      | .next t => decide (t.chip.esw.jobs = [])
      | _ => false) = true := by decide +kernel

/-- Refutes O7: the statement has no premise that the switch's DMA is idle (`esw.jobs = []`, which every command leaves so). Where work
waits, the refused write of PB1_SET by W0 carries it out, and the switch is not as it was. -/
theorem not_positionBaseWriteByAnotherWorld : ¬ Obligations.PositionBaseWriteByAnotherWorld := by
  unfold Obligations.PositionBaseWriteByAnotherWorld
  intro h
  obtain ⟨-, -, -, -, hWrite⟩ := h .dmaLeft cx0 1 (by decide +kernel) (by decide +kernel)
  obtain ⟨t, he, -, -, -, hParts, -⟩ := hWrite (PB_SET 1) 0 (Or.inr ⟨by decide, by simp⟩)
  have hKept : t.chip.esw = State.dmaLeft.chip.esw := hParts .esw (by decide)
  have hRun := dmaLeft_registerWrite_jobs
  rw [he] at hRun
  simp [hKept, State.dmaLeft] at hRun

/-! ### A record at a mirror base (R64) -/

/-- Base 1 enabled as a mirror base, waiting for its first edge, with GAP = 1. -/
def State.gappedMirror : State :=
  let c : Chip := { variantH := true, rst := { releasing := none, relStep := .worlds } }
  { chip := (((c.setB (PB_CTL_EN 1) true).set (PB_CFG_SRC 1) 2).set (PB_CFG_GAP 1) 1).set (PB_STAT_STATE 1) 1 }

/-- Its first record takes it to UNSYNC, as the first edge does at every wheel with a gap (R57). -/
theorem gappedMirror_mirrorRecord_state :
    (match exec (.mirrorRecord 0) .gappedMirror with
      | .next t => decide (t.chip.get (PB_STAT_STATE 1) = 2)
      | _ => false) = true := by decide +kernel

/-- Refutes O12: its clause on mirror records has no premise GAP = 0, which an enable checks (R64). Of an enabled mirror base with a gap
it is false: the record takes the base to UNSYNC, not to SYNC. -/
theorem not_positionBaseEdges : ¬ Obligations.PositionBaseEdges := by
  unfold Obligations.PositionBaseEdges
  intro h
  obtain ⟨-, hMirror, -, -⟩ := h .gappedMirror 1 (by decide +kernel)
  obtain ⟨t, he, hState, -⟩ := hMirror 0 rfl (by decide +kernel) (by decide +kernel) (by decide +kernel)
  have hRun := gappedMirror_mirrorRecord_state
  rw [he] at hRun
  have hUnsync : t.chip.get (PB_STAT_STATE 1) = 2 := by simpa using hRun
  have hSync : t.chip.get (PB_STAT_STATE 1) = 4 := hState
  omega

end Sys2Proof.Machine
end

section
/-! The port commands of the event sequencer (R78 to R82). -/

namespace Sys2Proof.Machine

/-! ### Entries (R75) -/

section
variable (c : Chip) (i : Nat)

@[simp] theorem Chip.entry_setEntry_same (e : SeqEntry) : (c.setEntry i e).entry i = e := by
  simp only [Chip.entry, Chip.setEntry, look_put_same]

theorem Chip.entry_of_seq {c d : Chip} {i : Nat} (h : d.seq = c.seq) : d.entry i = c.entry i := by rw [Chip.entry, h, ← Chip.entry]

@[simp] theorem Chip.entry_showWindow : c.showWindow.entry i = c.entry i :=
  Chip.entry_of_seq (by simp only [Chip.showWindow, Chip.set_seq])

@[simp] theorem Chip.entry_portResult (w st skipped : Nat) (b : Bool) : (c.portResult w st skipped b).entry i = c.entry i :=
  Chip.entry_of_seq (by simp only [Chip.portResult, Chip.wrN_seq])

end

/-! ### Outcomes of a port command (R78, R79) -/

section
variable {c : Chip} {who : Who} {w : Nat} (f : Nat → Chip → Chip)

theorem Chip.onPort_other (hw : who.world ≠ w) : c.onPort who w f = c.raise 71 := if_pos hw

theorem Chip.onPort_unclaimed (hw : who.world = w) (hc : c.claims w 0 (c.get (SEQ_P_IDX_N w) / 256) = false) :
    c.onPort who w f = c.portRefuse w stDENIED_WORLD := by
  simp [Chip.onPort, hw, hc]

theorem Chip.onPort_claimed {i : Nat} (hw : who.world = w) (hi : c.get (SEQ_P_IDX_N w) = i) (hc : c.claims w 0 (i / 256) = true) :
    c.onPort who w f = f i c := by
  simp [Chip.onPort, hw, hi, hc]

end

section
variable (c : Chip) (w : Nat)

/-- A plain OK. -/
theorem Chip.rd_portResult_ok : (c.portResult w stOK 0 false).rd (SEQ_P_RES w) = 0 := Chip.rd_wr_same _ _ _

/-- OK with AFTERCOMMIT. -/
theorem Chip.portResult_afterCommit :
    (c.portResult w stOK 0 true).get (SEQ_P_RES_STATUS w) = stOK ∧
      (c.portResult w stOK 0 true).flag (SEQ_P_RES_AFTERCOMMIT w) = true := by
  have hRes (hi lo : Nat) : (c.portResult w stOK 0 true).get ⟨SEQ_P_RES w, hi, lo⟩ = bits 512 hi lo := Chip.get_wr_same _ _ _
  exact ⟨hRes 7 0, by simp [Chip.flag, SEQ_P_RES_AFTERCOMMIT, hRes, bits]⟩

end

/-! ### WRITE (R79, R81) -/

/-- While the sequencer is off, a test of an entry changes nothing. -/
theorem testEntry_off (fuel i : Nat) {c : Chip} (h : c.flag SEQ_CTL_EN = false) : testEntry fuel i c = c := by
  cases fuel with
  | zero => rfl
  | succ k => simp [testEntry, Chip.seqRuns, h]

/-- New content that passes its checks, whose position is not passed, and whose entry is not committed. -/
theorem Chip.writeEntry_stores {c : Chip} {w i d0 d1 : Nat} (hs : c.writeCheck w d0 d1 = stOK)
    (hp : (c.baseReady (entryOf d0 0).base (entryOf d0 0).dir && c.passed (entryOf d0 d1)) = false) (hst : (c.entry i).st ≠ .committed) :
    c.writeEntry w i d0 d1 = (stOK, 0, false, (c.setEntry i { entryOf d0 d1 with st := .waiting }).testOcc i) := by
  have hPast : (c.baseReady (entryOf d0 d1).base (entryOf d0 d1).dir && c.passed (entryOf d0 d1)) = false := hp
  simp [Chip.writeEntry, hs, hPast, hst]

/-- Settles O13: the port passes the command to the entry, and each of the three ends in the port's result. -/
theorem sequencerPortCommands : Obligations.SequencerPortCommands := by
  unfold Obligations.SequencerPortCommands
  intro s a w i ha hw hi hc
  refine ⟨?_, ?_, ?_, ?_⟩
  · intro hs hp hst
    refine Runs.by rfl ha ?_
    rw [Chip.seqWrite, Chip.onPort_claimed _ hw hi hc, Chip.writeEntry_stores hs hp hst]
    refine ⟨Chip.rd_portResult_ok _ _, fun hEn => ?_⟩
    generalize ({ entryOf _ _ with st := .waiting } : SeqEntry) = e
    have hOff : (s.chip.setEntry i e).flag SEQ_CTL_EN = false := hEn
    simp [Chip.testOcc, testEntry_off 3 i hOff]
  · refine Runs.by rfl ha ?_
    rw [Chip.seqRead, Chip.onPort_claimed _ hw hi hc]
    have hRes (c : Chip) {r : Reg} (h : r.addr ≠ (SEQ_P_RES w).addr) : (c.portResult w stOK 0 false).rd r = c.rd r := Chip.rd_wr_ne _ _ h
    refine ⟨?_, ?_, Chip.rd_portResult_ok _ _, State.frame_chip ?_⟩
    · rw [hRes _ (by simp [SEQ_P_D0, SEQ_P_RES]), Chip.wrN, Chip.rd_wr_ne _ _ (by simp [SEQ_P_D0, SEQ_P_D1])]
      exact Chip.rd_wr_same _ _ _
    · rw [hRes _ (by simp [SEQ_P_D1, SEQ_P_RES])]
      exact Chip.rd_wr_same _ _ _
    · refine Chip.frame_trans (Chip.frame_wr _ _ _ ?_) (Chip.frame_trans (Chip.frame_wr _ _ _ ?_) (Chip.frame_wr _ _ _ ?_))
      all_goals exact among_of_mem (by simp)
  · intro hst
    refine Runs.by rfl ha ?_
    rw [Chip.seqCancel, Chip.onPort_claimed _ hw hi hc]
    simp [hst, Chip.rd_portResult_ok]
  · intro hst
    refine Runs.by rfl ha ?_
    rw [Chip.seqCancel, Chip.onPort_claimed _ hw hi hc]
    simp [hst, Chip.portResult_afterCommit]

/-! ### Refusals (R78, R79) -/

/-- A request of another world. -/
theorem Runs.of_onPort_other {i : Instr} {s : State} {a : Agent} {w : Nat} {f : Nat → Chip → Chip}
    (he : exec i s = s.by a fun who c => c.onPort who w f) (ha : s.chip.admits a = true) (hw : s.chip.worldOfAgent a ≠ w) :
    Runs i s fun t => t.chip.pends 71 = true ∧ s.frame [.core] eventAddr t := by
  refine Runs.by he ha ?_
  rw [Chip.onPort_other f hw]
  exact ⟨Chip.pends_raise _ _ (by decide), State.frame_chip (Chip.frame_raise _ (by decide) (by simp) fun _ h => h)⟩

/-- A request for an entry whose range its world does not claim. -/
theorem Runs.of_onPort_unclaimed {i : Instr} {s : State} {a : Agent} {w : Fin 5} {f : Nat → Chip → Chip}
    (he : exec i s = s.by a fun who c => c.onPort who w f) (ha : s.chip.admits a = true) (hw : s.chip.worldOfAgent a = w.val)
    (hc : s.chip.claims w.val 0 (s.chip.get (SEQ_P_IDX_N w.val) / 256) = false) : Runs i s fun t =>
      t.chip.rd (SEQ_P_RES w.val) = BitVec.ofNat 128 stDENIED_WORLD ∧ t.chip.pends 71 = true ∧
        s.frame [.core] (amongEv [(SEQ_P_RES w.val).addr]) t := by
  refine Runs.by he ha ?_
  rw [Chip.onPort_unclaimed f hw hc, Chip.portRefuse]
  have hQuiet : quiet (SEQ_P_RES w).addr := by
    simp only [quiet, eventAddr, SEQ_P_RES]
    omega
  refine ⟨?_, Chip.pends_raise _ _ (by decide), State.frame_chip ?_⟩
  · rw [Chip.rd_raise _ _ (by decide) _ hQuiet]
    exact Chip.rd_wr_same _ _ _
  · exact Chip.frame_trans (Chip.frame_wr _ _ _ (amongEv_of_mem (by simp)))
      (Chip.frame_raise _ (by decide) (by simp) (amongEv_of_eventAddr _))

/-- Settles O14: every port command asks the port first. -/
theorem sequencerPortRefusals : Obligations.SequencerPortRefusals := by
  unfold Obligations.SequencerPortRefusals
  intro s a w ha
  exact ⟨Runs.of_onPort_other rfl ha, Runs.of_onPort_other rfl ha, Runs.of_onPort_other rfl ha,
    Runs.of_onPort_unclaimed rfl ha, Runs.of_onPort_unclaimed rfl ha⟩

end Sys2Proof.Machine
end

section
/-! The event sequencer's bookkeeping: what testing, ending and re-timing an occurrence leave as it was (R85 to R99). -/

namespace Sys2Proof.Machine

/-! ### What the books keep -/

/-- The fields in which the sequencer counts and shows what becomes of the occurrences of base `b`: the window, the passes, the
lead-error records, and the base's counters but FIRED, LATE and REFUSED. -/
def bookFields (b : Nat) : List RFld :=
  [SEQ_STAT_COMMITTED, SEQ_STAT_ARMED, SEQ_STAT_WINFULL, SEQ_WFCNT_N, SEQ_GEN_RETIMED, SEQ_GEN_SQUASHED, SEQ_LERR_STAT_HELD,
    SEQ_LERR_STAT_OVF, SEQ_LERR_STAT_DROPPED, SEQ_B_SQUASH_N b, SEQ_B_LEADN_N b, SEQ_B_MAXLEAD_N b]

/-- From `c` to `d` the sequencer does no more than its books of base `b` and events: every field apart from the books reads as before,
an event that is pending stays so, and the verify list, the bases that wait for a pass and the time line are as they were. -/
structure Chip.Books (b : Nat) (c d : Chip) : Prop where
  time : d.time = c.time
  verify : d.seq.verify = c.seq.verify
  retime : d.seq.retime = c.seq.retime
  get : ∀ g : RFld, g.ok → quiet g.reg.addr → (∀ f ∈ bookFields b, f.apart g) → d.get g = c.get g
  pends : ∀ n < 1024, (∀ f ∈ bookFields b, f.apart (EVR_ST_PEND n)) → c.pends n = true → d.pends n = true

section
variable {b : Nat} {c d e : Chip}

/-- A change of the sequencer beside its registers, the verify list and the waiting bases. -/
theorem Chip.Books.of_regs (hr : d.regs = c.regs) (ht : d.time = c.time) (hv : d.seq.verify = c.seq.verify)
    (hw : d.seq.retime = c.seq.retime) : Chip.Books b c d := by
  have hGet (f : RFld) : d.get f = c.get f := by simp only [Chip.get, Chip.rd, hr]
  exact ⟨ht, hv, hw, fun f _ _ _ => hGet f, fun n _ _ h => (Chip.flag_eq_of_get (hGet _)).trans h⟩

theorem Chip.Books.refl : Chip.Books b c c := .of_regs rfl rfl rfl rfl

theorem Chip.Books.trans (h1 : Chip.Books b c d) (h2 : Chip.Books b d e) : Chip.Books b c e where
  time := h2.time.trans h1.time
  verify := h2.verify.trans h1.verify
  retime := h2.retime.trans h1.retime
  get g hg hq ha := (h2.get g hg hq ha).trans (h1.get g hg hq ha)
  pends n hn ha hp := h2.pends n hn ha (h1.pends n hn ha hp)

theorem Chip.Books.set (h : Chip.Books b c d) {f : RFld} (x : Nat) (hf : f ∈ bookFields b) (hok : f.okb = true) :
    Chip.Books b c (d.set f x) :=
  h.trans ⟨rfl, rfl, rfl, fun _ hg _ ha => Chip.get_set_ne d x (RFld.ok_of hok) hg (ha f hf),
    fun n _ ha hp => (Chip.pend_set d n f x (RFld.ok_of hok) (ha f hf)).trans hp⟩

theorem Chip.Books.raise (h : Chip.Books b c d) {n : Nat} (hn : n < 1024) : Chip.Books b c (d.raise n) :=
  h.trans ⟨Chip.raise_time d n hn, by rw [Chip.raise_seq d n hn], by rw [Chip.raise_seq d n hn],
    fun g _ hq _ => Chip.get_raise d n hn g hq, fun m hm _ hp => Chip.pends_raise_mono d n m hn hm hp⟩

theorem Chip.Books.setEntry (h : Chip.Books b c d) (i : Nat) (x : SeqEntry) : Chip.Books b c (d.setEntry i x) :=
  h.trans (.of_regs rfl rfl rfl rfl)

theorem Chip.Books.when (h : Chip.Books b c d) {f : Chip → Chip} (p : Bool) (hf : Chip.Books b d (f d)) :
    Chip.Books b c (d.when p f) := by
  cases p
  · exact h
  · exact h.trans hf

theorem Chip.Books.showWindow (h : Chip.Books b c d) : Chip.Books b c d.showWindow :=
  (h.set _ (by simp [bookFields]) rfl).set _ (by simp [bookFields]) rfl

end

/-! ### What the books are apart from -/

section
variable {b : Nat} {f : RFld} (hf : f ∈ bookFields b)
include hf

theorem bookFields_place : (f.reg = SEQ_GEN ∧ 15 < f.lo) ∨ f.reg.addr ∈ [0x30030004, 0x3003000C, 0x30030110, 0x30032004 + 0x20 * b,
    0x3003200C + 0x20 * b, 0x30032014 + 0x20 * b] := by
  simp only [bookFields, List.mem_cons, List.not_mem_nil, or_false] at hf
  rcases hf with rfl | rfl | rfl | rfl | rfl | rfl | rfl | rfl | rfl | rfl | rfl | rfl
  case inr.inr.inr.inr.inl | inr.inr.inr.inr.inr.inl => exact Or.inl ⟨rfl, by decide⟩
  all_goals exact Or.inr (by simp [SEQ_STAT_COMMITTED, SEQ_STAT_ARMED, SEQ_STAT_WINFULL, SEQ_STAT, SEQ_WFCNT_N, SEQ_WFCNT,
    SEQ_LERR_STAT_HELD, SEQ_LERR_STAT_OVF, SEQ_LERR_STAT_DROPPED, SEQ_LERR_STAT, SEQ_B_SQUASH_N, SEQ_B_SQUASH, SEQ_B_LEADN_N, SEQ_B_LEADN,
    SEQ_B_MAXLEAD_N, SEQ_B_MAXLEAD])

/-- A register at none of the books' addresses. -/
theorem bookFields_apart {g : RFld} (h : g.reg.addr ∉ [0x30030040, 0x30030004, 0x3003000C, 0x30030110, 0x30032004 + 0x20 * b,
    0x3003200C + 0x20 * b, 0x30032014 + 0x20 * b]) : f.apart g := by
  refine Or.inl fun he => h (he ▸ ?_)
  rcases bookFields_place hf with ⟨hr, -⟩ | ha
  · exact hr ▸ List.mem_cons_self
  · exact List.mem_cons_of_mem _ ha

theorem bookFields_apart_fired (n : Nat) : f.apart (SEQ_B_FIRED_N n) := bookFields_apart hf (by
  simp [SEQ_B_FIRED_N, SEQ_B_FIRED]
  omega)

theorem bookFields_apart_late (n : Nat) : f.apart (SEQ_B_LATE_N n) := bookFields_apart hf (by
  simp [SEQ_B_LATE_N, SEQ_B_LATE]
  omega)

theorem bookFields_apart_edge {n : Nat} (hn : n < 16) : f.apart (PB_EDGE_FRC n) := bookFields_apart hf (by
  simp [PB_EDGE_FRC, PB_EDGE]
  omega)

theorem bookFields_apart_pend (hb : b < 16) (n : Nat) : f.apart (EVR_ST_PEND n) := bookFields_apart hf (by
  simp [EVR_ST_PEND, EVR_ST]
  omega)

/-- The counts of a pass share SEQ_GEN with the bases it served. -/
theorem bookFields_apart_bases : f.apart SEQ_GEN_BASES := by
  rcases bookFields_place hf with ⟨hr, hl⟩ | ha
  · exact Or.inr ⟨hr.symm, Or.inl hl⟩
  · refine Or.inl fun he => ?_
    rw [← he] at ha
    simp [SEQ_GEN_BASES, SEQ_GEN] at ha
    omega

end

/-! ### Lead-error records (R99) -/

theorem Chip.seq_when (c : Chip) {f : Chip → Chip} (p : Bool) (h : ∀ d, (f d).seq = d.seq) : (c.when p f).seq = c.seq := by
  cases p
  · rfl
  · exact h c

section
variable (c : Chip) (kind base cls entry : Nat) (err : Int) (fire : Nat)

theorem Chip.books_leadRecord : Chip.Books base c (c.leadRecord kind base cls entry err fire) := by
  unfold Chip.leadRecord
  extract_lets r full q recorded held counted shown
  have hRecord : Chip.Books base c recorded := .of_regs rfl rfl rfl rfl
  have hCounts : Chip.Books base c shown :=
    ((hRecord.set _ (by simp [bookFields]) rfl).set _ (by simp [bookFields]) rfl).set _ (by simp [bookFields]) rfl
  exact (hCounts.raise (by decide)).when _
    (((Chip.Books.refl.set _ (by simp [bookFields]) rfl).set _ (by simp [bookFields]) rfl).raise (by decide))

theorem Chip.entries_leadRecord : (c.leadRecord kind base cls entry err fire).seq.entries = c.seq.entries := by
  unfold Chip.leadRecord
  rw [Chip.seq_when _ _ fun d => by simp only [Chip.raise_seq _ 69 (by decide), Chip.satInc_seq, Chip.stick_seq]]
  simp only [Chip.raise_seq _ 68 (by decide), Chip.set_seq, Chip.satInc_seq]

end

/-! ### Squashes and tests (R85, R86, R89, R91) -/

section
variable (c : Chip) (i : Nat)

@[simp] theorem advanceEntry_base (e : SeqEntry) (k : Nat) : (advanceEntry e k).base = e.base := by
  unfold advanceEntry
  dsimp only
  split <;> rfl

theorem Chip.books_squash (k : Nat) {ev : Nat} (hev : ev < 1024) : Chip.Books (c.entry i).base c (c.squash i k ev) :=
  ((Chip.Books.refl.setEntry i _).set _ (by simp [bookFields]) rfl).raise hev

/-- The entry stays with its base. -/
theorem Chip.base_squash (k : Nat) {ev : Nat} (hev : ev < 1024) : ((c.squash i k ev).entry i).base = (c.entry i).base := by
  rw [Chip.squash, Chip.entry_of_seq (Chip.raise_seq _ _ hev), Chip.entry_of_seq (Chip.satAdd_seq _ _ _), Chip.entry_setEntry_same,
    advanceEntry_base]

theorem Chip.books_armInWindow (b t : Nat) (late : Bool) : Chip.Books b c (c.armInWindow i t late) := by
  have hFull : Chip.Books b c (((c.satInc SEQ_WFCNT_N).stick SEQ_STAT_WINFULL).raise 64) :=
    ((Chip.Books.refl.set _ (by simp [bookFields]) rfl).set _ (by simp [bookFields]) rfl).raise (by decide)
  unfold Chip.armInWindow
  dsimp only
  split
  · exact Chip.Books.refl.setEntry i _
  · split
    · split
      · exact (hFull.setEntry _ _).setEntry i _
      · exact hFull
    · exact hFull

theorem books_testEntry (fuel : Nat) : ∀ c : Chip, Chip.Books (c.entry i).base c (testEntry fuel i c) := by
  induction fuel with
  | zero => exact fun c => Chip.Books.refl
  | succ fuel ih =>
    intro c
    have hSquash (k : Nat) : Chip.Books (c.entry i).base c (testEntry fuel i (c.squash i k 65)) :=
      (c.books_squash i k (by decide)).trans (c.base_squash i k (show 65 < 1024 by decide) ▸ ih _)
    unfold testEntry
    dsimp only
    split
    · split
      · exact hSquash _
      · split
        · exact Chip.Books.refl
        · split
          · split
            · split
              · exact c.books_armInWindow i _ _ _
              · exact hSquash _
            · exact c.books_armInWindow i _ _ _
          · exact Chip.Books.refl
    · exact Chip.Books.refl

theorem Chip.books_testOcc : Chip.Books (c.entry i).base c (c.testOcc i) := (books_testEntry i 3 c).showWindow

/-- Content that goes into an entry and is tested at once. -/
theorem Chip.books_setEntry_testOcc {b : Nat} {e : SeqEntry} (hb : e.base = b) : Chip.Books b c ((c.setEntry i e).testOcc i) := by
  have h := (c.setEntry i e).books_testOcc i
  rw [Chip.entry_setEntry_same, hb] at h
  exact (Chip.Books.refl.setEntry i e).trans h

end

/-! ### The end of an occurrence and its re-timing (R81, R82, R90, R94) -/

section
variable (c : Chip) (i : Nat)

/-- Content from a port's words names one of the sixteen bases (R75). -/
theorem entryOf_base_lt (d0 d1 : Nat) : (entryOf d0 d1).base < 16 := Nat.mod_lt _ (by decide)

theorem Chip.books_endOcc (hb : (c.entry i).base < 16) : ∃ b < 16, Chip.Books b c (c.endOcc i) := by
  unfold Chip.endOcc
  dsimp only
  split
  · exact ⟨0, by decide, (Chip.Books.refl.setEntry i _).showWindow⟩
  · split
    · next d0 d1 _ => exact ⟨_, entryOf_base_lt d0.toNat d1.toNat, c.books_setEntry_testOcc i rfl⟩
    · exact ⟨_, hb, c.books_setEntry_testOcc i (advanceEntry_base _ 1)⟩

/-- A squash that a pass counts. -/
theorem Chip.books_squash_testOcc (k m : Nat) :
    Chip.Books (c.entry i).base c (((c.squash i k 67).satAdd SEQ_GEN_SQUASHED m).testOcc i) := by
  have hBase : (((c.squash i k 67).satAdd SEQ_GEN_SQUASHED m).entry i).base = (c.entry i).base := by
    rw [Chip.entry_of_seq (Chip.satAdd_seq _ SEQ_GEN_SQUASHED m)]
    exact c.base_squash i k (show 67 < 1024 by decide)
  exact ((c.books_squash i k (by decide)).set _ (by simp [bookFields]) rfl).trans (hBase ▸ Chip.books_testOcc _ i)

theorem Chip.books_retimeOne : Chip.Books (c.entry i).base c (c.retimeOne i) := by
  have hCount : Chip.Books (c.entry i).base c (c.satInc SEQ_GEN_RETIMED) := Chip.Books.refl.set _ (by simp [bookFields]) rfl
  have hSquash (k m : Nat) := hCount.trans (Chip.books_squash_testOcc (c.satInc SEQ_GEN_RETIMED) i k m)
  unfold Chip.retimeOne
  dsimp only
  split
  · exact hSquash _ _
  · split
    · exact hCount.setEntry i _
    · split
      · split
        · exact hCount.setEntry i _
        · exact hSquash 1 1
      · exact hCount.setEntry i _

end

end Sys2Proof.Machine
end

section
/-! The occurrences of the event sequencer (R84 to R102). -/

namespace Sys2Proof.Machine

/-! ### Entries, counters and frames -/

section
variable (c : Chip) (i : Nat)

theorem Chip.entry_raise {n : Nat} (h : n < 1024) : (c.raise n).entry i = c.entry i := Chip.entry_of_seq (Chip.raise_seq c n h)

theorem Chip.entry_leadRecord (kind base cls entry : Nat) (err : Int) (fire : Nat) :
    (c.leadRecord kind base cls entry err fire).entry i = c.entry i := by
  rw [Chip.entry, Chip.entries_leadRecord, ← Chip.entry]

/-- A counter that saturates reads one more, or its largest value. -/
theorem Chip.get_satInc_same {f : RFld} (hf : f.okb = true) : (c.satInc f).get f = min (c.get f + 1) f.top := by
  have hPos : 0 < 2 ^ (f.hi - f.lo + 1) := Nat.two_pow_pos _
  rw [Chip.satInc, Chip.satAdd, Chip.get_set_same c f _ (RFld.ok_of hf), Nat.mod_eq_of_lt]
  simp only [RFld.top]
  omega

/-- A change of the sequencer beside its registers. -/
theorem Chip.frame_seq {ps : List Part} (w : Nat → Prop) (q : SeqBlk) (h : Part.seq ∈ ps) : Chip.frame ps w c { c with seq := q } := by
  refine ⟨fun p hp => ?_, fun _ _ => rfl, rfl, rfl⟩
  cases p with
  | seq => exact absurd h hp
  | _ => rfl

theorem Chip.frame_showWindow (ps : List Part) {w : Nat → Prop} (h : w SEQ_STAT.addr) : Chip.frame ps w c c.showWindow :=
  Chip.frame_trans (Chip.frame_set ps c _ h) (Chip.frame_set ps _ _ h)

end

/-! ### Arming (R85, R102) -/

section
variable {c : Chip} {i : Nat}

/-- The scanner finds an uncorrectable error in an entry that is not free. -/
theorem Chip.seqArm_ecc (h : (c.entry i).st ≠ .free) : c.seqArm i true =
    ((c.setEntry i { c.entry i with st := .fault, held := false, lateOcc := false }).showWindow).raise 73 := by
  simp [Chip.seqArm, h]

/-- A waiting occurrence whose fire tick lies between the horizon and the look-ahead. -/
theorem Chip.seqArm_arms {f : Nat} (hst : (c.entry i).st = .waiting) (hr : c.seqRuns = true)
    (hb : c.baseReady (c.entry i).base (c.entry i).dir = true) (hp : c.passed (c.entry i) = false)
    (hf : c.fireTick (c.entry i).base (c.entry i).pos (c.entry i).dir = some f)
    (hl : f ≤ c.time.frc + c.get (SEQ_B_LA_US (c.entry i).base) * 1000) (hh : c.time.frc + horizon (c.entry i).cls ≤ f)
    (hw : c.windowCount < 256) : c.seqArm i false = (c.arm i f false).showWindow := by
  simp [Chip.seqArm, Chip.testOcc, testEntry, hst, hr, hb, hp, hf, hl, Nat.not_lt.mpr hh, Chip.armInWindow, hw]

end

/-! ### Hand-off (R84, R87, R89) -/

/-- The module once entry `i` has gone to its target with fire tick `t`. -/
def Chip.handedOver (c : Chip) (i t : Nat) : Chip :=
  let e := c.entry i
  ((c.setEntry i { e with st := .committed, fire := t, lateOcc := false }).addAction
    { fire := t, cls := e.cls, target := e.target, arg := e.arg, seqEntry := some i }).showWindow

section
variable {c : Chip} {i : Nat}

theorem Chip.entry_handedOver (t : Nat) :
    (c.handedOver i t).entry i = { c.entry i with st := .committed, fire := t, lateOcc := false } :=
  (Chip.entry_showWindow _ i).trans (Chip.entry_setEntry_same c i _)

theorem Chip.books_handedOver (b t : Nat) : Chip.Books b c (c.handedOver i t) :=
  Chip.Books.showWindow (.of_regs rfl rfl rfl rfl)

theorem Chip.handOver_accepted (t : Nat) (ht : c.targetHeld (c.entry i).owner (c.entry i).cls (c.entry i).target = true)
    (hr : c.targetRefusal (c.entry i).cls (c.entry i).target = none) : c.handOver i t = (true, c.handedOver i t) := by
  simp [Chip.handOver, ht, hr, Chip.handedOver]

/-- At its commit point, or as early as the hand-off may be, and not after it. -/
theorem Chip.seqHandoff_hands (hst : (c.entry i).st = .armed) (hh : (c.entry i).held = false) (hl : (c.entry i).lateOcc = false)
    (hr : c.seqRuns = true) (hEarly : (c.entry i).fire ≤ c.time.frc + 318 + horizon (c.entry i).cls)
    (hLate : c.time.frc + horizon (c.entry i).cls ≤ (c.entry i).fire) (hTwin : c.earlierTwin i = false) :
    c.seqHandoff i = (c.handOver i (c.entry i).fire).2 := by
  have hEpisode : c.rst.episode.isNone = true := by
    simp only [Chip.seqRuns, Bool.and_eq_true] at hr
    exact hr.2
  have hDue : c.due ((c.entry i).fire - horizon (c.entry i).cls - 318) = true := decide_eq_true (by omega)
  have hIn : c.time.frc ≤ (c.entry i).fire - horizon (c.entry i).cls := by omega
  simp [Chip.seqHandoff, hst, hh, hl, hr, hEpisode, hDue, hIn, hTwin]

/-- The books of a late hand-off: LATE counts, and a record of kind 3. -/
def Chip.lateBooks (c : Chip) (i t : Nat) (e : SeqEntry) : Chip :=
  (c.satInc (SEQ_B_LATE_N e.base)).leadRecord 3 e.base e.cls i (leadErr (c.estAt e.base t) e.pos) t

theorem Chip.lateHandoff_hands (hst : (c.entry i).st = .armed) (hh : (c.entry i).held = false) (hl : (c.entry i).lateOcc = true)
    (hr : c.seqRuns = true) (ht : c.targetHeld (c.entry i).owner (c.entry i).cls (c.entry i).target = true)
    (hn : c.targetRefusal (c.entry i).cls (c.entry i).target = none) :
    c.lateHandoff i = ((c.handedOver i (c.time.frc + horizon (c.entry i).cls)).lateBooks i (c.time.frc + horizon (c.entry i).cls)
      (c.entry i)).raise 66 := by
  simp [Chip.lateHandoff, hst, hh, hl, hr, Chip.handOver_accepted _ ht hn, Chip.lateBooks]

theorem Chip.entry_lateBooks (t : Nat) (e : SeqEntry) : (c.lateBooks i t e).entry i = c.entry i := Chip.entry_leadRecord _ _ _ _ _ _ _ _

theorem quiet_late {b : Nat} (hb : b < 16) : quiet (SEQ_B_LATE b).addr := by
  simp only [quiet, eventAddr, SEQ_B_LATE]
  omega

theorem Chip.late_lateBooks (t : Nat) {e : SeqEntry} (hb : e.base < 16) :
    (c.lateBooks i t e).get (SEQ_B_LATE_N e.base) = min (c.get (SEQ_B_LATE_N e.base) + 1) 0xFFFFFFFF :=
  ((Chip.books_leadRecord _ _ _ _ _ _ _).get _ (RFld.ok_of rfl) (quiet_late hb) fun _ hf => bookFields_apart_late hf _).trans
    (Chip.get_satInc_same c rfl)

end

/-! ### Firing (R76, R90, R97, R98) -/

/-- The action of entry `i` for the software events is done (R76). -/
def Chip.dropEvent (c : Chip) (i : Nat) : Chip :=
  { c with seq := { c.seq with acts := c.seq.acts.filter (fun a => a.seqEntry != some i || a.cls != 6) } }

/-- An occurrence of class 6 raises its event. -/
def Chip.fireEvent (c : Chip) (i : Nat) (e : SeqEntry) : Chip := c.when (e.cls == 6) fun c => (c.dropEvent i).raise e.target

/-- A record of kind 1 where the generation has advanced since the occurrence was armed (R97). -/
def Chip.fireRecord (c : Chip) (i : Nat) (e : SeqEntry) : Chip :=
  c.when (e.gen != c.get (PB_STAT_GEN e.base)) fun c => c.leadRecord 1 e.base e.cls i (leadErr (c.estAt e.base e.fire) e.pos) e.fire

/-- The place of a fired occurrence in the verify list. -/
def Chip.firedItem (c : Chip) (i : Nat) (e : SeqEntry) : VerifyItem :=
  { entry := i, base := e.base, cls := e.cls, pos := e.pos, fire := e.fire, prevEdge := c.pbTe e.base, prevPos := (c.tracker e.base).pe }

/-- A fired occurrence enters the verify list. -/
def Chip.enlist (c : Chip) (i : Nat) (e : SeqEntry) : Chip :=
  { c with seq := { c.seq with verify := c.seq.verify ++ [c.firedItem i e] } }

section
variable (c : Chip) (i : Nat) {e : SeqEntry}

theorem Chip.fireEvent_other (h6 : e.cls ≠ 6) : c.fireEvent i e = c := by
  rw [Chip.fireEvent, beq_eq_false_iff_ne.mpr h6, Chip.when_false]

theorem Chip.fireEvent_event (h6 : e.cls = 6) : c.fireEvent i e = (c.dropEvent i).raise e.target := by
  rw [Chip.fireEvent, beq_iff_eq.mpr h6, Chip.when_true]

theorem Chip.books_fireRecord : Chip.Books e.base c (c.fireRecord i e) := Chip.Books.refl.when _ (Chip.books_leadRecord _ _ _ _ _ _ _)

theorem Chip.entry_fireRecord (j : Nat) : (c.fireRecord i e).entry j = c.entry j := by
  unfold Chip.fireRecord Chip.when
  split
  · exact Chip.entry_leadRecord _ _ _ _ _ _ _ _
  · rfl

theorem Chip.books_fireEvent (ht : e.cls = 6 → e.target < 1024) : Chip.Books e.base c (c.fireEvent i e) := by
  by_cases h6 : e.cls = 6
  · have hDrop : Chip.Books e.base c (c.dropEvent i) := .of_regs rfl rfl rfl rfl
    rw [c.fireEvent_event i h6]
    exact hDrop.raise (ht h6)
  · rw [c.fireEvent_other i h6]
    exact Chip.Books.refl

theorem Chip.entry_fireEvent (j : Nat) (ht : e.cls = 6 → e.target < 1024) : (c.fireEvent i e).entry j = c.entry j := by
  by_cases h6 : e.cls = 6
  · rw [c.fireEvent_event i h6, Chip.entry_raise _ _ (ht h6)]
    simp only [Chip.entry, Chip.dropEvent]
  · rw [c.fireEvent_other i h6]

/-- What a fired occurrence does before it enters the verify list. -/
theorem Chip.books_fire (ht : e.cls = 6 → e.target < 1024) : Chip.Books e.base c ((c.fireEvent i e).fireRecord i e) :=
  (c.books_fireEvent i ht).trans (Chip.books_fireRecord _ i)

theorem Chip.pends_fire (h6 : e.cls = 6) (ht : e.target < 1024) (hb : e.base < 16) :
    ((c.fireEvent i e).fireRecord i e).pends e.target = true := by
  rw [c.fireEvent_event i h6]
  exact (Chip.books_fireRecord _ i).pends _ ht (fun _ hf => bookFields_apart_pend hf hb _) (Chip.pends_raise _ _ ht)

theorem Chip.seqFire_fires (he : c.entry i = e) (hst : e.st = .committed) (hd : e.fire ≤ c.time.frc)
    (ht : e.cls = 6 → e.target < 1024) (hv : c.seq.verify.length < 64) :
    c.seqFire i = ((((c.satInc (SEQ_B_FIRED_N e.base)).fireEvent i e).fireRecord i e).enlist i e).endOcc i := by
  have hFires : (e.st == .committed && c.due e.fire) = true := by
    rw [hst, show c.due e.fire = true from decide_eq_true hd, beq_self_eq_true, Bool.and_true]
  rw [Chip.seqFire, he, hFires, Chip.when_true]
  extract_lets counted raised recorded freed item
  have hRecorded : recorded = ((c.satInc (SEQ_B_FIRED_N e.base)).fireEvent i e).fireRecord i e := rfl
  have hRoom : freed = recorded := by
    have hFull : decide (64 ≤ recorded.seq.verify.length) = false := by
      rw [hRecorded, (Chip.books_fire _ i ht).verify]
      exact decide_eq_false (Nat.not_le.mpr hv)
    rw [show freed = recorded.when (decide (64 ≤ recorded.seq.verify.length)) Chip.releaseOldest from rfl, hFull, Chip.when_false]
  rw [← hRecorded, ← hRoom]
  rfl

/-- The end of an occurrence that has entered the verify list. -/
theorem Chip.books_enlist_endOcc (he : c.entry i = e) (ht : e.cls = 6 → e.target < 1024) (hb : e.base < 16) :
    ∃ b < 16, Chip.Books b (((c.fireEvent i e).fireRecord i e).enlist i e)
      ((((c.fireEvent i e).fireRecord i e).enlist i e).endOcc i) := by
  refine Chip.books_endOcc _ i ?_
  have hEntry : (((c.fireEvent i e).fireRecord i e).enlist i e).entry i = c.entry i :=
    (Chip.entry_fireRecord _ i i).trans (c.entry_fireEvent i i ht)
  rw [hEntry, he]
  exact hb

end

/-! ### The statement -/

theorem quiet_fired {b : Nat} (hb : b < 16) : quiet (SEQ_B_FIRED b).addr := by
  simp only [quiet, eventAddr, SEQ_B_FIRED]
  omega

theorem quiet_edge {b : Nat} (hb : b < 16) : quiet (PB_EDGE b).addr := by
  simp only [quiet, eventAddr, PB_EDGE]
  omega

section
variable (c : Chip) (i : Nat) {e : SeqEntry} (he : c.entry i = e) (hst : e.st = .committed) (hd : e.fire ≤ c.time.frc)
  (hb : e.base < 16) (ht : e.cls = 6 → e.target < 1024) (hv : c.seq.verify.length < 64)
include he hst hd hb ht hv

/-- A firing counts, raises its event, and takes its place in the verify list. -/
theorem Chip.seqFire_effect :
    (c.seqFire i).get (SEQ_B_FIRED_N e.base) = min (c.get (SEQ_B_FIRED_N e.base) + 1) 0xFFFFFFFF ∧
      (e.cls = 6 → (c.seqFire i).pends e.target = true) ∧ (c.seqFire i).seq.verify = c.seq.verify ++ [c.firedItem i e] := by
  rw [Chip.seqFire_fires c i he hst hd ht hv]
  have hCounted : (c.satInc (SEQ_B_FIRED_N e.base)).entry i = e := (Chip.entry_of_seq (Chip.satInc_seq _ _)).trans he
  have hFire := (c.satInc (SEQ_B_FIRED_N e.base)).books_fire i ht
  obtain ⟨b, hb', hEnd⟩ := (c.satInc (SEQ_B_FIRED_N e.base)).books_enlist_endOcc i hCounted ht hb
  have hEdge : (c.satInc (SEQ_B_FIRED_N e.base)).get (PB_EDGE_FRC e.base) = c.get (PB_EDGE_FRC e.base) :=
    Chip.get_set_reg_ne c _ (by simp [PB_EDGE_FRC, PB_EDGE, SEQ_B_FIRED_N, SEQ_B_FIRED]; omega)
  refine ⟨?_, fun h6 => ?_, ?_⟩
  · calc _ = _ := hEnd.get _ (RFld.ok_of rfl) (quiet_fired hb) fun _ hf => bookFields_apart_fired hf _
      _ = _ := hFire.get _ (RFld.ok_of rfl) (quiet_fired hb) fun _ hf => bookFields_apart_fired hf _
      _ = _ := Chip.get_satInc_same c rfl
  · exact hEnd.pends _ (ht h6) (fun _ hf => bookFields_apart_pend hf hb' _) (Chip.pends_fire _ i h6 (ht h6) hb)
  · have hItem : (((c.satInc (SEQ_B_FIRED_N e.base)).fireEvent i e).fireRecord i e).firedItem i e = c.firedItem i e := by
      simp only [Chip.firedItem, Chip.pbTe, Chip.tracker, hFire.time, Chip.satInc_time,
        hFire.get _ (RFld.ok_of rfl) (quiet_edge hb) fun _ hf => bookFields_apart_edge hf hb, hEdge]
    rw [hEnd.verify, ← hItem, show c.seq.verify = _ from hFire.verify.symm]
    rfl

end

/-- Settles O15, step by step of an occurrence's life: it is armed or faulted, handed over in time or late, and fires. -/
theorem sequencerOccurrences : Obligations.SequencerOccurrences := by
  unfold Obligations.SequencerOccurrences
  intro s i hz
  refine ⟨?_, ?_, ?_, ?_, ?_⟩
  · intro hst
    refine Runs.onZone rfl hz ?_
    rw [Chip.seqArm_ecc hst]
    refine ⟨?_, Chip.pends_raise _ _ (by decide)⟩
    rw [Chip.entry_raise _ _ (by decide), Chip.entry_showWindow, Chip.entry_setEntry_same]
  · intro f hst hr hb hp hf hl hh hw
    refine Runs.onZone rfl hz ?_
    rw [Chip.seqArm_arms hst hr hb hp hf hl hh hw]
    refine ⟨(Chip.entry_showWindow _ _).trans (Chip.entry_setEntry_same _ _ _), State.frame_chip ?_⟩
    exact Chip.frame_trans (Chip.frame_seq _ _ _ (by simp)) (Chip.frame_showWindow _ _ (among_of_mem (by simp)))
  · intro hst hh hl hr hEarly hLate hTwin ht hn
    refine Runs.onZone rfl hz ?_
    rw [Chip.seqHandoff_hands hst hh hl hr hEarly hLate hTwin, Chip.handOver_accepted _ ht hn]
    refine ⟨Chip.entry_handedOver _, rfl, State.frame_chip ?_⟩
    exact Chip.frame_trans (Chip.frame_seq _ _ _ (by simp)) (Chip.frame_showWindow _ _ (among_of_mem (by simp)))
  · intro hst hh hl hr hb ht hn
    refine Runs.onZone rfl hz ?_
    rw [Chip.lateHandoff_hands hst hh hl hr ht hn, Chip.entry_raise _ _ (by decide), Chip.entry_lateBooks, Chip.entry_handedOver,
      Chip.get_raise _ _ (by decide) _ (quiet_late hb), Chip.late_lateBooks _ hb,
      (Chip.books_handedOver 0 _).get _ (RFld.ok_of rfl) (quiet_late hb) fun _ hf => bookFields_apart_late hf _]
    exact ⟨rfl, rfl, rfl, Chip.pends_raise _ _ (by decide)⟩
  · intro hst hd hb ht hv
    exact Runs.onZone rfl hz (s.chip.seqFire_effect i rfl hst hd hb ht hv)

end Sys2Proof.Machine
end

section
/-! Re-timing passes, the verify list, the record ring, the counters and the outputs of the event sequencer (R77, R94 to R101). -/

namespace Sys2Proof.Machine

/-! ### A re-timing pass (R94, R95) -/

section
variable (c : Chip)

/-- Re-timing one occurrence after another adds no base to the waiting ones and leaves the served ones shown. -/
theorem Chip.forEach_retimeOne (l : List (Nat × SeqEntry)) :
    (forEach l (fun x c => c.retimeOne x.1) c).seq.retime = c.seq.retime ∧
      (forEach l (fun x c => c.retimeOne x.1) c).get SEQ_GEN_BASES = c.get SEQ_GEN_BASES := by
  induction l generalizing c with
  | nil => exact ⟨rfl, rfl⟩
  | cons x l ih =>
    have hOne := c.books_retimeOne x.1
    obtain ⟨hRetime, hBases⟩ := ih (c.retimeOne x.1)
    refine ⟨hRetime.trans hOne.retime, hBases.trans (hOne.get _ (RFld.ok_of rfl) ?_ fun _ hf => bookFields_apart_bases hf)⟩
    simp [quiet, eventAddr, SEQ_GEN_BASES, SEQ_GEN]

/-- A written SEQ_GEN shows the low 16 bits as its bases. -/
theorem Chip.get_bases_wrN (v : Nat) : (c.wrN SEQ_GEN v).get SEQ_GEN_BASES = v % 65536 := by
  rw [Chip.wrN, show SEQ_GEN = SEQ_GEN_BASES.reg from rfl, Chip.get_wr_same, BitVec.toNat_ofNat]
  exact Nat.mod_mod_of_dvd v (by decide)

theorem Chip.seqRetimePass_effect (h : c.seq.retime ≠ []) : c.seqRetimePass.seq.retime = [] ∧
    c.seqRetimePass.get SEQ_GEN_BASES = c.seq.retime.foldl (fun m b => setBit m b true) 0 % 65536 := by
  have hWaits : (!c.seq.retime.isEmpty) = true := by simpa using h
  rw [Chip.seqRetimePass, hWaits, Chip.when_true]
  extract_lets held order shown q started
  obtain ⟨hRetime, hBases⟩ := started.forEach_retimeOne order
  have hShow : Chip.Books 0 _ (forEach order (fun x c => c.retimeOne x.1) started).showWindow := Chip.Books.refl.showWindow
  refine ⟨hShow.retime.trans hRetime, ?_⟩
  calc _ = _ := hShow.get _ (RFld.ok_of rfl) (by simp [quiet, eventAddr, SEQ_GEN_BASES, SEQ_GEN]) fun _ hf => bookFields_apart_bases hf
    _ = _ := hBases
    _ = _ := c.get_bases_wrN _

end

/-! ### The record ring (R101) -/

theorem Chip.seqLerrRead_effect (c : Chip) (w : Who) :
    (c.seqLerrRead w).seq = { c.seq with lerr := c.seq.lerr.drop 1 } ∧
      (c.seqLerrRead w).get SEQ_LERR_STAT_HELD = (c.seq.lerr.length - 1) % 256 ∧
      look {} (c.seqLerrRead w).fab.resp w.key = { err := false, data := (c.seq.lerr.headD 0).toNat % 2 ^ 32 } ∧
      Chip.frame [.seq, .fab] (among [SEQ_LERR_STAT.addr]) c (c.seqLerrRead w) := by
  unfold Chip.seqLerrRead
  refine ⟨?_, ?_, Chip.resp_respond _ _ _ _, ?_⟩
  · simp only [Chip.respond_seq, Chip.latch_seq, Chip.set_seq]
  · rw [Chip.respond_get, Chip.latch_get, Chip.get_set_same _ _ _ (RFld.ok_of rfl)]
    simp [SEQ_LERR_STAT_HELD]
  · exact Chip.frame_trans (Chip.frame_seq c _ _ (by simp)) (Chip.frame_trans (Chip.frame_set _ _ _ (among_of_mem List.mem_cons_self))
      (Chip.frame_trans (Chip.frame_latch _ _ _ _ _ (by simp)) (Chip.frame_respond _ _ _ _ _ (by simp))))

/-! ### The counters (R101) -/

/-- The registers of base `n` that CLRCNT clears. -/
def counterRegs (n : Nat) : List Reg :=
  [SEQ_B_FIRED n, SEQ_B_SQUASH n, SEQ_B_LATE n, SEQ_B_LEADN n, SEQ_B_REFUSED n, SEQ_B_MAXLEAD n]

/-- Write zero to registers in turn. -/
def Chip.clearRegs (c : Chip) (l : List Reg) : Chip := l.foldl (fun c r => c.wrN r 0) c

theorem Chip.rd_clearRegs_ne (l : List Reg) (c : Chip) {q : Reg} (h : ∀ r ∈ l, q.addr ≠ r.addr) : (c.clearRegs l).rd q = c.rd q := by
  induction l generalizing c with
  | nil => rfl
  | cons r l ih =>
    obtain ⟨hr, hl⟩ := List.forall_mem_cons.mp h
    exact (ih (c.wrN r 0) hl).trans (Chip.rd_wr_ne c _ hr)

/-- A register that reads zero still does after the writes, one of itself among them. -/
theorem Chip.rd_clearRegs_zero (l : List Reg) (c : Chip) {q : Reg} (h : c.rd q = 0) (hq : ∀ r ∈ l, q.addr = r.addr → q = r) :
    (c.clearRegs l).rd q = 0 := by
  induction l generalizing c with
  | nil => exact h
  | cons r l ih =>
    obtain ⟨hr, hl⟩ := List.forall_mem_cons.mp hq
    refine ih (c.wrN r 0) ?_ hl
    by_cases ha : q.addr = r.addr
    · exact hr ha ▸ Chip.rd_wr_same c q 0
    · exact (Chip.rd_wr_ne c 0 ha).trans h

theorem Chip.rd_clearRegs_mem (l : List Reg) (c : Chip) {q : Reg} (h : q ∈ l) (hq : ∀ r ∈ l, q.addr = r.addr → q = r) :
    (c.clearRegs l).rd q = 0 := by
  induction l generalizing c with
  | nil => simp at h
  | cons r l ih =>
    obtain ⟨hr, hl⟩ := List.forall_mem_cons.mp hq
    rcases List.mem_cons.mp h with rfl | h
    · exact Chip.rd_clearRegs_zero l (c.wrN q 0) (Chip.rd_wr_same c q 0) hl
    · exact ih (c.wrN r 0) h hl

/-- All counters of the sixteen bases. -/
def allCounters : List Reg := (List.range 16).flatMap counterRegs

theorem mem_allCounters {n : Nat} (hn : n < 16) {r : Reg} (h : r ∈ counterRegs n) : r ∈ allCounters :=
  List.mem_flatMap.mpr ⟨n, List.mem_range.mpr hn, h⟩

/-- The counters lie above the sequencer's other registers, and are zero after reset. -/
theorem allCounters_place : ∀ q ∈ allCounters, 0x30032000 ≤ q.addr ∧ q.rst = 0 := by decide +kernel

/-- So a counter is known by its address. -/
theorem allCounters_eq {q r : Reg} (hq : q ∈ allCounters) (hr : r ∈ allCounters) (h : q.addr = r.addr) : q = r := by
  have hRst : q.rst = r.rst := (allCounters_place q hq).2.trans (allCounters_place r hr).2.symm
  cases q
  cases r
  simp_all

theorem Chip.seqCtlWrite_clears {c : Chip} {w : Who} {v : Nat} (hw : w.world = 2) (hv : bit v 1 = true) :
    c.seqCtlWrite w v = ((c.set SEQ_CTL_EN (SEQ_CTL_EN.of v)).wrN SEQ_WFCNT 0).clearRegs allCounters := by
  rw [Chip.seqCtlWrite, hw, beq_self_eq_true, Chip.when_true]
  dsimp only
  rw [hv, Chip.when_true, Chip.clearRegs, allCounters, List.foldl_flatMap]
  rfl

/-- EN takes its bit of the written value, which CLRCNT is not. -/
theorem Chip.flag_ctlEn_set (c : Chip) (v : Nat) : (c.set SEQ_CTL_EN (SEQ_CTL_EN.of (setBit v 1 true))).flag SEQ_CTL_EN = v.testBit 0 := by
  have hBit : setBit v 1 true % 2 = v % 2 := setBit_mod v (n := 1) (by decide)
  rw [Chip.flag, Chip.get_set_same _ _ _ (RFld.ok_of rfl)]
  rcases Nat.mod_two_eq_zero_or_one v with h | h <;> simp [RFld.of, SEQ_CTL_EN, bits, hBit, h]

/-! ### The outputs (R77) -/

/-- The level that argument `arg` asks of an output that drove `last`: low, high, the opposite of the last, or none. -/
def sqoLevel (arg : Nat) (last : Bool) : Option Bool :=
  if arg % 4 = 3 then none else some (if arg % 4 = 2 then !last else arg % 4 == 1)

theorem Chip.sqoDrive_driveSqo (c : Chip) (n arg : Nat) :
    look none (c.driveSqo n arg).seq.sqoDrive n = sqoLevel arg (look false c.seq.sqoLast n) := by
  unfold Chip.driveSqo sqoLevel
  split
  · next h => rw [if_pos h, look_put_same]
  · next h => rw [if_neg h, look_put_same]

theorem Chip.acts_driveSqo (c : Chip) (n arg : Nat) : (c.driveSqo n arg).seq.acts = c.seq.acts := by
  unfold Chip.driveSqo
  split <;> rfl

theorem Chip.frame_driveSqo (w : Nat → Prop) (c : Chip) (n arg : Nat) : Chip.frame [.seq] w c (c.driveSqo n arg) := by
  unfold Chip.driveSqo
  split <;> exact Chip.frame_seq c w _ (by simp)

/-! ### The statement -/

/-- Settles O16: a pass, the verify list, the record ring, the counters and the outputs each by their own command. -/
theorem sequencerRetimingAndRecords : Obligations.SequencerRetimingAndRecords := by
  unfold Obligations.SequencerRetimingAndRecords
  intro s
  refine ⟨?_, ?_, ?_, ?_, ?_⟩
  · intro hz hw
    exact Runs.onZone rfl hz (s.chip.seqRetimePass_effect hw)
  · intro hz
    refine Runs.onZone rfl hz ⟨?_, State.frame_chip (Chip.frame_seq _ _ _ (by simp))⟩
    have hLate (v : VerifyItem) : (!s.chip.due (v.fire + 65536000)) = decide (s.chip.time.frc < v.fire + 65536000) := by
      simp only [Chip.due, ← decide_not, Nat.not_le]
    simp only [Chip.verifyTimeout, hLate]
  · intro a ha
    obtain ⟨hSeq, hHeld, hResp, hFrame⟩ := s.chip.seqLerrRead_effect (s.chip.who a)
    exact Runs.by rfl ha ⟨hSeq, hHeld, hResp, State.frame_chip hFrame⟩
  · intro a v ha hw
    refine Runs.by rfl ha ?_
    rw [Chip.seqCtlWrite_clears hw (bit_setBit_same _ _)]
    have hOther (c : Chip) {q : Reg} (h : q.addr < 0x30032000) : (c.clearRegs allCounters).rd q = c.rd q :=
      Chip.rd_clearRegs_ne _ c fun r hr he => by
        have := (allCounters_place r hr).1
        omega
    have hCounter (c : Chip) (n : Fin 16) : ∀ q ∈ counterRegs n, (c.clearRegs allCounters).rd q = 0 := fun q hq =>
      have hMem := mem_allCounters n.isLt hq
      Chip.rd_clearRegs_mem _ c hMem fun _ => allCounters_eq hMem
    refine ⟨?_, ?_, fun n => ?_⟩
    · rw [hOther _ (by simp [SEQ_WFCNT])]
      exact Chip.rd_wr_same _ _ _
    · rw [Chip.flag, Chip.get, hOther _ (by simp [SEQ_CTL_EN, SEQ_CTL]), ← Chip.get,
        Chip.wrN, Chip.get_wr_ne _ _ (by simp [SEQ_CTL_EN, SEQ_CTL, SEQ_WFCNT]), ← Chip.flag]
      exact Chip.flag_ctlEn_set s.chip v.toNat
    · simpa [counterRegs] using hCounter _ n
  · intro n x hz hx
    refine Runs.onZone rfl hz ?_
    simp only [Chip.sqoFire, hx]
    refine ⟨Chip.sqoDrive_driveSqo _ _ _, Chip.acts_driveSqo _ _ _, State.frame_chip ?_⟩
    exact Chip.frame_trans (Chip.frame_seq _ _ _ (by simp)) (Chip.frame_driveSqo _ _ _ _)

end Sys2Proof.Machine
end

section
/-! SUPPORT. The registers and the state of load switch channels (R105 to R139): reading a field after writes beside it, what the cuff's
bookkeeping leaves of a channel, and the frames of its shared operations. -/

namespace Sys2Proof.Machine

/-! ### Fields of one register -/

/-- Two fields that lie in 128 bits and share none. -/
def RFld.beside (f g : RFld) : Bool := f.okb && g.okb && (decide (g.hi < f.lo) || decide (f.hi < g.lo))

theorem RFld.beside_bits {f g : RFld} (h : f.beside g = true) : f.ok ∧ g.ok ∧ (g.hi < f.lo ∨ f.hi < g.lo) := by
  simp only [RFld.beside, Bool.and_eq_true, Bool.or_eq_true, decide_eq_true_eq] at h
  exact ⟨RFld.ok_of h.1.1, RFld.ok_of h.1.2, h.2⟩

section
variable (c : Chip) {f g : RFld}

@[simp] theorem Chip.get_set_fit {x : Nat} (hf : f.okb = true) (hx : decide (x < 2 ^ (f.hi - f.lo + 1)) = true) : (c.set f x).get f = x :=
  (Chip.get_set_same c f x (RFld.ok_of hf)).trans (Nat.mod_eq_of_lt (of_decide_eq_true hx))

@[simp] theorem Chip.get_setB_okb (b : Bool) (hf : f.okb = true) : (c.setB f b).get f = b2n b := by
  have h := Chip.get_set_same c f (b2n b) (RFld.ok_of hf)
  have hTwo : 2 ≤ 2 ^ (f.hi - f.lo + 1) := Nat.le_self_pow (by omega) 2
  have hBit : b2n b ≤ 1 := by cases b <;> decide
  exact h.trans (Nat.mod_eq_of_lt (by omega))

@[simp] theorem b2n_ne_zero (b : Bool) : (b2n b != 0) = b := by cases b <;> rfl

@[simp] theorem Chip.get_set_beside (x : Nat) (hr : g.reg = f.reg) (h : f.beside g = true) : (c.set f x).get g = c.get g := by
  obtain ⟨hf, hg, hd⟩ := RFld.beside_bits h
  exact Chip.get_set_ne c x hf hg (Or.inr ⟨hr, hd⟩)

@[simp] theorem Chip.get_setB_beside (b : Bool) (hr : g.reg = f.reg) (h : f.beside g = true) : (c.setB f b).get g = c.get g :=
  Chip.get_set_beside c _ hr h

theorem Chip.get_when (p : Bool) (u : Chip → Chip) : (c.when p u).get g = if p = true then (u c).get g else c.get g := by
  cases p <;> rfl

end

/-! ### Frames -/

section
variable {ps : List Part} {w : Nat → Prop} {c d : Chip}

theorem Chip.frame_lsc (c : Chip) (b : LscBlk) (h : Part.lsc ∈ ps) : Chip.frame ps w c { c with lsc := b } := by
  refine ⟨fun p hp => ?_, fun _ _ => rfl, rfl, rfl⟩
  cases p with
  | lsc => exact absurd h hp
  | _ => rfl

theorem Chip.frame_updLs (c : Chip) (n : Nat) (u : LsChan → LsChan) (h : Part.lsc ∈ ps) : Chip.frame ps w c (c.updLs n u) :=
  Chip.frame_lsc c _ h

theorem Chip.frame_when (p : Bool) {u : Chip → Chip} (h : Chip.frame ps w c (u c)) : Chip.frame ps w c (c.when p u) := by
  cases p
  · exact Chip.frame_refl ps w c
  · exact h

theorem Chip.frame_forEach {α : Type} {u : α → Chip → Chip} (l : List α) (c : Chip)
    (h : ∀ a ∈ l, ∀ d : Chip, Chip.frame ps w d (u a d)) : Chip.frame ps w c (forEach l u c) := by
  induction l generalizing c with
  | nil => exact Chip.frame_refl ps w c
  | cons a l ih =>
    exact Chip.frame_trans (h a (by simp) c) (ih (u a c) fun b hb => h b (by simp [hb]))

theorem Chip.get_of_frame (h : Chip.frame ps w c d) {g : RFld} (hg : ¬ w g.reg.addr) : d.get g = c.get g := by
  obtain ⟨-, hRegs, -⟩ := h
  simp only [Chip.get, hRegs g.reg hg]

end

/-! ### What the cuff holds for a channel -/

section
variable (c : Chip) (n : Nat)

@[simp] theorem Chip.lsCh_set (f : RFld) (x m : Nat) : (c.set f x).lsCh m = c.lsCh m := rfl
@[simp] theorem Chip.lsCh_setB (f : RFld) (b : Bool) (m : Nat) : (c.setB f b).lsCh m = c.lsCh m := rfl
@[simp] theorem Chip.lsCh_satInc (f : RFld) (m : Nat) : (c.satInc f).lsCh m = c.lsCh m := rfl
@[simp] theorem Chip.lsCh_heldChange (m : Nat) : (c.heldChange n).lsCh m = c.lsCh m := rfl

@[simp] theorem Chip.lsFaulted_setB (f : RFld) (b : Bool) (m : Nat) : (c.setB f b).lsFaulted m = c.lsFaulted m := rfl
@[simp] theorem Chip.lsFaulted_updLs (u : LsChan → LsChan) (m : Nat) : (c.updLs n u).lsFaulted m = c.lsFaulted m := rfl

@[simp] theorem Chip.lsCh_updLs_same (u : LsChan → LsChan) : (c.updLs n u).lsCh n = u (c.lsCh n) := look_upd_same _ _ _ _

theorem Chip.lsCh_updLs_ne {m : Nat} (u : LsChan → LsChan) (h : m ≠ n) : (c.updLs n u).lsCh m = c.lsCh m := look_upd_ne _ _ _ h

/-- A channel's state beside what follows the bank's disturbance and its time in NORMAL. -/
def LsChan.settled (x : LsChan) : LsChan := { x with irEnd := none, irRemain := none, normalSince := none }

def Chip.settledCh (c : Chip) (n : Nat) : LsChan := (c.lsCh n).settled

theorem Chip.pwm_settledCh : (c.settledCh n).pwm = (c.lsCh n).pwm := rfl
theorem Chip.hot_settledCh : (c.settledCh n).hot = (c.lsCh n).hot := rfl
theorem Chip.scStart_settledCh : (c.settledCh n).scStart = (c.lsCh n).scStart := rfl
theorem Chip.lastStart_settledCh : (c.settledCh n).lastStart = (c.lsCh n).lastStart := rfl
theorem Chip.prevOp2_settledCh : (c.settledCh n).prevOp2 = (c.lsCh n).prevOp2 := rfl

@[simp] theorem Chip.settledCh_set (f : RFld) (x m : Nat) : (c.set f x).settledCh m = c.settledCh m := rfl
@[simp] theorem Chip.settledCh_setB (f : RFld) (b : Bool) (m : Nat) : (c.setB f b).settledCh m = c.settledCh m := rfl
@[simp] theorem Chip.settledCh_heldChange (m : Nat) : (c.heldChange n).settledCh m = c.settledCh m := rfl

@[simp] theorem Chip.settledCh_updLs_same (u : LsChan → LsChan) : (c.updLs n u).settledCh n = (u (c.lsCh n)).settled := by
  rw [Chip.settledCh, Chip.lsCh_updLs_same]

theorem Chip.settledCh_updLs (u : LsChan → LsChan) (h : ∀ x, (u x).settled = x.settled) (m : Nat) :
    (c.updLs n u).settledCh m = c.settledCh m := by
  by_cases hm : m = n
  · rw [hm, Chip.settledCh_updLs_same, h, Chip.settledCh]
  · rw [Chip.settledCh, Chip.lsCh_updLs_ne c n u hm, Chip.settledCh]

theorem Chip.settledCh_when (p : Bool) (u : Chip → Chip) (m : Nat) :
    (c.when p u).settledCh m = if p = true then (u c).settledCh m else c.settledCh m := by
  cases p <;> rfl

end

/-! ### Bookkeeping (R113, R116, R125, R126, R131) -/

/-- What holds of a module and is kept by each of `n` operations holds after them. -/
theorem forAll_keeps {σ : Type} {p : σ → Prop} {u : Nat → σ → σ} (n : Nat) (h : ∀ i < n, ∀ d, p d → p (u i d)) {c : σ} (hc : p c) :
    p (forAll n u c) := by
  induction n with
  | zero => exact hc
  | succ n ih =>
    rw [forAll_succ]
    exact h n (by omega) _ (ih fun i hi => h i (by omega))

/-- A field of STAT apart from the bits that follow the bank's disturbance. -/
def RFld.steady (g : RFld) : Bool := g.okb && (decide (g.hi < 10) || decide (11 < g.lo))

section
variable (c : Chip) (n : Nat) {f g : RFld}

theorem Chip.get_set_otherStat {m : Nat} (x : Nat) (hf : f.reg = LSC_CH_STAT m) (hg : g.reg = LSC_CH_STAT n)
    (h : f.beside g = true) : (c.set f x).get g = c.get g := by
  by_cases hm : n = m
  · exact Chip.get_set_beside c x (by rw [hf, hg, hm]) h
  · exact Chip.get_set_reg_ne c x (by rw [hf, hg]; simp [LSC_CH_STAT, hm])

@[simp] theorem Chip.get_refreshBank (hg : g.reg = LSC_CH_STAT n) (h : g.steady = true) :
    (c.refreshBank (lsBank n)).get g = c.get g := by
  have hBits (m : Nat) : (LSC_CH_STAT_COMPFRZ m).beside g = true ∧ (LSC_CH_STAT_IRPAUSE m).beside g = true := by
    simp only [RFld.steady, RFld.beside, Bool.and_eq_true, Bool.or_eq_true, decide_eq_true_eq] at h ⊢
    obtain ⟨hOk, hSide⟩ := h
    refine ⟨⟨⟨rfl, hOk⟩, ?_⟩, ⟨⟨rfl, hOk⟩, ?_⟩⟩ <;> simp only [LSC_CH_STAT_COMPFRZ, LSC_CH_STAT_IRPAUSE] <;> omega
  unfold Chip.refreshBank
  refine forAll_keeps 4 (p := fun d : Chip => d.get g = c.get g) (fun i _ d hd => ?_) rfl
  dsimp only
  obtain ⟨hFrz, hPause⟩ := hBits (4 * lsBank n + i)
  rw [Chip.updLs_get, Chip.setB, Chip.get_set_otherStat _ n _ rfl hg hPause, Chip.setB, Chip.get_set_otherStat _ n _ rfl hg hFrz, hd]

@[simp] theorem Chip.settledCh_refreshBank (k m : Nat) : (c.refreshBank k).settledCh m = c.settledCh m := by
  unfold Chip.refreshBank
  refine forAll_keeps 4 (p := fun d : Chip => d.settledCh m = c.settledCh m) (fun i _ d hd => ?_) rfl
  dsimp only
  rw [Chip.settledCh_updLs _ _ _ (fun x => by split <;> rfl), Chip.settledCh_setB, Chip.settledCh_setB, hd]

@[simp] theorem Chip.get_noteNormal : (c.noteNormal n).get g = c.get g := rfl

@[simp] theorem Chip.settledCh_noteNormal (m : Nat) : (c.noteNormal n).settledCh m = c.settledCh m := by
  unfold Chip.noteNormal
  refine Chip.settledCh_updLs c n _ ?_ m
  exact fun _ => rfl

@[simp] theorem Chip.get_heldChange (hg : g.reg = LSC_CH_STAT n) : (c.heldChange n).get g = c.get g :=
  Chip.get_set_reg_ne c _ (by rw [hg]; simp only [LSC_CH_STAT, LSC_CH_HOLD_HSEQ, LSC_CH_HOLD]; omega)

@[simp] theorem Chip.get_lsState (st : Nat) (hg : g.reg = LSC_CH_STAT n) (h : (LSC_CH_STAT_PSTATE n).beside g = true) :
    (c.lsState n st).get g = c.get g := by
  rw [Chip.lsState, Chip.get_noteNormal, Chip.get_heldChange _ _ hg, Chip.get_set_beside _ _ hg h]

theorem Chip.pstate_lsState {st : Nat} (h : decide (st < 8) = true) : (c.lsState n st).pstate n = st := by
  rw [Chip.pstate, Chip.lsState, Chip.get_noteNormal, Chip.get_heldChange _ _ rfl]
  exact Chip.get_set_fit c rfl h

@[simp] theorem Chip.settledCh_lsState (st m : Nat) : (c.lsState n st).settledCh m = c.settledCh m := by
  rw [Chip.lsState, Chip.settledCh_noteNormal, Chip.settledCh_heldChange, Chip.settledCh_set]

@[simp] theorem Chip.get_startInrush (hg : g.reg = LSC_CH_STAT n) (h : g.steady = true) (hi : (LSC_CH_STAT_INRUSH n).beside g = true) :
    (c.startInrush n).get g = c.get g := by
  unfold Chip.startInrush
  dsimp only
  rw [Chip.get_when, Chip.get_refreshBank _ _ hg h, Chip.updLs_get, Chip.get_setB_beside _ _ hg hi, ite_self]

@[simp] theorem Chip.settledCh_startInrush (m : Nat) : (c.startInrush n).settledCh m = c.settledCh m := by
  unfold Chip.startInrush
  dsimp only
  rw [Chip.settledCh_when, Chip.settledCh_refreshBank, Chip.settledCh_updLs _ _ _ (fun _ => by rfl), Chip.settledCh_setB, ite_self]

end

/-! ### Frames of the cuff's operations -/

theorem bankStats_lsBank (n : Nat) : bankStats (4 * lsBank n) = bankStats n := by
  simp [bankStats, lsBank]

theorem stat_mem_bankStats (n : Nat) : (LSC_CH_STAT n).addr ∈ bankStats n :=
  List.mem_map.mpr ⟨n % 4, List.mem_range.mpr (Nat.mod_lt _ (by decide)), by simp [LSC_CH_STAT]; omega⟩

section
variable {ps : List Part} {w : Nat → Prop} (c : Chip) (n : Nat)

theorem Chip.frame_heldChange (h : w (LSC_CH_HOLD n).addr) : Chip.frame ps w c (c.heldChange n) := Chip.frame_set ps c _ h

theorem Chip.frame_gateOff (hp : Part.lsc ∈ ps) (h : w (LSC_CH_STAT n).addr) : Chip.frame ps w c (c.gateOff n) :=
  Chip.frame_trans (Chip.frame_set ps c _ h) (Chip.frame_updLs _ _ _ hp)

section
variable (hp : Part.lsc ∈ ps)
include hp

theorem Chip.frame_noteNormal : Chip.frame ps w c (c.noteNormal n) := Chip.frame_updLs c n _ hp

theorem Chip.frame_lsState (st : Nat) (hs : w (LSC_CH_STAT n).addr) (hh : w (LSC_CH_HOLD n).addr) :
    Chip.frame ps w c (c.lsState n st) :=
  Chip.frame_trans (Chip.frame_trans (Chip.frame_set ps c _ hs) (Chip.frame_heldChange _ n hh)) (Chip.frame_noteNormal _ n hp)

theorem Chip.frame_refreshBank (k : Nat) (hb : ∀ a ∈ bankStats (4 * k), w a) : Chip.frame ps w c (c.refreshBank k) := by
  refine Chip.frame_forAll 4 c fun i hi d => ?_
  have hw : w (LSC_CH_STAT (4 * k + i)).addr :=
    hb _ (List.mem_map.mpr ⟨i, List.mem_range.mpr hi, by simp [LSC_CH_STAT]⟩)
  exact Chip.frame_trans (Chip.frame_trans (Chip.frame_set ps d _ hw) (Chip.frame_set ps _ _ hw)) (Chip.frame_updLs _ _ _ hp)

variable (hb : ∀ a ∈ bankStats n, w a)
include hb

theorem Chip.frame_refreshOwn : Chip.frame ps w c (c.refreshBank (lsBank n)) :=
  Chip.frame_refreshBank c hp _ (by rwa [bankStats_lsBank])

theorem Chip.frame_startInrush : Chip.frame ps w c (c.startInrush n) := by
  unfold Chip.startInrush
  dsimp only
  exact Chip.frame_when _ (Chip.frame_trans (Chip.frame_trans (Chip.frame_set ps c _ (hb _ (stat_mem_bankStats n)))
    (Chip.frame_updLs _ _ _ hp)) (Chip.frame_refreshOwn _ n hp hb))

theorem Chip.frame_gateOnStatic : Chip.frame ps w c (c.gateOnStatic n) := by
  unfold Chip.gateOnStatic
  dsimp only
  exact Chip.frame_when _ (Chip.frame_trans (Chip.frame_trans (Chip.frame_set ps c _ (hb _ (stat_mem_bankStats n)))
    (Chip.frame_updLs _ _ _ hp)) (Chip.frame_when _ (Chip.frame_startInrush _ n hp hb)))

theorem Chip.frame_lsTurnOff : Chip.frame ps w c (c.lsTurnOff n) := by
  have hs := hb _ (stat_mem_bankStats n)
  refine Chip.frame_trans (Chip.frame_trans ?_ (Chip.frame_noteNormal _ n hp)) (Chip.frame_refreshOwn _ n hp hb)
  refine Chip.frame_trans ?_ (Chip.frame_when _ (Chip.frame_set ps _ _ hs))
  refine Chip.frame_trans (Chip.frame_trans (Chip.frame_trans ?_ (Chip.frame_set ps _ _ hs)) (Chip.frame_set ps _ _ hs))
    (Chip.frame_updLs _ _ _ hp)
  exact Chip.frame_trans (Chip.frame_when _ (Chip.frame_updLs _ _ _ hp)) (Chip.frame_gateOff _ n hp hs)

end

end

/-! ### Switching (R108, R113, R116) -/

section
variable (c : Chip) (n : Nat)

@[simp] theorem Chip.get_noteLimitEnd (g : RFld) : (c.noteLimitEnd n).get g = c.get g := rfl

theorem Chip.lsTurnOff_effect : (c.lsTurnOff n).flag (LSC_CH_STAT_OUT n) = false ∧ (c.lsTurnOff n).flag (LSC_CH_STAT_CMDON n) = false ∧
    (c.lsTurnOff n).flag (LSC_CH_STAT_FLYWHEEL n) = false ∧
    (c.lsTurnOff n).pstate n = if c.pstate n = 1 ∨ c.pstate n = 2 ∨ c.pstate n = 5 then 0 else c.pstate n := by
  simp (disch := exact id rfl) [Chip.lsTurnOff, Chip.gateOff, Chip.flag, Chip.pstate, Chip.get_when, or_assoc]
  congr

@[simp] theorem Chip.get_gateOnStatic {g : RFld} (hg : g.reg = LSC_CH_STAT n) (h : g.steady = true)
    (ho : (LSC_CH_STAT_OUT n).beside g = true) (hi : (LSC_CH_STAT_INRUSH n).beside g = true) :
    (c.gateOnStatic n).get g = c.get g := by
  unfold Chip.gateOnStatic
  dsimp only
  rw [Chip.get_when, Chip.get_when, Chip.get_startInrush _ _ hg h hi, ite_self, Chip.updLs_get, Chip.get_setB_beside _ _ hg ho, ite_self]

theorem Chip.out_gateOnStatic (hu : c.pmu.uvh = false) : (c.gateOnStatic n).flag (LSC_CH_STAT_OUT n) = true := by
  simp (disch := exact id rfl) [Chip.gateOnStatic, Chip.flag, hu, Chip.get_when]

theorem Chip.settledCh_gateOnStatic : ∃ o, (c.gateOnStatic n).settledCh n = { c.settledCh n with onEnd := o } := by
  unfold Chip.gateOnStatic
  dsimp only
  rw [Chip.settledCh_when, Chip.settledCh_when, Chip.settledCh_startInrush, ite_self, Chip.settledCh_updLs_same]
  split
  · exact ⟨none, rfl⟩
  · exact ⟨_, rfl⟩

/-- Switching on ends no period: PWM and the temperature latch are as before. -/
theorem Chip.lsCh_gateOnStatic : ((c.gateOnStatic n).lsCh n).pwm = (c.lsCh n).pwm ∧ ((c.gateOnStatic n).lsCh n).hot = (c.lsCh n).hot := by
  obtain ⟨o, h⟩ := c.settledCh_gateOnStatic n
  constructor
  · rw [← Chip.pwm_settledCh, h, ← Chip.pwm_settledCh]
  · rw [← Chip.hot_settledCh, h, ← Chip.hot_settledCh]

/-! ### Actions -/

section
variable {x : Action}

theorem Chip.lsAction_due {ops : List Nat} (u : Action → Chip → Chip) (hx : c.dueAction 0 n = some x)
    (ho : ops.contains (x.arg % 32) = true) : c.lsAction n ops u = u x (c.dropAction x) := by
  rw [Chip.lsAction, hx]
  exact if_pos ho

end

theorem Chip.onAccepted_of_le_one (h : c.pstate n ≤ 1) : c.onAccepted n = true := by
  obtain h0 | h1 : c.pstate n = 0 ∨ c.pstate n = 1 := by omega
  · simp [Chip.onAccepted, h0]
  · simp [Chip.onAccepted, h1]

/-- The module once channel `n` is commanded on in static mode. -/
def Chip.onCommanded (c : Chip) (n : Nat) : Chip :=
  ((c.setB (LSC_CH_STAT_CMDON n) true).setB (LSC_CH_STAT_FLYWHEEL n) false).updLs n fun x => { x with pwm := false, prevOp2 := none }

section
variable (hs : c.pstate n ≤ 1) (hh : (c.lsCh n).hot = false) (hf : c.lsFaulted n = false)
include hs hh hf

theorem Chip.lsTurnOn_admitted : c.lsTurnOn n = (((c.onCommanded n).gateOnStatic n).noteNormal n).heldChange n := by
  have hState : (c.onCommanded n).pstate n = c.pstate n := by
    simp (disch := exact id rfl) [Chip.pstate, Chip.onCommanded]
  have hOn : (decide ((c.onCommanded n).pstate n ≤ 1) && !((c.onCommanded n).lsCh n).hot && !(c.onCommanded n).lsFaulted n) = true := by
    rw [hState]
    simp [Chip.onCommanded, hs, hh, hf]
  have hNotShed : (c.pstate n == 5) = false := by simp; omega
  rw [Chip.lsTurnOn, c.onAccepted_of_le_one n hs]
  simp only [Bool.not_true, hNotShed, Chip.when_false]
  rw [if_neg (by decide), ← Chip.onCommanded, hOn, Chip.when_true]

theorem Chip.lsTurnOn_effect (hu : c.pmu.uvh = false) : (c.lsTurnOn n).flag (LSC_CH_STAT_OUT n) = true ∧
    (c.lsTurnOn n).flag (LSC_CH_STAT_CMDON n) = true ∧ (c.lsTurnOn n).flag (LSC_CH_STAT_FLYWHEEL n) = false ∧
    ((c.lsTurnOn n).lsCh n).pwm = false := by
  rw [c.lsTurnOn_admitted n hs hh hf]
  have hOut := (c.onCommanded n).out_gateOnStatic n hu
  have hPwm : ((c.onCommanded n).lsCh n).pwm = false := by simp [Chip.onCommanded]
  have hPwm' := ((c.onCommanded n).lsCh_gateOnStatic n).1.trans hPwm
  rw [Chip.flag] at hOut
  refine ⟨?_, ?_, ?_, ?_⟩
  · simpa (disch := exact id rfl) [Chip.flag] using hOut
  · simp (disch := exact id rfl) [Chip.flag, Chip.onCommanded]
  · simp (disch := exact id rfl) [Chip.flag, Chip.onCommanded]
  · rw [Chip.lsCh_heldChange]
    exact (congrArg LsChan.pwm (Chip.settledCh_noteNormal _ n n)).trans hPwm'

omit hs hh hf in
theorem Chip.frame_lsTurnOn {ps : List Part} {w : Nat → Prop} (hp : Part.lsc ∈ ps) (hb : ∀ a ∈ bankStats n, w a)
    (hw : w (LSC_CH_HOLD n).addr) (ha : c.onAccepted n = true) : Chip.frame ps w c (c.lsTurnOn n) := by
  have hStat := hb _ (stat_mem_bankStats n)
  rw [Chip.lsTurnOn, ha]
  refine Chip.frame_trans (Chip.frame_trans ?_ (Chip.frame_noteNormal _ n hp)) (Chip.frame_heldChange _ n hw)
  refine Chip.frame_trans ?_ (Chip.frame_when _ (Chip.frame_gateOnStatic _ n hp hb))
  refine Chip.frame_trans (Chip.frame_trans (Chip.frame_trans ?_ (Chip.frame_set ps _ _ hStat)) (Chip.frame_set ps _ _ hStat))
    (Chip.frame_updLs _ _ _ hp)
  exact Chip.frame_when _ (Chip.frame_set ps _ _ hStat)

end

/-! ### Periods (R109, R110) -/

@[simp] theorem Chip.effDuty_lt (v : Nat) : c.effDuty n v < 65536 := by
  unfold Chip.effDuty
  dsimp only
  split
  · exact c.get_lt (LSC_CH_HOLD_DUTY n)
  · split
    · exact c.get_lt (LSC_CH_HOLD_DEFF n)
    · split <;> omega

theorem Chip.effDuty_of_frame {ps : List Part} {d : Chip} (v : Nat) (hn : n < 48) (h : Chip.frame ps (among [(LSC_CH_STAT n).addr]) c d) :
    d.effDuty n v = c.effDuty n v := by
  have hk : n / 4 < 12 := by omega
  have hOther (g : RFld) (hg : g.reg.addr ≠ (LSC_CH_STAT n).addr) : d.get g = c.get g :=
    Chip.get_of_frame h (by simpa [among] using hg)
  have hDuty := hOther (LSC_CH_HOLD_DUTY n) (by simp [LSC_CH_HOLD_DUTY, LSC_CH_HOLD, LSC_CH_STAT])
  have hDeff := hOther (LSC_CH_HOLD_DEFF n) (by simp [LSC_CH_HOLD_DEFF, LSC_CH_HOLD, LSC_CH_STAT])
  have hComp := hOther (LSC_CH_CFG_COMP n) (by simp [LSC_CH_CFG_COMP, LSC_CH_CFG, LSC_CH_STAT])
  have hDist := hOther (LSC_BK_STAT_DIST (lsBank n)) (by simp [LSC_BK_STAT_DIST, LSC_BK_STAT, LSC_CH_STAT, lsBank]; omega)
  have hNom := hOther (LSC_BK_CFG_VNOM (lsBank n)) (by simp [LSC_BK_CFG_VNOM, LSC_BK_CFG, LSC_CH_STAT, lsBank]; omega)
  rw [Chip.effDuty, Chip.effDuty, Chip.flag_eq_of_get hComp, Chip.flag_eq_of_get hDist, hDuty, hDeff, hNom]

theorem hold_not_mem_bankStats (m : Nat) : (LSC_CH_HOLD n).addr ∉ bankStats m := by
  simp [bankStats, addrs, LSC_CH_HOLD, LSC_CH_STAT]
  omega

/-- The module once the held state of channel `n` shows a period of `t` ns. -/
def Chip.periodShown (c : Chip) (n t v : Nat) : Chip := (c.set (LSC_CH_HOLD_DEFF n) (c.effDuty n v)).set (LSC_CH_HOLD_PERIOD n) t

section
variable {ps : List Part} {w : Nat → Prop} (start t v : Nat) (hp : Part.lsc ∈ ps) (hb : ∀ a ∈ bankStats n, w a)
include hp hb

theorem Chip.frame_periodShown_startPeriod : Chip.frame ps w (c.periodShown n t v) (c.startPeriod n start t v) := by
  unfold Chip.startPeriod
  dsimp only
  refine Chip.frame_trans (Chip.frame_trans ?_ (Chip.frame_when _ (Chip.frame_startInrush _ n hp hb))) (Chip.frame_refreshOwn _ n hp hb)
  exact Chip.frame_trans (Chip.frame_updLs _ _ _ hp) (Chip.frame_when _ (Chip.frame_set ps _ _ (hb _ (stat_mem_bankStats n))))

theorem Chip.frame_startPeriod (hw : w (LSC_CH_HOLD n).addr) : Chip.frame ps w c (c.startPeriod n start t v) :=
  Chip.frame_trans (Chip.frame_trans (Chip.frame_set ps c _ hw) (Chip.frame_set ps _ _ hw))
    (c.frame_periodShown_startPeriod n start t v hp hb)

end

theorem Chip.deff_startPeriod (start t v : Nat) : (c.startPeriod n start t v).get (LSC_CH_HOLD_DEFF n) = c.effDuty n v := by
  have hTail := c.frame_periodShown_startPeriod n (ps := [.lsc]) start t v (by simp) (fun _ h => h)
  rw [Chip.get_of_frame hTail (hold_not_mem_bankStats n n)]
  simp (disch := exact id rfl) only [Chip.periodShown, Chip.get_set_beside]
  exact Chip.get_set_fit c rfl (decide_eq_true (c.effDuty_lt n v))

theorem Chip.get_startPeriod {g : RFld} (start t v : Nat) (hg : g.reg = LSC_CH_STAT n) (h : g.steady = true)
    (ho : (LSC_CH_STAT_OUT n).beside g = true) (hi : (LSC_CH_STAT_INRUSH n).beside g = true) :
    (c.startPeriod n start t v).get g = c.get g := by
  have hHold {f : RFld} (d : Chip) (x : Nat) (hf : f.reg = LSC_CH_HOLD n) : (d.set f x).get g = d.get g :=
    Chip.get_set_reg_ne d x (by rw [hf, hg]; simp [LSC_CH_STAT, LSC_CH_HOLD])
  unfold Chip.startPeriod
  dsimp only
  rw [Chip.get_refreshBank _ _ hg h, Chip.get_when, Chip.get_startInrush _ _ hg h hi, ite_self, Chip.get_when,
    Chip.get_setB_beside _ _ hg ho, ite_self, Chip.updLs_get, hHold _ _ rfl, hHold _ _ rfl]

theorem Chip.settledCh_startPeriod (start t v : Nat) : ∃ a o, (c.startPeriod n start t v).settledCh n =
    { c.settledCh n with lastStart := start, afterOff := a, onEnd := o } := by
  unfold Chip.startPeriod
  dsimp only
  rw [Chip.settledCh_refreshBank, Chip.settledCh_when, Chip.settledCh_startInrush, ite_self, Chip.settledCh_when, Chip.settledCh_setB,
    ite_self, Chip.settledCh_updLs_same]
  exact ⟨_, _, rfl⟩

end

end Sys2Proof.Machine
end

section
/-! Due actions of a load switch channel (R108 to R110). -/

namespace Sys2Proof.Machine

section
variable (c : Chip) (n : Nat)

theorem Chip.frame_dropAction {ps : List Part} {w : Nat → Prop} (x : Action) (h : Part.seq ∈ ps) : Chip.frame ps w c (c.dropAction x) :=
  Chip.frame_seq c w _ h

theorem Chip.frame_mono {ps qs : List Part} {w u : Nat → Prop} {d : Chip} (h : Chip.frame ps w c d) (hp : ps ⊆ qs)
    (hw : ∀ a, w a → u a) : Chip.frame qs u c d := by
  obtain ⟨hParts, hRegs, hVariant, hStepping⟩ := h
  exact ⟨fun p hn => hParts p fun hm => hn (hp hm), fun r hr => hRegs r fun hm => hr (hw _ hm), hVariant, hStepping⟩

theorem Chip.frame_after_dropAction {ps : List Part} {w : Nat → Prop} {x : Action} {d : Chip} (h : Chip.frame ps w (c.dropAction x) d) :
    Chip.frame (.seq :: ps) w c d :=
  Chip.frame_trans (Chip.frame_dropAction c x (by simp)) (Chip.frame_mono _ h (by simp) fun _ h => h)

/-- An operation of the cuff that keeps the sequencer's part. -/
theorem Chip.acts_of_frame {ps : List Part} {w : Nat → Prop} {x : Action} {d : Chip} (h : Chip.frame ps w (c.dropAction x) d)
    (hs : Part.seq ∉ ps) : d.seq.acts = c.seq.acts.erase x := by
  obtain ⟨hParts, -⟩ := h
  have hSeq : d.seq = (c.dropAction x).seq := hParts .seq hs
  rw [hSeq]
  rfl

theorem Chip.hseq_heldChange : (c.heldChange n).get (LSC_CH_HOLD_HSEQ n) = (c.get (LSC_CH_HOLD_HSEQ n) + 1) % 256 := by
  have hWidth : (LSC_CH_HOLD_HSEQ n).hi - (LSC_CH_HOLD_HSEQ n).lo + 1 = 8 := rfl
  rw [Chip.heldChange, Chip.wrapInc, Chip.get_set_same _ _ _ (RFld.ok_of rfl), hWidth]
  norm_num

/-- The other fields of the held state. -/
theorem Chip.get_held_heldChange {g : RFld} (hg : g.reg = LSC_CH_HOLD n) (h : (LSC_CH_HOLD_HSEQ n).beside g = true) :
    (c.heldChange n).get g = c.get g := Chip.get_set_beside c _ hg h

/-! ### Off and on (R108, R118) -/

/-- Everything that stopping a channel writes. -/
def stopAddrs (n : Nat) : List Nat := (LSC_CH_HOLD n).addr :: bankStats n

theorem Chip.frame_stop : Chip.frame [.lsc] (among (stopAddrs n)) c ((c.lsTurnOff n).heldChange n) := by
  refine Chip.frame_trans (c.frame_lsTurnOff n (by simp) fun a h => ?_) (Chip.frame_heldChange _ n ?_)
  · exact among_of_mem (List.mem_cons_of_mem _ h)
  · exact among_of_mem (by simp [stopAddrs])

theorem Chip.stop_effect : ((c.lsTurnOff n).heldChange n).flag (LSC_CH_STAT_OUT n) = false ∧
    ((c.lsTurnOff n).heldChange n).flag (LSC_CH_STAT_CMDON n) = false ∧
    ((c.lsTurnOff n).heldChange n).flag (LSC_CH_STAT_FLYWHEEL n) = false ∧
    (((c.lsTurnOff n).heldChange n).pstate n = if c.pstate n = 1 ∨ c.pstate n = 2 ∨ c.pstate n = 5 then 0 else c.pstate n) ∧
    ((c.lsTurnOff n).heldChange n).get (LSC_CH_HOLD_HSEQ n) = (c.get (LSC_CH_HOLD_HSEQ n) + 1) % 256 := by
  have hKept (f : RFld) (hf : f.reg = LSC_CH_STAT n) : ((c.lsTurnOff n).heldChange n).get f = (c.lsTurnOff n).get f :=
    Chip.get_heldChange _ _ hf
  have hHeld : (c.lsTurnOff n).get (LSC_CH_HOLD_HSEQ n) = c.get (LSC_CH_HOLD_HSEQ n) :=
    Chip.get_of_frame (c.frame_lsTurnOff n (ps := [.lsc]) (by simp) (fun _ h => h)) (hold_not_mem_bankStats n n)
  obtain ⟨hOut, hOn, hFly, hState⟩ := c.lsTurnOff_effect n
  refine ⟨?_, ?_, ?_, (hKept (LSC_CH_STAT_PSTATE n) rfl).trans hState, ?_⟩
  · rwa [Chip.flag_eq_of_get (hKept _ rfl)]
  · rwa [Chip.flag_eq_of_get (hKept _ rfl)]
  · rwa [Chip.flag_eq_of_get (hKept _ rfl)]
  · rw [Chip.hseq_heldChange, hHeld]

end

/-! ### Refused (R567) -/

theorem quiet_lsc {a : Nat} (h : 0x30040000 ≤ a ∧ a < 0x30050000) : quiet a := by
  unfold quiet eventAddr
  omega

section
variable (c : Chip) (n : Fin 48)

@[simp] theorem Chip.get_stat_raise {g : RFld} (hg : g.reg = LSC_CH_STAT n.val) : (c.raise n.val).get g = c.get g :=
  Chip.get_raise c _ (by omega) g (quiet_lsc (by rw [hg]; simp [LSC_CH_STAT]; omega))

@[simp] theorem Chip.get_stat_set_cnt {f g : RFld} (x : Nat) (hf : f.reg = LSC_CH_CNT n.val) (hg : g.reg = LSC_CH_STAT n.val) :
    (c.set f x).get g = c.get g :=
  Chip.get_set_reg_ne c x (by rw [hf, hg]; simp [LSC_CH_STAT, LSC_CH_CNT])

theorem Chip.get_lsRefuseCmd {g : RFld} (st : Nat) (hg : g.reg = LSC_CH_STAT n.val) (h : (LSC_CH_STAT_LASTERR n.val).beside g = true) :
    (c.lsRefuseCmd n.val st).get g = c.get g := by
  rw [Chip.lsRefuseCmd, Chip.refuse, Chip.satInc, Chip.satAdd, Chip.get_stat_set_cnt _ _ _ rfl hg,
    Chip.get_stat_raise _ _ hg, Chip.get_set_beside _ _ hg h]

theorem Chip.lasterr_lsRefuseCmd {st : Nat} (h : decide (st < 256) = true) :
    (c.lsRefuseCmd n.val st).get (LSC_CH_STAT_LASTERR n.val) = st := by
  rw [Chip.lsRefuseCmd, Chip.refuse, Chip.satInc, Chip.satAdd, Chip.get_stat_set_cnt _ _ _ rfl rfl, Chip.get_stat_raise _ _ rfl]
  exact Chip.get_set_fit c rfl h

theorem Chip.pends_lsRefuseCmd (st : Nat) : (c.lsRefuseCmd n.val st).pends n.val = true := by
  rw [Chip.pends, Chip.flag, Chip.lsRefuseCmd, Chip.satInc, Chip.satAdd, Chip.get_set_reg_ne, ← Chip.flag]
  · exact Chip.pends_raise _ _ (by omega)
  · simp [EVR_ST_PEND, EVR_ST, LSC_CH_CNT_REFUSED, LSC_CH_CNT]
    omega

theorem Chip.refused_lsRefuseCmd (st : Nat) :
    (c.lsRefuseCmd n.val st).get (LSC_CH_CNT_REFUSED n.val) = min (c.get (LSC_CH_CNT_REFUSED n.val) + 1) 0xFFFF := by
  have hQuiet : quiet (LSC_CH_CNT_REFUSED n.val).reg.addr := quiet_lsc (by simp [LSC_CH_CNT_REFUSED, LSC_CH_CNT]; omega)
  rw [Chip.lsRefuseCmd, Chip.refuse, Chip.get_satInc_same _ rfl, Chip.get_raise _ _ (by omega) _ hQuiet, Chip.get_set_reg_ne]
  · rfl
  · simp [LSC_CH_CNT_REFUSED, LSC_CH_CNT, LSC_CH_STAT_LASTERR, LSC_CH_STAT]

theorem Chip.frame_lsRefuseCmd (st : Nat) :
    Chip.frame [.core] (amongEv [(LSC_CH_STAT n.val).addr, (LSC_CH_CNT n.val).addr]) c (c.lsRefuseCmd n.val st) :=
  Chip.frame_trans (Chip.frame_trans (Chip.frame_set _ c _ (amongEv_of_mem (by simp [LSC_CH_STAT_LASTERR])))
    (Chip.frame_raise _ (by omega) (by simp) (amongEv_of_eventAddr _)))
    (Chip.frame_set _ _ _ (amongEv_of_mem (by simp [LSC_CH_CNT_REFUSED])))

end

/-! ### Periods (R108 to R110) -/

section
variable (c : Chip) (n : Nat)

theorem Chip.duty_loaded {v : Nat} (hv : v < 65536) : ((c.set (LSC_CH_HOLD_DUTY n) v).heldChange n).get (LSC_CH_HOLD_DUTY n) = v := by
  rw [Chip.get_held_heldChange _ _ rfl rfl]
  exact Chip.get_set_fit c rfl (decide_eq_true hv)

/-- The module once an OP 2 with fire tick `t` has begun to take effect on channel `n`. -/
def Chip.pulsed (c : Chip) (n t : Nat) : Chip :=
  ((c.setB (LSC_CH_STAT_CMDON n) true).setB (LSC_CH_STAT_FLYWHEEL n) false).updLs n fun x => { x with pwm := true, prevOp2 := some t }

theorem Chip.frame_pulsed (t : Nat) : Chip.frame [.lsc] (among [(LSC_CH_STAT n).addr]) c (c.pulsed n t) :=
  Chip.frame_trans (Chip.frame_trans (Chip.frame_set _ c _ (among_of_mem (by simp [LSC_CH_STAT_CMDON])))
    (Chip.frame_set _ _ _ (among_of_mem (by simp [LSC_CH_STAT_FLYWHEEL])))) (Chip.frame_updLs _ _ _ (by simp))

/-- The module once an OP 2 with fire tick `f` has started a period of `t` ns on channel `n`. -/
def Chip.firedPeriod (c : Chip) (n f t v : Nat) : Chip := (((c.pulsed n f).startPeriod n f t v).noteNormal n).heldChange n

theorem Chip.pwmPeriodStart_starts {x : Action} (v : Nat) (hx : c.dueAction 0 n = some x) (ho : x.arg % 32 = 2)
    (hm : c.get (LSC_CH_CFG_MODE n) ≠ 0) (hs : c.pstate n ≤ 1) :
    ∃ t, c.pwmPeriodStart n v = (c.dropAction x).firedPeriod n x.fire t v := by
  have hMode : ((c.dropAction x).get (LSC_CH_CFG_MODE n) == 0) = false := beq_false_of_ne hm
  have hNotShed : ((c.dropAction x).pstate n == 5) = false := beq_false_of_ne fun h => absurd (h.symm.trans_le hs) (by decide)
  have hAccepted : (c.dropAction x).onAccepted n = true := Chip.onAccepted_of_le_one _ n hs
  rw [Chip.pwmPeriodStart, Chip.lsAction_due _ _ _ hx (by simp [ho]), hMode, hAccepted, hNotShed]
  exact ⟨_, rfl⟩

theorem Chip.firedPeriod_effect (f t v : Nat) (hn : n < 48) : (c.firedPeriod n f t v).get (LSC_CH_HOLD_DEFF n) = c.effDuty n v ∧
    (c.firedPeriod n f t v).flag (LSC_CH_STAT_CMDON n) = true ∧ (c.firedPeriod n f t v).flag (LSC_CH_STAT_FLYWHEEL n) = false ∧
    ((c.firedPeriod n f t v).lsCh n).pwm = true ∧ ((c.firedPeriod n f t v).lsCh n).lastStart = f ∧
    ((c.firedPeriod n f t v).lsCh n).prevOp2 = some f := by
  have hKept (g : RFld) (hg : g.reg = LSC_CH_STAT n) (h : g.steady = true) (ho : (LSC_CH_STAT_OUT n).beside g = true)
      (hi : (LSC_CH_STAT_INRUSH n).beside g = true) : (c.firedPeriod n f t v).get g = (c.pulsed n f).get g := by
    rw [Chip.firedPeriod, Chip.get_heldChange _ _ hg, Chip.get_noteNormal, Chip.get_startPeriod _ _ _ _ _ hg h ho hi]
  obtain ⟨a, o, hCh⟩ := (c.pulsed n f).settledCh_startPeriod n f t v
  have hPulsed : (c.pulsed n f).settledCh n = { c.settledCh n with pwm := true, prevOp2 := some f } := by
    rw [Chip.pulsed, Chip.settledCh_updLs_same]
    rfl
  rw [hPulsed] at hCh
  have hFired : (c.firedPeriod n f t v).settledCh n = ((c.pulsed n f).startPeriod n f t v).settledCh n := by
    rw [Chip.firedPeriod, Chip.settledCh_heldChange, Chip.settledCh_noteNormal]
  refine ⟨?_, ?_, ?_, ?_, ?_, ?_⟩
  · rw [Chip.firedPeriod, Chip.get_held_heldChange _ _ rfl rfl, Chip.get_noteNormal, Chip.deff_startPeriod,
      Chip.effDuty_of_frame _ _ _ hn (c.frame_pulsed n f)]
  · rw [Chip.flag_eq_of_get (hKept _ rfl rfl rfl rfl)]
    simp (disch := exact id rfl) [Chip.pulsed, Chip.flag]
  · rw [Chip.flag_eq_of_get (hKept _ rfl rfl rfl rfl)]
    simp (disch := exact id rfl) [Chip.pulsed, Chip.flag]
  · rw [← Chip.pwm_settledCh, hFired, hCh]
  · rw [← Chip.lastStart_settledCh, hFired, hCh]
  · rw [← Chip.prevOp2_settledCh, hFired, hCh]

theorem Chip.frame_firedPeriod (f t v : Nat) : Chip.frame [.lsc] (among (stopAddrs n)) c (c.firedPeriod n f t v) := by
  have hStat : ∀ a ∈ bankStats n, among (stopAddrs n) a := fun a h => among_of_mem (List.mem_cons_of_mem _ h)
  have hHold : among (stopAddrs n) (LSC_CH_HOLD n).addr := among_of_mem (by simp [stopAddrs])
  refine Chip.frame_trans (Chip.frame_trans (Chip.frame_trans ?_ (Chip.frame_startPeriod _ n f t v (by simp) hStat hHold))
    (Chip.frame_noteNormal _ n (by simp))) (Chip.frame_heldChange _ n hHold)
  exact Chip.frame_mono _ (c.frame_pulsed n f) (by simp) fun a h => by
    rw [show a = (LSC_CH_STAT n).addr by simpa [among] using h]
    exact hStat _ (stat_mem_bankStats n)

/-- In free-running mode the next period starts *T* after the last. -/
theorem Chip.pwmSelfTimed_free (v : Nat) (hm : c.get (LSC_CH_CFG_MODE n) = 2) (hp : (c.lsCh n).pwm = true)
    (ho : c.flag (LSC_CH_STAT_CMDON n) = true) (hd : (c.lsCh n).lastStart + c.get (LSC_CH_PWMPER_T n) ≤ c.time.frc) :
    c.pwmSelfTimed n v = (c.updLs n fun x => { x with prevOp2 := none }).startPeriod n
      ((c.lsCh n).lastStart + c.get (LSC_CH_PWMPER_T n)) (c.get (LSC_CH_PWMPER_T n)) v := by
  have hPeriod : c.lsPeriod n = c.get (LSC_CH_PWMPER_T n) := by simp [Chip.lsPeriod, hm]
  simp [Chip.pwmSelfTimed, hPeriod, hm, hp, ho, Chip.due, hd]

/-- In flywheel operation the first self-timed period starts 1.5 *T* after the last OP 2. -/
theorem Chip.pwmSelfTimed_flywheel (v : Nat) (hm : c.get (LSC_CH_CFG_MODE n) ≠ 2) (hp : (c.lsCh n).pwm = true)
    (ho : c.flag (LSC_CH_STAT_CMDON n) = true) (hf : c.flag (LSC_CH_STAT_FLYWHEEL n) = false)
    (hd : (c.lsCh n).lastStart + c.lsPeriod n * 3 / 2 ≤ c.time.frc) :
    c.pwmSelfTimed n v = ((c.setB (LSC_CH_STAT_FLYWHEEL n) true).updLs n fun x => { x with prevOp2 := none }).startPeriod n
      ((c.lsCh n).lastStart + c.lsPeriod n * 3 / 2) (c.lsPeriod n) v := by
  have hMode : (c.get (LSC_CH_CFG_MODE n) == 2) = false := beq_false_of_ne hm
  simp only [Chip.pwmSelfTimed, hMode, hp, ho, hf, Chip.due, hd, Bool.or_self, Bool.and_self, Bool.false_eq_true, if_false, decide_true,
    Bool.not_false, Chip.when_true]

theorem Chip.lastStart_startPeriod (start t v : Nat) : ((c.startPeriod n start t v).lsCh n).lastStart = start := by
  obtain ⟨a, o, hCh⟩ := c.settledCh_startPeriod n start t v
  rw [← Chip.lastStart_settledCh, hCh]

end

/-- Settles O17, action by action: the due action leaves the queue, and the channel's STAT and HOLD are read back after its writes. -/
theorem loadSwitchActions : Obligations.LoadSwitchActions := by
  unfold Obligations.LoadSwitchActions
  intro s n
  refine ⟨?_, ?_, ?_, ?_, ?_, ?_, ?_, ?_⟩
  · intro x hx ho
    refine Runs.on (f := fun c => c.lsOff n.val) rfl ?_
    have hArg : x.arg ≠ 16 := by omega
    rw [Chip.lsOff, Chip.lsAction_due _ _ _ hx (by simp [ho]), if_neg hArg]
    obtain ⟨hOut, hOn, hFly, hState, hHeld⟩ := (s.chip.dropAction x).stop_effect n.val
    have hFrame := (s.chip.dropAction x).frame_stop n.val
    refine ⟨hOut, hOn, hFly, hState, hHeld, Chip.acts_of_frame _ hFrame (by simp), State.frame_chip (Chip.frame_after_dropAction _ hFrame)⟩
  · intro x hx ho hs hh hf hu
    refine Runs.on (f := fun c => c.lsOn n.val) rfl ?_
    rw [Chip.lsOn, Chip.lsAction_due _ _ _ hx (by simp [ho])]
    obtain ⟨hOut, hOn, hFly, hPwm⟩ := (s.chip.dropAction x).lsTurnOn_effect n.val hs hh hf hu
    have hFrame := (s.chip.dropAction x).frame_lsTurnOn n.val (ps := [.lsc]) (w := among (stopAddrs n.val)) (by simp)
      (fun a h => among_of_mem (List.mem_cons_of_mem _ h)) (among_of_mem (by simp [stopAddrs])) (Chip.onAccepted_of_le_one _ _ hs)
    refine ⟨hOut, hOn, hFly, hPwm, Chip.acts_of_frame _ hFrame (by simp), State.frame_chip (Chip.frame_after_dropAction _ hFrame)⟩
  · intro x hx ho hs
    refine Runs.on (f := fun c => c.lsOn n.val) rfl ?_
    have hRefused : (s.chip.dropAction x).onAccepted n.val = false := by
      have hState : (s.chip.dropAction x).pstate n.val = s.chip.pstate n.val := rfl
      obtain h | h := hs <;> simp [Chip.onAccepted, hState, h]
    rw [Chip.lsOn, Chip.lsAction_due _ _ _ hx (by simp [ho]), Chip.lsTurnOn, hRefused]
    refine ⟨Chip.lasterr_lsRefuseCmd _ n rfl, Chip.pends_lsRefuseCmd _ n _, Chip.flag_eq_of_get (Chip.get_lsRefuseCmd _ n _ rfl rfl),
      State.frame_chip (Chip.frame_after_dropAction _ (Chip.frame_lsRefuseCmd _ n _))⟩
  · intro x hx ho hm
    refine Runs.on (f := fun c => c.loadDuty n.val) rfl ?_
    have hMode : ((s.chip.dropAction x).get (LSC_CH_CFG_MODE n.val) == 0) = false := beq_false_of_ne hm
    rw [Chip.loadDuty, Chip.lsAction_due _ _ _ hx (by simp [ho]), hMode]
    refine ⟨Chip.duty_loaded _ _ (Nat.mod_lt _ (by decide)), rfl, State.frame_chip ?_⟩
    have hHold : among [(LSC_CH_HOLD n.val).addr] (LSC_CH_HOLD n.val).addr := among_of_mem (by simp)
    exact Chip.frame_after_dropAction (ps := []) _ (Chip.frame_trans (Chip.frame_set _ _ _ hHold) (Chip.frame_heldChange _ _ hHold))
  · intro x v hx ho hm hs
    refine Runs.on (f := fun c => c.pwmPeriodStart n.val v) rfl ?_
    obtain ⟨t, ht⟩ := s.chip.pwmPeriodStart_starts n.val v hx ho hm hs
    obtain ⟨hDeff, hOn, hFly, hPwm, hStart, hPrev⟩ := (s.chip.dropAction x).firedPeriod_effect n.val x.fire t v n.isLt
    have hFrame := (s.chip.dropAction x).frame_firedPeriod n.val x.fire t v
    rw [ht]
    exact ⟨hDeff, hOn, hFly, hPwm, hStart, hPrev, Chip.acts_of_frame _ hFrame (by simp),
      State.frame_chip (Chip.frame_after_dropAction _ hFrame)⟩
  · intro v hm hp ho hd
    refine Runs.on (f := fun c => c.pwmSelfTimed n.val v) rfl ?_
    rw [s.chip.pwmSelfTimed_free n.val v hm hp ho hd]
    refine ⟨Chip.lastStart_startPeriod _ _ _ _ _, Chip.deff_startPeriod _ _ _ _ _,
      Chip.flag_eq_of_get (Chip.get_startPeriod _ _ _ _ _ rfl rfl rfl rfl),
      State.frame_chip ?_⟩
    refine Chip.frame_trans (Chip.frame_updLs _ _ _ (by simp)) (Chip.frame_startPeriod _ _ _ _ _ (by simp) ?_ (among_of_mem (by simp)))
    exact fun a h => among_of_mem (List.mem_cons_of_mem _ h)
  · intro v hm hp ho hf hd
    refine Runs.on (f := fun c => c.pwmSelfTimed n.val v) rfl ?_
    rw [s.chip.pwmSelfTimed_flywheel n.val v hm hp ho hf hd]
    refine ⟨?_, Chip.lastStart_startPeriod _ _ _ _ _⟩
    rw [Chip.flag_eq_of_get (Chip.get_startPeriod _ _ _ _ _ rfl rfl rfl rfl), Chip.updLs_flag]
    exact Chip.flag_setB_same _ _ _ (RFld.ok_of rfl)
  · intro e hp he hd
    refine Runs.on (f := fun c => c.pwmOnTimeEnd n.val) rfl ?_
    have hEnds : ((s.chip.lsCh n.val).pwm && s.chip.dueAt (s.chip.lsCh n.val).onEnd) = true := by simp [hp, he, Chip.dueAt, hd]
    rw [Chip.pwmOnTimeEnd, hEnds, Chip.when_true]
    refine ⟨(Chip.updLs_flag _ _ _ _).trans (Chip.flag_setB_same _ _ _ (RFld.ok_of rfl)), ?_, State.frame_chip ?_⟩
    · rw [Chip.lsCh_updLs_same]
    · exact Chip.frame_trans (Chip.frame_set _ _ _ (among_of_mem (by simp [LSC_CH_STAT_OUT]))) (Chip.frame_updLs _ _ _ (by simp))

end Sys2Proof.Machine
end

section
/-! Protection of a load switch channel (R113 to R126). -/

namespace Sys2Proof.Machine

/-! ### Other registers of the cuff -/

section
variable {ps : List Part} {w : Nat → Prop} {c d : Chip}

/-- A frame that lets every address but that of `g`'s register differ. -/
theorem Chip.get_of_frame_ne {g : RFld} (h : Chip.frame ps (· ≠ g.reg.addr) c d) : d.get g = c.get g :=
  Chip.get_of_frame h fun hn => hn rfl

end

/-- The registers of a channel at the offsets of MEAS, EACC, CNT, ELIFE, HOLD and the others but STAT lie apart from every STAT. -/
theorem ne_stat_of_mod {a : Nat} (m : Nat) (h : a % 64 ≠ 20) : a ≠ (LSC_CH_STAT m).addr := by
  simp only [LSC_CH_STAT]
  omega

theorem mem_bankStats_mod {a m : Nat} (h : a ∈ bankStats m) : a % 64 = 20 := by
  simp only [bankStats, addrs, List.mem_map, LSC_CH_STAT] at h
  omega

theorem mem_bankStats_lt {a m : Nat} (hm : m < 48) (h : a ∈ bankStats m) : 0x30041000 ≤ a ∧ a < 0x30042000 := by
  simp only [bankStats, addrs, List.mem_map, List.mem_range, LSC_CH_STAT] at h
  omega

/-! ### DIST (R125) -/

section
variable (c : Chip) (n : Fin 48)

theorem bankEvent_lt : 48 + lsBank n.val < 1024 := by
  simp only [lsBank]
  omega

theorem Chip.get_setDist {g : RFld} (hg : g.reg = LSC_CH_STAT n.val) (h : g.steady = true) :
    (c.setDist (lsBank n.val)).get g = c.get g := by
  have hQuiet : quiet g.reg.addr := quiet_lsc (by rw [hg]; simp [LSC_CH_STAT]; omega)
  have hDist : g.reg.addr ≠ (LSC_BK_STAT_DIST (lsBank n.val)).reg.addr := by
    rw [hg]
    simp only [LSC_CH_STAT, LSC_BK_STAT_DIST, LSC_BK_STAT, lsBank]
    omega
  unfold Chip.setDist
  dsimp only
  rw [Chip.get_refreshBank _ _ hg h, Chip.get_when, Chip.get_raise _ _ (bankEvent_lt n) _ hQuiet, ite_self]
  exact Chip.get_set_reg_ne c _ hDist

theorem Chip.settledCh_raise (m : Nat) {k : Nat} (hk : k < 1024) : (c.raise k).settledCh m = c.settledCh m := by
  simp only [Chip.settledCh, Chip.lsCh, Chip.raise_lsc c k hk]

theorem Chip.settledCh_setDist (m : Nat) : (c.setDist (lsBank n.val)).settledCh m = c.settledCh m := by
  unfold Chip.setDist
  dsimp only
  rw [Chip.settledCh_refreshBank, Chip.settledCh_when, Chip.settledCh_raise _ _ (bankEvent_lt n), ite_self, Chip.settledCh_setB]

theorem Chip.frame_setDist {ps : List Part} {w : Nat → Prop} {k : Nat} (hk : k < 12) (hp : Part.lsc ∈ ps) (hc : Part.core ∈ ps)
    (he : ∀ a, eventAddr a → w a) (hd : w (LSC_BK_STAT k).addr) (hb : ∀ a ∈ bankStats (4 * k), w a) :
    Chip.frame ps w c (c.setDist k) :=
  Chip.frame_trans (Chip.frame_trans (Chip.frame_set ps c _ hd) (Chip.frame_when _ (Chip.frame_raise _ (by omega) hc he)))
    (Chip.frame_refreshBank _ hp k hb)

theorem Chip.dist_refreshBank {k : Nat} (hk : k < 12) (g : RFld) (hg : g.reg = LSC_BK_STAT k) : (c.refreshBank k).get g = c.get g := by
  refine Chip.get_of_frame (Chip.frame_refreshBank c (ps := [.lsc]) (by simp) k fun _ h => h) fun h => ?_
  have := mem_bankStats_lt (by omega) h
  rw [hg] at this
  simp only [LSC_BK_STAT] at this
  omega

theorem Chip.dist_setDist {k : Nat} (hk : k < 12) : (c.setDist k).flag (LSC_BK_STAT_DIST k) = true := by
  have hQuiet : quiet (LSC_BK_STAT_DIST k).reg.addr := quiet_lsc (by simp [LSC_BK_STAT_DIST, LSC_BK_STAT]; omega)
  unfold Chip.setDist
  dsimp only
  rw [Chip.flag, Chip.dist_refreshBank _ hk _ rfl, Chip.get_when, Chip.get_raise _ _ (by omega) _ hQuiet, ite_self, ← Chip.flag]
  exact Chip.flag_setB_same c _ _ (RFld.ok_of rfl)

end

/-! ### The current limit (R114) -/

section
variable (c : Chip) (n : Nat) (ma : Nat)

theorem Chip.get_showCurrent {g : RFld} (hg : g.reg.addr ≠ (LSC_CH_MEAS n).addr) : (c.showCurrent n ma).get g = c.get g :=
  Chip.get_set_reg_ne c _ hg

theorem Chip.get_stat_showCurrent {g : RFld} (hg : g.reg = LSC_CH_STAT n) : (c.showCurrent n ma).get g = c.get g :=
  c.get_showCurrent n ma (by rw [hg]; simp [LSC_CH_STAT, LSC_CH_MEAS])

theorem Chip.lsLimit_showCurrent : (c.showCurrent n ma).lsLimit n = c.lsLimit n := by
  have hInrush := c.get_stat_showCurrent n ma (g := LSC_CH_STAT_INRUSH n) rfl
  have hFirst := c.get_showCurrent n ma (g := LSC_CH_PROT_IRLIM n) (by simp [LSC_CH_PROT_IRLIM, LSC_CH_PROT, LSC_CH_MEAS])
  have hLimit := c.get_showCurrent n ma (g := LSC_CH_PROT_ILIM n) (by simp [LSC_CH_PROT_ILIM, LSC_CH_PROT, LSC_CH_MEAS])
  rw [Chip.lsLimit, Chip.lsLimit, Chip.flag_eq_of_get hInrush, hFirst, hLimit]

theorem Chip.isense_showCurrent : (c.showCurrent n ma).get (LSC_CH_MEAS_ISENSE n) = min 0xEFF (ma / senseLsb (lsClass n)) :=
  Chip.get_set_fit c rfl (decide_eq_true (lt_of_le_of_lt (Nat.min_le_left _ _) (by simp [LSC_CH_MEAS_ISENSE])))

/-- The module once channel `n` has entered LIMIT, before its bank is marked as disturbed. -/
def Chip.limited (c : Chip) (n ma : Nat) : Chip :=
  ((c.showCurrent n ma).updLs n fun x => { x with scStart := some c.now }).lsState n 1

theorem Chip.limitEnter_limits (hs : c.pstate n = 0) (ho : c.flag (LSC_CH_STAT_OUT n) = true) (hl : c.lsLimit n ≤ ma) :
    c.limitEnter n ma = if (c.limited n ma).limitsOutside n then (c.limited n ma).setDist (lsBank n) else c.limited n ma := by
  have hEnters : ((c.showCurrent n ma).pstate n == 0 && (c.showCurrent n ma).flag (LSC_CH_STAT_OUT n) &&
      decide ((c.showCurrent n ma).lsLimit n ≤ ma)) = true := by
    rw [Chip.pstate, c.get_stat_showCurrent n ma rfl, ← Chip.pstate, Chip.flag_eq_of_get (c.get_stat_showCurrent n ma rfl),
      c.lsLimit_showCurrent, hs, ho, decide_eq_true hl]
    rfl
  rw [Chip.limitEnter, hEnters, Chip.when_true]
  rfl

theorem Chip.limited_effect : (c.limited n ma).pstate n = 1 ∧ ((c.limited n ma).lsCh n).scStart = some c.now ∧
    (c.limited n ma).get (LSC_CH_MEAS_ISENSE n) = min 0xEFF (ma / senseLsb (lsClass n)) ∧
    (c.limited n ma).flag (LSC_CH_STAT_INRUSH n) = c.flag (LSC_CH_STAT_INRUSH n) := by
  refine ⟨Chip.pstate_lsState _ n rfl, ?_, ?_, ?_⟩
  · rw [← Chip.scStart_settledCh, Chip.limited, Chip.settledCh_lsState, Chip.settledCh_updLs_same]
    rfl
  · rw [Chip.limited, Chip.get_of_frame_ne (Chip.frame_lsState _ n (ps := [.lsc]) (by simp) 1 ?_ ?_), Chip.updLs_get,
      Chip.isense_showCurrent]
    · simp [LSC_CH_STAT, LSC_CH_MEAS_ISENSE, LSC_CH_MEAS]
    · simp [LSC_CH_HOLD, LSC_CH_MEAS_ISENSE, LSC_CH_MEAS]
  · rw [Chip.limited, Chip.flag_eq_of_get (Chip.get_lsState _ n 1 rfl rfl), Chip.updLs_flag,
      Chip.flag_eq_of_get (c.get_stat_showCurrent n ma rfl)]

end

/-- The addresses of a bank's STAT, of its channels' STAT and of the event router leave the other registers of the channels alone. -/
theorem Chip.get_chan_setDist (c : Chip) (n : Fin 48) {g : RFld} (hLow : 0x30041000 ≤ g.reg.addr) (hHigh : g.reg.addr < 0x30041C00)
    (hMod : g.reg.addr % 64 ≠ 20) : (c.setDist (lsBank n.val)).get g = c.get g := by
  have hk : lsBank n.val < 12 := by
    simp only [lsBank]
    omega
  refine Chip.get_of_frame_ne (Chip.frame_setDist c (ps := [.lsc, .core]) hk (by simp) (by simp) (fun a ha he => ?_) ?_ fun a ha he => ?_)
  · exact quiet_lsc (by omega) (he ▸ ha)
  · simp only [LSC_BK_STAT]
    omega
  · exact hMod (he ▸ mem_bankStats_mod ha)

/-- Entering LIMIT. -/
theorem Chip.limitEnter_effect (c : Chip) (n : Fin 48) (ma : Nat) (hs : c.pstate n.val = 0) (ho : c.flag (LSC_CH_STAT_OUT n.val) = true)
    (hl : c.lsLimit n.val ≤ ma) : (c.limitEnter n.val ma).pstate n.val = 1 ∧ ((c.limitEnter n.val ma).lsCh n.val).scStart = some c.now ∧
    (c.limitEnter n.val ma).get (LSC_CH_MEAS_ISENSE n.val) = min 0xEFF (ma / senseLsb (lsClass n.val)) ∧
    (c.flag (LSC_CH_STAT_INRUSH n.val) = false → (c.limitEnter n.val ma).flag (LSC_BK_STAT_DIST (lsBank n.val)) = true) := by
  obtain ⟨hState, hStart, hSense, hInrush⟩ := c.limited_effect n.val ma
  rw [c.limitEnter_limits n.val ma hs ho hl]
  split
  · refine ⟨(Chip.get_setDist _ n rfl rfl).trans hState, ?_, ?_, fun _ => Chip.dist_setDist _ ?_⟩
    · rw [← Chip.scStart_settledCh, Chip.settledCh_setDist, Chip.scStart_settledCh, hStart]
    · rw [Chip.get_chan_setDist, hSense] <;> simp only [LSC_CH_MEAS_ISENSE, LSC_CH_MEAS] <;> omega
    · simp only [lsBank]
      omega
  · rename_i hWithin
    refine ⟨hState, hStart, hSense, fun hNone => absurd ?_ hWithin⟩
    rw [Chip.limitsOutside, hState, hInrush, hNone]
    rfl

section
variable (c : Chip) (n : Nat) (ma : Nat)

/-- The module once channel `n` has left LIMIT. -/
def Chip.unlimited (c : Chip) (n ma : Nat) : Chip :=
  let c := c.showCurrent n ma
  if c.limitsOutside n then c.noteLimitEnd n else c.updLs n fun x => { x with scStart := none }

theorem Chip.limitExit_exits (hs : c.pstate n = 1) (hl : ma * 10 < c.lsLimit n * 9) :
    c.limitExit n ma = ((c.unlimited n ma).lsState n 0).refreshBank (lsBank n) := by
  have hExits : ((c.showCurrent n ma).pstate n == 1 && decide (ma * 10 < (c.showCurrent n ma).lsLimit n * 9)) = true := by
    rw [Chip.pstate, c.get_stat_showCurrent n ma rfl, ← Chip.pstate, c.lsLimit_showCurrent, hs, decide_eq_true hl]
    rfl
  rw [Chip.limitExit, hExits, Chip.when_true]
  rfl

theorem Chip.unlimited_effect : ((c.unlimited n ma).settledCh n).scStart = none ∧
    (∀ g : RFld, g.reg = LSC_CH_STAT n → (c.unlimited n ma).get g = c.get g) ∧
    Chip.frame [.lsc] (among [(LSC_CH_MEAS n).addr]) c (c.unlimited n ma) := by
  have hShown : Chip.frame [.lsc] (among [(LSC_CH_MEAS n).addr]) c (c.showCurrent n ma) :=
    Chip.frame_set _ c _ (among_of_mem (by simp [LSC_CH_MEAS_ISENSE]))
  unfold Chip.unlimited
  dsimp only
  split
  · refine ⟨?_, fun g hg => ?_, Chip.frame_trans hShown (Chip.frame_updLs _ _ _ (by simp))⟩
    · rw [Chip.noteLimitEnd, Chip.settledCh_updLs_same]
      rfl
    · rw [Chip.get_noteLimitEnd, c.get_stat_showCurrent n ma hg]
  · refine ⟨?_, fun g hg => ?_, Chip.frame_trans hShown (Chip.frame_updLs _ _ _ (by simp))⟩
    · rw [Chip.settledCh_updLs_same]
      rfl
    · rw [Chip.updLs_get, c.get_stat_showCurrent n ma hg]

end

/-! ### Protection switch-offs (R114 to R118) -/

section
variable (c : Chip) (n : Fin 48)

/-- The protection state that a switch-off leads to. -/
def Chip.offState (c : Chip) (n : Nat) : Nat := if c.get (LSC_CH_STAT_RETRIES n) < c.get (LSC_CH_PROT_RETRY n) then 2 else 3

/-- The module once channel `n` is off with a cause, before its state changes. -/
def Chip.offWith (c : Chip) (n cause : Nat) : Chip := ((c.gateOff n).set (LSC_CH_STAT_CAUSE n) cause).satInc (LSC_CH_CNT_PROTOFF n)

theorem Chip.protOff_shape (cause : Nat) : ∃ r, c.protOff n.val cause = ((((c.offWith n.val cause).updLs n.val fun x =>
    { x with protOff := some c.now, distOff := some c.now, afterOff := true, retryAt := r }).lsState n.val (c.offState n.val)).setDist
      (lsBank n.val)).raise n.val := ⟨_, rfl⟩

theorem Chip.offState_lt (m : Nat) : decide (c.offState m < 8) = true := by
  unfold Chip.offState
  split <;> rfl

theorem Chip.offWith_effect {cause : Nat} (h : decide (cause < 16) = true) :
    (c.offWith n.val cause).flag (LSC_CH_STAT_OUT n.val) = false ∧ (c.offWith n.val cause).get (LSC_CH_STAT_CAUSE n.val) = cause ∧
    (c.offWith n.val cause).get (LSC_CH_CNT_PROTOFF n.val) = min (c.get (LSC_CH_CNT_PROTOFF n.val) + 1) 0xFFFF ∧
    ((c.offWith n.val cause).lsCh n.val).hot = (c.lsCh n.val).hot := by
  refine ⟨?_, ?_, ?_, ?_⟩
  · rw [Chip.flag, Chip.offWith, Chip.satInc, Chip.satAdd, Chip.get_stat_set_cnt _ _ _ rfl rfl]
    simp (disch := exact id rfl) only [Chip.gateOff, Chip.get_set_beside, Chip.updLs_get, Chip.get_setB_okb, b2n_ne_zero]
  · rw [Chip.offWith, Chip.satInc, Chip.satAdd, Chip.get_stat_set_cnt _ _ _ rfl rfl]
    exact Chip.get_set_fit _ rfl h
  · have hCnt {f : RFld} (d : Chip) (x : Nat) (hf : f.reg = LSC_CH_STAT n.val) :
        (d.set f x).get (LSC_CH_CNT_PROTOFF n.val) = d.get (LSC_CH_CNT_PROTOFF n.val) :=
      Chip.get_set_reg_ne d x (by rw [hf]; simp [LSC_CH_CNT_PROTOFF, LSC_CH_CNT, LSC_CH_STAT])
    rw [Chip.offWith, Chip.get_satInc_same _ rfl, hCnt _ _ rfl, Chip.gateOff, Chip.updLs_get, Chip.setB, hCnt _ _ rfl]
    rfl
  · rw [Chip.offWith, Chip.lsCh_satInc, Chip.lsCh_set, Chip.gateOff, Chip.lsCh_updLs_same, Chip.lsCh_setB]

theorem Chip.get_chan_offWith {g : RFld} (cause : Nat) (hStat : g.reg.addr % 64 ≠ 20) (hCnt : g.reg.addr % 64 ≠ 52) :
    (c.offWith n.val cause).get g = c.get g := by
  have hs : (LSC_CH_STAT n.val).addr ≠ g.reg.addr := (ne_stat_of_mod _ hStat).symm
  refine Chip.get_of_frame_ne (Chip.frame_trans (Chip.frame_trans (Chip.frame_gateOff c n.val (ps := [.lsc]) (by simp) hs)
    (Chip.frame_set _ _ _ hs)) (Chip.frame_set _ _ _ ?_))
  simp only [LSC_CH_CNT_PROTOFF, LSC_CH_CNT]
  omega

/-- What a switch-off writes beside STAT leaves a field of STAT alone. -/
theorem Chip.get_protOff {g : RFld} (cause : Nat) (hg : g.reg = LSC_CH_STAT n.val) (h : g.steady = true)
    (hs : (LSC_CH_STAT_PSTATE n.val).beside g = true) : (c.protOff n.val cause).get g = (c.offWith n.val cause).get g := by
  obtain ⟨r, hShape⟩ := c.protOff_shape n cause
  rw [hShape, Chip.get_stat_raise _ _ hg, Chip.get_setDist _ _ hg h, Chip.get_lsState _ _ _ hg hs, Chip.updLs_get]

theorem Chip.get_chan_protOff {g : RFld} (cause : Nat) (hLow : 0x30041000 ≤ g.reg.addr) (hHigh : g.reg.addr < 0x30041C00)
    (hStat : g.reg.addr % 64 ≠ 20) (hHold : g.reg.addr % 64 ≠ 32) : (c.protOff n.val cause).get g = (c.offWith n.val cause).get g := by
  obtain ⟨r, hShape⟩ := c.protOff_shape n cause
  rw [hShape, Chip.get_raise _ _ (by omega) _ (quiet_lsc (by omega)), Chip.get_chan_setDist _ _ hLow hHigh hStat,
    Chip.get_of_frame_ne (Chip.frame_lsState _ _ (ps := [.lsc]) (by simp) _ ?_ ?_), Chip.updLs_get]
  · exact (ne_stat_of_mod _ hStat).symm
  · simp only [LSC_CH_HOLD]
    omega

/-- A protection switch-off. -/
theorem Chip.protOff_effect {cause : Nat} (h : decide (cause < 16) = true) :
    (c.protOff n.val cause).flag (LSC_CH_STAT_OUT n.val) = false ∧ (c.protOff n.val cause).get (LSC_CH_STAT_CAUSE n.val) = cause ∧
    (c.protOff n.val cause).pstate n.val = c.offState n.val ∧
    (c.protOff n.val cause).get (LSC_CH_CNT_PROTOFF n.val) = min (c.get (LSC_CH_CNT_PROTOFF n.val) + 1) 0xFFFF ∧
    (c.protOff n.val cause).flag (LSC_BK_STAT_DIST (lsBank n.val)) = true ∧ (c.protOff n.val cause).pends n.val = true ∧
    ((c.protOff n.val cause).lsCh n.val).hot = (c.lsCh n.val).hot := by
  obtain ⟨hOut, hCause, hCnt, hHot⟩ := c.offWith_effect n h
  obtain ⟨r, hShape⟩ := c.protOff_shape n cause
  refine ⟨?_, ?_, ?_, ?_, ?_, ?_, ?_⟩
  · rwa [Chip.flag_eq_of_get (c.get_protOff n cause rfl rfl rfl)]
  · rwa [c.get_protOff n cause rfl rfl rfl]
  · rw [hShape, Chip.pstate, Chip.get_stat_raise _ _ rfl, Chip.get_setDist _ _ rfl rfl]
    exact Chip.pstate_lsState _ _ (c.offState_lt _)
  · rw [c.get_chan_protOff, hCnt] <;> simp only [LSC_CH_CNT_PROTOFF, LSC_CH_CNT] <;> omega
  · have hk : lsBank n.val < 12 := by
      simp only [lsBank]
      omega
    rw [hShape, Chip.flag_raise _ _ (by omega), Chip.dist_setDist _ hk]
    exact quiet_lsc (by simp only [LSC_BK_STAT_DIST, LSC_BK_STAT]; omega)
  · rw [hShape]
    exact Chip.pends_raise _ _ (by omega)
  · rw [← Chip.hot_settledCh, hShape, Chip.settledCh_raise _ _ (by omega), Chip.settledCh_setDist, Chip.settledCh_lsState,
      Chip.settledCh_updLs_same]
    exact hHot

end

/-! ### Temperature and retries (R115, R116) -/

section
variable (c : Chip) (n : Nat)

theorem Chip.neighbourHot_tj (x : Nat) : (c.set (LSC_CH_MEAS_TJ n) x).neighbourHot n = c.neighbourHot n := by
  have hState (j : Nat) : (c.set (LSC_CH_MEAS_TJ n) x).pstate j = c.pstate j :=
    Chip.get_set_reg_ne c x (ne_stat_of_mod (a := (LSC_CH_MEAS n).addr) j (by simp only [LSC_CH_MEAS]; omega)).symm
  simp only [Chip.neighbourHot, hState, Chip.lsCh_set, Chip.set_now]

/-- The module once the sensor of channel `n` shows a junction temperature. -/
def Chip.warmed (c : Chip) (n tj : Nat) (hot : Bool) : Chip := (c.set (LSC_CH_MEAS_TJ n) tj).updLs n fun x => { x with hot := hot }

theorem Chip.get_stat_warmed {g : RFld} (tj : Nat) (hot : Bool) (hg : g.reg = LSC_CH_STAT n) : (c.warmed n tj hot).get g = c.get g :=
  Chip.get_set_reg_ne c tj (by rw [hg]; simp [LSC_CH_STAT, LSC_CH_MEAS_TJ, LSC_CH_MEAS])

theorem Chip.tj_warmed (tj : Nat) (hot : Bool) : (c.warmed n tj hot).get (LSC_CH_MEAS_TJ n) = tj % 65536 := by
  have hWidth : (LSC_CH_MEAS_TJ n).hi - (LSC_CH_MEAS_TJ n).lo + 1 = 16 := rfl
  rw [Chip.warmed, Chip.updLs_get, Chip.get_set_same _ _ _ (RFld.ok_of rfl), hWidth]
  norm_num

theorem Chip.hot_warmed (tj : Nat) (hot : Bool) : ((c.warmed n tj hot).lsCh n).hot = hot := by
  rw [Chip.warmed, Chip.lsCh_updLs_same]

theorem Chip.thermalShutdown_shuts {tj : Nat} (ht : 1400 ≤ tj) (hs : c.pstate n ≤ 1) (ho : c.flag (LSC_CH_STAT_OUT n) = true) :
    c.thermalShutdown n tj = (c.warmed n tj true).protOff n (if c.neighbourHot n then 3 else 2) := by
  have hState : (c.warmed n tj true).pstate n = c.pstate n := c.get_stat_warmed n tj true rfl
  have hOut : (c.warmed n tj true).flag (LSC_CH_STAT_OUT n) = true := (Chip.flag_eq_of_get (c.get_stat_warmed n tj true rfl)).trans ho
  rw [Chip.warmed] at hState hOut
  rw [Chip.thermalShutdown, decide_eq_true ht, Chip.when_true, c.neighbourHot_tj n]
  simp only [hState, hOut, hs, Bool.true_or, if_true, Chip.warmed]

/-- The module once channel `n` is back in NORMAL for a retry. -/
def Chip.retried (c : Chip) (n : Nat) : Chip :=
  ((c.updLs n fun x => { x with retryAt := none }).satInc (LSC_CH_STAT_RETRIES n)).lsState n 0

theorem Chip.retryExpiry_retries {r : Nat} (hs : c.pstate n = 2) (hr : (c.lsCh n).retryAt = some r) (hd : r ≤ c.now)
    (hh : (c.lsCh n).hot = false) (ho : c.flag (LSC_CH_STAT_CMDON n) = true) (hp : (c.lsCh n).pwm = false)
    (hf : c.lsFaulted n = false) : c.retryExpiry n = (c.retried n).gateOnStatic n := by
  have hPwm : ((c.retried n).lsCh n).pwm = false := by
    rw [← Chip.pwm_settledCh, Chip.retried, Chip.settledCh_lsState]
    exact (congrArg LsChan.pwm (Chip.lsCh_updLs_same c n _)).trans hp
  have hFault : (c.retried n).lsFaulted n = false := hf
  have hDue : (c.pstate n == 2 && c.dueNow (c.lsCh n).retryAt && !(c.lsCh n).hot) = true := by
    simp [hs, hr, hh, Chip.dueNow, hd]
  rw [Chip.retryExpiry, hDue, Chip.when_true]
  simp only [Chip.updLs_flag, ho, if_true]
  rw [← Chip.retried, hPwm, hFault]
  rfl

theorem Chip.frame_retryExpiry {ps : List Part} {w : Nat → Prop} (hp : Part.lsc ∈ ps) (hb : ∀ a ∈ bankStats n, w a)
    (hw : w (LSC_CH_HOLD n).addr) : Chip.frame ps w c (c.retryExpiry n) := by
  have hStat := hb _ (stat_mem_bankStats n)
  have hBase := Chip.frame_updLs (w := w) c n (fun x => { x with retryAt := none }) hp
  have hRetried : Chip.frame ps w c (c.retried n) :=
    Chip.frame_trans (Chip.frame_trans hBase (Chip.frame_set ps _ _ hStat)) (Chip.frame_lsState _ n hp 0 hStat hw)
  refine Chip.frame_when _ ?_
  dsimp only
  split
  · split
    · exact hRetried
    · exact Chip.frame_trans hRetried (Chip.frame_gateOnStatic _ n hp hb)
  · exact Chip.frame_trans hBase (Chip.frame_lsState _ n hp 0 hStat hw)

theorem Chip.hot_retryExpiry : ((c.retryExpiry n).lsCh n).hot = (c.lsCh n).hot := by
  have hBase (d : Chip) (hd : d.settledCh n = (c.updLs n fun x => { x with retryAt := none }).settledCh n) :
      (d.lsCh n).hot = (c.lsCh n).hot := by
    rw [← Chip.hot_settledCh, hd, Chip.settledCh_updLs_same]
    rfl
  unfold Chip.retryExpiry Chip.when
  dsimp only
  split
  · split
    · split
      · exact hBase _ (Chip.settledCh_lsState _ n 0 n)
      · exact (Chip.lsCh_gateOnStatic _ n).2.trans (hBase _ (Chip.settledCh_lsState _ n 0 n))
    · exact hBase _ (Chip.settledCh_lsState _ n 0 n)
  · rfl

/-- What the sensor's reading below 160 °C leads to. -/
def Chip.recover (c : Chip) (n : Nat) : Chip :=
  if c.pstate n = 2 then c.retryExpiry n
  else if c.pstate n ≤ 1 && c.flag (LSC_CH_STAT_CMDON n) && !(c.lsCh n).pwm && !c.lsFaulted n then c.gateOnStatic n
  else c

theorem Chip.thermalRecovery_recovers {tj : Nat} (ht : tj < 1280) (hh : (c.lsCh n).hot = true) :
    c.thermalRecovery n tj = (c.warmed n tj false).recover n := by
  have hRecovers : (decide (tj < 1280) && ((c.set (LSC_CH_MEAS_TJ n) tj).lsCh n).hot) = true := by
    rw [Chip.lsCh_set, hh, decide_eq_true ht]
    rfl
  rw [Chip.thermalRecovery, hRecovers, Chip.when_true]
  rfl

theorem Chip.recover_effect : ((c.recover n).lsCh n).hot = (c.lsCh n).hot ∧ ∀ {w : Nat → Prop}, (∀ a ∈ bankStats n, w a) →
    w (LSC_CH_HOLD n).addr → Chip.frame [.lsc] w c (c.recover n) := by
  unfold Chip.recover
  split
  · exact ⟨c.hot_retryExpiry n, fun hb hw => c.frame_retryExpiry n (by simp) hb hw⟩
  · split
    · exact ⟨(c.lsCh_gateOnStatic n).2, fun hb _ => c.frame_gateOnStatic n (by simp) hb⟩
    · exact ⟨rfl, fun _ _ => Chip.frame_refl _ _ c⟩

end

/-! ### The inrush window (R113) -/

theorem Chip.inrushWindowEnd_effect (c : Chip) (n : Fin 48) {u : Nat} (hu : (c.lsCh n.val).irEnd = some u) (hd : u ≤ c.now) :
    (c.inrushWindowEnd n.val).flag (LSC_CH_STAT_INRUSH n.val) = false ∧
    (c.pstate n.val = 1 → (c.inrushWindowEnd n.val).flag (LSC_BK_STAT_DIST (lsBank n.val)) = true) := by
  have hk : lsBank n.val < 12 := by
    simp only [lsBank]
    omega
  have hDue : c.dueNow (c.lsCh n.val).irEnd = true := by simp [hu, Chip.dueNow, hd]
  rw [Chip.inrushWindowEnd, hDue, Chip.when_true]
  dsimp only
  have hEnded : ((c.setB (LSC_CH_STAT_INRUSH n.val) false).updLs n.val fun x => { x with irEnd := none }).flag (LSC_CH_STAT_INRUSH n.val)
      = false := Chip.flag_setB_same c _ _ (RFld.ok_of rfl)
  have hState : ((c.setB (LSC_CH_STAT_INRUSH n.val) false).updLs n.val fun x => { x with irEnd := none }).pstate n.val = c.pstate n.val := by
    simp (disch := exact id rfl) only [Chip.pstate, Chip.updLs_get, Chip.get_setB_beside]
  split
  · exact ⟨(Chip.flag_eq_of_get (Chip.get_setDist _ n rfl rfl)).trans hEnded, fun _ => Chip.dist_setDist _ hk⟩
  · rename_i hWithin
    refine ⟨hEnded, fun h1 => absurd ?_ hWithin⟩
    rw [Chip.limitsOutside, hState, hEnded, h1]
    rfl

/-! ### Clamp energy (R119 to R122) -/

section
variable (c : Chip) (n : Fin 48)

/-- The module once the clamp energy has entered the accumulator and the lifetime counter of channel `n`. -/
def Chip.energised (c : Chip) (n uj : Nat) : Chip :=
  ((c.satAdd (LSC_CH_EACC_UJ n) uj).satAdd (LSC_CH_ELIFE_J n) (((c.lsCh n).lifeUj + uj) / 1000000)).updLs n fun x =>
    { x with lifeUj := ((c.lsCh n).lifeUj + uj) % 1000000 }

/-- A clamp pulse above its rating is marked. -/
def Chip.pulseMarked (c : Chip) (n uj : Nat) : Chip :=
  c.when (decide (classRating (lsClass n) < uj)) fun c => (c.stick (LSC_CH_STAT_SPOVER n)).raise n

/-- The module once channel `n` is locked off for its clamp energy. -/
def Chip.lockedOff (c : Chip) (n : Nat) : Chip :=
  (((((((c.when (c.limitsOutside n) fun c => c.noteLimitEnd n).gateOff n).set (LSC_CH_STAT_CAUSE n) 4).updLs n fun x =>
    { x with pwm := false, retryAt := none, afterOff := true }).setB (LSC_CH_STAT_FLYWHEEL n) false).lsState n 4).refreshBank
    (lsBank n)).raise n

theorem Chip.demagnetisationEnd_eq (uj : Nat) : c.demagnetisationEnd n.val uj =
    ((c.energised n.val uj).pulseMarked n.val uj).when
      (decide (((c.energised n.val uj).pulseMarked n.val uj).get (LSC_CH_CLAMP_BUDGET n.val) * 100 <
        ((c.energised n.val uj).pulseMarked n.val uj).get (LSC_CH_EACC_UJ n.val))) fun c => c.lockedOff n.val := rfl

theorem Chip.eacc_satAdd (uj : Nat) : (c.satAdd (LSC_CH_EACC_UJ n.val) uj).get (LSC_CH_EACC_UJ n.val) =
    min (c.get (LSC_CH_EACC_UJ n.val) + uj) 0xFFFFFFFF :=
  Chip.get_set_fit c rfl (decide_eq_true (lt_of_le_of_lt (Nat.min_le_right _ _) (by simp [LSC_CH_EACC_UJ, RFld.top])))

theorem Chip.get_energised {g : RFld} (uj : Nat) (hAcc : g.reg.addr ≠ (LSC_CH_EACC n.val).addr)
    (hLife : g.reg.addr ≠ (LSC_CH_ELIFE n.val).addr) : (c.energised n.val uj).get g = c.get g := by
  rw [Chip.energised, Chip.updLs_get, Chip.satAdd, Chip.get_set_reg_ne _ _ hLife, Chip.satAdd, Chip.get_set_reg_ne _ _ hAcc]

theorem Chip.eacc_energised (uj : Nat) : (c.energised n.val uj).get (LSC_CH_EACC_UJ n.val) =
    min (c.get (LSC_CH_EACC_UJ n.val) + uj) 0xFFFFFFFF := by
  rw [Chip.energised, Chip.updLs_get, Chip.satAdd, Chip.get_set_reg_ne, Chip.eacc_satAdd]
  simp [LSC_CH_EACC_UJ, LSC_CH_EACC, LSC_CH_ELIFE_J, LSC_CH_ELIFE]

theorem Chip.get_pulseMarked {g : RFld} (uj : Nat) (hLow : 0x30040000 ≤ g.reg.addr) (hHigh : g.reg.addr < 0x30050000)
    (hStat : g.reg.addr % 64 ≠ 20) : (c.pulseMarked n.val uj).get g = c.get g := by
  rw [Chip.pulseMarked, Chip.get_when, Chip.get_raise _ _ (by omega) _ (quiet_lsc ⟨hLow, hHigh⟩), Chip.stick, Chip.setB,
    Chip.get_set_reg_ne _ _ (ne_stat_of_mod _ hStat), ite_self]

theorem Chip.pulseMarked_marks {uj : Nat} (h : classRating (lsClass n.val) < uj) :
    (c.pulseMarked n.val uj).flag (LSC_CH_STAT_SPOVER n.val) = true ∧ (c.pulseMarked n.val uj).pends n.val = true := by
  rw [Chip.pulseMarked, decide_eq_true h, Chip.when_true]
  exact ⟨(Chip.flag_eq_of_get (Chip.get_stat_raise _ n rfl)).trans (Chip.flag_setB_same c _ _ (RFld.ok_of rfl)),
    Chip.pends_raise _ _ (by omega)⟩

theorem Chip.lockedOff_effect : (c.lockedOff n.val).pstate n.val = 4 ∧ (c.lockedOff n.val).get (LSC_CH_STAT_CAUSE n.val) = 4 ∧
    (c.lockedOff n.val).flag (LSC_CH_STAT_OUT n.val) = false ∧ (c.lockedOff n.val).pends n.val = true ∧
    (c.lockedOff n.val).flag (LSC_CH_STAT_SPOVER n.val) = c.flag (LSC_CH_STAT_SPOVER n.val) := by
  refine ⟨?_, ?_, ?_, Chip.pends_raise _ _ (by omega), ?_⟩
  · rw [Chip.lockedOff, Chip.pstate, Chip.get_stat_raise _ _ rfl, Chip.get_refreshBank _ _ rfl rfl]
    exact Chip.pstate_lsState _ _ rfl
  · simp (disch := exact id rfl) only [Chip.lockedOff, Chip.get_stat_raise, Chip.get_refreshBank, Chip.get_lsState, Chip.get_setB_beside,
      Chip.updLs_get, Chip.get_set_fit]
  · simp (disch := exact id rfl) only [Chip.flag, Chip.lockedOff, Chip.get_stat_raise, Chip.get_refreshBank, Chip.get_lsState,
      Chip.get_setB_beside, Chip.updLs_get, Chip.get_set_beside, Chip.gateOff, Chip.get_setB_okb, b2n_ne_zero]
  · simp (disch := exact id rfl) only [Chip.flag, Chip.lockedOff, Chip.get_stat_raise, Chip.get_refreshBank, Chip.get_lsState,
      Chip.get_setB_beside, Chip.updLs_get, Chip.get_set_beside, Chip.gateOff, Chip.get_when, Chip.get_noteLimitEnd, ite_self]

theorem Chip.get_lockedOff {g : RFld} (hLow : 0x30040000 ≤ g.reg.addr) (hHigh : g.reg.addr < 0x30050000) (hStat : g.reg.addr % 64 ≠ 20)
    (hHold : g.reg.addr % 64 ≠ 32) : (c.lockedOff n.val).get g = c.get g := by
  have hs : (LSC_CH_STAT n.val).addr ≠ g.reg.addr := (ne_stat_of_mod _ hStat).symm
  have hb : ∀ a ∈ bankStats n.val, a ≠ g.reg.addr := fun a ha he => hStat (he ▸ mem_bankStats_mod ha)
  have hh : (LSC_CH_HOLD n.val).addr ≠ g.reg.addr := by
    simp only [LSC_CH_HOLD]
    omega
  rw [Chip.lockedOff, Chip.get_raise _ _ (by omega) _ (quiet_lsc ⟨hLow, hHigh⟩)]
  refine Chip.get_of_frame_ne (Chip.frame_trans (Chip.frame_trans ?_ (Chip.frame_lsState _ n.val (ps := [.lsc]) (by simp) 4 hs hh))
    (Chip.frame_refreshOwn _ n.val (by simp) hb))
  refine Chip.frame_trans (Chip.frame_trans (Chip.frame_trans ?_ (Chip.frame_set _ _ _ hs)) (Chip.frame_updLs _ _ _ (by simp)))
    (Chip.frame_set _ _ _ hs)
  exact Chip.frame_trans (Chip.frame_when _ (Chip.frame_updLs _ _ _ (by simp))) (Chip.frame_gateOff _ _ (by simp) hs)

/-- The accumulated energy, the mark of a pulse above its rating, and the lock above the budget. -/
theorem Chip.demagnetisationEnd_effect (uj : Nat) :
    (c.demagnetisationEnd n.val uj).get (LSC_CH_EACC_UJ n.val) = min (c.get (LSC_CH_EACC_UJ n.val) + uj) 0xFFFFFFFF ∧
    (classRating (lsClass n.val) < uj → (c.demagnetisationEnd n.val uj).flag (LSC_CH_STAT_SPOVER n.val) = true ∧
      (c.demagnetisationEnd n.val uj).pends n.val = true) ∧
    (c.get (LSC_CH_CLAMP_BUDGET n.val) * 100 < min (c.get (LSC_CH_EACC_UJ n.val) + uj) 0xFFFFFFFF →
      (c.demagnetisationEnd n.val uj).pstate n.val = 4 ∧ (c.demagnetisationEnd n.val uj).get (LSC_CH_STAT_CAUSE n.val) = 4 ∧
      (c.demagnetisationEnd n.val uj).flag (LSC_CH_STAT_OUT n.val) = false ∧ (c.demagnetisationEnd n.val uj).pends n.val = true) := by
  have hAddr : (LSC_CH_EACC_UJ n.val).reg.addr = 0x3004101C + 0x40 * n.val := rfl
  have hClamp : (LSC_CH_CLAMP_BUDGET n.val).reg.addr = 0x30041008 + 0x40 * n.val := rfl
  have hEacc : ((c.energised n.val uj).pulseMarked n.val uj).get (LSC_CH_EACC_UJ n.val) =
      min (c.get (LSC_CH_EACC_UJ n.val) + uj) 0xFFFFFFFF := by
    rw [Chip.get_pulseMarked _ _ _ (by omega) (by omega) (by omega), Chip.eacc_energised]
  have hBudget : ((c.energised n.val uj).pulseMarked n.val uj).get (LSC_CH_CLAMP_BUDGET n.val) = c.get (LSC_CH_CLAMP_BUDGET n.val) := by
    rw [Chip.get_pulseMarked _ _ _ (by omega) (by omega) (by omega), Chip.get_energised] <;>
      simp only [LSC_CH_CLAMP_BUDGET, LSC_CH_CLAMP, LSC_CH_EACC, LSC_CH_ELIFE] <;> omega
  obtain ⟨hState, hCause, hOut, hPend, hMark⟩ := ((c.energised n.val uj).pulseMarked n.val uj).lockedOff_effect n
  rw [c.demagnetisationEnd_eq n uj, hEacc, hBudget]
  by_cases hOver : c.get (LSC_CH_CLAMP_BUDGET n.val) * 100 < min (c.get (LSC_CH_EACC_UJ n.val) + uj) 0xFFFFFFFF
  · rw [decide_eq_true hOver, Chip.when_true]
    refine ⟨?_, fun hPulse => ⟨hMark.trans (Chip.pulseMarked_marks _ n hPulse).1, hPend⟩, fun _ => ⟨hState, hCause, hOut, hPend⟩⟩
    rw [Chip.get_lockedOff _ _ (by omega) (by omega) (by omega) (by omega), hEacc]
  · rw [decide_eq_false hOver, Chip.when_false]
    exact ⟨hEacc, Chip.pulseMarked_marks _ n, fun h => absurd h hOver⟩

end

/-! ### The leak of the accumulators (R119) -/

theorem mem_sliceChans {s m : Nat} : m ∈ sliceChans s ↔ m < 48 ∧ lsClass m = s := by
  simp [sliceChans]

theorem nodup_sliceChans (s : Nat) : (sliceChans s).Nodup := List.nodup_range.filter _

/-- One step of a channel's leak. -/
def Chip.leak (c : Chip) (k n : Nat) : Chip := c.set (LSC_CH_EACC_UJ n) (c.get (LSC_CH_EACC_UJ n) - c.get (LSC_CH_EACC_UJ n) / 2 ^ k)

theorem Chip.eacc_leak_same (c : Chip) (k n : Nat) :
    (c.leak k n).get (LSC_CH_EACC_UJ n) = c.get (LSC_CH_EACC_UJ n) - c.get (LSC_CH_EACC_UJ n) / 2 ^ k :=
  Chip.get_set_fit c rfl (decide_eq_true (lt_of_le_of_lt (Nat.sub_le _ _) (c.get_lt _)))

theorem Chip.eacc_leak_ne (c : Chip) (k : Nat) {n m : Nat} (h : m ≠ n) : (c.leak k n).get (LSC_CH_EACC_UJ m) = c.get (LSC_CH_EACC_UJ m) :=
  Chip.get_set_reg_ne c _ (by simpa [LSC_CH_EACC_UJ, LSC_CH_EACC] using h)

/-- Every listed channel leaks once. -/
theorem Chip.eacc_leaks (k m : Nat) (l : List Nat) (hl : l.Nodup) (c : Chip) :
    (forEach l (fun n c => c.leak k n) c).get (LSC_CH_EACC_UJ m) =
      if m ∈ l then c.get (LSC_CH_EACC_UJ m) - c.get (LSC_CH_EACC_UJ m) / 2 ^ k else c.get (LSC_CH_EACC_UJ m) := by
  induction l generalizing c with
  | nil => rfl
  | cons n l ih =>
    obtain ⟨hn, hRest⟩ := List.nodup_cons.mp hl
    have hStep : forEach (n :: l) (fun n c => c.leak k n) c = forEach l (fun n c => c.leak k n) (c.leak k n) := rfl
    rw [hStep, ih hRest]
    by_cases h : m = n
    · subst h
      simp [hn, Chip.eacc_leak_same]
    · simp [h, Chip.eacc_leak_ne c k h]

/-- Settles O18, condition by condition: each enters the protection state by the rule, and its writes are read back. -/
theorem loadSwitchProtection : Obligations.LoadSwitchProtection := by
  unfold Obligations.LoadSwitchProtection
  intro s n
  refine ⟨?_, ?_, ?_, ?_, ?_, ?_, ?_, ?_, ?_, ?_, ?_⟩
  · intro ma hs ho hl
    exact Runs.on (f := fun c => c.limitEnter n.val ma) rfl (s.chip.limitEnter_effect n ma hs ho hl)
  · intro ma hs hl
    refine Runs.on (f := fun c => c.limitExit n.val ma) rfl ?_
    rw [s.chip.limitExit_exits n.val ma hs hl]
    obtain ⟨hStart, hStat, hFrame⟩ := s.chip.unlimited_effect n.val ma
    refine ⟨?_, ?_, ?_, State.frame_chip ?_⟩
    · exact (Chip.get_refreshBank _ _ rfl rfl).trans (Chip.pstate_lsState _ _ rfl)
    · rw [← Chip.scStart_settledCh, Chip.settledCh_refreshBank, Chip.settledCh_lsState, hStart]
    · rw [Chip.flag_eq_of_get (Chip.get_refreshBank _ _ rfl rfl), Chip.flag_eq_of_get (Chip.get_lsState _ _ _ rfl rfl),
        Chip.flag_eq_of_get (hStat _ rfl)]
    · have hb : ∀ a ∈ bankStats n.val, among ([(LSC_CH_MEAS n.val).addr, (LSC_CH_HOLD n.val).addr] ++ bankStats n.val) a :=
        fun a h => among_of_mem (List.mem_append_right _ h)
      refine Chip.frame_trans (Chip.frame_trans (Chip.frame_mono _ hFrame (by simp) fun a h => ?_) ?_)
        (Chip.frame_refreshOwn _ _ (by simp) hb)
      · exact among_of_mem (List.mem_append_left _ (List.mem_cons.mpr (Or.inl (by simpa [among] using h))))
      · exact Chip.frame_lsState _ _ (by simp) _ (hb _ (stat_mem_bankStats _)) (among_of_mem (by simp))
  · intro u hs hu hd
    refine Runs.on (f := fun c => c.shortCircuitTimeout n.val) rfl ?_
    have hOver : (s.chip.pstate n.val == 1 && s.chip.dueNow ((s.chip.lsCh n.val).scStart.map
        (· + tscNs (s.chip.get (LSC_CH_PROT_TSC n.val))))) = true := by
      simp [hs, hu, Chip.dueNow, hd]
    rw [Chip.shortCircuitTimeout, hOver, Chip.when_true]
    obtain ⟨hOut, hCause, hState, hCnt, hDist, hPend, -⟩ := s.chip.protOff_effect n (cause := 1) rfl
    exact ⟨hOut, hCause, hState, hCnt, hDist, hPend⟩
  · intro tj ht hs ho
    refine Runs.on (f := fun c => c.thermalShutdown n.val tj) rfl ?_
    have hCause : decide ((if s.chip.neighbourHot n.val then 3 else 2) < 16) = true := by split <;> rfl
    rw [s.chip.thermalShutdown_shuts n.val ht hs ho]
    obtain ⟨hOut, hCaused, -, -, -, hPend, hHot⟩ := (s.chip.warmed n.val tj true).protOff_effect n hCause
    refine ⟨hOut, hCaused, hHot.trans (Chip.hot_warmed _ _ _ _), ?_, hPend⟩
    have hMeas : (LSC_CH_MEAS_TJ n.val).reg.addr = 0x30041018 + 0x40 * n.val := rfl
    rw [Chip.get_chan_protOff _ _ _ (by omega) (by omega) (by omega) (by omega), Chip.get_chan_offWith _ _ _ (by omega) (by omega),
      Chip.tj_warmed]
  · intro r hs hr hd hh ho hp hf hu
    refine Runs.on (f := fun c => c.retryExpiry n.val) rfl ?_
    have hFrame := s.chip.frame_retryExpiry n.val (ps := [.lsc]) (w := among (stopAddrs n.val)) (by simp)
      (fun a h => among_of_mem (List.mem_cons_of_mem _ h)) (among_of_mem (by simp [stopAddrs]))
    rw [s.chip.retryExpiry_retries n.val hs hr hd hh ho hp hf] at hFrame ⊢
    refine ⟨?_, Chip.out_gateOnStatic _ _ hu, ?_, State.frame_chip hFrame⟩
    · exact (Chip.get_gateOnStatic _ _ rfl rfl rfl rfl).trans (Chip.pstate_lsState _ _ rfl)
    · rw [Chip.get_gateOnStatic _ _ rfl rfl rfl rfl, Chip.retried, Chip.get_lsState _ _ _ rfl rfl, Chip.get_satInc_same _ rfl,
        Chip.updLs_get]
      rfl
  · intro tj ht hh
    refine Runs.on (f := fun c => c.thermalRecovery n.val tj) rfl ?_
    rw [s.chip.thermalRecovery_recovers n.val ht hh]
    obtain ⟨hHot, hFrame⟩ := (s.chip.warmed n.val tj false).recover_effect n.val
    refine ⟨hHot.trans (Chip.hot_warmed _ _ _ _), ?_, State.frame_chip (Chip.frame_trans (Chip.frame_trans (Chip.frame_set _ _ _ ?_)
      (Chip.frame_updLs _ _ _ (by simp))) (hFrame (fun a h => ?_) ?_))⟩
    · have hMeas : (LSC_CH_MEAS_TJ n.val).reg.addr = 0x30041018 + 0x40 * n.val := rfl
      have hBank : ∀ a ∈ bankStats n.val, a ≠ (LSC_CH_MEAS_TJ n.val).reg.addr := fun a ha he => by
        have hMod := mem_bankStats_mod ha
        omega
      rw [Chip.get_of_frame_ne (hFrame hBank (by simp only [LSC_CH_HOLD]; omega)), Chip.tj_warmed, Nat.mod_eq_of_lt (by omega)]
    · exact among_of_mem (by simp [LSC_CH_MEAS_TJ])
    · exact among_of_mem (List.mem_append_right _ h)
    · exact among_of_mem (by simp)
  · intro u hu hd
    refine Runs.on (f := fun c => c.retryCountReset n.val) rfl ?_
    have hDue : s.chip.dueNow ((s.chip.lsCh n.val).normalSince.map (· + 1000000000)) = true := by simp [hu, Chip.dueNow, hd]
    rw [Chip.retryCountReset, hDue, Chip.when_true]
    exact ⟨Chip.get_set_fit _ rfl rfl, State.frame_chip (Chip.frame_set _ _ _ (among_of_mem (by simp [LSC_CH_STAT_RETRIES])))⟩
  · intro u hu hd
    exact Runs.on (f := fun c => c.inrushWindowEnd n.val) rfl (s.chip.inrushWindowEnd_effect n hu hd)
  · intro uj
    exact Runs.on (f := fun c => c.demagnetisationEnd n.val uj) rfl (s.chip.demagnetisationEnd_effect n uj)
  · intro sl
    refine Runs.on (f := fun c => c.clampLeakTick sl.val) rfl ⟨fun m => ?_, State.frame_chip (Chip.frame_forEach _ _ fun m hm d => ?_)⟩
    · refine (Chip.eacc_leaks _ m.val _ (nodup_sliceChans sl.val) s.chip).trans ?_
      simp [mem_sliceChans]
    · obtain ⟨hLt, -⟩ := mem_sliceChans.mp hm
      exact Chip.frame_set _ _ _ (among_of_mem (List.mem_map.mpr ⟨m, List.mem_range.mpr hLt, rfl⟩))
  · intro k hDist hHeld
    refine Runs.on (f := fun c => c.distClear k.val) rfl ?_
    have hClears : (s.chip.flag (LSC_BK_STAT_DIST k.val) && !s.chip.distHeld k.val) = true := by simp [hDist, hHeld]
    rw [Chip.distClear, hClears, Chip.when_true]
    refine ⟨?_, State.frame_chip (Chip.frame_trans (Chip.frame_set _ _ _ (among_of_mem (by simp [LSC_BK_STAT_DIST])))
      (Chip.frame_refreshBank _ (by simp) _ fun a h => among_of_mem (List.mem_cons_of_mem _ h)))⟩
    rw [Chip.flag, Chip.dist_refreshBank _ k.isLt _ rfl, ← Chip.flag]
    exact Chip.flag_setB_same _ _ _ (RFld.ok_of rfl)

end Sys2Proof.Machine
end

section
/-! Register commands of the load switch channels and the cuff (R111, R116, R123, R130 to R139, R567). -/

namespace Sys2Proof.Machine

/-! ### Commands of a channel (R107, R111, R116, R123) -/

/-- A field above the bit set. -/
theorem bits_setBit_above (v : Nat) {i hi lo : Nat} (h : i < lo) : bits (setBit v i true) hi lo = bits v hi lo := by
  apply Nat.eq_of_testBit_eq
  intro j
  have hBit := bit_setBit_ne v (i := i) (j := lo + j) (by omega)
  simp only [bit] at hBit
  rw [bits_testBit, bits_testBit, hBit]

/-- The operation of a command, below its CLR and UNLOCK. -/
theorem op_setBit (v : Nat) {i : Nat} (h : 4 ≤ i) : setBit v i true % 16 = v % 16 := setBit_mod v h

section
variable (c : Chip) (n : Nat)

/-- CLR: the retries start again, and a latched channel returns to NORMAL. -/
def Chip.clrCmd (c : Chip) (n : Nat) : Chip :=
  (c.set (LSC_CH_STAT_RETRIES n) 0).when ((c.set (LSC_CH_STAT_RETRIES n) 0).pstate n == 3) fun c =>
    (c.setB (LSC_CH_STAT_CMDON n) false).lsState n 0

/-- UNLOCK: a channel that is locked off returns to NORMAL once its energy is low enough. -/
def Chip.unlockCmd (c : Chip) (n : Nat) : Chip :=
  if c.get (LSC_CH_EACC_UJ n) ≤ c.get (LSC_CH_CLAMP_REARM n) * 100 then (c.setB (LSC_CH_STAT_CMDON n) false).lsState n 0
  else c.lsRefuseCmd n stNOT_NOW

/-- The operation goes to the cuff with its fire tick. -/
def Chip.queueCmd (c : Chip) (n v : Nat) : Chip :=
  c.when (v % 16 != 4) fun c => c.addAction { fire := c.time.frc + 1500, cls := 0, target := n, arg := v % 16 + (bits v 31 16 <<< 16) }

theorem Chip.get_queueCmd (g : RFld) (v : Nat) : (c.queueCmd n v).get g = c.get g := by
  rw [Chip.queueCmd, Chip.get_when]
  exact ite_self _

theorem Chip.acts_queueCmd (v : Nat) : (c.queueCmd n v).seq.acts = c.seq.acts ++ (if v % 16 = 4 then [] else
    [{ fire := c.time.frc + 1500, cls := 0, target := n, arg := v % 16 + bits v 31 16 * 65536 }]) := by
  rw [Chip.queueCmd, Nat.shiftLeft_eq]
  by_cases h : v % 16 = 4
  · simp [h]
  · have hOp : (v % 16 != 4) = true := by simpa using h
    rw [hOp, Chip.when_true, if_neg h]
    rfl

theorem Chip.frame_queueCmd {ps : List Part} (w : Nat → Prop) (v : Nat) (h : Part.seq ∈ ps) : Chip.frame ps w c (c.queueCmd n v) :=
  Chip.frame_when _ (Chip.frame_seq c w _ h)

theorem Chip.lsCmdWrite_denied {w : Who} (v : Nat) (h : c.claims w.world 4 n = false) :
    c.lsCmdWrite w n v = c.lsRefuseCmd n stDENIED_WORLD := by
  simp [Chip.lsCmdWrite, h]

theorem Chip.lsCmdWrite_takes {w : Who} {v : Nat} (hw : c.claims w.world 4 n = true) (hv : v % 16 ≤ 4)
    (ho : c.flag (LSC_CH_STAT_ORPHAN n) = false) (hf : c.lsFaulted n = false) : c.lsCmdWrite w n v =
      ((c.when (bit v 6) fun c => c.clrCmd n).when (bit v 7 && (c.when (bit v 6) fun c => c.clrCmd n).pstate n == 4) fun c =>
        c.unlockCmd n).queueCmd n v := by
  have hOp : decide (4 < v % 16) = false := decide_eq_false (Nat.not_lt.mpr hv)
  simp only [Chip.lsCmdWrite, hw, hOp, ho, hf]
  rfl

/-- A channel that was latched, once CLR has returned it to NORMAL and its operation is on its way. -/
def Chip.clearedLatch (c : Chip) (n v : Nat) : Chip :=
  (((c.set (LSC_CH_STAT_RETRIES n) 0).setB (LSC_CH_STAT_CMDON n) false).lsState n 0).queueCmd n v

theorem Chip.clearedLatch_effect (v : Nat) :
    (c.clearedLatch n v).pstate n = 0 ∧ (c.clearedLatch n v).get (LSC_CH_STAT_RETRIES n) = 0 ∧
    (c.clearedLatch n v).flag (LSC_CH_STAT_CMDON n) = false ∧
    (c.clearedLatch n v).seq.acts = c.seq.acts ++ (if v % 16 = 4 then [] else
      [{ fire := c.time.frc + 1500, cls := 0, target := n, arg := v % 16 + bits v 31 16 * 65536 }]) ∧
    Chip.frame [.seq, .lsc] (among [(LSC_CH_STAT n).addr, (LSC_CH_HOLD n).addr]) c (c.clearedLatch n v) := by
  have hStat (ps : List Part) (d : Chip) (f : RFld) (x : Nat) (hf : f.reg = LSC_CH_STAT n) :
      Chip.frame ps (among [(LSC_CH_STAT n).addr, (LSC_CH_HOLD n).addr]) d (d.set f x) :=
    Chip.frame_set _ _ _ (among_of_mem (by simp [hf]))
  refine ⟨?_, ?_, ?_, ?_, ?_⟩
  · rw [Chip.pstate, Chip.clearedLatch, Chip.get_queueCmd]
    exact Chip.pstate_lsState _ n rfl
  · simp (disch := exact id rfl) only [Chip.clearedLatch, Chip.get_queueCmd, Chip.get_lsState, Chip.get_setB_beside, Chip.get_set_fit]
  · simp (disch := exact id rfl) only [Chip.flag, Chip.clearedLatch, Chip.get_queueCmd, Chip.get_lsState, Chip.get_setB_okb, b2n_ne_zero]
  · rw [Chip.clearedLatch, Chip.acts_queueCmd]
    rfl
  · refine Chip.frame_trans ?_ (Chip.frame_queueCmd _ n _ v (by simp))
    refine Chip.frame_trans ?_ (Chip.frame_lsState _ n (by simp) 0 (among_of_mem (by simp)) (among_of_mem (by simp)))
    exact Chip.frame_trans (hStat _ _ _ _ rfl) (hStat _ _ _ _ rfl)

/-- CLR leaves a channel that is not latched as it is, but for its retries. -/
theorem Chip.clrCmd_other (hs : c.pstate n ≠ 3) : c.clrCmd n = c.set (LSC_CH_STAT_RETRIES n) 0 := by
  have hState : (c.set (LSC_CH_STAT_RETRIES n) 0).pstate n = c.pstate n := Chip.get_set_beside c 0 rfl rfl
  rw [Chip.clrCmd, hState, beq_false_of_ne hs, Chip.when_false]

theorem Chip.clrCmd_latched (hs : c.pstate n = 3) :
    c.clrCmd n = ((c.set (LSC_CH_STAT_RETRIES n) 0).setB (LSC_CH_STAT_CMDON n) false).lsState n 0 := by
  have hState : (c.set (LSC_CH_STAT_RETRIES n) 0).pstate n = c.pstate n := Chip.get_set_beside c 0 rfl rfl
  rw [Chip.clrCmd, hState, hs, beq_self_eq_true, Chip.when_true]

end

section
variable (c : Chip) (n : Fin 48)

theorem Chip.unlockCmd_effect :
    (c.get (LSC_CH_EACC_UJ n.val) ≤ c.get (LSC_CH_CLAMP_REARM n.val) * 100 →
      (c.unlockCmd n.val).pstate n.val = 0 ∧ (c.unlockCmd n.val).flag (LSC_CH_STAT_CMDON n.val) = false) ∧
    (c.get (LSC_CH_CLAMP_REARM n.val) * 100 < c.get (LSC_CH_EACC_UJ n.val) →
      (c.unlockCmd n.val).pstate n.val = c.pstate n.val ∧ (c.unlockCmd n.val).get (LSC_CH_STAT_LASTERR n.val) = stNOT_NOW ∧
      (c.unlockCmd n.val).pends n.val = true) := by
  constructor
  · intro h
    rw [Chip.unlockCmd, if_pos h]
    refine ⟨Chip.pstate_lsState _ _ rfl, ?_⟩
    rw [Chip.flag_eq_of_get (Chip.get_lsState _ _ _ rfl rfl)]
    exact Chip.flag_setB_same _ _ _ (RFld.ok_of rfl)
  · intro h
    rw [Chip.unlockCmd, if_neg (Nat.not_le.mpr h)]
    exact ⟨Chip.get_lsRefuseCmd _ n _ rfl rfl, Chip.lasterr_lsRefuseCmd _ n rfl, Chip.pends_lsRefuseCmd _ n _⟩

/-- UNLOCK of a channel that is locked off. -/
theorem Chip.lsUnlock_effect {w : Who} {v : Nat} (hw : c.claims w.world 4 n.val = true) (hv : v % 16 ≤ 4) (h7 : bit v 7 = true)
    (ho : c.flag (LSC_CH_STAT_ORPHAN n.val) = false) (hf : c.lsFaulted n.val = false) (hs : c.pstate n.val = 4) :
    (c.get (LSC_CH_EACC_UJ n.val) ≤ c.get (LSC_CH_CLAMP_REARM n.val) * 100 → (c.lsCmdWrite w n.val v).pstate n.val = 0 ∧
      (c.lsCmdWrite w n.val v).flag (LSC_CH_STAT_CMDON n.val) = false) ∧
    (c.get (LSC_CH_CLAMP_REARM n.val) * 100 < c.get (LSC_CH_EACC_UJ n.val) → (c.lsCmdWrite w n.val v).pstate n.val = 4 ∧
      (c.lsCmdWrite w n.val v).get (LSC_CH_STAT_LASTERR n.val) = stNOT_NOW ∧ (c.lsCmdWrite w n.val v).pends n.val = true) := by
  have hCleared (f : RFld) (hf : (LSC_CH_STAT_RETRIES n.val).apart f) (hOk : f.ok) :
      (c.when (bit v 6) fun c => c.clrCmd n.val).get f = c.get f := by
    rw [Chip.get_when, c.clrCmd_other n.val (by omega), Chip.get_set_ne _ _ (RFld.ok_of rfl) hOk hf, ite_self]
  have hEacc := hCleared (LSC_CH_EACC_UJ n.val) (Or.inl (by simp [LSC_CH_EACC_UJ, LSC_CH_EACC, LSC_CH_STAT_RETRIES, LSC_CH_STAT]))
    (RFld.ok_of rfl)
  have hRearm := hCleared (LSC_CH_CLAMP_REARM n.val)
    (Or.inl (by simp [LSC_CH_CLAMP_REARM, LSC_CH_CLAMP, LSC_CH_STAT_RETRIES, LSC_CH_STAT])) (RFld.ok_of rfl)
  have hState : (c.when (bit v 6) fun c => c.clrCmd n.val).pstate n.val = 4 :=
    (hCleared (LSC_CH_STAT_PSTATE n.val) (Or.inr ⟨rfl, Or.inr (by simp [LSC_CH_STAT_PSTATE, LSC_CH_STAT_RETRIES])⟩)
      (RFld.ok_of rfl)).trans hs
  obtain ⟨hLow, hHigh⟩ := (c.when (bit v 6) fun c => c.clrCmd n.val).unlockCmd_effect n
  rw [hEacc, hRearm] at hLow hHigh
  rw [hState] at hHigh
  rw [c.lsCmdWrite_takes n.val hw hv ho hf, hState, h7, beq_self_eq_true, Bool.and_self, Chip.when_true]
  simp only [Chip.pstate, Chip.flag, Chip.pends, Chip.get_queueCmd] at hLow hHigh ⊢
  exact ⟨hLow, hHigh⟩

/-- CLR of a channel that is latched. -/
theorem Chip.lsClr_takes {w : Who} {v : Nat} (hw : c.claims w.world 4 n.val = true) (hv : v % 16 ≤ 4) (h6 : bit v 6 = true)
    (ho : c.flag (LSC_CH_STAT_ORPHAN n.val) = false) (hf : c.lsFaulted n.val = false) (hs : c.pstate n.val = 3) :
    c.lsCmdWrite w n.val v = c.clearedLatch n.val v := by
  have hState : (((c.set (LSC_CH_STAT_RETRIES n.val) 0).setB (LSC_CH_STAT_CMDON n.val) false).lsState n.val 0).pstate n.val = 0 :=
    Chip.pstate_lsState _ _ rfl
  rw [c.lsCmdWrite_takes n.val hw hv ho hf, h6, Chip.when_true, c.clrCmd_latched n.val hs, hState,
    show (0 == 4) = false from rfl, Bool.and_false, Chip.when_false, Chip.clearedLatch]

end

/-! ### SENSE_OUT and adoption (R130, R135) -/

theorem Chip.soselWrite_selects (c : Chip) {w : Who} {m v : Nat} (hv : v % 64 ≤ 47) (hb : c.ballHeld w.world (172 + m) 0 = true)
    (hw : c.claims w.world 4 (v % 64) = true ∨ w.world = 2) : c.soselWrite w m v = c.wrN (LSC_SOSEL m) (v &&& 0xBF) := by
  have hMay : (c.ballHeld w.world (172 + m) 0 && (c.claims w.world 4 (v % 64) || w.world == 2)) = true := by
    rw [hb, Bool.true_and]
    obtain h | h := hw
    · rw [h, Bool.true_or]
    · rw [h, beq_self_eq_true, Bool.or_true]
  simp only [Chip.soselWrite, decide_eq_false (Nat.not_lt.mpr hv), hMay, Bool.false_eq_true, if_false, if_true]

theorem Chip.sosel_wrN (c : Chip) (m v : Nat) : (c.wrN (LSC_SOSEL m) (v &&& 0xBF)).get (LSC_SOSEL_CH m) = v % 64 ∧
    (c.wrN (LSC_SOSEL m) (v &&& 0xBF)).flag (LSC_SOSEL_EN m) = v.testBit 7 := by
  have hGet (hi lo : Nat) : (c.wrN (LSC_SOSEL m) (v &&& 0xBF)).get ⟨LSC_SOSEL m, hi, lo⟩ = bits (v &&& 0xBF) hi lo := by
    have hFits : v &&& 0xBF < 2 ^ 128 := lt_of_le_of_lt Nat.and_le_right (by norm_num)
    rw [Chip.wrN, Chip.get_wr_same c ⟨LSC_SOSEL m, hi, lo⟩, BitVec.toNat_ofNat, Nat.mod_eq_of_lt hFits]
  constructor
  · rw [LSC_SOSEL_CH, hGet]
    calc bits (v &&& 0xBF) 5 0 = (v &&& 0xBF) % 2 ^ 6 := rfl
      _ = v % 2 ^ 6 &&& 2 ^ 6 - 1 := Nat.and_mod_two_pow
      _ = v % 64 := by exact (Nat.and_two_pow_sub_one_eq_mod _ _).trans (Nat.mod_mod _ _)
  · rw [LSC_SOSEL_EN, Chip.flag, hGet]
    have hBit : (v &&& 0xBF).testBit 7 = v.testBit 7 := by
      rw [Nat.testBit_and, show Nat.testBit 0xBF 7 = true from rfl, Bool.and_true]
    rw [← hBit, Nat.testBit_eq_decide_div_mod_eq, bits, Nat.shiftRight_eq_div_pow]
    change ((v &&& 0xBF) / 2 ^ 7 % 2 != 0) = _
    obtain h | h := Nat.mod_two_eq_zero_or_one ((v &&& 0xBF) / 2 ^ 7) <;> rw [h] <;> rfl

/-- The module once channel `n` is adopted. -/
def Chip.adopted (c : Chip) (n : Nat) : Chip :=
  ((c.set (LSC_CH_HOLD_ORPHT n) (c.orphanMs n)).setB (LSC_CH_STAT_ORPHAN n) false).setB (LSC_CH_STAT_ADOPTED n) true

theorem Chip.lsAdopt_adopts (c : Chip) {w : Who} {v : Nat} (ha : c.flag (LSC_CH_STAT_ADOPTED (v % 64)) = false)
    (hs : c.adoptStatus w (v % 64) (bits v 23 16) = stOK) : c.lsAdopt w v =
      (Chip.adopted { c with lsc := { c.lsc with adoptRes := put 0 c.lsc.adoptRes w.key (v % 64) } } (v % 64)).showNadopt := by
  simp only [Chip.lsAdopt, hs, stOK, Nat.zero_shiftLeft, Nat.add_zero, ne_eq, not_true_eq_false, if_false]
  rw [if_neg]
  · rfl
  · simpa using ha

theorem Chip.get_showNadopt (c : Chip) {g : RFld} (hg : g.reg.addr ≠ LSC_STAT.addr) : c.showNadopt.get g = c.get g :=
  Chip.get_set_reg_ne c _ hg

theorem Chip.adopted_effect (c : Chip) (n : Nat) : (c.adopted n).showNadopt.flag (LSC_CH_STAT_ADOPTED n) = true ∧
    (c.adopted n).showNadopt.flag (LSC_CH_STAT_ORPHAN n) = false := by
  have hKept (f : RFld) (hf : f.reg = LSC_CH_STAT n) : (c.adopted n).showNadopt.get f = (c.adopted n).get f :=
    Chip.get_showNadopt _ (by rw [hf]; simp only [LSC_CH_STAT, LSC_STAT]; omega)
  rw [Chip.flag_eq_of_get (hKept _ rfl), Chip.flag_eq_of_get (hKept _ rfl)]
  constructor
  · exact Chip.flag_setB_same _ _ _ (RFld.ok_of rfl)
  · simp (disch := exact id rfl) only [Chip.adopted, Chip.flag, Chip.get_setB_beside, Chip.get_setB_okb, b2n_ne_zero]

/-! ### Safe-off (R111, R136) -/

/-- Every channel is given one action in turn. -/
theorem Chip.acts_forAll_addAction (x : Nat → Nat → Action) (n : Nat) (c : Chip) :
    (forAll n (fun i c => c.addAction (x c.time.frc i)) c).seq.acts = c.seq.acts ++ (List.range n).map (x c.time.frc) ∧
    (forAll n (fun i c => c.addAction (x c.time.frc i)) c).time = c.time := by
  induction n with
  | zero => exact ⟨by simp [forAll], rfl⟩
  | succ n ih =>
    obtain ⟨hActs, hTime⟩ := ih
    rw [forAll_succ]
    refine ⟨?_, hTime⟩
    have hAdd (d : Chip) (y : Action) : (d.addAction y).seq.acts = d.seq.acts ++ [y] := rfl
    rw [hAdd, hActs, hTime, List.append_assoc, List.range_succ, List.map_append, List.map_singleton]

/-- The counters of every channel cleared. -/
def Chip.lsCounters (c : Chip) : Chip := forAll 48 (fun n c => c.wrN (LSC_CH_CNT n) 0) c

/-- An off for every channel on its way. -/
def Chip.allOff (c : Chip) : Chip := forAll 48 (fun n c => c.addAction { fire := c.time.frc + 1500, cls := 0, target := n, arg := 16 }) c

theorem Chip.lscCtlWrite_takes (c : Chip) {w : Who} (v : Nat) (hw : w.world = 2) :
    c.lscCtlWrite w v = (c.when (bit v 1) Chip.lsCounters).when (bit v 0) Chip.allOff := by
  rw [Chip.lscCtlWrite, if_neg (not_not_intro hw)]
  rfl

theorem Chip.acts_allOff (c : Chip) : c.allOff.seq.acts =
    c.seq.acts ++ (List.range 48).map fun n => { fire := c.time.frc + 1500, cls := 0, target := n, arg := 16 } :=
  (Chip.acts_forAll_addAction (fun t n => { fire := t + 1500, cls := 0, target := n, arg := 16 }) 48 c).1

theorem Chip.frame_allOff {ps : List Part} (w : Nat → Prop) (c : Chip) (h : Part.seq ∈ ps) : Chip.frame ps w c c.allOff :=
  Chip.frame_forAll 48 c fun _ _ d => Chip.frame_seq d w _ h

theorem Chip.frame_lsCounters (ps : List Part) (c : Chip) : Chip.frame ps (among (addrs 48 LSC_CH_CNT)) c c.lsCounters :=
  Chip.frame_forAll 48 c fun n hn d => Chip.frame_wr ps d _ (among_of_mem (List.mem_map.mpr ⟨n, List.mem_range.mpr hn, rfl⟩))

theorem Chip.cnt_lsCounters (c : Chip) (n : Fin 48) : c.lsCounters.rd (LSC_CH_CNT n.val) = 0 :=
  Chip.rd_forAll_wrN (fun _ => 0) (fun i j h => by simpa [LSC_CH_CNT] using h) 48 c n.isLt

theorem Chip.parts_lsCounters (c : Chip) : c.lsCounters.seq = c.seq ∧ c.lsCounters.time = c.time := by
  obtain ⟨hParts, -⟩ := c.frame_lsCounters []
  exact ⟨hParts .seq (by simp), hParts .time (by simp)⟩

/-! ### The cuff's reset (R137) -/

/-- What the operation for `i` brings about holds after all `n`, if those for other numbers keep it, and keep what it starts from. -/
theorem forAll_reaches {σ : Type} {p q : σ → Prop} {u : Nat → σ → σ} {n i : Nat} (hi : i < n) (h : ∀ d, q d → p (u i d))
    (hq : ∀ j < n, j ≠ i → ∀ d, q d → q (u j d)) (hk : ∀ j < n, j ≠ i → ∀ d, p d → p (u j d)) {c : σ} (hc : q c) : p (forAll n u c) := by
  induction n with
  | zero => omega
  | succ n ih =>
    rw [forAll_succ]
    by_cases hn : n = i
    · rw [hn]
      exact h _ (forAll_keeps i (fun j hj => hq j (by omega) (by omega)) hc)
    · exact hk n (by omega) hn _ (ih (by omega) (fun j hj => hq j (by omega)) fun j hj => hk j (by omega))

/-- Listed registers brought to their reset values in turn. -/
def Chip.restored (c : Chip) (l : List Reg) : Chip := l.foldl (fun c r => c.wrN r r.rst) c

theorem Chip.rd_restored_ne (l : List Reg) (c : Chip) {q : Reg} (h : ∀ r ∈ l, q.addr ≠ r.addr) : (c.restored l).rd q = c.rd q := by
  induction l generalizing c with
  | nil => rfl
  | cons r l ih =>
    have hStep : c.restored (r :: l) = (c.wrN r r.rst).restored l := rfl
    rw [hStep, ih _ fun r hr => h r (List.mem_cons_of_mem _ hr), Chip.wrN, Chip.rd_wr_ne _ _ (h r (by simp))]

theorem Chip.rd_restored_mem (l : List Reg) (c : Chip) {q : Reg} (hq : q ∈ l) (hl : (l.map Reg.addr).Nodup) :
    (c.restored l).rd q = BitVec.ofNat 128 q.rst := by
  induction l generalizing c with
  | nil => simp at hq
  | cons r l ih =>
    obtain ⟨hNew, hRest⟩ := List.nodup_cons.mp hl
    have hStep : c.restored (r :: l) = (c.wrN r r.rst).restored l := rfl
    rw [hStep]
    obtain h | h := List.mem_cons.mp hq
    · rw [h, Chip.rd_restored_ne l _ fun p hp he => hNew (he ▸ List.mem_map_of_mem hp), Chip.wrN, Chip.rd_wr_same]
    · exact ih _ h hRest

/-- The registers of a channel that a reset of the cuff clears. -/
def resetRegs (n : Nat) : List Reg :=
  [LSC_CH_CFG n, LSC_CH_PROT n, LSC_CH_CLAMP n, LSC_CH_PWMPER n, LSC_CH_STAT n, LSC_CH_MEAS n, LSC_CH_HOLD n]

theorem resetRegs_nodup (n : Nat) : ((resetRegs n).map Reg.addr).Nodup := by
  simp [resetRegs, LSC_CH_CFG, LSC_CH_PROT, LSC_CH_CLAMP, LSC_CH_PWMPER, LSC_CH_STAT, LSC_CH_MEAS, LSC_CH_HOLD]

theorem resetRegs_place {n : Nat} {r : Reg} (h : r ∈ resetRegs n) : 0x30041000 + 0x40 * n ≤ r.addr ∧ r.addr < 0x30041040 + 0x40 * n := by
  simp only [resetRegs, List.mem_cons, List.not_mem_nil, or_false] at h
  obtain h | h | h | h | h | h | h := h <;> subst h <;>
    simp only [LSC_CH_CFG, LSC_CH_PROT, LSC_CH_CLAMP, LSC_CH_PWMPER, LSC_CH_STAT, LSC_CH_MEAS, LSC_CH_HOLD] <;> omega

/-- One channel after a reset of the cuff. -/
def Chip.resetChan (c : Chip) (n : Nat) : Chip :=
  (c.restored (resetRegs n)).updLs n fun _ => { orphanAt := (c.restored (resetRegs n)).now, lifeUj := (c.lsCh n).lifeUj }

/-- The registers of banks, lugs and SENSE_OUT cleared. -/
def Chip.resetSupply (c : Chip) : Chip :=
  forAll 4 (fun j c => (c.wrN (LSC_LUG_STAT j) 0).wrN (LSC_SOSEL j) 0) (forAll 12 (fun k c => c.wrN (LSC_BK_STAT k) 0) c)

/-- What a reset of the cuff does beside the registers. -/
def Chip.dropCuff (c : Chip) : Chip :=
  { c with
    seq := { c.seq with acts := c.seq.acts.filter fun a => a.cls != 0 }
    lsc := { c.lsc with
      sliceFault := [], heartbeat := none, vbkLow := [], vbkLowEnd := [], bankMa := [], bankFilt := [], lugFilt := [] } }

theorem Chip.rd_dropCuff (c : Chip) (q : Reg) : c.dropCuff.rd q = c.rd q := rfl

theorem Chip.acts_dropCuff (c : Chip) : c.dropCuff.seq.acts = c.seq.acts.filter fun a => a.cls != 0 := rfl

theorem Chip.cuffClear_eq (c : Chip) : c.cuffClear = (forAll 48 (fun n c => c.resetChan n) c).resetSupply.dropCuff := rfl

theorem Chip.rd_resetChan_same (c : Chip) (n : Nat) {q : Reg} (hq : q ∈ resetRegs n) :
    (c.resetChan n).rd q = BitVec.ofNat 128 q.rst := Chip.rd_restored_mem _ c hq (resetRegs_nodup n)

theorem Chip.rd_resetChan_ne (c : Chip) {n m : Nat} (h : m ≠ n) {q : Reg} (hq : q ∈ resetRegs m) : (c.resetChan n).rd q = c.rd q := by
  refine Chip.rd_restored_ne _ c fun r hr => ?_
  have hRange := resetRegs_place hr
  have hPlace := resetRegs_place hq
  omega

theorem Chip.rd_resetSupply (c : Chip) {q : Reg} (hLow : 0x30041000 ≤ q.addr) (hHigh : q.addr < 0x30041C00) :
    c.resetSupply.rd q = c.rd q := by
  have hBanks : (forAll 12 (fun k c => c.wrN (LSC_BK_STAT k) 0) c).rd q = c.rd q :=
    Chip.rd_forAll_wrN_ne (fun _ => 0) 12 c fun k _ => by simp only [LSC_BK_STAT]; omega
  unfold Chip.resetSupply
  refine forAll_keeps 4 (p := fun d : Chip => d.rd q = c.rd q) (fun j hj d hd => ?_) hBanks
  rw [Chip.wrN, Chip.rd_wr_ne, Chip.wrN, Chip.rd_wr_ne, hd]
  · simp only [LSC_LUG_STAT]; omega
  · simp only [LSC_SOSEL]; omega

theorem Chip.rd_cuffClear (c : Chip) (n : Fin 48) {q : Reg} (hq : q ∈ resetRegs n.val) : c.cuffClear.rd q = BitVec.ofNat 128 q.rst := by
  have hPlace := resetRegs_place hq
  have hChans : (forAll 48 (fun n c => c.resetChan n) c).rd q = BitVec.ofNat 128 q.rst :=
    forAll_reaches (p := fun d : Chip => d.rd q = BitVec.ofNat 128 q.rst) (q := fun _ => True) n.isLt
      (fun d _ => d.rd_resetChan_same n.val hq) (fun _ _ _ _ _ => trivial)
      (fun j _ hj d hd => (d.rd_resetChan_ne hj.symm hq).trans hd) trivial
  rw [c.cuffClear_eq, Chip.rd_dropCuff, Chip.rd_resetSupply _ (by omega) (by omega), hChans]

theorem Chip.seq_restored (l : List Reg) (c : Chip) : (c.restored l).seq = c.seq := by
  induction l generalizing c with
  | nil => rfl
  | cons r l ih => exact ih (c.wrN r r.rst)

theorem Chip.seq_resetChan (c : Chip) (n : Nat) : (c.resetChan n).seq = c.seq := c.seq_restored (resetRegs n)

theorem Chip.acts_cuffClear (c : Chip) : c.cuffClear.seq.acts = c.seq.acts.filter fun a => a.cls != 0 := by
  have hChans : (forAll 48 (fun n c => c.resetChan n) c).seq = c.seq :=
    forAll_keeps 48 (p := fun d : Chip => d.seq = c.seq) (c := c) (fun n _ d hd => (d.seq_resetChan n).trans hd) rfl
  have hBanks (d : Chip) : (forAll 12 (fun k c => c.wrN (LSC_BK_STAT k) 0) d).seq = d.seq :=
    forAll_keeps 12 (p := fun e : Chip => e.seq = d.seq) (u := fun k c => c.wrN (LSC_BK_STAT k) 0) (fun _ _ _ he => he) rfl
  have hSupply (d : Chip) : d.resetSupply.seq = d.seq :=
    forAll_keeps 4 (p := fun e : Chip => e.seq = d.seq) (u := fun j c => (c.wrN (LSC_LUG_STAT j) 0).wrN (LSC_SOSEL j) 0)
      (fun _ _ _ he => he) (hBanks d)
  rw [c.cuffClear_eq, Chip.acts_dropCuff, hSupply, hChans]

theorem Chip.nadopt_of_none {c : Chip} (h : ∀ n < 48, c.flag (LSC_CH_STAT_ADOPTED n) = false) : c.showNadopt.get LSC_STAT_NADOPT = 48 := by
  have hAll : (List.range 48).filter (fun n => !c.flag (LSC_CH_STAT_ADOPTED n)) = List.range 48 :=
    List.filter_eq_self.mpr fun n hn => by rw [h n (List.mem_range.mp hn)]; rfl
  rw [Chip.showNadopt, hAll]
  exact Chip.get_set_fit c rfl rfl

theorem Chip.adopted_cuffClear (c : Chip) (n : Fin 48) : c.cuffClear.flag (LSC_CH_STAT_ADOPTED n.val) = false := by
  rw [Chip.flag, Chip.get, show (LSC_CH_STAT_ADOPTED n.val).reg = LSC_CH_STAT n.val from rfl,
    c.rd_cuffClear n (by simp [resetRegs])]
  simp [LSC_CH_STAT, LSC_CH_STAT_ADOPTED, bits]

theorem Chip.cuffReset_takes (c : Chip) {w : Who} {v : Nat} (hw : w.world = 0) (hs : c.flag RST_STAT_SEALED = false)
    (hk : v % 65536 = 0x5A3C) : c.cuffReset w v = c.cuffClear.showNadopt := by
  rw [Chip.cuffReset, if_neg (not_not_intro hw), hs, if_neg Bool.false_ne_true, hk]
  rfl

theorem Chip.heartbeatWrite_takes (c : Chip) {w : Who} {odly hbt codes : Nat} (hw : w.world = 2)
    (hp : c.lsc.policy = some (odly, hbt, codes)) (hh : hbt ≠ 0) :
    c.heartbeatWrite w = { c with lsc := { c.lsc with heartbeat := some (c.now + hbt * 1000000) } } := by
  rw [Chip.heartbeatWrite, if_neg (not_not_intro hw), hp]
  exact if_neg hh

theorem Chip.frame_adopted (c : Chip) (n : Nat) :
    Chip.frame [.lsc] (among [(LSC_CH_STAT n).addr, (LSC_CH_HOLD n).addr, LSC_STAT.addr]) c (c.adopted n).showNadopt :=
  Chip.frame_trans (Chip.frame_trans (Chip.frame_trans (Chip.frame_set _ c _ (among_of_mem (by simp [LSC_CH_HOLD_ORPHT])))
    (Chip.frame_set _ _ _ (among_of_mem (by simp [LSC_CH_STAT_ORPHAN]))))
    (Chip.frame_set _ _ _ (among_of_mem (by simp [LSC_CH_STAT_ADOPTED]))))
    (Chip.frame_set _ _ _ (among_of_mem (by simp [LSC_STAT_NADOPT])))

/-- Settles O19, command by command: each is written out for the world that may give it, and its writes are read back. -/
theorem loadSwitchCommands : Obligations.LoadSwitchCommands := by
  unfold Obligations.LoadSwitchCommands
  intro s a v ha
  refine ⟨?_, ?_, ?_, ?_, ?_, ?_, ?_, ?_, ?_⟩
  · intro n hw hv ho hf hs
    refine Runs.by (f := fun w c => c.lsCmdWrite w n.val (setBit v.toNat 7 true)) rfl ha ?_
    exact s.chip.lsUnlock_effect n hw (by rwa [op_setBit _ (by omega)]) (bit_setBit_same _ _) ho hf hs
  · intro n hw hv ho hf hs
    refine Runs.by (f := fun w c => c.lsCmdWrite w n.val (setBit v.toNat 6 true)) rfl ha ?_
    rw [s.chip.lsClr_takes n hw (by rwa [op_setBit _ (by omega)]) (bit_setBit_same _ _) ho hf hs]
    obtain ⟨hState, hRetries, hOn, hActs, hFrame⟩ := s.chip.clearedLatch_effect n.val (setBit v.toNat 6 true)
    rw [op_setBit _ (by omega), bits_setBit_above _ (by omega)] at hActs
    exact ⟨hState, hRetries, hOn, hActs, State.frame_chip hFrame⟩
  · intro n hw
    refine Runs.by (f := fun w c => c.lsCmdWrite w n.val (setBit v.toNat 6 true)) rfl ha ?_
    rw [s.chip.lsCmdWrite_denied n.val _ hw]
    exact ⟨Chip.lasterr_lsRefuseCmd _ n rfl, Chip.pends_lsRefuseCmd _ n _, Chip.refused_lsRefuseCmd _ n _,
      State.frame_chip (Chip.frame_lsRefuseCmd _ n _)⟩
  · intro m hv hb hw
    refine Runs.by (f := fun w c => c.soselWrite w m.val v.toNat) rfl ha ?_
    rw [s.chip.soselWrite_selects hv hb hw]
    obtain ⟨hCh, hEn⟩ := s.chip.sosel_wrN m.val v.toNat
    exact ⟨hCh, hEn, State.frame_chip (Chip.frame_wr _ _ _ (among_of_mem (by simp)))⟩
  · intro odly hbt codes hw hp hh
    refine Runs.by (f := fun w c => c.heartbeatWrite w) rfl ha ?_
    rw [s.chip.heartbeatWrite_takes hw hp hh]
    exact ⟨rfl, State.frame_chip (Chip.frame_lsc _ _ (by simp))⟩
  · intro hv hAdopted hs
    refine Runs.by (f := fun w c => c.lsAdopt w v.toNat) rfl ha ?_
    rw [s.chip.lsAdopt_adopts hAdopted hs]
    obtain ⟨hAdopted, hOrphan⟩ := Chip.adopted_effect { s.chip with lsc := { s.chip.lsc with
      adoptRes := put 0 s.chip.lsc.adoptRes (s.chip.who a).key (v.toNat % 64) } } (v.toNat % 64)
    refine ⟨hAdopted, hOrphan, look_put_same _ _ _ _, State.frame_chip ?_⟩
    exact Chip.frame_trans (Chip.frame_lsc _ _ (by simp)) (Chip.frame_adopted _ _)
  · intro hw
    refine Runs.by (f := fun w c => c.lscCtlWrite w (setBit v.toNat 0 true)) rfl ha ?_
    have hClear : bit (setBit v.toNat 0 true) 1 = v.toNat.testBit 1 := bit_setBit_ne _ (by omega)
    rw [s.chip.lscCtlWrite_takes _ hw, bit_setBit_same, Chip.when_true, hClear]
    refine ⟨?_, State.frame_chip (Chip.frame_trans ?_ (Chip.frame_allOff _ _ (by simp)))⟩
    · obtain ⟨hSeq, hTime⟩ := s.chip.parts_lsCounters
      rw [Chip.acts_allOff]
      cases v.toNat.testBit 1
      · rfl
      · rw [Chip.when_true, hSeq, hTime]
    · cases v.toNat.testBit 1
      · exact Chip.frame_refl _ _ _
      · exact s.chip.frame_lsCounters _
  · intro hw
    refine Runs.by (f := fun w c => c.lscCtlWrite w (setBit v.toNat 1 true)) rfl ha fun n => ?_
    rw [s.chip.lscCtlWrite_takes _ hw, bit_setBit_same, Chip.when_true]
    have hAllOff : Chip.frame [.seq] (among []) s.chip.lsCounters (s.chip.lsCounters.when (bit (setBit v.toNat 1 true) 0) Chip.allOff) :=
      Chip.frame_when _ (Chip.frame_allOff _ _ (by simp))
    obtain ⟨-, hRegs, -⟩ := hAllOff
    exact (hRegs _ (by simp [among])).trans (s.chip.cnt_lsCounters n)
  · intro hw hs hk
    refine Runs.by (f := fun w c => c.cuffReset w v.toNat) rfl ha ?_
    rw [s.chip.cuffReset_takes hw hs hk]
    refine ⟨fun n => ?_, Chip.nadopt_of_none fun n hn => s.chip.adopted_cuffClear ⟨n, hn⟩, s.chip.acts_cuffClear⟩
    have hKept (q : Reg) (hq : q ∈ resetRegs n.val) : s.chip.cuffClear.showNadopt.rd q = BitVec.ofNat 128 q.rst := by
      rw [Chip.showNadopt, Chip.set, Chip.rd_wr_ne, s.chip.rd_cuffClear n hq]
      have hPlace := resetRegs_place hq
      simp only [LSC_STAT_NADOPT, LSC_STAT]
      omega
    exact ⟨hKept _ (by simp [resetRegs]), hKept _ (by simp [resetRegs]), hKept _ (by simp [resetRegs])⟩

end Sys2Proof.Machine
end

section
/-! Budgets, silence, fallback and faults of the load switch cuff (R125, R127, R132 to R140). -/

namespace Sys2Proof.Machine

theorem Chip.get_lsc_raise (c : Chip) {k : Nat} (hk : k < 1024) {g : RFld} (h : 0x30040000 ≤ g.reg.addr ∧ g.reg.addr < 0x30050000) :
    (c.raise k).get g = c.get g := Chip.get_raise c k hk g (quiet_lsc h)

theorem Chip.get_lsc_part (c : Chip) (g : RFld) (b : LscBlk) : Chip.get { c with lsc := b } g = c.get g := rfl

theorem bk_stat_place {k : Nat} (hk : k < 12) : 0x30040000 ≤ (LSC_BK_STAT k).addr ∧ (LSC_BK_STAT k).addr < 0x30050000 := by
  simp only [LSC_BK_STAT]
  omega

/-! ### The budget tick (R125, R127) -/

section
variable (c : Chip) (k ma mv : Nat)

/-- The module once bank `k`'s current and voltage of a budget tick are taken over. -/
def Chip.bankMeasured (c : Chip) (k ma mv : Nat) : Chip :=
  let f := filterStep (look 0 c.lsc.bankFilt k) ma 128 1000000
  let low := decide (mv < 5500)
  let d : Chip := { c with lsc := { c.lsc with
    bankMa := put 0 c.lsc.bankMa k ma, bankFilt := put 0 c.lsc.bankFilt k f, vbkLow := put false c.lsc.vbkLow k low
    vbkLowEnd := if look false c.lsc.vbkLow k && !low then put none c.lsc.vbkLowEnd k (some c.now) else c.lsc.vbkLowEnd } }
  (d.set (LSC_BK_STAT_VBK k) (min (mv / 10) 0xFFFF)).set (LSC_BK_STAT_IFILT k) (min (f / 100000) 0xFFF)

/-- Bank `k` is disturbed below 5.50 V. -/
def Chip.bankDisturbed (c : Chip) (k mv : Nat) : Chip := if decide (mv < 5500) then c.setDist k else c.refreshBank k

/-- Bank `k`'s filtered current `f` against its budget. -/
def Chip.bankJudged (c : Chip) (k f : Nat) : Chip :=
  (c.setB (LSC_BK_STAT_OVER k) (decide (c.get (LSC_BK_CFG_BUDGET k) * 100000 < f))).when
    (decide (c.get (LSC_BK_CFG_BUDGET k) * 100000 < f) && !c.flag (LSC_BK_STAT_OVER k)) fun c => c.raise (48 + k)

theorem Chip.bankTick_eq : c.bankTick k ma mv =
    ((c.bankMeasured k ma mv).bankDisturbed k mv).bankJudged k (filterStep (look 0 c.lsc.bankFilt k) ma 128 1000000) := rfl

theorem Chip.bankFilt_bankDisturbed (hk : k < 12) : (c.bankDisturbed k mv).lsc.bankFilt = c.lsc.bankFilt := by
  have hRefresh (d : Chip) : (d.refreshBank k).lsc.bankFilt = d.lsc.bankFilt := by
    unfold Chip.refreshBank
    exact forAll_keeps 4 (p := fun e : Chip => e.lsc.bankFilt = d.lsc.bankFilt) (fun i _ e he => he) rfl
  unfold Chip.bankDisturbed
  split
  · unfold Chip.setDist
    dsimp only
    rw [hRefresh]
    cases c.flag (LSC_BK_STAT_DIST k)
    · simp only [Bool.not_false, Chip.when_true, Chip.raise_lsc _ (48 + k) (by omega)]
      rfl
    · rfl
  · exact hRefresh c

theorem Chip.bankFilt_bankJudged (f : Nat) (hk : k < 12) : (c.bankJudged k f).lsc.bankFilt = c.lsc.bankFilt := by
  unfold Chip.bankJudged Chip.when
  split
  · rw [Chip.raise_lsc _ (48 + k) (by omega)]
    rfl
  · rfl

theorem Chip.bankFilt_bankTick (hk : k < 12) : (c.bankTick k ma mv).lsc.bankFilt =
    put 0 c.lsc.bankFilt k (filterStep (look 0 c.lsc.bankFilt k) ma 128 1000000) := by
  rw [Chip.bankTick_eq, Chip.bankFilt_bankJudged _ _ _ hk, Chip.bankFilt_bankDisturbed _ _ _ hk]
  rfl

section
variable {ps : List Part} {w : Nat → Prop} (hk : k < 12) (hp : Part.lsc ∈ ps) (hc : Part.core ∈ ps) (he : ∀ a, eventAddr a → w a)
  (hb : ∀ a ∈ bankStats (4 * k), w a) (hd : w (LSC_BK_STAT k).addr)
include hk hp hc he hb hd

/-- Before the current is judged, bank `k` differs in its voltage, its filtered current and what follows its disturbance. -/
theorem Chip.frame_bankDisturbed : Chip.frame ps w c ((c.bankMeasured k ma mv).bankDisturbed k mv) := by
  have hMeasured : Chip.frame ps w c (c.bankMeasured k ma mv) :=
    Chip.frame_trans (Chip.frame_trans (Chip.frame_lsc c _ hp) (Chip.frame_set ps _ _ hd)) (Chip.frame_set ps _ _ hd)
  refine Chip.frame_trans hMeasured ?_
  unfold Chip.bankDisturbed
  split
  · exact Chip.frame_setDist _ hk hp hc he hd hb
  · exact Chip.frame_refreshBank _ hp k hb

theorem Chip.frame_bankTick : Chip.frame ps w c (c.bankTick k ma mv) :=
  Chip.frame_trans (c.frame_bankDisturbed k ma mv hk hp hc he hb hd)
    (Chip.frame_trans (Chip.frame_set ps _ _ hd) (Chip.frame_when _ (Chip.frame_raise _ (by omega) hc he)))

end

/-! What a bank shows at the end of its tick. -/

section
variable {k} (hk : k < 12)
include hk

theorem Chip.get_bankJudged {g : RFld} (f : Nat) (hg : g.reg = LSC_BK_STAT k) (h : (LSC_BK_STAT_OVER k).beside g = true) :
    (c.bankJudged k f).get g = c.get g := by
  rw [Chip.bankJudged, Chip.get_when, Chip.get_lsc_raise _ (by omega) (by rw [hg]; exact bk_stat_place hk), ite_self,
    Chip.get_setB_beside _ _ hg h]

theorem Chip.over_bankJudged (f : Nat) :
    (c.bankJudged k f).flag (LSC_BK_STAT_OVER k) = decide (c.get (LSC_BK_CFG_BUDGET k) * 100000 < f) := by
  rw [Chip.flag, Chip.bankJudged, Chip.get_when, Chip.get_lsc_raise _ (by omega) (bk_stat_place hk), ite_self, ← Chip.flag]
  exact Chip.flag_setB_same c _ _ (RFld.ok_of rfl)

theorem Chip.get_bankDisturbed {g : RFld} (hg : g.reg = LSC_BK_STAT k) (h : (LSC_BK_STAT_DIST k).beside g = true) :
    (c.bankDisturbed k mv).get g = c.get g := by
  unfold Chip.bankDisturbed
  split
  · unfold Chip.setDist
    dsimp only
    rw [Chip.dist_refreshBank _ hk _ hg, Chip.get_when, Chip.get_lsc_raise _ (by omega) (by rw [hg]; exact bk_stat_place hk), ite_self,
      Chip.get_setB_beside _ _ hg h]
  · exact Chip.dist_refreshBank c hk _ hg

omit hk in
theorem Chip.vbk_bankMeasured : (c.bankMeasured k ma mv).get (LSC_BK_STAT_VBK k) = min (mv / 10) 0xFFFF := by
  unfold Chip.bankMeasured
  dsimp only
  rw [Chip.get_set_beside (f := LSC_BK_STAT_IFILT k) (g := LSC_BK_STAT_VBK k) _ _ rfl rfl]
  exact Chip.get_set_fit _ rfl (decide_eq_true (lt_of_le_of_lt (Nat.min_le_right _ _) (by simp [LSC_BK_STAT_VBK])))

theorem Chip.budget_bankDisturbed :
    ((c.bankMeasured k ma mv).bankDisturbed k mv).get (LSC_BK_CFG_BUDGET k) = c.get (LSC_BK_CFG_BUDGET k) := by
  refine Chip.get_of_frame_ne (c.frame_bankDisturbed k ma mv (ps := [.lsc, .core]) hk (by simp) (by simp) ?_ ?_ ?_)
  · intro a ha hn
    exact quiet_lsc (by simp only [LSC_BK_CFG_BUDGET, LSC_BK_CFG] at hn; omega) ha
  · intro a ha hn
    have hPlace := mem_bankStats_lt (by omega) ha
    simp only [LSC_BK_CFG_BUDGET, LSC_BK_CFG] at hn
    omega
  · simp [LSC_BK_STAT, LSC_BK_CFG_BUDGET, LSC_BK_CFG]

end

/-- The part of a bank in the budget tick: its filtered current, OVER, the voltage and DIST. -/
def Chip.bankShows (c d : Chip) (k ma mv : Nat) : Prop :=
  look 0 d.lsc.bankFilt k = filterStep (look 0 c.lsc.bankFilt k) ma 128 1000000 ∧
  d.flag (LSC_BK_STAT_OVER k) = decide (c.get (LSC_BK_CFG_BUDGET k) * 100000 < look 0 d.lsc.bankFilt k) ∧
  d.get (LSC_BK_STAT_VBK k) = min (mv / 10) 0xFFFF ∧ (mv < 5500 → d.flag (LSC_BK_STAT_DIST k) = true)

/-- What the budget tick knows and shows of a bank is the same. -/
def Chip.bankSame (c d : Chip) (k : Nat) : Prop :=
  look 0 d.lsc.bankFilt k = look 0 c.lsc.bankFilt k ∧ d.rd (LSC_BK_CFG k) = c.rd (LSC_BK_CFG k) ∧ d.rd (LSC_BK_STAT k) = c.rd (LSC_BK_STAT k)

theorem Chip.bankSame_of_frame {ps : List Part} {d : Chip} (hf : look 0 d.lsc.bankFilt k = look 0 c.lsc.bankFilt k)
    (h : Chip.frame ps (fun a => a ≠ (LSC_BK_CFG k).addr ∧ a ≠ (LSC_BK_STAT k).addr) c d) : c.bankSame d k := by
  obtain ⟨-, hRegs, -⟩ := h
  exact ⟨hf, hRegs _ fun hn => hn.1 rfl, hRegs _ fun hn => hn.2 rfl⟩

theorem Chip.bankTick_shows (hk : k < 12) : c.bankShows (c.bankTick k ma mv) k ma mv := by
  have hFilt : look 0 (c.bankTick k ma mv).lsc.bankFilt k = filterStep (look 0 c.lsc.bankFilt k) ma 128 1000000 := by
    rw [c.bankFilt_bankTick k ma mv hk, look_put_same]
  refine ⟨hFilt, ?_, ?_, fun hLow => ?_⟩
  · rw [hFilt, Chip.bankTick_eq, Chip.over_bankJudged _ hk, c.budget_bankDisturbed ma mv hk]
  · rw [Chip.bankTick_eq, Chip.get_bankJudged _ hk _ rfl rfl, Chip.get_bankDisturbed _ _ hk rfl rfl, c.vbk_bankMeasured ma mv]
  · rw [Chip.bankTick_eq, Chip.flag_eq_of_get (Chip.get_bankJudged _ hk _ rfl rfl), Chip.bankDisturbed, decide_eq_true hLow]
    exact Chip.dist_setDist _ hk

end

theorem Chip.bankSame_refl (c : Chip) (k : Nat) : c.bankSame c k := ⟨rfl, rfl, rfl⟩

theorem Chip.bankSame_trans {c d e : Chip} {k : Nat} (h : c.bankSame d k) (g : d.bankSame e k) : c.bankSame e k := by
  obtain ⟨hFilt, hCfg, hStat⟩ := h
  obtain ⟨gFilt, gCfg, gStat⟩ := g
  exact ⟨gFilt.trans hFilt, gCfg.trans hCfg, gStat.trans hStat⟩

/-- What a bank shows depends on nothing but the bank, before and after. -/
theorem Chip.bankShows_of_same {c c' d d' : Chip} {k ma mv : Nat} (hc : c.bankSame c' k) (hd : d.bankSame d' k)
    (h : c'.bankShows d k ma mv) : c.bankShows d' k ma mv := by
  obtain ⟨cFilt, cCfg, -⟩ := hc
  obtain ⟨dFilt, -, dStat⟩ := hd
  have hBudget : c'.get (LSC_BK_CFG_BUDGET k) = c.get (LSC_BK_CFG_BUDGET k) := by
    rw [Chip.get, Chip.get, show (LSC_BK_CFG_BUDGET k).reg = LSC_BK_CFG k from rfl, cCfg]
  have hStat (g : RFld) (hg : g.reg = LSC_BK_STAT k) : d'.get g = d.get g := by
    rw [Chip.get, Chip.get, hg, dStat]
  unfold Chip.bankShows at h ⊢
  rwa [Chip.flag_eq_of_get (hStat _ rfl), hStat _ rfl, Chip.flag_eq_of_get (hStat _ rfl), dFilt, ← cFilt, ← hBudget]

/-- The tick of another bank. -/
theorem Chip.bankSame_bankTick (c : Chip) {j k : Nat} (ma mv : Nat) (hj : j < 12) (hk : k < 12) (h : j ≠ k) :
    c.bankSame (c.bankTick j ma mv) k := by
  refine c.bankSame_of_frame k (ps := [.lsc, .core]) ?_ (c.frame_bankTick j ma mv hj (by simp) (by simp) ?_ ?_ ?_)
  · rw [c.bankFilt_bankTick j ma mv hj, look_put_ne _ _ _ _ h.symm]
  · intro a ha
    simp only [eventAddr, LSC_BK_CFG, LSC_BK_STAT] at ha ⊢
    omega
  · intro a ha
    have hPlace := mem_bankStats_lt (by omega) ha
    simp only [LSC_BK_CFG, LSC_BK_STAT]
    omega
  · simp only [LSC_BK_CFG, LSC_BK_STAT]
    omega

theorem Chip.bankSame_lugTick (c : Chip) {j k : Nat} (ma mv : Nat) (hj : j < 4) (hk : k < 12) : c.bankSame (c.lugTick j ma mv) k := by
  unfold Chip.lugTick
  dsimp only
  refine c.bankSame_of_frame k (ps := [.lsc, .core]) ?_ ?_
  · unfold Chip.when
    split
    · rw [Chip.raise_lsc _ 60 (by omega)]
      rfl
    · rfl
  · have hStat : (LSC_LUG_STAT j).addr ≠ (LSC_BK_CFG k).addr ∧ (LSC_LUG_STAT j).addr ≠ (LSC_BK_STAT k).addr := by
      simp only [LSC_LUG_STAT, LSC_BK_CFG, LSC_BK_STAT]
      omega
    refine Chip.frame_trans ?_ (Chip.frame_when _ (Chip.frame_raise _ (by omega) (by simp) fun a ha => ?_))
    · exact Chip.frame_trans (Chip.frame_trans (Chip.frame_trans (Chip.frame_lsc c _ (by simp)) (Chip.frame_set _ _ _ hStat))
        (Chip.frame_set _ _ _ hStat)) (Chip.frame_set _ _ _ hStat)
    · simp only [eventAddr, LSC_BK_CFG, LSC_BK_STAT] at ha ⊢
      omega

theorem Chip.budgetTick_shows (c : Chip) (ma mv lug : List Nat) {k : Nat} (hk : k < 12) :
    c.bankShows (c.budgetTick ma mv lug) k (ma.getD k 0) (mv.getD k 0) := by
  have hBanks : c.bankShows (forAll 12 (fun k c => c.bankTick k (ma.getD k 0) (mv.getD k 0)) c) k (ma.getD k 0) (mv.getD k 0) :=
    forAll_reaches (p := fun d => c.bankShows d k (ma.getD k 0) (mv.getD k 0)) (q := fun d => c.bankSame d k)
      (u := fun k c => c.bankTick k (ma.getD k 0) (mv.getD k 0)) hk
      (fun d hd => Chip.bankShows_of_same hd (Chip.bankSame_refl _ _) (d.bankTick_shows k _ _ hk))
      (fun j hj hn d hd => Chip.bankSame_trans hd (d.bankSame_bankTick _ _ hj hk hn))
      (fun j hj hn d hd => Chip.bankShows_of_same (Chip.bankSame_refl _ _) (d.bankSame_bankTick _ _ hj hk hn) hd)
      (Chip.bankSame_refl c k)
  have hLugs (e : Chip) : e.bankSame (forAll 4 (fun j c => c.lugTick j (c.lugMa j) (lug.getD j 0)) e) k :=
    forAll_keeps 4 (p := fun d => e.bankSame d k) (u := fun j c => c.lugTick j (c.lugMa j) (lug.getD j 0))
      (fun j hj d hd => Chip.bankSame_trans hd (d.bankSame_lugTick _ _ hj hk)) (Chip.bankSame_refl e k)
  exact Chip.bankShows_of_same (Chip.bankSame_refl _ _) (hLugs _) hBanks

/-! ### Shedding (R127) -/

section
variable (c : Chip)

/-- The better of a channel on in one of the banks and the best so far. -/
def Chip.shedBetter (c : Chip) (banks : List Nat) (best : Option Nat) (n : Nat) : Option Nat :=
  if banks.contains (lsBank n) && c.flag (LSC_CH_STAT_OUT n) then
    match best with
    | some b => if c.get (LSC_CH_CFG_SHEDPRI b) ≤ c.get (LSC_CH_CFG_SHEDPRI n) then some n else best
    | none => some n
  else best

theorem Chip.shedChoice_eq (banks : List Nat) : c.shedChoice banks = (List.range 48).foldl (c.shedBetter banks) none := rfl

theorem Chip.shedBetter_lt (banks : List Nat) {best : Option Nat} {n : Nat} (hb : ∀ b ∈ best, b < 48) (hn : n < 48) :
    ∀ b ∈ c.shedBetter banks best n, b < 48 := by
  unfold Chip.shedBetter
  intro b hm
  split at hm
  · split at hm
    · split at hm
      · exact Option.mem_some.mp hm ▸ hn
      · exact hb b hm
    · exact Option.mem_some.mp hm ▸ hn
  · exact hb b hm

/-- The choice depends on the outputs and the priorities of the 48 channels only. -/
theorem Chip.shedChoice_congr {d : Chip} (hOut : ∀ n < 48, d.get (LSC_CH_STAT_OUT n) = c.get (LSC_CH_STAT_OUT n))
    (hPri : ∀ n < 48, d.get (LSC_CH_CFG_SHEDPRI n) = c.get (LSC_CH_CFG_SHEDPRI n)) (banks : List Nat) :
    d.shedChoice banks = c.shedChoice banks := by
  have hStep {best : Option Nat} {n : Nat} (hb : ∀ b ∈ best, b < 48) (hn : n < 48) :
      d.shedBetter banks best n = c.shedBetter banks best n := by
    unfold Chip.shedBetter
    rw [Chip.flag_eq_of_get (hOut n hn), hPri n hn]
    cases best with
    | none => rfl
    | some b => simp only [hPri b (hb b rfl)]
  have hFold (l : List Nat) (hl : ∀ n ∈ l, n < 48) (best : Option Nat) (hb : ∀ b ∈ best, b < 48) :
      l.foldl (d.shedBetter banks) best = l.foldl (c.shedBetter banks) best := by
    induction l generalizing best with
    | nil => rfl
    | cons n l ih =>
      have hn : n < 48 := hl n (by simp)
      rw [List.foldl_cons, List.foldl_cons, hStep hb hn]
      exact ih (fun m hm => hl m (by simp [hm])) _ (c.shedBetter_lt banks hb hn)
  rw [Chip.shedChoice_eq, Chip.shedChoice_eq]
  exact hFold _ (fun n hn => List.mem_range.mp hn) none (by simp)

/-- The module once the shedding of a bank or a lug shows at its flag `f`, with the event `e` at the first step. -/
def Chip.shedding (c : Chip) (f : RFld) (e : Nat) : Chip := (c.setB f true).when (!c.flag f) fun c => c.raise e

theorem Chip.flag_shedding {f : RFld} {e : Nat} (he : e < 1024) (hf : 0x30040000 ≤ f.reg.addr ∧ f.reg.addr < 0x30050000)
    (hOk : f.okb = true) : (c.shedding f e).flag f = true := by
  rw [Chip.flag, Chip.shedding, Chip.get_when, Chip.get_lsc_raise _ he hf, ite_self, ← Chip.flag]
  exact Chip.flag_setB_same c _ _ (RFld.ok_of hOk)

theorem Chip.shedChoice_setB {f : RFld} (hf : 0x30042000 ≤ f.reg.addr) (b : Bool) (banks : List Nat) :
    (c.setB f b).shedChoice banks = c.shedChoice banks := by
  refine c.shedChoice_congr (fun n hn => ?_) (fun n hn => ?_) banks
  · refine Chip.get_set_reg_ne c _ ?_
    simp only [LSC_CH_STAT_OUT, LSC_CH_STAT]
    omega
  · refine Chip.get_set_reg_ne c _ ?_
    simp only [LSC_CH_CFG_SHEDPRI, LSC_CH_CFG]
    omega

theorem Chip.shedChoice_shedding {f : RFld} {e : Nat} (he : e < 1024) (hf : 0x30042000 ≤ f.reg.addr) (banks : List Nat) :
    (c.shedding f e).shedChoice banks = c.shedChoice banks := by
  rw [← c.shedChoice_setB hf true]
  unfold Chip.shedding Chip.when
  split
  · refine Chip.shedChoice_congr _ (fun n hn => Chip.get_lsc_raise _ he ?_) (fun n hn => Chip.get_lsc_raise _ he ?_) banks
    · simp only [LSC_CH_STAT_OUT, LSC_CH_STAT]
      omega
    · simp only [LSC_CH_CFG_SHEDPRI, LSC_CH_CFG]
      omega
  · rfl

/-- The bank whose currents exceed its budget sheds its next channel. -/
theorem Chip.shedStep_bank {g n : Nat} (hg : g < 12) (hf : c.get (LSC_BK_CFG_BUDGET g) * 100000 < look 0 c.lsc.bankFilt g)
    (hp : c.get (LSC_BK_CFG_BUDGET g) * 100 < look 0 c.lsc.bankMa g) (hc : c.shedChoice [g] = some n) :
    c.shedStep g = (c.shedding (LSC_BK_STAT_SHEDDING g) (48 + g)).shedOff n 5 := by
  have hOver : (decide (c.get (LSC_BK_CFG_BUDGET g) * 100 * 1000 < look 0 c.lsc.bankFilt g) &&
      decide (c.get (LSC_BK_CFG_BUDGET g) * 100 < look 0 c.lsc.bankMa g)) = true := by
    rw [Nat.mul_assoc, decide_eq_true hf, decide_eq_true hp]
    rfl
  have hChoice := (c.shedChoice_shedding (f := LSC_BK_STAT_SHEDDING g) (e := 48 + g) (by omega)
    (by simp [LSC_BK_STAT_SHEDDING, LSC_BK_STAT]; omega) [g]).trans hc
  rw [Chip.shedding] at hChoice ⊢
  simp only [Chip.shedStep, if_pos hg, hOver, if_true, hChoice]

theorem Chip.shedStep_lug {g n : Nat} (hg : 12 ≤ g)
    (hf : c.get (LSC_LUG_CFG_BUDGET (g - 12)) * 100000 < look 0 c.lsc.lugFilt (g - 12))
    (hp : c.get (LSC_LUG_CFG_BUDGET (g - 12)) * 100 < c.lugMa (g - 12))
    (hc : c.shedChoice ((List.range 12).filter fun k => bankLug k == g - 12) = some n) :
    c.shedStep g = (c.setB (LSC_LUG_STAT_SHEDDING (g - 12)) true).shedOff n 6 := by
  have hOver : (decide (c.get (LSC_LUG_CFG_BUDGET (g - 12)) * 100 * 1000 < look 0 c.lsc.lugFilt (g - 12)) &&
      decide (c.get (LSC_LUG_CFG_BUDGET (g - 12)) * 100 < c.lugMa (g - 12))) = true := by
    rw [Nat.mul_assoc, decide_eq_true hf, decide_eq_true hp]
    rfl
  have hChoice := (c.shedChoice_setB (f := LSC_LUG_STAT_SHEDDING (g - 12))
    (by simp [LSC_LUG_STAT_SHEDDING, LSC_LUG_STAT]; omega) true _).trans hc
  simp only [Chip.shedStep, if_neg (Nat.not_lt.mpr hg), hOver, if_true, hChoice]

end

/-- The channel shed, up to the event. -/
def Chip.shedQuiet (c : Chip) (n cause : Nat) : Chip :=
  (((((c.when (c.limitsOutside n) fun c => c.noteLimitEnd n).offWith n cause).updLs n fun x =>
    { x with protOff := some c.now, afterOff := true, pwm := false }).setB (LSC_CH_STAT_FLYWHEEL n) false).lsState n 5).refreshBank
    (lsBank n)

section
variable (c : Chip) (n : Fin 48)

theorem Chip.shedOff_eq (cause : Nat) : c.shedOff n.val cause = (c.shedQuiet n.val cause).raise n.val := by
  unfold Chip.shedOff Chip.shedQuiet Chip.when
  split <;> rfl

theorem Chip.shedOff_effect {cause : Nat} (h : decide (cause < 16) = true) :
    (c.shedOff n.val cause).flag (LSC_CH_STAT_OUT n.val) = false ∧ (c.shedOff n.val cause).pstate n.val = 5 ∧
    (c.shedOff n.val cause).get (LSC_CH_STAT_CAUSE n.val) = cause ∧ (c.shedOff n.val cause).pends n.val = true := by
  obtain ⟨hOut, hCause, -, -⟩ := (c.when (c.limitsOutside n.val) fun c => c.noteLimitEnd n.val).offWith_effect n h
  rw [Chip.flag] at hOut
  rw [c.shedOff_eq n cause]
  refine ⟨?_, ?_, ?_, Chip.pends_raise _ _ (by omega)⟩
  · simpa (disch := exact id rfl) only [Chip.flag, Chip.shedQuiet, Chip.get_stat_raise, Chip.get_refreshBank, Chip.get_lsState,
      Chip.get_setB_beside, Chip.updLs_get] using hOut
  · rw [Chip.pstate, Chip.get_stat_raise _ _ rfl, Chip.shedQuiet, Chip.get_refreshBank _ _ rfl rfl]
    exact Chip.pstate_lsState _ _ rfl
  · simpa (disch := exact id rfl) only [Chip.shedQuiet, Chip.get_stat_raise, Chip.get_refreshBank, Chip.get_lsState,
      Chip.get_setB_beside, Chip.updLs_get] using hCause

/-- The registers of banks and lugs. -/
theorem Chip.get_shedOff {g : RFld} (cause : Nat) (hLow : 0x30042000 ≤ g.reg.addr) (hHigh : g.reg.addr < 0x30050000) :
    (c.shedOff n.val cause).get g = c.get g := by
  have hChan {a : Nat} (h : a < 0x30041C00) : a ≠ g.reg.addr := by omega
  have hStat : (LSC_CH_STAT n.val).addr ≠ g.reg.addr := hChan (by simp only [LSC_CH_STAT]; omega)
  have hHold : (LSC_CH_HOLD n.val).addr ≠ g.reg.addr := hChan (by simp only [LSC_CH_HOLD]; omega)
  have hCnt : (LSC_CH_CNT n.val).addr ≠ g.reg.addr := hChan (by simp only [LSC_CH_CNT]; omega)
  have hBank : ∀ a ∈ bankStats n.val, a ≠ g.reg.addr := fun a ha => by
    have hPlace := mem_bankStats_lt n.isLt ha
    omega
  rw [c.shedOff_eq n cause, Chip.get_lsc_raise _ (by omega) (by omega)]
  refine Chip.get_of_frame_ne (ps := [.lsc]) ?_
  refine Chip.frame_trans ?_ (Chip.frame_refreshOwn _ n.val (by simp) hBank)
  refine Chip.frame_trans ?_ (Chip.frame_lsState _ n.val (by simp) 5 hStat hHold)
  refine Chip.frame_trans (Chip.frame_trans ?_ (Chip.frame_updLs _ _ _ (by simp))) (Chip.frame_set _ _ _ hStat)
  have hEnded : Chip.frame [.lsc] (· ≠ g.reg.addr) c (c.when (c.limitsOutside n.val) fun c => c.noteLimitEnd n.val) :=
    Chip.frame_when _ (Chip.frame_updLs c n.val _ (by simp))
  refine Chip.frame_trans hEnded ?_
  exact Chip.frame_trans (Chip.frame_trans (Chip.frame_gateOff (ps := [.lsc]) _ _ (by simp) hStat) (Chip.frame_set _ _ _ hStat))
    (Chip.frame_set _ _ _ hCnt)

end

/-! ### Silence (R132) -/

theorem forEach_keeps {α σ : Type} {p : σ → Prop} {u : α → σ → σ} (l : List α) (h : ∀ a ∈ l, ∀ d, p d → p (u a d)) {c : σ} (hc : p c) :
    p (forEach l u c) := by
  induction l generalizing c with
  | nil => exact hc
  | cons a l ih => exact ih (fun b hb => h b (by simp [hb])) (h a (by simp) c hc)

/-- What one of the listed operations brings about and every one of them keeps holds after them. -/
theorem forEach_reaches {α σ : Type} {p : σ → Prop} {u : α → σ → σ} {l : List α} {a : α} (ha : a ∈ l) (h : ∀ d, p (u a d))
    (hk : ∀ b ∈ l, ∀ d, p d → p (u b d)) (c : σ) : p (forEach l u c) := by
  induction l generalizing c with
  | nil => simp at ha
  | cons b l ih =>
    have hStep : forEach (b :: l) u c = forEach l u (u b c) := rfl
    rw [hStep]
    by_cases hl : a ∈ l
    · exact ih hl (fun e he => hk e (by simp [he])) _
    · have hb : a = b := by simpa [hl] using ha
      exact forEach_keeps l (fun e he => hk e (by simp [he])) (hb ▸ h c)

section
variable (c : Chip) (n : Nat)

theorem Chip.orphan_effect : (c.orphan n).flag (LSC_CH_STAT_ORPHAN n) = true ∧ (c.orphan n).flag (LSC_CH_STAT_ADOPTED n) = false := by
  unfold Chip.orphan
  split
  · rename_i h
    refine ⟨?_, Chip.flag_setB_same c _ _ (RFld.ok_of rfl)⟩
    rw [← h]
    exact Chip.flag_eq_of_get (Chip.get_setB_beside c _ rfl rfl)
  · have hHold (d : Chip) (g : RFld) (hg : g.reg = LSC_CH_STAT n) : (d.setB (LSC_CH_HOLD_FBAPPLIED n) false).get g = d.get g :=
      Chip.get_set_reg_ne d _ (by rw [hg]; simp [LSC_CH_STAT, LSC_CH_HOLD_FBAPPLIED, LSC_CH_HOLD])
    simp (disch := exact id rfl) only [Chip.flag, Chip.updLs_get, hHold, Chip.get_setB_okb, Chip.get_setB_beside, b2n_ne_zero, and_self]

theorem Chip.frame_orphan {w : Nat → Prop} (hs : w (LSC_CH_STAT n).addr) (hh : w (LSC_CH_HOLD n).addr) :
    Chip.frame [.lsc] w c (c.orphan n) := by
  unfold Chip.orphan
  split
  · exact Chip.frame_set _ c _ hs
  · exact Chip.frame_trans (Chip.frame_trans (Chip.frame_trans (Chip.frame_set _ c _ hs) (Chip.frame_set _ _ _ hs))
      (Chip.frame_set _ _ _ hh)) (Chip.frame_updLs _ _ _ (by simp))

/-- Orphaned, and not adopted. -/
def Chip.orphaned (c : Chip) (n : Nat) : Prop := c.flag (LSC_CH_STAT_ORPHAN n) = true ∧ c.flag (LSC_CH_STAT_ADOPTED n) = false

theorem Chip.orphaned_of_get {d : Chip} (h : ∀ g : RFld, g.reg = LSC_CH_STAT n → d.get g = c.get g) (ho : c.orphaned n) : d.orphaned n := by
  unfold Chip.orphaned at ho ⊢
  rwa [Chip.flag_eq_of_get (h _ rfl), Chip.flag_eq_of_get (h _ rfl)]

theorem Chip.orphaned_orphan (m : Nat) (h : c.orphaned n) : (c.orphan m).orphaned n := by
  by_cases hm : m = n
  · rw [hm]
    exact c.orphan_effect n
  · refine c.orphaned_of_get n (fun g hg => Chip.get_of_frame_ne (c.frame_orphan m ?_ ?_)) h
    · rw [hg]
      simp [LSC_CH_STAT, hm]
    · rw [hg]
      simp only [LSC_CH_STAT, LSC_CH_HOLD]
      omega

/-- What a silence shows of the module, once its channels are orphaned. -/
def Chip.silenceShown (c : Chip) : Chip :=
  let d := (c.stick LSC_STAT_SILENT).showNadopt
  let e : Chip := { d with lsc := { d.lsc with heartbeat := none } }
  if e.rst.episode.isSome then { e with lsc := { e.lsc with silenceDue := true } } else e.raise 61

theorem Chip.declareSilence_eq (l : List Nat) :
    c.declareSilence l = (forEach (l.flatMap sliceChans) (fun n c => c.orphan n) c).silenceShown := rfl

theorem Chip.get_silenceShown {g : RFld} (h : 0x30040000 ≤ g.reg.addr ∧ g.reg.addr < 0x30050000) :
    c.silenceShown.get g = (c.stick LSC_STAT_SILENT).showNadopt.get g := by
  unfold Chip.silenceShown
  dsimp only
  split
  · rfl
  · exact Chip.get_lsc_raise _ (by omega) h

theorem Chip.get_silenceShown_chan (n : Fin 48) {g : RFld} (hg : g.reg = LSC_CH_STAT n.val) : c.silenceShown.get g = c.get g := by
  have hApart : g.reg.addr ≠ LSC_STAT.addr := by
    rw [hg]
    simp only [LSC_CH_STAT, LSC_STAT]
    omega
  rw [Chip.get_silenceShown _ (by rw [hg]; simp only [LSC_CH_STAT]; omega), Chip.get_showNadopt _ hApart]
  exact Chip.get_set_reg_ne c _ hApart

theorem Chip.get_silenceShown_stat {g : RFld} (hg : g.reg = LSC_STAT) (hn : LSC_STAT_NADOPT.beside g = true)
    (hs : LSC_STAT_SILENT.beside g = true) : c.silenceShown.get g = c.get g := by
  rw [Chip.get_silenceShown _ (by rw [hg]; simp [LSC_STAT]), Chip.showNadopt, Chip.get_set_beside _ _ hg hn, Chip.stick,
    Chip.get_setB_beside _ _ hg hs]

theorem Chip.silent_silenceShown : c.silenceShown.flag LSC_STAT_SILENT = true := by
  rw [Chip.flag, Chip.get_silenceShown _ (by simp [LSC_STAT_SILENT, LSC_STAT]), Chip.showNadopt,
    Chip.get_set_beside (f := LSC_STAT_NADOPT) (g := LSC_STAT_SILENT) _ _ rfl rfl, ← Chip.flag]
  exact Chip.flag_setB_same c _ _ (RFld.ok_of rfl)

theorem Chip.heartbeat_silenceShown : c.silenceShown.lsc.heartbeat = none := by
  unfold Chip.silenceShown
  dsimp only
  split
  · rfl
  · rw [Chip.raise_lsc _ 61 (by omega)]

theorem Chip.pends_silenceShown (h : c.rst.episode = none) : c.silenceShown.pends 61 = true := by
  have hRst (d : Chip) : d.showNadopt.rst = d.rst := rfl
  have hNone : (c.stick LSC_STAT_SILENT).rst.episode = none := h
  unfold Chip.silenceShown
  dsimp only
  rw [hRst, hNone, if_neg (by simp)]
  exact Chip.pends_raise _ 61 (by omega)

/-- The channels of the listed slices. -/
theorem Chip.frame_orphans (l : List Nat) : Chip.frame [.lsc] (fun a => 0x30041000 ≤ a ∧ a < 0x30041C00) c
    (forEach (l.flatMap sliceChans) (fun n c => c.orphan n) c) := by
  refine Chip.frame_forEach _ c fun n hn d => ?_
  obtain ⟨s, -, hs⟩ := List.mem_flatMap.mp hn
  obtain ⟨hLt, -⟩ := mem_sliceChans.mp hs
  refine d.frame_orphan n ?_ ?_ <;> simp only [LSC_CH_STAT, LSC_CH_HOLD] <;> omega

theorem Chip.declareSilence_orphans {l : List Nat} (n : Fin 48) (h : lsClass n.val ∈ l) : (c.declareSilence l).orphaned n.val := by
  have hMem : n.val ∈ l.flatMap sliceChans := List.mem_flatMap.mpr ⟨_, h, mem_sliceChans.mpr ⟨n.isLt, rfl⟩⟩
  rw [c.declareSilence_eq]
  exact Chip.orphaned_of_get _ n.val (fun g hg => Chip.get_silenceShown_chan _ n hg)
    (forEach_reaches hMem (fun d => d.orphan_effect n.val) (fun m _ d hd => d.orphaned_orphan n.val m hd) c)

theorem Chip.get_declareSilence {g : RFld} (l : List Nat) (hg : g.reg = LSC_STAT) (hn : LSC_STAT_NADOPT.beside g = true)
    (hs : LSC_STAT_SILENT.beside g = true) : (c.declareSilence l).get g = c.get g := by
  rw [c.declareSilence_eq, Chip.get_silenceShown_stat _ hg hn hs]
  exact Chip.get_of_frame (c.frame_orphans l) (by rw [hg]; simp [LSC_STAT])

theorem Chip.declareSilence_shows (l : List Nat) : (c.declareSilence l).flag LSC_STAT_SILENT = true ∧
    (c.declareSilence l).lsc.heartbeat = none ∧ (c.rst.episode = none → (c.declareSilence l).pends 61 = true) := by
  rw [c.declareSilence_eq]
  refine ⟨Chip.silent_silenceShown _, Chip.heartbeat_silenceShown _, fun h => Chip.pends_silenceShown _ ?_⟩
  obtain ⟨hParts, -⟩ := c.frame_orphans l
  have hRst : (forEach (l.flatMap sliceChans) (fun n c => c.orphan n) c).rst = c.rst := hParts .rst (by simp)
  rw [hRst, h]

/-! ### The links of the slices (R132, R135, R140) -/

/-- One of a field's three slice bits. -/
theorem setBit_slice (v : Nat) (hv : v < 8) (i : Fin 3) (b : Bool) : (setBit v i.val b).testBit i.val = b ∧ setBit v i.val b < 8 := by
  have hAll : ∀ (v : Fin 8) (i : Fin 3) (b : Bool), (setBit v.val i.val b).testBit i.val = b ∧ setBit v.val i.val b < 8 := by decide
  exact hAll ⟨v, hv⟩ i b

theorem Chip.bit_set_slice {f : RFld} (i : Fin 3) (b : Bool) (hf : f.okb = true) (hw : f.hi - f.lo + 1 = 3) :
    ((c.set f (setBit (c.get f) i.val b)).get f).testBit i.val = b := by
  have hRange : c.get f < 8 := by simpa [hw] using c.get_lt f
  obtain ⟨hBit, hFits⟩ := setBit_slice _ hRange i b
  rw [Chip.get_set_fit c hf (by rw [hw]; exact decide_eq_true hFits), hBit]

theorem Chip.linkLost_clears (i : Fin 3) : ((c.linkLost i.val).get LSC_STAT_LINKUP).testBit i.val = false ∧
    ((c.linkLost i.val).get LSC_STAT_HOLDVALID).testBit i.val = false := by
  unfold Chip.linkLost
  constructor
  · rw [Chip.get_set_beside (f := LSC_STAT_HOLDVALID) (g := LSC_STAT_LINKUP) _ _ rfl rfl, c.bit_set_slice i false rfl rfl]
  · have hKept : (c.set LSC_STAT_LINKUP (setBit (c.get LSC_STAT_LINKUP) i.val false)).get LSC_STAT_HOLDVALID = c.get LSC_STAT_HOLDVALID :=
      Chip.get_set_beside c _ rfl rfl
    rw [← hKept]
    exact Chip.bit_set_slice _ i false rfl rfl

end

/-! ### The fallback (R133) -/

section
variable (c : Chip) (n : Fin 48)

theorem Chip.setB_updLs (m : Nat) (u : LsChan → LsChan) (f : RFld) (b : Bool) : (c.updLs m u).setB f b = (c.setB f b).updLs m u := rfl

theorem Chip.applyFallback_off (hs : c.pstate n.val ≤ 1) :
    c.applyFallback n.val 0 = (c.lsTurnOff n.val).set (LSC_CH_STAT_CAUSE n.val) 7 := by
  simp only [Chip.applyFallback, decide_eq_true hs, if_true]

theorem Chip.applyFallback_on (hs : c.pstate n.val ≤ 1) (hh : (c.lsCh n.val).hot = false) (hf : c.lsFaulted n.val = false) :
    c.applyFallback n.val 1 = (((c.onCommanded n.val).gateOnStatic n.val).set (LSC_CH_STAT_CAUSE n.val) 7).noteNormal n.val := by
  have hHot : ((c.onCommanded n.val).lsCh n.val).hot = false := by
    rw [Chip.onCommanded, Chip.lsCh_updLs_same]
    exact hh
  have hFaulted : (c.onCommanded n.val).lsFaulted n.val = false := by
    rw [Chip.onCommanded, Chip.lsFaulted_updLs, Chip.lsFaulted_setB, Chip.lsFaulted_setB, hf]
  have hBody : c.applyFallback n.val 1 = (((c.onCommanded n.val).when (!((c.onCommanded n.val).lsCh n.val).hot &&
      !(c.onCommanded n.val).lsFaulted n.val) fun c => c.gateOnStatic n.val).set (LSC_CH_STAT_CAUSE n.val) 7).noteNormal n.val := by
    simp only [Chip.applyFallback, decide_eq_true hs, if_true, Chip.setB_updLs]
    rfl
  rw [hBody, hHot, hFaulted, Bool.not_false, Bool.and_self, Chip.when_true]

theorem Chip.applyFallback_off_effect (hs : c.pstate n.val ≤ 1) : (c.applyFallback n.val 0).flag (LSC_CH_STAT_OUT n.val) = false ∧
    (c.applyFallback n.val 0).flag (LSC_CH_STAT_CMDON n.val) = false ∧ (c.applyFallback n.val 0).get (LSC_CH_STAT_CAUSE n.val) = 7 ∧
    (c.applyFallback n.val 0).get LSC_STAT_LINKUP = c.get LSC_STAT_LINKUP := by
  obtain ⟨hOut, hOn, -, -⟩ := c.lsTurnOff_effect n.val
  have hKept (g : RFld) (hg : g.reg = LSC_CH_STAT n.val) (h : (LSC_CH_STAT_CAUSE n.val).beside g = true) :
      ((c.lsTurnOff n.val).set (LSC_CH_STAT_CAUSE n.val) 7).get g = (c.lsTurnOff n.val).get g := Chip.get_set_beside _ _ hg h
  rw [c.applyFallback_off n hs]
  refine ⟨?_, ?_, Chip.get_set_fit _ rfl rfl, ?_⟩
  · rwa [Chip.flag_eq_of_get (hKept _ rfl rfl)]
  · rwa [Chip.flag_eq_of_get (hKept _ rfl rfl)]
  · have hApart {a : Nat} (h : 0x30041000 ≤ a) : a ≠ LSC_STAT_LINKUP.reg.addr := by
      simp only [LSC_STAT_LINKUP, LSC_STAT]
      omega
    refine Chip.get_of_frame_ne (Chip.frame_trans (c.frame_lsTurnOff n.val (ps := [.lsc]) (by simp) fun a h => ?_) (Chip.frame_set _ _ _ ?_))
    · exact hApart (mem_bankStats_lt n.isLt h).1
    · exact hApart (by simp only [LSC_CH_STAT_CAUSE, LSC_CH_STAT]; omega)

theorem Chip.applyFallback_on_effect (hs : c.pstate n.val ≤ 1) (hh : (c.lsCh n.val).hot = false) (hf : c.lsFaulted n.val = false)
    (hu : c.pmu.uvh = false) : (c.applyFallback n.val 1).flag (LSC_CH_STAT_OUT n.val) = true ∧
    (c.applyFallback n.val 1).flag (LSC_CH_STAT_CMDON n.val) = true ∧ (c.applyFallback n.val 1).get (LSC_CH_STAT_CAUSE n.val) = 7 := by
  have hOut := (c.onCommanded n.val).out_gateOnStatic n.val hu
  rw [Chip.flag] at hOut
  rw [c.applyFallback_on n hs hh hf]
  refine ⟨?_, ?_, ?_⟩
  · simpa (disch := exact id rfl) only [Chip.flag, Chip.get_noteNormal, Chip.get_set_beside] using hOut
  · simp (disch := exact id rfl) only [Chip.flag, Chip.get_noteNormal, Chip.get_set_beside, Chip.get_gateOnStatic, Chip.onCommanded,
      Chip.updLs_get, Chip.get_setB_beside, Chip.get_setB_okb, b2n_ne_zero]
  · rw [Chip.get_noteNormal]
    exact Chip.get_set_fit _ rfl rfl

/-- Channel `n` is marked as fallen back. -/
def Chip.fellBack (c : Chip) (n : Nat) : Chip :=
  let c := (c.setB (LSC_CH_HOLD_FBAPPLIED n) true).heldChange n
  if bit (c.get LSC_STAT_LINKUP) (lsClass n) then c.raise 62
  else { c with lsc := { c.lsc with fallbackDue := true } }

theorem Chip.orphanFallback_applies {odly hbt codes : Nat} (hp : c.lsc.policy = some (odly, hbt, codes))
    (ho : c.flag (LSC_CH_STAT_ORPHAN n.val) = true) (hb : c.flag (LSC_CH_HOLD_FBAPPLIED n.val) = false) (hd : odly ≠ 0)
    (ht : (c.lsCh n.val).orphanAt + odly * 10000000 ≤ c.now) :
    c.orphanFallback n.val = (c.applyFallback n.val (bits codes (2 * n.val + 1) (2 * n.val))).fellBack n.val := by
  have hDue : (c.flag (LSC_CH_STAT_ORPHAN n.val) && !c.flag (LSC_CH_HOLD_FBAPPLIED n.val) && odly != 0 &&
      c.dueNow (some ((c.lsCh n.val).orphanAt + odly * 10000000))) = true := by
    simp [ho, hb, hd, Chip.dueNow, ht]
  simp only [Chip.orphanFallback, hp, hDue, Chip.when_true]
  rfl

theorem Chip.get_marked {g : RFld} (hg : g.reg.addr ≠ (LSC_CH_HOLD n.val).addr) :
    ((c.setB (LSC_CH_HOLD_FBAPPLIED n.val) true).heldChange n.val).get g = c.get g := by
  rw [Chip.heldChange, Chip.wrapInc, Chip.get_set_reg_ne _ _ hg]
  exact Chip.get_set_reg_ne c _ hg

theorem Chip.get_fellBack {g : RFld} (h : 0x30040000 ≤ g.reg.addr ∧ g.reg.addr < 0x30050000) :
    (c.fellBack n.val).get g = ((c.setB (LSC_CH_HOLD_FBAPPLIED n.val) true).heldChange n.val).get g := by
  unfold Chip.fellBack
  dsimp only
  split
  · exact Chip.get_lsc_raise _ (by omega) h
  · exact Chip.get_lsc_part _ g _

theorem Chip.get_stat_fellBack {g : RFld} (hg : g.reg = LSC_CH_STAT n.val) : (c.fellBack n.val).get g = c.get g := by
  rw [Chip.get_fellBack _ _ (by rw [hg]; simp only [LSC_CH_STAT]; omega), Chip.get_marked]
  rw [hg]
  simp [LSC_CH_STAT, LSC_CH_HOLD]

theorem Chip.fbapplied_fellBack : (c.fellBack n.val).flag (LSC_CH_HOLD_FBAPPLIED n.val) = true := by
  rw [Chip.flag, Chip.get_fellBack _ _ (by simp only [LSC_CH_HOLD_FBAPPLIED, LSC_CH_HOLD]; omega),
    Chip.get_held_heldChange _ _ rfl rfl, ← Chip.flag]
  exact Chip.flag_setB_same c _ _ (RFld.ok_of rfl)

theorem Chip.pends_fellBack (h : (c.get LSC_STAT_LINKUP).testBit (lsClass n.val) = true) : (c.fellBack n.val).pends 62 = true := by
  have hLink : bit (((c.setB (LSC_CH_HOLD_FBAPPLIED n.val) true).heldChange n.val).get LSC_STAT_LINKUP) (lsClass n.val) = true := by
    rw [Chip.get_marked, bit, h]
    simp only [LSC_STAT_LINKUP, LSC_STAT, LSC_CH_HOLD]
    omega
  unfold Chip.fellBack
  dsimp only
  rw [if_pos hLink]
  exact Chip.pends_raise _ 62 (by omega)

end

/-! ### Links that come up (R135, R140) -/

section
variable (c : Chip) (i : Fin 3)

/-- The slice's link is up, and nothing waits for it. -/
def Chip.linked (c : Chip) (i : Nat) : Chip :=
  let d := c.set LSC_STAT_LINKUP (setBit (c.get LSC_STAT_LINKUP) i true)
  { d with lsc := { d.lsc with silenceDue := false, fallbackDue := false } }

theorem Chip.cuffLinkUp_eq : c.cuffLinkUp i.val =
    ((c.linked i.val).when c.lsc.silenceDue fun c => c.raise 61).when c.lsc.fallbackDue fun c => c.raise 62 := rfl

theorem Chip.linkup_cuffLinkUp : ((c.cuffLinkUp i.val).get LSC_STAT_LINKUP).testBit i.val = true := by
  have hPlace : 0x30040000 ≤ LSC_STAT_LINKUP.reg.addr ∧ LSC_STAT_LINKUP.reg.addr < 0x30050000 := by simp [LSC_STAT_LINKUP, LSC_STAT]
  rw [Chip.cuffLinkUp_eq, Chip.get_when, Chip.get_lsc_raise _ (by omega) hPlace, ite_self, Chip.get_when,
    Chip.get_lsc_raise _ (by omega) hPlace, ite_self]
  exact c.bit_set_slice i true rfl rfl

theorem Chip.cuffLinkUp_effect : (c.cuffLinkUp i.val).lsc = { c.lsc with silenceDue := false, fallbackDue := false } ∧
    (c.lsc.silenceDue = true → (c.cuffLinkUp i.val).pends 61 = true) ∧
    (c.lsc.fallbackDue = true → (c.cuffLinkUp i.val).pends 62 = true) := by
  have hSilence (b : Bool) : ((c.linked i.val).when b fun c => c.raise 61).lsc = (c.linked i.val).lsc := by
    cases b
    · rfl
    · exact Chip.raise_lsc _ 61 (by omega)
  rw [Chip.cuffLinkUp_eq]
  cases c.lsc.fallbackDue with
  | false =>
    rw [Chip.when_false]
    refine ⟨hSilence _, fun h => ?_, fun h => absurd h Bool.false_ne_true⟩
    rw [h]
    exact Chip.pends_raise _ 61 (by omega)
  | true =>
    rw [Chip.when_true]
    refine ⟨(Chip.raise_lsc _ 62 (by omega)).trans (hSilence _), fun h => ?_, fun _ => Chip.pends_raise _ 62 (by omega)⟩
    rw [h]
    exact Chip.pends_raise_mono _ 62 61 (by omega) (by omega) (Chip.pends_raise _ 61 (by omega))

theorem Chip.frame_cuffLinkUp : Chip.frame [.lsc, .core] (amongEv [LSC_STAT.addr]) c (c.cuffLinkUp i.val) := by
  have hEvent (d : Chip) (b : Bool) {e : Nat} (he : e < 1024) :
      Chip.frame [.lsc, .core] (amongEv [LSC_STAT.addr]) d (d.when b fun c => c.raise e) :=
    Chip.frame_when _ (Chip.frame_raise _ he (by simp) (amongEv_of_eventAddr _))
  refine Chip.frame_trans (Chip.frame_trans ?_ (hEvent _ _ (by omega))) (hEvent _ _ (by omega))
  exact Chip.frame_trans (Chip.frame_set _ c _ (amongEv_of_mem (by simp [LSC_STAT_LINKUP]))) (Chip.frame_lsc _ _ (by simp))

theorem Chip.holdReadbackDone_takes (h : (c.get LSC_STAT_LINKUP).testBit i.val = true) :
    c.holdReadbackDone i.val = c.set LSC_STAT_HOLDVALID (setBit (c.get LSC_STAT_HOLDVALID) i.val true) := by
  rw [Chip.holdReadbackDone, bit, h, Chip.when_true]

end

/-! ### Faults of a slice (R138) -/

section
variable (c : Chip) (n : Fin 48)

/-- Channel `m` shut off by its slice. -/
def Chip.shutOff (c : Chip) (m : Nat) : Chip :=
  (((c.gateOff m).set (LSC_CH_STAT_CAUSE m) 9).setB (LSC_CH_STAT_FLYWHEEL m) false).updLs m fun x => { x with pwm := false, retryAt := none }

/-- Off for a fault of the slice. -/
def Chip.isShut (c : Chip) (n : Nat) : Prop := c.flag (LSC_CH_STAT_OUT n) = false ∧ c.get (LSC_CH_STAT_CAUSE n) = 9

theorem Chip.isShut_shutOff_same : (c.shutOff n.val).isShut n.val := by
  unfold Chip.isShut
  simp (disch := exact id rfl) only [Chip.flag, Chip.shutOff, Chip.gateOff, Chip.updLs_get, Chip.get_setB_beside, Chip.get_set_beside,
    Chip.get_set_fit, Chip.get_setB_okb, b2n_ne_zero, and_self]

theorem Chip.get_shutOff_ne {m : Nat} (hm : n.val ≠ m) {g : RFld} (hg : g.reg = LSC_CH_STAT n.val) : (c.shutOff m).get g = c.get g := by
  have hStat : (LSC_CH_STAT m).addr ≠ g.reg.addr := by
    rw [hg]
    simpa [LSC_CH_STAT] using hm.symm
  refine Chip.get_of_frame_ne (ps := [.lsc]) (Chip.frame_trans ?_ (Chip.frame_updLs _ _ _ (by simp)))
  exact Chip.frame_trans (Chip.frame_trans (c.frame_gateOff m (ps := [.lsc]) (by simp) hStat) (Chip.frame_set _ _ _ hStat))
    (Chip.frame_set _ _ _ hStat)

theorem Chip.isShut_shutOff (m : Nat) (h : c.isShut n.val) : (c.shutOff m).isShut n.val := by
  by_cases hm : n.val = m
  · rw [← hm]
    exact c.isShut_shutOff_same n
  · unfold Chip.isShut at h ⊢
    rwa [Chip.flag_eq_of_get (c.get_shutOff_ne n hm rfl), c.get_shutOff_ne n hm rfl]

theorem Chip.pstate_shutOff (m : Nat) : (c.shutOff m).pstate n.val = c.pstate n.val := by
  by_cases hm : n.val = m
  · rw [← hm]
    simp (disch := exact id rfl) only [Chip.pstate, Chip.shutOff, Chip.gateOff, Chip.updLs_get, Chip.get_setB_beside, Chip.get_set_beside]
  · exact c.get_shutOff_ne n hm rfl

/-- The slice's fault is kept in mind and reported. -/
def Chip.faultShown (c : Chip) (i : Nat) : Chip :=
  ({ c with lsc := { c.lsc with sliceFault := put false c.lsc.sliceFault i true } } : Chip).raise 63

theorem Chip.sliceFaultOp_shuts {i : Nat} (h : look false c.lsc.sliceFault i = false) :
    c.sliceFaultOp i = (forEach (sliceChans i) (fun m c => c.shutOff m) c).faultShown i := by
  rw [Chip.sliceFaultOp, h]
  rfl

theorem Chip.get_faultShown {g : RFld} (i : Nat) (hg : g.reg = LSC_CH_STAT n.val) : (c.faultShown i).get g = c.get g :=
  Chip.get_lsc_raise _ (by omega) (by rw [hg]; simp only [LSC_CH_STAT]; omega)

theorem Chip.sliceFaultOp_effect {i : Nat} (h : look false c.lsc.sliceFault i = false) (hn : lsClass n.val = i) :
    (c.sliceFaultOp i).flag (LSC_CH_STAT_OUT n.val) = false ∧ (c.sliceFaultOp i).get (LSC_CH_STAT_CAUSE n.val) = 9 ∧
    (c.sliceFaultOp i).pstate n.val = c.pstate n.val := by
  have hShut : (forEach (sliceChans i) (fun m c => c.shutOff m) c).isShut n.val :=
    forEach_reaches (mem_sliceChans.mpr ⟨n.isLt, hn⟩) (fun d => d.isShut_shutOff_same n) (fun m _ d hd => d.isShut_shutOff n m hd) c
  obtain ⟨hOut, hCause⟩ := hShut
  have hState : (forEach (sliceChans i) (fun m c => c.shutOff m) c).pstate n.val = c.pstate n.val :=
    forEach_keeps (p := fun d : Chip => d.pstate n.val = c.pstate n.val) (u := fun m c => c.shutOff m) (sliceChans i)
      (fun m _ d hd => (d.pstate_shutOff n m).trans hd) rfl
  rw [c.sliceFaultOp_shuts h]
  refine ⟨?_, (Chip.get_faultShown _ n i rfl).trans hCause, (Chip.get_faultShown _ n i rfl).trans hState⟩
  rwa [Chip.flag_eq_of_get (Chip.get_faultShown _ n i rfl)]

theorem Chip.faultShown_effect (i : Nat) : look false (c.faultShown i).lsc.sliceFault i = true ∧ (c.faultShown i).pends 63 = true := by
  refine ⟨?_, Chip.pends_raise _ 63 (by omega)⟩
  rw [Chip.faultShown, Chip.raise_lsc _ 63 (by omega)]
  dsimp only
  exact look_put_same false _ _ _

end

theorem Chip.heartbeatMiss_due (c : Chip) {d : Nat} (h : c.lsc.heartbeat = some d) (hd : d ≤ c.now) :
    c.heartbeatMiss = (c.stick LSC_STAT_HBMISS).declareSilence [0, 1, 2] := by
  have hDue : c.dueNow c.lsc.heartbeat = true := by simp [h, Chip.dueNow, hd]
  rw [Chip.heartbeatMiss, hDue, Chip.when_true]

theorem lsClass_mem (n : Nat) : lsClass n ∈ [0, 1, 2] := by
  unfold lsClass
  split
  · simp
  · split <;> simp

/-- Settles O20: the tick bank by bank, the shed step through its choice, silence and a slice's fault channel by channel, the fallback
by its code. -/
theorem loadSwitchSupervision : Obligations.LoadSwitchSupervision := by
  unfold Obligations.LoadSwitchSupervision
  intro s
  refine ⟨?_, ?_, ?_, ?_, ?_, ?_, ?_, ?_, ?_, ?_⟩
  · intro bankMa bankMv lugMv
    refine Runs.on (f := fun c => c.budgetTick bankMa bankMv lugMv) rfl ?_
    generalize hAfter : s.chip.budgetTick bankMa bankMv lugMv = d
    have hShows (k : Fin 12) : s.chip.bankShows d k.val (bankMa.getD k.val 0) (bankMv.getD k.val 0) :=
      hAfter ▸ s.chip.budgetTick_shows bankMa bankMv lugMv k.isLt
    unfold Chip.bankShows at hShows
    simp only [forall_and] at hShows
    exact hShows
  · intro g n hg hf hp hc
    refine Runs.on (f := fun c => c.shedStep g.val) rfl ?_
    rw [s.chip.shedStep_bank hg hf hp hc]
    obtain ⟨hOut, hState, hCause, hPends⟩ := (s.chip.shedding (LSC_BK_STAT_SHEDDING g.val) (48 + g.val)).shedOff_effect n (cause := 5) rfl
    refine ⟨?_, hOut, hState, hCause, hPends⟩
    rw [Chip.flag_eq_of_get (Chip.get_shedOff _ n 5 _ _), Chip.flag_shedding _ (by omega) (bk_stat_place hg) rfl]
    · simp [LSC_BK_STAT_SHEDDING, LSC_BK_STAT]
      omega
    · exact (bk_stat_place hg).2
  · intro g n hg hf hp hc
    refine Runs.on (f := fun c => c.shedStep g.val) rfl ?_
    rw [s.chip.shedStep_lug hg hf hp hc]
    obtain ⟨hOut, -, hCause, hPends⟩ := (s.chip.setB (LSC_LUG_STAT_SHEDDING (g.val - 12)) true).shedOff_effect n (cause := 6) rfl
    refine ⟨?_, hOut, hCause, hPends⟩
    rw [Chip.flag_eq_of_get (Chip.get_shedOff _ n 6 _ _)]
    · exact Chip.flag_setB_same _ _ _ (RFld.ok_of rfl)
    · simp only [LSC_LUG_STAT_SHEDDING, LSC_LUG_STAT]
      omega
    · simp only [LSC_LUG_STAT_SHEDDING, LSC_LUG_STAT]
      omega
  · intro i he
    refine Runs.on (f := fun c => c.sliceSilence i.val) rfl ?_
    obtain ⟨hLink, hHold⟩ := s.chip.linkLost_clears i
    obtain ⟨hSilent, -, hPends⟩ := (s.chip.linkLost i.val).declareSilence_shows [i.val]
    refine ⟨fun n hn => Chip.declareSilence_orphans _ n (by simp [hn]), hSilent, ?_, ?_, hPends he⟩
    · rwa [Chip.sliceSilence, Chip.get_declareSilence _ _ rfl rfl rfl]
    · rwa [Chip.sliceSilence, Chip.get_declareSilence _ _ rfl rfl rfl]
  · intro d hh hd
    refine Runs.on (f := fun c => c.heartbeatMiss) rfl ?_
    rw [s.chip.heartbeatMiss_due hh hd]
    obtain ⟨-, hNone, -⟩ := (s.chip.stick LSC_STAT_HBMISS).declareSilence_shows [0, 1, 2]
    refine ⟨?_, hNone, fun n => Chip.declareSilence_orphans _ n (lsClass_mem _)⟩
    rw [Chip.flag_eq_of_get (Chip.get_declareSilence _ _ rfl rfl rfl)]
    exact Chip.flag_setB_same _ _ _ (RFld.ok_of rfl)
  · intro n odly hbt codes hp ho hb hd ht hc hs
    refine Runs.on (f := fun c => c.orphanFallback n.val) rfl ?_
    rw [s.chip.orphanFallback_applies n hp ho hb hd ht, hc]
    obtain ⟨hOut, hOn, hCause, hLink⟩ := s.chip.applyFallback_off_effect n hs
    refine ⟨?_, ?_, (Chip.get_stat_fellBack _ n rfl).trans hCause, Chip.fbapplied_fellBack _ n, fun h => Chip.pends_fellBack _ n ?_⟩
    · rwa [Chip.flag_eq_of_get (Chip.get_stat_fellBack _ n rfl)]
    · rwa [Chip.flag_eq_of_get (Chip.get_stat_fellBack _ n rfl)]
    · rwa [hLink]
  · intro n odly hbt codes hp ho hb hd ht hc hs hh hf hu
    refine Runs.on (f := fun c => c.orphanFallback n.val) rfl ?_
    rw [s.chip.orphanFallback_applies n hp ho hb hd ht, hc]
    obtain ⟨hOut, hOn, hCause⟩ := s.chip.applyFallback_on_effect n hs hh hf hu
    refine ⟨?_, ?_, (Chip.get_stat_fellBack _ n rfl).trans hCause, Chip.fbapplied_fellBack _ n⟩
    · rwa [Chip.flag_eq_of_get (Chip.get_stat_fellBack _ n rfl)]
    · rwa [Chip.flag_eq_of_get (Chip.get_stat_fellBack _ n rfl)]
  · intro i
    refine Runs.on (f := fun c => c.cuffLinkUp i.val) rfl ?_
    obtain ⟨hLsc, hSilence, hFallback⟩ := s.chip.cuffLinkUp_effect i
    exact ⟨s.chip.linkup_cuffLinkUp i, hLsc, hSilence, hFallback, State.frame_chip (s.chip.frame_cuffLinkUp i)⟩
  · intro i hl
    refine Runs.on (f := fun c => c.holdReadbackDone i.val) rfl ?_
    rw [s.chip.holdReadbackDone_takes i hl]
    exact ⟨s.chip.bit_set_slice i true rfl rfl, State.frame_chip (Chip.frame_set _ _ _ (among_of_mem (by simp [LSC_STAT_HOLDVALID])))⟩
  · intro i hf
    refine Runs.on (f := fun c => c.sliceFaultOp i.val) rfl ?_
    refine ⟨fun n hn => s.chip.sliceFaultOp_effect n hf hn, ?_⟩
    rw [s.chip.sliceFaultOp_shuts hf]
    exact Chip.faultShown_effect _ i.val

end Sys2Proof.Machine
end

section
/-! SUPPORT. Modes, stops and faults of a logic engine (R147, R156, R162 to R164): what each of its shared operations writes, and what it
leaves of the engine, its registers and the rest of the module. -/

namespace Sys2Proof.Machine

/-! ### Fields of the engines' registers -/

/-- Two fields that lie in 128 bits and share none, of one register or of two. -/
def RFld.clear (f g : RFld) : Bool :=
  f.okb && g.okb && (decide (g.reg.addr ≠ f.reg.addr) || (decide (g.reg = f.reg) && (decide (g.hi < f.lo) || decide (f.hi < g.lo))))

theorem RFld.apart_of_clear {f g : RFld} (h : f.clear g = true) : f.ok ∧ g.ok ∧ f.apart g := by
  simp only [RFld.clear, Bool.and_eq_true, Bool.or_eq_true, decide_eq_true_eq] at h
  exact ⟨RFld.ok_of h.1.1, RFld.ok_of h.1.2, h.2⟩

/-- A field of a register of the logic engines (R7). -/
def RFld.engine (g : RFld) : Bool := decide (0x30050000 ≤ g.reg.addr) && decide (g.reg.addr < 0x30070000)

theorem RFld.engine_place {g : RFld} (h : g.engine = true) : 0x30050000 ≤ g.reg.addr ∧ g.reg.addr < 0x30070000 := by
  simpa only [RFld.engine, Bool.and_eq_true, decide_eq_true_eq] using h

/-- A field of an engine that shares no bit with those of a list. -/
def RFld.outside (g : RFld) (l : List RFld) : Bool := g.engine && l.all fun f => f.clear g

theorem RFld.outside_iff {g : RFld} {l : List RFld} : g.outside l = true ↔ g.engine = true ∧ ∀ f ∈ l, f.clear g = true := by
  simp only [RFld.outside, Bool.and_eq_true, List.all_eq_true]

theorem RFld.outside_mono {g : RFld} {l k : List RFld} (h : g.outside k = true) (hl : l ⊆ k) : g.outside l = true := by
  rw [RFld.outside_iff] at h ⊢
  exact ⟨h.1, fun f hf => h.2 f (hl hf)⟩

section
variable (c : Chip) {f g : RFld}

theorem Chip.get_set_clear (x : Nat) (h : f.clear g = true) : (c.set f x).get g = c.get g :=
  have ⟨hf, hg, hd⟩ := RFld.apart_of_clear h
  Chip.get_set_ne c x hf hg hd

theorem Chip.get_setB_clear (b : Bool) (h : f.clear g = true) : (c.setB f b).get g = c.get g := Chip.get_set_clear c _ h

theorem Chip.get_stick_clear (h : f.clear g = true) : (c.stick f).get g = c.get g := Chip.get_set_clear c _ h

theorem Chip.get_wrN_ne {r : Reg} (v : Nat) (h : g.reg.addr ≠ r.addr) : (c.wrN r v).get g = c.get g := Chip.get_wr_ne c _ h

theorem Chip.get_stick_same (hf : f.okb = true) : (c.stick f).get f = 1 := Chip.get_setB_okb c true hf

/-- A flag of one bit that is up reads 1. -/
theorem Chip.flag_of_get_one (h : c.get g = 1) : c.flag g = true := by rw [Chip.flag, h]; rfl

theorem Chip.flag_of_get_zero (h : c.get g = 0) : c.flag g = false := by rw [Chip.flag, h]; rfl

end

section
variable (c : Chip) (e : Fin 2) {g : RFld}

@[simp] theorem Chip.leg_stick (f : RFld) (n : Nat) : (c.stick f).leg n = c.leg n := rfl

@[simp] theorem Chip.leg_updCpu_same (n : Nat) (u : LeCpu → LeCpu) : (c.updCpu n u).leg n = { c.leg n with cpu := u (c.leg n).cpu } :=
  Chip.leg_updLe_same c n _

/-- The mode is a field of LEn_STAT. -/
theorem Chip.leMode_eq (n : Nat) : c.leMode n = c.get (LE_STAT_MODE n) := rfl

theorem Chip.get_event (hg : g.engine = true) {k : Nat} (hk : k < 16) : (c.leEvent e k).get g = c.get g :=
  Chip.get_leEvent c e hk (RFld.engine_place hg)

/-! ### The mode (R177) -/

theorem Chip.leg_leSetMode (m n : Nat) : (c.leSetMode e m).leg n = c.leg n := by
  unfold Chip.leSetMode
  split
  · rfl
  · exact Chip.leg_leEvent _ e (by decide) n

theorem Chip.get_leSetMode (m : Nat) (h : g.outside [LE_STAT_MODE e] = true) : (c.leSetMode e m).get g = c.get g := by
  obtain ⟨hg, hm⟩ := RFld.outside_iff.mp h
  unfold Chip.leSetMode
  split
  · rfl
  · rw [Chip.get_event _ e hg (by decide), Chip.get_set_clear _ _ (hm _ (by simp))]

theorem Chip.leMode_leSetMode {m : Nat} (hm : m < 4) : (c.leSetMode e m).leMode e = m := by
  unfold Chip.leSetMode
  split
  · assumption
  · rw [Chip.leMode_eq, Chip.get_event _ e (by fin_cases e <;> rfl) (by decide)]
    exact Chip.get_set_fit c rfl (decide_eq_true hm)

/-- A change of the mode is an event. -/
theorem Chip.pends_leSetMode {m : Nat} (h : c.leMode e ≠ m) : (c.leSetMode e m).pends (160 + 16 * e.val) = true := by
  unfold Chip.leSetMode
  rw [if_neg h]
  exact Chip.pends_leEvent _ e (by decide)

/-! ### HOLD and STOP (R162 to R164) -/

theorem Chip.leg_leLeaveHold : (c.leLeaveHold e).leg e = { c.leg e with heldAt := none, single := false } := by
  rw [Chip.leLeaveHold, Chip.leg_updLe_same, Chip.leg_set]

theorem Chip.get_leLeaveHold (h : (LE_HOLDACC_NS e).clear g = true) : (c.leLeaveHold e).get g = c.get g := by
  rw [Chip.leLeaveHold, Chip.updLe_get, Chip.get_set_clear _ _ h]

theorem Chip.leg_leHold : (c.leHold e).leg e = { c.leg e with heldAt := some c.tdNs, single := false } := by
  rw [Chip.leHold, Chip.leg_leSetMode, Chip.leg_updLe_same]

theorem Chip.get_leHold (h : g.outside [LE_STAT_MODE e] = true) : (c.leHold e).get g = c.get g := by
  rw [Chip.leHold, Chip.get_leSetMode _ e _ h, Chip.updLe_get]

/-- The module as leStop leaves it before the mode is shown. -/
def Chip.leHalted (c : Chip) (e : Nat) : Chip :=
  let c := if c.leMode e = 2 then c.leLeaveHold e else c
  (c.setB (LE_STAT_CYCRUN e) false).when (c.flag (LE_CFG_STOPACT e)) fun c =>
    c.updLe e fun g => { g with stopActAt := some (c.frc + 2000) }

theorem Chip.leStop_eq (n : Nat) : c.leStop n = (c.leHalted n).leSetMode n 0 := rfl

/-- The fields that a stop writes. -/
def stopFields (e : Nat) : List RFld := [LE_STAT_MODE e, LE_STAT_CYCRUN e, LE_HOLDACC_NS e]

theorem Chip.leg_setStopAct (p : Bool) : ∃ u,
    (c.when p fun c => c.updLe e fun g => { g with stopActAt := some (c.frc + 2000) }).leg e = { c.leg e with stopActAt := u } := by
  cases p
  · exact ⟨(c.leg e).stopActAt, rfl⟩
  · exact ⟨_, Chip.leg_updLe_same c e _⟩

/-- A stop ends the hold and may set the tick of the STOPACT commit; the rest of the engine is kept. -/
theorem Chip.leg_leStop : ∃ h b u, (c.leStop e).leg e = { c.leg e with heldAt := h, single := b, stopActAt := u } := by
  have hUnheld : ∃ h b, (if c.leMode e = 2 then c.leLeaveHold e else c).leg e = { c.leg e with heldAt := h, single := b } := by
    split
    · exact ⟨_, _, c.leg_leLeaveHold e⟩
    · exact ⟨_, _, rfl⟩
  obtain ⟨h, b, hLeg⟩ := hUnheld
  obtain ⟨u, hu⟩ := ((if c.leMode e = 2 then c.leLeaveHold e else c).setB (LE_STAT_CYCRUN e) false).leg_setStopAct e
    ((if c.leMode e = 2 then c.leLeaveHold e else c).flag (LE_CFG_STOPACT e))
  refine ⟨h, b, u, ?_⟩
  rw [Chip.leStop_eq, Chip.leg_leSetMode, Chip.leHalted, hu, Chip.leg_setB, hLeg]

theorem Chip.get_leHalted (hc : (LE_STAT_CYCRUN e).clear g = true) (hh : (LE_HOLDACC_NS e).clear g = true) :
    (c.leHalted e).get g = c.get g := by
  unfold Chip.leHalted
  dsimp only
  rw [Chip.get_when, Chip.updLe_get, ite_self, Chip.get_setB_clear _ _ hc]
  split
  · exact Chip.get_leLeaveHold c e hh
  · rfl

theorem Chip.cycrun_leHalted : (c.leHalted e).get (LE_STAT_CYCRUN e) = 0 := by
  unfold Chip.leHalted
  dsimp only
  rw [Chip.get_when, Chip.updLe_get, ite_self]
  exact Chip.get_setB_okb _ _ rfl

theorem Chip.get_leStop (h : g.outside (stopFields e) = true) : (c.leStop e).get g = c.get g := by
  obtain ⟨-, hClear⟩ := RFld.outside_iff.mp h
  rw [Chip.leStop_eq, Chip.get_leSetMode _ e _ (RFld.outside_mono h (by simp [stopFields])),
    Chip.get_leHalted c e (hClear _ (by simp [stopFields])) (hClear _ (by simp [stopFields]))]

theorem Chip.leMode_leStop : (c.leStop e).leMode e = 0 := Chip.leMode_leSetMode _ e (by decide)

theorem Chip.cycrun_leStop : (c.leStop e).flag (LE_STAT_CYCRUN e) = false :=
  Chip.flag_of_get_zero _ ((Chip.get_leSetMode _ e 0 (by fin_cases e <;> rfl)).trans (c.cycrun_leHalted e))

theorem Chip.pends_leStop (h : c.leMode e ≠ 0) : (c.leStop e).pends (160 + 16 * e.val) = true := by
  refine Chip.pends_leSetMode (c.leHalted e) e ?_
  rwa [Chip.leMode_eq, Chip.get_leHalted c e (by fin_cases e <;> rfl) (by fin_cases e <;> rfl)]

/-! ### Faults (R156, R163) -/

/-- The module with a fault of the engine recorded. -/
def Chip.faultNoted (c : Chip) (e cause : Nat) : Chip :=
  ((c.set (LE_FAULT_CAUSE e) cause).set (LE_FAULT_PC e) (c.leg e).cpu.pc).stick (LE_STAT_FLTSTOP e)

theorem Chip.leFault_eq (n cause : Nat) : c.leFault n cause = ((c.faultNoted n cause).leStop n).leEvent n 2 := rfl

theorem Chip.leg_leFault (cause : Nat) :
    ∃ h b u, (c.leFault e cause).leg e = { c.leg e with heldAt := h, single := b, stopActAt := u } := by
  rw [Chip.leFault_eq, Chip.leg_leEvent _ e (by decide)]
  exact (c.faultNoted e cause).leg_leStop e

theorem Chip.leFault_effect {cause : Nat} (h : decide (cause < 256) = true) : (c.leFault e cause).get (LE_FAULT_CAUSE e) = cause ∧
    (c.leFault e cause).get (LE_FAULT_PC e) = (c.leg e).cpu.pc % 65536 ∧ (c.leFault e cause).flag (LE_STAT_FLTSTOP e) = true ∧
    (c.leFault e cause).leMode e = 0 ∧ ((c.leFault e cause).leg e).cpu = (c.leg e).cpu := by
  have hKept {g : RFld} (hg : g.outside (stopFields e) = true) : (c.leFault e cause).get g = (c.faultNoted e cause).get g := by
    rw [Chip.leFault_eq, Chip.get_event _ e (RFld.outside_iff.mp hg).1 (by decide), Chip.get_leStop _ e hg]
  refine ⟨?_, ?_, Chip.flag_of_get_one _ ?_, ?_, ?_⟩
  · rw [hKept (by fin_cases e <;> rfl), Chip.faultNoted, Chip.get_stick_clear _ (by fin_cases e <;> rfl),
      Chip.get_set_clear _ _ (by fin_cases e <;> rfl)]
    exact Chip.get_set_fit c rfl h
  · rw [hKept (by fin_cases e <;> rfl), Chip.faultNoted, Chip.get_stick_clear _ (by fin_cases e <;> rfl)]
    exact Chip.get_set_same _ _ _ (RFld.ok_of rfl)
  · rw [hKept (by fin_cases e <;> rfl)]
    exact Chip.get_stick_same _ rfl
  · rw [Chip.leMode_eq, Chip.leFault_eq, Chip.get_event _ e (by fin_cases e <;> rfl) (by decide)]
    exact Chip.leMode_leStop _ e
  · obtain ⟨_, _, _, hLeg⟩ := c.leg_leFault e cause
    rw [hLeg]

/-! ### Breakpoints (R164) -/

/-- At a breakpoint a running engine goes to HOLD; otherwise nothing happens. -/
theorem Chip.leBreak_cases : c.leBreak e = c ∨
    (c.leMode e = 1 ∧ c.leBreak e = ((c.leHold e).stick (LE_STAT_BRKHIT e)).leEvent e 8) := by
  unfold Chip.leBreak
  split
  next h =>
    simp only [Bool.and_eq_true, beq_iff_eq] at h
    exact .inr ⟨h.1.1, rfl⟩
  next => exact .inl rfl

theorem Chip.leBreak_notRunning (h : c.leMode e ≠ 1) : c.leBreak e = c := by
  obtain hEq | ⟨hRun, -⟩ := c.leBreak_cases e
  · exact hEq
  · exact absurd hRun h

theorem Chip.leg_leBreak : ∃ h b, (c.leBreak e).leg e = { c.leg e with heldAt := h, single := b } := by
  obtain hEq | ⟨-, hEq⟩ := c.leBreak_cases e
  · exact ⟨_, _, by rw [hEq]⟩
  · rw [hEq, Chip.leg_leEvent _ e (by decide), Chip.leg_stick, Chip.leg_leHold]
    exact ⟨_, _, rfl⟩

theorem Chip.get_leBreak (h : g.outside [LE_STAT_MODE e, LE_STAT_BRKHIT e] = true) : (c.leBreak e).get g = c.get g := by
  obtain ⟨hg, hClear⟩ := RFld.outside_iff.mp h
  obtain hEq | ⟨-, hEq⟩ := c.leBreak_cases e
  · rw [hEq]
  · rw [hEq, Chip.get_event _ e hg (by decide), Chip.get_stick_clear _ (hClear _ (by simp)),
      Chip.get_leHold _ e (RFld.outside_mono h (by simp))]

end

end Sys2Proof.Machine
end

section
/-! SUPPORT. Instruction words and the execution of one instruction (R154 to R157): the fields of each format, and what a logic engine
does with an instruction it has reached. -/

namespace Sys2Proof.Machine

/-! ### Fields of an instruction word (R154) -/

section
variable (op : Nat)

@[simp] theorem area_wordB (a : Fin 8) (d : Fin 32768) : (leFields (wordB op a d)).area = a := by
  simp only [leFields, wordB, bits, Nat.shiftLeft_eq, Nat.shiftRight_eq_div_pow]
  omega

@[simp] theorem bitAddr_wordB (a : Fin 8) (d : Fin 32768) : (leFields (wordB op a d)).bitAddr = d := by
  simp only [leFields, wordB, bits, Nat.shiftLeft_eq, Nat.shiftRight_eq_div_pow]
  omega

theorem addr_wordI {ix : Nat} (h : ix < 4096) : (leFields (wordI op ix)).addr = ix := by
  simp only [leFields, wordI, bits, Nat.shiftLeft_eq, Nat.shiftRight_eq_div_pow]
  omega

@[simp] theorem target_wordJ (t : Fin 65536) : (leFields (wordJ op t)).target = t := by
  simp only [leFields, wordJ, bits, Nat.shiftLeft_eq, Nat.shiftRight_eq_div_pow]
  omega

theorem b2n_le_one (b : Bool) : b2n b ≤ 1 := by cases b <;> decide

section
variable (l : Fin 8) (src : Fin 4) (u any : Bool) (addr : Fin 4096)

@[simp] theorem area_wordW : (leFields (wordW op l src u any addr)).area = l := by
  have hu := b2n_le_one u
  have ha := b2n_le_one any
  simp only [leFields, wordW, bits, Nat.shiftLeft_eq, Nat.shiftRight_eq_div_pow]
  omega

@[simp] theorem src_wordW : (leFields (wordW op l src u any addr)).src = src := by
  have hu := b2n_le_one u
  have ha := b2n_le_one any
  simp only [leFields, wordW, bits, Nat.shiftLeft_eq, Nat.shiftRight_eq_div_pow]
  omega

@[simp] theorem addr_wordW : (leFields (wordW op l src u any addr)).addr = addr := by
  have hu := b2n_le_one u
  have ha := b2n_le_one any
  simp only [leFields, wordW, bits, Nat.shiftLeft_eq, Nat.shiftRight_eq_div_pow]
  omega

theorem bit_eq_of_div {v i : Nat} {b : Bool} (h : v / 2 ^ i % 2 = b2n b) : bit v i = b := by
  rw [bit, Nat.testBit_eq_decide_div_mod_eq, h]
  cases b <;> rfl

@[simp] theorem u_wordW : (leFields (wordW op l src u any addr)).u = u := by
  have hu := b2n_le_one u
  have ha := b2n_le_one any
  refine bit_eq_of_div ?_
  simp only [wordW, Nat.shiftLeft_eq]
  omega

@[simp] theorem any_wordW : (leFields (wordW op l src u any addr)).any = any := by
  have hu := b2n_le_one u
  have ha := b2n_le_one any
  refine bit_eq_of_div ?_
  simp only [wordW, Nat.shiftLeft_eq]
  omega

end

end

/-! ### One instruction -/

section
variable {c : Chip} {e : Fin 2} {g : NMap W128 → LeIns → LeCpu → LeRes} {k : LeIns}

theorem Chip.cpu_leDo_ok {q : LeCpu} (h : g (c.leg e).active.k k (c.leg e).cpu = .ok q) :
    ((c.leDo e g k).leg e).cpu = { q with executed := q.executed + 1 } := by
  obtain ⟨_, _, hLeg⟩ := (c.updCpu e fun _ => { q with executed := q.executed + 1 }).leg_leBreak e
  rw [Chip.leDo, h, hLeg, Chip.leg_updCpu_same]

theorem Chip.leDo_fault {cause : Nat} (h : g (c.leg e).active.k k (c.leg e).cpu = .fault cause) :
    c.leDo e g k = c.leFault e cause := by rw [Chip.leDo, h]

end

/-- Engine `e` is in a cycle with processor `p` and has reached the word `w`. -/
structure State.AtWord (s : State) (e : Fin 2) (p : LeCpu) (w : Nat) : Prop where
  zoneUp : s.chip.zoneUp = true
  executes : s.chip.leExecutes e = true
  cpu : (s.chip.leg e).cpu = p
  fetch : (s.chip.leg e).fetch = w

section
variable {s : State} {i : Instr} {e : Fin 2} {p : LeCpu} {w : Nat} {g : NMap W128 → LeIns → LeCpu → LeRes} (h : s.AtWord e p w)
include h

/-- The engine executes the instruction it has reached. -/
theorem State.AtWord.runs {P : State → Prop} (he : exec i s = s.onZone fun c => c.leRun e w g)
    (hP : P { s with chip := s.chip.leDo e g (leFields w) }) : Runs i s P := by
  refine Runs.onZone he h.zoneUp ?_
  rwa [Chip.leRun, h.executes, h.fetch, beq_self_eq_true, Bool.and_self, Chip.when_true]

theorem State.AtWord.runs_ok {q : LeCpu} (he : exec i s = s.onZone fun c => c.leRun e w g)
    (hq : g (s.chip.leg e).active.k (leFields w) p = .ok q) :
    Runs i s fun t => (t.chip.leg e).cpu = { q with executed := q.executed + 1 } :=
  h.runs he (Chip.cpu_leDo_ok (by rwa [h.cpu]))

/-- A fault stops the engine at the instruction, with the processor as it was (R156, R163). -/
theorem State.AtWord.runs_fault {cause : Nat} (he : exec i s = s.onZone fun c => c.leRun e w g) (hc : decide (cause < 256) = true)
    (hf : g (s.chip.leg e).active.k (leFields w) p = .fault cause) :
    Runs i s fun t => t.chip.get (LE_FAULT_CAUSE e) = cause ∧ t.chip.get (LE_FAULT_PC e) = p.pc % 65536 ∧
      t.chip.flag (LE_STAT_FLTSTOP e) = true ∧ t.chip.leMode e = 0 ∧ (t.chip.leg e).cpu = p := by
  refine h.runs he ?_
  rw [Chip.leDo_fault (by rwa [h.cpu]), ← h.cpu]
  exact s.chip.leFault_effect e hc

end

end Sys2Proof.Machine
end

section
/-! The bit instructions of a logic engine (R149, R155). -/

namespace Sys2Proof.Machine

/-- The processor with a bit stored, where one is asked for. -/
def LeCpu.storeBit (p : LeCpu) (area addr : Nat) (b : Option Bool) : LeCpu :=
  match b with
  | some b => p.setBit area addr b
  | none => p

theorem LeCpu.executed_setBit (p : LeCpu) (area addr : Nat) (b : Bool) : (p.setBit area addr b).executed = p.executed := by
  unfold LeCpu.setBit
  split <;> rfl

theorem LeCpu.executed_storeBit (p : LeCpu) (area addr : Nat) (b : Option Bool) : (p.storeBit area addr b).executed = p.executed := by
  cases b with
  | none => rfl
  | some b => exact p.executed_setBit area addr b

theorem leStoreBit_eq (f : Bool → Option Bool) (n : LeIns) (p : LeCpu) :
    leStoreBit f n p = .ok (p.storeBit n.area n.bitAddr (f p.rlo)).step := by
  unfold leStoreBit
  cases f p.rlo <;> rfl

/-- SET and RST store where RLO is 1. -/
theorem LeCpu.storeBit_ite (p : LeCpu) (area addr : Nat) (r b : Bool) :
    p.storeBit area addr (if r then some b else none) = if r then p.setBit area addr b else p := by cases r <;> rfl

/-- XORN as R155 writes it. -/
theorem leiXorn_eq (k : NMap W128) (n : LeIns) (p : LeCpu) : leiXorn k n p = leBit (fun r b => r == b) n p := by
  have hEq : (fun r b : Bool => r ^^ !b) = fun r b => r == b := by decide
  rw [leiXorn, hEq]

section
variable {s : State} {i : Instr} {e : Fin 2} {p : LeCpu} {g : NMap W128 → LeIns → LeCpu → LeRes}

theorem State.AtWord.runs_rlo {op : Nat} (f : Bool → Bool) (h : s.AtWord e p (wordN op))
    (he : exec i s = s.onZone fun c => c.leRun e (wordN op) g) (hg : ∀ k n p, g k n p = leRlo f p) :
    Runs i s fun t => (t.chip.leg e).cpu = { p.step with rlo := f p.rlo, executed := p.executed + 1 } :=
  h.runs_ok he (hg _ _ _)

section
variable {op : Nat} {area : Fin 8} {addr : Fin 32768} (h : s.AtWord e p (wordB op area addr))
  (he : exec i s = s.onZone fun c => c.leRun e (wordB op area addr) g)
include h he

theorem State.AtWord.runs_bit (f : Bool → Bool → Bool) (hg : ∀ k n p, g k n p = leBit f n p) :
    Runs i s fun t => (t.chip.leg e).cpu = { p.step with rlo := f p.rlo (p.bitAt area addr), executed := p.executed + 1 } := by
  have hRun := h.runs_ok he (hg _ _ _)
  rwa [area_wordB, bitAddr_wordB] at hRun

theorem State.AtWord.runs_store (f : Bool → Option Bool) (hg : ∀ k n p, g k n p = leStoreBit f n p) :
    Runs i s fun t => (t.chip.leg e).cpu = { (p.storeBit area addr (f p.rlo)).step with executed := p.executed + 1 } := by
  have hRun := h.runs_ok he ((hg _ _ _).trans (leStoreBit_eq _ _ _))
  rw [area_wordB, bitAddr_wordB] at hRun
  rwa [← p.executed_storeBit area addr (f p.rlo)]

end

end

/-- Settles O21: every instruction on a bit operand sets RLO by its own function of RLO and the bit, the stores store what theirs asks
for, and NOT, SETR and CLRR work on RLO alone. -/
theorem logicBitInstructions : Obligations.LogicBitInstructions := by
  unfold Obligations.LogicBitInstructions
  intro s e p hz hx hp
  have hAt {w : Nat} (hw : (s.chip.leg e).fetch = w) : s.AtWord e p w := ⟨hz, hx, hp, hw⟩
  refine ⟨?_, ?_, ?_, ?_, ?_, ?_, ?_, ?_, ?_, ?_, ?_, ?_, ?_, ?_, ?_, ?_⟩
  · exact fun hw => (hAt hw).runs_ok rfl rfl
  · exact fun _ _ hw => (hAt hw).runs_bit rfl (fun _ b => b) fun _ _ _ => rfl
  · exact fun _ _ hw => (hAt hw).runs_bit rfl (fun _ b => !b) fun _ _ _ => rfl
  · exact fun _ _ hw => (hAt hw).runs_bit rfl (fun r b => r && b) fun _ _ _ => rfl
  · exact fun _ _ hw => (hAt hw).runs_bit rfl (fun r b => r && !b) fun _ _ _ => rfl
  · exact fun _ _ hw => (hAt hw).runs_bit rfl (fun r b => r || b) fun _ _ _ => rfl
  · exact fun _ _ hw => (hAt hw).runs_bit rfl (fun r b => r || !b) fun _ _ _ => rfl
  · exact fun _ _ hw => (hAt hw).runs_bit rfl (fun r b => r != b) fun _ _ _ => rfl
  · exact fun _ _ hw => (hAt hw).runs_bit rfl (fun r b => r == b) leiXorn_eq
  · exact fun _ _ hw => (hAt hw).runs_store rfl (fun r => some r) fun _ _ _ => rfl
  · exact fun _ _ hw => (hAt hw).runs_store rfl (fun r => some !r) fun _ _ _ => rfl
  · intro area addr hw
    rw [← LeCpu.storeBit_ite]
    exact (hAt hw).runs_store rfl (fun r => if r then some true else none) fun _ _ _ => rfl
  · intro area addr hw
    rw [← LeCpu.storeBit_ite]
    exact (hAt hw).runs_store rfl (fun r => if r then some false else none) fun _ _ _ => rfl
  · exact fun hw => (hAt hw).runs_rlo (fun r => !r) rfl fun _ _ _ => rfl
  · exact fun hw => (hAt hw).runs_rlo (fun _ => true) rfl fun _ _ _ => rfl
  · exact fun hw => (hAt hw).runs_rlo (fun _ => false) rfl fun _ _ _ => rfl

end Sys2Proof.Machine
end

section
/-! The branch stack, edge detectors, jumps, calls and END of a logic engine (R144, R145, R155, R161), and the stack faults (R156). -/

namespace Sys2Proof.Machine

/-! ### Stacks, detectors and jumps -/

theorem leiPsh_pushes (k : NMap W128) (n : LeIns) {p : LeCpu} (h : p.bstack.length < 16) :
    leiPsh k n p = .ok ({ p with bstack := p.rlo :: p.bstack } : LeCpu).step := if_neg (by omega)

theorem lePop_drops (f : Bool → Bool → Bool) {p : LeCpu} {b : Bool} {r : List Bool} (h : p.bstack = b :: r) :
    lePop f p = .ok ({ p with rlo := f b p.rlo, bstack := r } : LeCpu).step := by rw [lePop, h]

theorem lePop_empty (f : Bool → Bool → Bool) {p : LeCpu} (h : p.bstack = []) : lePop f p = .fault 3 := by rw [lePop, h]

theorem leJump_eq (take : Bool) (n : LeIns) (p : LeCpu) :
    leJump take n p = .ok { p with pc := if take then n.target else (p.pc + 1) % 65536 } := by cases take <;> rfl

theorem leiCall_calls (k : NMap W128) (n : LeIns) {p : LeCpu} (h : p.cstack.length < 8) :
    leiCall k n p = .ok { p with pc := n.target, cstack := (p.pc + 1) % 65536 :: p.cstack } := if_neg (by omega)

theorem leiRet_returns (k : NMap W128) (n : LeIns) {p : LeCpu} {r : Nat} {q : List Nat} (h : p.cstack = r :: q) :
    leiRet k n p = .ok { p with pc := r, cstack := q } := by rw [leiRet, h]

section
variable {s : State} {i : Instr} {e : Fin 2} {p : LeCpu} {g : NMap W128 → LeIns → LeCpu → LeRes}

theorem State.AtWord.runs_pop {op : Nat} {b : Bool} {r : List Bool} (f : Bool → Bool → Bool) (h : s.AtWord e p (wordN op))
    (he : exec i s = s.onZone fun c => c.leRun e (wordN op) g) (hg : ∀ k n p, g k n p = lePop f p) (hp : p.bstack = b :: r) :
    Runs i s fun t => (t.chip.leg e).cpu = { p.step with rlo := f b p.rlo, bstack := r, executed := p.executed + 1 } :=
  h.runs_ok he ((hg _ _ _).trans (lePop_drops f hp))

/-- An edge detector reports its function of the input and the last one, and nothing when fresh (R161). -/
theorem State.AtWord.runs_detect {op : Nat} {ix : Fin 4096} (f : Bool → Bool → Bool) (h : s.AtWord e p (wordI op ix))
    (he : exec i s = s.onZone fun c => c.leRun e (wordI op ix) g) (hg : ∀ k n p, g k n p = leDetect f n p) :
    Runs i s fun t => (t.chip.leg e).cpu.rlo = (!(look {} p.edges ix).fresh && f p.rlo (look {} p.edges ix).prev) ∧
      look {} (t.chip.leg e).cpu.edges ix = { prev := p.rlo, fresh := false } ∧ (t.chip.leg e).cpu.pc = (p.pc + 1) % 65536 := by
  obtain ⟨t, hNext, hCpu⟩ := h.runs_ok he (hg _ _ _)
  rw [addr_wordI _ ix.isLt] at hCpu
  refine ⟨t, hNext, ?_, ?_, ?_⟩ <;> rw [hCpu]
  · cases hf : (look {} p.edges ix).fresh <;> simp [LeCpu.step]
  · exact look_put_same _ _ _ _
  · rfl

theorem State.AtWord.runs_jump {op : Nat} {t : Fin 65536} (take : LeCpu → Bool) (h : s.AtWord e p (wordJ op t))
    (he : exec i s = s.onZone fun c => c.leRun e (wordJ op t) g) (hg : ∀ k n p, g k n p = leJump (take p) n p) :
    Runs i s fun u => (u.chip.leg e).cpu = { p with pc := if take p then t.val else (p.pc + 1) % 65536, executed := p.executed + 1 } := by
  have hRun := h.runs_ok he ((hg _ _ _).trans (leJump_eq _ _ _))
  rwa [target_wordJ] at hRun

end

/-! ### END (R144, R145) -/

section
variable (c : Chip) (e : Fin 2)

/-- The execution time of a cycle that ends now, in units of ns and no more than LASTT holds. -/
def Chip.endTime (c : Chip) (e : Nat) : Nat := min (((c.leg e).cpu.executed + 1) * 5 / 2) 0xFFFFFFFF

/-- The engine once END has formed the pending image. -/
def LeEngine.atEnd (g : LeEngine) : LeEngine :=
  { g with
    pendQ := g.cpu.q, pendW := namedWords g.active.link g.cpu.w, ended := true, single := false
    cpu := { g.cpu with pc := 0, executed := 0 } }

/-- The module once the engine's cycle has ended. -/
def Chip.cycleEnded (c : Chip) (e : Nat) : Chip :=
  (((c.updLe e LeEngine.atEnd).set (LE_CYCLE_LASTT e) (c.endTime e)).set (LE_CYCLE_MAXT e)
    (max (c.endTime e) (c.get (LE_CYCLE_MAXT e)))).setB (LE_STAT_CYCRUN e) false

theorem Chip.leEndInstr_ends (hb : (c.leg e).cpu.bstack = []) (hc : (c.leg e).cpu.cstack = []) :
    c.leEndInstr e = c.cycleEnded e := by
  simp only [Chip.leEndInstr, hb, hc]
  rfl

/-- END with a stack that is not empty (R156). -/
theorem Chip.leEndInstr_fault (h : (c.leg e).cpu.bstack ≠ [] ∨ (c.leg e).cpu.cstack ≠ []) : c.leEndInstr e = c.leFault e 6 :=
  if_pos (by simpa using h)

theorem Chip.cycleEnded_effect : (c.cycleEnded e).leg e = (c.leg e).atEnd ∧ (c.cycleEnded e).flag (LE_STAT_CYCRUN e) = false ∧
    (c.cycleEnded e).get (LE_CYCLE_LASTT e) = c.endTime e ∧
    Chip.frame [.le] (among [(LE_CYCLE e).addr, (LE_STAT e).addr]) c (c.cycleEnded e) := by
  refine ⟨Chip.leg_updLe_same c e _, Chip.flag_setB_same _ _ _ (RFld.ok_of rfl), ?_, ?_⟩
  · rw [Chip.cycleEnded, Chip.get_setB_clear _ _ (by fin_cases e <;> rfl), Chip.get_set_clear _ _ (by fin_cases e <;> rfl)]
    have hFit : c.endTime e < 2 ^ 32 := by
      rw [Chip.endTime]
      omega
    exact Chip.get_set_fit _ rfl (decide_eq_true hFit)
  · exact Chip.frame_trans (Chip.frame_trans (Chip.frame_trans (Chip.frame_updLe _ _ _ _ (by simp))
      (Chip.frame_set _ _ _ (among_of_mem (by simp [LE_CYCLE_LASTT])))) (Chip.frame_set _ _ _ (among_of_mem (by simp [LE_CYCLE_MAXT]))))
      (Chip.frame_set _ _ _ (among_of_mem (by simp [LE_STAT_CYCRUN])))

end

theorem State.AtWord.runs_end {s : State} {e : Fin 2} {p : LeCpu} {P : State → Prop} (h : s.AtWord e p (wordN 0x3D))
    (hP : P { s with chip := s.chip.leEndInstr e }) : Runs (.leEnd e) s P := by
  refine Runs.onZone rfl h.zoneUp ?_
  rwa [Chip.leRunEnd, h.executes, h.fetch, beq_self_eq_true, Bool.and_self, Chip.when_true]

/-! ### The statements -/

/-- Settles O22: each stack, edge and jump instruction by what it does to the processor, and END by the module it leaves. -/
theorem logicStackEdgeAndJumpInstructions : Obligations.LogicStackEdgeAndJumpInstructions := by
  unfold Obligations.LogicStackEdgeAndJumpInstructions
  intro s e p hz hx hp
  have hAt {w : Nat} (hw : (s.chip.leg e).fetch = w) : s.AtWord e p w := ⟨hz, hx, hp, hw⟩
  refine ⟨?_, ?_, ?_, ?_, ?_, ?_, ?_, ?_, ?_, ?_, ?_, ?_⟩
  · exact fun hw hb => (hAt hw).runs_ok rfl (leiPsh_pushes _ _ hb)
  · exact fun _ _ hw hb => (hAt hw).runs_pop (fun b r => b && r) rfl (fun _ _ _ => rfl) hb
  · exact fun _ _ hw hb => (hAt hw).runs_pop (fun b r => b || r) rfl (fun _ _ _ => rfl) hb
  · exact fun _ _ hw hb => (hAt hw).runs_pop (fun b r => b != r) rfl (fun _ _ _ => rfl) hb
  · exact fun _ hw => (hAt hw).runs_detect (fun r prev => r && !prev) rfl fun _ _ _ => rfl
  · exact fun _ hw => (hAt hw).runs_detect (fun r prev => !r && prev) rfl fun _ _ _ => rfl
  · exact fun _ hw => (hAt hw).runs_jump (fun _ => true) rfl fun _ _ _ => rfl
  · exact fun _ hw => (hAt hw).runs_jump (fun p => p.rlo) rfl fun _ _ _ => rfl
  · intro target hw
    have hRun := (hAt hw).runs_jump (i := .leJnc e target) (fun p => !p.rlo) rfl fun _ _ _ => rfl
    simpa only [Bool.not_eq_true', ← Bool.not_eq_true, ite_not] using hRun
  · intro target hw hc
    have hRun := (hAt hw).runs_ok (i := .leCall e target) rfl (leiCall_calls _ _ hc)
    rwa [target_wordJ] at hRun
  · exact fun _ _ hw hc => (hAt hw).runs_ok rfl (leiRet_returns _ _ hc)
  · intro hw hb hc
    subst hp
    refine (hAt hw).runs_end ?_
    rw [Chip.leEndInstr_ends _ e hb hc]
    obtain ⟨hLeg, hCycrun, hTime, hFrame⟩ := s.chip.cycleEnded_effect e
    refine ⟨?_, ?_, ?_, hCycrun, hTime, State.frame_chip hFrame⟩ <;> rw [hLeg] <;> rfl

/-- Settles O23: each of the stack faults by its instruction's condition. -/
theorem logicInstructionFaults : Obligations.LogicInstructionFaults := by
  unfold Obligations.LogicInstructionFaults
  intro s e p hz hx hp
  have hAt {w : Nat} (hw : (s.chip.leg e).fetch = w) : s.AtWord e p w := ⟨hz, hx, hp, hw⟩
  refine ⟨?_, ?_, ?_, ?_, ?_, ?_, ?_⟩
  · exact fun hw hb => (hAt hw).runs_fault rfl rfl (if_pos hb)
  · exact fun hw hb => (hAt hw).runs_fault rfl rfl (lePop_empty _ hb)
  · exact fun hw hb => (hAt hw).runs_fault rfl rfl (lePop_empty _ hb)
  · exact fun hw hb => (hAt hw).runs_fault rfl rfl (lePop_empty _ hb)
  · exact fun _ hw hc => (hAt hw).runs_fault rfl rfl (if_pos hc)
  · exact fun hw hc => (hAt hw).runs_fault (g := leiRet) rfl rfl (by rw [leiRet, hc])
  · intro hw h
    subst hp
    refine (hAt hw).runs_end ?_
    rw [Chip.leEndInstr_fault _ e h]
    exact s.chip.leFault_effect e rfl

end Sys2Proof.Machine
end

section
/-! The timers and counters of a logic engine (R159, R160). -/

namespace Sys2Proof.Machine

/-! ### Timers (R159) -/

section
variable {p : LeCpu} {t : LeTimer}

theorem LeCpu.elapsed_started (h : t.stamp = p.timerTime) : p.elapsed t = 0 := by
  have hZero : s64 0 = 0 := by decide
  simp [LeCpu.elapsed, h, hZero]

theorem tonStep_off (h : p.rlo = false) : tonStep p t = { t with q := false, running := false } := by simp [tonStep, h]

theorem tonStep_starts (h : p.rlo = true) (hr : t.running = false) :
    tonStep p t = { t with stamp := p.timerTime, running := true, q := decide (t.preset = 0) } := by
  simp [tonStep, h, hr, LeCpu.elapsed_started]

theorem tonStep_runs (h : p.rlo = true) (hr : t.running = true) :
    tonStep p t = { t with q := decide (t.preset ≤ p.elapsed t) } := by simp [tonStep, h, hr]

theorem tofStep_on (h : p.rlo = true) : tofStep p t = { t with q := true, running := false } := by simp [tofStep, h]

theorem tofStep_runs (h : p.rlo = false) (hr : t.running = true) :
    tofStep p t = { t with q := t.q && decide (p.elapsed t < t.preset) } := by
  have hStep : tofStep p t = if t.preset ≤ p.elapsed t then { t with q := false } else t := by simp [tofStep, h, hr]
  rw [hStep]
  split
  next hd => simp [Nat.not_lt.mpr hd]
  next hd => simp [Nat.lt_of_not_le hd]

theorem tpStep_starts (h : p.rlo = true) (hi : t.input = false) (hr : t.running = false) (hp : 0 < t.preset) :
    tpStep p t = { t with stamp := p.timerTime, running := true, q := true, input := true } := by
  simp [tpStep, h, hi, hr, LeCpu.elapsed_started, Nat.not_le.mpr hp]

theorem tpStep_ends (hr : t.running = true) (hd : t.preset ≤ p.elapsed t) :
    tpStep p t = { t with q := false, running := false, input := p.rlo } := by simp [tpStep, hr, hd]

end

/-- TEL of a timer that runs. -/
theorem leiTel_running (k : NMap W128) {n : LeIns} {p : LeCpu} {ix : Nat} (hn : n.addr = ix) (h : (look {} p.timers ix).running = true) :
    leiTel k n p = .ok ({ p with wa := BitVec.ofNat 128 (p.elapsed (look {} p.timers ix)) } : LeCpu).step := by
  subst hn
  simp [leiTel, h]

/-! ### Counters (R160) -/

theorem ctuStep_eq (p : LeCpu) (t : LeCounter) : ctuStep p t = { t with
    count := if p.rlo && !t.up then min (t.count + 1) 2147483647 else t.count, up := p.rlo
    q := decide (t.preset ≤ if p.rlo && !t.up then min (t.count + 1) 2147483647 else t.count) } := rfl

theorem ctdStep_eq (p : LeCpu) (t : LeCounter) : ctdStep p t = { t with
    count := if p.rlo && !t.down then max (t.count - 1) (-2147483648) else t.count, down := p.rlo
    q := decide ((if p.rlo && !t.down then max (t.count - 1) (-2147483648) else t.count) ≤ 0) } := rfl

/-! ### Instances -/

section
variable {s : State} {i : Instr} {e : Fin 2} {p : LeCpu} {g : NMap W128 → LeIns → LeCpu → LeRes} {op : Nat} {ix : Fin 4096}
  (h : s.AtWord e p (wordI op ix)) (he : exec i s = s.onZone fun c => c.leRun e (wordI op ix) g)
include h he

theorem State.AtWord.runs_timer (f : LeCpu → LeTimer → LeTimer) {t : LeTimer} (hg : ∀ k n p, g k n p = leTimer f n p)
    (hf : f p (look {} p.timers ix) = t) :
    Runs i s fun u => look {} (u.chip.leg e).cpu.timers ix = t ∧
      (u.chip.leg e).cpu.rlo = (look {} (u.chip.leg e).cpu.timers ix).q ∧ (u.chip.leg e).cpu.pc = (p.pc + 1) % 65536 := by
  obtain ⟨u, hNext, hCpu⟩ := h.runs_ok he (hg _ _ _)
  rw [addr_wordI _ ix.isLt, hf] at hCpu
  have hTimer : look {} (u.chip.leg e).cpu.timers ix = t := by
    rw [hCpu]
    exact look_put_same _ _ _ _
  exact ⟨u, hNext, hTimer, by rw [hTimer, hCpu]; rfl, by rw [hCpu]; rfl⟩

theorem State.AtWord.runs_counter (f : LeCpu → LeCounter → LeCounter) {x : LeCounter} (hg : ∀ k n p, g k n p = leCounter f n p)
    (hf : f p (look {} p.counters ix) = x) :
    Runs i s fun u => look {} (u.chip.leg e).cpu.counters ix = x ∧
      (u.chip.leg e).cpu.rlo = (look {} (u.chip.leg e).cpu.counters ix).q ∧ (u.chip.leg e).cpu.pc = (p.pc + 1) % 65536 := by
  obtain ⟨u, hNext, hCpu⟩ := h.runs_ok he (hg _ _ _)
  rw [addr_wordI _ ix.isLt, hf] at hCpu
  have hCounter : look {} (u.chip.leg e).cpu.counters ix = x := by
    rw [hCpu]
    exact look_put_same _ _ _ _
  exact ⟨u, hNext, hCounter, by rw [hCounter, hCpu]; rfl, by rw [hCpu]; rfl⟩

theorem State.AtWord.runs_setCounter (f : LeCpu → LeCounter → LeCounter) {x : LeCounter} (hg : ∀ k n p, g k n p = leSetCounter f n p)
    (hf : f p (look {} p.counters ix) = x) :
    Runs i s fun u => look {} (u.chip.leg e).cpu.counters ix = x ∧ (u.chip.leg e).cpu.rlo = p.rlo ∧
      (u.chip.leg e).cpu.pc = (p.pc + 1) % 65536 := by
  obtain ⟨u, hNext, hCpu⟩ := h.runs_ok he (hg _ _ _)
  rw [addr_wordI _ ix.isLt, hf] at hCpu
  refine ⟨u, hNext, ?_, ?_, ?_⟩ <;> rw [hCpu]
  · exact look_put_same _ _ _ _
  · rfl
  · rfl

end

/-- Settles O24: each timer instruction by its case of R159, the counters by their step. -/
theorem logicTimerAndCounterInstructions : Obligations.LogicTimerAndCounterInstructions := by
  unfold Obligations.LogicTimerAndCounterInstructions
  intro s e p hz hx hp
  have hAt {w : Nat} (hw : (s.chip.leg e).fetch = w) : s.AtWord e p w := ⟨hz, hx, hp, hw⟩
  refine ⟨?_, ?_, ?_, ?_, ?_, ?_, ?_, ?_, ?_, ?_, ?_, ?_, ?_, ?_, ?_⟩
  · exact fun _ hw hr => (hAt hw).runs_timer rfl tonStep (fun _ _ _ => rfl) (tonStep_off hr)
  · exact fun _ hw hr ht => (hAt hw).runs_timer rfl tonStep (fun _ _ _ => rfl) (tonStep_starts hr ht)
  · exact fun _ hw hr ht => (hAt hw).runs_timer rfl tonStep (fun _ _ _ => rfl) (tonStep_runs hr ht)
  · exact fun _ hw hr => (hAt hw).runs_timer rfl tofStep (fun _ _ _ => rfl) (tofStep_on hr)
  · exact fun _ hw hr ht => (hAt hw).runs_timer rfl tofStep (fun _ _ _ => rfl) (tofStep_runs hr ht)
  · exact fun _ hw hr hi ht hd => (hAt hw).runs_timer rfl tpStep (fun _ _ _ => rfl) (tpStep_starts hr hi ht hd)
  · exact fun _ hw ht hd => (hAt hw).runs_timer rfl tpStep (fun _ _ _ => rfl) (tpStep_ends ht hd)
  · intro ix hw
    obtain ⟨u, hNext, hCpu⟩ := (hAt hw).runs_ok (i := .leTps e ix) rfl rfl
    rw [addr_wordI _ ix.isLt] at hCpu
    refine ⟨u, hNext, ?_, ?_, ?_⟩ <;> rw [hCpu]
    · exact look_put_same _ _ _ _
    · rfl
    · rfl
  · exact fun ix hw ht => (hAt hw).runs_ok rfl (leiTel_running _ (addr_wordI _ ix.isLt) ht)
  · exact fun _ hw => (hAt hw).runs_counter rfl ctuStep (fun _ _ _ => rfl) (ctuStep_eq _ _)
  · exact fun _ hw => (hAt hw).runs_counter rfl ctdStep (fun _ _ _ => rfl) (ctdStep_eq _ _)
  · refine fun _ hw => (hAt hw).runs_setCounter rfl (fun p t => if p.rlo then { t with count := 0 } else t) (fun _ _ _ => rfl) ?_
    cases p.rlo <;> rfl
  · refine fun _ hw => (hAt hw).runs_setCounter rfl (fun p t => if p.rlo then { t with count := t.preset } else t) (fun _ _ _ => rfl) ?_
    cases p.rlo <;> rfl
  · intro ix hw
    have hRun := (hAt hw).runs_ok (i := .leCvl e ix) rfl rfl
    rwa [addr_wordI _ ix.isLt] at hRun
  · exact fun _ hw => (hAt hw).runs_setCounter rfl (fun p t => { t with preset := signed 32 p.wa.toNat }) (fun _ _ _ => rfl) rfl

end Sys2Proof.Machine
end

section
/-! The word instructions, compares and loads of a logic engine (R155, R157, R168). -/

namespace Sys2Proof.Machine

section
variable {s : State} {i : Instr} {e : Fin 2} {p : LeCpu} {g : NMap W128 → LeIns → LeCpu → LeRes} {op : Nat} {l : Fin 8} {src : Fin 4}
  {u any : Bool} {addr : Fin 4096} (h : s.AtWord e p (wordW op l src u any addr))
  (he : exec i s = s.onZone fun c => c.leRun e (wordW op l src u any addr) g)
include h he

/-- An instruction that gives WA a function of the processor and the operand. -/
theorem State.AtWord.runs_wa (f : LeCpu → W128 → W128)
    (hg : ∀ k n p, g k n p = .ok ({ p with wa := f p (p.operand k n) } : LeCpu).step) :
    Runs i s fun t => (t.chip.leg e).cpu = { p.step with
      wa := f p (p.operand (s.chip.leg e).active.k (leFields (wordW op l src u any addr))), executed := p.executed + 1 } :=
  h.runs_ok he (hg _ _ _)

/-- An instruction on WA, lane by lane; `f` takes the U bit and the lane width. -/
theorem State.AtWord.runs_lanes (f : Bool → Nat → Nat → Nat → Nat) (hg : ∀ k n p, g k n p = leLanes (f n.u) k n p) :
    Runs i s fun t => (t.chip.leg e).cpu = { p.step with
      wa := laneZip (laneBits l) (f u (laneBits l)) p.wa (p.operand (s.chip.leg e).active.k (leFields (wordW op l src u any addr))),
      executed := p.executed + 1 } := by
  have hRun := h.runs_ok he (hg _ _ _)
  rwa [area_wordW, u_wordW] at hRun

theorem State.AtWord.runs_compare (r : Int → Int → Bool) (hg : ∀ k n p, g k n p = leCompare r k n p) :
    Runs i s fun t => (t.chip.leg e).cpu = { p.step with
      rlo := laneTest (laneBits l) any (fun a b => r (laneInt (laneBits l) u a) (laneInt (laneBits l) u b)) p.wa
        (p.operand (s.chip.leg e).active.k (leFields (wordW op l src u any addr))),
      executed := p.executed + 1 } := by
  have hRun := h.runs_ok he (hg _ _ _)
  rwa [area_wordW, u_wordW, any_wordW] at hRun

end

/-- Settles O25: the loads and logical instructions on the whole word, the others by their function of a lane. -/
theorem logicWordInstructions : Obligations.LogicWordInstructions := by
  unfold Obligations.LogicWordInstructions
  intro s e p hz hx hp
  have hAt {w : Nat} (hw : (s.chip.leg e).fetch = w) : s.AtWord e p w := ⟨hz, hx, hp, hw⟩
  refine ⟨?_, ?_, ?_, ?_, ?_, ?_, ?_, ?_, ?_, ?_, ?_, ?_, ?_, ?_⟩
  · exact fun _ _ _ _ _ hw => (hAt hw).runs_wa rfl (fun _ x => x) fun _ _ _ => rfl
  · intro l src u any addr hw
    obtain ⟨t, hNext, hCpu⟩ := (hAt hw).runs_ok (i := .leStw e l src u any addr) rfl rfl
    rw [src_wordW, addr_wordW] at hCpu
    refine ⟨t, hNext, ?_, ?_, ?_, ?_⟩ <;> rw [hCpu]
    · exact look_put_same _ _ _ _
    · rfl
    · rfl
    · rfl
  · exact fun _ _ _ _ _ hw => (hAt hw).runs_lanes rfl (fun _ _ a b => a + b) fun _ _ _ => rfl
  · exact fun _ _ _ _ _ hw => (hAt hw).runs_lanes rfl (fun _ w a b => a + 2 ^ w - b) fun _ _ _ => rfl
  · exact fun _ _ _ _ _ hw => (hAt hw).runs_lanes rfl (fun u w a b => saturate w u (laneInt w u a + laneInt w u b)) fun _ _ _ => rfl
  · exact fun _ _ _ _ _ hw => (hAt hw).runs_lanes rfl (fun u w a b => saturate w u (laneInt w u a - laneInt w u b)) fun _ _ _ => rfl
  · exact fun _ _ _ _ _ hw => (hAt hw).runs_lanes rfl (fun _ _ a b => a * b) fun _ _ _ => rfl
  · exact fun _ _ _ _ _ hw => (hAt hw).runs_lanes rfl (fun _ w a b => a <<< (b % w)) fun _ _ _ => rfl
  · exact fun _ _ _ _ _ hw => (hAt hw).runs_lanes rfl
      (fun u w a b => if u then a >>> (b % w) else unsigned w (signed w a / (2 ^ (b % w) : Nat))) fun _ _ _ => rfl
  · exact fun _ _ _ _ _ hw => (hAt hw).runs_lanes rfl (fun u w a b => if laneInt w u b < laneInt w u a then b else a) fun _ _ _ => rfl
  · exact fun _ _ _ _ _ hw => (hAt hw).runs_lanes rfl (fun u w a b => if laneInt w u a < laneInt w u b then b else a) fun _ _ _ => rfl
  · exact fun _ _ _ _ _ hw => (hAt hw).runs_wa rfl (fun p x => p.wa &&& x) fun _ _ _ => rfl
  · exact fun _ _ _ _ _ hw => (hAt hw).runs_wa rfl (fun p x => p.wa ||| x) fun _ _ _ => rfl
  · exact fun _ _ _ _ _ hw => (hAt hw).runs_wa rfl (fun p x => p.wa ^^^ x) fun _ _ _ => rfl

/-- SEL replaces WA where RLO is 1. -/
theorem leiSel_eq (k : NMap W128) (n : LeIns) (p : LeCpu) :
    leiSel k n p = .ok ({ p with wa := if p.rlo then p.operand k n else p.wa } : LeCpu).step := by
  unfold leiSel
  split <;> rfl

/-- Settles O26: the compares by their relation of two lane values, SEL by RLO, LDX and LDS by what they load. -/
theorem logicCompareAndSelectInstructions : Obligations.LogicCompareAndSelectInstructions := by
  unfold Obligations.LogicCompareAndSelectInstructions
  intro s e p hz hx hp
  have hAt {w : Nat} (hw : (s.chip.leg e).fetch = w) : s.AtWord e p w := ⟨hz, hx, hp, hw⟩
  refine ⟨?_, ?_, ?_, ?_, ?_, ?_, ?_, ?_, ?_⟩
  · exact fun _ _ _ _ _ hw => (hAt hw).runs_compare rfl (fun a b => decide (a = b)) fun _ _ _ => rfl
  · exact fun _ _ _ _ _ hw => (hAt hw).runs_compare rfl (fun a b => decide (a ≠ b)) fun _ _ _ => rfl
  · exact fun _ _ _ _ _ hw => (hAt hw).runs_compare rfl (fun a b => decide (a < b)) fun _ _ _ => rfl
  · exact fun _ _ _ _ _ hw => (hAt hw).runs_compare rfl (fun a b => decide (a ≤ b)) fun _ _ _ => rfl
  · exact fun _ _ _ _ _ hw => (hAt hw).runs_compare rfl (fun a b => decide (a > b)) fun _ _ _ => rfl
  · exact fun _ _ _ _ _ hw => (hAt hw).runs_compare rfl (fun a b => decide (a ≥ b)) fun _ _ _ => rfl
  · exact fun _ _ _ _ _ hw => (hAt hw).runs_wa rfl (fun p x => if p.rlo then x else p.wa) leiSel_eq
  · intro hw
    have hRun := (hAt hw).runs_ok (i := .leLdx e) rfl rfl
    exact hRun
  · intro addr hw
    have hRun := (hAt hw).runs_ok (i := .leLds e addr) rfl rfl
    rwa [addr_wordI _ (by omega)] at hRun

end Sys2Proof.Machine
end

section
/-! OBLIGATIONS. The cycle of a logic engine (R144, R145, R147, R148, R156, R163, R165, R177). -/

namespace Sys2Proof.Machine

/-! ### Cycle starts (R144, R147, R150) -/

section
variable (c : Chip) (e : Fin 2) (t : Nat) {g : RFld}

/-- The snapshot writes no engine register but LEn_INQ. -/
theorem Chip.get_leSnapshot (hg : g.engine = true) (hn : g.reg.addr ≠ (LE_INQ e).addr) : (c.leSnapshot e t).get g = c.get g := by
  unfold Chip.leSnapshot
  dsimp only
  rw [Chip.get_when_leEvent _ e (by decide) (RFld.engine_place hg), Chip.updCpu_get, Chip.get_wrN_ne _ _ hn]

/-- The fields that the begin of a cycle writes beside LEn_INQ. -/
def beginFields (e : Nat) : List RFld := [LE_CYCLE_N e, LE_STAT_CYCRUN e]

theorem Chip.get_leBegin (h : g.outside (beginFields e) = true) (hn : g.reg.addr ≠ (LE_INQ e).addr) :
    (c.leBegin e t).get g = c.get g := by
  obtain ⟨hg, hClear⟩ := RFld.outside_iff.mp h
  unfold Chip.leBegin
  dsimp only
  rw [Chip.get_setB_clear _ _ (hClear _ (by simp [beginFields])), Chip.updLe_get, Chip.leInputForces, Chip.updCpu_get, Chip.updLe_get,
    Chip.get_leSnapshot _ e t hg hn, Chip.wrapInc, Chip.get_set_clear _ _ (hClear _ (by simp [beginFields]))]

theorem Chip.cycle_leBegin : (c.leBegin e t).get (LE_CYCLE_N e) = (c.get (LE_CYCLE_N e) + 1) % 2 ^ 64 := by
  unfold Chip.leBegin
  dsimp only
  rw [Chip.get_setB_clear _ _ (by fin_cases e <;> rfl), Chip.updLe_get, Chip.leInputForces, Chip.updCpu_get, Chip.updLe_get,
    Chip.get_leSnapshot _ e t (by fin_cases e <;> rfl) (by fin_cases e <;> decide)]
  exact Chip.get_set_same _ _ _ (RFld.ok_of rfl)

theorem Chip.cycrun_leBegin : (c.leBegin e t).get (LE_STAT_CYCRUN e) = 1 := Chip.get_setB_okb _ true rfl

/-- A cycle begins at address 0 with empty stacks, and notes its tick. -/
theorem Chip.leg_leBegin : ((c.leBegin e t).leg e).cpu.pc = 0 ∧ ((c.leBegin e t).leg e).cpu.bstack = [] ∧
    ((c.leBegin e t).leg e).cpu.cstack = [] ∧ ((c.leBegin e t).leg e).lastStart = some t := by
  unfold Chip.leBegin
  dsimp only
  rw [Chip.leg_setB, Chip.leg_updLe_same]
  exact ⟨rfl, rfl, rfl, rfl⟩

/-- A due start of a running engine begins the next cycle. -/
theorem Chip.leCycleStart_begins {x : Action} (hDue : c.dueArg 4 e 0 = some x) (hRun : c.leMode e = 1) (hReset : (c.leg e).inReset = false)
    (hMode : c.get (LE_CTL_MODE e) = 1) (hCycle : c.flag (LE_STAT_CYCRUN e) = false) (hSoon : c.leTooSoon e x.fire = false)
    (hArmed : c.flag (LE_XSTAT_ARMED e) = false) : c.leCycleStart e = ((c.dropAction x).leBegin e x.fire).leBreak e := by
  have hKept : ((c.dropAction x).leBegin e x.fire).get (LE_CTL_MODE e) = 1 :=
    ((c.dropAction x).get_leBegin e _ (by fin_cases e <;> rfl) (by fin_cases e <;> decide)).trans hMode
  have hRun' : (c.dropAction x).leMode e = 1 := hRun
  have hReset' : ((c.dropAction x).leg e).inReset = false := hReset
  have hMode' : (c.dropAction x).get (LE_CTL_MODE e) = 1 := hMode
  have hCycle' : (c.dropAction x).flag (LE_STAT_CYCRUN e) = false := hCycle
  have hSoon' : (c.dropAction x).leTooSoon e x.fire = false := hSoon
  have hArmed' : (c.dropAction x).flag (LE_XSTAT_ARMED e) = false := hArmed
  simp [Chip.leCycleStart, hDue, hRun', hReset', hMode', hCycle', hSoon', hArmed', hKept]

/-- A due start of a running engine that is in a cycle, or too close to the last start, is skipped. -/
theorem Chip.leCycleStart_skips {x : Action} (hDue : c.dueArg 4 e 0 = some x) (hRun : c.leMode e = 1) (hReset : (c.leg e).inReset = false)
    (hMode : c.get (LE_CTL_MODE e) ≠ 0) (hSkip : c.flag (LE_STAT_CYCRUN e) = true ∨ c.leTooSoon e x.fire = true) :
    c.leCycleStart e = (c.dropAction x).leSkip e := by
  have hRun' : (c.dropAction x).leMode e = 1 := hRun
  have hReset' : ((c.dropAction x).leg e).inReset = false := hReset
  have hMode' : (c.dropAction x).get (LE_CTL_MODE e) ≠ 0 := hMode
  have hSkip' : (c.dropAction x).flag (LE_STAT_CYCRUN e) = true ∨ (c.dropAction x).leTooSoon e x.fire = true := hSkip
  simp [Chip.leCycleStart, hDue, hRun', hReset', hMode', hSkip']

theorem Chip.leSkip_effect : (c.leSkip e).get (LE_CNT_SKIP e) = min (c.get (LE_CNT_SKIP e) + 1) 1023 ∧
    (c.leSkip e).flag (LE_STAT_SKIP e) = true ∧ (c.leSkip e).pends (163 + 16 * e.val) = true ∧ (c.leSkip e).leg e = c.leg e ∧
    Chip.frame [.seq, .core] (amongEv [(LE_CNT e).addr, (LE_STAT e).addr]) c (c.leSkip e) := by
  refine ⟨?_, Chip.flag_of_get_one _ ?_, ?_, ?_, ?_⟩
  · rw [Chip.leSkip, Chip.get_event _ e (by fin_cases e <;> rfl) (by decide), Chip.get_stick_clear _ (by fin_cases e <;> rfl),
      Chip.get_satInc_same _ rfl]
    rfl
  · rw [Chip.leSkip, Chip.get_event _ e (by fin_cases e <;> rfl) (by decide), Chip.get_stick_same _ rfl]
  · have hPends := Chip.pends_leEvent ((c.satInc (LE_CNT_SKIP e)).stick (LE_STAT_SKIP e)) e (k := 3) (by decide)
    rwa [show 160 + 16 * e.val + 3 = 163 + 16 * e.val by omega] at hPends
  · exact Chip.leg_leEvent _ e (by decide) e
  · refine Chip.frame_trans (d := c.satInc (LE_CNT_SKIP e)) (Chip.frame_set _ c (f := LE_CNT_SKIP e) _ (amongEv_of_mem List.mem_cons_self)) ?_
    exact Chip.frame_trans (Chip.frame_set _ _ (f := LE_STAT_SKIP e) _ (amongEv_of_mem (List.mem_cons_of_mem _ List.mem_cons_self)))
      (Chip.frame_leEvent _ e (by decide) _ (by simp))

end

/-! ### Commits (R145, R153, R163, R165) -/

/-- A vector of a VF leaves the engines alone, whichever number it has. -/
theorem Chip.le_vfVector (c : Chip) (n v : Nat) : (c.vfVector n v).1.le = c.le := by
  unfold Chip.vfVector
  dsimp only
  split
  · split <;> rfl
  · rfl

theorem le_raiseFuel (fuel : Nat) : ∀ (n : Nat) (c : Chip), (raiseFuel fuel n c).le = c.le := by
  induction fuel with
  | zero => exact fun _ _ => rfl
  | succ k ih =>
    intro n c
    simp only [raiseFuel]
    generalize hStamped : c.set (EVR_STAMP_FRC n) c.time.frc = d
    have hKept : d.le = c.le := by rw [← hStamped]; rfl
    rw [← hKept]
    split
    · rfl
    · generalize hPending : d.setPend n true = d'
      have hKept : d'.le = d.le := by rw [← hPending]; rfl
      rw [← hKept]
      split
      · split
        · split
          · exact ih 541 _
          · rfl
        · split
          · split
            · exact (ih 582 _).trans (Chip.le_vfVector _ _ _)
            · exact Chip.le_vfVector _ _ _
          · rfl
      · rfl

/-- An event leaves the engines alone, whichever number it has: a link may name any channel. -/
theorem Chip.leg_raise (c : Chip) (n m : Nat) : (c.raise n).leg m = c.leg m := by
  rw [Chip.leg, Chip.raise, le_raiseFuel]
  rfl

/-- An engine but for what it has noted of its deliveries. -/
def LeEngine.undelivered (g : LeEngine) : LeEngine := { g with delivered := [], bytesOut := [] }

theorem LeEngine.eq_of_undelivered {g h : LeEngine} (hEq : g.undelivered = h.undelivered) :
    g = { h with delivered := g.delivered, bytesOut := g.bytesOut } := by
  cases g
  cases h
  simp only [LeEngine.undelivered, LeEngine.mk.injEq] at hEq ⊢
  simp [hEq]

section
variable (c : Chip) (e : Fin 2)

theorem Chip.leg_satInc (f : RFld) (m : Nat) : (c.satInc f).leg m = c.leg m := rfl

theorem Chip.leg_lsRefuseCmd (n st m : Nat) : (c.lsRefuseCmd n st).leg m = c.leg m := by
  rw [Chip.lsRefuseCmd, Chip.leg_satInc, Chip.refuse, Chip.leg_raise, Chip.leg_set]

theorem Chip.undelivered_deliverUnit (fire i : Nat) (l : LeLink) (j : Nat) :
    ((c.deliverUnit e fire i l j).leg e).undelivered = (c.leg e).undelivered := by
  unfold Chip.deliverUnit
  dsimp only
  split
  · rfl
  · split
    · rw [Chip.leg_updLe_same]
      rfl
    · split
      · rw [Chip.leg_updLe_same]
        rfl
      · rw [Chip.leg_leEvent _ e (by decide), Chip.leg_satInc, Chip.leg_lsRefuseCmd]

theorem Chip.undelivered_leDeliver (fire : Nat) (t : NMap W128) :
    ((c.leDeliver e fire t).leg e).undelivered = (c.leg e).undelivered := by
  refine forEach_keeps (p := fun d : Chip => (d.leg e).undelivered = (c.leg e).undelivered) _ (fun i _ d hd => ?_) rfl
  dsimp only
  split
  · rw [Chip.leg_updLe_same, ← hd]
    rfl
  · exact forAll_keeps (p := fun d : Chip => (d.leg e).undelivered = (c.leg e).undelivered) _
      (fun j _ d hd => (d.undelivered_deliverUnit e _ _ _ j).trans hd) hd

/-- A commit image is formed from the base images given, with the output forces; the rest of the engine is kept. -/
theorem Chip.leg_leCommitImage (fire : Nat) (q : NMap Bool) (w t : NMap W128) : ∃ v b, (c.leCommitImage e fire q w t).leg e =
    { formCommit { c.leg e with baseQ := q, baseW := w } with delivered := v, bytesOut := b } := by
  have hKept := Chip.undelivered_leDeliver (c.updLe e fun g => formCommit { g with baseQ := q, baseW := w }) e fire t
  rw [Chip.leg_updLe_same] at hKept
  rw [Chip.leCommitImage]
  exact ⟨_, _, LeEngine.eq_of_undelivered hKept⟩

theorem Chip.leg_publish (n : Nat) : (c.publish n).leg n = c.leg n := rfl

theorem Chip.leg_when_leFault (p : Bool) (cause : Nat) : ∃ h b u, (c.when p fun c => c.leFault e cause).leg e =
    { c.leg e with heldAt := h, single := b, stopActAt := u } := by
  cases p
  · exact ⟨_, _, _, rfl⟩
  · exact c.leg_leFault e cause

/-- The module with a missed END counted and shown (R147). -/
def Chip.overrunNoted (c : Chip) (e : Nat) : Chip :=
  c.when (!(c.leg e).ended) fun c => ((c.satInc (LE_CNT_OVERRUN e)).stick (LE_STAT_OVR e)).leEvent e 1

/-- What a commit notes in its engine (R145, R147). -/
def LeEngine.committed (g x : LeEngine) (fire : Nat) : LeEngine :=
  { x with
    lastCommit := some fire, ended := false, prevOverrun := !g.ended, overruns := if !g.ended then g.overruns + 1 else 0, heldLink := none,
    delivered := if g.heldLink.isSome then [] else x.delivered }

/-- A due commit of a running engine delivers its pending image and notes it; past the limit of overruns the engine stops. -/
theorem Chip.leOutputCommit_runs {x : Action} (hDue : c.dueArg 4 e 1 = some x) (hRun : c.leMode e = 1)
    (hReset : (c.leg e).inReset = false) : ∃ (fire : Nat) (t : NMap W128) (p : Bool), c.leOutputCommit e =
      (((((c.dropAction x).overrunNoted e).leCommitImage e fire (c.leg e).pendQ (c.leg e).pendW t).publish e).updLe e fun y =>
        (c.leg e).committed y x.fire).when p fun c => c.leFault e 1 := by
  have hGuard : ((c.dropAction x).leMode e ≠ 1 || ((c.dropAction x).leg e).inReset) = false := by
    rw [show (c.dropAction x).leMode e = 1 from hRun, show ((c.dropAction x).leg e).inReset = false from hReset]
    rfl
  unfold Chip.leOutputCommit
  rw [hDue]
  dsimp only
  rw [hGuard]
  exact ⟨_, _, _, rfl⟩

theorem Chip.leOutputCommit_effect {x : Action} (hDue : c.dueArg 4 e 1 = some x) (hRun : c.leMode e = 1)
    (hReset : (c.leg e).inReset = false) : ((c.leOutputCommit e).leg e).baseQ = (c.leg e).pendQ ∧
    ((c.leOutputCommit e).leg e).baseW = (c.leg e).pendW ∧ ((c.leOutputCommit e).leg e).lastCommit = some x.fire ∧
    ((c.leOutputCommit e).leg e).ended = false ∧ ((c.leOutputCommit e).leg e).prevOverrun = !(c.leg e).ended ∧
    ((c.leOutputCommit e).leg e).overruns = if (c.leg e).ended then 0 else (c.leg e).overruns + 1 := by
  obtain ⟨fire, t, p, hCommit⟩ := c.leOutputCommit_runs e hDue hRun hReset
  obtain ⟨_, _, hImage⟩ := ((c.dropAction x).overrunNoted e).leg_leCommitImage e fire (c.leg e).pendQ (c.leg e).pendW t
  obtain ⟨_, _, _, hLeg⟩ := Chip.leg_when_leFault (((((c.dropAction x).overrunNoted e).leCommitImage e fire (c.leg e).pendQ
    (c.leg e).pendW t).publish e).updLe e fun y => (c.leg e).committed y x.fire) e p 1
  rw [hCommit, hLeg, Chip.leg_updLe_same, Chip.leg_publish, hImage]
  refine ⟨rfl, rfl, rfl, rfl, rfl, ?_⟩
  cases hEnded : (c.leg e).ended
  all_goals simp [LeEngine.committed, hEnded]

theorem Chip.leStopact_effect {u : Nat} (hStop : (c.leg e).stopActAt = some u) (hDue : u ≤ c.time.frc) :
    ((c.leStopact e).leg e).stopActAt = none ∧ ((c.leStopact e).leg e).baseQ = [] ∧ ((c.leStopact e).leg e).baseW = [] := by
  have hWhen : c.dueAt (c.leg e).stopActAt = true := by
    rw [hStop]
    exact decide_eq_true hDue
  obtain ⟨_, _, hImage⟩ := c.leg_leCommitImage e c.frc [] [] (c.leg e).active.link
  rw [Chip.leStopact, hWhen, Chip.when_true, Chip.leg_updLe_same, hImage]
  exact ⟨rfl, rfl, rfl⟩

theorem Chip.leForceDelivery_effect (hDue : (c.leg e).forceAt.any c.due = true) :
    ((c.leForceDelivery e).leg e).forceAt = ((c.leg e).forceAt.filter fun u => !c.due u) ∧
    ((c.leForceDelivery e).leg e).baseQ = (c.leg e).baseQ ∧
    ((c.leForceDelivery e).leg e).commitQ = forceBits (c.leg e).forces 1 (c.leg e).baseQ := by
  obtain ⟨_, _, hImage⟩ := c.leg_leCommitImage e c.frc (c.leg e).baseQ (c.leg e).baseW (c.leg e).active.link
  rw [Chip.leForceDelivery, hDue, Chip.when_true, Chip.leg_updLe_same, hImage]
  exact ⟨rfl, rfl, rfl⟩

end

end Sys2Proof.Machine
end

section
/-! OBLIGATIONS. A mismatch of the LE0 comparator (R148, R441, R443, R544), and the engine's cycle as a whole. -/

namespace Sys2Proof.Machine

/-! ### What a frame keeps -/

section
variable {ps : List Part} {w : Nat → Prop} {c d : Chip} (h : Chip.frame ps w c d)
include h

theorem Chip.kept_of_frame {p : Part} (hp : p ∉ ps) : p.kept c d := by
  obtain ⟨hParts, -⟩ := h
  exact hParts p hp

theorem Chip.rd_of_frame {r : Reg} (hr : ¬ w r.addr) : d.rd r = c.rd r := by
  obtain ⟨-, hRegs, -⟩ := h
  exact hRegs r hr

end

/-! ### What a fault leaves unchanged (R156, R163) -/

section
variable (c : Chip) (e : Fin 2) {ps : List Part} {l : List Nat}

theorem Chip.frame_leSetMode (m : Nat) (hp : Part.core ∈ ps) (hl : (LE_STAT e).addr ∈ l) :
    Chip.frame ps (amongEv l) c (c.leSetMode e m) := by
  unfold Chip.leSetMode
  split
  · exact Chip.frame_refl ps _ c
  · exact Chip.frame_trans (Chip.frame_set _ c (f := LE_STAT_MODE e) _ (amongEv_of_mem hl)) (Chip.frame_leEvent _ e (by decide) _ hp)

theorem Chip.frame_leHalted (hp : Part.le ∈ ps) (hs : (LE_STAT e).addr ∈ l) (hh : (LE_HOLDACC e).addr ∈ l) :
    Chip.frame ps (amongEv l) c (c.leHalted e) := by
  have hUnheld : Chip.frame ps (amongEv l) c (if c.leMode e = 2 then c.leLeaveHold e else c) := by
    split
    · exact Chip.frame_trans (Chip.frame_set _ c (f := LE_HOLDACC_NS e) _ (amongEv_of_mem hh)) (Chip.frame_updLe _ _ _ _ hp)
    · exact Chip.frame_refl ps _ c
  have hCycle (d : Chip) : Chip.frame ps (amongEv l) d (d.setB (LE_STAT_CYCRUN e) false) :=
    Chip.frame_set _ d (f := LE_STAT_CYCRUN e) _ (amongEv_of_mem hs)
  exact Chip.frame_trans (Chip.frame_trans hUnheld (hCycle _)) (Chip.frame_when _ (Chip.frame_updLe _ _ _ _ hp))

theorem Chip.frame_leStop (hp : [Part.le, Part.core] ⊆ ps) (hs : (LE_STAT e).addr ∈ l) (hh : (LE_HOLDACC e).addr ∈ l) :
    Chip.frame ps (amongEv l) c (c.leStop e) :=
  Chip.frame_trans (c.frame_leHalted e (hp (by simp)) hs hh) (Chip.frame_leSetMode _ e 0 (hp (by simp)) hs)

theorem Chip.frame_leFault (cause : Nat) (hp : [Part.le, Part.core] ⊆ ps)
    (hl : [(LE_FAULT e).addr, (LE_STAT e).addr, (LE_HOLDACC e).addr] ⊆ l) : Chip.frame ps (amongEv l) c (c.leFault e cause) := by
  have hFault : amongEv l (LE_FAULT e).addr := amongEv_of_mem (hl (by simp))
  have hStat : (LE_STAT e).addr ∈ l := hl (by simp)
  have hNoted : Chip.frame ps (amongEv l) c (c.faultNoted e cause) :=
    Chip.frame_trans (Chip.frame_trans (Chip.frame_set _ c (f := LE_FAULT_CAUSE e) _ hFault)
      (Chip.frame_set _ _ (f := LE_FAULT_PC e) _ hFault)) (Chip.frame_set _ _ (f := LE_STAT_FLTSTOP e) _ (amongEv_of_mem hStat))
  exact Chip.frame_trans (Chip.frame_trans hNoted (Chip.frame_leStop _ e hp hStat (hl (by simp))))
    (Chip.frame_leEvent _ e (by decide) _ (hp (by simp)))

end

/-! ### The mismatch stops LE0 (R148) -/

/-- The module with what LE0 still had to deliver dropped. -/
def Chip.le0Undelivered (c : Chip) : Chip :=
  ({ c with seq := { c.seq with acts := c.seq.acts.filter fun a => a.le != some 0 } } : Chip).updLe 0 fun g => { g with bytesOut := [] }

section
variable (c : Chip)

theorem Chip.le0Mismatch_eq : c.le0Mismatch = (c.le0Undelivered.leFault 0 7).leEvent 0 11 := rfl

theorem Chip.frame_le0Mismatch :
    Chip.frame [.seq, .le, .core] (amongEv [(LE_FAULT 0).addr, (LE_STAT 0).addr, (LE_HOLDACC 0).addr]) c c.le0Mismatch := by
  have hDropped : Chip.frame [.seq, .le, .core] (amongEv [(LE_FAULT 0).addr, (LE_STAT 0).addr, (LE_HOLDACC 0).addr]) c c.le0Undelivered :=
    Chip.frame_trans (Chip.frame_seq c _ { c.seq with acts := c.seq.acts.filter fun a => a.le != some 0 } (by simp))
      (Chip.frame_updLe _ _ _ _ (by simp))
  exact Chip.frame_trans (Chip.frame_trans hDropped (Chip.frame_leFault _ (0 : Fin 2) 7 (by simp) (by simp)))
    (Chip.frame_leEvent _ (0 : Fin 2) (by decide) _ (by simp))

/-- A fault that is followed by an event of its engine keeps its cause, address and mode. -/
theorem Chip.leFault_event_effect (e : Fin 2) {cause k : Nat} (h : decide (cause < 256) = true) (hk : k < 16) :
    ((c.leFault e cause).leEvent e k).get (LE_FAULT_CAUSE e) = cause ∧
    ((c.leFault e cause).leEvent e k).get (LE_FAULT_PC e) = (c.leg e).cpu.pc % 65536 ∧
    ((c.leFault e cause).leEvent e k).flag (LE_STAT_FLTSTOP e) = true ∧ ((c.leFault e cause).leEvent e k).leMode e = 0 ∧
    ((c.leFault e cause).leEvent e k).pends (160 + 16 * e.val + k) = true := by
  have hKept {g : RFld} (hg : g.engine = true) : ((c.leFault e cause).leEvent e k).get g = (c.leFault e cause).get g :=
    Chip.get_event _ e hg hk
  obtain ⟨hCause, hPc, hStop, hMode, -⟩ := c.leFault_effect e h
  refine ⟨?_, ?_, ?_, ?_, Chip.pends_leEvent _ e hk⟩
  · rwa [hKept (by fin_cases e <;> rfl)]
  · rwa [hKept (by fin_cases e <;> rfl)]
  · rwa [Chip.flag, hKept (by fin_cases e <;> rfl), ← Chip.flag]
  · rwa [Chip.leMode_eq, hKept (by fin_cases e <;> rfl), ← Chip.leMode_eq]

end

/-! ### Revocation by an automatic cause (R544) -/

/-- The registers that the claim block shows its revocations and gates in. -/
def revokeRegs : List Nat := [CLM_STAT.addr, CLM_REVRES.addr, CLM_ISO.addr]

/-- From `c` to `d` only the claim block, the registers it shows revocations in and what an event writes differ, and every event
that was pending still is. -/
structure Chip.Revokes (c d : Chip) : Prop where
  framed : Chip.frame [.clm, .core] (amongEv revokeRegs) c d
  pending : ∀ n < 1024, c.pends n = true → d.pends n = true

namespace Chip.Revokes
variable {c d b : Chip}

theorem refl (c : Chip) : Chip.Revokes c c := ⟨Chip.frame_refl _ _ c, fun _ _ h => h⟩

theorem trans (h : Chip.Revokes c d) (k : Chip.Revokes d b) : Chip.Revokes c b :=
  ⟨Chip.frame_trans h.framed k.framed, fun n hn hp => k.pending n hn (h.pending n hn hp)⟩

theorem updClm (c : Chip) (f : ClmBlk → ClmBlk) : Chip.Revokes c (c.updClm f) := by
  refine ⟨⟨fun p hp => ?_, fun _ _ => rfl, rfl, rfl⟩, fun _ _ h => h⟩
  cases p with
  | clm => exact absurd (by simp) hp
  | _ => rfl

theorem set (c : Chip) {f : RFld} (x : Nat) (hf : f.okb = true) (h : f.reg.addr ∈ revokeRegs) : Chip.Revokes c (c.set f x) := by
  refine ⟨Chip.frame_set _ c x (amongEv_of_mem h), fun n hn hp => ?_⟩
  rw [Chip.pends, Chip.pend_set c n f x (RFld.ok_of hf), ← Chip.pends]
  · exact hp
  · refine Or.inl ?_
    simp only [revokeRegs, CLM_STAT, CLM_REVRES, CLM_ISO, List.mem_cons, List.not_mem_nil, or_false] at h
    simp only [EVR_ST_PEND, EVR_ST]
    omega

theorem raise (c : Chip) {n : Nat} (hn : n < 1024) : Chip.Revokes c (c.raise n) :=
  ⟨Chip.frame_raise c hn (by simp) (amongEv_of_eventAddr _), fun m hm hp => Chip.pends_raise_mono c n m hn hm hp⟩

theorem showIso (c : Chip) : Chip.Revokes c c.showIso := set c _ rfl (by simp [revokeRegs, CLM_STAT_ISOACT])

theorem showRev (c : Chip) : Chip.Revokes c c.showRev :=
  (((set c (f := CLM_STAT_REVRUN) _ rfl (by decide)).trans (set _ (f := CLM_REVRES_QUEUED) _ rfl (by decide))).trans
    (set _ (f := CLM_REVRES_PENDOVF) _ rfl (by decide))).trans (set _ (f := CLM_REVRES_BUSY) _ rfl (by decide))

theorem gateSet (c : Chip) (h : LeaseHolder) (shut : Bool) : Chip.Revokes c (c.gateSet h shut) := by
  cases h with
  | mid m => exact (set c (f := CLM_ISO_MIDS) _ rfl (by decide)).trans (showIso _)
  | vf f => exact (set c (f := CLM_ISO_VFS) _ rfl (by decide)).trans (showIso _)
  | ses s => exact (updClm c _).trans (showIso _)

theorem revRefill (c : Chip) : Chip.Revokes c c.revRefill := by
  unfold Chip.revRefill
  split
  · unfold Chip.when
    split
    · exact updClm c _
    · exact refl c
  · exact refl c

theorem revStart (c : Chip) (l : LeaseRef) (h : LeaseHolder) : Chip.Revokes c (c.revStart l h) := (updClm c _).trans (gateSet _ h true)

/-- A named lease is taken from its holder, or is passed over and the next one is looked for. -/
theorem taken (c : Chip) (l : LeaseRef) {d : Chip} (h : Chip.Revokes c d) :
    Chip.Revokes c (match c.leaseHolder l with | some h => c.revStart l h | none => d) := by
  split
  · exact revStart c l _
  · exact h

theorem revNextFuel (n : Nat) : ∀ c : Chip, Chip.Revokes c (revNextFuel n c) := by
  induction n with
  | zero => exact refl
  | succ n ih =>
    intro c
    unfold Machine.revNextFuel
    split
    · exact refl c
    · split
      · exact (updClm c _).trans (taken _ _ (ih _))
      · exact ((updClm c _).trans (revRefill _)).trans (taken _ _ (ih _))
      · exact refl c

theorem revNext (c : Chip) : Chip.Revokes c c.revNext := (revNextFuel _ c).trans (showRev _)

theorem revQueue (c : Chip) (l : LeaseRef) : Chip.Revokes c (c.revQueue l) := by
  unfold Chip.revQueue
  dsimp only
  refine iteInduction (motive := Chip.Revokes c) (fun _ => refl c) fun _ => ?_
  exact iteInduction (motive := Chip.Revokes c) (fun _ => updClm c _) fun _ => (updClm c _).trans (raise _ (by decide))

theorem autoRevoke (c : Chip) (hs : List LeaseHolder) : Chip.Revokes c (c.autoRevoke hs) :=
  (forEach_keeps (p := Chip.Revokes c) _ (fun l _ _ hd => hd.trans (revQueue _ l)) (refl c)).trans (revNext _)

theorem leg (h : Chip.Revokes c d) (n : Nat) : d.leg n = c.leg n := by
  have hLe : d.le = c.le := Chip.kept_of_frame h.framed (p := .le) (by simp)
  rw [Chip.leg, hLe, ← Chip.leg]

theorem get (h : Chip.Revokes c d) {g : RFld} (hg : g.engine = true) : d.get g = c.get g := by
  refine Chip.get_of_frame h.framed fun hw => ?_
  obtain ⟨hLow, hHigh⟩ := RFld.engine_place hg
  obtain hMem | hEvent := hw
  · simp only [revokeRegs, CLM_STAT, CLM_REVRES, CLM_ISO, List.mem_cons, List.not_mem_nil, or_false] at hMem
    omega
  · exact quiet_le ⟨hLow, hHigh⟩ hEvent

end Chip.Revokes

/-! ### The reset that the mismatch asserts (R441, R443, R444) -/

/-- LE0 in reset by the comparator's source, before its leases are revoked. -/
def Chip.le0Reset (c : Chip) : Chip :=
  (c.updRst fun b => { b with parts := upd [] b.parts 4 fun l => l ++ [1] }).updLe 0 fun g => { g with inReset := true }

theorem Chip.partAssert_le0 (c : Chip) (h : c.rst.episode = none) : c.partAssert 4 1 = c.le0Reset.autoRevoke (partHolders 4) := by
  unfold Chip.partAssert
  simp only [h]
  rfl

/-- With no episode open and power on, the mismatch resets LE0's partition, or opens an episode of system reach. -/
theorem State.assertSource_le0 (s : State) (hPower : s.chip.pmu.power = .run) : s.assertSource .le0Mismatch =
    if s.chip.flag RST_REACH_MMLE0 then s.openEpisode .le0Mismatch 3 else { s with chip := s.chip.partAssert 4 1 } := by
  unfold State.assertSource
  cases hReach : s.chip.flag RST_REACH_MMLE0
  all_goals simp [hPower, Chip.sourceReach, hReach]

theorem Chip.handed_rstReset (c : Chip) (reach : Nat) : (c.rstReset reach).rst.handed = false := by
  unfold Chip.rstReset Chip.when
  dsimp only
  split <;> rfl

theorem Chip.handed_zoneReset (c : Chip) (reach : Nat) : (c.zoneReset reach).rst.handed = false := by
  unfold Chip.zoneReset
  exact Chip.handed_rstReset _ _

theorem State.handed_zoneReset (s : State) (reach : Nat) : (s.zoneReset reach).chip.rst.handed = false := by
  unfold State.zoneReset
  exact Chip.handed_zoneReset _ _

theorem Chip.rst_setCause (c : Chip) (src : ResetSource) : (c.setCause src).rst = c.rst := rfl

/-- A source that opens an episode widens the reach of a release that runs, and hands the module back to W0. -/
theorem State.openEpisode_effect (s : State) (src : ResetSource) (reach : Nat) (h : s.chip.rst.episode = none) :
    (s.openEpisode src reach).chip.rst.episode = some (max reach (s.chip.rst.releasing.getD 0)) ∧
    (s.openEpisode src reach).chip.rst.handed = false := by
  unfold State.openEpisode
  simp only [h, Option.isSome_none, Bool.false_and, Option.orElse_none, Chip.rst_setCause]
  split
  · rw [Chip.satInc_rst, Chip.updRst_rst]
    exact ⟨rfl, State.handed_zoneReset _ _⟩
  · rw [Chip.updRst_rst]
    exact ⟨rfl, State.handed_zoneReset _ _⟩

/-! ### The mismatch as a whole (R148, R441) -/

/-- A module whose zone is up has no episode open and its power on. -/
theorem Chip.zoneUp_iff (c : Chip) : c.zoneUp = true ↔ c.rst.episode = none ∧ c.pmu.power = .run := by
  simp [Chip.zoneUp]

section
variable (s : State)

theorem Chip.rst_le0Mismatch (c : Chip) : c.le0Mismatch.rst = c.rst := Chip.kept_of_frame c.frame_le0Mismatch (p := .rst) (by simp)

theorem Chip.pmu_le0Mismatch (c : Chip) : c.le0Mismatch.pmu = c.pmu := Chip.kept_of_frame c.frame_le0Mismatch (p := .pmu) (by simp)

theorem Chip.reach_le0Mismatch (c : Chip) : c.le0Mismatch.flag RST_REACH_MMLE0 = c.flag RST_REACH_MMLE0 := by
  rw [Chip.flag, Chip.flag, Chip.get_of_frame c.frame_le0Mismatch]
  simp only [amongEv, eventAddr, RST_REACH_MMLE0, RST_REACH, LE_FAULT, LE_STAT, LE_HOLDACC, List.mem_cons, List.not_mem_nil, or_false]
  omega

/-- A mismatch stops LE0 and asserts its source. -/
theorem runs_le0Mismatch (hUp : s.chip.zoneUp = true) {p : State → Prop}
    (h : p (if s.chip.flag RST_REACH_MMLE0 then ({ s with chip := s.chip.le0Mismatch } : State).openEpisode .le0Mismatch 3
      else { s with chip := s.chip.le0Mismatch.partAssert 4 1 })) : Runs .le0Mismatch s p := by
  have hExec : exec .le0Mismatch s = s.onZoneMem fun s => ({ s with chip := s.chip.le0Mismatch } : State).assertSource .le0Mismatch := rfl
  refine Runs.onZoneMem hExec hUp ?_
  have hPower : s.chip.le0Mismatch.pmu.power = .run := by
    rw [Chip.pmu_le0Mismatch]
    exact (s.chip.zoneUp_iff.mp hUp).2
  rw [State.assertSource_le0 _ hPower, Chip.reach_le0Mismatch]
  exact h

/-- A mismatch is a fault of LE0, with its own event. -/
theorem Chip.le0Mismatch_effect (c : Chip) : c.le0Mismatch.get (LE_FAULT_CAUSE 0) = 7 ∧ c.le0Mismatch.flag (LE_STAT_FLTSTOP 0) = true ∧
    c.le0Mismatch.leMode 0 = 0 ∧ c.le0Mismatch.pends 171 = true := by
  obtain ⟨hCause, -, hStop, hMode, hPends⟩ := c.le0Undelivered.leFault_event_effect (0 : Fin 2) (cause := 7) (k := 11) rfl (by decide)
  rw [Chip.le0Mismatch_eq]
  exact ⟨hCause, hStop, hMode, hPends⟩

/-- The reset of LE0's partition sets it in reset; its registers stay, and what was pending is pending. -/
theorem Chip.partAssert_le0_effect (c : Chip) (h : c.rst.episode = none) :
    (∀ g : RFld, g.engine = true → (c.partAssert 4 1).get g = c.get g) ∧ ((c.partAssert 4 1).leg 0).inReset = true ∧
    ∀ n < 1024, c.pends n = true → (c.partAssert 4 1).pends n = true := by
  have hRevokes := Chip.Revokes.autoRevoke c.le0Reset (partHolders 4)
  rw [Chip.partAssert_le0 _ h]
  refine ⟨fun g hg => hRevokes.get hg, ?_, fun n hn hp => hRevokes.pending n hn hp⟩
  rw [hRevokes.leg, Chip.le0Reset, Chip.leg_updLe_same]

/-- With partition reach the fault of LE0 stands after its reset is asserted and its leases are revoked. -/
theorem Chip.partAssert_le0Mismatch (c : Chip) (h : c.rst.episode = none) :
    (c.le0Mismatch.partAssert 4 1).get (LE_FAULT_CAUSE 0) = 7 ∧ (c.le0Mismatch.partAssert 4 1).flag (LE_STAT_FLTSTOP 0) = true ∧
    (c.le0Mismatch.partAssert 4 1).leMode 0 = 0 ∧ ((c.le0Mismatch.partAssert 4 1).leg 0).inReset = true ∧
    (c.le0Mismatch.partAssert 4 1).pends 171 = true := by
  obtain ⟨hCause, hStop, hMode, hPends⟩ := c.le0Mismatch_effect
  obtain ⟨hKept, hReset, hPending⟩ := c.le0Mismatch.partAssert_le0_effect (by rw [Chip.rst_le0Mismatch, h])
  refine ⟨?_, ?_, ?_, hReset, hPending 171 (by decide) hPends⟩
  · rw [hKept _ rfl, hCause]
  · rw [Chip.flag, hKept _ rfl, ← Chip.flag, hStop]
  · rw [Chip.leMode_eq, hKept _ rfl, ← Chip.leMode_eq, hMode]

end

/-! ### The cycle as a whole -/

/-- A cycle that begins shows itself in the registers and the engine, whether or not its first instruction is a breakpoint. -/
theorem Chip.leCycleStart_effect (c : Chip) (e : Fin 2) {x : Action} (hDue : c.dueArg 4 e 0 = some x) (hRun : c.leMode e = 1)
    (hReset : (c.leg e).inReset = false) (hMode : c.get (LE_CTL_MODE e) = 1) (hCycle : c.flag (LE_STAT_CYCRUN e) = false)
    (hSoon : c.leTooSoon e x.fire = false) (hArmed : c.flag (LE_XSTAT_ARMED e) = false) :
    (c.leCycleStart e).flag (LE_STAT_CYCRUN e) = true ∧
    (c.leCycleStart e).get (LE_CYCLE_N e) = (c.get (LE_CYCLE_N e) + 1) % 2 ^ 64 ∧ ((c.leCycleStart e).leg e).cpu.pc = 0 ∧
    ((c.leCycleStart e).leg e).cpu.bstack = [] ∧ ((c.leCycleStart e).leg e).cpu.cstack = [] ∧
    ((c.leCycleStart e).leg e).lastStart = some x.fire := by
  rw [c.leCycleStart_begins e hDue hRun hReset hMode hCycle hSoon hArmed]
  obtain ⟨_, _, hLeg⟩ := ((c.dropAction x).leBegin e x.fire).leg_leBreak e
  obtain ⟨hPc, hBranch, hCall, hStart⟩ := (c.dropAction x).leg_leBegin e x.fire
  refine ⟨Chip.flag_of_get_one _ ?_, ?_, ?_⟩
  · rw [Chip.get_leBreak _ e (by fin_cases e <;> rfl), Chip.cycrun_leBegin]
  · rw [Chip.get_leBreak _ e (by fin_cases e <;> rfl), Chip.cycle_leBegin]
    rfl
  · rw [hLeg]
    dsimp only
    exact ⟨hPc, hBranch, hCall, hStart⟩

/-- Settles O27: each event of the cycle is what its shared operation does. -/
theorem logicEngineCycle : Obligations.LogicEngineCycle := by
  intro s e hUp
  obtain ⟨hEpisode, -⟩ := s.chip.zoneUp_iff.mp hUp
  refine ⟨?_, ?_, ?_, ?_, ?_, ?_, ?_, ?_⟩
  · intro x hDue hRun hReset hMode hCycle hSoon hArmed
    exact Runs.onZone rfl hUp (s.chip.leCycleStart_effect e hDue hRun hReset hMode hCycle hSoon hArmed)
  · intro x hDue hRun hReset hMode hSkip
    obtain ⟨hCount, hShown, hPends, hLeg, hFrame⟩ := (s.chip.dropAction x).leSkip_effect e
    refine Runs.onZone rfl hUp ?_
    rw [s.chip.leCycleStart_skips e hDue hRun hReset hMode hSkip]
    exact ⟨hCount, hShown, hPends, hLeg, State.frame_chip (Chip.frame_trans (Chip.frame_dropAction _ x (by simp)) hFrame)⟩
  · intro x hDue hRun hReset _
    exact Runs.onZone rfl hUp (s.chip.leOutputCommit_effect e hDue hRun hReset)
  · intro u hStop hDue
    exact Runs.onZone rfl hUp (s.chip.leStopact_effect e hStop hDue)
  · intro hDue
    exact Runs.onZone rfl hUp (s.chip.leForceDelivery_effect e hDue)
  · obtain ⟨hCause, hPc, hStop, hMode, hPends⟩ := s.chip.leFault_event_effect e (cause := 8) (k := 12) rfl (by decide)
    rw [show 160 + 16 * e.val + 12 = 172 + 16 * e.val by omega] at hPends
    exact Runs.onZone rfl hUp ⟨hCause, hPc, hStop, hMode, hPends⟩
  · intro hReach
    refine runs_le0Mismatch s hUp ?_
    rw [hReach]
    exact s.chip.partAssert_le0Mismatch hEpisode
  · intro hReach
    refine runs_le0Mismatch s hUp ?_
    rw [hReach, if_pos rfl, ← s.chip.rst_le0Mismatch]
    exact State.openEpisode_effect { s with chip := s.chip.le0Mismatch } .le0Mismatch 3 (by rw [Chip.rst_le0Mismatch, hEpisode])

end Sys2Proof.Machine
end

section
/-! OBLIGATIONS. The writes of LEn_CTL (R143, R148, R162 to R164, R175): a write of the engine's world clears what it names, makes its
mode request, and in HOLD takes its debug step. -/

namespace Sys2Proof.Machine

/-! ### The bits of a written value -/

theorem mode_ctl (v : Nat) {k : Nat} (h : k < 4) : (v / 4 * 4 + k) % 4 = k := by omega

theorem bit_ctl (v : Nat) {k i : Nat} (h : k < 4) (hi : 2 ≤ i) : bit (v / 4 * 4 + k) i = bit v i := by
  rw [bit, bit, Nat.mul_comm, Nat.testBit_two_pow_mul_add (i := 2) _ h, if_neg (by omega), show 4 = 2 ^ 2 from rfl,
    Nat.testBit_div_two_pow, Nat.sub_add_cancel hi]

theorem mode_setBit (v : Nat) {i : Nat} (h : 2 ≤ i) : setBit v i true % 4 = v % 4 := setBit_mod v h

/-! ### The parts of a write -/

/-- CLRCNT (R175). -/
def Chip.clearCounts (c : Chip) (e : Nat) : Chip := (c.wrN (LE_CNT e) 0).set (LE_CYCLE_MAXT e) 0

/-- CLRFLT (R163). -/
def Chip.clearFault (c : Chip) (e : Nat) : Chip := (c.setB (LE_STAT_FLTSTOP e) false).wrN (LE_FAULT e) 0

/-- What a write of LEn_CTL clears. -/
def Chip.leCleared (c : Chip) (e v : Nat) : Chip :=
  let c := c.when (bit v 6) fun c => c.clearCounts e
  c.when (bit v 5 && c.leMode e == 0) fun c => c.clearFault e

/-- The mode that a write of LEn_CTL requests. -/
def Chip.leRequest (c : Chip) (e v : Nat) : Chip :=
  match v % 4 with
  | 0 => c.leRequestStop e
  | 1 => c.leRequestRun e (bit v 2)
  | _ => c.leRequestHold e

/-- STEP and SCYC of a write of LEn_CTL, in HOLD. -/
def Chip.leDebug (c : Chip) (e v : Nat) : Chip :=
  let c := c.when (bit v 3 && c.leMode e == 2) fun c => c.leStepOne e
  c.when (bit v 4 && c.leMode e == 2) fun c => (c.leBegin e c.frc).updLe e fun g => { g with single := true }

theorem Chip.leCtlWrite_own (c : Chip) (w : Who) (e v : Nat) (hw : w.world = c.leWorld e) (hv : v % 4 ≠ 3) :
    c.leCtlWrite w e v = ((c.leCleared e v).leRequest e v).leDebug e v := by
  unfold Chip.leCtlWrite
  rw [if_neg (not_not_intro hw), if_neg hv]
  rfl

theorem Chip.leCtlWrite_foreign (c : Chip) (w : Who) (e v : Nat) (hw : w.world ≠ c.leWorld e) :
    c.leCtlWrite w e v = c.leRefuse e stDENIED_WORLD := by
  unfold Chip.leCtlWrite
  rw [if_pos hw]

section
variable (c : Chip) (e : Fin 2) (v : Nat) {g : RFld}

/-! ### Clearing -/

/-- A field of an engine that no clearing write touches. -/
def RFld.uncleared (g : RFld) (e : Nat) : Bool :=
  g.outside [LE_CYCLE_MAXT e, LE_STAT_FLTSTOP e] && decide (g.reg.addr ≠ (LE_CNT e).addr) && decide (g.reg.addr ≠ (LE_FAULT e).addr)

theorem Chip.get_leCleared (h : g.uncleared e = true) : (c.leCleared e v).get g = c.get g := by
  simp only [RFld.uncleared, Bool.and_eq_true, decide_eq_true_eq] at h
  obtain ⟨⟨hOut, hCnt⟩, hFault⟩ := h
  obtain ⟨-, hClear⟩ := RFld.outside_iff.mp hOut
  have hCounts (d : Chip) : (d.clearCounts e).get g = d.get g := by
    rw [Chip.clearCounts, Chip.get_set_clear _ _ (hClear _ (by simp)), Chip.get_wrN_ne _ _ hCnt]
  have hFlt (d : Chip) : (d.clearFault e).get g = d.get g := by
    rw [Chip.clearFault, Chip.get_wrN_ne _ _ hFault, Chip.get_setB_clear _ _ (hClear _ (by simp))]
  unfold Chip.leCleared
  dsimp only
  rw [Chip.get_when, hFlt, ite_self, Chip.get_when, hCounts, ite_self]

theorem Chip.flag_leCleared (h : g.uncleared e = true) : (c.leCleared e v).flag g = c.flag g :=
  Chip.flag_eq_of_get (c.get_leCleared e v h)

@[simp] theorem Chip.leMode_leCleared : (c.leCleared e v).leMode e = c.leMode e := c.get_leCleared e v (by fin_cases e <;> rfl)

@[simp] theorem Chip.leg_leCleared (n : Nat) : (c.leCleared e v).leg n = c.leg n := by
  unfold Chip.leCleared Chip.when
  dsimp only
  split <;> split <;> rfl

/-- A fault that is not there is not brought about. -/
theorem Chip.fltstop_leCleared (h : c.flag (LE_STAT_FLTSTOP e) = false) : (c.leCleared e v).flag (LE_STAT_FLTSTOP e) = false := by
  have hCounts : (c.when (bit v 6) fun c => c.clearCounts e).flag (LE_STAT_FLTSTOP e) = false := by
    rw [← h]
    refine Chip.flag_eq_of_get ?_
    rw [Chip.get_when, Chip.clearCounts, Chip.get_set_clear _ _ (by fin_cases e <;> rfl), Chip.get_wrN_ne _ _ (by fin_cases e <;> decide),
      ite_self]
  unfold Chip.leCleared
  dsimp only
  generalize (bit v 5 && (c.when (bit v 6) fun c => c.clearCounts e).leMode e == 0) = p
  cases p
  · exact hCounts
  · rw [Chip.when_true, Chip.clearFault, Chip.flag, Chip.get_wrN_ne _ _ (by fin_cases e <;> decide)]
    exact Chip.flag_setB_same _ _ _ (RFld.ok_of rfl)

theorem Chip.frame_leCleared : Chip.frame []
    (among [(LE_STAT e).addr, (LE_FAULT e).addr, (LE_CTL e).addr, (LE_CNT e).addr, (LE_CYCLE e).addr]) c (c.leCleared e v) := by
  have hCounts (d : Chip) : Chip.frame []
      (among [(LE_STAT e).addr, (LE_FAULT e).addr, (LE_CTL e).addr, (LE_CNT e).addr, (LE_CYCLE e).addr]) d (d.clearCounts e) :=
    Chip.frame_trans (Chip.frame_wr _ _ _ (by simp [among])) (Chip.frame_set _ _ (f := LE_CYCLE_MAXT e) _ (by simp [among, LE_CYCLE_MAXT]))
  have hFault (d : Chip) : Chip.frame []
      (among [(LE_STAT e).addr, (LE_FAULT e).addr, (LE_CTL e).addr, (LE_CNT e).addr, (LE_CYCLE e).addr]) d (d.clearFault e) :=
    Chip.frame_trans (Chip.frame_set _ _ (f := LE_STAT_FLTSTOP e) _ (by simp [among, LE_STAT_FLTSTOP])) (Chip.frame_wr _ _ _ (by simp [among]))
  exact Chip.frame_trans (Chip.frame_when _ (hCounts _)) (Chip.frame_when _ (hFault _))

/-- CLRFLT in STOP clears the fault (R163). -/
theorem Chip.leCleared_fault (hv : bit v 5 = true) (hMode : c.leMode e = 0) :
    (c.leCleared e v).flag (LE_STAT_FLTSTOP e) = false ∧ (c.leCleared e v).rd (LE_FAULT e) = 0 := by
  have hStop : (c.when (bit v 6) fun c => c.clearCounts e).leMode e = 0 := by
    rw [← hMode, Chip.leMode_eq, Chip.get_when, Chip.clearCounts, Chip.get_set_clear _ _ (by fin_cases e <;> rfl),
      Chip.get_wrN_ne _ _ (by fin_cases e <;> decide), ite_self, ← Chip.leMode_eq]
  unfold Chip.leCleared
  dsimp only
  rw [hv, hStop, beq_self_eq_true, Bool.and_self, Chip.when_true, Chip.clearFault]
  refine ⟨?_, Chip.rd_wr_same _ _ _⟩
  rw [Chip.flag, Chip.get_wrN_ne _ _ (by fin_cases e <;> decide)]
  exact Chip.flag_setB_same _ _ _ (RFld.ok_of rfl)

/-- CLRCNT clears the counters and the longest time (R175). -/
theorem Chip.leCleared_counts (hv : bit v 6 = true) :
    (c.leCleared e v).rd (LE_CNT e) = 0 ∧ (c.leCleared e v).get (LE_CYCLE_MAXT e) = 0 := by
  have hCnt (d : Chip) : (d.clearFault e).rd (LE_CNT e) = d.rd (LE_CNT e) := by
    rw [Chip.clearFault, Chip.wrN, Chip.rd_wr_ne _ _ (by fin_cases e <;> decide), Chip.setB, Chip.rd_set_ne _ _ (by fin_cases e <;> decide)]
  have hMax (d : Chip) : (d.clearFault e).get (LE_CYCLE_MAXT e) = d.get (LE_CYCLE_MAXT e) := by
    rw [Chip.clearFault, Chip.get_wrN_ne _ _ (by fin_cases e <;> decide), Chip.get_setB_clear _ _ (by fin_cases e <;> rfl)]
  unfold Chip.leCleared
  dsimp only
  rw [hv, Chip.when_true]
  generalize (bit v 5 && (c.clearCounts e).leMode e == 0) = p
  have hCleared : (c.clearCounts e).rd (LE_CNT e) = 0 ∧ (c.clearCounts e).get (LE_CYCLE_MAXT e) = 0 := by
    rw [Chip.clearCounts, Chip.rd_set_ne _ _ (by fin_cases e <;> decide)]
    exact ⟨Chip.rd_wr_same _ _ _, Chip.get_set_fit _ rfl rfl⟩
  cases p
  · exact hCleared
  · rwa [Chip.when_true, hCnt, hMax]

/-! ### Requests -/

theorem Chip.leMode_setMode (x : Nat) : (c.set (LE_CTL_MODE e) x).leMode e = c.leMode e :=
  Chip.get_set_clear c x (by fin_cases e <;> rfl)

theorem Chip.leMode_leRefuse (st : Nat) : (c.leRefuse e st).leMode e = c.leMode e := Chip.get_set_clear c st (by fin_cases e <;> rfl)

theorem Chip.get_setMode {x : Nat} (h : decide (x < 4) = true) : (c.set (LE_CTL_MODE e) x).get (LE_CTL_MODE e) = x :=
  Chip.get_set_fit c rfl h

theorem Chip.leRequest_stop (hv : v % 4 = 0) : c.leRequest e v = c.leRequestStop e := by simp [Chip.leRequest, hv]

theorem Chip.leRequest_run (hv : v % 4 = 1) : c.leRequest e v = c.leRequestRun e (bit v 2) := by simp [Chip.leRequest, hv]

theorem Chip.leRequest_hold (hv : v % 4 = 2) : c.leRequest e v = c.leRequestHold e := by simp [Chip.leRequest, hv]

/-- Outside HOLD the engine stops at its next start. -/
theorem Chip.leRequestStop_waits (h : c.leMode e ≠ 2) : c.leRequestStop e = c.set (LE_CTL_MODE e) 0 := by
  unfold Chip.leRequestStop
  dsimp only
  rw [Chip.leMode_setMode, if_neg h]

theorem Chip.leRequestStop_held (h : c.leMode e = 2) : c.leRequestStop e = (c.set (LE_CTL_MODE e) 0).leStop e := by
  unfold Chip.leRequestStop
  dsimp only
  rw [Chip.leMode_setMode, if_pos h]

theorem Chip.leRequestHold_taken (hDebug : c.flag (LE_PROT_DBGEN e) = true) (hCompare : c.flag (LE_STAT_CMPBAD e) = false) :
    c.leRequestHold e = c.set (LE_CTL_MODE e) 2 := by
  simp [Chip.leRequestHold, hDebug, hCompare]

theorem Chip.leRequestHold_refused (hDebug : c.flag (LE_PROT_DBGEN e) = false) :
    c.leRequestHold e = c.leRefuse e stDENIED_STATE := by
  simp [Chip.leRequestHold, hDebug]

/-- The engine that a start from STOP leaves, its instances set up where INIT asks for it. -/
def LeEngine.started (g : LeEngine) (init : Bool) : LeEngine :=
  { g with
    cpu := if init then initAll g.active g.cpu else g.cpu, firstNext := true, initNext := init, delivered := [], overruns := 0 }

theorem Chip.leRequestRun_starts (init : Bool) (hFault : c.flag (LE_STAT_FLTSTOP e) = false)
    (hCompare : c.flag (LE_STAT_CMPBAD e) = false) (hMode : c.leMode e = 0) (hStaging : (c.leg e).newStaging = false) :
    c.leRequestRun e init = ((c.updLe e fun g => g.started init).set (LE_CTL_MODE e) 1).leSetMode e 1 := by
  simp [Chip.leRequestRun, hFault, hCompare, hMode, hStaging]
  rfl

theorem Chip.leRequestRun_continues (init : Bool) (hFault : c.flag (LE_STAT_FLTSTOP e) = false)
    (hCompare : c.flag (LE_STAT_CMPBAD e) = false) (hMode : c.leMode e = 2) :
    c.leRequestRun e init = ((c.leLeaveHold e).set (LE_CTL_MODE e) 1).leSetMode e 1 := by
  simp [Chip.leRequestRun, hFault, hCompare, hMode]

/-- A refused program names its first bad word (R158). -/
def Chip.leBadWord (c : Chip) (e i : Nat) : Chip := ((c.leRefuse e stRANGE).set (LE_XSTAT_BADIDX e) i).set (LE_XSTAT_BADSPC e) 1

theorem Chip.leMode_leBadWord (i : Nat) : (c.leBadWord e i).leMode e = c.leMode e := by
  rw [Chip.leMode_eq, Chip.leBadWord, Chip.get_set_clear _ _ (by fin_cases e <;> rfl), Chip.get_set_clear _ _ (by fin_cases e <;> rfl),
    ← Chip.leMode_eq, Chip.leMode_leRefuse]

/-- What a request for RUN can do outside HOLD. -/
theorem Chip.leRequestRun_cases (init : Bool) (h : c.leMode e ≠ 2) : c.leRequestRun e init = c.leRefuse e stNOT_NOW ∨
    (∃ i, c.leRequestRun e init = c.leBadWord e i) ∨
    c.leRequestRun e init = ((c.updLe e fun g => g.started init).set (LE_CTL_MODE e) 1).leSetMode e 1 ∨
    c.leRequestRun e init = c.set (LE_CTL_MODE e) 1 := by
  unfold Chip.leRequestRun
  split
  · exact .inl rfl
  · split
    · split
      · exact .inr (.inl ⟨_, rfl⟩)
      · exact .inr (.inr (.inl rfl))
    · exact .inr (.inr (.inr rfl))

/-- No request outside HOLD leads into HOLD: that waits for the next start (R164). -/
theorem Chip.leMode_leRequest_ne (h : c.leMode e ≠ 2) : (c.leRequest e v).leMode e ≠ 2 := by
  have hHold : (c.leRequestHold e).leMode e = c.leMode e := by
    unfold Chip.leRequestHold
    split
    · exact c.leMode_leRefuse e _
    · split
      · exact c.leMode_leRefuse e _
      · exact c.leMode_setMode e 2
  unfold Chip.leRequest
  split
  · rwa [Chip.leRequestStop_waits c e h, Chip.leMode_setMode]
  · obtain hEq | ⟨i, hEq⟩ | hEq | hEq := c.leRequestRun_cases e (bit v 2) h
    · rwa [hEq, Chip.leMode_leRefuse]
    · rwa [hEq, Chip.leMode_leBadWord]
    · rw [hEq, Chip.leMode_leSetMode _ e (by decide)]
      decide
    · rwa [hEq, Chip.leMode_setMode]
  · rwa [hHold]

/-- The registers that a request outside HOLD may write. -/
def requestRegs (e : Nat) : List Nat := [(LE_CTL e).addr, (LE_STAT e).addr, (LE_XSTAT e).addr]

theorem Chip.frame_leRequest (h : c.leMode e ≠ 2) : Chip.frame [.le, .core] (amongEv (requestRegs e)) c (c.leRequest e v) := by
  have hSet (d : Chip) (x : Nat) : Chip.frame [.le, .core] (amongEv (requestRegs e)) d (d.set (LE_CTL_MODE e) x) :=
    Chip.frame_set _ d (f := LE_CTL_MODE e) x (amongEv_of_mem (by simp [requestRegs, LE_CTL_MODE]))
  have hRefuse (st : Nat) : Chip.frame [.le, .core] (amongEv (requestRegs e)) c (c.leRefuse e st) :=
    Chip.frame_set _ c (f := LE_STAT_LASTERR e) st (amongEv_of_mem (by simp [requestRegs, LE_STAT_LASTERR]))
  have hBad (i : Nat) : Chip.frame [.le, .core] (amongEv (requestRegs e)) c (c.leBadWord e i) :=
    Chip.frame_trans (Chip.frame_trans (hRefuse _) (Chip.frame_set _ _ (f := LE_XSTAT_BADIDX e) _
      (amongEv_of_mem (by simp [requestRegs, LE_XSTAT_BADIDX])))) (Chip.frame_set _ _ (f := LE_XSTAT_BADSPC e) _
      (amongEv_of_mem (by simp [requestRegs, LE_XSTAT_BADSPC])))
  unfold Chip.leRequest
  split
  · rw [Chip.leRequestStop_waits c e h]
    exact hSet c 0
  · obtain hEq | ⟨i, hEq⟩ | hEq | hEq := c.leRequestRun_cases e (bit v 2) h
    · rw [hEq]
      exact hRefuse _
    · rw [hEq]
      exact hBad i
    · rw [hEq]
      exact Chip.frame_trans (Chip.frame_trans (Chip.frame_updLe _ c _ _ (by simp)) (hSet _ 1))
        (Chip.frame_leSetMode _ e 1 (by simp) (by simp [requestRegs]))
    · rw [hEq]
      exact hSet c 1
  · unfold Chip.leRequestHold
    split
    · exact hRefuse _
    · split
      · exact hRefuse _
      · exact hSet c 2

/-! ### Debug steps (R164) -/

/-- STEP and SCYC do nothing outside HOLD. -/
theorem Chip.leDebug_none (h : c.leMode e ≠ 2) : c.leDebug e v = c := by
  simp [Chip.leDebug, Chip.when, h]

theorem Chip.leDebug_step (h : c.leMode e = 2) (hStep : bit v 3 = true) (hCycle : bit v 4 = false) :
    c.leDebug e v = c.leStepOne e := by
  simp [Chip.leDebug, h, hStep, hCycle]

theorem Chip.leDebug_cycle (h : c.leMode e = 2) (hStep : bit v 3 = false) (hCycle : bit v 4 = true) :
    c.leDebug e v = (c.leBegin e c.frc).updLe e fun g => { g with single := true } := by
  simp [Chip.leDebug, h, hStep, hCycle]

/-- A step within a cycle executes the instruction reached and stays in HOLD. -/
theorem Chip.leStepOne_ok {q : LeCpu} (h : c.leMode e = 2) (hCycle : c.flag (LE_STAT_CYCRUN e) = true)
    (hq : (leOpcode (leFields (c.leg e).fetch).op).map (fun f => f (c.leg e).active.k (leFields (c.leg e).fetch) (c.leg e).cpu) =
      some (.ok q)) : c.leStepOne e = c.updCpu e fun _ => { q with executed := q.executed + 1 } := by
  obtain ⟨f, hf, hRes⟩ := Option.map_eq_some_iff.mp hq
  have hNotEnd : (leFields (c.leg e).fetch).op ≠ 0x3D := by
    intro hEnd
    rw [hEnd] at hf
    exact absurd hf (by simp [leOpcode])
  unfold Chip.leStepOne
  rw [if_pos hCycle]
  dsimp only
  rw [if_neg hNotEnd, hf]
  dsimp only
  rw [Chip.leDo, hRes]
  exact Chip.leBreak_notRunning _ e (by rw [Chip.leMode_eq, Chip.updCpu_get, ← Chip.leMode_eq, h]; decide)

/-! ### What each command does -/

/-- A write that only requests a mode: outside HOLD, no debug step follows. -/
theorem Chip.leCtlWrite_requests (w : Who) (hw : w.world = c.leWorld e) (hv : v % 4 ≠ 3)
    (h : ((c.leCleared e v).leRequest e v).leMode e ≠ 2) : c.leCtlWrite w e v = (c.leCleared e v).leRequest e v := by
  rw [c.leCtlWrite_own w e v hw hv, Chip.leDebug_none _ e v h]

theorem Chip.leRequestRun_started (init : Bool) (hFault : c.flag (LE_STAT_FLTSTOP e) = false)
    (hCompare : c.flag (LE_STAT_CMPBAD e) = false) (hMode : c.leMode e = 0) (hStaging : (c.leg e).newStaging = false) :
    (c.leRequestRun e init).leMode e = 1 ∧ (c.leRequestRun e init).get (LE_CTL_MODE e) = 1 ∧
    (c.leRequestRun e init).pends (160 + 16 * e.val) = true ∧ (c.leRequestRun e init).leg e = (c.leg e).started init := by
  rw [c.leRequestRun_starts e init hFault hCompare hMode hStaging]
  refine ⟨Chip.leMode_leSetMode _ e (by decide), ?_, Chip.pends_leSetMode _ e ?_, ?_⟩
  · rw [Chip.get_leSetMode _ e _ (by fin_cases e <;> rfl), Chip.get_setMode _ e rfl]
  · rw [Chip.leMode_setMode, Chip.leMode_updLe, hMode]
    decide
  · rw [Chip.leg_leSetMode, Chip.leg_set, Chip.leg_updLe_same]

theorem Chip.leRequestRun_continued (init : Bool) (hFault : c.flag (LE_STAT_FLTSTOP e) = false)
    (hCompare : c.flag (LE_STAT_CMPBAD e) = false) (hMode : c.leMode e = 2) :
    (c.leRequestRun e init).leMode e = 1 ∧ (c.leRequestRun e init).pends (160 + 16 * e.val) = true ∧
    (c.leRequestRun e init).leg e = { c.leg e with heldAt := none, single := false } := by
  rw [c.leRequestRun_continues e init hFault hCompare hMode]
  refine ⟨Chip.leMode_leSetMode _ e (by decide), Chip.pends_leSetMode _ e ?_, ?_⟩
  · rw [Chip.leMode_setMode, Chip.leMode_eq, Chip.get_leLeaveHold _ e (by fin_cases e <;> rfl), ← Chip.leMode_eq, hMode]
    decide
  · rw [Chip.leg_leSetMode, Chip.leg_set, Chip.leg_leLeaveHold]

theorem Chip.leRequestStop_stopped (hMode : c.leMode e = 2) : (c.leRequestStop e).leMode e = 0 ∧
    (c.leRequestStop e).get (LE_CTL_MODE e) = 0 ∧ (c.leRequestStop e).flag (LE_STAT_CYCRUN e) = false ∧
    (c.leRequestStop e).pends (160 + 16 * e.val) = true := by
  rw [c.leRequestStop_held e hMode]
  refine ⟨Chip.leMode_leStop _ e, ?_, Chip.cycrun_leStop _ e, Chip.pends_leStop _ e ?_⟩
  · rw [Chip.get_leStop _ e (by fin_cases e <;> rfl), Chip.get_setMode _ e rfl]
  · rw [Chip.leMode_setMode, hMode]
    decide

/-- A write in HOLD that asks for HOLD again, with debug enabled, comes to its debug step. -/
theorem Chip.leCtlWrite_debugs (w : Who) (hw : w.world = c.leWorld e) (hv : v % 4 = 2) (hDebug : c.flag (LE_PROT_DBGEN e) = true)
    (hCompare : c.flag (LE_STAT_CMPBAD e) = false) :
    c.leCtlWrite w e v = ((c.leCleared e v).set (LE_CTL_MODE e) 2).leDebug e v := by
  rw [c.leCtlWrite_own w e v hw (by omega), Chip.leRequest_hold _ e v hv, Chip.leRequestHold_taken _ e]
  · rwa [c.flag_leCleared e v (by fin_cases e <;> rfl)]
  · rwa [c.flag_leCleared e v (by fin_cases e <;> rfl)]

/-- No event and none of the listed registers lies at this address of the engines. -/
theorem not_amongEv_of_engine {l : List Nat} {a : Nat} (h : 0x30050000 ≤ a ∧ a < 0x30070000) (hl : a ∉ l) : ¬ amongEv l a :=
  fun hw => hw.elim hl (quiet_le h)

section
variable {w : Who} (hw : w.world = c.leWorld e)
include hw

theorem Chip.leCtlWrite_run_stopped (hv : v % 4 = 1) (hFault : c.flag (LE_STAT_FLTSTOP e) = false)
    (hCompare : c.flag (LE_STAT_CMPBAD e) = false) (hMode : c.leMode e = 0) (hStaging : (c.leg e).newStaging = false) :
    (c.leCtlWrite w e v).leMode e = 1 ∧ (c.leCtlWrite w e v).get (LE_CTL_MODE e) = 1 ∧
    (c.leCtlWrite w e v).pends (160 + 16 * e.val) = true ∧ (c.leCtlWrite w e v).leg e = (c.leg e).started (bit v 2) := by
  have hStarted := Chip.leRequestRun_started (c.leCleared e v) e (bit v 2) (c.fltstop_leCleared e v hFault)
    (by rwa [c.flag_leCleared e v (by fin_cases e <;> rfl)]) (by rwa [Chip.leMode_leCleared]) (by rwa [Chip.leg_leCleared])
  rw [Chip.leg_leCleared, ← Chip.leRequest_run _ e v hv] at hStarted
  rwa [c.leCtlWrite_requests e v w hw (by omega) (by rw [hStarted.1]; decide)]

theorem Chip.leCtlWrite_run_held (hv : v % 4 = 1) (hFault : c.flag (LE_STAT_FLTSTOP e) = false)
    (hCompare : c.flag (LE_STAT_CMPBAD e) = false) (hMode : c.leMode e = 2) : (c.leCtlWrite w e v).leMode e = 1 ∧
    (c.leCtlWrite w e v).pends (160 + 16 * e.val) = true ∧
    (c.leCtlWrite w e v).leg e = { c.leg e with heldAt := none, single := false } := by
  have hContinued := Chip.leRequestRun_continued (c.leCleared e v) e (bit v 2) (c.fltstop_leCleared e v hFault)
    (by rwa [c.flag_leCleared e v (by fin_cases e <;> rfl)]) (by rwa [Chip.leMode_leCleared])
  rw [Chip.leg_leCleared, ← Chip.leRequest_run _ e v hv] at hContinued
  rwa [c.leCtlWrite_requests e v w hw (by omega) (by rw [hContinued.1]; decide)]

theorem Chip.leCtlWrite_stop_held (hv : v % 4 = 0) (hMode : c.leMode e = 2) : (c.leCtlWrite w e v).leMode e = 0 ∧
    (c.leCtlWrite w e v).get (LE_CTL_MODE e) = 0 ∧ (c.leCtlWrite w e v).flag (LE_STAT_CYCRUN e) = false ∧
    (c.leCtlWrite w e v).pends (160 + 16 * e.val) = true := by
  have hStopped := Chip.leRequestStop_stopped (c.leCleared e v) e (by rwa [Chip.leMode_leCleared])
  rw [← Chip.leRequest_stop _ e v hv] at hStopped
  rwa [c.leCtlWrite_requests e v w hw (by omega) (by rw [hStopped.1]; decide)]

/-- Outside HOLD a request for STOP only shows itself beside what the write clears. -/
theorem Chip.leCtlWrite_stop_waits (hv : v % 4 = 0) (hMode : c.leMode e ≠ 2) :
    c.leCtlWrite w e v = (c.leCleared e v).set (LE_CTL_MODE e) 0 := by
  have hOut : (c.leCleared e v).leMode e ≠ 2 := by rwa [Chip.leMode_leCleared]
  rw [c.leCtlWrite_requests e v w hw (by omega) (Chip.leMode_leRequest_ne _ e v hOut), Chip.leRequest_stop _ e v hv,
    Chip.leRequestStop_waits _ e hOut]

theorem Chip.leCtlWrite_hold_taken (hv : v % 4 = 2) (hMode : c.leMode e ≠ 2) (hDebug : c.flag (LE_PROT_DBGEN e) = true)
    (hCompare : c.flag (LE_STAT_CMPBAD e) = false) : c.leCtlWrite w e v = (c.leCleared e v).set (LE_CTL_MODE e) 2 := by
  rw [c.leCtlWrite_debugs e v w hw hv hDebug hCompare, Chip.leDebug_none _ e v]
  rwa [Chip.leMode_setMode, Chip.leMode_leCleared]

theorem Chip.leCtlWrite_hold_refused (hv : v % 4 = 2) (hMode : c.leMode e ≠ 2) (hDebug : c.flag (LE_PROT_DBGEN e) = false) :
    c.leCtlWrite w e v = (c.leCleared e v).leRefuse e stDENIED_STATE := by
  have hOut : (c.leCleared e v).leMode e ≠ 2 := by rwa [Chip.leMode_leCleared]
  rw [c.leCtlWrite_requests e v w hw (by omega) (Chip.leMode_leRequest_ne _ e v hOut), Chip.leRequest_hold _ e v hv,
    Chip.leRequestHold_refused _ e]
  rwa [c.flag_leCleared e v (by fin_cases e <;> rfl)]

theorem Chip.leCtlWrite_step {q : LeCpu} (hv : v % 4 = 2) (hStep : bit v 3 = true) (hSingle : bit v 4 = false) (hMode : c.leMode e = 2)
    (hDebug : c.flag (LE_PROT_DBGEN e) = true) (hCompare : c.flag (LE_STAT_CMPBAD e) = false)
    (hCycle : c.flag (LE_STAT_CYCRUN e) = true)
    (hq : (leOpcode (leFields (c.leg e).fetch).op).map (fun f => f (c.leg e).active.k (leFields (c.leg e).fetch) (c.leg e).cpu) =
      some (.ok q)) : ((c.leCtlWrite w e v).leg e).cpu = { q with executed := q.executed + 1 } ∧ (c.leCtlWrite w e v).leMode e = 2 ∧
    (c.leCtlWrite w e v).flag (LE_STAT_CYCRUN e) = true := by
  have hHeld : ((c.leCleared e v).set (LE_CTL_MODE e) 2).leMode e = 2 := by rw [Chip.leMode_setMode, Chip.leMode_leCleared, hMode]
  have hInCycle : ((c.leCleared e v).set (LE_CTL_MODE e) 2).flag (LE_STAT_CYCRUN e) = true := by
    rwa [Chip.flag, Chip.get_set_clear _ _ (by fin_cases e <;> rfl), ← Chip.flag, c.flag_leCleared e v (by fin_cases e <;> rfl)]
  rw [c.leCtlWrite_debugs e v w hw hv hDebug hCompare, Chip.leDebug_step _ e v hHeld hStep hSingle,
    Chip.leStepOne_ok _ e hHeld hInCycle (by rwa [Chip.leg_set, Chip.leg_leCleared]), Chip.leg_updCpu_same]
  exact ⟨rfl, hHeld, hInCycle⟩

theorem Chip.leCtlWrite_cycle (hv : v % 4 = 2) (hStep : bit v 3 = false) (hSingle : bit v 4 = true) (hMode : c.leMode e = 2)
    (hDebug : c.flag (LE_PROT_DBGEN e) = true) (hCompare : c.flag (LE_STAT_CMPBAD e) = false) :
    (c.leCtlWrite w e v).get (LE_CYCLE_N e) = (c.get (LE_CYCLE_N e) + 1) % 2 ^ 64 ∧ ((c.leCtlWrite w e v).leg e).single = true ∧
    ((c.leCtlWrite w e v).leg e).cpu.pc = 0 ∧ (c.leCtlWrite w e v).flag (LE_STAT_CYCRUN e) = true ∧
    (c.leCtlWrite w e v).leMode e = 2 := by
  have hHeld : ((c.leCleared e v).set (LE_CTL_MODE e) 2).leMode e = 2 := by rw [Chip.leMode_setMode, Chip.leMode_leCleared, hMode]
  have hNumber : ((c.leCleared e v).set (LE_CTL_MODE e) 2).get (LE_CYCLE_N e) = c.get (LE_CYCLE_N e) := by
    rw [Chip.get_set_clear _ _ (by fin_cases e <;> rfl), c.get_leCleared e v (by fin_cases e <;> rfl)]
  rw [c.leCtlWrite_debugs e v w hw hv hDebug hCompare, Chip.leDebug_cycle _ e v hHeld hStep hSingle]
  generalize (c.leCleared e v).set (LE_CTL_MODE e) 2 = d at hHeld hNumber
  obtain ⟨hPc, -⟩ := d.leg_leBegin e d.frc
  rw [Chip.leg_updLe_same, Chip.updLe_get, Chip.cycle_leBegin, hNumber, Chip.leMode_updLe]
  refine ⟨rfl, rfl, ?_, Chip.flag_of_get_one _ ?_, ?_⟩
  · dsimp only
    exact hPc
  · rw [Chip.updLe_get, Chip.cycrun_leBegin]
  · rw [Chip.leMode_eq, Chip.get_leBegin _ e _ (by fin_cases e <;> rfl) (by fin_cases e <;> decide), ← Chip.leMode_eq, hHeld]

theorem Chip.leCtlWrite_clears_fault (hv : v % 4 = 0) (hClear : bit v 5 = true) (hMode : c.leMode e = 0) :
    (c.leCtlWrite w e v).flag (LE_STAT_FLTSTOP e) = false ∧ (c.leCtlWrite w e v).rd (LE_FAULT e) = 0 ∧ Chip.frame []
      (among [(LE_STAT e).addr, (LE_FAULT e).addr, (LE_CTL e).addr, (LE_CNT e).addr, (LE_CYCLE e).addr]) c (c.leCtlWrite w e v) := by
  obtain ⟨hFault, hRecord⟩ := c.leCleared_fault e v hClear hMode
  rw [c.leCtlWrite_stop_waits e v hw hv (by omega)]
  refine ⟨?_, ?_, Chip.frame_trans (c.frame_leCleared e v) ?_⟩
  · rwa [Chip.flag, Chip.get_set_clear _ _ (by fin_cases e <;> rfl), ← Chip.flag]
  · rwa [Chip.rd_set_ne _ _ (by fin_cases e <;> decide)]
  · exact Chip.frame_set _ _ (f := LE_CTL_MODE e) _ (by simp [among, LE_CTL_MODE])

theorem Chip.leCtlWrite_clears_counts (hv : v % 4 ≠ 3) (hClear : bit v 6 = true) (hMode : c.leMode e ≠ 2) :
    (c.leCtlWrite w e v).rd (LE_CNT e) = 0 ∧ (c.leCtlWrite w e v).get (LE_CYCLE_MAXT e) = 0 := by
  obtain ⟨hCounts, hLongest⟩ := c.leCleared_counts e v hClear
  have hOut : (c.leCleared e v).leMode e ≠ 2 := by rwa [Chip.leMode_leCleared]
  have hFrame := Chip.frame_leRequest _ e v hOut
  rw [c.leCtlWrite_requests e v w hw hv (Chip.leMode_leRequest_ne _ e v hOut)]
  refine ⟨(Chip.rd_of_frame hFrame ?_).trans hCounts, (Chip.get_of_frame hFrame ?_).trans hLongest⟩
  · exact not_amongEv_of_engine (by fin_cases e <;> decide) (by fin_cases e <;> decide)
  · exact not_amongEv_of_engine (by fin_cases e <;> decide) (by fin_cases e <;> decide)

end

end

/-- Settles O28: each command is a write of LEn_CTL whose parts act one after the other. -/
theorem logicEngineControl : Obligations.LogicEngineControl := by
  intro s a e v hAdmits
  have hRun : (v.toNat / 4 * 4 + 1) % 4 = 1 := mode_ctl v.toNat (by decide)
  have hStop : v.toNat / 4 * 4 % 4 = 0 := mode_ctl v.toNat (k := 0) (by decide)
  have hHold : (v.toNat / 4 * 4 + 2) % 4 = 2 := mode_ctl v.toNat (by decide)
  refine ⟨?_, ?_, ?_, ?_, ?_, ?_, ?_, ?_, ?_, ?_, ?_⟩
  · intro hWorld hFault hCompare hMode hStaging
    obtain ⟨hMode', hShown, hPends, hLeg⟩ := s.chip.leCtlWrite_run_stopped e _ hWorld hRun hFault hCompare hMode hStaging
    rw [bit_ctl _ (by decide) (by decide)] at hLeg
    refine Runs.by rfl hAdmits ?_
    dsimp only
    rw [hLeg]
    exact ⟨hMode', hShown, hPends, rfl, rfl, rfl⟩
  · intro hWorld hFault hCompare hMode
    obtain ⟨hMode', hPends, hLeg⟩ := s.chip.leCtlWrite_run_held e _ hWorld hRun hFault hCompare hMode
    refine Runs.by rfl hAdmits ?_
    dsimp only
    rw [hLeg]
    exact ⟨hMode', rfl, hPends, rfl⟩
  · intro hWorld hMode
    exact Runs.by rfl hAdmits (s.chip.leCtlWrite_stop_held e _ hWorld hStop hMode)
  · intro hWorld hMode
    refine Runs.by rfl hAdmits ?_
    rw [s.chip.leCtlWrite_stop_waits e _ hWorld hStop (by omega)]
    exact ⟨by rw [Chip.leMode_setMode, Chip.leMode_leCleared, hMode], Chip.get_setMode _ e rfl, by rw [Chip.leg_set, Chip.leg_leCleared]⟩
  · intro hWorld hMode hDebug hCompare
    refine Runs.by rfl hAdmits ?_
    rw [s.chip.leCtlWrite_hold_taken e _ hWorld hHold hMode hDebug hCompare]
    exact ⟨Chip.get_setMode _ e rfl, by rw [Chip.leMode_setMode, Chip.leMode_leCleared]⟩
  · intro hWorld hMode hDebug
    refine Runs.by rfl hAdmits ?_
    rw [s.chip.leCtlWrite_hold_refused e _ hWorld hHold hMode hDebug]
    refine ⟨Chip.get_set_fit _ rfl rfl, ?_⟩
    rw [Chip.leRefuse, Chip.get_set_clear _ _ (by fin_cases e <;> rfl), Chip.get_leCleared _ e _ (by fin_cases e <;> rfl)]
  · intro q hWorld hMode hHeld hSingle hDebug hCompare hCycle hq
    rw [← mode_setBit v.toNat (i := 3) (by decide)] at hHeld
    rw [← bit, ← bit_setBit_ne v.toNat (i := 3) (by decide)] at hSingle
    exact Runs.by rfl hAdmits (s.chip.leCtlWrite_step e _ hWorld hHeld (bit_setBit_same _ _) hSingle hMode hDebug hCompare hCycle hq)
  · intro hWorld hMode hHeld hStep hDebug hCompare
    rw [← mode_setBit v.toNat (i := 4) (by decide)] at hHeld
    rw [← bit, ← bit_setBit_ne v.toNat (i := 4) (by decide)] at hStep
    exact Runs.by rfl hAdmits (s.chip.leCtlWrite_cycle e _ hWorld hHeld hStep (bit_setBit_same _ _) hMode hDebug hCompare)
  · intro hWorld hMode hStopped
    rw [← mode_setBit v.toNat (i := 5) (by decide)] at hStopped
    obtain ⟨hFault, hRecord, hFrame⟩ := s.chip.leCtlWrite_clears_fault e _ hWorld hStopped (bit_setBit_same _ _) hMode
    exact Runs.by rfl hAdmits ⟨hFault, hRecord, State.frame_chip hFrame⟩
  · intro hWorld hMode hReserved
    rw [← mode_setBit v.toNat (i := 6) (by decide)] at hReserved
    exact Runs.by rfl hAdmits (s.chip.leCtlWrite_clears_counts e _ hWorld hReserved (bit_setBit_same _ _) hMode)
  · intro hWorld
    refine Runs.by rfl hAdmits ?_
    rw [s.chip.leCtlWrite_foreign _ _ _ hWorld]
    exact ⟨Chip.get_set_fit _ rfl rfl, State.frame_chip (Chip.frame_set _ _ (f := LE_STAT_LASTERR e) _ (by simp [among, LE_STAT_LASTERR]))⟩

end Sys2Proof.Machine
end

section
/-! The table commands of the switch, flushing and ageing (R186 to R189, R210). -/

namespace Sys2Proof.Machine

/-! ### Tables kept as lists -/

/-- What an entry that was kept reads as meets the test that kept it. -/
theorem look_filter_or {α : Type} (d : α) (m : NMap α) (p : Nat × α → Bool) (a : Nat) :
    look d (m.filter p) a = d ∨ p (a, look d (m.filter p) a) = true := by
  induction m with
  | nil => exact Or.inl rfl
  | cons e t ih =>
    obtain ⟨k, v⟩ := e
    rw [List.filter_cons]
    split
    · next hKept =>
      by_cases ha : a = k
      · subst ha
        exact Or.inr (by simpa [look] using hKept)
      · simpa [look, ha] using ih
    · exact ih

theorem look_of_allAbove {α : Type} (d : α) {m : NMap α} {b a : Nat} (h : allAbove b m = true) (ha : a ≤ b) : look d m a = d := by
  induction m with
  | nil => rfl
  | cons e t ih =>
    obtain ⟨k, v⟩ := e
    simp only [allAbove, Bool.and_eq_true, decide_eq_true_eq] at h
    rw [look, if_neg (by omega), ih h.2]

/-- In canonical form each number has one entry: dropping it leaves the default. -/
theorem look_filter {α : Type} [DecidableEq α] (d : α) (m : NMap α) (p : Nat × α → Bool) (a : Nat) (hm : canonical d m = true) :
    look d (m.filter p) a = if p (a, look d m a) = true then look d m a else d := by
  induction m with
  | nil => exact (ite_self d).symm
  | cons e t ih =>
    obtain ⟨k, v⟩ := e
    simp only [canonical, Bool.and_eq_true, decide_eq_true_eq] at hm
    obtain ⟨⟨-, hAbove⟩, ht⟩ := hm
    by_cases ha : a = k
    · subst ha
      rw [List.filter_cons]
      split
      · next hp => simp [look, hp]
      · next hp => simp [look, hp, look_of_allAbove d (allAbove_filter t p hAbove) (Nat.le_refl a)]
    · rw [List.filter_cons]
      split
      · simpa [look, ha] using ih ht
      · simpa [look, ha] using ih ht

/-- A change of the values that keeps the default is seen at every number. -/
theorem look_map {α : Type} (d : α) (m : NMap α) (f : Nat → α → α) (a : Nat) (hd : f a d = d) :
    look d (m.map fun e => (e.1, f e.1 e.2)) a = f a (look d m a) := by
  induction m with
  | nil => exact hd.symm
  | cons e t ih =>
    obtain ⟨k, v⟩ := e
    by_cases ha : a = k
    · subst ha
      simp [look]
    · simpa [look, ha] using ih

/-! ### Entries (R186, R188) -/

section
variable (c : Chip) (k i : Nat)

theorem Chip.frame_updEsw {ps : List Part} {w : Nat → Prop} (g : EswBlk → EswBlk) (h : Part.esw ∈ ps) :
    Chip.frame ps w c (c.updEsw g) := by
  refine ⟨fun p hp => ?_, fun _ _ => rfl, rfl, rfl⟩
  cases p with
  | esw => exact absurd h hp
  | _ => rfl

@[simp] theorem Chip.tbl_setTbl_same (v : W128) : (c.setTbl k i v).tbl k i = v := look_put_same _ _ _ _

theorem Chip.tbl_of_esw {d : Chip} (h : d.esw = c.esw) : d.tbl k i = c.tbl k i := by rw [Chip.tbl, h, ← Chip.tbl]

/-- An entry found lies in one of the 4096 buckets of four. -/
theorem bucketEntry_lt {fid addr j : Nat} {p : Nat → Bool}
    (h : ((List.range 4).map (4 * bucketOf fid addr + ·)).find? p = some j) : j < 16384 := by
  obtain ⟨way, hWay, rfl⟩ := List.mem_map.mp (List.mem_of_find?_eq_some h)
  have hBucket : bucketOf fid addr < 4096 := Nat.mod_lt _ (by decide)
  have := List.mem_range.mp hWay
  omega

/-- A field of a register written whole. -/
theorem Chip.get_wrN_same {r : Reg} {g : RFld} (v : Nat) (hr : g.reg = r) (h : g.hi < 128) (hg : g.lo ≤ g.hi) :
    (c.wrN r v).get g = bits v g.hi g.lo := by
  subst hr
  rw [Chip.wrN, Chip.get_wr_same]
  apply Nat.eq_of_testBit_eq
  intro j
  rw [bits_testBit, bits_testBit, BitVec.toNat_ofNat, Nat.testBit_mod_two_pow]
  by_cases hj : j < g.hi - g.lo + 1
  · rw [decide_eq_true (show g.lo + j < 128 by omega), Bool.true_and]
  · simp [hj]

/-- A field of one bit is that bit. -/
theorem bits_bit (v i : Nat) : bits v i i = b2n (v.testBit i) := by
  rw [bits, Nat.sub_self, Nat.zero_add, Nat.pow_one, Nat.shiftRight_eq_div_pow, Nat.testBit_eq_decide_div_mod_eq]
  rcases Nat.mod_two_eq_zero_or_one (v / 2 ^ i) with h | h <;> simp [h, b2n]

theorem Chip.flag_wrN_bit {r : Reg} {g : RFld} (v : Nat) (hr : g.reg = r) {i : Nat} (hHi : g.hi = i) (hLo : g.lo = i) (hi : i < 128) :
    (c.wrN r v).flag g = v.testBit i := by
  rw [Chip.flag, Chip.get_wrN_same c v hr (by omega) (by omega), hHi, hLo, bits_bit, b2n_ne_zero]

/-- A MAC entry takes every field but HIT and the reserved bits from the new value (R188). -/
theorem bits_tblMerge_mac (old new : W128) {hi lo : Nat} (h : lo ≤ hi ∧ (hi < 60 ∨ 87 < lo ∧ hi < 120 ∨ 125 < lo)) :
    bits (tblMerge 0 old new).toNat hi lo = bits new.toNat hi lo := by
  rw [tblMerge, bits_setBits_ne _ _ _ _ _ _ (by decide) (by decide) h.1 (by omega),
    bits_setBits_ne _ _ _ _ _ _ (by decide) (by decide) h.1 (by omega),
    bits_setBits_ne _ _ _ _ _ _ (by decide) (by decide) h.1 (by omega)]

end

/-! ### Commands (R187) -/

/-- The OP field of a command word as each command writes it. -/
theorem op_withOp (v : Nat) {op : Nat} (h : op < 8) : bits (withOp v op) 30 28 = op := by
  rw [withOp, bits_setBits_same _ _ _ _ (by decide) (by decide)]
  exact Nat.mod_eq_of_lt h

/-- The fields below OP are the written ones. -/
theorem bits_withOp (v : W32) (op : Nat) {hi lo : Nat} (h : lo ≤ hi ∧ hi < 28) : bits (withOp v.toNat op) hi lo = bits v.toNat hi lo := by
  have hv : (BitVec.ofNat 128 v.toNat).toNat = v.toNat := by
    rw [BitVec.toNat_ofNat, Nat.mod_eq_of_lt (by have := v.isLt; omega)]
  rw [withOp, bits_setBits_ne _ _ _ _ _ _ (by decide) (by decide) h.1 (by omega), hv]

/-- The module once ESW_TBL_CMD shows the table and index of a command. -/
def Chip.tblTaken (c : Chip) (v : W32) : Chip :=
  (c.set ESW_TBL_CMD_TABLE (bits v.toNat 27 24)).set ESW_TBL_CMD_INDEX (bits v.toNat 13 0)

section
variable (c : Chip) (v : W32)

theorem Chip.tblWrite_runs {w : Who} {op : Nat} (hw : w.world = 1) (ho : op < 7) (ht : bits v.toNat 27 24 < 8) :
    c.tblWrite w (withOp v.toNat op) = (c.tblTaken v).tblRun w op (bits v.toNat 27 24) (bits v.toNat 13 0) := by
  rw [Chip.tblWrite, if_neg (not_not_intro hw)]
  simp only [op_withOp v.toNat (show op < 8 by omega), bits_withOp v op (show 24 ≤ 27 ∧ 27 < 28 by decide),
    bits_withOp v op (show 0 ≤ 13 ∧ 13 < 28 by decide)]
  rw [if_neg (by simp; omega), Chip.tblTaken]

@[simp] theorem Chip.tbl_tblTaken (k i : Nat) : (c.tblTaken v).tbl k i = c.tbl k i := rfl

theorem Chip.frame_tblTaken (ps : List Part) {w : Nat → Prop} (h : w ESW_TBL_CMD.addr) : Chip.frame ps w c (c.tblTaken v) :=
  Chip.frame_trans (Chip.frame_set ps c _ h) (Chip.frame_set ps _ _ h)

/-- Taking a command leaves every other register as it was. -/
@[simp] theorem Chip.rd_tblTaken {r : Reg} (h : r.addr ≠ ESW_TBL_CMD.addr) : (c.tblTaken v).rd r = c.rd r :=
  (Chip.rd_set_ne _ _ h).trans (Chip.rd_set_ne _ _ h)

@[simp] theorem Chip.rdN_tblTaken {r : Reg} (h : r.addr ≠ ESW_TBL_CMD.addr) : (c.tblTaken v).rdN r = c.rdN r := by
  rw [Chip.rdN, Chip.rd_tblTaken c v h, ← Chip.rdN]

@[simp] theorem Chip.hatbandPort_tblTaken (p : Nat) : (c.tblTaken v).hatbandPort p = c.hatbandPort p := by
  have hClaim : (c.tblTaken v).rd (CLM_CLAIM 3 (p / 8)) = c.rd (CLM_CLAIM 3 (p / 8)) :=
    Chip.rd_tblTaken c v (by simp [CLM_CLAIM, ESW_TBL_CMD]; omega)
  simp [Chip.hatbandPort, Chip.claimNibble, hClaim]

end

section
variable (c : Chip)

theorem Chip.tblDone_ok : c.tblDone stOK = c.set ESW_TBL_CMD_STATUS stOK := rfl

theorem Chip.status_tblDone {st : Nat} (h : st < 256) : (c.tblDone st).get ESW_TBL_CMD_STATUS = st := by
  have hSet := Chip.get_set_fit c (f := ESW_TBL_CMD_STATUS) (x := st) rfl (decide_eq_true h)
  unfold Chip.tblDone
  dsimp only
  split
  · exact hSet
  · rwa [Chip.get_raise _ _ (by decide) _ (by simp [quiet, eventAddr, ESW_TBL_CMD_STATUS, ESW_TBL_CMD])]

theorem Chip.pends_tblDone {st : Nat} (h : st ≠ stOK) : (c.tblDone st).pends 276 = true := by
  rw [Chip.tblDone, if_neg h]
  exact Chip.pends_raise _ _ (by decide)

/-- INDEX of an entry found is shown beside the status. -/
theorem Chip.index_tblDone {j : Nat} (h : j < 16384) : ((c.set ESW_TBL_CMD_INDEX j).tblDone stOK).get ESW_TBL_CMD_INDEX = j := by
  rw [Chip.tblDone_ok, Chip.get_set_beside (f := ESW_TBL_CMD_STATUS) (g := ESW_TBL_CMD_INDEX) _ _ rfl rfl]
  exact Chip.get_set_fit c rfl (decide_eq_true h)

end

/-! ### Each command -/

section
variable (c : Chip) (w : Who) (i : Nat)

theorem Chip.tblRun_read {k : Nat} (hi : i < tblSize k) :
    c.tblRun w 1 k i = (c.wr ESW_TBL_DATA (c.tbl k i)).tblDone stOK := if_neg (by omega)

theorem Chip.tblRun_write {k : Nat} (hi : i < tblSize k) (hr : tblReserved k (c.rdN ESW_TBL_DATA) = false)
    (hk : k = 1 → c.hatbandPort 18 = false ∧ c.hatbandPort 19 = false) :
    c.tblRun w 2 k i = (c.setTbl k i (tblMerge k (c.tbl k i) (c.rd ESW_TBL_DATA))).tblDone stOK := by
  have hFree (ports : Nat) : (if k = 1 then [18, 19].find? (fun p => c.hatbandPort p && bit ports p) else none) = none := by
    split
    · next h1 => simp [hk h1]
    · rfl
  have hRoom : (decide (tblSize k ≤ i) || tblReserved k (c.rd ESW_TBL_DATA).toNat) = false := by
    rw [← Chip.rdN, hr, decide_eq_false (by omega), Bool.or_false]
  simp [Chip.tblRun, hFree, hRoom]

variable {fid addr : Nat} (hFid : bits (c.rdN ESW_TBL_KEY) 59 48 = fid) (hAddr : bits (c.rdN ESW_TBL_KEY) 47 0 = addr)
include hFid hAddr

theorem Chip.tblRun_lookup_found {j : Nat} (h : c.macFind fid addr = some j) :
    c.tblRun w 3 0 i = (c.set ESW_TBL_CMD_INDEX j).tblDone stOK := by simp [Chip.tblRun, hFid, hAddr, h]

theorem Chip.tblRun_lookup_none (h : c.macFind fid addr = none) : c.tblRun w 3 0 i = c.tblDone stNO_OBJECT := by
  simp [Chip.tblRun, hFid, hAddr, h]

theorem Chip.tblRun_insert_free {j : Nat} {x : W128}
    (hx : setBits (setBits (setBits (c.rd ESW_TBL_DATA) 127 127 1) 59 48 fid) 47 0 addr = x) (hFind : c.macFind fid addr = none)
    (hFree : c.macFree fid addr = some j) (hr : tblReserved 0 x.toNat = false) :
    c.tblRun w 4 0 i = ((c.setTbl 0 j (tblMerge 0 (c.tbl 0 j) x)).set ESW_TBL_CMD_INDEX j).tblDone stOK := by
  simp [Chip.tblRun, hFid, hAddr, hx, hFind, hFree, hr]

theorem Chip.tblRun_delete_found {j : Nat} (h : c.macFind fid addr = some j) :
    c.tblRun w 5 0 i = (c.setTbl 0 j 0).tblDone stOK := by simp [Chip.tblRun, hFid, hAddr, h]

omit hFid hAddr in
theorem Chip.tblRun_flush_all (k : Nat) (hPort : c.rdN ESW_TBL_KEY % 32 = 31) (hAny : (c.rdN ESW_TBL_KEY).testBit 60 = false) :
    c.tblRun w 6 k i = (c.removeMacs fun _ => true).tblDone stOK := by
  simp [Chip.tblRun, hPort, bit, hAny]

end

/-! ### Flushing and ageing (R186) -/

theorem macDynamic_zero : macDynamic 0 = false := by simp [macDynamic, bit]

/-- An entry that ageing does not remove, with HIT cleared where it is dynamic. -/
def unhit (i : Nat) (x : W128) : W128 := if i < 16384 && macDynamic x.toNat then setBits x 125 125 0 else x

section
variable (c : Chip) {i : Nat} (hi : i < 16384)

include hi

/-- After a flush of every dynamic entry the MAC table holds none. -/
theorem Chip.macDynamic_removeMacs : macDynamic ((c.removeMacs fun _ => true).tbl 0 i).toNat = false := by
  have hKey : tblKey 0 i = i := by simp [tblKey]
  have h := look_filter_or 0 c.esw.tables (fun e => !(decide (e.1 < 16384) && macDynamic e.2.toNat && true)) i
  rw [Chip.tbl, hKey, Chip.removeMacs, Chip.updEsw]
  dsimp only
  rcases h with h | h
  · rw [h]
    exact macDynamic_zero
  · simpa only [hi, decide_true, Bool.true_and, Bool.and_true, Bool.not_eq_true'] using h

/-- What ageing makes of an entry. -/
theorem Chip.tbl_ageTick (hOn : c.get ESW_AGE_S ≠ 0) (hForm : canonical 0 c.esw.tables = true) : c.ageTick.tbl 0 i =
    if macDynamic (c.tbl 0 i).toNat = true then
      if bit (c.tbl 0 i).toNat 125 = true then setBits (c.tbl 0 i) 125 125 0 else 0
    else c.tbl 0 i := by
  have hKey : tblKey 0 i = i := by simp [tblKey]
  have hUnhit : (fun e : Nat × W128 => if e.1 < 16384 && macDynamic e.2.toNat then (e.1, setBits e.2 125 125 0) else e) =
      fun e => (e.1, unhit e.1 e.2) := by
    funext e
    unfold unhit
    split <;> rfl
  have hTick : c.ageTick.tbl 0 i = look 0 ((c.removeMacs fun v => !bit v 125).esw.tables.map fun e => (e.1, unhit e.1 e.2)) i := by
    rw [Chip.ageTick, bne_iff_ne.mpr hOn, Chip.when_true, Chip.tbl, hKey, ← hUnhit]
    rfl
  have hEntry : look 0 c.esw.tables i = c.tbl 0 i := by rw [Chip.tbl, hKey]
  rw [hTick, look_map _ _ _ _ (by simp [unhit, macDynamic_zero]), Chip.removeMacs, Chip.updEsw, look_filter _ _ _ _ hForm, hEntry, unhit]
  cases hDyn : macDynamic (c.tbl 0 i).toNat
  · simp [hDyn]
  · cases bit (c.tbl 0 i).toNat 125
    · simp [hi, macDynamic_zero]
    · simp [hDyn, hi]

end

/-! ### What each command does -/

section
variable (c : Chip) (v : W32) (w : Who)

theorem Chip.status_ok : (c.tblDone stOK).get ESW_TBL_CMD_STATUS = stOK := c.status_tblDone (by decide)

theorem Chip.read_effect {k i : Nat} (hi : i < tblSize k) :
    ((c.tblTaken v).tblRun w 1 k i).rd ESW_TBL_DATA = c.tbl k i ∧ ((c.tblTaken v).tblRun w 1 k i).get ESW_TBL_CMD_STATUS = stOK ∧
    ((c.tblTaken v).tblRun w 1 k i).esw = c.esw ∧
    Chip.frame [] (among [ESW_TBL_DATA.addr, ESW_TBL_CMD.addr]) c ((c.tblTaken v).tblRun w 1 k i) := by
  rw [Chip.tblRun_read _ w i hi]
  refine ⟨?_, Chip.status_ok _, rfl, ?_⟩
  · rw [Chip.tblDone_ok, Chip.rd_set_ne _ _ (by decide), Chip.rd_wr_same, Chip.tbl_tblTaken]
  · exact Chip.frame_trans (Chip.frame_tblTaken c v _ (by simp [among])) (Chip.frame_trans (Chip.frame_wr _ _ _ (by simp [among]))
      (Chip.frame_set _ _ (f := ESW_TBL_CMD_STATUS) _ (by simp [among, ESW_TBL_CMD_STATUS])))

/-- A command that changes the tables and shows OK changes nothing else. -/
theorem Chip.frame_tables (g : EswBlk → EswBlk) :
    Chip.frame [.esw] (among [ESW_TBL_CMD.addr]) c (((c.tblTaken v).updEsw g).tblDone stOK) :=
  Chip.frame_trans (Chip.frame_tblTaken c v _ (by simp [among])) (Chip.frame_trans (Chip.frame_updEsw _ _ (by simp))
    (Chip.frame_set _ _ (f := ESW_TBL_CMD_STATUS) _ (by simp [among, ESW_TBL_CMD_STATUS])))

/-- An uncorrectable error in an entry (R189). -/
theorem Chip.tblEcc_effect {k i : Nat} (hi : i < tblSize k) : (c.tblEcc k i).tbl k i = 0 ∧ (c.tblEcc k i).pends 275 = true ∧
    (c.tblEcc k i).esw.frames = c.esw.frames := by
  have hEsw := Chip.raise_esw (c.setTbl k i 0) 275 (by decide)
  rw [Chip.tblEcc, decide_eq_true hi, Chip.when_true]
  refine ⟨?_, Chip.pends_raise _ _ (by decide), by rw [hEsw]; rfl⟩
  rw [Chip.tbl_of_esw _ k i hEsw, Chip.tbl_setTbl_same]

/-- What INSERT writes has the key's FID and address and is valid. -/
theorem inserted_fields (old data : W128) (fid addr : Nat) (hFid : fid < 2 ^ 12) (hAddr : addr < 2 ^ 48) :
    let x := (tblMerge 0 old (setBits (setBits (setBits data 127 127 1) 59 48 fid) 47 0 addr)).toNat
    bits x 59 48 = fid ∧ bits x 47 0 = addr ∧ bits x 127 127 = 1 := by
  dsimp only
  refine ⟨?_, ?_, ?_⟩
  · rw [bits_tblMerge_mac _ _ (by decide), bits_setBits_ne _ _ _ _ _ _ (by decide) (by decide) (by decide) (by decide),
      bits_setBits_same _ _ _ _ (by decide) (by decide), Nat.mod_eq_of_lt hFid]
  · rw [bits_tblMerge_mac _ _ (by decide), bits_setBits_same _ _ _ _ (by decide) (by decide), Nat.mod_eq_of_lt hAddr]
  · rw [bits_tblMerge_mac _ _ (by decide), bits_setBits_ne _ _ _ _ _ _ (by decide) (by decide) (by decide) (by decide),
      bits_setBits_ne _ _ _ _ _ _ (by decide) (by decide) (by decide) (by decide), bits_setBits_same _ _ _ _ (by decide) (by decide)]
    decide

/-- ESW_CTL as FLUSHDYN leaves it (R210). -/
theorem Chip.eswCtlWrite_flushes (hw : w.world = 1) : c.eswCtlWrite w (setBit v.toNat 1 true) =
    ((c.wrN ESW_CTL (setBit v.toNat 1 true &&& 0x00FFFF0D)).setB ESW_STAT_RUN (v.toNat.testBit 0)).removeMacs fun _ => true := by
  have hRun : bit (setBit v.toNat 1 true) 0 = v.toNat.testBit 0 := bit_setBit_ne _ (by decide)
  rw [Chip.eswCtlWrite, hw, hRun, bit_setBit_same]
  rfl

theorem Chip.flushdyn_effect (hw : w.world = 1) {i : Nat} (hi : i < 16384) :
    macDynamic ((c.eswCtlWrite w (setBit v.toNat 1 true)).tbl 0 i).toNat = false ∧
    (c.eswCtlWrite w (setBit v.toNat 1 true)).flag ESW_STAT_RUN = v.toNat.testBit 0 ∧
    (c.eswCtlWrite w (setBit v.toNat 1 true)).flag ESW_CTL_EN = v.toNat.testBit 0 ∧
    Chip.frame [.esw] (among [ESW_CTL.addr, ESW_STAT.addr]) c (c.eswCtlWrite w (setBit v.toNat 1 true)) := by
  have hBit : (setBit v.toNat 1 true).testBit 0 = v.toNat.testBit 0 := bit_setBit_ne _ (by decide)
  rw [c.eswCtlWrite_flushes v w hw]
  refine ⟨Chip.macDynamic_removeMacs _ hi, ?_, ?_, ?_⟩
  · rw [Chip.removeMacs, Chip.updEsw_flag, Chip.flag_setB_same _ _ _ (RFld.ok_of rfl)]
  · rw [Chip.removeMacs, Chip.updEsw_flag, Chip.setB, Chip.flag_eq_of_get (Chip.get_set_reg_ne _ _ (by decide)),
      Chip.flag_wrN_bit (r := ESW_CTL) (g := ESW_CTL_EN) (i := 0) _ _ rfl rfl rfl (by decide), Nat.testBit_and, hBit]
    simp
  · exact Chip.frame_trans (Chip.frame_wr _ _ _ (by simp [among])) (Chip.frame_trans
      (Chip.frame_set _ _ (f := ESW_STAT_RUN) _ (by simp [among, ESW_STAT_RUN])) (Chip.frame_updEsw _ _ (by simp)))

end

/-- A table command of W1 completes as what it does to the module that took its table and index. -/
theorem Runs.of_tblRun {s : State} {a : Agent} {v : W32} {x : Instr} {op : Nat} {p : State → Prop}
    (he : exec x s = s.by a fun w c => c.tblWrite w (withOp v.toNat op)) (hAdmits : s.chip.admits a = true)
    (hWorld : s.chip.worldOfAgent a = 1) (ho : op < 7) (ht : bits v.toNat 27 24 < 8)
    (hp : p { s with chip := (s.chip.tblTaken v).tblRun (s.chip.who a) op (bits v.toNat 27 24) (bits v.toNat 13 0) }) : Runs x s p :=
  Runs.by he hAdmits (by rwa [s.chip.tblWrite_runs v hWorld ho ht])

/-- Settles O31: a table command takes its table and index, then reads or writes the tables; flushing and ageing drop entries of the MAC
table. -/
theorem switchTables : Obligations.SwitchTables := by
  intro s
  refine ⟨?_, ?_, ?_, ?_, ?_, ?_, ?_, ?_, ?_, ?_⟩
  · intro a v k i hAdmits hWorld hk hi hTable hIndex
    refine Runs.of_tblRun rfl hAdmits hWorld (by decide) (by omega) ?_
    rw [hk, hi]
    obtain ⟨hData, hStatus, -, hFrame⟩ := s.chip.read_effect v (s.chip.who a) hIndex
    exact ⟨hData, hStatus, State.frame_chip hFrame⟩
  · intro a v k i hAdmits hWorld hk hi hTable hIndex
    refine Runs.by rfl hAdmits ?_
    have hWho : ((s.chip.who a).world == 1) = true := beq_iff_eq.mpr hWorld
    simp only [hk, hi, hWho, Bool.and_self, Chip.when_true]
    obtain ⟨hGone, hPends, hFrames⟩ := s.chip.tblEcc_effect hIndex
    rw [Chip.tblWrite_runs _ v hWorld (by decide) (by omega), hk, hi]
    obtain ⟨hData, -, hEsw, hFrame⟩ := (s.chip.tblEcc k i).read_effect v (s.chip.who a) hIndex
    refine ⟨?_, ?_, ?_, ?_⟩
    · rw [Chip.tbl_of_esw _ k i hEsw, hGone]
    · rw [hData, hGone]
    · exact (Chip.flag_eq_of_get (Chip.get_of_frame hFrame (by simp [among, EVR_ST_PEND, EVR_ST, ESW_TBL_DATA, ESW_TBL_CMD]))).trans hPends
    · rw [hEsw, hFrames]
  · intro a v k i hAdmits hWorld hk hi hTable hIndex hReserved hPorts
    refine Runs.of_tblRun rfl hAdmits hWorld (by decide) (by omega) ?_
    have hData : ESW_TBL_DATA.addr ≠ ESW_TBL_CMD.addr := by decide
    rw [hk, hi, Chip.tblRun_write _ _ _ hIndex (by rwa [Chip.rdN_tblTaken _ _ hData]) (by simpa using hPorts),
      Chip.rd_tblTaken _ _ hData, Chip.tbl_tblTaken]
    exact ⟨Chip.tbl_setTbl_same _ _ _ _, Chip.status_ok _, State.frame_chip (Chip.frame_tables _ v _)⟩
  · intro a v j hAdmits hWorld hk hFound
    refine Runs.of_tblRun rfl hAdmits hWorld (by decide) (by omega) ?_
    have hKey := s.chip.rdN_tblTaken v (r := ESW_TBL_KEY) (by decide)
    rw [hk, Chip.tblRun_lookup_found _ _ _ rfl rfl (by rw [hKey]; exact hFound)]
    exact ⟨Chip.index_tblDone _ (bucketEntry_lt hFound), Chip.status_ok _⟩
  · intro a v hAdmits hWorld hk hFound
    refine Runs.of_tblRun rfl hAdmits hWorld (by decide) (by omega) ?_
    have hKey := s.chip.rdN_tblTaken v (r := ESW_TBL_KEY) (by decide)
    rw [hk, Chip.tblRun_lookup_none _ _ _ rfl rfl (by rw [hKey]; exact hFound)]
    exact ⟨Chip.status_tblDone _ (by decide), Chip.pends_tblDone _ (by decide)⟩
  · intro a v j hAdmits hWorld hk hFound hFree hReserved
    refine Runs.of_tblRun rfl hAdmits hWorld (by decide) (by omega) ?_
    have hKey := s.chip.rdN_tblTaken v (r := ESW_TBL_KEY) (by decide)
    have hData := s.chip.rd_tblTaken v (r := ESW_TBL_DATA) (by decide)
    rw [hk, Chip.tblRun_insert_free _ _ _ rfl rfl rfl (by rw [hKey]; exact hFound) (by rw [hKey]; exact hFree)
      (by rw [hKey, hData]; exact hReserved), hKey, hData]
    have hEntry := Chip.tbl_setTbl_same (s.chip.tblTaken v) 0 j
    obtain ⟨hFid, hAddr, hValid⟩ := inserted_fields (s.chip.tbl 0 j) (s.chip.rd ESW_TBL_DATA) _ _
      (Nat.mod_lt (s.chip.rdN ESW_TBL_KEY >>> 48) (Nat.two_pow_pos 12)) (Nat.mod_lt (s.chip.rdN ESW_TBL_KEY >>> 0) (Nat.two_pow_pos 48))
    refine ⟨?_, ?_, ?_, Chip.index_tblDone _ (bucketEntry_lt hFree), Chip.status_ok _⟩
    · exact (congrArg (fun x : W128 => bits x.toNat 59 48) (hEntry _)).trans hFid
    · exact (congrArg (fun x : W128 => bits x.toNat 47 0) (hEntry _)).trans hAddr
    · exact (congrArg (fun x : W128 => bits x.toNat 127 127) (hEntry _)).trans hValid
  · intro a v j hAdmits hWorld hk hFound
    refine Runs.of_tblRun rfl hAdmits hWorld (by decide) (by omega) ?_
    have hKey := s.chip.rdN_tblTaken v (r := ESW_TBL_KEY) (by decide)
    rw [hk, Chip.tblRun_delete_found _ _ _ rfl rfl (by rw [hKey]; exact hFound)]
    exact ⟨Chip.tbl_setTbl_same _ _ _ _, Chip.status_ok _⟩
  · intro a v i hAdmits hWorld hTable hPort hAny
    refine Runs.of_tblRun rfl hAdmits hWorld (by decide) hTable ?_
    have hKey := s.chip.rdN_tblTaken v (r := ESW_TBL_KEY) (by decide)
    rw [Chip.tblRun_flush_all _ _ _ _ (by rwa [hKey]) (by rwa [hKey])]
    exact ⟨Chip.macDynamic_removeMacs (s.chip.tblTaken v) i.isLt, Chip.status_ok _, State.frame_chip (Chip.frame_tables _ v _)⟩
  · intro a v i hAdmits hWorld
    refine Runs.by rfl hAdmits ?_
    obtain ⟨hNone, hRun, hEn, hFrame⟩ := s.chip.flushdyn_effect v _ hWorld i.isLt
    exact ⟨hNone, hRun, hEn, State.frame_chip hFrame⟩
  · intro i hZone hOn hForm
    refine Runs.onZone rfl hZone ?_
    have hAged := s.chip.tbl_ageTick i.isLt hOn hForm
    refine ⟨fun hDyn => by rw [hAged, if_pos hDyn]; rfl, fun hDyn => by rw [hAged, hDyn]; rfl, State.frame_chip ?_⟩
    exact Chip.frame_when _ (Chip.frame_trans (Chip.frame_updEsw _ _ (by simp)) (Chip.frame_updEsw _ _ (by simp)))

end Sys2Proof.Machine
end

section
/-! SUPPORT. What the switch's work on frames and its DMA leave alone (R189 to R209): the counters of receptions and transmissions, the
status of a port beside STOMP and DROP, pending events, the sequencer, and what the host queues have fetched. -/

namespace Sys2Proof.Machine

/-! ### Fields that are kept -/

/-- A field of a port that discarding a copy leaves alone: of its status beside STOMP and DROP, or its counters of good and bad
receptions and of transmissions. -/
def RFld.portField (g : RFld) : Prop :=
  g.okb = true ∧ ∃ p < 24, g.reg = ESW_P_STAT p ∧ (g.hi < 1 ∨ 1 < g.lo ∧ g.hi < 3 ∨ 3 < g.lo) ∨ ∃ i < 3, g.reg = ESW_P_CNT p i

/-- The addresses of those registers, and of the event router's states. -/
def countedAddr (a : Nat) : Prop :=
  (0x30090000 ≤ a ∧ a < 0x30096000 ∧ (a % 0x400 = 4 ∨ 0x80 ≤ a % 0x400 ∧ a % 0x400 < 0x8C)) ∨
  (0x30258000 ≤ a ∧ a < 0x30260000 ∧ a % 0x20 = 4)

/-- A field whose write leaves the kept fields and PEND alone: of another register, or STOMP, DROP or a counter of an event. -/
def RFld.passing (f : RFld) : Prop :=
  f.okb = true ∧ (¬ countedAddr f.reg.addr ∨ f.reg.rst = 0 ∧ f.hi < 31 ∧
    (0x30258000 ≤ f.reg.addr ∨ f.reg.addr % 0x400 = 4 ∧ f.lo = f.hi ∧ (f.hi = 1 ∨ f.hi = 3)))

theorem RFld.passing_of_place {f : RFld} (hf : f.okb = true) (h : ¬ countedAddr f.reg.addr) : f.passing := ⟨hf, Or.inl h⟩

theorem Reg.eq_of_addr {r q : Reg} (ha : r.addr = q.addr) (hr : r.rst = q.rst) : r = q := by
  cases r; cases q; simp_all

theorem RFld.portField_apart {f g : RFld} (hf : f.passing) (hg : g.portField) : f.apart g := by
  obtain ⟨-, hPlace⟩ := hf
  obtain ⟨-, p, hp, hReg⟩ := hg
  by_cases ha : g.reg.addr = f.reg.addr
  · rcases hReg with ⟨hStat, hBits⟩ | ⟨i, hi, hCnt⟩
    · have hAddr : f.reg.addr = 0x30090004 + 0x400 * p := by rw [← ha, hStat]; rfl
      rcases hPlace with hOther | ⟨hRst, -, hFar | ⟨-, hOne, hBit⟩⟩
      · exact absurd (Or.inl (by omega)) hOther
      · omega
      · exact Or.inr ⟨Reg.eq_of_addr ha (by rw [hStat, hRst]; rfl), by omega⟩
    · have hAddr : f.reg.addr = 0x30090080 + 0x400 * p + 4 * i := by rw [← ha, hCnt]; rfl
      rcases hPlace with hOther | ⟨-, -, hFar | ⟨hMod, -⟩⟩
      · exact absurd (Or.inl (by omega)) hOther
      · omega
      · omega
  · exact Or.inl ha

theorem RFld.pend_apart {f : RFld} (hf : f.passing) {n : Nat} (hn : n < 1024) : f.apart (EVR_ST_PEND n) := by
  obtain ⟨-, hPlace⟩ := hf
  by_cases ha : (EVR_ST_PEND n).reg.addr = f.reg.addr
  · have hAddr : f.reg.addr = 0x30258004 + 0x20 * n := by rw [← ha]; rfl
    rcases hPlace with hOther | ⟨hRst, hBits, -⟩
    · exact absurd (Or.inr (by omega)) hOther
    · exact Or.inr ⟨Reg.eq_of_addr ha (by rw [hRst]; rfl), Or.inr hBits⟩
  · exact Or.inl ha

theorem RFld.portField_place {g : RFld} (hg : g.portField) : g.reg.addr < 0x30096000 ∧ countedAddr g.reg.addr := by
  obtain ⟨-, p, hp, ⟨hStat, -⟩ | ⟨i, hi, hCnt⟩⟩ := hg
  · rw [hStat]
    simp only [countedAddr, ESW_P_STAT]
    omega
  · rw [hCnt]
    simp only [countedAddr, ESW_P_CNT]
    omega

/-! ### PEND of any event -/

section
variable (c : Chip)

theorem Chip.flag_eq_bit (r : Reg) (i : Nat) : c.flag ⟨r, i, i⟩ = (c.rd r).getLsbD i := by
  rw [Chip.flag, Chip.get, bits_bit, b2n_ne_zero, BitVec.testBit_toNat]

/-- A bit that is set in the word of an event's group clears no PEND, whichever register has the group's address. -/
theorem Chip.pends_set_group {n : Nat} (k i : Nat) (h : c.pends n = true) :
    (c.set (EVR_PEND_PEND k) (setBit (c.get (EVR_PEND_PEND k)) i true)).pends n = true := by
  by_cases ha : (EVR_ST n).addr = (EVR_PEND k).addr
  · have hReg : EVR_ST n = EVR_PEND k := Reg.eq_of_addr ha rfl
    have hPend : EVR_ST_PEND n = ⟨EVR_PEND k, 31, 31⟩ := by rw [EVR_ST_PEND, hReg]
    rw [Chip.pends, hPend, Chip.flag_eq_bit] at h ⊢
    have hWord : (bits (c.rd (EVR_PEND k)).toNat 31 0).testBit 31 = true := by
      rw [bits_testBit, BitVec.testBit_toNat]
      simpa using h
    rw [Chip.set, Chip.get, EVR_PEND_PEND, Chip.rd_wr_same, setBits_getLsbD _ _ _ _ _ (show 31 < 128 by decide) (show 0 ≤ 31 by decide)]
    simp [setBit, Nat.testBit_or, hWord]
  · rw [Chip.pends, Chip.flag_eq_of_get (Chip.get_set_reg_ne c _ ha), ← Chip.pends, h]

theorem Chip.pends_setPend_of_pends (m : Nat) {n : Nat} (h : c.pends n = true) : (c.setPend m true).pends n = true := by
  refine Chip.pends_set_group _ _ _ ?_
  by_cases hm : m = n
  · rw [hm]
    exact Chip.flag_setB_same c _ true (RFld.ok_of rfl)
  · exact (Chip.flag_eq_of_get (Chip.get_set_reg_ne c _ (by simp [EVR_ST_PEND, EVR_ST]; omega))).trans h

end

/-! ### Handling frames -/

/-- What a port transmits and receives, what the host queues have fetched and which triggered frames wait. -/
def EswBlk.handled (b : EswBlk) : NMap Nat × NMap (Option HostFrame) × NMap (Option Nat) × NMap (Option Nat) :=
  (b.txFetch, b.trigWait, b.receiving, b.sending)

/-- From `c` to `d` the switch has handled frames; `idle` says that it started none: a port that neither receives nor transmits does
not start to. -/
structure Chip.Handles (idle : Bool) (c d : Chip) : Prop where
  port : ∀ g : RFld, g.portField → d.get g = c.get g
  pend : ∀ n < 1024, c.pends n = true → d.pends n = true
  seq : d.seq = c.seq
  fetch : d.esw.txFetch = c.esw.txFetch
  trig : d.esw.trigWait = c.esw.trigWait
  recv : idle = true → ∀ p, look none c.esw.receiving p = none → look none d.esw.receiving p = none
  send : idle = true → ∀ p, c.sendingAt p = none → d.sendingAt p = none

namespace Chip.Handles

section
variable {q : Bool} {c d e : Chip}

theorem refl (q : Bool) (c : Chip) : Chip.Handles q c c :=
  ⟨fun _ _ => rfl, fun _ _ h => h, rfl, rfl, rfl, fun _ _ h => h, fun _ _ h => h⟩

theorem trans (h : Chip.Handles q c d) (k : Chip.Handles q d e) : Chip.Handles q c e where
  port g hg := (k.port g hg).trans (h.port g hg)
  pend n hn hp := k.pend n hn (h.pend n hn hp)
  seq := k.seq.trans h.seq
  fetch := k.fetch.trans h.fetch
  trig := k.trig.trans h.trig
  recv hq p hp := k.recv hq p (h.recv hq p hp)
  send hq p hp := k.send hq p (h.send hq p hp)

/-- A change beside the sequencer, of registers that keeps those that are kept, and of the switch that keeps what it handles. -/
theorem of_kept (h : Chip.Handles q c d) (hPort : ∀ g : RFld, g.portField → e.get g = d.get g)
    (hPend : ∀ n < 1024, d.pends n = true → e.pends n = true) (hs : e.seq = d.seq) (he : e.esw.handled = d.esw.handled) :
    Chip.Handles q c e := by
  simp only [EswBlk.handled, Prod.mk.injEq] at he
  obtain ⟨hFetch, hTrig, hRecv, hSend⟩ := he
  exact h.trans ⟨hPort, hPend, hs, hFetch, hTrig, fun _ p hp => by rw [hRecv, hp], fun _ p hp => by rwa [Chip.sendingAt, hSend]⟩

theorem of_regs (h : Chip.Handles q c d) (hr : e.regs = d.regs) (hs : e.seq = d.seq) (he : e.esw.handled = d.esw.handled) :
    Chip.Handles q c e := by
  have hGet (g : RFld) : e.get g = d.get g := by simp only [Chip.get, Chip.rd, hr]
  exact h.of_kept (fun g _ => hGet g) (fun n _ hp => by rwa [Chip.pends, Chip.flag_eq_of_get (hGet _)]) hs he

theorem set (h : Chip.Handles q c d) {f : RFld} (x : Nat) (hf : f.passing) : Chip.Handles q c (d.set f x) := by
  have hOk := RFld.ok_of hf.1
  refine h.of_kept (fun g hg => Chip.get_set_ne d x hOk (RFld.ok_of hg.1) (RFld.portField_apart hf hg)) (fun n hn hp => ?_) rfl rfl
  rwa [Chip.pends, Chip.flag_eq_of_get (Chip.get_set_ne d x hOk (RFld.ok_of rfl) (RFld.pend_apart hf hn))]

/-- A write of a whole register that holds none of the kept fields. -/
theorem wr (h : Chip.Handles q c d) {r : Reg} (v : W128) (hr : ¬ countedAddr r.addr) : Chip.Handles q c (d.wr r v) := by
  refine h.of_kept (fun g hg => Chip.get_wr_ne d v ?_) (fun n hn hp => ?_) rfl rfl
  · obtain ⟨-, hPlace⟩ := RFld.portField_place hg
    exact fun ha => hr (ha ▸ hPlace)
  · have hPlace : countedAddr (EVR_ST n).addr := by
      simp only [countedAddr, EVR_ST]
      omega
    rwa [Chip.pends, Chip.flag_eq_of_get (Chip.get_wr_ne d v fun ha => hr (ha ▸ hPlace))]

theorem updEsw (h : Chip.Handles q c d) (u : EswBlk → EswBlk) (hu : (u d.esw).handled = d.esw.handled) :
    Chip.Handles q c (d.updEsw u) := h.of_regs rfl rfl hu

theorem when (h : Chip.Handles q c d) (b : Bool) {u : Chip → Chip} (hu : Chip.Handles q c (u d)) : Chip.Handles q c (d.when b u) := by
  cases b
  · exact h
  · exact hu

theorem ite {p : Prop} [Decidable p] (h : Chip.Handles q c d) (k : Chip.Handles q c e) : Chip.Handles q c (if p then d else e) := by
  split
  · exact h
  · exact k

theorem forEach {α : Type} {u : α → Chip → Chip} (l : List α) (hu : ∀ a ∈ l, ∀ d, Chip.Handles q c d → Chip.Handles q c (u a d))
    (h : Chip.Handles q c d) : Chip.Handles q c (Machine.forEach l u d) := by
  induction l generalizing d with
  | nil => exact h
  | cons a l ih => exact ih (fun b hb => hu b (by simp [hb])) (hu a (by simp) d h)

/-! ### Events -/

theorem setPend (h : Chip.Handles q c d) (n : Nat) : Chip.Handles q c (d.setPend n true) := by
  refine h.of_kept (fun g hg => ?_) (fun m _ hm => d.pends_setPend_of_pends n hm) rfl rfl
  obtain ⟨hFar, -⟩ := RFld.portField_place hg
  rw [Chip.setPend]
  rw [Chip.get_set_reg_ne _ _ (by simp only [EVR_PEND_PEND, EVR_PEND]; omega), Chip.setB,
    Chip.get_set_reg_ne _ _ (by simp only [EVR_ST_PEND, EVR_ST]; omega)]

theorem msi (h : Chip.Handles q c d) (k f g i : Nat) : Chip.Handles q c (d.msi k f g i) := h.of_regs rfl rfl rfl

theorem vfVector (h : Chip.Handles q c d) {n v : Nat} (hn : n < 64) (hv : v < 64) : Chip.Handles q c (d.vfVector n v).1 := by
  have hPend : (VF_VEC_PEND n v).passing := RFld.passing_of_place rfl (by simp only [countedAddr, VF_VEC_PEND, VF_VEC]; omega)
  have hLost : (SFE_FN_CNT_LOST n).passing := RFld.passing_of_place rfl (by simp only [countedAddr, SFE_FN_CNT_LOST, SFE_FN_CNT]; omega)
  unfold Chip.vfVector
  dsimp only
  split
  · split
    · exact (h.set _ hLost).set _ hPend
    · exact (h.msi _ _ _ _).set _ hPend
  · exact h.set _ hPend

theorem raiseFuel (fuel : Nat) : ∀ (n : Nat) (d : Chip), Chip.Handles q c d → Chip.Handles q c (Machine.raiseFuel fuel n d) := by
  induction fuel with
  | zero => exact fun _ _ h => h
  | succ k ih =>
    intro n d h
    have hStat (f : RFld) (hf : f.okb = true) (hr : f.reg = EVR_ST n) (hb : decide (f.hi < 31) = true) : f.passing :=
      ⟨hf, Or.inr ⟨by rw [hr]; rfl, of_decide_eq_true hb, Or.inl (by rw [hr]; simp only [EVR_ST]; omega)⟩⟩
    have h0 := h.set (f := EVR_STAMP_FRC n) d.time.frc
      (RFld.passing_of_place rfl (by simp only [countedAddr, EVR_STAMP_FRC, EVR_STAMP]; omega))
    simp only [Machine.raiseFuel]
    generalize d.set (EVR_STAMP_FRC n) d.time.frc = d0 at h0
    split
    · exact h0.set _ (hStat _ rfl rfl rfl)
    · have h1 := h0.setPend n
      generalize d0.setPend n true = d1 at h1
      split
      · split
        · split
          · exact ih 541 _ ((h1.set _ (hStat _ rfl rfl rfl)).set _
              (RFld.passing_of_place rfl (by simp [countedAddr, EVR_STAT_LOST, EVR_STAT])))
          · exact h1.msi _ _ _ _
        · split
          · have h2 := h1.vfVector (d1.get_lt (EVR_RT_VFN n)) (Nat.mod_lt (d1.get (EVR_RT_IID n)) (by decide))
            split
            · exact ih 582 _ h2
            · exact h2
          · exact h1
      · exact h1

/-- An event is kept, whichever number it has. -/
theorem raise (h : Chip.Handles q c d) (n : Nat) : Chip.Handles q c (d.raise n) := raiseFuel 5 n d h

theorem raiseVector (h : Chip.Handles q c d) {n v : Nat} (hn : n < 64) (hv : v < 64) : Chip.Handles q c (d.raiseVector n v) := by
  have hVec := h.vfVector hn hv
  unfold Chip.raiseVector
  dsimp only
  split
  · exact hVec.raise 582
  · exact hVec

end

end Chip.Handles

end Sys2Proof.Machine
end

section
/-! SUPPORT. The switch's DMA (R206, R207, R209): the work a command leaves changes the memories, the rings and the mirror's numbers, and
no frame, queue or port. -/

namespace Sys2Proof.Machine

/-- The switch beside what its DMA changes: the write-backs awaited, the mirror's numbers and the work left. -/
def EswBlk.besideDma (b : EswBlk) : EswBlk := { b with txOpen := [], mirSeq := 0, mirAt := none, jobs := [] }

theorem EswBlk.handled_of_besideDma {a b : EswBlk} (h : a.besideDma = b.besideDma) : a.handled = b.handled := by
  change a.besideDma.handled = b.besideDma.handled
  rw [h]

/-- From `c` to `d` the switch's DMA, or a master's access to memory, has done its work. -/
structure Chip.Serves (c d : Chip) : Prop where
  handles : Chip.Handles true c d
  esw : d.esw.besideDma = c.esw.besideDma

/-- A tag of a master or of one of the 64 virtual functions. -/
def Tag.real (t : Tag) : Prop := ∀ f, t.vf = some f → f < 64

theorem Chip.unitTag_real (c : Chip) (m : Nat) : (c.unitTag m).real := by
  intro f hf
  cases hf

theorem Chip.pairFn_le (c : Chip) (q : Nat) : c.pairFn q ≤ 64 := by
  unfold Chip.pairFn
  cases h : c.holderFn 0 q with
  | none => exact Nat.le_refl 64
  | some f =>
    have := List.mem_range.mp (List.mem_of_find?_eq_some h)
    simp only [Option.getD_some]
    omega

theorem Chip.pairTag_real (c : Chip) (q : Nat) : (c.pairTag q).real := by
  intro f hf
  have hFn := c.pairFn_le q
  unfold Chip.pairTag Chip.fnTag at hf
  split at hf
  · cases hf
  · cases hf
    omega

namespace Chip.Serves

section
variable {c d : Chip}

theorem refl (c : Chip) : Chip.Serves c c := ⟨Handles.refl true c, rfl⟩

theorem trans {e : Chip} (h : Chip.Serves c d) (k : Chip.Serves d e) : Chip.Serves c e :=
  ⟨h.handles.trans k.handles, k.esw.trans h.esw⟩

theorem set (h : Chip.Serves c d) {f : RFld} (x : Nat) (hf : f.passing) : Chip.Serves c (d.set f x) := ⟨h.handles.set x hf, h.esw⟩

theorem wr (h : Chip.Serves c d) {r : Reg} (v : W128) (hr : ¬ countedAddr r.addr) : Chip.Serves c (d.wr r v) :=
  ⟨h.handles.wr v hr, h.esw⟩

theorem updEsw (h : Chip.Serves c d) (u : EswBlk → EswBlk) (hu : ∀ b, (u b).besideDma = b.besideDma) : Chip.Serves c (d.updEsw u) :=
  ⟨h.handles.updEsw u (EswBlk.handled_of_besideDma (hu _)), (hu _).trans h.esw⟩

theorem raise (h : Chip.Serves c d) {n : Nat} (hn : n < 1024) : Chip.Serves c (d.raise n) :=
  ⟨h.handles.raise n, by rw [Chip.raise_esw d n hn, h.esw]⟩

theorem of_regs (h : Chip.Serves c d) {e : Chip} (hr : e.regs = d.regs) (hs : e.seq = d.seq) (he : e.esw.besideDma = d.esw.besideDma) :
    Chip.Serves c e := ⟨h.handles.of_regs hr hs (EswBlk.handled_of_besideDma he), he.trans h.esw⟩

theorem ite {p : Prop} [Decidable p] {s t : State} (h : Chip.Serves c s.chip) (k : Chip.Serves c t.chip) :
    Chip.Serves c (if p then s else t).chip := by
  split
  · exact h
  · exact k

theorem when (h : Chip.Serves c d) (b : Bool) {u : Chip → Chip} (hu : Chip.Serves c (u d)) : Chip.Serves c (d.when b u) := by
  cases b
  · exact h
  · exact hu

theorem esw_vfVector (d : Chip) (n v : Nat) : (d.vfVector n v).1.esw = d.esw := by
  unfold Chip.vfVector
  dsimp only
  split
  · split <;> rfl
  · rfl

theorem raiseVector (h : Chip.Serves c d) {n v : Nat} (hn : n < 64) (hv : v < 64) : Chip.Serves c (d.raiseVector n v) := by
  refine ⟨h.handles.raiseVector hn hv, ?_⟩
  rw [← h.esw]
  unfold Chip.raiseVector
  dsimp only
  split
  · rw [Chip.raise_esw _ _ (by decide), esw_vfVector]
  · rw [esw_vfVector]

/-! ### Accesses to memory -/

theorem passes (h : Chip.Serves c d) (t : Tag) (a n : Nat) (k : AccessKind) : Chip.Serves c (d.passes t a n k).2 := by
  unfold Chip.passes
  split
  · exact h
  · split
    · exact h.raise (by decide)
    · split
      · exact h.raise (by decide)
      · split
        · exact h.raise (by decide)
        · exact h

theorem translationFault (h : Chip.Serves c d) (t : Tag) {f : Nat} (ga : Nat) (hf : f < 64) :
    Chip.Serves c (d.translationFault t f ga) := by
  unfold Chip.translationFault
  exact (((h.wr _ (by simp [countedAddr, SFE_FAULT])).set _
    (RFld.passing_of_place rfl (by simp only [countedAddr, SFE_FN_CNT_FAULTS, SFE_FN_CNT]; omega))).set _
    (RFld.passing_of_place rfl (by simp only [countedAddr, VF_STAT_FAULT, VF_STAT]; omega))).raise (by decide)

end

section
variable {c : Chip} {s : State}

theorem logPage (h : Chip.Serves c s.chip) {f : Nat} (unit gpn : Nat) (hf : f < 64) : Chip.Serves c (s.logPage f unit gpn).chip := by
  have hLost : (SFE_FN_DSTAT_LOST f).passing := RFld.passing_of_place rfl (by simp only [countedAddr, SFE_FN_DSTAT_LOST, SFE_FN_DSTAT]; omega)
  have hOvf : (SFE_FN_DSTAT_OVF f).passing := RFld.passing_of_place rfl (by simp only [countedAddr, SFE_FN_DSTAT_OVF, SFE_FN_DSTAT]; omega)
  have hPi : (SFE_FN_DPI_PI f).passing := RFld.passing_of_place rfl (by simp only [countedAddr, SFE_FN_DPI_PI, SFE_FN_DPI]; omega)
  have hLogged (b : SfeBlk) : Chip.Serves c { s.chip with sfe := b } := h.of_regs rfl rfl rfl
  unfold State.logPage
  dsimp only
  refine ite h (ite ?_ (Serves.when ?_ _ (Serves.raise (n := 580) ?_ (by decide))))
  · exact (((hLogged _).set _ hLost).set _ hOvf).raise (by decide)
  · exact (hLogged _).set _ hPi
  · exact (hLogged _).set _ hPi

variable {t : Tag} (ht : t.real)
include ht

theorem translate (h : Chip.Serves c s.chip) (a : Nat) (w : Bool) : Chip.Serves c (s.translate t a w).2.chip := by
  unfold State.translate
  split
  · exact h
  · next f hf =>
    split
    · exact h.translationFault t a (ht f hf)
    · cases w
      · exact h
      · exact h.logPage _ _ (ht f hf)

theorem readPiece (h : Chip.Serves c s.chip) (a n : Nat) : Chip.Serves c (s.readPiece t a n).2.chip := by
  have hReach := translate ht h a false
  unfold State.readPiece
  split
  · next hEq => rw [hEq] at hReach; exact hReach
  · next hEq => rw [hEq] at hReach; exact hReach.passes _ _ _ _

theorem writePiece (h : Chip.Serves c s.chip) (a : Nat) (bs : List Byte) : Chip.Serves c (s.writePiece t a bs).2.chip := by
  have hReach := translate ht h a true
  unfold State.writePiece
  split
  · next hEq => rw [hEq] at hReach; exact hReach
  · next hEq =>
    rw [hEq] at hReach
    dsimp only
    split
    · exact hReach.passes _ _ _ _
    · exact hReach.passes _ _ _ _

theorem readPieces (l : List (Nat × Nat)) : ∀ {s : State}, Chip.Serves c s.chip → Chip.Serves c (State.readPieces l s t).2.chip := by
  induction l with
  | nil => exact fun h => h
  | cons x l ih =>
    intro s h
    have hPiece := readPiece ht h x.1 x.2
    unfold State.readPieces
    split
    · next hEq => rw [hEq] at hPiece; exact hPiece
    · next hEq =>
      rw [hEq] at hPiece
      have hRest := ih hPiece
      split
      · next hEq => rw [hEq] at hRest; exact hRest
      · next hEq => rw [hEq] at hRest; exact hRest

theorem writePieces (l : List (Nat × Nat)) : ∀ {s : State} (bs : List Byte), Chip.Serves c s.chip →
    Chip.Serves c (State.writePieces l s t bs).2.chip := by
  induction l with
  | nil => exact fun _ h => h
  | cons x l ih =>
    intro s bs h
    have hPiece := writePiece ht h x.1 (bs.take x.2)
    unfold State.writePieces
    split
    · next hEq => rw [hEq] at hPiece; exact hPiece
    · next hEq => rw [hEq] at hPiece; exact ih _ hPiece

theorem busRead (h : Chip.Serves c s.chip) (a n : Nat) : Chip.Serves c (s.busRead t a n).2.chip := readPieces ht _ h

theorem busWrite (h : Chip.Serves c s.chip) (a : Nat) (bs : List Byte) : Chip.Serves c (s.busWrite t a bs).2.chip := writePieces ht _ bs h

end

/-! ### The DMA's work -/

section
variable {c d : Chip} (h : Chip.Serves c d)
include h

theorem pairVector (q : Nat) (tx : Bool) : Chip.Serves c (d.pairVector q tx) := by
  unfold Chip.pairVector
  split
  · exact h
  · split
    · exact h
    · next f _ hf =>
      dsimp only
      split
      · exact h.when _ (h.raiseVector (by omega) (d.get_lt (VF_QPV_TXVEC f _)))
      · exact h.when _ (h.raiseVector (by omega) (d.get_lt (VF_QPV_RXVEC f _)))

theorem rxFull (q : Nat) : Chip.Serves c (d.rxFull q) :=
  ((h.set _ (RFld.passing_of_place rfl (by simp only [countedAddr, ESW_HQ_CNT_RXFULL, ESW_HQ_CNT]; omega))).set _
    (RFld.passing_of_place rfl (by simp [countedAddr, ESW_P_CNT_N, ESW_P_CNT]))).raise (by decide)

theorem mirrorLost : Chip.Serves c d.mirrorLost :=
  (h.set _ (RFld.passing_of_place rfl (by simp [countedAddr, ESW_MIR_DROP_N, ESW_MIR_DROP]))).raise (by decide)

theorem egressBytes (f : EswFrame) (p : Nat) : Chip.Serves c (d.egressBytes f p).2 := by
  unfold Chip.egressBytes
  split
  · exact h
  · dsimp only
    split
    · exact h
    · split
      · exact h
      · exact h.of_regs rfl rfl rfl

end

section
variable {c : Chip} {s : State} (h : Chip.Serves c s.chip)
include h

theorem txDone (q i status stamp : Nat) : Chip.Serves c (s.txDone q i status stamp).chip := by
  have hWrite := busWrite (s.chip.pairTag_real q) h (s.chip.get (ESW_HQ_TXBASE_A q) + 32 * i + 16)
    (leBytesOf 16 ((1 <<< 127) + (status <<< 64) + stamp % 2 ^ 64))
  unfold State.txDone
  dsimp only
  refine pairVector ?_ q true
  refine Serves.set ?_ _ (RFld.passing_of_place rfl (by simp only [countedAddr, ESW_HQ_TXCI_I, ESW_HQ_TXCI]; omega))
  exact (hWrite.when _ (hWrite.raise (by decide))).updEsw _ fun _ => rfl

theorem rxDeliver (f : EswFrame) : Chip.Serves c (s.rxDeliver f).chip := by
  have hBytes := h.egressBytes f 20
  unfold State.rxDeliver
  dsimp only
  split
  · exact hBytes.rxFull _
  · have hTag := (s.chip.egressBytes f 20).2.pairTag_real f.hostQueue
    have hRead := busRead (s := { s with chip := (s.chip.egressBytes f 20).2 }) hTag hBytes
      ((s.chip.egressBytes f 20).2.get (ESW_HQ_RXBASE_A f.hostQueue) + 32 * s.chip.get (ESW_HQ_RXCI_I f.hostQueue)) 16
    split
    · next hEq => rw [hEq] at hRead; exact hRead.rxFull _
    · next hEq =>
      rw [hEq] at hRead
      have hStored (a : Nat) (bs : List Byte) (a' : Nat) (bs' : List Byte) := busWrite hTag (busWrite hTag hRead a bs) a' bs'
      split
      · exact pairVector ((hStored _ _ _ _).set _
          (RFld.passing_of_place rfl (by simp only [countedAddr, ESW_HQ_RXCI_I, ESW_HQ_RXCI]; omega))) _ _
      · exact (hStored _ _ _ _).rxFull _

theorem mirrorWrite (f : EswFrame) (reason cause : Nat) : Chip.Serves c (s.mirrorWrite f reason cause).chip := by
  unfold State.mirrorWrite
  dsimp only
  refine ite h.mirrorLost (busWrite (Chip.unitTag_real _ 12) ?_ _ _)
  dsimp only
  exact (h.set (f := ESW_MIR_PI_I) _ (RFld.passing_of_place rfl (by simp [countedAddr, ESW_MIR_PI_I, ESW_MIR_PI]))).updEsw _ fun _ => rfl

theorem eswDo (j : EswJob) : Chip.Serves c (s.eswDo j).chip := by
  cases j with
  | done q i status stamp => exact h.txDone q i status stamp
  | deliver f => exact h.rxDeliver f
  | mirror f reason cause => exact h.mirrorWrite f reason cause

omit h in
theorem foldl_eswDo (l : List EswJob) : ∀ {s : State}, Chip.Serves c s.chip → Chip.Serves c (l.foldl (fun s j => s.eswDo j) s).chip := by
  induction l with
  | nil => exact fun h => h
  | cons j l ih => exact fun h => ih (h.eswDo j)

/-- The DMA work that a command left is carried out. -/
theorem eswFlush : Chip.Serves c s.eswFlush.chip := by
  refine foldl_eswDo _ ?_
  dsimp only
  exact h.updEsw _ fun _ => rfl

end

end Chip.Serves

end Sys2Proof.Machine
end

section
/-! SUPPORT. Discarding frames (R190 to R195, R201): what the switch's operations on frames keep, and the queues and transmissions they
leave. -/

namespace Sys2Proof.Machine

namespace Chip.Handles

section
variable {q : Bool} {c d : Chip} (h : Chip.Handles q c d)
include h

/-! ### Registers and events -/

/-- A counter of a port other than those of receptions and transmissions. -/
theorem portCount (p : Nat) {i : Nat} (hi : 3 ≤ i ∧ i ≤ 8) : Chip.Handles q c (d.portCount p i) :=
  h.set _ (RFld.passing_of_place rfl (by simp only [countedAddr, ESW_P_CNT_N, ESW_P_CNT]; omega))

theorem stickPort (p : Nat) {f : RFld} (hf : f = ESW_P_STAT_DROP p ∨ f = ESW_P_STAT_STOMP p) : Chip.Handles q c (d.stick f) := by
  refine h.set _ ?_
  rcases hf with rfl | rfl
  · exact ⟨rfl, Or.inr ⟨rfl, (by decide : 1 < 31), Or.inr ⟨by simp only [ESW_P_STAT_DROP, ESW_P_STAT]; omega, rfl, Or.inl rfl⟩⟩⟩
  · exact ⟨rfl, Or.inr ⟨rfl, (by decide : 3 < 31), Or.inr ⟨by simp only [ESW_P_STAT_STOMP, ESW_P_STAT]; omega, rfl, Or.inr rfl⟩⟩⟩

theorem copyDropped (p : Nat) : Chip.Handles q c (d.copyDropped p) := (h.stickPort p (Or.inl rfl)).raise _

theorem giveCells (n : Nat) : Chip.Handles q c (d.giveCells n) :=
  h.set _ (RFld.passing_of_place rfl (by simp [countedAddr, ESW_STAT_FREE, ESW_STAT]))

theorem tblCount (t i lo : Nat) : Chip.Handles q c (d.tblCount t i lo) := h.of_regs rfl rfl rfl

theorem updFrame (n : Nat) (g : EswFrame → EswFrame) : Chip.Handles q c (d.updFrame n g) := h.updEsw _ rfl

theorem setQueue (p k : Nat) (l : List Nat) : Chip.Handles q c (d.setQueue p k l) := h.updEsw _ rfl

theorem eswJob (j : EswJob) : Chip.Handles q c (d.eswJob j) := h.updEsw _ rfl

theorem drawn : Chip.Handles q c d.drawn := h.of_regs rfl rfl rfl

theorem runCredits (p : Nat) : Chip.Handles q c (d.runCredits p) := h.of_regs rfl rfl rfl

/-- A change of the switch in which no idle port starts to receive or transmit. -/
theorem shed (u : EswBlk → EswBlk) (hFetch : (u d.esw).txFetch = d.esw.txFetch) (hTrig : (u d.esw).trigWait = d.esw.trigWait)
    (hRecv : ∀ p, look none d.esw.receiving p = none → look none (u d.esw).receiving p = none)
    (hSend : ∀ p, look none d.esw.sending p = none → look none (u d.esw).sending p = none) : Chip.Handles q c (d.updEsw u) :=
  h.trans ⟨fun _ _ => rfl, fun _ _ hp => hp, rfl, hFetch, hTrig, fun _ => hRecv, fun _ => hSend⟩

omit h in
theorem look_put_none {m : NMap (Option Nat)} (a : Nat) {p : Nat} (hp : look none m p = none) : look none (put none m a none) p = none := by
  rw [look_put]
  split
  · rfl
  · exact hp

theorem stopSending (p : Nat) : Chip.Handles q c (d.setSending p none) :=
  h.shed _ rfl rfl (fun _ hp => hp) fun _ hp => look_put_none p hp

theorem stopReceiving (p : Nat) : Chip.Handles q c (d.updEsw fun b => { b with receiving := put none b.receiving p none }) :=
  h.shed _ rfl rfl (fun _ hp => look_put_none p hp) fun _ hp => hp

/-! ### Copies and frames -/

theorem captureDrop (f : EswFrame) (reason : Nat) : Chip.Handles q c (d.captureDrop f reason) := by
  unfold Chip.captureDrop
  split
  · exact h.drawn.eswJob _
  · exact h

theorem frameGone (f : EswFrame) (status : Nat) : Chip.Handles q c (d.frameGone f status) := by
  have hGone : Chip.Handles q c ((d.giveCells f.cells).updEsw fun b => { b with
      frames := b.frames.filter fun x => x.id != f.id
      receiving := if look none b.receiving f.ingress = some f.id then put none b.receiving f.ingress none else b.receiving }) := by
    refine (h.giveCells f.cells).shed _ rfl rfl (fun p hp => ?_) fun _ hp => hp
    dsimp only
    split
    · exact look_put_none _ hp
    · exact hp
  unfold Chip.frameGone
  dsimp only
  split
  · exact hGone.eswJob _
  · exact hGone

theorem finishCopy (p id : Nat) : Chip.Handles q c (d.finishCopy p id) := by
  have hErased := h.updFrame id fun f => { f with copies := f.copies.erase p, cut := f.cut.erase p }
  unfold Chip.finishCopy
  dsimp only
  split
  · split
    · exact hErased.frameGone _ _
    · exact hErased
  · exact hErased

theorem removeCopy (p k id : Nat) : Chip.Handles q c (d.removeCopy p k id) := by
  have hQueue := h.setQueue p k ((d.eswQueue p k).filter (· != id))
  unfold Chip.removeCopy
  dsimp only
  split
  · exact (hQueue.stopSending p).finishCopy p id
  · exact hQueue.finishCopy p id

theorem dropQueued (f : EswFrame) (p : Nat) : Chip.Handles q c (d.dropQueued f p) := (h.removeCopy p f.cls f.id).copyDropped p

theorem stomp (f : EswFrame) (p : Nat) : Chip.Handles q c (d.stomp f p) :=
  (((h.portCount p (by decide)).stickPort p (Or.inr rfl)).captureDrop f 5).updFrame _ _

theorem spoil (f : EswFrame) : Chip.Handles q c (d.spoil f) :=
  forEach _ (fun p _ _ k => (k.captureDrop f 4).dropQueued f p) (forEach _ (fun p _ _ k => k.stomp f p) h)

/-! ### Recovery (R201) -/

theorem recoveryPass (r n : Nat) : Chip.Handles q c (d.recoveryPass r n) := by
  refine Handles.tblCount ?_ 4 r 64
  exact h.updEsw _ rfl

omit h in
/-- The copies that wait for a number that has passed are discarded. -/
theorem discardWaiting (r : Nat) (l : List EswFrame) (h : Chip.Handles q c d) :
    Chip.Handles q c (l.foldl (fun c g => (c.tblCount 4 r 32).spoil g) d) :=
  forEach (u := fun g c => (c.tblCount 4 r 32).spoil g) l (fun g _ _ k => (k.tblCount 4 r 32).spoil g) h

theorem recoveryEnd (x : Nat × Nat) (good : Bool) : Chip.Handles q c (d.recoveryEnd x good) := by
  unfold Chip.recoveryEnd
  dsimp only
  split
  · exact discardWaiting _ _ (h.recoveryPass _ _)
  · split
    · exact h
    · next g _ _ =>
      have hNext := h.updFrame g.id fun g => { g with waits := false }
      split
      · exact discardWaiting _ _ (hNext.recoveryPass _ _)
      · exact hNext

/-! ### Mirroring and stamps (R203, R209) -/

theorem sample (p kind : Nat) : Chip.Handles q c (d.sample p kind).2 := h.of_regs rfl rfl rfl

theorem mirrorFrame (f : EswFrame) (p dir : Nat) : Chip.Handles q c (d.mirrorFrame f p dir) := by
  unfold Chip.mirrorFrame
  split
  · exact h
  · have hAll := h.when (u := fun c => c.eswJob (.mirror f dir 0))
      (d.flag (if dir = 0 then ESW_P_MIRCFG_IMIR p else ESW_P_MIRCFG_EMIR p)) (h.eswJob _)
    exact ite (when (hAll.sample p dir) _ ((hAll.sample p dir).eswJob _)) hAll

theorem stampOut (p : Nat) (f : EswFrame) (stamp : Nat) : Chip.Handles q c (d.stampOut p f stamp) := by
  unfold Chip.stampOut
  dsimp only
  split
  · exact h
  · split
    · exact h.raise 277
    · exact h.updEsw _ rfl

theorem updNmw (u : NmwBlk → NmwBlk) : Chip.Handles q c (d.updNmw u) := h.of_regs rfl rfl rfl

/-- A frame that validates a wake writes the wake's registers alone (R286). -/
theorem segFrame (n : Nat) : Chip.Handles q c (d.segFrame n) := by
  have hValidated : Chip.Handles q c ((d.updNmw fun b => { b with validated := true }).setB NMW_WAKESRC_VALIDATED true) :=
    Handles.set (f := NMW_WAKESRC_VALIDATED) (h.updNmw _) _
      (RFld.passing_of_place rfl (by simp [countedAddr, NMW_WAKESRC_VALIDATED, NMW_WAKESRC]))
  have hHold : Chip.Handles q c d.holdValidate := by
    unfold Chip.holdValidate
    dsimp only
    split
    · exact h
    · split
      · next code _ =>
        refine hValidated.set (f := NMW_SRC_CNT_CONSEC code) _ ⟨rfl, ?_⟩
        by_cases hFar : 0x30258000 ≤ (NMW_SRC_CNT code).addr
        · exact Or.inr ⟨rfl, (by decide : 3 < 31), Or.inl hFar⟩
        · exact Or.inl (by simp only [countedAddr, NMW_SRC_CNT_CONSEC, NMW_SRC_CNT] at hFar ⊢; omega)
      · exact hValidated
  refine h.when _ ?_
  split
  · split
    · exact h
    · exact hHold
  · exact hHold

end

end Chip.Handles

end Sys2Proof.Machine
end

section
/-! The frames of the switch (R185 to R198, R211): admission, tail, selection, end and links, and the statement about them. -/

namespace Sys2Proof.Machine

/-! ### Queues and transmissions -/

/-- The frames the switch holds, its queues and what its ports transmit. -/
def EswBlk.held (b : EswBlk) : List EswFrame × NMap (List Nat) × NMap (Option Nat) := (b.frames, b.queues, b.sending)

/-- The queues and what the ports transmit. -/
def EswBlk.lanes (b : EswBlk) : NMap (List Nat) × NMap (Option Nat) := (b.queues, b.sending)

theorem EswBlk.held_of_besideDma {a b : EswBlk} (h : a.besideDma = b.besideDma) : a.held = b.held := by
  change a.besideDma.held = b.besideDma.held
  rw [h]

theorem EswBlk.lanes_of_held {a b : EswBlk} (h : a.held = b.held) : a.lanes = b.lanes := congrArg Prod.snd h

section
variable {c d : Chip}

theorem Chip.frames_of_held (h : d.esw.held = c.esw.held) : d.esw.frames = c.esw.frames := congrArg Prod.fst h

theorem Chip.eswQueue_of_lanes (h : d.esw.lanes = c.esw.lanes) (p k : Nat) : d.eswQueue p k = c.eswQueue p k := by
  rw [Chip.eswQueue, show d.esw.queues = c.esw.queues from congrArg Prod.fst h, ← Chip.eswQueue]

theorem Chip.sendingAt_of_lanes (h : d.esw.lanes = c.esw.lanes) (p : Nat) : d.sendingAt p = c.sendingAt p := by
  rw [Chip.sendingAt, show d.esw.sending = c.esw.sending from congrArg Prod.snd h, ← Chip.sendingAt]

end

section
variable (c : Chip)

theorem Chip.held_mirrorFrame (f : EswFrame) (p dir : Nat) : (c.mirrorFrame f p dir).esw.held = c.esw.held := by
  have hJob (d : Chip) (b : Bool) (j : EswJob) : (d.when b fun c => c.eswJob j).esw.held = d.esw.held := by cases b <;> rfl
  have hSample (d : Chip) : (d.sample p dir).2.esw.held = d.esw.held := rfl
  unfold Chip.mirrorFrame
  dsimp only
  split
  · rfl
  · split
    · rw [apply_ite (fun d : Chip => d.esw.held), hJob, hSample, hJob, ite_self]
    · rw [apply_ite (fun d : Chip => d.esw.held), hJob, hSample, hJob, ite_self]

theorem Chip.held_stampOut (p : Nat) (f : EswFrame) (stamp : Nat) : (c.stampOut p f stamp).esw.held = c.esw.held := by
  unfold Chip.stampOut
  dsimp only
  split
  · rfl
  · split
    · rw [Chip.raise_esw _ _ (by decide)]
    · rfl

theorem Chip.esw_segFrame (n : Nat) : (c.segFrame n).esw = c.esw := by
  have hHold : c.holdValidate.esw = c.esw := by
    unfold Chip.holdValidate
    dsimp only
    split
    · rfl
    · split <;> rfl
  unfold Chip.segFrame Chip.when
  dsimp only
  split
  · split
    · split
      · rfl
      · exact hHold
    · exact hHold
  · rfl

theorem Chip.esw_captureDrop (f : EswFrame) (reason : Nat) : (c.captureDrop f reason).esw.held = c.esw.held := by
  unfold Chip.captureDrop
  split <;> rfl

theorem Chip.lanes_finishCopy (p id : Nat) : (c.finishCopy p id).esw.lanes = c.esw.lanes := by
  have hGone (d : Chip) (f : EswFrame) (st : Nat) : (d.frameGone f st).esw.lanes = d.esw.lanes := by
    unfold Chip.frameGone
    dsimp only
    split <;> rfl
  unfold Chip.finishCopy
  dsimp only
  split
  · split
    · exact hGone _ _ _
    · rfl
  · rfl

theorem Chip.eswQueue_setQueue (p k : Nat) (l : List Nat) {k' : Nat} (hk : k < 8) (hk' : k' < 8) (p' : Nat) :
    (c.setQueue p k l).eswQueue p' k' = if p' = p ∧ k' = k then l else c.eswQueue p' k' := by
  rw [Chip.eswQueue, Chip.setQueue, Chip.updEsw]
  dsimp only
  rw [look_put]
  refine if_congr ?_ rfl rfl
  omega

/-- The queue of a port's class without a copy that was removed. -/
theorem Chip.eswQueue_removeCopy_same (p k id : Nat) : (c.removeCopy p k id).eswQueue p k = (c.eswQueue p k).filter (· != id) := by
  have hQueue : (c.setQueue p k ((c.eswQueue p k).filter (· != id))).eswQueue p k = (c.eswQueue p k).filter (· != id) :=
    look_put_same _ _ _ _
  unfold Chip.removeCopy
  rw [Chip.eswQueue_of_lanes (Chip.lanes_finishCopy _ _ _)]
  split
  · exact hQueue
  · exact hQueue

/-- A removed copy leaves the other queues of its port. -/
theorem Chip.eswQueue_removeCopy_ne (p id : Nat) {k k' : Nat} (hk : k < 8) (hk' : k' < 8) (hne : k' ≠ k) :
    (c.removeCopy p k id).eswQueue p k' = c.eswQueue p k' := by
  have hQueue : (c.setQueue p k ((c.eswQueue p k).filter (· != id))).eswQueue p k' = c.eswQueue p k' := by
    rw [Chip.eswQueue_setQueue _ _ _ _ hk hk', if_neg (by omega)]
  unfold Chip.removeCopy
  rw [Chip.eswQueue_of_lanes (Chip.lanes_finishCopy _ _ _)]
  split
  · exact hQueue
  · exact hQueue

@[simp] theorem Chip.sendingAt_setSending (p : Nat) (x : Option Nat) : (c.setSending p x).sendingAt p = x := look_put_same _ _ _ _

theorem Chip.sendingAt_removeCopy (p k id : Nat) (h : c.sendingAt p = some id) : (c.removeCopy p k id).sendingAt p = none := by
  have hSending : (c.setQueue p k ((c.eswQueue p k).filter (· != id))).sendingAt p = some id := h
  unfold Chip.removeCopy
  rw [Chip.sendingAt_of_lanes (Chip.lanes_finishCopy _ _ _), if_pos hSending, Chip.sendingAt_setSending]

end

/-! ### A counter read after the switch has gone on -/

section
variable {c d : Chip} {q : Bool}

/-- A counter of receptions or transmissions of port `p`. -/
theorem portField_cnt {p i : Nat} (hp : p < 24) (hi : i < 3) : (ESW_P_CNT_N p i).portField :=
  ⟨rfl, p, hp, Or.inr ⟨i, hi, rfl⟩⟩

theorem portField_stat {p : Nat} (hp : p < 24) {g : RFld} (hr : g.reg = ESW_P_STAT p) (hg : g.okb = true)
    (hb : g.hi < 1 ∨ 1 < g.lo ∧ g.hi < 3 ∨ 3 < g.lo) : g.portField := ⟨hg, p, hp, Or.inl ⟨hr, hb⟩⟩

/-- One counted, with nothing else of the counter before or after. -/
theorem Chip.Handles.counted {c₁ c₂ : Chip} (h : Chip.Handles q c c₁) {p i : Nat} (hp : p < 24) (hi : i < 3)
    (hc : c₂.get (ESW_P_CNT_N p i) = (c₁.portCount p i).get (ESW_P_CNT_N p i)) (k : Chip.Handles q c₂ d) :
    d.get (ESW_P_CNT_N p i) = min (c.get (ESW_P_CNT_N p i) + 1) 0xFFFFFFFF := by
  have hTop : (ESW_P_CNT_N p i).top = 0xFFFFFFFF := by simp [RFld.top, ESW_P_CNT_N]
  have hField := portField_cnt hp hi
  rw [k.port _ hField, hc, Chip.portCount, Chip.get_satInc_same _ rfl, h.port _ hField, hTop]

end

/-! ### The tail of a frame (R191, R194, R195) -/

section
variable (c : Chip) (p : Nat)

/-- A bad frame has ended on port `p`: counted, shown and its event raised. -/
def Chip.badReception (c : Chip) (p : Nat) : Chip := ((c.portCount p 1).stick (ESW_P_STAT_BADRX p)).raise (240 + p)

theorem Chip.frameTail_bad (symOk icvOk eccOk : Bool) (hEn : c.flag ESW_CTL_EN = true) (hPort : c.flag (ESW_P_CFG_EN p) = true) :
    ∃ d, Chip.Handles true c d ∧ look none d.esw.receiving p = none ∧
      Chip.Handles true (d.badReception p) (c.frameTail p false symOk icvOk eccOk) := by
  have hKey (d : Chip) (k : Chip.Handles true c d) : Chip.Handles true c d.keyRefused :=
    (k.set (f := KEY_CNT_REFUSED) _ (RFld.passing_of_place rfl (by simp [countedAddr, KEY_CNT_REFUSED, KEY_CNT]))).raise 739
  generalize hTail : c.frameTail p false symOk icvOk eccOk = t
  unfold Chip.frameTail at hTail
  rw [hEn, hPort, if_neg (by decide)] at hTail
  extract_lets f sec slot noKey icvBad c₁ giant c₂ c₃ bad c₄ c₅ at hTail
  have hNoted : Chip.Handles true c c₃ := by
    have h₁ : Chip.Handles true c c₁ := (Chip.Handles.refl true c).when _ (hKey _ (Chip.Handles.refl true c))
    have h₂ : Chip.Handles true c c₂ := h₁.when _ (h₁.raise _)
    exact h₂.when _ (h₂.raise _)
  have hLater := Chip.Handles.refl true c₅
  rw [if_pos (by simp [bad])] at hTail
  refine ⟨c₄, hNoted.stopReceiving p, look_put_same none c₃.esw.receiving p none, ?_⟩
  clear_value f
  cases f with
  | none => exact hTail ▸ hLater
  | some x =>
    have hSpoilt (y : EswFrame) := (hLater.updFrame y.id fun _ => y).spoil y
    dsimp only at hTail
    rw [← hTail]
    split
    · exact Chip.Handles.ite (hSpoilt _) ((hSpoilt _).recoveryEnd _ _)
    · exact hSpoilt _

/-- A good frame has ended on port `p`: counted, and a wake of its segment validated. -/
def Chip.goodReception (c : Chip) (p : Nat) : Chip :=
  ((c.updEsw fun b => { b with receiving := put none b.receiving p none }).portCount p 0).when (decide (p < 20)) fun c =>
    c.segFrame (20 + p)

/-- The tail of a frame without MACsec tag, stream filter, recovery function and copies cut through returns its unused cells. -/
def Chip.tailEnded (c : Chip) (f : EswFrame) : Chip :=
  ((c.giveCells (f.cells - cellsOf f.len)).updFrame f.id fun g =>
    { g with good := true, cells := min g.cells (cellsOf f.len) }).mirrorFrame { f with good := true, cells := cellsOf f.len } f.ingress 0

variable {c p} {id : Nat} {f : EswFrame} (hPlain : f.sec = none ∧ f.filter = none ∧ f.recovery = none ∧ f.cut = [])
include hPlain

theorem Chip.goodTail_plain (d : Chip) : d.goodTail f = d.tailEnded f := by
  obtain ⟨hSec, hFilter, hRecovery, hCut⟩ := hPlain
  simp [Chip.goodTail, Chip.tailEnded, hSec, hFilter, hRecovery, hCut, forEach]

theorem Chip.frameTail_good (hEn : c.flag ESW_CTL_EN = true) (hPort : c.flag (ESW_P_CFG_EN p) = true)
    (hRecv : look none c.esw.receiving p = some id) (hFrame : c.eswFrame id = some f) (hLen : f.len ≤ c.get (ESW_P_MAXFRM_N p)) :
    c.frameTail p true true true true = (c.goodReception p).tailEnded f := by
  have hGood := Chip.goodTail_plain hPlain (c.goodReception p)
  obtain ⟨hSec, -⟩ := hPlain
  have hGiant : ¬ c.get (ESW_P_MAXFRM_N p) < f.len := by omega
  rw [← hGood]
  simp [Chip.frameTail, hEn, hPort, hRecv, hFrame, hSec, hGiant, Chip.goodReception]

omit hPlain in
theorem Chip.frames_goodReception (c : Chip) (p : Nat) : (c.goodReception p).esw.frames = c.esw.frames := by
  unfold Chip.goodReception Chip.when
  split
  · dsimp only
    rw [Chip.esw_segFrame]
    rfl
  · rfl

omit hPlain in
theorem Chip.frames_tailEnded (d : Chip) : (d.tailEnded f).esw.frames = d.esw.frames.map fun g =>
    if g.id = f.id then { g with good := true, cells := min g.cells (cellsOf f.len) } else g :=
  Chip.frames_of_held (Chip.held_mirrorFrame _ _ _ _)

omit hPlain in
/-- Nothing is received where a good frame has ended, and it is counted once. -/
theorem Chip.tailEnded_effect (hp : p < 24) :
    ((c.goodReception p).tailEnded f).get (ESW_P_CNT_N p 0) = min (c.get (ESW_P_CNT_N p 0) + 1) 0xFFFFFFFF ∧
    look none ((c.goodReception p).tailEnded f).esw.receiving p = none := by
  have hStart := (Chip.Handles.refl true c).stopReceiving p
  have hLater := Chip.Handles.refl true ((c.updEsw fun b => { b with receiving := put none b.receiving p none }).portCount p 0)
  have hEnded := Chip.Handles.mirrorFrame (((hLater.when (decide (p < 20)) (hLater.segFrame (20 + p))).giveCells
    (f.cells - cellsOf f.len)).updFrame f.id fun g => { g with good := true, cells := min g.cells (cellsOf f.len) })
    { f with good := true, cells := cellsOf f.len } f.ingress 0
  exact ⟨hStart.counted hp (by decide) rfl hEnded, hEnded.recv rfl p (look_put_same none c.esw.receiving p none)⟩

end

/-! ### The end of a transmission (R190) -/

section
variable (c : Chip) (p stamp : Nat) (f : EswFrame)

/-- The transmission of a good copy has ended, and the copy is still queued. -/
def Chip.txStamped (c : Chip) (p stamp : Nat) (f : EswFrame) : Chip :=
  ((((c.runCredits p).updFrame f.id fun g => { g with outStamp := stamp }).portCount p 2).stampOut p { f with outStamp := stamp }
    stamp).mirrorFrame { f with outStamp := stamp } p 1

theorem Chip.txEnd_good {id : Nat} (hp : p < 20) (hSend : c.sendingAt p = some id) (hFrame : c.eswFrame id = some f)
    (hGood : f.good = true) (hStomp : p ∉ f.stomped) : c.txEnd p stamp = (c.txStamped p stamp f).removeCopy p f.cls f.id := by
  have h20 : (p == 20) = false := beq_eq_false_iff_ne.mpr (by omega)
  have h21 : p ≠ 21 := by omega
  have h22 : (p == 22) = false := beq_eq_false_iff_ne.mpr (by omega)
  simp [Chip.txEnd, hSend, hFrame, hGood, hStomp, hp, h20, h21, h22, Chip.txStamped]

theorem Chip.lanes_txStamped : (c.txStamped p stamp f).esw.lanes = c.esw.lanes := by
  rw [Chip.txStamped, EswBlk.lanes_of_held (Chip.held_mirrorFrame _ _ _ _), EswBlk.lanes_of_held (Chip.held_stampOut _ _ _ _)]
  rfl

theorem Chip.cnt_txEnded (hp : p < 24) : ((c.txStamped p stamp f).removeCopy p f.cls f.id).get (ESW_P_CNT_N p 2) =
    min (c.get (ESW_P_CNT_N p 2) + 1) 0xFFFFFFFF := by
  have hStart := ((Chip.Handles.refl true c).runCredits p).updFrame f.id fun g => { g with outStamp := stamp }
  exact hStart.counted hp (by decide) rfl
    ((((Chip.Handles.refl true _).stampOut p _ stamp).mirrorFrame _ p 1).removeCopy p f.cls f.id)

end

/-! ### Links (R193, R211) -/

section
variable (c : Chip) (p : Nat)

/-- A queued copy is lost with the link. -/
def Chip.linkDropped (p k id : Nat) (c : Chip) : Chip :=
  (((match c.eswFrame id with
    | some f => c.captureDrop f 4
    | none => c).removeCopy p k id).portCount p 4).copyDropped p

/-- Every queue of a port is emptied. -/
def Chip.linkEmptied (c : Chip) (p : Nat) : Chip :=
  forAll 8 (fun k c => forEach (c.eswQueue p k) (Chip.linkDropped p k) c) (c.setSending p none)

theorem Chip.linkDown_eq : c.linkDown p =
    (((((c.linkEmptied p).setB (ESW_P_STAT_LINK p) false).set (ESW_P_STAT_RATE p) 0).stick (ESW_P_STAT_LINKCHG p)).setB
      (ESW_PHY_STAT_LINK p) false).raise (192 + p) := rfl

theorem Chip.lanes_captured (id : Nat) : (match c.eswFrame id with
    | some f => c.captureDrop f 4
    | none => c).esw.lanes = c.esw.lanes := by
  split
  · exact EswBlk.lanes_of_held (Chip.esw_captureDrop _ _ _)
  · rfl

variable {p} (hp : p < 24)
include hp

theorem Chip.eswQueue_linkDropped_same (k id : Nat) : (Chip.linkDropped p k id c).eswQueue p k = (c.eswQueue p k).filter (· != id) := by
  rw [Chip.linkDropped, Chip.eswQueue, Chip.copyDropped, Chip.raise_esw _ _ (by omega), ← Chip.eswQueue_of_lanes (c.lanes_captured id),
    ← Chip.eswQueue_removeCopy_same]
  rfl

theorem Chip.eswQueue_linkDropped_ne (id : Nat) {k k' : Nat} (hk : k < 8) (hk' : k' < 8) (hne : k' ≠ k) :
    (Chip.linkDropped p k id c).eswQueue p k' = c.eswQueue p k' := by
  rw [Chip.linkDropped, Chip.eswQueue, Chip.copyDropped, Chip.raise_esw _ _ (by omega), ← Chip.eswQueue_of_lanes (c.lanes_captured id),
    ← Chip.eswQueue_removeCopy_ne _ p id hk hk' hne]
  rfl

/-- Of a queue whose copies are lost in turn none is left. -/
theorem Chip.eswQueue_linkDropped_all (k : Nat) (l : List Nat) (d : Chip) (h : ∀ id ∈ d.eswQueue p k, id ∈ l) :
    (forEach l (Chip.linkDropped p k) d).eswQueue p k = [] := by
  induction l generalizing d with
  | nil => exact List.eq_nil_iff_forall_not_mem.mpr fun id hid => absurd (h id hid) (by simp)
  | cons x l ih =>
    refine ih _ fun id hid => ?_
    rw [Chip.eswQueue_linkDropped_same d hp] at hid
    obtain ⟨hMem, hNe⟩ := List.mem_filter.mp hid
    exact (List.mem_cons.mp (h id hMem)).resolve_left (by simpa using hNe)

theorem Chip.eswQueue_linkDropped_others {k k' : Nat} (hk : k < 8) (hk' : k' < 8) (hne : k' ≠ k) (l : List Nat) (d : Chip) :
    (forEach l (Chip.linkDropped p k) d).eswQueue p k' = d.eswQueue p k' := by
  induction l generalizing d with
  | nil => rfl
  | cons x l ih => exact (ih _).trans (Chip.eswQueue_linkDropped_ne d hp x hk hk' hne)

theorem Chip.eswQueue_linkEmptied {k : Nat} (hk : k < 8) : (c.linkEmptied p).eswQueue p k = [] :=
  forAll_reaches (p := fun d : Chip => d.eswQueue p k = []) (q := fun _ => True) hk
    (fun d _ => Chip.eswQueue_linkDropped_all hp k _ d fun _ h => h) (fun _ _ _ _ _ => trivial)
    (fun _ hj hne d hd => (Chip.eswQueue_linkDropped_others hp hj hk (Ne.symm hne) _ d).trans hd) trivial

omit hp in
theorem Chip.sendingAt_linkEmptied : (c.linkEmptied p).sendingAt p = none := by
  have hDropped (k id : Nat) (d : Chip) (h : Chip.Handles true (c.setSending p none) d) :
      Chip.Handles true (c.setSending p none) (Chip.linkDropped p k id d) := by
    refine ((Chip.Handles.removeCopy ?_ p k id).portCount p (by decide)).copyDropped p
    split
    · exact h.captureDrop _ _
    · exact h
  have hEmptied : Chip.Handles true (c.setSending p none) (c.linkEmptied p) :=
    forAll_keeps (p := fun d => Chip.Handles true (c.setSending p none) d) 8
      (fun k _ d hd => Chip.Handles.forEach _ (fun id _ e he => hDropped k id e he) hd) (Chip.Handles.refl true _)
  exact hEmptied.send rfl p (Chip.sendingAt_setSending c p none)

end

/-! ### Admission (R185, R186, R191) -/

/-- What learning may do: refresh or add a MAC entry, or count a bucket that is full (R186). -/
theorem Chip.learnFrom_cases (c : Chip) (p vid : Nat) (bs : List Byte) : c.learnFrom p vid bs = c ∨
    (∃ i v, i < 16384 ∧ (c.learnFrom p vid bs = c.setTbl 0 i v ∨ c.learnFrom p vid bs = c.drawn.setTbl 0 i v)) ∨
    c.learnFrom p vid bs = (c.satInc ESW_CNT_LEARNFAIL).raise 267 := by
  unfold Chip.learnFrom Chip.learn
  dsimp only
  split
  · split
    · next i hFound =>
      split
      · exact Or.inl rfl
      · exact Or.inr (Or.inl ⟨i, _, bucketEntry_lt hFound, Or.inl rfl⟩)
    · split
      · next i hFree => exact Or.inr (Or.inl ⟨i, _, bucketEntry_lt hFree, Or.inr rfl⟩)
      · exact Or.inr (Or.inr rfl)
  · exact Or.inl rfl

/-- From `c` to `d` the switch has learned an address: the MAC table, its counter of failures and events may differ. -/
structure Chip.Learned (c d : Chip) : Prop where
  get : ∀ g : RFld, g.reg.addr ≠ ESW_CNT.addr → quiet g.reg.addr → d.get g = c.get g
  tbl : ∀ t i, t ≠ 0 → d.tbl t i = c.tbl t i
  esw : { d.esw with tables := [] } = { c.esw with tables := [] }

theorem Chip.learned_learnFrom (c : Chip) (p vid : Nat) (bs : List Byte) : Chip.Learned c (c.learnFrom p vid bs) := by
  have hEntry (i : Nat) (v : W128) (hi : i < 16384) (t j : Nat) (ht : t ≠ 0) : (c.setTbl 0 i v).tbl t j = c.tbl t j :=
    look_put_ne _ _ _ _ (by simp only [tblKey]; omega)
  rcases c.learnFrom_cases p vid bs with h | ⟨i, v, hi, h | h⟩ | h <;> rw [h]
  · exact ⟨fun _ _ _ => rfl, fun _ _ _ => rfl, rfl⟩
  · exact ⟨fun _ _ _ => rfl, hEntry i v hi, rfl⟩
  · exact ⟨fun _ _ _ => rfl, hEntry i v hi, rfl⟩
  · have hEsw := Chip.raise_esw (c.satInc ESW_CNT_LEARNFAIL) 267 (by decide)
    refine ⟨fun g ha hq => ?_, fun t j _ => Chip.tbl_of_esw _ t j hEsw, by rw [hEsw]; rfl⟩
    rw [Chip.get_raise _ _ (by decide) _ hq]
    exact Chip.get_set_reg_ne _ _ ha

theorem pushOut_room {fuel k r : Nat} {c : Chip} (h : c.get (ESW_ADM_MIN k) + r ≤ c.get ESW_STAT_FREE) :
    pushOut fuel k r c = (false, c) := by
  cases fuel with
  | zero => rfl
  | succ n => rw [pushOut, if_pos h]

/-- An admitted frame that is still being received takes its cells. -/
def Chip.stored (c : Chip) (f : EswFrame) : Chip :=
  (forEach f.copies (fun p c => c.runCredits p) (c.takeCells f.cells)).updEsw fun b => { b with
    frames := b.frames ++ [f], nextId := f.id + 1, receiving := put none b.receiving f.ingress (some f.id) }

/-- A frame is queued for each of its copies. -/
def Chip.queueCopies (c : Chip) (f : EswFrame) : Chip :=
  forEach f.copies (fun p c => c.setQueue p f.cls (c.eswQueue p f.cls ++ [f.id])) c

section
variable (c : Chip) {f : EswFrame}

theorem Chip.eswAdmit_room (plca : Nat) (hCut : c.flag ESW_CTL_CTGLOB = false) (hGood : f.good = false) (hPorts : f.egress ≠ [])
    (hCheck : ∀ q ∈ f.egress, c.copyCheck f f.len q = none)
    (hRoom : c.get (ESW_ADM_MIN f.cls) + cellsOf (c.get (ESW_P_MAXFRM_N f.ingress)) ≤ c.get ESW_STAT_FREE) :
    let g := { f with id := c.esw.nextId, copies := f.egress, cut := [], cells := cellsOf (c.get (ESW_P_MAXFRM_N f.ingress)) }
    c.eswAdmit f plca = (c.stored g).queueCopies g := by
  have hCuts : (f.egress.filter fun p => c.portUp p && c.cutsThrough f plca p) = [] := by
    simp [Chip.cutsThrough, hCut]
  have hBad : (f.egress.filterMap fun p => (c.copyCheck f f.len p).map fun i => (p, i)) = [] :=
    List.filterMap_eq_nil_iff.mpr fun q hq => by rw [hCheck q hq]; rfl
  have hCopies : (f.egress.filter fun p => (c.copyCheck f f.len p).isNone) = f.egress :=
    List.filter_eq_self.mpr fun q hq => by rw [hCheck q hq]; rfl
  have hSome : f.egress.isEmpty = false := by simpa using hPorts
  unfold Chip.eswAdmit
  simp only [hCuts, hBad, hCopies, hSome, forEach, pushOut_room hRoom, hGood, List.isEmpty_nil, if_true, Bool.false_eq_true, if_false,
    List.filter_nil, List.foldl_nil, Chip.when_false, if_neg (Nat.not_lt.mpr hRoom)]
  rfl

theorem Chip.takeCells_effect (n : Nat) : (c.takeCells n).esw = c.esw ∧ (c.takeCells n).get ESW_STAT_FREE = c.get ESW_STAT_FREE - n := by
  have hFree : (c.set ESW_STAT_FREE (c.get ESW_STAT_FREE - n)).get ESW_STAT_FREE = c.get ESW_STAT_FREE - n := by
    have hLt := c.get_lt ESW_STAT_FREE
    exact Chip.get_set_fit _ rfl (decide_eq_true (by omega))
  unfold Chip.takeCells
  dsimp only
  split
  · refine ⟨Chip.raise_esw _ _ (by decide), ?_⟩
    rw [Chip.get_raise _ _ (by decide) _ (by simp [quiet, eventAddr, ESW_STAT_FREE, ESW_STAT]), Chip.stick,
      Chip.get_setB_beside (f := ESW_STAT_LOW) (g := ESW_STAT_FREE) _ _ rfl rfl, hFree]
  · exact ⟨rfl, hFree⟩

theorem Chip.stored_effect (f : EswFrame) : (c.stored f).esw.frames = c.esw.frames ++ [f] ∧
    (c.stored f).get ESW_STAT_FREE = c.get ESW_STAT_FREE - f.cells ∧ look none (c.stored f).esw.receiving f.ingress = some f.id ∧
    (c.stored f).esw.jobs = c.esw.jobs := by
  obtain ⟨hEsw, hFree⟩ := c.takeCells_effect f.cells
  obtain ⟨hFrames, hJobs, hFree⟩ := forEach_keeps (p := fun d : Chip => d.esw.frames = c.esw.frames ∧ d.esw.jobs = c.esw.jobs ∧
      d.get ESW_STAT_FREE = c.get ESW_STAT_FREE - f.cells) (u := fun p c => c.runCredits p) f.copies (fun _ _ _ h => h)
    ⟨by rw [hEsw], by rw [hEsw], hFree⟩
  exact ⟨congrArg (· ++ [f]) hFrames, hFree, look_put_same none _ f.ingress (some f.id), hJobs⟩

theorem Chip.queueCopies_keeps (f : EswFrame) : (c.queueCopies f).esw.frames = c.esw.frames ∧
    (c.queueCopies f).esw.receiving = c.esw.receiving ∧ (c.queueCopies f).esw.jobs = c.esw.jobs ∧ (c.queueCopies f).regs = c.regs :=
  forEach_keeps (p := fun d : Chip => d.esw.frames = c.esw.frames ∧ d.esw.receiving = c.esw.receiving ∧ d.esw.jobs = c.esw.jobs ∧
    d.regs = c.regs) (u := fun p c => c.setQueue p f.cls (c.eswQueue p f.cls ++ [f.id])) f.copies (fun _ _ _ h => h) ⟨rfl, rfl, rfl, rfl⟩

theorem Chip.mem_queueCopies (f : EswFrame) {q : Nat} (hq : q ∈ f.copies) : f.id ∈ (c.queueCopies f).eswQueue q f.cls := by
  have hQueue (d : Chip) (p : Nat) : (d.setQueue p f.cls (d.eswQueue p f.cls ++ [f.id])).eswQueue q f.cls =
      if 8 * q + f.cls = 8 * p + f.cls then d.eswQueue p f.cls ++ [f.id] else d.eswQueue q f.cls := look_put _ _ _ _ _
  unfold Chip.queueCopies
  refine forEach_reaches (p := fun d : Chip => f.id ∈ d.eswQueue q f.cls) hq (fun d => ?_) (fun p _ d hd => ?_) _
  · simp [hQueue]
  · rw [hQueue]
    split
    · simp
    · exact hd

/-- Where a frame that has been admitted stands. -/
theorem Chip.queued_effect (f : EswFrame) : ((c.stored f).queueCopies f).esw.frames = c.esw.frames ++ [f] ∧
    ((c.stored f).queueCopies f).get ESW_STAT_FREE = c.get ESW_STAT_FREE - f.cells ∧
    look none ((c.stored f).queueCopies f).esw.receiving f.ingress = some f.id ∧ ((c.stored f).queueCopies f).esw.jobs = c.esw.jobs := by
  obtain ⟨hFrames, hFree, hRecv, hJobs⟩ := c.stored_effect f
  obtain ⟨hFrames', hRecv', hJobs', hRegs⟩ := (c.stored f).queueCopies_keeps f
  refine ⟨hFrames'.trans hFrames, ?_, by rw [hRecv', hRecv], hJobs'.trans hJobs⟩
  rw [Chip.get, Chip.rd, hRegs, ← Chip.rd, ← Chip.get, hFree]

end

/-! ### The decision point (R185) -/

theorem quiet_esw {a : Nat} (h : 0x30080000 ≤ a ∧ a < 0x30100000) : quiet a := by
  simp only [quiet, eventAddr]
  omega

section
variable {c d : Chip} (h : Chip.Learned c d)
include h

theorem Chip.Learned.flag {g : RFld} (ha : g.reg.addr ≠ ESW_CNT.addr) (hq : quiet g.reg.addr) : d.flag g = c.flag g :=
  Chip.flag_eq_of_get (h.get g ha hq)

theorem Chip.Learned.streamOf (bs : List Byte) (vid : Nat) : d.streamOf bs vid = c.streamOf bs vid := by
  simp only [Chip.streamOf, h.tbl 2 _ (by decide)]

theorem Chip.Learned.queues : d.esw.queues = c.esw.queues ∧ d.esw.frames = c.esw.frames ∧ d.esw.nextId = c.esw.nextId ∧
    d.esw.jobs = c.esw.jobs := by
  have hEsw := h.esw
  simp only [EswBlk.mk.injEq] at hEsw
  obtain ⟨hFrames, hNext, hQueues, -, -, -, -, -, -, -, -, -, -, -, -, -, -, -, hJobs⟩ := hEsw
  exact ⟨hQueues, hFrames, hNext, hJobs⟩

/-- The checks of a copy do not depend on what was learned. -/
theorem Chip.Learned.copyCheck (f : EswFrame) (l : Nat) {p : Nat} (hp : p < 24) (hCls : f.cls < 8) :
    d.copyCheck f l p = c.copyCheck f l p := by
  obtain ⟨hQueues, hFrames, -⟩ := h.queues
  have hQueue (k : Nat) : d.eswQueue p k = c.eswQueue p k := by simp only [Chip.eswQueue, hQueues]
  have hFrame (id : Nat) : d.eswFrame id = c.eswFrame id := by simp only [Chip.eswFrame, hFrames]
  have hCells : d.queueCells p f.cls = c.queueCells p f.cls := by
    simp only [Chip.queueCells, hQueue]
    exact congrArg (fun u => List.foldl u 0 _) (funext₂ fun n id => by rw [hFrame id])
  have hLink : d.flag (ESW_P_STAT_LINK p) = c.flag (ESW_P_STAT_LINK p) := by
    refine h.flag ?_ (quiet_esw ?_) <;> simp only [ESW_P_STAT_LINK, ESW_P_STAT, ESW_CNT] <;> omega
  have hMax : d.get (ESW_P_QCFG_QMAX p f.cls) = c.get (ESW_P_QCFG_QMAX p f.cls) := by
    refine h.get _ ?_ (quiet_esw ?_) <;> simp only [ESW_P_QCFG_QMAX, ESW_P_QCFG, ESW_CNT] <;> omega
  have hSdu : d.get (ESW_P_QCFG_QMAXSDU p f.cls) = c.get (ESW_P_QCFG_QMAXSDU p f.cls) := by
    refine h.get _ ?_ (quiet_esw ?_) <;> simp only [ESW_P_QCFG_QMAXSDU, ESW_P_QCFG, ESW_CNT] <;> omega
  rw [Chip.copyCheck, Chip.portUp, hCells, hLink, hMax, hSdu, ← Chip.portUp, ← Chip.copyCheck]

end

theorem bits_lt (v : Nat) {hi lo n : Nat} (h : hi - lo + 1 ≤ n) : bits v hi lo < 2 ^ n :=
  lt_of_lt_of_le (Nat.mod_lt _ (Nat.two_pow_pos _)) (Nat.pow_le_pow_right (by decide) h)

theorem Chip.forward_bounds {c : Chip} {p vid cls hq : Nat} {bs : List Byte} {ports : List Nat}
    (h : c.forward p bs = some (vid, cls, ports, hq)) : cls < 8 ∧ ∀ q ∈ ports, q < 24 := by
  unfold Chip.forward at h
  extract_lets tci vlanTag v accept e k fid hit mask host at h
  simp only [Option.ite_none_left_eq_some, Option.some.injEq, Prod.mk.injEq] at h
  obtain ⟨-, -, -, hCls, hPorts, -⟩ := h
  refine ⟨?_, fun q hq => ?_⟩
  · rw [← hCls]
    simp only [k]
    split
    · exact bits_lt _ (n := 3) (by omega)
    · exact c.get_lt (ESW_P_CFG_DEFCLS p)
  · rw [← hPorts] at hq
    exact List.mem_range.mp (List.mem_filter.mp hq).1

/-- A frame as it is stored when it is admitted while port `p` still receives it. -/
def Chip.newFrame (c : Chip) (p : Nat) (bs : List Byte) (stamp : Nat) (sec : Option SecTag) (vid cls : Nat) (ports : List Nat) (hq : Nat) :
    EswFrame :=
  { id := c.esw.nextId, ingress := p, bytes := bs, stamp := stamp, cls := cls, tagged := hasTag bs, vid := vid, egress := ports,
    copies := ports, cells := cellsOf (c.get (ESW_P_MAXFRM_N p)), hostQueue := hq, sec := sec }

section
variable {c : Chip} {p vid cls hq plca : Nat} {bs : List Byte} {ports : List Nat} {stamp : Nat} {sec : Option SecTag}

/-- An external port's frame that is forwarded, matches no stream and is stored and forwarded is offered for admission. -/
theorem Chip.decisionPoint_forwards (hp : p < 20) (hSec : c.secFails p bs sec = false) (hEn : c.flag ESW_CTL_EN = true)
    (hPort : c.flag (ESW_P_CFG_EN p) = true) (hForward : c.forward p bs = some (vid, cls, ports, hq)) (hStream : c.streamOf bs vid = none) :
    c.decisionPoint p bs stamp sec plca = (c.learnFrom p vid bs).eswAdmit
      { id := 0, ingress := p, bytes := bs, stamp := stamp, cls := cls, tagged := hasTag bs, vid := vid, egress := ports,
        hostQueue := hq, sec := sec } plca := by
  have hLearned := (c.learned_learnFrom p vid bs).streamOf bs vid
  have h20 : p ≠ 20 := by omega
  have h21 : p ≠ 21 := by omega
  have h22 : p ≠ 22 := by omega
  have h23 : p ≠ 23 := by omega
  simp [Chip.decisionPoint, h20, h21, h22, h23, hSec, Chip.decide_, hEn, hPort, hForward, Chip.streamAdmit, hLearned, hStream]

/-- A copy is checked by its class alone, whatever else its frame shows. -/
theorem Chip.copyCheck_cls (c : Chip) {f g : EswFrame} (h : g.cls = f.cls) (l p : Nat) : c.copyCheck g l p = c.copyCheck f l p := by
  rw [Chip.copyCheck, h, ← Chip.copyCheck]

/-- A frame that is forwarded and finds room is queued for every port of its egress set. -/
theorem Chip.decisionPoint_queues (hp : p < 20) (hSec : c.secFails p bs sec = false) (hEn : c.flag ESW_CTL_EN = true)
    (hPort : c.flag (ESW_P_CFG_EN p) = true) (hForward : c.forward p bs = some (vid, cls, ports, hq)) (hStream : c.streamOf bs vid = none)
    (hCut : c.flag ESW_CTL_CTGLOB = false) (hPorts : ports ≠ [])
    (hCheck : ∀ q ∈ ports, c.copyCheck { id := 0, ingress := p, bytes := bs, stamp := stamp, cls := cls } (bs.length + 4) q = none)
    (hRoom : c.get (ESW_ADM_MIN cls) + cellsOf (c.get (ESW_P_MAXFRM_N p)) ≤ c.get ESW_STAT_FREE) :
    let f := c.newFrame p bs stamp sec vid cls ports hq
    ∃ d, Chip.Learned c d ∧ c.decisionPoint p bs stamp sec plca = (d.stored f).queueCopies f := by
  have hLearned := c.learned_learnFrom p vid bs
  obtain ⟨hCls, hLt⟩ := Chip.forward_bounds hForward
  obtain ⟨-, -, hNext, -⟩ := hLearned.queues
  have hMax : (c.learnFrom p vid bs).get (ESW_P_MAXFRM_N p) = c.get (ESW_P_MAXFRM_N p) := by
    refine hLearned.get _ ?_ (quiet_esw ?_) <;> simp only [ESW_P_MAXFRM_N, ESW_P_MAXFRM, ESW_CNT] <;> omega
  have hMin : (c.learnFrom p vid bs).get (ESW_ADM_MIN cls) = c.get (ESW_ADM_MIN cls) := by
    refine hLearned.get _ ?_ (quiet_esw ?_) <;> simp only [ESW_ADM_MIN, ESW_ADM, ESW_CNT] <;> omega
  have hFree : (c.learnFrom p vid bs).get ESW_STAT_FREE = c.get ESW_STAT_FREE :=
    hLearned.get _ (by decide) (quiet_esw (by decide))
  refine ⟨_, hLearned, ?_⟩
  rw [Chip.decisionPoint_forwards hp hSec hEn hPort hForward hStream,
    Chip.eswAdmit_room _ plca ((hLearned.flag (by decide) (quiet_esw (by decide))).trans hCut) rfl hPorts]
  · dsimp only
    rw [hNext, hMax]
    rfl
  · intro q hMem
    rw [hLearned.copyCheck _ _ (hLt q hMem) hCls, ← hCheck q hMem]
    exact c.copyCheck_cls rfl _ _
  · dsimp only
    rwa [hMin, hMax, hFree]

end

/-! ### What a bad tail and a link that goes down leave -/

section
variable (c : Chip) {p : Nat}

theorem Chip.badTail_effect (hp : p < 24) {symOk icvOk eccOk : Bool} (hEn : c.flag ESW_CTL_EN = true)
    (hPort : c.flag (ESW_P_CFG_EN p) = true) {d : Chip} (h : Chip.Serves (c.frameTail p false symOk icvOk eccOk) d) :
    d.flag (ESW_P_STAT_BADRX p) = true ∧ d.pends (240 + p) = true ∧
    d.get (ESW_P_CNT_N p 1) = min (c.get (ESW_P_CNT_N p 1) + 1) 0xFFFFFFFF ∧ look none d.esw.receiving p = none := by
  obtain ⟨b, hBefore, hRecv, hAfter⟩ := c.frameTail_bad p symOk icvOk eccOk hEn hPort
  have hLater := hAfter.trans h.handles
  have hStat : quiet (ESW_P_STAT p).addr := quiet_esw (by simp only [ESW_P_STAT]; omega)
  have hCnt : quiet (ESW_P_CNT p 1).addr := quiet_esw (by simp only [ESW_P_CNT]; omega)
  have hShown : (b.badReception p).flag (ESW_P_STAT_BADRX p) = true := by
    rw [Chip.badReception, Chip.flag_raise _ _ (by omega) _ hStat]
    exact Chip.flag_setB_same _ _ true (RFld.ok_of rfl)
  have hCounted : (b.badReception p).get (ESW_P_CNT_N p 1) = (b.portCount p 1).get (ESW_P_CNT_N p 1) := by
    rw [Chip.badReception, Chip.get_raise _ _ (by omega) _ hCnt]
    exact Chip.get_set_reg_ne _ _ (by simp only [ESW_P_CNT_N, ESW_P_CNT, ESW_P_STAT_BADRX, ESW_P_STAT]; omega)
  have hIdle : look none (b.badReception p).esw.receiving p = none := by
    rw [Chip.badReception, Chip.raise_esw _ _ (by omega)]
    exact hRecv
  refine ⟨?_, ?_, hBefore.counted hp (by decide) hCounted hLater, hLater.recv rfl p hIdle⟩
  · exact (Chip.flag_eq_of_get (hLater.port _ (portField_stat hp rfl rfl (Or.inr (Or.inl (by simp [ESW_P_STAT_BADRX])))))).trans hShown
  · exact hLater.pend _ (by omega) (Chip.pends_raise _ _ (by omega))

theorem Chip.linkDown_effect (hp : p < 20) :
    (c.linkDown p).flag (ESW_P_STAT_LINK p) = false ∧ (c.linkDown p).get (ESW_P_STAT_RATE p) = 0 ∧
    (c.linkDown p).flag (ESW_P_STAT_LINKCHG p) = true ∧ (c.linkDown p).sendingAt p = none ∧
    (∀ k : Fin 8, (c.linkDown p).eswQueue p k.val = []) ∧ (c.linkDown p).pends (192 + p) = true := by
  have hStat : quiet (ESW_P_STAT p).addr := quiet_esw (by simp only [ESW_P_STAT]; omega)
  have hShown (d : Chip) (g : RFld) (hg : g.reg = ESW_P_STAT p) :
      ((d.setB (ESW_PHY_STAT_LINK p) false).raise (192 + p)).get g = d.get g := by
    rw [Chip.get_raise _ _ (by omega) _ (hg ▸ hStat)]
    exact Chip.get_set_reg_ne _ _ (by simp only [hg, ESW_P_STAT, ESW_PHY_STAT_LINK, ESW_PHY_STAT]; omega)
  have hLanes : (c.linkDown p).esw.lanes = (c.linkEmptied p).esw.lanes := by
    rw [Chip.linkDown_eq, Chip.raise_esw _ _ (by omega)]
    generalize c.linkEmptied p = d
    rfl
  refine ⟨?_, ?_, ?_, ?_, fun k => ?_, Chip.pends_raise _ _ (by omega)⟩
  · rw [Chip.linkDown_eq, Chip.flag, hShown _ _ rfl, Chip.stick,
      Chip.get_setB_beside (f := ESW_P_STAT_LINKCHG p) (g := ESW_P_STAT_LINK p) _ _ rfl rfl,
      Chip.get_set_beside (f := ESW_P_STAT_RATE p) (g := ESW_P_STAT_LINK p) _ _ rfl rfl, ← Chip.flag,
      Chip.flag_setB_same _ _ _ (RFld.ok_of rfl)]
  · rw [Chip.linkDown_eq, hShown _ _ rfl, Chip.stick,
      Chip.get_setB_beside (f := ESW_P_STAT_LINKCHG p) (g := ESW_P_STAT_RATE p) _ _ rfl rfl, Chip.get_set_fit _ rfl rfl]
  · rw [Chip.linkDown_eq, Chip.flag, hShown _ _ rfl, ← Chip.flag]
    exact Chip.flag_setB_same _ _ true (RFld.ok_of rfl)
  · rw [Chip.sendingAt_of_lanes hLanes, c.sendingAt_linkEmptied]
  · rw [Chip.eswQueue_of_lanes hLanes, c.eswQueue_linkEmptied (by omega) k.isLt]

end

/-! ### Selection, and links that come up (R198, R211) -/

section
variable (c : Chip) {p : Nat}

theorem Chip.txSelect_plain {k : Nat} {f : EswFrame} (hIdle : c.sendingAt p = none) (hUp : c.portUp p = true)
    (hHead : (c.runCredits p).selectHead p = some (k, f)) (hPlain : 2 ≤ p ∨ c.flag (ESW_P_MSEC_EN p) = false) :
    c.txSelect p = (c.runCredits p).setSending p (some f.id) := by
  have hIdle' : (c.runCredits p).sendingAt p = none := hIdle
  have hUp' : (c.runCredits p).portUp p = true := hUp
  have hOpen : (decide (p < 2) && (c.runCredits p).flag (ESW_P_MSEC_EN p)) = false := by
    rcases hPlain with h | h
    · rw [decide_eq_false (by omega), Bool.false_and]
    · exact (congrArg _ h).trans (Bool.and_false _)
  simp only [Chip.txSelect, hIdle', hUp', hHead, hOpen, Option.isSome_none, Bool.not_true, Bool.or_self, Bool.false_and,
    Bool.false_eq_true, if_false]

theorem Chip.linkUp_effect (hp : p < 20) {rate sqi : Nat} (hRate : rate < 8) (hSqi : sqi < 8) :
    (c.linkUp p rate sqi).flag (ESW_P_STAT_LINK p) = true ∧ (c.linkUp p rate sqi).get (ESW_P_STAT_RATE p) = rate ∧
    (c.linkUp p rate sqi).get (ESW_P_STAT_SQI p) = sqi ∧ (c.linkUp p rate sqi).flag (ESW_PHY_STAT_LINK p) = true ∧
    (c.linkUp p rate sqi).pends (192 + p) = true ∧
    Chip.frame [.core] (amongEv [(ESW_P_STAT p).addr, (ESW_PHY_STAT p).addr]) c (c.linkUp p rate sqi) := by
  have hApart : (ESW_P_STAT p).addr ≠ (ESW_PHY_STAT p).addr := by simp only [ESW_P_STAT, ESW_PHY_STAT]; omega
  have hStat : quiet (ESW_P_STAT p).addr := quiet_esw (by simp only [ESW_P_STAT]; omega)
  have hPhy : quiet (ESW_PHY_STAT p).addr := quiet_esw (by simp only [ESW_PHY_STAT]; omega)
  have hShown (g : RFld) (hg : g.reg = ESW_P_STAT p) (hb : (ESW_P_STAT_LINKCHG p).beside g = true) : (c.linkUp p rate sqi).get g =
      (((c.setB (ESW_P_STAT_LINK p) true).set (ESW_P_STAT_RATE p) rate).set (ESW_P_STAT_SQI p) sqi).get g := by
    have hNe : g.reg.addr ≠ (ESW_PHY_STAT p).addr := hg ▸ hApart
    rw [Chip.linkUp, Chip.get_raise _ _ (by omega) _ (hg ▸ hStat), Chip.stick, Chip.get_setB_beside _ _ hg hb,
      Chip.get_set_reg_ne (f := ESW_PHY_STAT_SQI p) _ _ hNe, Chip.setB, Chip.get_set_reg_ne (f := ESW_PHY_STAT_LINK p) _ _ hNe]
  refine ⟨?_, ?_, ?_, ?_, Chip.pends_raise _ _ (by omega), ?_⟩
  · rw [Chip.flag, hShown _ rfl rfl, Chip.get_set_beside (f := ESW_P_STAT_SQI p) (g := ESW_P_STAT_LINK p) _ _ rfl rfl,
      Chip.get_set_beside (f := ESW_P_STAT_RATE p) (g := ESW_P_STAT_LINK p) _ _ rfl rfl, ← Chip.flag,
      Chip.flag_setB_same _ _ _ (RFld.ok_of rfl)]
  · rw [hShown _ rfl rfl, Chip.get_set_beside (f := ESW_P_STAT_SQI p) (g := ESW_P_STAT_RATE p) _ _ rfl rfl,
      Chip.get_set_fit _ rfl (decide_eq_true hRate)]
  · rw [hShown _ rfl rfl, Chip.get_set_fit _ rfl (decide_eq_true hSqi)]
  · rw [Chip.linkUp, Chip.flag_raise _ _ (by omega) _ hPhy, Chip.flag, Chip.stick, Chip.setB,
      Chip.get_set_reg_ne (f := ESW_P_STAT_LINKCHG p) _ _ hApart.symm,
      Chip.get_set_beside (f := ESW_PHY_STAT_SQI p) (g := ESW_PHY_STAT_LINK p) _ _ rfl rfl, ← Chip.flag,
      Chip.flag_setB_same _ _ _ (RFld.ok_of rfl)]
  · have hPort : amongEv [(ESW_P_STAT p).addr, (ESW_PHY_STAT p).addr] (ESW_P_STAT p).addr := Or.inl (by simp)
    have hLink : amongEv [(ESW_P_STAT p).addr, (ESW_PHY_STAT p).addr] (ESW_PHY_STAT p).addr := Or.inl (by simp)
    unfold Chip.linkUp
    refine Chip.frame_trans ?_ (Chip.frame_raise _ (by omega) (by simp) fun _ => Or.inr)
    refine Chip.frame_trans ?_ (Chip.frame_set _ _ (f := ESW_P_STAT_LINKCHG p) _ hPort)
    refine Chip.frame_trans ?_ (Chip.frame_set _ _ (f := ESW_PHY_STAT_SQI p) _ hLink)
    refine Chip.frame_trans ?_ (Chip.frame_set _ _ (f := ESW_PHY_STAT_LINK p) _ hLink)
    refine Chip.frame_trans ?_ (Chip.frame_set _ _ (f := ESW_P_STAT_SQI p) _ hPort)
    exact Chip.frame_trans (Chip.frame_set _ c (f := ESW_P_STAT_LINK p) _ hPort) (Chip.frame_set _ _ (f := ESW_P_STAT_RATE p) _ hPort)

end

theorem State.eswFlush_idle {s : State} (h : s.chip.esw.jobs = []) : s.eswFlush = s := by
  have hEsw : ({ s.chip.esw with jobs := [] } : EswBlk) = s.chip.esw := by rw [← h]
  rw [State.eswFlush, h]
  exact congrArg (fun b : EswBlk => ({ s with chip := { s.chip with esw := b } } : State)) hEsw

/-- What a command of the switch does holds once its DMA work has been carried out, if that work keeps it. -/
theorem Runs.of_eswOn {i : Instr} {s : State} {u : Chip → Chip} {p : State → Prop} (he : exec i s = s.eswOn u)
    (hZone : s.chip.zoneUp = true) (hp : ∀ t : State, Chip.Serves (u s.chip) t.chip → p t) : Runs i s p :=
  Runs.onZoneMem he hZone (hp _ (Chip.Serves.eswFlush (Chip.Serves.refl _)))

/-- A command of the switch that leaves no DMA work changes the module alone. -/
theorem Runs.of_eswOn_idle {i : Instr} {s : State} {u : Chip → Chip} {p : State → Prop} (he : exec i s = s.eswOn u)
    (hZone : s.chip.zoneUp = true) (hJobs : (u s.chip).esw.jobs = []) (hp : p { s with chip := u s.chip }) : Runs i s p :=
  Runs.onZoneMem he hZone (by rwa [State.eswFlush_idle hJobs])

section
variable {c d : Chip} (h : Chip.Serves c d)
include h

theorem Chip.Serves.held : d.esw.held = c.esw.held := EswBlk.held_of_besideDma h.esw

theorem Chip.Serves.eswQueue (p k : Nat) : d.eswQueue p k = c.eswQueue p k := Chip.eswQueue_of_lanes (EswBlk.lanes_of_held h.held) p k

theorem Chip.Serves.sendingAt (p : Nat) : d.sendingAt p = c.sendingAt p := Chip.sendingAt_of_lanes (EswBlk.lanes_of_held h.held) p

end

/-- Settles O30: each operation on a frame is followed by what discarding copies and the DMA keep. -/
theorem switchFrames : Obligations.SwitchFrames := by
  intro s hZone hJobs
  refine ⟨?_, ?_, ?_, ?_, ?_, ?_, ?_⟩
  · intro p bs stamp sec plca vid cls hq ports hp hSec hEn hPort hForward hStream hCut hPorts hCheck hRoom
    obtain ⟨d, hLearned, hAdmitted⟩ :=
      Chip.decisionPoint_queues (plca := plca.toNat) hp hSec hEn hPort hForward hStream hCut hPorts hCheck hRoom
    obtain ⟨-, hFrames, -, hIdle⟩ := hLearned.queues
    have hFree : d.get ESW_STAT_FREE = s.chip.get ESW_STAT_FREE := hLearned.get _ (by decide) (quiet_esw (by decide))
    have hEffect := d.queued_effect (s.chip.newFrame p bs stamp.toNat sec vid cls ports hq)
    rw [← hAdmitted, hFrames, hFree, hIdle] at hEffect
    obtain ⟨hStored, hTaken, hRecv, hDone⟩ := hEffect
    refine Runs.of_eswOn_idle (u := fun c => c.decisionPoint p.val bs stamp.toNat sec plca.toNat) rfl hZone (hDone.trans hJobs) ?_
    refine ⟨hStored, hTaken, hRecv, fun q hMem => ?_⟩
    dsimp only
    rw [hAdmitted]
    exact (d.stored _).mem_queueCopies (s.chip.newFrame p bs stamp.toNat sec vid cls ports hq) hMem
  · intro p symOk icvOk eccOk hEn hPort
    refine Runs.of_eswOn (u := fun c => c.frameTail p.val false symOk icvOk eccOk) rfl hZone fun t ht => ?_
    exact s.chip.badTail_effect p.isLt hEn hPort ht
  · intro p id f hEn hPort hRecv hFrame hPlain hLen
    refine Runs.of_eswOn (u := fun c => c.frameTail p.val true true true true) rfl hZone fun t ht => ?_
    rw [Chip.frameTail_good hPlain hEn hPort hRecv hFrame hLen] at ht
    have hId : f.id = id := by simpa using List.find?_some hFrame
    obtain ⟨hCount, hIdle⟩ := Chip.tailEnded_effect (c := s.chip) (f := f) p.isLt
    refine ⟨?_, ?_, ht.handles.recv rfl _ hIdle⟩
    · rw [Chip.frames_of_held ht.held, Chip.frames_tailEnded, Chip.frames_goodReception, hId]
    · rw [ht.handles.port _ (portField_cnt p.isLt (by decide)), hCount]
  · intro p k f hIdle hUp hHead hPlain
    have hSelect := s.chip.txSelect_plain hIdle hUp hHead hPlain
    refine Runs.of_eswOn_idle (u := fun c => c.txSelect p.val) rfl hZone (by rw [hSelect]; exact hJobs) ?_
    dsimp only
    rw [hSelect]
    refine ⟨Chip.sendingAt_setSending _ _ _, rfl, State.frame_chip ?_⟩
    exact Chip.frame_trans (Chip.frame_updEsw _ _ (by simp)) (Chip.frame_updEsw _ _ (by simp))
  · intro p stamp id f hp hSend hFrame hGood hStomp
    have hId : f.id = id := by simpa using List.find?_some hFrame
    refine Runs.of_eswOn (u := fun c => c.txEnd p.val stamp.toNat) rfl hZone fun t ht => ?_
    rw [Chip.txEnd_good _ _ _ _ hp hSend hFrame hGood hStomp] at ht
    have hLanes := s.chip.lanes_txStamped p stamp.toNat f
    refine ⟨?_, ?_, ?_⟩
    · rw [ht.sendingAt, Chip.sendingAt_removeCopy]
      rw [Chip.sendingAt_of_lanes hLanes, hSend, hId]
    · rw [ht.eswQueue, Chip.eswQueue_removeCopy_same, Chip.eswQueue_of_lanes hLanes, hId]
    · rw [ht.handles.port _ (portField_cnt p.isLt (by decide)), Chip.cnt_txEnded _ _ _ _ p.isLt]
  · intro p
    refine Runs.of_eswOn (u := fun c => c.linkDown p.val) rfl hZone fun t ht => ?_
    obtain ⟨hLink, hRate, hChange, hIdle, hQueues, hPends⟩ := s.chip.linkDown_effect p.isLt
    have hField (g : RFld) (hg : g.portField) := ht.handles.port g hg
    refine ⟨?_, ?_, ?_, by rw [ht.sendingAt, hIdle], fun k => by rw [ht.eswQueue, hQueues k], ht.handles.pend _ (by omega) hPends⟩
    · exact (Chip.flag_eq_of_get (hField _ (portField_stat (by omega) rfl rfl (Or.inr (Or.inr (by simp [ESW_P_STAT_LINK])))))).trans hLink
    · exact (hField _ (portField_stat (by omega) rfl rfl (Or.inr (Or.inr (by simp [ESW_P_STAT_RATE]))))).trans hRate
    · exact (Chip.flag_eq_of_get (hField _ (portField_stat (by omega) rfl rfl (Or.inl (by simp [ESW_P_STAT_LINKCHG]))))).trans hChange
  · intro p rate sqi
    obtain ⟨hLink, hRate, hSqi, hPhy, hPends, hFrame⟩ := s.chip.linkUp_effect p.isLt (show rate.val < 8 by omega) sqi.isLt
    exact Runs.onZone rfl hZone ⟨hLink, hRate, hSqi, hPhy, hPends, State.frame_chip hFrame⟩

end Sys2Proof.Machine
end

section
/-! SUPPORT. Offering a frame for admission (R185, R186, R191, R192, R201, R202): what it keeps of the ports' counters, of pending events,
the sequencer and the host queues. -/

namespace Sys2Proof.Machine

/-- The reason for which a copy fails its checks is the number of its counter. -/
theorem Chip.copyCheck_count (c : Chip) (f : EswFrame) (l p : Nat) {i : Nat} (h : c.copyCheck f l p = some i) : 4 ≤ i ∧ i ≤ 6 := by
  unfold Chip.copyCheck at h
  split at h
  · cases h
    decide
  · split at h
    · cases h
      decide
    · split at h
      · cases h
        decide
      · cases h

/-- What metering a frame answers: a colour, and the module with a new fill of the meter. (The definition is opened as a function, before
it is applied: its numbers are then never computed.) -/
theorem Chip.meter_cases {p : Nat × Chip → Prop} (c : Chip) (i l : Nat)
    (h : ∀ col x, p (col, c.updEsw fun b => { b with meters := put none b.meters i (some x) })) : p (c.meter i l) := by
  obtain ⟨m, hm, hp⟩ : ∃ m, Chip.meter = m ∧ p (m c i l) := by
    refine ⟨_, by delta Chip.meter; rfl, ?_⟩
    extract_lets v capC capE old dt inC inE tc te need
    clear_value need te tc
    generalize (if need ≤ tc then (0, tc - need, te) else if need ≤ te then (1, tc, te - need) else (2, tc, te)) = x
    obtain ⟨col, nc, ne⟩ := x
    exact h col _
  rwa [hm]

namespace Chip.Handles

section
variable {c d : Chip} (h : Chip.Handles false c d)
include h

/-- A change of the switch that keeps its host queues, whatever its ports start to receive or transmit. -/
theorem started (u : EswBlk → EswBlk) (hFetch : (u d.esw).txFetch = d.esw.txFetch) (hTrig : (u d.esw).trigWait = d.esw.trigWait) :
    Chip.Handles false c (d.updEsw u) :=
  h.trans ⟨fun _ _ => rfl, fun _ _ hp => hp, rfl, hFetch, hTrig, nofun, nofun⟩

/-- A field of the switch's own registers. -/
theorem ofEsw {f : RFld} (x : Nat) (hf : f.okb = true) (ha : f.reg.addr < 0x30090000) (hLow : 0x30080000 ≤ f.reg.addr) :
    Chip.Handles false c (d.set f x) := h.set x (RFld.passing_of_place hf (by simp only [countedAddr]; omega))

theorem learnFrom (p vid : Nat) (bs : List Byte) : Chip.Handles false c (d.learnFrom p vid bs) := by
  rcases d.learnFrom_cases p vid bs with hEq | ⟨i, v, -, hEq | hEq⟩ | hEq <;> rw [hEq]
  · exact h
  · exact h.updEsw _ rfl
  · exact h.drawn.updEsw _ rfl
  · exact (h.ofEsw (f := ESW_CNT_LEARNFAIL) _ rfl (by decide) (by decide)).raise _

theorem discardNew (f : EswFrame) : Chip.Handles false c (d.discardNew f) := by
  have hCaptured := h.captureDrop f 4
  unfold Chip.discardNew
  dsimp only
  split
  · exact hCaptured.eswJob _
  · exact hCaptured

theorem takeCells (n : Nat) : Chip.Handles false c (d.takeCells n) := by
  have hTaken := h.ofEsw (f := ESW_STAT_FREE) (d.get ESW_STAT_FREE - n) rfl (by decide) (by decide)
  unfold Chip.takeCells
  dsimp only
  exact ite ((hTaken.ofEsw (f := ESW_STAT_LOW) _ rfl (by decide) (by decide)).raise 264) hTaken

omit h in
theorem pushOut (fuel k r : Nat) : ∀ {d : Chip}, Chip.Handles false c d → Chip.Handles false c (Machine.pushOut fuel k r d).2 := by
  induction fuel with
  | zero => exact fun h => h
  | succ n ih =>
    intro d h
    unfold Machine.pushOut
    split
    · exact h
    · split
      · exact h
      · refine ih (((removeCopy ?_ _ _ _).portCount _ (by decide)).copyDropped _)
        split
        · exact h.captureDrop _ _
        · exact h

theorem eswAdmit (f : EswFrame) (plca : Nat) : Chip.Handles false c (d.eswAdmit f plca) := by
  unfold Chip.eswAdmit
  extract_lets cuts room l bad copies c₁ r pushed c₂ c₃ held id cut g c₄ c₅ c₆
  have hBad : Chip.Handles false c c₁ := by
    refine forEach bad (fun x hx e he => ?_) h
    obtain ⟨p, -, hp⟩ := List.mem_filterMap.mp hx
    obtain ⟨i, hi, rfl⟩ := Option.map_eq_some_iff.mp hp
    have := d.copyCheck_count f l p hi
    exact (he.portCount p (by omega)).copyDropped p
  have hPushed : Chip.Handles false c c₂ := pushOut _ _ _ hBad
  refine ite (hBad.discardNew f) (ite ?_ ?_)
  · exact (((hPushed.ofEsw (f := ESW_STAT_TAILDROP) _ rfl (by decide) (by decide)).ofEsw (f := ESW_CNT_TAILDROP) _ rfl (by decide)
      (by decide)).raise 266).discardNew f
  · have hNoted : Chip.Handles false c c₃ :=
      hPushed.when _ ((hPushed.ofEsw (f := ESW_STAT_PUSHED) _ rfl (by decide) (by decide)).raise 265)
    have hCredits : Chip.Handles false c c₄ := forEach copies (fun p _ _ k => k.runCredits p) (hNoted.takeCells held)
    exact forEach cut (fun p _ _ k => k.started _ rfl rfl) (forEach copies (fun p _ _ k => k.setQueue p _ _) (hCredits.started _ rfl rfl))

theorem meter (i l : Nat) : Chip.Handles false c (d.meter i l).2 :=
  Chip.meter_cases (p := fun x => Chip.Handles false c x.2) d i l fun _ _ => by
    dsimp only
    exact h.updEsw _ rfl

theorem police_cases {p : Bool × Chip → Prop} (flt l : Nat) (whole : Bool) (hp : ∀ b e, Chip.Handles false c e → p (b, e)) :
    p (d.police flt l whole) := by
  have hSeen := h.tblCount 5 flt 64
  unfold Chip.police
  generalize d.tblCount 5 flt 64 = e at *
  dsimp only
  split
  · exact hp _ _ ((hSeen.tblCount 5 flt 32).raise 271)
  · split
    · have hMeter := hSeen.meter (bits (e.tbl 5 flt).toNat 125 119) l
      generalize e.meter (bits (e.tbl 5 flt).toNat 125 119) l = r at *
      split
      · exact hp _ _ ((hMeter.tblCount 5 flt 0).raise 271)
      · exact hp _ _ hMeter
    · exact hp _ _ hSeen

theorem police (flt l : Nat) (whole : Bool) : Chip.Handles false c (d.police flt l whole).2 :=
  h.police_cases (p := fun x => Chip.Handles false c x.2) flt l whole fun _ _ k => k

theorem streamAdmit (f : EswFrame) (plca : Nat) : Chip.Handles false c (d.streamAdmit f plca) := by
  unfold Chip.streamAdmit
  split
  · exact h.eswAdmit f plca
  · extract_lets v flt r c₁ f₁ rec_ seq use c₂ drop f₂ gen add n c₃
    have hPoliced : Chip.Handles false c c₁ := by
      simp only [c₁, r]
      split
      · exact h.police _ _ _
      · exact h
    have hHeard : Chip.Handles false c c₂ := hPoliced.when _ (hPoliced.updEsw _ rfl)
    have hNumbered : Chip.Handles false c c₃ := hHeard.when _ (hHeard.updEsw _ rfl)
    exact ite (hPoliced.discardNew _) (ite ((hHeard.tblCount 4 rec_ 32).discardNew _) (hNumbered.eswAdmit _ plca))

theorem decide_ (f : EswFrame) (plca : Nat) : Chip.Handles false c (d.decide_ f plca) := by
  unfold Chip.decide_
  split
  · exact h.discardNew f
  · split
    · exact h.discardNew f
    · exact (h.learnFrom _ _ _).streamAdmit _ plca

end

end Chip.Handles

end Sys2Proof.Machine
end

section
/-! The switch's host queues, gates, stamps, recovery functions and port registers (R182, R199, R201, R203, R206, R207, R210), and the
statement about them. -/

namespace Sys2Proof.Machine

/-! ### Fetched descriptors (R206, R207) -/

section
variable (s : State) (q : Nat)

/-- The module once the next transmit descriptor of pair `q` has been taken. -/
def Chip.fetched (c : Chip) (q : Nat) : Chip :=
  c.updEsw fun b => { b with
    txFetch := put 0 b.txFetch q ((look 0 c.esw.txFetch q + 1) % c.ringSize q)
    txOpen := upd [] b.txOpen q fun l => l ++ [(look 0 c.esw.txFetch q, false)] }

/-- A descriptor that cannot be used is written back with status `st`. -/
def State.fetchFailed (s : State) (q i st : Nat) : State := { s with chip := (s.chip.raise 279).eswJob (.done q i st 0) }

/-- A frame that was read whole waits for its trigger, or enters admission. -/
def State.frameFetched (s : State) (q : Nat) (h : HostFrame) : State :=
  if bit h.desc 58 then { s with chip := s.chip.updEsw fun b => { b with trigWait := put none b.trigWait q (some h) } }
  else { s with chip := s.chip.hostAdmit q h }

/-- A descriptor that was read is used: its frame is read, or it is written back. -/
def State.descUsed (s : State) (q i d : Nat) (t : Tag) (memErr : Bool) : State :=
  if memErr then s.fetchFailed q i stINTEGRITY
  else if bits d 53 40 < 60 || 9212 < bits d 53 40 || (bit d 59 && 19 < bits d 64 60) then s.fetchFailed q i stRANGE
  else match s.busRead t (d % 2 ^ 40) (bits d 53 40) with
    | (none, s) => s.fetchFailed q i stINTEGRITY
    | (some bs, s) => s.frameFetched q { bytes := bs, desc := d, index := i }

theorem Chip.txFetch_fetched (c : Chip) :
    look 0 (c.fetched q).esw.txFetch q = (look 0 c.esw.txFetch q + 1) % c.ringSize q := look_put_same _ _ _ _

/-- A host frame that enters admission leaves what the queues have fetched. -/
theorem Chip.txFetch_hostAdmit (c : Chip) (h : HostFrame) : (c.hostAdmit q h).esw.txFetch = c.esw.txFetch := by
  unfold Chip.hostAdmit
  extract_lets f c₁
  have hCounted : Chip.Handles false (c.portCount 20 0) c₁ := (Chip.Handles.refl false _).mirrorFrame f 20 0
  have hSame : c₁.esw.txFetch = c.esw.txFetch := hCounted.fetch
  have hOffered (e : Chip) (k : Chip.Handles false c₁ e) : e.esw.txFetch = c.esw.txFetch := k.fetch.trans hSame
  split
  · have hRaised := congrArg EswBlk.txFetch (Chip.raise_esw ((c.portCount 20 1).stick (ESW_P_STAT_BADRX 20)) 260 (by decide))
    exact hRaised
  · split
    · split
      · exact hOffered _ ((Chip.Handles.refl false c₁).eswAdmit _ 0)
      · exact hOffered _ ((Chip.Handles.refl false c₁).discardNew f)
    · exact hOffered _ ((Chip.Handles.refl false c₁).decide_ f 0)

theorem State.fetchFailed_effect (i st : Nat) :
    (s.fetchFailed q i st).chip.esw.txFetch = s.chip.esw.txFetch ∧ (s.fetchFailed q i st).chip.pends 279 = true :=
  have hEsw := congrArg EswBlk.txFetch (Chip.raise_esw s.chip 279 (by decide))
  ⟨hEsw, Chip.pends_raise s.chip 279 (by decide)⟩

theorem State.descUsed_effect (i d : Nat) {t : Tag} (ht : t.real) (memErr : Bool) :
    (s.descUsed q i d t memErr).chip.esw.txFetch = s.chip.esw.txFetch ∧
    (memErr = true → (s.descUsed q i d t memErr).chip.pends 279 = true) := by
  cases memErr with
  | true => exact ⟨(s.fetchFailed_effect q i stINTEGRITY).1, fun _ => (s.fetchFailed_effect q i stINTEGRITY).2⟩
  | false =>
    have hRead := Chip.Serves.busRead ht (Chip.Serves.refl s.chip) (d % 2 ^ 40) (bits d 53 40)
    refine ⟨?_, nofun⟩
    unfold State.descUsed
    rw [if_neg (by decide)]
    split
    · exact (s.fetchFailed_effect q i stRANGE).1
    · split
      · next u hEq =>
        rw [hEq] at hRead
        exact (u.fetchFailed_effect q i stINTEGRITY).1.trans hRead.handles.fetch
      · next bs u hEq =>
        rw [hEq] at hRead
        refine Eq.trans ?_ hRead.handles.fetch
        unfold State.frameFetched
        split
        · rfl
        · exact Chip.txFetch_hostAdmit q u.chip _

variable {s q} (hEn : s.chip.flag (ESW_HQ_CFG_EN q) = true) (hFn : s.chip.pairFn q = 64)
  (hMore : look 0 s.chip.esw.txFetch q ≠ s.chip.get (ESW_HQ_TXPI_I q)) (hWait : look none s.chip.esw.trigWait q = none)
include hEn hFn hMore hWait

/-- The next descriptor of an enabled pair of the host is read and used. -/
theorem State.hostFetched_taken (memErr : Bool) {r : Option (List Byte) × State}
    (hRead : ({ s with chip := s.chip.fetched q } : State).busRead (s.chip.pairTag q)
      (s.chip.get (ESW_HQ_TXBASE_A q) + 32 * look 0 s.chip.esw.txFetch q) 16 = r) :
    s.hostFetched q memErr = match r.1 with
      | none => r.2.fetchFailed q (look 0 s.chip.esw.txFetch q) stINTEGRITY
      | some d => r.2.descUsed q (look 0 s.chip.esw.txFetch q) (leNat d) (s.chip.pairTag q) memErr := by
  have hPassed : (!s.chip.flag (ESW_HQ_CFG_EN q) || (decide (s.chip.pairFn q < 64) && s.chip.get (SFE_FN_CFG_STATE (s.chip.pairFn q)) != 2) ||
      decide (look 0 s.chip.esw.txFetch q = s.chip.get (ESW_HQ_TXPI_I q)) || (look none s.chip.esw.trigWait q).isSome) = false := by
    simp [hEn, hFn, hMore, hWait]
  unfold State.hostFetched
  extract_lets c fn i t c₁ fail
  have hRead : ({ s with chip := c₁ } : State).busRead t (c₁.get (ESW_HQ_TXBASE_A q) + 32 * i) 16 = r := hRead
  rw [if_neg (by rw [hPassed]; decide), hRead]
  obtain ⟨_ | d, u⟩ := r
  · rfl
  · rfl

theorem State.hostFetched_effect (memErr : Bool) :
    (s.hostFetched q memErr).chip.esw.txFetch = (s.chip.fetched q).esw.txFetch ∧
    (memErr = true → (s.hostFetched q memErr).chip.pends 279 = true) := by
  have hTag := s.chip.pairTag_real q
  have hRead := Chip.Serves.busRead (s := { s with chip := s.chip.fetched q }) hTag (Chip.Serves.refl (s.chip.fetched q))
    (s.chip.get (ESW_HQ_TXBASE_A q) + 32 * look 0 s.chip.esw.txFetch q) 16
  rw [State.hostFetched_taken hEn hFn hMore hWait memErr rfl]
  split
  · exact ⟨(State.fetchFailed_effect _ q _ _).1.trans hRead.handles.fetch, fun _ => (State.fetchFailed_effect _ q _ _).2⟩
  · next d _ =>
    obtain ⟨hFetch, hPends⟩ := State.descUsed_effect _ q (look 0 s.chip.esw.txFetch q) (leNat d) hTag memErr
    exact ⟨hFetch.trans hRead.handles.fetch, hPends⟩

/-- A triggered frame that could be read waits, and nothing else is done. -/
theorem State.hostFetched_waits {d bs : List Byte}
    (hDesc : ({ s with chip := s.chip.fetched q } : State).busRead (s.chip.pairTag q)
      (s.chip.get (ESW_HQ_TXBASE_A q) + 32 * look 0 s.chip.esw.txFetch q) 16 = (some d, { s with chip := s.chip.fetched q }))
    (hTrig : bit (leNat d) 58 = true) (hLen : 60 ≤ bits (leNat d) 53 40 ∧ bits (leNat d) 53 40 ≤ 9212)
    (hPort : bit (leNat d) 59 = true → bits (leNat d) 64 60 ≤ 19)
    (hFrame : ({ s with chip := s.chip.fetched q } : State).busRead (s.chip.pairTag q) (leNat d % 2 ^ 40) (bits (leNat d) 53 40) =
      (some bs, { s with chip := s.chip.fetched q })) :
    s.hostFetched q false = { s with chip := (s.chip.fetched q).updEsw fun b => { b with
      trigWait := put none b.trigWait q (some { bytes := bs, desc := leNat d, index := look 0 s.chip.esw.txFetch q }) } } := by
  have hGood : (decide (bits (leNat d) 53 40 < 60) || decide (9212 < bits (leNat d) 53 40) ||
      (bit (leNat d) 59 && decide (19 < bits (leNat d) 64 60))) = false := by
    have hPort' : (bit (leNat d) 59 && decide (19 < bits (leNat d) 64 60)) = false := by
      cases h : bit (leNat d) 59
      · rfl
      · simpa using hPort h
    rw [hPort', decide_eq_false (by omega), decide_eq_false (by omega)]
    rfl
  rw [State.hostFetched_taken hEn hFn hMore hWait false hDesc]
  dsimp only
  rw [State.descUsed, if_neg (by decide), if_neg (by rw [hGood]; decide), hFrame]
  dsimp only
  rw [State.frameFetched, if_pos hTrig]

end

/-! ### Triggers (R207) -/

section
variable (c : Chip) {q : Nat} {x : Action} (hDue : c.dueAction 3 (0x2000 + q) = some x)
include hDue

theorem Chip.hqTrigger_miss (hWait : look none c.esw.trigWait q = none) :
    c.hqTrigger q = (c.dropAction x).satInc (ESW_HQ_CNT_TRIGMISS q) := by
  have hWait' : look none (c.dropAction x).esw.trigWait q = none := hWait
  simp only [Chip.hqTrigger, hDue, hWait']

theorem Chip.hqTrigger_sends {h : HostFrame} (hWait : look none c.esw.trigWait q = some h) :
    c.hqTrigger q = ((c.dropAction x).updEsw fun b => { b with trigWait := put none b.trigWait q none }).hostAdmit q h := by
  have hWait' : look none (c.dropAction x).esw.trigWait q = some h := hWait
  simp only [Chip.hqTrigger, hDue, hWait']

end

/-- A host frame that is not too long is counted at the host port and offered. -/
theorem Chip.hostAdmit_fits (c : Chip) (q : Nat) {h : HostFrame} (hLen : h.bytes.length + 4 ≤ c.get (ESW_P_MAXFRM_N 20)) :
    Chip.Handles false (c.portCount 20 0) (c.hostAdmit q h) := by
  unfold Chip.hostAdmit
  extract_lets f c₁
  have hLen' : ¬ c.get (ESW_P_MAXFRM_N 20) < f.len := Nat.not_lt.mpr hLen
  have hCounted : Chip.Handles false (c.portCount 20 0) c₁ := (Chip.Handles.refl false _).mirrorFrame f 20 0
  rw [if_neg hLen']
  split
  · split
    · exact hCounted.eswAdmit _ 0
    · exact hCounted.discardNew f
  · exact hCounted.decide_ f 0

theorem Chip.hostAdmit_effect {c d : Chip} {q : Nat} {h : HostFrame} (hd : Chip.Serves (c.hostAdmit q h) d)
    (hLen : h.bytes.length + 4 ≤ c.get (ESW_P_MAXFRM_N 20)) : d.esw.trigWait = c.esw.trigWait ∧
    d.get (ESW_P_CNT_N 20 0) = min (c.get (ESW_P_CNT_N 20 0) + 1) 0xFFFFFFFF ∧ d.seq = c.seq := by
  have hOffered := c.hostAdmit_fits q hLen
  refine ⟨hd.handles.trig.trans hOffered.trig, ?_, hd.handles.seq.trans hOffered.seq⟩
  rw [hd.handles.port _ (portField_cnt (by decide) (by decide))]
  exact (Chip.Handles.refl false c).counted (by decide) (by decide) rfl hOffered

/-! ### Gates (R199) -/

section
variable (c : Chip) {p : Nat}

theorem Chip.setGates_effect {g : Nat} (hp : p < 20) (hg : g < 256) :
    (c.setGates p g).get (ESW_P_GATE_NOW p) = g ∧ (c.setGates p g).seq = c.seq := by
  have hSet : ((c.runCredits p).set (ESW_P_GATE_NOW p) g).get (ESW_P_GATE_NOW p) = g := Chip.get_set_fit _ rfl (decide_eq_true hg)
  have hGate : quiet (ESW_P_GATE_NOW p).reg.addr := quiet_esw (by simp only [ESW_P_GATE_NOW, ESW_P_GATE]; omega)
  unfold Chip.setGates
  extract_lets exceeded d
  cases exceeded with
  | false => exact ⟨hSet, rfl⟩
  | true =>
    rw [Chip.when_true]
    refine ⟨?_, Chip.raise_seq _ _ (by decide)⟩
    rw [Chip.get_raise _ _ (by decide) _ hGate, Chip.stick, Chip.setB,
      Chip.get_set_reg_ne _ _ (by simp only [ESW_P_GATE_NOW, ESW_P_GATE, ESW_P_STAT_TXOVR, ESW_P_STAT]; omega), Chip.portCount, Chip.satInc,
      Chip.satAdd, Chip.get_set_reg_ne _ _ (by simp only [ESW_P_GATE_NOW, ESW_P_GATE, ESW_P_CNT_N, ESW_P_CNT]; omega)]
    exact hSet

theorem Chip.gateStep_due {x : Action} (hDue : c.dueAction 3 (0x3000 + p) = some x) (hPort : c.hatbandPort p = false) :
    c.gateStep p = (c.dropAction x).setGates p (x.arg % 256) := by
  have hPort' : (c.dropAction x).hatbandPort p = false := hPort
  simp [Chip.gateStep, hDue, hPort']

end

/-! ### Recovery functions (R201) -/

theorem Chip.recoveryReset_effect (c : Chip) {r u : Nat} (hValid : c.tblBits 4 r 127 127 = 1)
    (hLast : (look {} c.esw.recs r).lastAt = some u) (hDue : u + c.tblBits 4 r 120 105 * 1000000 ≤ c.time.frc) :
    look {} (c.recoveryReset r).esw.recs r = {} ∧ (c.recoveryReset r).tblBits 4 r 31 16 = min (c.tblBits 4 r 31 16 + 1) 65535 ∧
    (c.recoveryReset r).pends 270 = true ∧ Chip.frame [.esw, .core] eventAddr c (c.recoveryReset r) := by
  have hSilent : (c.tblBits 4 r 127 127 == 1 &&
      c.dueAt (((look {} c.esw.recs r).lastAt).map (· + c.tblBits 4 r 120 105 * 1000000))) = true := by
    simp [hValid, hLast, Chip.dueAt, hDue]
  unfold Chip.recoveryReset
  dsimp only
  rw [hSilent, Chip.when_true]
  refine ⟨?_, ?_, Chip.pends_raise _ _ (by decide), ?_⟩
  · rw [Chip.raise_esw _ _ (by decide)]
    exact look_put_same ({} : RecHistory) _ r {}
  · rw [Chip.tblBits, Chip.tbl_of_esw _ 4 r (Chip.raise_esw _ 270 (by decide))]
    exact (congrArg (fun x : W128 => bits x.toNat 31 16) (Chip.tbl_setTbl_same c 4 r _)).trans
      ((bits_setBits_same _ _ _ _ (by decide) (by decide)).trans (Nat.mod_eq_of_lt (by omega)))
  · exact Chip.frame_trans (Chip.frame_updEsw _ _ (by simp)) (Chip.frame_trans (Chip.frame_updEsw _ _ (by simp))
      (Chip.frame_raise _ (by decide) (by simp) fun _ h => h))

/-! ### Port configuration (R182, R199, R210) -/

/-- A field below the bit set. -/
theorem bits_setBit_below (v : Nat) {i hi lo : Nat} (h : hi < i) (hb : lo ≤ hi) : bits (setBit v i true) hi lo = bits v hi lo := by
  apply Nat.eq_of_testBit_eq
  intro j
  rw [bits_testBit, bits_testBit]
  by_cases hj : j < hi - lo + 1
  · have hBit := bit_setBit_ne v (i := i) (j := lo + j) (by omega)
    simp only [bit] at hBit
    rw [hBit]
  · simp [hj]

/-- The low twelve bits that a mask keeps. -/
theorem bits_and_low {v mask : Nat} (h : mask % 2 ^ 12 = 2 ^ 12 - 1) : bits (v &&& mask) 11 0 = bits v 11 0 := by
  change ((v &&& mask) >>> 0) % 2 ^ 12 = (v >>> 0) % 2 ^ 12
  rw [Nat.shiftRight_zero, Nat.shiftRight_zero, Nat.and_mod_two_pow, h, Nat.and_two_pow_sub_one_eq_mod, Nat.mod_mod]

/-- CLRCNT clears the counters of the port. -/
def Chip.clearPort (c : Chip) (p : Nat) : Chip := forAll 10 (fun i c => c.wrN (ESW_P_CNT p i) 0) c

theorem Chip.frame_clearPort (c : Chip) (p : Nat) : Chip.frame [] (among (addrs 10 (ESW_P_CNT p))) c (c.clearPort p) :=
  Chip.frame_forAll 10 c fun i hi d => Chip.frame_wr _ d _ (among_of_mem (List.mem_map.mpr ⟨i, List.mem_range.mpr hi, rfl⟩))

/-- ESW_Pp_CFG as the claimant writes it. -/
def Chip.portConfigured (c : Chip) (p v : Nat) : Chip :=
  (c.when (bit v 24) fun c => c.clearPort p).wrN (ESW_P_CFG p) (v &&& 0xFEE00FFF)

section
variable (c : Chip) (w : Who) {p v : Nat}

theorem Chip.portCfgWrite_refused (h : c.claims w.world 2 p = false) : c.portCfgWrite w p v = c.portRefused p stDENIED_WORLD := by
  simp [Chip.portCfgWrite, h]

variable (hClaim : c.claims w.world 2 p = true) (hMode : bits v 28 27 ≠ 3) (hVid : bits v 11 0 ≠ 0 ∧ bits v 11 0 ≤ 4094)
include hClaim hMode hVid

theorem Chip.portCfgWrite_rises (hEn : (bit v 31 && !c.flag (ESW_P_CFG_EN p)) = true) (hFree : c.portConflict w p = none) :
    c.portCfgWrite w p v = (c.portConfigured p v).set (ESW_P_GATE_NOW p) ((c.portConfigured p v).get (ESW_P_GATE_INIT p)) := by
  have hVid' : ¬ 4094 < bits v 11 0 := by omega
  simp only [Chip.portCfgWrite, hClaim, hMode, hVid.1, hVid', hEn, hFree, Bool.not_true, Bool.false_eq_true, decide_false, Bool.or_self,
    if_true, if_false, Chip.when_true]
  rfl

theorem Chip.portCfgWrite_stays (hEn : (bit v 31 && !c.flag (ESW_P_CFG_EN p)) = false) : c.portCfgWrite w p v = c.portConfigured p v := by
  have hVid' : ¬ 4094 < bits v 11 0 := by omega
  simp only [Chip.portCfgWrite, hClaim, hMode, hVid.1, hVid', hEn, Bool.not_true, Bool.false_eq_true, decide_false, Bool.or_self,
    if_false, Chip.when_false]
  rfl

omit hClaim hMode hVid in
theorem Chip.frame_portConfigured : Chip.frame []
    (among ([(ESW_P_CFG p).addr, (ESW_P_GATE p).addr] ++ if v.testBit 24 then addrs 10 (ESW_P_CNT p) else [])) c (c.portConfigured p v) := by
  refine Chip.frame_trans ?_ (Chip.frame_wr _ _ _ (by simp [among]))
  cases h : bit v 24 with
  | false => exact Chip.frame_refl _ _ _
  | true =>
    have hClear : v.testBit 24 = true := h
    rw [Chip.when_true, if_pos hClear]
    exact Chip.frame_mono c (c.frame_clearPort p) (List.Subset.refl _) fun a ha => List.mem_append_right _ ha

omit hClaim hMode hVid in
theorem Chip.portConfigured_effect (hOn : v.testBit 31 = true) : (c.portConfigured p v).flag (ESW_P_CFG_EN p) = true ∧
    (c.portConfigured p v).get (ESW_P_CFG_PVID p) = bits v 11 0 ∧
    (c.portConfigured p v).get (ESW_P_GATE_INIT p) = c.get (ESW_P_GATE_INIT p) := by
  refine ⟨?_, ?_, ?_⟩
  · rw [Chip.portConfigured, Chip.flag_wrN_bit (r := ESW_P_CFG p) (g := ESW_P_CFG_EN p) (i := 31) _ _ rfl rfl rfl (by decide),
      Nat.testBit_and, hOn]
    decide
  · rw [Chip.portConfigured, Chip.get_wrN_same _ _ (r := ESW_P_CFG p) (g := ESW_P_CFG_PVID p) rfl (by simp [ESW_P_CFG_PVID]) (Nat.zero_le _)]
    exact bits_and_low (mask := 0xFEE00FFF) (by decide)
  · rw [Chip.portConfigured, Chip.get_wrN_ne _ _ (by simp only [ESW_P_GATE_INIT, ESW_P_GATE, ESW_P_CFG]; omega)]
    cases bit v 24 with
    | false => rfl
    | true =>
      refine Chip.get_of_frame (c.frame_clearPort p) ?_
      simp [among, addrs, ESW_P_GATE_INIT, ESW_P_GATE, ESW_P_CNT]
      omega

omit hClaim hMode hVid in
/-- CLRCNT leaves the counters at zero, whatever else is written. -/
theorem Chip.rd_portConfigured_cnt (hClear : bit v 24 = true) {i : Nat} (hi : i < 10) : (c.portConfigured p v).rd (ESW_P_CNT p i) = 0 := by
  rw [Chip.portConfigured, hClear, Chip.when_true, Chip.wrN, Chip.rd_wr_ne _ _ (by simp only [ESW_P_CNT, ESW_P_CFG]; omega)]
  exact Chip.rd_forAll_wrN (fun _ => 0) (fun i j h => by simpa [ESW_P_CNT] using h) 10 c hi

omit hClaim hMode hVid in
/-- A port that is enabled takes its initial gates. -/
theorem Chip.portRisen_effect (hOn : v.testBit 31 = true) :
    let d := (c.portConfigured p v).set (ESW_P_GATE_NOW p) ((c.portConfigured p v).get (ESW_P_GATE_INIT p))
    d.flag (ESW_P_CFG_EN p) = true ∧ d.get (ESW_P_CFG_PVID p) = bits v 11 0 ∧ d.get (ESW_P_GATE_NOW p) = c.get (ESW_P_GATE_INIT p) ∧
    Chip.frame [] (among ([(ESW_P_CFG p).addr, (ESW_P_GATE p).addr] ++ if v.testBit 24 then addrs 10 (ESW_P_CNT p) else [])) c d := by
  obtain ⟨hEn, hPvid, hInit⟩ := c.portConfigured_effect (p := p) hOn
  have hFrame := c.frame_portConfigured (p := p) (v := v)
  have hNe : (ESW_P_CFG p).addr ≠ (ESW_P_GATE p).addr := by simp only [ESW_P_CFG, ESW_P_GATE]; omega
  generalize c.portConfigured p v = e at *
  have hFit : e.get (ESW_P_GATE_INIT p) < 2 ^ 8 := e.get_lt (ESW_P_GATE_INIT p)
  refine ⟨?_, ?_, ?_, Chip.frame_trans hFrame (Chip.frame_set _ e (f := ESW_P_GATE_NOW p) _ ?_)⟩
  · exact (Chip.flag_eq_of_get (Chip.get_set_reg_ne (f := ESW_P_GATE_NOW p) (g := ESW_P_CFG_EN p) _ _ hNe)).trans hEn
  · exact (Chip.get_set_reg_ne (f := ESW_P_GATE_NOW p) (g := ESW_P_CFG_PVID p) _ _ hNe).trans hPvid
  · exact (Chip.get_set_fit e rfl (decide_eq_true hFit)).trans hInit
  · exact List.mem_append_left _ (by simp [ESW_P_GATE_NOW])

end

/-- Settles O32: what a queue, a gate, a stamp, a recovery function or a port's configuration does, followed by what the work after it
keeps. -/
theorem switchPortsAndHostQueues : Obligations.SwitchPortsAndHostQueues := by
  intro s
  refine ⟨?_, ?_, ?_, ?_, ?_, ?_, ?_, ?_, ?_, ?_⟩
  · intro q memErr hZone hJobs hEn hFn hMore hWait
    obtain ⟨hFetch, hPends⟩ := State.hostFetched_effect hEn hFn hMore hWait memErr
    have hFlush := Chip.Serves.eswFlush (Chip.Serves.refl (s.hostFetched q.val memErr).chip)
    refine Runs.onZoneMem (f := fun s => (s.hostFetched q.val memErr).eswFlush) rfl hZone ?_
    refine ⟨?_, fun hErr => hFlush.handles.pend _ (by decide) (hPends hErr)⟩
    rw [hFlush.handles.fetch, hFetch, Chip.txFetch_fetched]
  · intro q c d bs hZone hJobs hEn hFn hMore hWait hc hDesc hTrig hLen hPort hFrame
    subst hc
    have hDone := State.hostFetched_waits hEn hFn hMore hWait hDesc hTrig hLen hPort hFrame
    have hIdle : (s.hostFetched q.val false).chip.esw.jobs = [] := by
      rw [hDone]
      exact hJobs
    refine Runs.onZoneMem (f := fun s => (s.hostFetched q.val false).eswFlush) rfl hZone ?_
    rw [State.eswFlush_idle hIdle, hDone]
    exact ⟨look_put_same none (s.chip.fetched q.val).esw.trigWait q.val (some _), rfl⟩
  · intro q x hZone hJobs hDue hWait
    have hMiss := s.chip.hqTrigger_miss hDue hWait
    refine Runs.of_eswOn_idle (u := fun c => c.hqTrigger q.val) rfl hZone (by rw [hMiss]; exact hJobs) ?_
    dsimp only
    rw [hMiss]
    refine ⟨?_, rfl, State.frame_chip (Chip.frame_trans (Chip.frame_dropAction _ x (by simp)) ?_)⟩
    · rw [Chip.get_satInc_same _ rfl]
      rfl
    · exact Chip.frame_set _ _ (f := ESW_HQ_CNT_TRIGMISS q.val) _ (by simp [among, ESW_HQ_CNT_TRIGMISS])
  · intro q x h hZone hJobs hDue hWait hLen
    have hSent := s.chip.hqTrigger_sends hDue hWait
    refine Runs.of_eswOn (u := fun c => c.hqTrigger q.val) rfl hZone fun t ht => ?_
    rw [hSent] at ht
    obtain ⟨hTrig, hCount, hSeq⟩ := Chip.hostAdmit_effect ht hLen
    refine ⟨?_, hCount, ?_⟩
    · rw [hTrig]
      exact look_put_same none s.chip.esw.trigWait q.val none
    · rw [hSeq]
      rfl
  · intro p x hZone hDue hPort
    have hStep := s.chip.gateStep_due hDue hPort
    obtain ⟨hNow, hSeq⟩ := (s.chip.dropAction x).setGates_effect p.isLt (Nat.mod_lt x.arg (show 0 < 256 by decide))
    refine Runs.onZone rfl hZone ?_
    dsimp only
    rw [hStep]
    exact ⟨hNow, congrArg SeqBlk.acts hSeq⟩
  · intro a p hAdmits
    refine Runs.by rfl hAdmits ⟨?_, look_put_same [] _ p.val _, State.frame_chip ?_⟩
    · exact Chip.resp_respond _ _ _ _
    · exact Chip.frame_trans (Chip.frame_updEsw _ _ (by simp)) (Chip.frame_trans (Chip.frame_latch _ _ _ _ _ (by simp))
        (Chip.frame_respond _ _ _ _ _ (by simp)))
  · intro r u hZone hValid hLast hDue
    obtain ⟨hReset, hCount, hPends, hFrame⟩ := s.chip.recoveryReset_effect hValid hLast hDue
    exact Runs.onZone rfl hZone ⟨hReset, hCount, hPends, State.frame_chip hFrame⟩
  · intro a p v hAdmits hClaim hMode hVid hOff hFree
    have hBits {hi lo : Nat} (h : hi < 31) (hb : lo ≤ hi) := bits_setBit_below v.toNat h hb
    have hVid' : bits (setBit v.toNat 31 true) 11 0 = bits v.toNat 11 0 := hBits (by decide) (by decide)
    have hClear : (setBit v.toNat 31 true).testBit 24 = v.toNat.testBit 24 := bit_setBit_ne _ (by decide)
    have hOn : (bit (setBit v.toNat 31 true) 31 && !s.chip.flag (ESW_P_CFG_EN p.val)) = true := by rw [bit_setBit_same, hOff]; rfl
    refine Runs.by rfl hAdmits ?_
    dsimp only
    rw [s.chip.portCfgWrite_rises _ hClaim (by rwa [hBits (by decide) (by decide)]) (by rwa [hVid']) hOn hFree]
    obtain ⟨hEn, hPvid, hGate, hFrame⟩ := s.chip.portRisen_effect (p := p.val) (bit_setBit_same v.toNat 31)
    rw [hVid'] at hPvid
    rw [hClear] at hFrame
    exact ⟨hEn, hPvid, hGate, State.frame_chip hFrame⟩
  · intro a p v hAdmits hClaim hMode hVid hConflict
    have hVid' : bits (setBit v.toNat 24 true) 11 0 = bits v.toNat 11 0 := bits_setBit_below v.toNat (by decide) (by decide)
    have hMode' : bits (setBit v.toNat 24 true) 28 27 ≠ 3 := by rwa [bits_setBit_above v.toNat (by decide)]
    have hEn : bit (setBit v.toNat 24 true) 31 = v.toNat.testBit 31 := bit_setBit_ne _ (by decide)
    refine Runs.by rfl hAdmits fun i => ?_
    have hCleared := s.chip.rd_portConfigured_cnt (p := p.val) (bit_setBit_same v.toNat 24) i.isLt
    dsimp only
    cases hRises : bit (setBit v.toNat 24 true) 31 && !s.chip.flag (ESW_P_CFG_EN p.val) with
    | false =>
      rw [s.chip.portCfgWrite_stays _ hClaim hMode' (by rwa [hVid']) hRises]
      exact hCleared
    | true =>
      have hFree : s.chip.portConflict (s.chip.who a) p.val = none := by
        rw [hEn, Bool.and_eq_true, Bool.not_eq_true'] at hRises
        exact (hConflict hRises.1).resolve_left (by simp [hRises.2])
      rw [s.chip.portCfgWrite_rises _ hClaim hMode' (by rwa [hVid']) hRises hFree,
        Chip.rd_set_ne _ _ (by simp only [ESW_P_CNT, ESW_P_GATE_NOW, ESW_P_GATE]; omega)]
      exact hCleared
  · intro a p v hAdmits hClaim
    refine Runs.by rfl hAdmits ?_
    dsimp only
    rw [Chip.portCfgWrite_refused _ _ hClaim]
    refine ⟨Chip.get_set_fit _ rfl rfl, State.frame_chip ?_⟩
    exact Chip.frame_set _ _ (f := ESW_P_STAT_LASTERR p.val) _ (by simp [among, ESW_P_STAT_LASTERR])

end Sys2Proof.Machine
end
